-- ==== Sys2Proof/Word.lean ====
section
/-!
DEFINITION. The word types of the machine: 32-bit register words, bytes and 64-bit times (R14, R44).
-/

namespace Sys2Proof

/-- A register word, and a time-unit value in nanoseconds (R22). -/
abbrev Word := BitVec 32

/-- One byte of a memory. -/
abbrev Byte := BitVec 8

/-- An extended time: epoch word above, nanosecond value below (R44). -/
abbrev Time64 := BitVec 64

/-- A tick count, DLR_TICK_COUNT (R28). -/
abbrev Tick := BitVec 32

end Sys2Proof
end

