-- ==== Sys2Proof/Syntax.lean ====
section
/-!
DEFINITION. The commands of the block: one constructor of Instr for every row of the opcode table, and the operand
types they carry. The table gives its rows no operands; log entry 1 says how these were chosen: what comes from
outside the device (times, measured quantities, received data, what a remote party answers, a hardware fault) is an
operand, everything else is the state's.
-/

namespace Sys2Proof

/-- The engine classes of R26, in code order 0x0 to 0x8. -/
inductive EngineClass where
  | capture | decode | composer | encode | touchScan | audio | selfTest | scrub | fabricFlow
  deriving DecidableEq, Repr

/-- The code of an engine class (R26). -/
def EngineClass.code : EngineClass → Nat
  | .capture => 0
  | .decode => 1
  | .composer => 2
  | .encode => 3
  | .touchScan => 4
  | .audio => 5
  | .selfTest => 6
  | .scrub => 7
  | .fabricFlow => 8

/-- The issue source of a trick: an offset from the boundary in ns, a trigger channel, or the start of
active video of a DP input (the trick table of "The deal"). -/
inductive IssueSrc where
  | offset (ns : Nat)
  | trigger (channel : Nat)
  | sav (input : Nat)
  deriving DecidableEq, Repr

/-- A trick of a deal: class and engine index, issue source, the job its descriptor names (input,
context, output, stream, port, test or flow), the Talon size class it fills, its master on the system
matrix, its DRAM reservation in bytes, its engine load, and the tiles it feeds. -/
structure Trick where
  cls : EngineClass
  index : Nat
  issue : IssueSrc
  job : Nat
  talon : Option Nat
  master : Option Nat
  dram : Nat
  load : Nat
  fed : List Nat
  deriving DecidableEq, Repr

/-- A liveness contract as the three contract words of a layer (R40, R86). -/
structure Contract where
  con0 : Word
  con1 : Word
  con2 : Word
  deriving DecidableEq, Repr

/-- Three components of one pixel: R, G, B or Y', Cb, Cr, at the depth the context gives. -/
structure Px where
  a : Nat
  b : Nat
  c : Nat
  deriving DecidableEq, Repr

/-- A picture as its lines, each a list of pixels. -/
abbrev Frame := List (List Px)

/-- Disturbed components of a line: (component number in raster order, value exclusive-ored in). A
hardware fault in a lane, a mixer copy or the transmit path shows itself this way; empty when sound. -/
abbrev Flips := List (Nat × Nat)

/-- What the environment brings to a tick boundary: the advance since the previous boundary by the
Scorer's own oscillator in ns (R85), each output's measured phase error in ns (R132), and the layers
whose composer verdict unit is faulty with the state code it reports instead (R410), and the mixer copies (output, whether copy B)
that the Scorer's set of rectangles does not reach (R417). -/
structure BoundaryIn where
  osc : Nat
  eps : List Int
  verdictFaults : List (Nat × Nat)
  alarmLost : List (Nat × Bool)
  deriving DecidableEq, Repr

/-- A reading of the sink's test CRC registers (R77): the three component CRCs and TEST_CRC_COUNT. -/
structure SinkReading where
  crcR : BitVec 16
  crcG : BitVec 16
  crcB : BitVec 16
  count : BitVec 4
  deriving DecidableEq, Repr

/-- Active pixels of a line that a local input has received so far (R170, R242): the arrival time of each segment
of 16, and the segments with a symbol error. -/
structure LineIn where
  input : Nat
  line : Nat
  times : List Word
  bad : List Nat
  row : List Px
  deriving DecidableEq, Repr

/-- One line of scan-out at the mixer: the output line, the time at which its first active pixel passes
the insertion stage (R171), the disturbances of mixer copy A, mixer copy B and the path after the formatter,
and alarm pixels that copy A or B fails to draw (R418). -/
structure ScanIn where
  line : Nat
  t : Word
  flipA : Flips
  flipB : Flips
  flipF : Flips
  lossA : Nat
  lossB : Nat
  lines : List LineIn
  deriving DecidableEq, Repr

/-- A link configuration: lane code (0, 1, 2 for 1, 2, 4 lanes) and rate code (0 to 3), coded as
LANES_MAX and RATE_MAX (R159). -/
structure LinkCfg where
  lanes : Nat
  rate : Nat
  deriving DecidableEq, Repr

/-- A configuration in which a link would train, with the voltage-swing and pre-emphasis adjustments that clock recovery asks
for and the loops that equalisation takes (R152). -/
structure TrainTry where
  cfg : LinkCfg
  adjusts : Nat
  loops : Nat
  deriving DecidableEq, Repr

/-- What the sink answers during link training: its capabilities, ENHANCED_FRAME_CAP among them, whether TEST_CRC_SUPPORTED is
set, and the configurations that would complete, at the output's own depth and at 8 bits (R76, R149, R152). -/
structure TrainIn where
  sinkMax : LinkCfg
  enhanced : Bool
  testCrc : Bool
  ok : List TrainTry
  ok8 : List TrainTry
  deriving DecidableEq, Repr

/-- The reply to an AUX transaction (R154). -/
inductive AuxReply where
  | ack (bytes : List Byte)
  | nack
  | defer
  | badReply
  deriving DecidableEq, Repr

/-- A main stream attribute packet as the receiver measures it (R162): active and total dimensions,
colour encoding (0 RGB, 1 Y'CbCr 4:4:4, 2 Y'CbCr 4:2:2, 3 another), bits per component, the VSC SDP bit,
the interlaced bit, the frame period in ns and the pixel clock in Hz. -/
structure MsaIn where
  hAct : Nat
  vAct : Nat
  hTotal : Nat
  vTotal : Nat
  enc : Nat
  bpc : Nat
  vsc : Bool
  interlaced : Bool
  periodNs : Nat
  pixClk : Nat
  deriving DecidableEq, Repr

/-- An AUX access by a source to a receiver: native DPCD read or write, or an I²C access (R160). -/
inductive RxAux where
  | dpcdRead (addr len : Nat)
  | dpcdWrite (addr : Nat) (data : List Byte)
  | i2cWrite (addr : Nat) (data : List Byte)
  | i2cRead (addr len : Nat)
  deriving DecidableEq, Repr

/-- What damages an input frame (R167). -/
inductive Damage where
  | symbolError (lane errors : Nat)
  | alignment
  | lineLength
  | lineCount
  | msaChange
  deriving DecidableEq, Repr


/-- A source descriptor of the image: nominal frame period in ns (R41), dimensions, whether it is typed
GRAPHICS (R61), the retention depth if stated (R112), the tell region (x, y, w, h) if any (R59), and, for DP
inputs, what a direct layer is accepted by (R169): DIRECT_OK, totals, pixel clock in Hz, start of active
video after the boundary in ns, and the route's hops and excess link length in metres (R174). `tricks` are the
tricks needed at each deal position while a layer of the layout in force shows the source (R34). -/
structure SrcDesc where
  period : Rat
  width : Nat
  height : Nat
  format : Nat
  graphics : Bool
  depth : Option Nat
  tell : Option (Nat × Nat × Nat × Nat)
  directOk : Bool
  hTotal : Nat
  vTotal : Nat
  pixClk : Nat
  savOffset : Nat
  hops : Nat
  excess : Nat
  tricks : List (Nat × Trick)
  /-- a stream context is intra-only (CLASS 3), or one of its tricks' pictures has this many pixels -/
  picture : Nat
  /-- the colour matrix that the descriptor of a Y'CbCr source gives (R203) -/
  colour : Nat
  deriving DecidableEq, Repr

/-- What stands for the descriptor of a source the image does not describe. -/
def SrcDesc.none_ : SrcDesc :=
  { period := 0, width := 0, height := 0, format := 0, graphics := false, depth := none, tell := none,
    directOk := false, hTotal := 0, vTotal := 0, pixClk := 0, savOffset := 0, hops := 0, excess := 0,
    tricks := [], picture := 0, colour := 0 }

/-- A layout of the image: its deal cycle of 1 to 16 deals, the SH words it loads, its contract table, the
sources each layer may show, and the fabric flows its deals use (R28, R32, R42, R123). -/
structure LayoutDesc where
  cycle : List (List Trick)
  sh : List (Nat × Word)
  contracts : List (Nat × Contract)
  permits : List (Nat × List Nat)
  flows : List Nat
  deriving DecidableEq, Repr

/-- An RTP packet as it arrives on a 10GBASE-R port: IPv4 source, destination UDP port, and the RTP fields (R181). -/
structure RtpIn where
  port : Nat
  ip : Word
  udp : Nat
  seq : BitVec 16
  ts : Word
  ssrc : Word
  pt : Nat
  marker : Bool
  payload : List Byte
  deriving DecidableEq, Repr

/-- Who sent an RTCP packet (R181, R184): its source address and the SSRC it names. -/
structure RtcpFrom where
  ip : Word
  ssrc : Word
  deriving DecidableEq, Repr

/-- The sender information of a sender report (R188). -/
structure SenderInfo where
  ntp : BitVec 64
  rtp : Word
  deriving DecidableEq, Repr

/-- How one granule of 16 × 16 samples was decoded, in decoding order: the granules of reference pictures (by SEQ)
that its inter samples come from, and those of the same picture that its intra samples come from (R196). -/
structure GranuleIn where
  g : Nat
  inter : List (BitVec 32 × Nat)
  intra : List Nat
  deriving DecidableEq, Repr

/-- What the parameter sets of a coded video sequence state (R178, R192): profile, compatibility flags set, constraint_set1_flag,
high tier, level, bit depths, chroma format, frame_mbs_only_flag, pictures in the decoded picture buffer, coded size, and the
cropping offsets in luma samples. -/
structure ParamSets where
  profile : Nat
  compat : List Nat
  constraint1 : Bool
  highTier : Bool
  level : Nat
  lumaDepth : Nat
  chromaDepth : Nat
  chroma : Nat
  frameMbsOnly : Bool
  dpb : Nat
  width : Nat
  height : Nat
  left : Nat
  right : Nat
  top : Nat
  bottom : Nat
  deriving DecidableEq, Repr

/-- What the coding standard makes of a coded picture: the parameter sets that come with it free of error (none: those of before
stay in use), the decoded samples of the coded size at the stored depth (chroma at even columns and lines), granules not decoded
from received data, granules predicted from a reference that has no picture and how many such references are named, the
predictions, the syntax errors found inside slice data and parameter sets, whether the picture is used for reference and output,
and the SEQs of the earlier pictures that stay used for reference. -/
structure DecodeIn where
  sets : Option ParamSets
  frame : Frame
  undecoded : List Nat
  missing : List Nat
  missingRefs : Nat
  preds : List GranuleIn
  syntaxErrs : Nat
  isRef : Bool
  output : Bool
  keep : List (BitVec 32)
  deriving DecidableEq, Repr

/-- What coding a picture costs and yields: bits of each CTB row at each quantiser 0 to 51, the contents of the video, sequence
and picture parameter sets, and the slice segment of each CTB row, each without its NAL unit header. -/
structure EncodeIn where
  rows : List (List Nat)
  params : List (List Byte)
  slices : List (List Byte)
  deriving DecidableEq, Repr

/-- A Trump set: destination, broadcast bit, source, sequence, type and arguments (R226). -/
structure Trump where
  dest : Nat
  bcast : Bool
  src : Nat
  seq : BitVec 8
  type : Nat
  args : List Byte
  deriving DecidableEq, Repr

/-- One received copy of a Trump set: its lane, its 14 data symbols, and how many symbols were invalid (R213, R228). -/
structure TrumpCopy where
  lane : Nat
  data : List Byte
  errs : Nat
  deriving DecidableEq, Repr

/-- What a credit set says (R225): a class and the total granted. -/
structure CreditIn where
  cls : Fin 3
  total : BitVec 16
  deriving DecidableEq, Repr

/-- The check byte of a lane status set (R214), and the invalid symbols met in it, per lane (R213). -/
structure LaneCheck where
  check : Byte
  errs : List (Nat × Nat)
  deriving DecidableEq, Repr

/-- A received packet: header fields (R219), payload, CRC as received, the end symbol (`good`: K29.7), and the
invalid symbols of it per lane (R213). -/
structure RxPacket where
  kind : Nat
  flow : Nat
  dest : Nat
  src : Nat
  field : Nat
  payload : List Byte
  crc : Nat
  good : Bool
  errs : List (Nat × Nat)
  deriving DecidableEq, Repr

/-- What is due at a packet boundary (R223), and the input lines that have come in for DIRECT flows. -/
structure TxDue where
  skip : Bool
  lane : Bool
  credit : Bool
  lines : List LineIn
  deriving DecidableEq, Repr

/-- A link of the fabric topology: two nodes with their ports, and its length in metres (R237). -/
structure Link where
  a : Nat
  pa : Nat
  b : Nat
  pb : Nat
  len : Nat
  deriving DecidableEq, Repr

/-- A wall layout of the image: its participants, and the layout this node takes (R124, R126). -/
structure WallDesc where
  members : List Nat
  layout : Nat
  deriving DecidableEq, Repr

/-- A UDP datagram in a received frame: IPv4 source address and port, destination port, payload. -/
structure UdpIn where
  ip : Word
  sport : Nat
  port : Nat
  data : List Byte
  deriving DecidableEq, Repr

/-- A frame as a network port receives it (R289, R290): destination MAC, length in bytes, whether its FCS holds, VLAN
tags, whether it is a PAUSE frame, Ethertype, the datagram when it carries UDP over IPv4, its bytes, and whether the Banker is too
busy to empty its queues as it arrives. -/
structure NetFrame where
  dest : Nat
  len : Nat
  fcs : Bool
  tags : Nat
  pause : Bool
  ether : Nat
  udp : Option UdpIn
  bytes : List Byte
  busy : Bool
  deriving DecidableEq, Repr

/-- A PTP message that the Banker hands to a port: its sequenceId, messageType and bytes, from its header on (R284, R288). -/
structure PtpTx where
  seq : BitVec 16
  type : BitVec 4
  bytes : List Byte
  deriving DecidableEq, Repr


/-- A TFTP write request (R406): whether its mode is octet, and its blksize option. -/
structure TftpReq where
  octet : Bool
  blksize : Option Nat
  deriving DecidableEq, Repr

/-- What stands against one read of a DRAM block: bytes disturbed (offset, exclusive-or) and the check word's
disturbance. A block read without any is `⟨[], 0⟩`. -/
structure BlockErr where
  flips : List (Nat × Byte)
  chk : Word
  deriving DecidableEq, Repr

/-- What a master reads a block for (R272): a line of a tile's buffer, a graphic layer's or the marker bitmap's line, a
reference picture or coded data of a context with the granules that need the block, a context's state, an encode
stream's picture, a FRAME flow's buffer, a header by the Talon manager, the processor port, or the scrub. -/
inductive ReadUse where
  | tile (o l line : Nat)
  | graphic (o line : Nat)
  | marker (o line : Nat)
  | reference (c : Nat) (granules : List Nat)
  | coded (c : Nat) (granules : List Nat)
  | context (c : Nat)
  | encode (e : Nat)
  | frame (f : Nat)
  | header (d : Nat)
  | processor
  | scrub
  deriving DecidableEq, Repr

/-- A read of one block by a port of R266: address, whether the port raises it to URGENT, what for, and the disturbances of
the read and its two re-reads. -/
structure MemReq where
  port : Nat
  addr : Nat
  urgent : Bool
  use : ReadUse
  errs : List BlockErr
  deriving DecidableEq, Repr

/-- What a drain finds (R264): the age of the oldest write, and the refreshes that fall due in it, each after how many of its
writes and on which rank. -/
structure DrainIn where
  aged : Nat
  due : List (Nat × Fin 2)
  deriving DecidableEq, Repr

/-- A write by a port of R266 of bytes within one block; `errs` disturb the read of a read-modify-write. -/
structure MemWrite where
  port : Nat
  addr : Nat
  bytes : List Byte
  errs : List BlockErr
  deriving DecidableEq, Repr

/-- How a training step of a rank ends (R276): the sub-channels on which it failed, and what the others keep of it: delays, receive
enables, reference voltages. -/
structure MemTrainIn where
  fails : List (Fin 8)
  results : List (Fin 8 × List Nat)
  deriving DecidableEq, Repr

/-- Outcome of an MR4 read (R267). -/
inductive Mr4Out where
  | normal | doubled | overLimit | fail
  deriving DecidableEq, Repr

/-- What becomes of a refresh of a rank (R268): it is issued as its interval elapses, it is put off, or one is issued
while no interval has elapsed. -/
inductive RefreshAct where
  | issue | postpone (port : Fin 55) | extra
  deriving DecidableEq, Repr


/-- The touch reference map of a port (R305, R306): REF_MIN and REF_MAX of each node and of each electrode, OPEN_MIN and
ADJ_MAX of each electrode. -/
structure TouchRef where
  nodes : List (Nat × Nat)
  elecs : List (Nat × Nat)
  openMin : List Nat
  adjMax : List Nat
  deriving DecidableEq, Repr

/-- An acquired scan frame (R300): raw counts of the nodes and electrodes, the start of its acquisition, and how the
Scorer's copy of its report is disturbed. -/
structure ScanData where
  raw : List Nat
  selfs : List Nat
  t : Word
  flips : List (Nat × Byte)
  deriving DecidableEq, Repr

/-- What a self-test measures (R306): self raw count of each electrode, and the count on the next electrode of its kind
while it is excited. -/
structure TestIn where
  raw : List Nat
  adj : List Nat
  deriving DecidableEq, Repr



/-- What stands at a block boundary of an audio port (R330, R331, R336): the time, the frame rate a slave port measured over
the last 100 ms in 0.01 Hz (none: no such measure), whether FS edges are present, the frames a master RX port received in the
block that ends, and a tone generator that fails to sound in the block that begins. -/
structure AudioBound where
  t : Word
  rate : Option Nat
  edges : Bool
  rx : List (List Word)
  toneFail : Bool
  deriving DecidableEq, Repr


/-- Where a command frame came from (R338): transport (0 UDP, 1 host, 2 fabric), network port, IPv4 source address or
source node, UDP source port. -/
structure Origin where
  transport : Nat
  port : Nat
  addr : Word
  udp : Nat
  deriving DecidableEq, Repr

/-- A controller entry of the image (R343): transport, IPv4 address or node, command classes (0 READ, 1 LAYOUT, 2 OPERATE,
3 UPDATE). -/
structure Controller where
  transport : Nat
  addr : Word
  classes : List Nat
  deriving DecidableEq, Repr

/-- A swap of R347: layer and source, none for "none". -/
abbrev Swap := Nat × Option (BitVec 16)


/-- What the flash does during a command (R390, R392): slots whose reads fail, and how many read-backs of a write fail. -/
structure FlashIn where
  unread : List Nat
  badWrites : Nat
  deriving DecidableEq, Repr

/-- The kind of a system-matrix access. -/
inductive Access where
  | read | write | fetch
  deriving DecidableEq, Repr

/-- A transfer on the system matrix (R361, R362, R371): its master; whether the issuing core of M0 is in user mode; kind,
address, length of a read or fetch, bytes of a write; and the class and job of the trick a DMA master's transfer belongs
to (R374). -/
structure Transfer where
  master : Fin 11
  user : Bool
  kind : Access
  addr : BitVec 40
  len : Nat
  bytes : List Byte
  trick : Option (EngineClass × Nat)
  deriving DecidableEq, Repr

/-- A fabric flow of the image (R220 to R222, R246, R247): `src` the source it carries, `inPort` the port by which its
route enters this node, `bmax` the B_max of a STREAM flow in bits, `gPort` the 10GBASE-R port of a STREAM flow and `mac` the
next hop there (R291, log 113). -/
structure FlowDesc where
  id : Nat
  src : BitVec 16
  dest : Nat
  direct : Bool
  inPort : Nat
  bmax : Nat
  gPort : Nat
  mac : BitVec 48
  deriving DecidableEq, Repr

/-- The configuration image, decoded (log entry 2). -/
structure Image where
  layouts : List LayoutDesc
  srcs : List (Nat × SrcDesc)
  flows : List FlowDesc
  /-- encode stream, deal positions and tricks (R205) -/
  encs : List (Nat × List (Nat × Trick))
  links : List Link
  walls : List WallDesc
  /-- C of R127 in ns -/
  cutoff : Nat
  touch : List TouchRef
  /-- controller entries (R343) and the layouts the permit table names (R347) -/
  controllers : List Controller
  layoutsOk : List Nat
  /-- the PTP domain (R284) -/
  ptpDomain : Nat
  /-- SESSION_TIMEOUT in seconds (R343) -/
  sessionTimeout : Nat
  /-- the lock timeout of the tick reference in seconds (R25) -/
  lockTimeout : Nat
  /-- PCI subsystem vendor ID and subsystem ID (R349) -/
  subsystem : Nat × Nat
  deriving DecidableEq, Repr

/-- No image loaded. -/
def Image.none_ : Image :=
  { layouts := [], srcs := [], flows := [], encs := [], links := [], walls := [], cutoff := 0, touch := [], controllers := [], layoutsOk := [],
    ptpDomain := 0, sessionTimeout := 10, lockTimeout := 10, subsystem := (0, 0) }

/-- What the Banker makes of the image it validates (R398): the decoded tables, the words of every LK field it brings (the
memory section's among them), the first field that its own decoding finds out of range (section, item), and the LK words of the
SAFETY sections as the Scorer decodes them from its own read of the image (R395, R398). -/
structure ImageIn where
  image : Image
  lk : List (Nat × Word)
  bad : Option (Nat × Nat)
  safety : List (Nat × Word)
  deriving DecidableEq, Repr

/-- The commands and events of the block, in the order of the opcode table. -/
inductive Instr where
  /-- POWER_ON (R385). -/
  | powerOn
  /-- RESET_PIN (R385). -/
  | resetPin
  /-- SUPPLY_MONITOR_TRIP (R438). -/
  | supplyMonitorTrip (n : Nat)
  /-- RESET_END (R387). -/
  | resetEnd (rcv : Bool) (f : FlashIn)
  /-- PART_LOAD_COMPLETE (R394). -/
  | partLoadComplete (bad : List (Fin 8)) (mem : List (Nat × Word)) (f : FlashIn) (t : Word)
  /-- SCORER_IMAGE_CHECK (R395). -/
  | scorerImageCheck (f g : FlashIn) (badFw : Bool)
  /-- IMAGE_VALIDATION (R398). -/
  | imageValidation (i : ImageIn) (f : FlashIn)
  /-- MIGRATE_IMAGE (R399). -/
  | migrateImage (addr : BitVec 40) (bytes : List Byte) (fields : List (Nat × Word × Word)) (f : FlashIn)
  /-- DEALING_ENTRY (R400). -/
  | dealingEntry
  /-- TICK_LOCK_TIMEOUT (R25). -/
  | tickLockTimeout
  /-- TICK_BOUNDARY (R28). -/
  | tickBoundary (b : BoundaryIn)
  /-- TICK_MISSING (R85). -/
  | tickMissing
  /-- LEASE_STUCK (R116). -/
  | leaseStuck (d : Fin 8192) (o : Fin 16)
  /-- TRICK_ISSUE (R28). -/
  | trickIssue (k : Nat)
  /-- CHANGE_ADMISSION (R34). -/
  | changeAdmission
  /-- CMP_COMMIT_GO (R122). -/
  | cmpCommitGo (t : Word)
  /-- DEAL_POINT (R141). -/
  | dealPoint
  /-- ACTIVE_VIDEO_END (R141). -/
  | activeVideoEnd (o : Fin 16)
  /-- OUTPUT_FRAME_START (R134). -/
  | outputFrameStart (o : Fin 16) (t : Word)
  /-- SINK_CRC_READING (R77). -/
  | sinkCrcReading (o : Fin 16) (r : Option SinkReading)
  /-- LINE_SIGNATURE_COMPARE (R119). -/
  | lineSignatureCompare (o : Fin 16) (line : Nat) (fa fb : Flips)
  /-- LINE_RECOMPUTE (R119). -/
  | lineRecompute (o : Fin 16) (line : Nat) (fa fb : Flips)
  /-- LINE_SCAN (R146). -/
  | lineScan (o : Fin 16) (i : ScanIn)
  /-- SCAN_SIGNATURE_CHECK (R75). -/
  | scanSignatureCheck (o : Fin 16)
  /-- SCORER_VERDICT (R80). -/
  | scorerVerdict (inTime : Bool)
  /-- LINE_LOCK_UPDATE (R175). -/
  | lineLockUpdate (o : Fin 16) (eps : Int)
  /-- SYNC_IN_PULSE (R135). -/
  | syncInPulse (t : Word) (width : Nat) (falling : Bool)
  /-- OUT_RESYNC_GO (R139). -/
  | outResyncGo
  /-- HPD_LOW (R151). -/
  | hpdLow (o : Fin 16)
  /-- HPD_HIGH_STABLE (R151). -/
  | hpdHighStable (o : Fin 16)
  /-- IRQ_HPD (R153). -/
  | irqHpd (o : Fin 16) (us : Nat) (status : Option (List Byte))
  /-- LINK_TRAINING (R152). -/
  | linkTraining (o : Fin 16) (r : TrainIn)
  /-- TRAIN_RETRY (R151). -/
  | trainRetry (o : Fin 16)
  /-- BANKER_RETRAIN (R151). -/
  | bankerRetrain (o : Fin 16)
  /-- OUT_AUX_GO (R154). -/
  | outAuxGo (o : Fin 16)
  /-- AUX_REPLY (R154). -/
  | auxReply (o : Fin 16) (r : AuxReply)
  /-- AUX_TIMEOUT (R154). -/
  | auxTimeout (o : Fin 16)
  /-- RESTART_OUTPUT (R158). -/
  | restartOutput (o : Nat)
  /-- RX_TRAINING_PATTERN_SET (R161). -/
  | rxTrainingPatternSet (i : Fin 16) (pattern : Nat) (good : Bool) (link : LinkCfg)
  /-- RX_LOCK_LOSS (R161). -/
  | rxLockLoss (i : Fin 16) (lanes : Nat)
  /-- RX_LOST_TIMEOUT (R161). -/
  | rxLostTimeout (i : Fin 16)
  /-- MSA (R162). -/
  | msa (i : Fin 16) (m : MsaIn)
  /-- NO_VIDEO_STREAM (R161). -/
  | noVideoStream (i : Fin 16)
  /-- RX_AUX_TRANSACTION (R160). -/
  | rxAuxTransaction (i : Fin 16) (r : RxAux)
  /-- INPUT_SAV (R164). -/
  | inputSav (i : Fin 16) (t : Word)
  /-- CAPTURE_COMPLETE (R166). -/
  | captureComplete (i : Fin 16) (badHeader : Bool) (t : Word)
  /-- FRAME_DAMAGE (R167). -/
  | frameDamage (i : Fin 16) (c : Damage)
  /-- FRAME_RECEIVE (R290). -/
  | frameReceive (n : Fin 3) (f : NetFrame) (t : Word)
  /-- FRAME_TRANSMIT (R291). -/
  | frameTransmit (n : Fin 3) (ptp : List PtpTx) (gen : List (List Byte)) (t : Word)
  /-- RTP_PACKET (R182). -/
  | rtpPacket (r : RtpIn) (t : Word)
  /-- ASM_TIMEOUT (R182). -/
  | asmTimeout (c : Fin 512)
  /-- SENDER_REPORT (R188). -/
  | senderReport (c : Fin 512) (o : RtcpFrom) (r : SenderInfo) (t : Word)
  /-- BYE (R184). -/
  | bye (c : Fin 512) (o : RtcpFrom)
  /-- RTCP_FEEDBACK (R209). -/
  | rtcpFeedback (e : Fin 32)
  /-- RECEIVER_REPORT (R184). -/
  | receiverReport (c : Fin 512)
  /-- PLI_REPEAT (R201). -/
  | pliRepeat (c : Fin 512)
  /-- STALL_TIMEOUT (R185). -/
  | stallTimeout (c : Fin 512)
  /-- DEC_OPEN (R187). -/
  | decOpen (c : Fin 512) (template : List Byte)
  /-- DEC_CLOSE (R187). -/
  | decClose (c : Fin 512)
  /-- DEC_KEY_REQ (R187). -/
  | decKeyReq (c : Fin 512)
  /-- DECODE_COMPLETE (R192). -/
  | decodeComplete (c : Fin 512) (r : DecodeIn) (badHeader : Bool) (t : Word)
  /-- ENC_START (R205). -/
  | encStart (e : Fin 32)
  /-- ENC_STOP (R205). -/
  | encStop (e : Fin 32)
  /-- ENC_KEY (R209). -/
  | encKey (e : Fin 32)
  /-- ENCODE_PICTURE (R208). -/
  | encodePicture (e : Fin 32) (r : EncodeIn)
  /-- ENCODER_SENDER_REPORT (R204). -/
  | encoderSenderReport (e : Fin 32) (t : Word)
  /-- SEGMENT (R242). -/
  | segment (p : Fin 8) (k : RxPacket) (t : Word)
  /-- LINE (R242). -/
  | line (p : Fin 8) (k : RxPacket) (t : Word)
  /-- FRAME_START (R244). -/
  | frameStart (p : Fin 8) (k : RxPacket) (t : Word)
  /-- FRAME_DATA (R244). -/
  | frameData (p : Fin 8) (k : RxPacket)
  /-- FRAME_END (R244). -/
  | frameEnd (p : Fin 8) (k : RxPacket) (t : Word)
  /-- STREAM (R246). -/
  | stream (p : Fin 8) (k : RxPacket)
  /-- MESSAGE (R219). -/
  | message (p : Fin 8) (k : RxPacket)
  /-- PACKET_TRANSMIT (R223). -/
  | packetTransmit (p : Fin 8) (d : TxDue)
  /-- CREDIT (R225). -/
  | credit (p : Fin 8) (k : CreditIn) (errs : List (Nat × Nat))
  /-- CREDIT_STALL (R225). -/
  | creditStall (p : Fin 8)
  /-- LANE_STATUS (R250). -/
  | laneStatus (p : Fin 8) (status lane : Byte) (k : LaneCheck)
  /-- LANE_BAD (R249). -/
  | laneBad (p : Fin 8) (l : Fin 4) (errs : Nat) (unlock : Bool)
  /-- LANE_GOOD (R249). -/
  | laneGood (p : Fin 8) (l : Fin 4)
  /-- PORT_ALIGN (R239). -/
  | portAlign (p : Fin 8) (rxGood peerGood : Fin 16)
  /-- PORT_DOWN (R239). -/
  | portDown (p : Fin 8)
  /-- DISCOVERY_TIMEOUT (R234). -/
  | discoveryTimeout
  /-- TRUMP_SET_RECEIVE (R228). -/
  | trumpSetReceive (p : Fin 8) (copies : List TrumpCopy) (t : Word)
  /-- FLOW_STOP (R230). -/
  | flowStop (p : Fin 8) (m : Trump)
  /-- FLOW_CUT (R251). -/
  | flowCut (p : Fin 8) (m : Trump)
  /-- FLOW_RESUME (R251). -/
  | flowResume (p : Fin 8) (m : Trump)
  /-- PRESENCE (R247). -/
  | presence (p : Fin 8) (m : Trump)
  /-- TICK_MARK (R240). -/
  | tickMark (p : Fin 8) (m : Trump) (t : Word)
  /-- TICK_MARK_TIMEOUT (R240). -/
  | tickMarkTimeout (p : Fin 8)
  /-- ECHO (R234). -/
  | echo (p : Fin 8) (m : Trump) (t : Word)
  /-- ECHO_REPLY (R234). -/
  | echoReply (p : Fin 8) (m : Trump) (t : Word)
  /-- IDENT_A (R235). -/
  | identA (p : Fin 8) (m : Trump)
  /-- IDENT_B (R235). -/
  | identB (p : Fin 8) (m : Trump)
  /-- IDENT_C (R235). -/
  | identC (p : Fin 8) (m : Trump)
  /-- CMD_FIRST (R340). -/
  | cmdFirst (p : Fin 8) (m : Trump) (t : Word)
  /-- CMD_MIDDLE (R340). -/
  | cmdMiddle (p : Fin 8) (m : Trump) (t : Word)
  /-- CMD_LAST (R340). -/
  | cmdLast (p : Fin 8) (m : Trump) (t : Word)
  /-- CMD_ONLY (R344). -/
  | cmdOnly (p : Fin 8) (m : Trump) (t : Word)
  /-- FRAGMENT_TIMEOUT (R340). -/
  | fragmentTimeout (n : Fin 64)
  /-- FAB_TX_GO (R230). -/
  | fabTxGo
  /-- FAB_RX_ARG1_READ (R255). -/
  | fabRxArg1Read (debug : Bool)
  /-- FAB_RT_CHECK_GO (R237). -/
  | fabRtCheckGo
  /-- ROUTE_CHECK_RESULT (R237). -/
  | routeCheckResult (f : FlashIn)
  /-- SER_LOOP_WRITE (R217). -/
  | serLoopWrite (q : Fin 41) (v : Fin 4)
  /-- CMP_WALL_GO (R124). -/
  | cmpWallGo
  /-- PREPARE_SEND (R124). -/
  | prepareSend
  /-- WALL_PREPARE (R126). -/
  | wallPrepare (t : Word)
  /-- WALL_VOTE (R127). -/
  | wallVote
  /-- DECIDE_SEND (R127). -/
  | decideSend (t : Word)
  /-- WALL_DECIDE (R127). -/
  | wallDecide (t : Word)
  /-- WALL_CUTOFF (R127). -/
  | wallCutoff
  /-- WALL_OUTCOME (R128). -/
  | wallOutcome
  /-- CMP_TLN_FREE (R113). -/
  | cmpTlnFree (d : Fin 8192)
  /-- DRAM_READ (R271). -/
  | dramRead (rs : List MemReq)
  /-- DRAM_WRITE (R261). -/
  | dramWrite (w : MemWrite)
  /-- WRITE_DRAIN (R264). -/
  | writeDrain (u : Fin 8) (d : DrainIn)
  /-- TARGETED_REFRESH (R270). -/
  | targetedRefresh (u : Fin 8)
  /-- REFRESH (R268). -/
  | refresh (u : Fin 8) (r : Fin 2) (a : RefreshAct)
  /-- MR4_READ (R267). -/
  | mr4Read (u : Fin 8) (r : Fin 2) (m : Mr4Out)
  /-- DQS_TRACK (R276). -/
  | dqsTrack (u : Fin 8) (drift : Int)
  /-- ALERT (R274). -/
  | alert (u : Fin 8)
  /-- ALERT_TIMEOUT (R274). -/
  | alertTimeout (u : Fin 8)
  /-- TRAINING_STEP (R276). -/
  | trainingStep (r : MemTrainIn)
  /-- MEM_FREQ_GO (R277). -/
  | memFreqGo (target : Fin 4)
  /-- MEM_INIT_DONE (R262). -/
  | memInitDone
  /-- WRAP (R282). -/
  | wrap (t : Fin 3)
  /-- TIM_INCR_WRITE (R281). -/
  | timIncrWrite (w : Word)
  /-- TIM_EPOCH_WRITE (R282). -/
  | timEpochWrite (w : Word) (wrap : Bool)
  /-- TIM_NOW_LO_READ (R283). -/
  | timNowLoRead (m : Fin 11)
  /-- TIM_PTP_OFF_HI_WRITE (R285). -/
  | timPtpOffHiWrite (w : Word)
  /-- OFF_VALID_EXPIRY (R286). -/
  | offValidExpiry
  /-- TIM_SERVO_LOCKED (R286). -/
  | timServoLocked (v : Bool)
  /-- TIM_SERVO_INVALIDATE (R286). -/
  | timServoInvalidate
  /-- SERVO_LOCK_EXPIRY (R286). -/
  | servoLockExpiry
  /-- TIM_GM_DOM_WRITE (R287). -/
  | timGmDomWrite (dom : Byte)
  /-- TIM_UTC_WRITE (R452). -/
  | timUtcWrite (off : BitVec 16)
  /-- TIM_TRG_START_WRITE (R294). -/
  | timTrgStartWrite (c : Fin 64) (w : Word)
  /-- TRIGGER_FIRE (R292). -/
  | triggerFire (c : Fin 64) (t : Word)
  /-- PPS_PULSE (R295). -/
  | ppsPulse (k : Fin 4) (t : Word)
  /-- TXTS_ID_READ (R297). -/
  | txtsIdRead (n : Fin 3) (m : Fin 11)
  /-- DLR_TICK_FIRST_WRITE (R21). -/
  | dlrTickFirstWrite (w : Word)
  /-- SCAN_FRAME (R308). -/
  | scanFrame (p : Fin 4) (d : ScanData)
  /-- SELF_TEST (R307). -/
  | selfTest (p : Fin 4) (d : TestIn)
  /-- TEST_MISSED (R304). -/
  | testMissed (p : Fin 4)
  /-- COVERED_TIMEOUT (R304). -/
  | coveredTimeout (p : Fin 4)
  /-- TCH_RESTART (R319). -/
  | tchRestart (p : Fin 4)
  /-- TCH_RELEASE (R319). -/
  | tchRelease (p : Fin 4)
  /-- AUDIO_FETCH (R327). -/
  | audioFetch (p : Fin 8)
  /-- AUDIO_BLOCK_BOUNDARY (R330). -/
  | audioBlockBoundary (p : Fin 8) (b : AudioBound)
  /-- AUDIO_CLOCK_LOST (R331). -/
  | audioClockLost (p : Fin 8)
  /-- STOPPING_END (R333). -/
  | stoppingEnd (p : Fin 8)
  /-- AUD_MUTE_WRITE (R334). -/
  | audMuteWrite (p : Fin 8) (v : Bool)
  /-- TONE_ORDER (R335). -/
  | toneOrder (on : Bool) (t : Word)
  /-- COMMAND_INTAKE (R339). -/
  | commandIntake (n : Fin 3)
  /-- RELAY_TIMEOUT (R341). -/
  | relayTimeout
  /-- SESSION_TIMEOUT (R343). -/
  | sessionTimeout (id : Nat)
  /-- PING (R345). -/
  | ping
  /-- OPEN_SESSION (R343). -/
  | openSession (entry : Nat)
  /-- CLOSE_SESSION (R343). -/
  | closeSession
  /-- GET_STATUS (R345). -/
  | getStatus
  /-- GET_TILES (R346). -/
  | getTiles (first count : Nat)
  /-- GET_TOUCH (R346). -/
  | getTouch (p : Nat)
  /-- GET_LOG (R432). -/
  | getLog
  /-- SELECT_LAYOUT (R347). -/
  | selectLayout (layout target : Nat) (swaps : List Swap)
  /-- SWAP_SOURCE (R347). -/
  | swapSource (target : Nat) (swaps : List Swap)
  /-- WALL_LAYOUT (R348). -/
  | wallLayout (layout target : Nat)
  /-- SET_GRAPHIC (R345). -/
  | setGraphic (o g : Nat) (ws : List Word)
  /-- SET_USER_MARKER (R345). -/
  | setUserMarker (o : Nat) (entries : List Word) (addr pitch : Nat)
  /-- RESYNC (R139). -/
  | resync
  /-- TOUCH_CTRL (R319). -/
  | touchCtrl (p op : Nat)
  /-- ENCODE_CTRL (R205). -/
  | encodeCtrl (e op : Nat)
  /-- AUDIO_MUTE (R334). -/
  | audioMute (p : Nat) (v : Bool)
  /-- KEY_REQUEST (R187). -/
  | keyRequest (c : Nat)
  /-- UPDATE_BEGIN (R402). -/
  | updateBegin
  /-- UPDATE_DATA (R402). -/
  | updateData (f : FlashIn)
  /-- UPDATE_ACTIVATE (R403). -/
  | updateActivate (f : FlashIn)
  /-- UPDATE_ABORT (R402). -/
  | updateAbort (f : FlashIn)
  /-- HST_MB_DOORBELL (R350). -/
  | hstMbDoorbell (len : BitVec 13) (t : Word)
  /-- HST_MB_RESP_WRITE (R350). -/
  | hstMbRespWrite (code : Byte) (up : Bool) (bytes : List Byte)
  /-- CMD_IN_POP (R356). -/
  | cmdInPop
  /-- PERST_N (R443). -/
  | perstN
  /-- CHK_START (R352). -/
  | chkStart (u : Fin 4)
  /-- CHK_CFG_WRITE (R352). -/
  | chkCfgWrite (u : Fin 4) (w : Word)
  /-- CHK_DATA8 (R353). -/
  | chkData8 (u : Fin 4) (w : Word)
  /-- CHK_DATA16 (R353). -/
  | chkData16 (u : Fin 4) (w : Word)
  /-- CHK_DATA32 (R353). -/
  | chkData32 (u : Fin 4) (w : Word)
  /-- MATRIX_TRANSFER (R368). -/
  | matrixTransfer (xs : List Transfer) (t : Word) (f : FlashIn)
  /-- MTX_REMAP_WRITE (R365). -/
  | mtxRemapWrite (v : Bool)
  /-- MTX_PRI_WRITE (R364). -/
  | mtxPriWrite (t : Fin 9) (hi : Bool) (w : Word)
  /-- MPU_RGN_BASE_WRITE (R375). -/
  | mpuRgnBaseWrite (m : Fin 11) (r : Fin 16) (w : Word)
  /-- MPU_LOCK (R375). -/
  | mpuLock (v : Bool)
  /-- FUS_PROG_GO (R379). -/
  | fusProgGo (m : Fin 11) (word : Fin 64)
  /-- FUSE_PROGRAM_DONE (R378). -/
  | fuseProgramDone
  /-- IDCODE (R380). -/
  | idcode
  /-- SAMPLE_PRELOAD (R380). -/
  | samplePreload (pins shift : Nat)
  /-- EXTEST (R380). -/
  | extest (pins shift : Nat)
  /-- DBG_ACCESS (R381). -/
  | dbgAccess (a : BitVec 40) (d : Word) (write : Bool) (t : Word) (f : FlashIn)
  /-- DBG_HALT (R383). -/
  | dbgHalt (p : Fin 16) (halt : Bool)
  /-- DBG_UNLOCK (R382). -/
  | dbgUnlock (token : List Byte)
  /-- UNLOCK_VERIFY (R382). -/
  | unlockVerify
  /-- DBG_STATUS (R380). -/
  | dbgStatus
  /-- BYPASS (R380). -/
  | bypass
  /-- BKR_WDT_KICK (R359). -/
  | bkrWdtKick (t : Word)
  /-- BKR_RESET_SELF (R359). -/
  | bkrResetSelf (f : FlashIn)
  /-- HEARTBEAT_TIMEOUT (R359). -/
  | heartbeatTimeout (f : FlashIn) (t : Word)
  /-- BANKER_WATCHDOG_TIMEOUT (R359). -/
  | bankerWatchdogTimeout (f : FlashIn) (t : Word)
  /-- BANKER_UP_TIMEOUT (R359). -/
  | bankerUpTimeout (f : FlashIn)
  /-- BANKER_RESET_RELEASE (R396). -/
  | bankerResetRelease (f : FlashIn) (t : Word)
  /-- BKR_DEV_RESET (R409). -/
  | bkrDevReset (w : Word) (priv : Bool)
  /-- TRIAL_CONFIRM (R404). -/
  | trialConfirm (f : FlashIn)
  /-- TRIAL_TIMEOUT (R404). -/
  | trialTimeout (f : FlashIn)
  /-- RECOVERY_BEACON (R406). -/
  | recoveryBeacon
  /-- XMODEM_POLL (R406). -/
  | xmodemPoll
  /-- TFTP_WRITE_REQUEST (R406). -/
  | tftpWriteRequest (q : TftpReq) (tsize : Option Nat)
  /-- TFTP_DATA (R406). -/
  | tftpData (block : Nat) (data : List Byte)
  /-- XMODEM_BLOCK (R406). -/
  | xmodemBlock (block : Nat) (data : List Byte) (crc : BitVec 16)
  /-- RECOVERY_PACKAGE_CHECK (R407). -/
  | recoveryPackageCheck (badSlot : Bool) (f : FlashIn)
  /-- RECOVERY_RESET (R408). -/
  | recoveryReset
  /-- SAFE_ENTRY (R422). -/
  | safeEntry
  /-- TEMP_READ (R421). -/
  | tempRead (temp : Int)
  /-- AUTO_RESTART (R424). -/
  | autoRestart
  /-- AUTO_RESTART_CLEAR (R424). -/
  | autoRestartClear
  /-- LOCKSTEP (R411). -/
  | lockstep
  /-- WATCHDOG (R412). -/
  | watchdog
  /-- SAFE_PATH_RESET (R413). -/
  | safePathReset
  /-- LOG_WRITE (R428). -/
  | logWrite
  /-- REGISTER_WRITE (R12). -/
  | registerWrite (a : BitVec 40) (w : Word) (m : Fin 11) (user : Bool) (t : Word) (f : FlashIn)
  /-- REGISTER_READ_CLEAR (R12). -/
  | registerReadClear (a : BitVec 40) (m : Fin 11)
  /-- TRUMP_SET_TRANSMIT (R227). -/
  | trumpSetTransmit (p : Fin 8) (t : Word)
  /-- ALERT_N_RETURN (R274). -/
  | alertNReturn (u : Fin 8) (done : Bool)
  /-- FS_EDGE (R331). -/
  | fsEdge (p : Fin 8) (frame : List Word) (t : Word)
  /-- INPUT_END_OF_ACTIVE_VIDEO (R53). -/
  | inputEndOfActiveVideo (i : Fin 16) (f : Frame) (t : Word)
  /-- HST_LINK_CHANGE (R253). -/
  | hstLinkChange (width : Fin 4) (gen2 : Bool)
  /-- NP_LINK_CHANGE (R297). -/
  | npLinkChange (n : Fin 3) (up : Bool)
  deriving DecidableEq, Repr

end Sys2Proof
end

