-- ==== Sys2Proof/Decode.lean ====
section
/-!
DEFINITION. Decoding by the opcode table. No row of the table gives bits, so no word spells a command.
-/

namespace Sys2Proof

/-- The command that a word of `nbits` bits spells by the table's bits: none, the table giving none. -/
def decodeTableWord (_nbits _w : Nat) : Option Instr := none

end Sys2Proof
end

