-- ==== Sys2Proof/Machine/Flags.lean ====
section
/-!
DEFINITION. Status arithmetic: saturating counts, clamps, signed 32-bit differences, bits of a
number, and the check values of the device (CRC-32C and the general CRC of the CHK units).
-/

namespace Sys2Proof.Machine

/-- Count up by `k`, saturating at the largest value of `wid` bits. -/
def satAdd (wid n k : Nat) : Nat := min (n + k) (2 ^ wid - 1)

/-- Clamp an integer between two bounds. -/
def clampI (lo hi x : Int) : Int := if x < lo then lo else if hi < x then hi else x

/-- Clamp an exact fraction between two bounds. -/
def clampQ (lo hi x : Rat) : Rat := if x < lo then lo else if hi < x then hi else x

/-- Clamp an integer to 0 .. hi and give it as a natural number. -/
def clampN (hi : Nat) (x : Int) : Nat := (clampI 0 hi x).toNat

/-- The signed 32-bit difference a − b of two time values (R48, R51, R54). -/
def wordDiff (a b : BitVec 32) : Int := (a - b).toInt

/-- Is sequence number `a` newer than `b`, modulo 2^32 within 2^31 (R52)? -/
def seqNewer (a b : BitVec 32) : Bool := decide (0 < wordDiff a b)

/-- Bit `i` of `n`. -/
def bitOf (n i : Nat) : Bool := n / 2 ^ i % 2 == 1

/-- 1 for true, 0 for false. -/
def b2n (b : Bool) : Nat := if b then 1 else 0

/-- `n` with bit `i` set. -/
def setBitN (n i : Nat) : Nat := if bitOf n i then n else n + 2 ^ i

/-- `n` with bit `i` cleared. -/
def clrBitN (n i : Nat) : Nat := if bitOf n i then n - 2 ^ i else n

/-- `n` with bit `i` set to `b`. -/
def putBitN (n i : Nat) (b : Bool) : Nat := if b then setBitN n i else clrBitN n i

/-- How many of the lowest `w` bits of `n` are 1. -/
def popcount : Nat → Nat → Nat
  | 0, _ => 0
  | w + 1, n => n % 2 + popcount w (n / 2)

/-- The smallest index below `n` that satisfies `p`. -/
def firstBelow (p : Nat → Bool) : Nat → Option Nat
  | 0 => none
  | n + 1 => match firstBelow p n with
    | some k => some k
    | none => if p n then some n else none

/-- Ceiling of a quotient. -/
def ceilDiv (a b : Nat) : Nat := (a + b - 1) / b

/-- One byte of the reflected CRC-32C, polynomial 0x1EDC6F41 reflected to 0x82F63B78: eight shifts. -/
def crc32cShift : Nat → BitVec 32 → BitVec 32
  | 0, c => c
  | n + 1, c => crc32cShift n (if c.getLsbD 0 then (c >>> 1) ^^^ 0x82F63B78#32 else c >>> 1)

/-- Feed one byte to a running CRC-32C. -/
def crc32cByte (c : BitVec 32) (b : Byte) : BitVec 32 :=
  crc32cShift 8 (c ^^^ b.setWidth 32)

/-- Feed a list of bytes to a running CRC-32C. -/
def crc32cFeed (c : BitVec 32) (bs : List Byte) : BitVec 32 := bs.foldl crc32cByte c

/-- CRC-32C of a list of bytes: initial value and final exclusive-or all ones. -/
def crc32c (bs : List Byte) : BitVec 32 := crc32cFeed 0xFFFFFFFF#32 bs ^^^ 0xFFFFFFFF#32

/-- `n` as `k` bytes, lowest first (R14). -/
def leBytes : Nat → Nat → List Byte
  | 0, _ => []
  | k + 1, n => BitVec.ofNat 8 n :: leBytes k (n / 256)

/-- The number that bytes spell, lowest first (R14). -/
def leNat : List Byte → Nat
  | [] => 0
  | b :: bs => b.toNat + 256 * leNat bs

/-- The number that bytes spell, highest first. -/
def beNat (bs : List Byte) : Nat := leNat bs.reverse

/-- `n` as `k` bytes, highest first. -/
def beBytes (k n : Nat) : List Byte := (leBytes k n).reverse

/-- Samples, each as a 16-bit little-endian word (R58, R74, R118). -/
def words16 (ss : List Nat) : List Byte := ss.flatMap (leBytes 2)

/-- Rotate a 16-bit value left (R72). -/
def rotl16 (v k : Nat) : Nat := (v * 2 ^ (k % 16) + v / 2 ^ (16 - k % 16)) % 2 ^ 16

/-- A 32-bit word from an integer, two's complement. -/
def wordOfInt (i : Int) : BitVec 32 := BitVec.ofInt 32 i

/-- An exact fraction rounded toward zero. -/
def truncQ (q : Rat) : Int := if q < 0 then -((-q).floor) else q.floor

/-- Magnitude of an exact fraction. -/
def absQ (q : Rat) : Rat := if q < 0 then -q else q

end Sys2Proof.Machine
end

