-- ==== Sys2Proof/Machine/RegTypes.lean ====
section
/-!
DEFINITION. What a register table says of a register: the field types of R12, the place of a field,
and the description of one register (or one indexed family of registers).
-/

namespace Sys2Proof.Machine

/-- The access types of R12. -/
inductive FieldTy where
  | rw | ro | wo | w1c | rc | sh | lk
  deriving DecidableEq, Repr

/-- A field of a register: physical address, lowest bit, width. -/
structure Fld where
  addr : Nat
  lo : Nat
  wid : Nat
  deriving DecidableEq, Repr

/-- One field of a register table. -/
structure FieldDesc where
  lo : Nat
  wid : Nat
  ty : FieldTy
  reset : Nat
  deriving DecidableEq, Repr

/-- One register, or a family of registers indexed by `dims` = (count, stride), widest stride first. -/
structure RegDesc where
  base : Nat
  dims : List (Nat × Nat)
  fields : List FieldDesc
  deriving DecidableEq, Repr

/-- Does offset `off` from the family's base name a register of the family? -/
def dimsHit : List (Nat × Nat) → Nat → Bool
  | [], off => off == 0
  | (count, stride) :: rest, off => decide (off / stride < count) && dimsHit rest (off % stride)

/-- Is `a` the address of a register of this family? -/
def RegDesc.hit (d : RegDesc) (a : Nat) : Bool :=
  decide (d.base ≤ a) && dimsHit d.dims (a - d.base)

/-- The reset word that a list of fields gives. -/
def fieldsReset : List FieldDesc → Nat
  | [] => 0
  | f :: rest => f.reset * 2 ^ f.lo + fieldsReset rest

end Sys2Proof.Machine
end

