-- ==== Sys2Proof/Machine/RegNames.lean ====
section
/-!
DEFINITION. The spec's registers by name: the physical address of every register (Reg) and the place
of every field (Fld), as the register tables of the chapters give them on the block bases of R367.
An index argument is the index letter of the table (output o, input i, layer l, context c, ...).
-/

namespace Sys2Proof.Machine

/-- R38. -/
def Reg.DLR_STATUS : Nat := 0x10040000
/-- R38. -/
def Reg.DLR_TICK_CFG : Nat := 0x10040004
/-- R38. -/
def Reg.DLR_TICK_NUM : Nat := 0x10040008
/-- R38. -/
def Reg.DLR_TICK_DEN : Nat := 0x1004000C
/-- R38. -/
def Reg.DLR_TICK_FIRST : Nat := 0x10040010
/-- R38. -/
def Reg.DLR_TICK_COUNT : Nat := 0x10040014
/-- R38. -/
def Reg.DLR_TICK_TIME : Nat := 0x10040018
/-- R38. -/
def Reg.DLR_OVR_CNT (c : Nat) : Nat := 0x10040020 + 0x4 * c
/-- R38. -/
def Reg.DLR_OVR_LAST : Nat := 0x10040044
/-- R38. -/
def Reg.DLR_ADM_STATUS : Nat := 0x10040048
/-- R38. -/
def Reg.DLR_LOAD : Nat := 0x1004004C
/-- R38. -/
def Reg.DLR_INT_STATUS : Nat := 0x10040050
/-- R38. -/
def Reg.DLR_INT_EN : Nat := 0x10040054
/-- R86. -/
def Reg.CMP_LV_STATUS : Nat := 0x20008000
/-- R86. -/
def Reg.CMP_LV_TICK_EPOCH : Nat := 0x20008004
/-- R86. -/
def Reg.CMP_LV_DISAGREE : Nat := 0x20008008
/-- R86. -/
def Reg.CMP_LV_DIS_LAST : Nat := 0x2000800C
/-- R86. -/
def Reg.CMP_LV_INT_STATUS : Nat := 0x20008010
/-- R86. -/
def Reg.CMP_LV_INT_EN : Nat := 0x20008014
/-- R86. -/
def Reg.CMP_LV_MAP_FAULT : Nat := 0x20008018
/-- R86. -/
def Reg.CMP_LV_OUT (o : Nat) : Nat := 0x20008040 + 0x4 * o
/-- R86. -/
def Reg.CMP_LV_SCAN (o : Nat) : Nat := 0x20008080 + 0x4 * o
/-- R86. -/
def Reg.CMP_LV_SINKCRC (o : Nat) : Nat := 0x200080C0 + 0x4 * o
/-- R86. -/
def Reg.CMP_LV_CON0 (l : Nat) : Nat := 0x20009000 + 0x20 * l
/-- R86. -/
def Reg.CMP_LV_CON1 (l : Nat) : Nat := 0x20009004 + 0x20 * l
/-- R86. -/
def Reg.CMP_LV_CON2 (l : Nat) : Nat := 0x20009008 + 0x20 * l
/-- R86. -/
def Reg.CMP_LV_STATE (l : Nat) : Nat := 0x2000900C + 0x20 * l
/-- R86. -/
def Reg.CMP_LV_AGE (l : Nat) : Nat := 0x20009010 + 0x20 * l
/-- R86. -/
def Reg.CMP_LV_SEQ (l : Nat) : Nat := 0x20009014 + 0x20 * l
/-- R86. -/
def Reg.CMP_LV_FOLDS (l : Nat) : Nat := 0x20009018 + 0x20 * l
/-- R86. -/
def Reg.CMP_LV_LASTFOLD (l : Nat) : Nat := 0x2000901C + 0x20 * l
/-- R129. -/
def Reg.CMP_COMMIT : Nat := 0x20000000
/-- R129. -/
def Reg.CMP_COMMIT_STATUS : Nat := 0x20000004
/-- R129. -/
def Reg.CMP_COMMIT_TICK : Nat := 0x20000008
/-- R129. -/
def Reg.CMP_INT_STATUS : Nat := 0x20000010
/-- R129. -/
def Reg.CMP_INT_EN : Nat := 0x20000014
/-- R129. -/
def Reg.CMP_TLN_BASE (c : Nat) : Nat := 0x20000100 + 0x10 * c
/-- R129. -/
def Reg.CMP_TLN_SIZE (c : Nat) : Nat := 0x20000104 + 0x10 * c
/-- R129. -/
def Reg.CMP_TLN_COUNT (c : Nat) : Nat := 0x20000108 + 0x10 * c
/-- R129. -/
def Reg.CMP_TLN_EVT : Nat := 0x20000180
/-- R129. -/
def Reg.CMP_TLN_FREE : Nat := 0x20000184
/-- R129. -/
def Reg.CMP_TLN_DSEL : Nat := 0x20000188
/-- R129. -/
def Reg.CMP_TLN_DSTATE : Nat := 0x2000018C
/-- R129. -/
def Reg.CMP_TLN_DHOLD : Nat := 0x20000190
/-- R129. -/
def Reg.CMP_TLN_DELIG : Nat := 0x20000194
/-- R129. -/
def Reg.CMP_TLN_DTICK : Nat := 0x20000198
/-- R129. -/
def Reg.CMP_WALL_REQ : Nat := 0x20000200
/-- R129. -/
def Reg.CMP_WALL_TARGET : Nat := 0x20000204
/-- R129. -/
def Reg.CMP_WALL_GO : Nat := 0x20000208
/-- R129. -/
def Reg.CMP_WALL_STATUS : Nat := 0x2000020C
/-- R129. -/
def Reg.CMP_WALL_MEMBERS_LO : Nat := 0x20000210
/-- R129. -/
def Reg.CMP_WALL_MEMBERS_HI : Nat := 0x20000214
/-- R129. -/
def Reg.CMP_CSC (m k : Nat) : Nat := 0x20000300 + 0x20 * m + 0x4 * k
/-- R129. -/
def Reg.CMP_MKP (o e : Nat) : Nat := 0x20000400 + 0x40 * o + 0x4 * e
/-- R129. -/
def Reg.CMP_OC_CTRL (o : Nat) : Nat := 0x20000800 + 0x80 * o
/-- R129. -/
def Reg.CMP_OC_BG (o : Nat) : Nat := 0x20000804 + 0x80 * o
/-- R129. -/
def Reg.CMP_OC_MKADDR_LO (o : Nat) : Nat := 0x20000808 + 0x80 * o
/-- R129. -/
def Reg.CMP_OC_MKADDR_HI (o : Nat) : Nat := 0x2000080C + 0x80 * o
/-- R129. -/
def Reg.CMP_OC_MKPITCH (o : Nat) : Nat := 0x20000810 + 0x80 * o
/-- R129. -/
def Reg.CMP_OC_STATUS (o : Nat) : Nat := 0x20000814 + 0x80 * o
/-- R129. -/
def Reg.CMP_OC_LINECHK (o : Nat) : Nat := 0x20000818 + 0x80 * o
/-- R129. -/
def Reg.CMP_OC_MASKED (o : Nat) : Nat := 0x2000081C + 0x80 * o
/-- R129. -/
def Reg.CMP_OC_MASK_LAST (o : Nat) : Nat := 0x20000820 + 0x80 * o
/-- R129. -/
def Reg.CMP_OC_SKIP (o : Nat) : Nat := 0x20000824 + 0x80 * o
/-- R129. -/
def Reg.CMP_OC_GPAL (o e : Nat) : Nat := 0x20000840 + 0x80 * o + 0x4 * e
/-- R129. -/
def Reg.CMP_SC_STAT (o s : Nat) : Nat := 0x20001000 + 0x100 * o + 0x10 * s
/-- R129. -/
def Reg.CMP_SC_HSTEP (o s : Nat) : Nat := 0x20001004 + 0x100 * o + 0x10 * s
/-- R129. -/
def Reg.CMP_SC_VSTEP (o s : Nat) : Nat := 0x20001008 + 0x100 * o + 0x10 * s
/-- R129. -/
def Reg.CMP_SC_AVG (o s : Nat) : Nat := 0x2000100C + 0x100 * o + 0x10 * s
/-- R129. -/
def Reg.CMP_GL_CTRL (o g : Nat) : Nat := 0x20002000 + 0x100 * o + 0x20 * g
/-- R129. -/
def Reg.CMP_GL_ADDR_LO (o g : Nat) : Nat := 0x20002004 + 0x100 * o + 0x20 * g
/-- R129. -/
def Reg.CMP_GL_ADDR_HI (o g : Nat) : Nat := 0x20002008 + 0x100 * o + 0x20 * g
/-- R129. -/
def Reg.CMP_GL_PITCH (o g : Nat) : Nat := 0x2000200C + 0x100 * o + 0x20 * g
/-- R129. -/
def Reg.CMP_GL_POS (o g : Nat) : Nat := 0x20002010 + 0x100 * o + 0x20 * g
/-- R129. -/
def Reg.CMP_GL_SIZE (o g : Nat) : Nat := 0x20002014 + 0x100 * o + 0x20 * g
/-- R129. -/
def Reg.CMP_SG_CFG (g : Nat) : Nat := 0x20003000 + 0x4 * g
/-- R129. -/
def Reg.CMP_SG_STAT (g : Nat) : Nat := 0x20003080 + 0x4 * g
/-- R129. -/
def Reg.CMP_VL_CTRL (l : Nat) : Nat := 0x20004000 + 0x20 * l
/-- R129. -/
def Reg.CMP_VL_SRC (l : Nat) : Nat := 0x20004004 + 0x20 * l
/-- R129. -/
def Reg.CMP_VL_CROP_POS (l : Nat) : Nat := 0x20004008 + 0x20 * l
/-- R129. -/
def Reg.CMP_VL_CROP_SIZE (l : Nat) : Nat := 0x2000400C + 0x20 * l
/-- R129. -/
def Reg.CMP_VL_DST_POS (l : Nat) : Nat := 0x20004010 + 0x20 * l
/-- R129. -/
def Reg.CMP_VL_DST_SIZE (l : Nat) : Nat := 0x20004014 + 0x20 * l
/-- R129. -/
def Reg.CMP_VL_SCL (l : Nat) : Nat := 0x20004018 + 0x20 * l
/-- R129. -/
def Reg.CMP_VL_STAT (l : Nat) : Nat := 0x2000401C + 0x20 * l
/-- R129. -/
def Reg.CMP_COEF (s k : Nat) : Nat := 0x2000D000 + 0x700 * s + 0x4 * k
/-- R159. -/
def Reg.OUT_REF_CFG : Nat := 0x20010000
/-- R159. -/
def Reg.OUT_REF_STATUS : Nat := 0x20010004
/-- R159. -/
def Reg.OUT_REF_ERR : Nat := 0x20010008
/-- R159. -/
def Reg.OUT_REF_DELTA : Nat := 0x2001000C
/-- R159. -/
def Reg.OUT_REF_MEAS : Nat := 0x20010010
/-- R159. -/
def Reg.OUT_REF_CNT : Nat := 0x20010014
/-- R159. -/
def Reg.OUT_RESYNC : Nat := 0x20010018
/-- R159. -/
def Reg.OUT_REF_CENTRE : Nat := 0x2001001C
/-- R159. -/
def Reg.OUT_COMMIT_STATUS : Nat := 0x20010020
/-- R159. -/
def Reg.OUT_DEALPT : Nat := 0x20010024
/-- R159. -/
def Reg.OUT_ACTSTART : Nat := 0x20010028
/-- R159. -/
def Reg.OUT_INT_STATUS : Nat := 0x20010030
/-- R159. -/
def Reg.OUT_INT_EN : Nat := 0x20010034
/-- R159. -/
def Reg.OUT_CTRL (o : Nat) : Nat := 0x20010100 + 0x100 * o
/-- R159. -/
def Reg.OUT_HTIM0 (o : Nat) : Nat := 0x20010104 + 0x100 * o
/-- R159. -/
def Reg.OUT_VTIM0 (o : Nat) : Nat := 0x2001010C + 0x100 * o
/-- R159. -/
def Reg.OUT_HTIM1 (o : Nat) : Nat := 0x20010108 + 0x100 * o
/-- R159. -/
def Reg.OUT_VTIM1 (o : Nat) : Nat := 0x20010110 + 0x100 * o
/-- R159. -/
def Reg.OUT_PHASE (o : Nat) : Nat := 0x20010114 + 0x100 * o
/-- R159. -/
def Reg.OUT_LEAD (o : Nat) : Nat := 0x20010118 + 0x100 * o
/-- R159. -/
def Reg.OUT_STATUS (o : Nat) : Nat := 0x20010120 + 0x100 * o
/-- R159. -/
def Reg.OUT_PHERR (o : Nat) : Nat := 0x20010124 + 0x100 * o
/-- R159. -/
def Reg.OUT_TRIM (o : Nat) : Nat := 0x20010128 + 0x100 * o
/-- R159. -/
def Reg.OUT_FRAME (o : Nat) : Nat := 0x2001012C + 0x100 * o
/-- R159. -/
def Reg.OUT_FLIP_LO (o : Nat) : Nat := 0x20010130 + 0x100 * o
/-- R159. -/
def Reg.OUT_FLIP_HI (o : Nat) : Nat := 0x20010134 + 0x100 * o
/-- R159. -/
def Reg.OUT_FLIP_FRAME (o : Nat) : Nat := 0x20010138 + 0x100 * o
/-- R159. -/
def Reg.OUT_LINK (o : Nat) : Nat := 0x20010140 + 0x100 * o
/-- R159. -/
def Reg.OUT_MIX (o : Nat) : Nat := 0x20010144 + 0x100 * o
/-- R159. -/
def Reg.OUT_AUX_CTRL (o : Nat) : Nat := 0x20010150 + 0x100 * o
/-- R159. -/
def Reg.OUT_AUX_STAT (o : Nat) : Nat := 0x20010154 + 0x100 * o
/-- R159. -/
def Reg.OUT_AUX_DATA (o k : Nat) : Nat := 0x20010158 + 0x100 * o + 0x4 * k
/-- R177. -/
def Reg.CAP_INT_STATUS : Nat := 0x20020000
/-- R177. -/
def Reg.CAP_INT_EN : Nat := 0x20020004
/-- R177. -/
def Reg.CAP_CFG (i : Nat) : Nat := 0x20020100 + 0x100 * i
/-- R177. -/
def Reg.CAP_DIM (i : Nat) : Nat := 0x20020104 + 0x100 * i
/-- R177. -/
def Reg.CAP_TOT (i : Nat) : Nat := 0x20020108 + 0x100 * i
/-- R177. -/
def Reg.CAP_PERIOD (i : Nat) : Nat := 0x2002010C + 0x100 * i
/-- R177. -/
def Reg.CAP_SAVOFF (i : Nat) : Nat := 0x20020110 + 0x100 * i
/-- R177. -/
def Reg.CAP_TELL_POS (i : Nat) : Nat := 0x20020114 + 0x100 * i
/-- R177. -/
def Reg.CAP_TELL_SIZE (i : Nat) : Nat := 0x20020118 + 0x100 * i
/-- R177. -/
def Reg.CAP_STATUS (i : Nat) : Nat := 0x20020120 + 0x100 * i
/-- R177. -/
def Reg.CAP_MSA_ACT (i : Nat) : Nat := 0x20020124 + 0x100 * i
/-- R177. -/
def Reg.CAP_MSA_TOT (i : Nat) : Nat := 0x20020128 + 0x100 * i
/-- R177. -/
def Reg.CAP_MEAS (i : Nat) : Nat := 0x2002012C + 0x100 * i
/-- R177. -/
def Reg.CAP_SEQ (i : Nat) : Nat := 0x20020130 + 0x100 * i
/-- R177. -/
def Reg.CAP_SAV (i : Nat) : Nat := 0x20020134 + 0x100 * i
/-- R177. -/
def Reg.CAP_FRAMES (i : Nat) : Nat := 0x20020138 + 0x100 * i
/-- R177. -/
def Reg.CAP_ERR (i : Nat) : Nat := 0x2002013C + 0x100 * i
/-- R177. -/
def Reg.CAP_LINK (i : Nat) : Nat := 0x20020140 + 0x100 * i
/-- R177. -/
def Reg.CAP_LASTBUF (i : Nat) : Nat := 0x20020144 + 0x100 * i
/-- R177. -/
def Reg.CAP_LLK (o : Nat) : Nat := 0x20022000 + 0x10 * o
/-- R177. -/
def Reg.CAP_LLK_ERR (o : Nat) : Nat := 0x20022004 + 0x10 * o
/-- R177. -/
def Reg.CAP_DIR_STAT (o j : Nat) : Nat := 0x20022100 + 0x40 * o + 0x10 * j
/-- R177. -/
def Reg.CAP_DIR_SLACK (o j : Nat) : Nat := 0x20022104 + 0x40 * o + 0x10 * j
/-- R177. -/
def Reg.CAP_DIR_CNT (o j : Nat) : Nat := 0x20022108 + 0x40 * o + 0x10 * j
/-- R177. -/
def Reg.CAP_DIR_LAST (o j : Nat) : Nat := 0x2002210C + 0x40 * o + 0x10 * j
/-- R177. -/
def Reg.CAP_EDID (i k : Nat) : Nat := 0x20024000 + 0x200 * i + 0x4 * k
/-- R210. -/
def Reg.DEC_STATUS : Nat := 0x10050000
/-- R210. -/
def Reg.DEC_INT_STATUS : Nat := 0x10050010
/-- R210. -/
def Reg.DEC_INT_EN : Nat := 0x10050014
/-- R210. -/
def Reg.DEC_CMD : Nat := 0x10050020
/-- R210. -/
def Reg.DEC_CMD_STATUS : Nat := 0x10050024
/-- R210. -/
def Reg.DEC_CORE (k : Nat) : Nat := 0x10050100 + 0x10 * k
/-- R210. -/
def Reg.DEC_CORE_LOAD (k : Nat) : Nat := 0x10050104 + 0x10 * k
/-- R210. -/
def Reg.DEC_CX_CFG (c : Nat) : Nat := 0x10052000 + 0x40 * c
/-- R210. -/
def Reg.DEC_CX_NET (c : Nat) : Nat := 0x10052004 + 0x40 * c
/-- R210. -/
def Reg.DEC_CX_SRCIP (c : Nat) : Nat := 0x10052008 + 0x40 * c
/-- R210. -/
def Reg.DEC_CX_SSRC (c : Nat) : Nat := 0x1005200C + 0x40 * c
/-- R210. -/
def Reg.DEC_CX_LSSRC (c : Nat) : Nat := 0x10052010 + 0x40 * c
/-- R210. -/
def Reg.DEC_CX_CLK (c : Nat) : Nat := 0x10052014 + 0x40 * c
/-- R210. -/
def Reg.DEC_CX_LAT (c : Nat) : Nat := 0x10052018 + 0x40 * c
/-- R210. -/
def Reg.DEC_CX_TIM (c : Nat) : Nat := 0x1005201C + 0x40 * c
/-- R210. -/
def Reg.DEC_CX_CONC (c : Nat) : Nat := 0x10052020 + 0x40 * c
/-- R210. -/
def Reg.DEC_CX_STATE (c : Nat) : Nat := 0x10052024 + 0x40 * c
/-- R210. -/
def Reg.DEC_CX_SEQ (c : Nat) : Nat := 0x10052028 + 0x40 * c
/-- R210. -/
def Reg.DEC_CX_PKT (c : Nat) : Nat := 0x1005202C + 0x40 * c
/-- R210. -/
def Reg.DEC_CX_DISC (c : Nat) : Nat := 0x10052030 + 0x40 * c
/-- R210. -/
def Reg.DEC_CX_ERR (c : Nat) : Nat := 0x10052034 + 0x40 * c
/-- R210. -/
def Reg.DEC_CX_LASTBUF (c : Nat) : Nat := 0x10052038 + 0x40 * c
/-- R210. -/
def Reg.DEC_CX_SRAGE (c : Nat) : Nat := 0x1005203C + 0x40 * c
/-- R211. -/
def Reg.ENC_STATUS : Nat := 0x10060000
/-- R211. -/
def Reg.ENC_INT_STATUS : Nat := 0x10060010
/-- R211. -/
def Reg.ENC_INT_EN : Nat := 0x10060014
/-- R211. -/
def Reg.ENC_CMD : Nat := 0x10060020
/-- R211. -/
def Reg.ENC_CMD_STATUS : Nat := 0x10060024
/-- R211. -/
def Reg.ENC_CORE (k : Nat) : Nat := 0x10060100 + 0x10 * k
/-- R211. -/
def Reg.ENC_ST_CFG (e : Nat) : Nat := 0x10062000 + 0x40 * e
/-- R211. -/
def Reg.ENC_ST_RC (e : Nat) : Nat := 0x10062004 + 0x40 * e
/-- R211. -/
def Reg.ENC_ST_KEY (e : Nat) : Nat := 0x10062008 + 0x40 * e
/-- R211. -/
def Reg.ENC_ST_DEST (e : Nat) : Nat := 0x1006200C + 0x40 * e
/-- R211. -/
def Reg.ENC_ST_DSTIP (e : Nat) : Nat := 0x10062010 + 0x40 * e
/-- R211. -/
def Reg.ENC_ST_SSRC (e : Nat) : Nat := 0x10062014 + 0x40 * e
/-- R211. -/
def Reg.ENC_ST_TSOFF (e : Nat) : Nat := 0x10062018 + 0x40 * e
/-- R211. -/
def Reg.ENC_ST_STATE (e : Nat) : Nat := 0x1006201C + 0x40 * e
/-- R211. -/
def Reg.ENC_ST_BITS (e : Nat) : Nat := 0x10062020 + 0x40 * e
/-- R211. -/
def Reg.ENC_ST_BUDGET (e : Nat) : Nat := 0x10062024 + 0x40 * e
/-- R211. -/
def Reg.ENC_ST_WIN (e : Nat) : Nat := 0x10062028 + 0x40 * e
/-- R211. -/
def Reg.ENC_ST_OVER (e : Nat) : Nat := 0x1006202C + 0x40 * e
/-- R211. -/
def Reg.ENC_ST_OVERBITS (e : Nat) : Nat := 0x10062030 + 0x40 * e
/-- R211. -/
def Reg.ENC_ST_SKIP (e : Nat) : Nat := 0x10062034 + 0x40 * e
/-- R211. -/
def Reg.ENC_ST_KEYS (e : Nat) : Nat := 0x10062038 + 0x40 * e
/-- R254. -/
def Reg.SER_QCTRL (q : Nat) : Nat := 0x20030000 + 0x40 * q
/-- R254. -/
def Reg.SER_QSTAT (q : Nat) : Nat := 0x20030004 + 0x40 * q
/-- R254. -/
def Reg.SER_LSTAT (q l : Nat) : Nat := 0x20030010 + 0x40 * q + 0x4 * l
/-- R254. -/
def Reg.SER_LERR (q l : Nat) : Nat := 0x20030020 + 0x40 * q + 0x4 * l
/-- R255. -/
def Reg.FAB_NODE : Nat := 0x20040000
/-- R255. -/
def Reg.FAB_STATUS : Nat := 0x20040004
/-- R255. -/
def Reg.FAB_TOPO_HASH : Nat := 0x20040008
/-- R255. -/
def Reg.FAB_INT_STATUS : Nat := 0x20040010
/-- R255. -/
def Reg.FAB_INT_EN : Nat := 0x20040014
/-- R255. -/
def Reg.FAB_RT_CHECK : Nat := 0x20040020
/-- R255. -/
def Reg.FAB_SEQ_GAP : Nat := 0x20040030
/-- R255. -/
def Reg.FAB_TX_CTRL : Nat := 0x20040040
/-- R255. -/
def Reg.FAB_TX_ARG0 : Nat := 0x20040044
/-- R255. -/
def Reg.FAB_TX_ARG1 : Nat := 0x20040048
/-- R255. -/
def Reg.FAB_TX_STATUS : Nat := 0x2004004C
/-- R255. -/
def Reg.FAB_RX_STATUS : Nat := 0x20040050
/-- R255. -/
def Reg.FAB_RX_HEAD : Nat := 0x20040054
/-- R255. -/
def Reg.FAB_RX_ARG0 : Nat := 0x20040058
/-- R255. -/
def Reg.FAB_RX_ARG1 : Nat := 0x2004005C
/-- R255. -/
def Reg.FAB_RT (d : Nat) : Nat := 0x20040100 + 0x4 * d
/-- R255. -/
def Reg.FAB_BC (s : Nat) : Nat := 0x20040200 + 0x4 * s
/-- R255. -/
def Reg.FAB_P_CFG (p : Nat) : Nat := 0x20041000 + 0x100 * p
/-- R255. -/
def Reg.FAB_P_PSER_LO (p : Nat) : Nat := 0x20041004 + 0x100 * p
/-- R255. -/
def Reg.FAB_P_PSER_HI (p : Nat) : Nat := 0x20041008 + 0x100 * p
/-- R255. -/
def Reg.FAB_P_STATUS (p : Nat) : Nat := 0x20041010 + 0x100 * p
/-- R255. -/
def Reg.FAB_P_PEER (p : Nat) : Nat := 0x20041014 + 0x100 * p
/-- R255. -/
def Reg.FAB_P_SER_LO (p : Nat) : Nat := 0x20041018 + 0x100 * p
/-- R255. -/
def Reg.FAB_P_SER_HI (p : Nat) : Nat := 0x2004101C + 0x100 * p
/-- R255. -/
def Reg.FAB_P_LAT (p : Nat) : Nat := 0x20041020 + 0x100 * p
/-- R255. -/
def Reg.FAB_P_SKEW (p : Nat) : Nat := 0x20041024 + 0x100 * p
/-- R255. -/
def Reg.FAB_P_LOAD (p : Nat) : Nat := 0x20041028 + 0x100 * p
/-- R255. -/
def Reg.FAB_P_TRUMP (p : Nat) : Nat := 0x20041030 + 0x100 * p
/-- R255. -/
def Reg.FAB_P_PKT (p : Nat) : Nat := 0x20041034 + 0x100 * p
/-- R255. -/
def Reg.FAB_P_MISC (p : Nat) : Nat := 0x20041038 + 0x100 * p
/-- R255. -/
def Reg.FAB_P_FRAME (p : Nat) : Nat := 0x2004103C + 0x100 * p
/-- R255. -/
def Reg.FAB_FLOW_CFG (f : Nat) : Nat := 0x20048000 + 0x8 * f
/-- R255. -/
def Reg.FAB_FLOW_STATE (f : Nat) : Nat := 0x20048004 + 0x8 * f
/-- R279. -/
def Reg.MEM_STATUS : Nat := 0x10070000
/-- R279. -/
def Reg.MEM_CFG : Nat := 0x10070004
/-- R279. -/
def Reg.MEM_WQ : Nat := 0x10070008
/-- R279. -/
def Reg.MEM_RDT : Nat := 0x1007000C
/-- R279. -/
def Reg.MEM_FREQ : Nat := 0x10070010
/-- R279. -/
def Reg.MEM_TRAIN : Nat := 0x10070014
/-- R279. -/
def Reg.MEM_INT_STATUS : Nat := 0x10070020
/-- R279. -/
def Reg.MEM_INT_EN : Nat := 0x10070024
/-- R279. -/
def Reg.MEM_CHK_CNT : Nat := 0x10070030
/-- R279. -/
def Reg.MEM_CHK_ADDR_LO : Nat := 0x10070034
/-- R279. -/
def Reg.MEM_CHK_ADDR_HI : Nat := 0x10070038
/-- R279. -/
def Reg.MEM_CHK_INFO : Nat := 0x1007003C
/-- R279. -/
def Reg.MEM_SCRUB : Nat := 0x10070040
/-- R279. -/
def Reg.MEM_SCRUB_PTR : Nat := 0x10070044
/-- R279. -/
def Reg.MEM_TIM0 : Nat := 0x10070050
/-- R279. -/
def Reg.MEM_TIM1 : Nat := 0x10070054
/-- R279. -/
def Reg.MEM_TIM2 : Nat := 0x10070058
/-- R279. -/
def Reg.MEM_SC_STATUS (u : Nat) : Nat := 0x10070100 + 0x40 * u
/-- R279. -/
def Reg.MEM_SC_ALERT (u : Nat) : Nat := 0x10070104 + 0x40 * u
/-- R279. -/
def Reg.MEM_SC_RDT (u : Nat) : Nat := 0x10070108 + 0x40 * u
/-- R279. -/
def Reg.MEM_SC_DRAIN (u : Nat) : Nat := 0x1007010C + 0x40 * u
/-- R279. -/
def Reg.MEM_RES (p : Nat) : Nat := 0x10070400 + 0x8 * p
/-- R279. -/
def Reg.MEM_USED (p : Nat) : Nat := 0x10070404 + 0x8 * p
/-- R297. -/
def Reg.TIM_STATUS : Nat := 0x10080000
/-- R297. -/
def Reg.TIM_INCR : Nat := 0x10080004
/-- R297. -/
def Reg.TIM_NOW_LO : Nat := 0x10080008
/-- R297. -/
def Reg.TIM_NOW_HI : Nat := 0x1008000C
/-- R297. -/
def Reg.TIM_EPOCH : Nat := 0x10080010
/-- R297. -/
def Reg.TIM_PTP_OFF_LO : Nat := 0x10080014
/-- R297. -/
def Reg.TIM_PTP_OFF_HI : Nat := 0x10080018
/-- R297. -/
def Reg.TIM_SERVO : Nat := 0x1008001C
/-- R297. -/
def Reg.TIM_GM_ID_LO : Nat := 0x10080020
/-- R297. -/
def Reg.TIM_GM_ID_HI : Nat := 0x10080024
/-- R297. -/
def Reg.TIM_GM_DOM : Nat := 0x10080028
/-- R297. -/
def Reg.TIM_CNT : Nat := 0x1008002C
/-- R297. -/
def Reg.TIM_INT_STATUS : Nat := 0x10080030
/-- R297. -/
def Reg.TIM_INT_EN : Nat := 0x10080034
/-- R297. -/
def Reg.TIM_UTC : Nat := 0x10080038
/-- R297. -/
def Reg.TIM_TRG_CFG (c : Nat) : Nat := 0x10080100 + 0x10 * c
/-- R297. -/
def Reg.TIM_TRG_START (c : Nat) : Nat := 0x10080104 + 0x10 * c
/-- R297. -/
def Reg.TIM_TRG_PER (c : Nat) : Nat := 0x10080108 + 0x10 * c
/-- R297. -/
def Reg.TIM_TRG_STAT (c : Nat) : Nat := 0x1008010C + 0x10 * c
/-- R297. -/
def Reg.TIM_PPS_CFG (k : Nat) : Nat := 0x10080800 + 0x10 * k
/-- R297. -/
def Reg.TIM_PPS_START (k : Nat) : Nat := 0x10080804 + 0x10 * k
/-- R297. -/
def Reg.TIM_PPS_PER (k : Nat) : Nat := 0x10080808 + 0x10 * k
/-- R297. -/
def Reg.TIM_PPS_STAT (k : Nat) : Nat := 0x1008080C + 0x10 * k
/-- R297. -/
def Reg.TIM_NP_CFG (n : Nat) : Nat := 0x10081000 + 0x100 * n
/-- R297. -/
def Reg.TIM_NP_MAC_LO (n : Nat) : Nat := 0x10081004 + 0x100 * n
/-- R297. -/
def Reg.TIM_NP_MAC_HI (n : Nat) : Nat := 0x10081008 + 0x100 * n
/-- R297. -/
def Reg.TIM_NP_LAT (n : Nat) : Nat := 0x1008100C + 0x100 * n
/-- R297. -/
def Reg.TIM_NP_STATUS (n : Nat) : Nat := 0x10081010 + 0x100 * n
/-- R297. -/
def Reg.TIM_NP_DROP (n : Nat) : Nat := 0x10081014 + 0x100 * n
/-- R297. -/
def Reg.TIM_NP_ERR (n : Nat) : Nat := 0x10081018 + 0x100 * n
/-- R297. -/
def Reg.TIM_NP_TXTS_LO (n : Nat) : Nat := 0x10081020 + 0x100 * n
/-- R297. -/
def Reg.TIM_NP_TXTS_HI (n : Nat) : Nat := 0x10081024 + 0x100 * n
/-- R297. -/
def Reg.TIM_NP_TXTS_ID (n : Nat) : Nat := 0x10081028 + 0x100 * n
/-- R297. -/
def Reg.TIM_NP_MC_LO (n f : Nat) : Nat := 0x10081040 + 0x100 * n + 0x8 * f
/-- R297. -/
def Reg.TIM_NP_MC_HI (n f : Nat) : Nat := 0x10081044 + 0x100 * n + 0x8 * f
/-- R320. -/
def Reg.TCH_STATUS : Nat := 0x10090000
/-- R320. -/
def Reg.TCH_INT_STATUS : Nat := 0x10090010
/-- R320. -/
def Reg.TCH_INT_EN : Nat := 0x10090014
/-- R320. -/
def Reg.TCH_P_CFG0 (p : Nat) : Nat := 0x10090100 + 0x100 * p
/-- R320. -/
def Reg.TCH_P_CFG1 (p : Nat) : Nat := 0x10090104 + 0x100 * p
/-- R320. -/
def Reg.TCH_P_THR (p : Nat) : Nat := 0x10090108 + 0x100 * p
/-- R320. -/
def Reg.TCH_P_THR2 (p : Nat) : Nat := 0x1009010C + 0x100 * p
/-- R320. -/
def Reg.TCH_P_STATE (p : Nat) : Nat := 0x10090120 + 0x100 * p
/-- R320. -/
def Reg.TCH_P_NODES (p : Nat) : Nat := 0x10090124 + 0x100 * p
/-- R320. -/
def Reg.TCH_P_FAULT (p : Nat) : Nat := 0x10090128 + 0x100 * p
/-- R320. -/
def Reg.TCH_P_CNT0 (p : Nat) : Nat := 0x10090130 + 0x100 * p
/-- R320. -/
def Reg.TCH_P_CNT1 (p : Nat) : Nat := 0x10090134 + 0x100 * p
/-- R320. -/
def Reg.TCH_P_CTRL (p : Nat) : Nat := 0x10090138 + 0x100 * p
/-- R320. -/
def Reg.TCH_P_RPT (p : Nat) : Nat := 0x10090140 + 0x100 * p
/-- R320. -/
def Reg.TCH_P_NSEL (p : Nat) : Nat := 0x10090150 + 0x100 * p
/-- R320. -/
def Reg.TCH_P_NVAL (p : Nat) : Nat := 0x10090154 + 0x100 * p
/-- R320. -/
def Reg.TCH_P_NREF (p : Nat) : Nat := 0x10090158 + 0x100 * p
/-- R320. -/
def Reg.TCH_P_NSTAT (p : Nat) : Nat := 0x1009015C + 0x100 * p
/-- R320. -/
def Reg.TCH_RPT (p r k : Nat) : Nat := 0x10094000 + 0x1000 * p + 0xC0 * r + 0x4 * k
/-- R337. -/
def Reg.AUD_STATUS : Nat := 0x100A0000
/-- R337. -/
def Reg.AUD_INT_STATUS : Nat := 0x100A0010
/-- R337. -/
def Reg.AUD_INT_EN : Nat := 0x100A0014
/-- R337. -/
def Reg.AUD_G_CFG (g : Nat) : Nat := 0x100A0040 + 0x4 * g
/-- R337. -/
def Reg.AUD_G_T0 (g : Nat) : Nat := 0x100A0060 + 0x4 * g
/-- R337. -/
def Reg.AUD_G_BLOCK (g : Nat) : Nat := 0x100A0080 + 0x4 * g
/-- R337. -/
def Reg.AUD_ALARM_CFG : Nat := 0x100A00A0
/-- R337. -/
def Reg.AUD_ALARM_CAD : Nat := 0x100A00A4
/-- R337. -/
def Reg.AUD_ALARM_STAT : Nat := 0x100A00A8
/-- R337. -/
def Reg.AUD_P_CFG (p : Nat) : Nat := 0x100A0100 + 0x40 * p
/-- R337. -/
def Reg.AUD_P_RING_LO (p : Nat) : Nat := 0x100A0104 + 0x40 * p
/-- R337. -/
def Reg.AUD_P_RING_HI (p : Nat) : Nat := 0x100A0108 + 0x40 * p
/-- R337. -/
def Reg.AUD_P_STATE (p : Nat) : Nat := 0x100A010C + 0x40 * p
/-- R337. -/
def Reg.AUD_P_BLOCK (p : Nat) : Nat := 0x100A0110 + 0x40 * p
/-- R337. -/
def Reg.AUD_P_CNT0 (p : Nat) : Nat := 0x100A0114 + 0x40 * p
/-- R337. -/
def Reg.AUD_P_CNT1 (p : Nat) : Nat := 0x100A0118 + 0x40 * p
/-- R337. -/
def Reg.AUD_P_CNT2 (p : Nat) : Nat := 0x100A011C + 0x40 * p
/-- R337. -/
def Reg.AUD_P_RATE (p : Nat) : Nat := 0x100A0120 + 0x40 * p
/-- R337. -/
def Reg.AUD_P_CTRL (p : Nat) : Nat := 0x100A0124 + 0x40 * p
/-- R356. -/
def Reg.CMD_IN_STATUS : Nat := 0x100B0000
/-- R356. -/
def Reg.CMD_IN_SRC : Nat := 0x100B0004
/-- R356. -/
def Reg.CMD_IN_TIME : Nat := 0x100B0008
/-- R356. -/
def Reg.CMD_IN_PORT : Nat := 0x100B000C
/-- R356. -/
def Reg.CMD_IN_DATA (k : Nat) : Nat := 0x100B1000 + 0x4 * k
/-- R356. -/
def Reg.CMD_CNT : Nat := 0x100B0010
/-- R356. -/
def Reg.HST_LINK : Nat := 0x100C0000
/-- R356. -/
def Reg.HST_MB_STATUS : Nat := 0x100C0004
/-- R356. -/
def Reg.HST_MB_DOORBELL : Nat := 0x100C0008
/-- R356. -/
def Reg.HST_MB_RESP : Nat := 0x100C000C
/-- R356. -/
def Reg.HST_INT_STATUS : Nat := 0x100C0010
/-- R356. -/
def Reg.HST_INT_EN : Nat := 0x100C0014
/-- R356. -/
def Reg.HST_CNT : Nat := 0x100C0018
/-- R357. -/
def Reg.CHK_CFG (n : Nat) : Nat := 0x100D0000 + 0x40 * n
/-- R357. -/
def Reg.CHK_POLY (n : Nat) : Nat := 0x100D0004 + 0x40 * n
/-- R357. -/
def Reg.CHK_INIT (n : Nat) : Nat := 0x100D0008 + 0x40 * n
/-- R357. -/
def Reg.CHK_XOR (n : Nat) : Nat := 0x100D000C + 0x40 * n
/-- R357. -/
def Reg.CHK_DATA8 (n : Nat) : Nat := 0x100D0010 + 0x40 * n
/-- R357. -/
def Reg.CHK_DATA16 (n : Nat) : Nat := 0x100D0014 + 0x40 * n
/-- R357. -/
def Reg.CHK_DATA32 (n : Nat) : Nat := 0x100D0018 + 0x40 * n
/-- R357. -/
def Reg.CHK_RUN (n : Nat) : Nat := 0x100D001C + 0x40 * n
/-- R357. -/
def Reg.CHK_RESULT (n : Nat) : Nat := 0x100D0020 + 0x40 * n
/-- R357. -/
def Reg.CHK_COUNT (n : Nat) : Nat := 0x100D0024 + 0x40 * n
/-- R357. -/
def Reg.CHK_ALIVE (n : Nat) : Nat := 0x100D0028 + 0x40 * n
/-- R384. -/
def Reg.MTX_CTRL : Nat := 0x10000000
/-- R384. -/
def Reg.MTX_STARVE : Nat := 0x10000008
/-- R384. -/
def Reg.MTX_PRI_LO (t : Nat) : Nat := 0x10000100 + 0x8 * t
/-- R384. -/
def Reg.MTX_PRI_HI (t : Nat) : Nat := 0x10000104 + 0x8 * t
/-- R384. -/
def Reg.MPU_CTRL (m : Nat) : Nat := 0x10010000 + 0x100 * m
/-- R384. -/
def Reg.MPU_RGN_CTL (m r : Nat) : Nat := 0x10010010 + 0x100 * m + 0x8 * r
/-- R384. -/
def Reg.MPU_RGN_BASE (m r : Nat) : Nat := 0x10010014 + 0x100 * m + 0x8 * r
/-- R384. -/
def Reg.MPU_GLOBAL : Nat := 0x10010F00
/-- R384. -/
def Reg.FUS_LIFECYCLE : Nat := 0x10020000
/-- R384. -/
def Reg.FUS_SERIAL_LO : Nat := 0x10020004
/-- R384. -/
def Reg.FUS_SERIAL_HI : Nat := 0x10020008
/-- R384. -/
def Reg.FUS_ROLLBACK : Nat := 0x1002000C
/-- R384. -/
def Reg.FUS_KEYSTAT : Nat := 0x10020010
/-- R384. -/
def Reg.FUS_DBG_POLICY : Nat := 0x10020014
/-- R384. -/
def Reg.FUS_DBG_STATUS : Nat := 0x10020018
/-- R384. -/
def Reg.FUS_DBG_NONCE_LO : Nat := 0x1002001C
/-- R384. -/
def Reg.FUS_DBG_NONCE_HI : Nat := 0x10020020
/-- R384. -/
def Reg.FUS_KEYHASH1 (w : Nat) : Nat := 0x10020040 + 0x4 * w
/-- R384. -/
def Reg.FUS_KEYHASH2 (w : Nat) : Nat := 0x10020060 + 0x4 * w
/-- R384. -/
def Reg.FUS_SOMAP_BASE (e : Nat) : Nat := 0x10020080 + 0x8 * e
/-- R384. -/
def Reg.FUS_SOMAP_ATTR (e : Nat) : Nat := 0x10020084 + 0x8 * e
/-- R384. -/
def Reg.FUS_PROG_CTRL : Nat := 0x10020100
/-- R384. -/
def Reg.FUS_PROG_DATA : Nat := 0x10020104
/-- R384. -/
def Reg.FUS_PROG_STATUS : Nat := 0x10020108
/-- R384. -/
def Reg.BKR_STATUS : Nat := 0x10030000
/-- R384. -/
def Reg.BKR_WDT : Nat := 0x10030004
/-- R384. -/
def Reg.BKR_WDT_KICK : Nat := 0x10030008
/-- R384. -/
def Reg.BKR_RESET : Nat := 0x1003000C
/-- R384. -/
def Reg.BKR_HB : Nat := 0x10030010
/-- R409. -/
def Reg.BKR_DEV_STATE : Nat := 0x10030020
/-- R409. -/
def Reg.BKR_RST_CAUSE : Nat := 0x10030024
/-- R409. -/
def Reg.BKR_BOOT : Nat := 0x10030028
/-- R409. -/
def Reg.BKR_BOOT_ERR : Nat := 0x1003002C
/-- R409. -/
def Reg.BKR_FW_VER : Nat := 0x10030030
/-- R409. -/
def Reg.BKR_IMG_ID : Nat := 0x10030038
/-- R409. -/
def Reg.BKR_IMG : Nat := 0x10030034
/-- R409. -/
def Reg.BKR_HOLD_INFO : Nat := 0x1003003C
/-- R409. -/
def Reg.BKR_UPD_STATUS : Nat := 0x10030040
/-- R409. -/
def Reg.BKR_UPD_NEXT : Nat := 0x10030044
/-- R409. -/
def Reg.BKR_TRIAL : Nat := 0x10030048
/-- R409. -/
def Reg.BKR_DEV_RESET : Nat := 0x1003004C
/-- R433. -/
def Reg.SCO_STATUS : Nat := 0x100E0000
/-- R433. -/
def Reg.SCO_FAULTN : Nat := 0x100E0004
/-- R433. -/
def Reg.SCO_SAFE_TIME : Nat := 0x100E0008
/-- R433. -/
def Reg.SCO_SAFE_TICK : Nat := 0x100E000C
/-- R433. -/
def Reg.SCO_COND : Nat := 0x100E0010
/-- R433. -/
def Reg.SCO_ALM_ON_LO : Nat := 0x100E0014
/-- R433. -/
def Reg.SCO_ALM_ON_HI : Nat := 0x100E0018
/-- R433. -/
def Reg.SCO_HB : Nat := 0x100E0020
/-- R433. -/
def Reg.SCO_TEMP : Nat := 0x100E0024
/-- R433. -/
def Reg.SCO_TONE_CFG : Nat := 0x100E0030
/-- R433. -/
def Reg.SCO_SAFE_CFG : Nat := 0x100E0034
/-- R433. -/
def Reg.SCO_ALM_CFG (o a : Nat) : Nat := 0x100E0100 + 0x40 * o + 0x10 * a
/-- R433. -/
def Reg.SCO_ALM_POS (o a : Nat) : Nat := 0x100E0104 + 0x40 * o + 0x10 * a
/-- R433. -/
def Reg.SCO_ALM_SIZE (o a : Nat) : Nat := 0x100E0108 + 0x40 * o + 0x10 * a
/-- R433. -/
def Reg.SCO_ALMCHK (o : Nat) : Nat := 0x100E0500 + 0x4 * o
/-- R434. -/
def Reg.LOG_STATUS : Nat := 0x100F0000
/-- R434. -/
def Reg.LOG_SEQ : Nat := 0x100F0004
/-- R434. -/
def Reg.LOG_PERM_NEXT : Nat := 0x100F0008
/-- R434. -/
def Reg.LOG_RING_NEXT : Nat := 0x100F000C
/-- R434. -/
def Reg.LOG_START : Nat := 0x100F0010
/-- R434. -/
def Reg.LOG_DROP : Nat := 0x100F0014

def Fld.DLR_STATUS_DEALING : Fld := ⟨Reg.DLR_STATUS, 0, 1⟩
def Fld.DLR_STATUS_TICK_LOCKED : Fld := ⟨Reg.DLR_STATUS, 1, 1⟩
def Fld.DLR_STATUS_REF_LOST : Fld := ⟨Reg.DLR_STATUS, 2, 1⟩
def Fld.DLR_STATUS_LAYOUT : Fld := ⟨Reg.DLR_STATUS, 8, 8⟩
def Fld.DLR_STATUS_CYCLE_POS : Fld := ⟨Reg.DLR_STATUS, 16, 4⟩
def Fld.DLR_STATUS_PENDING : Fld := ⟨Reg.DLR_STATUS, 20, 3⟩
def Fld.DLR_TICK_CFG_TICK_SRC : Fld := ⟨Reg.DLR_TICK_CFG, 0, 2⟩
def Fld.DLR_TICK_NUM_NUM : Fld := ⟨Reg.DLR_TICK_NUM, 0, 32⟩
def Fld.DLR_TICK_DEN_DEN : Fld := ⟨Reg.DLR_TICK_DEN, 0, 8⟩
def Fld.DLR_TICK_FIRST_FIRST : Fld := ⟨Reg.DLR_TICK_FIRST, 0, 32⟩
def Fld.DLR_TICK_COUNT_COUNT : Fld := ⟨Reg.DLR_TICK_COUNT, 0, 32⟩
def Fld.DLR_TICK_TIME_TIME : Fld := ⟨Reg.DLR_TICK_TIME, 0, 32⟩
def Fld.DLR_OVR_CNT_COUNT (c : Nat) : Fld := ⟨Reg.DLR_OVR_CNT c, 0, 16⟩
def Fld.DLR_OVR_LAST_CLASS : Fld := ⟨Reg.DLR_OVR_LAST, 0, 4⟩
def Fld.DLR_OVR_LAST_INDEX : Fld := ⟨Reg.DLR_OVR_LAST, 4, 8⟩
def Fld.DLR_OVR_LAST_TICK : Fld := ⟨Reg.DLR_OVR_LAST, 16, 16⟩
def Fld.DLR_ADM_STATUS_CODE : Fld := ⟨Reg.DLR_ADM_STATUS, 0, 8⟩
def Fld.DLR_ADM_STATUS_REASON : Fld := ⟨Reg.DLR_ADM_STATUS, 8, 4⟩
def Fld.DLR_ADM_STATUS_CLASS : Fld := ⟨Reg.DLR_ADM_STATUS, 12, 4⟩
def Fld.DLR_ADM_STATUS_INDEX : Fld := ⟨Reg.DLR_ADM_STATUS, 16, 8⟩
def Fld.DLR_LOAD_DRAM : Fld := ⟨Reg.DLR_LOAD, 0, 10⟩
def Fld.DLR_LOAD_PEAK_ENGINE : Fld := ⟨Reg.DLR_LOAD, 16, 10⟩
def Fld.DLR_INT_STATUS_OVERRUN : Fld := ⟨Reg.DLR_INT_STATUS, 0, 1⟩
def Fld.DLR_INT_STATUS_ADM_REFUSED : Fld := ⟨Reg.DLR_INT_STATUS, 1, 1⟩
def Fld.DLR_INT_STATUS_TICK : Fld := ⟨Reg.DLR_INT_STATUS, 2, 1⟩
def Fld.DLR_INT_EN_EN : Fld := ⟨Reg.DLR_INT_EN, 0, 3⟩
def Fld.CMP_LV_STATUS_EXT_MODE : Fld := ⟨Reg.CMP_LV_STATUS, 0, 1⟩
def Fld.CMP_LV_STATUS_SCORER_OK : Fld := ⟨Reg.CMP_LV_STATUS, 1, 1⟩
def Fld.CMP_LV_STATUS_SCORER_MISS : Fld := ⟨Reg.CMP_LV_STATUS, 8, 8⟩
def Fld.CMP_LV_STATUS_FOLDED : Fld := ⟨Reg.CMP_LV_STATUS, 16, 10⟩
def Fld.CMP_LV_TICK_EPOCH_EPOCH : Fld := ⟨Reg.CMP_LV_TICK_EPOCH, 0, 32⟩
def Fld.CMP_LV_DISAGREE_SCORER_ONLY : Fld := ⟨Reg.CMP_LV_DISAGREE, 0, 16⟩
def Fld.CMP_LV_DISAGREE_COMPOSER_ONLY : Fld := ⟨Reg.CMP_LV_DISAGREE, 16, 16⟩
def Fld.CMP_LV_DIS_LAST_TILE : Fld := ⟨Reg.CMP_LV_DIS_LAST, 0, 9⟩
def Fld.CMP_LV_DIS_LAST_CMP_STATE : Fld := ⟨Reg.CMP_LV_DIS_LAST, 9, 2⟩
def Fld.CMP_LV_DIS_LAST_SCO_STATE : Fld := ⟨Reg.CMP_LV_DIS_LAST, 11, 2⟩
def Fld.CMP_LV_DIS_LAST_TICK : Fld := ⟨Reg.CMP_LV_DIS_LAST, 16, 16⟩
def Fld.CMP_LV_INT_STATUS_FOLD : Fld := ⟨Reg.CMP_LV_INT_STATUS, 0, 1⟩
def Fld.CMP_LV_INT_STATUS_UNFOLD : Fld := ⟨Reg.CMP_LV_INT_STATUS, 1, 1⟩
def Fld.CMP_LV_INT_STATUS_DISAGREE : Fld := ⟨Reg.CMP_LV_INT_STATUS, 2, 1⟩
def Fld.CMP_LV_INT_STATUS_SINK_MISS : Fld := ⟨Reg.CMP_LV_INT_STATUS, 3, 1⟩
def Fld.CMP_LV_INT_STATUS_BLANK : Fld := ⟨Reg.CMP_LV_INT_STATUS, 4, 1⟩
def Fld.CMP_LV_INT_STATUS_MAP_FAULT : Fld := ⟨Reg.CMP_LV_INT_STATUS, 5, 1⟩
def Fld.CMP_LV_INT_EN_EN : Fld := ⟨Reg.CMP_LV_INT_EN, 0, 6⟩
def Fld.CMP_LV_MAP_FAULT_COUNT : Fld := ⟨Reg.CMP_LV_MAP_FAULT, 0, 16⟩
def Fld.CMP_LV_MAP_FAULT_LAST_SRC : Fld := ⟨Reg.CMP_LV_MAP_FAULT, 16, 10⟩
def Fld.CMP_LV_OUT_SINK_MODE (o : Nat) : Fld := ⟨Reg.CMP_LV_OUT o, 0, 2⟩
def Fld.CMP_LV_OUT_SINK_SUPPORTED (o : Nat) : Fld := ⟨Reg.CMP_LV_OUT o, 2, 1⟩
def Fld.CMP_LV_OUT_SINK_ACTIVE (o : Nat) : Fld := ⟨Reg.CMP_LV_OUT o, 3, 1⟩
def Fld.CMP_LV_OUT_MISS_LIMIT (o : Nat) : Fld := ⟨Reg.CMP_LV_OUT o, 4, 4⟩
def Fld.CMP_LV_OUT_MISS_RUN (o : Nat) : Fld := ⟨Reg.CMP_LV_OUT o, 8, 4⟩
def Fld.CMP_LV_OUT_SCAN_MISMATCH (o : Nat) : Fld := ⟨Reg.CMP_LV_OUT o, 12, 1⟩
def Fld.CMP_LV_OUT_BLANKED (o : Nat) : Fld := ⟨Reg.CMP_LV_OUT o, 13, 1⟩
def Fld.CMP_LV_OUT_BLANK_CAUSE (o : Nat) : Fld := ⟨Reg.CMP_LV_OUT o, 16, 3⟩
def Fld.CMP_LV_SCAN_S_ACT (o : Nat) : Fld := ⟨Reg.CMP_LV_SCAN o, 0, 32⟩
def Fld.CMP_LV_SINKCRC_CRC_G (o : Nat) : Fld := ⟨Reg.CMP_LV_SINKCRC o, 0, 16⟩
def Fld.CMP_LV_SINKCRC_COUNT (o : Nat) : Fld := ⟨Reg.CMP_LV_SINKCRC o, 16, 4⟩
def Fld.CMP_LV_CON0_AGE_BOUND (l : Nat) : Fld := ⟨Reg.CMP_LV_CON0 l, 0, 20⟩
def Fld.CMP_LV_CON0_FREEZE_CLASS (l : Nat) : Fld := ⟨Reg.CMP_LV_CON0 l, 20, 2⟩
def Fld.CMP_LV_CON0_FREEZE_F (l : Nat) : Fld := ⟨Reg.CMP_LV_CON0 l, 22, 4⟩
def Fld.CMP_LV_CON0_UNFOLD_N (l : Nat) : Fld := ⟨Reg.CMP_LV_CON0 l, 26, 4⟩
def Fld.CMP_LV_CON1_CONCEAL_MAX (l : Nat) : Fld := ⟨Reg.CMP_LV_CON1 l, 0, 10⟩
def Fld.CMP_LV_CON1_CONCEAL_TICKS (l : Nat) : Fld := ⟨Reg.CMP_LV_CON1 l, 10, 8⟩
def Fld.CMP_LV_CON1_STRICT (l : Nat) : Fld := ⟨Reg.CMP_LV_CON1 l, 18, 1⟩
def Fld.CMP_LV_CON1_TELL_MODE (l : Nat) : Fld := ⟨Reg.CMP_LV_CON1 l, 19, 1⟩
def Fld.CMP_LV_CON1_TELL_CORNER (l : Nat) : Fld := ⟨Reg.CMP_LV_CON1 l, 20, 2⟩
def Fld.CMP_LV_CON1_FIRST_N (l : Nat) : Fld := ⟨Reg.CMP_LV_CON1 l, 22, 4⟩
def Fld.CMP_LV_CON2_TELL_WINDOW (l : Nat) : Fld := ⟨Reg.CMP_LV_CON2 l, 0, 11⟩
def Fld.CMP_LV_STATE_STATE (l : Nat) : Fld := ⟨Reg.CMP_LV_STATE l, 0, 2⟩
def Fld.CMP_LV_STATE_REASON (l : Nat) : Fld := ⟨Reg.CMP_LV_STATE l, 2, 4⟩
def Fld.CMP_LV_STATE_MASK (l : Nat) : Fld := ⟨Reg.CMP_LV_STATE l, 6, 9⟩
def Fld.CMP_LV_STATE_SCORER_HOLD (l : Nat) : Fld := ⟨Reg.CMP_LV_STATE l, 15, 1⟩
def Fld.CMP_LV_STATE_GOOD_RUN (l : Nat) : Fld := ⟨Reg.CMP_LV_STATE l, 16, 4⟩
def Fld.CMP_LV_STATE_SAME_RUN (l : Nat) : Fld := ⟨Reg.CMP_LV_STATE l, 20, 4⟩
def Fld.CMP_LV_STATE_CONCEAL_RUN (l : Nat) : Fld := ⟨Reg.CMP_LV_STATE l, 24, 8⟩
def Fld.CMP_LV_AGE_AGE (l : Nat) : Fld := ⟨Reg.CMP_LV_AGE l, 0, 32⟩
def Fld.CMP_LV_SEQ_SEQ (l : Nat) : Fld := ⟨Reg.CMP_LV_SEQ l, 0, 32⟩
def Fld.CMP_LV_FOLDS_COUNT (l : Nat) : Fld := ⟨Reg.CMP_LV_FOLDS l, 0, 16⟩
def Fld.CMP_LV_LASTFOLD_REASON (l : Nat) : Fld := ⟨Reg.CMP_LV_LASTFOLD l, 0, 4⟩
def Fld.CMP_LV_LASTFOLD_TICK (l : Nat) : Fld := ⟨Reg.CMP_LV_LASTFOLD l, 4, 28⟩
def Fld.CMP_COMMIT_GO : Fld := ⟨Reg.CMP_COMMIT, 0, 1⟩
def Fld.CMP_COMMIT_PENDING : Fld := ⟨Reg.CMP_COMMIT, 1, 1⟩
def Fld.CMP_COMMIT_WALL_ARMED : Fld := ⟨Reg.CMP_COMMIT, 2, 1⟩
def Fld.CMP_COMMIT_STATUS_CODE : Fld := ⟨Reg.CMP_COMMIT_STATUS, 0, 8⟩
def Fld.CMP_COMMIT_STATUS_REASON : Fld := ⟨Reg.CMP_COMMIT_STATUS, 8, 4⟩
def Fld.CMP_COMMIT_STATUS_WR_DROP : Fld := ⟨Reg.CMP_COMMIT_STATUS, 16, 8⟩
def Fld.CMP_COMMIT_TICK_TICK : Fld := ⟨Reg.CMP_COMMIT_TICK, 0, 32⟩
def Fld.CMP_INT_STATUS_COMMIT_DONE : Fld := ⟨Reg.CMP_INT_STATUS, 0, 1⟩
def Fld.CMP_INT_STATUS_COMMIT_REFUSED : Fld := ⟨Reg.CMP_INT_STATUS, 1, 1⟩
def Fld.CMP_INT_STATUS_LINE_MASKED : Fld := ⟨Reg.CMP_INT_STATUS, 2, 1⟩
def Fld.CMP_INT_STATUS_BUF_BAD : Fld := ⟨Reg.CMP_INT_STATUS, 3, 1⟩
def Fld.CMP_INT_STATUS_EARLY_FREE : Fld := ⟨Reg.CMP_INT_STATUS, 4, 1⟩
def Fld.CMP_INT_STATUS_POOL_EMPTY : Fld := ⟨Reg.CMP_INT_STATUS, 5, 1⟩
def Fld.CMP_INT_STATUS_WALL_DONE : Fld := ⟨Reg.CMP_INT_STATUS, 6, 1⟩
def Fld.CMP_INT_STATUS_WALL_ABORT : Fld := ⟨Reg.CMP_INT_STATUS, 7, 1⟩
def Fld.CMP_INT_STATUS_LEASE_STUCK : Fld := ⟨Reg.CMP_INT_STATUS, 8, 1⟩
def Fld.CMP_INT_EN_EN : Fld := ⟨Reg.CMP_INT_EN, 0, 9⟩
def Fld.CMP_TLN_BASE_BASE (c : Nat) : Fld := ⟨Reg.CMP_TLN_BASE c, 0, 28⟩
def Fld.CMP_TLN_SIZE_SIZE (c : Nat) : Fld := ⟨Reg.CMP_TLN_SIZE c, 0, 16⟩
def Fld.CMP_TLN_COUNT_COUNT (c : Nat) : Fld := ⟨Reg.CMP_TLN_COUNT c, 0, 14⟩
def Fld.CMP_TLN_COUNT_FREE (c : Nat) : Fld := ⟨Reg.CMP_TLN_COUNT c, 16, 14⟩
def Fld.CMP_TLN_EVT_EARLY_FREE : Fld := ⟨Reg.CMP_TLN_EVT, 0, 8⟩
def Fld.CMP_TLN_EVT_FREE_ERR : Fld := ⟨Reg.CMP_TLN_EVT, 8, 8⟩
def Fld.CMP_TLN_EVT_POOL_EMPTY : Fld := ⟨Reg.CMP_TLN_EVT, 16, 8⟩
def Fld.CMP_TLN_EVT_LEASE_STUCK : Fld := ⟨Reg.CMP_TLN_EVT, 24, 8⟩
def Fld.CMP_TLN_FREE_INDEX : Fld := ⟨Reg.CMP_TLN_FREE, 0, 13⟩
def Fld.CMP_TLN_DSEL_INDEX : Fld := ⟨Reg.CMP_TLN_DSEL, 0, 13⟩
def Fld.CMP_TLN_DSTATE_STATE : Fld := ⟨Reg.CMP_TLN_DSTATE, 0, 3⟩
def Fld.CMP_TLN_DSTATE_BAD : Fld := ⟨Reg.CMP_TLN_DSTATE, 3, 1⟩
def Fld.CMP_TLN_DSTATE_CLASS : Fld := ⟨Reg.CMP_TLN_DSTATE, 4, 3⟩
def Fld.CMP_TLN_DSTATE_SRC : Fld := ⟨Reg.CMP_TLN_DSTATE, 16, 16⟩
def Fld.CMP_TLN_DHOLD_HOLDERS : Fld := ⟨Reg.CMP_TLN_DHOLD, 0, 28⟩
def Fld.CMP_TLN_DELIG_ELIG_TIME : Fld := ⟨Reg.CMP_TLN_DELIG, 0, 32⟩
def Fld.CMP_TLN_DTICK_ELIG_TICK : Fld := ⟨Reg.CMP_TLN_DTICK, 0, 32⟩
def Fld.CMP_WALL_REQ_LAYOUT : Fld := ⟨Reg.CMP_WALL_REQ, 0, 8⟩
def Fld.CMP_WALL_TARGET_TARGET : Fld := ⟨Reg.CMP_WALL_TARGET, 0, 32⟩
def Fld.CMP_WALL_GO_GO : Fld := ⟨Reg.CMP_WALL_GO, 0, 1⟩
def Fld.CMP_WALL_STATUS_PHASE : Fld := ⟨Reg.CMP_WALL_STATUS, 0, 3⟩
def Fld.CMP_WALL_STATUS_COORD : Fld := ⟨Reg.CMP_WALL_STATUS, 3, 1⟩
def Fld.CMP_WALL_STATUS_ABORT_NODE : Fld := ⟨Reg.CMP_WALL_STATUS, 8, 6⟩
def Fld.CMP_WALL_STATUS_ABORT_CODE : Fld := ⟨Reg.CMP_WALL_STATUS, 16, 8⟩
def Fld.CMP_WALL_STATUS_ID : Fld := ⟨Reg.CMP_WALL_STATUS, 24, 8⟩
def Fld.CMP_WALL_MEMBERS_LO_NODES : Fld := ⟨Reg.CMP_WALL_MEMBERS_LO, 0, 32⟩
def Fld.CMP_WALL_MEMBERS_HI_NODES : Fld := ⟨Reg.CMP_WALL_MEMBERS_HI, 0, 32⟩
def Fld.CMP_CSC_V_EVEN (m k : Nat) : Fld := ⟨Reg.CMP_CSC m k, 0, 12⟩
def Fld.CMP_CSC_V_ODD (m k : Nat) : Fld := ⟨Reg.CMP_CSC m k, 16, 12⟩
def Fld.CMP_MKP_B (o e : Nat) : Fld := ⟨Reg.CMP_MKP o e, 0, 10⟩
def Fld.CMP_MKP_G (o e : Nat) : Fld := ⟨Reg.CMP_MKP o e, 10, 10⟩
def Fld.CMP_MKP_R (o e : Nat) : Fld := ⟨Reg.CMP_MKP o e, 20, 10⟩
def Fld.CMP_OC_CTRL_EN (o : Nat) : Fld := ⟨Reg.CMP_OC_CTRL o, 0, 1⟩
def Fld.CMP_OC_BG_COLOUR (o : Nat) : Fld := ⟨Reg.CMP_OC_BG o, 0, 30⟩
def Fld.CMP_OC_MKADDR_LO_ADDR_LO (o : Nat) : Fld := ⟨Reg.CMP_OC_MKADDR_LO o, 6, 26⟩
def Fld.CMP_OC_MKADDR_HI_ADDR_HI (o : Nat) : Fld := ⟨Reg.CMP_OC_MKADDR_HI o, 0, 8⟩
def Fld.CMP_OC_MKPITCH_PITCH (o : Nat) : Fld := ⟨Reg.CMP_OC_MKPITCH o, 0, 16⟩
def Fld.CMP_OC_STATUS_VISIBLE (o : Nat) : Fld := ⟨Reg.CMP_OC_STATUS o, 0, 7⟩
def Fld.CMP_OC_STATUS_SCALERS (o : Nat) : Fld := ⟨Reg.CMP_OC_STATUS o, 8, 5⟩
def Fld.CMP_OC_STATUS_RCREDIT (o : Nat) : Fld := ⟨Reg.CMP_OC_STATUS o, 16, 3⟩
def Fld.CMP_OC_LINECHK_MISMATCH (o : Nat) : Fld := ⟨Reg.CMP_OC_LINECHK o, 0, 16⟩
def Fld.CMP_OC_LINECHK_RECOMPUTED (o : Nat) : Fld := ⟨Reg.CMP_OC_LINECHK o, 16, 16⟩
def Fld.CMP_OC_MASKED_LAST_FRAME (o : Nat) : Fld := ⟨Reg.CMP_OC_MASKED o, 0, 12⟩
def Fld.CMP_OC_MASKED_TOTAL (o : Nat) : Fld := ⟨Reg.CMP_OC_MASKED o, 16, 16⟩
def Fld.CMP_OC_MASK_LAST_LINE (o : Nat) : Fld := ⟨Reg.CMP_OC_MASK_LAST o, 0, 13⟩
def Fld.CMP_OC_MASK_LAST_CAUSE (o : Nat) : Fld := ⟨Reg.CMP_OC_MASK_LAST o, 13, 3⟩
def Fld.CMP_OC_MASK_LAST_TICK (o : Nat) : Fld := ⟨Reg.CMP_OC_MASK_LAST o, 16, 16⟩
def Fld.CMP_OC_SKIP_BANDS (o : Nat) : Fld := ⟨Reg.CMP_OC_SKIP o, 0, 16⟩
def Fld.CMP_OC_GPAL_ARGB (o e : Nat) : Fld := ⟨Reg.CMP_OC_GPAL o e, 0, 32⟩
def Fld.CMP_SC_STAT_LAYER (o s : Nat) : Fld := ⟨Reg.CMP_SC_STAT o s, 0, 9⟩
def Fld.CMP_SC_STAT_ASSIGNED (o s : Nat) : Fld := ⟨Reg.CMP_SC_STAT o s, 9, 1⟩
def Fld.CMP_SC_STAT_PAIRED (o s : Nat) : Fld := ⟨Reg.CMP_SC_STAT o s, 10, 1⟩
def Fld.CMP_SC_STAT_UPPER (o s : Nat) : Fld := ⟨Reg.CMP_SC_STAT o s, 11, 1⟩
def Fld.CMP_SC_STAT_PARTNER (o s : Nat) : Fld := ⟨Reg.CMP_SC_STAT o s, 12, 4⟩
def Fld.CMP_SC_STAT_NEED (o s : Nat) : Fld := ⟨Reg.CMP_SC_STAT o s, 16, 16⟩
def Fld.CMP_SC_HSTEP_STEP (o s : Nat) : Fld := ⟨Reg.CMP_SC_HSTEP o s, 0, 32⟩
def Fld.CMP_SC_VSTEP_STEP (o s : Nat) : Fld := ⟨Reg.CMP_SC_VSTEP o s, 0, 32⟩
def Fld.CMP_SC_AVG_H_K (o s : Nat) : Fld := ⟨Reg.CMP_SC_AVG o s, 0, 2⟩
def Fld.CMP_SC_AVG_V_K (o s : Nat) : Fld := ⟨Reg.CMP_SC_AVG o s, 2, 2⟩
def Fld.CMP_GL_CTRL_EN (o g : Nat) : Fld := ⟨Reg.CMP_GL_CTRL o g, 0, 1⟩
def Fld.CMP_GL_CTRL_FORMAT (o g : Nat) : Fld := ⟨Reg.CMP_GL_CTRL o g, 1, 1⟩
def Fld.CMP_GL_CTRL_ALPHA (o g : Nat) : Fld := ⟨Reg.CMP_GL_CTRL o g, 8, 8⟩
def Fld.CMP_GL_ADDR_LO_ADDR_LO (o g : Nat) : Fld := ⟨Reg.CMP_GL_ADDR_LO o g, 6, 26⟩
def Fld.CMP_GL_ADDR_HI_ADDR_HI (o g : Nat) : Fld := ⟨Reg.CMP_GL_ADDR_HI o g, 0, 8⟩
def Fld.CMP_GL_PITCH_PITCH (o g : Nat) : Fld := ⟨Reg.CMP_GL_PITCH o g, 0, 16⟩
def Fld.CMP_GL_POS_X (o g : Nat) : Fld := ⟨Reg.CMP_GL_POS o g, 0, 13⟩
def Fld.CMP_GL_POS_Y (o g : Nat) : Fld := ⟨Reg.CMP_GL_POS o g, 16, 13⟩
def Fld.CMP_GL_SIZE_X (o g : Nat) : Fld := ⟨Reg.CMP_GL_SIZE o g, 0, 13⟩
def Fld.CMP_GL_SIZE_Y (o g : Nat) : Fld := ⟨Reg.CMP_GL_SIZE o g, 16, 13⟩
def Fld.CMP_SG_CFG_SKEW (g : Nat) : Fld := ⟨Reg.CMP_SG_CFG g, 0, 17⟩
def Fld.CMP_SG_STAT_HOLDS (g : Nat) : Fld := ⟨Reg.CMP_SG_STAT g, 0, 16⟩
def Fld.CMP_SG_STAT_HELD_LAST (g : Nat) : Fld := ⟨Reg.CMP_SG_STAT g, 16, 1⟩
def Fld.CMP_VL_CTRL_EN (l : Nat) : Fld := ⟨Reg.CMP_VL_CTRL l, 0, 1⟩
def Fld.CMP_VL_CTRL_OUTPUT (l : Nat) : Fld := ⟨Reg.CMP_VL_CTRL l, 1, 4⟩
def Fld.CMP_VL_CTRL_DIRECT (l : Nat) : Fld := ⟨Reg.CMP_VL_CTRL l, 5, 1⟩
def Fld.CMP_VL_CTRL_Z (l : Nat) : Fld := ⟨Reg.CMP_VL_CTRL l, 6, 6⟩
def Fld.CMP_VL_CTRL_ROT (l : Nat) : Fld := ⟨Reg.CMP_VL_CTRL l, 12, 2⟩
def Fld.CMP_VL_CTRL_MIRROR_H (l : Nat) : Fld := ⟨Reg.CMP_VL_CTRL l, 14, 1⟩
def Fld.CMP_VL_CTRL_MIRROR_V (l : Nat) : Fld := ⟨Reg.CMP_VL_CTRL l, 15, 1⟩
def Fld.CMP_VL_CTRL_CSC (l : Nat) : Fld := ⟨Reg.CMP_VL_CTRL l, 16, 4⟩
def Fld.CMP_VL_CTRL_COEF (l : Nat) : Fld := ⟨Reg.CMP_VL_CTRL l, 20, 2⟩
def Fld.CMP_VL_CTRL_SYNC_GROUP (l : Nat) : Fld := ⟨Reg.CMP_VL_CTRL l, 22, 5⟩
def Fld.CMP_VL_SRC_SRC_ID (l : Nat) : Fld := ⟨Reg.CMP_VL_SRC l, 0, 16⟩
def Fld.CMP_VL_SRC_ALPHA (l : Nat) : Fld := ⟨Reg.CMP_VL_SRC l, 16, 8⟩
def Fld.CMP_VL_SRC_NO_SRC (l : Nat) : Fld := ⟨Reg.CMP_VL_SRC l, 31, 1⟩
def Fld.CMP_VL_CROP_POS_X (l : Nat) : Fld := ⟨Reg.CMP_VL_CROP_POS l, 0, 13⟩
def Fld.CMP_VL_CROP_POS_Y (l : Nat) : Fld := ⟨Reg.CMP_VL_CROP_POS l, 16, 13⟩
def Fld.CMP_VL_CROP_SIZE_X (l : Nat) : Fld := ⟨Reg.CMP_VL_CROP_SIZE l, 0, 13⟩
def Fld.CMP_VL_CROP_SIZE_Y (l : Nat) : Fld := ⟨Reg.CMP_VL_CROP_SIZE l, 16, 13⟩
def Fld.CMP_VL_DST_POS_X (l : Nat) : Fld := ⟨Reg.CMP_VL_DST_POS l, 0, 13⟩
def Fld.CMP_VL_DST_POS_Y (l : Nat) : Fld := ⟨Reg.CMP_VL_DST_POS l, 16, 13⟩
def Fld.CMP_VL_DST_SIZE_X (l : Nat) : Fld := ⟨Reg.CMP_VL_DST_SIZE l, 0, 13⟩
def Fld.CMP_VL_DST_SIZE_Y (l : Nat) : Fld := ⟨Reg.CMP_VL_DST_SIZE l, 16, 13⟩
def Fld.CMP_VL_SCL_SCALER_A (l : Nat) : Fld := ⟨Reg.CMP_VL_SCL l, 0, 4⟩
def Fld.CMP_VL_SCL_SCALER_B (l : Nat) : Fld := ⟨Reg.CMP_VL_SCL l, 4, 4⟩
def Fld.CMP_VL_SCL_PAIRED (l : Nat) : Fld := ⟨Reg.CMP_VL_SCL l, 8, 1⟩
def Fld.CMP_VL_SCL_BYPASS (l : Nat) : Fld := ⟨Reg.CMP_VL_SCL l, 9, 1⟩
def Fld.CMP_VL_SCL_NEED (l : Nat) : Fld := ⟨Reg.CMP_VL_SCL l, 16, 16⟩
def Fld.CMP_VL_STAT_BUF (l : Nat) : Fld := ⟨Reg.CMP_VL_STAT l, 0, 13⟩
def Fld.CMP_VL_STAT_FALLBACK (l : Nat) : Fld := ⟨Reg.CMP_VL_STAT l, 13, 1⟩
def Fld.CMP_VL_STAT_MASKED (l : Nat) : Fld := ⟨Reg.CMP_VL_STAT l, 16, 6⟩
def Fld.CMP_COEF_C_EVEN (s k : Nat) : Fld := ⟨Reg.CMP_COEF s k, 0, 10⟩
def Fld.CMP_COEF_C_ODD (s k : Nat) : Fld := ⟨Reg.CMP_COEF s k, 16, 10⟩
def Fld.OUT_REF_CFG_EDGE : Fld := ⟨Reg.OUT_REF_CFG, 0, 1⟩
def Fld.OUT_REF_CFG_MIN_WIDTH : Fld := ⟨Reg.OUT_REF_CFG, 8, 8⟩
def Fld.OUT_REF_STATUS_STATE : Fld := ⟨Reg.OUT_REF_STATUS, 0, 3⟩
def Fld.OUT_REF_STATUS_REF_LOST : Fld := ⟨Reg.OUT_REF_STATUS, 3, 1⟩
def Fld.OUT_REF_STATUS_REF_RATE : Fld := ⟨Reg.OUT_REF_STATUS, 4, 1⟩
def Fld.OUT_REF_STATUS_MISS_RUN : Fld := ⟨Reg.OUT_REF_STATUS, 5, 2⟩
def Fld.OUT_REF_STATUS_STABLE : Fld := ⟨Reg.OUT_REF_STATUS, 7, 1⟩
def Fld.OUT_REF_ERR_ERR : Fld := ⟨Reg.OUT_REF_ERR, 0, 32⟩
def Fld.OUT_REF_DELTA_DELTA : Fld := ⟨Reg.OUT_REF_DELTA, 0, 32⟩
def Fld.OUT_REF_MEAS_PERIOD : Fld := ⟨Reg.OUT_REF_MEAS, 0, 32⟩
def Fld.OUT_REF_CNT_GLITCH : Fld := ⟨Reg.OUT_REF_CNT, 0, 16⟩
def Fld.OUT_REF_CNT_MISS : Fld := ⟨Reg.OUT_REF_CNT, 16, 16⟩
def Fld.OUT_RESYNC_GO : Fld := ⟨Reg.OUT_RESYNC, 0, 1⟩
def Fld.OUT_RESYNC_CODE : Fld := ⟨Reg.OUT_RESYNC, 8, 8⟩
def Fld.OUT_REF_CENTRE_CENTRE : Fld := ⟨Reg.OUT_REF_CENTRE, 0, 32⟩
def Fld.OUT_COMMIT_STATUS_COMMIT_LATE : Fld := ⟨Reg.OUT_COMMIT_STATUS, 0, 1⟩
def Fld.OUT_COMMIT_STATUS_LATE_CNT : Fld := ⟨Reg.OUT_COMMIT_STATUS, 8, 8⟩
def Fld.OUT_DEALPT_OFFSET : Fld := ⟨Reg.OUT_DEALPT, 0, 32⟩
def Fld.OUT_ACTSTART_OFFSET : Fld := ⟨Reg.OUT_ACTSTART, 0, 32⟩
def Fld.OUT_INT_STATUS_REF_LOST : Fld := ⟨Reg.OUT_INT_STATUS, 0, 1⟩
def Fld.OUT_INT_STATUS_REF_OK : Fld := ⟨Reg.OUT_INT_STATUS, 1, 1⟩
def Fld.OUT_INT_STATUS_REF_RATE : Fld := ⟨Reg.OUT_INT_STATUS, 2, 1⟩
def Fld.OUT_INT_STATUS_COMMIT_LATE : Fld := ⟨Reg.OUT_INT_STATUS, 3, 1⟩
def Fld.OUT_INT_STATUS_HPD : Fld := ⟨Reg.OUT_INT_STATUS, 4, 1⟩
def Fld.OUT_INT_STATUS_TRAIN_FAIL : Fld := ⟨Reg.OUT_INT_STATUS, 5, 1⟩
def Fld.OUT_INT_STATUS_RETRAIN : Fld := ⟨Reg.OUT_INT_STATUS, 6, 1⟩
def Fld.OUT_INT_STATUS_MIX_MASK : Fld := ⟨Reg.OUT_INT_STATUS, 7, 1⟩
def Fld.OUT_INT_STATUS_RETIME : Fld := ⟨Reg.OUT_INT_STATUS, 8, 1⟩
def Fld.OUT_INT_STATUS_RESYNC_DONE : Fld := ⟨Reg.OUT_INT_STATUS, 9, 1⟩
def Fld.OUT_INT_STATUS_AUX_DONE : Fld := ⟨Reg.OUT_INT_STATUS, 10, 1⟩
def Fld.OUT_INT_EN_EN : Fld := ⟨Reg.OUT_INT_EN, 0, 11⟩
def Fld.OUT_CTRL_EN (o : Nat) : Fld := ⟨Reg.OUT_CTRL o, 0, 1⟩
def Fld.OUT_CTRL_BPC (o : Nat) : Fld := ⟨Reg.OUT_CTRL o, 1, 2⟩
def Fld.OUT_CTRL_BPC_FALLBACK (o : Nat) : Fld := ⟨Reg.OUT_CTRL o, 3, 1⟩
def Fld.OUT_CTRL_LANES_MAX (o : Nat) : Fld := ⟨Reg.OUT_CTRL o, 4, 2⟩
def Fld.OUT_CTRL_RATE_MAX (o : Nat) : Fld := ⟨Reg.OUT_CTRL o, 6, 2⟩
def Fld.OUT_HTIM0_ACT (o : Nat) : Fld := ⟨Reg.OUT_HTIM0 o, 0, 13⟩
def Fld.OUT_HTIM0_TOTAL (o : Nat) : Fld := ⟨Reg.OUT_HTIM0 o, 16, 13⟩
def Fld.OUT_VTIM0_ACT (o : Nat) : Fld := ⟨Reg.OUT_VTIM0 o, 0, 13⟩
def Fld.OUT_VTIM0_TOTAL (o : Nat) : Fld := ⟨Reg.OUT_VTIM0 o, 16, 13⟩
def Fld.OUT_HTIM1_FP (o : Nat) : Fld := ⟨Reg.OUT_HTIM1 o, 0, 13⟩
def Fld.OUT_HTIM1_SW (o : Nat) : Fld := ⟨Reg.OUT_HTIM1 o, 16, 13⟩
def Fld.OUT_HTIM1_POL (o : Nat) : Fld := ⟨Reg.OUT_HTIM1 o, 31, 1⟩
def Fld.OUT_VTIM1_FP (o : Nat) : Fld := ⟨Reg.OUT_VTIM1 o, 0, 13⟩
def Fld.OUT_VTIM1_SW (o : Nat) : Fld := ⟨Reg.OUT_VTIM1 o, 16, 13⟩
def Fld.OUT_VTIM1_POL (o : Nat) : Fld := ⟨Reg.OUT_VTIM1 o, 31, 1⟩
def Fld.OUT_PHASE_PHASE (o : Nat) : Fld := ⟨Reg.OUT_PHASE o, 0, 26⟩
def Fld.OUT_LEAD_COMMIT_LEAD (o : Nat) : Fld := ⟨Reg.OUT_LEAD o, 0, 7⟩
def Fld.OUT_STATUS_STATE (o : Nat) : Fld := ⟨Reg.OUT_STATUS o, 0, 3⟩
def Fld.OUT_STATUS_LOCKED (o : Nat) : Fld := ⟨Reg.OUT_STATUS o, 3, 1⟩
def Fld.OUT_STATUS_HPD (o : Nat) : Fld := ⟨Reg.OUT_STATUS o, 4, 1⟩
def Fld.OUT_STATUS_BLANK_SRC (o : Nat) : Fld := ⟨Reg.OUT_STATUS o, 5, 3⟩
def Fld.OUT_STATUS_LANES (o : Nat) : Fld := ⟨Reg.OUT_STATUS o, 8, 2⟩
def Fld.OUT_STATUS_RATE (o : Nat) : Fld := ⟨Reg.OUT_STATUS o, 10, 2⟩
def Fld.OUT_STATUS_BPC8 (o : Nat) : Fld := ⟨Reg.OUT_STATUS o, 12, 1⟩
def Fld.OUT_STATUS_FLIP_EXT (o : Nat) : Fld := ⟨Reg.OUT_STATUS o, 13, 1⟩
def Fld.OUT_PHERR_EPS (o : Nat) : Fld := ⟨Reg.OUT_PHERR o, 0, 32⟩
def Fld.OUT_TRIM_TRIM (o : Nat) : Fld := ⟨Reg.OUT_TRIM o, 0, 16⟩
def Fld.OUT_FRAME_FRAME (o : Nat) : Fld := ⟨Reg.OUT_FRAME o, 0, 32⟩
def Fld.OUT_FLIP_LO_TIME_LO (o : Nat) : Fld := ⟨Reg.OUT_FLIP_LO o, 0, 32⟩
def Fld.OUT_FLIP_HI_TIME_HI (o : Nat) : Fld := ⟨Reg.OUT_FLIP_HI o, 0, 32⟩
def Fld.OUT_FLIP_FRAME_FRAME (o : Nat) : Fld := ⟨Reg.OUT_FLIP_FRAME o, 0, 32⟩
def Fld.OUT_LINK_TRAIN (o : Nat) : Fld := ⟨Reg.OUT_LINK o, 0, 8⟩
def Fld.OUT_LINK_RETRAIN (o : Nat) : Fld := ⟨Reg.OUT_LINK o, 8, 8⟩
def Fld.OUT_LINK_IRQ_HPD (o : Nat) : Fld := ⟨Reg.OUT_LINK o, 16, 8⟩
def Fld.OUT_LINK_AUX_FAIL (o : Nat) : Fld := ⟨Reg.OUT_LINK o, 24, 8⟩
def Fld.OUT_MIX_MISMATCH (o : Nat) : Fld := ⟨Reg.OUT_MIX o, 0, 16⟩
def Fld.OUT_MIX_LAST_LINE (o : Nat) : Fld := ⟨Reg.OUT_MIX o, 16, 13⟩
def Fld.OUT_AUX_CTRL_ADDR (o : Nat) : Fld := ⟨Reg.OUT_AUX_CTRL o, 0, 20⟩
def Fld.OUT_AUX_CTRL_LEN (o : Nat) : Fld := ⟨Reg.OUT_AUX_CTRL o, 20, 4⟩
def Fld.OUT_AUX_CTRL_CMD (o : Nat) : Fld := ⟨Reg.OUT_AUX_CTRL o, 24, 2⟩
def Fld.OUT_AUX_CTRL_GO (o : Nat) : Fld := ⟨Reg.OUT_AUX_CTRL o, 31, 1⟩
def Fld.OUT_AUX_STAT_BUSY (o : Nat) : Fld := ⟨Reg.OUT_AUX_STAT o, 0, 1⟩
def Fld.OUT_AUX_STAT_RESULT (o : Nat) : Fld := ⟨Reg.OUT_AUX_STAT o, 1, 3⟩
def Fld.OUT_AUX_STAT_RETRIES (o : Nat) : Fld := ⟨Reg.OUT_AUX_STAT o, 4, 3⟩
def Fld.OUT_AUX_DATA_DATA (o k : Nat) : Fld := ⟨Reg.OUT_AUX_DATA o k, 0, 32⟩
def Fld.CAP_INT_STATUS_VIDEO_ON : Fld := ⟨Reg.CAP_INT_STATUS, 0, 1⟩
def Fld.CAP_INT_STATUS_VIDEO_OFF : Fld := ⟨Reg.CAP_INT_STATUS, 1, 1⟩
def Fld.CAP_INT_STATUS_LOCK_LOST : Fld := ⟨Reg.CAP_INT_STATUS, 2, 1⟩
def Fld.CAP_INT_STATUS_FORMAT : Fld := ⟨Reg.CAP_INT_STATUS, 3, 1⟩
def Fld.CAP_INT_STATUS_DAMAGED : Fld := ⟨Reg.CAP_INT_STATUS, 4, 1⟩
def Fld.CAP_INT_STATUS_DIRECT_UNLOCK : Fld := ⟨Reg.CAP_INT_STATUS, 5, 1⟩
def Fld.CAP_INT_STATUS_DIRECT_MASK : Fld := ⟨Reg.CAP_INT_STATUS, 6, 1⟩
def Fld.CAP_INT_STATUS_LLK_FALLBACK : Fld := ⟨Reg.CAP_INT_STATUS, 7, 1⟩
def Fld.CAP_INT_EN_EN : Fld := ⟨Reg.CAP_INT_EN, 0, 8⟩
def Fld.CAP_CFG_EN (i : Nat) : Fld := ⟨Reg.CAP_CFG i, 0, 1⟩
def Fld.CAP_CFG_GRAPHICS (i : Nat) : Fld := ⟨Reg.CAP_CFG i, 1, 1⟩
def Fld.CAP_CFG_DIRECT_OK (i : Nat) : Fld := ⟨Reg.CAP_CFG i, 2, 1⟩
def Fld.CAP_CFG_STORE_FMT (i : Nat) : Fld := ⟨Reg.CAP_CFG i, 4, 3⟩
def Fld.CAP_CFG_DECIM (i : Nat) : Fld := ⟨Reg.CAP_CFG i, 8, 2⟩
def Fld.CAP_CFG_LANES_MAX (i : Nat) : Fld := ⟨Reg.CAP_CFG i, 10, 2⟩
def Fld.CAP_CFG_RATE_MAX (i : Nat) : Fld := ⟨Reg.CAP_CFG i, 12, 2⟩
def Fld.CAP_DIM_H (i : Nat) : Fld := ⟨Reg.CAP_DIM i, 0, 13⟩
def Fld.CAP_DIM_V (i : Nat) : Fld := ⟨Reg.CAP_DIM i, 16, 13⟩
def Fld.CAP_TOT_H (i : Nat) : Fld := ⟨Reg.CAP_TOT i, 0, 13⟩
def Fld.CAP_TOT_V (i : Nat) : Fld := ⟨Reg.CAP_TOT i, 16, 13⟩
def Fld.CAP_PERIOD_P_SRC (i : Nat) : Fld := ⟨Reg.CAP_PERIOD i, 0, 32⟩
def Fld.CAP_SAVOFF_SAV_OFFSET (i : Nat) : Fld := ⟨Reg.CAP_SAVOFF i, 0, 26⟩
def Fld.CAP_TELL_POS_X (i : Nat) : Fld := ⟨Reg.CAP_TELL_POS i, 0, 13⟩
def Fld.CAP_TELL_POS_Y (i : Nat) : Fld := ⟨Reg.CAP_TELL_POS i, 16, 13⟩
def Fld.CAP_TELL_SIZE_X (i : Nat) : Fld := ⟨Reg.CAP_TELL_SIZE i, 0, 13⟩
def Fld.CAP_TELL_SIZE_Y (i : Nat) : Fld := ⟨Reg.CAP_TELL_SIZE i, 16, 13⟩
def Fld.CAP_STATUS_STATE (i : Nat) : Fld := ⟨Reg.CAP_STATUS i, 0, 3⟩
def Fld.CAP_STATUS_HPD (i : Nat) : Fld := ⟨Reg.CAP_STATUS i, 3, 1⟩
def Fld.CAP_STATUS_PRESENT (i : Nat) : Fld := ⟨Reg.CAP_STATUS i, 4, 1⟩
def Fld.CAP_STATUS_LANES (i : Nat) : Fld := ⟨Reg.CAP_STATUS i, 5, 2⟩
def Fld.CAP_STATUS_RATE (i : Nat) : Fld := ⟨Reg.CAP_STATUS i, 7, 2⟩
def Fld.CAP_STATUS_BPC10 (i : Nat) : Fld := ⟨Reg.CAP_STATUS i, 9, 1⟩
def Fld.CAP_STATUS_ENC (i : Nat) : Fld := ⟨Reg.CAP_STATUS i, 10, 2⟩
def Fld.CAP_STATUS_FMT_CAUSE (i : Nat) : Fld := ⟨Reg.CAP_STATUS i, 12, 3⟩
def Fld.CAP_MSA_ACT_H (i : Nat) : Fld := ⟨Reg.CAP_MSA_ACT i, 0, 16⟩
def Fld.CAP_MSA_ACT_V (i : Nat) : Fld := ⟨Reg.CAP_MSA_ACT i, 16, 16⟩
def Fld.CAP_MSA_TOT_H (i : Nat) : Fld := ⟨Reg.CAP_MSA_TOT i, 0, 16⟩
def Fld.CAP_MSA_TOT_V (i : Nat) : Fld := ⟨Reg.CAP_MSA_TOT i, 16, 16⟩
def Fld.CAP_MEAS_VALUE (i : Nat) : Fld := ⟨Reg.CAP_MEAS i, 0, 32⟩
def Fld.CAP_SEQ_VALUE (i : Nat) : Fld := ⟨Reg.CAP_SEQ i, 0, 32⟩
def Fld.CAP_SAV_VALUE (i : Nat) : Fld := ⟨Reg.CAP_SAV i, 0, 32⟩
def Fld.CAP_FRAMES_CAPTURED (i : Nat) : Fld := ⟨Reg.CAP_FRAMES i, 0, 16⟩
def Fld.CAP_FRAMES_DISCARDED (i : Nat) : Fld := ⟨Reg.CAP_FRAMES i, 16, 16⟩
def Fld.CAP_ERR_SYMBOL (i : Nat) : Fld := ⟨Reg.CAP_ERR i, 0, 32⟩
def Fld.CAP_LINK_TRAIN (i : Nat) : Fld := ⟨Reg.CAP_LINK i, 0, 8⟩
def Fld.CAP_LINK_LOST (i : Nat) : Fld := ⟨Reg.CAP_LINK i, 8, 8⟩
def Fld.CAP_LINK_IRQ_SENT (i : Nat) : Fld := ⟨Reg.CAP_LINK i, 16, 8⟩
def Fld.CAP_LINK_LONG_HPD (i : Nat) : Fld := ⟨Reg.CAP_LINK i, 24, 8⟩
def Fld.CAP_LASTBUF_INDEX (i : Nat) : Fld := ⟨Reg.CAP_LASTBUF i, 0, 13⟩
def Fld.CAP_LASTBUF_TICK (i : Nat) : Fld := ⟨Reg.CAP_LASTBUF i, 16, 16⟩
def Fld.CAP_LLK_EN (o : Nat) : Fld := ⟨Reg.CAP_LLK o, 0, 1⟩
def Fld.CAP_LLK_SLOT (o : Nat) : Fld := ⟨Reg.CAP_LLK o, 1, 2⟩
def Fld.CAP_LLK_LLK_LOCKED (o : Nat) : Fld := ⟨Reg.CAP_LLK o, 3, 1⟩
def Fld.CAP_LLK_FALLBACK (o : Nat) : Fld := ⟨Reg.CAP_LLK o, 4, 1⟩
def Fld.CAP_LLK_ERR_EPS (o : Nat) : Fld := ⟨Reg.CAP_LLK_ERR o, 0, 32⟩
def Fld.CAP_DIR_STAT_LAYER (o j : Nat) : Fld := ⟨Reg.CAP_DIR_STAT o j, 0, 9⟩
def Fld.CAP_DIR_STAT_ACTIVE (o j : Nat) : Fld := ⟨Reg.CAP_DIR_STAT o j, 9, 1⟩
def Fld.CAP_DIR_STAT_LOCKED (o j : Nat) : Fld := ⟨Reg.CAP_DIR_STAT o j, 10, 1⟩
def Fld.CAP_DIR_STAT_HOPS (o j : Nat) : Fld := ⟨Reg.CAP_DIR_STAT o j, 11, 3⟩
def Fld.CAP_DIR_STAT_SRC_ID (o j : Nat) : Fld := ⟨Reg.CAP_DIR_STAT o j, 16, 16⟩
def Fld.CAP_DIR_SLACK_MIN (o j : Nat) : Fld := ⟨Reg.CAP_DIR_SLACK o j, 0, 16⟩
def Fld.CAP_DIR_SLACK_MAX (o j : Nat) : Fld := ⟨Reg.CAP_DIR_SLACK o j, 16, 16⟩
def Fld.CAP_DIR_CNT_SEGMENTS (o j : Nat) : Fld := ⟨Reg.CAP_DIR_CNT o j, 0, 16⟩
def Fld.CAP_DIR_CNT_LINES (o j : Nat) : Fld := ⟨Reg.CAP_DIR_CNT o j, 16, 16⟩
def Fld.CAP_DIR_LAST_CAUSE (o j : Nat) : Fld := ⟨Reg.CAP_DIR_LAST o j, 0, 3⟩
def Fld.CAP_DIR_LAST_LINE (o j : Nat) : Fld := ⟨Reg.CAP_DIR_LAST o j, 3, 13⟩
def Fld.CAP_DIR_LAST_TICK (o j : Nat) : Fld := ⟨Reg.CAP_DIR_LAST o j, 16, 16⟩
def Fld.CAP_EDID_BYTES (i k : Nat) : Fld := ⟨Reg.CAP_EDID i k, 0, 32⟩
def Fld.DEC_STATUS_OPEN : Fld := ⟨Reg.DEC_STATUS, 0, 10⟩
def Fld.DEC_STATUS_RUNNING : Fld := ⟨Reg.DEC_STATUS, 16, 10⟩
def Fld.DEC_INT_STATUS_WAIT_KEY : Fld := ⟨Reg.DEC_INT_STATUS, 0, 1⟩
def Fld.DEC_INT_STATUS_STALL : Fld := ⟨Reg.DEC_INT_STATUS, 1, 1⟩
def Fld.DEC_INT_STATUS_FAULT : Fld := ⟨Reg.DEC_INT_STATUS, 2, 1⟩
def Fld.DEC_INT_STATUS_OVERRUN : Fld := ⟨Reg.DEC_INT_STATUS, 3, 1⟩
def Fld.DEC_INT_STATUS_QDROP : Fld := ⟨Reg.DEC_INT_STATUS, 4, 1⟩
def Fld.DEC_INT_STATUS_FOREIGN : Fld := ⟨Reg.DEC_INT_STATUS, 5, 1⟩
def Fld.DEC_INT_EN_EN : Fld := ⟨Reg.DEC_INT_EN, 0, 6⟩
def Fld.DEC_CMD_CTX : Fld := ⟨Reg.DEC_CMD, 0, 9⟩
def Fld.DEC_CMD_OP : Fld := ⟨Reg.DEC_CMD, 9, 3⟩
def Fld.DEC_CMD_GO : Fld := ⟨Reg.DEC_CMD, 31, 1⟩
def Fld.DEC_CMD_STATUS_CODE : Fld := ⟨Reg.DEC_CMD_STATUS, 0, 8⟩
def Fld.DEC_CMD_STATUS_BUSY : Fld := ⟨Reg.DEC_CMD_STATUS, 8, 1⟩
def Fld.DEC_CORE_PICS (k : Nat) : Fld := ⟨Reg.DEC_CORE k, 0, 16⟩
def Fld.DEC_CORE_OVERRUN (k : Nat) : Fld := ⟨Reg.DEC_CORE k, 16, 16⟩
def Fld.DEC_CORE_LOAD_LOAD (k : Nat) : Fld := ⟨Reg.DEC_CORE_LOAD k, 0, 10⟩
def Fld.DEC_CORE_LOAD_CONTEXTS (k : Nat) : Fld := ⟨Reg.DEC_CORE_LOAD k, 16, 10⟩
def Fld.DEC_CX_CFG_EN (c : Nat) : Fld := ⟨Reg.DEC_CX_CFG c, 0, 1⟩
def Fld.DEC_CX_CFG_CODEC (c : Nat) : Fld := ⟨Reg.DEC_CX_CFG c, 1, 1⟩
def Fld.DEC_CX_CFG_CLASS (c : Nat) : Fld := ⟨Reg.DEC_CX_CFG c, 2, 3⟩
def Fld.DEC_CX_CFG_CPA (c : Nat) : Fld := ⟨Reg.DEC_CX_CFG c, 8, 13⟩
def Fld.DEC_CX_CFG_DEPTH10 (c : Nat) : Fld := ⟨Reg.DEC_CX_CFG c, 21, 1⟩
def Fld.DEC_CX_NET_UDP_PORT (c : Nat) : Fld := ⟨Reg.DEC_CX_NET c, 0, 16⟩
def Fld.DEC_CX_NET_NET_PORT (c : Nat) : Fld := ⟨Reg.DEC_CX_NET c, 16, 1⟩
def Fld.DEC_CX_NET_RTCP_MUX (c : Nat) : Fld := ⟨Reg.DEC_CX_NET c, 17, 1⟩
def Fld.DEC_CX_NET_FB (c : Nat) : Fld := ⟨Reg.DEC_CX_NET c, 18, 2⟩
def Fld.DEC_CX_NET_PT (c : Nat) : Fld := ⟨Reg.DEC_CX_NET c, 20, 7⟩
def Fld.DEC_CX_NET_SSRC_LEARN (c : Nat) : Fld := ⟨Reg.DEC_CX_NET c, 27, 1⟩
def Fld.DEC_CX_NET_CLK_7273 (c : Nat) : Fld := ⟨Reg.DEC_CX_NET c, 28, 1⟩
def Fld.DEC_CX_SRCIP_VALUE (c : Nat) : Fld := ⟨Reg.DEC_CX_SRCIP c, 0, 32⟩
def Fld.DEC_CX_SSRC_VALUE (c : Nat) : Fld := ⟨Reg.DEC_CX_SSRC c, 0, 32⟩
def Fld.DEC_CX_LSSRC_VALUE (c : Nat) : Fld := ⟨Reg.DEC_CX_LSSRC c, 0, 32⟩
def Fld.DEC_CX_CLK_VALUE (c : Nat) : Fld := ⟨Reg.DEC_CX_CLK c, 0, 32⟩
def Fld.DEC_CX_LAT_L (c : Nat) : Fld := ⟨Reg.DEC_CX_LAT c, 0, 10⟩
def Fld.DEC_CX_LAT_U (c : Nat) : Fld := ⟨Reg.DEC_CX_LAT c, 10, 7⟩
def Fld.DEC_CX_LAT_SR_TRACE (c : Nat) : Fld := ⟨Reg.DEC_CX_LAT c, 17, 1⟩
def Fld.DEC_CX_TIM_ASM_TIMEOUT (c : Nat) : Fld := ⟨Reg.DEC_CX_TIM c, 0, 8⟩
def Fld.DEC_CX_TIM_STALL (c : Nat) : Fld := ⟨Reg.DEC_CX_TIM c, 8, 10⟩
def Fld.DEC_CX_TIM_PLI_REPEAT (c : Nat) : Fld := ⟨Reg.DEC_CX_TIM c, 18, 8⟩
def Fld.DEC_CX_CONC_PLI_CONCEAL (c : Nat) : Fld := ⟨Reg.DEC_CX_CONC c, 0, 10⟩
def Fld.DEC_CX_CONC_PLI_RUN (c : Nat) : Fld := ⟨Reg.DEC_CX_CONC c, 10, 8⟩
def Fld.DEC_CX_STATE_STATE (c : Nat) : Fld := ⟨Reg.DEC_CX_STATE c, 0, 3⟩
def Fld.DEC_CX_STATE_CORE (c : Nat) : Fld := ⟨Reg.DEC_CX_STATE c, 3, 3⟩
def Fld.DEC_CX_STATE_QUEUE (c : Nat) : Fld := ⟨Reg.DEC_CX_STATE c, 6, 3⟩
def Fld.DEC_CX_STATE_CONCEAL (c : Nat) : Fld := ⟨Reg.DEC_CX_STATE c, 9, 10⟩
def Fld.DEC_CX_STATE_MAP (c : Nat) : Fld := ⟨Reg.DEC_CX_STATE c, 19, 2⟩
def Fld.DEC_CX_STATE_WAIT_CAUSE (c : Nat) : Fld := ⟨Reg.DEC_CX_STATE c, 21, 3⟩
def Fld.DEC_CX_STATE_FAULT_CAUSE (c : Nat) : Fld := ⟨Reg.DEC_CX_STATE c, 24, 4⟩
def Fld.DEC_CX_STATE_SLOT (c : Nat) : Fld := ⟨Reg.DEC_CX_STATE c, 28, 1⟩
def Fld.DEC_CX_STATE_MAPPED (c : Nat) : Fld := ⟨Reg.DEC_CX_STATE c, 29, 1⟩
def Fld.DEC_CX_SEQ_SEQ (c : Nat) : Fld := ⟨Reg.DEC_CX_SEQ c, 0, 32⟩
def Fld.DEC_CX_PKT_RECEIVED (c : Nat) : Fld := ⟨Reg.DEC_CX_PKT c, 0, 16⟩
def Fld.DEC_CX_PKT_LOST (c : Nat) : Fld := ⟨Reg.DEC_CX_PKT c, 16, 16⟩
def Fld.DEC_CX_DISC_FOREIGN (c : Nat) : Fld := ⟨Reg.DEC_CX_DISC c, 0, 8⟩
def Fld.DEC_CX_DISC_LATE_PKT (c : Nat) : Fld := ⟨Reg.DEC_CX_DISC c, 8, 8⟩
def Fld.DEC_CX_DISC_QDROP (c : Nat) : Fld := ⟨Reg.DEC_CX_DISC c, 16, 8⟩
def Fld.DEC_CX_DISC_REORDER (c : Nat) : Fld := ⟨Reg.DEC_CX_DISC c, 24, 8⟩
def Fld.DEC_CX_ERR_SYNTAX (c : Nat) : Fld := ⟨Reg.DEC_CX_ERR c, 0, 8⟩
def Fld.DEC_CX_ERR_MISSING_REF (c : Nat) : Fld := ⟨Reg.DEC_CX_ERR c, 8, 8⟩
def Fld.DEC_CX_ERR_OVERRUN (c : Nat) : Fld := ⟨Reg.DEC_CX_ERR c, 16, 8⟩
def Fld.DEC_CX_ERR_PLI_SENT (c : Nat) : Fld := ⟨Reg.DEC_CX_ERR c, 24, 8⟩
def Fld.DEC_CX_LASTBUF_INDEX (c : Nat) : Fld := ⟨Reg.DEC_CX_LASTBUF c, 0, 13⟩
def Fld.DEC_CX_LASTBUF_TICK (c : Nat) : Fld := ⟨Reg.DEC_CX_LASTBUF c, 16, 16⟩
def Fld.DEC_CX_SRAGE_SR_AGE (c : Nat) : Fld := ⟨Reg.DEC_CX_SRAGE c, 0, 16⟩
def Fld.DEC_CX_SRAGE_WAIT_TICK (c : Nat) : Fld := ⟨Reg.DEC_CX_SRAGE c, 16, 16⟩
def Fld.ENC_STATUS_RUNNING : Fld := ⟨Reg.ENC_STATUS, 0, 6⟩
def Fld.ENC_INT_STATUS_KEY : Fld := ⟨Reg.ENC_INT_STATUS, 0, 1⟩
def Fld.ENC_INT_STATUS_OVERSHOOT : Fld := ⟨Reg.ENC_INT_STATUS, 1, 1⟩
def Fld.ENC_INT_STATUS_NOT_CODED : Fld := ⟨Reg.ENC_INT_STATUS, 2, 1⟩
def Fld.ENC_INT_STATUS_OVERRUN : Fld := ⟨Reg.ENC_INT_STATUS, 3, 1⟩
def Fld.ENC_INT_STATUS_CMD_DONE : Fld := ⟨Reg.ENC_INT_STATUS, 4, 1⟩
def Fld.ENC_INT_EN_EN : Fld := ⟨Reg.ENC_INT_EN, 0, 5⟩
def Fld.ENC_CMD_STREAM : Fld := ⟨Reg.ENC_CMD, 0, 5⟩
def Fld.ENC_CMD_OP : Fld := ⟨Reg.ENC_CMD, 5, 3⟩
def Fld.ENC_CMD_GO : Fld := ⟨Reg.ENC_CMD, 31, 1⟩
def Fld.ENC_CMD_STATUS_CODE : Fld := ⟨Reg.ENC_CMD_STATUS, 0, 8⟩
def Fld.ENC_CMD_STATUS_REASON : Fld := ⟨Reg.ENC_CMD_STATUS, 8, 4⟩
def Fld.ENC_CMD_STATUS_BUSY : Fld := ⟨Reg.ENC_CMD_STATUS, 12, 1⟩
def Fld.ENC_CORE_PICS (k : Nat) : Fld := ⟨Reg.ENC_CORE k, 0, 16⟩
def Fld.ENC_CORE_OVERRUN (k : Nat) : Fld := ⟨Reg.ENC_CORE k, 16, 16⟩
def Fld.ENC_ST_CFG_EN (e : Nat) : Fld := ⟨Reg.ENC_ST_CFG e, 0, 1⟩
def Fld.ENC_ST_CFG_DIV (e : Nat) : Fld := ⟨Reg.ENC_ST_CFG e, 1, 3⟩
def Fld.ENC_ST_CFG_SRC_ID (e : Nat) : Fld := ⟨Reg.ENC_ST_CFG e, 16, 16⟩
def Fld.ENC_ST_RC_QP_T (e : Nat) : Fld := ⟨Reg.ENC_ST_RC e, 0, 6⟩
def Fld.ENC_ST_RC_QP_MAX (e : Nat) : Fld := ⟨Reg.ENC_ST_RC e, 6, 6⟩
def Fld.ENC_ST_RC_CAP (e : Nat) : Fld := ⟨Reg.ENC_ST_RC e, 12, 20⟩
def Fld.ENC_ST_KEY_KEY_INT (e : Nat) : Fld := ⟨Reg.ENC_ST_KEY e, 0, 12⟩
def Fld.ENC_ST_KEY_AGE (e : Nat) : Fld := ⟨Reg.ENC_ST_KEY e, 12, 10⟩
def Fld.ENC_ST_DEST_UDP_PORT (e : Nat) : Fld := ⟨Reg.ENC_ST_DEST e, 0, 16⟩
def Fld.ENC_ST_DEST_NET_PORT (e : Nat) : Fld := ⟨Reg.ENC_ST_DEST e, 16, 1⟩
def Fld.ENC_ST_DEST_FABRIC (e : Nat) : Fld := ⟨Reg.ENC_ST_DEST e, 17, 1⟩
def Fld.ENC_ST_DEST_NODE (e : Nat) : Fld := ⟨Reg.ENC_ST_DEST e, 18, 6⟩
def Fld.ENC_ST_DEST_MTU (e : Nat) : Fld := ⟨Reg.ENC_ST_DEST e, 24, 8⟩
def Fld.ENC_ST_DSTIP_VALUE (e : Nat) : Fld := ⟨Reg.ENC_ST_DSTIP e, 0, 32⟩
def Fld.ENC_ST_SSRC_VALUE (e : Nat) : Fld := ⟨Reg.ENC_ST_SSRC e, 0, 32⟩
def Fld.ENC_ST_TSOFF_VALUE (e : Nat) : Fld := ⟨Reg.ENC_ST_TSOFF e, 0, 32⟩
def Fld.ENC_ST_STATE_RUNNING (e : Nat) : Fld := ⟨Reg.ENC_ST_STATE e, 0, 1⟩
def Fld.ENC_ST_STATE_KEY_PENDING (e : Nat) : Fld := ⟨Reg.ENC_ST_STATE e, 1, 1⟩
def Fld.ENC_ST_STATE_CORE (e : Nat) : Fld := ⟨Reg.ENC_ST_STATE e, 2, 1⟩
def Fld.ENC_ST_STATE_LAST_QP (e : Nat) : Fld := ⟨Reg.ENC_ST_STATE e, 3, 6⟩
def Fld.ENC_ST_STATE_PICS (e : Nat) : Fld := ⟨Reg.ENC_ST_STATE e, 16, 16⟩
def Fld.ENC_ST_BITS_VALUE (e : Nat) : Fld := ⟨Reg.ENC_ST_BITS e, 0, 32⟩
def Fld.ENC_ST_BUDGET_VALUE (e : Nat) : Fld := ⟨Reg.ENC_ST_BUDGET e, 0, 32⟩
def Fld.ENC_ST_WIN_VALUE (e : Nat) : Fld := ⟨Reg.ENC_ST_WIN e, 0, 32⟩
def Fld.ENC_ST_OVER_COUNT (e : Nat) : Fld := ⟨Reg.ENC_ST_OVER e, 0, 16⟩
def Fld.ENC_ST_OVERBITS_BITS (e : Nat) : Fld := ⟨Reg.ENC_ST_OVERBITS e, 0, 32⟩
def Fld.ENC_ST_SKIP_NO_SOURCE (e : Nat) : Fld := ⟨Reg.ENC_ST_SKIP e, 0, 8⟩
def Fld.ENC_ST_SKIP_STALE (e : Nat) : Fld := ⟨Reg.ENC_ST_SKIP e, 8, 8⟩
def Fld.ENC_ST_SKIP_ROUTE (e : Nat) : Fld := ⟨Reg.ENC_ST_SKIP e, 16, 8⟩
def Fld.ENC_ST_SKIP_OVERRUN (e : Nat) : Fld := ⟨Reg.ENC_ST_SKIP e, 24, 8⟩
def Fld.ENC_ST_KEYS_SENT (e : Nat) : Fld := ⟨Reg.ENC_ST_KEYS e, 0, 16⟩
def Fld.ENC_ST_KEYS_REQUESTS (e : Nat) : Fld := ⟨Reg.ENC_ST_KEYS e, 16, 16⟩
def Fld.SER_QCTRL_PWR (q : Nat) : Fld := ⟨Reg.SER_QCTRL q, 0, 2⟩
def Fld.SER_QCTRL_LOOP (q : Nat) : Fld := ⟨Reg.SER_QCTRL q, 2, 2⟩
def Fld.SER_QSTAT_PSTATE (q : Nat) : Fld := ⟨Reg.SER_QSTAT q, 0, 2⟩
def Fld.SER_QSTAT_PLL_LOCK (q : Nat) : Fld := ⟨Reg.SER_QSTAT q, 2, 1⟩
def Fld.SER_QSTAT_ACTIVE (q : Nat) : Fld := ⟨Reg.SER_QSTAT q, 3, 1⟩
def Fld.SER_QSTAT_ROLE (q : Nat) : Fld := ⟨Reg.SER_QSTAT q, 4, 2⟩
def Fld.SER_QSTAT_LOOP_REFUSED (q : Nat) : Fld := ⟨Reg.SER_QSTAT q, 6, 1⟩
def Fld.SER_LSTAT_SYNC (q l : Nat) : Fld := ⟨Reg.SER_LSTAT q l, 0, 1⟩
def Fld.SER_LSTAT_GOOD (q l : Nat) : Fld := ⟨Reg.SER_LSTAT q l, 1, 1⟩
def Fld.SER_LSTAT_LOCK_LOSS (q l : Nat) : Fld := ⟨Reg.SER_LSTAT q l, 16, 16⟩
def Fld.SER_LERR_ERR (q l : Nat) : Fld := ⟨Reg.SER_LERR q l, 0, 32⟩
def Fld.FAB_NODE_NODE_ID : Fld := ⟨Reg.FAB_NODE, 0, 6⟩
def Fld.FAB_STATUS_DISC_DONE : Fld := ⟨Reg.FAB_STATUS, 0, 1⟩
def Fld.FAB_STATUS_TOPO_OK : Fld := ⟨Reg.FAB_STATUS, 1, 1⟩
def Fld.FAB_STATUS_ROUTE_OK : Fld := ⟨Reg.FAB_STATUS, 2, 1⟩
def Fld.FAB_STATUS_UNSYNC : Fld := ⟨Reg.FAB_STATUS, 3, 1⟩
def Fld.FAB_STATUS_PORTS_UP : Fld := ⟨Reg.FAB_STATUS, 8, 8⟩
def Fld.FAB_STATUS_PORTS_NARROW : Fld := ⟨Reg.FAB_STATUS, 16, 8⟩
def Fld.FAB_TOPO_HASH_HASH : Fld := ⟨Reg.FAB_TOPO_HASH, 0, 32⟩
def Fld.FAB_INT_STATUS_PORT_UP : Fld := ⟨Reg.FAB_INT_STATUS, 0, 1⟩
def Fld.FAB_INT_STATUS_PORT_DOWN : Fld := ⟨Reg.FAB_INT_STATUS, 1, 1⟩
def Fld.FAB_INT_STATUS_NARROW : Fld := ⟨Reg.FAB_INT_STATUS, 2, 1⟩
def Fld.FAB_INT_STATUS_WIDEN : Fld := ⟨Reg.FAB_INT_STATUS, 3, 1⟩
def Fld.FAB_INT_STATUS_FLOW_CUT : Fld := ⟨Reg.FAB_INT_STATUS, 4, 1⟩
def Fld.FAB_INT_STATUS_SKEW : Fld := ⟨Reg.FAB_INT_STATUS, 5, 1⟩
def Fld.FAB_INT_STATUS_TRUMP_RX : Fld := ⟨Reg.FAB_INT_STATUS, 6, 1⟩
def Fld.FAB_INT_STATUS_TRUMP_BAD : Fld := ⟨Reg.FAB_INT_STATUS, 7, 1⟩
def Fld.FAB_INT_STATUS_POLICE : Fld := ⟨Reg.FAB_INT_STATUS, 8, 1⟩
def Fld.FAB_INT_STATUS_MISMATCH : Fld := ⟨Reg.FAB_INT_STATUS, 9, 1⟩
def Fld.FAB_INT_STATUS_RX_OVF : Fld := ⟨Reg.FAB_INT_STATUS, 10, 1⟩
def Fld.FAB_INT_EN_EN : Fld := ⟨Reg.FAB_INT_EN, 0, 11⟩
def Fld.FAB_RT_CHECK_GO : Fld := ⟨Reg.FAB_RT_CHECK, 0, 1⟩
def Fld.FAB_RT_CHECK_BUSY : Fld := ⟨Reg.FAB_RT_CHECK, 1, 1⟩
def Fld.FAB_RT_CHECK_RESULT : Fld := ⟨Reg.FAB_RT_CHECK, 2, 2⟩
def Fld.FAB_RT_CHECK_FAIL_NODE : Fld := ⟨Reg.FAB_RT_CHECK, 8, 6⟩
def Fld.FAB_SEQ_GAP_GAPS : Fld := ⟨Reg.FAB_SEQ_GAP, 0, 16⟩
def Fld.FAB_SEQ_GAP_LAST_SRC : Fld := ⟨Reg.FAB_SEQ_GAP, 16, 6⟩
def Fld.FAB_TX_CTRL_TYPE : Fld := ⟨Reg.FAB_TX_CTRL, 0, 8⟩
def Fld.FAB_TX_CTRL_DEST : Fld := ⟨Reg.FAB_TX_CTRL, 8, 6⟩
def Fld.FAB_TX_CTRL_BCAST : Fld := ⟨Reg.FAB_TX_CTRL, 14, 1⟩
def Fld.FAB_TX_CTRL_QUEUE : Fld := ⟨Reg.FAB_TX_CTRL, 16, 5⟩
def Fld.FAB_TX_CTRL_GO : Fld := ⟨Reg.FAB_TX_CTRL, 31, 1⟩
def Fld.FAB_TX_ARG0_ARG : Fld := ⟨Reg.FAB_TX_ARG0, 0, 32⟩
def Fld.FAB_TX_ARG1_ARG : Fld := ⟨Reg.FAB_TX_ARG1, 0, 32⟩
def Fld.FAB_TX_STATUS_CODE : Fld := ⟨Reg.FAB_TX_STATUS, 0, 8⟩
def Fld.FAB_TX_STATUS_SEQ : Fld := ⟨Reg.FAB_TX_STATUS, 8, 8⟩
def Fld.FAB_RX_STATUS_COUNT : Fld := ⟨Reg.FAB_RX_STATUS, 0, 7⟩
def Fld.FAB_RX_STATUS_OVF : Fld := ⟨Reg.FAB_RX_STATUS, 8, 8⟩
def Fld.FAB_RX_HEAD_SRC : Fld := ⟨Reg.FAB_RX_HEAD, 0, 6⟩
def Fld.FAB_RX_HEAD_BCAST : Fld := ⟨Reg.FAB_RX_HEAD, 6, 1⟩
def Fld.FAB_RX_HEAD_SEQ : Fld := ⟨Reg.FAB_RX_HEAD, 8, 8⟩
def Fld.FAB_RX_HEAD_TYPE : Fld := ⟨Reg.FAB_RX_HEAD, 16, 8⟩
def Fld.FAB_RX_HEAD_PORT : Fld := ⟨Reg.FAB_RX_HEAD, 24, 3⟩
def Fld.FAB_RX_ARG0_ARG : Fld := ⟨Reg.FAB_RX_ARG0, 0, 32⟩
def Fld.FAB_RX_ARG1_ARG : Fld := ⟨Reg.FAB_RX_ARG1, 0, 32⟩
def Fld.FAB_RT_PORT (d : Nat) : Fld := ⟨Reg.FAB_RT d, 0, 3⟩
def Fld.FAB_RT_LOCAL (d : Nat) : Fld := ⟨Reg.FAB_RT d, 3, 1⟩
def Fld.FAB_RT_VALID (d : Nat) : Fld := ⟨Reg.FAB_RT d, 4, 1⟩
def Fld.FAB_RT_HOPS (d : Nat) : Fld := ⟨Reg.FAB_RT d, 5, 3⟩
def Fld.FAB_BC_PORTS (s : Nat) : Fld := ⟨Reg.FAB_BC s, 0, 8⟩
def Fld.FAB_P_CFG_EN (p : Nat) : Fld := ⟨Reg.FAB_P_CFG p, 0, 1⟩
def Fld.FAB_P_CFG_OPTIONAL (p : Nat) : Fld := ⟨Reg.FAB_P_CFG p, 1, 1⟩
def Fld.FAB_P_CFG_PEER_NODE (p : Nat) : Fld := ⟨Reg.FAB_P_CFG p, 8, 6⟩
def Fld.FAB_P_CFG_PEER_PORT (p : Nat) : Fld := ⟨Reg.FAB_P_CFG p, 16, 3⟩
def Fld.FAB_P_CFG_LENGTH (p : Nat) : Fld := ⟨Reg.FAB_P_CFG p, 24, 8⟩
def Fld.FAB_P_PSER_LO_SERIAL (p : Nat) : Fld := ⟨Reg.FAB_P_PSER_LO p, 0, 32⟩
def Fld.FAB_P_PSER_HI_SERIAL (p : Nat) : Fld := ⟨Reg.FAB_P_PSER_HI p, 0, 16⟩
def Fld.FAB_P_STATUS_STATE (p : Nat) : Fld := ⟨Reg.FAB_P_STATUS p, 0, 3⟩
def Fld.FAB_P_STATUS_WIDTH (p : Nat) : Fld := ⟨Reg.FAB_P_STATUS p, 3, 2⟩
def Fld.FAB_P_STATUS_TX_LANES (p : Nat) : Fld := ⟨Reg.FAB_P_STATUS p, 5, 4⟩
def Fld.FAB_P_STATUS_RX_GOOD (p : Nat) : Fld := ⟨Reg.FAB_P_STATUS p, 9, 4⟩
def Fld.FAB_P_STATUS_PEER_FWD (p : Nat) : Fld := ⟨Reg.FAB_P_STATUS p, 13, 1⟩
def Fld.FAB_P_STATUS_SKEWED (p : Nat) : Fld := ⟨Reg.FAB_P_STATUS p, 14, 1⟩
def Fld.FAB_P_STATUS_DISC_CAUSE (p : Nat) : Fld := ⟨Reg.FAB_P_STATUS p, 16, 4⟩
def Fld.FAB_P_PEER_NODE (p : Nat) : Fld := ⟨Reg.FAB_P_PEER p, 0, 6⟩
def Fld.FAB_P_PEER_PORT (p : Nat) : Fld := ⟨Reg.FAB_P_PEER p, 8, 3⟩
def Fld.FAB_P_SER_LO_SERIAL (p : Nat) : Fld := ⟨Reg.FAB_P_SER_LO p, 0, 32⟩
def Fld.FAB_P_SER_HI_SERIAL (p : Nat) : Fld := ⟨Reg.FAB_P_SER_HI p, 0, 16⟩
def Fld.FAB_P_LAT_LAMBDA (p : Nat) : Fld := ⟨Reg.FAB_P_LAT p, 0, 16⟩
def Fld.FAB_P_SKEW_SKEW (p : Nat) : Fld := ⟨Reg.FAB_P_SKEW p, 0, 32⟩
def Fld.FAB_P_LOAD_RES (p : Nat) : Fld := ⟨Reg.FAB_P_LOAD p, 0, 10⟩
def Fld.FAB_P_LOAD_FLOWS (p : Nat) : Fld := ⟨Reg.FAB_P_LOAD p, 16, 12⟩
def Fld.FAB_P_TRUMP_SENT (p : Nat) : Fld := ⟨Reg.FAB_P_TRUMP p, 0, 8⟩
def Fld.FAB_P_TRUMP_RECEIVED (p : Nat) : Fld := ⟨Reg.FAB_P_TRUMP p, 8, 8⟩
def Fld.FAB_P_TRUMP_BAD (p : Nat) : Fld := ⟨Reg.FAB_P_TRUMP p, 16, 8⟩
def Fld.FAB_P_TRUMP_DIFF (p : Nat) : Fld := ⟨Reg.FAB_P_TRUMP p, 24, 8⟩
def Fld.FAB_P_PKT_BAD (p : Nat) : Fld := ⟨Reg.FAB_P_PKT p, 0, 16⟩
def Fld.FAB_P_PKT_POLICED (p : Nat) : Fld := ⟨Reg.FAB_P_PKT p, 16, 16⟩
def Fld.FAB_P_MISC_MISROUTE (p : Nat) : Fld := ⟨Reg.FAB_P_MISC p, 0, 8⟩
def Fld.FAB_P_MISC_CREDIT_STALL (p : Nat) : Fld := ⟨Reg.FAB_P_MISC p, 8, 8⟩
def Fld.FAB_P_MISC_NARROW (p : Nat) : Fld := ⟨Reg.FAB_P_MISC p, 16, 8⟩
def Fld.FAB_P_MISC_WIDEN (p : Nat) : Fld := ⟨Reg.FAB_P_MISC p, 24, 8⟩
def Fld.FAB_P_FRAME_FRAME_BAD (p : Nat) : Fld := ⟨Reg.FAB_P_FRAME p, 0, 16⟩
def Fld.FAB_P_FRAME_LATE_SEG (p : Nat) : Fld := ⟨Reg.FAB_P_FRAME p, 16, 16⟩
def Fld.FAB_FLOW_CFG_SRC (f : Nat) : Fld := ⟨Reg.FAB_FLOW_CFG f, 0, 6⟩
def Fld.FAB_FLOW_CFG_DEST (f : Nat) : Fld := ⟨Reg.FAB_FLOW_CFG f, 6, 6⟩
def Fld.FAB_FLOW_CFG_CLASS (f : Nat) : Fld := ⟨Reg.FAB_FLOW_CFG f, 12, 2⟩
def Fld.FAB_FLOW_CFG_USED (f : Nat) : Fld := ⟨Reg.FAB_FLOW_CFG f, 14, 1⟩
def Fld.FAB_FLOW_CFG_RANK (f : Nat) : Fld := ⟨Reg.FAB_FLOW_CFG f, 16, 8⟩
def Fld.FAB_FLOW_STATE_IN_DEAL (f : Nat) : Fld := ⟨Reg.FAB_FLOW_STATE f, 0, 1⟩
def Fld.FAB_FLOW_STATE_CUT (f : Nat) : Fld := ⟨Reg.FAB_FLOW_STATE f, 1, 1⟩
def Fld.FAB_FLOW_STATE_STOPPED (f : Nat) : Fld := ⟨Reg.FAB_FLOW_STATE f, 2, 1⟩
def Fld.FAB_FLOW_STATE_PRESENT (f : Nat) : Fld := ⟨Reg.FAB_FLOW_STATE f, 3, 1⟩
def Fld.FAB_FLOW_STATE_ESTABLISHED (f : Nat) : Fld := ⟨Reg.FAB_FLOW_STATE f, 4, 1⟩
def Fld.FAB_FLOW_STATE_CUT_PORT (f : Nat) : Fld := ⟨Reg.FAB_FLOW_STATE f, 5, 3⟩
def Fld.FAB_FLOW_STATE_CUT_NODE (f : Nat) : Fld := ⟨Reg.FAB_FLOW_STATE f, 8, 6⟩
def Fld.MEM_STATUS_STATE : Fld := ⟨Reg.MEM_STATUS, 0, 3⟩
def Fld.MEM_STATUS_SPEED : Fld := ⟨Reg.MEM_STATUS, 3, 3⟩
def Fld.MEM_STATUS_HOT : Fld := ⟨Reg.MEM_STATUS, 6, 1⟩
def Fld.MEM_STATUS_SC_FAILED : Fld := ⟨Reg.MEM_STATUS, 8, 8⟩
def Fld.MEM_STATUS_SC_FITTED : Fld := ⟨Reg.MEM_STATUS, 16, 8⟩
def Fld.MEM_CFG_CHANNELS : Fld := ⟨Reg.MEM_CFG, 0, 2⟩
def Fld.MEM_CFG_ORG : Fld := ⟨Reg.MEM_CFG, 2, 2⟩
def Fld.MEM_CFG_MAP : Fld := ⟨Reg.MEM_CFG, 4, 2⟩
def Fld.MEM_CFG_SPEED : Fld := ⟨Reg.MEM_CFG, 6, 2⟩
def Fld.MEM_CFG_CA_PAR : Fld := ⟨Reg.MEM_CFG, 8, 1⟩
def Fld.MEM_WQ_WQ_HIGH : Fld := ⟨Reg.MEM_WQ, 0, 6⟩
def Fld.MEM_WQ_WQ_LOW : Fld := ⟨Reg.MEM_WQ, 8, 6⟩
def Fld.MEM_WQ_ROWHIT_MAX : Fld := ⟨Reg.MEM_WQ, 16, 4⟩
def Fld.MEM_RDT_THRESHOLD : Fld := ⟨Reg.MEM_RDT, 0, 16⟩
def Fld.MEM_FREQ_TARGET : Fld := ⟨Reg.MEM_FREQ, 0, 2⟩
def Fld.MEM_FREQ_GO : Fld := ⟨Reg.MEM_FREQ, 2, 1⟩
def Fld.MEM_FREQ_CODE : Fld := ⟨Reg.MEM_FREQ, 8, 8⟩
def Fld.MEM_FREQ_PENDING : Fld := ⟨Reg.MEM_FREQ, 16, 1⟩
def Fld.MEM_TRAIN_STEP : Fld := ⟨Reg.MEM_TRAIN, 0, 3⟩
def Fld.MEM_TRAIN_RANK : Fld := ⟨Reg.MEM_TRAIN, 3, 1⟩
def Fld.MEM_TRAIN_RESULT : Fld := ⟨Reg.MEM_TRAIN, 4, 2⟩
def Fld.MEM_TRAIN_FAIL_SC : Fld := ⟨Reg.MEM_TRAIN, 8, 3⟩
def Fld.MEM_TRAIN_RESTARTS : Fld := ⟨Reg.MEM_TRAIN, 16, 8⟩
def Fld.MEM_TRAIN_RETRIES : Fld := ⟨Reg.MEM_TRAIN, 24, 8⟩
def Fld.MEM_INT_STATUS_CHK_PERSIST : Fld := ⟨Reg.MEM_INT_STATUS, 0, 1⟩
def Fld.MEM_INT_STATUS_CHK_RECOVERED : Fld := ⟨Reg.MEM_INT_STATUS, 1, 1⟩
def Fld.MEM_INT_STATUS_POISON : Fld := ⟨Reg.MEM_INT_STATUS, 2, 1⟩
def Fld.MEM_INT_STATUS_ALERT : Fld := ⟨Reg.MEM_INT_STATUS, 3, 1⟩
def Fld.MEM_INT_STATUS_SC_FAILED : Fld := ⟨Reg.MEM_INT_STATUS, 4, 1⟩
def Fld.MEM_INT_STATUS_HOT : Fld := ⟨Reg.MEM_INT_STATUS, 5, 1⟩
def Fld.MEM_INT_STATUS_TRAIN_DONE : Fld := ⟨Reg.MEM_INT_STATUS, 6, 1⟩
def Fld.MEM_INT_STATUS_TRAIN_FAIL : Fld := ⟨Reg.MEM_INT_STATUS, 7, 1⟩
def Fld.MEM_INT_STATUS_FREQ_DONE : Fld := ⟨Reg.MEM_INT_STATUS, 8, 1⟩
def Fld.MEM_INT_STATUS_TARGETED : Fld := ⟨Reg.MEM_INT_STATUS, 9, 1⟩
def Fld.MEM_INT_EN_EN : Fld := ⟨Reg.MEM_INT_EN, 0, 10⟩
def Fld.MEM_CHK_CNT_RECOVERED : Fld := ⟨Reg.MEM_CHK_CNT, 0, 16⟩
def Fld.MEM_CHK_CNT_PERSIST : Fld := ⟨Reg.MEM_CHK_CNT, 16, 16⟩
def Fld.MEM_CHK_ADDR_LO_ADDR_LO : Fld := ⟨Reg.MEM_CHK_ADDR_LO, 0, 32⟩
def Fld.MEM_CHK_ADDR_HI_ADDR_HI : Fld := ⟨Reg.MEM_CHK_ADDR_HI, 0, 8⟩
def Fld.MEM_CHK_INFO_PORT : Fld := ⟨Reg.MEM_CHK_INFO, 0, 6⟩
def Fld.MEM_CHK_INFO_KIND : Fld := ⟨Reg.MEM_CHK_INFO, 6, 2⟩
def Fld.MEM_CHK_INFO_TICK : Fld := ⟨Reg.MEM_CHK_INFO, 16, 16⟩
def Fld.MEM_SCRUB_PASSES : Fld := ⟨Reg.MEM_SCRUB, 0, 16⟩
def Fld.MEM_SCRUB_FOUND : Fld := ⟨Reg.MEM_SCRUB, 16, 16⟩
def Fld.MEM_SCRUB_PTR_BLOCK : Fld := ⟨Reg.MEM_SCRUB_PTR, 0, 28⟩
def Fld.MEM_TIM0_TRCD : Fld := ⟨Reg.MEM_TIM0, 0, 8⟩
def Fld.MEM_TIM0_TRP : Fld := ⟨Reg.MEM_TIM0, 8, 8⟩
def Fld.MEM_TIM0_TRAS : Fld := ⟨Reg.MEM_TIM0, 16, 8⟩
def Fld.MEM_TIM0_TRTP : Fld := ⟨Reg.MEM_TIM0, 24, 8⟩
def Fld.MEM_TIM1_TRFC : Fld := ⟨Reg.MEM_TIM1, 0, 12⟩
def Fld.MEM_TIM1_TREFI : Fld := ⟨Reg.MEM_TIM1, 16, 16⟩
def Fld.MEM_TIM2_TFAW : Fld := ⟨Reg.MEM_TIM2, 0, 8⟩
def Fld.MEM_TIM2_TRRD_S : Fld := ⟨Reg.MEM_TIM2, 8, 4⟩
def Fld.MEM_TIM2_TRRD_L : Fld := ⟨Reg.MEM_TIM2, 12, 4⟩
def Fld.MEM_TIM2_TWR : Fld := ⟨Reg.MEM_TIM2, 16, 8⟩
def Fld.MEM_TIM2_TWTR_S : Fld := ⟨Reg.MEM_TIM2, 24, 4⟩
def Fld.MEM_TIM2_TWTR_L : Fld := ⟨Reg.MEM_TIM2, 28, 4⟩
def Fld.MEM_SC_STATUS_STATE (u : Nat) : Fld := ⟨Reg.MEM_SC_STATUS u, 0, 3⟩
def Fld.MEM_SC_STATUS_REF2X (u : Nat) : Fld := ⟨Reg.MEM_SC_STATUS u, 3, 1⟩
def Fld.MEM_SC_STATUS_OVER_LIMIT (u : Nat) : Fld := ⟨Reg.MEM_SC_STATUS u, 4, 1⟩
def Fld.MEM_SC_STATUS_POSTPONED (u : Nat) : Fld := ⟨Reg.MEM_SC_STATUS u, 5, 3⟩
def Fld.MEM_SC_STATUS_WQ (u : Nat) : Fld := ⟨Reg.MEM_SC_STATUS u, 8, 7⟩
def Fld.MEM_SC_STATUS_DRAINING (u : Nat) : Fld := ⟨Reg.MEM_SC_STATUS u, 15, 1⟩
def Fld.MEM_SC_STATUS_RQ (u : Nat) : Fld := ⟨Reg.MEM_SC_STATUS u, 16, 7⟩
def Fld.MEM_SC_ALERT_ALERTS (u : Nat) : Fld := ⟨Reg.MEM_SC_ALERT u, 0, 8⟩
def Fld.MEM_SC_ALERT_REPLAYS (u : Nat) : Fld := ⟨Reg.MEM_SC_ALERT u, 8, 8⟩
def Fld.MEM_SC_ALERT_SPURIOUS (u : Nat) : Fld := ⟨Reg.MEM_SC_ALERT u, 16, 8⟩
def Fld.MEM_SC_ALERT_MR4_FAIL (u : Nat) : Fld := ⟨Reg.MEM_SC_ALERT u, 24, 8⟩
def Fld.MEM_SC_RDT_TARGETED (u : Nat) : Fld := ⟨Reg.MEM_SC_RDT u, 0, 16⟩
def Fld.MEM_SC_RDT_EVICTIONS (u : Nat) : Fld := ⟨Reg.MEM_SC_RDT u, 16, 16⟩
def Fld.MEM_SC_DRAIN_DRAINS (u : Nat) : Fld := ⟨Reg.MEM_SC_DRAIN u, 0, 16⟩
def Fld.MEM_SC_DRAIN_RMW (u : Nat) : Fld := ⟨Reg.MEM_SC_DRAIN u, 16, 16⟩
def Fld.MEM_RES_BYTES (p : Nat) : Fld := ⟨Reg.MEM_RES p, 0, 24⟩
def Fld.MEM_USED_BYTES (p : Nat) : Fld := ⟨Reg.MEM_USED p, 0, 24⟩
def Fld.MEM_USED_SPARE (p : Nat) : Fld := ⟨Reg.MEM_USED p, 24, 8⟩
def Fld.TIM_STATUS_EPOCH_VALID : Fld := ⟨Reg.TIM_STATUS, 0, 1⟩
def Fld.TIM_STATUS_OFF_VALID : Fld := ⟨Reg.TIM_STATUS, 1, 1⟩
def Fld.TIM_STATUS_SERVO_LOCKED : Fld := ⟨Reg.TIM_STATUS, 2, 1⟩
def Fld.TIM_STATUS_TRG_RUN : Fld := ⟨Reg.TIM_STATUS, 3, 1⟩
def Fld.TIM_INCR_INCR : Fld := ⟨Reg.TIM_INCR, 0, 32⟩
def Fld.TIM_NOW_LO_NS : Fld := ⟨Reg.TIM_NOW_LO, 0, 32⟩
def Fld.TIM_NOW_HI_EPOCH : Fld := ⟨Reg.TIM_NOW_HI, 0, 32⟩
def Fld.TIM_EPOCH_EPOCH : Fld := ⟨Reg.TIM_EPOCH, 0, 32⟩
def Fld.TIM_PTP_OFF_LO_OFF : Fld := ⟨Reg.TIM_PTP_OFF_LO, 0, 32⟩
def Fld.TIM_PTP_OFF_HI_OFF : Fld := ⟨Reg.TIM_PTP_OFF_HI, 0, 32⟩
def Fld.TIM_SERVO_LOCKED : Fld := ⟨Reg.TIM_SERVO, 0, 1⟩
def Fld.TIM_SERVO_INVALIDATE : Fld := ⟨Reg.TIM_SERVO, 1, 1⟩
def Fld.TIM_GM_ID_LO_ID : Fld := ⟨Reg.TIM_GM_ID_LO, 0, 32⟩
def Fld.TIM_GM_ID_HI_ID : Fld := ⟨Reg.TIM_GM_ID_HI, 0, 32⟩
def Fld.TIM_GM_DOM_DOMAIN : Fld := ⟨Reg.TIM_GM_DOM, 0, 8⟩
def Fld.TIM_GM_DOM_GEN : Fld := ⟨Reg.TIM_GM_DOM, 16, 8⟩
def Fld.TIM_CNT_INCR_REJ : Fld := ⟨Reg.TIM_CNT, 0, 16⟩
def Fld.TIM_CNT_TRG_LATE : Fld := ⟨Reg.TIM_CNT, 16, 16⟩
def Fld.TIM_INT_STATUS_WRAP : Fld := ⟨Reg.TIM_INT_STATUS, 0, 1⟩
def Fld.TIM_INT_STATUS_OFF_EXPIRED : Fld := ⟨Reg.TIM_INT_STATUS, 1, 1⟩
def Fld.TIM_INT_STATUS_UNLOCKED : Fld := ⟨Reg.TIM_INT_STATUS, 2, 1⟩
def Fld.TIM_INT_STATUS_TRIGGER : Fld := ⟨Reg.TIM_INT_STATUS, 3, 1⟩
def Fld.TIM_INT_STATUS_TXTS : Fld := ⟨Reg.TIM_INT_STATUS, 4, 1⟩
def Fld.TIM_INT_STATUS_PPS_MISSED : Fld := ⟨Reg.TIM_INT_STATUS, 5, 1⟩
def Fld.TIM_INT_STATUS_RX_DROP : Fld := ⟨Reg.TIM_INT_STATUS, 6, 1⟩
def Fld.TIM_INT_EN_EN : Fld := ⟨Reg.TIM_INT_EN, 0, 7⟩
def Fld.TIM_UTC_UTC_OFFSET : Fld := ⟨Reg.TIM_UTC, 0, 16⟩
def Fld.TIM_UTC_VALID : Fld := ⟨Reg.TIM_UTC, 16, 1⟩
def Fld.TIM_TRG_CFG_MODE (c : Nat) : Fld := ⟨Reg.TIM_TRG_CFG c, 0, 2⟩
def Fld.TIM_TRG_CFG_IRQ (c : Nat) : Fld := ⟨Reg.TIM_TRG_CFG c, 2, 1⟩
def Fld.TIM_TRG_CFG_DIV (c : Nat) : Fld := ⟨Reg.TIM_TRG_CFG c, 4, 4⟩
def Fld.TIM_TRG_CFG_DEN (c : Nat) : Fld := ⟨Reg.TIM_TRG_CFG c, 8, 8⟩
def Fld.TIM_TRG_CFG_OWNER (c : Nat) : Fld := ⟨Reg.TIM_TRG_CFG c, 31, 1⟩
def Fld.TIM_TRG_START_START (c : Nat) : Fld := ⟨Reg.TIM_TRG_START c, 0, 32⟩
def Fld.TIM_TRG_PER_NUM (c : Nat) : Fld := ⟨Reg.TIM_TRG_PER c, 0, 32⟩
def Fld.TIM_TRG_STAT_FIRED (c : Nat) : Fld := ⟨Reg.TIM_TRG_STAT c, 0, 16⟩
def Fld.TIM_TRG_STAT_ARMED (c : Nat) : Fld := ⟨Reg.TIM_TRG_STAT c, 16, 1⟩
def Fld.TIM_PPS_CFG_MODE (k : Nat) : Fld := ⟨Reg.TIM_PPS_CFG k, 0, 3⟩
def Fld.TIM_PPS_CFG_POL (k : Nat) : Fld := ⟨Reg.TIM_PPS_CFG k, 3, 1⟩
def Fld.TIM_PPS_CFG_DEN (k : Nat) : Fld := ⟨Reg.TIM_PPS_CFG k, 4, 8⟩
def Fld.TIM_PPS_CFG_DIV (k : Nat) : Fld := ⟨Reg.TIM_PPS_CFG k, 12, 4⟩
def Fld.TIM_PPS_CFG_WIDTH (k : Nat) : Fld := ⟨Reg.TIM_PPS_CFG k, 16, 16⟩
def Fld.TIM_PPS_START_START (k : Nat) : Fld := ⟨Reg.TIM_PPS_START k, 0, 32⟩
def Fld.TIM_PPS_PER_NUM (k : Nat) : Fld := ⟨Reg.TIM_PPS_PER k, 0, 32⟩
def Fld.TIM_PPS_STAT_PULSES (k : Nat) : Fld := ⟨Reg.TIM_PPS_STAT k, 0, 16⟩
def Fld.TIM_PPS_STAT_MISSED (k : Nat) : Fld := ⟨Reg.TIM_PPS_STAT k, 16, 16⟩
def Fld.TIM_NP_CFG_EN (n : Nat) : Fld := ⟨Reg.TIM_NP_CFG n, 0, 1⟩
def Fld.TIM_NP_CFG_SPEED100 (n : Nat) : Fld := ⟨Reg.TIM_NP_CFG n, 1, 1⟩
def Fld.TIM_NP_CFG_RXDLY (n : Nat) : Fld := ⟨Reg.TIM_NP_CFG n, 2, 1⟩
def Fld.TIM_NP_CFG_TXDLY (n : Nat) : Fld := ⟨Reg.TIM_NP_CFG n, 3, 1⟩
def Fld.TIM_NP_CFG_PTP (n : Nat) : Fld := ⟨Reg.TIM_NP_CFG n, 4, 1⟩
def Fld.TIM_NP_CFG_CMD_PORT (n : Nat) : Fld := ⟨Reg.TIM_NP_CFG n, 16, 16⟩
def Fld.TIM_NP_MAC_LO_MAC (n : Nat) : Fld := ⟨Reg.TIM_NP_MAC_LO n, 0, 32⟩
def Fld.TIM_NP_MAC_HI_MAC (n : Nat) : Fld := ⟨Reg.TIM_NP_MAC_HI n, 0, 16⟩
def Fld.TIM_NP_LAT_RX_LAT (n : Nat) : Fld := ⟨Reg.TIM_NP_LAT n, 0, 16⟩
def Fld.TIM_NP_LAT_TX_LAT (n : Nat) : Fld := ⟨Reg.TIM_NP_LAT n, 16, 16⟩
def Fld.TIM_NP_STATUS_LINK (n : Nat) : Fld := ⟨Reg.TIM_NP_STATUS n, 0, 1⟩
def Fld.TIM_NP_STATUS_TXTS_COUNT (n : Nat) : Fld := ⟨Reg.TIM_NP_STATUS n, 1, 3⟩
def Fld.TIM_NP_STATUS_TXTS_OVF (n : Nat) : Fld := ⟨Reg.TIM_NP_STATUS n, 16, 8⟩
def Fld.TIM_NP_DROP_PTP_Q (n : Nat) : Fld := ⟨Reg.TIM_NP_DROP n, 0, 8⟩
def Fld.TIM_NP_DROP_DECK_Q (n : Nat) : Fld := ⟨Reg.TIM_NP_DROP n, 8, 8⟩
def Fld.TIM_NP_DROP_CMD_Q (n : Nat) : Fld := ⟨Reg.TIM_NP_DROP n, 16, 8⟩
def Fld.TIM_NP_DROP_GEN_Q (n : Nat) : Fld := ⟨Reg.TIM_NP_DROP n, 24, 8⟩
def Fld.TIM_NP_ERR_BAD (n : Nat) : Fld := ⟨Reg.TIM_NP_ERR n, 0, 16⟩
def Fld.TIM_NP_ERR_PAUSE (n : Nat) : Fld := ⟨Reg.TIM_NP_ERR n, 16, 16⟩
def Fld.TIM_NP_TXTS_LO_STAMP (n : Nat) : Fld := ⟨Reg.TIM_NP_TXTS_LO n, 0, 32⟩
def Fld.TIM_NP_TXTS_HI_STAMP (n : Nat) : Fld := ⟨Reg.TIM_NP_TXTS_HI n, 0, 32⟩
def Fld.TIM_NP_TXTS_ID_SEQ_ID (n : Nat) : Fld := ⟨Reg.TIM_NP_TXTS_ID n, 0, 16⟩
def Fld.TIM_NP_TXTS_ID_MSG_TYPE (n : Nat) : Fld := ⟨Reg.TIM_NP_TXTS_ID n, 16, 4⟩
def Fld.TIM_NP_MC_LO_ADDR (n f : Nat) : Fld := ⟨Reg.TIM_NP_MC_LO n f, 0, 32⟩
def Fld.TIM_NP_MC_HI_ADDR (n f : Nat) : Fld := ⟨Reg.TIM_NP_MC_HI n f, 0, 16⟩
def Fld.TIM_NP_MC_HI_VALID (n f : Nat) : Fld := ⟨Reg.TIM_NP_MC_HI n f, 16, 1⟩
def Fld.TCH_STATUS_TSP_RUN : Fld := ⟨Reg.TCH_STATUS, 0, 1⟩
def Fld.TCH_STATUS_FAULT : Fld := ⟨Reg.TCH_STATUS, 4, 4⟩
def Fld.TCH_INT_STATUS_DOWN : Fld := ⟨Reg.TCH_INT_STATUS, 0, 1⟩
def Fld.TCH_INT_STATUS_LIFT : Fld := ⟨Reg.TCH_INT_STATUS, 1, 1⟩
def Fld.TCH_INT_STATUS_HOLD_TIMEOUT : Fld := ⟨Reg.TCH_INT_STATUS, 2, 1⟩
def Fld.TCH_INT_STATUS_WATER : Fld := ⟨Reg.TCH_INT_STATUS, 3, 1⟩
def Fld.TCH_INT_STATUS_RELEASE_ALL : Fld := ⟨Reg.TCH_INT_STATUS, 4, 1⟩
def Fld.TCH_INT_STATUS_FAULT : Fld := ⟨Reg.TCH_INT_STATUS, 5, 1⟩
def Fld.TCH_INT_STATUS_COVERED : Fld := ⟨Reg.TCH_INT_STATUS, 6, 1⟩
def Fld.TCH_INT_STATUS_TEST_FAIL : Fld := ⟨Reg.TCH_INT_STATUS, 7, 1⟩
def Fld.TCH_INT_STATUS_OVERFLOW : Fld := ⟨Reg.TCH_INT_STATUS, 8, 1⟩
def Fld.TCH_INT_EN_EN : Fld := ⟨Reg.TCH_INT_EN, 0, 9⟩
def Fld.TCH_P_CFG0_EN (p : Nat) : Fld := ⟨Reg.TCH_P_CFG0 p, 0, 1⟩
def Fld.TCH_P_CFG0_DRIVES (p : Nat) : Fld := ⟨Reg.TCH_P_CFG0 p, 1, 6⟩
def Fld.TCH_P_CFG0_SENSES (p : Nat) : Fld := ⟨Reg.TCH_P_CFG0 p, 7, 7⟩
def Fld.TCH_P_CFG0_SPT (p : Nat) : Fld := ⟨Reg.TCH_P_CFG0 p, 14, 4⟩
def Fld.TCH_P_CFG0_WATER_REJ (p : Nat) : Fld := ⟨Reg.TCH_P_CFG0 p, 18, 1⟩
def Fld.TCH_P_CFG0_DEBOUNCE (p : Nat) : Fld := ⟨Reg.TCH_P_CFG0 p, 19, 3⟩
def Fld.TCH_P_CFG0_MATCH_RADIUS (p : Nat) : Fld := ⟨Reg.TCH_P_CFG0 p, 22, 4⟩
def Fld.TCH_P_CFG1_F_EXC (p : Nat) : Fld := ⟨Reg.TCH_P_CFG1 p, 0, 2⟩
def Fld.TCH_P_CFG1_PULSES (p : Nat) : Fld := ⟨Reg.TCH_P_CFG1 p, 2, 7⟩
def Fld.TCH_P_CFG1_SCAN_PHASE (p : Nat) : Fld := ⟨Reg.TCH_P_CFG1 p, 16, 16⟩
def Fld.TCH_P_THR_T_TOUCH (p : Nat) : Fld := ⟨Reg.TCH_P_THR p, 0, 12⟩
def Fld.TCH_P_THR_T_LIFT (p : Nat) : Fld := ⟨Reg.TCH_P_THR p, 12, 12⟩
def Fld.TCH_P_THR2_T_SELF (p : Nat) : Fld := ⟨Reg.TCH_P_THR2 p, 0, 12⟩
def Fld.TCH_P_THR2_HOLD_LIMIT (p : Nat) : Fld := ⟨Reg.TCH_P_THR2 p, 12, 12⟩
def Fld.TCH_P_STATE_STATE (p : Nat) : Fld := ⟨Reg.TCH_P_STATE p, 0, 3⟩
def Fld.TCH_P_STATE_CONTACTS (p : Nat) : Fld := ⟨Reg.TCH_P_STATE p, 4, 4⟩
def Fld.TCH_P_STATE_FAULT_CAUSE (p : Nat) : Fld := ⟨Reg.TCH_P_STATE p, 8, 3⟩
def Fld.TCH_P_NODES_COVERED (p : Nat) : Fld := ⟨Reg.TCH_P_NODES p, 0, 13⟩
def Fld.TCH_P_NODES_LOCKED (p : Nat) : Fld := ⟨Reg.TCH_P_NODES p, 16, 13⟩
def Fld.TCH_P_FAULT_ELECTRODE (p : Nat) : Fld := ⟨Reg.TCH_P_FAULT p, 0, 8⟩
def Fld.TCH_P_FAULT_ITEM (p : Nat) : Fld := ⟨Reg.TCH_P_FAULT p, 8, 3⟩
def Fld.TCH_P_FAULT_CONFIRMED (p : Nat) : Fld := ⟨Reg.TCH_P_FAULT p, 11, 1⟩
def Fld.TCH_P_FAULT_TESTS (p : Nat) : Fld := ⟨Reg.TCH_P_FAULT p, 16, 16⟩
def Fld.TCH_P_CNT0_WATER (p : Nat) : Fld := ⟨Reg.TCH_P_CNT0 p, 0, 8⟩
def Fld.TCH_P_CNT0_HOLD_TIMEOUT (p : Nat) : Fld := ⟨Reg.TCH_P_CNT0 p, 8, 8⟩
def Fld.TCH_P_CNT0_OVERFLOW (p : Nat) : Fld := ⟨Reg.TCH_P_CNT0 p, 16, 8⟩
def Fld.TCH_P_CNT0_ID_WAIT (p : Nat) : Fld := ⟨Reg.TCH_P_CNT0 p, 24, 8⟩
def Fld.TCH_P_CNT1_RELEASE_ALL (p : Nat) : Fld := ⟨Reg.TCH_P_CNT1 p, 0, 8⟩
def Fld.TCH_P_CNT1_ABANDONED (p : Nat) : Fld := ⟨Reg.TCH_P_CNT1 p, 8, 8⟩
def Fld.TCH_P_CNT1_NEG_RECAL (p : Nat) : Fld := ⟨Reg.TCH_P_CNT1 p, 16, 8⟩
def Fld.TCH_P_CNT1_RPT_LOST (p : Nat) : Fld := ⟨Reg.TCH_P_CNT1 p, 24, 8⟩
def Fld.TCH_P_CTRL_RESTART (p : Nat) : Fld := ⟨Reg.TCH_P_CTRL p, 0, 1⟩
def Fld.TCH_P_CTRL_RELEASE (p : Nat) : Fld := ⟨Reg.TCH_P_CTRL p, 1, 1⟩
def Fld.TCH_P_CTRL_CODE (p : Nat) : Fld := ⟨Reg.TCH_P_CTRL p, 8, 8⟩
def Fld.TCH_P_RPT_NEXT (p : Nat) : Fld := ⟨Reg.TCH_P_RPT p, 0, 4⟩
def Fld.TCH_P_RPT_SEQ (p : Nat) : Fld := ⟨Reg.TCH_P_RPT p, 16, 16⟩
def Fld.TCH_P_NSEL_INDEX (p : Nat) : Fld := ⟨Reg.TCH_P_NSEL p, 0, 13⟩
def Fld.TCH_P_NSEL_SELF (p : Nat) : Fld := ⟨Reg.TCH_P_NSEL p, 13, 1⟩
def Fld.TCH_P_NVAL_RAW (p : Nat) : Fld := ⟨Reg.TCH_P_NVAL p, 0, 16⟩
def Fld.TCH_P_NVAL_BASE (p : Nat) : Fld := ⟨Reg.TCH_P_NVAL p, 16, 16⟩
def Fld.TCH_P_NREF_REF_MIN (p : Nat) : Fld := ⟨Reg.TCH_P_NREF p, 0, 16⟩
def Fld.TCH_P_NREF_REF_MAX (p : Nat) : Fld := ⟨Reg.TCH_P_NREF p, 16, 16⟩
def Fld.TCH_P_NSTAT_SIGNAL (p : Nat) : Fld := ⟨Reg.TCH_P_NSTAT p, 0, 16⟩
def Fld.TCH_P_NSTAT_LOCK (p : Nat) : Fld := ⟨Reg.TCH_P_NSTAT p, 16, 2⟩
def Fld.TCH_RPT_BYTES (p r k : Nat) : Fld := ⟨Reg.TCH_RPT p r k, 0, 32⟩
def Fld.AUD_STATUS_RUN : Fld := ⟨Reg.AUD_STATUS, 0, 8⟩
def Fld.AUD_STATUS_CLOCK_BAD : Fld := ⟨Reg.AUD_STATUS, 8, 8⟩
def Fld.AUD_STATUS_ALARM_ON : Fld := ⟨Reg.AUD_STATUS, 16, 1⟩
def Fld.AUD_INT_STATUS_UNDERRUN : Fld := ⟨Reg.AUD_INT_STATUS, 0, 1⟩
def Fld.AUD_INT_STATUS_OVERRUN : Fld := ⟨Reg.AUD_INT_STATUS, 1, 1⟩
def Fld.AUD_INT_STATUS_SLIP : Fld := ⟨Reg.AUD_INT_STATUS, 2, 1⟩
def Fld.AUD_INT_STATUS_CLOCK_BAD : Fld := ⟨Reg.AUD_INT_STATUS, 3, 1⟩
def Fld.AUD_INT_STATUS_CLOCK_OK : Fld := ⟨Reg.AUD_INT_STATUS, 4, 1⟩
def Fld.AUD_INT_STATUS_ALARM : Fld := ⟨Reg.AUD_INT_STATUS, 5, 1⟩
def Fld.AUD_INT_EN_EN : Fld := ⟨Reg.AUD_INT_EN, 0, 6⟩
def Fld.AUD_G_CFG_TRG (g : Nat) : Fld := ⟨Reg.AUD_G_CFG g, 0, 6⟩
def Fld.AUD_G_CFG_RATE (g : Nat) : Fld := ⟨Reg.AUD_G_CFG g, 6, 2⟩
def Fld.AUD_G_CFG_USED (g : Nat) : Fld := ⟨Reg.AUD_G_CFG g, 8, 1⟩
def Fld.AUD_G_T0_VALUE (g : Nat) : Fld := ⟨Reg.AUD_G_T0 g, 0, 32⟩
def Fld.AUD_G_BLOCK_VALUE (g : Nat) : Fld := ⟨Reg.AUD_G_BLOCK g, 0, 32⟩
def Fld.AUD_ALARM_CFG_EN : Fld := ⟨Reg.AUD_ALARM_CFG, 0, 1⟩
def Fld.AUD_ALARM_CFG_PORT : Fld := ⟨Reg.AUD_ALARM_CFG, 1, 3⟩
def Fld.AUD_ALARM_CFG_SLOT : Fld := ⟨Reg.AUD_ALARM_CFG, 4, 4⟩
def Fld.AUD_ALARM_CFG_FREQ : Fld := ⟨Reg.AUD_ALARM_CFG, 8, 12⟩
def Fld.AUD_ALARM_CFG_LEVEL : Fld := ⟨Reg.AUD_ALARM_CFG, 20, 6⟩
def Fld.AUD_ALARM_CAD_ON_MS : Fld := ⟨Reg.AUD_ALARM_CAD, 0, 16⟩
def Fld.AUD_ALARM_CAD_OFF_MS : Fld := ⟨Reg.AUD_ALARM_CAD, 16, 16⟩
def Fld.AUD_ALARM_STAT_ORDERED : Fld := ⟨Reg.AUD_ALARM_STAT, 0, 1⟩
def Fld.AUD_ALARM_STAT_SOUNDING : Fld := ⟨Reg.AUD_ALARM_STAT, 1, 1⟩
def Fld.AUD_ALARM_STAT_TICK : Fld := ⟨Reg.AUD_ALARM_STAT, 16, 16⟩
def Fld.AUD_P_CFG_EN (p : Nat) : Fld := ⟨Reg.AUD_P_CFG p, 0, 1⟩
def Fld.AUD_P_CFG_DIR (p : Nat) : Fld := ⟨Reg.AUD_P_CFG p, 1, 1⟩
def Fld.AUD_P_CFG_TDM (p : Nat) : Fld := ⟨Reg.AUD_P_CFG p, 2, 1⟩
def Fld.AUD_P_CFG_MASTER (p : Nat) : Fld := ⟨Reg.AUD_P_CFG p, 3, 1⟩
def Fld.AUD_P_CFG_FS_PULSE (p : Nat) : Fld := ⟨Reg.AUD_P_CFG p, 4, 1⟩
def Fld.AUD_P_CFG_SLOTS (p : Nat) : Fld := ⟨Reg.AUD_P_CFG p, 5, 4⟩
def Fld.AUD_P_CFG_SLOT_W (p : Nat) : Fld := ⟨Reg.AUD_P_CFG p, 9, 2⟩
def Fld.AUD_P_CFG_SAMPLE24 (p : Nat) : Fld := ⟨Reg.AUD_P_CFG p, 11, 1⟩
def Fld.AUD_P_CFG_GROUP (p : Nat) : Fld := ⟨Reg.AUD_P_CFG p, 12, 3⟩
def Fld.AUD_P_RING_LO_BASE_LO (p : Nat) : Fld := ⟨Reg.AUD_P_RING_LO p, 12, 20⟩
def Fld.AUD_P_RING_HI_BASE_HI (p : Nat) : Fld := ⟨Reg.AUD_P_RING_HI p, 0, 8⟩
def Fld.AUD_P_RING_HI_RING (p : Nat) : Fld := ⟨Reg.AUD_P_RING_HI p, 8, 7⟩
def Fld.AUD_P_STATE_STATE (p : Nat) : Fld := ⟨Reg.AUD_P_STATE p, 0, 3⟩
def Fld.AUD_P_STATE_MUTED (p : Nat) : Fld := ⟨Reg.AUD_P_STATE p, 3, 1⟩
def Fld.AUD_P_STATE_ALARM (p : Nat) : Fld := ⟨Reg.AUD_P_STATE p, 4, 1⟩
def Fld.AUD_P_STATE_STORE (p : Nat) : Fld := ⟨Reg.AUD_P_STATE p, 5, 5⟩
def Fld.AUD_P_STATE_BAD_CAUSE (p : Nat) : Fld := ⟨Reg.AUD_P_STATE p, 10, 2⟩
def Fld.AUD_P_BLOCK_BLOCK (p : Nat) : Fld := ⟨Reg.AUD_P_BLOCK p, 0, 32⟩
def Fld.AUD_P_CNT0_UNDERRUN (p : Nat) : Fld := ⟨Reg.AUD_P_CNT0 p, 0, 16⟩
def Fld.AUD_P_CNT0_OVERRUN (p : Nat) : Fld := ⟨Reg.AUD_P_CNT0 p, 16, 16⟩
def Fld.AUD_P_CNT1_SLIP_DROP (p : Nat) : Fld := ⟨Reg.AUD_P_CNT1 p, 0, 16⟩
def Fld.AUD_P_CNT1_SLIP_REPEAT (p : Nat) : Fld := ⟨Reg.AUD_P_CNT1 p, 16, 16⟩
def Fld.AUD_P_CNT2_LATE (p : Nat) : Fld := ⟨Reg.AUD_P_CNT2 p, 0, 8⟩
def Fld.AUD_P_CNT2_ABANDONED (p : Nat) : Fld := ⟨Reg.AUD_P_CNT2 p, 8, 8⟩
def Fld.AUD_P_CNT2_CLOCK_BAD (p : Nat) : Fld := ⟨Reg.AUD_P_CNT2 p, 16, 8⟩
def Fld.AUD_P_CNT2_STALE (p : Nat) : Fld := ⟨Reg.AUD_P_CNT2 p, 24, 8⟩
def Fld.AUD_P_RATE_RATE (p : Nat) : Fld := ⟨Reg.AUD_P_RATE p, 0, 24⟩
def Fld.AUD_P_CTRL_MUTE (p : Nat) : Fld := ⟨Reg.AUD_P_CTRL p, 0, 1⟩
def Fld.CMD_IN_STATUS_COUNT : Fld := ⟨Reg.CMD_IN_STATUS, 0, 5⟩
def Fld.CMD_IN_STATUS_CRC_OK : Fld := ⟨Reg.CMD_IN_STATUS, 8, 1⟩
def Fld.CMD_IN_STATUS_TRANSPORT : Fld := ⟨Reg.CMD_IN_STATUS, 9, 2⟩
def Fld.CMD_IN_STATUS_NET_PORT : Fld := ⟨Reg.CMD_IN_STATUS, 11, 2⟩
def Fld.CMD_IN_STATUS_LENGTH : Fld := ⟨Reg.CMD_IN_STATUS, 16, 13⟩
def Fld.CMD_IN_SRC_VALUE : Fld := ⟨Reg.CMD_IN_SRC, 0, 32⟩
def Fld.CMD_IN_TIME_VALUE : Fld := ⟨Reg.CMD_IN_TIME, 0, 32⟩
def Fld.CMD_IN_PORT_UDP_PORT : Fld := ⟨Reg.CMD_IN_PORT, 0, 16⟩
def Fld.CMD_IN_PORT_POP : Fld := ⟨Reg.CMD_IN_PORT, 31, 1⟩
def Fld.CMD_IN_DATA_BYTES (k : Nat) : Fld := ⟨Reg.CMD_IN_DATA k, 0, 32⟩
def Fld.CMD_CNT_CRC_ERR : Fld := ⟨Reg.CMD_CNT, 0, 8⟩
def Fld.CMD_CNT_FRAG_LOST : Fld := ⟨Reg.CMD_CNT, 8, 8⟩
def Fld.CMD_CNT_INTAKE_OVF : Fld := ⟨Reg.CMD_CNT, 16, 8⟩
def Fld.CMD_CNT_RELAY_BUSY : Fld := ⟨Reg.CMD_CNT, 24, 8⟩
def Fld.HST_LINK_UP : Fld := ⟨Reg.HST_LINK, 0, 1⟩
def Fld.HST_LINK_WIDTH : Fld := ⟨Reg.HST_LINK, 1, 2⟩
def Fld.HST_LINK_GEN2 : Fld := ⟨Reg.HST_LINK, 3, 1⟩
def Fld.HST_MB_STATUS_CODE : Fld := ⟨Reg.HST_MB_STATUS, 0, 8⟩
def Fld.HST_MB_STATUS_READY : Fld := ⟨Reg.HST_MB_STATUS, 8, 1⟩
def Fld.HST_MB_STATUS_BANKER_UP : Fld := ⟨Reg.HST_MB_STATUS, 9, 1⟩
def Fld.HST_MB_DOORBELL_LENGTH : Fld := ⟨Reg.HST_MB_DOORBELL, 0, 13⟩
def Fld.HST_MB_RESP_CODE : Fld := ⟨Reg.HST_MB_RESP, 0, 8⟩
def Fld.HST_MB_RESP_BANKER_UP : Fld := ⟨Reg.HST_MB_RESP, 8, 1⟩
def Fld.HST_INT_STATUS_VEC : Fld := ⟨Reg.HST_INT_STATUS, 0, 4⟩
def Fld.HST_INT_EN_EN : Fld := ⟨Reg.HST_INT_EN, 0, 4⟩
def Fld.HST_CNT_DB_IGNORED : Fld := ⟨Reg.HST_CNT, 0, 16⟩
def Fld.HST_CNT_DROPPED : Fld := ⟨Reg.HST_CNT, 16, 16⟩
def Fld.CHK_CFG_START (n : Nat) : Fld := ⟨Reg.CHK_CFG n, 0, 1⟩
def Fld.CHK_CFG_REFIN (n : Nat) : Fld := ⟨Reg.CHK_CFG n, 1, 1⟩
def Fld.CHK_CFG_REFOUT (n : Nat) : Fld := ⟨Reg.CHK_CFG n, 2, 1⟩
def Fld.CHK_CFG_ALIVE_EN (n : Nat) : Fld := ⟨Reg.CHK_CFG n, 3, 1⟩
def Fld.CHK_CFG_ALIVE_W (n : Nat) : Fld := ⟨Reg.CHK_CFG n, 4, 1⟩
def Fld.CHK_CFG_STEP (n : Nat) : Fld := ⟨Reg.CHK_CFG n, 5, 1⟩
def Fld.CHK_CFG_WIDTH (n : Nat) : Fld := ⟨Reg.CHK_CFG n, 8, 6⟩
def Fld.CHK_CFG_ALIVE_POS (n : Nat) : Fld := ⟨Reg.CHK_CFG n, 16, 12⟩
def Fld.CHK_POLY_VALUE (n : Nat) : Fld := ⟨Reg.CHK_POLY n, 0, 32⟩
def Fld.CHK_INIT_VALUE (n : Nat) : Fld := ⟨Reg.CHK_INIT n, 0, 32⟩
def Fld.CHK_XOR_VALUE (n : Nat) : Fld := ⟨Reg.CHK_XOR n, 0, 32⟩
def Fld.CHK_DATA8_DATA (n : Nat) : Fld := ⟨Reg.CHK_DATA8 n, 0, 32⟩
def Fld.CHK_DATA16_DATA (n : Nat) : Fld := ⟨Reg.CHK_DATA16 n, 0, 32⟩
def Fld.CHK_DATA32_DATA (n : Nat) : Fld := ⟨Reg.CHK_DATA32 n, 0, 32⟩
def Fld.CHK_RUN_VALUE (n : Nat) : Fld := ⟨Reg.CHK_RUN n, 0, 32⟩
def Fld.CHK_RESULT_VALUE (n : Nat) : Fld := ⟨Reg.CHK_RESULT n, 0, 32⟩
def Fld.CHK_COUNT_COUNT (n : Nat) : Fld := ⟨Reg.CHK_COUNT n, 0, 32⟩
def Fld.CHK_ALIVE_PREV (n : Nat) : Fld := ⟨Reg.CHK_ALIVE n, 0, 8⟩
def Fld.CHK_ALIVE_PREV_VALID (n : Nat) : Fld := ⟨Reg.CHK_ALIVE n, 8, 1⟩
def Fld.CHK_ALIVE_REPEAT (n : Nat) : Fld := ⟨Reg.CHK_ALIVE n, 9, 1⟩
def Fld.CHK_ALIVE_GAP (n : Nat) : Fld := ⟨Reg.CHK_ALIVE n, 10, 1⟩
def Fld.CHK_ALIVE_CFG_ERR (n : Nat) : Fld := ⟨Reg.CHK_ALIVE n, 11, 1⟩
def Fld.MTX_CTRL_REMAP : Fld := ⟨Reg.MTX_CTRL, 0, 1⟩
def Fld.MTX_CTRL_ARB_MODE : Fld := ⟨Reg.MTX_CTRL, 1, 1⟩
def Fld.MTX_STARVE_COUNT : Fld := ⟨Reg.MTX_STARVE, 0, 16⟩
def Fld.MTX_STARVE_MASTER : Fld := ⟨Reg.MTX_STARVE, 16, 4⟩
def Fld.MTX_STARVE_TARGET : Fld := ⟨Reg.MTX_STARVE, 20, 4⟩
def Fld.MTX_PRI_LO_PRI_0 (t : Nat) : Fld := ⟨Reg.MTX_PRI_LO t, 0, 4⟩
def Fld.MTX_PRI_LO_PRI_1 (t : Nat) : Fld := ⟨Reg.MTX_PRI_LO t, 4, 4⟩
def Fld.MTX_PRI_LO_PRI_2 (t : Nat) : Fld := ⟨Reg.MTX_PRI_LO t, 8, 4⟩
def Fld.MTX_PRI_LO_PRI_3 (t : Nat) : Fld := ⟨Reg.MTX_PRI_LO t, 12, 4⟩
def Fld.MTX_PRI_LO_PRI_4 (t : Nat) : Fld := ⟨Reg.MTX_PRI_LO t, 16, 4⟩
def Fld.MTX_PRI_LO_PRI_5 (t : Nat) : Fld := ⟨Reg.MTX_PRI_LO t, 20, 4⟩
def Fld.MTX_PRI_LO_PRI_6 (t : Nat) : Fld := ⟨Reg.MTX_PRI_LO t, 24, 4⟩
def Fld.MTX_PRI_LO_PRI_7 (t : Nat) : Fld := ⟨Reg.MTX_PRI_LO t, 28, 4⟩
def Fld.MTX_PRI_HI_PRI_8 (t : Nat) : Fld := ⟨Reg.MTX_PRI_HI t, 0, 4⟩
def Fld.MTX_PRI_HI_PRI_9 (t : Nat) : Fld := ⟨Reg.MTX_PRI_HI t, 4, 4⟩
def Fld.MTX_PRI_HI_PRI_10 (t : Nat) : Fld := ⟨Reg.MTX_PRI_HI t, 8, 4⟩
def Fld.MPU_CTRL_PRIV_SRC (m : Nat) : Fld := ⟨Reg.MPU_CTRL m, 0, 2⟩
def Fld.MPU_RGN_CTL_SIZE (m r : Nat) : Fld := ⟨Reg.MPU_RGN_CTL m r, 0, 6⟩
def Fld.MPU_RGN_CTL_ON (m r : Nat) : Fld := ⟨Reg.MPU_RGN_CTL m r, 6, 1⟩
def Fld.MPU_RGN_CTL_SUB_OFF (m r : Nat) : Fld := ⟨Reg.MPU_RGN_CTL m r, 8, 8⟩
def Fld.MPU_RGN_CTL_PRIV_RIGHTS (m r : Nat) : Fld := ⟨Reg.MPU_RGN_CTL m r, 16, 3⟩
def Fld.MPU_RGN_CTL_USER_RIGHTS (m r : Nat) : Fld := ⟨Reg.MPU_RGN_CTL m r, 20, 3⟩
def Fld.MPU_RGN_BASE_BASE (m r : Nat) : Fld := ⟨Reg.MPU_RGN_BASE m r, 0, 31⟩
def Fld.MPU_GLOBAL_LOCK : Fld := ⟨Reg.MPU_GLOBAL, 0, 1⟩
def Fld.FUS_LIFECYCLE_STATE : Fld := ⟨Reg.FUS_LIFECYCLE, 0, 2⟩
def Fld.FUS_LIFECYCLE_RAW : Fld := ⟨Reg.FUS_LIFECYCLE, 2, 3⟩
def Fld.FUS_LIFECYCLE_PENDING : Fld := ⟨Reg.FUS_LIFECYCLE, 8, 1⟩
def Fld.FUS_SERIAL_LO_SERIAL : Fld := ⟨Reg.FUS_SERIAL_LO, 0, 32⟩
def Fld.FUS_SERIAL_HI_SERIAL : Fld := ⟨Reg.FUS_SERIAL_HI, 0, 16⟩
def Fld.FUS_ROLLBACK_COUNT : Fld := ⟨Reg.FUS_ROLLBACK, 0, 7⟩
def Fld.FUS_KEYSTAT_KEYS : Fld := ⟨Reg.FUS_KEYSTAT, 0, 3⟩
def Fld.FUS_DBG_POLICY_LAB : Fld := ⟨Reg.FUS_DBG_POLICY, 0, 4⟩
def Fld.FUS_DBG_POLICY_FIELD : Fld := ⟨Reg.FUS_DBG_POLICY, 4, 4⟩
def Fld.FUS_DBG_STATUS_UNLOCKED : Fld := ⟨Reg.FUS_DBG_STATUS, 0, 1⟩
def Fld.FUS_DBG_STATUS_SCOPE : Fld := ⟨Reg.FUS_DBG_STATUS, 1, 3⟩
def Fld.FUS_DBG_STATUS_FAILS : Fld := ⟨Reg.FUS_DBG_STATUS, 4, 2⟩
def Fld.FUS_DBG_STATUS_BANKER_HALTED : Fld := ⟨Reg.FUS_DBG_STATUS, 6, 1⟩
def Fld.FUS_DBG_STATUS_SCORER_HALT_REQ : Fld := ⟨Reg.FUS_DBG_STATUS, 7, 1⟩
def Fld.FUS_DBG_NONCE_LO_NONCE : Fld := ⟨Reg.FUS_DBG_NONCE_LO, 0, 32⟩
def Fld.FUS_DBG_NONCE_HI_NONCE : Fld := ⟨Reg.FUS_DBG_NONCE_HI, 0, 32⟩
def Fld.FUS_KEYHASH1_HASH (w : Nat) : Fld := ⟨Reg.FUS_KEYHASH1 w, 0, 32⟩
def Fld.FUS_KEYHASH2_HASH (w : Nat) : Fld := ⟨Reg.FUS_KEYHASH2 w, 0, 32⟩
def Fld.FUS_SOMAP_BASE_BASE (e : Nat) : Fld := ⟨Reg.FUS_SOMAP_BASE e, 0, 28⟩
def Fld.FUS_SOMAP_ATTR_SIZE (e : Nat) : Fld := ⟨Reg.FUS_SOMAP_ATTR e, 0, 6⟩
def Fld.FUS_SOMAP_ATTR_READ (e : Nat) : Fld := ⟨Reg.FUS_SOMAP_ATTR e, 16, 11⟩
def Fld.FUS_PROG_CTRL_WORD : Fld := ⟨Reg.FUS_PROG_CTRL, 0, 6⟩
def Fld.FUS_PROG_CTRL_GO : Fld := ⟨Reg.FUS_PROG_CTRL, 31, 1⟩
def Fld.FUS_PROG_DATA_DATA : Fld := ⟨Reg.FUS_PROG_DATA, 0, 32⟩
def Fld.FUS_PROG_STATUS_CODE : Fld := ⟨Reg.FUS_PROG_STATUS, 0, 8⟩
def Fld.FUS_PROG_STATUS_BUSY : Fld := ⟨Reg.FUS_PROG_STATUS, 8, 1⟩
def Fld.BKR_STATUS_RUN : Fld := ⟨Reg.BKR_STATUS, 0, 4⟩
def Fld.BKR_STATUS_CAUSE : Fld := ⟨Reg.BKR_STATUS, 4, 3⟩
def Fld.BKR_STATUS_RESETS : Fld := ⟨Reg.BKR_STATUS, 16, 16⟩
def Fld.BKR_WDT_TIMEOUT : Fld := ⟨Reg.BKR_WDT, 0, 9⟩
def Fld.BKR_WDT_KICK_KICK : Fld := ⟨Reg.BKR_WDT_KICK, 0, 32⟩
def Fld.BKR_RESET_SELF : Fld := ⟨Reg.BKR_RESET, 0, 1⟩
def Fld.BKR_HB_COUNT : Fld := ⟨Reg.BKR_HB, 0, 32⟩
def Fld.BKR_DEV_STATE_STATE : Fld := ⟨Reg.BKR_DEV_STATE, 0, 4⟩
def Fld.BKR_DEV_STATE_CAUSE : Fld := ⟨Reg.BKR_DEV_STATE, 4, 8⟩
def Fld.BKR_RST_CAUSE_POWER_ON : Fld := ⟨Reg.BKR_RST_CAUSE, 0, 1⟩
def Fld.BKR_RST_CAUSE_RESET_PIN : Fld := ⟨Reg.BKR_RST_CAUSE, 1, 1⟩
def Fld.BKR_RST_CAUSE_SCORER : Fld := ⟨Reg.BKR_RST_CAUSE, 2, 1⟩
def Fld.BKR_RST_CAUSE_SOFTWARE : Fld := ⟨Reg.BKR_RST_CAUSE, 3, 1⟩
def Fld.BKR_BOOT_RUN_SLOT : Fld := ⟨Reg.BKR_BOOT, 0, 1⟩
def Fld.BKR_BOOT_FALLBACK : Fld := ⟨Reg.BKR_BOOT, 1, 1⟩
def Fld.BKR_BOOT_TRIAL : Fld := ⟨Reg.BKR_BOOT, 2, 1⟩
def Fld.BKR_BOOT_TRIES : Fld := ⟨Reg.BKR_BOOT, 3, 2⟩
def Fld.BKR_BOOT_POINTER_BAD : Fld := ⟨Reg.BKR_BOOT, 5, 1⟩
def Fld.BKR_BOOT_MIGRATED : Fld := ⟨Reg.BKR_BOOT, 6, 1⟩
def Fld.BKR_BOOT_WARM_FAIL : Fld := ⟨Reg.BKR_BOOT, 7, 1⟩
def Fld.BKR_BOOT_SV : Fld := ⟨Reg.BKR_BOOT, 8, 7⟩
def Fld.BKR_BOOT_ERR_SLOT_A : Fld := ⟨Reg.BKR_BOOT_ERR, 0, 4⟩
def Fld.BKR_BOOT_ERR_SLOT_B : Fld := ⟨Reg.BKR_BOOT_ERR, 4, 4⟩
def Fld.BKR_FW_VER_VALUE : Fld := ⟨Reg.BKR_FW_VER, 0, 32⟩
def Fld.BKR_IMG_ID_VALUE : Fld := ⟨Reg.BKR_IMG_ID, 0, 32⟩
def Fld.BKR_IMG_DELIVERED : Fld := ⟨Reg.BKR_IMG, 0, 16⟩
def Fld.BKR_IMG_IN_FORCE : Fld := ⟨Reg.BKR_IMG, 16, 16⟩
def Fld.BKR_HOLD_INFO_SECTION : Fld := ⟨Reg.BKR_HOLD_INFO, 0, 16⟩
def Fld.BKR_HOLD_INFO_ITEM : Fld := ⟨Reg.BKR_HOLD_INFO, 16, 16⟩
def Fld.BKR_UPD_STATUS_STATE : Fld := ⟨Reg.BKR_UPD_STATUS, 0, 2⟩
def Fld.BKR_UPD_STATUS_TARGET : Fld := ⟨Reg.BKR_UPD_STATUS, 2, 1⟩
def Fld.BKR_UPD_STATUS_CODE : Fld := ⟨Reg.BKR_UPD_STATUS, 8, 8⟩
def Fld.BKR_UPD_STATUS_SESSION : Fld := ⟨Reg.BKR_UPD_STATUS, 16, 16⟩
def Fld.BKR_UPD_NEXT_OFFSET : Fld := ⟨Reg.BKR_UPD_NEXT, 0, 32⟩
def Fld.BKR_TRIAL_CONFIRM_LEFT : Fld := ⟨Reg.BKR_TRIAL, 0, 16⟩
def Fld.BKR_TRIAL_TRIAL_LEFT : Fld := ⟨Reg.BKR_TRIAL, 16, 16⟩
def Fld.BKR_DEV_RESET_KEY : Fld := ⟨Reg.BKR_DEV_RESET, 0, 16⟩
def Fld.SCO_STATUS_SAFE : Fld := ⟨Reg.SCO_STATUS, 0, 1⟩
def Fld.SCO_STATUS_FAULT_N_LOW : Fld := ⟨Reg.SCO_STATUS, 1, 1⟩
def Fld.SCO_STATUS_BANKER_ABSENT : Fld := ⟨Reg.SCO_STATUS, 2, 1⟩
def Fld.SCO_STATUS_TONE_ORDERED : Fld := ⟨Reg.SCO_STATUS, 3, 1⟩
def Fld.SCO_STATUS_TONE_FAIL : Fld := ⟨Reg.SCO_STATUS, 4, 1⟩
def Fld.SCO_STATUS_SAFE_CAUSE : Fld := ⟨Reg.SCO_STATUS, 8, 8⟩
def Fld.SCO_STATUS_AUTO_RESTARTS : Fld := ⟨Reg.SCO_STATUS, 16, 2⟩
def Fld.SCO_FAULTN_STATE : Fld := ⟨Reg.SCO_FAULTN, 0, 1⟩
def Fld.SCO_FAULTN_OUTPUT : Fld := ⟨Reg.SCO_FAULTN, 1, 1⟩
def Fld.SCO_FAULTN_TONE_FAIL : Fld := ⟨Reg.SCO_FAULTN, 2, 1⟩
def Fld.SCO_FAULTN_OUTPUTS : Fld := ⟨Reg.SCO_FAULTN, 16, 16⟩
def Fld.SCO_SAFE_TIME_VALUE : Fld := ⟨Reg.SCO_SAFE_TIME, 0, 32⟩
def Fld.SCO_SAFE_TICK_VALUE : Fld := ⟨Reg.SCO_SAFE_TICK, 0, 32⟩
def Fld.SCO_COND_COND : Fld := ⟨Reg.SCO_COND, 0, 11⟩
def Fld.SCO_ALM_ON_LO_ACTIVE : Fld := ⟨Reg.SCO_ALM_ON_LO, 0, 32⟩
def Fld.SCO_ALM_ON_HI_ACTIVE : Fld := ⟨Reg.SCO_ALM_ON_HI, 0, 32⟩
def Fld.SCO_HB_HB_AGE : Fld := ⟨Reg.SCO_HB, 0, 16⟩
def Fld.SCO_TEMP_TEMP : Fld := ⟨Reg.SCO_TEMP, 0, 16⟩
def Fld.SCO_TONE_CFG_COND : Fld := ⟨Reg.SCO_TONE_CFG, 0, 11⟩
def Fld.SCO_SAFE_CFG_RESTART_S : Fld := ⟨Reg.SCO_SAFE_CFG, 0, 12⟩
def Fld.SCO_ALM_CFG_EN (o a : Nat) : Fld := ⟨Reg.SCO_ALM_CFG o a, 0, 1⟩
def Fld.SCO_ALM_CFG_AMBER (o a : Nat) : Fld := ⟨Reg.SCO_ALM_CFG o a, 1, 1⟩
def Fld.SCO_ALM_CFG_FLASH (o a : Nat) : Fld := ⟨Reg.SCO_ALM_CFG o a, 2, 1⟩
def Fld.SCO_ALM_CFG_COND (o a : Nat) : Fld := ⟨Reg.SCO_ALM_CFG o a, 8, 11⟩
def Fld.SCO_ALM_CFG_TILE (o a : Nat) : Fld := ⟨Reg.SCO_ALM_CFG o a, 19, 9⟩
def Fld.SCO_ALM_POS_X (o a : Nat) : Fld := ⟨Reg.SCO_ALM_POS o a, 0, 13⟩
def Fld.SCO_ALM_POS_Y (o a : Nat) : Fld := ⟨Reg.SCO_ALM_POS o a, 16, 13⟩
def Fld.SCO_ALM_SIZE_X (o a : Nat) : Fld := ⟨Reg.SCO_ALM_SIZE o a, 0, 13⟩
def Fld.SCO_ALM_SIZE_Y (o a : Nat) : Fld := ⟨Reg.SCO_ALM_SIZE o a, 16, 13⟩
def Fld.SCO_ALMCHK_OK (o : Nat) : Fld := ⟨Reg.SCO_ALMCHK o, 0, 1⟩
def Fld.SCO_ALMCHK_EXPECTED (o : Nat) : Fld := ⟨Reg.SCO_ALMCHK o, 8, 24⟩
def Fld.LOG_STATUS_READY : Fld := ⟨Reg.LOG_STATUS, 0, 1⟩
def Fld.LOG_STATUS_PERM_FULL : Fld := ⟨Reg.LOG_STATUS, 1, 1⟩
def Fld.LOG_STATUS_HDR_REPAIRED : Fld := ⟨Reg.LOG_STATUS, 2, 1⟩
def Fld.LOG_STATUS_QUEUE : Fld := ⟨Reg.LOG_STATUS, 8, 9⟩
def Fld.LOG_SEQ_VALUE : Fld := ⟨Reg.LOG_SEQ, 0, 32⟩
def Fld.LOG_PERM_NEXT_VALUE : Fld := ⟨Reg.LOG_PERM_NEXT, 0, 32⟩
def Fld.LOG_RING_NEXT_VALUE : Fld := ⟨Reg.LOG_RING_NEXT, 0, 32⟩
def Fld.LOG_START_VALUE : Fld := ⟨Reg.LOG_START, 0, 32⟩
def Fld.LOG_DROP_DROPPED : Fld := ⟨Reg.LOG_DROP, 0, 16⟩
def Fld.LOG_DROP_CRC_BAD : Fld := ⟨Reg.LOG_DROP, 16, 16⟩

end Sys2Proof.Machine
end

