-- ==== Sys2Proof/Config.lean ====
section
/-!
DEFINITION. What the spec leaves open: free values, without a body, so that no proof can see what they are. Each
is named in the assumption log.
-/

namespace Sys2Proof

/-- A free value, drawn by a counter of the state that every drawing advances (log entry 3). -/
opaque Config.freeValue : Nat → BitVec 64

/-- Which way the encoder's colour conversion rounds a tie (log entry 3). -/
opaque Config.tieUp : Nat → Bool

/-- Bytes of the boot ROM by address, which the spec does not give (log entry 3). -/
opaque Config.bootRom : Nat → BitVec 8

/-- Samples of the pixels beyond the end of a line in the last SEGMENT packet of a line whose width is no multiple of 16 (log entry 3). -/
opaque Config.segPad : Nat → BitVec 10

/-- Which granule of a coded picture lost or damaged slice data loses (log entry 90). -/
opaque Config.lostGranule : Nat → Nat

/-- The 4:2:0 chroma samples that the encoder takes of an RGB picture, by its SEQ, the place and the chroma of the pixel there (log entry 111). -/
opaque Config.rgbChroma : Nat → Nat → Nat → Nat → BitVec 8

/-- The event code and argument bytes of the record of a gap in the sequence of a source node, for which R431 has no row (log
entry 114). -/
opaque Config.gapRecord : Nat → Nat × List Nat

/-- The first candidate of RFC 3927 that the management port takes from a serial number (log entry 115). -/
opaque Config.linkLocal : Nat → Nat

/-- What a byte of external DRAM that nothing has written reads as (log entry 4). -/
abbrev Config.dramFill : Byte := 0

end Sys2Proof
end

