-- ==== Sys2Proof/Machine/RegTable.lean ====
section
/-!
DEFINITION. The register tables of the spec, block by block: base address, index dimensions
(count, stride), and each field's place, type of R12 and reset value.
Fields the tables call reserved are left out, so they read as 0 (R13).
-/

namespace Sys2Proof.Machine

/-- Registers of block MTX, part 1. -/
def regsMtx1 : List RegDesc := [
  ⟨0x10000000, [], [⟨0, 1, .rw, 0x0⟩, ⟨1, 1, .lk, 0x0⟩]⟩,
  ⟨0x10000008, [], [⟨0, 16, .rc, 0x0⟩, ⟨16, 4, .ro, 0x0⟩, ⟨20, 4, .ro, 0x0⟩]⟩,
  ⟨0x10000100, [(9, 0x8)], [⟨0, 4, .rw, 0xF⟩, ⟨4, 4, .ro, 0x0⟩, ⟨8, 4, .ro, 0x0⟩, ⟨12, 4, .rw, 0xF⟩, ⟨16, 4, .rw, 0xF⟩, ⟨20, 4, .rw, 0xF⟩, ⟨24, 4, .rw, 0xF⟩, ⟨28, 4, .rw, 0xF⟩]⟩,
  ⟨0x10000104, [(9, 0x8)], [⟨0, 4, .rw, 0xF⟩, ⟨4, 4, .rw, 0xF⟩, ⟨8, 4, .rw, 0xF⟩]⟩]

/-- Registers of block MTX. -/
def regsMtx : List RegDesc :=
  regsMtx1

/-- Registers of block MPU, part 1. -/
def regsMpu1 : List RegDesc := [
  ⟨0x10010000, [], [⟨0, 2, .ro, 0x0⟩]⟩,
  ⟨0x10010100, [], [⟨0, 2, .ro, 0x3⟩]⟩,
  ⟨0x10010200, [], [⟨0, 2, .ro, 0x1⟩]⟩,
  ⟨0x10010300, [], [⟨0, 2, .ro, 0x2⟩]⟩,
  ⟨0x10010400, [], [⟨0, 2, .ro, 0x2⟩]⟩,
  ⟨0x10010500, [], [⟨0, 2, .ro, 0x2⟩]⟩,
  ⟨0x10010600, [], [⟨0, 2, .ro, 0x2⟩]⟩,
  ⟨0x10010700, [], [⟨0, 2, .ro, 0x2⟩]⟩,
  ⟨0x10010800, [], [⟨0, 2, .ro, 0x2⟩]⟩,
  ⟨0x10010900, [], [⟨0, 2, .ro, 0x1⟩]⟩,
  ⟨0x10010A00, [], [⟨0, 2, .ro, 0x2⟩]⟩,
  ⟨0x10010010, [(16, 0x8)], [⟨0, 6, .lk, 0x9⟩, ⟨6, 1, .lk, 0x0⟩, ⟨8, 8, .lk, 0x0⟩, ⟨16, 3, .lk, 0x0⟩, ⟨20, 3, .lk, 0x0⟩]⟩,
  ⟨0x10010110, [], [⟨0, 6, .ro, 0x10⟩, ⟨6, 1, .ro, 0x1⟩, ⟨8, 8, .ro, 0x0⟩, ⟨16, 3, .ro, 0x3⟩, ⟨20, 3, .ro, 0x3⟩]⟩,
  ⟨0x10010118, [(15, 0x8)], [⟨0, 6, .ro, 0x9⟩, ⟨6, 1, .ro, 0x0⟩, ⟨8, 8, .ro, 0x0⟩, ⟨16, 3, .ro, 0x0⟩, ⟨20, 3, .ro, 0x0⟩]⟩,
  ⟨0x10010210, [(9, 0x100), (16, 0x8)], [⟨0, 6, .lk, 0x9⟩, ⟨6, 1, .lk, 0x0⟩, ⟨8, 8, .lk, 0x0⟩, ⟨16, 3, .lk, 0x0⟩, ⟨20, 3, .lk, 0x0⟩]⟩,
  ⟨0x10010014, [(16, 0x8)], [⟨0, 31, .lk, 0x0⟩]⟩,
  ⟨0x10010114, [], [⟨0, 31, .ro, 0x10000⟩]⟩,
  ⟨0x1001011C, [(15, 0x8)], [⟨0, 31, .ro, 0x0⟩]⟩,
  ⟨0x10010214, [(9, 0x100), (16, 0x8)], [⟨0, 31, .lk, 0x0⟩]⟩,
  ⟨0x10010F00, [], [⟨0, 1, .rw, 0x0⟩]⟩]

/-- Registers of block MPU. -/
def regsMpu : List RegDesc :=
  regsMpu1

/-- Registers of block FUS, part 1. -/
def regsFus1 : List RegDesc := [
  ⟨0x10020000, [], [⟨0, 2, .ro, 0x0⟩, ⟨2, 3, .ro, 0x0⟩, ⟨8, 1, .ro, 0x0⟩]⟩,
  ⟨0x10020004, [], [⟨0, 32, .ro, 0x0⟩]⟩,
  ⟨0x10020008, [], [⟨0, 16, .ro, 0x0⟩]⟩,
  ⟨0x1002000C, [], [⟨0, 7, .ro, 0x0⟩]⟩,
  ⟨0x10020010, [], [⟨0, 3, .ro, 0x0⟩]⟩,
  ⟨0x10020014, [], [⟨0, 4, .ro, 0x0⟩, ⟨4, 4, .ro, 0x0⟩]⟩,
  ⟨0x10020018, [], [⟨0, 1, .ro, 0x0⟩, ⟨1, 3, .ro, 0x0⟩, ⟨4, 2, .ro, 0x0⟩, ⟨6, 1, .ro, 0x0⟩, ⟨7, 1, .ro, 0x0⟩]⟩,
  ⟨0x1002001C, [], [⟨0, 32, .ro, 0x0⟩]⟩,
  ⟨0x10020020, [], [⟨0, 32, .ro, 0x0⟩]⟩,
  ⟨0x10020040, [(8, 0x4)], [⟨0, 32, .ro, 0x0⟩]⟩,
  ⟨0x10020060, [(8, 0x4)], [⟨0, 32, .ro, 0x0⟩]⟩,
  ⟨0x10020080, [(8, 0x8)], [⟨0, 28, .ro, 0x0⟩]⟩,
  ⟨0x10020084, [(8, 0x8)], [⟨0, 6, .ro, 0x0⟩, ⟨16, 11, .ro, 0x0⟩]⟩,
  ⟨0x10020100, [], [⟨0, 6, .rw, 0x0⟩, ⟨31, 1, .wo, 0x0⟩]⟩,
  ⟨0x10020104, [], [⟨0, 32, .rw, 0x0⟩]⟩,
  ⟨0x10020108, [], [⟨0, 8, .ro, 0x0⟩, ⟨8, 1, .ro, 0x0⟩]⟩]

/-- Registers of block FUS. -/
def regsFus : List RegDesc :=
  regsFus1

/-- Registers of block BKR, part 1. -/
def regsBkr1 : List RegDesc := [
  ⟨0x10030000, [], [⟨0, 4, .ro, 0x0⟩, ⟨4, 3, .ro, 0x0⟩, ⟨16, 16, .rc, 0x0⟩]⟩,
  ⟨0x10030004, [], [⟨0, 9, .lk, 0xFA⟩]⟩,
  ⟨0x10030008, [], [⟨0, 32, .wo, 0x0⟩]⟩,
  ⟨0x1003000C, [], [⟨0, 1, .wo, 0x0⟩]⟩,
  ⟨0x10030010, [], [⟨0, 32, .rw, 0x0⟩]⟩,
  ⟨0x10030020, [], [⟨0, 4, .ro, 0x1⟩, ⟨4, 8, .ro, 0x0⟩]⟩,
  ⟨0x10030024, [], [⟨0, 1, .w1c, 0x1⟩, ⟨1, 1, .w1c, 0x0⟩, ⟨2, 1, .w1c, 0x0⟩, ⟨3, 1, .w1c, 0x0⟩]⟩,
  ⟨0x10030028, [], [⟨0, 1, .ro, 0x0⟩, ⟨1, 1, .ro, 0x0⟩, ⟨2, 1, .ro, 0x0⟩, ⟨3, 2, .ro, 0x0⟩, ⟨5, 1, .ro, 0x0⟩, ⟨6, 1, .ro, 0x0⟩, ⟨7, 1, .ro, 0x0⟩, ⟨8, 7, .ro, 0x0⟩]⟩,
  ⟨0x1003002C, [], [⟨0, 4, .ro, 0x0⟩, ⟨4, 4, .ro, 0x0⟩]⟩,
  ⟨0x10030030, [], [⟨0, 32, .ro, 0x0⟩]⟩,
  ⟨0x10030038, [], [⟨0, 32, .ro, 0x0⟩]⟩,
  ⟨0x10030034, [], [⟨0, 16, .ro, 0x0⟩, ⟨16, 16, .ro, 0x0⟩]⟩,
  ⟨0x1003003C, [], [⟨0, 16, .ro, 0x0⟩, ⟨16, 16, .ro, 0x0⟩]⟩,
  ⟨0x10030040, [], [⟨0, 2, .ro, 0x0⟩, ⟨2, 1, .ro, 0x0⟩, ⟨8, 8, .ro, 0x0⟩, ⟨16, 16, .ro, 0x0⟩]⟩,
  ⟨0x10030044, [], [⟨0, 32, .ro, 0x0⟩]⟩,
  ⟨0x10030048, [], [⟨0, 16, .ro, 0x0⟩, ⟨16, 16, .ro, 0x0⟩]⟩,
  ⟨0x1003004C, [], [⟨0, 16, .wo, 0x0⟩]⟩]

/-- Registers of block BKR. -/
def regsBkr : List RegDesc :=
  regsBkr1

/-- Registers of block DLR, part 1. -/
def regsDlr1 : List RegDesc := [
  ⟨0x10040000, [], [⟨0, 1, .ro, 0x0⟩, ⟨1, 1, .ro, 0x0⟩, ⟨2, 1, .ro, 0x0⟩, ⟨8, 8, .ro, 0x0⟩, ⟨16, 4, .ro, 0x0⟩, ⟨20, 3, .ro, 0x0⟩]⟩,
  ⟨0x10040004, [], [⟨0, 2, .lk, 0x0⟩]⟩,
  ⟨0x10040008, [], [⟨0, 32, .lk, 0x0⟩]⟩,
  ⟨0x1004000C, [], [⟨0, 8, .lk, 0x1⟩]⟩,
  ⟨0x10040010, [], [⟨0, 32, .rw, 0x0⟩]⟩,
  ⟨0x10040014, [], [⟨0, 32, .ro, 0x0⟩]⟩,
  ⟨0x10040018, [], [⟨0, 32, .ro, 0x0⟩]⟩,
  ⟨0x10040020, [(9, 0x4)], [⟨0, 16, .rc, 0x0⟩]⟩,
  ⟨0x10040044, [], [⟨0, 4, .ro, 0x0⟩, ⟨4, 8, .ro, 0x0⟩, ⟨16, 16, .ro, 0x0⟩]⟩,
  ⟨0x10040048, [], [⟨0, 8, .ro, 0x0⟩, ⟨8, 4, .ro, 0x0⟩, ⟨12, 4, .ro, 0x0⟩, ⟨16, 8, .ro, 0x0⟩]⟩,
  ⟨0x1004004C, [], [⟨0, 10, .ro, 0x0⟩, ⟨16, 10, .ro, 0x0⟩]⟩,
  ⟨0x10040050, [], [⟨0, 1, .w1c, 0x0⟩, ⟨1, 1, .w1c, 0x0⟩, ⟨2, 1, .w1c, 0x0⟩]⟩,
  ⟨0x10040054, [], [⟨0, 3, .rw, 0x0⟩]⟩]

/-- Registers of block DLR. -/
def regsDlr : List RegDesc :=
  regsDlr1

/-- Registers of block DEC, part 1. -/
def regsDec1 : List RegDesc := [
  ⟨0x10050000, [], [⟨0, 10, .ro, 0x0⟩, ⟨16, 10, .ro, 0x0⟩]⟩,
  ⟨0x10050010, [], [⟨0, 1, .w1c, 0x0⟩, ⟨1, 1, .w1c, 0x0⟩, ⟨2, 1, .w1c, 0x0⟩, ⟨3, 1, .w1c, 0x0⟩, ⟨4, 1, .w1c, 0x0⟩, ⟨5, 1, .w1c, 0x0⟩]⟩,
  ⟨0x10050014, [], [⟨0, 6, .rw, 0x0⟩]⟩,
  ⟨0x10050020, [], [⟨0, 9, .rw, 0x0⟩, ⟨9, 3, .rw, 0x0⟩, ⟨31, 1, .wo, 0x0⟩]⟩,
  ⟨0x10050024, [], [⟨0, 8, .ro, 0x0⟩, ⟨8, 1, .ro, 0x0⟩]⟩,
  ⟨0x10050100, [(8, 0x10)], [⟨0, 16, .rc, 0x0⟩, ⟨16, 16, .rc, 0x0⟩]⟩,
  ⟨0x10050104, [(8, 0x10)], [⟨0, 10, .ro, 0x0⟩, ⟨16, 10, .ro, 0x0⟩]⟩,
  ⟨0x10052000, [(512, 0x40)], [⟨0, 1, .lk, 0x0⟩, ⟨1, 1, .lk, 0x0⟩, ⟨2, 3, .lk, 0x0⟩, ⟨8, 13, .lk, 0x0⟩, ⟨21, 1, .lk, 0x0⟩]⟩,
  ⟨0x10052004, [(512, 0x40)], [⟨0, 16, .rw, 0x0⟩, ⟨16, 1, .rw, 0x0⟩, ⟨17, 1, .rw, 0x0⟩, ⟨18, 2, .rw, 0x0⟩, ⟨20, 7, .rw, 0x0⟩, ⟨27, 1, .rw, 0x0⟩, ⟨28, 1, .rw, 0x0⟩]⟩,
  ⟨0x10052008, [(512, 0x40)], [⟨0, 32, .rw, 0x0⟩]⟩,
  ⟨0x1005200C, [(512, 0x40)], [⟨0, 32, .rw, 0x0⟩]⟩,
  ⟨0x10052010, [(512, 0x40)], [⟨0, 32, .rw, 0x0⟩]⟩,
  ⟨0x10052014, [(512, 0x40)], [⟨0, 32, .rw, 0x0⟩]⟩,
  ⟨0x10052018, [(512, 0x40)], [⟨0, 10, .lk, 0x0⟩, ⟨10, 7, .lk, 0x0⟩, ⟨17, 1, .lk, 0x0⟩]⟩,
  ⟨0x1005201C, [(512, 0x40)], [⟨0, 8, .lk, 0x28⟩, ⟨8, 10, .lk, 0x1F4⟩, ⟨18, 8, .lk, 0x14⟩]⟩,
  ⟨0x10052020, [(512, 0x40)], [⟨0, 10, .lk, 0x14⟩, ⟨10, 8, .lk, 0x8⟩]⟩,
  ⟨0x10052024, [(512, 0x40)], [⟨0, 3, .ro, 0x0⟩, ⟨3, 3, .ro, 0x0⟩, ⟨6, 3, .ro, 0x0⟩, ⟨9, 10, .ro, 0x0⟩, ⟨19, 2, .ro, 0x0⟩, ⟨21, 3, .ro, 0x0⟩, ⟨24, 4, .ro, 0x0⟩, ⟨28, 1, .ro, 0x0⟩, ⟨29, 1, .ro, 0x0⟩]⟩,
  ⟨0x10052028, [(512, 0x40)], [⟨0, 32, .ro, 0x0⟩]⟩,
  ⟨0x1005202C, [(512, 0x40)], [⟨0, 16, .rc, 0x0⟩, ⟨16, 16, .rc, 0x0⟩]⟩,
  ⟨0x10052030, [(512, 0x40)], [⟨0, 8, .rc, 0x0⟩, ⟨8, 8, .rc, 0x0⟩, ⟨16, 8, .rc, 0x0⟩, ⟨24, 8, .rc, 0x0⟩]⟩]

/-- Registers of block DEC, part 2. -/
def regsDec2 : List RegDesc := [
  ⟨0x10052034, [(512, 0x40)], [⟨0, 8, .rc, 0x0⟩, ⟨8, 8, .rc, 0x0⟩, ⟨16, 8, .rc, 0x0⟩, ⟨24, 8, .rc, 0x0⟩]⟩,
  ⟨0x10052038, [(512, 0x40)], [⟨0, 13, .ro, 0x0⟩, ⟨16, 16, .ro, 0x0⟩]⟩,
  ⟨0x1005203C, [(512, 0x40)], [⟨0, 16, .ro, 0xFFFF⟩, ⟨16, 16, .ro, 0x0⟩]⟩]

/-- Registers of block DEC. -/
def regsDec : List RegDesc :=
  regsDec1 ++ regsDec2

/-- Registers of block ENC, part 1. -/
def regsEnc1 : List RegDesc := [
  ⟨0x10060000, [], [⟨0, 6, .ro, 0x0⟩]⟩,
  ⟨0x10060010, [], [⟨0, 1, .w1c, 0x0⟩, ⟨1, 1, .w1c, 0x0⟩, ⟨2, 1, .w1c, 0x0⟩, ⟨3, 1, .w1c, 0x0⟩, ⟨4, 1, .w1c, 0x0⟩]⟩,
  ⟨0x10060014, [], [⟨0, 5, .rw, 0x0⟩]⟩,
  ⟨0x10060020, [], [⟨0, 5, .rw, 0x0⟩, ⟨5, 3, .rw, 0x0⟩, ⟨31, 1, .wo, 0x0⟩]⟩,
  ⟨0x10060024, [], [⟨0, 8, .ro, 0x0⟩, ⟨8, 4, .ro, 0x0⟩, ⟨12, 1, .ro, 0x0⟩]⟩,
  ⟨0x10060100, [(2, 0x10)], [⟨0, 16, .rc, 0x0⟩, ⟨16, 16, .rc, 0x0⟩]⟩,
  ⟨0x10062000, [(32, 0x40)], [⟨0, 1, .lk, 0x0⟩, ⟨1, 3, .lk, 0x0⟩, ⟨16, 16, .lk, 0x0⟩]⟩,
  ⟨0x10062004, [(32, 0x40)], [⟨0, 6, .lk, 0x1E⟩, ⟨6, 6, .lk, 0x2A⟩, ⟨12, 20, .lk, 0xFA0⟩]⟩,
  ⟨0x10062008, [(32, 0x40)], [⟨0, 12, .lk, 0x0⟩, ⟨12, 10, .lk, 0x64⟩]⟩,
  ⟨0x1006200C, [(32, 0x40)], [⟨0, 16, .rw, 0x0⟩, ⟨16, 1, .rw, 0x0⟩, ⟨17, 1, .rw, 0x0⟩, ⟨18, 6, .rw, 0x0⟩, ⟨24, 8, .rw, 0xAF⟩]⟩,
  ⟨0x10062010, [(32, 0x40)], [⟨0, 32, .rw, 0x0⟩]⟩,
  ⟨0x10062014, [(32, 0x40)], [⟨0, 32, .rw, 0x0⟩]⟩,
  ⟨0x10062018, [(32, 0x40)], [⟨0, 32, .rw, 0x0⟩]⟩,
  ⟨0x1006201C, [(32, 0x40)], [⟨0, 1, .ro, 0x0⟩, ⟨1, 1, .ro, 0x0⟩, ⟨2, 1, .ro, 0x0⟩, ⟨3, 6, .ro, 0x0⟩, ⟨16, 16, .ro, 0x0⟩]⟩,
  ⟨0x10062020, [(32, 0x40)], [⟨0, 32, .ro, 0x0⟩]⟩,
  ⟨0x10062024, [(32, 0x40)], [⟨0, 32, .ro, 0x0⟩]⟩,
  ⟨0x10062028, [(32, 0x40)], [⟨0, 32, .ro, 0x0⟩]⟩,
  ⟨0x1006202C, [(32, 0x40)], [⟨0, 16, .rc, 0x0⟩]⟩,
  ⟨0x10062030, [(32, 0x40)], [⟨0, 32, .rc, 0x0⟩]⟩,
  ⟨0x10062034, [(32, 0x40)], [⟨0, 8, .rc, 0x0⟩, ⟨8, 8, .rc, 0x0⟩, ⟨16, 8, .rc, 0x0⟩, ⟨24, 8, .rc, 0x0⟩]⟩]

/-- Registers of block ENC, part 2. -/
def regsEnc2 : List RegDesc := [
  ⟨0x10062038, [(32, 0x40)], [⟨0, 16, .rc, 0x0⟩, ⟨16, 16, .rc, 0x0⟩]⟩]

/-- Registers of block ENC. -/
def regsEnc : List RegDesc :=
  regsEnc1 ++ regsEnc2

/-- Registers of block MEM, part 1. -/
def regsMem1 : List RegDesc := [
  ⟨0x10070000, [], [⟨0, 3, .ro, 0x0⟩, ⟨3, 3, .ro, 0x0⟩, ⟨6, 1, .ro, 0x0⟩, ⟨8, 8, .ro, 0x0⟩, ⟨16, 8, .ro, 0x0⟩]⟩,
  ⟨0x10070004, [], [⟨0, 2, .lk, 0x0⟩, ⟨2, 2, .lk, 0x0⟩, ⟨4, 2, .lk, 0x0⟩, ⟨6, 2, .lk, 0x0⟩, ⟨8, 1, .lk, 0x0⟩]⟩,
  ⟨0x10070008, [], [⟨0, 6, .lk, 0x30⟩, ⟨8, 6, .lk, 0x10⟩, ⟨16, 4, .lk, 0x8⟩]⟩,
  ⟨0x1007000C, [], [⟨0, 16, .lk, 0x1000⟩]⟩,
  ⟨0x10070010, [], [⟨0, 2, .rw, 0x0⟩, ⟨2, 1, .wo, 0x0⟩, ⟨8, 8, .ro, 0x0⟩, ⟨16, 1, .ro, 0x0⟩]⟩,
  ⟨0x10070014, [], [⟨0, 3, .ro, 0x0⟩, ⟨3, 1, .ro, 0x0⟩, ⟨4, 2, .ro, 0x0⟩, ⟨8, 3, .ro, 0x0⟩, ⟨16, 8, .rc, 0x0⟩, ⟨24, 8, .rc, 0x0⟩]⟩,
  ⟨0x10070020, [], [⟨0, 1, .w1c, 0x0⟩, ⟨1, 1, .w1c, 0x0⟩, ⟨2, 1, .w1c, 0x0⟩, ⟨3, 1, .w1c, 0x0⟩, ⟨4, 1, .w1c, 0x0⟩, ⟨5, 1, .w1c, 0x0⟩, ⟨6, 1, .w1c, 0x0⟩, ⟨7, 1, .w1c, 0x0⟩, ⟨8, 1, .w1c, 0x0⟩, ⟨9, 1, .w1c, 0x0⟩]⟩,
  ⟨0x10070024, [], [⟨0, 10, .rw, 0x0⟩]⟩,
  ⟨0x10070030, [], [⟨0, 16, .rc, 0x0⟩, ⟨16, 16, .rc, 0x0⟩]⟩,
  ⟨0x10070034, [], [⟨0, 32, .ro, 0x0⟩]⟩,
  ⟨0x10070038, [], [⟨0, 8, .ro, 0x0⟩]⟩,
  ⟨0x1007003C, [], [⟨0, 6, .ro, 0x0⟩, ⟨6, 2, .ro, 0x0⟩, ⟨16, 16, .ro, 0x0⟩]⟩,
  ⟨0x10070040, [], [⟨0, 16, .ro, 0x0⟩, ⟨16, 16, .rc, 0x0⟩]⟩,
  ⟨0x10070044, [], [⟨0, 28, .ro, 0x0⟩]⟩,
  ⟨0x10070050, [], [⟨0, 8, .lk, 0x0⟩, ⟨8, 8, .lk, 0x0⟩, ⟨16, 8, .lk, 0x0⟩, ⟨24, 8, .lk, 0x0⟩]⟩,
  ⟨0x10070054, [], [⟨0, 12, .lk, 0x0⟩, ⟨16, 16, .lk, 0x0⟩]⟩,
  ⟨0x10070058, [], [⟨0, 8, .lk, 0x0⟩, ⟨8, 4, .lk, 0x0⟩, ⟨12, 4, .lk, 0x0⟩, ⟨16, 8, .lk, 0x0⟩, ⟨24, 4, .lk, 0x0⟩, ⟨28, 4, .lk, 0x0⟩]⟩,
  ⟨0x10070100, [(8, 0x40)], [⟨0, 3, .ro, 0x0⟩, ⟨3, 1, .ro, 0x0⟩, ⟨4, 1, .ro, 0x0⟩, ⟨5, 3, .ro, 0x0⟩, ⟨8, 7, .ro, 0x0⟩, ⟨15, 1, .ro, 0x0⟩, ⟨16, 7, .ro, 0x0⟩]⟩,
  ⟨0x10070104, [(8, 0x40)], [⟨0, 8, .rc, 0x0⟩, ⟨8, 8, .rc, 0x0⟩, ⟨16, 8, .rc, 0x0⟩, ⟨24, 8, .rc, 0x0⟩]⟩,
  ⟨0x10070108, [(8, 0x40)], [⟨0, 16, .rc, 0x0⟩, ⟨16, 16, .rc, 0x0⟩]⟩]

/-- Registers of block MEM, part 2. -/
def regsMem2 : List RegDesc := [
  ⟨0x1007010C, [(8, 0x40)], [⟨0, 16, .rc, 0x0⟩, ⟨16, 16, .rc, 0x0⟩]⟩,
  ⟨0x10070400, [(55, 0x8)], [⟨0, 24, .ro, 0x0⟩]⟩,
  ⟨0x10070404, [(55, 0x8)], [⟨0, 24, .ro, 0x0⟩, ⟨24, 8, .ro, 0x0⟩]⟩]

/-- Registers of block MEM. -/
def regsMem : List RegDesc :=
  regsMem1 ++ regsMem2

/-- Registers of block TIM, part 1. -/
def regsTim1 : List RegDesc := [
  ⟨0x10080000, [], [⟨0, 1, .ro, 0x0⟩, ⟨1, 1, .ro, 0x0⟩, ⟨2, 1, .ro, 0x0⟩, ⟨3, 1, .ro, 0x0⟩]⟩,
  ⟨0x10080004, [], [⟨0, 32, .rw, 0x28000000⟩]⟩,
  ⟨0x10080008, [], [⟨0, 32, .ro, 0x0⟩]⟩,
  ⟨0x1008000C, [], [⟨0, 32, .ro, 0x0⟩]⟩,
  ⟨0x10080010, [], [⟨0, 32, .rw, 0x0⟩]⟩,
  ⟨0x10080014, [], [⟨0, 32, .rw, 0x0⟩]⟩,
  ⟨0x10080018, [], [⟨0, 32, .rw, 0x0⟩]⟩,
  ⟨0x1008001C, [], [⟨0, 1, .rw, 0x0⟩, ⟨1, 1, .wo, 0x0⟩]⟩,
  ⟨0x10080020, [], [⟨0, 32, .rw, 0x0⟩]⟩,
  ⟨0x10080024, [], [⟨0, 32, .rw, 0x0⟩]⟩,
  ⟨0x10080028, [], [⟨0, 8, .rw, 0x0⟩, ⟨16, 8, .ro, 0x0⟩]⟩,
  ⟨0x1008002C, [], [⟨0, 16, .rc, 0x0⟩, ⟨16, 16, .rc, 0x0⟩]⟩,
  ⟨0x10080030, [], [⟨0, 1, .w1c, 0x0⟩, ⟨1, 1, .w1c, 0x0⟩, ⟨2, 1, .w1c, 0x0⟩, ⟨3, 1, .w1c, 0x0⟩, ⟨4, 1, .w1c, 0x0⟩, ⟨5, 1, .w1c, 0x0⟩, ⟨6, 1, .w1c, 0x0⟩]⟩,
  ⟨0x10080034, [], [⟨0, 7, .rw, 0x0⟩]⟩,
  ⟨0x10080038, [], [⟨0, 16, .rw, 0x0⟩, ⟨16, 1, .ro, 0x0⟩]⟩,
  ⟨0x10080100, [(64, 0x10)], [⟨0, 2, .lk, 0x0⟩, ⟨2, 1, .lk, 0x0⟩, ⟨4, 4, .lk, 0x0⟩, ⟨8, 8, .lk, 0x1⟩, ⟨31, 1, .ro, 0x0⟩]⟩,
  ⟨0x10080104, [(64, 0x10)], [⟨0, 32, .lk, 0x0⟩]⟩,
  ⟨0x10080108, [(64, 0x10)], [⟨0, 32, .lk, 0x0⟩]⟩,
  ⟨0x1008010C, [(64, 0x10)], [⟨0, 16, .rc, 0x0⟩, ⟨16, 1, .ro, 0x0⟩]⟩,
  ⟨0x10080800, [(4, 0x10)], [⟨0, 3, .lk, 0x0⟩, ⟨3, 1, .lk, 0x0⟩, ⟨4, 8, .lk, 0x1⟩, ⟨12, 4, .lk, 0x0⟩, ⟨16, 16, .lk, 0x0⟩]⟩]

/-- Registers of block TIM, part 2. -/
def regsTim2 : List RegDesc := [
  ⟨0x10080804, [(4, 0x10)], [⟨0, 32, .lk, 0x0⟩]⟩,
  ⟨0x10080808, [(4, 0x10)], [⟨0, 32, .lk, 0x0⟩]⟩,
  ⟨0x1008080C, [(4, 0x10)], [⟨0, 16, .rc, 0x0⟩, ⟨16, 16, .rc, 0x0⟩]⟩,
  ⟨0x10081000, [(3, 0x100)], [⟨0, 1, .lk, 0x0⟩, ⟨1, 1, .lk, 0x0⟩, ⟨2, 1, .lk, 0x0⟩, ⟨3, 1, .lk, 0x0⟩, ⟨4, 1, .lk, 0x0⟩, ⟨16, 16, .lk, 0x1400⟩]⟩,
  ⟨0x10081004, [(3, 0x100)], [⟨0, 32, .lk, 0x0⟩]⟩,
  ⟨0x10081008, [(3, 0x100)], [⟨0, 16, .lk, 0x0⟩]⟩,
  ⟨0x1008100C, [(3, 0x100)], [⟨0, 16, .lk, 0x0⟩, ⟨16, 16, .lk, 0x0⟩]⟩,
  ⟨0x10081010, [(3, 0x100)], [⟨0, 1, .ro, 0x0⟩, ⟨1, 3, .ro, 0x0⟩, ⟨16, 8, .rc, 0x0⟩]⟩,
  ⟨0x10081014, [(3, 0x100)], [⟨0, 8, .rc, 0x0⟩, ⟨8, 8, .rc, 0x0⟩, ⟨16, 8, .rc, 0x0⟩, ⟨24, 8, .rc, 0x0⟩]⟩,
  ⟨0x10081018, [(3, 0x100)], [⟨0, 16, .rc, 0x0⟩, ⟨16, 16, .rc, 0x0⟩]⟩,
  ⟨0x10081020, [(3, 0x100)], [⟨0, 32, .ro, 0x0⟩]⟩,
  ⟨0x10081024, [(3, 0x100)], [⟨0, 32, .ro, 0x0⟩]⟩,
  ⟨0x10081028, [(3, 0x100)], [⟨0, 16, .ro, 0x0⟩, ⟨16, 4, .ro, 0x0⟩]⟩,
  ⟨0x10081040, [(3, 0x100), (16, 0x8)], [⟨0, 32, .rw, 0x0⟩]⟩,
  ⟨0x10081044, [(3, 0x100), (16, 0x8)], [⟨0, 16, .rw, 0x0⟩, ⟨16, 1, .rw, 0x0⟩]⟩]

/-- Registers of block TIM. -/
def regsTim : List RegDesc :=
  regsTim1 ++ regsTim2

/-- Registers of block TCH, part 1. -/
def regsTch1 : List RegDesc := [
  ⟨0x10090000, [], [⟨0, 1, .ro, 0x0⟩, ⟨4, 4, .ro, 0x0⟩]⟩,
  ⟨0x10090010, [], [⟨0, 1, .w1c, 0x0⟩, ⟨1, 1, .w1c, 0x0⟩, ⟨2, 1, .w1c, 0x0⟩, ⟨3, 1, .w1c, 0x0⟩, ⟨4, 1, .w1c, 0x0⟩, ⟨5, 1, .w1c, 0x0⟩, ⟨6, 1, .w1c, 0x0⟩, ⟨7, 1, .w1c, 0x0⟩, ⟨8, 1, .w1c, 0x0⟩]⟩,
  ⟨0x10090014, [], [⟨0, 9, .rw, 0x0⟩]⟩,
  ⟨0x10090100, [(4, 0x100)], [⟨0, 1, .lk, 0x0⟩, ⟨1, 6, .lk, 0x0⟩, ⟨7, 7, .lk, 0x0⟩, ⟨14, 4, .lk, 0x1⟩, ⟨18, 1, .lk, 0x1⟩, ⟨19, 3, .lk, 0x2⟩, ⟨22, 4, .lk, 0x4⟩]⟩,
  ⟨0x10090104, [(4, 0x100)], [⟨0, 2, .lk, 0x1⟩, ⟨2, 7, .lk, 0x10⟩, ⟨16, 16, .lk, 0x0⟩]⟩,
  ⟨0x10090108, [(4, 0x100)], [⟨0, 12, .lk, 0xA0⟩, ⟨12, 12, .lk, 0x60⟩]⟩,
  ⟨0x1009010C, [(4, 0x100)], [⟨0, 12, .lk, 0x50⟩, ⟨12, 12, .lk, 0x78⟩]⟩,
  ⟨0x10090120, [(4, 0x100)], [⟨0, 3, .ro, 0x0⟩, ⟨4, 4, .ro, 0x0⟩, ⟨8, 3, .ro, 0x0⟩]⟩,
  ⟨0x10090124, [(4, 0x100)], [⟨0, 13, .ro, 0x0⟩, ⟨16, 13, .ro, 0x0⟩]⟩,
  ⟨0x10090128, [(4, 0x100)], [⟨0, 8, .ro, 0x0⟩, ⟨8, 3, .ro, 0x0⟩, ⟨11, 1, .ro, 0x0⟩, ⟨16, 16, .rc, 0x0⟩]⟩,
  ⟨0x10090130, [(4, 0x100)], [⟨0, 8, .rc, 0x0⟩, ⟨8, 8, .rc, 0x0⟩, ⟨16, 8, .rc, 0x0⟩, ⟨24, 8, .rc, 0x0⟩]⟩,
  ⟨0x10090134, [(4, 0x100)], [⟨0, 8, .rc, 0x0⟩, ⟨8, 8, .rc, 0x0⟩, ⟨16, 8, .rc, 0x0⟩, ⟨24, 8, .rc, 0x0⟩]⟩,
  ⟨0x10090138, [(4, 0x100)], [⟨0, 1, .wo, 0x0⟩, ⟨1, 1, .wo, 0x0⟩, ⟨8, 8, .ro, 0x0⟩]⟩,
  ⟨0x10090140, [(4, 0x100)], [⟨0, 4, .ro, 0x0⟩, ⟨16, 16, .ro, 0x0⟩]⟩,
  ⟨0x10090150, [(4, 0x100)], [⟨0, 13, .rw, 0x0⟩, ⟨13, 1, .rw, 0x0⟩]⟩,
  ⟨0x10090154, [(4, 0x100)], [⟨0, 16, .ro, 0x0⟩, ⟨16, 16, .ro, 0x0⟩]⟩,
  ⟨0x10090158, [(4, 0x100)], [⟨0, 16, .ro, 0x0⟩, ⟨16, 16, .ro, 0x0⟩]⟩,
  ⟨0x1009015C, [(4, 0x100)], [⟨0, 16, .ro, 0x0⟩, ⟨16, 2, .ro, 0x0⟩]⟩,
  ⟨0x10094000, [(4, 0x1000), (16, 0xC0), (48, 0x4)], [⟨0, 32, .ro, 0x0⟩]⟩]

/-- Registers of block TCH. -/
def regsTch : List RegDesc :=
  regsTch1

/-- Registers of block AUD, part 1. -/
def regsAud1 : List RegDesc := [
  ⟨0x100A0000, [], [⟨0, 8, .ro, 0x0⟩, ⟨8, 8, .ro, 0x0⟩, ⟨16, 1, .ro, 0x0⟩]⟩,
  ⟨0x100A0010, [], [⟨0, 1, .w1c, 0x0⟩, ⟨1, 1, .w1c, 0x0⟩, ⟨2, 1, .w1c, 0x0⟩, ⟨3, 1, .w1c, 0x0⟩, ⟨4, 1, .w1c, 0x0⟩, ⟨5, 1, .w1c, 0x0⟩]⟩,
  ⟨0x100A0014, [], [⟨0, 6, .rw, 0x0⟩]⟩,
  ⟨0x100A0040, [(8, 0x4)], [⟨0, 6, .lk, 0x0⟩, ⟨6, 2, .lk, 0x1⟩, ⟨8, 1, .lk, 0x0⟩]⟩,
  ⟨0x100A0060, [(8, 0x4)], [⟨0, 32, .ro, 0x0⟩]⟩,
  ⟨0x100A0080, [(8, 0x4)], [⟨0, 32, .ro, 0x0⟩]⟩,
  ⟨0x100A00A0, [], [⟨0, 1, .lk, 0x0⟩, ⟨1, 3, .lk, 0x0⟩, ⟨4, 4, .lk, 0x0⟩, ⟨8, 12, .lk, 0x3E8⟩, ⟨20, 6, .lk, 0x6⟩]⟩,
  ⟨0x100A00A4, [], [⟨0, 16, .lk, 0x1F4⟩, ⟨16, 16, .lk, 0x1F4⟩]⟩,
  ⟨0x100A00A8, [], [⟨0, 1, .ro, 0x0⟩, ⟨1, 1, .ro, 0x0⟩, ⟨16, 16, .ro, 0x0⟩]⟩,
  ⟨0x100A0100, [(8, 0x40)], [⟨0, 1, .lk, 0x0⟩, ⟨1, 1, .lk, 0x0⟩, ⟨2, 1, .lk, 0x0⟩, ⟨3, 1, .lk, 0x1⟩, ⟨4, 1, .lk, 0x0⟩, ⟨5, 4, .lk, 0x1⟩, ⟨9, 2, .lk, 0x2⟩, ⟨11, 1, .lk, 0x1⟩, ⟨12, 3, .lk, 0x0⟩]⟩,
  ⟨0x100A0104, [(8, 0x40)], [⟨12, 20, .lk, 0x0⟩]⟩,
  ⟨0x100A0108, [(8, 0x40)], [⟨0, 8, .lk, 0x0⟩, ⟨8, 7, .lk, 0x4⟩]⟩,
  ⟨0x100A010C, [(8, 0x40)], [⟨0, 3, .ro, 0x0⟩, ⟨3, 1, .ro, 0x0⟩, ⟨4, 1, .ro, 0x0⟩, ⟨5, 5, .ro, 0x0⟩, ⟨10, 2, .ro, 0x0⟩]⟩,
  ⟨0x100A0110, [(8, 0x40)], [⟨0, 32, .ro, 0x0⟩]⟩,
  ⟨0x100A0114, [(8, 0x40)], [⟨0, 16, .rc, 0x0⟩, ⟨16, 16, .rc, 0x0⟩]⟩,
  ⟨0x100A0118, [(8, 0x40)], [⟨0, 16, .rc, 0x0⟩, ⟨16, 16, .rc, 0x0⟩]⟩,
  ⟨0x100A011C, [(8, 0x40)], [⟨0, 8, .rc, 0x0⟩, ⟨8, 8, .rc, 0x0⟩, ⟨16, 8, .rc, 0x0⟩, ⟨24, 8, .rc, 0x0⟩]⟩,
  ⟨0x100A0120, [(8, 0x40)], [⟨0, 24, .ro, 0x0⟩]⟩,
  ⟨0x100A0124, [(8, 0x40)], [⟨0, 1, .rw, 0x0⟩]⟩]

/-- Registers of block AUD. -/
def regsAud : List RegDesc :=
  regsAud1

/-- Registers of block CMD, part 1. -/
def regsCmd1 : List RegDesc := [
  ⟨0x100B0000, [], [⟨0, 5, .ro, 0x0⟩, ⟨8, 1, .ro, 0x0⟩, ⟨9, 2, .ro, 0x0⟩, ⟨11, 2, .ro, 0x0⟩, ⟨16, 13, .ro, 0x0⟩]⟩,
  ⟨0x100B0004, [], [⟨0, 32, .ro, 0x0⟩]⟩,
  ⟨0x100B0008, [], [⟨0, 32, .ro, 0x0⟩]⟩,
  ⟨0x100B000C, [], [⟨0, 16, .ro, 0x0⟩, ⟨31, 1, .wo, 0x0⟩]⟩,
  ⟨0x100B1000, [(1024, 0x4)], [⟨0, 32, .ro, 0x0⟩]⟩,
  ⟨0x100B0010, [], [⟨0, 8, .rc, 0x0⟩, ⟨8, 8, .rc, 0x0⟩, ⟨16, 8, .rc, 0x0⟩, ⟨24, 8, .rc, 0x0⟩]⟩]

/-- Registers of block CMD. -/
def regsCmd : List RegDesc :=
  regsCmd1

/-- Registers of block HST, part 1. -/
def regsHst1 : List RegDesc := [
  ⟨0x100C0000, [], [⟨0, 1, .ro, 0x0⟩, ⟨1, 2, .ro, 0x0⟩, ⟨3, 1, .ro, 0x0⟩]⟩,
  ⟨0x100C0004, [], [⟨0, 8, .ro, 0x1⟩, ⟨8, 1, .ro, 0x0⟩, ⟨9, 1, .ro, 0x0⟩]⟩,
  ⟨0x100C0008, [], [⟨0, 13, .wo, 0x0⟩]⟩,
  ⟨0x100C000C, [], [⟨0, 8, .wo, 0x0⟩, ⟨8, 1, .wo, 0x0⟩]⟩,
  ⟨0x100C0010, [], [⟨0, 4, .w1c, 0x0⟩]⟩,
  ⟨0x100C0014, [], [⟨0, 4, .rw, 0x0⟩]⟩,
  ⟨0x100C0018, [], [⟨0, 16, .rc, 0x0⟩, ⟨16, 16, .rc, 0x0⟩]⟩]

/-- Registers of block HST. -/
def regsHst : List RegDesc :=
  regsHst1

/-- Registers of block CHK, part 1. -/
def regsChk1 : List RegDesc := [
  ⟨0x100D0000, [(4, 0x40)], [⟨0, 1, .wo, 0x0⟩, ⟨1, 1, .rw, 0x0⟩, ⟨2, 1, .rw, 0x0⟩, ⟨3, 1, .rw, 0x0⟩, ⟨4, 1, .rw, 0x0⟩, ⟨5, 1, .rw, 0x0⟩, ⟨8, 6, .rw, 0x20⟩, ⟨16, 12, .rw, 0x0⟩]⟩,
  ⟨0x100D0004, [(4, 0x40)], [⟨0, 32, .rw, 0x1EDC6F41⟩]⟩,
  ⟨0x100D0008, [(4, 0x40)], [⟨0, 32, .rw, 0xFFFFFFFF⟩]⟩,
  ⟨0x100D000C, [(4, 0x40)], [⟨0, 32, .rw, 0xFFFFFFFF⟩]⟩,
  ⟨0x100D0010, [(4, 0x40)], [⟨0, 32, .wo, 0x0⟩]⟩,
  ⟨0x100D0014, [(4, 0x40)], [⟨0, 32, .wo, 0x0⟩]⟩,
  ⟨0x100D0018, [(4, 0x40)], [⟨0, 32, .wo, 0x0⟩]⟩,
  ⟨0x100D001C, [(4, 0x40)], [⟨0, 32, .rw, 0x0⟩]⟩,
  ⟨0x100D0020, [(4, 0x40)], [⟨0, 32, .ro, 0x0⟩]⟩,
  ⟨0x100D0024, [(4, 0x40)], [⟨0, 32, .rw, 0x0⟩]⟩,
  ⟨0x100D0028, [(4, 0x40)], [⟨0, 8, .rw, 0x0⟩, ⟨8, 1, .rw, 0x0⟩, ⟨9, 1, .rw, 0x0⟩, ⟨10, 1, .rw, 0x0⟩, ⟨11, 1, .w1c, 0x0⟩]⟩]

/-- Registers of block CHK. -/
def regsChk : List RegDesc :=
  regsChk1

/-- Registers of block SCO, part 1. -/
def regsSco1 : List RegDesc := [
  ⟨0x100E0000, [], [⟨0, 1, .ro, 0x0⟩, ⟨1, 1, .ro, 0x1⟩, ⟨2, 1, .ro, 0x0⟩, ⟨3, 1, .ro, 0x0⟩, ⟨4, 1, .ro, 0x0⟩, ⟨8, 8, .ro, 0x0⟩, ⟨16, 2, .ro, 0x0⟩]⟩,
  ⟨0x100E0004, [], [⟨0, 1, .ro, 0x1⟩, ⟨1, 1, .ro, 0x0⟩, ⟨2, 1, .ro, 0x0⟩, ⟨16, 16, .ro, 0x0⟩]⟩,
  ⟨0x100E0008, [], [⟨0, 32, .ro, 0x0⟩]⟩,
  ⟨0x100E000C, [], [⟨0, 32, .ro, 0x0⟩]⟩,
  ⟨0x100E0010, [], [⟨0, 11, .ro, 0x0⟩]⟩,
  ⟨0x100E0014, [], [⟨0, 32, .ro, 0x0⟩]⟩,
  ⟨0x100E0018, [], [⟨0, 32, .ro, 0x0⟩]⟩,
  ⟨0x100E0020, [], [⟨0, 16, .ro, 0x0⟩]⟩,
  ⟨0x100E0024, [], [⟨0, 16, .ro, 0x0⟩]⟩,
  ⟨0x100E0030, [], [⟨0, 11, .lk, 0x0⟩]⟩,
  ⟨0x100E0034, [], [⟨0, 12, .lk, 0x0⟩]⟩,
  ⟨0x100E0100, [(16, 0x40), (4, 0x10)], [⟨0, 1, .lk, 0x0⟩, ⟨1, 1, .lk, 0x0⟩, ⟨2, 1, .lk, 0x0⟩, ⟨8, 11, .lk, 0x0⟩, ⟨19, 9, .lk, 0x0⟩]⟩,
  ⟨0x100E0104, [(16, 0x40), (4, 0x10)], [⟨0, 13, .lk, 0x0⟩, ⟨16, 13, .lk, 0x0⟩]⟩,
  ⟨0x100E0108, [(16, 0x40), (4, 0x10)], [⟨0, 13, .lk, 0x0⟩, ⟨16, 13, .lk, 0x0⟩]⟩,
  ⟨0x100E0500, [(16, 0x4)], [⟨0, 1, .ro, 0x0⟩, ⟨8, 24, .ro, 0x0⟩]⟩]

/-- Registers of block SCO. -/
def regsSco : List RegDesc :=
  regsSco1

/-- Registers of block LOG, part 1. -/
def regsLog1 : List RegDesc := [
  ⟨0x100F0000, [], [⟨0, 1, .ro, 0x0⟩, ⟨1, 1, .ro, 0x0⟩, ⟨2, 1, .ro, 0x0⟩, ⟨8, 9, .ro, 0x0⟩]⟩,
  ⟨0x100F0004, [], [⟨0, 32, .ro, 0x0⟩]⟩,
  ⟨0x100F0008, [], [⟨0, 32, .ro, 0x0⟩]⟩,
  ⟨0x100F000C, [], [⟨0, 32, .ro, 0x0⟩]⟩,
  ⟨0x100F0010, [], [⟨0, 32, .ro, 0x0⟩]⟩,
  ⟨0x100F0014, [], [⟨0, 16, .rc, 0x0⟩, ⟨16, 16, .ro, 0x0⟩]⟩]

/-- Registers of block LOG. -/
def regsLog : List RegDesc :=
  regsLog1

/-- Registers of block CMP, part 1. -/
def regsCmp1 : List RegDesc := [
  ⟨0x20008000, [], [⟨0, 1, .ro, 0x0⟩, ⟨1, 1, .ro, 0x0⟩, ⟨8, 8, .ro, 0x0⟩, ⟨16, 10, .ro, 0x0⟩]⟩,
  ⟨0x20008004, [], [⟨0, 32, .ro, 0x0⟩]⟩,
  ⟨0x20008008, [], [⟨0, 16, .rc, 0x0⟩, ⟨16, 16, .rc, 0x0⟩]⟩,
  ⟨0x2000800C, [], [⟨0, 9, .ro, 0x0⟩, ⟨9, 2, .ro, 0x0⟩, ⟨11, 2, .ro, 0x0⟩, ⟨16, 16, .ro, 0x0⟩]⟩,
  ⟨0x20008010, [], [⟨0, 1, .w1c, 0x0⟩, ⟨1, 1, .w1c, 0x0⟩, ⟨2, 1, .w1c, 0x0⟩, ⟨3, 1, .w1c, 0x0⟩, ⟨4, 1, .w1c, 0x0⟩, ⟨5, 1, .w1c, 0x0⟩]⟩,
  ⟨0x20008014, [], [⟨0, 6, .rw, 0x0⟩]⟩,
  ⟨0x20008018, [], [⟨0, 16, .rc, 0x0⟩, ⟨16, 10, .ro, 0x0⟩]⟩,
  ⟨0x20008040, [(16, 0x4)], [⟨0, 2, .lk, 0x0⟩, ⟨2, 1, .ro, 0x0⟩, ⟨3, 1, .ro, 0x0⟩, ⟨4, 4, .lk, 0x3⟩, ⟨8, 4, .ro, 0x0⟩, ⟨12, 1, .ro, 0x0⟩, ⟨13, 1, .ro, 0x0⟩, ⟨16, 3, .ro, 0x0⟩]⟩,
  ⟨0x20008080, [(16, 0x4)], [⟨0, 32, .ro, 0x0⟩]⟩,
  ⟨0x200080C0, [(16, 0x4)], [⟨0, 16, .ro, 0x0⟩, ⟨16, 4, .ro, 0x0⟩]⟩,
  ⟨0x20009000, [(512, 0x20)], [⟨0, 20, .lk, 0x0⟩, ⟨20, 2, .lk, 0x0⟩, ⟨22, 4, .lk, 0x3⟩, ⟨26, 4, .lk, 0x3⟩]⟩,
  ⟨0x20009004, [(512, 0x20)], [⟨0, 10, .lk, 0x14⟩, ⟨10, 8, .lk, 0x1E⟩, ⟨18, 1, .lk, 0x0⟩, ⟨19, 1, .lk, 0x0⟩, ⟨20, 2, .lk, 0x0⟩, ⟨22, 4, .lk, 0x1⟩]⟩,
  ⟨0x20009008, [(512, 0x20)], [⟨0, 11, .lk, 0x44C⟩]⟩,
  ⟨0x2000900C, [(512, 0x20)], [⟨0, 2, .ro, 0x0⟩, ⟨2, 4, .ro, 0x0⟩, ⟨6, 9, .ro, 0x0⟩, ⟨15, 1, .ro, 0x0⟩, ⟨16, 4, .ro, 0x0⟩, ⟨20, 4, .ro, 0x0⟩, ⟨24, 8, .ro, 0x0⟩]⟩,
  ⟨0x20009010, [(512, 0x20)], [⟨0, 32, .ro, 0xFFFFFFFF⟩]⟩,
  ⟨0x20009014, [(512, 0x20)], [⟨0, 32, .ro, 0x0⟩]⟩,
  ⟨0x20009018, [(512, 0x20)], [⟨0, 16, .rc, 0x0⟩]⟩,
  ⟨0x2000901C, [(512, 0x20)], [⟨0, 4, .ro, 0x0⟩, ⟨4, 28, .ro, 0x0⟩]⟩,
  ⟨0x20000000, [], [⟨0, 1, .wo, 0x0⟩, ⟨1, 1, .ro, 0x0⟩, ⟨2, 1, .ro, 0x0⟩]⟩,
  ⟨0x20000004, [], [⟨0, 8, .ro, 0x0⟩, ⟨8, 4, .ro, 0x0⟩, ⟨16, 8, .rc, 0x0⟩]⟩]

/-- Registers of block CMP, part 2. -/
def regsCmp2 : List RegDesc := [
  ⟨0x20000008, [], [⟨0, 32, .ro, 0x0⟩]⟩,
  ⟨0x20000010, [], [⟨0, 1, .w1c, 0x0⟩, ⟨1, 1, .w1c, 0x0⟩, ⟨2, 1, .w1c, 0x0⟩, ⟨3, 1, .w1c, 0x0⟩, ⟨4, 1, .w1c, 0x0⟩, ⟨5, 1, .w1c, 0x0⟩, ⟨6, 1, .w1c, 0x0⟩, ⟨7, 1, .w1c, 0x0⟩, ⟨8, 1, .w1c, 0x0⟩]⟩,
  ⟨0x20000014, [], [⟨0, 9, .rw, 0x0⟩]⟩,
  ⟨0x20000100, [(8, 0x10)], [⟨0, 28, .lk, 0x0⟩]⟩,
  ⟨0x20000104, [(8, 0x10)], [⟨0, 16, .lk, 0x0⟩]⟩,
  ⟨0x20000108, [(8, 0x10)], [⟨0, 14, .lk, 0x0⟩, ⟨16, 14, .ro, 0x0⟩]⟩,
  ⟨0x20000180, [], [⟨0, 8, .rc, 0x0⟩, ⟨8, 8, .rc, 0x0⟩, ⟨16, 8, .rc, 0x0⟩, ⟨24, 8, .rc, 0x0⟩]⟩,
  ⟨0x20000184, [], [⟨0, 13, .wo, 0x0⟩]⟩,
  ⟨0x20000188, [], [⟨0, 13, .rw, 0x0⟩]⟩,
  ⟨0x2000018C, [], [⟨0, 3, .ro, 0x0⟩, ⟨3, 1, .ro, 0x0⟩, ⟨4, 3, .ro, 0x0⟩, ⟨16, 16, .ro, 0x0⟩]⟩,
  ⟨0x20000190, [], [⟨0, 28, .ro, 0x0⟩]⟩,
  ⟨0x20000194, [], [⟨0, 32, .ro, 0x0⟩]⟩,
  ⟨0x20000198, [], [⟨0, 32, .ro, 0x0⟩]⟩,
  ⟨0x20000200, [], [⟨0, 8, .rw, 0x0⟩]⟩,
  ⟨0x20000204, [], [⟨0, 32, .rw, 0x0⟩]⟩,
  ⟨0x20000208, [], [⟨0, 1, .wo, 0x0⟩]⟩,
  ⟨0x2000020C, [], [⟨0, 3, .ro, 0x0⟩, ⟨3, 1, .ro, 0x0⟩, ⟨8, 6, .ro, 0x0⟩, ⟨16, 8, .ro, 0x0⟩, ⟨24, 8, .ro, 0x0⟩]⟩,
  ⟨0x20000210, [], [⟨0, 32, .ro, 0x0⟩]⟩,
  ⟨0x20000214, [], [⟨0, 32, .ro, 0x0⟩]⟩,
  ⟨0x20000300, [(8, 0x20), (8, 0x4)], [⟨0, 12, .sh, 0x0⟩, ⟨16, 12, .sh, 0x0⟩]⟩]

/-- Registers of block CMP, part 3. -/
def regsCmp3 : List RegDesc := [
  ⟨0x20000400, [(16, 0x40), (16, 0x4)], [⟨0, 10, .sh, 0x0⟩, ⟨10, 10, .sh, 0x0⟩, ⟨20, 10, .sh, 0x0⟩]⟩,
  ⟨0x20000800, [(16, 0x80)], [⟨0, 1, .sh, 0x0⟩]⟩,
  ⟨0x20000804, [(16, 0x80)], [⟨0, 30, .sh, 0x0⟩]⟩,
  ⟨0x20000808, [(16, 0x80)], [⟨6, 26, .sh, 0x0⟩]⟩,
  ⟨0x2000080C, [(16, 0x80)], [⟨0, 8, .sh, 0x0⟩]⟩,
  ⟨0x20000810, [(16, 0x80)], [⟨0, 16, .sh, 0x0⟩]⟩,
  ⟨0x20000814, [(16, 0x80)], [⟨0, 7, .ro, 0x0⟩, ⟨8, 5, .ro, 0x0⟩, ⟨16, 3, .ro, 0x6⟩]⟩,
  ⟨0x20000818, [(16, 0x80)], [⟨0, 16, .rc, 0x0⟩, ⟨16, 16, .rc, 0x0⟩]⟩,
  ⟨0x2000081C, [(16, 0x80)], [⟨0, 12, .ro, 0x0⟩, ⟨16, 16, .rc, 0x0⟩]⟩,
  ⟨0x20000820, [(16, 0x80)], [⟨0, 13, .ro, 0x0⟩, ⟨13, 3, .ro, 0x0⟩, ⟨16, 16, .ro, 0x0⟩]⟩,
  ⟨0x20000824, [(16, 0x80)], [⟨0, 16, .ro, 0x0⟩]⟩,
  ⟨0x20000840, [(16, 0x80), (16, 0x4)], [⟨0, 32, .sh, 0x0⟩]⟩,
  ⟨0x20001000, [(16, 0x100), (16, 0x10)], [⟨0, 9, .ro, 0x0⟩, ⟨9, 1, .ro, 0x0⟩, ⟨10, 1, .ro, 0x0⟩, ⟨11, 1, .ro, 0x0⟩, ⟨12, 4, .ro, 0x0⟩, ⟨16, 16, .ro, 0x0⟩]⟩,
  ⟨0x20001004, [(16, 0x100), (16, 0x10)], [⟨0, 32, .ro, 0x0⟩]⟩,
  ⟨0x20001008, [(16, 0x100), (16, 0x10)], [⟨0, 32, .ro, 0x0⟩]⟩,
  ⟨0x2000100C, [(16, 0x100), (16, 0x10)], [⟨0, 2, .ro, 0x1⟩, ⟨2, 2, .ro, 0x1⟩]⟩,
  ⟨0x20002000, [(16, 0x100), (8, 0x20)], [⟨0, 1, .sh, 0x0⟩, ⟨1, 1, .sh, 0x0⟩, ⟨8, 8, .sh, 0xFF⟩]⟩,
  ⟨0x20002004, [(16, 0x100), (8, 0x20)], [⟨6, 26, .sh, 0x0⟩]⟩,
  ⟨0x20002008, [(16, 0x100), (8, 0x20)], [⟨0, 8, .sh, 0x0⟩]⟩,
  ⟨0x2000200C, [(16, 0x100), (8, 0x20)], [⟨0, 16, .sh, 0x0⟩]⟩]

/-- Registers of block CMP, part 4. -/
def regsCmp4 : List RegDesc := [
  ⟨0x20002010, [(16, 0x100), (8, 0x20)], [⟨0, 13, .sh, 0x0⟩, ⟨16, 13, .sh, 0x0⟩]⟩,
  ⟨0x20002014, [(16, 0x100), (8, 0x20)], [⟨0, 13, .sh, 0x0⟩, ⟨16, 13, .sh, 0x0⟩]⟩,
  ⟨0x20003004, [(31, 0x4)], [⟨0, 17, .lk, 0x0⟩]⟩,
  ⟨0x20003084, [(31, 0x4)], [⟨0, 16, .rc, 0x0⟩, ⟨16, 1, .ro, 0x0⟩]⟩,
  ⟨0x20004000, [(512, 0x20)], [⟨0, 1, .sh, 0x0⟩, ⟨1, 4, .sh, 0x0⟩, ⟨5, 1, .sh, 0x0⟩, ⟨6, 6, .sh, 0x0⟩, ⟨12, 2, .sh, 0x0⟩, ⟨14, 1, .sh, 0x0⟩, ⟨15, 1, .sh, 0x0⟩, ⟨16, 4, .sh, 0x0⟩, ⟨20, 2, .sh, 0x0⟩, ⟨22, 5, .sh, 0x0⟩]⟩,
  ⟨0x20004004, [(512, 0x20)], [⟨0, 16, .sh, 0x0⟩, ⟨16, 8, .sh, 0xFF⟩, ⟨31, 1, .sh, 0x1⟩]⟩,
  ⟨0x20004008, [(512, 0x20)], [⟨0, 13, .sh, 0x0⟩, ⟨16, 13, .sh, 0x0⟩]⟩,
  ⟨0x2000400C, [(512, 0x20)], [⟨0, 13, .sh, 0x0⟩, ⟨16, 13, .sh, 0x0⟩]⟩,
  ⟨0x20004010, [(512, 0x20)], [⟨0, 13, .sh, 0x0⟩, ⟨16, 13, .sh, 0x0⟩]⟩,
  ⟨0x20004014, [(512, 0x20)], [⟨0, 13, .sh, 0x0⟩, ⟨16, 13, .sh, 0x0⟩]⟩,
  ⟨0x20004018, [(512, 0x20)], [⟨0, 4, .ro, 0x0⟩, ⟨4, 4, .ro, 0x0⟩, ⟨8, 1, .ro, 0x0⟩, ⟨9, 1, .ro, 0x0⟩, ⟨16, 16, .ro, 0x0⟩]⟩,
  ⟨0x2000401C, [(512, 0x20)], [⟨0, 13, .ro, 0x0⟩, ⟨13, 1, .ro, 0x0⟩, ⟨16, 6, .ro, 0x0⟩]⟩,
  ⟨0x2000D000, [(4, 0x700), (448, 0x4)], [⟨0, 10, .lk, 0x0⟩, ⟨16, 10, .lk, 0x0⟩]⟩]

/-- Registers of block CMP. -/
def regsCmp : List RegDesc :=
  regsCmp1 ++ regsCmp2 ++ regsCmp3 ++ regsCmp4

/-- Registers of block OUT, part 1. -/
def regsOut1 : List RegDesc := [
  ⟨0x20010000, [], [⟨0, 1, .lk, 0x0⟩, ⟨8, 8, .lk, 0xA⟩]⟩,
  ⟨0x20010004, [], [⟨0, 3, .ro, 0x0⟩, ⟨3, 1, .ro, 0x0⟩, ⟨4, 1, .ro, 0x0⟩, ⟨5, 2, .ro, 0x0⟩, ⟨7, 1, .ro, 0x0⟩]⟩,
  ⟨0x20010008, [], [⟨0, 32, .ro, 0x0⟩]⟩,
  ⟨0x2001000C, [], [⟨0, 32, .ro, 0x0⟩]⟩,
  ⟨0x20010010, [], [⟨0, 32, .ro, 0x0⟩]⟩,
  ⟨0x20010014, [], [⟨0, 16, .rc, 0x0⟩, ⟨16, 16, .rc, 0x0⟩]⟩,
  ⟨0x20010018, [], [⟨0, 1, .wo, 0x0⟩, ⟨8, 8, .ro, 0x0⟩]⟩,
  ⟨0x2001001C, [], [⟨0, 32, .ro, 0x0⟩]⟩,
  ⟨0x20010020, [], [⟨0, 1, .ro, 0x0⟩, ⟨8, 8, .rc, 0x0⟩]⟩,
  ⟨0x20010024, [], [⟨0, 32, .ro, 0x0⟩]⟩,
  ⟨0x20010028, [], [⟨0, 32, .ro, 0x0⟩]⟩,
  ⟨0x20010030, [], [⟨0, 1, .w1c, 0x0⟩, ⟨1, 1, .w1c, 0x0⟩, ⟨2, 1, .w1c, 0x0⟩, ⟨3, 1, .w1c, 0x0⟩, ⟨4, 1, .w1c, 0x0⟩, ⟨5, 1, .w1c, 0x0⟩, ⟨6, 1, .w1c, 0x0⟩, ⟨7, 1, .w1c, 0x0⟩, ⟨8, 1, .w1c, 0x0⟩, ⟨9, 1, .w1c, 0x0⟩, ⟨10, 1, .w1c, 0x0⟩]⟩,
  ⟨0x20010034, [], [⟨0, 11, .rw, 0x0⟩]⟩,
  ⟨0x20010100, [(16, 0x100)], [⟨0, 1, .sh, 0x0⟩, ⟨1, 2, .lk, 0x0⟩, ⟨3, 1, .lk, 0x0⟩, ⟨4, 2, .lk, 0x2⟩, ⟨6, 2, .lk, 0x3⟩]⟩,
  ⟨0x20010104, [(16, 0x100)], [⟨0, 13, .lk, 0x0⟩, ⟨16, 13, .lk, 0x0⟩]⟩,
  ⟨0x2001010C, [(16, 0x100)], [⟨0, 13, .lk, 0x0⟩, ⟨16, 13, .lk, 0x0⟩]⟩,
  ⟨0x20010108, [(16, 0x100)], [⟨0, 13, .lk, 0x0⟩, ⟨16, 13, .lk, 0x0⟩, ⟨31, 1, .lk, 0x0⟩]⟩,
  ⟨0x20010110, [(16, 0x100)], [⟨0, 13, .lk, 0x0⟩, ⟨16, 13, .lk, 0x0⟩, ⟨31, 1, .lk, 0x0⟩]⟩,
  ⟨0x20010114, [(16, 0x100)], [⟨0, 26, .lk, 0xEA60⟩]⟩,
  ⟨0x20010118, [(16, 0x100)], [⟨0, 7, .lk, 0x8⟩]⟩]

/-- Registers of block OUT, part 2. -/
def regsOut2 : List RegDesc := [
  ⟨0x20010120, [(16, 0x100)], [⟨0, 3, .ro, 0x0⟩, ⟨3, 1, .ro, 0x0⟩, ⟨4, 1, .ro, 0x0⟩, ⟨5, 3, .ro, 0x0⟩, ⟨8, 2, .ro, 0x0⟩, ⟨10, 2, .ro, 0x0⟩, ⟨12, 1, .ro, 0x0⟩, ⟨13, 1, .ro, 0x0⟩]⟩,
  ⟨0x20010124, [(16, 0x100)], [⟨0, 32, .ro, 0x0⟩]⟩,
  ⟨0x20010128, [(16, 0x100)], [⟨0, 16, .ro, 0x0⟩]⟩,
  ⟨0x2001012C, [(16, 0x100)], [⟨0, 32, .ro, 0x0⟩]⟩,
  ⟨0x20010130, [(16, 0x100)], [⟨0, 32, .ro, 0x0⟩]⟩,
  ⟨0x20010134, [(16, 0x100)], [⟨0, 32, .ro, 0x0⟩]⟩,
  ⟨0x20010138, [(16, 0x100)], [⟨0, 32, .ro, 0x0⟩]⟩,
  ⟨0x20010140, [(16, 0x100)], [⟨0, 8, .rc, 0x0⟩, ⟨8, 8, .rc, 0x0⟩, ⟨16, 8, .rc, 0x0⟩, ⟨24, 8, .rc, 0x0⟩]⟩,
  ⟨0x20010144, [(16, 0x100)], [⟨0, 16, .rc, 0x0⟩, ⟨16, 13, .ro, 0x0⟩]⟩,
  ⟨0x20010150, [(16, 0x100)], [⟨0, 20, .rw, 0x0⟩, ⟨20, 4, .rw, 0x0⟩, ⟨24, 2, .rw, 0x0⟩, ⟨31, 1, .wo, 0x0⟩]⟩,
  ⟨0x20010154, [(16, 0x100)], [⟨0, 1, .ro, 0x0⟩, ⟨1, 3, .ro, 0x0⟩, ⟨4, 3, .ro, 0x0⟩]⟩,
  ⟨0x20010158, [(16, 0x100), (4, 0x4)], [⟨0, 32, .rw, 0x0⟩]⟩]

/-- Registers of block OUT. -/
def regsOut : List RegDesc :=
  regsOut1 ++ regsOut2

/-- Registers of block CAP, part 1. -/
def regsCap1 : List RegDesc := [
  ⟨0x20020000, [], [⟨0, 1, .w1c, 0x0⟩, ⟨1, 1, .w1c, 0x0⟩, ⟨2, 1, .w1c, 0x0⟩, ⟨3, 1, .w1c, 0x0⟩, ⟨4, 1, .w1c, 0x0⟩, ⟨5, 1, .w1c, 0x0⟩, ⟨6, 1, .w1c, 0x0⟩, ⟨7, 1, .w1c, 0x0⟩]⟩,
  ⟨0x20020004, [], [⟨0, 8, .rw, 0x0⟩]⟩,
  ⟨0x20020100, [(16, 0x100)], [⟨0, 1, .lk, 0x0⟩, ⟨1, 1, .lk, 0x0⟩, ⟨2, 1, .lk, 0x0⟩, ⟨4, 3, .lk, 0x3⟩, ⟨8, 2, .lk, 0x0⟩, ⟨10, 2, .lk, 0x2⟩, ⟨12, 2, .lk, 0x3⟩]⟩,
  ⟨0x20020104, [(16, 0x100)], [⟨0, 13, .lk, 0x0⟩, ⟨16, 13, .lk, 0x0⟩]⟩,
  ⟨0x20020108, [(16, 0x100)], [⟨0, 13, .lk, 0x0⟩, ⟨16, 13, .lk, 0x0⟩]⟩,
  ⟨0x2002010C, [(16, 0x100)], [⟨0, 32, .lk, 0x0⟩]⟩,
  ⟨0x20020110, [(16, 0x100)], [⟨0, 26, .lk, 0x0⟩]⟩,
  ⟨0x20020114, [(16, 0x100)], [⟨0, 13, .lk, 0x0⟩, ⟨16, 13, .lk, 0x0⟩]⟩,
  ⟨0x20020118, [(16, 0x100)], [⟨0, 13, .lk, 0x0⟩, ⟨16, 13, .lk, 0x0⟩]⟩,
  ⟨0x20020120, [(16, 0x100)], [⟨0, 3, .ro, 0x0⟩, ⟨3, 1, .ro, 0x0⟩, ⟨4, 1, .ro, 0x0⟩, ⟨5, 2, .ro, 0x0⟩, ⟨7, 2, .ro, 0x0⟩, ⟨9, 1, .ro, 0x0⟩, ⟨10, 2, .ro, 0x0⟩, ⟨12, 3, .ro, 0x0⟩]⟩,
  ⟨0x20020124, [(16, 0x100)], [⟨0, 16, .ro, 0x0⟩, ⟨16, 16, .ro, 0x0⟩]⟩,
  ⟨0x20020128, [(16, 0x100)], [⟨0, 16, .ro, 0x0⟩, ⟨16, 16, .ro, 0x0⟩]⟩,
  ⟨0x2002012C, [(16, 0x100)], [⟨0, 32, .ro, 0x0⟩]⟩,
  ⟨0x20020130, [(16, 0x100)], [⟨0, 32, .ro, 0x0⟩]⟩,
  ⟨0x20020134, [(16, 0x100)], [⟨0, 32, .ro, 0x0⟩]⟩,
  ⟨0x20020138, [(16, 0x100)], [⟨0, 16, .rc, 0x0⟩, ⟨16, 16, .rc, 0x0⟩]⟩,
  ⟨0x2002013C, [(16, 0x100)], [⟨0, 32, .rc, 0x0⟩]⟩,
  ⟨0x20020140, [(16, 0x100)], [⟨0, 8, .rc, 0x0⟩, ⟨8, 8, .rc, 0x0⟩, ⟨16, 8, .rc, 0x0⟩, ⟨24, 8, .rc, 0x0⟩]⟩,
  ⟨0x20020144, [(16, 0x100)], [⟨0, 13, .ro, 0x0⟩, ⟨16, 16, .ro, 0x0⟩]⟩,
  ⟨0x20022000, [(16, 0x10)], [⟨0, 1, .lk, 0x0⟩, ⟨1, 2, .lk, 0x0⟩, ⟨3, 1, .ro, 0x0⟩, ⟨4, 1, .ro, 0x0⟩]⟩]

/-- Registers of block CAP, part 2. -/
def regsCap2 : List RegDesc := [
  ⟨0x20022004, [(16, 0x10)], [⟨0, 32, .ro, 0x0⟩]⟩,
  ⟨0x20022100, [(16, 0x40), (4, 0x10)], [⟨0, 9, .ro, 0x0⟩, ⟨9, 1, .ro, 0x0⟩, ⟨10, 1, .ro, 0x0⟩, ⟨11, 3, .ro, 0x0⟩, ⟨16, 16, .ro, 0x0⟩]⟩,
  ⟨0x20022104, [(16, 0x40), (4, 0x10)], [⟨0, 16, .ro, 0x0⟩, ⟨16, 16, .ro, 0x0⟩]⟩,
  ⟨0x20022108, [(16, 0x40), (4, 0x10)], [⟨0, 16, .rc, 0x0⟩, ⟨16, 16, .rc, 0x0⟩]⟩,
  ⟨0x2002210C, [(16, 0x40), (4, 0x10)], [⟨0, 3, .ro, 0x0⟩, ⟨3, 13, .ro, 0x0⟩, ⟨16, 16, .ro, 0x0⟩]⟩,
  ⟨0x20024000, [(16, 0x200), (128, 0x4)], [⟨0, 32, .lk, 0x0⟩]⟩]

/-- Registers of block CAP. -/
def regsCap : List RegDesc :=
  regsCap1 ++ regsCap2

/-- Registers of block SER, part 1. -/
def regsSer1 : List RegDesc := [
  ⟨0x20030000, [(41, 0x40)], [⟨0, 2, .rw, 0x2⟩, ⟨2, 2, .rw, 0x0⟩]⟩,
  ⟨0x20030004, [(16, 0x40)], [⟨0, 2, .ro, 0x2⟩, ⟨2, 1, .ro, 0x0⟩, ⟨3, 1, .ro, 0x0⟩, ⟨4, 2, .ro, 0x0⟩, ⟨6, 1, .w1c, 0x0⟩]⟩,
  ⟨0x20030404, [(16, 0x40)], [⟨0, 2, .ro, 0x2⟩, ⟨2, 1, .ro, 0x0⟩, ⟨3, 1, .ro, 0x0⟩, ⟨4, 2, .ro, 0x1⟩, ⟨6, 1, .w1c, 0x0⟩]⟩,
  ⟨0x20030804, [(8, 0x40)], [⟨0, 2, .ro, 0x2⟩, ⟨2, 1, .ro, 0x0⟩, ⟨3, 1, .ro, 0x0⟩, ⟨4, 2, .ro, 0x2⟩, ⟨6, 1, .w1c, 0x0⟩]⟩,
  ⟨0x20030A04, [(1, 0x40)], [⟨0, 2, .ro, 0x2⟩, ⟨2, 1, .ro, 0x0⟩, ⟨3, 1, .ro, 0x0⟩, ⟨4, 2, .ro, 0x3⟩, ⟨6, 1, .w1c, 0x0⟩]⟩,
  ⟨0x20030010, [(41, 0x40), (4, 0x4)], [⟨0, 1, .ro, 0x0⟩, ⟨1, 1, .ro, 0x0⟩, ⟨16, 16, .rc, 0x0⟩]⟩,
  ⟨0x20030020, [(41, 0x40), (4, 0x4)], [⟨0, 32, .rc, 0x0⟩]⟩]

/-- Registers of block SER. -/
def regsSer : List RegDesc :=
  regsSer1

/-- Registers of block FAB, part 1. -/
def regsFab1 : List RegDesc := [
  ⟨0x20040000, [], [⟨0, 6, .lk, 0x0⟩]⟩,
  ⟨0x20040004, [], [⟨0, 1, .ro, 0x0⟩, ⟨1, 1, .ro, 0x0⟩, ⟨2, 1, .ro, 0x0⟩, ⟨3, 1, .ro, 0x0⟩, ⟨8, 8, .ro, 0x0⟩, ⟨16, 8, .ro, 0x0⟩]⟩,
  ⟨0x20040008, [], [⟨0, 32, .lk, 0x0⟩]⟩,
  ⟨0x20040010, [], [⟨0, 1, .w1c, 0x0⟩, ⟨1, 1, .w1c, 0x0⟩, ⟨2, 1, .w1c, 0x0⟩, ⟨3, 1, .w1c, 0x0⟩, ⟨4, 1, .w1c, 0x0⟩, ⟨5, 1, .w1c, 0x0⟩, ⟨6, 1, .w1c, 0x0⟩, ⟨7, 1, .w1c, 0x0⟩, ⟨8, 1, .w1c, 0x0⟩, ⟨9, 1, .w1c, 0x0⟩, ⟨10, 1, .w1c, 0x0⟩]⟩,
  ⟨0x20040014, [], [⟨0, 11, .rw, 0x0⟩]⟩,
  ⟨0x20040020, [], [⟨0, 1, .wo, 0x0⟩, ⟨1, 1, .ro, 0x0⟩, ⟨2, 2, .ro, 0x0⟩, ⟨8, 6, .ro, 0x0⟩]⟩,
  ⟨0x20040030, [], [⟨0, 16, .rc, 0x0⟩, ⟨16, 6, .ro, 0x0⟩]⟩,
  ⟨0x20040040, [], [⟨0, 8, .rw, 0x0⟩, ⟨8, 6, .rw, 0x0⟩, ⟨14, 1, .rw, 0x0⟩, ⟨16, 5, .ro, 0x0⟩, ⟨31, 1, .wo, 0x0⟩]⟩,
  ⟨0x20040044, [], [⟨0, 32, .rw, 0x0⟩]⟩,
  ⟨0x20040048, [], [⟨0, 32, .rw, 0x0⟩]⟩,
  ⟨0x2004004C, [], [⟨0, 8, .ro, 0x0⟩, ⟨8, 8, .ro, 0x0⟩]⟩,
  ⟨0x20040050, [], [⟨0, 7, .ro, 0x0⟩, ⟨8, 8, .rc, 0x0⟩]⟩,
  ⟨0x20040054, [], [⟨0, 6, .ro, 0x0⟩, ⟨6, 1, .ro, 0x0⟩, ⟨8, 8, .ro, 0x0⟩, ⟨16, 8, .ro, 0x0⟩, ⟨24, 3, .ro, 0x0⟩]⟩,
  ⟨0x20040058, [], [⟨0, 32, .ro, 0x0⟩]⟩,
  ⟨0x2004005C, [], [⟨0, 32, .ro, 0x0⟩]⟩,
  ⟨0x20040100, [(64, 0x4)], [⟨0, 3, .rw, 0x0⟩, ⟨3, 1, .rw, 0x0⟩, ⟨4, 1, .rw, 0x0⟩, ⟨5, 3, .rw, 0x0⟩]⟩,
  ⟨0x20040200, [(64, 0x4)], [⟨0, 8, .rw, 0x0⟩]⟩,
  ⟨0x20041000, [(8, 0x100)], [⟨0, 1, .lk, 0x0⟩, ⟨1, 1, .lk, 0x0⟩, ⟨8, 6, .lk, 0x0⟩, ⟨16, 3, .lk, 0x0⟩, ⟨24, 8, .lk, 0x0⟩]⟩,
  ⟨0x20041004, [(8, 0x100)], [⟨0, 32, .lk, 0x0⟩]⟩,
  ⟨0x20041008, [(8, 0x100)], [⟨0, 16, .lk, 0x0⟩]⟩]

/-- Registers of block FAB, part 2. -/
def regsFab2 : List RegDesc := [
  ⟨0x20041010, [(8, 0x100)], [⟨0, 3, .ro, 0x0⟩, ⟨3, 2, .ro, 0x0⟩, ⟨5, 4, .ro, 0x0⟩, ⟨9, 4, .ro, 0x0⟩, ⟨13, 1, .ro, 0x0⟩, ⟨14, 1, .ro, 0x0⟩, ⟨16, 4, .ro, 0x0⟩]⟩,
  ⟨0x20041014, [(8, 0x100)], [⟨0, 6, .ro, 0x0⟩, ⟨8, 3, .ro, 0x0⟩]⟩,
  ⟨0x20041018, [(8, 0x100)], [⟨0, 32, .ro, 0x0⟩]⟩,
  ⟨0x2004101C, [(8, 0x100)], [⟨0, 16, .ro, 0x0⟩]⟩,
  ⟨0x20041020, [(8, 0x100)], [⟨0, 16, .ro, 0x0⟩]⟩,
  ⟨0x20041024, [(8, 0x100)], [⟨0, 32, .ro, 0x0⟩]⟩,
  ⟨0x20041028, [(8, 0x100)], [⟨0, 10, .ro, 0x0⟩, ⟨16, 12, .ro, 0x0⟩]⟩,
  ⟨0x20041030, [(8, 0x100)], [⟨0, 8, .rc, 0x0⟩, ⟨8, 8, .rc, 0x0⟩, ⟨16, 8, .rc, 0x0⟩, ⟨24, 8, .rc, 0x0⟩]⟩,
  ⟨0x20041034, [(8, 0x100)], [⟨0, 16, .rc, 0x0⟩, ⟨16, 16, .rc, 0x0⟩]⟩,
  ⟨0x20041038, [(8, 0x100)], [⟨0, 8, .rc, 0x0⟩, ⟨8, 8, .rc, 0x0⟩, ⟨16, 8, .rc, 0x0⟩, ⟨24, 8, .rc, 0x0⟩]⟩,
  ⟨0x2004103C, [(8, 0x100)], [⟨0, 16, .rc, 0x0⟩, ⟨16, 16, .rc, 0x0⟩]⟩,
  ⟨0x20048000, [(4096, 0x8)], [⟨0, 6, .lk, 0x0⟩, ⟨6, 6, .lk, 0x0⟩, ⟨12, 2, .lk, 0x0⟩, ⟨14, 1, .lk, 0x0⟩, ⟨16, 8, .lk, 0x0⟩]⟩,
  ⟨0x20048004, [(4096, 0x8)], [⟨0, 1, .ro, 0x0⟩, ⟨1, 1, .ro, 0x0⟩, ⟨2, 1, .ro, 0x0⟩, ⟨3, 1, .ro, 0x0⟩, ⟨4, 1, .ro, 0x0⟩, ⟨5, 3, .ro, 0x0⟩, ⟨8, 6, .ro, 0x0⟩]⟩]

/-- Registers of block FAB. -/
def regsFab : List RegDesc :=
  regsFab1 ++ regsFab2

/-- The register table of the block whose 64 KiB page holds physical address a (R367). -/
def blockRegs (a : Nat) : List RegDesc :=
  match a / 0x10000 with
  | 0x1000 => regsMtx
  | 0x1001 => regsMpu
  | 0x1002 => regsFus
  | 0x1003 => regsBkr
  | 0x1004 => regsDlr
  | 0x1005 => regsDec
  | 0x1006 => regsEnc
  | 0x1007 => regsMem
  | 0x1008 => regsTim
  | 0x1009 => regsTch
  | 0x100A => regsAud
  | 0x100B => regsCmd
  | 0x100C => regsHst
  | 0x100D => regsChk
  | 0x100E => regsSco
  | 0x100F => regsLog
  | 0x2000 => regsCmp
  | 0x2001 => regsOut
  | 0x2002 => regsCap
  | 0x2003 => regsSer
  | 0x2004 => regsFab
  | _ => []

end Sys2Proof.Machine
end

