-- ==== Sys2Proof/Machine/Sparse.lean ====
section
/-!
DEFINITION. Sparse tables: a list of (index, value) pairs in one canonical form, strictly rising in
the index and holding no value equal to what an unlisted index reads as. Registers, memories and the
indexed units of the block (outputs, tiles, descriptors, contexts, ports) are all held this way.
-/

namespace Sys2Proof.Machine

/-- A sparse table of values of type `α`. -/
abbrev Tab (α : Type) := List (Nat × α)

/-- The value at index `a`; `d` is what an unlisted index reads as. -/
def Tab.get {α : Type} (d : α) : Tab α → Nat → α
  | [], _ => d
  | (k, v) :: rest, a => if k = a then v else Tab.get d rest a

/-- Insert or replace the entry at index `a`. -/
def Tab.insert {α : Type} : Tab α → Nat → α → Tab α
  | [], a, v => [(a, v)]
  | (k, w) :: rest, a, v =>
    if a < k then (a, v) :: (k, w) :: rest
    else if a = k then (a, v) :: rest
    else (k, w) :: Tab.insert rest a v

/-- Remove the entry at index `a`. -/
def Tab.erase {α : Type} : Tab α → Nat → Tab α
  | [], _ => []
  | (k, w) :: rest, a => if k = a then Tab.erase rest a else (k, w) :: Tab.erase rest a

/-- Write `v` at index `a`, keeping the canonical form. -/
def Tab.put {α : Type} [DecidableEq α] (d : α) (t : Tab α) (a : Nat) (v : α) : Tab α :=
  if v = d then Tab.erase t a else Tab.insert t a v

/-- Change the value at index `a` by `f`. -/
def Tab.upd {α : Type} [DecidableEq α] (d : α) (t : Tab α) (a : Nat) (f : α → α) : Tab α :=
  Tab.put d t a (f (Tab.get d t a))

/-- Every index listed is above `k`, strictly rising, and no value is the default of its index. -/
def Tab.wfFrom {α : Type} [DecidableEq α] (d : Nat → α) : Nat → Tab α → Bool
  | _, [] => true
  | k, (a, v) :: rest => decide (k ≤ a) && decide (v ≠ d a) && Tab.wfFrom d (a + 1) rest

/-- The canonical form: `d a` is what index `a` reads as when it is not listed. -/
def Tab.wf {α : Type} [DecidableEq α] (d : Nat → α) (t : Tab α) : Bool := Tab.wfFrom d 0 t

/-- A memory of bytes: the bytes that differ from its fill, by address. -/
abbrev Memory := Tab Byte

/-- The canonical form of a memory whose unlisted bytes read as `d`. -/
def Memory.wf (d : Byte) (m : Memory) : Bool := Tab.wf (fun _ => d) m

/-- The entry at index `a`, if one is listed (a table of optional entries). -/
def Tab.find {α : Type} : Tab α → Nat → Option α
  | [], _ => none
  | (k, v) :: rest, a => if k = a then some v else Tab.find rest a

/-- Indices strictly rising: the canonical form of a table of optional entries. -/
def Tab.rising {α : Type} : Nat → Tab α → Bool
  | _, [] => true
  | k, (a, _) :: rest => decide (k ≤ a) && Tab.rising (a + 1) rest

/-- Read `n` bytes from address `a` of a byte memory whose unlisted bytes read as `d`. -/
def readBytes (d : Byte) (m : Tab Byte) : Nat → Nat → List Byte
  | _, 0 => []
  | a, n + 1 => Tab.get d m a :: readBytes d m (a + 1) n

/-- Write a list of bytes from address `a` upwards. -/
def writeBytes (d : Byte) (m : Tab Byte) : Nat → List Byte → Tab Byte
  | _, [] => m
  | a, b :: bs => writeBytes d (Tab.put d m a b) (a + 1) bs

end Sys2Proof.Machine
end

