-- ==== Sys2Proof/Machine/State.lean ====
section
/-!
DEFINITION. State: everything the spec gives the block, as plain data. Registers stand in one sparse table by
physical address; what the spec describes beyond registers stands in a structure per unit. `pending` is the queue of
waiting commands.
-/

namespace Sys2Proof.Machine

open Sys2Proof

/-- The reset word of the register at a physical address: the reset column of its table; 0 for an unassigned
offset (R13). -/
def regReset (a : Nat) : Word :=
  match (blockRegs a).find? (·.hit a) with
  | some d => BitVec.ofNat 32 (fieldsReset d.fields)
  | none => 0

/-! ### Codec -/

/-- A coded picture of a stream context (R182, R183, R46 to R48). -/
structure Coded where
  seq : BitVec 32
  ts : Word
  tArr : Word
  cap : Time64
  ext : Bool
  map : Nat
  noShow : Bool
  isRef : Bool
  irap : Bool
  rasl : Bool
  /-- it is an H.264 IDR or an H.265 IDR or BLA picture (R194); a CRA or BLA picture (R202) -/
  flush : Bool
  craBla : Bool
  /-- packets of it were lost, or slice data beyond its area (R182, R183, R195) -/
  loss : Bool
  data : List (Nat × List Byte)
  deriving DecidableEq, Repr

/-- A coded picture in assembly (R182): its packets by distance from the first sequence number, and the marker's. -/
structure Assembly where
  ts : Word
  first : BitVec 16
  tArr : Word
  cap : Time64
  ext : Bool
  map : Nat
  noShow : Bool
  got : List (Nat × List Byte)
  marker : Option Nat
  deriving DecidableEq, Repr

/-- A picture kept for prediction or concealment: SEQ, buffer, tainted granules (R194, R196). -/
structure RefPic where
  seq : BitVec 32
  buf : Nat
  /-- the picture's side area (R192): its taint map and its motion data -/
  taint : List Nat
  motion : List GranuleIn
  deriving DecidableEq, Repr

/-- A sender report (R184, R188): NTP time, RTP timestamp, arrival. -/
structure SenderRep where
  ntp : BitVec 64
  rtp : Word
  at_ : Time64
  deriving DecidableEq, Repr

/-- What RFC 3550 has a receiver keep of a session for its report block (R184): the first and the highest sequence number,
extended; packets received; packets expected and received at the last report; the last transit time in RTP units, and the jitter
times 16. -/
structure RtpStats where
  base : Nat
  high : Nat
  received : Nat
  priorExpected : Nat
  priorReceived : Nat
  transit : Word
  jitter : Nat
  deriving DecidableEq, Repr

/-- A report block (R184): fraction lost, cumulative number lost, highest extended sequence number, jitter, time of the last sender
report and the delay since it. -/
structure ReportBlock where
  fraction : Nat
  lost : Int
  high : Nat
  jitter : Nat
  lsr : Word
  dlsr : Nat
  deriving DecidableEq, Repr

/-- A stream context beyond its registers (R181 to R202). -/
structure CtxSt where
  asm : Option Assembly
  lastClosed : Option Word
  /-- the sequence number that follows the last closed picture (R182) -/
  nextSeq : Option (BitVec 16)
  /-- the context's state in DRAM, the parameter sets in use among it (R195): its two copies, and which of them is in force (R190) -/
  copies : Option ParamSets × Option ParamSets
  half : Bool
  /-- reception statistics of the session (R184) -/
  stats : Option RtpStats
  queue : List Coded
  sr : Option SenderRep
  mapFaults : Nat
  lastCap : Option (Time64 × Bool)
  dpb : List RefPic
  concealPic : Option RefPic
  concealRun : Nat
  learned : Bool
  /-- time of the last packet accepted, while that lies within STALL_TIMEOUT -/
  lastPkt : Option Time64
  fir : Nat
  skipRasl : Bool
  template : List Byte
  /-- granules of the running picture lost to check-word failures (R272) -/
  failed : List Nat
  /-- TIM_GM_DOM.GEN when the context was opened (R287) -/
  gen : Nat
  deriving DecidableEq, Repr

/-- A context after reset. -/
def CtxSt.init : CtxSt :=
  { asm := none, lastClosed := none, nextSeq := none, copies := (none, none), half := false, stats := none, queue := [], sr := none, mapFaults := 0, lastCap := none, dpb := [],
    concealPic := none, concealRun := 0, learned := false, lastPkt := none, fir := 0, skipRasl := false, template := [],
    failed := [], gen := 0 }

/-- An encode stream beyond its registers (R204 to R209): tick of its start, SEQ of the last coded picture, bits of the
last pictures (newest first), rows (bits, qp) of the last key and P picture, and pictures since the last key. -/
structure EncSt where
  start : Tick
  lastSeq : Option (BitVec 32)
  window : List Nat
  keyRows : List (Nat × Nat)
  pRows : List (Nat × Nat)
  sinceKey : Nat
  /-- the running trick codes a key picture; a key request came while it ran (R209) -/
  keyNow : Bool
  lateReq : Bool
  /-- next RTP sequence number and the payload type of the stream's packets -/
  rtpSeq : BitVec 16
  pt : BitVec 7
  /-- packets and payload bytes sent since the start (R204) -/
  pkts : Nat
  octets : Nat
  /-- the next-hop MAC of the stream's template (R291) -/
  mac : BitVec 48
  deriving DecidableEq, Repr

/-- A stream after reset. -/
def EncSt.init : EncSt := { start := 0, lastSeq := none, window := [], keyRows := [], pRows := [], sinceKey := 0,
                                  keyNow := false, lateReq := false, rtpSeq := 0, pt := 0, pkts := 0, octets := 0, mac := 0 }

/-! ### Deal, Talon and tiles -/

/-- The header of a Talon buffer (R44, R109). -/
structure BufHdr where
  srcId : BitVec 16
  capExt : Bool
  noShow : Bool
  map : Nat
  conceal : Nat
  seq : BitVec 32
  capTime : Time64
  frz : List (BitVec 16)
  tell : BitVec 32
  width : Nat
  height : Nat
  format : Nat
  cls : Nat
  idx : Nat
  deriving DecidableEq, Repr

/-- An all-zero header. -/
def BufHdr.zero : BufHdr :=
  { srcId := 0, capExt := false, noShow := false, map := 0, conceal := 0, seq := 0, capTime := 0,
    frz := [], tell := 0, width := 0, height := 0, format := 0, cls := 0, idx := 0 }

/-- The descriptor states of R111. -/
inductive DescState where
  | free | filling | eligible | retired | pendingFree
  deriving DecidableEq, Repr

/-- A Talon descriptor: its state, source, header copy, sideband fields (R44), holder mask (R111), and
since which tick each composer holder bit has been set (R116). -/
structure Desc where
  state : DescState
  src : BitVec 16
  hdr : BufHdr
  eligTime : Word
  eligTick : Tick
  bad : Bool
  holders : BitVec 28
  since : Tab Tick
  deriving DecidableEq, Repr

/-- A descriptor after reset: FREE, nothing held. -/
def Desc.init : Desc :=
  { state := .free, src := 0, hdr := .zero, eligTime := 0, eligTick := 0, bad := false, holders := 0,
    since := [] }

/-- A buffer, or a direct record (R53), as a judge of liveness sees it. `desc` is none for a direct
record; `start` is the time by which the record counts, its start of active video or eligibility. -/
structure BufRec where
  desc : Option Nat
  hdr : BufHdr
  eligTime : Word
  eligTick : Tick
  bad : Bool
  deriving DecidableEq, Repr

/-- Tile states (R8). -/
inductive TileState where
  | empty | live | degraded | folded
  deriving DecidableEq, Repr

/-- The code of a tile state (R8). -/
def TileState.code : TileState → Nat
  | .empty => 0
  | .live => 1
  | .degraded => 2
  | .folded => 3

/-- The tile state of a code. -/
def TileState.ofCode : Nat → TileState
  | 1 => .live
  | 2 => .degraded
  | 3 => .folded
  | _ => .empty

/-- The history one judge (a composer, or the Scorer) keeps of a tile (R60 to R66). `fallback` is the
previous buffer of R114, `age` the age of the last tick (none: exceeded). -/
structure TileHist where
  state : TileState
  reason : Nat
  mask : Nat
  shown : Option BufRec
  fallback : Option BufRec
  isNew : Bool
  prevSig : Option (List (BitVec 16))
  sameRun : Nat
  prevTell : Option (BitVec 32)
  tellChange : Time64
  tellChangeExt : Bool
  tellSeen : Bool
  frozen : Bool
  concealRun : Nat
  goodRun : Nat
  target : Nat
  age : Option Nat
  /-- SEQ of the direct record whose signatures were last used (R53) -/
  frzSeq : Option (BitVec 32)
  /-- the reasons that held at the last tick evaluated (the mask of a FOLDED tile stays, R66) -/
  holds : Nat
  deriving DecidableEq, Repr

/-- A tile before DEALING: EMPTY, with no history (R67). -/
def TileHist.init : TileHist :=
  { state := .empty, reason := 0, mask := 0, shown := none, fallback := none, isNew := false,
    prevSig := none, sameRun := 0, prevTell := none, tellChange := 0, tellChangeExt := false,
    tellSeen := false, frozen := false, concealRun := 0, goodRun := 0, target := 0, age := none,
    frzSeq := none, holds := 0 }

/-- The Scorer's verdict for a tile and tick (R82), with the composer's state of that tick it was compared with. -/
structure Verdict where
  state : TileState
  mask : Nat
  ripe : Bool
  cmp : TileState
  deriving DecidableEq, Repr

/-- What the device keeps of one tile (a video layer under a contract). -/
structure Tile where
  /-- the output whose composer judges it -/
  output : Nat
  cmp : TileHist
  sco : TileHist
  /-- the Scorer's own contract copy (R42) -/
  scoCon : Contract
  /-- the contract registers differed from that copy at the last comparison (R81) -/
  conMismatch : Bool
  /-- the Scorer's verdict for the previous tick, if it reached the composer in time; and the one delivered for
  the current tick, to be used from the next boundary (R80, R84) -/
  verdict : Option Verdict
  inbox : Option Verdict
  /-- the state the Scorer's verdict implies for the current tick (R82) -/
  implied : TileState
  /-- consecutive ticks of the disagreement of R83 -/
  disRun : Nat
  /-- boundaries at which a trick feeding the tile was abandoned (R62, OVERRUN) -/
  overruns : List Tick
  /-- lines of the current output frame, and of the last one, masked across the tile (R62, R120) -/
  masked : Nat
  maskedLast : Nat
  /-- a direct tile met a line of another source in the current, or the last, output frame (R62, R172) -/
  misroute : Bool
  misrouteLast : Bool
  /-- a buffer of the source has been eligible since the assignment (R62, NO_SIGNAL) -/
  everEligible : Bool
  /-- part of the current frame came from the fallback buffer (R121) -/
  fellBack : Bool
  /-- lines of the current frame from this one on are drawn opaque black (R121) -/
  blackFrom : Option Nat
  deriving DecidableEq, Repr

/-- A tile after reset. -/
def Tile.init : Tile :=
  { output := 0, cmp := .init, sco := .init, scoCon := ⟨0, 0, 0⟩, conMismatch := false, verdict := none,
    inbox := none, implied := .live, disRun := 0, overruns := [],
    masked := 0, maskedLast := 0, misroute := false, misrouteLast := false, everEligible := false,
    fellBack := false, blackFrom := none }

/-- A trick in progress: issued, not yet complete or abandoned. `eav` is the end of active video of the
input frame it captures; `dueAt` the boundary of its own due rule where R29 names one; `stale` that its DMA
transfer met an error response and cannot complete (R374). -/
structure RunTrick where
  trick : Trick
  issueTick : Tick
  done : Bool
  buf : Option Nat
  eav : Option Word
  dueAt : Option Tick
  stale : Bool
  /-- the coded picture a decode trick works on, once it has begun -/
  coded : Option Coded
  deriving DecidableEq, Repr

/-- What a change alters (R33, R35). -/
inductive ChangeKind where
  /-- a device commit: the pending SH words, and the layout it selects -/
  | commit (sh : Tab Word) (layout : Option Nat)
  /-- this node's part of a wall commit -/
  | wall (sh : Tab Word) (layout : Option Nat)
  | encStart (stream : Nat)
  | encStop (stream : Nat)
  deriving DecidableEq, Repr

/-- How far a change has come (R35, R141, R143). -/
inductive ChangeStage where
  /-- awaiting evaluation -/
  | waiting
  /-- admitted, not yet latched -/
  | admitted
  /-- the armed part of a wall commit, held until released for the given tick (R126, R127) -/
  | armed
  | released (tick : Tick)
  /-- latched at the deal point before this tick -/
  | latched (tick : Tick)
  deriving DecidableEq, Repr

/-- A change held by the Dealer. `place` is the core placement it was admitted with, `dueTick` the tick at
which it is on time (R142), `origin` the command waiting for its effect (R347). -/
structure Change where
  id : Nat
  kind : ChangeKind
  stage : ChangeStage
  place : Tab Nat
  dueTick : Tick
  deriving DecidableEq, Repr

/-- The Dealer (R20 to R35): the layout and core placement in force, position in the deal cycle, the exact
boundary position (fraction of a nanosecond carried, R21), the tick reference (R136), and the work in hand. -/
structure Dealer where
  layout : Nat
  cyclePos : Nat
  place : Tab Nat
  encOn : List Nat
  tricks : List RunTrick
  changes : List Change
  nextChange : Nat
  /-- E_n as latched, and the fraction of a nanosecond carried -/
  edge : Word
  frac : Rat
  started : Bool
  /-- dealing started, or is to start, on the free-running time unit (R25) -/
  freeRun : Bool
  /-- Δ and Δ_c in units of 2^−16 ns -/
  delta : Int
  centre : Int
  /-- accepted SYNC_IN pulse times, newest first (at most 4) -/
  pulses : List Word
  /-- a pulse has been qualified in the window of the last boundary -/
  qualified : Option Int
  missRun : Nat
  goodErrs : Nat
  /-- the window of the boundary last placed has been judged, with this correction c_n (R136) -/
  judged : Bool
  corr : Rat
  resyncReq : Bool
  /-- the device active start of the current tick has passed; the device deal point has passed -/
  actStarted : Bool
  dealPassed : Bool
  /-- tiles that the latched commits assign anew, and those they empty (R64), found at the deal point -/
  reassign : List Nat
  emptied : List Nat
  /-- epoch word and its validity latched at the boundary (R54) -/
  epochTick : Word
  epochOk : Bool
  /-- ticks and times of the last boundaries, newest first (at most 16) -/
  history : List (Tick × Word)
  /-- tricks of the present deal issued at their offset (by place in the deal) -/
  issued : List Nat
  /-- the scalers that the latched commits assign, by output: layer, scaler, second scaler of a pair (R99) -/
  plan : Tab (List (Nat × Nat × Option Nat))
  deriving DecidableEq, Repr

/-- The Dealer after reset. -/
def Dealer.init : Dealer :=
  { layout := 0, cyclePos := 0, place := [], encOn := [], tricks := [], changes := [], nextChange := 0,
    edge := 0, frac := 0, started := false, freeRun := false, delta := 0, centre := 0, pulses := [], qualified := none,
    missRun := 0, goodErrs := 0, judged := false, corr := 0, resyncReq := false, actStarted := false, dealPassed := false,
    reassign := [], emptied := [], epochTick := 0, epochOk := false, history := [], issued := [], plan := [] }

/-! ### Composers, outputs and transmitters -/

/-- What stands in the output FIFO for a line (R118 to R120). -/
inductive LineStatus where
  | good (a b : List Px)
  | masked (cause : Nat)
  | recompute
  deriving DecidableEq, Repr

/-- A line of the 4-line output FIFO. -/
structure FifoLine where
  line : Nat
  status : LineStatus
  deriving DecidableEq, Repr

/-- An AUX transaction in flight or queued (R154). `kind` 0 is a Banker request, 1 a sink-check read, 2 a
link-status read of R153, 3 a capability or sink-start access of R76. -/
structure AuxReq where
  kind : Nat
  cmd : Nat
  addr : Nat
  len : Nat
  data : List Byte
  retries : Nat
  defers : Nat
  deriving DecidableEq, Repr

/-- A set of alarm rectangles of an output, with the tick it is of (R417). -/
structure AlarmSet where
  tick : Tick
  on : List Nat
  deriving DecidableEq, Repr

/-- No rectangles. -/
def AlarmSet.none_ : AlarmSet := { tick := 0, on := [] }

/-- What the device keeps of one output beyond its registers. -/
structure OutSt where
  /-- phase servo of R132, in ppm -/
  rate : Rat
  trim : Rat
  lockRun : Nat
  llkRun : Nat
  /-- the timing generator runs; it restarts at the next boundary (R133) -/
  running : Bool
  restart : Bool
  /-- the generator starts with the next boundary: its frame begins without phase error (R133) -/
  exact : Bool
  /-- in active video now; the tick of the current frame; frames of this tick already begun -/
  active : Bool
  frameTick : Tick
  /-- video frames begin only after a vertical blanking has begun (R151) -/
  videoWait : Bool
  /-- the current frame is being sent as video; some line of it was not -/
  sending : Bool
  allSent : Bool
  /-- when each blank source was set, for the 10 µs of R155 -/
  blankAt : Option Word
  fifo : List FifoLine
  /-- lines masked in the current frame, those of them by the composer (R129), and the first line and cause (R431) -/
  linesMasked : Nat
  composerMasked : Nat
  firstLine : Nat
  firstCause : Nat
  /-- running signatures of the current frame, and those of the frame to be checked (R74) -/
  crcAct : BitVec 32
  crcExp : BitVec 32
  checkPending : Bool
  sigAct : BitVec 32
  sigExp : BitVec 32
  /-- S_act of the frames before, newest first (at most 2), and the run of mismatches (R75) -/
  sigHist : List (BitVec 32)
  misRun : Nat
  /-- the previous sink reading (R77) -/
  sinkPrev : Option SinkReading
  /-- the previous output frame was sent as video -/
  prevVideo : Bool
  /-- transmitter: times of the last retrains (R153), Banker AUX request and the transactions (R154) -/
  retrains : List Tick
  aux : List AuxReq
  /-- the request at the head waits until it can finish before the next sink-check read (R154) -/
  auxHeld : Bool
  fromCfg : Option LinkCfg
  /-- the configuration trained last (R151) -/
  trained : Option LinkCfg
  /-- the sets of rectangles that mixer copies A and B draw in the current frame (R417) -/
  alarms : AlarmSet
  alarmsB : AlarmSet
  /-- the last sets that they received with the Scorer's verdicts, and the set evaluated at the last boundary -/
  alarmSet : AlarmSet
  alarmSetB : AlarmSet
  alarmNext : AlarmSet
  /-- pixels that copies A and B drew from the alarm item in the current frame, and in the frame to be checked -/
  alarmA : Nat
  alarmB : Nat
  alarmChkA : Nat
  alarmChkB : Nat
  /-- the areas of the sets whose ticks the copies reported with those counts -/
  alarmArea : Nat
  alarmAreaB : Nat
  /-- values in force latched at the deal point, to be taken at the end of active video (R141) -/
  latched : Bool
  /-- a commit took effect with the current tick: record the flip at the next start of active video (R145) -/
  flipDue : Bool
  /-- lines of the current frame without user marker entries (R121) -/
  noUser : List Nat
  /-- the skip map in force: (layer, band) pairs (R105) -/
  skip : List (Nat × Nat)
  /-- generator restart belongs to a RESYNC or RETIME, to be unblanked then -/
  resyncBlank : Bool
  /-- SEQ of the last frame taken for the composed copy of the output (R44) -/
  copySeq : BitVec 32
  deriving DecidableEq, Repr

/-- An output after reset. -/
def OutSt.init : OutSt :=
  { rate := 0, trim := 0, lockRun := 0, llkRun := 0, running := false, restart := false, exact := false, active := false,
    frameTick := 0, videoWait := true, sending := false, allSent := false, blankAt := none, fifo := [],
    linesMasked := 0, composerMasked := 0, firstLine := 0, firstCause := 0, crcAct := 0xFFFFFFFF#32, crcExp := 0xFFFFFFFF#32,
    checkPending := false, sigAct := 0, sigExp := 0, sigHist := [], misRun := 0, sinkPrev := none,
    prevVideo := false, retrains := [], aux := [], auxHeld := false, fromCfg := none, trained := none, alarms := .none_, alarmsB := .none_, alarmSet := .none_, alarmSetB := .none_, alarmNext := .none_, alarmA := 0, alarmB := 0,
    alarmChkA := 0, alarmChkB := 0, alarmArea := 0, alarmAreaB := 0,
    latched := false, flipDue := false, noUser := [], skip := [], resyncBlank := false, copySeq := 0 }

/-! ### Capture and the direct path -/

/-- A segment of 16 pixels in a direct line store, with its tag (R170). -/
structure Segment where
  line : Nat
  index : Nat
  src : BitVec 16
  seq8 : BitVec 8
  arrival : Word
  symErr : Bool
  px : List Px
  deriving DecidableEq, Repr

/-- A direct slot of an output: its layer, its line store, the SEQ tag of the frame in scan, least and
largest slack of the frame (R170 to R174). -/
structure SlotSt where
  layer : Option Nat
  store : List Segment
  tagSeq : Option (BitVec 8)
  ok : Bool
  slackMin : Int
  slackMax : Int
  any : Bool
  deriving DecidableEq, Repr

/-- A direct slot after reset. -/
def SlotSt.init : SlotSt :=
  { layer := none, store := [], tagSeq := none, ok := true, slackMin := 0, slackMax := 0, any := false }

/-- What the device keeps of one DisplayPort input beyond its registers. -/
structure CapSt where
  /-- DPCD bytes the source has written, lane status lost bits, I²C segment and offset (R160, R161) -/
  dpcd : Tab Byte
  lostLanes : Nat
  segPtr : Nat
  i2cOff : Nat
  pattern : Nat
  /-- the last MSA, how many identical in a row, the accepted one (R161) -/
  lastMsa : Option MsaIn
  msaRun : Nat
  accepted : Option MsaIn
  /-- frames seen in VIDEO since entry, for DECIM (R164); in an active frame now; captured now -/
  frameNo : Nat
  inFrame : Bool
  damaged : Bool
  seq : BitVec 32
  sav : Time64
  savExt : Bool
  savTick : Tick
  /-- the direct records of R53: newest started, newest with complete signatures -/
  recStart : Option BufRec
  recDone : Option BufRec
  deriving DecidableEq, Repr

/-- An input after reset. -/
def CapSt.init : CapSt :=
  { dpcd := [], lostLanes := 0, segPtr := 0, i2cOff := 0, pattern := 0, lastMsa := none, msaRun := 0,
    accepted := none, frameNo := 0, inFrame := false, damaged := false, seq := 0, sav := 0, savExt := false,
    savTick := 0, recStart := none, recDone := none }


/-! ### The Scorer -/

/-- An event waiting in the Scorer's log queue (R426, R428), with the device state of the moment. -/
structure LogRec where
  event : Nat
  args : List Byte
  dev : Nat
  tick : Tick
  time : Time64
  ext : Bool
  deriving DecidableEq, Repr

/-- The Scorer (R79 to R85, R410 to R434). -/
structure ScorerSt where
  queue : List LogRec
  dropped : Nat
  safeReq : Nat
  haltReq : Bool
  delivered : Bool
  /-- the hard-wired safe path runs (R413) -/
  hard : Bool
  /-- when the last disagreement of R83 was recorded -/
  disAt : Option Time64
  /-- LK words of the image's SAFETY sections, from the Scorer's own read (R395, R397, R398) -/
  safety : List (Nat × Word)
  deriving DecidableEq, Repr

/-- The log beside its registers (R427 to R429): SEALED_NEXT, the generation of the newer header copy, which copy that
is, and permanent records written since the device start. -/
structure LogSt where
  sealedNext : Nat
  gen : Nat
  copy : Nat
  perms : Nat
  deriving DecidableEq, Repr

/-- The log after reset. -/
def LogSt.init : LogSt := { sealedNext := 0, gen := 0, copy := 0, perms := 0 }

/-- The Scorer after reset. -/
def ScorerSt.init : ScorerSt := { queue := [], dropped := 0, safeReq := 0, haltReq := false, delivered := false, hard := false, disAt := none, safety := [] }


/-! ### Time and network ports -/

/-- A trigger channel or pulse output (R292 to R295): firings since START was set, the times of the boundaries whose firing in mode
TICK is still to come, oldest first, and the start of the last pulse. -/
structure TrgSt where
  k : Nat
  marks : List Word
  lastAt : Option Time64
  deriving DecidableEq, Repr

/-- A channel after reset. -/
def TrgSt.init : TrgSt := { k := 0, marks := [], lastAt := none }

/-- The time unit (R280 to R287): integer and 28 fraction bits of the accumulator, the epoch word latched per master
(R283), the committed offset O and when it was committed, the committed grandmaster, channels and pulse outputs. -/
structure TimeSt where
  now : Word
  frac : BitVec 28
  latch : Tab Word
  off : BitVec 64
  offAt : Option Time64
  gmId : BitVec 64
  gmDom : Nat
  trgs : Tab TrgSt
  pps : Tab TrgSt
  deriving DecidableEq, Repr

/-- The time unit after reset. -/
def TimeSt.init : TimeSt :=
  { now := 0, frac := 0, latch := [], off := 0, offAt := none, gmId := 0, gmDom := 0, trgs := [], pps := [] }

/-- What the Deck sends from a network port (R184, R201, R203, R204): an RTP packet or a sender report of an encode stream
(next-hop MAC, destination IPv4 address and UDP port), an RTP packet off a STREAM flow with its next-hop MAC, or RTCP of a context from its local SSRC about the camera's,
with the report block of a session that has received (kind 0 receiver report alone, 1 with a PLI, 2 with a FIR and its sequence
number). -/
inductive DeckTx where
  | rtp (mac : BitVec 48) (ip : Word) (udp : Nat) (bytes : List Byte)
  | flow (mac : BitVec 48) (bytes : List Byte)
  | rtcp (ctx : Nat) (local_ media : Word) (report : Option ReportBlock) (kind fir : Nat) (template : List Byte)
  deriving DecidableEq, Repr

/-- A network port (R288 to R291): receive queues with the stamps of their frames (PTP, CMD, GEN; DECK by size), transmit
queues, and the transmit stamps with sequenceId and messageType. -/
structure NetSt where
  ptpQ : List (NetFrame × Time64)
  deckQ : List (NetFrame × Time64)
  cmdQ : List (NetFrame × Time64)
  genQ : List (NetFrame × Time64)
  txPtp : List PtpTx
  txDeck : List DeckTx
  txGen : List (List Byte)
  stamps : List (Time64 × PtpTx)
  deriving DecidableEq, Repr

/-- A network port after reset. -/
def NetSt.init : NetSt :=
  { ptpQ := [], deckQ := [], cmdQ := [], genQ := [], txPtp := [], txDeck := [], txGen := [], stamps := [] }

/-! ### External memory -/

/-- A command that a sub-channel issued, a write with its data (R274). -/
inductive MemCmd where
  | act (rank bank row : Nat)
  | read (rank group bank col : Nat)
  | write (rank group bank col : Nat) (data : List Byte)
  | refresh (rank : Nat)
  /-- of a bank, or of all banks of the rank -/
  | precharge (rank : Nat) (bank : Option Nat)
  | mr4 (rank : Nat)
  /-- one of the activates of a targeted refresh (R270) -/
  | near (rank bank row : Nat)
  deriving DecidableEq, Repr

/-- A queued read, with how often a younger one passed it (R263). -/
structure QRead where
  req : MemReq
  passed : Nat
  deriving DecidableEq, Repr

/-- A rank of a sub-channel: refresh rate and limit of MR4 (R267), intervals postponed (negative: pulled in), refreshes
since the row tables were cleared (R268, R269). -/
structure RankSt where
  doubled : Bool
  overLim : Bool
  debt : Int
  refreshes : Nat
  deriving DecidableEq, Repr

/-- A rank after reset. -/
def RankSt.init : RankSt := { doubled := false, overLim := false, debt := 0, refreshes := 0 }

/-- A queued write: its local block, the port it came from, and whether it was granted out of spare bandwidth (R16, R266). -/
structure QWrite where
  blk : Nat
  port : Nat
  spare : Bool
  deriving DecidableEq, Repr

/-- A sub-channel beyond its registers: queues (writes oldest first; their data stands in `dram`), writes whose requesters
are held (R262, R263), the check-word cache (check block, changed; R266), open rows and row tables by rank × 32 + bank
(R269), targeted refreshes scheduled (R270), the last 32 commands, alerts since the last completed replay, ALERT_N low, and an
alert during the training step (R274, R276). -/
structure SubSt where
  rq : List QRead
  wq : List QWrite
  held : List MemWrite
  cache : List (Nat × Bool)
  ranks : Tab RankSt
  rows : Tab Nat
  table : Tab (List (Nat × Nat))
  targets : List (Nat × Nat × Nat)
  cmds : List MemCmd
  alerts : Nat
  low : Bool
  stepAlert : Bool
  /-- DQS drift last tracked (R276) -/
  drift : Int
  /-- what training keeps, by rank and step (8 × rank + step): delays, receive enables, reference voltages (R276) -/
  kept : Tab (List Nat)
  deriving DecidableEq, Repr

/-- A sub-channel after reset. -/
def SubSt.init : SubSt :=
  { rq := [], wq := [], held := [], cache := [], ranks := [], rows := [], table := [], targets := [], cmds := [], alerts := 0, low := false,
    stepAlert := false, drift := 0, kept := [] }

/-- A transfer under way: pieces left, data read so far, consecutive grants to others at the port it waits for, and whether
an error response has come; what flash operations of its pieces meet, and the address of a DBG_ACCESS that
began it. -/
structure Flight where
  x : Transfer
  left : List (Nat × Nat)
  data : List Byte
  waits : Nat
  err : Bool
  flash : FlashIn
  tap : Option Nat
  deriving DecidableEq, Repr

/-- The memory controller: sub-channels, the difference between each block's stored check word and its right one (by
system block number, 0 unless listed), tokens and bytes granted in this tick by port (reserved, spare), failures of the
present training step by sub-channel, the pending frequency target, a frequency change under way, the blocks that the scrub
tricks in progress have still to read (R273), and the matrix transfers held at a read of DRAM that is not answered yet (R262, R274). -/
structure MemSt where
  subs : Tab SubSt
  chk : Tab Word
  tokens : Tab Nat
  granted : Tab Nat
  spare : Tab Nat
  tries : Tab Nat
  target : Nat
  changing : Bool
  scrubLeft : Nat
  stalled : List Flight
  deriving DecidableEq, Repr

/-- The controller after reset. -/
def MemSt.init : MemSt :=
  { subs := [], chk := [], tokens := [], granted := [], spare := [], tries := [], target := 0, changing := false,
    scrubLeft := 0, stalled := [] }


/-! ### Touch -/

/-- A node or self electrode (R302 to R305, R311, R312): baseline, last raw count, lock (0 none, 1 COVERED, 2 HOLD,
3 RELEASE), B0 of a HOLD lock, frames at or below −T_TOUCH, frames its unlock condition has held, and the sum of the
baseline frames. -/
structure TNode where
  base : Nat
  raw : Nat
  lock : Nat
  b0 : Nat
  neg : Nat
  run : Nat
  sum : Nat
  /-- signal of the last frame (R302, R320) -/
  seen : Int
  deriving DecidableEq, Repr

/-- A node after reset. -/
def TNode.init : TNode := { base := 0, raw := 0, lock := 0, b0 := 0, neg := 0, run := 0, sum := 0, seen := 0 }

/-- A contact that is down: ID, last node, time of its DOWN frame, position, STRENGTH, SIZE. -/
structure Contact where
  id : Nat
  d : Nat
  k : Nat
  downAt : Time64
  x : Nat
  y : Nat
  strength : Nat
  size : Nat
  deriving DecidableEq, Repr

/-- A touch port beyond its registers: nodes, electrodes, contacts, peaks waiting (row, column, frames), last lift per ID,
baseline frames taken, self-tests passed in START, failures of the last test (item, electrode), abandoned frames in a
row, ring slots unread, whether a self-test is owed to the next slot and when the last one was issued (R306, R307), and what the Scorer keeps (last sequence, contacts down with their DOWN time). -/
structure TouchSt where
  nodes : List TNode
  elecs : List TNode
  contacts : List Contact
  waiting : List (Nat × Nat × Nat)
  lifts : Tab Time64
  baseN : Nat
  passes : Nat
  fails : List (Nat × Nat)
  abandoned : Nat
  unread : List Nat
  owed : Bool
  testAt : Option Time64
  scoSeq : Option Nat
  scoDown : List (Nat × Time64)
  deriving DecidableEq, Repr

/-- A port after reset. -/
def TouchSt.init : TouchSt :=
  { nodes := [], elecs := [], contacts := [], waiting := [], lifts := [], baseN := 0, passes := 0, fails := [],
    abandoned := 0, unread := [], owed := false, testAt := none, scoSeq := none, scoDown := [] }



/-! ### Audio -/

/-- How a port frames its samples on the wire (R322): TDM or I²S, FS one BCLK wide, bits of a slot, slots. -/
structure WireFmt where
  tdm : Bool
  pulse : Bool
  width : Nat
  slots : Nat
  deriving DecidableEq, Repr

/-- BCLK periods of a frame. -/
def WireFmt.bits (f : WireFmt) : Nat := f.width * f.slots

/-- R322: the level of FS in BCLK period `i` of a frame, counted from the FS edge that starts it. -/
def WireFmt.fs (f : WireFmt) (i : Nat) : Bool :=
  if f.tdm = false then decide (f.width ≤ i) else if f.pulse then i == 0 else decide (2 * i < f.bits)

/-- R322: bit `i` of a frame's data, MSB first, slot by slot; it stands on the wire one BCLK after period `i` of FS. -/
def WireFmt.data (f : WireFmt) (frame : List Word) (i : Nat) : Bool := (frame.getD (i / f.width) 0).getLsbD (31 - i % f.width)

/-- A block an RX port has received (R326, R328): number, frames, ZERO, SLIP_DROP, SLIP_REPEAT. -/
structure RxBlock where
  k : Nat
  frames : List (List Word)
  zero : Bool
  drop : Bool
  rep : Bool
  deriving DecidableEq, Repr

/-- An audio port beyond its registers (R325 to R336): blocks its tricks are to move, oldest first; blocks fetched (none:
zeros, already counted); received blocks; the block now playing; its frames still to move (TX) or moved (RX); how many have
moved; the elastic store; slip decided for this block (1 drop, 2 repeat). -/
structure AudSt where
  wants : List Nat
  ready : List (Nat × Option (List (List Word)))
  got : List RxBlock
  k : Option Nat
  frames : List (List Word)
  moved : Nat
  store : List (List Word)
  slip : Nat
  /-- when the block began -/
  began : Word
  /-- when PRESTART begins, while the port is OFF and its group has started (R332) -/
  startAt : Option Word
  deriving DecidableEq, Repr

/-- A port after reset. -/
def AudSt.init : AudSt :=
  { wants := [], ready := [], got := [], k := none, frames := [], moved := 0, store := [], slip := 0, began := 0, startAt := none }

/-- An alignment group (R324): firings since its start, and T_0. -/
structure AudGroup where
  fired : Nat
  t0 : Time64
  deriving DecidableEq, Repr

/-- The audio ports, groups, the tone orders not yet effective with their times, oldest first, the block with which the tone in effect
began, whether a stop order silences the alarm slot (R335), and the last report to the Scorer: block, frames that carried the tone
(R336). -/
structure AudioSt where
  ports : Tab AudSt
  groups : Tab AudGroup
  orders : List (Bool × Word)
  tone : Option Nat
  silenced : Bool
  told : Option (Nat × Nat)
  deriving DecidableEq, Repr

/-- Audio after reset. -/
def AudioSt.init : AudioSt := { ports := [], groups := [], orders := [], tone := none, silenced := false, told := none }


/-! ### The fabric -/

/-- A packet waiting in a port's transmitter: as received or formed, with its class (0 DIRECT, 1 FRAME, 2 STREAM,
3 MESSAGE). -/
structure TxPacket where
  cls : Nat
  pk : RxPacket
  /-- the port that received it, whose buffer it holds (R225) -/
  origin : Option Nat
  deriving DecidableEq, Repr

/-- A partner's identity (R235): node, port, serial number, topology hash, tick source, NUM and DEN. -/
structure Ident where
  node : Nat
  port : Nat
  serial : Nat
  hashLo : Nat
  hashHi : Nat
  src : Nat
  num : Nat
  den : Nat
  deriving DecidableEq, Repr

/-- No identity yet. -/
def Ident.none_ : Ident := { node := 0, port := 0, serial := 0, hashLo := 0, hashHi := 0, src := 0, num := 0, den := 0 }

/-- A fabric port beyond its registers. -/
structure PortSt where
  /-- Trump queues (R230); the flag marks a set of the Banker's -/
  prio : List (Trump × Bool)
  ord : List (Trump × Bool)
  /-- sets of this node that found their queue full, in order (log 91) -/
  wait : List (Trump × Bool)
  /-- running disparity of each transmit lane: positive? (R213) -/
  rd : Tab Bool
  /-- packets waiting -/
  queue : List TxPacket
  /-- the partner's RX_GOOD per lane, its transmit width code, its UNSYNC -/
  peerRx : Nat
  peerWidth : Nat
  peerUnsync : Bool
  /-- echo samples of λ in half ns, identity parts heard (bits 0 to 2), the identity, the one recorded at start -/
  echoes : List Int
  heard : Nat
  ident : Ident
  recorded : Option Ident
  /-- discovery result reached -/
  result : Bool
  /-- tick at the last TICK_MARK -/
  markTick : Tick
  /-- credits by class: granted to us, used by us, granted by us -/
  granted : Tab Nat
  used : Tab Nat
  grants : Tab Nat
  /-- cost used and packets policed in this tick, by flow; MESSAGE bits used in this tick -/
  cost : Tab Nat
  policed : Tab Nat
  msgBits : Nat
  /-- the flow served last, for the round-robin of R223, and the class of the next credit set -/
  turn : Nat
  creditTurn : Nat
  /-- flows cut at this direction (R251) -/
  cut : List Nat
  deriving DecidableEq, Repr

/-- A port after reset. -/
def PortSt.init : PortSt :=
  { prio := [], ord := [], wait := [], rd := [], queue := [], peerRx := 0, peerWidth := 0, peerUnsync := false, echoes := [], heard := 0,
    ident := .none_, recorded := none, result := false, markTick := 0, granted := [], used := [], grants := [],
    cost := [], policed := [], msgBits := 0, turn := 0, creditTurn := 0, cut := [] }

/-- A FRAME carriage in progress on the source node (R244): buffer, packets sent, running CRC. -/
structure FlowSend where
  buf : Nat
  sent : Nat
  crc : BitVec 32
  /-- the next FRAME_DATA packet ends with K30.7 (R272) -/
  spoil : Bool
  deriving DecidableEq, Repr

/-- A FRAME being received on the destination node (R244, R245). -/
structure FlowRx where
  buf : Nat
  port : Nat
  hdr : BufHdr
  next : Nat
  crc : BitVec 32
  ok : Bool
  deriving DecidableEq, Repr

/-- The fabric: numbering of sets (R231; broadcasts under 64 and 64 + source), the receive FIFO, carriages. -/
structure FabSt where
  ports : Tab PortSt
  seqOut : Tab Nat
  seqIn : Tab Nat
  fifo : List (Trump × Nat)
  sends : Tab FlowSend
  /-- SEQ of the last frame sent per flow -/
  lastSent : Tab (BitVec 32)
  frames : Tab FlowRx
  /-- SRC_ID, SEQ tag, line number and presence of the last LINE packet per flow (R242) -/
  lineTag : Tab (BitVec 16 × BitVec 8 × Nat × Bool)
  /-- the pieces of the RTP packet in reassembly per STREAM flow, and whether one of them was bad (R246) -/
  streams : Tab (List Byte × Bool)
  messages : List (Nat × List Byte)
  /-- direct records of remote sources, with the newest whose signatures are complete (R53) -/
  directRecs : Tab (BufRec × Option BufRec)
  /-- flows whose route is broken (R238) -/
  broken : List Nat
  deriving DecidableEq, Repr

/-- The fabric after reset. -/
def FabSt.init : FabSt :=
  { ports := [], seqOut := [], seqIn := [], fifo := [], sends := [], lastSent := [], frames := [], lineTag := [],
    streams := [], messages := [], directRecs := [], broken := [] }

/-- A wall commit this node coordinates (R124 to R128): the wall layout, boundary m, D, votes and outcomes. -/
structure WallCoord where
  id : Nat
  wall : Nat
  m : Tick
  d : Nat
  sent : Bool
  decided : Option Bool
  votes : List (Nat × Nat)
  outcomes : List (Nat × Nat)
  deriving DecidableEq, Repr

/-- This node's part of a wall commit: the coordinator, boundary m′, D, the change that is armed, and whether it was
released or discarded. -/
structure WallPart where
  id : Nat
  coord : Nat
  m : Tick
  d : Nat
  change : Nat
  released : Bool
  dropped : Bool
  deriving DecidableEq, Repr

/-- The wall commit state: the last ID given, the commit this node coordinates, its part of the last commit, and earlier parts:
awaiting an answer, released and not yet in force, or discarded, whose GO may still come. -/
structure WallSt where
  nextId : Nat
  coord : Option WallCoord
  part : Option WallPart
  left : List WallPart
  deriving DecidableEq, Repr

/-- No wall commit. -/
def WallSt.init : WallSt := { nextId := 0, coord := none, part := none, left := [] }


/-! ### Command channel and host port -/

/-- A frame in the intake FIFO (R339): origin, bytes, arrival time-unit value, CRC result. -/
structure InFrame where
  origin : Origin
  bytes : List Byte
  time : Word
  crcOk : Bool
  deriving DecidableEq, Repr

/-- A relayed frame awaiting its response (R341). -/
structure RelayRec where
  origin : Origin
  target : Nat
  session : Nat
  seq : Nat
  alive : Nat
  command : Nat
  deriving DecidableEq, Repr

/-- A command frame in assembly from the fabric (R340): bytes so far and the sequence of its last set. -/
structure Assembling where
  bytes : List Byte
  last : BitVec 8
  deriving DecidableEq, Repr

/-- What a response repeats of its request (R342), with the request's origin. -/
structure CmdHdr where
  origin : Origin
  flags : Nat
  session : Nat
  seq : Nat
  alive : Nat
  command : Nat
  target : Nat
  deriving DecidableEq, Repr

/-- A session (R343, R344): ID, controller entry, origin, last ALIVE and SEQUENCE, the last response (header, code,
payload), if sent. -/
structure Session where
  id : Nat
  entry : Nat
  origin : Origin
  alive : Nat
  seq : Nat
  resp : Option (CmdHdr × Nat × List Byte)
  deriving DecidableEq, Repr

/-- A command that runs on after it was taken: a layout command (R347), a wall layout (R348), or an encode command. -/
inductive CmdAct where
  | select (layout target : Nat) (swaps : List Swap)
  | swap (target : Nat) (swaps : List Swap)
  | words (ws : List (Nat × Word))
  | wall (layout target : Nat)
  | encode (e : Nat)
  deriving DecidableEq, Repr

/-- How far such a command has come: queued; taken at a tick and waiting for PENDING and WALL_ARMED to clear; waiting for
the tick at which GO is due; waiting for its change or wall commit. -/
inductive CmdStage where
  | queued
  | taken (at_ : Tick)
  | due (tick : Tick)
  | change (id : Nat)
  | wall
  deriving DecidableEq, Repr

/-- A command queued or executing. -/
structure CmdRun where
  hdr : CmdHdr
  act : CmdAct
  stage : CmdStage
  deriving DecidableEq, Repr

/-- The command channel: intake FIFO, assemblies by source node, relays, sessions, the session ID assigned last, commands
queued or executing in intake order, frames discarded as old (seq_old), and the request and response buffers of BAR0. -/
structure CmdSt where
  fifo : List InFrame
  asms : Tab Assembling
  relays : List RelayRec
  sessions : List Session
  lastId : Nat
  runs : List CmdRun
  seqOld : Nat
  req : Tab Byte
  resp : Tab Byte
  deriving DecidableEq, Repr

/-- The channel after reset. -/
def CmdSt.init : CmdSt :=
  { fifo := [], asms := [], relays := [], sessions := [], lastId := 0, runs := [], seqOld := 0, req := [], resp := [] }


/-! ### Start, flash and update -/

/-- An update in progress (R402): L1, L2 and the session that owns it; the state, target and next offset stand in
BKR_UPD_STATUS and BKR_UPD_NEXT. -/
structure UpdateSt where
  l1 : Nat
  l2 : Nat
  session : Nat
  deriving DecidableEq, Repr

/-- A recovery download (R406 to R408): entry by BOOT_RCV_N, an open TFTP request, the transport in use (0 management port,
1 UART0), bytes received, the next block number, the block size, whether the last block has come, the failure reported in the
beacon, and whether the reset of R408 is due. -/
structure RecoverySt where
  rcv : Bool
  tftp : Bool
  transport : Option Nat
  got : Nat
  block : Nat
  size : Nat
  done : Bool
  failed : Nat
  resetDue : Bool
  deriving DecidableEq, Repr

/-- No download. -/
def RecoverySt.init : RecoverySt := { rcv := false, tftp := false, transport := none, got := 0, block := 0, size := 512, done := false, failed := 0, resetDue := false }

/-- Start-up (R385 to R400): the hold causes present, the cause bits of the last reset, the steps of the start that are done
(parts loaded, Scorer's check, image loaded, contracts compared), Banker resets during a trial, the update and the
recovery download. -/
structure BootSt where
  holds : List Nat
  cause : Nat
  loaded : Bool
  scorerOk : Bool
  imageOk : Bool
  trialResets : Nat
  /-- the memory section has been written into the MEM block (R394) -/
  memSet : Bool
  /-- DRAM address of the migrated working copy of the image (R399) -/
  imageAt : Option Nat
  update : Option UpdateSt
  recovery : RecoverySt
  /-- the next reset is the one of the hard-wired safe path (R413) -/
  safePath : Bool
  /-- ticks dealt since entry to DEALING or the last Banker reset (R404) -/
  dealt : Nat
  /-- BOOT_RCV_N was low at the last rising edge of RESET_N (R443) -/
  rcvPin : Bool
  /-- when RESET was released, and TRIAL_S and CONFIRM_S of the slot on trial (R404, R409) -/
  released : Time64
  trialS : Nat
  confirmS : Nat
  /-- what the migration of the delivered image gave (R396, R399) -/
  migrated : Option (List Byte)
  /-- when the reset that UPDATE_ACTIVATE asked for is due (R402) -/
  resetAt : Option Time64
  deriving DecidableEq, Repr

/-- Start-up state after reset. -/
def BootSt.init : BootSt :=
  { holds := [], cause := 1, loaded := false, scorerOk := false, imageOk := false, trialResets := 0, memSet := false, imageAt := none,
    update := none, recovery := .init, safePath := false, dealt := 0, rcvPin := false, released := 0, trialS := 0, confirmS := 0,
    migrated := none, resetAt := none }

/-! ### Platform -/

/-- The platform beyond its registers: the first cells of the fuses by word, the programming request in progress (word, data), processors
halted by debug, the token under verification, Banker SRAM, Scorer mailbox SRAM, the master each target port is parked on,
violation records per master (time of the last one, repeats since), the JTAG instruction in effect, the preloaded boundary scan,
whether it is driven, when the Banker watchdog was last restarted and BKR_HB last changed (R359), and die temperature readings
above 120 °C in a row (R421). -/
structure PlatSt where
  fuses : Tab Word
  /-- the second cell of each fuse bit (R376) -/
  fusesB : Tab Word
  /-- FUS_DBG_NONCE (R382) -/
  nonce : BitVec 64
  /-- the memories off the system matrix, by KIND of part: Dealer 2, Scorer 3, Deck 4, touch 5, SER block 6 (R358, R391) -/
  mems : Tab (List Byte)
  /-- when BANKER_UP was last written (R359) -/
  watchAt : Time64
  /-- the last Banker reset: when, and whether the heartbeat watch ran (R359) -/
  hit : Option (Time64 × Bool)
  prog : Option (Nat × Word)
  halted : List Nat
  token : Option (List Byte)
  sram : Tab Byte
  mbox : Tab Byte
  parked : Tab Nat
  viol : Tab (Option Time64 × Nat)
  ir : Nat
  preload : Nat
  driven : Bool
  wdtAt : Time64
  hbAt : Time64
  hot : Nat
  deriving DecidableEq, Repr

/-- The platform after reset. -/
def PlatSt.init : PlatSt :=
  { fuses := [], fusesB := [], nonce := 0, mems := [], watchAt := 0, hit := none, prog := none, halted := [], token := none, sram := [], mbox := [], parked := [], viol := [], ir := 1,
    preload := 0, driven := false, wdtAt := 0, hbAt := 0, hot := 0 }

/-! ### The whole state -/

/-- A symbol of a fabric lane (R213, R214): data D, or a special symbol K x.y. -/
inductive Sym where
  | d (b : Byte)
  | k (x y : Nat)
  deriving DecidableEq, Repr

/-- An ordered set sent on a fabric port (R214): lane status bytes are (lane, status, check). -/
inductive FabSet where
  | skip
  | idle
  | credit (cls total : Nat)
  | laneStatus (lanes : List (Nat × Nat × Nat))
  deriving DecidableEq, Repr

/-- What the host port's function is to the host (R349): IDs, class code, size of BAR0, MSI vectors, and whether it has INTA, advanced
error reporting and ASPM L1. -/
structure PciFunction where
  vendor : Nat
  device : Nat
  classCode : Nat
  subsysVendor : Nat
  subsystem : Nat
  barSize : Nat
  vectors : Nat
  inta : Bool
  errorReports : Bool
  l1 : Bool
  deriving DecidableEq, Repr

/-- Pins of R441, and what they are during the ramp. -/
inductive PinGroup where
  | faultN | pps | touch | audio | lanes | hpd | flashCs | dramReset
  deriving DecidableEq, Repr
inductive PinState where
  | highZ | pulledDown | pulledUp | clamped | idle | low
  deriving DecidableEq, Repr

/-- R441: the pins from the first rise of the pad supplies until RESET drives them. -/
def rampPins : List (PinGroup × PinState) :=
  [(.faultN, .highZ), (.pps, .pulledDown), (.touch, .clamped), (.audio, .pulledDown), (.lanes, .idle), (.hpd, .low), (.flashCs, .pulledUp),
   (.dramReset, .low)]

/-- What the device sends out or drives during a command. -/
inductive Emission where
  | videoLine (o line : Nat) (px : List Px)
  /-- link training: enhanced framing, and each configuration tried with its equalisation pattern (R149, R152) -/
  | training (o : Nat) (enhanced : Bool) (tries : List (LinkCfg × Nat))
  /-- the MSA of a frame: the timing words, MISC0, and Mvid over Nvid (R131, R148) -/
  | msa (o : Nat) (timing : List Word) (misc0 : Nat) (ratio : Rat)
  | auxSend (o : Nat) (r : AuxReq)
  /-- the function that the host finds when the host link comes up -/
  | hostFunction (f : PciFunction)
  /-- a Trump set, an ordered set or a packet from a fabric port, with the symbols of each lane (R214, R215, R227) -/
  | trumpSend (p : Nat) (m : Trump) (lanes : List (Nat × List Sym))
  | fabSet (p : Nat) (k : FabSet) (lanes : List (Nat × List Sym))
  | fabPacket (p : Nat) (k : RxPacket) (lanes : List (Nat × List Sym))
  /-- symbols that a near-end loop returns to the receiver of a quad, which the rows of its port then receive (R217) -/
  | looped (q : Nat) (lanes : List (Nat × List Sym))
  | ptpSend (port : Nat) (m : PtpTx)
  | deckSend (port : Nat) (x : DeckTx)
  | netSend (port : Nat) (bytes : List Byte)
  | toBanker (port : Nat) (f : NetFrame) (stamp : Time64)
  | pulse (k : Nat) (high : Bool) (ns : Nat)
  | read (addr : Nat) (v : Word)
  | msi (n : Nat)
  | block (port addr : Nat) (data : List Byte) (err : Bool)
  | targeted (u rank bank : Nat) (rows : List Nat)
  /-- a coded picture: stream, whether a key picture, level, colour matrix, conformance window (right, bottom), quantisers of the
  rows, bits, RTP timestamp and the picture coded (R203, R208) -/
  | encoded (e : Nat) (key : Bool) (level colour : Nat) (window : Nat × Nat) (qps : List Nat) (bits : Nat) (ts : Word) (px : Frame)
  /-- frames an audio port sends: whole block of a master port, or one frame on a slave's FS edge -/
  | audio (p : Nat) (wire : WireFmt) (frames : List (List Word))
  /-- a master port runs BCLK and FS for some frame periods -/
  | audioClocks (p : Nat) (wire : WireFmt) (frames : Nat)
  /-- a command response that leaves by UDP -/
  | response (o : Origin) (bytes : List Byte)
  /-- the data register that a JTAG instruction captures; pins driven by EXTEST -/
  | jtag (code dr : Nat)
  | pins (bits : Nat)
  /-- what a transfer on the matrix returns -/
  | transfer (master : Nat) (data : List Byte) (err : Bool)
  /-- bytes sent by UART0; a TFTP packet by opcode (4 ACK, 5 ERROR, 6 OACK) with its number; the recovery beacon: MAC and IPv4 address, serial number,
  lifecycle, entry by BOOT_RCV_N, both slot results, anti-rollback count, failure reported -/
  | uart (bytes : List Byte)
  | tftp (op n : Nat)
  | beacon (mac : BitVec 48) (ip : Word) (serial lifecycle : Nat) (rcv : Bool) (slotA slotB rollback failed : Nat)
  /-- the pins before RESET drives them (R441) -/
  | ramp (pins : List (PinGroup × PinState))
  | rxHpd (i : Nat) (us : Nat)
  | rxReply (i : Nat) (ack : Bool) (bytes : List Byte)
  deriving DecidableEq, Repr

/-- The block. -/
structure State where
  regs : Tab Word
  pend : Tab Word
  pendLayout : Option Nat
  tiles : Tab Tile
  descs : Tab Desc
  dealer : Dealer
  outs : Tab OutSt
  slots : Tab SlotSt
  caps : Tab CapSt
  image : Image
  time : TimeSt
  sco : ScorerSt
  logs : LogSt
  mram : Tab Byte
  fab : FabSt
  wall : WallSt
  boot : BootSt
  plat : PlatSt
  flash : Tab Byte
  ctxs : Tab CtxSt
  encs : Tab EncSt
  nets : Tab NetSt
  dram : Tab Byte
  mem : MemSt
  touch : Tab TouchSt
  audio : AudioSt
  cmd : CmdSt
  anomalies : Nat
  freeCtr : Nat
  out : List Emission
  pending : List Instr
  deriving DecidableEq, Repr

/-- Why a command stops the block: no command does, the spec giving every one an effect. -/
inductive Fault where
  deriving DecidableEq, Repr

/-- Why a command is refused. -/
inductive Refusal where
  /-- raised by an arm of exec whose command has no meaning yet; safe -/
  | notModelled (mnemonic : String)
  deriving DecidableEq, Repr

/-- The block right after reset. -/
def State.reset : State :=
  { regs := [], pend := [], pendLayout := none, tiles := [], descs := [], dealer := .init, outs := [], slots := [],
    caps := [], image := .none_, time := .init, sco := .init, logs := .init, mram := [], fab := .init, wall := .init, boot := .init, plat := .init, flash := [], ctxs := [], encs := [], nets := [], dram := [], mem := .init, touch := [], audio := .init, cmd := .init, anomalies := 0, freeCtr := 0,
    out := [], pending := [] }

end Sys2Proof.Machine
end

