-- ==== Sys2Proof/Machine/Ops.lean ====
section
/-!
DEFINITION. The named operations over registers and state that every meaning is built from: field reads
and writes, saturating counts, shadowed reads (R12, R123), the log queue of the Scorer, emissions, tick and
source queries.
-/

namespace Sys2Proof.Machine

open Sys2Proof

/-! ### Registers -/

/-- Mask of a field in its word. -/
def Fld.mask (f : Fld) : Word := BitVec.ofNat 32 ((2 ^ f.wid - 1) * 2 ^ f.lo)

/-- The value of a field in a word. -/
def Fld.of (f : Fld) (w : Word) : Nat := w.toNat / 2 ^ f.lo % 2 ^ f.wid

/-- A word with a field replaced. -/
def Fld.into (f : Fld) (w : Word) (v : Nat) : Word :=
  (w &&& ~~~f.mask) ||| (BitVec.ofNat 32 (v % 2 ^ f.wid * 2 ^ f.lo))

/-- The value in force at a register address. -/
def State.word (s : State) (a : Nat) : Word := Tab.get (regReset a) s.regs a

/-- Set the value in force at a register address. -/
def State.setWord (s : State) (a : Nat) (w : Word) : State :=
  { s with regs := Tab.put (regReset a) s.regs a w }

/-- Read a field (the value in force). -/
def State.get (s : State) (f : Fld) : Nat := f.of (s.word f.addr)

/-- Is a one-bit field set? -/
def State.on (s : State) (f : Fld) : Bool := s.get f != 0

/-- Write a field. -/
def State.set (s : State) (f : Fld) (v : Nat) : State := s.setWord f.addr (f.into (s.word f.addr) v)

/-- Write a one-bit field. -/
def State.setB (s : State) (f : Fld) (b : Bool) : State := s.set f (b2n b)

/-- Write a field with a 32-bit value. -/
def State.setW (s : State) (f : Fld) (w : Word) : State := s.set f w.toNat

/-- Write a field with an integer, two's complement in the field's width. -/
def State.setI (s : State) (f : Fld) (i : Int) : State := s.set f (i % (2 ^ f.wid : Nat)).toNat

/-- Count a saturating field up by `k`. -/
def State.count (s : State) (f : Fld) (k : Nat := 1) : State := s.set f (satAdd f.wid (s.get f) k)

/-- Count a wrapping field up by one. -/
def State.next (s : State) (f : Fld) : State := s.set f (s.get f + 1)

/-- A signed field. -/
def State.getI (s : State) (f : Fld) : Int := (BitVec.ofNat f.wid (s.get f)).toInt

/-- The value a later commit starts from: in force, with every admitted commit applied (R123). The rule does not say whether
the armed part of a wall commit, admitted but held, belongs to it: it does not (log 54). -/
def State.baseWord (s : State) (a : Nat) : Word :=
  s.dealer.changes.foldl (fun w c =>
    match c.stage, c.kind with
    | .waiting, _ => w
    | .armed, _ => w
    | _, .commit sh _ => (Tab.find sh a).getD w
    | _, .wall sh _ => (Tab.find sh a).getD w
    | _, _ => w) (s.word a)

/-- What a read of an SH word returns: the pending value (R12, R123). -/
def State.pendWord (s : State) (a : Nat) : Word := (Tab.find s.pend a).getD (s.baseWord a)

/-! ### Indexed units -/

/-- The tile of video layer `l`. -/
def State.tile (s : State) (l : Nat) : Tile := Tab.get .init s.tiles l
/-- Change a tile. -/
def State.updTile (s : State) (l : Nat) (f : Tile → Tile) : State :=
  { s with tiles := Tab.upd .init s.tiles l f }
/-- A Talon descriptor. -/
def State.desc (s : State) (d : Nat) : Desc := Tab.get .init s.descs d
/-- Change a Talon descriptor. -/
def State.updDesc (s : State) (d : Nat) (f : Desc → Desc) : State :=
  { s with descs := Tab.upd .init s.descs d f }
/-- An output. -/
def State.outp (s : State) (o : Nat) : OutSt := Tab.get .init s.outs o
/-- Change an output. -/
def State.updOut (s : State) (o : Nat) (f : OutSt → OutSt) : State :=
  { s with outs := Tab.upd .init s.outs o f }
/-- A direct slot of an output. -/
def State.slot (s : State) (o j : Nat) : SlotSt := Tab.get .init s.slots (4 * o + j)
/-- Change a direct slot. -/
def State.updSlot (s : State) (o j : Nat) (f : SlotSt → SlotSt) : State :=
  { s with slots := Tab.upd .init s.slots (4 * o + j) f }
/-- A DisplayPort input. -/
def State.cap (s : State) (i : Nat) : CapSt := Tab.get .init s.caps i
/-- Change a DisplayPort input. -/
def State.updCap (s : State) (i : Nat) (f : CapSt → CapSt) : State :=
  { s with caps := Tab.upd .init s.caps i f }
/-- Change the Dealer. -/
def State.updDealer (s : State) (f : Dealer → Dealer) : State := { s with dealer := f s.dealer }

/-- The bits of the register at an address whose field type satisfies `p`. -/
def tyMask (p : FieldTy → Bool) (a : Nat) : Word :=
  match (blockRegs a).find? (·.hit a) with
  | none => 0
  | some d => d.fields.foldl (fun m f => if p f.ty then m ||| (⟨a, f.lo, f.wid⟩ : Fld).mask else m) 0

/-- Change the start-up state. -/
def State.updBoot (s : State) (f : BootSt → BootSt) : State := { s with boot := f s.boot }

/-- R374: a running trick of a class and job met an error response: it does not complete. -/
def State.stopRun (s : State) (cls : EngineClass) (job : Nat) : State :=
  s.updDealer fun d => { d with
    tricks := d.tricks.map fun r => if r.trick.cls = cls ∧ r.trick.job = job ∧ r.done = false then { r with stale := true } else r }

/-- R374: has the running trick of a class and job met an error response, so that it cannot complete? -/
def State.staleRun (s : State) (cls : EngineClass) (job : Nat) : Bool :=
  match s.dealer.tricks.find? fun r => r.trick.cls == cls && r.trick.job == job && !r.done with
  | some r => r.stale
  | none => false

/-! ### Device state, ticks and time -/

/-- Device state codes (R10). -/
def stReset : Nat := 0x1
def stLoading : Nat := 0x2
def stHeld : Nat := 0x3
def stDealing : Nat := 0x4
def stSafe : Nat := 0x5
def stRecovery : Nat := 0x6

/-- The device state (R10). -/
def State.devState (s : State) : Nat := s.get .BKR_DEV_STATE_STATE
/-- Is the device DEALING? -/
def State.dealing (s : State) : Bool := s.devState == stDealing
/-- DLR_TICK_COUNT. -/
def State.tick (s : State) : Tick := s.word Reg.DLR_TICK_COUNT
/-- DLR_TICK_TIME. -/
def State.tickTime (s : State) : Word := s.word Reg.DLR_TICK_TIME
/-- Low 16 bits of the tick count. -/
def State.tick16 (s : State) : Nat := s.tick.toNat % 2 ^ 16
/-- The tick period P_tick in ns, exact (R20). -/
def State.pTick (s : State) : Rat :=
  mkRat (s.get .DLR_TICK_NUM_NUM) (s.get .DLR_TICK_DEN_DEN)
/-- K1 of R54: the largest k with k × P_tick ≤ 1 s. -/
def State.k1 (s : State) : Nat :=
  1000000000 * s.get .DLR_TICK_DEN_DEN / s.get .DLR_TICK_NUM_NUM
/-- The extended time now (R44): epoch word above, nanosecond value below. -/
def State.extNow (s : State) : Time64 := (s.word Reg.TIM_EPOCH) ++ s.time.now
/-- Is the epoch valid? -/
def State.epochValid (s : State) : Bool := s.on .TIM_STATUS_EPOCH_VALID
/-- Take a hardware time stamp carried by an event as the time unit's present value. -/
def State.at_ (s : State) (t : Word) : State := { s with time := { s.time with now := t } }

/-- The interrupt status and enable registers of the blocks that interrupt the Banker (R38, R86, R129, R159, R177, R210, R211,
R255, R278, R297, R319, R336). -/
def bankerInts : List (Nat × Nat) :=
  [(Reg.DLR_INT_STATUS, Reg.DLR_INT_EN), (Reg.CMP_LV_INT_STATUS, Reg.CMP_LV_INT_EN), (Reg.CMP_INT_STATUS, Reg.CMP_INT_EN),
   (Reg.OUT_INT_STATUS, Reg.OUT_INT_EN), (Reg.CAP_INT_STATUS, Reg.CAP_INT_EN), (Reg.DEC_INT_STATUS, Reg.DEC_INT_EN),
   (Reg.ENC_INT_STATUS, Reg.ENC_INT_EN), (Reg.FAB_INT_STATUS, Reg.FAB_INT_EN), (Reg.MEM_INT_STATUS, Reg.MEM_INT_EN),
   (Reg.TIM_INT_STATUS, Reg.TIM_INT_EN), (Reg.TCH_INT_STATUS, Reg.TCH_INT_EN), (Reg.AUD_INT_STATUS, Reg.AUD_INT_EN)]

/-- The Banker's interrupt lines: the blocks with a status bit set whose enable bit is 1. -/
def State.bankerIrqs (s : State) : List Nat :=
  (bankerInts.filter fun e => s.word e.1 &&& s.word e.2 != 0).map (·.1)

/-- Is the Banker there: up since its last reset, and not halted (R37, R360)? -/
def State.bankerUp (s : State) : Bool := s.on .HST_MB_STATUS_BANKER_UP && !s.on .FUS_DBG_STATUS_BANKER_HALTED

/-- R349, R356: the level of the host port's legacy INTA: a status bit of HST_INT_STATUS is set whose vector is enabled. -/
def State.inta (s : State) : Bool := s.get .HST_INT_STATUS_VEC &&& s.get .HST_INT_EN_EN != 0

/-! ### Reports -/

/-- The events of R431 in row order, with their area: 0 permanent, 1 ring, 2 sealed ring. -/
def logRows : List (Nat × Nat) :=
  [(0x0101, 0), (0x0102, 0), (0x0103, 0), (0x0104, 0), (0x0105, 0), (0x0106, 0), (0x0107, 0), (0x0108, 0), (0x0109, 0),
   (0x010A, 0), (0x0201, 1), (0x0202, 1), (0x0203, 1), (0x0204, 1), (0x0205, 1), (0x0301, 0), (0x0302, 1), (0x0303, 1),
   (0x0304, 1), (0x0401, 0), (0x0402, 0), (0x0403, 0), (0x0404, 1), (0x0405, 0), (0x0406, 1), (0x0501, 0), (0x0502, 1),
   (0x0503, 1), (0x0504, 0), (0x0601, 0), (0x0602, 1), (0x0603, 0), (0x0701, 0), (0x0702, 1), (0x0801, 2), (0x0802, 0),
   (0x0803, 0)]

/-- The area of an event. -/
def logArea (event : Nat) : Nat := (Tab.find logRows event).getD 1

/-- Put a record into the queue of 256: in a full queue a permanent or sealed record displaces the newest ring-class
record, any other is lost (R428). -/
def State.logPut (s : State) (r : LogRec) : State :=
  let q := s.sco.queue
  if q.length < 256 then { s with sco := { s.sco with queue := q ++ [r] } }
  else
    let older := q.reverse.dropWhile fun x => logArea x.event != 1
    let newer := (q.reverse.takeWhile fun x => logArea x.event != 1).reverse
    let q' := if logArea r.event = 1 ∨ older.isEmpty = true then q else (older.drop 1).reverse ++ newer ++ [r]
    { s with sco := { s.sco with queue := q', dropped := s.sco.dropped + 1 } }.count .LOG_DROP_DROPPED

/-- Hand an event to the Scorer's log queue (R426, R428): event code and argument bytes (R431). -/
def State.log (s : State) (event : Nat) (args : List Nat) : State :=
  s.logPut { event := event, args := args.map (BitVec.ofNat 8), dev := s.get .BKR_DEV_STATE_STATE, tick := s.tick,
             time := s.extNow, ext := s.epochValid }

/-- Two bytes, little-endian. -/
def by2 (n : Nat) : List Nat := [n % 256, n / 256 % 256]
/-- Four bytes, little-endian. -/
def by4 (n : Nat) : List Nat := by2 n ++ by2 (n / 65536)

/-- First address of the DRAM window. -/
def dramBase : Nat := 0x100000000

/-- Drop repeats, keeping the first of each. -/
def uniq {α : Type} [DecidableEq α] (xs : List α) : List α :=
  xs.foldl (fun acc x => if acc.contains x then acc else acc ++ [x]) []

/-! ### The visible blocks of DRAM (R256, R259) -/

/-- Fitted sub-channels under MEM_CFG.CHANNELS. -/
def State.memSubs (s : State) : Nat := 2 * 2 ^ s.get .MEM_CFG_CHANNELS

/-- nb, nr, nk of R259 for an organisation of R256. -/
def orgBits (org : Nat) : Nat × Nat × Nat :=
  match org with
  | 0 => (4, 16, 0)
  | 1 => (4, 16, 1)
  | 2 => (4, 17, 0)
  | _ => (5, 16, 0)

/-- T and V of R259: blocks and visible blocks per sub-channel. -/
def State.memT (s : State) : Nat :=
  let (nb, nr, nk) := orgBits (s.get .MEM_CFG_ORG)
  2 ^ (4 + nb + nr + nk)
def State.memV (s : State) : Nat := 63 * s.memT / 64

/-- R259: sub-channel and local block of a system address, none outside the visible capacity. -/
def State.memMap (s : State) (a : Nat) : Option (Nat × Nat) :=
  if a < dramBase ∨ s.memSubs * s.memV * 256 ≤ a - dramBase then none
  else
    let blk := (a - dramBase) / 256
    some (blk % s.memSubs, blk / s.memSubs)

/-- R261: the stored check words of the blocks that lie whole inside `n` bytes from `a` are right again. -/
def cleanBlocks (chk : Tab Word) (a n : Nat) : Tab Word :=
  chk.filter fun e => !decide (a ≤ dramBase + 256 * e.1 ∧ dramBase + 256 * e.1 + 256 ≤ a + n)

/-- Change the controller. -/
def State.updMem (s : State) (f : MemSt → MemSt) : State := { s with mem := f s.mem }

/-- R266: a port is granted `n` bytes, against its tokens as far as they go. -/
def State.charge_ (s : State) (port n : Nat) : State :=
  let t := Tab.get 0 s.mem.tokens port
  s.updMem fun m => { m with
    tokens := Tab.put 0 m.tokens port (t - n)
    granted := Tab.upd 0 m.granted port (· + n)
    spare := if t = 0 then Tab.upd 0 m.spare port (· + n) else m.spare }

/-- R15, R266: the account a port's check words are charged to: the processor port's shares include their own. DEDUCED (log 79). -/
def chkAccount (port : Nat) : Nat := if port = 52 ∨ port = 54 then port else 53

/-- R266: an engine is granted `n` whole blocks in one go, and the check words of every 64 of them (log 49). -/
def State.chargeBlocks (s : State) (port n : Nat) : State :=
  if n = 0 then s else (s.charge_ port (256 * n)).charge_ (chkAccount port) (256 * ((n + 63) / 64))

/-- R275: does a block's address lie in a sub-channel in FAILED (MEM_SC_STATUS.STATE 4)? -/
def State.blockFailed (s : State) (a : Nat) : Bool :=
  s.get .MEM_STATUS_SC_FAILED != 0 && match s.memMap a with
    | some (u, _) => s.get (.MEM_SC_STATUS_STATE u) == 4
    | none => false

/-- Start addresses of the blocks that `n` bytes from `a` touch. -/
def blocksOf (a n : Nat) : List Nat := if n = 0 then [] else (List.range ((a % 256 + n + 255) / 256)).map fun i => a / 256 * 256 + 256 * i

/-- R260, R271, R275: the blocks that `n` bytes from `a` touch and every read of which fails: the stored check word is not the right
one, or the sub-channel is in FAILED. -/
def State.badBlocks (s : State) (a n : Nat) : List Nat :=
  let poisoned := (s.mem.chk.map fun e => dramBase + 256 * e.1).filter fun b => decide (a < b + 256 ∧ b < a + n)
  if s.get .MEM_STATUS_SC_FAILED = 0 then poisoned
  else (blocksOf a n).filter fun b => poisoned.contains b || s.blockFailed b

/-- R271: a persistent failure is counted, recorded and reported. `kind` 0 read, 1 read-modify-write, 2 scrub, 3 FAILED. -/
def State.persist (s : State) (port a kind : Nat) : State :=
  let b := a / 256 * 256
  let s := (s.count .MEM_CHK_CNT_PERSIST).setB .MEM_INT_STATUS_CHK_PERSIST true
  let s := (s.set .MEM_CHK_ADDR_LO_ADDR_LO (b % 2 ^ 32)).set .MEM_CHK_ADDR_HI_ADDR_HI (b / 2 ^ 32)
  let s := ((s.set .MEM_CHK_INFO_PORT port).set .MEM_CHK_INFO_KIND kind).set .MEM_CHK_INFO_TICK s.tick16
  s.log 0x0401 (by4 (b / 256) ++ [port, kind])

/-- R271: the reads of some blocks by a port fail, each on its own. -/
def State.persistAll (s : State) (port : Nat) (bs : List Nat) : State :=
  bs.foldl (fun s b => s.persist port b (if s.blockFailed b then 3 else 0)) s

/-- R275: memory `m` with the blocks of `n` bytes from `a` that lie in a sub-channel in FAILED as they were: a write to one is
discarded, and counted. -/
def State.keepFailed (s : State) (a n : Nat) (m : Tab Byte) : State :=
  if s.get .MEM_STATUS_SC_FAILED = 0 then { s with dram := m }
  else
    let lost := (blocksOf a n).filter s.blockFailed
    let kept := lost.foldl (fun m b => writeBytes Config.dramFill m b (readBytes Config.dramFill s.dram b 256)) m
    { s.count .MEM_CHK_CNT_PERSIST lost.length with dram := kept }

/-- R261, R275: bytes stored in DRAM; a block written whole gets a right check word. -/
def State.storeBytes (s : State) (a : Nat) (bs : List Byte) : State :=
  let s := s.keepFailed a bs.length (writeBytes Config.dramFill s.dram a bs)
  { s with mem := { s.mem with chk := cleanBlocks s.mem.chk a bs.length } }

/-- Start of a command: nothing sent out or driven yet. -/
def State.quiet (s : State) : State := { s with out := [] }

/-- What the device sends out or drives in this command. -/
def State.emit (s : State) (e : Emission) : State := { s with out := s.out ++ [e] }

/-- A fresh free value, and the state with the counter advanced. -/
def State.fresh (s : State) : BitVec 64 × State :=
  (Config.freeValue s.freeCtr, { s with freeCtr := s.freeCtr + 1 })

/-- Round an exact fraction to one of the two neighbouring integers; where it lies between two, the spec does
not say which. -/
def State.roundFree (s : State) (q : Rat) : Int × State :=
  if q.den = 1 then (q.num, s)
  else
    let (v, s') := s.fresh
    (q.floor + (if v.getLsbD 0 then 1 else 0), s')

/-- A cause of SAFE arises (R421): in DEALING it asks for SAFE; elsewhere it is logged as SAFE_CAUSE. -/
def State.safeCause (s : State) (cause : Nat) : State :=
  if s.dealing then { s with sco := { s.sco with safeReq := setBitN s.sco.safeReq (cause - 1) } }
  else s.log 0x010A [cause]

/-- Index of the register at `a` in a family that starts at `base` with `n` members `stride` bytes apart. -/
def regIdx (base stride n a : Nat) : Option Nat :=
  if base ≤ a ∧ (a - base) % stride = 0 ∧ (a - base) / stride < n then some ((a - base) / stride) else none

/-! ### Network ports -/

/-- A network port. -/
def State.net (s : State) (n : Nat) : NetSt := Tab.get .init s.nets n
/-- Change a network port. -/
def State.updNet (s : State) (n : Nat) (f : NetSt → NetSt) : State := { s with nets := Tab.upd .init s.nets n f }
/-- R291: the Deck queues a frame at a port. -/
def State.deckSend (s : State) (n : Nat) (x : DeckTx) : State :=
  s.updNet n fun p => { p with txDeck := p.txDeck ++ [x] }
/-- Show what a read of a register returned. -/
def State.showRead (s : State) (a : Nat) (v : Word) : State := s.emit (.read a v)

/-! ### The host's interrupt vectors and FAULT_N -/

/-- R350, R351: MSI vector `n` is raised. -/
def State.hostVec (s : State) (n : Nat) : State :=
  let s := s.set .HST_INT_STATUS_VEC (setBitN (s.get .HST_INT_STATUS_VEC) n)
  if bitOf (s.get .HST_INT_EN_EN) n then s.emit (.msi n) else s

/-- R425: outputs whose EN is 1 and that are not in VIDEO (state 3), as a mask. -/
def State.notVideo (s : State) : Nat :=
  ((List.range 16).filter fun o => s.on (.OUT_CTRL_EN o) && s.get (.OUT_STATUS_STATE o) != 3).foldl setBitN 0

/-- R351, R425, R433: FAULT_N follows its conditions; a change of level raises vector 2. -/
def State.settleFault (s : State) : State :=
  let m := s.notVideo
  let low := !s.dealing || m != 0 || s.on .SCO_STATUS_TONE_FAIL || s.sco.hard
  let s := (s.setB .SCO_FAULTN_STATE (!s.dealing)).setB .SCO_FAULTN_OUTPUT (m != 0)
  let s := (s.set .SCO_FAULTN_OUTPUTS m).setB .SCO_FAULTN_TONE_FAIL (s.on .SCO_STATUS_TONE_FAIL)
  if s.on .SCO_STATUS_FAULT_N_LOW = low then s else (s.setB .SCO_STATUS_FAULT_N_LOW low).hostVec 2

/-! ### Sources and layers -/

/-- The local node (R43). -/
def State.nodeId (s : State) : Nat := s.get .FAB_NODE_NODE_ID
/-- The node of a source ID. -/
def srcNode (src : BitVec 16) : Nat := src.toNat / 1024
/-- The local index of a source ID. -/
def srcLocal (src : BitVec 16) : Nat := src.toNat % 1024
/-- A source ID from node and local index. -/
def mkSrc (node idx : Nat) : BitVec 16 := BitVec.ofNat 16 (node * 1024 + idx)
/-- The source ID of a local source. -/
def State.localSrc (s : State) (idx : Nat) : BitVec 16 := mkSrc s.nodeId idx
/-- Is the source of this node? -/
def State.isLocal (s : State) (src : BitVec 16) : Bool := srcNode src == s.nodeId

/-- The image's descriptor of a source. -/
def State.srcDesc (s : State) (src : BitVec 16) : SrcDesc :=
  (Tab.find s.image.srcs src.toNat).getD .none_

/-- Video layers that have a source and are enabled, ascending: the tiles of the layout in force. The
assignment stands in CMP_VL_SRC, whose reset value is "no source". -/
def State.layersOn (s : State) : List Nat :=
  s.regs.filterMap fun (a, w) =>
    let l := (a - Reg.CMP_VL_SRC 0) / 0x20
    if Reg.CMP_VL_SRC 0 ≤ a ∧ l < 512 ∧ a = Reg.CMP_VL_SRC l ∧ w.getLsbD 31 = false then
      (if s.on (.CMP_VL_CTRL_EN l) then some l else none)
    else none

/-- Tiles on output `o`. -/
def State.layersOf (s : State) (o : Nat) : List Nat :=
  s.layersOn.filter fun l => s.get (.CMP_VL_CTRL_OUTPUT l) == o

/-- The assigned source of a layer. -/
def State.layerSrc (s : State) (l : Nat) : BitVec 16 := BitVec.ofNat 16 (s.get (.CMP_VL_SRC_SRC_ID l))

/-- The outputs 0 to 15. -/
def outputs : List Nat := List.range 16

/-- Apply `f` for every element in turn. -/
def State.each {α : Type} (s : State) (xs : List α) (f : State → α → State) : State := xs.foldl f s

/-- Apply `f` when a condition holds. -/
def State.when (s : State) (c : Bool) (f : State → State) : State := if c then f s else s

end Sys2Proof.Machine
end

