-- ==== Sys2Proof/Machine/Device.lean ====
section
/-!
DEFINITION. Device states and hold causes (R10, R387, R388), and the status codes of R6.
-/

namespace Sys2Proof.Machine

open Sys2Proof

/-- Status codes (R6). -/
def stOK : Nat := 0x00
def stBUSY : Nat := 0x01
def stSTATE : Nat := 0x02
def stRANGE : Nat := 0x03
def stAUTH : Nat := 0x04
def stCHECK : Nat := 0x05
def stREFUSED : Nat := 0x06
def stLATE : Nat := 0x07
def stUNKNOWN : Nat := 0x08

/-- Hold causes (R388). -/
def holdBlank : Nat := 0x01
def holdRetired : Nat := 0x02
def holdImage : Nat := 0x03
def holdMigrate : Nat := 0x04
def holdMemTrain : Nat := 0x05
def holdMemSpeed : Nat := 0x06
def holdTopology : Nat := 0x07
def holdRoute : Nat := 0x08
def holdScorerImage : Nat := 0x09

/-- Set the device state (R10). -/
def State.setDevState (s : State) (c : Nat) : State := s.set .BKR_DEV_STATE_STATE c

/-- R387, R388: a hold cause arises: the device enters HELD (BLANK: it stays in LOADING, R377), CAUSE keeps the
first cause, and the cause is logged. -/
def State.hold_ (s : State) (cause : Nat) : State :=
  if (s.devState ≠ stLoading ∧ s.devState ≠ stHeld) ∨ s.boot.holds.contains cause = true then s
  else
    let s := if s.get .BKR_DEV_STATE_CAUSE = 0 then s.set .BKR_DEV_STATE_CAUSE cause else s
    let s := { s with boot := { s.boot with holds := s.boot.holds ++ [cause] } }
    let s := if cause = holdBlank then s else s.setDevState stHeld
    s.log 0x0106 (cause :: by4 (s.word Reg.BKR_HOLD_INFO).toNat)

/-- R388: the cause TOPOLOGY clears; no other cause does. -/
def State.clearTopology (s : State) : State :=
  { s with boot := { s.boot with holds := s.boot.holds.filter (· != holdTopology) } }

end Sys2Proof.Machine
end

