-- ==== Sys2Proof/Machine/Talon.lean ====
section
/-!
DEFINITION. The Talon (R108 to R116): allocation, header check, retention, holders, frees, and the buffer
header's bytes (R109).
-/

namespace Sys2Proof.Machine

open Sys2Proof

/-- Size class of a descriptor index: classes in order, COUNT buffers each (R108); with the index inside
the class. -/
def State.descClassFrom (s : State) : Nat → Nat → Nat → Option (Nat × Nat)
  | 0, _, _ => none
  | n + 1, c, d =>
    let k := s.get (.CMP_TLN_COUNT_COUNT c)
    if d < k then some (c, d) else s.descClassFrom n (c + 1) (d - k)

/-- Size class and index inside it of a descriptor. -/
def State.descClass (s : State) (d : Nat) : Option (Nat × Nat) := s.descClassFrom 8 0 d

/-- First descriptor index of a class. -/
def State.classStart (s : State) (c : Nat) : Nat :=
  ((List.range c).map fun k => s.get (.CMP_TLN_COUNT_COUNT k)).sum

/-- DRAM address of a buffer. -/
def State.bufAddr (s : State) (d : Nat) : Nat :=
  match s.descClass d with
  | some (c, i) => (s.get (.CMP_TLN_BASE_BASE c) + i * s.get (.CMP_TLN_SIZE_SIZE c)) * 4096
  | none => 0

/-- The descriptor whose buffer holds a DRAM address, if any. -/
def State.bufAt (s : State) (a : Nat) : Option Nat :=
  (List.range 8).findSome? fun c =>
    let base := s.get (.CMP_TLN_BASE_BASE c) * 4096
    let size := s.get (.CMP_TLN_SIZE_SIZE c) * 4096
    if base ≤ a ∧ size ≠ 0 ∧ (a - base) / size < s.get (.CMP_TLN_COUNT_COUNT c) then
      some (s.classStart c + (a - base) / size) else none

/-- Descriptors of a class in state FREE (CMP_TLN_COUNT.FREE). -/
def State.freeCount (s : State) (c : Nat) : Nat :=
  ((List.range (s.get (.CMP_TLN_COUNT_COUNT c))).filter fun i =>
    decide ((s.desc (s.classStart c + i)).state = .free)).length

/-- R108: the lowest FREE descriptor of a class whose SIZE is not 0. -/
def State.lowestFree (s : State) (c : Nat) : Option Nat :=
  if s.get (.CMP_TLN_SIZE_SIZE c) = 0 then none
  else firstBelow (fun i => decide ((s.desc (s.classStart c + i)).state = .free))
    (s.get (.CMP_TLN_COUNT_COUNT c)) |>.map (s.classStart c + ·)

/-- The producer bit and the Deck reference bit of the holder mask (R111). -/
def holdProducer : Nat := 27
def holdDeck : Nat := 26
/-- Holder bit of encode core k and of fabric port p (R111). -/
def holdEnc (k : Nat) : Nat := 16 + k
def holdPort (p : Nat) : Nat := 18 + p

/-- R108, R111: FREE to FILLING for a producer of `src`. -/
def State.fillBuf (s : State) (d : Nat) (src : BitVec 16) : State :=
  s.updDesc d fun _ => { Desc.init with state := .filling, src := src, holders := 1#28 <<< holdProducer }

/-- R111: back to FREE, with its sideband cleared. -/
def State.freeBuf (s : State) (d : Nat) : State := s.updDesc d fun _ => .init

/-- R111: RETIRED or PENDING_FREE with an empty holder mask goes on to FREE. -/
def State.settleBuf (s : State) (d : Nat) : State :=
  let x := s.desc d
  if x.holders = 0 ∧ (x.state = .retired ∨ x.state = .pendingFree) then s.freeBuf d else s

/-- Set a holder bit (R114). -/
def State.hold (s : State) (d bit : Nat) : State :=
  s.updDesc d fun x => { x with
    holders := x.holders ||| (1#28 <<< bit),
    since := if bit < 16 ∧ x.holders.getLsbD bit = false then Tab.insert x.since bit s.tick else x.since }

/-- Clear a holder bit (R114), and free the buffer if that was the last (R111). -/
def State.unhold (s : State) (d bit : Nat) : State :=
  (s.updDesc d fun x => { x with
    holders := x.holders &&& ~~~(1#28 <<< bit), since := Tab.erase x.since bit }).settleBuf d

/-- ELIGIBLE to RETIRED (R111, R112). -/
def State.retireBuf (s : State) (d : Nat) : State :=
  (s.updDesc d fun x => if x.state = .eligible then { x with state := .retired } else x).settleBuf d

/-- The retention depth of a source (R112). -/
def State.depthOf (s : State) (src : BitVec 16) : Nat :=
  match (s.srcDesc src).depth with
  | some n => n
  | none =>
    if s.image.layouts.any fun y => y.sh.any fun (a, w) =>
        (List.range 512).any fun l => a == Reg.CMP_VL_SRC l && w.toNat % 65536 == src.toNat && !w.getLsbD 31 &&
          (y.sh.any fun (b, v) => b == Reg.CMP_VL_CTRL l && (Fld.CMP_VL_CTRL_SYNC_GROUP l).of v != 0)
    then 4 else 2

/-- Descriptors of a source that are ELIGIBLE and may be shown. -/
def State.eligibleOf (s : State) (src : BitVec 16) : List (Nat × Desc) :=
  s.descs.filter fun (_, x) => decide (x.state = .eligible ∧ x.src = src) && !x.hdr.noShow

/-- The oldest of some buffers by SEQ. -/
def oldestBuf : List (Nat × Desc) → Option Nat
  | [] => none
  | (d, x) :: rest => some (rest.foldl (fun (b : Nat × Desc) e =>
      if seqNewer b.2.hdr.seq e.2.hdr.seq then e else b) (d, x)).1

/-- R112: retire the oldest ELIGIBLE buffer of the source when their number exceeds the depth. -/
def State.retain (s : State) (src : BitVec 16) : State :=
  let bufs := s.eligibleOf src
  if s.depthOf src < bufs.length then
    match oldestBuf bufs with
    | some d => s.retireBuf d
    | none => s
  else s

/-- The 60 header bytes that HDR_CHK covers (R109). -/
def BufHdr.body (h : BufHdr) : List Byte :=
  leBytes 2 h.srcId.toNat
  ++ leBytes 2 (b2n h.capExt + 2 * b2n h.noShow + 4 * (h.map % 4) + 16 * (h.conceal % 1024))
  ++ leBytes 4 h.seq.toNat ++ leBytes 8 h.capTime.toNat
  ++ (List.range 16).flatMap (fun r => leBytes 2 (h.frz.getD r 0).toNat)
  ++ leBytes 4 h.tell.toNat ++ leBytes 2 h.width ++ leBytes 2 h.height
  ++ [BitVec.ofNat 8 h.format, BitVec.ofNat 8 (h.cls % 16), BitVec.ofNat 8 h.idx, 0#8]

/-- The 64 header bytes with HDR_CHK (R109). -/
def BufHdr.bytes (h : BufHdr) : List Byte := h.body ++ leBytes 4 (crc32c h.body).toNat

/-- Does the stored check word match the stored header? -/
def hdrChkOk (bs : List Byte) : Bool :=
  leNat (bs.drop 60) == (crc32c (bs.take 60)).toNat

/-- R261, R275: the whole blocks of buffer `d` are written anew; memory then is `m`. -/
def State.storeBuf (s : State) (d : Nat) (m : Tab Byte) : State :=
  let size := match s.descClass d with
    | some (c, _) => s.get (.CMP_TLN_SIZE_SIZE c) * 4096
    | none => 0
  let a := s.bufAddr d
  let s := s.keepFailed a size m
  { s with mem := { s.mem with chk := cleanBlocks s.mem.chk a size } }

/-- R266: the memory port of the engine that produced a buffer, by engine class and index. -/
def BufHdr.port (h : BufHdr) : Nat :=
  match h.cls with
  | 0 => h.idx % 16
  | 1 => 16 + h.idx % 8
  | 2 => 26 + h.idx % 16
  | _ => 42 + h.idx % 8

/-- R109, R261: the producer writes the header block, bytes 0x40 to 0xFF as 0, as the last act of its trick; a disturbed write
(`bad`) leaves a header whose check word does not match. -/
def State.writeHdr (s : State) (d : Nat) (h : BufHdr) (bad : Bool) : State :=
  let bs := h.body ++ leBytes 4 ((crc32c h.body).toNat ^^^ b2n bad)
  (s.chargeBlocks h.port 1).storeBytes (s.bufAddr d) (bs ++ List.replicate 192 0)

/-- Dimensions in the source descriptor (R110): a local DP input's stand in CAP_DIM. -/
def State.srcDim (s : State) (src : BitVec 16) : Nat × Nat :=
  if s.isLocal src ∧ srcLocal src < 16 then
    (s.get (.CAP_DIM_H (srcLocal src)), s.get (.CAP_DIM_V (srcLocal src)))
  else ((s.srcDesc src).width, (s.srcDesc src).height)

/-- R110, R272, R275: does the header the producer wrote pass? One that the Talon manager cannot read does not. -/
def State.hdrAccepted (s : State) (d : Nat) (h : BufHdr) : Bool :=
  (s.badBlocks (s.bufAddr d) 64).isEmpty
  && hdrChkOk (readBytes Config.dramFill s.dram (s.bufAddr d) 64)
  && decide (1 ≤ h.format ∧ h.format ≤ 6)
  && decide ((h.width, h.height) = s.srcDim (s.desc d).src)

/-- R110 to R112, R271: the Talon manager reads and checks the header of a completed trick. Accepted, the buffer becomes
ELIGIBLE (NO_SHOW: at once RETIRED) under retention; refused or not readable, it is marked BAD, freed and reported. -/
def State.headerCheck (s : State) (d : Nat) (h : BufHdr) : State :=
  let ok := s.hdrAccepted d h
  let s := (s.chargeBlocks 50 1).persistAll 50 (s.badBlocks (s.bufAddr d) 64)
  if ok then
    let s := s.updDesc d fun x => { x with
      state := .eligible, hdr := h, eligTime := s.time.now, eligTick := s.tick,
      holders := x.holders &&& ~~~(1#28 <<< holdProducer) }
    if h.noShow then s.retireBuf d else s.retain (s.desc d).src
  else
    (((s.updDesc d fun _ => { Desc.init with bad := true }).setB .CMP_INT_STATUS_BUF_BAD true).log 0x0406 (by2 d ++ [1, 0]))

/-- Candidates of a source: ELIGIBLE descriptors as buffer records (R112). -/
def Desc.toRec (d : Nat) (x : Desc) : BufRec :=
  { desc := some d, hdr := x.hdr, eligTime := x.eligTime, eligTick := x.eligTick, bad := x.bad }

/-- R113: a free request for a descriptor. -/
def State.freeRequest (s : State) (d : Nat) : State :=
  let x := s.desc d
  match x.state with
  | .eligible | .retired =>
    if x.holders = 0 then s.freeBuf d
    else (((s.updDesc d fun x => { x with state := .pendingFree }).count .CMP_TLN_EVT_EARLY_FREE).setB
      .CMP_INT_STATUS_EARLY_FREE true).log 0x0406 (by2 d ++ [2, 0])
  | _ => s.count .CMP_TLN_EVT_FREE_ERR

end Sys2Proof.Machine
end

