-- ==== Sys2Proof/Machine/Liveness.lean ====
section
/-!
DEFINITION. The liveness guarantee (R40 to R87): contracts, candidates and selection, sync groups, age,
freeze state, fold reasons, tile states and hysteresis, the Scorer's verdicts and the state shown. The composer
and the Scorer run the same procedure (R79), each on its own history and its own contract copy.
-/

namespace Sys2Proof.Machine

open Sys2Proof

/-- The two judges of a tile. -/
inductive Judge where
  | composer | scorer
  deriving DecidableEq, Repr

/-- The fields of a contract (R40). -/
structure Terms where
  ageBound : Nat
  cls : Nat
  freezeF : Nat
  unfoldN : Nat
  concealMax : Nat
  concealTicks : Nat
  strict : Bool
  visible : Bool
  corner : Nat
  firstN : Nat
  window : Nat
  deriving DecidableEq, Repr

/-- The fields of a contract's words, as the registers of R86 lay them out. -/
def conTerms (c : Contract) : Terms :=
  { ageBound := (Fld.CMP_LV_CON0_AGE_BOUND 0).of c.con0
    cls := (Fld.CMP_LV_CON0_FREEZE_CLASS 0).of c.con0
    freezeF := (Fld.CMP_LV_CON0_FREEZE_F 0).of c.con0
    unfoldN := (Fld.CMP_LV_CON0_UNFOLD_N 0).of c.con0
    concealMax := (Fld.CMP_LV_CON1_CONCEAL_MAX 0).of c.con1
    concealTicks := (Fld.CMP_LV_CON1_CONCEAL_TICKS 0).of c.con1
    strict := (Fld.CMP_LV_CON1_STRICT 0).of c.con1 != 0
    visible := (Fld.CMP_LV_CON1_TELL_MODE 0).of c.con1 != 0
    corner := (Fld.CMP_LV_CON1_TELL_CORNER 0).of c.con1
    firstN := (Fld.CMP_LV_CON1_FIRST_N 0).of c.con1
    window := (Fld.CMP_LV_CON2_TELL_WINDOW 0).of c.con2 }

/-- The contract registers of a layer. -/
def State.conRegs (s : State) (l : Nat) : Contract :=
  ⟨s.word (Reg.CMP_LV_CON0 l), s.word (Reg.CMP_LV_CON1 l), s.word (Reg.CMP_LV_CON2 l)⟩

/-- The contract a judge applies: the composer its registers, the Scorer its own copy (R42, R79). -/
def State.termsOf (s : State) (j : Judge) (l : Nat) : Terms :=
  match j with
  | .composer => (conTerms (s.conRegs l))
  | .scorer => (conTerms (s.tile l).scoCon)

/-- A judge's history of a tile. -/
def State.hist (s : State) (j : Judge) (l : Nat) : TileHist :=
  match j with
  | .composer => (s.tile l).cmp
  | .scorer => (s.tile l).sco

/-- Write a judge's history of a tile. -/
def State.setHist (s : State) (j : Judge) (l : Nat) (h : TileHist) : State :=
  s.updTile l fun t => match j with
    | .composer => { t with cmp := h }
    | .scorer => { t with sco := h }

/-- Is the layer a direct one (R90)? -/
def State.isDirect (s : State) (l : Nat) : Bool := s.on (.CMP_VL_CTRL_DIRECT l)

/-! ### Capture times -/

/-- The difference of two capture times by the arithmetic of R54: 64-bit when both are extended, else the
signed 32-bit difference of the low words. -/
def capDiff (a : Time64) (aExt : Bool) (b : Time64) (bExt : Bool) : Int :=
  if aExt && bExt then (a - b).toInt else wordDiff (a.setWidth 32) (b.setWidth 32)

/-- The same between two headers. -/
def hdrCapDiff (a b : BufHdr) : Int := capDiff a.capTime a.capExt b.capTime b.capExt

/-! ### Selection (R51, R52, R107) -/

/-- R51: is a buffer eligible for the tick latched now? -/
def State.eligibleNow (s : State) (b : BufRec) : Bool :=
  !b.bad && !b.hdr.noShow && decide (0 < wordDiff s.tickTime b.eligTime)

/-- The ELIGIBLE buffers of a source that are eligible for the tick. -/
def State.candidates (s : State) (src : BitVec 16) : List BufRec :=
  (s.descs.filter fun (_, x) => decide (x.state = .eligible ∧ x.src = src)).map
    (fun (d, x) => x.toRec d) |>.filter s.eligibleNow

/-- R52: a header anomaly, newer by SEQ and not later by capture time. -/
def anomaly (shown : Option BufRec) (b : BufRec) : Bool :=
  match shown with
  | none => false
  | some w => seqNewer b.hdr.seq w.hdr.seq && decide (hdrCapDiff b.hdr w.hdr ≤ 0)

/-- The newest of some buffers by SEQ, modulo 2^32 within 2^31. -/
def newestBuf : List BufRec → Option BufRec
  | [] => none
  | b :: rest => some (rest.foldl (fun n e => if seqNewer e.hdr.seq n.hdr.seq then e else n) b)

/-- Newer by SEQ than what is shown; anything is newer than nothing. -/
def newerThan (shown : Option BufRec) (b : BufRec) : Bool :=
  match shown with
  | none => true
  | some w => seqNewer b.hdr.seq w.hdr.seq

/-- R53: the direct records of a source: the newest whose start of active video precedes the boundary, and
the newest with complete signatures. A remote source's records come with its flow. -/
def State.directRecs (s : State) (src : BitVec 16) : Option BufRec × Option BufRec :=
  if s.isLocal src then
    if srcLocal src < 16 then ((s.cap (srcLocal src)).recStart, (s.cap (srcLocal src)).recDone) else (none, none)
  else match Tab.find s.fab.directRecs src.toNat with
    | some r => (some r.1, r.2)
    | none => (none, none)

/-- What a tile may take before the filter of R52: its source's eligible buffers, or for a direct tile the newest record
(R53). -/
def State.offered (s : State) (l : Nat) : List BufRec :=
  if s.isDirect l then (s.directRecs (s.layerSrc l)).1.toList else s.candidates (s.layerSrc l)

/-- R52: the candidates after the anomaly filter. -/
def State.cands (s : State) (j : Judge) (l : Nat) : List BufRec :=
  (s.offered l).filter fun b => !anomaly (s.hist j l).shown b

/-- How many header anomalies the filter of R52 drops. -/
def State.anomalyCount (s : State) (j : Judge) (l : Nat) : Nat :=
  ((s.offered l).filter (anomaly (s.hist j l).shown)).length

/-- R52, R53: the selection of a tile outside a sync group: the buffer, and whether it is new. -/
def State.selectOne (s : State) (j : Judge) (l : Nat) : Option BufRec × Bool :=
  let shown := (s.hist j l).shown
  match newestBuf (s.cands j l) with
  | some b => if newerThan shown b then (some b, true) else (shown, false)
  | none => (shown, false)

/-- R106: the members of a sync group: stored tiles with a source that name it. -/
def State.groupMembers (s : State) (g : Nat) : List Nat :=
  s.layersOn.filter fun l => s.get (.CMP_VL_CTRL_SYNC_GROUP l) == g && !s.isDirect l

/-- The earliest capture time among some buffers. -/
def earliestCap : List BufRec → Option BufRec
  | [] => none
  | b :: rest => some (rest.foldl (fun n e => if hdrCapDiff e.hdr n.hdr < 0 then e else n) b)

/-- R107: the joint selection of a group, none when it holds. -/
def State.groupSelect (s : State) (j : Judge) (g : Nat) : Option (List (Nat × BufRec)) :=
  let members := s.groupMembers g
  let news := members.map fun l =>
    (newestBuf (s.cands j l)).bind fun b => if newerThan (s.hist j l).shown b then some b else none
  if news.any (· == none) then none
  else match earliestCap (news.filterMap id) with
    | none => none
    | some m =>
      let skew : Int := s.get (.CMP_SG_CFG_SKEW g) * 1000
      let picks := members.map fun l =>
        (newestBuf ((s.candidates (s.layerSrc l)).filter fun b => hdrCapDiff b.hdr m.hdr ≤ skew)).bind fun b =>
          if newerThan (s.hist j l).shown b then some (l, b) else none
      if picks.any (· == none) then none else some (picks.filterMap id)

/-- R52 with the sync-group rule applied. -/
def State.selectAny (s : State) (j : Judge) (l : Nat) : Option BufRec × Bool :=
  let g := s.get (.CMP_VL_CTRL_SYNC_GROUP l)
  if g = 0 ∨ s.isDirect l = true then s.selectOne j l
  else match s.groupSelect j g with
    | some picks => match picks.find? (·.1 == l) with
      | some (_, b) => (some b, true)
      | none => ((s.hist j l).shown, false)
    | none => ((s.hist j l).shown, false)

/-- Does a layer have a band to fetch in the frame (R105, R114)? -/
def State.hasBand (s : State) (o l : Nat) : Bool :=
  let y0 := s.get (.CMP_VL_DST_POS_Y l)
  let h := s.get (.CMP_VL_DST_SIZE_Y l)
  ((List.range (ceilDiv (y0 + h) 16)).filter fun b => decide (y0 / 16 ≤ b)).any fun b =>
    !(s.outp o).skip.contains (l, b)

/-- R115: would composer `o` be granted a lease of a buffer: it holds one, or the buffer is ELIGIBLE? -/
def State.grants (s : State) (o d : Nat) : Bool :=
  (s.desc d).holders.getLsbD o || decide ((s.desc d).state = .eligible)

/-- R115: the composer's selection: where the lease of the buffer selected is refused, the tile keeps the buffer it shows, and
takes nothing new. -/
def State.select (s : State) (j : Judge) (l : Nat) : Option BufRec × Bool :=
  let o := s.get (.CMP_VL_CTRL_OUTPUT l)
  let (b, new) := s.selectAny j l
  match b.bind (·.desc) with
  | some d => if j = .composer ∧ s.hasBand o l = true ∧ s.grants o d = false then ((s.hist j l).shown, false) else (b, new)
  | none => (b, new)

/-! ### Age (R41, R54, R55) -/

/-- R54: the age of a buffer at the tick latched now; none when exceeded. -/
def State.ageOf (s : State) (b : BufRec) : Option Nat :=
  if s.k1 < (s.tick - b.eligTick).toNat then none
  else
    let a : Int :=
      if s.dealer.epochOk && b.hdr.capExt then ((s.dealer.epochTick ++ s.tickTime : Time64) - b.hdr.capTime).toInt
      else wordDiff s.tickTime (b.hdr.capTime.setWidth 32)
    if a < 0 then none else some a.toNat

/-- R41: the bound of a tile in ns; 0 selects floor(P_src + 2 × P_tick), at most 1 s. -/
def State.boundNs (s : State) (t : Terms) (src : BitVec 16) : Nat :=
  if t.ageBound = 0 then min ((s.srcDesc src).period + 2 * s.pTick).floor.toNat 1000000000
  else t.ageBound * 1000

/-- R55: does a buffer's age pass a bound? -/
def agePasses (age : Option Nat) (bound : Nat) : Bool :=
  match age with
  | none => false
  | some a => decide (a ≤ bound)

/-! ### Freeze (R58, R60, R65) -/

/-- Edges of grid column or row `k` of 4 in a picture of `n` samples (R58). -/
def gridLo (n k : Nat) : Nat := k * (n / 4)
def gridHi (n k : Nat) : Nat := if k = 3 then n else (k + 1) * (n / 4)

/-- R58: the regions a tile's source rectangle overlaps, in raster order. -/
def State.tileRegions (s : State) (l : Nat) (h : BufHdr) : List Nat :=
  let x := s.get (.CMP_VL_CROP_POS_X l)
  let y := s.get (.CMP_VL_CROP_POS_Y l)
  let w := s.get (.CMP_VL_CROP_SIZE_X l)
  let v := s.get (.CMP_VL_CROP_SIZE_Y l)
  (List.range 16).filter fun r =>
    decide (x < gridHi h.width (r % 4) ∧ gridLo h.width (r % 4) < x + w ∧
            y < gridHi h.height (r / 4) ∧ gridLo h.height (r / 4) < y + v)

/-- The freeze signature of a tile for a buffer (R58). -/
def State.tileSig (s : State) (l : Nat) (h : BufHdr) : List (BitVec 16) :=
  (s.tileRegions l h).map fun r => h.frz.getD r 0

/-- R60: the freeze update of a tile with a new buffer. -/
def State.freezeUpdate (s : State) (t : Terms) (l : Nat) (h : TileHist) (b : BufHdr) : TileHist :=
  match t.cls with
  | 0 =>
    let sig := s.tileSig l b
    let run := if h.prevSig = some sig then min (h.sameRun + 1) 15 else 1
    { h with sameRun := run, prevSig := some sig, frozen := decide (t.freezeF ≤ run) }
  | 1 =>
    let h' := if h.prevTell = some b.tell then
        { h with frozen := decide ((t.window * 1000000 : Int) <
            capDiff b.capTime b.capExt h.tellChange h.tellChangeExt) }
      else { h with tellChange := b.capTime, tellChangeExt := b.capExt, tellSeen := true, frozen := false }
    { h' with prevTell := some b.tell }
  | _ => { h with frozen := false }

/-- R65: is the new buffer a good frame for the tile's class? -/
def goodFrame (t : Terms) (h : TileHist) : Bool :=
  match t.cls with
  | 0 => h.sameRun == 1
  | 1 => h.tellSeen
  | _ => true

/-! ### Fold reasons (R62) -/

/-- Flows of the image that carry a source to this node, in the class the tile's path uses (FAB_FLOW_CFG.CLASS:
DIRECT for a direct tile, FRAME for a stored one). -/
def State.flowsFor (s : State) (src : BitVec 16) (direct : Bool) : List Nat :=
  s.image.flows.filterMap fun f =>
    if f.src = src ∧ f.dest = s.nodeId ∧ f.direct = direct then some f.id else none

/-- The state of a stream context (R185). -/
def State.ctxState (s : State) (c : Nat) : Nat := s.get (.DEC_CX_STATE_STATE c)

/-- R62, R163, R186, R247: the producer reports the source absent. -/
def State.srcAbsent (s : State) (src : BitVec 16) (direct : Bool) : Bool :=
  if s.isLocal src then
    let i := srcLocal src
    if i < 16 then !s.on (.CAP_STATUS_PRESENT i)
    else if i < 0x210 then
      let st := s.ctxState (i - 16)
      !(st == 3 || st == 2)
    else if i < 0x220 then !(s.outp (i - 0x210)).running
    else true
  else !((s.flowsFor src direct).any fun f => s.on (.FAB_FLOW_STATE_ESTABLISHED f))

/-- R62: the source context is in WAIT_KEY. -/
def State.srcWaitKey (s : State) (src : BitVec 16) : Bool :=
  let i := srcLocal src
  s.isLocal src && decide (16 ≤ i ∧ i < 0x210) && s.ctxState (i - 16) == 2

/-- R62: a flow of the source is not reserved after re-budgeting, or its route is broken. -/
def State.srcLinkLost (s : State) (src : BitVec 16) (direct : Bool) : Bool :=
  !s.isLocal src && (s.flowsFor src direct).any fun f =>
    s.on (.FAB_FLOW_STATE_CUT f) || s.fab.broken.contains f

/-- R62, OVERRUN: among the boundaries n − 7 to n at least two abandoned a trick that feeds the tile. -/
def State.overrunHolds (s : State) (l : Nat) : Bool :=
  decide (2 ≤ ((s.tile l).overruns.filter fun n => decide ((s.tick - n).toNat ≤ 7)).length)

/-- R81: SCORER holds for a tile in the composer's evaluation. -/
def State.scorerHolds (s : State) (l : Nat) : Bool :=
  let t := s.tile l
  (match t.verdict with
    | some v => decide (v.state = .folded ∧ (v.cmp = .live ∨ v.cmp = .degraded))
    | none => false)
  || decide (2 ≤ s.get .CMP_LV_STATUS_SCORER_MISS) || t.conMismatch || s.sco.haltReq

/-- Bit of a reason code in the mask of R9. -/
def reasonBit (code : Nat) : Nat := 2 ^ (code - 1)

/-- The reason codes in order of precedence, highest first (R8). -/
def reasonOrder : List Nat := [9, 6, 5, 8, 3, 4, 7, 2, 1]

/-- R9: the reason shown for a mask, 0 for none. -/
def topReason (mask : Nat) : Nat := (reasonOrder.find? fun c => bitOf mask (c - 1)).getD 0

/-- R62, R63: the reason mask of a tile whose freeze state is already updated. -/
def State.reasons (s : State) (j : Judge) (t : Terms) (l : Nat) (h : TileHist) : Nat :=
  let src := s.layerSrc l
  let direct := s.isDirect l
  let bound := s.boundNs t src
  let conceal := match h.shown with | some b => b.hdr.conceal | none => 0
  let ageOk := match h.shown with | some b => agePasses (s.ageOf b) bound | none => false
  let misrouted := match h.shown with | some b => decide (b.hdr.srcId ≠ src) | none => false
  let bad := match h.shown with | some b => b.bad | none => false
  let everOk := (s.tile l).everEligible
  let hold (b : Bool) (code : Nat) : Nat := if b then reasonBit code else 0
  hold (!ageOk) 1
  + hold h.frozen 2
  + hold (s.srcAbsent src direct || !everOk) 3
  + hold (decide (t.concealMax < conceal) || (decide (0 < conceal) && t.strict)
      || decide (t.concealTicks < h.concealRun) || s.srcWaitKey src) 4
  + hold (misrouted || (direct && (s.tile l).misrouteLast)) 5
  + hold (decide (4 < (s.tile l).maskedLast) || bad) 6
  + hold (s.overrunHolds l) 7
  + hold (s.srcLinkLost src direct) 8
  + hold (decide (j = .composer) && s.scorerHolds l) 9

/-! ### States (R60 to R66) -/

/-- The evaluation of one tile at a tick, after selection (R52 to R66). R65 does not say which of R53's records is the new buffer
that GOOD_RUN of a direct tile counts: the one whose signatures are new, which FRZ and tell state also take (log 85). -/
def State.evalTile (s : State) (j : Judge) (l : Nat) (b : Option BufRec) (isNew : Bool) : TileHist :=
  let t := s.termsOf j l
  let h0 := s.hist j l
  let drawn : Bool := decide (h0.state = .live ∨ h0.state = .degraded)
  let fallback := if isNew then (if drawn then h0.shown else none) else h0.fallback
  let h1 := { h0 with shown := b, isNew := isNew, fallback := fallback }
  /- the record whose signatures are new at this tick: a direct tile's comes at end of active video (R53) -/
  let sigRec : Option BufHdr :=
    if s.isDirect l then
      (s.directRecs (s.layerSrc l)).2.bind fun r =>
        if h0.frzSeq = some r.hdr.seq then none else some r.hdr
    else if isNew then b.map (·.hdr) else none
  let h2 := match sigRec with
    | some r => { s.freezeUpdate t l h1 r with frzSeq := some r.seq }
    | none => h1
  let mask := s.reasons j t l h2
  let conceal : Nat := match b with | some r => r.hdr.conceal | none => 0
  let run := if 0 < conceal ∧ mask = 0 then min (h2.concealRun + 1) 255
    else if b.isSome ∧ conceal = 0 then 0 else h2.concealRun
  let age := b.bind s.ageOf
  let h3 := { h2 with concealRun := run, age := age, holds := mask }
  if mask ≠ 0 then
    let h4 := if h3.state = .live ∨ h3.state = .degraded then
        { h3 with target := t.unfoldN, tellSeen := false } else h3
    { h4 with state := .folded, goodRun := 0, reason := topReason mask, mask := mask }
  else
    let up : TileState := if 0 < conceal then .degraded else .live
    if h3.state = .folded then
      let good := if sigRec.isSome && goodFrame t h3 then min (h3.goodRun + 1) 15 else h3.goodRun
      if good < h3.target then { h3 with goodRun := good }
      else { h3 with goodRun := good, state := up, reason := 0, mask := 0 }
    else { h3 with state := up, reason := 0, mask := 0 }

/-- R64, second row: a new assignment clears the history and folds the tile with NO_SIGNAL. -/
def TileHist.assigned (firstN : Nat) : TileHist :=
  { TileHist.init with state := .folded, reason := 3, mask := reasonBit 3, holds := reasonBit 3, target := firstN }

/-- R64: a tile newly assigned, for both judges. R64 names the history that is cleared; what the model keeps of the old picture's
fetch and of lines of the old source is forgotten too (log 57). -/
def State.assignTile (s : State) (l : Nat) : State :=
  let fc := (conTerms (s.conRegs l)).firstN
  s.updTile l fun t => { t with
    cmp := TileHist.assigned fc, sco := TileHist.assigned (conTerms t.scoCon).firstN,
    output := s.get (.CMP_VL_CTRL_OUTPUT l), everEligible := false, disRun := 0,
    masked := 0, misroute := false, misrouteLast := false, fellBack := false, blackFrom := none }

/-- R64, first row: a tile that leaves the layout is EMPTY and keeps its counters (R87); no lines of it are masked or come from a
fallback buffer any more (R129). -/
def State.emptyTile (s : State) (l : Nat) : State :=
  ((s.set (.CMP_VL_STAT_MASKED l) 0).setB (.CMP_VL_STAT_FALLBACK l) false).updTile l fun t => { t with
    cmp := { t.cmp with state := .empty, reason := 0, mask := 0 },
    sco := { t.sco with state := .empty, reason := 0, mask := 0 }, disRun := 0,
    verdict := none, inbox := none, implied := .live }

/-- Apply one judge to every tile: all selections come from the state before any is taken (R107). -/
def State.judgeAll (s : State) (j : Judge) : State :=
  let layers := s.layersOn
  let results := layers.map fun l =>
    let (b, n) := s.select j l
    (l, s.evalTile j l b n)
  s.each results fun s (l, h) => s.setHist j l h

/-- A buffer of the tile's source has been eligible since the assignment (R62). -/
def State.noteEligible (s : State) (l : Nat) : State :=
  let has := !(s.offered l).isEmpty
  s.updTile l fun t => { t with everEligible := t.everEligible || has }

/-- R107: count holds of the sync groups in use. -/
def State.countHolds (s : State) : State :=
  s.each (List.range 31) fun s k =>
    let g := k + 1
    if (s.groupMembers g).isEmpty then s.setB (.CMP_SG_STAT_HELD_LAST g) false
    else if (s.groupSelect .composer g).isNone then
      (s.count (.CMP_SG_STAT_HOLDS g)).setB (.CMP_SG_STAT_HELD_LAST g) true
    else s.setB (.CMP_SG_STAT_HELD_LAST g) false

/-! ### Leases (R63, R114) -/

/-- The buffers composer `o` needs in this tick's frame: those shown by its LIVE or DEGRADED tiles with a band
to fetch, and their fallbacks (R114). -/
def State.needed (s : State) (o : Nat) : List Nat :=
  (s.layersOf o).flatMap fun l =>
    let h := (s.tile l).cmp
    if (h.state = .live ∨ h.state = .degraded) ∧ s.isDirect l = false ∧ s.hasBand o l = true then
      (h.shown.bind (·.desc)).toList ++ (h.fallback.bind (·.desc)).toList
    else []

/-- R114, R115: composer `o` sets and clears its holder bits. -/
def State.leases (s : State) (o : Nat) : State :=
  let need := (s.needed o).filter (s.grants o)
  let s := s.each need fun s d => s.hold d o
  let stale := s.descs.filter fun (d, x) => x.holders.getLsbD o && !need.contains d
  s.each stale fun s (d, _) => s.unhold d o

/-- R82, R84: the state the Scorer's verdict of the previous tick implies; a single missing verdict leaves it as it was. -/
def State.impliedBy (s : State) (l : Nat) : TileState :=
  if s.scorerHolds l then .folded
  else if s.on .CMP_LV_STATUS_SCORER_OK = false then (s.tile l).implied
  else match (s.tile l).verdict with
    | some v => if v.state = .folded ∧ v.ripe = false then .folded
      else if v.state = .degraded then .degraded else .live
    | none => .live

/-! ### A tick for all tiles -/

/-- R67: at the first tick of DEALING no tile is judged: each stays FOLDED with NO_SIGNAL and has no age. -/
def State.firstTiles (s : State) : State :=
  let s := s.each s.layersOn State.noteEligible
  s.each s.layersOn fun s l => s.set (.CMP_LV_AGE_AGE l) 0xFFFFFFFF

/-- R52 to R66 at a boundary: both judges evaluate every tile; composer verdicts go to the registers. The spec does not say what
CMP_LV_SEQ_L reads while no buffer is selected: it keeps its value (log 59). -/
def State.evalTiles (s : State) (faults : List (Nat × Nat)) : State :=
  let s := s.each s.layersOn State.noteEligible
  let s := { s with anomalies := s.anomalies + (s.layersOn.map (s.anomalyCount .composer)).sum }
  let s := s.countHolds
  let layers := s.layersOn
  let s := s.each layers fun s l =>
    let im := s.impliedBy l
    s.updTile l fun t => { t with implied := im }
  let cmp := s.judgeAll .composer
  let both := cmp.judgeAll .scorer
  let s := both.each faults fun s (l, code) =>
    s.updTile l fun t => { t with cmp := { t.cmp with state := TileState.ofCode code } }
  let s := s.each layers fun s l =>
    let h := (s.tile l).cmp
    let s := s.set (.CMP_LV_AGE_AGE l) (match h.age with | some a => min a 0xFFFFFFFF | none => 0xFFFFFFFF)
    match h.shown with
    | some b => s.setW (.CMP_LV_SEQ_SEQ l) b.hdr.seq
    | none => s
  s.each outputs State.leases

/-! ### The state shown (R82) and the per-frame registers (R87) -/

/-- The more restrictive of two states, in the order FOLDED, DEGRADED, LIVE (R82). -/
def moreRestrictive (a b : TileState) : TileState := if a.code < b.code then b else a

/-- R82: the state, reason, mask and SCORER_HOLD shown for a tile in an output frame. SCORER_HOLD is 1 when the
Scorer alone makes the tile FOLDED: by its verdict, or through SCORER as the composer's only reason. -/
def State.shownState (s : State) (l : Nat) : TileState × Nat × Nat × Bool :=
  let h := (s.tile l).cmp
  if h.state = .empty then (.empty, 0, 0, false)
  else if h.state = .folded then (.folded, h.reason, h.mask, h.mask == reasonBit 9)
  else match moreRestrictive h.state (s.tile l).implied with
    | .folded => (.folded, 9, reasonBit 9, true)
    | x => (x, 0, 0, false)

/-- R82: the reason mask of the FOLD event record: the Scorer's own when the Scorer alone folds the tile. -/
def State.foldEventMask (s : State) (l mask : Nat) (hold : Bool) : Nat :=
  match hold, (s.tile l).verdict with
  | true, some v => if v.state = .folded ∧ v.mask ≠ 0 then v.mask else mask
  | _, _ => mask

/-- R66, R87, R351: update a tile's registers at the start of active video, with the FOLD and UNFOLD events. -/
def State.showTile (s : State) (l : Nat) : State :=
  let (st, reason, mask, hold) := s.shownState l
  let old := TileState.ofCode (s.get (.CMP_LV_STATE_STATE l))
  let h := (s.tile l).cmp
  let s := (((((((s.set (.CMP_LV_STATE_STATE l) st.code).set (.CMP_LV_STATE_REASON l) reason).set
    (.CMP_LV_STATE_MASK l) mask).setB (.CMP_LV_STATE_SCORER_HOLD l) hold).set
    (.CMP_LV_STATE_GOOD_RUN l) h.goodRun).set (.CMP_LV_STATE_SAME_RUN l) h.sameRun).set
    (.CMP_LV_STATE_CONCEAL_RUN l) h.concealRun)
  let s := if decide (st = .folded) = decide (old = .folded) then s else s.hostVec 3
  if st = .folded ∧ old ≠ .folded then
    ((((s.count (.CMP_LV_FOLDS_COUNT l)).set (.CMP_LV_LASTFOLD_REASON l) reason).set
      (.CMP_LV_LASTFOLD_TICK l) s.tick.toNat).setB .CMP_LV_INT_STATUS_FOLD true).log 0x0201
      (by2 l ++ [reason] ++ by2 (s.foldEventMask l mask hold) ++ [b2n hold])
  else if old = .folded ∧ st ≠ .folded then
    let s := s.setB .CMP_LV_INT_STATUS_UNFOLD true
    if st = .empty then s else s.log 0x0202 (by2 l ++ [st.code])
  else s

/-- Tiles shown FOLDED now (CMP_LV_STATUS.FOLDED). -/
def State.foldedCount (s : State) : Nat :=
  (s.layersOn.filter fun l => s.get (.CMP_LV_STATE_STATE l) == 3).length

/-! ### Blanking by the Scorer (R75 to R78, R155) -/

/-- Blank cause codes of CMP_LV_OUTo.BLANK_CAUSE (R86). -/
def causeScanFrozen : Nat := 1
def causeScanMismatch : Nat := 2
def causeSinkStall : Nat := 3
def causeSinkUnsupported : Nat := 4
def causeVerdict : Nat := 5
def causeSafe : Nat := 6

/-- Transmitter states (R151, R159). -/
def txIdle : Nat := 0
def txWaitHpd : Nat := 1
def txTraining : Nat := 2
def txVideo : Nat := 3
def txBlank : Nat := 4
def txFailed : Nat := 5

/-- R155: set a blank source (bit 0 SCORER, 1 RESYNC, 2 RETIME); a transmitter in VIDEO goes to BLANK. -/
def State.setBlank (s : State) (o bit : Nat) : State :=
  let s := s.set (.OUT_STATUS_BLANK_SRC o) (setBitN (s.get (.OUT_STATUS_BLANK_SRC o)) bit)
  if s.get (.OUT_STATUS_STATE o) = txVideo then
    (s.set (.OUT_STATUS_STATE o) txBlank).updOut o fun x => { x with blankAt := some s.time.now }
  else s

/-- Clear a blank source; video resumes with the next output frame (R151). -/
def State.clearBlank (s : State) (o bit : Nat) : State :=
  s.set (.OUT_STATUS_BLANK_SRC o) (clrBitN (s.get (.OUT_STATUS_BLANK_SRC o)) bit)

/-- R75 to R77, R83, R422: the Scorer blanks an output; the first cause stays shown until SAFE shows its own. -/
def State.scorerBlank (s : State) (o cause : Nat) : State :=
  if s.on (.CMP_LV_OUT_BLANKED o) ∧ (cause ≠ causeSafe ∨ s.get (.CMP_LV_OUT_BLANK_CAUSE o) = causeSafe) then s
  else
    let s := (s.setB (.CMP_LV_OUT_BLANKED o) true).set (.CMP_LV_OUT_BLANK_CAUSE o) cause
    let s := s.setB .CMP_LV_INT_STATUS_BLANK true
    (s.setBlank o 0).log 0x0301 [o, cause]

/-! ### The Scorer's verdicts (R80 to R84) -/

/-- R82: RIPE of a tile in the Scorer's verdict. -/
def TileHist.isRipe (h : TileHist) : Bool :=
  decide (h.state = .folded) && decide (h.holds = 0) && decide (h.target ≤ h.goodRun + 1)

/-- R83: a disagreement of one tile, recorded and counted. -/
def State.disagree (s : State) (l : Nat) : State :=
  let t := s.tile l
  let fld : Fld := if t.cmp.state.code < t.sco.state.code then .CMP_LV_DISAGREE_SCORER_ONLY
    else .CMP_LV_DISAGREE_COMPOSER_ONLY
  let s := s.count fld
  let s := (((s.set .CMP_LV_DIS_LAST_TILE l).set .CMP_LV_DIS_LAST_CMP_STATE t.cmp.state.code).set
    .CMP_LV_DIS_LAST_SCO_STATE t.sco.state.code).set .CMP_LV_DIS_LAST_TICK s.tick16
  let s : State := { s with sco := { s.sco with disAt := some s.extNow } }
  (s.setB .CMP_LV_INT_STATUS_DISAGREE true).log 0x0203 (by2 l ++ [t.cmp.state.code, t.sco.state.code])

/-- R83: the Scorer folds and the composer does not. -/
def Tile.scorerOnlyFold (t : Tile) : Bool := decide (t.sco.state = .folded ∧ t.cmp.state ≠ .folded)

/-- R80 to R84: the Scorer completes its verdicts of the tick, compares and delivers them. -/
def State.scorerVerdict (s : State) : State :=
  let layers := s.layersOn
  let s := s.each layers fun s l =>
    let t := s.tile l
    let s := if t.cmp.state ≠ t.sco.state then s.disagree l else s
    s.updTile l fun t => { t with disRun := if t.scorerOnlyFold then min (t.disRun + 1) 60 else 0 }
  let s := s.each outputs fun s o =>
    let ls := s.layersOf o
    let n := (ls.filter fun l => (s.tile l).scorerOnlyFold).length
    let long := ls.any fun l => decide (60 ≤ (s.tile l).disRun)
    if 4 ≤ n ∨ long = true then s.scorerBlank o causeVerdict else s
  let s := s.each layers fun s l =>
    s.updTile l fun t => { t with
      inbox := some ⟨t.sco.state, t.sco.mask, t.sco.isRipe, t.cmp.state⟩ }
  { s with sco := { s.sco with delivered := true } }

/-- R84: at a boundary the verdicts delivered in the tick before come into use; a missing delivery is counted. The spec does not
say what a tick without one does to the comparison of R83: there is none, and the run of 60 ticks stands still (log 60). -/
def State.takeVerdicts (s : State) : State :=
  let got := s.sco.delivered
  let s := s.each s.layersOn fun s l =>
    s.updTile l fun t => { t with verdict := if got then t.inbox else none, inbox := none }
  let s := { s with sco := { s.sco with delivered := false } }
  if got then (s.setB .CMP_LV_STATUS_SCORER_OK true).set .CMP_LV_STATUS_SCORER_MISS 0
  else (s.setB .CMP_LV_STATUS_SCORER_OK false).count .CMP_LV_STATUS_SCORER_MISS

/-! ### Contracts (R42, R81) -/

/-- R42: the Dealer writes the contract registers of every tile from the layout's contract table. -/
def State.loadContracts (s : State) (y : LayoutDesc) : State :=
  s.each y.contracts fun s (l, c) =>
    ((s.setWord (Reg.CMP_LV_CON0 l) c.con0).setWord (Reg.CMP_LV_CON1 l) c.con1).setWord
      (Reg.CMP_LV_CON2 l) c.con2

/-- R42, R395: the Scorer's own contract copies of the layout. -/
def State.scorerContracts (s : State) (y : LayoutDesc) : State :=
  s.each y.contracts fun s (l, c) => s.updTile l fun t => { t with scoCon := c }

/-- Bytes of a contract, for its CRC (R81). -/
def conCrc (c : Contract) : BitVec 32 :=
  crc32c (leBytes 4 c.con0.toNat ++ leBytes 4 c.con1.toNat ++ leBytes 4 c.con2.toNat)

/-- R81: compare the CRC of every contract's registers with the Scorer's copy. -/
def State.compareContracts (s : State) : State :=
  s.each s.layersOn fun s l =>
    let differs := decide (conCrc (s.conRegs l) ≠ conCrc (s.tile l).scoCon)
    s.updTile l fun t => { t with conMismatch := differs }

end Sys2Proof.Machine
end

