-- ==== Sys2Proof/Machine/Composer.lean ====
section
/-!
DEFINITION. Composition (R88 to R105, R117, R118): fetch from the Talon planes, rotation and mirroring,
scalers, colour conversion, blending, graphic layers, the marker plane, scaler assignment and the skip map.
Every line is a function of the state, so lanes A and B agree unless a disturbance is given (R117).
-/

namespace Sys2Proof.Machine

open Sys2Proof

/-! ### Buffer planes (R92) -/

/-- Round up to a multiple of 16. -/
def pad16 (n : Nat) : Nat := ceilDiv n 16 * 16

/-- A plane of a buffer: first byte and width in bytes. -/
structure Plane where
  base : Nat
  wb : Nat
  deriving DecidableEq, Repr

/-- Bytes a plane of `wb` bytes by `h` lines occupies. -/
def planeSize (wb h : Nat) : Nat := pad16 wb * pad16 h

/-- Address of byte `x` of line `y` in a plane: blocks of 16 × 16 bytes in raster order. -/
def Plane.addr (p : Plane) (x y : Nat) : Nat :=
  p.base + (y / 16 * (pad16 p.wb / 16) + x / 16) * 256 + y % 16 * 16 + x % 16

/-- Bytes per sample of a format. -/
def fmtDeep (fmt : Nat) : Bool := fmt == 2 || fmt == 4 || fmt == 6

/-- The planes of a buffer at `addr`: luma (or the RGB plane), then interleaved chroma (R92). -/
def planes (addr fmt w _h : Nat) (h : Nat) : Plane × Plane :=
  let deep := if fmtDeep fmt then 2 else 1
  let p0 : Plane := ⟨addr + 256, if 5 ≤ fmt then 4 * w else deep * w⟩
  let p1 : Plane := ⟨p0.base + planeSize p0.wb h, deep * 2 * ceilDiv w 2⟩
  (p0, p1)

/-- Does block `b` hold a byte of columns `x0` to `x1` on lines `y0` to `y1` of a plane of `h` lines? -/
def Plane.meets (p : Plane) (h b x0 x1 y0 y1 : Nat) : Bool :=
  let k := (b - p.base) / 256
  let n := pad16 p.wb / 16
  decide (p.base ≤ b ∧ b < p.base + planeSize p.wb h ∧ k % n * 16 ≤ x1 ∧ x0 < k % n * 16 + 16 ∧ k / n * 16 ≤ y1 ∧ y0 < k / n * 16 + 16)

/-- R92, R102: does block `b` hold a sample that the pixels of columns `x0` to `x1` on lines `y0` to `y1` of a stored picture are
made from? -/
def pictureMeets (addr fmt w h b x0 x1 y0 y1 : Nat) : Bool :=
  let (p0, p1) := planes addr fmt w h h
  if 5 ≤ fmt then p0.meets h b (4 * x0) (4 * x1 + 3) y0 y1
  else
    let k := if fmtDeep fmt then 2 else 1
    let ch := if fmt ≤ 2 then ceilDiv h 2 else h
    let lo := if fmt ≤ 2 then y0 / 2 - 1 else y0
    let hi := if fmt ≤ 2 then min (ch - 1) (y1 / 2 + 1) else y1
    p0.meets h b (k * x0) (k * x1 + k - 1) y0 y1
      || p1.meets ch b (2 * k * (x0 / 2)) (2 * k * min (ceilDiv w 2 - 1) (x1 / 2 + 1) + 2 * k - 1) lo hi

/-- One byte of DRAM as a number. -/
def State.dramByte (s : State) (a : Nat) : Nat := (Tab.get Config.dramFill s.dram a).toNat

/-- A 16-bit little-endian word of a plane, its low 10 bits. -/
def State.plane10 (s : State) (p : Plane) (x y : Nat) : Nat :=
  (s.dramByte (p.addr x y) + 256 * s.dramByte (p.addr (x + 1) y)) % 1024

/-- Clamp an index to 0 .. n − 1. -/
def clampIx (n : Nat) (i : Int) : Nat := clampN (n - 1) i

/-- A stored luma sample at 10 bits (R102: 8-bit samples times 4). -/
def State.luma (s : State) (p : Plane) (fmt x y : Nat) : Nat :=
  if fmtDeep fmt then s.plane10 p (2 * x) y else 4 * s.dramByte (p.addr x y)

/-- A stored chroma sample (component 0 Cb, 1 Cr) of chroma column `j`, chroma line `k`, at 10 bits. -/
def State.chromaRaw (s : State) (p : Plane) (fmt comp j k : Nat) : Nat :=
  if fmtDeep fmt then s.plane10 p (4 * j + 2 * comp) k else 4 * s.dramByte (p.addr (2 * j + comp) k)

/-- R102: chroma widened horizontally on chroma line `k`. -/
def State.chromaH (s : State) (p : Plane) (fmt comp w x k : Nat) : Nat :=
  let cw := ceilDiv w 2
  let c := fun (j : Nat) => s.chromaRaw p fmt comp (min j (cw - 1)) k
  if x % 2 = 0 then c (x / 2) else (c (x / 2) + c (x / 2 + 1) + 1) / 2

/-- R102: chroma at full resolution. Of a 4:2:0 source the columns are widened first and then the lines; the rule names no order, and the
rounded results differ (log 100). -/
def State.chroma (s : State) (p : Plane) (fmt comp w h x y : Nat) : Nat :=
  if fmt = 1 ∨ fmt = 2 then
    let ch := ceilDiv h 2
    let j : Int := y / 2
    let c := fun (k : Int) => s.chromaH p fmt comp w x (clampIx ch k)
    if y % 2 = 0 then (3 * c j + c (j - 1) + 2) / 4 else (3 * c j + c (j + 1) + 2) / 4
  else s.chromaH p fmt comp w x y

/-- R93: an 8-bit component widened to 10 bits. -/
def widen8 (v : Nat) : Nat := v * 4 + v / 64

/-- R92, R102: pixel (x, y) of a stored picture, 10 bits, 4:4:4. -/
def State.fetchPx (s : State) (addr fmt w h x y : Nat) : Px :=
  let (p0, p1) := planes addr fmt w h h
  if fmt = 5 then
    let b := fun k => s.dramByte (p0.addr (4 * x + k) y)
    ⟨widen8 (b 2), widen8 (b 1), widen8 (b 0)⟩
  else if fmt = 6 then
    let v := (List.range 4).foldl (fun acc k => acc + s.dramByte (p0.addr (4 * x + k) y) * 256 ^ k) 0
    ⟨v / 2 ^ 20 % 1024, v / 2 ^ 10 % 1024, v % 1024⟩
  else ⟨s.luma p0 fmt x y, s.chroma p1 fmt 0 w h x y, s.chroma p1 fmt 1 w h x y⟩

/-- Pixel (x, y) of a stored 4:2:0 picture as its planes hold it: luma at the stored depth, and the chroma sample that lies with
it. -/
def State.storedPx (s : State) (addr fmt w h x y : Nat) : Px :=
  let (p0, p1) := planes addr fmt w h h
  if fmtDeep fmt then ⟨s.plane10 p0 (2 * x) y, s.plane10 p1 (4 * (x / 2)) (y / 2), s.plane10 p1 (4 * (x / 2) + 2) (y / 2)⟩
  else ⟨s.dramByte (p0.addr x y), s.dramByte (p1.addr (2 * (x / 2)) (y / 2)), s.dramByte (p1.addr (2 * (x / 2) + 1) (y / 2))⟩

/-! ### Geometry of a video layer (R95) -/

/-- A layer's geometry and treatment, from its SH words. -/
structure Geo where
  output : Nat
  direct : Bool
  z : Nat
  rot : Nat
  mirH : Bool
  mirV : Bool
  csc : Nat
  coef : Nat
  group : Nat
  alpha : Nat
  src : BitVec 16
  noSrc : Bool
  en : Bool
  cx : Nat
  cy : Nat
  cw : Nat
  ch : Nat
  dx : Nat
  dy : Nat
  dw : Nat
  dh : Nat
  deriving DecidableEq, Repr

/-- A layer's geometry from a reader of words (in force, or of a candidate). -/
def geoOf (rd : Nat → Word) (l : Nat) : Geo :=
  let ctrl := rd (Reg.CMP_VL_CTRL l)
  let src := rd (Reg.CMP_VL_SRC l)
  let cp := rd (Reg.CMP_VL_CROP_POS l)
  let cs := rd (Reg.CMP_VL_CROP_SIZE l)
  let dp := rd (Reg.CMP_VL_DST_POS l)
  let ds := rd (Reg.CMP_VL_DST_SIZE l)
  { output := (Fld.CMP_VL_CTRL_OUTPUT 0).of ctrl, direct := (Fld.CMP_VL_CTRL_DIRECT 0).of ctrl != 0
    z := (Fld.CMP_VL_CTRL_Z 0).of ctrl, rot := (Fld.CMP_VL_CTRL_ROT 0).of ctrl
    mirH := (Fld.CMP_VL_CTRL_MIRROR_H 0).of ctrl != 0, mirV := (Fld.CMP_VL_CTRL_MIRROR_V 0).of ctrl != 0
    csc := (Fld.CMP_VL_CTRL_CSC 0).of ctrl, coef := (Fld.CMP_VL_CTRL_COEF 0).of ctrl
    group := (Fld.CMP_VL_CTRL_SYNC_GROUP 0).of ctrl, alpha := (Fld.CMP_VL_SRC_ALPHA 0).of src
    src := BitVec.ofNat 16 ((Fld.CMP_VL_SRC_SRC_ID 0).of src), noSrc := (Fld.CMP_VL_SRC_NO_SRC 0).of src != 0
    en := (Fld.CMP_VL_CTRL_EN 0).of ctrl != 0
    cx := cp.toNat % 8192, cy := cp.toNat / 65536 % 8192, cw := cs.toNat % 8192, ch := cs.toNat / 65536 % 8192
    dx := dp.toNat % 8192, dy := dp.toNat / 65536 % 8192, dw := ds.toNat % 8192, dh := ds.toNat / 65536 % 8192 }

/-- Visible on an output (R89). -/
def Geo.visible (g : Geo) (o : Nat) : Bool := g.en && g.output == o && (!g.noSrc || g.direct)

/-- Width and height after rotation (R95). -/
def Geo.wRot (g : Geo) : Nat := if g.rot % 2 = 1 then g.ch else g.cw
def Geo.hRot (g : Geo) : Nat := if g.rot % 2 = 1 then g.cw else g.ch

/-- R97: the layer bypasses scaling. -/
def Geo.bypass (g : Geo) : Bool := g.dw == g.wRot && g.dh == g.hRot && g.rot % 2 == 0

/-- R101: horizontal and vertical pre-average factors. -/
def Geo.kH (g : Geo) : Nat := if 4 * g.dw < g.wRot then ceilDiv g.wRot (4 * g.dw) else 1
def Geo.kV (g : Geo) : Nat := if 3 * g.dh < g.hRot then ceilDiv g.hRot (3 * g.dh) else 1

/-- Rotated width and height after pre-averaging. -/
def Geo.wAvg (g : Geo) : Nat := ceilDiv g.wRot g.kH
def Geo.hAvg (g : Geo) : Nat := ceilDiv g.hRot g.kV

/-- R101: steps S_h and S_v. -/
def Geo.stepH (g : Geo) : Nat := g.wAvg * 65536 / g.dw
def Geo.stepV (g : Geo) : Nat := g.hAvg * 65536 / g.dh

/-- R98: lines, held width and need of a scaled layer. -/
def Geo.lines (g : Geo) : Nat := if g.rot % 2 = 1 then 12 else 6
def Geo.held (g : Geo) : Nat := if g.rot % 2 = 1 then g.wAvg else min g.wAvg g.dw
def Geo.need (g : Geo) : Nat := g.lines * g.held

/-- Does the destination rectangle contain an output pixel? -/
def Geo.has (g : Geo) (x y : Nat) : Bool :=
  decide (g.dx ≤ x ∧ x < g.dx + g.dw ∧ g.dy ≤ y ∧ y < g.dy + g.dh)

/-- R95: the crop pixel behind rotated and mirrored pixel (x, y). -/
def Geo.unrotate (g : Geo) (x y : Nat) : Nat × Nat :=
  let x := if g.mirH then g.wRot - 1 - x else x
  let y := if g.mirV then g.hRot - 1 - y else y
  match g.rot with
  | 0 => (x, y)
  | 1 => (y, g.ch - 1 - x)
  | 2 => (g.cw - 1 - x, g.ch - 1 - y)
  | _ => (g.cw - 1 - y, x)

/-! ### Scalers (R98 to R101) -/

/-- The mean of a group of `k` samples from index `i`, the last sample of `n` repeated (R101). -/
def preAvg (k n : Nat) (f : Nat → Nat) (i : Nat) : Nat :=
  (((List.range k).map fun t => f (min (i * k + t) (n - 1))).sum + k / 2) / k

/-- Coefficient `n` of set `c`, 10-bit signed (CMP_COEFs_k). -/
def State.coef (s : State) (c n : Nat) : Int :=
  let w := s.word (Reg.CMP_COEF c (n / 2))
  (BitVec.ofNat 10 (if n % 2 = 0 then w.toNat % 1024 else w.toNat / 65536 % 1024)).toInt

/-- R101: position, integer position and phase of output sample `x` at step `st`. -/
def scalePos (st x : Nat) : Int × Nat :=
  let p : Int := ((2 * x + 1) * st / 2 : Nat) - 32768
  (p / 65536, ((p / 1024) % 64).toNat)

/-- R101: one filtered sample; `first` is the first coefficient, `back` the taps before the position. -/
def State.filter (s : State) (c taps base back st n : Nat) (f : Nat → Nat) (x : Nat) : Nat :=
  let (i, ph) := scalePos st x
  let sum := (List.range taps).foldl (fun acc t =>
    acc + s.coef c (base + taps * ph + t) * (f (clampIx n (i - back + t)) : Int)) (0 : Int)
  clampN 1023 ((sum + 128) / 256)

/-- Horizontal and vertical filtering of one component plane given as a function of (x, y). -/
def State.filterH (s : State) (g : Geo) (f : Nat → Nat → Nat) (x y : Nat) : Nat :=
  s.filter g.coef 8 0 3 g.stepH g.wAvg (fun i => f i y) x
def State.filterV (s : State) (g : Geo) (f : Nat → Nat → Nat) (x y : Nat) : Nat :=
  s.filter g.coef 6 512 2 g.stepV g.hAvg (fun j => f x j) y

/-- R95, R97, R101: one component of a layer at destination pixel (x, y) of its rectangle. Where both axes are pre-averaged, R101
does not say which is averaged first: the horizontal one (log 87). -/
def State.scaled (s : State) (g : Geo) (f : Nat → Nat → Nat) (x y : Nat) : Nat :=
  if g.bypass then f x y
  else
    let a := fun x y => preAvg g.kH g.wRot (fun i => f i y) x
    let b := fun x y => preAvg g.kV g.hRot (fun j => a x j) y
    if g.rot % 2 = 0 ∧ g.dw < g.wAvg then s.filterV g (fun x y => s.filterH g b x y) x y
    else s.filterH g (fun x y => s.filterV g b x y) x y

/-- R95, R98 to R101: the lines of the rotated crop that output line `y` of a layer is made from. -/
def Geo.linesFor (g : Geo) (y : Nat) : List Nat :=
  let v := y - g.dy
  if g.bypass then [v]
  else
    let (i, _) := scalePos g.stepV v
    (List.range 6).flatMap fun t => (List.range g.kV).map fun k => min (clampIx g.hAvg (i - 2 + t) * g.kV + k) (g.hRot - 1)

/-! ### Colour conversion and blending (R91, R103, R104) -/

/-- A conversion matrix: nine coefficients, pre and post offsets. -/
structure Csc where
  m : List Int
  pre : List Int
  post : List Int
  deriving DecidableEq, Repr

/-- A Y'CbCr preset of R104. -/
def cscPreset (m13 m22 m23 m32 : Int) : Csc :=
  ⟨[598, 0, m13, 598, m22, m23, 598, m32, 0], [-64, -512, -512], [0, 0, 0]⟩

/-- R104, CMP_CSCm: the matrix a CSC code selects; codes 0x4 to 0x7 are refused at load and commit. -/
def State.csc (s : State) (code : Nat) : Csc :=
  match code with
  | 0 => ⟨[512, 0, 0, 0, 512, 0, 0, 0, 512], [0, 0, 0], [0, 0, 0]⟩
  | 1 => cscPreset 820 (-201) (-417) 1036
  | 2 => cscPreset 921 (-109) (-274) 1085
  | 3 => cscPreset 862 (-96) (-334) 1100
  | c =>
    let v := fun (n : Nat) =>
      let w := s.word (Reg.CMP_CSC (c - 8) (n / 2))
      (BitVec.ofNat 12 (if n % 2 = 0 then w.toNat % 4096 else w.toNat / 65536 % 4096)).toInt
    ⟨(List.range 9).map v, [v 9, v 10, v 11], [v 12, v 13, v 14]⟩

/-- R103: convert one pixel. -/
def Csc.apply (c : Csc) (p : Px) : Px :=
  let ins := [(p.a : Int), p.b, p.c]
  let out := fun i =>
    let sum := (List.range 3).foldl (fun acc j =>
      acc + c.m.getD (3 * i + j) 0 * (ins.getD j 0 + c.pre.getD j 0)) (0 : Int)
    clampN 1023 ((sum + 256) / 512 + c.post.getD i 0)
  ⟨out 0, out 1, out 2⟩

/-- R91: blend one component. -/
def blend (alpha src dst : Nat) : Nat := (alpha * src + (255 - alpha) * dst + 127) / 255

/-- R91: blend a pixel. -/
def blendPx (alpha : Nat) (src dst : Px) : Px :=
  ⟨blend alpha src.a dst.a, blend alpha src.b dst.b, blend alpha src.c dst.c⟩

/-- A colour word laid out as CMP_MKP: B, G, R in 10 bits each. -/
def colour (w : Word) : Px := ⟨w.toNat / 2 ^ 20 % 1024, w.toNat / 2 ^ 10 % 1024, w.toNat % 1024⟩

/-- Black. -/
def black : Px := ⟨0, 0, 0⟩

/-! ### The layer stack (R88) -/

/-- A layer's geometry in force. -/
def State.geo (s : State) (l : Nat) : Geo := geoOf s.word l

/-- Insert a layer into a list sorted by Z, then layer index. -/
def zInsert (z : Nat) (l : Nat) : List (Nat × Nat) → List (Nat × Nat)
  | [] => [(z, l)]
  | (z', l') :: rest => if z < z' ∨ (z = z' ∧ l < l') then (z, l) :: (z', l') :: rest
    else (z', l') :: zInsert z l rest

/-- Layers whose CTRL word a table of words lists (a layer that is enabled is listed, its reset EN being 0). -/
def listedLayers (t : Tab Word) : List Nat :=
  t.filterMap fun (a, _) =>
    let l := (a - Reg.CMP_VL_CTRL 0) / 0x20
    if Reg.CMP_VL_CTRL 0 ≤ a ∧ l < 512 ∧ a = Reg.CMP_VL_CTRL l then some l else none

/-- R88, R89: visible layers of an output from bottom to top. -/
def stackOf (rd : Nat → Word) (ls : List Nat) (o : Nat) : List Nat :=
  (ls.foldl (fun acc l =>
    let g := geoOf rd l
    if g.visible o then zInsert g.z l acc else acc) []).map (·.2)

/-- A layout's own SH words; a word that it does not load reads as after reset. -/
def LayoutDesc_word (ly : LayoutDesc) (a : Nat) : Word := ((ly.sh.find? (·.1 == a)).map (·.2)).getD (regReset a)

/-- R130: a layout of the image sets the output's EN or places a visible video layer on it. -/
def State.declared (s : State) (o : Nat) : Bool :=
  s.image.layouts.any fun ly =>
    (Fld.OUT_CTRL_EN o).of (LayoutDesc_word ly (Reg.OUT_CTRL o)) != 0
      || (listedLayers ly.sh).any fun l => (geoOf (LayoutDesc_word ly) l).visible o

/-- The visible layers of output `o` in force, bottom to top. -/
def State.stack (s : State) (o : Nat) : List Nat := stackOf s.word (listedLayers s.regs) o

/-- The state shown for a tile in the current frame (R82). -/
def State.shows (s : State) (l : Nat) : TileState := (s.shownState l).1

/-- The visible layers that are drawn: EMPTY ones are not (R91). -/
def State.drawn (s : State) (o : Nat) : List Nat := (s.stack o).filter fun l => decide (s.shows l ≠ .empty)

/-- A stored layer's picture at output pixel (x, y), RGB 10 bits (R95 to R103). -/
def State.picture (s : State) (l : Nat) (g : Geo) (x y : Nat) : Px :=
  match (s.tile l).cmp.shown with
  | some b => match b.desc with
    | some d =>
      let addr := s.bufAddr d
      let px := fun u v =>
        let (a, c) := g.unrotate u v
        s.fetchPx addr b.hdr.format b.hdr.width b.hdr.height (g.cx + a) (g.cy + c)
      let comp := fun sel => s.scaled g (fun u v => sel (px u v)) (x - g.dx) (y - g.dy)
      (s.csc g.csc).apply ⟨comp (·.a), comp (·.b), comp (·.c)⟩
    | none => black
  | none => black

/-- R69, R90, R91, R105, R121: blend layer `l` over `dst` at output pixel (x, y). Of a layer skipped in a band nothing is fetched;
R105 does not say what shows of it where the opaque layer above it is not drawn, being EMPTY: nothing of it (log 56). -/
def State.layerPx (s : State) (l x y : Nat) (dst : Px) : Px :=
  let g := s.geo l
  if g.has x y then
    match s.shows l with
    | .empty => dst
    | .folded => black
    | _ =>
      if g.direct then black
      else match (s.tile l).blackFrom with
        | some n => if n ≤ y then black else blendPx g.alpha (s.picture l g x y) dst
        | none => if (s.outp g.output).skip.contains (l, y / 16) then dst else blendPx g.alpha (s.picture l g x y) dst
  else dst

/-- An ARGB word as pixel and opacity (R93). -/
def argb (v : Nat) : Nat × Px :=
  (v / 2 ^ 24 % 256, ⟨widen8 (v / 2 ^ 16 % 256), widen8 (v / 2 ^ 8 % 256), widen8 (v % 256)⟩)

/-- A base address held in a LO and a HI register (R93). -/
def State.addr40 (s : State) (lo hi : Nat) : Nat := (s.word lo).toNat / 64 * 64 + (s.word hi).toNat % 256 * 2 ^ 32

/-- R91, R93: blend graphic layer `k` of output `o` over `dst`. -/
def State.graphicPx (s : State) (o x y : Nat) (dst : Px) (k : Nat) : Px :=
  let px := s.get (.CMP_GL_POS_X o k)
  let py := s.get (.CMP_GL_POS_Y o k)
  if s.on (.CMP_GL_CTRL_EN o k) ∧ px ≤ x ∧ x < px + s.get (.CMP_GL_SIZE_X o k)
      ∧ py ≤ y ∧ y < py + s.get (.CMP_GL_SIZE_Y o k) then
    let line := s.addr40 (Reg.CMP_GL_ADDR_LO o k) (Reg.CMP_GL_ADDR_HI o k)
      + (y - py) * s.get (.CMP_GL_PITCH_PITCH o k)
    let v := if s.on (.CMP_GL_CTRL_FORMAT o k) then
        let b := s.dramByte (line + (x - px) / 2)
        (s.word (Reg.CMP_OC_GPAL o (if (x - px) % 2 = 0 then b % 16 else b / 16))).toNat
      else leNat (readBytes Config.dramFill s.dram (line + 4 * (x - px)) 4)
    let (a, p) := argb v
    blendPx ((a * s.get (.CMP_GL_CTRL_ALPHA o k) + 127) / 255) p dst
  else dst

/-- R88: the composed pixel (x, y) of output `o`, below direct pixels and marker plane. -/
def State.composePx (s : State) (o x y : Nat) : Px :=
  let base := (s.drawn o).foldl (fun p l => s.layerPx l x y p) (colour (s.word (Reg.CMP_OC_BG o)))
  (List.range 8).foldl (fun p k => s.graphicPx o x y p k) base

/-- Active width and height of an output. -/
def State.hAct (s : State) (o : Nat) : Nat := s.get (.OUT_HTIM0_ACT o)
def State.vAct (s : State) (o : Nat) : Nat := s.get (.OUT_VTIM0_ACT o)

/-- R88, R117: a composed line. The spec does not say what an output shows while CMP_OC_CTRL.EN is 0: black (log 86). -/
def State.composeLine (s : State) (o y : Nat) : List Px :=
  (List.range (s.hAct o)).map fun x =>
    if s.on (.CMP_OC_CTRL_EN o) then s.composePx o x y else black

/-- The components of a line in raster order (R118). -/
def comps (line : List Px) : List Nat := line.flatMap fun p => [p.a, p.b, p.c]

/-- Apply a disturbance to a line. -/
def disturb (fl : Flips) (line : List Px) : List Px :=
  if fl = [] then line
  else
    let f := fun i v => fl.foldl (fun v (k, m) => if k = i then v ^^^ m else v) v
    line.mapIdx fun i p => ⟨f (3 * i) p.a, f (3 * i + 1) p.b, f (3 * i + 2) p.c⟩

/-- R118: the line signature. -/
def lineSig (line : List Px) : BitVec 32 := crc32c (words16 (comps line))

/-! ### The marker plane (R69, R70, R73, R94, R415) -/

/-- R69: the entry the fold item draws at pixel (x, y) of a folded tile; 0 where no element lies. -/
def foldEntry (g : Geo) (x y : Nat) : Nat :=
  let u := x - g.dx
  let v := y - g.dy
  let border := u < 4 ∨ v < 4 ∨ g.dw ≤ u + 4 ∨ g.dh ≤ v + 4
  let gx := (g.dw - 32) / 2
  let gy := (g.dh - 32) / 2
  let a : Int := u - (gx : Int)
  let b : Int := v - (gy : Int)
  let glyph := 48 ≤ g.dw ∧ 48 ≤ g.dh ∧ 0 ≤ a ∧ a < 32 ∧ 0 ≤ b ∧ b < 32 ∧
    (a ≤ 2 ∨ 29 ≤ a ∨ b ≤ 2 ∨ 29 ≤ b ∨ (-1 ≤ a - b ∧ a - b ≤ 1) ∨ (-1 ≤ a + b - 31 ∧ a + b - 31 ≤ 1))
  if border ∨ glyph then 2 else if (x + y) % 16 < 2 then 1 else 0

/-- R70: inside the degraded border. -/
def degradedBorder (g : Geo) (x y : Nat) : Bool :=
  let u := x - g.dx
  let v := y - g.dy
  decide (u < 4 ∨ v < 4 ∨ g.dw ≤ u + 4 ∨ g.dh ≤ v + 4)

/-- R73: top-left pixel of a tile's tell of side `n` in its corner, inset 8 pixels. -/
def tellPos (g : Geo) (corner n : Nat) : Nat × Nat :=
  (if corner % 2 = 0 then g.dx + 8 else g.dx + g.dw - 8 - n,
   if corner / 2 = 0 then g.dy + 8 else g.dy + g.dh - 8 - n)

/-- R73: the visible tell glyph at (x, y) of a tile, for frame counter `k`. -/
def visibleTell (g : Geo) (corner k x y : Nat) : Option Nat :=
  let (tx, ty) := tellPos g corner 16
  if tx ≤ x ∧ x < tx + 16 ∧ ty ≤ y ∧ y < ty + 16 then
    some (if bitOf (k % 16) ((x - tx) / 8 + 2 * ((y - ty) / 8)) then 4 else 7)
  else none

/-- R94, item 4: the user marker bitmap at (x, y): only entries 8 to 15. -/
def State.userEntry (s : State) (o x y : Nat) : Nat :=
  let pitch := s.get (.CMP_OC_MKPITCH_PITCH o)
  if pitch = 0 ∨ (s.outp o).noUser.contains y then 0
  else
    let b := s.dramByte (s.addr40 (Reg.CMP_OC_MKADDR_LO o) (Reg.CMP_OC_MKADDR_HI o) + y * pitch + x / 2)
    let v := if x % 2 = 0 then b % 16 else b / 16
    if v < 8 then 0 else v

/-- R415: what an active alarm rectangle draws at (x, y): its 2-pixel inner border in entry 7, its fill in entry 5
or 6, 0 outside. -/
def State.alarmEntry (s : State) (o a x y : Nat) : Nat :=
  let rx := s.get (.SCO_ALM_POS_X o a)
  let ry := s.get (.SCO_ALM_POS_Y o a)
  let w := s.get (.SCO_ALM_SIZE_X o a)
  let h := s.get (.SCO_ALM_SIZE_Y o a)
  if rx ≤ x ∧ x < rx + w ∧ ry ≤ y ∧ y < ry + h then
    let u := x - rx
    let v := y - ry
    if u < 2 ∨ v < 2 ∨ w ≤ u + 2 ∨ h ≤ v + 2 then 7 else if s.on (.SCO_ALM_CFG_AMBER o a) then 6 else 5
  else 0

/-- R94: the marker entry at output pixel (x, y) of a frame with counter `k`; `drawn` are the drawn layers from
bottom to top. -/
def State.marker (s : State) (o k : Nat) (drawn : List Nat) (x y : Nat) : Nat :=
  match ((s.outp o).alarms.on.map fun a => s.alarmEntry o a x y).find? (· != 0) with
  | some e => e
  | none =>
    let top := drawn.reverse.find? fun l => (s.geo l).has x y
    let lower := fun (_ : Unit) =>
      match (drawn.reverse.findSome? fun l =>
        let t := (conTerms (s.conRegs l))
        if (s.shows l = .live ∨ s.shows l = .degraded) ∧ t.visible then visibleTell (s.geo l) t.corner k x y
        else none) with
      | some e => e
      | none => s.userEntry o x y
    match top with
    | none => lower ()
    | some l =>
      let g := s.geo l
      match s.shows l with
      | .folded => foldEntry g x y
      | .degraded => if degradedBorder g x y then 3 else lower ()
      | _ => lower ()

/-- A marker palette entry of an output (R68, CMP_MKP). -/
def State.palette (s : State) (o e : Nat) : Px := colour (s.word (Reg.CMP_MKP o e))

/-- The fold colour: marker palette entry 1 (R68, R120). -/
def State.foldColour (s : State) (o : Nat) : Px := s.palette o 1

/-! ### Tells and formatting (R72, R73, R148) -/

/-- R72: the pattern P_k. -/
def tellPattern (k : Nat) : Nat := rotl16 0x5A3C (k % 16)

/-- R71 to R73: the tell bit of pixel (x, y) in a frame with counter `k`, if the pixel lies in a tell block. Where the tells of two tiles
meet, R73 naming no order, the topmost tile's is drawn (log 98). -/
def State.tellBit (s : State) (_o k : Nat) (drawn : List Nat) (x y : Nat) : Option Nat :=
  if x < 4 ∧ y < 4 then some (tellPattern k / 2 ^ (4 * y + x) % 2)
  else (drawn.reverse.takeWhile fun l => !((s.geo l).has x y && decide (s.shows l = .folded))).findSome? fun l =>
    let t := (conTerms (s.conRegs l))
    let (tx, ty) := tellPos (s.geo l) t.corner 4
    if (s.shows l = .live ∨ s.shows l = .degraded) ∧ t.visible = false
        ∧ tx ≤ x ∧ x < tx + 4 ∧ ty ≤ y ∧ y < ty + 4 then
      some (tellPattern k / 2 ^ (4 * (y - ty) + (x - tx)) % 2)
    else none

/-- R148: a component at the link's depth. -/
def toDepth (bpc8 : Bool) (v : Nat) : Nat := if bpc8 then min ((v + 2) / 4) 255 else v

/-- R148: format a line at the link's depth and set its tell bits. -/
def State.formatLine (s : State) (o k y : Nat) (line : List Px) : List Px :=
  let b8 := s.on (.OUT_STATUS_BPC8 o)
  let drawn := s.drawn o
  line.mapIdx fun x p =>
    let q : Px := ⟨toDepth b8 p.a, toDepth b8 p.b, toDepth b8 p.c⟩
    match s.tellBit o k drawn x y with
    | some b => ⟨q.a / 2 * 2 + b, q.b / 2 * 2 + b, q.c / 2 * 2 + b⟩
    | none => q

/-! ### Scaler assignment (R97 to R99) -/

/-- How a layer's scaler needs come out (R97, R98). -/
inductive ScalerNeed where
  | bypass | single | pair | none_
  deriving DecidableEq, Repr

/-- R97, R98. -/
def Geo.scalers (g : Geo) : ScalerNeed :=
  if g.direct ∨ g.bypass then .bypass
  else if g.need ≤ 24576 then .single
  else if g.lines * (ceilDiv g.held 2 + 8) ≤ 24576 then .pair
  else .none_

/-- Scalers a layer holds in the layout in force: lower, upper if paired. -/
def State.scalersHeld (s : State) (o l : Nat) : Option (Nat × Option Nat) :=
  ((List.range 16).find? fun k =>
    s.on (.CMP_SC_STAT_ASSIGNED o k) && s.get (.CMP_SC_STAT_LAYER o k) == l && !s.on (.CMP_SC_STAT_UPPER o k)).map
    fun k => (k, if s.on (.CMP_SC_STAT_PAIRED o k) then some (s.get (.CMP_SC_STAT_PARTNER o k)) else none)

/-- Same geometry and rotation, for R99's kept layers. The rule names these two: a change of MIRROR_H, MIRROR_V or DIRECT counts
as a change of geometry here (log 55). -/
def Geo.sameShape (a b : Geo) : Bool :=
  decide ((a.cx, a.cy, a.cw, a.ch) = (b.cx, b.cy, b.cw, b.ch) ∧ (a.dx, a.dy, a.dw, a.dh) = (b.dx, b.dy, b.dw, b.dh)
    ∧ (a.rot, a.mirH, a.mirV, a.direct) = (b.rot, b.mirH, b.mirV, b.direct))

/-- R99: second loop, in ascending layer index. -/
def handOut (rd : Nat → Word) : List Nat → List Nat → List (Nat × Nat × Option Nat) →
    Option (List (Nat × Nat × Option Nat))
  | [], _, acc => some acc
  | l :: rest, free, acc =>
    match (geoOf rd l).scalers, free with
    | .bypass, _ => handOut rd rest free acc
    | .single, a :: free => handOut rd rest free (acc ++ [(l, a, none)])
    | .pair, a :: b :: free => handOut rd rest free (acc ++ [(l, a, some b)])
    | _, _ => none

/-- Insert into an ascending list. -/
def ascInsert (n : Nat) : List Nat → List Nat
  | [] => [n]
  | k :: ks => if n < k then n :: k :: ks else k :: ascInsert n ks

/-- R99: assign the scalers of output `o` for a candidate layout; none is LINEBUF. -/
def State.assignScalers (s : State) (rd : Nat → Word) (ls : List Nat) (o : Nat) :
    Option (List (Nat × Nat × Option Nat)) :=
  let vis := ((stackOf rd ls o).foldl (fun acc l => ascInsert l acc) []).filter fun l =>
    decide ((geoOf rd l).scalers ≠ .bypass)
  let kept := vis.filterMap fun l =>
    match s.scalersHeld o l with
    | some (a, b) =>
      let keeps := (geoOf rd l).sameShape (s.geo l) && (s.geo l).visible o &&
        (match (geoOf rd l).scalers with | .single => b.isNone | .pair => b.isSome | _ => false)
      if keeps then some (l, a, b) else none
    | none => none
  let used := kept.flatMap fun (_, a, b) => a :: b.toList
  let free := (List.range 16).filter fun k => !used.contains k
  handOut rd (vis.filter fun l => !(kept.any fun k => k.1 == l)) free kept

/-- Layers whose CMP_VL_SCL word a table of words lists. -/
def listedScl (t : Tab Word) : List Nat :=
  t.filterMap fun (a, _) =>
    let l := (a - Reg.CMP_VL_SCL 0) / 0x20
    if Reg.CMP_VL_SCL 0 ≤ a ∧ l < 512 ∧ a = Reg.CMP_VL_SCL l then some l else none

/-- R98, R129: write an output's scaler registers from an assignment. -/
def State.putScalers (s : State) (o : Nat) (asg : List (Nat × Nat × Option Nat)) : State :=
  let s := s.each (List.range 16) fun s k =>
    (((s.setWord (Reg.CMP_SC_STAT o k) 0).setWord (Reg.CMP_SC_HSTEP o k) 0).setWord (Reg.CMP_SC_VSTEP o k) 0).setWord
      (Reg.CMP_SC_AVG o k) (regReset (Reg.CMP_SC_AVG o k))
  let one := fun (s : State) (l k : Nat) (pr up : Bool) (partner : Nat) (need : Nat) =>
    let g := s.geo l
    let s := (((((s.set (.CMP_SC_STAT_LAYER o k) l).setB (.CMP_SC_STAT_ASSIGNED o k) true).setB
      (.CMP_SC_STAT_PAIRED o k) pr).setB (.CMP_SC_STAT_UPPER o k) up).set (.CMP_SC_STAT_PARTNER o k) partner).set
      (.CMP_SC_STAT_NEED o k) need
    (((s.set (.CMP_SC_HSTEP_STEP o k) g.stepH).set (.CMP_SC_VSTEP_STEP o k) g.stepV).set
      (.CMP_SC_AVG_H_K o k) g.kH).set (.CMP_SC_AVG_V_K o k) g.kV
  let s := s.each asg fun s (l, a, b) =>
    let g := s.geo l
    match b with
    | none => one s l a false false 0 g.need
    | some b =>
      let half := g.lines * (ceilDiv g.held 2 + 8)
      one (one s l a true false b half) l b true true a (g.lines * (g.held - (ceilDiv g.held 2 - 8)))
  let s := s.each (s.stack o) fun s l =>
    let g := s.geo l
    let (a, b, p) := match asg.find? (·.1 == l) with
      | some (_, a, some b) => (a, b, true)
      | some (_, a, none) => (a, 0, false)
      | none => (0, 0, false)
    ((((s.set (.CMP_VL_SCL_SCALER_A l) a).set (.CMP_VL_SCL_SCALER_B l) b).setB (.CMP_VL_SCL_PAIRED l) p).setB
      (.CMP_VL_SCL_BYPASS l) (!g.direct && g.bypass)).set (.CMP_VL_SCL_NEED l)
        (if g.scalers = .bypass then 0 else min g.need 0xFFFF)
  let s := s.each ((listedScl s.regs).filter fun l => (s.geo l).output == o && !(s.geo l).visible o) fun s l =>
    s.setWord (Reg.CMP_VL_SCL l) 0
  (s.set (.CMP_OC_STATUS_SCALERS o) (asg.flatMap fun (_, a, b) => a :: b.toList).length).set
    (.CMP_OC_STATUS_VISIBLE o) (s.stack o).length

/-! ### The skip map (R105) -/

/-- Is each of the columns x0 .. x0+w−1 of line y covered by one of the rectangles? -/
def lineCovered (rects : List Geo) (x0 w y : Nat) : Bool :=
  (List.range w).all fun i => rects.any fun g => g.has (x0 + i) y

/-- R105: the (layer, band) pairs of an output that are skipped. -/
def skipMap (rd : Nat → Word) (ls : List Nat) (o : Nat) : List (Nat × Nat) :=
  let st := stackOf rd ls o
  st.flatMap fun l =>
    let g := geoOf rd l
    let above := ((st.dropWhile (· != l)).drop 1).map (geoOf rd) |>.filter fun a => a.direct || a.alpha == 255
    if above.isEmpty ∨ g.dw = 0 ∨ g.dh = 0 then []
    else
      let bands := (List.range (ceilDiv (g.dy + g.dh) 16)).filter fun b => decide (g.dy / 16 ≤ b)
      bands.filterMap fun b =>
        let lo := max g.dy (16 * b)
        let hi := min (g.dy + g.dh) (16 * b + 16)
        if (List.range (hi - lo)).all fun i => lineCovered above g.dx g.dw (lo + i) then some (l, b) else none

end Sys2Proof.Machine
end

