-- ==== Sys2Proof/Machine/Operands.lean ====
section
/-!
DEFINITION. Picture operands: the signatures of a picture (R58, R59), the capture engine's conversion (R165),
writing a picture into the planes of a buffer (R92), and the composed copy of an output.
-/

namespace Sys2Proof.Machine

open Sys2Proof

/-- The indices lo, lo + 4, lo + 8, … below hi (R58: every 4th). -/
def everyFourth (lo hi : Nat) : List Nat := (List.range (ceilDiv (hi - lo) 4)).map fun k => lo + 4 * k

/-- R58: the freeze signatures of a picture of `w` × `h` given by its luma (or green) samples. -/
def frzSig (w h : Nat) (f : Nat → Nat → Nat) : List (BitVec 16) :=
  (List.range 16).map fun r =>
    let xs := everyFourth (gridLo w (r % 4)) (gridHi w (r % 4))
    let ys := everyFourth (gridLo h (r / 4)) (gridHi h (r / 4))
    (crc32c (words16 (ys.flatMap fun y => xs.map fun x => f x y))).setWidth 16

/-- R59: the tell signature over all components of the tell region; 0 without one. -/
def tellSig (region : Option (Nat × Nat × Nat × Nat)) (px : Nat → Nat → Px) : BitVec 32 :=
  match region with
  | none => 0
  | some (x, y, w, h) =>
    if w = 0 then 0
    else crc32c (words16 ((List.range h).flatMap fun j => (List.range w).flatMap fun i =>
      let p := px (x + i) (y + j)
      [p.a, p.b, p.c]))

/-- Pixel (x, y) of a frame. -/
def framePx (f : Frame) (x y : Nat) : Px := (f.getD y []).getD x ⟨0, 0, 0⟩

/-- R165: one sample from the received to the stored depth, for Y'CbCr. -/
def yuvDepth (from10 to10 : Bool) (v : Nat) : Nat :=
  if from10 = to10 then v else if from10 then min ((v + 2) / 4) 255 else v * 4

/-- R165: one component from the received to the stored depth, for RGB. -/
def rgbDepth (from10 to10 : Bool) (v : Nat) : Nat :=
  if from10 = to10 then v else if from10 then min ((v + 2) / 4) 255 else widen8 v

/-- R165: a received pixel as it is stored. `enc` 0 RGB, 1 Y'CbCr 4:4:4, 2 Y'CbCr 4:2:2. -/
def convertPx (f : Frame) (enc : Nat) (from10 : Bool) (fmt w x y : Nat) : Px :=
  let to10 := fmtDeep fmt
  let p := framePx f x y
  if enc = 0 then ⟨rgbDepth from10 to10 p.a, rgbDepth from10 to10 p.b, rgbDepth from10 to10 p.c⟩
  else
    let d := yuvDepth from10 to10
    let chroma := fun (sel : Px → Nat) =>
      if enc = 1 then
        let at_ := fun (i : Int) => d (sel (framePx f (clampIx w i) y))
        (at_ ((x : Int) - 1) + 2 * at_ x + at_ (x + 1) + 2) / 4
      else d (sel p)
    ⟨d p.a, chroma (·.b), chroma (·.c)⟩

/-- Bytes of one stored sample. -/
def sampleBytes (deep : Bool) (v : Nat) : List Byte := leBytes (if deep then 2 else 1) v

/-- R92: write one stored pixel into a buffer's planes: luma everywhere, chroma where the format keeps it. -/
def storePx (m : Tab Byte) (addr fmt w h x y : Nat) (p : Px) : Tab Byte :=
  let (p0, p1) := planes addr fmt w h h
  let deep := fmtDeep fmt
  let put := fun (m : Tab Byte) (pl : Plane) (col line : Nat) (bs : List Byte) =>
    (bs.foldl (fun (a : Tab Byte × Nat) b =>
      (Tab.put Config.dramFill a.1 (pl.addr (col + a.2) line) b, a.2 + 1)) (m, 0)).1
  if fmt = 5 then put m p0 (4 * x) y (leBytes 4 (p.a * 65536 + p.b * 256 + p.c))
  else if fmt = 6 then put m p0 (4 * x) y (leBytes 4 (p.a * 2 ^ 20 + p.b * 2 ^ 10 + p.c))
  else
    let k := if deep then 2 else 1
    let m := put m p0 (k * x) y (sampleBytes deep p.a)
    let line := if fmt ≤ 2 then y / 2 else y
    if x % 2 = 0 ∧ (2 < fmt ∨ y % 2 = 0) then
      put m p1 (k * x) line (sampleBytes deep p.b ++ sampleBytes deep p.c)
    else m

/-- R92: write the first `pw` × `ph` stored pixels into the planes of a picture of `w` × `h`. -/
def storeArea (m : Tab Byte) (addr fmt w h pw ph : Nat) (px : Nat → Nat → Px) : Tab Byte :=
  (List.range ph).foldl (fun m y => (List.range pw).foldl (fun m x => storePx m addr fmt w h x y (px x y)) m) m

/-- R92: write a whole picture of stored pixels. -/
def storePicture (m : Tab Byte) (addr fmt w h : Nat) (px : Nat → Nat → Px) : Tab Byte := storeArea m addr fmt w h w h px

/-- R92: columns and lines that the padded planes of a picture have room for. -/
def paddedWidth (fmt w : Nat) : Nat := if fmtDeep fmt then ceilDiv (2 * w) 16 * 8 else ceilDiv w 16 * 16
def paddedHeight (h : Nat) : Nat := ceilDiv h 16 * 16

/-- STORE_FMT of a DP input's stored format: a local input's register, a remote one's descriptor (R170). -/
def State.storeFmt (s : State) (src : BitVec 16) : Nat :=
  if s.isLocal src ∧ srcLocal src < 16 then s.get (.CAP_CFG_STORE_FMT (srcLocal src)) else (s.srcDesc src).format

/-! ### The composed copy of an output (R92, R206) -/

/-- The composition trick of an output, when it fills a buffer. -/
def State.copyBuf (s : State) (o : Nat) : Option Nat :=
  (s.dealer.tricks.find? fun r => r.trick.cls == .composer && r.trick.index == o && !r.done).bind (·.buf)

/-- Plane bytes of a buffer (R92, R221). -/
def planeBytes (fmt w h : Nat) : Nat :=
  let (p0, p1) := planes 0 fmt w h h
  if 5 ≤ fmt then planeSize p0.wb h else p1.base - 256 + planeSize p1.wb (if fmt ≤ 2 then ceilDiv h 2 else h)

/-- One line of the copy: the mixed line at 10 bits with the tells of the frame. -/
def State.copyBack (s : State) (o y : Nat) (line : List Px) : State :=
  match s.copyBuf o with
  | none => s
  | some d =>
    let k := s.get (.OUT_FRAME_FRAME o)
    let drawn := s.drawn o
    let told := line.mapIdx fun x p => match s.tellBit o k drawn x y with
      | some b => (⟨p.a / 2 * 2 + b, p.b / 2 * 2 + b, p.c / 2 * 2 + b⟩ : Px)
      | none => p
    let addr := s.bufAddr d
    s.storeBuf d (told.foldl (fun (a : Tab Byte × Nat) p =>
      (storePx a.1 addr 6 (s.hAct o) (s.vAct o) a.2 y p, a.2 + 1)) (s.dram, 0)).1

/-- R206: capture time of the copy: the earliest of its LIVE and DEGRADED tiles, or the tick time. -/
def State.copyTime (s : State) (o : Nat) : Time64 × Bool :=
  let bufs := (s.layersOf o).filterMap fun l =>
    if s.shows l = .live ∨ s.shows l = .degraded then (s.tile l).cmp.shown else none
  match earliestCap bufs with
  | some b => (b.hdr.capTime, b.hdr.capExt)
  | none => (if s.dealer.epochOk then s.dealer.epochTick ++ s.tickTime else (0#32 ++ s.tickTime), s.dealer.epochOk)

/-- The header of the composed copy of output `o` in descriptor `d`, and its completion (R44, R59, R109, R110). R44 names no MAP,
CONCEAL or NO_SHOW of a composed copy: they are 0 (log 61). -/
def State.copyEnd (s : State) (o : Nat) : State :=
  match s.copyBuf o with
  | none => s
  | some d =>
    let w := s.hAct o
    let h := s.vAct o
    let addr := s.bufAddr d
    let (ct, ext) := s.copyTime o
    let px := s.fetchPx addr 6 w h
    let src := s.localSrc (0x210 + o)
    let hd : BufHdr :=
      { srcId := src, capExt := ext, noShow := false, map := 0, conceal := 0,
        seq := (s.outp o).copySeq, capTime := ct, frz := frzSig w h fun x y => (px x y).b,
        tell := tellSig (s.srcDesc src).tell px, width := w, height := h, format := 6, cls := 2, idx := o }
    let s := ((s.chargeBlocks (26 + o) (ceilDiv (planeBytes 6 w h) 256)).writeHdr d hd false).headerCheck d hd
    s.updDealer fun dl => { dl with tricks := dl.tricks.map fun r =>
      if r.trick.cls == .composer && r.trick.index == o then { r with done := true, buf := none } else r }

end Sys2Proof.Machine
end

