-- ==== Sys2Proof/Machine/Output.lean ====
section
/-!
DEFINITION. The line path of an output (R117 to R121, R145 to R148, R155, R156, R171 to R174): lane compare and
recompute, the output FIFO, the two mixer copies with direct insertion, frame start and end, signatures and
their check (R72 to R77, R418).
-/

namespace Sys2Proof.Machine

open Sys2Proof

/-! ### Pixel clock -/

/-- Δ as an exact number of ns. -/
def unitsNs (d : Int) : Rat := (d : Rat) / 65536

/-- Lane count and rate in bit/s of configuration codes (R159). -/
def laneCount (code : Nat) : Nat := 2 ^ code
def rateBits (code : Nat) : Nat :=
  match code with
  | 0 => 1620000000
  | 1 => 2700000000
  | 2 => 5400000000
  | _ => 8100000000

/-- R130: pixel clock of an output in Hz, exact. -/
def State.pixClock (s : State) (o : Nat) : Rat :=
  ((s.get (.OUT_HTIM0_TOTAL o) * s.get (.OUT_VTIM0_TOTAL o) : Nat) : Rat) * 1000000000 / s.pTick

/-- R131: the nominal pixel clock, over the tracked tick period (R136; P_c after a RESYNC), and the clock as trimmed (R132). -/
def State.nominalClock (s : State) (o : Nat) : Rat :=
  ((s.get (.OUT_HTIM0_TOTAL o) * s.get (.OUT_VTIM0_TOTAL o) : Nat) : Rat) * 1000000000 / (s.pTick + unitsNs s.dealer.delta)
def State.trimmedClock (s : State) (o : Nat) : Rat := s.nominalClock o * (1 + (s.outp o).trim / 1000000)

/-- R131: Mvid over Nvid as measured: the pixel clock over the link symbol clock. -/
def State.vidRatio (s : State) (o : Nat) : Rat := s.trimmedClock o * 10 / ((rateBits (s.get (.OUT_STATUS_RATE o)) : Nat) : Rat)

/-! ### Masked lines -/

/-- Visible layers of an output whose rectangle contains line `y`. -/
def State.crossing (s : State) (o y : Nat) : List Nat :=
  (s.stack o).filter fun l => decide ((s.geo l).dy ≤ y ∧ y < (s.geo l).dy + (s.geo l).dh)

/-- R62, R120, R431: report a masked line with its cause to the Scorer against the tiles it crosses. -/
def State.reportMask (s : State) (o y cause : Nat) (tiles : List Nat) : State :=
  let s := s.updOut o fun x => { x with
    linesMasked := x.linesMasked + 1,
    firstLine := if x.linesMasked = 0 ∨ y < x.firstLine then y else x.firstLine,
    firstCause := if x.linesMasked = 0 ∨ y < x.firstLine then cause else x.firstCause }
  s.each (tiles.filter fun l => !(s.geo l).noSrc) fun s l => s.updTile l fun t => { t with masked := t.masked + 1 }

/-- R120, R121: the composer masks a line: registers, and the report. -/
def State.maskLine (s : State) (o y cause : Nat) (tiles : List Nat) : State :=
  let s := (s.count (.CMP_OC_MASKED_TOTAL o)).updOut o fun x => { x with composerMasked := x.composerMasked + 1 }
  let s := ((s.set (.CMP_OC_MASK_LAST_LINE o) y).set (.CMP_OC_MASK_LAST_CAUSE o) cause).set
    (.CMP_OC_MASK_LAST_TICK o) s.tick16
  (s.setB .CMP_INT_STATUS_LINE_MASKED true).reportMask o y cause tiles

/-- Put a line's status into the output FIFO. -/
def State.putFifo (s : State) (o y : Nat) (st : LineStatus) : State :=
  s.updOut o fun x => { x with fifo := (x.fifo.filter fun e => e.line != y) ++ [⟨y, st⟩] }

/-- Bytes of two pixels in a stored format (R92). -/
def fmtPair (fmt : Nat) : Nat :=
  match fmt with
  | 1 => 3
  | 2 => 6
  | 3 => 4
  | _ => 8

/-- R190: the stored format a source's fetch is charged for: of a stream context by DEPTH10. -/
def State.chargedFmt (s : State) (src : BitVec 16) : Nat :=
  let k := srcLocal src
  if s.isLocal src ∧ 16 ≤ k ∧ k < 528 then (if s.on (.DEC_CX_CFG_DEPTH10 (k - 16)) then 2 else 1) else (s.srcDesc src).format

/-- R96, R190: the DRAM bytes of fetching output `o`'s stored layers: the bytes of each crop in its source's format, and a quarter
more for a rotation by 90° or 270°. Sniset's reservation leaves out what the skip map of R105 skips; the spec does not say whether the
Dealer's charge does: whole crops are charged (log 102). -/
def State.fetchCharge (s : State) (rd : Nat → Word) (ls : List Nat) (o : Nat) : Nat :=
  (ls.map fun l =>
    let g := geoOf rd l
    let bytes := g.cw * g.ch * fmtPair (s.chargedFmt g.src) / 2
    if g.visible o ∧ g.direct = false ∧ g.noSrc = false then (if g.rot % 2 = 1 then bytes + bytes / 4 else bytes) else 0).sum

/-! ### Fetches that fail (R111, R121, R271) -/

/-- R111: a buffer is marked BAD: it is RETIRED, reported, and every judge that shows it knows. -/
def State.markBad (s : State) (d : Nat) : State :=
  let taint := fun (b : Option BufRec) => b.map fun r => if r.desc = some d then { r with bad := true } else r
  let s := s.each (s.tiles.map (·.1)) fun s l => s.updTile l fun t =>
    let c := { t.cmp with shown := taint t.cmp.shown, fallback := taint t.cmp.fallback }
    let k := { t.sco with shown := taint t.sco.shown, fallback := taint t.sco.fallback }
    { t with cmp := c, sco := k }
  let s := s.updDesc d fun x => { x with bad := true }
  let s := s.retireBuf d
  (s.setB .CMP_INT_STATUS_BUF_BAD true).log 0x0406 (by2 d ++ [1, 0])

/-- R121: may a fallback buffer be shown at the current tick? -/
def State.fallbackOk (s : State) (j : Judge) (l : Nat) (b : Option BufRec) : Bool :=
  match b with
  | some b => !b.bad && agePasses (s.ageOf b) (s.boundNs (s.termsOf j l) (s.layerSrc l))
  | none => false

/-- R121: a tile showing a buffer that failed goes on from its fallback from line `y`, or is drawn black from there. -/
def State.fallBack (s : State) (l y : Nat) : State :=
  let t := s.tile l
  let okC := s.fallbackOk .composer l t.cmp.fallback
  let okS := s.fallbackOk .scorer l t.sco.fallback
  s.updTile l fun t => { t with
    cmp := if okC then { t.cmp with shown := t.cmp.fallback, fallback := none } else t.cmp
    sco := if okS then { t.sco with shown := t.sco.fallback, fallback := none } else t.sco
    fellBack := t.fellBack || okC && decide (y < (s.geo l).dy + (s.geo l).dh)
    blackFrom := if okC then t.blackFrom else some y }

/-- First line of output `o` that its composer has not fetched yet. -/
def State.nextLine (s : State) (o : Nat) : Nat := ((s.outp o).fifo.map (·.line + 1)).foldl max 0

/-- R121: a persistent failure on a composer's fetch of a buffer for a tile at line `y` of output `o`. -/
def State.fetchFail (s : State) (o l y : Nat) : State :=
  match (s.tile l).cmp.shown.bind (·.desc) with
  | none => s
  | some d =>
    let showing := s.layersOn.filter fun k => (s.tile k).cmp.shown.bind (·.desc) == some d && s.shows k != .folded
    let s := s.markBad d
    s.each showing fun s k =>
      let p := s.get (.CMP_VL_CTRL_OUTPUT k)
      s.fallBack k (if p = o then y else s.nextLine p)

/-- R105, R271: the blocks of the shown buffer of tile `l` that its composer reads for output line `y` and that fail. -/
def State.tileBad (s : State) (l y : Nat) : List Nat :=
  match (s.tile l).cmp.shown with
  | none => []
  | some b => match b.desc with
    | none => []
    | some d =>
      let g := s.geo l
      let h := b.hdr
      let a := s.bufAddr d
      (s.badBlocks (a + 256) (s.get (.CMP_TLN_SIZE_SIZE ((s.descClass d).getD (0, 0)).1) * 4096 - 256)).filter fun k =>
        (uniq (g.linesFor y)).any fun v =>
          let (x0, y0) := g.unrotate 0 v
          let (x1, y1) := g.unrotate (g.wRot - 1) v
          pictureMeets a h.format h.width h.height k (g.cx + min x0 x1) (g.cx + max x0 x1) (g.cy + min y0 y1) (g.cy + max y0 y1)

/-- R121, R271, R272: the fetch of line `y` of output `o` for tile `l`: blocks that fail are recorded, and the tile goes on from its
fallback, whose blocks are read in turn, or is black. -/
def State.fetchTile (s : State) (o y l : Nat) : Nat → State
  | 0 => s
  | n + 1 =>
    let t := s.tile l
    let reads : Bool := decide (s.shows l ≠ .folded) && !(s.geo l).direct && match t.blackFrom with
      | some k => decide (y < k)
      | none => true
    let bad := s.tileBad l y
    if reads = false ∨ bad.isEmpty then s else State.fetchTile ((s.persistAll (26 + o) bad).fetchFail o l y) o y l n

/-- R93, R94: address and length of what is read for line `y` of graphic layer `k`, and of the user marker bitmap, of output `o`. -/
def State.graphicBytes (s : State) (o y k : Nat) : Nat × Nat :=
  let py := s.get (.CMP_GL_POS_Y o k)
  if s.on (.CMP_GL_CTRL_EN o k) ∧ py ≤ y ∧ y < py + s.get (.CMP_GL_SIZE_Y o k) then
    let w := s.get (.CMP_GL_SIZE_X o k)
    (s.addr40 (Reg.CMP_GL_ADDR_LO o k) (Reg.CMP_GL_ADDR_HI o k) + (y - py) * s.get (.CMP_GL_PITCH_PITCH o k),
     if s.on (.CMP_GL_CTRL_FORMAT o k) then ceilDiv w 2 else 4 * w)
  else (0, 0)
def State.markerBytes (s : State) (o y : Nat) : Nat × Nat :=
  let pitch := s.get (.CMP_OC_MKPITCH_PITCH o)
  (s.addr40 (Reg.CMP_OC_MKADDR_LO o) (Reg.CMP_OC_MKADDR_HI o) + y * pitch, if pitch = 0 then 0 else ceilDiv (s.hAct o) 2)

/-- Does any block of DRAM fail on every read? -/
def State.memSound (s : State) : Bool := s.mem.chk.isEmpty && s.get .MEM_STATUS_SC_FAILED == 0

/-- R105, R121, R271, R272: the composer of output `o` fetches line `y`: its tiles, but for those skipped there, its graphic layers
and its marker bitmap; the second answer tells that a graphic layer's data failed, which masks the line. -/
def State.fetchLine (s : State) (o y : Nat) : State × Bool :=
  if s.memSound then (s, false)
  else
    let skipped := (s.outp o).skip
    let s := s.each ((s.drawn o).filter fun l => (s.crossing o y).contains l && !skipped.contains (l, y / 16)) fun s l => s.fetchTile o y l 2
    let marks := s.badBlocks (s.markerBytes o y).1 (s.markerBytes o y).2
    let s := if marks.isEmpty then s else (s.persistAll (26 + o) marks).updOut o fun x => { x with noUser := uniq (x.noUser ++ [y]) }
    let gl := (List.range 8).flatMap fun k => s.badBlocks (s.graphicBytes o y k).1 (s.graphicBytes o y k).2
    (s.persistAll (26 + o) gl, !gl.isEmpty)

/-! ### The FIFO -/

/-- The FIFO entry of a line. -/
def OutSt.fifoAt (x : OutSt) (y : Nat) : Option LineStatus := (x.fifo.find? (·.line == y)).map (·.status)

/-! ### LINE_SIGNATURE_COMPARE and LINE_RECOMPUTE (R118, R119) -/

/-- R121: lines of a tile that are drawn black count as masked lines that cross that tile only. Where two tiles are black on one line,
R129 does not say whether the output counts one line or two, nor what LAST_FRAME reads past 4,095: two, and it wraps (log 104). -/
def State.blackLines (s : State) (o y : Nat) : State :=
  s.each ((s.crossing o y).filter fun l => match (s.tile l).blackFrom with
    | some n => decide (n ≤ y)
    | none => false) fun s l => s.maskLine o y 4 [l]

/-- R118, R119: the signatures of lanes A and B for line `y`, disturbed by `fa` and `fb`, are compared. The
output FIFO holds 4 lines. -/
def State.compareLine (s : State) (o y : Nat) (fa fb : Flips) : State :=
  let x := s.outp o
  if x.running = false ∨ s.vAct o ≤ y ∨ 4 ≤ x.fifo.length ∨ (x.fifoAt y).isSome then s
  else
    let (s, failed) := s.fetchLine o y
    if failed then (s.maskLine o y 4 (s.crossing o y)).putFifo o y (.masked 4)
    else
    let px := s.composeLine o y
    let a := disturb fa px
    let b := disturb fb px
    if lineSig a = lineSig b then (s.blackLines o y).putFifo o y (.good a b)
    else
      let s := s.count (.CMP_OC_LINECHK_MISMATCH o)
      let rc := s.get (.CMP_OC_STATUS_RCREDIT o)
      if rc < 3 then (s.maskLine o y 2 (s.crossing o y)).putFifo o y (.masked 2)
      else (s.set (.CMP_OC_STATUS_RCREDIT o) (rc - 3)).putFifo o y .recompute

/-- R119, R121: a recompute of line `y`, its source lines fetched anew, completes, with the disturbances given. -/
def State.recomputeLine (s : State) (o y : Nat) (fa fb : Flips) : State :=
  match (s.outp o).fifoAt y with
  | some .recompute =>
    let (s, failed) := s.fetchLine o y
    if failed then (s.maskLine o y 4 (s.crossing o y)).putFifo o y (.masked 4)
    else
    let px := s.composeLine o y
    let a := disturb fa px
    let b := disturb fb px
    if lineSig a = lineSig b then ((s.count (.CMP_OC_LINECHK_RECOMPUTED o)).blackLines o y).putFifo o y (.good a b)
    else (s.maskLine o y 1 (s.crossing o y)).putFifo o y (.masked 1)
  | _ => s

/-! ### Direct insertion (R170 to R174) -/

/-- T_pix of an output: its pixel time in ns, P_tick ÷ (H_TOTAL × V_TOTAL) (R130). -/
def State.tPix (s : State) (o : Nat) : Rat :=
  s.pTick / ((s.get (.OUT_HTIM0_TOTAL o) * s.get (.OUT_VTIM0_TOTAL o) : Nat) : Rat)

/-- What became of the direct pixels of a layer's part of a line: pixels placed so far (column, pixel), and
whether the rest is cut off. -/
structure DirectLine where
  put : List (Nat × Px)
  cut : Bool
  deriving DecidableEq, Repr

/-- The stored pixel of column `c` in a slot's store, for an input line. -/
def SlotSt.pixel (x : SlotSt) (line c : Nat) : Option Px :=
  (x.store.find? fun g => g.line == line && g.index == c / 16).bind fun g => g.px[c % 16]?

/-- R93, R102: a pixel of a stored format with its samples at 10 bits. -/
def toTen (fmt : Nat) (p : Px) : Px :=
  if fmtDeep fmt then p
  else if fmt = 5 then ⟨widen8 p.a, widen8 p.b, widen8 p.c⟩
  else ⟨4 * p.a, 4 * p.b, 4 * p.c⟩

/-- R170: a direct pixel at 10 bits, widened horizontally (R102) and converted to RGB (R103). -/
def SlotSt.converted (x : SlotSt) (csc : Csc) (fmt line c : Nat) (p : Px) : Px :=
  let at_ := fun (k : Nat) => (x.pixel line k).map (toTen fmt)
  let p := toTen fmt p
  let q : Px :=
    if 5 ≤ fmt ∨ c % 2 = 0 then p
    else
      let left := (at_ (c - 1)).getD p
      let right := (at_ (c + 1)).getD left
      ⟨p.a, (left.b + right.b + 1) / 2, (left.c + right.c + 1) / 2⟩
  csc.apply q

/-- R172: the checks of one segment; 0 passes, else the cause code of CAP_DIR_LAST (1 LATE, 2 TAG, 3 SYMBOL,
4 ROUTE). -/
def segmentCheck (seg : Option Segment) (src : BitVec 16) (tag : Option (BitVec 8)) (tIns : Word) : Nat :=
  match seg with
  | none => 1
  | some g =>
    if g.src ≠ src then 4
    else if 0 ≤ wordDiff g.arrival tIns then 1
    else if tag.isSome ∧ tag ≠ some g.seq8 then 2
    else if g.symErr then 3
    else 0

/-- R172, R174: one segment of direct slot `j` at insertion; gives the state and the pixels to insert. -/
def State.insertSegment (s : State) (o j l : Nat) (inLine y idx : Nat) (tIns : Word) (acc : DirectLine) :
    State × DirectLine :=
  let g := s.geo l
  let x := s.slot o j
  let cols := (List.range 16).filterMap fun k =>
    let c := 16 * idx + k
    if g.cx ≤ c ∧ c < g.cx + g.cw then some c else none
  let fold := s.foldColour o
  let filled := cols.map fun c => (g.dx + (c - g.cx), fold)
  if acc.cut then (s, { acc with put := acc.put ++ filled })
  else
    let seg := x.store.find? fun e => e.line == inLine && e.index == idx
    let cause := segmentCheck seg g.src x.tagSeq tIns
    let first := (x.tagSeq <|> (seg.filter fun e => decide (wordDiff e.arrival tIns < 0)).map (·.seq8))
    let s := s.updSlot o j fun x => { x with tagSeq := first }
    match cause, seg with
    | 0, some e =>
      let slack := wordDiff tIns e.arrival
      let fmt := s.storeFmt g.src
      let px := cols.map fun c =>
        (g.dx + (c - g.cx), x.converted (s.csc g.csc) fmt inLine c ((x.pixel inLine c).getD black))
      let s := s.updSlot o j fun x => { x with
        any := true,
        slackMin := if x.any then min x.slackMin slack else slack,
        slackMax := if x.any then max x.slackMax slack else slack,
        ok := x.ok && decide (slack ≤ 250) }
      (s, { acc with put := acc.put ++ px })
    | _, _ =>
      let s := s.count (.CAP_DIR_CNT_SEGMENTS o j)
      let s := ((s.set (.CAP_DIR_LAST_CAUSE o j) cause).set (.CAP_DIR_LAST_LINE o j) y).set
        (.CAP_DIR_LAST_TICK o j) s.tick16
      let s := (s.setB .CAP_INT_STATUS_DIRECT_MASK true).updSlot o j fun x => { x with ok := false }
      if cause = 4 then
        (s.updTile l fun t => { t with misroute := true }, { acc with put := acc.put ++ filled })
      else
        let s := (s.count (.CAP_DIR_CNT_LINES o j)).reportMask o y 6 [l]
        (s, { put := acc.put ++ filled, cut := true })

/-- R170 to R172: the direct layers of output `o` at line `y`; columns and pixels to insert. -/
def State.insertDirect (s : State) (o y : Nat) (t : Word) : State × List (Nat × Px) :=
  (List.range 4).foldl (fun (acc : State × List (Nat × Px)) j =>
    let (s, put) := acc
    match (s.slot o j).layer with
    | none => (s, put)
    | some l =>
      let g := s.geo l
      if (s.shows l = .live ∨ s.shows l = .degraded) ∧ g.dy ≤ y ∧ y < g.dy + g.dh ∧ 0 < g.cw then
        let inLine := g.cy + (y - g.dy)
        let segs := (List.range ((g.cx + g.cw - 1) / 16 + 1)).filter fun k => decide (g.cx / 16 ≤ k)
        let (s, d) := segs.foldl (fun (a : State × DirectLine) k =>
          let x0 := g.dx + (max (16 * k) g.cx - g.cx)
          let tIns := t + BitVec.ofInt 32 ((x0 : Rat) * s.tPix o).floor
          a.1.insertSegment o j l inLine y k tIns a.2) (s, ⟨[], false⟩)
        (s, put ++ d.put)
      else (s, put)) (s, [])

/-! ### LINE_SCAN (R119, R146, R147, R171) -/

/-- Place pixels over a line. -/
def overlay (line : List Px) (put : List (Nat × Px)) : List Px :=
  line.mapIdx fun x p => match put.find? (·.1 == x) with
    | some (_, q) => q
    | none => p

/-- R94, R146: draw the marker plane over a line, entry 0 transparent. -/
def State.drawMarkers (s : State) (o k y : Nat) (line : List Px) : List Px :=
  let drawn := s.drawn o
  line.mapIdx fun x p => match s.marker o k drawn x y with
    | 0 => p
    | e => s.palette o e

/-- The state as mixer copy B of output `o` sees it: with its own set of rectangles (R417). -/
def State.copyB (s : State) (o : Nat) : State := s.updOut o fun x => { x with alarms := x.alarmsB }

/-- R418: alarm pixels that a line carries. -/
def State.alarmCount (s : State) (o y : Nat) : Nat :=
  ((List.range (s.hAct o)).filter fun x =>
    (s.outp o).alarms.on.any fun a => s.alarmEntry o a x y != 0).length

/-- The first position at which two lines differ. -/
def firstDiff : List Px → List Px → Nat → Option Nat
  | a :: as, b :: bs, n => if a = b then firstDiff as bs (n + 1) else some n
  | [], [], _ => none
  | _, _, n => some n

/-- Is column `x` of line `y` a pixel of a direct layer (R171)? -/
def State.directAt (s : State) (o x y : Nat) : Bool :=
  (List.range 4).any fun j => match (s.slot o j).layer with
    | some l => (s.geo l).has x y
    | none => false

/-- R147, R171: compare the copies; the line that copy A sends on, and whether and where they differed. -/
def State.mixCompare (s : State) (o y : Nat) (a b : List Px) : List Px × Option Nat :=
  let fold := s.foldColour o
  match firstDiff a b 0 with
  | none => (a, none)
  | some x =>
    let outside := (List.range a.length).any fun i =>
      decide (a.getD i black ≠ b.getD i black) && !s.directAt o i y
    if outside then (a.map fun _ => fold, some x)
    else (a.mapIdx fun i p => if x ≤ i then fold else p, some x)

/-- R155: does a line of output `o` that begins at `t` go out as video? A blank source takes effect before the first active
line that begins more than 10 µs after it is set. -/
def State.lineGoes (s : State) (o : Nat) (t : Word) : Bool :=
  let st := s.get (.OUT_STATUS_STATE o)
  st == txVideo || (st == txBlank && match (s.outp o).blankAt with
    | some b => decide (0 ≤ wordDiff t b ∧ wordDiff t b ≤ 10000)
    | none => false)

/-- R217: does output `o` drive its pads? Not with the near-end serial loop. -/
def State.padOn (s : State) (o : Nat) : Bool := s.get (.SER_QCTRL_LOOP o) != 1

/-- R155: is this line still sent as video? -/
def State.lineSent (s : State) (o : Nat) (t : Word) : Bool := (s.outp o).sending && s.lineGoes o t

/-- R119, R146 to R148: the mixer takes line `i.line` one line ahead of scan-out. -/
def State.scanLine (s : State) (o : Nat) (i : ScanIn) : State :=
  let y := i.line
  let x := s.outp o
  if x.running = false ∨ x.active = false ∨ s.vAct o ≤ y then s
  else
    let s := s.at_ i.t
    let rc := s.get (.CMP_OC_STATUS_RCREDIT o)
    let s := s.set (.CMP_OC_STATUS_RCREDIT o) (min (rc + 1) 6)
    let foldLine := List.replicate (s.hAct o) (s.foldColour o)
    let (s, base) : State × (List Px × List Px) := match x.fifoAt y with
      | some (.good a b) => (s, (a, b))
      | some (.masked _) => (s, (foldLine, foldLine))
      | _ => (s.maskLine o y 3 (s.crossing o y), (foldLine, foldLine))
    let s := s.updOut o fun x => { x with fifo := x.fifo.filter fun e => decide (y < e.line) }
    let (s, put) := s.insertDirect o y i.t
    let k := s.get (.OUT_FRAME_FRAME o)
    let a := disturb i.flipA (s.drawMarkers o k y (overlay base.1 put))
    let b := disturb i.flipB ((s.copyB o).drawMarkers o k y (overlay base.2 put))
    let (n, m) := (s.alarmCount o y, (s.copyB o).alarmCount o y)
    let s := s.updOut o fun x => { x with alarmA := x.alarmA + (n - i.lossA), alarmB := x.alarmB + (m - i.lossB) }
    let (line, diff) := s.mixCompare o y a b
    let s := match diff with
      | none => s
      | some c =>
        let s := ((s.count (.OUT_MIX_MISMATCH o)).set (.OUT_MIX_LAST_LINE o) y).setB .OUT_INT_STATUS_MIX_MASK true
        let s := s.reportMask o y 5 (s.crossing o y)
        s.each (List.range 4) fun s j => match (s.slot o j).layer with
          | some l => if (s.geo l).has c y then
              ((s.set (.CAP_DIR_LAST_CAUSE o j) 5).set (.CAP_DIR_LAST_LINE o j) y).set (.CAP_DIR_LAST_TICK o j) s.tick16
            else s
          | none => s
    let sentA := disturb i.flipF (s.formatLine o k y line)
    let sentB := s.formatLine o k y b
    let sent := s.lineSent o i.t
    let s := s.updOut o fun x => { x with
      crcAct := crc32cFeed x.crcAct (words16 (comps sentA)),
      crcExp := crc32cFeed x.crcExp (words16 (comps sentB)),
      sending := sent, allSent := x.allSent && sent }
    let s := s.copyBack o y line
    if sent && s.padOn o then s.emit (.videoLine o y sentA) else s

/-! ### OUTPUT_FRAME_START (R134, R145, R77, R151) -/

/-- R145: record the flip of a commit at the first start of active video under it. -/
def State.recordFlip (s : State) (o : Nat) : State :=
  if (s.outp o).flipDue then
    let ext := s.epochValid
    let s := s.setW (.OUT_FLIP_FRAME_FRAME o) (s.word (Reg.OUT_FRAME o))
    let s := s.setW (.OUT_FLIP_LO_TIME_LO o) s.time.now
    let s := s.setW (.OUT_FLIP_HI_TIME_HI o) (if ext then s.word Reg.TIM_EPOCH else 0)
    (s.setB (.OUT_STATUS_FLIP_EXT o) ext).updOut o fun x => { x with flipDue := false }
  else s

/-- R154: the time an AUX transaction takes at most with its retries, in ns: 1 + 2 + 7 attempts of 400 µs, 50 µs apart. -/
def auxSpan : Nat := 4450000

/-- R77, R154: when the next sink-check read of output `o` is due, in ns from the boundary last placed: after the first active line
of the frame of this tick, or of the next once that frame has begun. -/
def State.sinkDue (s : State) (o : Nat) : Rat :=
  (s.get (.OUT_PHASE_PHASE o) : Rat) + s.pTick / ((s.get (.OUT_VTIM0_TOTAL o) : Nat) : Rat)
    + if (s.outp o).frameTick = s.tick then s.pTick else 0

/-- R154: can a Banker request started now finish, with its retries, before the next sink-check read is due? -/
def State.auxFits (s : State) (o : Nat) : Bool :=
  !s.on (.CMP_LV_OUT_SINK_ACTIVE o) || !(s.outp o).running
    || decide (((wordDiff s.time.now s.dealer.edge + auxSpan : Int) : Rat) ≤ s.sinkDue o)

/-- R154: the request at the head of an output's AUX queue is sent, or, one of the Banker's that would not finish in time, waits. -/
def State.auxLaunch (s : State) (o : Nat) : State :=
  match (s.outp o).aux with
  | [] => s.updOut o fun x => { x with auxHeld := false }
  | r :: _ =>
    if r.kind = 0 ∧ s.auxFits o = false then s.updOut o fun x => { x with auxHeld := true }
    else (s.updOut o fun x => { x with auxHeld := false }).emit (.auxSend o r)

/-- R77: the sink-check read of the tick is started after the first active line when the previous frame was sent
as video; otherwise the run of misses starts afresh. A tick without a read lets a waiting request go. -/
def State.sinkRead (s : State) (o : Nat) : State :=
  if (s.outp o).prevVideo && s.on (.CMP_LV_OUT_SINK_ACTIVE o) then
    (s.updOut o fun x => { x with aux := ⟨1, 0, 0x240, 7, [], 0, 0⟩ :: x.aux }).auxLaunch o
  else
    let s := if (s.outp o).prevVideo then s
      else (s.set (.CMP_LV_OUT_MISS_RUN o) 0).updOut o fun x => { x with sinkPrev := none }
    if (s.outp o).auxHeld then s.auxLaunch o else s

/-- Tiles of output `o` that are EMPTY while their registers still show otherwise (R87). -/
def State.newlyEmpty (s : State) (o : Nat) : List Nat :=
  s.tiles.filterMap fun (l, t) =>
    if t.output = o ∧ t.cmp.state = .empty ∧ s.get (.CMP_LV_STATE_STATE l) ≠ 0 then some l else none

/-- R416, R417: the rectangles of the last set that each mixer copy received that are active in the frame that begins. -/
def State.takeAlarms (s : State) (o : Nat) (video : Bool) : State :=
  let flash := s.get (.OUT_FRAME_FRAME o) / 32 % 2 == 0
  let active := fun (x : AlarmSet) =>
    { x with on := if video then x.on.filter fun a => flash || !s.on (.SCO_ALM_CFG_FLASH o a) else [] }
  let s := s.updOut o fun x => { x with alarms := active x.alarmSet, alarmsB := active x.alarmSetB }
  let on := (s.outp o).alarms.on
  let f : Fld := if o < 8 then .SCO_ALM_ON_LO_ACTIVE else .SCO_ALM_ON_HI_ACTIVE
  s.set f ((List.range 4).foldl (fun w a => putBitN w (4 * (o % 8) + a) (on.contains a)) (s.get f))

/-- R148: the timing that the MSA carries. -/
def State.msaWords (s : State) (o : Nat) : List Word :=
  [s.word (Reg.OUT_HTIM0 o), s.word (Reg.OUT_HTIM1 o), s.word (Reg.OUT_VTIM0 o), s.word (Reg.OUT_VTIM1 o)]

/-- R87, R134, R145, R148, R151, R155, R156: the start of active video of an output frame. -/
def State.frameStart (s : State) (o : Nat) (t : Word) : State :=
  if (s.outp o).running = false ∨ (s.outp o).active = true then s
  else
    let s := (s.at_ t).next (.OUT_FRAME_FRAME o)
    let s := if s.get (.OUT_STATUS_STATE o) = txBlank ∧ s.get (.OUT_STATUS_BLANK_SRC o) = 0 then
        s.set (.OUT_STATUS_STATE o) txVideo else s
    let video := s.lineGoes o t && !(s.outp o).videoWait
    let s := s.set (.CMP_OC_STATUS_RCREDIT o) 6
    let s := s.chargeBlocks (26 + o) (ceilDiv (s.fetchCharge s.word (s.drawn o) o) 256)
    let s := if video && s.padOn o then s.emit (.msa o (s.msaWords o) (if s.on (.OUT_STATUS_BPC8 o) then 0x20 else 0x40) (s.vidRatio o)) else s
    let s := s.updOut o fun x => { x with
      active := true, frameTick := s.tick, sending := video, allSent := video, blankAt := if video then x.blankAt else none,
      crcAct := 0xFFFFFFFF#32, crcExp := 0xFFFFFFFF#32, alarmA := 0, alarmB := 0 }
    let s := s.takeAlarms o video
    let s := s.each (s.layersOf o ++ s.newlyEmpty o) State.showTile
    let s := s.set .CMP_LV_STATUS_FOLDED s.foldedCount
    let s := s.each (List.range 4) fun s j => s.updSlot o j fun x => { x with
      tagSeq := none, ok := true, any := false, slackMin := 0, slackMax := 0 }
    let s := if s.on (.OUT_CTRL_EN o) then s.updDealer fun d => { d with actStarted := true } else s
    let s := s.recordFlip o
    s.sinkRead o

/-! ### ACTIVE_VIDEO_END (R74, R120, R141, R174) -/

/-- R174: at the end of a frame a direct slot is LOCKED or not. -/
def State.slotEnd (s : State) (o j : Nat) : State :=
  let x := s.slot o j
  match x.layer with
  | none => s
  | some l =>
    if s.shows l = .live ∨ s.shows l = .degraded then
      let lock := x.ok && x.any
      let s := (s.setB (.CAP_DIR_STAT_LOCKED o j) lock).setI (.CAP_DIR_SLACK_MIN o j) x.slackMin
      let s := s.setI (.CAP_DIR_SLACK_MAX o j) x.slackMax
      if lock then s else s.setB .CAP_INT_STATUS_DIRECT_UNLOCK true
    else s

/-- R114, R120, R174: what the end of a frame settles for the tiles of an output. The spec does not say what CMP_VL_STAT_L.BUF
reads while a tile shows no stored buffer: it keeps its value (log 59). -/
def State.tilesEnd (s : State) (o : Nat) : State :=
  let s := s.each (s.layersOf o) fun s l =>
    let t := s.tile l
    let s := (s.set (.CMP_VL_STAT_MASKED l) (min t.masked 63)).setB (.CMP_VL_STAT_FALLBACK l) t.fellBack
    let s := match t.cmp.shown.bind (·.desc) with
      | some d => s.set (.CMP_VL_STAT_BUF l) d
      | none => s
    s.updTile l fun t => { t with
      maskedLast := t.masked, masked := 0, misrouteLast := t.misroute, misroute := false, fellBack := false, blackFrom := none,
      cmp := { t.cmp with fallback := none }, sco := { t.sco with fallback := none } }
  s.leases o

/-- R74, R120, R141, R151, R156: the end of an output's active video. -/
def State.frameEnd (s : State) (o : Nat) : State :=
  let x := s.outp o
  if x.active = false then s
  else
    let act := x.crcAct ^^^ 0xFFFFFFFF#32
    let s := s.setW (.CMP_LV_SCAN_S_ACT o) act
    let s := s.set (.CMP_OC_MASKED_LAST_FRAME o) x.composerMasked
    let s := if 0 < x.linesMasked then s.log 0x0304 ([o] ++ by2 x.linesMasked ++ [x.firstCause]) else s
    let s := s.each (List.range 4) (fun s j => s.slotEnd o j)
    let s := s.tilesEnd o
    let area := fun (z : AlarmSet) => (z.on.map fun a => s.get (.SCO_ALM_SIZE_X o a) * s.get (.SCO_ALM_SIZE_Y o a)).sum
    let s := s.updOut o fun x => { x with
      active := false, fifo := [], sending := false, prevVideo := x.allSent,
      noUser := [], linesMasked := 0, composerMasked := 0, firstLine := 0, firstCause := 0,
      checkPending := x.allSent, sigAct := act, sigExp := x.crcExp ^^^ 0xFFFFFFFF#32,
      alarmChkA := x.alarmA, alarmChkB := x.alarmB, alarmArea := area x.alarms, alarmAreaB := area x.alarmsB,
      sigHist := if x.allSent then x.sigHist else [], misRun := if x.allSent then x.misRun else 0,
      videoWait := x.videoWait && !(s.get (.OUT_STATUS_STATE o) == txVideo || s.get (.OUT_STATUS_STATE o) == txBlank) }
    s.copyEnd o

/-! ### SCAN_SIGNATURE_CHECK (R75, R418) -/

/-- R75, R418: the Scorer checks the signatures and alarm counts of a frame that was sent as video. Where both of R75's causes
hold in one frame the rule does not say which is shown: SCAN_FROZEN is (log 58). -/
def State.checkSignatures (s : State) (o : Nat) : State :=
  let x := s.outp o
  if x.checkPending = false then s
  else
    let differ : Bool := decide (x.sigAct ≠ x.sigExp)
    let run := if differ then x.misRun + 1 else 0
    let frozen := match x.sigHist with
      | a :: b :: _ => decide (x.sigAct = a ∧ a = b)
      | _ => false
    let s := s.setB (.CMP_LV_OUT_SCAN_MISMATCH o) differ
    let s := if differ then s.log 0x0303 ([o] ++ by4 (s.get (.OUT_FRAME_FRAME o))) else s
    let s := s.updOut o fun x => { x with
      checkPending := false, misRun := run, sigHist := [x.sigAct] ++ x.sigHist.take 1 }
    let s := if frozen then s.scorerBlank o causeScanFrozen
      else if 2 ≤ run then s.scorerBlank o causeScanMismatch else s
    let alarmOk := x.alarmChkA == x.alarmArea && x.alarmChkB == x.alarmAreaB
    let s := (s.setB (.SCO_ALMCHK_OK o) alarmOk).set (.SCO_ALMCHK_EXPECTED o) x.alarmArea
    if alarmOk then s else s.safeCause 5

/-! ### SINK_CRC_READING (R77) -/

/-- R77: a sink-check reading completes (none: it failed after its retries). -/
def State.sinkReading (s : State) (o : Nat) (r : Option SinkReading) : State :=
  if s.on (.CMP_LV_OUT_SINK_ACTIVE o) = false then s
  else
    let prev := (s.outp o).sinkPrev
    let miss := match r, prev with
      | none, _ => true
      | some _, none => false
      | some a, some b => decide (a.count = b.count ∨ (a.crcR = b.crcR ∧ a.crcG = b.crcG ∧ a.crcB = b.crcB))
    let s := match r with
      | some a => ((s.set (.CMP_LV_SINKCRC_CRC_G o) a.crcG.toNat).set (.CMP_LV_SINKCRC_COUNT o) a.count.toNat).updOut o
          fun x => { x with sinkPrev := some a }
      | none => s
    if miss then
      let s := (s.count (.CMP_LV_OUT_MISS_RUN o)).setB .CMP_LV_INT_STATUS_SINK_MISS true
      if s.get (.CMP_LV_OUT_MISS_LIMIT o) ≤ s.get (.CMP_LV_OUT_MISS_RUN o) then s.scorerBlank o causeSinkStall else s
    else s.set (.CMP_LV_OUT_MISS_RUN o) 0

end Sys2Proof.Machine
end

