-- ==== Sys2Proof/Machine/Commit.lean ====
section
/-!
DEFINITION. Commits (R64, R122, R123, R140 to R145): the pending set and GO, latching at the deal point,
switching to the latched values, and what a commit does to tiles, scalers, skip maps and direct slots.
-/

namespace Sys2Proof.Machine

open Sys2Proof

/-! ### Shadowed words -/

/-- Marker palette entries 0 to 7 (R68, R129), which no write reaches: entry 0 is transparent, entries 1 to 7 are the
Scorer's. -/
def paletteFixed (a : Nat) : Bool :=
  decide (Reg.CMP_MKP 0 0 ≤ a ∧ a < Reg.CMP_MKP 16 0) && decide ((a - Reg.CMP_MKP 0 0) % 64 < 32)

/-- The SH bits of the register at an address. -/
def shMask (a : Nat) : Word :=
  if paletteFixed a then 0
  else match (blockRegs a).find? (·.hit a) with
    | none => 0
    | some d => d.fields.foldl (fun m f => if f.ty = .sh then m ||| (⟨a, f.lo, f.wid⟩ : Fld).mask else m) 0

/-- Put the SH bits of `new` over `old`. -/
def mergeSh (a : Nat) (old new : Word) : Word := (old &&& ~~~shMask a) ||| (new &&& shMask a)

/-- The SH words a change carries. -/
def Change.sh (c : Change) : Tab Word :=
  match c.kind with
  | .commit sh _ => sh
  | .wall sh _ => sh
  | _ => []

/-- The layout a change selects. -/
def Change.layout (c : Change) : Option Nat :=
  match c.kind with
  | .commit _ y => y
  | .wall _ y => y
  | _ => none

/-- Take the SH words of a change into force. -/
def State.takeWords (s : State) (sh : Tab Word) : State :=
  s.each sh fun s (a, w) => s.setWord a (mergeSh a (s.word a) w)

/-- DLR_STATUS.PENDING: changes awaiting evaluation or not yet in force (R35, R38). -/
def State.showPending (s : State) : State := s.set .DLR_STATUS_PENDING s.dealer.changes.length

/-- A layout of the image. -/
def State.layout? (s : State) (y : Nat) : Option LayoutDesc := s.image.layouts[y]?

/-! ### CMP_COMMIT_GO (R122, R123, R142) -/

/-- R142: the tick whose output frames are the first to begin after a GO written at `t`. -/
def State.onTimeTick (s : State) (t : Word) : Tick :=
  let anyOn := outputs.any fun o => s.on (.OUT_CTRL_EN o)
  let started := if anyOn then s.dealer.actStarted else decide (40000 ≤ wordDiff t s.tickTime)
  if started then s.tick + 1 else s.tick

/-- Answer a commit other than OK. -/
def State.commitCode (s : State) (code reason : Nat) : State :=
  ((s.set .CMP_COMMIT_STATUS_CODE code).set .CMP_COMMIT_STATUS_REASON reason).setB .CMP_INT_STATUS_COMMIT_REFUSED true

/-- R35, R38: a fifth change is answered BUSY. -/
def State.changeRefused (s : State) : State := s.setB .DLR_INT_STATUS_ADM_REFUSED true

/-- Is this node's part of a wall commit armed? -/
def State.wallArmed (s : State) : Bool := s.on .CMP_COMMIT_WALL_ARMED

/-- R122, R123: a write of GO at time `t`. -/
def State.commitGo (s : State) (t : Word) : State :=
  let s := s.at_ t
  if s.dealing = false then { s.commitCode 0x02 0 with pend := [], pendLayout := none }
  else if s.on .CMP_COMMIT_PENDING then s.commitCode 0x01 0
  else if s.wallArmed then s.commitCode 0x01 0
  else if 4 ≤ s.dealer.changes.length then s.changeRefused.commitCode 0x01 0
  else
    let c : Change :=
      { id := s.dealer.nextChange, kind := .commit s.pend s.pendLayout, stage := .waiting, place := [],
        dueTick := s.onTimeTick t }
    let s := s.updDealer fun d => { d with changes := d.changes ++ [c], nextChange := d.nextChange + 1 }
    (s.setB .CMP_COMMIT_PENDING true).showPending

/-- R122: leaving DEALING discards every commit not yet in force, and CODE reads STATE. -/
def State.dropCommits (s : State) : State :=
  let s := s.updDealer fun d => { d with changes := [], reassign := [], emptied := [] }
  let s := { s with pend := [], pendLayout := none }.set .CMP_COMMIT_STATUS_CODE 0x02
  ((s.setB .CMP_COMMIT_PENDING false).setB .CMP_COMMIT_WALL_ARMED false).showPending

/-! ### The deal point (R140, R141, R143) -/

/-- The words in force once a list of changes has been taken, at one address. -/
def State.wordAfter (s : State) (cs : List Change) (a : Nat) : Word :=
  cs.foldl (fun w c => match Tab.find c.sh a with
    | some v => mergeSh a w v
    | none => w) (s.word a)

/-- The last layout that a list of changes selects. -/
def lastLayout (cs : List Change) : Option Nat := cs.foldl (fun y c => c.layout <|> y) none

/-- Layers enabled in force or by one of the changes, ascending. -/
def State.layersTouched (s : State) (cs : List Change) : List Nat :=
  (listedLayers s.regs ++ cs.flatMap fun c => listedLayers c.sh).foldl
    (fun acc l => if acc.contains l then acc else ascInsert l acc) []

/-- Does a layer count as a tile with a source? -/
def Geo.isTile (g : Geo) : Bool := g.en && !g.noSrc

/-- R64: does the change of layout give the layer a different contract? -/
def State.newContract (s : State) (l : Nat) (y : Option Nat) : Bool :=
  match y.bind s.layout? with
  | none => false
  | some ly => match ly.contracts.find? (·.1 == l), (s.layout? s.dealer.layout).bind (·.contracts.find? (·.1 == l)) with
    | some (_, a), some (_, b) => decide (a ≠ b)
    | some _, none => true
    | none, _ => false

/-- R64: tiles that the changes assign anew, and those they empty. -/
def State.tileChanges (s : State) (cs : List Change) : List Nat × List Nat :=
  let y := lastLayout cs
  let ls := s.layersTouched cs
  let new := fun l => geoOf (s.wordAfter cs) l
  (ls.filter fun l =>
      let a := s.geo l
      let b := new l
      b.isTile && (!a.isTile || a.src != b.src || a.output != b.output || s.newContract l y),
   ls.filter fun l => (s.geo l).isTile && !(new l).isTile)

/-- R99, R141, R143: at the device deal point, admitted commits and released armed parts are latched, and scalers assigned from the
layout then in force. COMMIT_LATE and LATE_CNT change here, the moment standing in no rule (R142; log 105). -/
def State.dealPoint (s : State) : State :=
  if s.dealing = false ∨ s.dealer.dealPassed = true then s
  else
    let n := s.tick + 1
    let takes := fun (c : Change) => match c.stage with
      | .admitted => true
      | .released t => decide (t = n)
      | _ => false
    let now := s.dealer.changes.filter takes
    let (re, em) := s.tileChanges now
    let plan := outputs.filterMap fun o => (s.assignScalers (s.wordAfter now) (s.layersTouched now) o).map fun a => (o, a)
    let s := s.updDealer fun d => { d with
      dealPassed := true,
      changes := d.changes.map fun c => if takes c then { c with stage := .latched n } else c,
      reassign := re, emptied := em, plan := plan }
    s.each now fun s c => match c.kind with
      | .commit _ _ =>
        if decide (0 < wordDiff n c.dueTick) then
          ((s.setB .OUT_COMMIT_STATUS_COMMIT_LATE true).count .OUT_COMMIT_STATUS_LATE_CNT).setB
            .OUT_INT_STATUS_COMMIT_LATE true
        else s.setB .OUT_COMMIT_STATUS_COMMIT_LATE false
      | _ => s

/-! ### Switching (R141, R144) -/

/-- The changes latched for tick `n`. -/
def State.latchedFor (s : State) (n : Tick) : List Change :=
  s.dealer.changes.filter fun c => decide (c.stage = .latched n)

/-- Does an SH word belong to output `o` alone: its composer, palettes, graphic layers and OUT_CTRL word, or
a video layer that is and stays on it? -/
def State.ownWord (s : State) (cs : List Change) (o a : Nat) : Bool :=
  decide (a = Reg.OUT_CTRL o)
  || decide (Reg.CMP_OC_CTRL o ≤ a ∧ a < Reg.CMP_OC_CTRL o + 0x80)
  || decide (Reg.CMP_MKP o 0 ≤ a ∧ a < Reg.CMP_MKP o 0 + 0x40)
  || decide (Reg.CMP_GL_CTRL o 0 ≤ a ∧ a < Reg.CMP_GL_CTRL o 0 + 0x100)
  || (decide (Reg.CMP_VL_CTRL 0 ≤ a ∧ a < Reg.CMP_VL_CTRL 512) &&
      let l := (a - Reg.CMP_VL_CTRL 0) / 0x20
      (s.geo l).output == o && (geoOf (s.wordAfter cs) l).output == o)

/-- R254: the lanes of a quad whose link standard calls them locked and good; a lane that loses lock counts it. -/
def State.linkLanes (s : State) (q : Nat) (sync good : Nat → Bool) : State :=
  s.each (List.range 4) fun s l =>
    let s := if s.on (.SER_LSTAT_SYNC q l) && !sync l then s.count (.SER_LSTAT_LOCK_LOSS q l) else s
    (s.setB (.SER_LSTAT_SYNC q l) (sync l)).setB (.SER_LSTAT_GOOD q l) (good l)

/-- R254: no lane of a quad has symbol lock. -/
def State.noLock (s : State) (q : Nat) : State := s.linkLanes q (fun _ => false) fun _ => false

/-- The Banker's AUX request of an output ends with a result (OUT_AUX_STAT). RETRIES holds retries and defers together, which can be
more than its field holds: it stops at 7 (log 106). -/
def State.auxEnd (s : State) (o result retries : Nat) : State :=
  (((s.setB (.OUT_AUX_STAT_BUSY o) false).set (.OUT_AUX_STAT_RESULT o) result).set (.OUT_AUX_STAT_RETRIES o)
    (min retries 7)).setB .OUT_INT_STATUS_AUX_DONE true

/-- R144, R151: an EN that takes effect moves the transmitter. An EN of 0 ends a Banker request in flight with no sink, for which the
spec names no result (log 66). -/
def State.txEnable (s : State) (o : Nat) : State :=
  let st := s.get (.OUT_STATUS_STATE o)
  if s.on (.OUT_CTRL_EN o) then
    if st = txIdle ∧ s.dealing = true then
      s.set (.OUT_STATUS_STATE o) txWaitHpd
    else s
  else
    let s := if s.on (.OUT_AUX_STAT_BUSY o) then s.auxEnd o 5 0 else s
    ((s.set (.OUT_STATUS_STATE o) txIdle).linkLanes o (fun _ => false) fun _ => false).updOut o fun x => { x with videoWait := true, aux := [], auxHeld := false, fromCfg := none }

/-- R133: a generator that starts anew ends a retime that is due. -/
def State.endRetime (s : State) (o : Nat) : State :=
  if (s.outp o).restart then (s.updOut o fun x => { x with restart := false }).clearBlank o 2 else s

/-- R133, R141: at the end of its active video an output switches to the latched values; one that they enable starts with the
boundary of the commit. -/
def State.switchOutput (s : State) (o : Nat) : State :=
  let cs := s.latchedFor (s.tick + 1)
  let was := s.on (.OUT_CTRL_EN o)
  let s := s.each cs fun s c => s.takeWords (c.sh.filter fun (a, _) => s.ownWord cs o a)
  let s := s.when (!was && s.on (.OUT_CTRL_EN o)) fun s => s.updOut o fun x => { x with exact := true }
  if cs.isEmpty ∨ s.on (.OUT_CTRL_EN o) = true then s else s.txEnable o

/-- R74, R141: the end of active video of an output frame: the frame is settled, and the output switches. -/
def State.activeEnd (s : State) (o : Nat) : State :=
  if (s.outp o).active then (s.frameEnd o).switchOutput o else s

/-! ### Effect at the boundary -/

/-- R99, R105, R129: an assignment of scalers and the skip map of an output under the layout in force. -/
def State.planOutput (s : State) (asg : Option (List (Nat × Nat × Option Nat))) (o : Nat) : State :=
  let ls := listedLayers s.regs
  let s := match asg with
    | some asg => s.putScalers o asg
    | none => s
  let m := skipMap s.word ls o
  (s.set (.CMP_OC_SKIP_BANDS o) m.length).updOut o fun x => { x with skip := m }

/-- R169: the direct layers of an output take direct slots 0 to 3 in ascending layer index. -/
def State.planSlots (s : State) (o : Nat) : State :=
  let ls := (listedLayers s.regs).filter fun l => (s.geo l).visible o && (s.geo l).direct
  s.each (List.range 4) fun s j =>
    let old := (s.slot o j).layer
    match ls[j]? with
    | some l =>
      let g := s.geo l
      let s := if old = some l ∧ s.get (.CAP_DIR_STAT_SRC_ID o j) = g.src.toNat then s
        else s.updSlot o j fun _ => { SlotSt.init with layer := some l }
      (((s.set (.CAP_DIR_STAT_LAYER o j) l).setB (.CAP_DIR_STAT_ACTIVE o j) true).set
        (.CAP_DIR_STAT_HOPS o j) (s.srcDesc g.src).hops).set (.CAP_DIR_STAT_SRC_ID o j) g.src.toNat
    | none => (s.setWord (Reg.CAP_DIR_STAT o j) 0).updSlot o j fun _ => .init

/-- R131, R140: nominal start of active video and deal point of an output, in ns from the boundary. -/
def State.actOffset (s : State) (o : Nat) : Rat := (s.get (.OUT_PHASE_PHASE o) : Rat)
def State.dealOffset (s : State) (o : Nat) : Rat :=
  s.actOffset o + ((s.vAct o - s.get (.OUT_LEAD_COMMIT_LEAD o) : Nat) : Rat) * s.pTick /
    ((s.get (.OUT_VTIM0_TOTAL o) : Nat) : Rat)

/-- The least of some fractions. -/
def minQ (d : Rat) (qs : List Rat) : Rat :=
  match qs with
  | [] => d
  | q :: rest => rest.foldl (fun a b => if b < a then b else a) q

/-- R140: OUT_DEALPT and OUT_ACTSTART over the outputs whose EN is 1 in force. -/
def State.showDealPoint (s : State) : State :=
  let on := outputs.filter fun o => s.on (.OUT_CTRL_EN o)
  let (a, s) := s.roundFree (minQ (s.pTick - 200000) (on.map s.dealOffset))
  let (b, s) := s.roundFree (minQ 40000 (on.map s.actOffset))
  (s.setI .OUT_DEALPT_OFFSET a).setI .OUT_ACTSTART_OFFSET b

/-- R42, R64, R99, R105, R141, R145: latched commits take effect at boundary n (the tick already counts n).
The deal, flow and encode parts of a change follow in the Dealer's own operation. -/
def State.takeCommits (s : State) : State :=
  let n := s.tick
  let cs := s.latchedFor n
  if cs.isEmpty then s
  else
    let wasOn := outputs.filter fun o => s.on (.OUT_CTRL_EN o)
    let s := s.each cs fun s c => s.takeWords c.sh
    let s := match lastLayout cs with
      | none => s
      | some y => match s.layout? y with
        | none => s
        | some ly =>
          let s := (s.updDealer fun d => { d with layout := y, cyclePos := 0 }).set .DLR_STATUS_LAYOUT y
          (s.loadContracts ly).scorerContracts ly
    let s := s.each s.dealer.reassign State.assignTile
    let s := s.each s.dealer.emptied State.emptyTile
    let s := s.compareContracts
    let s := s.each cs fun s c => s.updDealer fun d => { d with place := c.place.foldl (fun t e => Tab.insert t e.1 e.2) d.place }
    let s := s.updDealer fun d => { d with
      reassign := [], emptied := []
      changes := d.changes.filter fun c => decide (c.stage ≠ .latched n) }
    let s := s.each outputs fun s o => (s.planOutput (Tab.find s.dealer.plan o) o).planSlots o
    let s := s.each outputs fun s o =>
      let s := if s.on (.OUT_CTRL_EN o) then s.updOut o fun x => { x with flipDue := true } else s
      let s := if s.on (.OUT_CTRL_EN o) ∧ wasOn.contains o = false then
          (s.endRetime o).updOut o fun x => { x with running := s.declared o, exact := true } else s
      s.txEnable o
    let s := s.showDealPoint
    ((s.setW .CMP_COMMIT_TICK_TICK n).setB .CMP_INT_STATUS_COMMIT_DONE true).showPending

end Sys2Proof.Machine
end

