-- ==== Sys2Proof/Machine/Transmit.lean ====
section
/-!
DEFINITION. DisplayPort transmit (R76, R149 to R158): HPD, link training, retraining, AUX, the sink check, and
what holds FAULT_N low on an output's account (R157).
-/

namespace Sys2Proof.Machine

open Sys2Proof

/-- R150: does a configuration carry the output's timing at `bits` per component? -/
def State.carries (s : State) (o bits : Nat) (c : LinkCfg) : Bool :=
  decide (s.pixClock o * 3 * bits ≤ (laneCount c.lanes * rateBits c.rate : Nat) * (776 / 1000 : Rat))

/-- R152: the configurations in order of trial, from a largest one downwards. -/
def trialOrder (mx : LinkCfg) : List LinkCfg :=
  (List.range (mx.lanes + 1)).reverse.flatMap fun l =>
    (List.range (mx.rate + 1)).reverse.map fun r => ⟨l, r⟩

/-- R152, R153: the configurations that carry the timing, in the order they are tried; a retrain after lost lock starts at the
one in use. -/
def State.trainTries (s : State) (o bits : Nat) (t : TrainIn) (inUse : Option LinkCfg) : List LinkCfg :=
  let mx : LinkCfg := ⟨min (s.get (.OUT_CTRL_LANES_MAX o)) t.sinkMax.lanes, min (s.get (.OUT_CTRL_RATE_MAX o)) t.sinkMax.rate⟩
  let all := trialOrder mx
  let order := match inUse with
    | some c => if all.contains c then all.dropWhile (· != c) else all
    | none => all
  order.filter (s.carries o bits)

/-- R152: a configuration completes within 5 adjustments and 5 loops. -/
def trains (ok : List TrainTry) (c : LinkCfg) : Bool := ok.any fun x => x.cfg == c && decide (x.adjusts ≤ 5 ∧ x.loops ≤ 5)

/-- R152: the first configuration tried that trains. -/
def State.trainPick (s : State) (o bits : Nat) (t : TrainIn) (ok : List TrainTry) (inUse : Option LinkCfg) : Option LinkCfg :=
  (s.trainTries o bits t inUse).find? (trains ok)

/-- R149: the equalisation pattern of a rate: TPS2 at 1.62 and 2.7, TPS3 at 5.4, TPS4 at 8.1 Gbit/s (log 65). -/
def eqPattern (rate : Nat) : Nat := if rate ≤ 1 then 2 else rate + 1

/-- R149, R152: the configurations tried, each with TPS1 and then its equalisation pattern, up to the one that trains. Each has
DOWNSPREAD_CTRL written as 0, and enhanced framing set when the sink has it. -/
def State.sendTraining (s : State) (o bits : Nat) (t : TrainIn) (ok : List TrainTry) (inUse : Option LinkCfg) : State :=
  let all := s.trainTries o bits t inUse
  let failed := all.takeWhile fun c => !trains ok c
  let tried := failed ++ (all.drop failed.length).take 1
  if tried = [] then s
  else (s.emit (.auxSend o ⟨3, 1, 0x107, 1, [0#8], 0, 0⟩)).when (s.padOn o) (·.emit (.training o t.enhanced (tried.map fun c => (c, eqPattern c.rate))))

/-- R76, R152: the sink check starts afresh after training. SINK_ACTIVE then stands until the next training ends: whether it falls when
the transmitter leaves VIDEO or BLANK R86 does not say (log 99). -/
def State.sinkSupport (s : State) (o : Nat) (support : Bool) : State :=
  let mode := s.get (.CMP_LV_OUT_SINK_MODE o)
  let s := (s.set (.CMP_LV_OUT_MISS_RUN o) 0).updOut o fun x => { x with sinkPrev := none }
  if mode = 0 then s.setB (.CMP_LV_OUT_SINK_ACTIVE o) false
  else
    let s := (s.setB (.CMP_LV_OUT_SINK_SUPPORTED o) support).setB (.CMP_LV_OUT_SINK_ACTIVE o) support
    if support then s.emit (.auxSend o ⟨3, 1, 0x270, 1, [1#8], 0, 0⟩)
    else if mode = 2 then s.scorerBlank o causeSinkUnsupported else s

/-- R151, R152: link training ends. -/
def State.trainingEnds (s : State) (o : Nat) (t : TrainIn) : State :=
  if s.get (.OUT_STATUS_STATE o) ≠ txTraining then s
  else
    let want10 := s.get (.OUT_CTRL_BPC o) == 0
    let inUse := (s.outp o).fromCfg
    let at8 := s.on (.OUT_STATUS_BPC8 o)
    let eight := fun (c : Option LinkCfg) => (s.trainPick o 8 t t.ok8 c).map fun c => (c, true)
    let first := if !want10 then eight inUse
      else if inUse.isSome && at8 then none
      else (s.trainPick o 10 t t.ok inUse).map fun c => (c, false)
    let pick := match first with
      | some r => some r
      | none => if want10 && s.on (.OUT_CTRL_BPC_FALLBACK o) then eight (if at8 then inUse else none) else none
    let c8 := if want10 && !at8 then none else inUse
    let s := if want10 && !(inUse.isSome && at8) then s.sendTraining o 10 t t.ok inUse else s
    let s := if !want10 || (((pick.map (·.2)).getD true) && s.on (.OUT_CTRL_BPC_FALLBACK o)) then s.sendTraining o 8 t t.ok8 c8 else s
    let s := s.updOut o fun x => { x with fromCfg := none }
    match pick with
    | none => ((s.set (.OUT_STATUS_STATE o) txFailed).linkLanes o (fun _ => false) fun _ => false).setB .OUT_INT_STATUS_TRAIN_FAIL true
    | some (c, b8) =>
      let s := ((s.set (.OUT_STATUS_LANES o) c.lanes).set (.OUT_STATUS_RATE o) c.rate).setB (.OUT_STATUS_BPC8 o) b8
      let s := (s.count (.OUT_LINK_TRAIN o)).updOut o fun x => { x with videoWait := true, trained := some c }
      let s := s.set (.OUT_STATUS_STATE o) txVideo
      let trained := fun l => decide (l < laneCount c.lanes)
      let s := (s.linkLanes o trained trained).sinkSupport o t.testCrc
      if s.get (.OUT_STATUS_BLANK_SRC o) = 0 then s else s.set (.OUT_STATUS_STATE o) txBlank

/-- What a transmitter drives (R151, R155). -/
inductive TxDrive where
  | electricalIdle
  | nothing
  | training
  /-- the idle pattern on a configuration, with NoVideoStream_Flag -/
  | idlePattern (c : LinkCfg) (noVideo : Bool)
  | video (c : LinkCfg)
  deriving DecidableEq, Repr

/-- R151, R155: what the transmitter of output `o` drives now. -/
def State.txDrive (s : State) (o : Nat) : TxDrive :=
  let c : LinkCfg := ⟨s.get (.OUT_STATUS_LANES o), s.get (.OUT_STATUS_RATE o)⟩
  let st := s.get (.OUT_STATUS_STATE o)
  if st = txWaitHpd then .nothing
  else if st = txTraining then .training
  else if st = txVideo then (if (s.outp o).videoWait then .idlePattern c true else .video c)
  else if st = txBlank then (if (s.outp o).sending then .video c else .idlePattern c true)
  else if st = txFailed then ((s.outp o).trained.map fun c => .idlePattern c true).getD .electricalIdle
  else .electricalIdle

/-- R151: HPD low for more than 2 ms. A Banker request in flight ends with no sink. What LANES, RATE and BPC8 of OUT_STATUS read while
the link is not trained the rules do not say: the values of the last training stay (log 107). -/
def State.hpdLow (s : State) (o : Nat) : State :=
  let s := (s.when (s.on (.OUT_STATUS_HPD o)) fun s => s.setB .OUT_INT_STATUS_HPD true).setB (.OUT_STATUS_HPD o) false
  let s := if s.on (.OUT_AUX_STAT_BUSY o) then s.auxEnd o 5 0 else s
  let s := (s.noLock o).updOut o fun x => { x with aux := [], auxHeld := false, videoWait := true, fromCfg := none }
  if s.get (.OUT_STATUS_STATE o) = txIdle then s else s.set (.OUT_STATUS_STATE o) txWaitHpd

/-- R151: HPD high continuously for 100 ms. -/
def State.hpdHigh (s : State) (o : Nat) : State :=
  let s := (s.when (!s.on (.OUT_STATUS_HPD o)) fun s => s.setB .OUT_INT_STATUS_HPD true).setB (.OUT_STATUS_HPD o) true
  if s.get (.OUT_STATUS_STATE o) = txWaitHpd then s.set (.OUT_STATUS_STATE o) txTraining else s

/-- R153: the retrains of an output in the last 10 s, by the tick of each. -/
def State.recentRetrains (s : State) (o : Nat) : List Tick :=
  (s.outp o).retrains.filter fun n => decide (((s.tick - n).toNat : Rat) * s.pTick ≤ 10000000000)

/-- R151, R153, R254: leave VIDEO or BLANK for TRAINING, in which no lane is locked, or, after 8 retrains within 10 s, for FAILED. -/
def State.retrain (s : State) (o : Nat) : State :=
  let st := s.get (.OUT_STATUS_STATE o)
  let recent := s.recentRetrains o
  if st = txVideo ∨ st = txBlank then
    let s := s.updOut o fun x => { x with videoWait := true }
    if 8 ≤ recent.length then (s.set (.OUT_STATUS_STATE o) txFailed).setB .OUT_INT_STATUS_TRAIN_FAIL true
    else (((s.noLock o).set (.OUT_STATUS_STATE o) txTraining).setB .OUT_INT_STATUS_RETRAIN true).updOut o fun x =>
      { x with retrains := recent ++ [s.tick] }
  else s

/-- The status of a lane in DPCD bytes 0x00200 to 0x00205: clock recovered, equalised, symbols locked. -/
def laneNibble (st : List Byte) (n : Nat) : Nat :=
  let b := (st.getD (2 + n / 2) 0).toNat
  (if n % 2 = 0 then b else b / 16) % 8

/-- R153: lock lost on an active lane, in DPCD bytes 0x00200 to 0x00205. -/
def lockLost (lanes : Nat) (st : List Byte) : Bool :=
  ((List.range (laneCount lanes)).any fun n => laneNibble st n != 7) || (st.getD 4 0).toNat % 2 != 1

/-- R153: an HPD pulse of `us` microseconds, and the status bytes the AUX engine then reads (none: the read
failed). -/
def State.irqHpd (s : State) (o us : Nat) (st : Option (List Byte)) : State :=
  if us < 250 ∨ 2000 < us then s
  else
    let s := ((s.count (.OUT_LINK_IRQ_HPD o)).setB .OUT_INT_STATUS_HPD true).emit (.auxSend o ⟨2, 0, 0x200, 6, [], 0, 0⟩)
    match st with
    | none => s.count (.OUT_LINK_AUX_FAIL o)
    | some bs =>
      let vec := bs.getD 1 0
      let s := if vec = 0 then s else s.emit (.auxSend o ⟨2, 1, 0x201, 1, [vec], 0, 0⟩)
      let used := fun l => decide (l < laneCount (s.get (.OUT_STATUS_LANES o)))
      let s := if s.get (.OUT_STATUS_STATE o) = txVideo ∨ s.get (.OUT_STATUS_STATE o) = txBlank then
          s.linkLanes o (fun l => used l && bitOf (laneNibble bs l) 2) fun l => used l && laneNibble bs l == 7
        else s
      if lockLost (s.get (.OUT_STATUS_LANES o)) bs ∧
          (s.get (.OUT_STATUS_STATE o) = txVideo ∨ s.get (.OUT_STATUS_STATE o) = txBlank) then
        let cfg : LinkCfg := ⟨s.get (.OUT_STATUS_LANES o), s.get (.OUT_STATUS_RATE o)⟩
        let s := s.when (decide ((s.recentRetrains o).length < 8)) fun s =>
          (s.updOut o fun x => { x with fromCfg := some cfg }).count (.OUT_LINK_RETRAIN o)
        s.retrain o
      else s

/-! ### AUX (R154) -/

/-- R154: Banker writes that are refused: native writes to the protected DPCD ranges. -/
def auxProtected (cmd addr len : Nat) : Bool :=
  cmd == 1 && (List.range len).any fun k =>
    let a := addr + k
    decide ((0x100 ≤ a ∧ a ≤ 0x11F) ∨ (0x200 ≤ a ∧ a ≤ 0x2FF) ∨ a = 0x270)

/-- R154, R159: a write of GO to OUT_AUX_CTRL_o. A request behind another transaction waits for it, and one that could not finish
before the next sink-check read for that read. The spec does not say when a request ends with no sink: one made in IDLE or
WAIT_HPD does (log 66). -/
def State.auxGo (s : State) (o : Nat) : State :=
  if s.on (.OUT_AUX_STAT_BUSY o) then s
  else
    let cmd := s.get (.OUT_AUX_CTRL_CMD o)
    let addr := s.get (.OUT_AUX_CTRL_ADDR o)
    let len := s.get (.OUT_AUX_CTRL_LEN o) + 1
    let st := s.get (.OUT_STATUS_STATE o)
    if auxProtected cmd addr len then s.auxEnd o 4 0
    else if st = txIdle ∨ st = txWaitHpd then s.auxEnd o 5 0
    else
      let data := (List.range len).map fun k => BitVec.ofNat 8 (s.get (.OUT_AUX_DATA_DATA o (k / 4)) / 256 ^ (k % 4))
      let r : AuxReq := ⟨0, cmd, addr, len, if cmd % 2 = 1 then data else [], 0, 0⟩
      let idle := (s.outp o).aux.isEmpty
      let s := (s.setB (.OUT_AUX_STAT_BUSY o) true).updOut o fun x => { x with aux := x.aux ++ [r] }
      if idle then s.auxLaunch o else s

/-- Take the request at the head of an output's AUX queue away; the next starts. -/
def State.auxPop (s : State) (o : Nat) : State := (s.updOut o fun x => { x with aux := x.aux.drop 1 }).auxLaunch o

/-- The AUX transaction of an output in flight, if any. -/
def State.auxInFlight (s : State) (o : Nat) : Option AuxReq := if (s.outp o).auxHeld then none else (s.outp o).aux.head?

/-- Put bytes into OUT_AUX_DATA_o, lowest first; bytes beyond the transfer stay. -/
def State.auxData (s : State) (o : Nat) (bs : List Byte) : State :=
  s.each (List.range 4) fun s k =>
    let new := (bs.drop (4 * k)).take 4
    let old := leBytes 4 (s.word (Reg.OUT_AUX_DATA o k)).toNat
    if 4 * k < bs.length then s.set (.OUT_AUX_DATA_DATA o k) (leNat (new ++ old.drop new.length)) else s

/-- A sink reading from the seven bytes of DPCD 0x00240 to 0x00246 (R77). -/
def sinkOfBytes (bs : List Byte) : SinkReading :=
  let w := fun k => BitVec.ofNat 16 (leNat ((bs.drop k).take 2))
  ⟨w 0, w 2, w 4, (bs.getD 6 0).setWidth 4⟩

/-- R154: a transaction fails for good, with a result code of OUT_AUX_STAT. -/
def State.auxFail (s : State) (o : Nat) (r : AuxReq) (result : Nat) : State :=
  let s := (s.auxPop o).count (.OUT_LINK_AUX_FAIL o)
  if r.kind = 0 then s.auxEnd o result (r.retries + r.defers)
  else if r.kind = 1 then s.sinkReading o none else s

/-- R154: count a retry of the head request, and send it again. -/
def State.auxAgain (s : State) (o : Nat) (r : AuxReq) : State :=
  (s.updOut o fun x => { x with aux := r :: x.aux.drop 1 }).emit (.auxSend o r)

/-- R154: a reply to the transaction in flight. -/
def State.auxReply (s : State) (o : Nat) (a : AuxReply) : State :=
  match s.auxInFlight o with
  | none => s
  | some r =>
    match a with
    | .ack bs =>
      let s := s.auxPop o
      if r.kind = 0 then (if r.cmd % 2 = 0 then s.auxData o (bs.take r.len) else s).auxEnd o 0 (r.retries + r.defers)
      else if r.kind = 1 then s.sinkReading o (some (sinkOfBytes bs)) else s
    | .defer => if r.defers < 7 then s.auxAgain o { r with defers := r.defers + 1 } else s.auxFail o r 2
    | .nack => if r.retries < 2 then s.auxAgain o { r with retries := r.retries + 1 } else s.auxFail o r 1
    | .badReply =>
      if r.retries < 2 then s.auxAgain o { r with retries := r.retries + 1 }
      else
        /- the spec gives no result code for reply errors: NACK or timeout, free -/
        let (v, s) := s.fresh
        s.auxFail o r (if v.getLsbD 0 then 1 else 3)

/-- R154: no reply within 400 µs. -/
def State.auxTimeout (s : State) (o : Nat) : State :=
  match s.auxInFlight o with
  | none => s
  | some r => if r.retries < 2 then s.auxAgain o { r with retries := r.retries + 1 } else s.auxFail o r 3

/-- R77, R154: the sink-check read of the tick completes (the transaction leaves the queue), and is judged; one that has not
completed within half a tick has failed. -/
def State.sinkCheck (s : State) (o : Nat) (r : Option SinkReading) : State :=
  let s := match (s.outp o).aux with
    | q :: _ => if q.kind = 1 then (s.auxPop o).when r.isNone fun s => s.count (.OUT_LINK_AUX_FAIL o) else s
    | [] => s
  s.sinkReading o r

/-! ### Restart (R78, R158) and FAULT_N (R157) -/

/-- R158, R413: clear blank source SCORER; 0x00, or 0x02 where it is not legal: nothing cancels the hard-wired path. -/
def State.restartOutput (s : State) (o : Nat) : State × Nat :=
  if s.devState = stSafe ∨ s.sco.hard = true ∨ bitOf (s.get (.OUT_STATUS_BLANK_SRC o)) 0 = false then (s, 0x02)
  else
    let s := (s.clearBlank o 0).setB (.CMP_LV_OUT_BLANKED o) false
    let s := s.set (.CMP_LV_OUT_BLANK_CAUSE o) 0
    let s := s.updOut o fun x => { x with sigHist := [], misRun := 0, sinkPrev := none }
    ((s.set (.CMP_LV_OUT_MISS_RUN o) 0).log 0x0302 [o], 0x00)

/-- R157: an enabled output is not in VIDEO. -/
def State.outFault (s : State) (o : Nat) : Bool :=
  s.on (.OUT_CTRL_EN o) && s.get (.OUT_STATUS_STATE o) != txVideo

end Sys2Proof.Machine
end

