-- ==== Sys2Proof/Machine/Timing.lean ====
section
/-!
DEFINITION. Output timing and the tick reference (R21, R130 to R139, R175): the phase servo and retimes, the pulses
of SYNC_IN, the reference states, RESYNC, and where the next boundary falls.
-/

namespace Sys2Proof.Machine

open Sys2Proof

/-! ### The phase servo (R132, R133, R175) -/

/-- Trim limit of R132 in ppm. -/
def trimMax : Rat := 1500

/-- R132: one update of the servo from a phase error in ns, over the period `p` in ns. -/
def State.servo (s : State) (o : Nat) (eps : Int) (p : Rat) : State :=
  let x := s.outp o
  let part : Rat := (eps : Rat) / p * 1000000
  let rate := x.rate + part / 64
  let y := clampQ (-trimMax) trimMax (rate + part / 8)
  let (shown, s) := s.roundFree (y * 10)
  (s.updOut o fun x => { x with rate := clampQ (-trimMax) trimMax rate, trim := y }).setI (.OUT_TRIM_TRIM o) shown

/-- The source of the lock input of output `o`, if its slot is in use (R175). -/
def State.lockSource (s : State) (o : Nat) : Option (BitVec 16) :=
  (s.slot o (s.get (.CAP_LLK_SLOT o))).layer.map s.layerSrc

/-- R175: is output `o` line-locked to an input that is present? -/
def State.lineLocked (s : State) (o : Nat) : Bool :=
  s.on (.CAP_LLK_EN o) && (match s.lockSource o with
    | some src => !s.srcAbsent src true
    | none => false)

/-- R175: a line start of the lock input. -/
def State.lineLock (s : State) (o : Nat) (eps : Int) : State :=
  if s.lineLocked o then
    let run := if eps.natAbs ≤ 50 then min ((s.outp o).llkRun + 1) 64 else 0
    let s := (s.updOut o fun x => { x with llkRun := run }).setI (.CAP_LLK_ERR_EPS o) eps
    let s := (s.setB (.CAP_LLK_LLK_LOCKED o) (run == 64)).setB (.CAP_LLK_FALLBACK o) false
    s.servo o eps (s.pTick / ((s.get (.OUT_VTIM0_TOTAL o) : Nat) : Rat))
  else s

/-- R133: a retime blanks the output and restarts its generator at the next boundary. The rule has it counted, and no register
of R159 counts it: it shows in OUT_INT_STATUS.RETIME alone (log 88). -/
def State.retime (s : State) (o : Nat) : State :=
  ((s.setBlank o 2).updOut o fun x => { x with restart := true }).setB .OUT_INT_STATUS_RETIME true

/-- R132, R133, R175: a boundary for output `o` with measured phase error `eps`. A restart due ends a retime, and the frame of a
generator that starts begins without error. -/
def State.outBoundary (s : State) (o : Nat) (eps : Int) : State :=
  if (s.outp o).running = false then s
  else
    let eps := if (s.outp o).restart || (s.outp o).exact then 0 else eps
    let s := (s.endRetime o).updOut o fun x => { x with exact := false }
    let run := if eps.natAbs ≤ 500 then min ((s.outp o).lockRun + 1) 3 else 0
    let s := (s.updOut o fun x => { x with lockRun := run }).setI (.OUT_PHERR_EPS o) eps
    let s := s.setB (.OUT_STATUS_LOCKED o) (run == 3)
    let s := if s.lineLocked o then s
      else
        let s := s.servo o eps s.pTick
        if s.on (.CAP_LLK_EN o) then
          (((s.when (!s.on (.CAP_LLK_FALLBACK o)) fun s => s.setB .CAP_INT_STATUS_LLK_FALLBACK true).setB (.CAP_LLK_FALLBACK o) true).setB (.CAP_LLK_LLK_LOCKED o) false).updOut o fun x => { x with llkRun := 0 }
        else s
    if 20000 < eps.natAbs then s.retime o else s

/-- R133: start the timing generators of the declared outputs: with the next boundary their active video begins exactly at
boundary + PHASE. -/
def State.startGenerators (s : State) (os : List Nat) : State :=
  s.each (os.filter s.declared) fun s o => (s.endRetime o).updOut o fun x => { x with running := true, exact := true }

/-! ### The reference (R135 to R139) -/

/-- Reference states of OUT_REF_STATUS. -/
def refNone : Nat := 0
def refAcquire : Nat := 1
def refTrack : Nat := 2
def refHoldover : Nat := 3
def refSlew : Nat := 4
def refRate : Nat := 5
def refResync : Nat := 6

/-- Is SYNC_IN the tick source (DLR_TICK_CFG)? -/
def State.syncMode (s : State) : Bool := s.get .DLR_TICK_CFG_TICK_SRC == 1

/-- The reference state. -/
def State.refState (s : State) : Nat := s.get .OUT_REF_STATUS_STATE

/-- Set REF_LOST in both places where it shows. -/
def State.setRefLost (s : State) (b : Bool) : State :=
  (s.setB .OUT_REF_STATUS_REF_LOST b).setB .DLR_STATUS_REF_LOST b

/-- R135: mean of the last three pulse intervals, when each lies within ±2 µs of it. -/
def stableMean (ps : List Word) : Option Rat :=
  match ps with
  | p3 :: p2 :: p1 :: p0 :: _ =>
    let a := wordDiff p1 p0
    let b := wordDiff p2 p1
    let c := wordDiff p3 p2
    let m : Rat := ((a + b + c : Int) : Rat) / 3
    if absQ (a - m) ≤ 2000 ∧ absQ (b - m) ≤ 2000 ∧ absQ (c - m) ≤ 2000 then some m else none
  | _ => none

/-- R135: the measured period while the reference is stable: no interval since the newest pulse may already
have outlasted the mean by 2 µs. -/
def State.measured (s : State) : Option Rat :=
  match stableMean s.dealer.pulses, s.dealer.pulses with
  | some m, p :: _ => if (wordDiff s.time.now p : Rat) ≤ m + 2000 then some m else none
  | _, _ => none

/-- Show STABLE and PERIOD. -/
def State.showStable (s : State) : State :=
  match s.measured with
  | some m =>
    let (v, s) := s.roundFree m
    (s.setB .OUT_REF_STATUS_STABLE true).setI .OUT_REF_MEAS_PERIOD v
  | none => (s.setB .OUT_REF_STATUS_STABLE false).set .OUT_REF_MEAS_PERIOD 0

/-- Set Δ (units of 2^−16 ns), shown in 2^−8 ns rounded toward zero. -/
def State.setDelta (s : State) (d : Int) : State :=
  (s.updDealer fun x => { x with delta := d }).setI .OUT_REF_DELTA_DELTA (truncQ ((d : Rat) / 256))

/-- Set Δ_c. -/
def State.setCentre (s : State) (d : Int) : State :=
  (s.updDealer fun x => { x with centre := d }).setI .OUT_REF_CENTRE_CENTRE (truncQ ((d : Rat) / 256))

/-- P_c of R136. -/
def State.pCentre (s : State) : Rat := s.pTick + unitsNs s.dealer.centre

/-- P_tick ÷ 1,000 in units of 2^−16 ns, toward zero. -/
def State.thousandth (s : State) : Int := truncQ (s.pTick * 65536 / 1000)

/-- R136: a Δ within P_tick ÷ 1,000 of the centre. -/
def State.nearCentre (s : State) (d : Int) : Int := clampI (s.dealer.centre - s.thousandth) (s.dealer.centre + s.thousandth) d

/-- Exact position of the boundary after the last one placed, before its correction (R136). -/
def State.nextEdge (s : State) (c : Rat) : Rat :=
  s.dealer.frac + s.pTick + unitsNs s.dealer.delta + c

/-- R136: enter TRACK: the first entry sets TICK_LOCKED (R25). -/
def State.enterTrack (s : State) : State :=
  let s := (s.set .OUT_REF_STATUS_STATE refTrack).setB .OUT_INT_STATUS_REF_OK true
  let s := (s.setRefLost false).setB .DLR_STATUS_TICK_LOCKED true
  (s.set .OUT_REF_STATUS_MISS_RUN 0).updDealer fun d => { d with missRun := 0, goodErrs := 0 }

/-- R136: enter HOLDOVER. -/
def State.enterHoldover (s : State) (lost : Bool) : State :=
  let s := (s.set .OUT_REF_STATUS_STATE refHoldover).setB .OUT_INT_STATUS_REF_LOST true
  let s := if lost then s.setRefLost true else s
  s.updDealer fun d => { d with missRun := 0, goodErrs := 0 }

/-- R136: a stable reference, met in ACQUIRE or HOLDOVER. One within P_c ± 0.1 % sets Δ; where P_c is above P_tick that range is the
wider one, and Δ stops at the bound that R136 gives |Δ − Δ_c| (log 67). -/
def State.metStable (s : State) (m : Rat) : State :=
  if absQ (m - s.pCentre) ≤ s.pCentre / 1000 then
    let (d, s) := s.roundFree ((m - s.pTick) * 65536)
    ((s.setDelta (s.nearCentre d)).set .OUT_REF_STATUS_STATE refSlew).updDealer fun x => { x with goodErrs := 0 }
  else
    ((s.set .OUT_REF_STATUS_STATE refRate).setB .OUT_REF_STATUS_REF_RATE true).setB .OUT_INT_STATUS_REF_RATE true

/-- The error of the pulse nearest to the boundary last placed. -/
def State.nearestErr (s : State) : Option Int :=
  match s.dealer.pulses.map fun p => wordDiff p s.dealer.edge with
  | [] => none
  | e :: es => some (es.foldl (fun a b => if b.natAbs < a.natAbs then b else a) e)

/-- Has a pulse arrived since half a period before the boundary last placed? R139's fourth item counts windows without a
qualified pulse. While a RESYNC slews, its pulses lie further than the 2 µs of R136 off the boundaries, so a window misses there
when it holds no pulse at all (log 67). -/
def State.pulseSeen (s : State) : Bool :=
  match s.nearestErr with
  | some e => decide (((e.natAbs : Nat) : Rat) * 2 ≤ s.pTick)
  | none => false

/-- R139, item 3 and 4: the enabled outputs restart and resume video. -/
def State.resyncOutputs (s : State) : State :=
  let s := s.setB .OUT_INT_STATUS_RESYNC_DONE true
  let s := s.setB .OUT_REF_STATUS_REF_RATE false
  let s := s.updDealer fun x => { x with resyncReq := false }
  s.each outputs fun s o =>
    let s := s.when (s.on (.OUT_CTRL_EN o)) fun s => s.startGenerators [o]
    s.when (bitOf (s.get (.OUT_STATUS_BLANK_SRC o)) 1) fun s => s.clearBlank o 1

/-- R139: at the boundary after a RESYNC was accepted the enabled outputs blank, Δ takes the measured period and the state becomes
RESYNC. A reference that has meanwhile lost its measure leaves Δ (log 67). -/
def State.beginResync (s : State) : State :=
  if s.refState ≠ refRate ∨ s.dealer.resyncReq = false then s
  else
    let lim := truncQ (s.pTick * 65536 * 3 / 1000)
    let (d, s) := match s.measured with
      | some m => s.roundFree ((m - s.pTick) * 65536)
      | none => (s.dealer.delta, s)
    let s := (s.setDelta (clampI (-lim) lim d)).set .OUT_REF_STATUS_STATE refResync
    let s := s.updDealer fun x => { x with resyncReq := false, missRun := 0, goodErrs := 0 }
    s.each (outputs.filter fun o => s.on (.OUT_CTRL_EN o)) fun s o => s.setBlank o 1

/-- R136, R139: judge the window of the boundary last placed. Answers c_n of R136. The rules do not say what Δ is after a RESYNC that
is given up: it goes to the nearest value R136 allows, within P_tick ÷ 1,000 of the centre (log 67). MISS_RUN counts windows without a
qualified pulse in every state, and ERR is e_n, 0 in TRACK where no pulse qualifies (R159). -/
def State.refJudge (s : State) : State × Rat :=
  let e := match s.nearestErr with | some e => e | none => 0
  let qualified : Bool := match s.nearestErr with | some e => decide (e.natAbs ≤ 2000) | none => false
  let st := s.refState
  let near := st == refSlew || st == refResync
  let s := if qualified || near || st == refTrack then s.setI .OUT_REF_ERR_ERR (if qualified || near then e else 0) else s
  let miss := if st = refResync then !s.pulseSeen else !qualified
  let run := if miss then s.dealer.missRun + 1 else 0
  let s := if qualified then s else s.count .OUT_REF_CNT_MISS
  let shown := if qualified then 0 else min 3 (s.get .OUT_REF_STATUS_MISS_RUN + 1)
  let s := (s.set .OUT_REF_STATUS_MISS_RUN shown).updDealer fun d => { d with missRun := run }
  let good := if qualified then s.dealer.goodErrs + 1 else 0
  if st = refTrack then
    if qualified then
      (s.setDelta (s.nearCentre (s.dealer.delta + e * 4096)), (e : Rat))
    else if 4 ≤ run then (s.enterHoldover true, 0) else (s, 0)
  else if st = refAcquire ∨ st = refHoldover then
    match s.measured with
    | some m => (s.metStable m, 0)
    | none => (s, 0)
  else if st = refSlew then
    if s.measured.isNone then (s.enterHoldover false, 0)
    else if 3 ≤ good then (s.enterTrack, clampQ (-1000) 1000 e)
    else (s.updDealer fun d => { d with goodErrs := good }, clampQ (-1000) 1000 e)
  else if st = refResync then
    if 4 ≤ run then
      (((s.setDelta (s.nearCentre s.dealer.delta)).enterHoldover true).resyncOutputs, 0)
    else if 3 ≤ good then ((((s.setCentre s.dealer.delta).enterTrack).resyncOutputs), (e : Rat))
    else (s.updDealer fun d => { d with goodErrs := good }, clampQ (-(s.pTick / 1000)) (s.pTick / 1000) e)
  else (s, 0)

/-- The window of the boundary last placed is judged, once. -/
def State.judge (s : State) : State :=
  if s.syncMode = false ∨ s.dealer.started = false ∨ s.dealer.judged = true then s
  else
    let (s, c) := s.refJudge
    s.updDealer fun d => { d with judged := true, corr := c }

/-- R136: a qualified pulse has come for the boundary last placed: its window is judged at once. -/
def State.judgeQualified (s : State) : State :=
  match s.nearestErr with
  | some e => if e.natAbs ≤ 2000 then s.judge else s
  | none => s

/-- R136: the window of the boundary last placed has passed. In SLEW and RESYNC, where the nearest pulse counts however far it
lies, the judgement waits for the next boundary. No row stands for the end of a window: the first row after it that comes here
judges it (log 89). -/
def State.windowPassed (s : State) : State :=
  if s.refState = refSlew ∨ s.refState = refResync ∨ wordDiff s.time.now s.dealer.edge ≤ 2000 then s else s.judge

/-- Where the next boundary will fall: a period after the last, corrected (R136). -/
def State.nextAt (s : State) : Int :=
  let j := s.judge
  (j.nextEdge (if s.syncMode then j.dealer.corr else 0)).floor

/-- R21, R136: place the next boundary and let it arrive. The first boundary is DLR_TICK_FIRST in PTP mode once that
has been written, else the present value of the time unit. -/
def State.placeBoundary (s : State) : State :=
  if s.dealer.started then
    let s := s.judge
    let e := s.nextEdge (if s.syncMode then s.dealer.corr else 0)
    let k := e.floor
    let edge := s.dealer.edge + BitVec.ofInt 32 k
    let s := s.updDealer fun d => { d with edge := edge, frac := e - k, judged := false, corr := 0 }
    let s := s.at_ edge
    if s.syncMode then ((s.beginResync).showStable).judgeQualified else s
  else
    let edge := if !s.syncMode && s.on .DLR_STATUS_TICK_LOCKED then s.word Reg.DLR_TICK_FIRST else s.time.now
    let s := s.updDealer fun d => { d with edge := edge, frac := 0, started := true, judged := false, corr := 0 }
    let s := s.at_ edge
    if s.syncMode ∧ s.refState = refNone then s.set .OUT_REF_STATUS_STATE refAcquire else s

/-- R135, R136: an edge on SYNC_IN at `t`, held for `width` ns. -/
def State.syncPulse (s : State) (t : Word) (width : Nat) (falling : Bool) : State :=
  if s.syncMode = false ∨ falling ≠ s.on .OUT_REF_CFG_EDGE then s
  else
    let s := (s.at_ t).windowPassed
    if width < s.get .OUT_REF_CFG_MIN_WIDTH * 10 then s.count .OUT_REF_CNT_GLITCH
    else
      let next := s.dealer.edge + BitVec.ofInt 32 s.nextAt
      let inWindow := s.dealer.started &&
        (decide ((wordDiff t s.dealer.edge).natAbs ≤ 2000) || decide ((wordDiff t next).natAbs ≤ 2000))
      let s := if inWindow then s else s.count .OUT_REF_CNT_GLITCH
      let s := ((s.updDealer fun d => { d with pulses := (t :: d.pulses).take 4 }).showStable).judgeQualified
      match s.measured with
      | some m => if s.refState = refAcquire ∨ s.refState = refHoldover then s.metStable m else s
      | none => s

/-- R139: a write of OUT_RESYNC.GO. -/
def State.resyncGo (s : State) : State :=
  let code :=
    if s.on .OUT_REF_STATUS_REF_RATE = false then 0x02
    else match s.measured with
      | some m => if absQ (m - s.pTick) ≤ s.pTick * 3 / 1000 then 0x00 else 0x03
      | none => 0x03
  let s := s.set .OUT_RESYNC_CODE code
  if code = 0 then s.updDealer fun d => { d with resyncReq := true } else s

/-- R25: the lock timeout of the tick reference (`Image.lockTimeout`) has run out without TICK_LOCKED: the Dealer starts free-running. -/
def State.lockTimeout (s : State) : State :=
  if s.dealing = false ∨ s.on .DLR_STATUS_TICK_LOCKED = true ∨ s.dealer.freeRun = true then s
  else
    let s := s.updDealer fun d => { d with freeRun := true }
    if s.syncMode ∧ (s.refState = refNone ∨ s.refState = refAcquire) then s.enterHoldover true else s.setRefLost true

/-- R21, R25, R38: a write of DLR_TICK_FIRST. -/
def State.tickFirstWrite (s : State) (w : Word) : State :=
  if s.on .DLR_STATUS_DEALING then s
  else
    let s := s.setWord Reg.DLR_TICK_FIRST w
    if s.get .DLR_TICK_CFG_TICK_SRC ≠ 2 ∨ s.dealer.freeRun = true then s else s.setB .DLR_STATUS_TICK_LOCKED true

/-- Extended device time of a time-unit value near the present one, as a number of nanoseconds. -/
def State.extAt (s : State) (w : Word) : Int := s.extNow.toNat + wordDiff w s.time.now

/-- R21, R285: the first whole nanosecond of extended device time at or after the first exact multiple of the tick period, in PTP
time under the offset in force, that does not lie before the time-unit value `w`. -/
def State.firstBoundary (s : State) (w : Word) : Int :=
  let num : Int := s.get .DLR_TICK_NUM_NUM
  let den : Int := s.get .DLR_TICK_DEN_DEN
  let k := -(-((s.extAt w + s.time.off.toInt) * den) / num)
  let ptp := -(-(k * num) / den)
  ptp - s.time.off.toInt

/-- R21: at start in PTP mode the Banker writes the first boundary that does not lie before `w` to DLR_TICK_FIRST. -/
def State.tickFirst (s : State) (w : Word) : State :=
  s.tickFirstWrite (if s.get .DLR_TICK_CFG_TICK_SRC = 2 then BitVec.ofInt 32 (s.firstBoundary w) else w)

end Sys2Proof.Machine
end

