-- ==== Sys2Proof/Machine/Dealing.lean ====
section
/-!
DEFINITION. The deal in force (R28, R32, R34, R220), buffer allocation for a trick (R108), and the record of an
abandonment (R31).
-/

namespace Sys2Proof.Machine

open Sys2Proof

/-- Key of an encode stream in a core placement; a stream context is its own key. -/
def encKey (stream : Nat) : Nat := 1024 + stream

/-- The core of a decode or encode trick under a placement (R34); another trick keeps its index. -/
def placed (place : Tab Nat) (t : Trick) : Trick :=
  match t.cls with
  | .decode => { t with index := (Tab.find place t.job).getD t.index }
  | .encode => { t with index := (Tab.find place (encKey t.job)).getD t.index }
  | _ => t

/-- Sources shown by the visible layers, for register values `rd` and the layers `ls` (R34). -/
def shownSources (rd : Nat → Word) (ls : List Nat) : List (BitVec 16) :=
  uniq (ls.filterMap fun l =>
    let g := geoOf rd l
    if g.isTile then some g.src else none)

/-- R96, R168, R190: the DRAM charge of a trick. The image gives that of the layout's own layers and sources; the layers and
sources in force change it by the difference of their fetches. A captured frame is charged its active pixels in STORE_FMT. -/
def State.charged (s : State) (ly : LayoutDesc) (rd : Nat → Word) (ls : List Nat) (t : Trick) : Trick :=
  match t.cls with
  | .composer =>
    let own := s.fetchCharge (LayoutDesc_word ly) (listedLayers ly.sh) t.index
    { t with dram := t.dram + s.fetchCharge rd ls t.index - own }
  | .capture =>
    let d := s.srcDesc (s.localSrc t.job)
    { t with dram := d.width * d.height * fmtPair (s.get (.CAP_CFG_STORE_FMT t.job)) / 2 }
  | _ => t

/-- R189: decode slots per tick of a source: its rate over the tick rate, rounded up, at least 1. -/
def State.decodeSlots (s : State) (src : BitVec 16) : Nat :=
  let p := (s.srcDesc src).period
  if p ≤ 0 then 1 else max 1 (s.pTick / p).ceil.toNat

/-- The first of the tricks of a class for each job. -/
def firstPerJob (cls : EngineClass) (ts : List Trick) : List Trick :=
  (ts.filter (·.cls == cls)).foldl (fun acc t => if acc.any (·.job == t.job) then acc else acc ++ [t]) []

/-- R189: the decode tricks of every deal of a cycle that has slots for some contexts: each context once per slot, at offset 0. -/
def State.decodeTricks (s : State) (ts : List Trick) : List Trick :=
  (firstPerJob .decode ts).flatMap fun t =>
    List.replicate (s.decodeSlots (s.localSrc (16 + t.job))) { t with issue := .offset 0 }

/-- R301: the scan tricks of every deal of a cycle that has some for a port: SPT of them, from SCAN_PHASE on. -/
def State.scanTricks (s : State) (ts : List Trick) : List Trick :=
  (firstPerJob .touchScan ts).flatMap fun t =>
    let spt := s.get (.TCH_P_CFG0_SPT t.job)
    (List.range spt).map fun j =>
      let ns := ((1000 * s.get (.TCH_P_CFG1_SCAN_PHASE t.job) : Nat) : Rat) + (j : Rat) * s.pTick / ((spt : Nat) : Rat)
      { t with issue := .offset ns.floor.toNat }

/-- The tricks of a deal: the layout's own at a cycle position, those that the sources need which its visible layers show, and
those of the encode streams that run; decode and scan tricks stand in every deal (R28, R34, R96, R189, R205, R301). -/
def State.dealAt (s : State) (ly : LayoutDesc) (rd : Nat → Word) (ls : List Nat) (encOn : List Nat) (place : Tab Nat)
    (pos : Nat) : List Trick :=
  let n := ly.cycle.length
  let at_ := fun (ts : List (Nat × Trick)) => ts.filterMap fun (p, t) => if p % n = pos % n then some t else none
  let shown := (shownSources rd ls).map fun src => (s.srcDesc src).tricks
  let all := ly.cycle.flatten ++ shown.flatMap fun ts => ts.map (·.2)
  let other := ((ly.cycle.getD (pos % n) []) ++ shown.flatMap at_).filter fun t => t.cls != .decode && t.cls != .touchScan
  (s.decodeTricks all ++ s.scanTricks all ++ other.map (s.charged ly rd ls)
    ++ encOn.flatMap fun e => ((s.image.encs.find? (·.1 == e)).map fun x => at_ x.2).getD []).map (placed place)

/-- The deal in force at the current tick. -/
def State.curDeal (s : State) : List Trick :=
  match s.layout? s.dealer.layout with
  | some ly => s.dealAt ly s.word (listedLayers s.regs) s.dealer.encOn s.dealer.place s.dealer.cyclePos
  | none => []

/-- Every deal of the cycle in force. -/
def State.deals (s : State) : List (List Trick) :=
  match s.layout? s.dealer.layout with
  | some ly => (List.range ly.cycle.length).map fun p =>
      s.dealAt ly s.word (listedLayers s.regs) s.dealer.encOn s.dealer.place p
  | none => []

/-- Does a deal reserve flow `f` (R220)? -/
def reserves (deal : List Trick) (f : Nat) : Bool := deal.any fun t => t.cls == .fabricFlow && t.job == f

/-- The image's flow `f`. -/
def State.flow? (s : State) (f : Nat) : Option FlowDesc := s.image.flows.find? (·.id == f)

/-- R31: record an abandonment: counter of its class, DLR_OVR_LAST, the OVERRUN record, and the tiles it feeds. -/
def State.recordAbandon (s : State) (t : Trick) : State :=
  let c := t.cls.code
  let s := (s.count (.DLR_OVR_CNT_COUNT c)).setB .DLR_INT_STATUS_OVERRUN true
  let s := ((s.set .DLR_OVR_LAST_CLASS c).set .DLR_OVR_LAST_INDEX t.index).set .DLR_OVR_LAST_TICK s.tick16
  let low := t.fed.foldl min (t.fed.headD 0)
  let s := s.log 0x0204 ([c, t.index] ++ by2 (low + 512 * min t.fed.length 127))
  s.each t.fed fun s l => s.updTile l fun x =>
    if x.overruns.contains s.tick then x else { x with overruns := (s.tick :: x.overruns).take 16 }

/-- R108: no FREE buffer of the trick's class: POOL_EMPTY is counted, and the trick is abandoned at once. -/
def State.poolEmpty (s : State) (t : Trick) : State :=
  ((s.count .CMP_TLN_EVT_POOL_EMPTY).setB .CMP_INT_STATUS_POOL_EMPTY true).recordAbandon t

/-- The boundary with a tick congruent to `c` modulo `m` nearest to `x`, and the latest that lies at least `lead` ns
before it. Past boundaries are the ones latched; the next one is placed a period after the last. -/
def State.knownEdges (s : State) : List (Tick × Word) :=
  (s.tick + 1, s.tickTime + BitVec.ofInt 32 s.pTick.floor) :: s.dealer.history

/-- The boundary nearest to time `x` whose tick count is congruent to `c` modulo `m` (R240). -/
def State.nearestEdge (s : State) (m c : Nat) (x : Word) : Option (Tick × Word) :=
  match s.knownEdges.filter fun e => e.1.toNat % m == c % m with
  | [] => none
  | e :: es => some (es.foldl (fun a b => if (wordDiff b.2 x).natAbs < (wordDiff a.2 x).natAbs then b else a) e)

/-- The latest boundary congruent to `c` modulo `m` at least 5 µs before `x` (R50, R125). -/
def State.latestEdge (s : State) (m c : Nat) (x : Word) : Option (Tick × Word) :=
  s.dealer.history.find? fun e => e.1.toNat % m == c % m && decide (5000 ≤ wordDiff x e.2)

end Sys2Proof.Machine
end

