-- ==== Sys2Proof/Machine/Trump.lean ====
section
/-!
DEFINITION. Trump sets and flow states (R226 to R232, R247, R251), widths and re-budgeting (R220 to R222, R249 to
R252), discovery (R234 to R239) and tick alignment (R240, R241).
-/

namespace Sys2Proof.Machine

open Sys2Proof

/-! ### Ports -/

/-- A fabric port. -/
def State.port (s : State) (p : Nat) : PortSt := Tab.get .init s.fab.ports p

/-- Change a port. -/
def State.updPort (s : State) (p : Nat) (f : PortSt → PortSt) : State :=
  { s with fab := { s.fab with ports := Tab.upd .init s.fab.ports p f } }

/-- Change the fabric. -/
def State.updFab (s : State) (f : FabSt → FabSt) : State := { s with fab := f s.fab }

/-- The eight ports. -/
def fabPorts : List Nat := List.range 8

/-- Port states (FAB_P_STATUS). -/
def ptDisabled : Nat := 0
def ptDown : Nat := 1
def ptAligning : Nat := 2
def ptIdent : Nat := 3
def ptUp : Nat := 4
def ptMismatch : Nat := 5

/-- The state of a port. -/
def State.portState (s : State) (p : Nat) : Nat := s.get (.FAB_P_STATUS_STATE p)

/-- Is the port UP? -/
def State.portUp (s : State) (p : Nat) : Bool := s.portState p == ptUp

/-- The port's transmit width in lanes. -/
def widthLanes (code : Nat) : Nat := match code with | 1 => 1 | 2 => 2 | 3 => 4 | _ => 0

/-- Change a port's state: interrupts, and the record to the Scorer (R431). -/
def State.setPort (s : State) (p st : Nat) : State :=
  let old := s.portState p
  if old = st then s
  else
    let s := s.set (.FAB_P_STATUS_STATE p) st
    let s := if st = ptUp then s.setB .FAB_INT_STATUS_PORT_UP true else s
    let s := if old = ptUp then s.setB .FAB_INT_STATUS_PORT_DOWN true else s
    let s := if st = ptMismatch then s.setB .FAB_INT_STATUS_MISMATCH true else s
    s.log 0x0502 [p, old, st, s.get (.FAB_P_STATUS_WIDTH p)]

/-- R241: is the node UNSYNC? -/
def State.unsync (s : State) : Bool :=
  s.on .DLR_STATUS_REF_LOST || s.on .OUT_REF_STATUS_REF_RATE || !s.on .DLR_STATUS_TICK_LOCKED
  || fabPorts.any fun p => s.portUp p && s.on (.FAB_P_STATUS_SKEWED p)

/-- R11, R233: does the device hold its fabric ports silent? They carry packets and sets only while it deals, and in SAFE (R423). -/
def State.fabSilent (s : State) : Bool := !(s.dealing || s.devState == stSafe)

/-- R233: are the lanes of the ports in electrical idle? -/
def State.fabIdle (s : State) : Bool := s.devState == stReset || s.devState == stRecovery

/-! ### Symbols and lanes (R214, R215, R227) -/

/-- The lanes a port transmits on: its active lanes, or all four before a width is chosen (R234). -/
def State.txLanes (s : State) (p : Nat) : List Nat :=
  if s.get (.FAB_P_STATUS_WIDTH p) = 0 then List.range 4 else (List.range 4).filter (bitOf (s.get (.FAB_P_STATUS_TX_LANES p)))

/-- The idle set. -/
def idleSet : List Sym := [.k 28 5, .d 0x4A#8, .d 0x4A#8, .d 0x4A#8]

/-- R214: the symbols of an ordered set; lane status sets of all four lanes go out one after the other (log 74). -/
def setSymbols : FabSet → List Sym
  | .idle => idleSet
  | .skip => [.k 28 0, .k 28 0, .k 28 0, .k 28 0]
  | .credit c n => [.k 23 7, .d (BitVec.ofNat 8 c), .d (BitVec.ofNat 8 n), .d (BitVec.ofNat 8 (n / 256))]
  | .laneStatus ls => ls.flatMap fun (l, st, chk) => [.k 28 2, .d (BitVec.ofNat 8 st), .d (BitVec.ofNat 8 l), .d (BitVec.ofNat 8 chk)]

/-- R214, R249: an ordered set on every active lane; the lanes kept out of the active set carry idle sets. -/
def State.setLanes (s : State) (p : Nat) (k : FabSet) : List (Nat × List Sym) :=
  (List.range 4).map fun l => (l, if (s.txLanes p).contains l then setSymbols k else idleSet)

/-- R213: does the code group of a symbol reverse the running disparity? Each of its two blocks does so when its ones and zeros are
unequal in number (PRESUMED from the 8b/10b code, log 36). -/
def Sym.flips : Sym → Bool
  | .k x y => x == 28 && !(y == 0 || y == 4 || y == 7)
  | .d b =>
    let x := b.toNat % 32
    let y := b.toNat / 32
    ([0, 1, 2, 4, 8, 15, 16, 23, 24, 27, 29, 30, 31].contains x) != ([0, 4, 7].contains y)

/-- R213: the running disparity of a port's lanes after they have sent some symbols. -/
def State.coded (s : State) (p : Nat) (lanes : List (Nat × List Sym)) : State :=
  s.updPort p fun x => { x with rd := lanes.foldl (fun t e =>
    Tab.put false t e.1 (e.2.foldl (fun r y => r != y.flips) (Tab.get false t e.1))) x.rd }

/-- R213, R217: what port `p` sends is coded on its lanes and driven. A near-end loop returns it to the receiver, the serial one with the
pad driver off; with the far-end loop the lanes carry what is received. -/
def State.drive (s : State) (p : Nat) (lanes : List (Nat × List Sym)) (e : Emission) : State :=
  match s.get (.SER_QCTRL_LOOP (32 + p)) with
  | 3 => s
  | 2 => ((s.coded p lanes).emit e).emit (.looped (32 + p) lanes)
  | 1 => (s.coded p lanes).emit (.looped (32 + p) lanes)
  | _ => (s.coded p lanes).emit e

/-- R217: with the far-end loop what port `p` receives goes out again on the lanes it came on, for which an emission names none. -/
def State.farEnd (s : State) (p : Nat) (e : Emission) : State := if s.get (.SER_QCTRL_LOOP (32 + p)) = 3 then s.emit e else s

/-- Port `p` sends an ordered set. -/
def State.emitSet (s : State) (p : Nat) (k : FabSet) : State := s.drive p (s.setLanes p k) (.fabSet p k (s.setLanes p k))

/-! ### Trump sets (R226 to R231) -/

/-- One byte of the CRC-16 of R219: polynomial 0x1021, not reflected. -/
def crc16Shift : Nat → BitVec 16 → BitVec 16
  | 0, c => c
  | n + 1, c => crc16Shift n (if c.getLsbD 15 then (c <<< 1) ^^^ 0x1021#16 else c <<< 1)

/-- CRC-16 of R219: initial value 0xFFFF, no final exclusive-or. -/
def crc16 (bs : List Byte) : BitVec 16 :=
  bs.foldl (fun c b => crc16Shift 8 (c ^^^ BitVec.shiftLeft (b.setWidth 16) 8)) 0xFFFF#16

/-- Symbols D0 to D11 of a set (R226). -/
def trumpBody (m : Trump) : List Byte :=
  [BitVec.ofNat 8 (m.dest % 64 + if m.bcast then 64 else 0), BitVec.ofNat 8 (m.src % 64), m.seq, BitVec.ofNat 8 m.type]
  ++ (List.range 8).map fun k => m.args.getD k 0

/-- Symbols D0 to D13 (R226). -/
def trumpBytes (m : Trump) : List Byte := trumpBody m ++ beBytes 2 (crc16 (trumpBody m)).toNat

/-- R227: the lanes of a Trump set: copies on lanes 0 and 2 at ×4, with K28.5 and D21.5 on lanes 1 and 3; on every active lane at ×2
and ×1. -/
def State.trumpLanes (s : State) (p : Nat) (m : Trump) : List (Nat × List Sym) :=
  let copy := .k 28 1 :: (trumpBytes m).map .d
  (s.txLanes p).map fun l => (l, if s.get (.FAB_P_STATUS_WIDTH p) = 3 ∧ l % 2 = 1 then .k 28 5 :: List.replicate 14 (.d 0xB5#8) else copy)

/-- The set that 14 data symbols spell, when their CRC is right (R226, R228). -/
def trumpOf (bs : List Byte) : Option Trump :=
  if bs.length = 14 ∧ beNat (bs.drop 12) = (crc16 (bs.take 12)).toNat then
    some { dest := (bs.getD 0 0).toNat % 64, bcast := bitOf (bs.getD 0 0).toNat 6, src := (bs.getD 1 0).toNat % 64,
           seq := bs.getD 2 0, type := (bs.getD 3 0).toNat, args := (bs.drop 4).take 8 }
  else none

/-- Set types of R229. -/
def tFlowStop : Nat := 0x01
def tFlowCut : Nat := 0x02
def tFlowResume : Nat := 0x03
def tPresence : Nat := 0x04
def tTickMark : Nat := 0x08
def tEcho : Nat := 0x09
def tEchoReply : Nat := 0x0A
def tIdentA : Nat := 0x0C
def tIdentB : Nat := 0x0D
def tIdentC : Nat := 0x0E
def tWallPrepare : Nat := 0x10
def tWallVote : Nat := 0x11
def tWallDecide : Nat := 0x12
def tWallOutcome : Nat := 0x13
def tCmdFirst : Nat := 0x20
def tCmdMiddle : Nat := 0x21
def tCmdLast : Nat := 0x22
def tCmdOnly : Nat := 0x23

/-- Types that R229 queues with priority. -/
def trumpPrio (t : Nat) : Bool := [0x01, 0x02, 0x03, 0x04, 0x08, 0x10, 0x12].contains t
/-- Neighbour types (R229). -/
def trumpNeighbour (t : Nat) : Bool := [0x08, 0x09, 0x0A, 0x0C, 0x0D, 0x0E].contains t
/-- Types originated by port hardware (R229). -/
def trumpHw (t : Nat) : Bool := trumpNeighbour t || [0x02, 0x03, 0x04].contains t
/-- The neighbour sets of discovery (R233, R234). -/
def trumpDisc (t : Nat) : Bool := [0x09, 0x0A, 0x0C, 0x0D, 0x0E].contains t
/-- Types delivered to the Banker through the receive FIFO. -/
def trumpBanker (t : Nat) : Bool := (0x10 ≤ t && t ≤ 0x13) || (0x20 ≤ t && t ≤ 0x23)
/-- Types of R229. -/
def trumpKnown (t : Nat) : Bool := t == 0x01 || trumpHw t || trumpBanker t

/-- R228, R229, R230: a set is discarded at port `p` and counted BAD. -/
def State.trumpBad (s : State) (p : Nat) : State :=
  (s.count (.FAB_P_TRUMP_BAD p)).setB .FAB_INT_STATUS_TRUMP_BAD true

/-- R230: the transmit queue of a set's type has room. -/
def PortSt.room (x : PortSt) (m : Trump) : Bool := if trumpPrio m.type then decide (x.prio.length < 16) else decide (x.ord.length < 32)

/-- A set enters the transmit queue of its type. -/
def PortSt.push (x : PortSt) (e : Trump × Bool) : PortSt :=
  if trumpPrio e.1.type then { x with prio := x.prio ++ [e] } else { x with ord := x.ord ++ [e] }

/-- R230: put a set of this node into a port's transmit queue. The rule discards forwarded sets only: one of this node that finds its
queue full waits for room (log 91). -/
def State.enqueue (s : State) (p : Nat) (m : Trump) (bank : Bool) : State :=
  s.updPort p fun x => if x.room m && !(x.wait.any fun e => trumpPrio e.1.type == trumpPrio m.type) then x.push (m, bank)
    else { x with wait := x.wait ++ [(m, bank)] }

/-- R230: a set that is forwarded through port `p`; a full queue discards it. -/
def State.forward (s : State) (p : Nat) (m : Trump) : State :=
  if (s.port p).room m then s.updPort p fun x => x.push (m, false) else s.trumpBad p

/-- Sets that wait enter the queues that have room, in order. -/
def PortSt.refill (x : PortSt) : PortSt :=
  x.wait.foldl (fun y e => if y.room e.1 then y.push e else { y with wait := y.wait ++ [e] }) { x with wait := [] }

/-- Ports a set for `dest` (or a broadcast from `src`) leaves through. -/
def State.trumpPorts (s : State) (bcast : Bool) (src dest : Nat) : List Nat :=
  if bcast then fabPorts.filter fun p => bitOf (s.get (.FAB_BC_PORTS src)) p
  else if s.on (.FAB_RT_VALID dest) ∧ s.on (.FAB_RT_LOCAL dest) = false then [s.get (.FAB_RT_PORT dest)] else []

/-- R231: originate a set to a destination (64 for a broadcast), with the next sequence number. -/
def State.originate (s : State) (type dest : Nat) (bcast : Bool) (args : List Nat) (bank : Bool) : State :=
  let key := if bcast then 64 else dest
  let q := Tab.get 0 s.fab.seqOut key
  let s := s.updFab fun f => { f with seqOut := Tab.put 0 f.seqOut key ((q + 1) % 256) }
  let m : Trump := { dest := if bcast then 0 else dest, bcast := bcast, src := s.nodeId, seq := BitVec.ofNat 8 q,
                     type := type, args := args.map (BitVec.ofNat 8) }
  s.each (s.trumpPorts bcast s.nodeId dest) fun s p => s.enqueue p m bank

/-- A neighbour set through port `p` (R229). -/
def State.neighbour (s : State) (p type : Nat) (args : List Nat) : State :=
  let dest := s.get (.FAB_P_PEER_NODE p)
  let q := Tab.get 0 s.fab.seqOut dest
  let s := s.updFab fun f => { f with seqOut := Tab.put 0 f.seqOut dest ((q + 1) % 256) }
  s.enqueue p { dest := dest, bcast := false, src := s.nodeId, seq := BitVec.ofNat 8 q, type := type,
                args := args.map (BitVec.ofNat 8) } false

/-- Argument bytes of a set as a number. -/
def Trump_arg (m : Trump) (at_ n : Nat) : Nat := leNat ((m.args.drop at_).take n)

/-! ### Flow states (R230, R238, R247, R251) -/

/-- Ports of this node that a flow's route uses: in, unless it starts here; out, unless it ends here. -/
def State.routePorts (s : State) (f : FlowDesc) : List Nat :=
  (if srcNode f.src = s.nodeId then [] else [f.inPort])
  ++ (if f.dest = s.nodeId then [] else s.trumpPorts false 0 f.dest)

/-- R238: is a port broken for routes? -/
def State.portBroken (s : State) (p : Nat) : Bool := !s.portUp p || !s.on (.FAB_P_STATUS_PEER_FWD p)

/-- R220: does the deal in force reserve the flow? -/
def State.reserved (s : State) (f : Nat) : Bool := reserves s.curDeal f

/-- R238, R247: bring IN_DEAL, the broken routes and ESTABLISHED of every flow up to date. -/
def State.refreshFlows (s : State) : State :=
  let deal := s.curDeal
  s.each s.image.flows fun s f =>
    let res := reserves deal f.id
    let bad := (s.routePorts f).any s.portBroken
    let was := s.fab.broken.contains f.id
    let now := bad || (was && !res)
    let s := if now = was then s
      else s.updFab fun x => { x with broken := if now then x.broken ++ [f.id] else x.broken.filter (· != f.id) }
    let s := s.setB (.FAB_FLOW_STATE_IN_DEAL f.id) res
    s.setB (.FAB_FLOW_STATE_ESTABLISHED f.id)
      (decide (f.dest = s.nodeId) && res && !now && !s.on (.FAB_FLOW_STATE_CUT f.id)
        && !s.on (.FAB_FLOW_STATE_STOPPED f.id) && s.on (.FAB_FLOW_STATE_PRESENT f.id))

/-- Send a set about flow `f` to its source and destination nodes other than this one. -/
def State.toFlowEnds (s : State) (f : FlowDesc) (type : Nat) (args : List Nat) : State :=
  s.each ([srcNode f.src, f.dest].filter (· != s.nodeId)) fun s d => s.originate type d false args false

/-- R247: the presence state of a flow's source at its source node goes to the destination. -/
def State.sendPresence (s : State) (f : FlowDesc) (present : Bool) : State :=
  let s := s.setB (.FAB_FLOW_STATE_PRESENT f.id) present
  s.originate tPresence f.dest false (by2 f.id ++ [b2n present]) false

/-- Flows of which this node is the source. -/
def State.flowsFrom (s : State) : List FlowDesc := s.image.flows.filter fun f => srcNode f.src == s.nodeId

/-- Is the source of an outgoing flow present now (R163, R247)? -/
def State.flowPresent (s : State) (f : FlowDesc) : Bool :=
  !s.srcAbsent f.src f.direct && !s.on (.FAB_FLOW_STATE_STOPPED f.id) && s.dealing

/-- R163, R247: the presence of a local source changed. -/
def State.presenceReport (s : State) (src : BitVec 16) : State :=
  (s.each (s.flowsFrom.filter fun f => f.src == src) fun s f => s.sendPresence f (s.flowPresent f)).refreshFlows

/-- R251: a flow of the image is marked CUT. -/
def State.markCut (s : State) (f node port : Nat) : State :=
  if (s.flow? f).isNone then s
  else ((((s.setB (.FAB_FLOW_STATE_CUT f) true).set (.FAB_FLOW_STATE_CUT_NODE f) node).set
    (.FAB_FLOW_STATE_CUT_PORT f) port).setB .FAB_INT_STATUS_FLOW_CUT true).refreshFlows

/-- R251: a flow of the image is resumed. -/
def State.markResumed (s : State) (f : Nat) : State :=
  if (s.flow? f).isNone then s else (s.setB (.FAB_FLOW_STATE_CUT f) false).refreshFlows

/-- R230: the source node stops the flow. -/
def State.stopFlow (s : State) (f : Nat) : State :=
  match s.flow? f with
  | some d => if srcNode d.src = s.nodeId then
      ((s.setB (.FAB_FLOW_STATE_STOPPED f) true).sendPresence d false).refreshFlows else s
  | none => s

/-- R224: the Scorer sends FLOW_STOP for a flow to its source node. -/
def State.flowStop (s : State) (f p : Nat) : State :=
  let s := s.log 0x0503 (by2 f ++ [3, p])
  match s.flow? f with
  | some d => if srcNode d.src = s.nodeId then s.stopFlow f else s.originate tFlowStop (srcNode d.src) false (by2 f) false
  | none => s

/-- R247: a presence state arrives for a flow. -/
def State.gotPresence (s : State) (f : Nat) (present : Bool) : State :=
  match s.flow? f with
  | some d => if d.dest = s.nodeId then (s.setB (.FAB_FLOW_STATE_PRESENT f) present).refreshFlows else s
  | none => s

/-! ### Costs and re-budgeting (R221, R222, R251) -/

/-- Symbols of a packet (R215, R219) rounded up to the width. -/
def padded (w sym : Nat) : Nat := ceilDiv sym w * w

/-- Symbols of a packet of a kind with a payload. -/
def packetSymbols (kind bytes : Nat) : Nat := if kind = 1 then bytes + 7 else bytes + 14

/-- Bytes of one SEGMENT payload (R219). -/
def segBytes (fmt : Nat) : Nat := if fmt = 4 ∨ fmt = 5 ∨ fmt = 6 then 64 else 32

/-- R221: cost of a flow in a tick, in payload bits at width `w`. -/
def State.flowCost (s : State) (f : FlowDesc) (w : Nat) : Nat :=
  let d := s.srcDesc f.src
  match s.get (.FAB_FLOW_CFG_CLASS f.id) with
  | 0 => 8 * (ceilDiv (d.hTotal * d.vTotal) 16 * padded w (packetSymbols 1 (segBytes d.format))
      + d.vTotal * padded w 18)
  | 1 => 8 * (padded w 78 + padded w 22 + ceilDiv (planeBytes d.format d.width d.height) 256 * padded w 270)
  | _ => ceilDiv (11 * f.bmax) 10

/-- R222: flow payload of a direction at width `w` in bits over one tick, exact. -/
def State.payload (s : State) (w : Nat) : Rat := (92 : Rat) / 100 * w * (648 : Rat) / 100 * s.pTick

/-- Flows routed out through port `p`, in ascending rank, then number (R220, R251). -/
def State.portFlows (s : State) (p : Nat) : List FlowDesc :=
  let fs := s.image.flows.filter fun f => f.dest != s.nodeId && (s.trumpPorts false 0 f.dest).contains p
    && (s.routePorts f).contains p
  fs.foldl (fun acc f =>
    let key := fun (g : FlowDesc) => s.get (.FAB_FLOW_CFG_RANK g.id) * 4096 + g.id
    acc.takeWhile (fun g => key g ≤ key f) ++ f :: acc.dropWhile (fun g => key g ≤ key f)) []

/-- R251: the flows kept at width `w`, and the cost kept in each deal. -/
def State.keptFlows (s : State) (deals : List (List Trick)) (w : Nat) (fs : List FlowDesc) : List Nat × List Nat :=
  let room := s.payload w
  fs.foldl (fun (acc : List Nat × List Nat) f =>
    let c := s.flowCost f (max 1 w)
    let used := deals.map fun d => if reserves d f.id then c else 0
    let sum : List Nat := List.zipWith (fun a b => a + b) acc.2 used
    if used.all (· == 0) then acc
    else if sum.all fun n => decide ((n : Rat) ≤ room) then (acc.1 ++ [f.id], sum) else acc) ([], deals.map fun _ => 0)

/-- Credit class of a kind (R225): 0 FRAME, 1 STREAM, 2 MESSAGE, none for DIRECT. -/
def creditClass (kind : Nat) : Option Nat :=
  match kind with
  | 3 | 4 | 5 => some 0
  | 6 => some 1
  | 7 => some 2
  | _ => none

/-- R225: a packet that leaves the buffer of port `p` frees its credits again. -/
def State.grant (s : State) (p : Nat) (k : RxPacket) : State :=
  match creditClass k.kind with
  | some c => s.updPort p fun x => { x with
      grants := Tab.put 0 x.grants c ((Tab.get 0 x.grants c + ceilDiv k.payload.length 64) % 65536) }
  | none => s

/-- R225: a waiting packet leaves this node, sent or discarded. -/
def State.giveBack (s : State) (x : TxPacket) : State :=
  match x.origin with
  | some p => s.grant p x.pk
  | none => s

/-- Discard the waiting packets of port `p` that satisfy `bad`. -/
def State.dropPackets (s : State) (p : Nat) (bad : TxPacket → Bool) : State :=
  let gone := (s.port p).queue.filter bad
  (s.updPort p fun x => { x with queue := x.queue.filter fun k => !bad k }).each gone State.giveBack

/-- R251: re-budget the transmit direction of port `p` at its present width. Without a width there is no room: every reserved flow is cut
(log 75). A cut flow that no deal reserves any longer costs nothing, and is resumed. -/
def State.rebudget (s : State) (p : Nat) : State :=
  let w := widthLanes (s.get (.FAB_P_STATUS_WIDTH p))
  let deals := s.deals
  let fs := s.portFlows p
  let (kept, sums) := s.keptFlows deals w fs
  let was := (s.port p).cut
  let used := (fs.filter fun f => deals.any fun d => reserves d f.id).map (·.id)
  let cut := used.filter fun f => !kept.contains f
  let s := (s.updPort p fun x => { x with cut := cut }).dropPackets p fun k => cut.contains k.pk.flow
  let s := s.each (fs.filter fun f => cut.contains f.id && !was.contains f.id) fun s f =>
    ((s.markCut f.id s.nodeId p).log 0x0503 (by2 f.id ++ [1, p])).toFlowEnds f tFlowCut
      (by2 f.id ++ [s.nodeId, p, s.get (.FAB_P_STATUS_WIDTH p)])
  let s := s.each (fs.filter fun f => !cut.contains f.id && was.contains f.id) fun s f =>
    ((s.markResumed f.id).log 0x0503 (by2 f.id ++ [2, p])).toFlowEnds f tFlowResume (by2 f.id ++ [s.nodeId, p])
  let (res, s) := s.roundFree (((sums.foldl max 0 : Nat) : Rat) * 1000 / s.payload w)
  (s.setI (.FAB_P_LOAD_RES p) res).set (.FAB_P_LOAD_FLOWS p) kept.length

/-! ### Widths (R249, R250, R252) -/

/-- R250: width code and active lanes for a mask of good lanes. -/
def chooseWidth (mask : Nat) : Nat × Nat :=
  let good := (List.range 4).filter (bitOf mask)
  match good with
  | [] => (0, 0)
  | [a] => (1, 2 ^ a)
  | [a, b] => (2, 2 ^ a + 2 ^ b)
  | [a, b, _] => (2, 2 ^ a + 2 ^ b)
  | _ => (3, 15)

/-- Take a width for the transmit direction of a port, counted as a narrowing or widening, and re-budget. -/
def State.takeWidth (s : State) (p code lanes : Nat) : State :=
  let old := s.get (.FAB_P_STATUS_WIDTH p)
  if code = old ∧ lanes = s.get (.FAB_P_STATUS_TX_LANES p) then s
  else
    let s := (s.set (.FAB_P_STATUS_WIDTH p) code).set (.FAB_P_STATUS_TX_LANES p) lanes
    let s := if code < old then (s.count (.FAB_P_MISC_NARROW p)).setB .FAB_INT_STATUS_NARROW true
      else if old < code then (s.count (.FAB_P_MISC_WIDEN p)).setB .FAB_INT_STATUS_WIDEN true else s
    if s.portUp p then s.rebudget p else s

/-- The port goes DOWN (R239): its width and its partner's reports lapse. -/
def State.portDown (s : State) (p : Nat) : State :=
  let st := s.portState p
  if st = ptDisabled ∨ st = ptDown then s
  else
    let s := s.setPort p ptDown
    let s := ((s.set (.FAB_P_STATUS_WIDTH p) 0).set (.FAB_P_STATUS_TX_LANES p) 0).setB (.FAB_P_STATUS_PEER_FWD p) false
    let s := (s.dropPackets p fun _ => true).updPort p fun x => { x with peerRx := 0, peerWidth := 0, heard := 0, echoes := [] }
    (s.rebudget p).refreshFlows

/-- R213, R250: does a lane bring an ordered set whole: no lane has an invalid symbol, or one that was good has none? -/
def State.laneWhole (s : State) (p : Nat) (errs : List (Nat × Nat)) : Bool :=
  errs.isEmpty || (List.range 4).any fun l => bitOf (s.get (.FAB_P_STATUS_RX_GOOD p)) l && !(errs.any fun e => e.1 == l)

/-- R250, R255: a lane status set on lane `l` of port `p`; void when its check fails. -/
def State.laneStatus (s : State) (p : Nat) (status lane check : Byte) : State :=
  if check ≠ status ^^^ lane ^^^ 0xA5#8 ∨ 4 ≤ lane.toNat then s
  else
    let st := status.toNat
    let oldW := (s.port p).peerWidth
    let w := st / 4 % 4
    let s := s.updPort p fun x => { x with
      peerRx := putBitN x.peerRx lane.toNat (bitOf st 1), peerWidth := w, peerUnsync := bitOf st 5 }
    let wide := decide (ptIdent ≤ s.portState p)
    let s := if wide ∧ w < oldW then (s.count (.FAB_P_MISC_NARROW p)).setB .FAB_INT_STATUS_NARROW true
      else if wide ∧ oldW < w ∧ oldW ≠ 0 then (s.count (.FAB_P_MISC_WIDEN p)).setB .FAB_INT_STATUS_WIDEN true else s
    let s := s.setB (.FAB_P_STATUS_PEER_FWD p) (bitOf st 4)
    let (code, lanes) := chooseWidth (s.port p).peerRx
    let act := s.get (.FAB_P_STATUS_TX_LANES p)
    let lost := (List.range 4).any fun k => bitOf act k && !bitOf (s.port p).peerRx k
    let s := if s.get (.FAB_P_STATUS_WIDTH p) ≠ 0 ∧ code ≠ 0 ∧ lost = true then s.takeWidth p code lanes else s
    s.refreshFlows

/-- R252: at a boundary each direction that has a width widens to what its good lanes allow. -/
def State.widenPorts (s : State) : State :=
  s.each (fabPorts.filter fun p => s.get (.FAB_P_STATUS_WIDTH p) != 0) fun s p =>
    let (code, lanes) := chooseWidth (s.port p).peerRx
    if s.get (.FAB_P_STATUS_WIDTH p) < code then s.takeWidth p code lanes else s

/-- R249: a receive lane turns bad or good; `unlock`: it turns bad for loss of symbol lock or alignment. -/
def State.laneGood (s : State) (p l : Nat) (good unlock : Bool) : State :=
  let s := s.set (.FAB_P_STATUS_RX_GOOD p) (putBitN (s.get (.FAB_P_STATUS_RX_GOOD p)) l good)
  let s := s.setB (.SER_LSTAT_GOOD (32 + p) l) good
  if good then s.setB (.SER_LSTAT_SYNC (32 + p) l) true
  else if unlock then (s.setB (.SER_LSTAT_SYNC (32 + p) l) false).count (.SER_LSTAT_LOCK_LOSS (32 + p) l)
  else s

/-- R213, R249: the invalid symbols that the receiver of port `p` finds, by lane, in one packet or set, which is shorter than 1,024
slots: eight of them make the lane bad. -/
def State.laneErrors (s : State) (p : Nat) (errs : List (Nat × Nat)) : State :=
  s.each errs fun s e =>
    let s := s.count (.SER_LERR_ERR (32 + p) e.1) e.2
    if 8 ≤ e.2 ∧ e.1 < 4 ∧ bitOf (s.get (.FAB_P_STATUS_RX_GOOD p)) e.1 = true then s.laneGood p e.1 false false else s

/-! ### Discovery (R234 to R239) -/

/-- The serial number of the part (R376). -/
def State.serialNo (s : State) : Nat := (s.word Reg.FUS_SERIAL_LO).toNat + (s.word Reg.FUS_SERIAL_HI).toNat % 65536 * 2 ^ 32

/-- R234: IDENT sets and 8 echoes go out. -/
def State.sendIdent (s : State) (p : Nat) : State :=
  let hash := (s.word Reg.FAB_TOPO_HASH).toNat
  let ser := s.serialNo
  let s := s.neighbour p tIdentA ([s.nodeId, p] ++ by4 (ser % 2 ^ 32) ++ by2 (ser / 2 ^ 32))
  let s := s.neighbour p tIdentB ([s.get .DLR_TICK_CFG_TICK_SRC] ++ by4 (s.get .DLR_TICK_NUM_NUM)
    ++ [s.get .DLR_TICK_DEN_DEN] ++ by2 (hash % 65536))
  let s := s.neighbour p tIdentC (by2 (hash / 65536))
  s.each (List.range 8) fun s _ => s.neighbour p tEcho [0, 0, 0, 0]

/-- R234, R239, R250: DOWN to ALIGNING to IDENT, with the good lanes of each direction. -/
def State.portAlign (s : State) (p rxGood peerGood : Nat) : State :=
  if s.devState = stReset ∨ s.devState = stRecovery then s
  else
    let s := if s.portState p = ptDown then
        (s.setPort p ptAligning).setB (.SER_QSTAT_PLL_LOCK (32 + p)) true else s
    let s := s.when (s.portState p == ptAligning) fun s =>
      (s.set (.FAB_P_STATUS_RX_GOOD p) rxGood).linkLanes (32 + p) (bitOf rxGood) (bitOf rxGood)
    if s.portState p = ptAligning ∧ rxGood % 16 ≠ 0 ∧ peerGood % 16 ≠ 0 then
      let s := s.updPort p fun x => { x with peerRx := peerGood % 16, peerWidth := (chooseWidth (rxGood % 16)).1, heard := 0, echoes := [], ident := .none_ }
      let (code, lanes) := chooseWidth (peerGood % 16)
      let s := (s.set (.FAB_P_STATUS_WIDTH p) code).set (.FAB_P_STATUS_TX_LANES p) lanes
      (s.setPort p ptIdent).sendIdent p
    else s

/-- R235: the first failing cause for an identified partner. -/
def State.discCause (s : State) (p : Nat) (i : Ident) : Nat :=
  let want := (s.word (Reg.FAB_P_PSER_LO p)).toNat + (s.word (Reg.FAB_P_PSER_HI p)).toNat % 65536 * 2 ^ 32
  let hash := (s.word Reg.FAB_TOPO_HASH).toNat
  if s.on (.FAB_P_CFG_EN p) = false then 2
  else if i.node ≠ s.get (.FAB_P_CFG_PEER_NODE p) ∨ i.port ≠ s.get (.FAB_P_CFG_PEER_PORT p) then 3
  else if want ≠ 0 ∧ want ≠ i.serial then 4
  else if i.src ≠ s.get .DLR_TICK_CFG_TICK_SRC ∨ i.num ≠ s.get .DLR_TICK_NUM_NUM ∨ i.den ≠ s.get .DLR_TICK_DEN_DEN then 5
  else if i.hashLo + i.hashHi * 65536 ≠ hash then 6
  else 0

/-- Enabled ports. -/
def State.enabledPorts (s : State) : List Nat := fabPorts.filter fun p => s.on (.FAB_P_CFG_EN p)

/-- R236: does a port's result hold the device? -/
def State.portHolds (s : State) (p : Nat) : Bool :=
  let c := s.get (.FAB_P_STATUS_DISC_CAUSE p)
  (s.port p).result && c != 0 && !(c == 1 && s.on (.FAB_P_CFG_OPTIONAL p))

/-- FAB_STATUS.DISC_DONE and TOPO_OK follow the ports' results, of which those of `new` are new; the hold of R236 arises with the first
failing port, or clears, and the report lists each enabled port as it gets its result. -/
def State.discUpdate (s : State) (new : List Nat) : State :=
  let ps := s.enabledPorts
  let done := ps.all fun p => (s.port p).result
  let bad := ps.any s.portHolds
  let ok := done && !bad
  let s := (s.setB .FAB_STATUS_DISC_DONE done).setB .FAB_STATUS_TOPO_OK ok
  if s.dealing then s
  else if ok then s.clearTopology
  else if bad then
    let held := s.boot.holds.contains holdTopology
    let s := if held then s else s.hold_ holdTopology
    s.each (if held then new else ps.filter fun p => (s.port p).result) fun s p =>
      s.log 0x0501 [p, s.get (.FAB_P_STATUS_DISC_CAUSE p), s.get (.FAB_P_PEER_NODE p), s.get (.FAB_P_PEER_PORT p)]
  else s

/-- A port enters UP: credits start afresh (R225). -/
def State.portEnterUp (s : State) (p : Nat) : State :=
  let s := s.updPort p fun x => { x with
    granted := [], used := [], grants := [(0, 768), (1, 128), (2, 64)], markTick := s.tick }
  ((s.setPort p ptUp).rebudget p).refreshFlows

/-- R235, R239: the identity is complete and is judged. A partner on a port that the image declares unused shows as UNEXPECTED. -/
def State.judgeIdent (s : State) (p : Nat) : State :=
  let x := s.port p
  if x.heard ≠ 7 then s
  else if s.portState p = ptDisabled then s.set (.FAB_P_STATUS_DISC_CAUSE p) (s.discCause p x.ident)
  else if s.portState p ≠ ptIdent then s
  else
    let cause := s.discCause p x.ident
    let s := (s.set (.FAB_P_STATUS_DISC_CAUSE p) cause).updPort p fun x => { x with result := true }
    let pass := match s.dealing, x.recorded with
      | true, some r => decide (r = x.ident)
      | _, _ => cause == 0
    let s := if pass then (s.updPort p fun x => { x with recorded := some x.ident }).portEnterUp p
      else s.setPort p ptMismatch
    s.discUpdate [p]

/-- R234, R235: an IDENT part arrives on port `p`. -/
def State.gotIdent (s : State) (p part : Nat) (m : Trump) : State :=
  if s.portState p ≠ ptIdent ∧ s.portState p ≠ ptDisabled then s
  else
    let s := s.updPort p fun x => { x with heard := setBitN x.heard part, ident :=
      match part with
      | 0 => { x.ident with node := Trump_arg m 0 1, port := Trump_arg m 1 1, serial := Trump_arg m 2 6 }
      | 1 => { x.ident with src := Trump_arg m 0 1, num := Trump_arg m 1 4, den := Trump_arg m 5 1,
                            hashLo := Trump_arg m 6 2 }
      | _ => { x.ident with hashHi := Trump_arg m 0 2 } }
    let s := if part = 0 then
        (((s.set (.FAB_P_PEER_NODE p) (Trump_arg m 0 1)).set (.FAB_P_PEER_PORT p) (Trump_arg m 1 1)).set
          (.FAB_P_SER_LO_SERIAL p) (Trump_arg m 2 4)).set (.FAB_P_SER_HI_SERIAL p) (Trump_arg m 6 2) else s
    s.judgeIdent p

/-- R234, R235: after 10 s every enabled port that heard no partner gets ABSENT. -/
def State.discTimeout (s : State) : State :=
  let absent := s.enabledPorts.filter fun p => !(s.port p).result
  (s.each absent fun s p =>
    (s.set (.FAB_P_STATUS_DISC_CAUSE p) 1).updPort p fun x => { x with result := true }).discUpdate absent

/-! ### Echoes and tick marks (R234, R240) -/

/-- Insert into an ascending list of integers. -/
def insInt (n : Int) : List Int → List Int
  | [] => [n]
  | k :: ks => if n ≤ k then n :: k :: ks else k :: insInt n ks

/-- R234: an ECHO_REPLY arrives at `t`; with the eighth, λ is the median of half (round trip less hold). -/
def State.gotEchoReply (s : State) (p : Nat) (m : Trump) (t : Word) : State :=
  let rt := wordDiff t (BitVec.ofNat 32 (Trump_arg m 0 4)) - (Trump_arg m 4 2 : Int)
  let s := s.updPort p fun x => { x with echoes := (insInt rt x.echoes).take 8 }
  let es := (s.port p).echoes
  if es.length = 8 then
    let (v, s) := s.roundFree ((((es.getD 3 0 + es.getD 4 0 : Int)) : Rat) / 4)
    s.set (.FAB_P_LAT_LAMBDA p) v.toNat
  else s

/-- R240: a TICK_MARK arrives at `t`. -/
def State.gotTickMark (s : State) (p : Nat) (m : Trump) (t : Word) : State :=
  let x := t - BitVec.ofNat 32 (s.get (.FAB_P_LAT_LAMBDA p) + Trump_arg m 1 3)
  let low := Trump_arg m 0 1
  let b := match s.nearestEdge 256 low x with
    | some e => e.2
    | none => s.tickTime + BitVec.ofInt 32 ((((BitVec.ofNat 8 low - s.tick.setWidth 8).toInt : Int) : Rat) * s.pTick).floor
  let skew := wordDiff b x
  let was := s.on (.FAB_P_STATUS_SKEWED p)
  let now := decide (1000 < skew.natAbs)
  let s := (s.setI (.FAB_P_SKEW_SKEW p) skew).setB (.FAB_P_STATUS_SKEWED p) now
  let s := if now && !was then s.setB .FAB_INT_STATUS_SKEW true else s
  s.updPort p fun x => { x with markTick := s.tick, peerUnsync := bitOf (Trump_arg m 4 1) 0 }

/-- R240: no TICK_MARK for 2 tick periods. -/
def State.tickMarkTimeout (s : State) (p : Nat) : State :=
  if s.portUp p ∧ s.on (.FAB_P_STATUS_SKEWED p) = false then
    (s.setB (.FAB_P_STATUS_SKEWED p) true).setB .FAB_INT_STATUS_SKEW true
  else s

/-- R233, R240: at a boundary every UP port that is not silent sends TICK_MARK; the transmitter fills in the send offset. -/
def State.sendTickMarks (s : State) : State :=
  s.each (fabPorts.filter fun p => s.portUp p && !s.fabSilent) fun s p =>
    s.neighbour p tTickMark [s.tick.toNat % 256, 0, 0, 0, b2n s.unsync]

end Sys2Proof.Machine
end

