-- ==== Sys2Proof/Machine/Front.lean ====
section
/-!
DEFINITION. The command front end (R338 to R342, R350): frames and their headers, the intake FIFO, reassembly from the
fabric, relays, and the way a response goes back to its origin.
-/

namespace Sys2Proof.Machine

open Sys2Proof

/-- Change the command channel. -/
def State.updCmd (s : State) (f : CmdSt → CmdSt) : State := { s with cmd := f s.cmd }

/-! ### Frames (R342) -/

/-- A number of `n` bytes at an offset of a frame. -/
def frameNum (bs : List Byte) (off n : Nat) : Nat := leNat ((bs.drop off).take n)

/-- The CRC result of a frame as received. -/
def frameCrcOk (bs : List Byte) : Bool :=
  decide (20 ≤ bs.length) && leNat (bs.drop (bs.length - 4)) == (crc32c (bs.take (bs.length - 4))).toNat

/-- The header of a frame from an origin. -/
def frameHdr (o : Origin) (bs : List Byte) : CmdHdr :=
  { origin := o, flags := frameNum bs 1 1, session := frameNum bs 2 2, seq := frameNum bs 4 4, alive := frameNum bs 8 1,
    command := frameNum bs 10 2, target := frameNum bs 14 1 }

/-- The LENGTH field of a frame. -/
def frameLength (bs : List Byte) : Nat := frameNum bs 12 2

/-- R338: the largest payload of a transport. -/
def maxPayload (transport : Nat) : Nat := match transport with | 0 => 1024 | 1 => 4076 | _ => 236

/-- The bytes of a response. -/
def responseBytes (h : CmdHdr) (code : Nat) (payload : List Byte) : List Byte :=
  let body := leBytes 1 1 ++ leBytes 1 (h.flags / 2 % 2 * 2 + 1) ++ leBytes 2 h.session ++ leBytes 4 h.seq ++ leBytes 1 h.alive
    ++ leBytes 1 code ++ leBytes 2 h.command ++ leBytes 2 payload.length ++ leBytes 1 h.target ++ leBytes 1 0 ++ payload
  body ++ leBytes 4 (crc32c body).toNat

/-- Pieces of 8 bytes, the last padded with zeros (R340). -/
def piecesOf : Nat → List Byte → List (List Byte)
  | 0, _ => []
  | n + 1, bs => if bs.isEmpty then [] else
      (bs.take 8 ++ List.replicate (8 - (bs.take 8).length) 0) :: piecesOf n (bs.drop 8)

/-! ### Sending (R340, R344, R350) -/

/-- R340: a frame goes to a node as CMD sets. -/
def State.sendFrame (s : State) (node : Nat) (bs : List Byte) : State :=
  let ps := piecesOf 600 bs
  s.each (ps.mapIdx fun i p => (i, p)) fun s (i, p) =>
    let type := if i = 0 then tCmdFirst else if i + 1 = ps.length then tCmdLast else tCmdMiddle
    s.originate type node false (p.map (·.toNat)) true

/-- R350: the mailbox shows a response. -/
def State.mbPost (s : State) (code : Nat) : State :=
  ((s.set .HST_MB_STATUS_CODE code).setB .HST_MB_STATUS_READY true).hostVec 0

/-- R338, R344: a response goes to its origin by the transport of the request. -/
def State.respond (s : State) (h : CmdHdr) (code : Nat) (payload : List Byte) : State :=
  match h.origin.transport with
  | 0 => s.emit (.response h.origin (responseBytes h code payload))
  | 1 => (s.updCmd fun c => { c with resp := writeBytes 0 c.resp 0 (responseBytes h code payload) }).mbPost code
  | _ =>
    let node := h.origin.addr.toNat % 64
    if payload.isEmpty then s.originate tCmdOnly node false (by2 h.session ++ by4 h.seq ++ [h.alive, code]) true
    else s.sendFrame node (responseBytes h code payload)

/-- R342: CHECK echoes the header as received; the short response of the fabric carries no header. -/
def State.respondCheck (s : State) (o : Origin) (bs : List Byte) : State :=
  let pad := bs.take 16 ++ List.replicate (16 - bs.length) 0
  let body := pad.take 1 ++ [(pad.drop 1).headD 0 ||| 1] ++ (pad.drop 2).take 7 ++ leBytes 1 stCHECK ++ pad.drop 10
  let r := body ++ leBytes 4 (crc32c body).toNat
  match o.transport with
  | 0 => s.emit (.response o r)
  | 1 => (s.updCmd fun c => { c with resp := writeBytes 0 c.resp 0 r }).mbPost stCHECK
  | _ => s.respond (frameHdr o bs) stCHECK []

/-! ### Intake and relays (R339, R341) -/

/-- R339: the place of a frame among those that arrive in the same cycle: host, network ports 0, 1 and 2, fabric. -/
def InFrame.rank (f : InFrame) : Nat :=
  match f.origin.transport with
  | 0 => 1 + f.origin.port
  | 1 => 0
  | _ => 4

/-- R339: a frame goes behind those before it in order of arrival, ahead of those of its own cycle that rank behind it. -/
def queueFrame (f : InFrame) : List InFrame → List InFrame
  | [] => [f]
  | g :: q => if (g :: q).all fun x => x.time == f.time && decide (f.rank < x.rank) then f :: g :: q else g :: queueFrame f q

/-- A frame enters the intake FIFO, which has room. -/
def State.store (s : State) (f : InFrame) : State := s.updCmd fun c => { c with fifo := queueFrame f c.fifo }

/-- Is the intake FIFO full? -/
def State.intakeFull (s : State) : Bool := 16 ≤ s.cmd.fifo.length

/-- Is a node in the fabric of the image? -/
def State.inFabric (s : State) (n : Nat) : Bool := s.image.links.any fun k => k.a == n || k.b == n

/-- Is a frame of a UDP or host origin to be relayed? -/
def State.relays (s : State) (bs : List Byte) : Bool :=
  let t := frameNum bs 14 1
  decide (20 ≤ bs.length) && t != s.nodeId && t != 0xFF

/-- R341: a frame for another node. -/
def State.relay (s : State) (o : Origin) (bs : List Byte) : State :=
  let h := frameHdr o bs
  if frameCrcOk bs = false then (s.count .CMD_CNT_CRC_ERR).respondCheck o bs
  else if 236 < frameLength bs ∨ 256 < bs.length ∨ s.inFabric h.target = false then s.respond h stRANGE []
  else if 16 ≤ s.cmd.relays.length then (s.count .CMD_CNT_RELAY_BUSY).respond h stBUSY []
  else
    let body := bs.take 1 ++ [BitVec.ofNat 8 (h.flags ||| 2)] ++ (bs.drop 2).take (bs.length - 6)
    let r : RelayRec := { origin := o, target := h.target, session := h.session, seq := h.seq, alive := h.alive, command := h.command }
    (s.updCmd fun c => { c with relays := c.relays ++ [r] }).sendFrame h.target (body ++ leBytes 4 (crc32c body).toNat)

/-- R339: a frame arrives by UDP or from the host, room in the FIFO given. -/
def State.intake (s : State) (o : Origin) (bs : List Byte) (t : Word) : State :=
  if s.relays bs then s.relay o bs
  else
    let ok := frameCrcOk bs
    let s := if ok then s else s.count .CMD_CNT_CRC_ERR
    s.store { origin := o, bytes := bs, time := t, crcOk := ok }

/-- R37, R341: a response comes from a target: it goes to the origin of the oldest relayed frame that it answers, unless that is a UDP one
and the Banker is absent. -/
def State.relayBack (s : State) (node session seq alive code : Nat) (payload : List Byte) : State :=
  match s.cmd.relays.find? fun r => r.target == node && r.session == session && r.seq == seq && r.alive == alive with
  | none => s
  | some r =>
    let h : CmdHdr := { origin := r.origin, flags := 2, session := session, seq := seq, alive := alive, command := r.command,
                        target := r.target }
    (s.updCmd fun c => { c with relays := c.relays.erase r }).when (r.origin.transport != 0 || s.bankerUp) (·.respond h code payload)

/-! ### Reassembly (R340) -/

/-- Discard the assembly of a source node, counted. -/
def State.fragLost (s : State) (node : Nat) : State :=
  (s.updCmd fun c => { c with asms := Tab.erase c.asms node }).count .CMD_CNT_FRAG_LOST

/-- A frame has come whole from a source node at `t`. -/
def State.assembled (s : State) (node : Nat) (bs : List Byte) (t : Word) : State :=
  let n := 20 + frameLength bs
  let bs := if ceilDiv n 8 * 8 = bs.length then bs.take n else bs
  let o : Origin := { transport := 2, port := 0, addr := BitVec.ofNat 32 node, udp := 0 }
  let h := frameHdr o bs
  if bitOf h.flags 0 then
    if frameCrcOk bs then s.relayBack node h.session h.seq h.alive (frameNum bs 9 1) ((bs.drop 16).take (bs.length - 20))
    else s.count .CMD_CNT_CRC_ERR
  else if s.relays bs then s.count .CMD_CNT_FRAG_LOST
  else if s.intakeFull then s.count .CMD_CNT_INTAKE_OVF
  else
    let ok := frameCrcOk bs
    let s := if ok then s else s.count .CMD_CNT_CRC_ERR
    s.store { origin := o, bytes := bs, time := t, crcOk := ok }

/-- A piece arrives: CMD_FIRST, CMD_MIDDLE, CMD_LAST, or the short response of CMD_ONLY. -/
def State.cmdPiece (s : State) (m : Trump) (t : Word) : State :=
  let a := Tab.find s.cmd.asms m.src
  if m.type = tCmdOnly then
    s.relayBack m.src (Trump_arg m 0 2) (Trump_arg m 2 4) (Trump_arg m 6 1) (Trump_arg m 7 1) []
  else if m.type = tCmdFirst then
    let s := if a.isSome then s.fragLost m.src else s
    s.updCmd fun c => { c with asms := Tab.insert c.asms m.src { bytes := m.args.take 8, last := m.seq } }
  else match a with
    | none => s.count .CMD_CNT_FRAG_LOST
    | some x =>
      if m.seq ≠ x.last + 1 ∨ 256 ≤ x.bytes.length then s.fragLost m.src
      else
        let y : Assembling := { bytes := x.bytes ++ m.args.take 8, last := m.seq }
        if m.type = tCmdMiddle then s.updCmd fun c => { c with asms := Tab.insert c.asms m.src y }
        else (s.updCmd fun c => { c with asms := Tab.erase c.asms m.src }).assembled m.src y.bytes t

/-- R340: 10 ms pass without a piece of a source node's assembly. -/
def State.fragTimeout (s : State) (node : Nat) : State :=
  if (Tab.find s.cmd.asms node).isSome then s.fragLost node else s

/-- R341: the oldest relayed frame has awaited its response for 1 s. -/
def State.relayTimeout (s : State) : State := s.updCmd fun c => { c with relays := c.relays.drop 1 }

end Sys2Proof.Machine
end

