-- ==== Sys2Proof/Machine/Reception.lean ====
section
/-!
DEFINITION. Reception and transmission of Trump sets (R226 to R233), the Banker's receive FIFO and requests, route tables
and the Scorer's check of them (R237).
-/

namespace Sys2Proof.Machine

open Sys2Proof

/-! ### Reception (R228, R229, R231, R232) -/

/-- R231, R414: follow the sequence of a source, counting and reporting a gap (log 114). -/
def State.followSeq (s : State) (m : Trump) : State :=
  let key := if m.bcast then 64 + m.src else m.src
  let s' := s.updFab fun f => { f with seqIn := Tab.put 256 f.seqIn key m.seq.toNat }
  let last := Tab.get 256 s.fab.seqIn key
  if last ≠ 256 ∧ m.seq.toNat ≠ (last + 1) % 256 then
    let r := Config.gapRecord m.src
    ((s'.count .FAB_SEQ_GAP_GAPS).set .FAB_SEQ_GAP_LAST_SRC m.src).log r.1 r.2
  else s'

/-- R232: a set for the Banker enters the receive FIFO. -/
def State.toFifo (s : State) (p : Nat) (m : Trump) : State :=
  if 64 ≤ s.fab.fifo.length then (s.count .FAB_RX_STATUS_OVF).setB .FAB_INT_STATUS_RX_OVF true
  else (s.updFab fun f => { f with fifo := f.fifo ++ [(m, p)] }).setB .FAB_INT_STATUS_TRUMP_RX true

/-- Types that carry command frames; the command front end takes them (R339, R340). -/
def trumpCmd (t : Nat) : Bool := 0x20 ≤ t && t ≤ 0x23

/-- Local delivery of a set that port hardware serves, to the command front end, or into the Banker's FIFO. -/
def State.deliver (s : State) (p : Nat) (m : Trump) (t : Word) : State :=
  let s := s.followSeq m
  let f := Trump_arg m 0 2
  match m.type with
  | 0x01 => s.stopFlow f
  | 0x02 => s.markCut f (Trump_arg m 2 1) (Trump_arg m 3 1)
  | 0x03 => s.markResumed f
  | 0x04 => s.gotPresence f (bitOf (Trump_arg m 2 1) 0)
  | 0x08 => s.gotTickMark p m t
  | 0x09 => s.neighbour p tEchoReply (by4 (Trump_arg m 0 4) ++ by4 t.toNat)
  | 0x0A => s.gotEchoReply p m t
  | 0x0C => s.gotIdent p 0 m
  | 0x0D => s.gotIdent p 1 m
  | 0x0E => s.gotIdent p 2 m
  | _ => if trumpCmd m.type then s.cmdPiece m t else s.toFifo p m

/-- R228, R229, R233: an accepted set on port `p`: delivered, forwarded or both. -/
def State.acceptTrump (s : State) (p : Nat) (m : Trump) (t : Word) : State :=
  let s := s.at_ t
  if trumpKnown m.type = false then s.trumpBad p
  else
    let s := s.count (.FAB_P_TRUMP_RECEIVED p)
    let fwd := fun (s : State) => if s.fabSilent then s else
        s.each ((s.trumpPorts m.bcast m.src m.dest).filter fun q => s.portState q != ptMismatch) fun s q => s.forward q m
    if trumpNeighbour m.type then s.deliver p m t
    else if s.portState p = ptMismatch then s
    else if m.bcast then fwd (s.deliver p m t)
    else if m.dest = s.nodeId then s.deliver p m t
    else fwd s

/-- R228: the copies of one set on port `p`. -/
def State.receiveTrump (s : State) (p : Nat) (copies : List TrumpCopy) (t : Word) : State :=
  let s := (s.laneErrors p (copies.map fun c => (c.lane, c.errs))).each (copies.filterMap fun c => trumpOf c.data) fun s m =>
    s.farEnd p (.trumpSend p m [])
  let ok := copies.filterMap fun c => if c.errs = 0 then trumpOf c.data else none
  match ok with
  | [] => s.trumpBad p
  | [m] => s.acceptTrump p m t
  | m :: m' :: _ =>
    if m = m' then s.acceptTrump p m t
    else (s.count (.FAB_P_TRUMP_DIFF p)).setB .FAB_INT_STATUS_TRUMP_BAD true

/-- R233, R239: may port `p` send a queued set now? A silent port sends the sets of discovery only, a MISMATCH port none that it forwards. -/
def State.maySend (s : State) (p : Nat) (m : Trump) : Bool :=
  (!s.fabSilent || trumpDisc m.type) && !(s.portState p == ptMismatch && m.src != s.nodeId)

/-- Take the first set that satisfies `ok` out of a queue. -/
def takeSet (ok : Trump → Bool) (q : List (Trump × Bool)) : Option (Trump × List (Trump × Bool)) :=
  (q.find? fun e => ok e.1).map fun e => (e.1, q.takeWhile (fun e => !ok e.1) ++ (q.dropWhile fun e => !ok e.1).drop 1)

/-- R227, R230: the next queued set of port `p` is inserted at time `t`; the transmitter fills in the times of
neighbour sets (R229). -/
def State.transmitTrump (s : State) (p : Nat) (t : Word) : State :=
  let x := s.port p
  if s.get (.FAB_P_STATUS_WIDTH p) = 0 ∨ s.fabIdle = true then s
  else
    let fill := fun (m : Trump) =>
      if m.type = tTickMark then
        { m with args := m.args.take 1 ++ leBytes 3 (t - s.tickTime).toNat ++ m.args.drop 4 }
      else if m.type = tEcho then { m with args := leBytes 4 t.toNat }
      else if m.type = tEchoReply then
        { m with args := m.args.take 4 ++ leBytes 2 (t - BitVec.ofNat 32 (Trump_arg m 4 4)).toNat }
      else m
    let send := fun (s : State) (m : Trump) =>
      (s.count (.FAB_P_TRUMP_SENT p)).drive p (s.trumpLanes p (fill m)) (.trumpSend p (fill m) (s.trumpLanes p (fill m)))
    match takeSet (s.maySend p) x.prio, takeSet (s.maySend p) x.ord with
    | some (m, rest), _ => send (s.updPort p fun x => ({ x with prio := rest } : PortSt).refill) m
    | none, some (m, rest) => send (s.updPort p fun x => ({ x with ord := rest } : PortSt).refill) m
    | none, none => s

/-- Sets of the Banker's that wait in the queues (FAB_TX_CTRL.QUEUE); one that leaves by several ports is one set. -/
def State.bankQueued (s : State) : Nat :=
  (uniq (fabPorts.flatMap fun p => (((s.port p).prio ++ (s.port p).ord ++ (s.port p).wait).filter (·.2)).map (·.1))).length

/-- R230: a write of FAB_TX_CTRL.GO. -/
def State.fabTxGo (s : State) : State :=
  let type := s.get .FAB_TX_CTRL_TYPE
  let dest := s.get .FAB_TX_CTRL_DEST
  let bcast := s.on .FAB_TX_CTRL_BCAST
  if trumpHw type then s.set .FAB_TX_STATUS_CODE stREFUSED
  else
    let full := 16 ≤ s.bankQueued || (s.trumpPorts bcast s.nodeId dest).any fun p =>
      (if trumpPrio type then decide (16 ≤ (s.port p).prio.length) else decide (32 ≤ (s.port p).ord.length))
        || (s.port p).wait.any fun e => trumpPrio e.1.type == trumpPrio type
    if full then s.set .FAB_TX_STATUS_CODE stBUSY
    else
      let key := if bcast then 64 else dest
      let seq := Tab.get 0 s.fab.seqOut key
      let args := by4 (s.word Reg.FAB_TX_ARG0).toNat ++ by4 (s.word Reg.FAB_TX_ARG1).toNat
      let s := s.originate type dest bcast args true
      (s.set .FAB_TX_STATUS_CODE stOK).set .FAB_TX_STATUS_SEQ seq

/-- A read of FAB_RX_ARG1: any master but the debug port removes the oldest set. -/
def State.fifoPop (s : State) (debug : Bool) : State :=
  if debug then s else s.updFab fun f => { f with fifo := f.fifo.drop 1 }

/-! ### The route check (R237) -/

/-- Links at a node: own port, neighbour, neighbour's port, length. -/
def linksAt (links : List Link) (n : Nat) : List (Nat × Nat × Nat × Nat) :=
  links.flatMap fun k => (if k.a = n then [(k.pa, k.b, k.pb, k.len)] else []) ++
    (if k.b = n then [(k.pb, k.a, k.pa, k.len)] else [])

/-- Shortest distance (hops, then metres) from every node to `d`, after `n` rounds. -/
def distances (links : List Link) (d : Nat) : Nat → Tab (Nat × Nat)
  | 0 => [(d, (0, 0))]
  | n + 1 =>
    let t := distances links d n
    (List.range 64).foldl (fun acc v =>
      let best := (linksAt links v).foldl (fun (b : Option (Nat × Nat)) e =>
        match Tab.find t e.2.1 with
        | some (h, l) =>
          let c := (h + 1, l + e.2.2.2)
          match b with
          | some (h', l') => if c.1 < h' ∨ (c.1 = h' ∧ c.2 < l') then some c else b
          | none => some c
        | none => b) (if v = d then some (0, 0) else none)
      match best with
      | some c => Tab.insert acc v c
      | none => acc) t

/-- R237: the port by which node `v` routes to `d`, with the hops. -/
def routeOf (links : List Link) (v d : Nat) : Option (Nat × Nat) :=
  let t := distances links d 4
  ((linksAt links v).foldl (fun (b : Option (Nat × Nat × Nat)) e =>
    match Tab.find t e.2.1 with
    | some (h, l) =>
      let c := (e.1, h + 1, l + e.2.2.2)
      match b with
      | some (p', h', l') =>
        if c.2.1 < h' ∨ (c.2.1 = h' ∧ (c.2.2 < l' ∨ (c.2.2 = l' ∧ c.1 < p'))) then some c else b
      | none => some c
    | none => b) none).map fun c => (c.1, c.2.1)

/-- R237: the route table word and broadcast mask the Scorer computes for node `d`; the nodes are those of the
topology. -/
def State.ownTables (s : State) (d : Nat) : Word × Word :=
  let links := s.image.links
  let me := s.nodeId
  let rt : Nat := if d = me then 8 + 16 else match routeOf links me d with
    | some (p, h) => p + 16 + 32 * h
    | none => 0
  let bc : Nat := ((linksAt links me).filter fun e =>
    d != e.2.1 && ((routeOf links e.2.1 d).map (·.1)) == some e.2.2.1).foldl (fun n e => setBitN n e.1) 0
  (BitVec.ofNat 32 rt, BitVec.ofNat 32 bc)

/-- R237: the Scorer's check ends. -/
def State.routeCheck (s : State) : State :=
  if s.on .FAB_RT_CHECK_BUSY = false then s
  else
    let s := s.setB .FAB_RT_CHECK_BUSY false
    let bad := (List.range 64).find? fun d => (s.word (Reg.FAB_RT d), s.word (Reg.FAB_BC d)) != s.ownTables d
    match bad with
    | none => (s.set .FAB_RT_CHECK_RESULT 1).setB .FAB_STATUS_ROUTE_OK true
    | some d => (((s.set .FAB_RT_CHECK_RESULT 2).set .FAB_RT_CHECK_FAIL_NODE d).setB .FAB_STATUS_ROUTE_OK false).hold_ holdRoute

end Sys2Proof.Machine
end

