-- ==== Sys2Proof/Machine/Fabric.lean ====
section
/-!
DEFINITION. Packets and flows across the fabric (R213, R219, R223 to R225, R242 to R246, R50), and the lane quads
(R217, R218).
-/

namespace Sys2Proof.Machine

open Sys2Proof

/-! ### Packets (R219) -/

/-- Header bytes of a packet (R219). -/
def headerBytes (k : RxPacket) : List Byte :=
  leBytes 2 (k.kind % 16 + k.flow % 4096 * 16) ++
  (if k.kind = 1 then [BitVec.ofNat 8 k.field]
   else [BitVec.ofNat 8 k.dest, BitVec.ofNat 8 k.src] ++ leBytes 2 k.payload.length ++ leBytes 2 k.field)

/-- The CRC of a packet: CRC-16 for SEGMENT, CRC-32C for the others. -/
def packetCrc (k : RxPacket) : Nat :=
  if k.kind = 1 then (crc16 (headerBytes k ++ k.payload)).toNat else (crc32c (headerBytes k ++ k.payload)).toNat

/-- A packet formed by this node. -/
def formPacket (kind flow dest src field : Nat) (payload : List Byte) : RxPacket :=
  let k : RxPacket := { kind := kind, flow := flow, dest := dest, src := src, field := field, payload := payload,
                        crc := 0, good := true, errs := [] }
  { k with crc := packetCrc k }

/-- R215, R219: the symbols of a packet at width `w`: K27.7, header, payload, CRC (a CRC-32C lowest byte first, log 76), pad, and K29.7
or K30.7. -/
def packetStream (w : Nat) (k : RxPacket) : List Sym :=
  let crc := if k.kind = 1 then beBytes 2 k.crc else leBytes 4 k.crc
  let body := .k 27 7 :: (headerBytes k ++ k.payload ++ crc).map .d
  body ++ List.replicate (padded w (body.length + 1) - (body.length + 1)) (.d 0#8) ++ [if k.good then .k 29 7 else .k 30 7]

/-- R215: symbols dealt out over the active lanes in turn. -/
def stripe (lanes : List Nat) (xs : List Sym) : List (Nat × List Sym) :=
  lanes.mapIdx fun i l => (l, (List.range (ceilDiv (xs.length - i) lanes.length)).map fun r => xs.getD (r * lanes.length + i) (.d 0#8))

/-- The symbols of a packet on the active lanes of port `p`. -/
def State.packetLanes (s : State) (p : Nat) (k : RxPacket) : List (Nat × List Sym) :=
  stripe (s.txLanes p) (packetStream (max 1 (s.txLanes p).length) k)

/-- R213, R215, R242: is a packet whole? -/
def RxPacketOk (k : RxPacket) : Bool := k.good && k.errs.isEmpty && k.crc == packetCrc k

/-- Transmit class of a kind. -/
def txClass (kind : Nat) : Nat := match kind with | 1 | 2 => 0 | 3 | 4 | 5 => 1 | 6 => 2 | _ => 3

/-- Payload bits a packet occupies at a port's width (R221). -/
def State.packetBits (s : State) (p : Nat) (k : RxPacket) : Nat :=
  8 * padded (max 1 (widthLanes (s.get (.FAB_P_STATUS_WIDTH p)))) (packetSymbols k.kind k.payload.length)

/-! ### Policing (R224) -/

/-- R224: a packet of flow `f` is policed at port `p`; the 65th in a tick is a FLOOD. -/
def State.policed (s : State) (p f : Nat) : State :=
  let s := (s.count (.FAB_P_PKT_POLICED p)).setB .FAB_INT_STATUS_POLICE true
  let n := Tab.get 0 (s.port p).policed f + 1
  let s := s.updPort p fun x => { x with policed := Tab.put 0 x.policed f n }
  if n = 65 then s.flowStop f p else s

/-- R224: is flow `f` unreserved, CUT or STOPPED at the port? -/
def State.flowShut (s : State) (p f : Nat) : Bool :=
  !s.reserved f || s.on (.FAB_FLOW_STATE_CUT f) || s.on (.FAB_FLOW_STATE_STOPPED f) || (s.port p).cut.contains f

/-- R221, R224: has the flow used its cost in this tick? -/
def State.costUsed (s : State) (p : Nat) (f : FlowDesc) : Bool :=
  decide (s.flowCost f (max 1 (widthLanes (s.get (.FAB_P_STATUS_WIDTH p)))) ≤ Tab.get 0 (s.port p).cost f.id)

/-- Charge a packet against its flow's cost at a port. -/
def State.charge (s : State) (p : Nat) (k : RxPacket) : State :=
  let n := s.packetBits p k
  s.updPort p fun x => { x with cost := Tab.put 0 x.cost k.flow (Tab.get 0 x.cost k.flow + n) }

/-- R224: hand a packet, received by port `origin` unless it starts here, to the transmitter of port `p`, or police it. -/
def State.toPort (s : State) (p : Nat) (k : RxPacket) (origin : Option Nat) : State :=
  let x : TxPacket := ⟨txClass k.kind, k, origin⟩
  if k.kind = 7 then s.updPort p fun y => { y with queue := y.queue ++ [x] }
  else match s.flow? k.flow with
    | none => (s.policed p k.flow).giveBack x
    | some f =>
      if s.flowShut p f.id || s.costUsed p f then (s.policed p f.id).giveBack x
      else s.updPort p fun y => { y with queue := y.queue ++ [x] }

/-! ### DIRECT carriage at the source and into line stores (R170, R242) -/

/-- Bytes of a stored pixel in a SEGMENT: the line's samples in STORE_FMT (R219). Two pixels of 4:2:2 share their
chroma samples. -/
def segPayload (fmt : Nat) (px : List Px) : List Byte :=
  if fmt = 5 then px.flatMap fun p => leBytes 4 (p.a * 65536 + p.b * 256 + p.c)
  else if fmt = 6 then px.flatMap fun p => leBytes 4 (p.a * 2 ^ 20 + p.b * 2 ^ 10 + p.c)
  else
    let deep := fmtDeep fmt
    let chroma := (px.zipIdx.filter fun e => e.2 % 2 == 0).map (·.1)
    px.flatMap (fun p => sampleBytes deep p.a) ++ chroma.flatMap fun p => sampleBytes deep p.b ++ sampleBytes deep p.c

/-- The 16 pixels of a SEGMENT payload; odd pixels of 4:2:2 have the chroma of the even one before (R102 widens it
at the mixer). -/
def segPixels (fmt : Nat) (bs : List Byte) : List Px :=
  (List.range 16).map fun i =>
    let w := leNat ((bs.drop (4 * i)).take 4)
    if fmt = 5 then ⟨w / 65536 % 256, w / 256 % 256, w % 256⟩
    else if fmt = 6 then ⟨w / 2 ^ 20 % 1024, w / 2 ^ 10 % 1024, w % 1024⟩
    else
      let k := if fmtDeep fmt then 2 else 1
      let at_ := fun n => leNat ((bs.drop (k * n)).take k)
      ⟨at_ i, at_ (16 + i / 2 * 2), at_ (17 + i / 2 * 2)⟩

/-- Slots of this node that show a source. -/
def State.slotsOf (s : State) (src : BitVec 16) : List (Nat × Nat) :=
  outputs.flatMap fun o => (List.range 4).filterMap fun j =>
    match (s.slot o j).layer with
    | some l => if s.layerSrc l = src then some (o, j) else none
    | none => none

/-- R170: a segment enters the line stores of a source, at the slot of its line modulo 4. -/
def State.storeSegment (s : State) (src : BitVec 16) (g : Segment) : State :=
  s.each (s.slotsOf src) fun s (o, j) => s.updSlot o j fun x => { x with
    store := (x.store.filter fun e => !(e.line % 4 == g.line % 4 && (e.index == g.index || e.line != g.line))) ++ [g] }

/-- R170: the segments of an input line, converted as R165 states. -/
def State.lineSegments (s : State) (n : LineIn) : List Segment :=
  let i := n.input
  let fmt := s.get (.CAP_CFG_STORE_FMT i)
  let seq8 := (s.cap i).seq.setWidth 8
  let px := (List.range n.row.length).map fun x =>
    convertPx [n.row] (s.get (.CAP_STATUS_ENC i)) (s.on (.CAP_STATUS_BPC10 i)) fmt (s.get (.CAP_DIM_H i)) x 0
  (List.range (ceilDiv n.row.length 16)).map fun k =>
    { line := n.line, index := k, src := s.localSrc i, seq8 := seq8, arrival := n.times.getD k 0,
      symErr := n.bad.contains k, px := (px.drop (16 * k)).take 16 }

/-- R170: lines of local inputs enter the line stores; only an input in VIDEO delivers. -/
def State.localLines (s : State) (ls : List LineIn) : State :=
  s.each (ls.filter fun n => decide (n.input < 16) && s.on (.CAP_STATUS_PRESENT n.input)) fun s n =>
    s.each (s.lineSegments n) fun s g => s.storeSegment (s.localSrc n.input) g

/-- R219: the 16 pixels of a SEGMENT; beyond the end of the line their samples are not stated. -/
def segFull (px : List Px) : List Px :=
  let v := fun n => (Config.segPad n).toNat
  px ++ ((List.range 16).drop px.length).map fun i => ⟨v (3 * i), v (3 * i + 1), v (3 * i + 2)⟩

/-- R242: the LINE packet and SEGMENT packets of an input line for a DIRECT flow. -/
def State.directPackets (s : State) (f : FlowDesc) (n : LineIn) : List RxPacket :=
  let i := n.input
  let v := s.get (.CAP_DIM_V i)
  let flags := b2n (s.on (.CAP_STATUS_PRESENT i)) + (if n.line = 0 then 2 else 0) + (if n.line + 1 = v then 4 else 0)
  let fmt := s.get (.CAP_CFG_STORE_FMT i)
  formPacket 2 f.id f.dest s.nodeId n.line (leBytes 2 f.src.toNat ++ leBytes 1 ((s.cap i).seq.toNat % 256) ++ leBytes 1 flags)
  :: (s.lineSegments n).map fun g =>
    { formPacket 1 f.id f.dest s.nodeId g.index (segPayload fmt (segFull g.px)) with good := !g.symErr }

/-- R230, R251: a flow that is stopped or cut is not produced at its source. -/
def State.flowMuted (s : State) (f : Nat) : Bool := s.on (.FAB_FLOW_STATE_STOPPED f) || s.on (.FAB_FLOW_STATE_CUT f)

/-- R242: input lines go out on the DIRECT flows that leave by port `p`. -/
def State.sendLines (s : State) (p : Nat) (ls : List LineIn) : State :=
  s.each ls fun s n =>
    s.each (s.flowsFrom.filter fun f => f.direct && f.src == s.localSrc n.input
        && (s.trumpPorts false 0 f.dest).contains p && s.on (.CAP_STATUS_PRESENT n.input) && !s.flowMuted f.id) fun s f =>
      s.each (s.directPackets f n) fun s k => s.toPort p k none

/-! ### FRAME carriage at the source (R50, R244) -/

/-- R50, R244: the 64-byte payload of FRAME_START for a buffer header. -/
def State.startPayload (s : State) (h : BufHdr) : List Byte :=
  let a := wordDiff s.tickTime (h.capTime.setWidth 32)
  let flags := s.tick.toNat % 4 + (if h.noShow ∨ 1000000000 < a then 4 else 0) + (if s.unsync then 8 else 0)
  let b := h.body
  b.take 8 ++ leBytes 4 (wordOfInt a).toNat ++ [BitVec.ofNat 8 flags, 0, 0, 0] ++ (b.drop 16).take 44 ++ [0, 0, 0, 0]

/-- FRAME_DATA packets of a frame. -/
def framePackets (h : BufHdr) : Nat := ceilDiv (planeBytes h.format h.width h.height) 256

/-- R244, R272: the next packet of a FRAME carriage; a block that failed spoils its packet. -/
def State.frameNext (s : State) (f : FlowDesc) (x : FlowSend) : RxPacket :=
  let h := (s.desc x.buf).hdr
  let n := framePackets h
  if x.sent = 0 then formPacket 3 f.id f.dest s.nodeId 0 (s.startPayload h)
  else if x.sent ≤ n then
    { formPacket 4 f.id f.dest s.nodeId ((x.sent - 1) % 65536)
        (readBytes Config.dramFill s.dram (s.bufAddr x.buf + 256 * x.sent) 256) with good := !(x.spoil || !(s.badBlocks (s.bufAddr x.buf + 256 * x.sent) 256).isEmpty) }
  else formPacket 5 f.id f.dest s.nodeId 0 (leBytes 4 (x.crc ^^^ 0xFFFFFFFF#32).toNat ++ leBytes 4 n)

/-- R244: a FRAME flow trick is issued on the source node. -/
def State.frameIssue (s : State) (f : FlowDesc) : State :=
  let last := Tab.find s.fab.lastSent f.id
  let cands := (s.candidates f.src).filter fun b => match last with
    | some q => seqNewer b.hdr.seq q
    | none => true
  match newestBuf cands, s.trumpPorts false 0 f.dest with
  | some b, p :: _ => match b.desc with
    | some d => (s.hold d (holdPort p)).updFab fun x => { x with
        sends := Tab.insert x.sends f.id ⟨d, 0, 0xFFFFFFFF#32, false⟩, lastSent := Tab.insert x.lastSent f.id b.hdr.seq }
    | none => s
  | _, _ => s

/-- R30, R244: a FRAME carriage ends, complete or abandoned: the port's holder bit is cleared. -/
def State.frameStop (s : State) (f : FlowDesc) : State :=
  match Tab.find s.fab.sends f.id, s.trumpPorts false 0 f.dest with
  | some x, p :: _ =>
    let s := s.updFab fun y => { y with sends := Tab.erase y.sends f.id }
    let others := s.image.flows.any fun g => g.id != f.id && (s.trumpPorts false 0 g.dest).contains p &&
      (match Tab.find s.fab.sends g.id with | some y => y.buf == x.buf | none => false)
    if others then s else s.unhold x.buf (holdPort p)
  | _, _ => s

/-- Mark the running trick of a flow complete. -/
def State.flowDone (s : State) (f : Nat) : State :=
  s.updDealer fun d => { d with tricks := d.tricks.map fun r =>
    if r.trick.cls == .fabricFlow && r.trick.job == f then { r with done := !r.stale, buf := none } else r }

/-! ### PACKET_TRANSMIT (R223) -/

/-- R225: is there credit for a packet at a port? -/
def State.hasCredit (s : State) (p : Nat) (k : RxPacket) : Bool :=
  match creditClass k.kind with
  | none => true
  | some c =>
    let x := s.port p
    decide (ceilDiv k.payload.length 64 ≤ (Tab.get 0 x.granted c + 65536 - Tab.get 0 x.used c % 65536) % 65536)

/-- Send a packet: use its credit. -/
def State.sendPacket (s : State) (p : Nat) (k : RxPacket) : State :=
  let s := match creditClass k.kind with
    | some c => s.updPort p fun x => { x with used := Tab.put 0 x.used c ((Tab.get 0 x.used c + ceilDiv k.payload.length 64) % 65536) }
    | none => s
  s.drive p (s.packetLanes p k) (.fabPacket p k (s.packetLanes p k))

/-- R224: police the waiting packets whose flow has been cut, stopped or is no longer reserved, and the DIRECT ones whose flow has used
its cost; a FRAME or STREAM packet waits for the next tick then (R223, item 6; log 76). -/
def State.policeQueue (s : State) (p : Nat) : State :=
  let spent := fun (f : Nat) => match s.flow? f with
    | some d => s.costUsed p d
    | none => true
  let shut := fun (k : TxPacket) => decide (k.cls ≠ 3) && (s.flowShut p k.pk.flow || (k.cls == 0 && spent k.pk.flow))
  let bad := (s.port p).queue.filter shut
  (s.dropPackets p shut).each bad fun s k => s.policed p k.pk.flow

/-- R222, R223: does a MESSAGE packet stay within the share of 0.75 %? -/
def State.msgShare (s : State) (p : Nat) (k : RxPacket) : Bool :=
  let w := widthLanes (s.get (.FAB_P_STATUS_WIDTH p))
  decide ((((s.port p).msgBits + s.packetBits p k : Nat) : Rat) ≤ (75 : Rat) / 10000 * w * (648 : Rat) / 100 * s.pTick)

/-- A packet that may be sent: waiting in the queue, or the next of a FRAME carriage of this node. -/
inductive Ready where
  | waiting (x : TxPacket)
  | own (f : Nat) (k : RxPacket)
  deriving DecidableEq, Repr

/-- The packet of it, and its flow. -/
def Ready.pk : Ready → RxPacket
  | .waiting x => x.pk
  | .own _ k => k
def Ready.flow : Ready → Nat
  | .waiting x => x.pk.flow
  | .own f _ => f

/-- R223, item 6: the FRAME and STREAM packets that credit allows at port `p`, of flows that have not used their cost; of each flow the
oldest alone, so that its packets keep their order. -/
def State.readyFlows (s : State) (p : Nat) : List Ready :=
  let unused := fun (f : Nat) => match s.flow? f with
    | some d => !s.costUsed p d
    | none => false
  let own := s.fab.sends.filterMap fun (f, x) => (s.flow? f).bind fun d =>
    if (s.trumpPorts false 0 d.dest).contains p && !s.flowShut p f then some (.own f (s.frameNext d x)) else none
  let queue := (s.port p).queue.filter fun k => k.cls == 1 || k.cls == 2
  let queued := (uniq (queue.map (·.pk.flow))).filterMap fun f => (queue.find? fun k => k.pk.flow == f).map Ready.waiting
  (own ++ queued).filter fun e => unused e.flow && s.hasCredit p e.pk

/-- R223: the first packet of the flow that comes next after flow `turn`, in ascending flow number and round again. -/
def nextReady (turn : Nat) (rs : List Ready) : Option Ready :=
  rs.foldl (fun best r =>
    let key := fun (x : Ready) => (x.flow + 65535 - turn) % 65536
    match best with
    | some b => if key r < key b then some r else some b
    | none => some r) none

/-- Take the first waiting packet equal to `k` away. -/
def dropFirst (q : List TxPacket) (k : TxPacket) : List TxPacket :=
  q.takeWhile (fun e => e != k) ++ (q.dropWhile fun e => e != k).drop 1

/-- Send a waiting packet: it leaves the queue, and the buffer it held. -/
def State.sendWaiting (s : State) (p : Nat) (x : TxPacket) : State :=
  ((s.updPort p fun y => { y with queue := dropFirst y.queue x }).sendPacket p x.pk).giveBack x

/-- R271: port `p` has read the block of its FRAME_DATA packet `k`: a failure is recorded. -/
def State.frameRead (s : State) (p : Nat) (k : RxPacket) (x : FlowSend) : State :=
  if k.kind = 4 then (s.chargeBlocks (42 + p) 1).persistAll (42 + p) (s.badBlocks (s.bufAddr x.buf + 256 * x.sent) 256) else s

/-- Advance a FRAME carriage after its packet `k` has gone out of port `p`. -/
def State.frameAdvance (s : State) (p f : Nat) (k : RxPacket) : State :=
  match s.flow? f, Tab.find s.fab.sends f with
  | some d, some x =>
    if k.kind = 5 then (s.frameStop d).flowDone f
    else
      let s := s.frameRead p k x
      let x := { x with sent := x.sent + 1, spoil := x.spoil && k.kind != 4, crc := if k.kind = 4 then crc32cFeed x.crc k.payload else x.crc }
      s.updFab fun y => { y with sends := Tab.insert y.sends f x }
  | _, _ => s

/-- R214: the lane status of every lane of a port: lane, status byte and check byte (log 74). A node in SAFE keeps forwarding (R423). -/
def State.laneStatusSet (s : State) (p : Nat) : FabSet :=
  .laneStatus ((List.range 4).map fun l =>
    let st := b2n ((s.txLanes p).contains l) + 2 * b2n (bitOf (s.get (.FAB_P_STATUS_RX_GOOD p)) l) + 4 * s.get (.FAB_P_STATUS_WIDTH p)
      + 16 * b2n (!s.fabSilent) + 32 * b2n s.unsync
    (l, st, (BitVec.ofNat 8 st ^^^ BitVec.ofNat 8 l ^^^ 0xA5#8).toNat))

/-- R214, R225: one credit set goes out, of the classes in turn (log 76). -/
def State.sendCredit (s : State) (p : Nat) : State :=
  let c := (s.port p).creditTurn % 3
  (s.emitSet p (.credit c (Tab.get 0 (s.port p).grants c % 65536))).updPort p fun x => { x with creditTurn := (c + 1) % 3 }

/-- R223, items 4 to 7: the packet that goes at a packet boundary, or an idle set. -/
def State.sendNext (s : State) (p : Nat) : State :=
  match (s.port p).queue.find? fun k => k.cls == 0 with
  | some k => (s.charge p k.pk).sendWaiting p k
  | none =>
    match ((s.port p).queue.find? fun k => k.cls == 3).filter fun k => s.hasCredit p k.pk && s.msgShare p k.pk with
    | some k =>
      let n := s.packetBits p k.pk
      (s.updPort p fun x => { x with msgBits := x.msgBits + n }).sendWaiting p k
    | none =>
      match nextReady (s.port p).turn (s.readyFlows p) with
      | some r =>
        let s := (s.updPort p fun x => { x with turn := r.flow }).charge p r.pk
        match r with
        | .own f k => (s.sendPacket p k).frameAdvance p f k
        | .waiting x => s.sendWaiting p x
      | none => s.emitSet p .idle

/-- R223, R233, R234: at a packet boundary port `p` sends the first item ready. A port without a width sends idle and lane status sets
on all its lanes; a disabled one, and every one in RESET and RECOVERY, nothing. -/
def State.packetTransmit (s : State) (p : Nat) (d : TxDue) : State :=
  if s.fabIdle = true ∨ (s.portState p = ptDisabled ∧ s.get (.FAB_P_STATUS_WIDTH p) = 0) then s
  else
    let s := (s.sendLines p d.lines).policeQueue p
    if d.skip then s.emitSet p .skip
    else if d.lane then s.emitSet p (s.laneStatusSet p)
    else if d.credit = true ∧ s.get (.FAB_P_STATUS_WIDTH p) ≠ 0 then s.sendCredit p
    else if s.portUp p = false ∨ s.fabSilent = true then s.emitSet p .idle
    else s.sendNext p

/-- R225: a credit set arrives for a class. -/
def State.gotCredit (s : State) (p c total : Nat) : State :=
  s.updPort p fun x => { x with granted := Tab.put 0 x.granted c (total % 65536) }

/-- R225: a class has waited more than 1 ms for credit. -/
def State.creditStall (s : State) (p : Nat) : State := s.count (.FAB_P_MISC_CREDIT_STALL p)

/-- At a boundary the costs used and the policing counts of the tick start afresh (R223, R224). -/
def State.portsTick (s : State) : State :=
  s.each fabPorts fun s p => s.updPort p fun x => { x with cost := [], policed := [], msgBits := 0 }

/-! ### Reception of packets (R219, R224, R242 to R246) -/

/-- Count a bad packet. -/
def State.packetBad (s : State) (p : Nat) : State := s.count (.FAB_P_PKT_BAD p)

/-- R224: a packet on the wrong port or node. -/
def State.misroute (s : State) (p : Nat) : State :=
  (s.count (.FAB_P_MISC_MISROUTE p)).setB .FAB_INT_STATUS_POLICE true

/-- R219, R224, R242: what every packet passes at port `p`: a bad packet is counted, a misrouted one discarded, one in
transit forwarded (ended with K30.7 when bad); `here` acts on one that ends here. -/
def State.receivePacket (s : State) (p : Nat) (k : RxPacket) (here : State → FlowDesc → State) : State :=
  if s.portUp p = false then s
  else
    let s := if RxPacketOk k then s else s.packetBad p
    match s.flow? k.flow with
    | none => (s.misroute p).grant p k
    | some f =>
      let astray : Bool := k.kind != 1 && k.dest != f.dest && (k.dest == s.nodeId || f.dest == s.nodeId)
      if srcNode f.src = s.nodeId ∨ f.inPort ≠ p ∨ astray = true then (s.misroute p).grant p k
      else if f.dest = s.nodeId then here (s.grant p k) f
      else match s.trumpPorts false 0 f.dest with
        | q :: _ => s.toPort q { k with good := RxPacketOk k } (some p)
        | [] => s.grant p k

/-- R242: a SEGMENT for this node; the pad pixels of a last one, past the width of the source, are dropped (log 3). -/
def State.gotSegment (s : State) (p : Nat) (k : RxPacket) (t : Word) : State :=
  (s.at_ t).receivePacket p k fun s f =>
    match Tab.find s.fab.lineTag f.id with
    | none => s
    | some (src, seq8, line, _) =>
      let newest := (s.slotsOf f.src).flatMap fun (o, j) => (s.slot o j).store.filterMap fun g =>
        if g.seq8 = seq8 then some g.line else none
      if newest.any fun n => line + 4 ≤ n then s.count (.FAB_P_FRAME_LATE_SEG p)
      else s.storeSegment f.src { line := line, index := k.field, src := src, seq8 := seq8, arrival := t,
                                  symErr := !RxPacketOk k, px := (segPixels (s.storeFmt f.src) k.payload).take ((s.srcDesc f.src).width - 16 * k.field) }

/-- R53: the SEQ of a remote direct record: the low 8 bits come with the line, the rest continues the count. -/
def extendSeq (last : BitVec 32) (low : BitVec 8) : BitVec 32 :=
  last + (low - last.setWidth 8).setWidth 32

/-- Free freeze and tell signatures of a remote direct record: the spec does not say how they reach the node. -/
def State.freeSigs (s : State) : (List (BitVec 16) × BitVec 32) × State :=
  let (frz, s) := (List.range 16).foldl (fun (a : List (BitVec 16) × State) _ =>
    let (v, s) := a.2.fresh
    (a.1 ++ [v.setWidth 16], s)) ([], s)
  let (v, s) := s.fresh
  ((frz, v.setWidth 32), s)

/-- R53, R242, R247: a LINE packet for this node. The spec gives a record of the direct path no capture time at a node that is not
the source's: it is the arrival of the line packet (log 63). -/
def State.gotLine (s : State) (p : Nat) (k : RxPacket) (t : Word) : State :=
  (s.at_ t).receivePacket p k fun s f =>
    if RxPacketOk k = false then s
    else
      let src := BitVec.ofNat 16 (leNat (k.payload.take 2))
      let seq8 := k.payload.getD 2 0
      let flags := (k.payload.getD 3 0).toNat
      let s := s.updFab fun x => { x with lineTag := Tab.insert x.lineTag f.id (src, seq8, k.field, bitOf flags 0) }
      let s := if s.on (.FAB_FLOW_STATE_PRESENT f.id) = bitOf flags 0 then s else s.gotPresence f.id (bitOf flags 0)
      let key := f.src.toNat
      let old := Tab.find s.fab.directRecs key
      let s := if bitOf flags 1 then
          let seq := match old with | some r => extendSeq r.1.hdr.seq seq8 | none => seq8.setWidth 32
          let d := s.srcDesc f.src
          let h : BufHdr := { BufHdr.zero with
            srcId := src, capExt := s.epochValid, seq := seq, width := d.width, height := d.height, format := d.format,
            capTime := if s.epochValid then s.extNow else 0#32 ++ t }
          let r : BufRec := { desc := none, hdr := h, eligTime := t, eligTick := s.tick, bad := false }
          s.updFab fun x => { x with directRecs := Tab.insert x.directRecs key (r, old.bind (·.2)) }
        else s
      if bitOf flags 2 then
        match Tab.find s.fab.directRecs key with
        | some (r, _) =>
          let ((frz, tell), s) := s.freeSigs
          let done := { r with hdr := { r.hdr with frz := frz, tell := if d_tell s f then tell else 0 } }
          s.updFab fun x => { x with directRecs := Tab.insert x.directRecs key (r, some done) }
        | none => s
      else s
where
  /-- the source has a tell region -/
  d_tell (s : State) (f : FlowDesc) : Bool := (s.srcDesc f.src).tell.isSome

/-- R244: the header that a FRAME_START payload carries, with the capture time of R50. Where this node knows no boundary of the tick
that the frame names, the spec gives no capture time: it is taken from the latest boundary, with NO_SHOW (log 62). -/
def State.startHdr (s : State) (p : Nat) (bs : List Byte) (t : Word) : BufHdr :=
  let at_ := fun o n => leNat ((bs.drop o).take n)
  let fl := at_ 2 2
  let flags := at_ 12 1
  let a : Int := (BitVec.ofNat 32 (at_ 8 4)).toInt
  let edge := s.latestEdge 4 (flags % 4) t
  let noShow := bitOf flags 2 || bitOf flags 3 || s.unsync || edge.isNone
  let ext := s.epochValid
  let tm : Word := match edge with | some e => e.2 | none => s.tickTime
  let base : Time64 := if ext then s.extNow - BitVec.ofInt 64 (wordDiff s.time.now tm) else 0#32 ++ tm
  let cap := base - BitVec.ofInt 64 (a + 2000)
  { srcId := BitVec.ofNat 16 (at_ 0 2), capExt := ext, noShow := noShow, map := fl / 4 % 4, conceal := fl / 16 % 1024,
    seq := BitVec.ofNat 32 (at_ 4 4), capTime := if ext then cap else 0#32 ++ (cap.setWidth 32 : BitVec 32),
    frz := (List.range 16).map fun r => BitVec.ofNat 16 (at_ (16 + 2 * r) 2), tell := BitVec.ofNat 32 (at_ 48 4),
    width := at_ 52 2, height := at_ 54 2, format := at_ 56 1, cls := 8, idx := p }

/-- R244: a frame in reception fails: its buffer returns to FREE and FRAME_BAD is counted. -/
def State.frameFail (s : State) (f : Nat) : State :=
  match Tab.find s.fab.frames f with
  | some x =>
    (((s.freeBuf x.buf).count (.FAB_P_FRAME_FRAME_BAD x.port)).updFab fun y => { y with frames := Tab.erase y.frames f }).flowDone f
  | none => s

/-- R244, R245: a FRAME_START opens a buffer of the flow's class. -/
def State.gotFrameStart (s : State) (p : Nat) (k : RxPacket) (t : Word) : State :=
  (s.at_ t).receivePacket p k fun s f =>
    let s := s.frameFail f.id
    if RxPacketOk k = false ∨ k.payload.length ≠ 64 then s
    else match s.curDeal.find? fun r => r.cls == .fabricFlow && r.job == f.id with
      | none => s
      | some tr => match tr.talon with
        | none => s
        | some c => match s.lowestFree c with
          | none => s.poolEmpty tr
          | some d =>
            let s := s.fillBuf d f.src
            let h := s.startHdr p k.payload t
            let s := s.updFab fun x => { x with frames := Tab.insert x.frames f.id ⟨d, p, h, 0, 0xFFFFFFFF#32, true⟩ }
            s.updDealer fun x => { x with tricks :=
              (x.tricks.filter fun r => !(r.trick.cls == .fabricFlow && r.trick.job == f.id)) ++
              [{ trick := tr, issueTick := s.tick, done := false, buf := some d, eav := none, dueAt := some (s.tick + 2),
                 stale := false, coded := none }] }

/-- R244: a FRAME_DATA packet. -/
def State.gotFrameData (s : State) (p : Nat) (k : RxPacket) : State :=
  s.receivePacket p k fun s f =>
    match Tab.find s.fab.frames f.id with
    | none => s
    | some x =>
      let ok := x.ok && RxPacketOk k && k.field == x.next % 65536 && k.payload.length == 256
        && decide (x.next < framePackets x.hdr)
      let s := if ok then (s.chargeBlocks (42 + p) 1).storeBytes (s.bufAddr x.buf + 256 + 256 * x.next) k.payload
        else s
      let x := { x with ok := ok, next := x.next + 1, crc := crc32cFeed x.crc k.payload }
      s.updFab fun y => { y with frames := Tab.insert y.frames f.id x }

/-- R244: a FRAME_END: the header is written and checked, or the frame fails. A trick whose DMA met an error response does not complete
(R374). -/
def State.gotFrameEnd (s : State) (p : Nat) (k : RxPacket) (t : Word) : State :=
  (s.at_ t).receivePacket p k fun s f =>
    match Tab.find s.fab.frames f.id with
    | none => s
    | some x =>
      if s.staleRun .fabricFlow f.id then s
      else
      let crcOk := leNat (k.payload.take 4) == (x.crc ^^^ 0xFFFFFFFF#32).toNat
      let cntOk := leNat ((k.payload.drop 4).take 4) == x.next && x.next == framePackets x.hdr
      if x.ok && RxPacketOk k && crcOk && cntOk then
        let s := (s.writeHdr x.buf x.hdr false).headerCheck x.buf x.hdr
        (s.updFab fun y => { y with frames := Tab.erase y.frames f.id }).flowDone f.id
      else s.frameFail f.id

/-- R246: a piece of a STREAM packet; the last one completes an RTP packet, sent from the flow's 10GBASE-R port. One of which a piece
was bad is not sent. -/
def State.gotStream (s : State) (p : Nat) (k : RxPacket) : State :=
  s.receivePacket p k fun s f =>
    let (held, spoilt) := (Tab.find s.fab.streams f.id).getD ([], false)
    let bs := held ++ k.payload
    let spoilt := spoilt || !RxPacketOk k
    if bitOf k.field 0 then
      let s := s.updFab fun x => { x with streams := Tab.erase x.streams f.id }
      if spoilt then s else s.deckSend f.gPort (.flow f.mac bs)
    else s.updFab fun x => { x with streams := Tab.insert x.streams f.id (bs, spoilt) }

/-- R219: a MESSAGE packet: Banker-to-Banker data for this node, or on through its route. -/
def State.gotMessage (s : State) (p : Nat) (k : RxPacket) : State :=
  if s.portUp p = false then s
  else
    if RxPacketOk k = false then (s.packetBad p).grant p k
    else if k.dest = s.nodeId then (s.grant p k).updFab fun x => { x with messages := x.messages ++ [(k.src, k.payload)] }
    else match s.trumpPorts false 0 k.dest with
      | q :: _ => s.toPort q k (some p)
      | [] => s.grant p k

/-- R219: a packet of another kind is discarded and counted as BAD. -/
def State.wrongKind (s : State) (p : Nat) : State := s.packetBad p

/-- R213, R219: count the invalid symbols of a packet, and hand one of a kind to its reception, or discard it. -/
def State.ofKind (s : State) (p : Nat) (k : RxPacket) (kind : Nat) (act : State → State) : State :=
  let s := (s.laneErrors p k.errs).farEnd p (.fabPacket p k [])
  if k.kind = kind then act s else s.wrongKind p

/-! ### Lane quads (R217, R218) -/

/-- R217: is quad `q` active? -/
def State.quadActive (s : State) (q : Nat) : Bool :=
  if q < 16 then s.get (.OUT_STATUS_STATE q) != 0
  else if q < 32 then s.get (.CAP_STATUS_STATE (q - 16)) != 0
  else if q < 40 then decide (ptAligning ≤ s.portState (q - 32))
  else true

/-- R217: a write of a test loop. Far-end is for duplex quads only. -/
def State.serLoop (s : State) (q v : Nat) : State :=
  if v = 0 then s.set (.SER_QCTRL_LOOP q) 0
  else if s.quadActive q ∨ (v = 3 ∧ q < 32) then s.setB (.SER_QSTAT_LOOP_REFUSED q) true
  else s.set (.SER_QCTRL_LOOP q) v

/-- R218, R234: the power state of a quad: L0 while active, and from discovery on at an enabled fabric port, which sends idle sets
(log 77); else what PWR holds (0x3 is L2). The host quad follows the PCIe link: L0 while that is up, else L1, the state in which
transmitters idle and receivers detect (log 112). -/
def State.quadPower (s : State) (q : Nat) : Nat :=
  if q = 40 then (if s.on .HST_LINK_UP then 0 else 1)
  else if s.quadActive q ∨ (32 ≤ q ∧ q < 40 ∧ s.portState (q - 32) ≠ ptDisabled ∧ s.fabIdle = false) then 0
  else min 2 (s.get (.SER_QCTRL_PWR q))

end Sys2Proof.Machine
end

