-- ==== Sys2Proof/Machine/Capture.lean ====
section
/-!
DEFINITION. DisplayPort receive and capture (R44, R45, R53, R58, R59, R160 to R168).
-/

namespace Sys2Proof.Machine

open Sys2Proof

/-- Receiver states (CAP_STATUS). -/
def rxOff : Nat := 0
def rxWaitTrain : Nat := 1
def rxTraining : Nat := 2
def rxLinked : Nat := 3
def rxVideo : Nat := 4
def rxFormat : Nat := 5
def rxLost : Nat := 6

/-- The state of a receiver. -/
def State.rxState (s : State) (i : Nat) : Nat := s.get (.CAP_STATUS_STATE i)

/-! ### Damage (R167) -/

/-- The capture trick of an input that fills a buffer with the frame in reception, or (`ended`) that has stored its
frame and is to write the header. -/
def State.capTrick (s : State) (i : Nat) (ended : Bool) : Option RunTrick :=
  s.dealer.tricks.find? fun r => r.trick.cls == .capture && r.trick.job == i && !r.done && r.eav.isSome == ended

/-- End the capture trick of an input that fills buffer `b`. -/
def State.capTrickEnd (s : State) (i b : Nat) : State :=
  s.updDealer fun d => { d with tricks := d.tricks.map fun r =>
    if r.trick.cls == .capture && r.trick.job == i && r.buf == some b then { r with done := true, buf := none } else r }

/-- R167: the frame in reception is damaged: its trick ends without a header, its buffer returns to FREE, and
DAMAGED is counted and reported. -/
def State.frameDamage (s : State) (i : Nat) : State :=
  if (s.cap i).inFrame = false ∨ (s.cap i).damaged = true then s
  else
    let s := s.updCap i fun x => { x with damaged := true }
    let s := (s.count (.CAP_FRAMES_DISCARDED i)).setB .CAP_INT_STATUS_DAMAGED true
    match (s.capTrick i false).bind (·.buf) with
    | some d => ((s.updDesc d fun _ => { Desc.init with bad := true }).capTrickEnd i d).log 0x0406 (by2 d ++ [3, i])
    | none =>
      /- no buffer is involved: the spec gives the descriptor argument no value -/
      let (v, s) := s.fresh
      s.log 0x0406 (by2 (v.toNat % 65536) ++ [3, i])

/-- R167, R177: a cause of damage during a frame; invalid symbols count in every state but OFF. -/
def State.inputDamage (s : State) (i : Nat) (c : Damage) : State :=
  let s := match c with
    | .symbolError l n => s.when (s.rxState i != rxOff) fun s =>
        (s.count (.CAP_ERR_SYMBOL i) n).when (decide (l < 4)) fun s => s.count (.SER_LERR_ERR (16 + i) l) n
    | _ => s
  if s.rxState i ≠ rxVideo then s else s.frameDamage i

/-! ### States (R161, R163) -/

/-- R161, R163, R167: change a receiver's state. -/
def State.setRx (s : State) (i st : Nat) : State :=
  let old := s.rxState i
  if old = st then s
  else
    let s := if old = rxVideo then (s.frameDamage i).setB .CAP_INT_STATUS_VIDEO_OFF true else s
    let s := (s.set (.CAP_STATUS_STATE i) st).setB (.CAP_STATUS_PRESENT i) (st == rxVideo)
    let s := if st = rxVideo then s.setB .CAP_INT_STATUS_VIDEO_ON true else s
    let s := if st = rxFormat then s.setB .CAP_INT_STATUS_FORMAT true else s
    let s := if st = rxLost then (s.setB .CAP_INT_STATUS_LOCK_LOST true).count (.CAP_LINK_LOST i) else s
    let s := if st = rxLinked then s.count (.CAP_LINK_TRAIN i) else s
    let s := s.updCap i fun x =>
      if st = rxVideo then { x with frameNo := 0, inFrame := false } else { x with inFrame := false }
    if (old == rxVideo) != (st == rxVideo) then s.presenceReport (s.localSrc i) else s

/-- R161: entry to DEALING with EN 1. -/
def State.rxEnable (s : State) (i : Nat) : State :=
  if s.on (.CAP_CFG_EN i) ∧ s.rxState i = rxOff then (s.setRx i rxWaitTrain).setB (.CAP_STATUS_HPD i) true else s

/-- R254: no lane of an input's quad is in lock or good. -/
def State.rxUnlock (s : State) (i : Nat) : State := s.linkLanes (16 + i) (fun _ => false) fun _ => false

/-- R161: the device leaves DEALING. -/
def State.rxDisable (s : State) (i : Nat) : State :=
  (((s.rxUnlock i).setRx i rxOff).setB (.CAP_STATUS_HPD i) false).updCap i fun x =>
    { x with lastMsa := none, msaRun := 0, accepted := none, lostLanes := 0, pattern := 0 }

/-- R161: the source writes TRAINING_PATTERN_SET; `good`: the conditions for LINKED hold on every lane; `link` the
configuration in LANE_COUNT_SET and LINK_BW_SET. -/
def State.rxPattern (s : State) (i pattern : Nat) (good : Bool) (link : LinkCfg) : State :=
  if s.rxState i = rxOff then s
  else
    let s := s.updCap i fun x => { x with
      pattern := pattern, dpcd := Tab.put 0 x.dpcd 0x102 (BitVec.ofNat 8 pattern) }
    if pattern ≠ 0 then (s.rxUnlock i).setRx i rxTraining
    else if s.rxState i ≠ rxTraining then s
    else if good then
      let s := ((s.setRx i rxLinked).set (.CAP_STATUS_LANES i) link.lanes).set (.CAP_STATUS_RATE i) link.rate
      let s := s.each (List.range 4) fun s l =>
        let u := decide (l < 2 ^ link.lanes)
        (s.setB (.SER_LSTAT_SYNC (16 + i) l) u).setB (.SER_LSTAT_GOOD (16 + i) l) u
      s.updCap i fun x => { x with lostLanes := 0, lastMsa := none, msaRun := 0, accepted := none }
    else (s.rxUnlock i).setRx i rxWaitTrain

/-- R161: loss of symbol lock on trained lanes (mask bits 0 to 3), after 16 invalid symbols each, or of interlane alignment
(bit 4). -/
def State.rxLoss (s : State) (i lanes : Nat) : State :=
  let st := s.rxState i
  if st = rxLinked ∨ st = rxVideo ∨ st = rxFormat then
    let s := (s.setRx i rxLost).updCap i fun x => { x with lostLanes := lanes % 32 }
    let s := s.each ((List.range 4).filter (bitOf lanes)) fun s l =>
      let s := (s.count (.CAP_ERR_SYMBOL i) 16).count (.SER_LERR_ERR (16 + i) l) 16
      ((s.setB (.SER_LSTAT_SYNC (16 + i) l) false).setB (.SER_LSTAT_GOOD (16 + i) l) false).count
        (.SER_LSTAT_LOCK_LOSS (16 + i) l)
    (s.count (.CAP_LINK_IRQ_SENT i)).emit (.rxHpd i 750)
  else s

/-- R161: no training within 500 ms of LOST. -/
def State.rxLostTimeout (s : State) (i : Nat) : State :=
  if s.rxState i = rxLost then (((s.rxUnlock i).setRx i rxWaitTrain).count (.CAP_LINK_LONG_HPD i)).emit (.rxHpd i 100000) else s

/-- R161: NoVideoStream_Flag, or no MSA for 100 ms. -/
def State.rxNoVideo (s : State) (i : Nat) : State :=
  let st := s.rxState i
  if st = rxVideo ∨ st = rxFormat then
    (s.setRx i rxLinked).updCap i fun x => { x with lastMsa := none, msaRun := 0, accepted := none }
  else s

/-! ### MSA (R161, R162) -/

/-- What two MSAs are compared by: the attributes carried, not what the receiver measures. -/
def msaKey (m : MsaIn) : List Nat := [m.hAct, m.vAct, m.hTotal, m.vTotal, m.enc, m.bpc, b2n m.vsc, b2n m.interlaced]

/-- R162: the cause for which an MSA is not acceptable, 0 when it is. Where several conditions fail at once the rule names no order: the
first of its table (log 108). -/
def State.msaCause (s : State) (i : Nat) (m : MsaIn) : Nat :=
  let rgb := decide (5 ≤ s.get (.CAP_CFG_STORE_FMT i))
  if m.hAct ≠ s.get (.CAP_DIM_H i) ∨ m.vAct ≠ s.get (.CAP_DIM_V i) then 1
  else if 2 < m.enc ∨ (m.bpc ≠ 8 ∧ m.bpc ≠ 10) ∨ (m.enc == 0) ≠ rgb ∨ m.vsc = true then 2
  else if m.interlaced then 3
  else if ¬(23 * m.periodNs ≤ 1000000000 ∧ 1000000000 ≤ 121 * m.periodNs) ∨ 680000000 < m.pixClk then 4
  else if s.on (.CAP_CFG_DIRECT_OK i) ∧ (m.hTotal ≠ s.get (.CAP_TOT_H i) ∨ m.vTotal ≠ s.get (.CAP_TOT_V i)) then 5
  else 0

/-- R161, R162: a received MSA. Two count as consecutive identical ones when they carry the same attributes and are both
acceptable, or both not: the measured rates differ from one to the next (log 68). -/
def State.rxMsa (s : State) (i : Nat) (m : MsaIn) : State :=
  let st := s.rxState i
  if ¬(st = rxLinked ∨ st = rxVideo ∨ st = rxFormat) then s
  else
    let x := s.cap i
    let same := match x.lastMsa with
      | some q => msaKey q == msaKey m && (s.msaCause i q == 0) == (s.msaCause i m == 0)
      | none => false
    let run := if same then min (x.msaRun + 1) 2 else 1
    let s := s.updCap i fun x => { x with lastMsa := some m, msaRun := run }
    let s := (((s.set (.CAP_MSA_ACT_H i) m.hAct).set (.CAP_MSA_ACT_V i) m.vAct).set (.CAP_MSA_TOT_H i) m.hTotal).set
      (.CAP_MSA_TOT_V i) m.vTotal
    let s := s.set (.CAP_MEAS_VALUE i) m.periodNs
    let cause := s.msaCause i m
    let differs := match x.accepted with | some q => msaKey q != msaKey m | none => false
    if run = 2 ∧ cause = 0 ∧ (st = rxLinked ∨ st = rxFormat) then
      let s := (s.setB (.CAP_STATUS_BPC10 i) (m.bpc == 10)).set (.CAP_STATUS_ENC i) m.enc
      ((s.set (.CAP_STATUS_FMT_CAUSE i) 0).updCap i fun x => { x with accepted := some m }).setRx i rxVideo
    else if (st = rxLinked ∨ st = rxVideo) ∧ ((run = 2 ∧ cause ≠ 0) ∨ (st = rxVideo ∧ differs = true)) then
      ((s.set (.CAP_STATUS_FMT_CAUSE i) cause).setRx i rxFormat).updCap i fun x => { x with accepted := none }
    else if st = rxFormat ∧ run = 2 then s.set (.CAP_STATUS_FMT_CAUSE i) cause
    else s

/-! ### DPCD and EDID (R160) -/

/-- MAX_LINK_RATE of a rate code. -/
def rateCode (c : Nat) : Nat := match c with | 0 => 0x06 | 1 => 0x0A | 2 => 0x14 | _ => 0x1E

/-- Lane status nibble of lane `l`: clock recovery, equalisation and symbol lock. -/
def State.laneNibble (s : State) (i l : Nat) : Nat :=
  let st := s.rxState i
  let trained := st = rxLinked ∨ st = rxVideo ∨ st = rxFormat ∨ st = rxLost
  if trained ∧ l < 2 ^ s.get (.CAP_STATUS_LANES i) ∧ bitOf (s.cap i).lostLanes l = false then 7 else 0

/-- R160, R161: a byte of the receiver's DPCD. -/
def State.dpcdByte (s : State) (i a : Nat) : Byte :=
  BitVec.ofNat 8 <| match a with
    | 0x000 => 0x14
    | 0x001 => rateCode (s.get (.CAP_CFG_RATE_MAX i))
    | 0x002 => 2 ^ s.get (.CAP_CFG_LANES_MAX i) + 0x80 + 0x40
    | 0x003 => 0x81
    | 0x200 => 1
    | 0x202 => s.laneNibble i 0 + 16 * s.laneNibble i 1
    | 0x203 => s.laneNibble i 2 + 16 * s.laneNibble i 3
    | 0x204 => if s.laneNibble i 0 + s.laneNibble i 1 ≠ 0 ∧ bitOf (s.cap i).lostLanes 4 = false then 1 else 0
    | _ => if 0x100 ≤ a ∧ a ≤ 0x107 then (Tab.get 0 (s.cap i).dpcd a).toNat else 0

/-- A byte of the EDID (R160). -/
def State.edidByte (s : State) (i k : Nat) : Byte :=
  if k < 512 then BitVec.ofNat 8 (s.get (.CAP_EDID_BYTES i (k / 4)) / 256 ^ (k % 4)) else 0

/-- R161: a native write of TRAINING_PATTERN_SET. Whether the conditions for LINKED hold when it clears the pattern is no part of
the access: a free value says. -/
def State.auxPattern (s : State) (i : Nat) : State :=
  let set := fun a => (Tab.get 0 (s.cap i).dpcd a).toNat
  let rate := match set 0x100 with | 0x06 => 0 | 0x0A => 1 | 0x14 => 2 | _ => 3
  let lanes := match set 0x101 % 32 with | 1 => 0 | 2 => 1 | _ => 2
  let (v, s) := s.fresh
  s.rxPattern i (set 0x102) (v.getLsbD 0) ⟨lanes, rate⟩

/-- R160: a source's AUX or I²C-over-AUX access. Writes to link configuration bytes are kept, others ignored. -/
def State.rxAux (s : State) (i : Nat) (r : RxAux) : State :=
  if s.rxState i = rxOff then s
  else match r with
    | .dpcdRead a n => s.emit (.rxReply i true ((List.range n).map fun k => s.dpcdByte i (a + k)))
    | .dpcdWrite a bs =>
      let s := s.each bs.zipIdx fun s (b, k) =>
        if 0x100 ≤ a + k ∧ a + k ≤ 0x107 then s.updCap i fun x => { x with dpcd := Tab.put 0 x.dpcd (a + k) b } else s
      let s := s.when (decide (a ≤ 0x102 ∧ 0x102 < a + bs.length)) fun s => s.auxPattern i
      s.emit (.rxReply i true [])
    | .i2cWrite a bs =>
      if a = 0x30 then (s.updCap i fun x => { x with segPtr := (bs.getD 0 0).toNat }).emit (.rxReply i true [])
      else if a = 0x50 then (s.updCap i fun x => { x with i2cOff := (bs.getD 0 0).toNat }).emit (.rxReply i true [])
      else s.emit (.rxReply i false [])
    | .i2cRead a n =>
      if a = 0x50 then
        let at_ := (s.cap i).segPtr * 256 + (s.cap i).i2cOff
        (s.updCap i fun x => { x with i2cOff := (x.i2cOff + n) % 256 }).emit
          (.rxReply i true ((List.range n).map fun k => s.edidByte i (at_ + k)))
      else s.emit (.rxReply i false [])

/-! ### Frames (R44, R45, R53, R164 to R166) -/

/-- R44, R45, R53, R164: a start of active video at `t`: SEQ, capture time, the direct record. Answers whether the
frame is to be captured. -/
def State.savStart (s : State) (i : Nat) (t : Word) : State × Bool :=
  if s.rxState i ≠ rxVideo then (s, false)
  else
    let s := s.at_ t
    let s := if (s.cap i).inFrame then s.frameDamage i else s
    let x := s.cap i
    let seq := x.seq + 1
    let ext := s.epochValid
    let cap : Time64 := if ext then s.extNow else 0#32 ++ t
    let h : BufHdr := { BufHdr.zero with
      srcId := s.localSrc i, capExt := ext, seq := seq, capTime := cap, width := s.get (.CAP_DIM_H i),
      height := s.get (.CAP_DIM_V i), format := s.get (.CAP_CFG_STORE_FMT i), idx := i }
    let r : BufRec := { desc := none, hdr := h, eligTime := t, eligTick := s.tick, bad := false }
    let take := x.frameNo % (s.get (.CAP_CFG_DECIM i) + 1) == 0
    let s := s.updCap i fun x => { x with
      seq := seq, sav := cap, savExt := ext, savTick := s.tick, inFrame := true, damaged := false,
      frameNo := x.frameNo + 1, recStart := some r }
    ((s.setW (.CAP_SEQ_VALUE i) seq).setW (.CAP_SAV_VALUE i) t, take)

/-- The tell region of an input (R59, R177). -/
def State.capTell (s : State) (i : Nat) : Option (Nat × Nat × Nat × Nat) :=
  let f := fun (a : Fld) => s.get a
  if f (.CAP_TELL_SIZE_X i) = 0 then none
  else some (f (.CAP_TELL_POS_X i), f (.CAP_TELL_POS_Y i), f (.CAP_TELL_SIZE_X i), f (.CAP_TELL_SIZE_Y i))

/-- R53, R58, R59, R165, R166: the last active pixel of the frame `f` arrives at `t`. The direct record's signatures are
complete; the capture trick has stored the picture. -/
def State.inputEnd (s : State) (i : Nat) (f : Frame) (t : Word) : State :=
  if s.rxState i ≠ rxVideo ∨ (s.cap i).inFrame = false then s
  else
    let s := s.at_ t
    let w := s.get (.CAP_DIM_H i)
    let h := s.get (.CAP_DIM_V i)
    if f.length ≠ h ∨ f.any (fun l => l.length != w) then
      (s.frameDamage i).updCap i fun x => { x with inFrame := false }
    else
      let rgb := s.get (.CAP_STATUS_ENC i) == 0
      let frz := frzSig w h fun x y => if rgb then (framePx f x y).b else (framePx f x y).a
      let tell := tellSig (s.capTell i) (framePx f)
      let s := s.updCap i fun x => { x with
        inFrame := false,
        recDone := x.recStart.map fun r => { r with hdr := { r.hdr with frz := frz, tell := tell } } }
      match s.capTrick i false with
      | some r => match r.buf with
        | some d =>
          let fmt := s.get (.CAP_CFG_STORE_FMT i)
          let px := convertPx f (s.get (.CAP_STATUS_ENC i)) (s.on (.CAP_STATUS_BPC10 i)) fmt w
          let s := (s.chargeBlocks i (ceilDiv (planeBytes fmt w h) 256)).storeBuf d (storePicture s.dram (s.bufAddr d) fmt w h px)
          s.updDealer fun dl => { dl with tricks := dl.tricks.map fun r =>
            if r.trick.cls == .capture && r.trick.job == i && r.buf == some d then { r with eav := some t } else r }
        | none => s
      | none => s

/-- R109, R110, R166: the capture engine writes the header, which completes its trick. -/
def State.captureComplete (s : State) (i : Nat) (bad : Bool) (t : Word) : State :=
  match s.capTrick i true, (s.cap i).recDone with
  | some r, some rec =>
    match r.buf, r.eav with
    | some d, some _ =>
      let s := s.at_ t
      let s := (s.writeHdr d rec.hdr bad)
      let ok := s.hdrAccepted d rec.hdr
      let s := (s.headerCheck d rec.hdr).capTrickEnd i d
      if ok then
        ((s.count (.CAP_FRAMES_CAPTURED i)).set (.CAP_LASTBUF_INDEX i) d).set (.CAP_LASTBUF_TICK i) s.tick16
      else s
    | _, _ => s
  | _, _ => s

end Sys2Proof.Machine
end

