-- ==== Sys2Proof/Machine/Codec.lean ====
section
/-!
DEFINITION. Stream contexts and decoding (R46 to R49, R178 to R202): reception and assembly, capture times, context
states, decode tricks, concealment and taint, references.
-/

namespace Sys2Proof.Machine

open Sys2Proof

/-! ### Contexts -/

/-- A stream context. -/
def State.ctx (s : State) (c : Nat) : CtxSt := Tab.get .init s.ctxs c

/-- R190: the parameter sets that a decode trick loads with the context's state: those of the copy in force. -/
def CtxSt.sets (x : CtxSt) : Option ParamSets := if x.half then x.copies.2 else x.copies.1

/-- R190: the context's state with parameter sets `p` is saved to the other copy, which is in force from then on. -/
def CtxSt.save (x : CtxSt) (p : Option ParamSets) : CtxSt :=
  { x with half := !x.half, copies := if x.half then (p, x.copies.2) else (x.copies.1, p) }

/-- Change a context. -/
def State.updCtx (s : State) (c : Nat) (f : CtxSt → CtxSt) : State := { s with ctxs := Tab.upd .init s.ctxs c f }

/-- Context states (DEC_CX_STATE). -/
def cxClosed : Nat := 0
def cxIdle : Nat := 1
def cxWaitKey : Nat := 2
def cxRunning : Nat := 3
def cxStalled : Nat := 4
def cxFault : Nat := 5

/-- The source a context produces (R43). -/
def State.ctxSrc (s : State) (c : Nat) : BitVec 16 := s.localSrc (16 + c)

/-- R185: has the context a slot in the deal in force? -/
def State.hasSlot (s : State) (c : Nat) : Bool :=
  s.deals.any fun d => d.any fun t => t.cls == .decode && t.job == c

/-- Show the queue length. -/
def State.showQueue (s : State) (c : Nat) : State := s.set (.DEC_CX_STATE_QUEUE c) (s.ctx c).queue.length

/-- R184, RFC 3550: the report block that a session's statistics give (PRESUMED from the standard, log 69). -/
def State.reportBlock (s : State) (x : CtxSt) (r : RtpStats) : ReportBlock :=
  let expected := r.high - r.base + 1
  let due : Int := (expected - r.priorExpected : Nat)
  let lost : Int := due - ((r.received : Int) - r.priorReceived)
  { fraction := if lost ≤ 0 then 0 else (lost * 256 / due).toNat
    lost := max (-0x800000) (min 0x7FFFFF ((expected : Int) - r.received))
    high := r.high
    jitter := r.jitter / 16
    lsr := (x.sr.map fun q => q.ntp.extractLsb' 16 32).getD 0
    dlsr := (x.sr.map fun q => (s.extNow - q.at_).toNat * 65536 / 1000000000).getD 0 }

/-- R184, R201: a compound packet with a receiver report goes out from the local SSRC; the interval of the next begins. -/
def State.sendRtcp (s : State) (c kind fir : Nat) : State :=
  let x := s.ctx c
  let s := s.deckSend (s.get (.DEC_CX_NET_NET_PORT c))
    (.rtcp c (s.word (Reg.DEC_CX_LSSRC c)) (s.word (Reg.DEC_CX_SSRC c)) (x.stats.map (s.reportBlock x)) kind fir x.template)
  s.updCtx c fun x => { x with stats := x.stats.map fun r =>
    { r with priorExpected := r.high - r.base + 1, priorReceived := r.received } }

/-- R201: send feedback, when negotiated. -/
def State.feedback (s : State) (c : Nat) : State :=
  let fb := s.get (.DEC_CX_NET_FB c)
  if fb ≠ 1 ∧ fb ≠ 2 then s
  else
    let n := (s.ctx c).fir
    let s := if fb = 2 then s.updCtx c fun x => { x with fir := (x.fir + 1) % 256 } else s
    (s.count (.DEC_CX_ERR_PLI_SENT c)).sendRtcp c fb n

/-- R185: a decode trick of the context in progress is stopped and its buffer returned. -/
def State.stopDecode (s : State) (c : Nat) : State :=
  let mine := s.dealer.tricks.filter fun r => r.trick.cls == .decode && r.trick.job == c && !r.done && r.coded.isSome
  let s := s.each mine fun s r => match r.buf with
    | some d => s.freeBuf d
    | none => s
  let s := s.updCtx c fun x => { x with failed := [] }
  s.updDealer fun d => { d with tricks := d.tricks.map fun r =>
    if r.trick.cls == .decode && r.trick.job == c && r.coded.isSome then { r with done := true, buf := none } else r }

/-- R185, R194: flush the decoded picture buffer: the Deck's reference hold bits clear. -/
def State.flushDpb (s : State) (c : Nat) : State :=
  let x := s.ctx c
  let bufs := x.dpb.map (·.buf) ++ (x.concealPic.map (·.buf)).toList
  let s := s.each bufs fun s d => s.unhold d holdDeck
  s.updCtx c fun x => { x with dpb := [], concealPic := none }

/-- R185, R200, R201: a context changes state; `cause` is the WAIT_KEY cause or FAULT_CAUSE. -/
def State.setCtx (s : State) (c st cause : Nat) : State :=
  let old := s.ctxState c
  let s := s.set (.DEC_CX_STATE_STATE c) st
  let s :=
    if st = cxRunning then s.updCtx c fun x => { x with concealRun := 0 }
    else (((s.updCtx c fun x => { x with queue := [] }).showQueue c).stopDecode c).flushDpb c
  let s :=
    if st = cxWaitKey then
      (((s.set (.DEC_CX_STATE_WAIT_CAUSE c) cause).set (.DEC_CX_SRAGE_WAIT_TICK c) s.tick16).setB
        .DEC_INT_STATUS_WAIT_KEY true).feedback c
    else if st = cxStalled then s.setB .DEC_INT_STATUS_STALL true
    else if st = cxFault then (s.set (.DEC_CX_STATE_FAULT_CAUSE c) cause).setB .DEC_INT_STATUS_FAULT true
    else s
  let s :=
    if st = cxClosed then
      let bufs := s.descs.filter fun (_, x) => decide (x.src = s.ctxSrc c ∧ (x.state = .eligible ∨ x.state = .retired))
      s.each bufs fun s (d, _) => s.freeRequest d
    else s
  let present := fun (n : Nat) => n == cxRunning || n == cxWaitKey
  if present old != present st then s.presenceReport (s.ctxSrc c) else s

/-- R185: FAULT, from the states it may be entered from. -/
def State.ctxFault (s : State) (c cause : Nat) : State :=
  let st := s.ctxState c
  if st = cxClosed ∨ st = cxFault then s else s.setCtx c cxFault cause

/-- R200: a RUNNING context enters WAIT_KEY. -/
def State.waitKey (s : State) (c cause : Nat) : State :=
  if s.ctxState c = cxRunning then s.setCtx c cxWaitKey cause else s

/-- R185: a packet was accepted within the last STALL_TIMEOUT. -/
def State.recentPkt (s : State) (c : Nat) : Bool :=
  match (s.ctx c).lastPkt with
  | some t => decide ((s.extNow - t).toNat ≤ s.get (.DEC_CX_TIM_STALL c) * 1000000)
  | none => false

/-- R185: at a change of the deal, contexts gain and lose slots. -/
def State.refreshSlots (s : State) : State :=
  let deals := s.deals
  let with_ := uniq (deals.flatMap fun d => d.filterMap fun t => if t.cls = .decode then some t else none)
  let open_ := uniq ((s.regs.filterMap fun (a, _) =>
    let c := (a - Reg.DEC_CX_STATE 0) / 0x40
    if Reg.DEC_CX_STATE 0 ≤ a ∧ c < 512 ∧ a = Reg.DEC_CX_STATE c then some c else none) ++ with_.map (·.job))
  s.each open_ fun (s : State) (c : Nat) =>
    let slot : Bool := with_.any fun t => t.job == c
    let had : Bool := s.on (.DEC_CX_STATE_SLOT c)
    let s := s.setB (.DEC_CX_STATE_SLOT c) slot
    let s : State := match with_.find? fun t => t.job == c with
      | some t => s.set (.DEC_CX_STATE_CORE c) t.index
      | none => s
    let st : Nat := s.ctxState c
    if slot = false ∧ (st = cxWaitKey ∨ st = cxRunning) then s.setCtx c cxIdle 0
    else if slot = true ∧ had = false ∧ (st = cxIdle ∨ st = cxStalled) ∧ s.recentPkt c = true then s.setCtx c cxWaitKey 1
    else s

/-! ### Operations of DEC_CMD (R187) -/

/-- Answer DEC_CMD. -/
def State.decAnswer (s : State) (code : Nat) : State := (s.set .DEC_CMD_STATUS_CODE code).setB .DEC_CMD_STATUS_BUSY false

/-- R187: operation `op` of DEC_CMD on context `c`: a GO while BUSY is 1 sets CODE to BUSY and does nothing else; any other is
done and answered at once (log 70). -/
def State.decGo (s : State) (c op : Nat) (f : State → State) : State :=
  if s.on .DEC_CMD_STATUS_BUSY then s.set .DEC_CMD_STATUS_CODE stBUSY
  else f ((s.set .DEC_CMD_CTX c).set .DEC_CMD_OP op)

/-- Is another open context on the same network and UDP port? -/
def State.portTaken (s : State) (c : Nat) : Bool :=
  (List.range 512).any fun k => k != c && s.ctxState k != cxClosed
    && s.get (.DEC_CX_NET_NET_PORT k) == s.get (.DEC_CX_NET_NET_PORT c)
    && s.get (.DEC_CX_NET_UDP_PORT k) == s.get (.DEC_CX_NET_UDP_PORT c)

/-- R185, R187: OPEN. -/
def State.decOpen (s : State) (c : Nat) (template : List Byte) : State := s.decGo c 1 fun s =>
  if s.ctxState c ≠ cxClosed then s.decAnswer stSTATE
  else if s.on (.DEC_CX_CFG_EN c) = false ∨ s.word (Reg.DEC_CX_SRCIP c) = 0 ∨ s.portTaken c = true
      ∨ s.get (.DEC_CX_NET_FB c) = 3 then s.decAnswer stRANGE
  else
    let s := (s.setCtx c cxIdle 0).updCtx c fun x => { x with
      asm := none, lastClosed := none, nextSeq := none, copies := (none, none), stats := none, sr := none, lastCap := none, learned := false,
      lastPkt := none, skipRasl := false, template := template, gen := s.get .TIM_GM_DOM_GEN }
    s.decAnswer stOK

/-- R185, R187: CLOSE. -/
def State.decClose (s : State) (c : Nat) : State := s.decGo c 2 fun s =>
  if s.ctxState c = cxClosed then s.decAnswer stSTATE else (s.setCtx c cxClosed 0).decAnswer stOK

/-- R187: KEY_REQ; the answer. -/
def State.keyReq (s : State) (c : Nat) : State × Nat :=
  let st := s.ctxState c
  if (st = cxWaitKey ∨ st = cxRunning) ∧ s.get (.DEC_CX_NET_FB c) ≠ 0 then (s.feedback c, stOK) else (s, stSTATE)

/-- R187: KEY_REQ through DEC_CMD. -/
def State.decKeyReq (s : State) (c : Nat) : State := s.decGo c 3 fun s =>
  let (s, code) := s.keyReq c
  s.decAnswer code

/-! ### Capture times (R46, R48, R188) -/

/-- The PTP offset O, signed (R285). -/
def State.ptpOff (s : State) : Int := s.time.off.toInt

/-- Nanoseconds of a number of 90 kHz ticks. -/
def rtpNs (n : Int) : Rat := (n : Rat) * 100000 / 9

/-- R188, method 1: device time of an RTP timestamp, the candidate nearest `tArr` (extended). -/
def State.map7273 (s : State) (c : Nat) (rtp : Word) (tArr : Time64) : Rat :=
  let wrap := rtpNs (2 ^ 32 : Int)
  let base := rtpNs (wordDiff rtp (s.word (Reg.DEC_CX_CLK c))) - s.ptpOff
  let k := ((((tArr.toNat : Int) : Rat) - base) / wrap + (1 : Rat) / 2).floor
  base + (k : Rat) * wrap

/-- R188, method 2: device time of an RTP timestamp by the latest sender report. -/
def State.mapSr (s : State) (c : Nat) (rtp : Word) (r : SenderRep) : Rat :=
  let secs : Int := (r.ntp.toNat / 2 ^ 32 : Nat) - 2208988800 + (BitVec.ofNat 16 (s.get .TIM_UTC_UTC_OFFSET)).toInt
  let frac : Rat := ((r.ntp.toNat % 2 ^ 32 : Nat) : Rat) * 1000000000 / 4294967296
  (secs : Rat) * 1000000000 + frac - s.ptpOff + rtpNs (wordDiff rtp r.rtp) - ((s.get (.DEC_CX_LAT_U c) * 1000000 : Nat) : Rat)

/-- R46, R188, R287: which method applies now: 1, 2 or 3. Method 1 needs the grandmaster that was current at OPEN. -/
def State.mapMethod (s : State) (c : Nat) : Nat :=
  let off := s.on .TIM_STATUS_OFF_VALID
  if s.epochValid = false then 3
  else if s.on (.DEC_CX_NET_CLK_7273 c) && off && (s.ctx c).gen == s.get .TIM_GM_DOM_GEN then 1
  else match (s.ctx c).sr with
    | some r => if s.on (.DEC_CX_LAT_SR_TRACE c) && off && s.on .TIM_UTC_VALID
        && decide ((s.extNow - r.at_).toNat ≤ 10000000000) then 2 else 3
    | none => 3

/-- R46, R48, R188: capture time, CAP_EXT, MAP and NO_SHOW of a picture whose first packet arrives now. A capture time
between whole nanoseconds rounds to one of its neighbours. -/
def State.pictureTime (s : State) (c : Nat) (rtp : Word) : (Time64 × Bool × Nat × Bool) × State :=
  let ext := s.epochValid
  let arr : Time64 := if ext then s.extNow else 0#32 ++ s.time.now
  let direct : Time64 := arr - BitVec.ofNat 64 (s.get (.DEC_CX_LAT_L c) * 1000000)
  let narrow := fun (t : Time64) => if ext then t else 0#32 ++ (t.setWidth 32 : BitVec 32)
  let lead := fun (t : Time64) => wordDiff s.time.now (t.setWidth 32)
  let m := s.mapMethod c
  let q : Rat := match m, (s.ctx c).sr with
    | 1, _ => s.map7273 c rtp arr
    | 2, some r => s.mapSr c rtp r
    | _, _ => 0
  let (v, s) := if m = 3 then ((0 : Int), s) else s.roundFree q
  let mapped : Time64 := BitVec.ofInt 64 v
  let (cap, m, s) :=
    if m = 3 then (direct, 3, s)
    else if lead mapped < -1000000 then
      let s := (s.updCtx c fun x => { x with mapFaults := x.mapFaults + 1 }).count .CMP_LV_MAP_FAULT_COUNT
      let s := (s.set .CMP_LV_MAP_FAULT_LAST_SRC (srcLocal (s.ctxSrc c))).setB .CMP_LV_INT_STATUS_MAP_FAULT true
      (direct, 3, s.log 0x0205 (by2 c))
    else if lead mapped < 0 then (arr, m, s)
    else (mapped, m, s)
  ((narrow cap, ext, m, decide (1000000000 < lead cap)), s)

/-- The Deck takes a datagram for UDP port `udp` from its queue of port `n`. -/
def State.deckTake (s : State) (n udp : Nat) : State :=
  s.updNet n fun x => { x with deckQ := x.deckQ.eraseP fun e => e.1.udp.map (·.port) == some udp }

/-- The Deck takes an RTCP datagram of a context (R181). -/
def State.deckTakeRtcp (s : State) (c : Nat) : State :=
  let u := s.get (.DEC_CX_NET_UDP_PORT c)
  s.deckTake (s.get (.DEC_CX_NET_NET_PORT c)) (if s.on (.DEC_CX_NET_RTCP_MUX c) then u else u + 1)

/-! ### Reception and assembly (R179, R181 to R183) -/

/-- NAL unit type and reference idc of an RTP payload's first byte(s), by codec (RFC 6184, RFC 7798). -/
def nalType (h265 : Bool) (bs : List Byte) : Nat :=
  let b := (bs.getD 0 0).toNat
  if h265 then b / 2 % 64 else b % 32

/-- R179: is the payload of a type that is accepted? -/
def payloadOk (h265 : Bool) (bs : List Byte) : Bool :=
  let t := nalType h265 bs
  if bs.isEmpty then false
  else if h265 then decide (t ≤ 49) else decide ((1 ≤ t ∧ t ≤ 24) ∨ t = 28)

/-- Split an aggregation packet after its header into its NAL units. -/
def nalUnits : Nat → List Byte → List (List Byte)
  | 0, _ => []
  | n + 1, bs =>
    if bs.length < 3 then []
    else
      let k := beNat (bs.take 2)
      (bs.drop 2).take k :: nalUnits n (bs.drop (2 + k))

/-- The NAL unit headers a payload carries: (type, reference idc). -/
def nalHeads (h265 : Bool) (bs : List Byte) : List (Nat × Nat) :=
  let t := nalType h265 bs
  let nri := (bs.getD 0 0).toNat / 32 % 4
  if h265 then
    if t = 48 then (nalUnits bs.length (bs.drop 2)).map fun u => (nalType true u, 0)
    else if t = 49 then [((bs.getD 2 0).toNat % 64, 0)]
    else [(t, 0)]
  else if t = 24 then (nalUnits bs.length (bs.drop 1)).map fun u => (nalType false u, (u.getD 0 0).toNat / 32 % 4)
  else if t = 28 then [((bs.getD 1 0).toNat % 32, nri)]
  else [(t, nri)]

/-- R183: does a slice NAL unit make the picture a reference picture? -/
def nalRef (h265 : Bool) (h : Nat × Nat) : Bool :=
  if h265 then decide (h.1 < 32) && !(decide (h.1 ≤ 14) && h.1 % 2 == 0) else decide (1 ≤ h.1 ∧ h.1 ≤ 5) && h.2 != 0

/-- R202: does it make the picture an IRAP picture, or a RASL picture? -/
def nalIrap (h265 : Bool) (h : Nat × Nat) : Bool := if h265 then decide (16 ≤ h.1 ∧ h.1 ≤ 21) else h.1 == 5
def nalRasl (h265 : Bool) (h : Nat × Nat) : Bool := h265 && (h.1 == 8 || h.1 == 9)

/-- R194, R202: does it make the picture an H.264 IDR or an H.265 IDR or BLA picture, or a CRA or BLA picture? -/
def nalFlush (h265 : Bool) (h : Nat × Nat) : Bool := if h265 then decide (16 ≤ h.1 ∧ h.1 ≤ 20) else h.1 == 5
def nalCraBla (h265 : Bool) (h : Nat × Nat) : Bool := h265 && (decide (16 ≤ h.1 ∧ h.1 ≤ 18) || h.1 == 21)

/-- Is the payload a fragmentation unit; does it start, does it end its NAL unit? -/
def fuFlags (h265 : Bool) (bs : List Byte) : Option (Bool × Bool) :=
  let at_ := if h265 then 2 else 1
  if nalType h265 bs = (if h265 then 49 else 28) then
    some ((bs.getD at_ 0).getLsbD 7, (bs.getD at_ 0).getLsbD 6)
  else none

/-- R195: a NAL unit header with forbidden_zero_bit 1, or with a layer or temporal ID outside the profile. -/
def nalHeaderBad (h265 : Bool) (bs : List Byte) : Bool :=
  let b := (bs.getD 0 0).toNat
  let c := (bs.getD 1 0).toNat
  decide (128 ≤ b) || h265 && (b % 2 != 0 || decide (8 ≤ c) || c == 0)

/-- R195: the NAL units of a payload whose header is out of order; of a fragmented NAL unit, its first fragment's. -/
def badNals (h265 : Bool) (bs : List Byte) : List (List Byte) :=
  let units := if nalType h265 bs = (if h265 then 48 else 24) then nalUnits bs.length (bs.drop (if h265 then 2 else 1))
    else match fuFlags h265 bs with
      | some (false, _) => []
      | _ => [bs]
  units.filter (nalHeaderBad h265)

/-- R195: how many there are. -/
def headerErrs (h265 : Bool) (bs : List Byte) : Nat := (badNals h265 bs).length

/-- R195: does the picture's packets, in order, hold `a` and then `b`, of which one is a fragment whose other part is missing? -/
def fragmentErr (h265 : Bool) (a b : Option (Nat × List Byte)) : Bool :=
  let flags := fun (e : Option (Nat × List Byte)) => e.bind fun e => fuFlags h265 e.2
  let joined := (a.map fun e => e.1 + 1) == b.map (·.1)
  match flags a, flags b with
  | some (_, false), some (false, _) => !joined
  | _, some (false, _) => true
  | some (_, false), _ => true
  | _, _ => false

/-- Is a NAL unit of this type a slice segment? -/
def nalSlice (h265 : Bool) (t : Nat) : Bool := if h265 then decide (t < 32) else decide (1 ≤ t ∧ t ≤ 5)

/-- R195: the fragment whose other part is missing, of two packets in order. -/
def cutFragment (h265 : Bool) (a b : Option (Nat × List Byte)) : Option (List Byte) :=
  if fragmentErr h265 a b then
    match b.bind fun e => fuFlags h265 e.2 with
    | some (false, _) => b.map (·.2)
    | _ => a.map (·.2)
  else none

/-- R195: do the packets of a picture hold a slice segment of which a fragment is missing? -/
def sliceCut (h265 : Bool) (data : List (Nat × List Byte)) : Bool :=
  let es := data.map some
  (List.zip (none :: es) (es ++ [none])).any fun p =>
    (cutFragment h265 p.1 p.2).any fun bs => (nalHeads h265 bs).any fun h => nalSlice h265 h.1

/-- R195: do the packets of a picture hold a slice segment whose NAL unit header is out of order? -/
def sliceBad (h265 : Bool) (data : List (Nat × List Byte)) : Bool :=
  data.any fun e => (badNals h265 e.2).any fun u => (nalHeads h265 u).any fun h => nalSlice h265 h.1

/-- R195: do the packets of a picture hold any slice segment? -/
def anySlice (h265 : Bool) (data : List (Nat × List Byte)) : Bool :=
  data.any fun e => (nalHeads h265 e.2).any fun h => nalSlice h265 h.1

/-- R195: the syntax errors that the packets of a picture show: headers, and fragmentation units without their start or with a
missing fragment. -/
def packetErrs (h265 : Bool) (data : List (Nat × List Byte)) : Nat :=
  let es := data.map some
  (data.map fun e => headerErrs h265 e.2).sum
    + ((List.zip (none :: es) (es ++ [none])).filter fun p => fragmentErr h265 p.1 p.2).length

/-- R182: the packets of a picture by their place. -/
def inPlace (got : List (Nat × List Byte)) : List (Nat × List Byte) :=
  (List.range (got.foldl (fun n e => max n (e.1 + 1)) 0)).filterMap fun k => got.find? fun e => e.1 == k

/-- R183: a coded picture truncated at `n` bytes. -/
def truncated : Nat → List (Nat × List Byte) → List (Nat × List Byte)
  | _, [] => []
  | n, (k, bs) :: rest =>
    if bs.length ≤ n then (k, bs) :: truncated (n - bs.length) rest else if n = 0 then [] else [(k, bs.take n)]

/-- R183, R195: does truncation at `n` bytes take slice data? -/
def sliceTruncated (h265 : Bool) (n : Nat) (data : List (Nat × List Byte)) : Bool :=
  anySlice h265 (data.filter fun e => !((truncated n data).contains e))

/-- R182: sequence numbers missing between the last closed picture and the one that closes (log 71). -/
def State.seqGap (s : State) (c : Nat) (a : Assembly) : Nat :=
  match (s.ctx c).nextSeq with
  | some n => (a.first - n).toInt.toNat
  | none => 0

/-- R182, R183: the picture in assembly closes and joins the queue. -/
def State.closePicture (s : State) (c : Nat) : State :=
  match (s.ctx c).asm with
  | none => s
  | some a =>
    let h265 := s.on (.DEC_CX_CFG_CODEC c)
    let hi := a.got.foldl (fun n e => max n e.1) 0
    let lost := (List.range (hi + 1)).filter fun k => !(a.got.any fun e => e.1 == k)
    let heads := a.got.flatMap fun e => nalHeads h265 e.2
    let seq := s.word (Reg.DEC_CX_SEQ c) + 1
    let area := s.get (.DEC_CX_CFG_CPA c) * 4096
    let loss := !lost.isEmpty || sliceTruncated h265 area (inPlace a.got)
    let lost := lost.length + s.seqGap c a
    let p : Coded :=
      { seq := seq, ts := a.ts, tArr := a.tArr, cap := a.cap, ext := a.ext, map := a.map, noShow := a.noShow,
        isRef := heads.any (nalRef h265), irap := heads.any (nalIrap h265), rasl := heads.any (nalRasl h265),
        flush := heads.any (nalFlush h265), craBla := heads.any (nalCraBla h265), loss := loss,
        data := truncated area (inPlace a.got) }
    let s := (s.count (.DEC_CX_PKT_LOST c) lost).setW (.DEC_CX_SEQ_SEQ c) seq
    let s := s.updCtx c fun x => { x with asm := none, lastClosed := some a.ts, nextSeq := some (a.first + BitVec.ofNat 16 (hi + 1)) }
    let s := match (s.ctx c).queue with
      | old :: rest =>
        if rest.length = 3 then
          let s := (s.updCtx c fun x => { x with queue := rest }).count (.DEC_CX_DISC_QDROP c)
          let s := s.setB .DEC_INT_STATUS_QDROP true
          if old.isRef then s.waitKey c 6 else s
        else s
      | [] => s
    (s.updCtx c fun x => { x with queue := x.queue ++ [p] }).showQueue c

/-- R182: place a packet in the picture in assembly, and close that when it is whole. -/
def State.placePacket (s : State) (c : Nat) (r : RtpIn) : State :=
  match (s.ctx c).asm with
  | none => s
  | some a =>
    let d := (r.seq - a.first).toInt
    let shift := if d < 0 then d.natAbs else 0
    let got := a.got.map fun e => (e.1 + shift, e.2)
    let k := if d < 0 then 0 else d.toNat
    let got := if got.any (fun e => e.1 == k) then got else got ++ [(k, r.payload)]
    let marker := if r.marker then some k else a.marker.map (· + shift)
    let a := { a with first := if d < 0 then r.seq else a.first, got := got, marker := marker }
    let s := s.updCtx c fun x => { x with asm := some a }
    match marker with
    | some m => if (List.range (m + 1)).all fun i => got.any fun e => e.1 == i then s.closePicture c else s
    | none => s

/-- R182: start assembling a picture with its first packet. -/
def State.startPicture (s : State) (c : Nat) (r : RtpIn) (t : Word) : State :=
  let ((cap, ext, m, noShow), s) := s.pictureTime c r.ts
  let s := s.set (.DEC_CX_STATE_MAP c) m
  let a : Assembly := { ts := r.ts, first := r.seq, tArr := t, cap := cap, ext := ext, map := m, noShow := noShow,
                        got := [], marker := none }
  (s.updCtx c fun x => { x with asm := some a }).placePacket c r

/-- R182: gather an accepted packet. -/
def State.gather (s : State) (c : Nat) (r : RtpIn) (t : Word) : State :=
  let late := fun (s : State) => s.count (.DEC_CX_DISC_LATE_PKT c)
  match (s.ctx c).asm with
  | some a =>
    if r.ts = a.ts then s.placePacket c r
    else if wordDiff r.ts a.ts < 0 then late s
    else (s.closePicture c).startPicture c r t
  | none => match (s.ctx c).lastClosed with
    | some l => if wordDiff r.ts l ≤ 0 then late s else s.startPicture c r t
    | none => s.startPicture c r t

/-- The open context on a network and UDP port. -/
def State.ctxAt (s : State) (port udp : Nat) : Option Nat :=
  (List.range 512).find? fun c => s.ctxState c != cxClosed && s.get (.DEC_CX_NET_NET_PORT c) == port
    && s.get (.DEC_CX_NET_UDP_PORT c) == udp

/-- R184, RFC 3550: the statistics of a session after packet `r` arrives at extended time `now` (PRESUMED from the standard,
log 69). -/
def rtpStats (st : Option RtpStats) (r : RtpIn) (now : Time64) : RtpStats :=
  let transit : Word := BitVec.ofNat 32 (now.toNat * 9 / 100000) - r.ts
  match st with
  | none => { base := r.seq.toNat, high := r.seq.toNat, received := 1, priorExpected := 0, priorReceived := 0, transit := transit, jitter := 0 }
  | some x =>
    let d := (r.seq - BitVec.ofNat 16 x.high).toInt
    let v := (wordDiff transit x.transit).natAbs
    { x with high := x.high + d.toNat, received := x.received + 1, transit := transit, jitter := x.jitter + v - (x.jitter + 8) / 16 }

/-- R181: a datagram for context `c` that is discarded counts as FOREIGN. -/
def State.foreign (s : State) (c : Nat) : State :=
  (if s.ctxState c = cxClosed then s else s.count (.DEC_CX_DISC_FOREIGN c)).setB .DEC_INT_STATUS_FOREIGN true

/-- R179, R181, R182, R185: an RTP packet arrives at `t`. On a port shared with RTCP, payload types 64 to 95 are RTCP's (RFC 5761):
such a packet is no RTP. -/
def State.rtpPacket (s : State) (r : RtpIn) (t : Word) : State :=
  let s := (s.at_ t).deckTake r.port r.udp
  match s.ctxAt r.port r.udp with
  | none => s.setB .DEC_INT_STATUS_FOREIGN true
  | some c =>
    if s.on (.DEC_CX_NET_RTCP_MUX c) = true ∧ 64 ≤ r.pt ∧ r.pt ≤ 95 then s else
    let learn := s.on (.DEC_CX_NET_SSRC_LEARN c) && !(s.ctx c).learned && s.ctxState c == cxIdle
    if r.ip ≠ s.word (Reg.DEC_CX_SRCIP c) ∨ r.pt ≠ s.get (.DEC_CX_NET_PT c)
        ∨ (learn = false ∧ r.ssrc ≠ s.word (Reg.DEC_CX_SSRC c)) then
      s.foreign c
    else
      let s := if learn then (s.setW (.DEC_CX_SSRC_VALUE c) r.ssrc).updCtx c fun x => { x with learned := true } else s
      let s := s.count (.DEC_CX_PKT_RECEIVED c)
      let s := s.updCtx c fun x => { x with lastPkt := some s.extNow, stats := some (rtpStats x.stats r s.extNow) }
      if payloadOk (s.on (.DEC_CX_CFG_CODEC c)) r.payload = false then s.ctxFault c 7
      else
        let st := s.ctxState c
        let s := if (st = cxIdle ∨ st = cxStalled) ∧ s.hasSlot c = true then s.setCtx c cxWaitKey 1 else s
        s.gather c r t

/-- R182: ASM_TIMEOUT has passed without a packet of the open picture. -/
def State.asmTimeout (s : State) (c : Nat) : State := s.closePicture c

/-- R181: does an RTCP packet for context `c` come from its camera? -/
def State.fromCamera (s : State) (c : Nat) (ip ssrc : Word) : Bool :=
  s.ctxState c != cxClosed && ip == s.word (Reg.DEC_CX_SRCIP c) && ssrc == s.word (Reg.DEC_CX_SSRC c)

/-- R181, R184, R188: a sender report of an open context. -/
def State.senderReport (s : State) (c : Nat) (ip ssrc : Word) (ntp : BitVec 64) (rtp t : Word) : State :=
  let s := (s.at_ t).deckTakeRtcp c
  if s.fromCamera c ip ssrc then s.updCtx c fun x => { x with sr := some ⟨ntp, rtp, s.extNow⟩ } else s.foreign c

/-- R184, R185: STALLED, from the states it may be entered from. -/
def State.stall (s : State) (c : Nat) : State :=
  let st := s.ctxState c
  if st = cxWaitKey ∨ st = cxRunning then s.setCtx c cxStalled 0 else s

/-- R181, R184: a BYE; only the context's SSRC counts. -/
def State.bye (s : State) (c : Nat) (ip ssrc : Word) : State :=
  let s := s.deckTakeRtcp c
  if s.fromCamera c ip ssrc then s.stall c else s.foreign c

/-- R184: a receiver report of an open context, every 5 s. -/
def State.receiverReport (s : State) (c : Nat) : State :=
  if s.ctxState c = cxClosed then s else s.sendRtcp c 0 0

/-- R201: PLI_REPEAT in WAIT_KEY. -/
def State.pliRepeat (s : State) (c : Nat) : State := if s.ctxState c = cxWaitKey then s.feedback c else s

/-! ### Decode tricks (R189 to R191) -/

/-- R189: which queued picture a trick takes: in WAIT_KEY and FAULT the first IRAP picture, others before it being
discarded; RASL pictures of the key are discarded until another IRAP picture (R202). -/
def State.takePicture (s : State) (c : Nat) : State × Option Coded :=
  let x := s.ctx c
  let st := s.ctxState c
  let rest :=
    if st = cxWaitKey ∨ st = cxFault then x.queue.dropWhile fun p => !p.irap
    else if st = cxRunning then x.queue.dropWhile fun p => x.skipRasl && p.rasl
    else []
  match rest with
  | [] => (((s.updCtx c fun x => { x with queue := [] }).showQueue c), none)
  | p :: rest =>
    (((s.updCtx c fun x => { x with queue := rest }).showQueue c), some p)

/-- R189: a core runs its tricks one after another: begin the next one, letting those that find no picture end. -/
def State.beginDecode (s : State) (k : Nat) : State :=
  let busy := s.dealer.tricks.any fun r => r.trick.cls == .decode && r.trick.index == k && !r.done && r.coded.isSome
  if busy then s else go s.dealer.tricks.length s
where
  go : Nat → State → State
  | 0, s => s
  | n + 1, s =>
    match s.dealer.tricks.findIdx? fun r => r.trick.cls == .decode && r.trick.index == k && !r.done with
    | none => s
    | some i => match s.dealer.tricks[i]? with
      | none => s
      | some r =>
        let (s, p) := s.takePicture r.trick.job
        match p with
        | some p => s.updDealer fun d => { d with tricks := d.tricks.modify i fun r => { r with coded := some p } }
        | none =>
          let s := match r.buf with
            | some d => s.freeBuf d
            | none => s
          go n (s.updDealer fun d => { d with tricks := d.tricks.modify i fun r => { r with done := true, buf := none } })

/-- R30, R191: the effects of an abandoned decode trick whose picture was `p`: the picture is lost, and the context is as before it. -/
def State.decodeAbandoned (s : State) (c k : Nat) (p : Option Coded) : State :=
  let s := s.updCtx c fun x => { x with failed := [] }
  let s := ((s.count (.DEC_CX_ERR_OVERRUN c)).count (.DEC_CORE_OVERRUN k)).setB .DEC_INT_STATUS_OVERRUN true
  match p with
  | some p => if p.isRef then s.waitKey c 5 else s
  | none => s

/-! ### Concealment and taint (R196, R197) -/

/-- Granules per row and in a picture (R197). -/
def granulesX (w : Nat) : Nat := ceilDiv w 16
def granules (w h : Nat) : Nat := ceilDiv w 16 * ceilDiv h 16

/-- R196: the tainted granules: concealed ones, and those predicted from tainted granules, in decoding order. -/
def taintOf (dpb : List RefPic) (concealed : List Nat) (preds : List GranuleIn) : List Nat :=
  preds.foldl (fun t p =>
    let bad := p.inter.any (fun (q, g) => match dpb.find? (·.seq == q) with
        | some r => r.taint.contains g
        | none => false) || p.intra.any t.contains
    if bad && !t.contains p.g then t ++ [p.g] else t) concealed

/-- R197: CONCEAL. -/
def concealOf (t g : Nat) : Nat := ceilDiv (1000 * t) g

/-- R198: granules predicted from a picture that is not in the decoded picture buffer, and such pictures. -/
def lostPreds (dpb : List RefPic) (preds : List GranuleIn) : List Nat :=
  preds.filterMap fun p => if p.inter.any fun x => !(dpb.any fun r => r.seq == x.1) then some p.g else none
def lostRefs (dpb : List RefPic) (preds : List GranuleIn) : List (BitVec 32) :=
  uniq ((preds.flatMap fun p => p.inter.map (·.1)).filter fun q => !(dpb.any fun r => r.seq == q))

/-! ### What the decoder accepts (R178) -/

/-- The luma samples a level permits (PRESUMED from the coding standards, log 72), H.265 by general_level_idc, H.264 by level_idc
in macroblocks of 256 samples. -/
def levelSamples (h265 : Bool) (level : Nat) : Nat :=
  let steps : List (Nat × Nat) :=
    if h265 then [(30, 36864), (60, 122880), (63, 245760), (90, 552960), (93, 983040), (120, 2228224), (150, 8912896)]
    else [(9, 99 * 256), (11, 396 * 256), (21, 792 * 256), (22, 1620 * 256), (31, 3600 * 256), (32, 5120 * 256), (40, 8192 * 256),
      (42, 8704 * 256), (50, 22080 * 256), (51, 36864 * 256)]
  steps.foldl (fun n x => if x.1 ≤ level then x.2 else n) 0

/-- Pictures of `n` luma samples that a level lets the decoded picture buffer hold (PRESUMED from the coding standards, log 72). -/
def levelPictures (h265 : Bool) (level n : Nat) : Nat :=
  if h265 then
    let m := levelSamples true level
    if 4 * n ≤ m then 16 else if 2 * n ≤ m then 12 else if 4 * n ≤ 3 * m then 8 else 6
  else
    let steps := [(9, 396), (11, 900), (12, 2376), (21, 4752), (22, 8100), (31, 18000), (32, 20480), (40, 32768), (42, 34816),
      (50, 110400), (51, 184320)]
    min 16 ((steps.foldl (fun k x => if x.1 ≤ level then x.2 else k) 0) * 256 / max n 1)

/-- R178: is the profile, with its bit depths, one that is accepted? -/
def profileOk (h265 : Bool) (p : ParamSets) : Bool :=
  if h265 then
    let main10 := p.profile == 2 || p.compat.contains 2
    (main10 || p.profile == 1 || p.compat.contains 1) && p.lumaDepth == p.chromaDepth
      && (p.lumaDepth == 8 || p.lumaDepth == 10 && main10)
  else (p.profile == 66 && p.constraint1 || p.profile == 77 || p.profile == 100) && p.lumaDepth == 8 && p.chromaDepth == 8

/-- R178, R185, R190, R192: the FAULT cause that parameter sets show, 0 for none, the lowest code first (log 72). -/
def State.setsFault (s : State) (c : Nat) (p : ParamSets) : Nat :=
  let h265 := s.on (.DEC_CX_CFG_CODEC c)
  let n := p.width * p.height
  if profileOk h265 p = false ∨ (p.lumaDepth = 10 ∧ s.on (.DEC_CX_CFG_DEPTH10 c) = false) then 1
  else if p.highTier = true ∨ (if h265 then 153 else 51) < p.level ∨ levelSamples h265 p.level < n
      ∨ min 16 (levelPictures h265 p.level n) < p.dpb then 2
  else if p.width < 128 ∨ 4096 < p.width ∨ p.height < 96 ∨ 2304 < p.height
      ∨ (p.width - p.left - p.right, p.height - p.top - p.bottom) ≠ s.srcDim (s.ctxSrc c) then 3
  else if p.chroma ≠ 1 then 4
  else if h265 = false ∧ p.frameMbsOnly = false then 5
  else if p.left ≠ 0 ∨ p.top ≠ 0 then 6
  else 0

/-- R195: the parameter sets in use for a picture: those that come with it, or those of before. -/
def State.setsOf (s : State) (c : Nat) (r : DecodeIn) : Option ParamSets := r.sets.orElse fun _ => (s.ctx c).sets

/-- R178: the FAULT cause a picture shows, 0 for none. -/
def State.pictureFault (s : State) (c : Nat) (r : DecodeIn) : Nat := ((s.setsOf c r).map (s.setsFault c)).getD 0

/-- R178: the stored format of a picture. -/
def State.decFormat (s : State) (c : Nat) (r : DecodeIn) : Nat :=
  if (s.setsOf c r).any fun p => p.lumaDepth == 10 then 2 else 1

/-- R195, R196, R198: the granules of the running picture `p` to conceal: not decoded from received data, for want of a parameter set
or of any slice segment all of them; predicted from a missing reference; or lost to a failed block. A slice segment with a missing
fragment or a bad header, a lost packet and slice data beyond the picture's area lose at least one granule: a free one, where the
result names none (log 90). -/
def State.concealed (s : State) (c : Nat) (p : Coded) (r : DecodeIn) : List Nat :=
  let dim := s.srcDim (s.ctxSrc c)
  let n := granules dim.1 dim.2
  let h265 := s.on (.DEC_CX_CFG_CODEC c)
  let all := if (s.setsOf c r).isNone || !anySlice h265 p.data then List.range n else []
  let cut := if r.undecoded.isEmpty && (sliceCut h265 p.data || sliceBad h265 p.data || p.loss) && n != 0 then [Config.lostGranule p.seq.toNat % n] else []
  uniq (all ++ cut ++ r.undecoded ++ r.missing ++ lostPreds (s.ctx c).dpb r.preds ++ (s.ctx c).failed)

/-- R195: syntax errors of a picture: those its packets show, those inside its data, and a missing parameter set. -/
def State.syntaxErrs (s : State) (c : Nat) (p : Coded) (r : DecodeIn) : Nat :=
  packetErrs (s.on (.DEC_CX_CFG_CODEC c)) p.data + r.syntaxErrs + b2n (s.setsOf c r).isNone

/-- R198: missing references of a picture. -/
def State.missingRefs (s : State) (c : Nat) (r : DecodeIn) : Nat := r.missingRefs + (lostRefs (s.ctx c).dpb r.preds).length

/-- R196: a stored sample copied into a picture of another depth (log 84). -/
def redepth (deepFrom deepTo : Bool) (v : Nat) : Nat :=
  if deepFrom = deepTo then v else if deepTo then 4 * v else min ((v + 2) / 4) 255

/-- R58, R59, R196: a pixel of the picture at the stored depth: decoded, or copied from the concealment picture where its granule
is concealed. -/
def State.decodedPx (s : State) (c : Nat) (r : DecodeIn) (fmt : Nat) (concealed : List Nat) (x y : Nat) : Px :=
  let dim := s.srcDim (s.ctxSrc c)
  if concealed.contains (y / 16 * granulesX dim.1 + x / 16) then
    match (s.ctx c).concealPic with
    | some p =>
      let from_ := (s.desc p.buf).hdr.format
      let q := s.storedPx (s.bufAddr p.buf) from_ dim.1 dim.2 x y
      let d := redepth (fmtDeep from_) (fmtDeep fmt)
      ⟨d q.a, d q.b, d q.c⟩
    | none => framePx r.frame x y
  else framePx r.frame x y

/-! ### Completion (R49, R192 to R194, R198 to R200, R202) -/

/-- R194: after picture `p` completes, the references kept and the concealment picture hold their buffers. -/
def State.takeRefs (s : State) (c : Nat) (p : RefPic) (keep : List (BitVec 32)) (isRef : Bool) : State :=
  let x := s.ctx c
  let old := x.dpb.map (·.buf) ++ (x.concealPic.map (·.buf)).toList
  let dpb := (x.dpb.filter fun q => keep.contains q.seq) ++ (if isRef then [p] else [])
  let s := s.updCtx c fun x => { x with dpb := dpb, concealPic := some p }
  s.each (uniq old |>.filter fun d => d != p.buf && !(dpb.any fun q => q.buf == d)) fun s d => s.unhold d holdDeck

/-- The running decode trick of a context. -/
def State.decTrick (s : State) (c : Nat) : Option RunTrick :=
  s.dealer.tricks.find? fun r => r.trick.cls == .decode && r.trick.job == c && !r.done && r.coded.isSome

/-- R190, R195: a picture is decoded: the context's state is saved to the other half of its pair, with the parameter sets in use. -/
def State.saveCtx (s : State) (c : Nat) (r : DecodeIn) : State :=
  s.updCtx c fun x => x.save (r.sets.orElse fun _ => x.sets)

/-- End the running decode trick of a context. -/
def State.decTrickEnd (s : State) (c : Nat) : State :=
  let s := s.updCtx c fun x => { x with failed := [] }
  s.updDealer fun d => { d with tricks := d.tricks.map fun r =>
    if r.trick.cls == .decode && r.trick.job == c && r.coded.isSome then { r with done := true, buf := none } else r }

/-- R189: every core whose trick has ended begins its next. -/
def State.wakeCores (s : State) : State := s.each (List.range 8) State.beginDecode

/-- R200: the WAIT_KEY cause after a completed picture, lowest code first; 0 for none. -/
def State.keyCause (s : State) (c missing conceal run : Nat) : Nat :=
  if missing ≠ 0 then 2
  else if s.get (.DEC_CX_CONC_PLI_CONCEAL c) < conceal then 3
  else if s.get (.DEC_CX_CONC_PLI_RUN c) ≤ run then 4
  else 0

/-- R192, R193, R49: write the picture with its side area and its header and complete the trick into buffer `d`. The planes hold the coded picture as far
as their padding has room. -/
def State.finishPicture (s : State) (c d : Nat) (p : Coded) (r : DecodeIn) (bad : Bool) (taint : List Nat)
    (conceal core : Nat) : State :=
  let fmt := s.decFormat c r
  let (w, h) := s.srcDim (s.ctxSrc c)
  let (cw, ch) := ((s.setsOf c r).map fun p => (p.width, p.height)).getD (w, h)
  let px := s.decodedPx c r fmt (s.concealed c p r)
  let s := (s.chargeBlocks (16 + core) (ceilDiv (planeBytes fmt w h) 256)).storeBuf d (storeArea s.dram (s.bufAddr d) fmt w h (min cw (paddedWidth fmt w)) (min ch (paddedHeight h)) px)
  let reorder := match (s.ctx c).lastCap with
    | some (t, e) => decide (capDiff p.cap p.ext t e ≤ 0)
    | none => false
  let late := decide (100000000 < wordDiff s.time.now p.tArr) || decide (1000000000 < wordDiff s.time.now (p.cap.setWidth 32))
  let noShow := p.noShow || !r.output || late || reorder
  let s := if reorder then s.count (.DEC_CX_DISC_REORDER c) else s
  let hd : BufHdr :=
    { srcId := s.ctxSrc c, capExt := p.ext, noShow := noShow, map := p.map, conceal := conceal, seq := p.seq,
      capTime := p.cap, frz := frzSig w h fun x y => (px x y).a,
      tell := tellSig (s.srcDesc (s.ctxSrc c)).tell px, width := w, height := h, format := fmt,
      cls := 1, idx := core }
  let s := s.writeHdr d hd bad
  let ok := s.hdrAccepted d hd
  let s := if ok then s.hold d holdDeck else s
  let s := s.headerCheck d hd
  let s := s.set (.DEC_CX_STATE_CONCEAL c) conceal
  if ok then
    let s := s.takeRefs c ⟨p.seq, d, taint, r.preds⟩ (if p.flush then [] else r.keep) r.isRef
    let s := if noShow then s else s.updCtx c fun x => { x with lastCap := some (p.cap, p.ext) }
    ((s.set (.DEC_CX_LASTBUF_INDEX c) d).set (.DEC_CX_LASTBUF_TICK c) s.tick16).count (.DEC_CORE_PICS core)
  else s

/-- R198 to R200, R202: a picture decoded while RUNNING completes; the RASL pictures of a key end at the next IRAP picture. -/
def State.pictureRunning (s : State) (c d : Nat) (p : Coded) (r : DecodeIn) (bad : Bool) (taint : List Nat) (conceal core : Nat) : State :=
  let missing := s.missingRefs c r + r.missing.length
  let s := s.finishPicture c d p r bad taint conceal core
  let run := if conceal = 0 then 0 else (s.ctx c).concealRun + 1
  let s := s.updCtx c fun x => { x with concealRun := run, skipRasl := x.skipRasl && !p.irap }
  let s := (s.saveCtx c r).decTrickEnd c
  match s.keyCause c missing conceal run with
  | 0 => s
  | cause => s.waitKey c cause

/-- R192 to R202: the running decode trick of context `c` completes with result `r` at `t`. -/
def State.decodeComplete (s : State) (c : Nat) (r : DecodeIn) (bad : Bool) (t : Word) : State :=
  match s.decTrick c with
  | none => s
  | some tr =>
    match tr.buf, tr.coded with
    | some d, some p =>
      let s := s.at_ t
      let core := tr.trick.index
      let s := s.count (.DEC_CX_ERR_SYNTAX c) (s.syntaxErrs c p r)
      let s := s.count (.DEC_CX_ERR_MISSING_REF c) (s.missingRefs c r)
      let fault := s.pictureFault c r
      if fault ≠ 0 then
        let s := if s.ctxState c = cxFault then (s.freeBuf d) else s.ctxFault c fault
        (s.saveCtx c r).decTrickEnd c
      else
        let dim := s.srcDim (s.ctxSrc c)
        let taint := taintOf (s.ctx c).dpb (s.concealed c p r) r.preds
        let conceal := concealOf taint.length (granules dim.1 dim.2)
        let st := s.ctxState c
        if st = cxRunning then s.pictureRunning c d p r bad taint conceal core
        else if (st = cxWaitKey ∨ st = cxFault) ∧ p.irap = true ∧ conceal = 0 then
          let s := s.finishPicture c d p r bad [] 0 core
          let s := (s.setCtx c cxRunning 0).updCtx c fun x => { x with skipRasl := p.craBla }
          (s.saveCtx c r).decTrickEnd c
        else ((s.freeBuf d).saveCtx c r).decTrickEnd c
    | _, _ => s

/-! ### What reads of the registers show -/

/-- DEC_STATUS.OPEN and RUNNING. -/
def State.openCount (s : State) : Nat := ((List.range 512).filter fun c => s.ctxState c != cxClosed).length
def State.runningCount (s : State) : Nat := ((List.range 512).filter fun c => s.ctxState c == cxRunning).length

/-- DEC_CX_SRAGE.SR_AGE: ms since the last sender report, saturating. -/
def State.srAge (s : State) (c : Nat) : Nat :=
  match (s.ctx c).sr with
  | some r => min ((s.extNow - r.at_).toNat / 1000000) 0xFFFF
  | none => 0xFFFF

end Sys2Proof.Machine
end

