-- ==== Sys2Proof/Machine/Clock.lean ====
section
/-!
DEFINITION. Time base, trigger channels, pulse outputs and network ports (R280 to R297, R452).
-/

namespace Sys2Proof.Machine

open Sys2Proof

/-- Change the time unit. -/
def State.updTime (s : State) (f : TimeSt → TimeSt) : State := { s with time := f s.time }

/-! ### The time unit (R280 to R283) -/

/-- R282: the nanosecond value wraps. -/
def State.wrapEpoch (s : State) : State :=
  let s := s.setB .TIM_INT_STATUS_WRAP true
  if s.epochValid then s.setW .TIM_EPOCH_EPOCH (s.word Reg.TIM_EPOCH + 1) else s

/-- R280: one cycle of the time unit: the accumulator adds TIM_INCR. -/
def State.cycle (s : State) : State :=
  let acc : Nat := (s.time.now ++ s.time.frac : BitVec 60).toNat + (s.word Reg.TIM_INCR).toNat
  let s := s.updTime fun x => { x with now := BitVec.ofNat 32 (acc / 2 ^ 28), frac := BitVec.ofNat 28 acc }
  if 2 ^ 60 ≤ acc then s.wrapEpoch else s

/-- R282: the value wraps, to `t` ns. -/
def State.wrap (s : State) (t : Nat) : State := (s.at_ (BitVec.ofNat 32 t)).wrapEpoch

/-- R281: a write of TIM_INCR. -/
def State.incrWrite (s : State) (w : Word) : State :=
  if 0x27FAE148 ≤ w.toNat ∧ w.toNat ≤ 0x28051EB8 then s.setWord Reg.TIM_INCR w else s.count .TIM_CNT_INCR_REJ

/-- The moments from which the device counts go forward by `d`, as the extended time does: the end of RESET, the reset that waits,
the Banker's heartbeat, its watch and its watchdog, and the violation records of the masters. -/
def State.shiftMarks (s : State) (d : Time64) : State :=
  { s with
    boot := { s.boot with released := s.boot.released + d, resetAt := s.boot.resetAt.map (· + d) }
    plat := { s.plat with
      hbAt := s.plat.hbAt + d, watchAt := s.plat.watchAt + d, wdtAt := s.plat.wdtAt + d
      viol := s.plat.viol.map fun e => (e.1, e.2.1.map (· + d), e.2.2) } }

/-- R282: a write of TIM_EPOCH; `wrap` tells that the value wraps in the same cycle. What is timed keeps its age (log 117). -/
def State.epochWrite (s : State) (w : Word) (wrap : Bool) : State :=
  let s := if s.epochValid then s
    else ((s.shiftMarks ((w - s.word Reg.TIM_EPOCH) ++ 0#32)).setWord Reg.TIM_EPOCH w).setB .TIM_STATUS_EPOCH_VALID true
  s.when wrap (·.wrap 0)

/-- R283: master `m` reads TIM_NOW_LO. -/
def State.nowLoRead (s : State) (m : Nat) : State :=
  s.updTime fun x => { x with latch := Tab.insert x.latch m (s.word Reg.TIM_EPOCH) }

/-- R283: what master `m` reads from TIM_NOW_HI. -/
def State.nowHi (s : State) (m : Nat) : Word := (Tab.find s.time.latch m).getD 0

/-! ### The servo's controls (R285 to R287, R452) -/

/-- R285: a write of TIM_PTP_OFF_HI commits O. -/
def State.offHiWrite (s : State) (w : Word) : State :=
  if s.epochValid then
    let s := s.setWord Reg.TIM_PTP_OFF_HI w
    (s.updTime fun x => { x with off := w ++ s.word Reg.TIM_PTP_OFF_LO, offAt := some s.extNow }).setB
      .TIM_STATUS_OFF_VALID true
  else s

/-- R286: OFF_VALID clears. -/
def State.clearOff (s : State) : State :=
  if s.on .TIM_STATUS_OFF_VALID then (s.setB .TIM_STATUS_OFF_VALID false).setB .TIM_INT_STATUS_OFF_EXPIRED true else s

/-- R286: while TICK_SRC is PTP and SERVO_LOCKED is 0, REF_LOST is set. -/
def State.servoRef (s : State) : State :=
  if s.get .DLR_TICK_CFG_TICK_SRC = 2 ∧ s.on .TIM_STATUS_SERVO_LOCKED = false then s.setRefLost true else s

/-- R286: SERVO_LOCKED clears; in PTP mode REF_LOST is set. -/
def State.unlockServo (s : State) : State :=
  let s := if s.on .TIM_STATUS_SERVO_LOCKED then
      ((s.setB .TIM_STATUS_SERVO_LOCKED false).setB .TIM_SERVO_LOCKED false).setB .TIM_INT_STATUS_UNLOCKED true else s
  s.servoRef

/-- R286: a write of TIM_SERVO.LOCKED. -/
def State.servoLocked (s : State) (v : Bool) : State :=
  if v then (s.setB .TIM_STATUS_SERVO_LOCKED true).setB .TIM_SERVO_LOCKED true else s.unlockServo

/-- R286: at a boundary, REF_LOST of PTP mode follows SERVO_LOCKED where dealing started from DLR_TICK_FIRST. -/
def State.servoBoundary (s : State) : State :=
  if s.get .DLR_TICK_CFG_TICK_SRC ≠ 2 then s
  else if s.on .TIM_STATUS_SERVO_LOCKED ∧ s.on .DLR_STATUS_TICK_LOCKED then s.setRefLost false else s.servoRef

/-- R286, R452: a write of TIM_SERVO.INVALIDATE. -/
def State.servoInvalidate (s : State) : State := s.clearOff.setB .TIM_UTC_VALID false

/-- R287, R452: a write of TIM_GM_DOM commits the grandmaster. -/
def State.gmDomWrite (s : State) (dom : Nat) : State :=
  let s := s.set .TIM_GM_DOM_DOMAIN dom
  let id : BitVec 64 := s.word Reg.TIM_GM_ID_HI ++ s.word Reg.TIM_GM_ID_LO
  if id = s.time.gmId ∧ dom = s.time.gmDom then s
  else
    ((s.updTime fun x => { x with gmId := id, gmDom := dom }).next .TIM_GM_DOM_GEN).setB .TIM_UTC_VALID false

/-- R452: a write of TIM_UTC. -/
def State.utcWrite (s : State) (off : BitVec 16) : State :=
  (s.set .TIM_UTC_UTC_OFFSET off.toNat).setB .TIM_UTC_VALID true

/-! ### Trigger channels and pulse outputs (R292 to R296) -/

/-- R294, R296: channels and pulse outputs run. -/
def State.chansRun (s : State) : Bool := s.devState == stDealing || s.devState == stSafe

/-- R292: is a channel of a mode (1 SINGLE, 2 PERIODIC, 3 TICK) due at `t`? -/
def chanDue (mode : Nat) (start : Word) (num den : Nat) (x : TrgSt) (armed : Bool) (t : Word) : Bool :=
  match mode with
  | 1 => armed && decide (0 ≤ wordDiff t start)
  | 2 => decide (0 ≤ wordDiff t (start + BitVec.ofNat 32 (x.k * num / den)))
  | 3 => match x.marks with
    | m :: _ => decide (0 ≤ wordDiff t (m + start))
    | [] => false
  | _ => false

/-- A trigger channel. -/
def State.trg (s : State) (c : Nat) : TrgSt := Tab.get .init s.time.trgs c

/-- R292: a channel fires: it is counted, and its next firing is placed. -/
def State.chanFire (s : State) (c : Nat) : State :=
  let s := s.updTime fun x => { x with trgs := Tab.upd .init x.trgs c fun y => { y with k := y.k + 1, marks := y.marks.drop 1 } }
  let s := (s.count (.TIM_TRG_STAT_FIRED c)).setB (.TIM_TRG_STAT_ARMED c) false
  if s.on (.TIM_TRG_CFG_IRQ c) then s.setB .TIM_INT_STATUS_TRIGGER true else s

/-- Is channel `c` due at `t`? -/
def State.trgDue (s : State) (c : Nat) (t : Word) : Bool :=
  s.chansRun && chanDue (s.get (.TIM_TRG_CFG_MODE c)) (s.word (Reg.TIM_TRG_START c)) (s.word (Reg.TIM_TRG_PER c)).toNat
    (s.get (.TIM_TRG_CFG_DEN c)) (s.trg c) (s.on (.TIM_TRG_STAT_ARMED c)) t

/-- Begin a channel at its START: a SINGLE channel is armed. -/
def State.chanStart (s : State) (c : Nat) : State :=
  let s := s.updTime fun x => { x with trgs := Tab.upd .init x.trgs c fun y => { y with k := 0 } }
  s.setB (.TIM_TRG_STAT_ARMED c) (s.get (.TIM_TRG_CFG_MODE c) == 1)

/-- R294: on entry to DEALING every channel and pulse output starts. -/
def State.startChannels (s : State) : State :=
  (s.updTime fun x => { x with trgs := [], pps := [] }).each (List.range 64) State.chanStart

/-- R292, R295: a boundary that channels and pulse outputs in mode TICK are to follow: one whose count is a multiple of DIV + 1. -/
def State.markBoundary (s : State) : State :=
  let at_ := fun (div : Nat) => s.tick.toNat % (div + 1) == 0
  let add := fun (y : TrgSt) => { y with marks := y.marks ++ [s.tickTime] }
  let cs := (List.range 64).filter fun c => s.get (.TIM_TRG_CFG_MODE c) == 3 && at_ (s.get (.TIM_TRG_CFG_DIV c))
  let ks := (List.range 4).filter fun k => s.get (.TIM_PPS_CFG_MODE k) == 3 && at_ (s.get (.TIM_PPS_CFG_DIV k))
  s.updTime fun x => { x with
    trgs := cs.foldl (fun t c => Tab.upd .init t c add) x.trgs, pps := ks.foldl (fun t k => Tab.upd .init t k add) x.pps }

/-- R294: a value written to a Banker-owned channel applies from the next cycle: a target that lies in the past already fires, and is
late. -/
def State.chanLate (s : State) (c : Nat) : State :=
  if s.trgDue c s.time.now = true ∧ s.trgDue c (s.time.now - 1) = true then (s.count .TIM_CNT_TRG_LATE).chanFire c else s

/-- R292 to R294: a write of TIM_TRG_START. -/
def State.trgStartWrite (s : State) (c : Nat) (w : Word) : State :=
  if s.on (.TIM_TRG_CFG_OWNER c) then s
  else ((s.setWord (Reg.TIM_TRG_START c) w).chanStart c).chanLate c

/-- R292, R294: the configuration or the period of a Banker-owned channel was written; `was` is its mode before. A new mode starts it
again. -/
def State.trgCfgWritten (s : State) (c was : Nat) : State :=
  if s.on (.TIM_TRG_CFG_OWNER c) then s
  else if s.get (.TIM_TRG_CFG_MODE c) = was then s.chanLate c
  else ((s.updTime fun x => { x with trgs := Tab.put .init x.trgs c .init }).chanStart c).chanLate c

/-- A pulse output. -/
def State.ppsSt (s : State) (k : Nat) : TrgSt := Tab.get .init s.time.pps k

/-- R295: is device time `t` the first cycle at or after an aligned PTP time of output `k`? -/
def State.ptpAligned (s : State) (k : Nat) (t : Time64) : Bool :=
  let num : Int := (s.word (Reg.TIM_PPS_PER k)).toNat
  let den : Int := s.get (.TIM_PPS_CFG_DEN k)
  let ptp : Int := t.toNat + s.time.off.toInt
  let phase : Int := (s.word (Reg.TIM_PPS_START k)).toNat
  num != 0 && decide ((ptp - phase) * den % num < 3 * den)

/-- Width of a pulse of output `k` in ns. -/
def State.ppsWidth (s : State) (k : Nat) : Nat := s.get (.TIM_PPS_CFG_WIDTH k) * 100

/-- R295: a pulse that is due does not start. -/
def State.ppsMissed (s : State) (k : Nat) : State := (s.count (.TIM_PPS_STAT_MISSED k)).setB .TIM_INT_STATUS_PPS_MISSED true

/-- R295: a pulse of output `k` starts. -/
def State.ppsStart (s : State) (k : Nat) : State :=
  let s := s.updTime fun x => { x with pps := Tab.upd .init x.pps k fun y =>
    { y with k := y.k + 1, marks := y.marks.drop 1, lastAt := some s.extNow } }
  (s.count (.TIM_PPS_STAT_PULSES k)).emit (.pulse k (!s.on (.TIM_PPS_CFG_POL k)) (s.ppsWidth k))

/-- R295, R296: a pulse of output `k` is due at `t`. -/
def State.ppsPulse (s : State) (k : Nat) (t : Word) : State :=
  let s := s.at_ t
  let x := s.ppsSt k
  if s.chansRun = false then s
  else if s.get (.TIM_PPS_CFG_MODE k) = 4 then
    let late := match s.time.offAt with
      | some a => decide ((s.extNow - a).toInt < 1000)
      | none => false
    let crowded := match x.lastAt with
      | some a => decide ((s.extNow - a).toInt < 2 * (s.ppsWidth k : Nat))
      | none => false
    if s.ptpAligned k s.extNow = false then s
    else if s.on .TIM_STATUS_OFF_VALID = false then s.ppsMissed k
    else if late then s
    else if crowded then s.ppsMissed k
    else s.ppsStart k
  else if chanDue (s.get (.TIM_PPS_CFG_MODE k)) (s.word (Reg.TIM_PPS_START k)) (s.word (Reg.TIM_PPS_PER k)).toNat
      (s.get (.TIM_PPS_CFG_DEN k)) x (x.k == 0) t then s.ppsStart k
  else s

/-- R295, R296: the level of pulse output `k`: the inactive one of POL but for the width of a pulse, and always outside DEALING and
SAFE. -/
def State.ppsLevel (s : State) (k : Nat) : Bool :=
  let active : Bool := s.chansRun && match (s.ppsSt k).lastAt with
    | some a => decide ((s.extNow - a).toNat < s.ppsWidth k)
    | none => false
  active != s.on (.TIM_PPS_CFG_POL k)

/-! ### Network ports (R288 to R291) -/

/-- R289: is port `n` in use? -/
def State.netOn (s : State) (n : Nat) : Bool :=
  s.devState != stReset && (s.on (.TIM_NP_CFG_EN n) || (n == 2 && (s.devState == stLoading || s.devState == stRecovery)))

/-- The extended time of a time-unit value `t` near the present one: on whichever side of a wrap it lies (R44, R314). -/
def State.fullTime (s : State) (t : Word) : Time64 := s.extNow + BitVec.ofInt 64 (wordDiff t s.time.now)

/-- R288: a stamp at time-unit value `t` corrected by `d` ns. -/
def State.stamp (s : State) (t : Word) (d : Int) : Time64 :=
  if s.epochValid then s.fullTime t + BitVec.ofInt 64 d else 0#32 ++ (t + BitVec.ofInt 32 d)

/-- R290: the address filter of port `n`. -/
def State.passes (s : State) (n dest : Nat) : Bool :=
  dest == (s.word (Reg.TIM_NP_MAC_LO n)).toNat + (s.word (Reg.TIM_NP_MAC_HI n)).toNat % 65536 * 2 ^ 32
  || dest == 2 ^ 48 - 1
  || (List.range 16).any fun f => s.on (.TIM_NP_MC_HI_VALID n f) &&
      dest == (s.word (Reg.TIM_NP_MC_LO n f)).toNat + (s.word (Reg.TIM_NP_MC_HI n f)).toNat % 65536 * 2 ^ 32

/-- R181, R204, R290: is a UDP port of port `n` the Deck's? -/
def State.deckPort (s : State) (n udp : Nat) : Bool :=
  (s.ctxAt n udp).isSome || (udp != 0 && match s.ctxAt n (udp - 1) with
      | some c => !s.on (.DEC_CX_NET_RTCP_MUX c)
      | none => false)
  || (List.range 32).any fun e => s.on (.ENC_ST_STATE_RUNNING e) && !s.on (.ENC_ST_DEST_FABRIC e)
      && s.get (.ENC_ST_DEST_NET_PORT e) == n && s.get (.ENC_ST_DEST_UDP_PORT e) + 1 == udp

/-- A full queue drops the frame (R290). -/
def State.netDrop (s : State) (f : Fld) : State := (s.count f).setB .TIM_INT_STATUS_RX_DROP true

/-- A Banker that is up again reads the frames that waited. -/
def State.bankerDrain (s : State) : State :=
  s.each (List.range 3) fun s n =>
    let x := s.net n
    let s := s.each (x.ptpQ ++ x.genQ) fun s (f, st) => s.emit (.toBanker n f st)
    s.updNet n fun x => { x with ptpQ := [], genQ := [] }

/-- R290: steer a frame that passed to its queue. A Banker that is up and not busy empties its queues (log 92). -/
def State.steer (s : State) (n : Nat) (f : NetFrame) (st : Time64) : State :=
  let udp := f.udp.map (·.port)
  let reads := s.bankerUp && !f.busy
  let s := s.when reads State.bankerDrain
  if f.ether = 0x88F7 ∨ udp = some 319 ∨ udp = some 320 then
    if reads then s.emit (.toBanker n f st)
    else if 16 ≤ (s.net n).ptpQ.length then s.netDrop (.TIM_NP_DROP_PTP_Q n)
    else s.updNet n fun x => { x with ptpQ := x.ptpQ ++ [(f, st)] }
  else if n < 2 ∧ (match udp with | some u => s.deckPort n u | none => false) = true then
    if 512 * 1024 < ((s.net n).deckQ.map (·.1.len)).sum + f.len then s.netDrop (.TIM_NP_DROP_DECK_Q n)
    else s.updNet n fun x => { x with deckQ := x.deckQ ++ [(f, st)] }
  else if udp = some (s.get (.TIM_NP_CFG_CMD_PORT n)) then
    if 32 ≤ (s.net n).cmdQ.length then s.netDrop (.TIM_NP_DROP_CMD_Q n)
    else s.updNet n fun x => { x with cmdQ := x.cmdQ ++ [(f, st)] }
  else if reads then s.emit (.toBanker n f st)
  else if 128 ≤ (s.net n).genQ.length then s.netDrop (.TIM_NP_DROP_GEN_Q n)
  else s.updNet n fun x => { x with genQ := x.genQ ++ [(f, st)] }

/-- R288 to R290: port `n` receives a frame whose stamp point passes at `t`. -/
def State.frameReceive (s : State) (n : Nat) (f : NetFrame) (t : Word) : State :=
  let s := s.at_ t
  if s.netOn n = false then s
  else if f.fcs = false ∨ f.len < 64 ∨ 1522 < f.len then s.count (.TIM_NP_ERR_BAD n)
  else if f.pause then s.count (.TIM_NP_ERR_PAUSE n)
  else if 1 < f.tags ∨ s.passes n f.dest = false then s
  else s.steer n f (s.stamp t (-(s.get (.TIM_NP_LAT_RX_LAT n) : Int)))

/-- Show TXTS_COUNT. -/
def State.showStamps (s : State) (n : Nat) : State := s.set (.TIM_NP_STATUS_TXTS_COUNT n) (s.net n).stamps.length

/-- R288: the transmit stamp of a PTP event message enters the FIFO of 4. -/
def State.txStamp (s : State) (n : Nat) (m : PtpTx) (t : Word) : State :=
  if 4 ≤ (s.net n).stamps.length then s.count (.TIM_NP_STATUS_TXTS_OVF n)
  else
    let st := s.stamp t (s.get (.TIM_NP_LAT_TX_LAT n) : Int)
    ((s.updNet n fun x => { x with stamps := x.stamps ++ [(st, m)] }).showStamps n).setB .TIM_INT_STATUS_TXTS true

/-- The PTP message of a frame that carries one over IEEE 802.3 or UDP/IPv4, behind a VLAN tag or not (R284, R290). -/
def ptpMessage (bs : List Byte) : Option (List Byte) :=
  let at_ := fun i => (bs.getD i 0).toNat
  let two := fun i => 256 * at_ i + at_ (i + 1)
  let e := if two 12 = 0x8100 then 16 else 12
  let ip := e + 2 + 4 * (at_ (e + 2) % 16)
  if two e = 0x88F7 then some (bs.drop (e + 2))
  else if two e = 0x0800 ∧ at_ (e + 11) = 17 ∧ (two (ip + 2) = 319 ∨ two (ip + 2) = 320) then some (bs.drop (ip + 8))
  else none

/-- R284: the messages beside Delay_Req that a slave-only end-to-end clock sends: Signaling (messageType 0xC) and Management (0xD), on the
port that the image names and in its domain; never Sync, Announce or another message of a master or of the peer delay mechanism (log 38). -/
def State.ptpAllowed (s : State) (n : Nat) (bs : List Byte) : Bool :=
  match ptpMessage bs with
  | none => true
  | some m => s.on (.TIM_NP_CFG_PTP n) && (m.getD 4 0).toNat == s.image.ptpDomain && [0xC, 0xD].contains ((m.getD 0 0).toNat % 16)

/-- R284, R291: a frame boundary at port `n`, with the PTP event messages and other frames that the Banker hands over. In
the slave-only state of an end-to-end clock the only event message sent is Delay_Req (messageType 1), on the port that carries PTP and in
the image's domain. -/
def State.frameTransmit (s : State) (n : Nat) (ptp : List PtpTx) (gen : List (List Byte)) (t : Word) : State :=
  let s := s.at_ t
  let s := if s.bankerUp then s.updNet n fun x => { x with
             txPtp := x.txPtp ++ ptp.filter (fun m => m.type == 1#4 && s.on (.TIM_NP_CFG_PTP n) && (m.bytes.getD 4 0).toNat == s.image.ptpDomain)
             txGen := x.txGen ++ gen.filter (s.ptpAllowed n) } else s
  if s.netOn n = false ∨ s.on (.TIM_NP_STATUS_LINK n) = false then s
  else match (s.net n).txPtp, (s.net n).txDeck, (s.net n).txGen with
    | m :: rest, _, _ => ((s.updNet n fun x => { x with txPtp := rest }).txStamp n m t).emit (.ptpSend n m)
    | [], d :: rest, _ => (s.updNet n fun x => { x with txDeck := rest }).emit (.deckSend n d)
    | [], [], g :: rest => (s.updNet n fun x => { x with txGen := rest }).emit (.netSend n g)
    | [], [], [] => s

/-- What TIM_NP_TXTS_LO, _HI and _ID read: the oldest stamp. -/
def State.txtsWords (s : State) (n : Nat) : Word × Word × Word :=
  match (s.net n).stamps with
  | (st, m) :: _ => (st.setWidth 32, (st >>> 32).setWidth 32, BitVec.ofNat 32 (m.seq.toNat + m.type.toNat * 65536))
  | [] => (0, 0, 0)

/-- R297: master `m` reads TIM_NP_TXTS_ID: the entry goes, unless the debug port reads. -/
def State.txtsIdRead (s : State) (n m : Nat) : State :=
  if m = 9 then s else (s.updNet n fun x => { x with stamps := x.stamps.drop 1 }).showStamps n

end Sys2Proof.Machine
end

