-- ==== Sys2Proof/Machine/Encoder.lean ====
section
/-!
DEFINITION. Encode streams (R203 to R209, R211): key requests, selection, conversion, rate control, packets, and
how a stream starts and stops.
-/

namespace Sys2Proof.Machine

open Sys2Proof

/-- An encode stream. -/
def State.enc (s : State) (e : Nat) : EncSt := Tab.get .init s.encs e

/-- Change an encode stream. -/
def State.updEnc (s : State) (e : Nat) (f : EncSt → EncSt) : State := { s with encs := Tab.upd .init s.encs e f }

/-- Does the stream run? -/
def State.encRuns (s : State) (e : Nat) : Bool := s.on (.ENC_ST_STATE_RUNNING e)

/-- The encode trick of a stream in progress. -/
def State.encTrick (s : State) (e : Nat) : Option RunTrick :=
  s.dealer.tricks.find? fun r => r.trick.cls == .encode && r.trick.job == e && !r.done

/-- R209: a key request of stream `e`. -/
def State.keyRequest (s : State) (e : Nat) : State :=
  let s := (s.count (.ENC_ST_KEYS_REQUESTS e)).setB (.ENC_ST_STATE_KEY_PENDING e) true
  if (s.encTrick e).isSome then s.updEnc e fun x => { x with lateReq := true } else s

/-- R204, R209: a picture loss indication or full intra request received for a stream that runs. -/
def State.rtcpFeedback (s : State) (e : Nat) : State :=
  let s := s.deckTake (s.get (.ENC_ST_DEST_NET_PORT e)) (s.get (.ENC_ST_DEST_UDP_PORT e) + 1)
  if s.encRuns e then s.keyRequest e else s

/-! ### Selection (R51, R114, R206) -/

/-- The source of a stream. -/
def State.encSrc (s : State) (e : Nat) : BitVec 16 := BitVec.ofNat 16 (s.get (.ENC_ST_CFG_SRC_ID e))

/-- R206: the newest buffer of the stream's source eligible for the tick. -/
def State.encSelect (s : State) (e : Nat) : Option Nat := (newestBuf (s.candidates (s.encSrc e))).bind (·.desc)

/-- R205: does the stream code at the current tick? -/
def State.codesNow (s : State) (e : Nat) : Bool :=
  s.encRuns e && (s.tick - (s.enc e).start).toNat % (s.get (.ENC_ST_CFG_DIV e) + 1) == 0

/-- R206, R209, R114: an encode trick starts on core `k`: the buffer selected and leased, and whether the picture is to
be a key picture. Answers the buffer. -/
def State.encIssue (s : State) (e k : Nat) : State × Option Nat :=
  let s := s.updEnc e fun x => { x with keyNow := s.on (.ENC_ST_STATE_KEY_PENDING e), lateReq := false }
  match s.encSelect e with
  | some d => (s.hold d (holdEnc k), some d)
  | none => (s, none)

/-- Why a tick codes no picture (R206). -/
inductive NotCoded where
  | noSource | route | stale
  deriving DecidableEq, Repr

/-- R206: the first reason that holds for buffer `d`, if any. -/
def State.encReason (s : State) (e : Nat) (d : Option Nat) : Option NotCoded :=
  match d with
  | none => some .noSource
  | some d =>
    let x := s.desc d
    let old := match (s.enc e).lastSeq with
      | some q => !seqNewer x.hdr.seq q
      | none => false
    if old then some .noSource
    else if x.hdr.srcId ≠ s.encSrc e then some .route
    else if x.hdr.capExt = false ∨ agePasses (s.ageOf (x.toRec d)) (s.get (.ENC_ST_KEY_AGE e) * 1000000) = false then
      some .stale
    else none

/-- R206, R207: a tick without a picture puts 0 bits into the window. -/
def State.encSkip (s : State) (e : Nat) (r : NotCoded) : State :=
  let s := match r with
    | .noSource => s.count (.ENC_ST_SKIP_NO_SOURCE e)
    | .route => s.count (.ENC_ST_SKIP_ROUTE e)
    | .stale => s.count (.ENC_ST_SKIP_STALE e)
  (s.setB .ENC_INT_STATUS_NOT_CODED true).updEnc e fun x => { x with window := (0 :: x.window).take 256 }

/-! ### Conversion (R203, R206) -/

/-- R206: a stored sample (10-bit scale) as 8 bits. -/
def narrow8 (deep : Bool) (v : Nat) : Nat := if deep then min ((v + 2) / 4) 255 else v / 4

/-- A positive fraction rounded to nearest; on a tie the spec does not say which way. -/
def roundNear (num den : Nat) : Nat :=
  if 2 * (num % den) = den then num / den + b2n (Config.tieUp num) else (2 * num + den) / (2 * den)

/-- R206: an 8-bit RGB pixel as limited-range Y'CbCr with the BT.709 matrix. -/
def rgbTo709 (p : Px) : Px :=
  let y : Nat := 2126 * p.a + 7152 * p.b + 722 * p.c
  let chroma := fun (v k : Nat) =>
    roundNear ((128 * 255 * k : Int) + 224 * ((10000 * v : Int) - y)).toNat (255 * k)
  ⟨roundNear (16 * 2550000 + 219 * y) 2550000, chroma p.c 18556, chroma p.a 15748⟩

/-- R203, R206: pixel (x, y) of a stored picture of a SEQ as the encoder takes it: 8-bit 4:2:0 with its chroma at even columns and
lines. Of an RGB source the luma is each pixel's; how the chroma of its pixels becomes 4:2:0 is not stated: a free value (log 111). -/
def State.encPx (s : State) (addr fmt w h seq x y : Nat) : Px :=
  let (p0, p1) := planes addr fmt w h h
  let deep := fmtDeep fmt
  let even := decide (x % 2 = 0 ∧ y % 2 = 0)
  if 5 ≤ fmt then
    let p := s.fetchPx addr fmt w h x y
    let q := rgbTo709 ⟨narrow8 deep p.a, narrow8 deep p.b, narrow8 deep p.c⟩
    let c := fun v => if even then (Config.rgbChroma seq x y v).toNat else 0
    ⟨q.a, c q.b, c q.c⟩
  else
    let c := fun comp =>
      let at_ := fun k => narrow8 deep (s.chromaRaw p1 fmt comp (x / 2) k)
      if fmt ≤ 2 then at_ (y / 2) else (at_ (y / 2 * 2) + at_ (min (y / 2 * 2 + 1) (h - 1)) + 1) / 2
    ⟨narrow8 deep (s.luma p0 fmt x y), if even then c 0 else 0, if even then c 1 else 0⟩

/-- R203: the picture padded to multiples of 8 by repeating edge samples. -/
def State.encFrame (s : State) (d : Nat) : Frame :=
  let h := (s.desc d).hdr
  let pad := fun n => ceilDiv n 8 * 8
  (List.range (pad h.height)).map fun y => (List.range (pad h.width)).map fun x =>
    s.encPx (s.bufAddr d) h.format h.width h.height h.seq.toNat (min x (h.width - 1)) (min y (h.height - 1))

/-! ### Rate control (R207, R208) -/

/-- Largest `n` below 2^k·(start) found bit by bit with `p n` true (p downward closed). -/
def largest (p : Nat → Bool) : Nat → Nat → Nat
  | 0, n => n
  | k + 1, n => largest p k (if p (n + 2 ^ k) then n + 2 ^ k else n)

/-- R207: T[d] = round(256 × 2^(d ÷ 6)): the largest n with n − 1/2 at most the exact value. -/
def qpScale (d : Nat) : Nat := largest (fun n => decide ((2 * n - 1) ^ 6 ≤ 2 ^ (54 + d))) 18 0

/-- R205: the picture rate of a stream, per second. -/
def State.encRate (s : State) (e : Nat) : Rat := (1000000000 : Rat) / (s.pTick * (s.get (.ENC_ST_CFG_DIV e) + 1 : Nat))

/-- R207: the cap in bits per second. -/
def State.encCap (s : State) (e : Nat) : Nat := s.get (.ENC_ST_RC_CAP e) * 1000

/-- R207: W, the bits of the last N = ceil(F) − 1 pictures. -/
def State.encWin (s : State) (e : Nat) : Nat := (((s.enc e).window).take ((s.encRate e).ceil.toNat - 1)).sum

/-- R207: B_max. -/
def State.encBMax (s : State) (e : Nat) : Nat := ((5 * s.encCap e : Nat) / (2 * s.encRate e)).floor.toNat

/-- R207: the budget B. -/
def State.encBudget (s : State) (e : Nat) : Nat := min (s.encBMax e) (s.encCap e - s.encWin e)

/-- The progress of R208 through the rows: the qp of the next row, bits spent and planned, exhausted, and the rows coded
so far as (bits, qp). -/
structure Coding where
  qp : Nat
  spent : Nat
  plan : Nat
  exhausted : Bool
  rows : List (Nat × Nat)
  deriving DecidableEq, Repr

/-- R208: code one row of planned size `bj`, whose cost at each quantiser is `cost`. -/
def codeRow (qpT qpMax b : Nat) (x : Coding) (bj : Nat) (cost : List Nat) : Coding :=
  let q := if x.exhausted then qpMax else x.qp
  let bits := cost.getD q 0
  let spent := x.spent + bits
  let plan := x.plan + bj
  let rows := x.rows ++ [(bits, q)]
  if x.exhausted ∨ b ≤ spent then { x with spent := spent, plan := plan, exhausted := true, rows := rows }
  else if plan < spent then { x with qp := min (x.qp + 2) qpMax, spent := spent, plan := plan, rows := rows }
  else if 10 * spent ≤ 9 * plan ∧ qpT < x.qp then { x with qp := x.qp - 1, spent := spent, plan := plan, rows := rows }
  else { x with spent := spent, plan := plan, rows := rows }

/-- R208: code the rows of a picture. -/
def codeRows (qpT qpMax b : Nat) (bjs : List Nat) (costs : List (List Nat)) (start : Coding) : Coding :=
  (bjs.zip costs).foldl (fun x y => codeRow qpT qpMax b x y.1 y.2) start

/-- R207, R208: the row plans b_j from the rows of the previous picture of the type. The shares of a previous picture of
no bits at all are not stated. -/
def State.rowPlan (s : State) (prev : List (Nat × Nat)) (qpT b m : Nat) : List Nat × State :=
  let c := (List.range m).map fun j => match prev[j]? with
    | some (bits, q) => if prev.isEmpty then 1 else bits * qpScale (q - qpT)
    | none => if prev.isEmpty then 1 else 0
  if c.sum = 0 then
    (List.range m).foldl (fun (a : List Nat × State) _ =>
      let (v, s) := a.2.fresh
      (a.1 ++ [v.toNat], s)) ([], s)
  else (c.map fun cj => b * cj / c.sum, s)

/-! ### Output (R203, R204, R246) -/

/-- R204: the RTP timestamp of extended time `t`. -/
def State.encTs (s : State) (e : Nat) (t : Time64) : Word :=
  BitVec.ofNat 32 (t.toNat * 9 / 100000) + s.word (Reg.ENC_ST_TSOFF e)

/-- Split a list into pieces of `n`. -/
def pieces {α : Type} (n : Nat) : Nat → List α → List (List α)
  | 0, _ => []
  | k + 1, xs => if xs.isEmpty then [] else xs.take n :: pieces n k (xs.drop n)

/-- R203, RFC 7798: a NAL unit as a single NAL unit packet, or as fragmentation units of at most `mtu` bytes. -/
def nalPackets (mtu : Nat) (nal : List Byte) : List (List Byte) :=
  if nal.length ≤ mtu then [nal]
  else
    let h0 := nal.getD 0 0
    let parts := pieces (mtu - 3) nal.length (nal.drop 2)
    parts.mapIdx fun i bs =>
      let se : Byte := (if i = 0 then 0x80#8 else 0) ||| (if i + 1 = parts.length then 0x40#8 else 0)
      ((h0 &&& 0x81#8) ||| 98#8) :: nal.getD 1 0 :: (se ||| ((h0 >>> 1) &&& 0x3F#8)) :: bs

/-- The fixed header of an RTP packet (RFC 3550) before its payload. -/
def rtpBytes (marker : Bool) (pt : BitVec 7) (seq : BitVec 16) (ts ssrc : Word) (payload : List Byte) : List Byte :=
  0x80#8 :: ((if marker then 0x80#8 else 0) ||| pt.setWidth 8) ::
    (beBytes 2 seq.toNat ++ beBytes 4 ts.toNat ++ beBytes 4 ssrc.toNat ++ payload)

/-- R203: the level_idc of the lowest level, up to 5.1, that fits a picture of `w` × `h` luma samples, neither above the square root of 8
times the level's samples, and a cap of `kbit` per second (PRESUMED from the coding standard, log 72). -/
def encLevel (w h kbit : Nat) : Nat :=
  let rates := [(30, 36864, 128), (60, 122880, 1500), (63, 245760, 3000), (90, 552960, 6000), (93, 983040, 10000), (120, 2228224, 12000),
    (123, 2228224, 20000), (150, 8912896, 25000), (153, 8912896, 40000)]
  ((rates.find? fun x => decide (w * h ≤ x.2.1 ∧ w * w ≤ 8 * x.2.1 ∧ h * h ≤ 8 * x.2.1 ∧ kbit ≤ x.2.2)).map (·.1)).getD 153

/-- A NAL unit of type `t` (RFC 7798): its two header bytes, then its contents. -/
def nalUnit (t : Nat) (bs : List Byte) : List Byte := BitVec.ofNat 8 (2 * t) :: 1#8 :: bs

/-- R203: the NAL units of a picture: before a key picture its video, sequence and picture parameter sets; then one slice segment
per CTB row, of an IDR picture of type `idr` or a P-picture. -/
def encNals (key : Bool) (idr m : Nat) (r : EncodeIn) : List (List Byte) :=
  (if key then (List.range 3).map fun i => nalUnit (32 + i) (r.params.getD i []) else [])
    ++ (List.range m).map fun j => nalUnit (if key then idr else 1) (r.slices.getD j [])

/-- R246: an RTP packet as STREAM packets of the flow that carries the stream to its node. -/
def State.streamOut (s : State) (e : Nat) (bytes : List Byte) : State :=
  let node := s.get (.ENC_ST_DEST_NODE e)
  match s.image.flows.find? fun f => f.dest == node && f.bmax != 0 && f.src == s.encSrc e && !s.flowMuted f.id with
  | none => s
  | some f =>
    let parts := pieces 256 bytes.length bytes
    s.each (parts.mapIdx fun i bs => formPacket 6 f.id f.dest s.nodeId (b2n (i + 1 == parts.length)) bs) fun s k =>
      s.each (s.trumpPorts false 0 f.dest) fun s p => s.toPort p k none

/-- R204, RFC 3550: a sender report without report blocks. -/
def srBytes (ssrc : Word) (ntp : BitVec 64) (rtp : Word) (pkts octets : Nat) : List Byte :=
  [0x80#8, 200#8, 0#8, 6#8] ++ beBytes 4 ssrc.toNat ++ beBytes 8 ntp.toNat ++ beBytes 4 rtp.toNat ++ beBytes 4 pkts ++ beBytes 4 octets

/-- R188, R204: time-unit value `t` as an NTP timestamp, counted from 1900 in units of 2^-32 s, by the PTP offset and the UTC offset
as they stand (log 73). -/
def State.ntpOf (s : State) (t : Time64) : BitVec 64 × State :=
  let utc : Int := (2208988800 - (BitVec.ofNat 16 (s.get .TIM_UTC_UTC_OFFSET)).toInt) * 1000000000
  let ns : Int := (t.toNat : Int) + s.time.off.toInt + utc
  let (v, s) := s.roundFree ((ns : Rat) * 4294967296 / 1000000000)
  (BitVec.ofInt 64 v, s)

/-- R203: send one RTP packet of stream `e`. -/
def State.encSend (s : State) (e : Nat) (ts : Word) (last : Bool) (payload : List Byte) : State :=
  let x := s.enc e
  let bytes := rtpBytes last x.pt x.rtpSeq ts (s.word (Reg.ENC_ST_SSRC e)) payload
  let s := s.updEnc e fun x => { x with rtpSeq := x.rtpSeq + 1, pkts := x.pkts + 1, octets := x.octets + payload.length }
  if s.on (.ENC_ST_DEST_FABRIC e) then s.streamOut e bytes
  else s.deckSend (s.get (.ENC_ST_DEST_NET_PORT e)) (.rtp x.mac (s.word (Reg.ENC_ST_DSTIP e)) (s.get (.ENC_ST_DEST_UDP_PORT e)) bytes)

/-! ### A picture (R206 to R209) -/

/-- R207 to R209, R211: what coding a picture of type key or P leaves in registers and state. -/
def State.encRecord (s : State) (e k : Nat) (key : Bool) (seq : BitVec 32) (w b : Nat) (x : Coding) : State :=
  let s := s.set (.ENC_ST_BITS_VALUE e) x.spent
  let s := (s.set (.ENC_ST_BUDGET_VALUE e) b).set (.ENC_ST_WIN_VALUE e) w
  let s := if b < x.spent then
      ((s.count (.ENC_ST_OVER_COUNT e)).count (.ENC_ST_OVERBITS_BITS e) (x.spent - b)).setB .ENC_INT_STATUS_OVERSHOOT true
    else s
  let s := s.set (.ENC_ST_STATE_LAST_QP e) ((x.rows.getLast?.map (·.2)).getD 0)
  let s := (s.next (.ENC_ST_STATE_PICS e)).count (.ENC_CORE_PICS k)
  let s := if key then (s.count (.ENC_ST_KEYS_SENT e)).setB .ENC_INT_STATUS_KEY true else s
  let s := s.updEnc e fun y => { y with
    lastSeq := some seq
    window := (x.spent :: y.window).take 256
    keyRows := if key then x.rows else y.keyRows
    pRows := if key then y.pRows else x.rows
    sinceKey := if key then 0 else y.sinceKey + 1 }
  let s := if key then s.setB (.ENC_ST_STATE_KEY_PENDING e) (s.enc e).lateReq else s
  let n := s.get (.ENC_ST_KEY_KEY_INT e)
  if n ≠ 0 ∧ (s.enc e).sinceKey = n then
    ((s.count (.ENC_ST_KEYS_REQUESTS e)).setB (.ENC_ST_STATE_KEY_PENDING e) true) else s

/-- R203, R207, R208: code the picture in descriptor `d`. Which of the two IDR NAL unit types a key picture has is not stated. -/
def State.encCode (s : State) (e k d : Nat) (r : EncodeIn) : State :=
  let x := s.enc e
  let h := (s.desc d).hdr
  let key := x.keyNow
  let qpT := s.get (.ENC_ST_RC_QP_T e)
  let qpMax := s.get (.ENC_ST_RC_QP_MAX e)
  let prev := if key then x.keyRows else x.pRows
  let w := s.encWin e
  let b := s.encBudget e
  let m := ceilDiv h.height 64
  let (bj, s) := s.rowPlan prev qpT b m
  let q0 : Nat := match prev.getLast? with
    | some (_, q) => min (max (q - 2) qpT) qpMax
    | none => qpT
  let c := codeRows qpT qpMax b bj r.rows ⟨q0, 0, 0, false, []⟩
  let ts := s.encTs e h.capTime
  let pad := fun n => ceilDiv n 8 * 8
  let colour := if 5 ≤ h.format then 1 else (s.srcDesc (s.encSrc e)).colour
  let level := encLevel (pad h.width) (pad h.height) (s.get (.ENC_ST_RC_CAP e))
  let s := s.emit (.encoded e key level colour (pad h.width - h.width, pad h.height - h.height) (c.rows.map (·.2)) c.spent ts (s.encFrame d))
  let (v, s) := if key then s.fresh else (0, s)
  let pk := (encNals key (19 + v.toNat % 2) m r).flatMap (nalPackets (8 * s.get (.ENC_ST_DEST_MTU e)))
  let s := s.each (pk.mapIdx fun i p => (i + 1 == pk.length, p)) fun s (last, p) => s.encSend e ts last p
  s.encRecord e k key h.seq w b c

/-- R114: an encode trick of core `k` stops reading its buffer: the core's bit clears unless another issued trick of the core reads
the same buffer. -/
def State.encRelease (s : State) (e k : Nat) (buf : Option Nat) : State :=
  match buf with
  | none => s
  | some d =>
    let other := s.dealer.tricks.any fun r =>
      r.trick.cls == .encode && r.trick.index == k && r.trick.job != e && !r.done && r.buf == some d
    if other then s else s.unhold d (holdEnc k)

/-- R114: the encode trick of stream `e` ends, and its lease with it. -/
def State.encTrickEnd (s : State) (e : Nat) (r : RunTrick) : State :=
  let s := s.encRelease e r.trick.index r.buf
  s.updDealer fun d => { d with tricks := d.tricks.map fun r =>
    if r.trick.cls == .encode && r.trick.job == e then { r with done := true, buf := none } else r }

/-- R30, R272: an encode core meets a failure: the picture is not sent, and the next is a key picture. -/
def State.encReadFail (s : State) (e : Nat) : State :=
  match s.encTrick e with
  | none => s
  | some r =>
    ((s.encTrickEnd e r).updEnc e fun x => { x with window := (0 :: x.window).take 256 }).keyRequest e

/-- R206 to R209, R271, R272: the encode trick of stream `e` does its work; a block of its picture that fails ends it. -/
def State.encodePicture (s : State) (e : Nat) (r : EncodeIn) : State :=
  match s.encTrick e with
  | none => s
  | some tr =>
    let bad := match tr.buf with
      | some d => s.badBlocks (s.bufAddr d + 256) (planeBytes (s.desc d).hdr.format (s.desc d).hdr.width (s.desc d).hdr.height)
      | none => []
    let n := match tr.buf with
      | some d => ceilDiv (planeBytes (s.desc d).hdr.format (s.desc d).hdr.width (s.desc d).hdr.height) 256
      | none => 0
    let s := if (s.encReason e tr.buf).isNone then s.chargeBlocks (24 + tr.trick.index) n else s
    if (s.encReason e tr.buf).isNone && !bad.isEmpty then (s.persistAll (24 + tr.trick.index) bad).encReadFail e
    else
    let s := match s.encReason e tr.buf, tr.buf with
      | some why, _ => s.encSkip e why
      | none, some d => s.encCode e tr.trick.index d r
      | none, none => s
    s.encTrickEnd e tr

/-- R30, R209: the effects of an abandoned encode trick beyond R31: it counts, 0 bits enter the window, its lease ends,
and the next picture is to be a key picture. -/
def State.encAbandoned (s : State) (e k : Nat) (buf : Option Nat) : State :=
  let s := s.encRelease e k buf
  let s := ((s.count (.ENC_ST_SKIP_OVERRUN e)).count (.ENC_CORE_OVERRUN k)).setB .ENC_INT_STATUS_OVERRUN true
  let s := s.updEnc e fun x => { x with window := (0 :: x.window).take 256 }
  (s.count (.ENC_ST_KEYS_REQUESTS e)).setB (.ENC_ST_STATE_KEY_PENDING e) true

/-- R204: a sender report of a stream that runs, at `t`. -/
def State.encReport (s : State) (e : Nat) (t : Word) : State :=
  let s := s.at_ t
  if s.encRuns e then
    let (ntp, s) := s.ntpOf s.extNow
    let bytes := srBytes (s.word (Reg.ENC_ST_SSRC e)) ntp (s.encTs e s.extNow) (s.enc e).pkts (s.enc e).octets
    if s.on (.ENC_ST_DEST_FABRIC e) then s.streamOut e bytes
    else s.deckSend (s.get (.ENC_ST_DEST_NET_PORT e)) (.rtp (s.enc e).mac (s.word (Reg.ENC_ST_DSTIP e)) (s.get (.ENC_ST_DEST_UDP_PORT e) + 1) bytes)
  else s

/-! ### Commands and changes (R205, R209, R211) -/

/-- Answer an ENC_CMD. -/
def State.encAnswer (s : State) (code reason : Nat) : State :=
  (((s.set .ENC_CMD_STATUS_CODE code).set .ENC_CMD_STATUS_REASON reason).setB .ENC_CMD_STATUS_BUSY false).setB
    .ENC_INT_STATUS_CMD_DONE true

/-- R205, R209: a stream starts with the current tick, with a key request. Its first sequence number, payload type and the next-hop MAC
of its template (R291) stand in no register: free values. -/
def State.encBegin (s : State) (e : Nat) : State :=
  if s.encRuns e then s
  else
    let (v, s) := s.fresh
    let (m, s) := s.fresh
    let s := s.updDealer fun d => { d with encOn := ascInsert e d.encOn }
    let s := s.updEnc e fun _ => { EncSt.init with start := s.tick, rtpSeq := v.setWidth 16, pt := (v >>> 16).setWidth 7, mac := m.setWidth 48 }
    let s := s.setB (.ENC_ST_STATE_RUNNING e) true
    let s := s.set (.ENC_ST_STATE_CORE e) ((Tab.find s.dealer.place (encKey e)).getD 0)
    s.keyRequest e

/-- R205: a stream stops; a trick it still runs ends with it. -/
def State.encEnd (s : State) (e : Nat) : State :=
  let s := (s.updDealer fun d => { d with encOn := d.encOn.filter (· != e) }).setB (.ENC_ST_STATE_RUNNING e) false
  match s.encTrick e with
  | some r => s.encTrickEnd e r
  | none => s

/-- ENC_STATUS.RUNNING. -/
def State.encRunning (s : State) : Nat := ((List.range 32).filter s.encRuns).length

end Sys2Proof.Machine
end

