-- ==== Sys2Proof/Machine/Memory.lean ====
section
/-!
DEFINITION. The external memory controller (R256 to R279): address mapping, check words, queues, drains, refresh, row
tables, check-word failures and what their readers do, alert replay, training and frequency changes.
-/

namespace Sys2Proof.Machine

open Sys2Proof

/-! ### Geometry and mapping (R256, R259) -/

/-- Ranks fitted. -/
def State.memRanks (s : State) : Nat := 2 ^ (orgBits (s.get .MEM_CFG_ORG)).2.2

/-- R259: rank, bank and row of a local block under an order (0 RBC, 1 BRC, else XOR). -/
def localMap (map nb nr b : Nat) : Nat × Nat × Nat :=
  let q := b / 16
  let rank := q / 2 ^ (nb + nr)
  match map with
  | 1 => (rank, q / 2 ^ nr % 2 ^ nb, q % 2 ^ nr)
  | 0 => (rank, q % 2 ^ nb, q / 2 ^ nb % 2 ^ nr)
  | _ =>
    let bank := q % 2 ^ nb
    let row := q / 2 ^ nb % 2 ^ nr
    (rank, bank ^^^ (row % 2 ^ nb) ^^^ (row / 2 ^ nb % 2 ^ nb), row)

/-- Rank, bank and row of a local block of this memory. -/
def State.place (s : State) (b : Nat) : Nat × Nat × Nat :=
  let (nb, nr, _) := orgBits (s.get .MEM_CFG_ORG)
  localMap (s.get .MEM_CFG_MAP) nb nr b

/-- R259: the 256-byte column block of a local block in its row. -/
def blockCol (b : Nat) : Nat := b % 16

/-- R259: bank group of a bank, and the bank within it, with `nb` bank bits. -/
def bankGroup (nb bank : Nat) : Nat × Nat := (bank % (2 ^ nb / 4), bank / (2 ^ nb / 4))

/-- R260: where the check word of local block `b` stands: local block and byte offset. -/
def State.checkPlace (s : State) (b : Nat) : Nat × Nat := (s.memV + b / 64, 4 * (b % 64))

/-! ### Check words (R260) -/

/-- R260: the check word of the block at system address `a`. -/
def checkWord (a : Nat) (data : List Byte) : Word := crc32c (leBytes 8 a ++ data)

/-- The 256 bytes of a block. -/
def State.blockData (s : State) (a : Nat) : List Byte := readBytes Config.dramFill s.dram (a / 256 * 256) 256

/-- Bytes as one disturbed read delivers them. -/
def flipBytes (e : BlockErr) (data : List Byte) : List Byte :=
  e.flips.foldl (fun bs (k, m) => bs.modify k (· ^^^ m)) data

/-- R260, R271: does a read disturbed by `e` check good? `diff` is how the stored check word differs from the right one. -/
def checksGood (a : Nat) (data : List Byte) (diff : Word) (e : BlockErr) : Bool :=
  if e.flips.isEmpty then diff ^^^ e.chk == 0
  else checkWord a (flipBytes e data) == checkWord a data ^^^ diff ^^^ e.chk

/-- The difference between a block's stored and right check word. -/
def State.chkDiff (s : State) (a : Nat) : Word := Tab.get 0 s.mem.chk ((a - dramBase) / 256)

/-- Set that difference. -/
def State.setChk (s : State) (a : Nat) (w : Word) : State :=
  s.updMem fun m => { m with chk := Tab.put 0 m.chk ((a - dramBase) / 256) w }

/-! ### Sub-channels -/

/-- A sub-channel. -/
def State.sub (s : State) (u : Nat) : SubSt := Tab.get .init s.mem.subs u

/-- Change a sub-channel and show its queues: a drain by watermark goes on from WQ_HIGH entries to WQ_LOW (R264). -/
def State.updSub (s : State) (u : Nat) (f : SubSt → SubSt) : State :=
  let s := s.updMem fun m => { m with subs := Tab.upd .init m.subs u f }
  let n := (s.sub u).wq.length
  let s := (s.set (.MEM_SC_STATUS_RQ u) (min 64 (s.sub u).rq.length)).set (.MEM_SC_STATUS_WQ u) n
  if n ≤ s.get .MEM_WQ_WQ_LOW then s.setB (.MEM_SC_STATUS_DRAINING u) false
  else if s.get .MEM_WQ_WQ_HIGH ≤ n then s.setB (.MEM_SC_STATUS_DRAINING u) true
  else s

/-- A rank of a sub-channel. -/
def SubSt.rank (x : SubSt) (r : Nat) : RankSt := Tab.get .init x.ranks r
/-- Change a rank. -/
def SubSt.updRank (x : SubSt) (r : Nat) (f : RankSt → RankSt) : SubSt := { x with ranks := Tab.upd .init x.ranks r f }

/-- Key of a bank. -/
def bankKey (rank bank : Nat) : Nat := rank * 32 + bank

/-- R274: keep the last 32 commands. -/
def SubSt.log (x : SubSt) (c : MemCmd) : SubSt := { x with cmds := (x.cmds ++ [c]).drop (x.cmds.length + 1 - 32) }

/-- Sub-channel states of MEM_SC_STATUS. -/
def scTraining : Nat := 1
def scReady : Nat := 2
def scReplay : Nat := 3
def scFailed : Nat := 4

/-- The state of a sub-channel. -/
def State.scState (s : State) (u : Nat) : Nat := s.get (.MEM_SC_STATUS_STATE u)

/-- MEM_STATUS.STATE codes. -/
def memReset : Nat := 0
def memTraining : Nat := 1
def memInit : Nat := 2
def memReady : Nat := 3

/-! ### Row tables (R269, R270) -/

/-- The entry of lowest count, lowest index on ties. -/
def lowestEntry : List (Nat × Nat) → Nat
  | [] => 0
  | e :: es => (es.foldl (fun (b : Nat × Nat × Nat) x =>
      if x.2 < b.2.1 then (b.2.2, x.2, b.2.2 + 1) else (b.1, b.2.1, b.2.2 + 1)) (0, e.2, 1)).1

/-- R269: enter an activate of `row` into a bank's table: the table, the count reached, and whether an entry was evicted. -/
def rowEnter (t : List (Nat × Nat)) (row : Nat) : List (Nat × Nat) × Nat × Bool :=
  match t.findIdx? (·.1 == row) with
  | some i =>
    let n := (t.getD i (0, 0)).2 + 1
    (t.set i (row, n), n, false)
  | none =>
    if t.length < 32 then (t ++ [(row, 1)], 1, false)
    else
      let i := lowestEntry t
      let n := (t.getD i (0, 0)).2 + 1
      (t.set i (row, n), n, true)

/-- R269: row `row` of a bank is activated. -/
def State.activate (s : State) (u rank bank row : Nat) : State :=
  let key := bankKey rank bank
  let (t, n, evicted) := rowEnter (Tab.get [] (s.sub u).table key) row
  let hit := decide (s.get .MEM_RDT_THRESHOLD ≤ n)
  let t := if hit then t.map (fun e => if e.1 = row then (row, 0) else e) else t
  let s := s.updSub u fun x => ({ x with
    table := Tab.put [] x.table key t, rows := Tab.put 0 x.rows key (row + 1)
    targets := if hit then x.targets ++ [(rank, bank, row)] else x.targets }).log (.act rank bank row)
  if evicted then s.count (.MEM_SC_RDT_EVICTIONS u) else s

/-- Is the row of a local block open? -/
def State.rowOpen (s : State) (u b : Nat) : Bool :=
  let (rank, bank, row) := s.place b
  Tab.get 0 (s.sub u).rows (bankKey rank bank) == row + 1

/-- Open the row of a local block, with an activate where it is closed. -/
def State.openRow (s : State) (u b : Nat) : State :=
  let (rank, bank, row) := s.place b
  if s.rowOpen u b then s
  else
    let busy := Tab.get 0 (s.sub u).rows (bankKey rank bank) != 0
    let s := if busy then s.updSub u fun x => x.log (.precharge rank (some bank)) else s
    s.activate u rank bank row

/-- R268, R269: a refresh of a rank is issued: its rows close, and after 8,192 the row tables of the rank are cleared. -/
def State.doRefresh (s : State) (u r : Nat) : State :=
  let n := ((s.sub u).rank r).refreshes + 1
  s.updSub u fun x =>
    let x := if x.rows.any fun e => e.1 / 32 == r then x.log (.precharge r none) else x
    let x := { x with
      rows := x.rows.filter fun e => e.1 / 32 != r
      table := if n = 8192 then x.table.filter (fun e => e.1 / 32 != r) else x.table }
    (x.updRank r fun k => { k with refreshes := n % 8192 }).log (.refresh r)

/-- Show POSTPONED: the largest number a rank has postponed. -/
def State.showDebt (s : State) (u : Nat) : State :=
  s.set (.MEM_SC_STATUS_POSTPONED u) (min 4 (max 0 (max ((s.sub u).rank 0).debt ((s.sub u).rank 1).debt)).toNat)

/-- Set how many intervals a rank has postponed (negative: pulled in), and show it. -/
def State.setDebt (s : State) (u r : Nat) (d : Int) : State :=
  (s.updSub u fun x => x.updRank r fun k => { k with debt := d }).showDebt u

/-- R268: refreshes of a rank that stand at the postponement limit are issued: before any further read or write of it. -/
def State.limitRefresh (s : State) (u r : Nat) : State :=
  if 4 ≤ ((s.sub u).rank r).debt then (s.doRefresh u r).setDebt u r 3 else s

/-- System address of local block `b` of sub-channel `u` (R259). -/
def State.blockAddr (s : State) (u b : Nat) : Nat := dramBase + 256 * (b * s.memSubs + u)

/-- R260: the 256 bytes that stand at a local block: data of a visible one, the check words of 64 of them above. -/
def State.localData (s : State) (u b : Nat) : List Byte :=
  if b < s.memV then s.blockData (s.blockAddr u b)
  else (List.range 64).flatMap fun j =>
    let a := s.blockAddr u (64 * (b - s.memV) + j)
    leBytes 4 (checkWord a (s.blockData a) ^^^ s.chkDiff a).toNat

/-- R268, R269, R274: a column access of a local block, read or write, its row opened first. -/
def State.column (s : State) (u b : Nat) (write : Bool) : State :=
  let (rank, bank, _) := s.place b
  let (group, bank) := bankGroup (orgBits (s.get .MEM_CFG_ORG)).1 bank
  let data := if write then s.localData u b else []
  ((s.limitRefresh u rank).openRow u b).updSub u fun x =>
    x.log (if write then .write rank group bank (blockCol b) data else .read rank group bank (blockCol b))

/-- R266: the full check-word cache gives up an entry, written back if it was changed. Which one, the spec leaves open: a free
value (log 79). -/
def State.evict (s : State) (u port : Nat) : State :=
  let (v, s) := s.fresh
  let i := v.toNat % 64
  match (s.sub u).cache[i]? with
  | none => s
  | some (k, dirty) =>
    let s := s.updSub u fun x => { x with cache := x.cache.eraseIdx i }
    if dirty then (s.column u k true).charge_ (chkAccount port) 256 else s

/-- R266: the check word of local block `b` is read or, on a write, changed in the cache of 64 check blocks; a miss reads the check
block, which the port's account is charged. -/
def State.chkAccess (s : State) (u b port : Nat) (write : Bool) : State :=
  let k := (s.checkPlace b).1
  if (s.sub u).cache.any fun e => e.1 == k then
    s.updSub u fun x => { x with cache := x.cache.map fun e => if e.1 = k then (k, e.2 || write) else e }
  else
    let s := if (s.sub u).cache.length < 64 then s else s.evict u port
    let s := (s.column u k false).charge_ (chkAccount port) 256
    s.updSub u fun x => { x with cache := x.cache ++ [(k, write)] }

/-- R271: `n` re-reads of a block and its check word, past the check-word cache. -/
def State.reread (s : State) (u b port : Nat) : Nat → State
  | 0 => s
  | n + 1 => State.reread (((s.column u b false).column u (s.checkPlace b).1 false).charge_ (chkAccount port) 256) u b port n

/-- R270: the rows that a targeted refresh of a row of a bank activates and precharges. -/
def State.nearRows (s : State) (row : Nat) : List Nat :=
  let limit := 2 ^ (orgBits (s.get .MEM_CFG_ORG)).2.1
  let near : List Int := [-2, -1, 1, 2]
  ((near.map fun (d : Int) => (row : Int) + d).filter fun r => decide (0 ≤ r ∧ r < (limit : Int))).map Int.toNat

/-- R270: the first targeted refresh scheduled on a sub-channel is issued, after a refresh of its rank at the postponement limit. -/
def State.nextTarget (s : State) (u : Nat) : State :=
  match (s.sub u).targets with
  | [] => s
  | (rank, bank, row) :: rest =>
    let s := s.limitRefresh u rank
    let s := s.updSub u fun x =>
      let x := if Tab.get 0 x.rows (bankKey rank bank) = 0 then x else x.log (.precharge rank (some bank))
      let x := { x with targets := rest, rows := Tab.put 0 x.rows (bankKey rank bank) 0 }
      (s.nearRows row).foldl (fun x r => (x.log (.near rank bank r)).log (.precharge rank (some bank))) x
    ((s.count (.MEM_SC_RDT_TARGETED u)).setB .MEM_INT_STATUS_TARGETED true).emit (.targeted u rank bank (s.nearRows row))

/-- R270: the targeted refreshes scheduled are issued, ahead of a SPARE request. -/
def State.issueTargets (s : State) (u : Nat) : Nat → State
  | 0 => s
  | n + 1 => State.issueTargets (s.nextTarget u) u n

/-- R270, R274, R275: TARGETED_REFRESH: a sub-channel that issues commands issues the first targeted refresh scheduled. -/
def State.targetedRefresh (s : State) (u : Nat) : State := if s.scState u = scReady then s.nextTarget u else s

/-! ### Refresh and temperature (R267, R268) -/

/-- R266: the class of a request: 0 URGENT, 1 RESERVED, 2 SPARE. -/
def State.reqClass (s : State) (q : MemReq) : Nat :=
  if Tab.get 0 s.mem.tokens q.port = 0 then 2
  else if q.urgent ∧ (q.port < 16 ∨ (26 ≤ q.port ∧ q.port ≤ 41)) then 0 else 1

/-- R268: a refresh of rank `r` falls due; `claims`: a read of class URGENT or RESERVED is queued, so that it may be put off. One pulled
in before makes up for it. A sub-channel in REPLAY issues nothing (R274): it is put off. -/
def State.refreshDue (s : State) (u r : Nat) (claims : Bool) : State :=
  let d := ((s.sub u).rank r).debt
  if d < 0 ∨ s.scState u = scReplay ∨ claims = true ∧ d < 4 then s.setDebt u r (d + 1) else s.doRefresh u r

/-- R266: is a read of class URGENT or RESERVED queued? -/
def State.claims (s : State) (u : Nat) : Bool := (s.sub u).rq.any fun q => decide (s.reqClass q.req < 2)

/-- R268: a refresh of rank `r` falls due and is issued, or is put off for queued reads (among them one of a port, which is of class
RESERVED or URGENT while the port holds tokens), or one is issued ahead of its interval or after it. -/
def State.refresh (s : State) (u r : Nat) (a : RefreshAct) : State :=
  if s.memRanks ≤ r ∨ s.scState u = 0 ∨ s.scState u = scTraining then s
  else
    let d := ((s.sub u).rank r).debt
    match a with
    | .issue => s.refreshDue u r false
    | .postpone p => s.refreshDue u r (s.claims u || Tab.get 0 s.mem.tokens p != 0)
    | .extra =>
      if s.scState u = scReplay then s
      else if 0 < d ∨ (s.sub u).rq.isEmpty ∧ -4 < d then (s.doRefresh u r).setDebt u r (d - 1)
      else s

/-- Show REF2X, OVER_LIMIT and HOT. -/
def State.showHot (s : State) (u : Nat) : State :=
  let x := s.sub u
  let s := s.setB (.MEM_SC_STATUS_REF2X u) ((x.rank 0).doubled || (x.rank 1).doubled)
  let s := s.setB (.MEM_SC_STATUS_OVER_LIMIT u) ((x.rank 0).overLim || (x.rank 1).overLim)
  s.setB .MEM_STATUS_HOT ((List.range 8).any fun v => ((s.sub v).rank 0).doubled || ((s.sub v).rank 1).doubled)

/-- R267: the controller reads MR4 of a rank; a sub-channel in REPLAY or FAILED issues no such command (R274, R275). -/
def State.mr4Read (s : State) (u r : Nat) (m : Mr4Out) : State :=
  if s.memRanks ≤ r ∨ s.scState u = 0 ∨ s.scState u = scReplay ∨ s.scState u = scFailed then s
  else
    let s := s.updSub u fun x => x.log (.mr4 r)
    let k := (s.sub u).rank r
    let (doubled, hot) := match m with
      | .normal => (false, false)
      | .doubled => (true, false)
      | .overLimit => (true, true)
      | .fail => (true, k.overLim)
    let s := s.updSub u fun x => x.updRank r fun k => { k with doubled := doubled, overLim := hot }
    let s := if m = .fail then s.count (.MEM_SC_ALERT_MR4_FAIL u) else s
    let s := if (doubled && !k.doubled) || m = .overLimit then s.setB .MEM_INT_STATUS_HOT true else s
    let s := if m = .overLimit then s.log 0x0404 [u, r, 1] else s
    s.showHot u

/-- R276: DQS drift is tracked while the controller is READY. -/
def State.dqsTrack (s : State) (u : Nat) (drift : Int) : State :=
  if s.get .MEM_STATUS_STATE = memReady ∧ u < s.memSubs then s.updSub u fun x => { x with drift := drift } else s

/-! ### Persistent failures (R271, R272) -/

/-- R272: a context's state fails to load: the trick ends, its buffer returns to FREE. -/
def State.ctxStateFail (s : State) (c : Nat) : State :=
  match s.decTrick c with
  | none => s
  | some r =>
    let s := match r.buf with
      | some d => s.freeBuf d
      | none => s
    let s := (s.updDealer fun x => { x with tricks := x.tricks.map fun y =>
      if y.trick.cls == .decode && y.trick.job == c && y.coded.isSome then { y with buf := none } else y }).decTrickEnd c
    let st := s.ctxState c
    let s :=
      if st = cxRunning then s.waitKey c 5
      else if st = cxWaitKey then (s.flushDpb c).set (.DEC_CX_STATE_WAIT_CAUSE c) 5
      else s
    s.wakeCores

/-- R272: granules of the running picture that need a block which failed. -/
def State.granulesFail (s : State) (c : Nat) (gs : List Nat) : State :=
  if (s.decTrick c).isSome then s.updCtx c fun x => { x with failed := uniq (x.failed ++ gs) } else s

/-- R272: what the reader of a block that fails persistently does. -/
def State.readerFail (s : State) (a : Nat) : ReadUse → State
  | .tile o l y => s.fetchFail o l y
  | .graphic o y => (s.maskLine o y 4 (s.crossing o y)).putFifo o y (.masked 4)
  | .marker o y => s.updOut o fun x => { x with noUser := x.noUser ++ [y] }
  | .reference c gs => s.granulesFail c gs
  | .coded c gs => s.granulesFail c gs
  | .context c => s.ctxStateFail c
  | .encode e => s.encReadFail e
  | .frame f => s.updFab fun x => { x with
      sends := match Tab.find x.sends f with
        | some y => Tab.insert x.sends f { y with spoil := true }
        | none => x.sends }
  | .header d => s.markBad d
  | .processor => s
  | .scrub =>
    let s := s.count .MEM_SCRUB_FOUND
    match s.bufAt a with
    | some d => if (s.desc d).state = .free then s else s.markBad d
    | none => s

/-! ### Reads (R263, R265, R266, R271) -/

/-- R271: what a read of a block and up to two re-reads make of it: the data, the re-reads, and whether the data is good. -/
def State.tryRead (s : State) (a : Nat) (errs : List BlockErr) : List Byte × Nat × Bool :=
  let data := s.blockData a
  let b := a / 256 * 256
  let e := fun k => errs.getD k ⟨[], 0⟩
  let good := fun k => checksGood b data (s.chkDiff a) (e k)
  if good 0 then (flipBytes (e 0) data, 0, true)
  else if good 1 then (flipBytes (e 1) data, 1, true)
  else if good 2 then (flipBytes (e 2) data, 2, true)
  else (flipBytes (e 2) data, 2, false)

/-- R271: a block is read and checked: its data, and whether it is good. Good data after a re-read is counted. -/
def State.readBlock (s : State) (u b port a : Nat) (errs : List BlockErr) : State × List Byte × Bool :=
  let s := (s.column u b false).chkAccess u b port false
  let (data, again, good) := s.tryRead a errs
  let s := s.reread u b port again
  let s := if good && again != 0 then (s.count .MEM_CHK_CNT_RECOVERED).setB .MEM_INT_STATUS_CHK_RECOVERED true else s
  (s, data, good)

/-- R265: does a write to local block `b` stand in the queue? -/
def SubSt.queued (x : SubSt) (b : Nat) : Bool := x.wq.any fun e => e.blk == b

/-- R271, R272: a read ends: its data goes to the reader, which meets its failure. `kind` as of MEM_CHK_INFO. -/
def State.deliverBlock (s : State) (q : MemReq) (data : List Byte) (good : Bool) (kind : Nat) : State :=
  let s := if good then s else (s.persist q.port q.addr kind).readerFail q.addr q.use
  if q.use = .scrub then s
  else s.emit (.block q.port q.addr (if good || q.use != .processor then data else data.map fun _ => 0) (!good))

/-- R270: before a request of class SPARE the targeted refreshes scheduled are issued. -/
def State.beforeSpare (s : State) (u port : Nat) : State :=
  if Tab.get 0 s.mem.tokens port = 0 ∧ s.scState u = scReady then s.issueTargets u (s.sub u).targets.length else s

/-- R265, R271, R272, R273, R275: one read is taken and answered. One of a block with a queued write is checked against the check
word of that write; the scrub passes over such a block. -/
def State.answerRead (s : State) (u b : Nat) (q : MemReq) : State :=
  let queued := (s.sub u).queued b
  if queued && q.use == .scrub then s
  else
    let s := (s.beforeSpare u q.port).charge_ q.port 256
    if s.scState u = scFailed then s.deliverBlock q (if q.use = .processor then List.replicate 256 0 else []) false 3
    else if queued then s.deliverBlock q (s.blockData q.addr) (s.chkDiff q.addr == 0) 0
    else
      let (s, data, good) := s.readBlock u b q.port q.addr q.errs
      s.deliverBlock q data good (if q.use = .scrub then 2 else 0)

/-- R263: which queued read is taken next: by class, then an older one in an open row (unless that passes another too
often), then the oldest. Answers its place in the queue. -/
def State.nextRead (s : State) (u : Nat) : Option Nat :=
  let q := (s.sub u).rq.take 64
  let cls := fun (x : QRead) => s.reqClass x.req
  let isOpen := fun (x : QRead) => match s.memMap x.req.addr with
    | some (_, b) => s.rowOpen u b
    | none => true
  let best := q.foldl (fun c x => min c (cls x)) 3
  match q.findIdx? fun x => cls x == best with
  | none => none
  | some oldest =>
    match q.findIdx? fun x => cls x == best && isOpen x with
    | some i =>
      let passes := (q.take i).all fun x => cls x != best || decide (x.passed < s.get .MEM_WQ_ROWHIT_MAX)
      if passes then some i else some oldest
    | none => some oldest

/-- R263: serve the read queue of a sub-channel that issues commands. -/
def State.serveReads (s : State) (u : Nat) : Nat → State
  | 0 => s
  | n + 1 =>
    match s.nextRead u with
    | none => s
    | some i =>
      match (s.sub u).rq[i]? with
      | none => s
      | some x =>
        let c := s.reqClass x.req
        let s := s.updSub u fun y => { y with
          rq := (y.rq.mapIdx fun j e => if j < i ∧ s.reqClass e.req = c then { e with passed := e.passed + 1 } else e).eraseIdx i }
        match s.memMap x.req.addr with
        | some (_, b) => State.serveReads (s.answerRead u b x.req) u n
        | none => State.serveReads s u n

/-- May a sub-channel answer reads now (R262, R274, R275)? -/
def State.subIssues (s : State) (u : Nat) : Bool :=
  s.scState u == scFailed || (s.scState u == scReady && s.get .MEM_STATUS_STATE == memReady)

/-- Serve every queue that may be served. -/
def State.serveAll (s : State) : State :=
  s.each (List.range 8) fun s u => if s.subIssues u then s.serveReads u (s.sub u).rq.length else s

/-- R259: an access outside the visible capacity: error response and report. The spec does not name the master of a port of
the pixel fabric. -/
def State.memOutside (s : State) (port a kind : Nat) : State :=
  let (v, s) := s.fresh
  (s.log 0x0801 ((leBytes 5 a).map (·.toNat) ++ [v.toNat % 16, kind + 8, 0])).emit (.block port a [] true)

/-- R263, R271: reads that arrive together. -/
def State.dramRead (s : State) (rs : List MemReq) : State :=
  let s := s.each rs fun s q => match s.memMap q.addr with
    | some (u, _) => s.updSub u fun x => { x with rq := x.rq ++ [⟨q, 0⟩] }
    | none => s.memOutside q.port q.addr 0
  s.serveAll

/-! ### Writes and drains (R261 to R265) -/

/-- R16: which of the `n` oldest queued writes is issued next: the oldest granted from a reservation, else the oldest (log 116). -/
def SubSt.nextWrite (x : SubSt) (n : Nat) : Nat := ((x.wq.take n).findIdx? fun e => !e.spare).getD 0

/-- R16, R264, R268, R270: issue `n` queued writes out of the `lim` oldest, after `k` writes of this drain; `due` tells which ranks'
refreshes fall due after how many of them. -/
def State.issueWrites (s : State) (u : Nat) (due : List (Nat × Nat)) (lim : Nat) : Nat → Nat → State
  | _, 0 => s
  | k, n + 1 =>
    let i := (s.sub u).nextWrite lim
    match (s.sub u).wq[i]? with
    | none => s
    | some x =>
      let s := if x.spare then s.issueTargets u (s.sub u).targets.length else s
      let s := (s.column u x.blk true).chkAccess u x.blk x.port true
      let s := s.updSub u fun y => { y with wq := y.wq.eraseIdx i }
      let s := s.each (due.filter (·.1 == k + 1)) fun s e => if e.2 < s.memRanks then s.refreshDue u e.2 (s.claims u) else s
      State.issueWrites s u due (lim - 1) (k + 1) n

/-- R264: a drain of sub-channel `u`; `aged` of its writes have waited 20 µs. -/
def State.drain (s : State) (u aged : Nat) (due : List (Nat × Nat)) : State :=
  let k := (s.sub u).wq.length
  let go := fun lim n => (s.count (.MEM_SC_DRAIN_DRAINS u)).issueWrites u due lim 0 n
  if k = 0 ∨ s.subIssues u = false ∨ s.scState u = scFailed then s
  else if s.get .MEM_WQ_WQ_HIGH ≤ k then go k (k - s.get .MEM_WQ_WQ_LOW)
  else if 0 < aged then go (min aged k) (min aged k)
  else if (s.sub u).rq.isEmpty then go k 1
  else s

/-- R264: the write queue starts a drain when it reaches WQ_HIGH. -/
def State.drainHigh (s : State) (u : Nat) : State :=
  if s.get .MEM_WQ_WQ_HIGH ≤ (s.sub u).wq.length then s.drain u 0 [] else s

/-- R16, R264, R265: enter a write into the queue, one entry per block; `spare`: it was granted out of spare bandwidth. An entry into
which a write from a reservation goes counts as that (log 116). -/
def State.queueWrite (s : State) (u b port : Nat) (spare : Bool) : State :=
  if (s.sub u).queued b then
    s.updSub u fun x => { x with wq := x.wq.map fun e => if e.blk = b then { e with spare := e.spare && spare } else e }
  else (s.updSub u fun x => { x with wq := x.wq ++ [⟨b, port, spare⟩] }).drainHigh u

/-- Put bytes into a block. -/
def State.putBytes (s : State) (a : Nat) (bs : List Byte) : State := { s with dram := writeBytes Config.dramFill s.dram a bs }

/-- R261: a partial write as a read-modify-write: a block whose read fails is poisoned. -/
def State.rmw (s : State) (u b : Nat) (w : MemWrite) (bs : List Byte) : State :=
  let s := s.count (.MEM_SC_DRAIN_RMW u)
  if (s.sub u).queued b then s.putBytes w.addr bs
  else
    let (s, data, good) := s.readBlock u b w.port w.addr w.errs
    let s := (s.putBytes (w.addr / 256 * 256) data).putBytes w.addr bs
    if good then s.setChk w.addr 0
    else
      let s := ((s.setChk w.addr 0xFFFFFFFF#32).persist w.port w.addr 1).setB .MEM_INT_STATUS_POISON true
      s.log 0x0402 (by4 (w.addr / 256))

/-- The bytes of a write that lie in its block. -/
def MemWrite_bytes (w : MemWrite) : List Byte := w.bytes.take (256 - w.addr % 256)

/-- R261, R266, R275: sub-channel `u` takes a write to its local block `b`. -/
def State.takeWrite (s : State) (u b : Nat) (w : MemWrite) : State :=
  let bs := MemWrite_bytes w
  let whole := bs.length == 256
  let spare := Tab.get 0 s.mem.tokens w.port == 0
  let s := (if whole then s else s.beforeSpare u w.port).charge_ w.port (if whole then 256 else 512)
  if s.scState u = scFailed then s.count .MEM_CHK_CNT_PERSIST
  else (if whole then (s.putBytes w.addr bs).setChk w.addr 0 else s.rmw u b w bs).queueWrite u b w.port spare

/-- R262, R263, R265: may a write enter now? A full queue holds its requester, a read of its block that has not been answered holds it,
and a read-modify-write waits until reads are served. -/
def State.mayWrite (s : State) (u b : Nat) (w : MemWrite) : Bool :=
  let x := s.sub u
  s.scState u == scFailed || !(x.rq.any fun q => q.req.addr / 256 == w.addr / 256) && (x.queued b
    || (decide (x.wq.length < 64) && ((MemWrite_bytes w).length == 256 || s.subIssues u)))

/-- A write comes to sub-channel `u`: taken or held, behind one of its block that is held already. -/
def State.offerWrite (s : State) (u b : Nat) (w : MemWrite) : State :=
  if s.mayWrite u b w && !(s.sub u).held.any fun x => x.addr / 256 == w.addr / 256 then s.takeWrite u b w
  else s.updSub u fun x => { x with held := x.held ++ [w] }

/-- R16, R266: held writes in the order in which they come again: those with tokens before those that wait for spare bandwidth, but
none before an earlier one of its block (log 116). -/
def State.heldOrder (s : State) (ws : List MemWrite) : List MemWrite :=
  let (a, b) := ws.foldl (fun (p : List MemWrite × List MemWrite) w =>
    if Tab.get 0 s.mem.tokens w.port = 0 ∨ (p.2.any fun x => x.addr / 256 == w.addr / 256) = true then (p.1, p.2 ++ [w])
    else (p.1 ++ [w], p.2)) ([], [])
  a ++ b

/-- R16, R263: the held writes of a sub-channel come again. -/
def State.admitHeld (s : State) (u : Nat) : State :=
  let ws := s.heldOrder (s.sub u).held
  if ws.isEmpty then s
  else (s.updSub u fun x => { x with held := [] }).each ws fun s w => match s.memMap w.addr with
    | some (_, b) => s.offerWrite u b w
    | none => s

/-- R261 to R266, R275: a write within one block. -/
def State.dramWrite (s : State) (w : MemWrite) : State :=
  match s.memMap w.addr with
  | none => s.memOutside w.port w.addr 1
  | some (u, b) => (s.offerWrite u b w).admitHeld u

/-- R264: a drain, after which entries are free for held writes. -/
def State.writeDrain (s : State) (u aged : Nat) (due : List (Nat × Nat)) : State := (s.drain u aged due).admitHeld u

/-! ### The scrub (R273) -/

/-- R273: the scrub reads the block at MEM_SCRUB_PTR and goes on to the next. -/
def State.scrubBlock (s : State) : State :=
  let total := s.memSubs * s.memV
  let p := s.get .MEM_SCRUB_PTR_BLOCK % total
  let s := s.answerRead (p % s.memSubs) (p / s.memSubs)
    { port := 51, addr := dramBase + 256 * p, urgent := false, use := .scrub, errs := [] }
  let s := if p + 1 = total then s.set .MEM_SCRUB_PASSES (s.get .MEM_SCRUB_PASSES + 1) else s
  (s.set .MEM_SCRUB_PTR_BLOCK ((p + 1) % total)).updMem fun m => { m with scrubLeft := m.scrubLeft - 1 }

/-- R273: the scrub reads up to `n` blocks, as far as their sub-channels answer. -/
def State.scrubRun (s : State) : Nat → State
  | 0 => s
  | n + 1 =>
    let p := s.get .MEM_SCRUB_PTR_BLOCK
    if s.subIssues (p % s.memSubs) then State.scrubRun s.scrubBlock n else s

/-- R30, R273: the scrub tricks in progress go on; with nothing left to read they are complete. -/
def State.scrubOn (s : State) : State :=
  if s.mem.scrubLeft = 0 then s
  else
    let s := s.scrubRun s.mem.scrubLeft
    if s.mem.scrubLeft ≠ 0 then s
    else s.updDealer fun d => { d with tricks := d.tricks.map fun r => if r.trick.cls == .scrub then { r with done := true } else r }

/-- R30: the scrub trick in progress ends; its unfinished range begins at MEM_SCRUB_PTR, where the next one starts. -/
def State.scrubEnd (s : State) : State := s.updMem fun m => { m with scrubLeft := 0 }

/-- R262 to R264, R274: a sub-channel that issues again serves its reads, and drains and takes its writes. -/
def State.resume (s : State) (u : Nat) : State :=
  if s.subIssues u then (((s.serveReads u (s.sub u).rq.length).drainHigh u).admitHeld u).scrubOn else s

/-! ### Tokens (R266) -/

/-- R266: the port a trick's reservation belongs to. -/
def memPortOf (t : Trick) : Nat :=
  match t.master, t.cls with
  | some _, _ => 52
  | none, .capture => t.index % 16
  | none, .decode => 16 + t.index % 8
  | none, .composer => 26 + t.index % 16
  | none, .encode => 24 + t.index % 2
  | none, .fabricFlow => 42 + t.index % 8
  | none, .scrub => 51
  | none, _ => 52

/-- R15, R266: bytes reserved for a port in the deal in force: what its tricks reserve; the processor port's two shares of
4.0 and 2.0 GB/s; 1/64 of ports 0 to 51 for the check words. -/
def State.reservedBytes (s : State) (deal : List Trick) (p : Nat) : Nat :=
  let own := fun q => ((deal.filter fun t => memPortOf t == q).map (·.dram)).sum
  if p = 52 then (4 * s.pTick).floor.toNat
  else if p = 54 then (2 * s.pTick).floor.toNat
  else if p = 53 then ((List.range 52).map own).sum / 64
  else own p

/-- R266: at a boundary MEM_USED shows the tick that ends, and every token count is set anew. -/
def State.memTick (s : State) : State :=
  let deal := s.curDeal
  s.each (List.range 55) fun s p =>
    let n := s.reservedBytes deal p
    let g := Tab.get 0 s.mem.granted p
    let sp := Tab.get 0 s.mem.spare p
    let s := if g = 0 then (s.set (.MEM_USED_BYTES p) 0).set (.MEM_USED_SPARE p) 0
      else
        let (k, s) := s.roundFree ((g : Rat) / 4096)
        let (q, s) := s.roundFree ((256 * sp : Nat) / (g : Rat))
        (s.setI (.MEM_USED_BYTES p) k).set (.MEM_USED_SPARE p) (min 255 q.toNat)
    let (k, s) := s.roundFree ((n : Rat) / 4096)
    (s.setI (.MEM_RES_BYTES p) k).updMem fun m => { m with
      tokens := Tab.put 0 m.tokens p n, granted := Tab.put 0 m.granted p 0, spare := Tab.put 0 m.spare p 0 }

/-! ### Alerts (R274, R275) -/

/-- R275: a sub-channel enters FAILED; its queued reads complete as persistent failures, and its writes are discarded. -/
def State.subFail (s : State) (u : Nat) : State :=
  let s := s.set (.MEM_SC_STATUS_STATE u) scFailed
  let s := s.set .MEM_STATUS_SC_FAILED (setBitN (s.get .MEM_STATUS_SC_FAILED) u)
  let s := s.setB .MEM_INT_STATUS_SC_FAILED true
  let all := (List.range s.memSubs).all fun v => s.scState v == scFailed
  let s := if all then s.set .MEM_STATUS_STATE 4 else s
  let s := (s.log 0x0403 [u]).safeCause 4
  let lost := (s.sub u).wq.length + (s.sub u).held.length
  let s := (s.count .MEM_CHK_CNT_PERSIST lost).updSub u fun x => { x with wq := [], held := [] }
  (s.serveReads u (s.sub u).rq.length).scrubOn

/-- R274, R276: a falling edge of ALERT_N on sub-channel `u`. -/
def State.alert (s : State) (u : Nat) : State :=
  if s.memSubs ≤ u then s
  else if s.on .MEM_CFG_CA_PAR = false then s.count (.MEM_SC_ALERT_SPURIOUS u)
  else
    let s := s.count (.MEM_SC_ALERT_ALERTS u)
    if s.scState u = scFailed then s
    else if s.scState u = scTraining then s.updSub u fun x => { x with stepAlert := true }
    else if s.scState u = 0 then s
    else
      let n := (s.sub u).alerts + 1
      let s := s.updSub u fun x => { x with alerts := n, low := true }
      if 4 ≤ n then s.subFail u
      else (s.set (.MEM_SC_STATUS_STATE u) scReplay).setB .MEM_INT_STATUS_ALERT true

/-- R274: ALERT_N is still low after 10 µs. -/
def State.alertTimeout (s : State) (u : Nat) : State :=
  if s.scState u = scReplay ∧ (s.sub u).low = true then s.subFail u else s

/-- R269, R274: re-issue one command of the replay. Reads that were delivered stand, and a write stores again the data kept with it, which
its block holds. -/
def State.reissue (s : State) (u : Nat) : MemCmd → State
  | .act rank bank row => s.activate u rank bank row
  | .refresh r => s.doRefresh u r
  | .near rank bank row =>
    (s.updSub u fun x => { x with rows := Tab.put 0 x.rows (bankKey rank bank) 0 }).emit (.targeted u rank bank [row])
  | .precharge _ _ => s
  | .mr4 _ => s
  | .read _ _ _ _ => s
  | .write _ _ _ _ _ => s

/-- R274: ALERT_N returns high: rows are precharged and the last 32 commands re-issued; `done` tells that the replay
completes before a further edge. -/
def State.alertReturn (s : State) (u : Nat) (done : Bool) : State :=
  if s.scState u ≠ scReplay ∨ (s.sub u).low = false then s
  else
    let cmds := (s.sub u).cmds
    let s := s.updSub u fun x => { x with low := false, rows := [] }
    let s := s.each cmds fun s c => s.reissue u c
    let s := s.updSub u fun x => { x with cmds := cmds }
    if done then
      let s := (s.updSub u fun x => { x with alerts := 0 }).set (.MEM_SC_STATUS_STATE u) scReady
      (s.count (.MEM_SC_ALERT_REPLAYS u)).resume u
    else s

/-! ### Training and frequency (R262, R276 to R278) -/

/-- R276: step 0x1 starts on every fitted sub-channel: those that MEM_CFG.CHANNELS in force names (log 96). -/
def State.trainStart (s : State) : State :=
  let n := s.memSubs
  let s := s.set .MEM_STATUS_STATE memTraining
  let s := ((s.set .MEM_TRAIN_STEP 1).set .MEM_TRAIN_RANK 0).set .MEM_TRAIN_RESULT 1
  let s := s.set .MEM_STATUS_SC_FITTED (2 ^ n - 1)
  let s := s.updMem fun m => { m with tries := [] }
  s.each (List.range n) fun s u =>
    if s.scState u = scFailed then s
    else (s.set (.MEM_SC_STATUS_STATE u) scTraining).updSub u fun x => { x with
      stepAlert := false, rows := [], table := [], targets := [], cmds := [], cache := [], alerts := 0, low := false, kept := [] }

/-- R276: training ends. -/
def State.trainOk (s : State) : State :=
  let s := (s.set .MEM_TRAIN_RESULT 2).setB .MEM_INT_STATUS_TRAIN_DONE true
  let s := s.set .MEM_STATUS_STATE memInit
  s.each (List.range s.memSubs) fun s u => if s.scState u = scTraining then s.set (.MEM_SC_STATUS_STATE u) scReady else s

/-- R276, R278: a fourth failure ends training. -/
def State.trainFail (s : State) (u : Nat) : State :=
  (((s.set .MEM_TRAIN_RESULT 3).set .MEM_TRAIN_FAIL_SC u).setB .MEM_INT_STATUS_TRAIN_FAIL true).hold_ holdMemTrain

/-- R276: what a step keeps on the sub-channels it did not fail on. -/
def State.keepResults (s : State) (bad : List Nat) (rs : List (Nat × List Nat)) : State :=
  let k := 8 * s.get .MEM_TRAIN_RANK + s.get .MEM_TRAIN_STEP
  s.each (rs.filter fun e => decide (e.1 < s.memSubs) && !bad.contains e.1) fun s e =>
    s.updSub e.1 fun x => { x with kept := Tab.insert x.kept k e.2 }

/-- R276, R277: a step of a rank ends; `fails` are the sub-channels on which it failed, `rs` what the others keep of it. -/
def State.trainingStep (s : State) (fails : List Nat) (rs : List (Nat × List Nat)) : State :=
  if s.get .MEM_STATUS_STATE ≠ memTraining ∨ s.get .MEM_TRAIN_RESULT ≠ 1 then s
  else
    let bad := (List.range s.memSubs).filter fun u => fails.contains u || (s.sub u).stepAlert
    let s := s.each (List.range s.memSubs) fun s u => s.updSub u fun x => { x with stepAlert := false }
    if s.on .MEM_FREQ_PENDING then
      let s := (s.set .MEM_STATUS_SPEED s.mem.target).setB .MEM_FREQ_PENDING false
      ((s.count .MEM_TRAIN_RESTARTS).updMem fun m => { m with changing := true }).trainStart
    else
    let s := s.keepResults bad rs
    if bad.isEmpty then
      let s := s.updMem fun m => { m with tries := [] }
      if s.get .MEM_TRAIN_STEP < 5 then s.set .MEM_TRAIN_STEP (s.get .MEM_TRAIN_STEP + 1)
      else if s.get .MEM_TRAIN_RANK + 1 < s.memRanks then (s.set .MEM_TRAIN_STEP 1).set .MEM_TRAIN_RANK 1
      else s.trainOk
    else
      let s := s.updMem fun m => { m with tries := bad.foldl (fun t u => Tab.upd 0 t u (· + 1)) m.tries }
      match bad.find? fun u => decide (4 ≤ Tab.get 0 s.mem.tries u) with
      | some u => s.trainFail u
      | none => s.count .MEM_TRAIN_RETRIES

/-- R277: MEM_FREQ.GO with a target. -/
def State.freqGo (s : State) (target : Nat) : State :=
  let s := s.set .MEM_FREQ_TARGET target
  let answer := fun (s : State) c => s.set .MEM_FREQ_CODE c
  let st := s.get .MEM_STATUS_STATE
  if s.dealing then answer s stSTATE
  else if (target = 0 ∧ s.on .MTX_CTRL_REMAP = true) ∨ s.get .MEM_CFG_SPEED < target then answer s stRANGE
  else if st = memReset ∨ st = memInit then answer s stBUSY
  else if st = memTraining then
    (answer s stOK).setB .MEM_FREQ_PENDING true |>.updMem fun m => { m with target := target }
  else if st = memReady then
    ((answer s stOK).set .MEM_STATUS_SPEED target |>.updMem fun m => { m with changing := true }).trainStart
  else s

/-- Start addresses of the blocks with a queued write. -/
def State.queuedBlocks (s : State) : List Nat :=
  (List.range s.memSubs).flatMap fun u => (s.sub u).wq.map fun e => s.blockAddr u e.blk

/-- R262: initialisation has written every visible block as zero with a valid check word. Writes still queued keep their data. -/
def State.initBlocks (s : State) : State :=
  let kept := s.queuedBlocks
  let s := s.updMem fun m => { m with chk := m.chk.filter fun e => kept.contains (dramBase + 256 * e.1) }
  let m := s.dram
  ({ s with dram := [] } : State).each kept fun s a => s.putBytes a (readBytes Config.dramFill m a 256)

/-- R262, R278: initialisation is done, and reads are served. -/
def State.memInitDone (s : State) : State :=
  if s.get .MEM_STATUS_STATE ≠ memInit then s
  else
    let changed := s.mem.changing
    let s := (s.initBlocks.updMem fun m => { m with changing := false }).set .MEM_STATUS_STATE memReady
    let s := if changed then s.setB .MEM_INT_STATUS_FREQ_DONE true else s
    let s := if s.get .MEM_STATUS_SPEED < s.get .MEM_CFG_SPEED then s.hold_ holdMemSpeed else s
    s.each (List.range 8) State.resume

end Sys2Proof.Machine
end

