-- ==== Sys2Proof/Machine/Touch.lean ====
section
/-!
DEFINITION. Touch sensing (R298 to R320): port states, baselines, contacts, locks, releases, reports and the Scorer's
check of them, self-tests, and the Banker's control of a port.
-/

namespace Sys2Proof.Machine

open Sys2Proof

/-! ### Ports, nodes and signals -/

/-- A touch port. -/
def State.tch (s : State) (p : Nat) : TouchSt := Tab.get .init s.touch p
/-- Change a touch port. -/
def State.updTch (s : State) (p : Nat) (f : TouchSt → TouchSt) : State := { s with touch := Tab.upd .init s.touch p f }

/-- Port states (R304). -/
def tpOff : Nat := 0
def tpStart : Nat := 1
def tpBaseline : Nat := 2
def tpRun : Nat := 3
def tpFault : Nat := 4

/-- The state of a port. -/
def State.tchState (s : State) (p : Nat) : Nat := s.get (.TCH_P_STATE_STATE p)
/-- D and S of a port (R298). -/
def State.drives (s : State) (p : Nat) : Nat := s.get (.TCH_P_CFG0_DRIVES p)
def State.senses (s : State) (p : Nat) : Nat := s.get (.TCH_P_CFG0_SENSES p)
/-- T_TOUCH and T_LIFT of a port (R302). -/
def State.tTouch (s : State) (p : Nat) : Int := s.get (.TCH_P_THR_T_TOUCH p)
def State.tLift (s : State) (p : Nat) : Int := s.get (.TCH_P_THR_T_LIFT p)

/-- The reference map of a port (R305, R306). -/
def State.tchRef (s : State) (p : Nat) : TouchRef := (s.image.touch[p]?).getD ⟨[], [], [], []⟩

/-- R302: the mutual signal of a node, and the self signal of an electrode. -/
def TNode.sig (n : TNode) : Int := (n.base : Int) - n.raw
def TNode.selfSig (n : TNode) : Int := (n.raw : Int) - n.base

/-- A frame's raw count, and the signal it gives. -/
def TNode.take (n : TNode) (self : Bool) (raw : Nat) : TNode :=
  let n := { n with raw := raw }
  { n with seen := if self then n.selfSig else n.sig }

/-- R308: the signal of a node, a locked one counting as 0. -/
def TNode.live (n : TNode) : Int := if n.lock = 0 then n.sig else 0

/-- Set the state of a port. -/
def State.setTch (s : State) (p st : Nat) : State :=
  let s := s.set (.TCH_P_STATE_STATE p) st
  s.set .TCH_STATUS_FAULT (putBitN (s.get .TCH_STATUS_FAULT) p (st == tpFault))

/-- TCH_P_NODES and CONTACTS follow the locks and contacts. -/
def State.showTch (s : State) (p : Nat) : State :=
  let x := s.tch p
  let cov := (x.nodes ++ x.elecs).countP (·.lock == 1)
  let locked := x.nodes.countP fun n => n.lock == 2 || n.lock == 3
  ((s.set (.TCH_P_NODES_COVERED p) cov).set (.TCH_P_NODES_LOCKED p) locked).set (.TCH_P_STATE_CONTACTS p) x.contacts.length

/-! ### Reports (R314, R315) and the Scorer's check (R318) -/

/-- A record: contact, event (1 DOWN, 2 HELD, 3 LIFT), lift reason. -/
abbrev TouchRecord := Contact × Nat × Nat

/-- The 8 bytes of a record. -/
def recordBytes (r : TouchRecord) : List Byte :=
  let (c, ev, why) := r
  [BitVec.ofNat 8 (c.id + 16 * ev), BitVec.ofNat 8 why] ++ leBytes 2 c.x ++ leBytes 2 c.y ++ leBytes 1 c.strength ++ leBytes 1 c.size

/-- The 192 bytes of a report. -/
def reportBytes (flags seq : Nat) (time : Time64) (tick down : Nat) (recs : List TouchRecord) : List Byte :=
  let rs := (recs.take 20).flatMap recordBytes
  let body := leBytes 1 flags ++ leBytes 1 (min recs.length 20) ++ leBytes 2 seq ++ leBytes 8 time.toNat ++ leBytes 2 tick
    ++ leBytes 2 down ++ rs ++ List.replicate (160 - rs.length) 0 ++ List.replicate 12 0
  body ++ leBytes 4 (crc32c body).toNat

/-- IDs and events of the records of a report. -/
def reportRecords (bs : List Byte) : List (Nat × Nat) :=
  (List.range (min 20 ((bs[1]?).getD 0).toNat)).map fun r =>
    let b := ((bs[16 + 8 * r]?).getD 0).toNat
    (b % 16, b / 16 % 4)

/-- R318: the Scorer checks its copy of a report written at `now`; the first check that fails, 0 for none. A failed
check leaves it without a previous report, and the next one is not compared with any. -/
def State.scoTouch (s : State) (p : Nat) (now : Time64) (bs : List Byte) : State × Nat :=
  let x := s.tch p
  let rs := reportRecords bs
  let down := rs.filter fun r => r.2 == 1 || r.2 == 2
  let seq := leNat ((bs.drop 2).take 2)
  let limit : Int := (s.get (.TCH_P_THR2_HOLD_LIMIT p) + 1) * 1000000000
  let prev := x.scoSeq.isSome
  let n : Nat :=
    if leNat (bs.drop 0xBC) ≠ (crc32c (bs.take 0xBC)).toNat then 1
    else if prev ∧ x.scoSeq ≠ some ((seq + 65535) % 65536) then 2
    else if 10 < down.length then 3
    else if !(decide (rs.map (·.1)).Nodup) || rs.any (·.1 == 0) then 4
    else if prev ∧ (rs.any fun r => r.2 != 1 && !(x.scoDown.any fun d => d.1 == r.1)) = true then 5
    else if (x.scoDown.any fun d => down.any (fun r => r == (d.1, 2)) && decide (limit < (now - d.2).toInt)) = true then 6
    else 0
  let fresh := (down.filter (·.2 == 1)).map fun r => (r.1, now)
  let kept := x.scoDown.filter fun d => down.contains (d.1, 2)
  if n ≠ 0 then (s.updTch p fun x => { x with scoSeq := none, scoDown := [] }, n)
  else (s.updTch p fun x => { x with scoSeq := some seq, scoDown := kept ++ fresh }, 0)

/-- R314, R315: a report is written into the ring, and the Scorer's copy checked. -/
def State.writeReport (s : State) (p : Nat) (rel fault : Bool) (t : Word) (recs : List TouchRecord) (flips : List (Nat × Byte)) :
    State × Nat :=
  let x := s.tch p
  let all := x.nodes ++ x.elecs
  let flags := p + 4 * b2n rel + 8 * b2n fault + 16 * b2n (all.any (·.lock == 1)) + 32 * b2n (all.any (·.lock != 0)) + 64 * b2n s.epochValid
  let seq := (s.get (.TCH_P_RPT_SEQ p) + 1) % 65536
  let bs := reportBytes flags seq (s.stamp t 0) s.tick16 x.contacts.length recs
  let slot := s.get (.TCH_P_RPT_NEXT p)
  let s := s.when (x.unread.contains slot) fun s => s.count (.TCH_P_CNT1_RPT_LOST p)
  let s := s.each (List.range 48) fun s k => s.setWord (Reg.TCH_RPT p slot k) (BitVec.ofNat 32 (leNat ((bs.drop (4 * k)).take 4)))
  let s := (s.set (.TCH_P_RPT_NEXT p) (slot + 1)).set (.TCH_P_RPT_SEQ p) seq
  let s := s.updTch p fun x => { x with unread := x.unread.filter (· != slot) ++ [slot] }
  (s.hostVec 1).scoTouch p (s.fullTime t) (bs.mapIdx fun i b => flips.foldl (fun b f => if f.1 = i then b ^^^ f.2 else b) b)

/-! ### Release and state changes (R304, R313) -/

/-- Records in ascending order of ID. -/
def byId (rs : List TouchRecord) : List TouchRecord := (List.range 16).filterMap fun i => rs.find? fun r => r.1.id == i

/-- R313: a release-all with its cause of R431 (1 abandoned frames, 2 Scorer, 3 RELEASE, 4 state change), and its report
by the port hardware. -/
def State.releaseAll (s : State) (p cause : Nat) : State :=
  let x := s.tch p
  let recs := byId (x.contacts.map fun c => (c, 3, 4))
  let lift := s.tLift p
  let now := s.fullTime s.time.now
  let s := s.updTch p fun x =>
    { x with
      contacts := []
      waiting := []
      lifts := x.contacts.foldl (fun l c => Tab.insert l c.id now) x.lifts
      nodes := x.nodes.map fun n => if n.lock = 0 ∧ lift ≤ n.sig then { n with lock := 3, run := 0 } else n }
  let s := ((s.count (.TCH_P_CNT1_RELEASE_ALL p)).setB .TCH_INT_STATUS_RELEASE_ALL true).when (!recs.isEmpty) fun s =>
    s.setB .TCH_INT_STATUS_LIFT true
  let s := (s.log 0x0602 [p, cause]).showTch p
  (s.writeReport p true false s.time.now recs []).1

/-- R304: a port enters FAULT, its release report written. -/
def State.tchFault (s : State) (p cause elec : Nat) : State :=
  let s := ((s.setTch p tpFault).set (.TCH_P_STATE_FAULT_CAUSE p) cause).setB .TCH_INT_STATUS_FAULT true
  s.log 0x0601 [p, cause, elec]

/-- R304: a port enters FAULT from START or RUN, from RUN after a release report. -/
def State.tchFail (s : State) (p cause elec : Nat) : State :=
  if s.tchState p = tpRun then (s.releaseAll p 4).tchFault p cause elec
  else if s.tchState p = tpStart then s.tchFault p cause elec
  else s

/-- R318: a check failed: the Scorer orders a release-all and FAULT with cause SCORER (6). -/
def State.scoOrder (s : State) (p n : Nat) : State :=
  if n = 0 then s
  else
    let st := s.tchState p
    let s := (s.log 0x0603 [p, n]).releaseAll p 2
    if st = tpStart ∨ st = tpRun then s.tchFault p 6 0 else s

/-- R304: a port enters START: the panel is to be baselined afresh. -/
def State.tchBegin (s : State) (p : Nat) : State :=
  let s := s.updTch p fun x =>
    { x with
      nodes := List.replicate (s.drives p * s.senses p) .init
      elecs := List.replicate (s.drives p + s.senses p) .init
      contacts := []
      waiting := []
      baseN := 0
      passes := 0
      fails := []
      owed := false
      testAt := none
      abandoned := 0 }
  ((s.setTch p tpStart).set (.TCH_P_STATE_FAULT_CAUSE p) 0).showTch p

/-- R304: entry to DEALING: every port with EN starts. -/
def State.touchStart (s : State) : State :=
  s.each (List.range 4) fun s p => s.when (s.on (.TCH_P_CFG0_EN p)) fun s => s.tchBegin p

/-- R299, R304, R318: the device leaves DEALING: every port writes its release report and enters OFF. -/
def State.touchOff (s : State) : State :=
  s.each (List.range 4) fun s p =>
    if s.tchState p = tpOff then s else ((s.releaseAll p 4).setTch p tpOff).showTch p

/-! ### A frame in BASELINE (R305) -/

/-- A node or electrode after the eighth frame. -/
def TNode.settle (n : TNode) (r : Nat × Nat) : TNode :=
  let b := n.sum / 8
  if r.1 ≤ b ∧ b ≤ r.2 then { n with base := b, lock := 0, run := 0, neg := 0 }
  else { n with base := (r.1 + r.2) / 2, lock := 1, run := 0, neg := 0 }

/-- Add the frame to the sums; with the eighth, take baselines and enter RUN. -/
def State.baseFrame (s : State) (p : Nat) : State :=
  let add := fun (n : TNode) => { n with sum := n.sum + n.raw }
  let s := s.updTch p fun x => { x with nodes := x.nodes.map add, elecs := x.elecs.map add, baseN := x.baseN + 1 }
  if (s.tch p).baseN < 8 then s
  else
    let r := s.tchRef p
    let s := s.updTch p fun x =>
      { x with
        nodes := x.nodes.mapIdx fun i n => n.settle ((r.nodes[i]?).getD (0, 65535))
        elecs := x.elecs.mapIdx fun i n => n.settle ((r.elecs[i]?).getD (0, 65535)) }
    let x := s.tch p
    let s := s.when ((x.nodes ++ x.elecs).any (·.lock == 1)) fun s => s.setB .TCH_INT_STATUS_COVERED true
    (s.setTch p tpRun).showTch p

/-! ### A frame in RUN (R308 to R312) -/

/-- A panel in a frame: D, S and the signals of R308 by node index. -/
structure Panel where
  d : Nat
  k : Nat
  sig : List Int

/-- The signal of a node. -/
def Panel.at (q : Panel) (d k : Nat) : Int := (q.sig[d * q.k + k]?).getD 0

/-- The 3 × 3 window around a node, clipped to the panel, in order of node index. -/
def Panel.window (q : Panel) (d k : Nat) : List (Nat × Nat) :=
  (List.range 3).flatMap fun i => (List.range 3).filterMap fun j =>
    if d + i = 0 ∨ q.d < d + i ∨ k + j = 0 ∨ q.k < k + j then none else some (d + i - 1, k + j - 1)

/-- R308: is the node a peak? -/
def Panel.isPeak (q : Panel) (lift : Int) (d k : Nat) : Bool :=
  decide (lift ≤ q.at d k) && (q.window d k).all fun n =>
    if n = (d, k) then true
    else if n.1 * q.k + n.2 < d * q.k + k then decide (q.at n.1 n.2 < q.at d k)
    else decide (q.at n.1 n.2 ≤ q.at d k)

/-- R308: the peaks, in order of node index. -/
def Panel.peaks (q : Panel) (lift : Int) : List (Nat × Nat) :=
  (List.range (q.d * q.k)).filterMap fun i =>
    if q.isPeak lift (i / q.k) (i % q.k) then some (i / q.k, i % q.k) else none

/-- Chebyshev distance. -/
def cheb (a b : Nat × Nat) : Nat := max (max a.1 b.1 - min a.1 b.1) (max a.2 b.2 - min a.2 b.2)

/-- R308: pairs of contact and peak within the radius, ascending distance, then contact ID, then node index. -/
def touchPairs (radius : Nat) (cs : List Contact) (peaks : List (Nat × Nat)) : List (Nat × (Nat × Nat)) :=
  (List.range (radius + 1)).flatMap fun r => (List.range 16).flatMap fun id =>
    match cs.find? (·.id == id) with
    | none => []
    | some c => (peaks.filter fun k => cheb (c.d, c.k) k == r).map fun k => (id, k)

/-- Take the pairs in order, a contact or peak already taken being skipped. -/
def takePairs (ps : List (Nat × (Nat × Nat))) : List (Nat × (Nat × Nat)) :=
  ps.foldl (fun got q => if (got.any fun g => g.1 == q.1 || g.2 == q.2) = true then got else got ++ [q]) []

/-- R309: one coordinate: 64 × c0 and the rounded centroid of the window weights `(w, c)`, clamped. -/
def centroid (c0 top : Nat) (ws : List (Int × Nat)) : Nat :=
  let sum := (ws.map (·.1)).sum
  let m := (ws.map fun x => x.1 * ((x.2 : Int) - c0)).sum
  clampN (64 * top) (64 * c0 + (64 * m + sum / 2) / sum)

/-- R309: a contact at a peak. -/
def Panel.place (q : Panel) (lift : Int) (c : Contact) (k : Nat × Nat) : Contact :=
  let ws := (q.window k.1 k.2).map fun n => (max 0 (q.at n.1 n.2), n)
  { c with
    d := k.1
    k := k.2
    x := centroid k.2 (q.k - 1) (ws.map fun w => (w.1, w.2.2))
    y := centroid k.1 (q.d - 1) (ws.map fun w => (w.1, w.2.1))
    strength := min 255 (q.at k.1 k.2 / 16).toNat
    size := (q.window k.1 k.2).countP fun n => decide (lift ≤ q.at n.1 n.2) }

/-- R308: water rejection of a peak: a self signal below T_SELF, or a covered electrode (R305). -/
def State.waterRejects (s : State) (p : Nat) (k : Nat × Nat) : Bool :=
  let weak := fun e => match ((s.tch p).elecs)[e]? with
    | some n => n.lock != 0 || decide (n.selfSig < s.get (.TCH_P_THR2_T_SELF p))
    | none => true
  s.on (.TCH_P_CFG0_WATER_REJ p) && (weak k.1 || weak (s.drives p + k.2))

/-- The state of contact handling while a frame is evaluated: records, contacts down, peaks waiting. -/
structure FrameEval where
  st : State
  recs : List TouchRecord
  down : List Contact
  wait : List (Nat × Nat × Nat)

/-- R308, R310, R311: a contact down before the frame continues or lifts. -/
def matchContact (p : Nat) (q : Panel) (now : Time64) (got : List (Nat × (Nat × Nat))) (rej : List (Nat × Nat)) (v : FrameEval)
    (c : Contact) : FrameEval :=
  let lift := v.st.tLift p
  let gone := fun (s : State) why =>
    let s := (s.updTch p fun x => { x with lifts := Tab.insert x.lifts c.id now }).setB .TCH_INT_STATUS_LIFT true
    { v with st := s, recs := v.recs ++ [(c, 3, why)] }
  match (got.find? (·.1 == c.id)).map (·.2) with
  | none => gone v.st 1
  | some k =>
    if rej.contains k then gone (v.st.setB .TCH_INT_STATUS_WATER true) 3
    else if v.st.get (.TCH_P_THR2_HOLD_LIMIT p) * 1000000000 < (now - c.downAt).toInt then
      let w := (q.window k.1 k.2).filter fun n => decide (lift ≤ q.at n.1 n.2)
      let s := (v.st.count (.TCH_P_CNT0_HOLD_TIMEOUT p)).setB .TCH_INT_STATUS_HOLD_TIMEOUT true
      let recal := fun i (n : TNode) =>
        if w.contains (i / q.k, i % q.k) ∧ n.lock = 0 then { n with b0 := n.base, base := n.raw, lock := 2, run := 0 } else n
      gone (s.updTch p fun x => { x with nodes := x.nodes.mapIdx recal }) 2
    else
      let c := q.place lift c k
      { v with recs := v.recs ++ [(c, 2, 0)], down := v.down ++ [c] }

/-- R309: the ID a new contact takes, if one qualifies. -/
def freeId (down : List Contact) (lifts : Tab Time64) (now : Time64) : Option Nat :=
  ((List.range 16).drop 1).find? fun i => !(down.any (·.id == i)) &&
    match Tab.find lifts i with
    | some t => decide (1000000000 ≤ (now - t).toInt)
    | none => true

/-- R308, R309: an unmatched peak of at least T_TOUCH. `prev` are the peaks waiting after the last frame. -/
def newPeak (p : Nat) (q : Panel) (now : Time64) (prev : List (Nat × Nat × Nat)) (v : FrameEval) (k : Nat × Nat) : FrameEval :=
  let s := v.st
  let near := (prev.filter fun w => decide (cheb (w.1, w.2.1) k ≤ s.get (.TCH_P_CFG0_MATCH_RADIUS p))).map (·.2.2)
  let n := near.foldl max 0 + 1
  let keep := fun (s : State) => { v with st := s, wait := v.wait ++ [(k.1, k.2, n)] }
  if n < s.get (.TCH_P_CFG0_DEBOUNCE p) then keep s
  else if 10 ≤ v.down.length then keep ((s.count (.TCH_P_CNT0_OVERFLOW p)).setB .TCH_INT_STATUS_OVERFLOW true)
  else match freeId v.down (s.tch p).lifts now with
    | none => keep (s.count (.TCH_P_CNT0_ID_WAIT p))
    | some id =>
      let c := q.place (s.tLift p) { id := id, d := k.1, k := k.2, downAt := now, x := 0, y := 0, strength := 0, size := 0 } k
      { v with st := s.setB .TCH_INT_STATUS_DOWN true, recs := v.recs ++ [(c, 1, 0)], down := v.down ++ [c] }

/-- Insert a peak into a list in descending order of signal, then node index. -/
def peakInsert (q : Panel) (k : Nat × Nat) : List (Nat × Nat) → List (Nat × Nat)
  | [] => [k]
  | x :: xs => if q.at x.1 x.2 < q.at k.1 k.2 then k :: x :: xs else x :: peakInsert q k xs

/-- R303: baseline tracking by signal `sg`; `up` moves the baseline towards the raw count. Also says whether the node
was recalibrated. -/
def TNode.track (n : TNode) (sg lift touch : Int) (inWin : Bool) : TNode × Bool :=
  if n.lock ≠ 0 then (n, false)
  else
    let n := if !inWin && decide (-lift < sg) && decide (sg < lift) then
        { n with base := ((n.base : Int) + ((n.raw : Int) - n.base).tdiv 256).toNat } else n
    if -touch < sg then ({ n with neg := 0 }, false)
    else if n.neg + 1 < 64 then ({ n with neg := n.neg + 1 }, false)
    else ({ n with base := n.raw, neg := 0 }, true)

/-- R312: a locked node and its unlock condition in this frame. -/
def TNode.unlock (n : TNode) (r : Nat × Nat) (lift touch : Int) : TNode :=
  let back := (n.b0 : Int) - n.raw < lift
  let c : Bool := match n.lock with
    | 1 => decide (r.1 ≤ n.raw) && decide (n.raw ≤ r.2)
    | 2 => decide back || decide (n.sig ≤ -touch)
    | 3 => decide (n.sig < lift)
    | _ => false
  if !c then { n with run := 0 }
  else if n.run + 1 < 3 then { n with run := n.run + 1 }
  else
    let b : Nat := match n.lock with
      | 1 => n.raw
      | 2 => if back then n.b0 else n.raw
      | _ => n.base
    { n with base := b, lock := 0, run := 0, neg := 0 }

/-- R303, R312: tracking and unlocking after the contacts of a frame. `was` are the locks before it. -/
def State.trackFrame (s : State) (p : Nat) (q : Panel) (was : List Nat) : State :=
  let x := s.tch p
  let r := s.tchRef p
  let lift := s.tLift p
  let touch := s.tTouch p
  let win := uniq (x.contacts.flatMap fun c => q.window c.d c.k)
  let nodes := x.nodes.mapIdx fun i n =>
    if n.lock = 0 then n.track n.sig lift touch (win.contains (i / q.k, i % q.k))
    else if was[i]? = some 0 then (n, false)
    else (n.unlock ((r.nodes[i]?).getD (0, 65535)) lift touch, false)
  let elecs := x.elecs.mapIdx fun e n =>
    let inWin := win.any fun w => w.1 == e || q.d + w.2 == e
    if n.lock = 0 then n.track n.selfSig lift touch inWin
    else (n.unlock ((r.elecs[e]?).getD (0, 65535)) lift touch, false)
  let k := (nodes ++ elecs).countP (·.2)
  let s := s.updTch p fun x => { x with nodes := nodes.map (·.1), elecs := elecs.map (·.1) }
  s.count (.TCH_P_CNT1_NEG_RECAL p) k

/-- R308 to R312: the frame of a port in RUN, and its records. -/
def State.runFrame (s : State) (p : Nat) (t : Word) : State × List TouchRecord :=
  let x := s.tch p
  let now := s.fullTime t
  let q : Panel := { d := s.drives p, k := s.senses p, sig := x.nodes.map TNode.live }
  let peaks := q.peaks (s.tLift p)
  let rej := peaks.filter fun k => s.waterRejects p k
  let s := (s.count (.TCH_P_CNT0_WATER p) rej.length).when (!rej.isEmpty) fun s => s.setB .TCH_INT_STATUS_WATER true
  let got := takePairs (touchPairs (s.get (.TCH_P_CFG0_MATCH_RADIUS p)) x.contacts peaks)
  let v : FrameEval := x.contacts.foldl (matchContact p q now got rej) { st := s, recs := [], down := [], wait := [] }
  let fresh := peaks.filter fun k =>
    !(rej.contains k) && !(got.any fun g => g.2 == k) && decide (s.tTouch p ≤ q.at k.1 k.2)
  let v := (fresh.foldl (fun l k => peakInsert q k l) []).foldl (newPeak p q now x.waiting) v
  let s := v.st.updTch p fun x => { x with contacts := v.down, waiting := v.wait }
  ((s.trackFrame p q (x.nodes.map (·.lock))).showTch p, byId v.recs)

/-! ### The commands of the family -/

/-- The running touch-scan trick of a port. -/
def State.scanTrick (s : State) (p : Nat) : Bool :=
  s.dealer.tricks.any fun r => r.trick.cls == .touchScan && r.trick.job == p && !r.done

/-- Is this a trick of a class for a job that runs and has met no error response? -/
def RunTrick.runs (r : RunTrick) (cls : EngineClass) (job : Nat) : Bool := r.trick.cls == cls && r.trick.job == job && !r.done && !r.stale

/-- The oldest such trick is complete. -/
def endFirst (cls : EngineClass) (job : Nat) : List RunTrick → List RunTrick
  | [] => []
  | r :: rs => if r.runs cls job then { r with done := true } :: rs else r :: endFirst cls job rs

/-- The oldest such trick meets an error response (R374). -/
def stopFirst (cls : EngineClass) (job : Nat) : List RunTrick → List RunTrick
  | [] => []
  | r :: rs => if r.runs cls job then { r with stale := true } :: rs else r :: stopFirst cls job rs

/-- R300: a scan frame of port `p` is acquired and evaluated, and its report written. -/
def State.scanFrame (s : State) (p : Nat) (f : ScanData) : State :=
  if !s.scanTrick p || !s.on .TCH_STATUS_TSP_RUN || s.tchState p == tpOff then s
  else
    let s := s.updDealer fun d => { d with tricks := endFirst .touchScan p d.tricks }
    let s := s.updTch p fun x =>
      { x with
        abandoned := 0
        nodes := x.nodes.mapIdx fun i n => n.take false ((f.raw[i]?).getD 0 % 65536)
        elecs := x.elecs.mapIdx fun i n => n.take true ((f.selfs[i]?).getD 0 % 65536) }
    let st := s.tchState p
    let (s, recs) := if st = tpRun then s.runFrame p f.t else if st = tpBaseline then (s.baseFrame p, []) else (s, [])
    let (s, n) := s.writeReport p false (st == tpFault) f.t recs f.flips
    s.scoOrder p n

/-- R304: at the scan slot of a port in FAULT its hardware writes a report with FAULT set and no records. -/
def State.faultSlot (s : State) (p : Nat) : State :=
  let r := s.writeReport p false true s.time.now [] []
  r.1.scoOrder p r.2

/-- R30, R313: the scan frame of a port was abandoned; the second in a row releases all. -/
def State.scanAbandoned (s : State) (p : Nat) : State :=
  let st := s.tchState p
  if st = tpOff ∨ st = tpFault then s
  else
    let s := (s.count (.TCH_P_CNT1_ABANDONED p)).updTch p fun x => { x with abandoned := x.abandoned + 1 }
    if (s.tch p).abandoned = 2 then s.releaseAll p 1 else s

/-- R306: what a test finds, in the order of items, then electrodes: (cause, electrode). -/
def State.testFinds (s : State) (p : Nat) (f : TestIn) : List (Nat × Nat) :=
  let r := s.tchRef p
  let es := List.range (s.drives p + s.senses p)
  let raw := fun e => (f.raw[e]?).getD 0
  let last := fun e => e + 1 == s.drives p || e + 1 == s.drives p + s.senses p
  (es.filter fun e => decide (raw e < (r.openMin[e]?).getD 0)).map (fun e => (1, e)) ++
    (es.filter fun e => raw e == 0 || raw e == 0xFFFF).map (fun e => (2, e)) ++
    (es.filter fun e => !last e && decide ((r.adjMax[e]?).getD 65535 < (f.adj[e]?).getD 0)).map fun e => (3, e)

/-- The running self-test trick of a port. -/
def State.testTrick (s : State) (p : Nat) : Bool :=
  s.dealer.tricks.any fun r => r.trick.cls == .selfTest && r.trick.job == p && !r.done

/-- R306, R307: does the self-test slot of port `p` that begins now run a test? In START each does, afterwards one every 10 s; a test
that found a failure is repeated, and an abandoned one runs in the next slot. -/
def State.testDue (s : State) (p : Nat) : Bool :=
  s.tchState p == tpStart || (s.tch p).owed || match (s.tch p).testAt with
    | some t => decide (10000000000 ≤ (s.extNow - t).toInt)
    | none => true

/-- R299: is port `p` scanning, its drive electrodes excited? Otherwise its drive and sense pins are at ground. -/
def State.tchScanning (s : State) (p : Nat) : Bool :=
  s.tchState p != tpOff && s.dealer.tricks.any fun r =>
    (r.trick.cls == .touchScan || r.trick.cls == .selfTest) && r.trick.job == p && !r.done

/-- R299: the level of the drive pins and of the sense pins of a port that is not scanning: ground. -/
def State.tchGround (s : State) (p : Nat) : Bool := !s.tchScanning p

/-- R306, R307: a self-test of port `p` completes. -/
def State.selfTest (s : State) (p : Nat) (f : TestIn) : State :=
  let st := s.tchState p
  if st = tpOff ∨ st = tpFault ∨ s.testTrick p = false then s
  else
    let s := (s.updDealer fun d => { d with tricks := endFirst .selfTest p d.tricks }).count (.TCH_P_FAULT_TESTS p)
    let found := s.testFinds p f
    let before := (s.tch p).fails
    match found with
    | [] =>
      let s := s.updTch p fun x => { x with fails := [], owed := false, passes := x.passes + 1 }
      if st = tpStart ∧ 2 ≤ (s.tch p).passes then s.setTch p tpBaseline else s
    | one :: _ =>
      let s := (s.updTch p fun x => { x with fails := found, owed := true, passes := 0 }).setB .TCH_INT_STATUS_TEST_FAIL true
      let show_ := fun (s : State) (x : Nat × Nat) (c : Bool) =>
        ((s.set (.TCH_P_FAULT_ITEM p) x.1).set (.TCH_P_FAULT_ELECTRODE p) x.2).setB (.TCH_P_FAULT_CONFIRMED p) c
      match found.find? before.contains with
      | some x => (show_ s x true).tchFail p x.1 x.2
      | none => show_ s one false

/-- R30, R307: the self-test of port `p` was abandoned: it runs in the next slot. -/
def State.testAbandoned (s : State) (p : Nat) : State := s.updTch p fun x => { x with owed := true }

/-- R304: no self-test has completed for 30 s: cause TEST_MISSED. -/
def State.testMissed (s : State) (p : Nat) : State := s.tchFail p 5 0

/-- R304: nodes are still locked COVERED 60 s after entry to RUN: cause COVERED. -/
def State.coveredTimeout (s : State) (p : Nat) : State :=
  if s.tchState p = tpRun ∧ s.get (.TCH_P_NODES_COVERED p) ≠ 0 then s.tchFail p 4 0 else s

/-- R319: the Banker asks for a restart of port `p`; the result stands in CODE. -/
def State.tchRestart (s : State) (p : Nat) : State :=
  let st := s.tchState p
  if st = tpRun then ((s.releaseAll p 4).tchBegin p).set (.TCH_P_CTRL_CODE p) stOK
  else if st = tpFault then (s.tchBegin p).set (.TCH_P_CTRL_CODE p) stOK
  else s.set (.TCH_P_CTRL_CODE p) stSTATE

/-- R319: the Banker asks for a release-all of port `p`. -/
def State.tchRelease (s : State) (p : Nat) : State :=
  if s.tchState p = tpRun then (s.releaseAll p 3).set (.TCH_P_CTRL_CODE p) stOK
  else s.set (.TCH_P_CTRL_CODE p) stSTATE

/-- R313, R319: RELEASE and RESTART asked for together. In RUN both are OK: one release report, then the restart; elsewhere CODE shows
the RESTART's answer (log 93). -/
def State.tchBoth (s : State) (p : Nat) : State :=
  if s.tchState p = tpRun then ((s.releaseAll p 3).tchBegin p).set (.TCH_P_CTRL_CODE p) stOK else s.tchRestart p

/-- R315: a report of the ring has been read: slot `r` of port `p`. -/
def State.slotRead (s : State) (p r : Nat) : State := s.updTch p fun x => { x with unread := x.unread.filter (· != r) }

/-! ### Windows (R320) -/

/-- The node or electrode that TCH_P_NSEL selects, with its reference range. -/
def State.nsel (s : State) (p : Nat) : TNode × (Nat × Nat) × Bool :=
  let i := s.get (.TCH_P_NSEL_INDEX p)
  let self := s.on (.TCH_P_NSEL_SELF p)
  let r := s.tchRef p
  if self then ((((s.tch p).elecs)[i]?).getD .init, (r.elecs[i]?).getD (0, 0), true)
  else ((((s.tch p).nodes)[i]?).getD .init, (r.nodes[i]?).getD (0, 0), false)

/-- NVAL, NREF and NSTAT of the selected node. -/
def State.nselWords (s : State) (p : Nat) : Word × Word × Word :=
  let (n, r, _) := s.nsel p
  let sg := n.seen
  (BitVec.ofNat 32 (n.raw + 65536 * n.base), BitVec.ofNat 32 (r.1 + 65536 * r.2),
    BitVec.ofNat 32 ((sg % 65536).toNat + 65536 * n.lock))

end Sys2Proof.Machine
end

