-- ==== Sys2Proof/Machine/Audio.lean ====
section
/-!
DEFINITION. Audio ports (R321 to R337): groups and their block grid, rings, fetches and underruns, elastic stores and slips,
port states, MUTE and the alarm tone.
-/

namespace Sys2Proof.Machine

open Sys2Proof

/-! ### Ports and groups -/

/-- An audio port. -/
def State.aud (s : State) (p : Nat) : AudSt := Tab.get .init s.audio.ports p
/-- Change an audio port. -/
def State.updAud (s : State) (p : Nat) (f : AudSt → AudSt) : State :=
  { s with audio := { s.audio with ports := Tab.upd .init s.audio.ports p f } }

/-- Port states (R332). -/
def apOff : Nat := 0
def apPrestart : Nat := 1
def apRun : Nat := 2
def apClockBad : Nat := 3
def apStopping : Nat := 4

/-- The state of a port. -/
def State.audState (s : State) (p : Nat) : Nat := s.get (.AUD_P_STATE_STATE p)
/-- Set the state of a port; AUD_STATUS follows, and CLOCK_OK tells that it left CLOCK_BAD. -/
def State.setAud (s : State) (p st : Nat) : State :=
  let s := if s.audState p = apClockBad ∧ st ≠ apClockBad then
      (s.setB .AUD_INT_STATUS_CLOCK_OK true).set (.AUD_P_STATE_BAD_CAUSE p) 0 else s
  let s := s.set (.AUD_P_STATE_STATE p) st
  let s := s.set .AUD_STATUS_RUN (putBitN (s.get .AUD_STATUS_RUN) p (st == apRun))
  s.set .AUD_STATUS_CLOCK_BAD (putBitN (s.get .AUD_STATUS_CLOCK_BAD) p (st == apClockBad))

/-- Does the port receive; is it a slave? -/
def State.audRx (s : State) (p : Nat) : Bool := s.on (.AUD_P_CFG_DIR p)
def State.audSlave (s : State) (p : Nat) : Bool := !s.on (.AUD_P_CFG_MASTER p)
/-- The group of a port, its started grid, and its slots per frame. -/
def State.audGroup (s : State) (p : Nat) : Nat := s.get (.AUD_P_CFG_GROUP p)
def State.audGrid (s : State) (g : Nat) : Option AudGroup := Tab.find s.audio.groups g
def State.audSlots (s : State) (p : Nat) : Nat := s.get (.AUD_P_CFG_SLOTS p) + 1
/-- Is this the alarm port (R335)? -/
def State.alarmPort (s : State) (p : Nat) : Bool := s.on .AUD_ALARM_CFG_EN && s.get .AUD_ALARM_CFG_PORT == p

/-- The sample rate fs of a group in Hz (R324). -/
def State.audFs (s : State) (g : Nat) : Nat :=
  match s.get (.AUD_G_CFG_RATE g) with
  | 0 => 44100
  | 1 => 48000
  | _ => 96000

/-- E_k of R324. -/
def audE (fs k : Nat) : Nat := ceilDiv (k * fs) 1000
/-- Frames of block k. -/
def audN (fs k : Nat) : Nat := audE fs (k + 1) - audE fs k
/-- Frames of block k of a port. -/
def State.audFrames (s : State) (p k : Nat) : Nat := audN (s.audFs (s.audGroup p)) k
/-- How the port frames its samples (R321, R322). -/
def State.wireFmt (s : State) (p : Nat) : WireFmt :=
  { tdm := s.on (.AUD_P_CFG_TDM p), pulse := s.on (.AUD_P_CFG_FS_PULSE p), width := [16, 24, 32].getD (s.get (.AUD_P_CFG_SLOT_W p)) 32,
    slots := s.audSlots p }
/-- A port sends frames. -/
def State.sendAudio (s : State) (p : Nat) (frames : List (List Word)) : State := s.emit (.audio p (s.wireFmt p) frames)
/-- R333: in OFF, and in RESET, LOADING, HELD and RECOVERY, a port drives BCLK, FS and its TX data low. -/
def State.audLow (s : State) (p : Nat) : Bool :=
  s.audState p == apOff || s.devState == stReset || s.devState == stLoading || s.devState == stHeld || s.devState == stRecovery
/-- Frames of zeros. -/
def State.audZeros (s : State) (p n : Nat) : List (List Word) := List.replicate n (List.replicate (s.audSlots p) 0)

/-- R322: a word as the wire carries it: left-justified, the bits below the sample 0. -/
def State.audSample (s : State) (p : Nat) (w : Word) : Word :=
  if s.on (.AUD_P_CFG_SAMPLE24 p) then w &&& 0xFFFFFF00#32 else w &&& 0xFFFF0000#32

/-- STORE follows the elastic store. -/
def State.showStore (s : State) (p : Nat) : State := s.set (.AUD_P_STATE_STORE p) (s.aud p).store.length

/-- A block of a TX port is played as zeros (R327, R329). -/
def State.underrun (s : State) (p : Nat) : State :=
  (s.count (.AUD_P_CNT0_UNDERRUN p)).setB .AUD_INT_STATUS_UNDERRUN true

/-- R333: a master port runs its clocks for 16 frame periods; a TX port sends zeros with them. -/
def State.silentFrames (s : State) (p : Nat) : State :=
  if s.audSlave p then s
  else
    let s := s.emit (.audioClocks p (s.wireFmt p) 16)
    if s.audRx p then s else s.sendAudio p (s.audZeros p 16)

/-- R332: has PRESTART of a port in OFF begun by `t`? -/
def State.prestarts (s : State) (p : Nat) (t : Word) : Bool :=
  s.audState p == apOff && match (s.aud p).startAt with
    | some t0 => decide (0 ≤ wordDiff t t0)
    | none => false

/-- R332, R333: a port whose time has come enters PRESTART. -/
def State.prestart (s : State) (p : Nat) (t : Word) : State :=
  if s.prestarts p t then ((s.setAud p apPrestart).updAud p fun x => { x with startAt := none }).silentFrames p else s

/-! ### Firings and tricks (R324, R325) -/

/-- The trick that moves a block of port `p`. -/
def audioTrick (p c : Nat) : Trick :=
  { cls := .audio, index := p, issue := .trigger c, job := p, talon := none, master := some 10, dram := 0, load := 0, fed := [] }

/-- R325: firing `j` of the group issues a trick for port `p`. -/
def State.audioIssue (s : State) (p c j : Nat) : State :=
  let st := s.audState p
  let k? := if s.audRx p then (if 2 ≤ j then some (j - 2) else none) else some j
  match k? with
  | none => s
  | some k =>
    if st = apOff ∧ (s.aud p).startAt = none ∨ st = apStopping then s
    else
      let run : RunTrick := { trick := audioTrick p c, issueTick := s.tick, done := false, buf := none, eav := none, dueAt := none,
                              stale := false, coded := none }
      (s.updAud p fun x => { x with wants := x.wants ++ [k] }).updDealer fun d => { d with tricks := d.tricks ++ [run] }

/-- R324, R325, R332: group `g` takes a firing of its channel at `t`; the first one starts it, and its ports enter PRESTART 16 frame
periods before T_0. -/
def State.groupFire (s : State) (g c : Nat) (t : Word) : State :=
  let ports := (List.range 8).filter fun p => s.on (.AUD_P_CFG_EN p) && s.audGroup p == g
  let s := match s.audGrid g with
    | some _ => s
    | none =>
      let t0 := s.fullTime t + 1000000#64
      let s := { s with audio := { s.audio with groups := Tab.insert s.audio.groups g { fired := 0, t0 := t0 } } }
      let s := s.setW (.AUD_G_T0_VALUE g) (t0.setWidth 32)
      let t1 := t0.setWidth 32 - BitVec.ofNat 32 (16000000000 / s.audFs g)
      s.each ports fun s p => if s.audState p = apOff then s.updAud p fun x => { x with startAt := some t1 } else s
  match s.audGrid g with
  | none => s
  | some x =>
    let s := { s with audio := { s.audio with groups := Tab.insert s.audio.groups g { x with fired := x.fired + 1 } } }
    if s.dealing then s.each ports fun s p => s.audioIssue p c x.fired else s

/-- A channel's firing reaches the groups that name it; a group starts in DEALING only, and not once the hard-wired path has muted the
ports (R413). -/
def State.audioFire (s : State) (c : Nat) (t : Word) : State :=
  s.each ((List.range 8).filter fun g => s.on (.AUD_G_CFG_USED g) && s.get (.AUD_G_CFG_TRG g) == c &&
    (s.dealing && !s.sco.hard || (s.audGrid g).isSome)) fun s g => s.groupFire g c t

/-! ### Rings (R326 to R329) -/

/-- The address of the slot of block `k`. -/
def State.ringSlot (s : State) (p k : Nat) : Nat :=
  s.get (.AUD_P_RING_HI_BASE_HI p) * 2 ^ 32 + s.get (.AUD_P_RING_LO_BASE_LO p) * 4096 + k % s.get (.AUD_P_RING_HI_RING p) * 8192

/-- Words of a slot's samples, frame by frame. -/
def audioWords (slots : Nat) : Nat → List Byte → List (List Word)
  | 0, _ => []
  | n + 1, bs => ((List.range slots).map fun i => BitVec.ofNat 32 (leNat ((bs.drop (4 * i)).take 4))) :: audioWords slots n (bs.drop (4 * slots))

/-- R327: the fetch of block `k` into a TX port. -/
def State.fetchBlock (s : State) (p k : Nat) : State :=
  let a := s.ringSlot p k
  let hdr := readBytes Config.dramFill s.dram a 64
  let full := hdr[4]? == some 1
  let num := BitVec.ofNat 32 (leNat (hdr.take 4))
  let ahead := wordDiff num (BitVec.ofNat 32 k)
  let empty := fun (s : State) => s.storeBytes (a + 4) [0]
  let late : Bool := match (s.aud p).k with
    | some now => decide (k ≤ now)
    | none => false
  if late then empty s
  else
    let put := fun (s : State) (b : Option (List (List Word))) => s.updAud p fun x => { x with ready := x.ready ++ [(k, b)] }
    if s.audState p = apClockBad then empty ((put s none).underrun p)
    else if full ∧ ahead = 0 then
      let n := s.audFrames p k
      let bs := readBytes Config.dramFill s.dram (a + 64) (4 * n * s.audSlots p)
      empty (put s (some (audioWords (s.audSlots p) n bs)))
    else if full ∧ ahead < 0 then (empty ((put s none).underrun p)).count (.AUD_P_CNT2_STALE p)
    else if full then
      (((put s none).underrun p).count (.AUD_P_CNT0_OVERRUN p)).setB .AUD_INT_STATUS_OVERRUN true
    else (put s none).underrun p

/-- The header of an RX block (R326). -/
def State.ringHeader (s : State) (p : Nat) (b : RxBlock) : List Byte :=
  let t := (match s.audGrid (s.audGroup p) with | some g => g.t0 | none => 0#64) + BitVec.ofNat 64 (b.k * 1000000)
  let ext := s.epochValid
  leBytes 4 b.k ++ [1, BitVec.ofNat 8 (b2n ext + 2 * b2n b.zero + 4 * b2n b.drop + 8 * b2n b.rep), BitVec.ofNat 8 b.frames.length,
    BitVec.ofNat 8 (s.audSlots p)] ++ leBytes 8 (if ext then t.toNat else t.toNat % 2 ^ 32) ++ List.replicate 48 0

/-- R328: block `k` of an RX port is written to its slot. -/
def State.storeBlock (s : State) (p k : Nat) : State :=
  match (s.aud p).got.find? (·.k == k) with
  | none => s
  | some b =>
    let a := s.ringSlot p k
    let s := if Tab.get Config.dramFill s.dram (a + 4) = 1 then
        (s.count (.AUD_P_CNT0_OVERRUN p)).setB .AUD_INT_STATUS_OVERRUN true else s
    let s := s.storeBytes a (s.ringHeader p b ++ b.frames.flatMap fun f => f.flatMap fun w => leBytes 4 w.toNat)
    (s.updAud p fun x => { x with got := x.got.filter (·.k != k) }).set (.AUD_P_BLOCK_BLOCK p) k

/-- R271, R327, R328: the blocks that the trick of block `k` reads and that fail: the slot's header, and where a fetch finds the slot FULL
with number `k` the samples. -/
def State.slotBad (s : State) (p k : Nat) : List Nat :=
  let a := s.ringSlot p k
  let head := s.badBlocks a 64
  let hdr := readBytes Config.dramFill s.dram a 64
  if head.isEmpty && !s.audRx p && hdr[4]? == some 1 && BitVec.ofNat 32 (leNat (hdr.take 4)) == BitVec.ofNat 32 k then
    s.badBlocks a (64 + 4 * s.audFrames p k * s.audSlots p)
  else head

/-- Audio tricks of port `p` that met an error response. -/
def State.audioStale (s : State) (p : Nat) : Nat :=
  (s.dealer.tricks.filter fun r => r.trick.cls == .audio && r.trick.job == p && !r.done && r.stale).length

/-- R325: the oldest audio trick of port `p` that can, moves its block, and is complete. A block that fails is an error response to the
audio DMA, whose trick does not complete (R272, R374); those after it go on. -/
def State.audioFetch (s : State) (p : Nat) : State :=
  let i := s.audioStale p
  match (s.aud p).wants[i]? with
  | none => s
  | some k =>
    let bad := s.slotBad p k
    if !bad.isEmpty then (s.persistAll 52 bad).updDealer fun d => { d with tricks := stopFirst .audio p d.tricks }
    else
      let s := (s.updAud p fun x => { x with wants := x.wants.eraseIdx i }).updDealer fun d => { d with tricks := endFirst .audio p d.tricks }
      if s.audRx p then s.storeBlock p k else s.fetchBlock p k

/-- R30, R329: the oldest audio trick of port `p` was abandoned. -/
def State.audioAbandoned (s : State) (p : Nat) : State :=
  match (s.aud p).wants with
  | [] => s
  | k :: rest =>
    let s := (s.updAud p fun x => { x with wants := rest, got := x.got.filter (·.k != k) }).count (.AUD_P_CNT2_ABANDONED p)
    let played : Bool := match (s.aud p).k with
      | some now => decide (k ≤ now)
      | none => false
    if s.audRx p || played then s
    else (s.updAud p fun x => { x with ready := x.ready ++ [(k, none)] }).underrun p

/-! ### The alarm tone (R335) -/

/-- Fraction bits of the tone arithmetic. -/
def toneBits : Nat := 160

/-- The largest `x` below 2^n with x^20 ≤ `v`, starting from `x` found so far. -/
def root20 (v : Nat) : Nat → Nat → Nat
  | 0, x => x
  | n + 1, x => root20 v n (if (x + 2 ^ n) ^ 20 ≤ v then x + 2 ^ n else x)

/-- 10^(−L ÷ 20) with `toneBits` fraction bits. -/
def toneLevel (l : Nat) : Nat := root20 (2 ^ (toneBits * 20) / 10 ^ l) (toneBits + 1) 0

/-- 2π with `toneBits` fraction bits. -/
def toneTau : Int := 628318530717958647692528676655900576839433879875021 * 2 ^ toneBits / 10 ^ 50

/-- Terms of the sine series: `term` is the present one, `x2` the squared argument, `i` its order. -/
def sineTerms (x2 : Int) : Nat → Nat → Int → Int → Int
  | 0, _, _, acc => acc
  | n + 1, i, term, acc => sineTerms x2 n (i + 2) (-(term * x2 / 2 ^ toneBits) / ((i + 1) * (i + 2) : Nat)) (acc + term)

/-- sin(2π × φ ÷ 2^32) with `toneBits` fraction bits. -/
def toneSine (phi : Nat) : Int :=
  let q : Nat := phi % 2 ^ 32
  let h : Nat := q % 2 ^ 31
  let h : Nat := if h ≤ 2 ^ 30 then h else 2 ^ 31 - h
  let x := toneTau * h / 2 ^ 32
  let v := sineTerms (x * x / 2 ^ toneBits) 26 1 x 0
  if q < 2 ^ 31 then v else -v

/-- The nearest integer to `v` divided by 2^n. -/
def roundBits (v : Int) (n : Nat) : Int := (v + 2 ^ (n - 1)) / 2 ^ n

/-- R335: a tone sample of `w` bits at LEVEL `l` and phase `phi`. -/
def toneSample (w l phi : Nat) : Int := roundBits ((2 ^ (w - 1) - 1) * toneLevel l * toneSine phi) (2 * toneBits)

/-- The phase step of R335: round(FREQ × 2^32 ÷ fs). -/
def toneStep (freq fs : Nat) : Nat := (2 * freq * 2 ^ 32 + fs) / (2 * fs)

/-- R335: does the tone sound in block `k`; if so, the block at which the on-period began. -/
def State.toneOn (s : State) (k : Nat) : Option Nat :=
  match s.audio.tone with
  | none => none
  | some k0 =>
    let on := s.get .AUD_ALARM_CAD_ON_MS
    let off := s.get .AUD_ALARM_CAD_OFF_MS
    if k < k0 then none
    else if off = 0 then some k0
    else if (k - k0) % (on + off) < on then some (k - (k - k0) % (on + off))
    else none

/-- The frames of block `k` with the tone in the alarm slot. -/
def State.withTone (s : State) (p k k1 : Nat) (frames : List (List Word)) : List (List Word) :=
  let fs := s.audFs (s.audGroup p)
  let w := if s.on (.AUD_P_CFG_SAMPLE24 p) then 24 else 16
  let step := toneStep (s.get .AUD_ALARM_CFG_FREQ) fs
  let slot := s.get .AUD_ALARM_CFG_SLOT
  frames.mapIdx fun i f =>
    let v := toneSample w (s.get .AUD_ALARM_CFG_LEVEL) (step * (audE fs k - audE fs k1 + i))
    f.set slot (wordOfInt (v * 2 ^ (32 - w)))

/-- R335, R419: a start or stop order of the Scorer; in SAFE it stops no tone. -/
def State.toneOrder (s : State) (on : Bool) (t : Word) : State :=
  if !s.on .AUD_ALARM_CFG_EN || s.on .AUD_ALARM_STAT_ORDERED == on || (!on && s.devState == stSafe) then s
  else
    let s := (s.setB .AUD_ALARM_STAT_ORDERED on).setB .AUD_STATUS_ALARM_ON on
    let s := (s.set .AUD_ALARM_STAT_TICK s.tick16).setB .SCO_STATUS_TONE_ORDERED on
    { s with audio := { s.audio with orders := s.audio.orders ++ [(on, t)] } }.log 0x0702 [if on then 1 else 2]

/-- R335: an order takes effect with block `k`: the tone starts with it, or the slot is silent from it on. -/
def State.takeOrder (s : State) (k : Nat) (on : Bool) : State :=
  { s with audio := { s.audio with tone := if on then some k else none, silenced := !on } }.setB .AUD_INT_STATUS_ALARM true

/-- R335: each order takes effect at the first block boundary at least 50 µs after it, here with block `k`. -/
def State.toneEffect (s : State) (k : Nat) (t : Word) : State :=
  let due := s.audio.orders.filter fun e => decide (50000 ≤ wordDiff t e.2)
  let s := { s with audio := { s.audio with orders := s.audio.orders.filter fun e => decide (wordDiff t e.2 < 50000) } }
  s.each due fun s e => s.takeOrder k e.1

/-! ### Frames through the elastic store (R330, R331) -/

/-- Frames of the block that have moved by `t`. -/
def State.movedBy (s : State) (p : Nat) (t : Word) : Nat :=
  let x := s.aud p
  match x.k with
  | none => 0
  | some k => min (s.audFrames p k) ((wordDiff t x.began).toNat * s.audFs (s.audGroup p) / 1000000000)

/-- Move frames of the block up to `m`: from the store into the block (RX), or from the block into the store (TX). -/
def State.moveFrames (s : State) (p m : Nat) : State :=
  s.updAud p fun x =>
    let n := m - x.moved
    if s.audRx p then { x with frames := x.frames ++ x.store.take n, store := x.store.drop n, moved := max m x.moved }
    else { x with store := (x.store ++ x.frames.take n).take 16, frames := x.frames.drop n, moved := max m x.moved }

/-- R331: a slave port enters CLOCK_BAD with its cause (1 LOST, 2 RATE). -/
def State.clockBad (s : State) (p cause : Nat) : State :=
  let s := (s.setAud p apClockBad).set (.AUD_P_STATE_BAD_CAUSE p) cause
  let s := (s.count (.AUD_P_CNT2_CLOCK_BAD p)).setB .AUD_INT_STATUS_CLOCK_BAD true
  s.setB (.AUD_P_STATE_MUTED p) false

/-- R331: the store of a slave port in RUN has reached 0 or 16 frames: cause RATE. -/
def State.storeCheck (s : State) (p : Nat) : State :=
  let n := (s.aud p).store.length
  let s := s.showStore p
  if s.audSlave p ∧ s.audState p = apRun ∧ (n = 0 ∨ 16 ≤ n) then s.clockBad p 2 else s

/-- R330, R331, R333: an FS edge of a slave port at `t`; `frame` is the frame received by an RX port. -/
def State.fsEdge (s : State) (p : Nat) (frame : List Word) (t : Word) : State :=
  let s := s.prestart p t
  let st := s.audState p
  if s.audSlave p = false then s
  else if st = apRun then
    let s := (s.moveFrames p (s.movedBy p t)).storeCheck p
    if s.audState p ≠ apRun then s
    else if s.audRx p then (s.updAud p fun x => { x with store := x.store ++ [frame.map (s.audSample p)] }).storeCheck p
    else ((s.sendAudio p ((s.aud p).store.take 1)).updAud p fun x => { x with store := x.store.drop 1 }).storeCheck p
  else if (st = apPrestart ∨ st = apStopping) ∧ s.audRx p = false then s.sendAudio p (s.audZeros p 1)
  else s

/-- R331: no FS edge within 4 frame periods. -/
def State.audioClockLost (s : State) (p : Nat) : State :=
  if s.audSlave p ∧ s.audState p = apRun then s.clockBad p 1 else s

/-- R330: the slip control of a slave port: 1 drop, 2 repeat. -/
def State.slipOf (s : State) (p : Nat) : Nat :=
  let n := (s.aud p).store.length
  if s.audSlave p = false then 0 else if 10 ≤ n then 1 else if n ≤ 6 then 2 else 0

/-- R330: drop or repeat the last frame of a list. -/
def slipLast {α : Type} (slip : Nat) (xs : List α) : List α :=
  match slip with
  | 1 => xs.dropLast
  | 2 => xs ++ xs.drop (xs.length - 1)
  | _ => xs

/-! ### Block boundaries (R324, R327, R330 to R336) -/

/-- The block in progress ends: the rest of its frames move; an RX block is complete. -/
def State.endBlock (s : State) (p : Nat) (b : AudioBound) : State :=
  match (s.aud p).k with
  | none => s
  | some k =>
    let n := s.audFrames p k
    let bad := s.audState p == apClockBad
    if s.audRx p then
      let s := if s.audSlave p then
          (s.updAud p fun x => { x with store := slipLast x.slip x.store }).moveFrames p n
        else s.updAud p fun x => { x with frames := b.rx.map fun f => f.map (s.audSample p) }
      let x := s.aud p
      let frames := if bad ∨ s.on (.AUD_P_STATE_MUTED p) = true then s.audZeros p n
        else (x.frames ++ s.audZeros p (n - x.frames.length)).take n
      let blk : RxBlock := { k := k, frames := frames, zero := bad, drop := x.slip == 1, rep := x.slip == 2 }
      s.updAud p fun x => { x with got := x.got.filter (·.k != k) ++ [blk], frames := [] }
    else if s.audSlave p then
      s.updAud p fun x => { x with store := if bad then x.store else (x.store ++ x.frames).take 16, frames := [] }
    else s

/-- R327, R331, R336: the samples of block `k` of a TX port; LATE where its fetch has not completed. -/
def State.blockFrames (s : State) (p k : Nat) : State × List (List Word) :=
  let n := s.audFrames p k
  if s.dealing = false then (s, s.audZeros p n)
  else
    let found := (s.aud p).ready.find? (·.1 == k)
    let s := s.updAud p fun x => { x with ready := x.ready.filter fun r => decide (k < r.1) }
    match found with
    | some (_, some fs) => (s, fs)
    | some (_, none) => (s, s.audZeros p n)
    | none => ((s.underrun p).count (.AUD_P_CNT2_LATE p), s.audZeros p n)

/-- R335, R336, R420: the alarm slot of block `k`, the report of the frames that carry the tone, and ALARM_FAIL where a block that was to carry the tone carries none. -/
def State.alarmBlock (s : State) (p k : Nat) (fail : Bool) (frames : List (List Word)) : State × List (List Word) :=
  if s.alarmPort p = false then (s, frames)
  else
    let quiet := frames.map fun f => f.set (s.get .AUD_ALARM_CFG_SLOT) 0
    let on := s.toneOn k
    let s := (s.setB .AUD_ALARM_STAT_SOUNDING on.isSome).setB (.AUD_P_STATE_ALARM p) (on.isSome && !fail)
    let n := if on.isSome && !fail then frames.length else 0
    let s := { s with audio := { s.audio with told := some (k, n) } }
    match on with
    | none => (s, if s.audio.tone.isSome || s.audio.silenced then quiet else frames)
    | some k1 =>
      if fail then ((s.log 0x0701 (p :: by4 k)).setB .SCO_STATUS_TONE_FAIL true, quiet)
      else (s, s.withTone p k k1 frames)

/-- A TX or RX port begins block `k` in RUN, a master with its clocks (R323); MUTE spares the alarm slot (R334). -/
def State.beginBlock (s : State) (p k : Nat) (b : AudioBound) : State :=
  let mute := s.on (.AUD_P_CTRL_MUTE p)
  let s := s.setB (.AUD_P_STATE_MUTED p) mute
  let slip := s.slipOf p
  let s := match slip with
    | 1 => (s.count (.AUD_P_CNT1_SLIP_DROP p)).setB .AUD_INT_STATUS_SLIP true
    | 2 => (s.count (.AUD_P_CNT1_SLIP_REPEAT p)).setB .AUD_INT_STATUS_SLIP true
    | _ => s
  let s := s.updAud p fun x => { x with slip := slip }
  let s := if s.audSlave p then s else s.emit (.audioClocks p (s.wireFmt p) (s.audFrames p k))
  if s.audRx p then s
  else
    let (s, frames) := s.blockFrames p k
    let frames := frames.map fun f => f.mapIdx fun i w =>
      if mute && !(s.alarmPort p && i == s.get .AUD_ALARM_CFG_SLOT) then 0 else s.audSample p w
    let (s, frames) := s.alarmBlock p k b.toneFail frames
    let s := s.set (.AUD_P_BLOCK_BLOCK p) k
    if s.audSlave p then s.updAud p fun x => { x with frames := slipLast slip frames }
    else s.sendAudio p frames

/-- R331: is a measured rate within ±0.5 % of nominal? -/
def State.rateOk (s : State) (p rate : Nat) : Bool :=
  let fs := 100 * s.audFs (s.audGroup p)
  decide (199 * fs ≤ 200 * rate) && decide (200 * rate ≤ 201 * fs)

/-- R331, R332: the state a port takes at a block boundary. -/
def State.boundState (s : State) (p : Nat) (b : AudioBound) : State :=
  let eight := fun (s : State) => s.updAud p fun x => { x with store := s.audZeros p 8, slip := 0 }
  let good := match b.rate with
    | some r => s.rateOk p r
    | none => true
  match s.audState p with
  | 1 => (eight s).setAud p apRun
  | 2 => if s.audSlave p && !good then s.clockBad p 2 else s
  | 3 => if b.edges && b.rate.isSome && good then
      (eight s).setAud p apRun
    else s
  | _ => s

/-- R330 to R336: a block boundary of port `p`. -/
def State.audioBoundary (s : State) (p : Nat) (b : AudioBound) : State :=
  let s := s.prestart p b.t
  let st := s.audState p
  if st = apOff ∨ st = apStopping ∨ s.audGrid (s.audGroup p) = none then s
  else
    let k := match (s.aud p).k with
      | some k => k + 1
      | none => 0
    let s := ((s.endBlock p b).storeCheck p).updAud p fun x => { x with k := some k, moved := 0, began := b.t }
    let s := s.set (.AUD_G_BLOCK_VALUE (s.audGroup p)) k
    let s := match b.rate with
      | some r => if s.audSlave p then s.set (.AUD_P_RATE_RATE p) r else s
      | none => s
    let s := if s.alarmPort p then s.toneEffect k b.t else s
    let s := s.boundState p b
    let s := if s.audState p = apRun then s.beginBlock p k b
      else if s.audState p = apClockBad ∧ s.audRx p = false then ((s.blockFrames p k).1).updAud p fun x => { x with slip := 0 }
      else s.updAud p fun x => { x with slip := 0, ready := x.ready.filter fun r => decide (k < r.1) }
    s.showStore p

/-! ### States, start and stop (R332, R333) -/

/-- A port enters OFF: its blocks and store are given up; its audio tricks no longer run. -/
def State.audOff (s : State) (p : Nat) : State :=
  let s := (s.setAud p apOff).updAud p fun _ => .init
  ((s.setB (.AUD_P_STATE_MUTED p) false).setB (.AUD_P_STATE_ALARM p) false).showStore p

/-- R333: a stopping port has sent its 16 frame periods of zeros. -/
def State.stoppingEnd (s : State) (p : Nat) : State := if s.audState p = apStopping then s.audOff p else s

/-- R332, R333, R336: entry to SAFE: every active port but the alarm port stops, with 16 frame periods of zeros. -/
def State.audioSafe (s : State) : State :=
  s.each (List.range 8) fun s p =>
    let s := s.prestart p s.time.now
    if s.audState p = apOff then s.updAud p fun x => { x with startAt := none }
    else if s.alarmPort p then s.updAud p fun x => { x with wants := [], ready := [] }
    else
      let s := (s.setAud p apStopping).updAud p fun x => { x with wants := [], ready := [], got := [], store := [], frames := [] }
      (((s.setB (.AUD_P_STATE_MUTED p) false).showStore p).silentFrames p)

/-- R332: the device leaves DEALING other than for SAFE, or the hard-wired path mutes every port. -/
def State.audioOff (s : State) : State :=
  let s := s.each (List.range 8) State.audOff
  { s with audio := { s.audio with groups := [] } }

/-- R324, R332: entry to DEALING: every group is to start at the first firing of its channel. -/
def State.audioStart (s : State) : State := { s with audio := { s.audio with groups := [], orders := [], tone := none, silenced := false, told := none } }

/-- R334: a write of MUTE. -/
def State.muteWrite (s : State) (p : Nat) (v : Bool) : State := s.setB (.AUD_P_CTRL_MUTE p) v

end Sys2Proof.Machine
end

