-- ==== Sys2Proof/Machine/Chk.lean ====
section
/-!
DEFINITION. The check-value units CHK0 to CHK3 (R352 to R355).
-/

namespace Sys2Proof.Machine

open Sys2Proof

/-- The low `w` bits of `v` in reverse order. -/
def revBits : Nat → Nat → Nat
  | 0, _ => 0
  | w + 1, v => v % 2 * 2 ^ w + revBits w (v / 2)

/-- Eight steps of the shift register of width `w` (R352). -/
def chkShift (w poly : Nat) : Nat → Nat → Nat
  | 0, r => r
  | n + 1, r => chkShift w poly n (if bitOf r (w - 1) then (r * 2 % 2 ^ w) ^^^ poly else r * 2 % 2 ^ w)

/-- One byte fed to the register (R352). -/
def chkByte (w poly : Nat) (refin : Bool) (r x : Nat) : Nat :=
  chkShift w poly 8 (r ^^^ ((if refin then revBits 8 x else x) * 2 ^ (w - 8)))

/-- Width, polynomial, initial value and final exclusive-or of a unit, their low w bits. -/
def State.chkW (s : State) (n : Nat) : Nat := s.get (.CHK_CFG_WIDTH n)
def State.chkPoly (s : State) (n : Nat) : Nat := (s.word (Reg.CHK_POLY n)).toNat % 2 ^ s.chkW n
def State.chkInit (s : State) (n : Nat) : Nat := (s.word (Reg.CHK_INIT n)).toNat % 2 ^ s.chkW n
def State.chkXor (s : State) (n : Nat) : Nat := (s.word (Reg.CHK_XOR n)).toNat % 2 ^ s.chkW n

/-- R352: START. -/
def State.chkStart (s : State) (n : Nat) : State :=
  let s := (s.setWord (Reg.CHK_RUN n) (BitVec.ofNat 32 (s.chkInit n))).setWord (Reg.CHK_COUNT n) 0
  (s.setB (.CHK_ALIVE_REPEAT n) false).setB (.CHK_ALIVE_GAP n) false

/-- R354: the alive check of a byte. -/
def State.chkAlive (s : State) (n x : Nat) : State :=
  let m := if s.on (.CHK_CFG_ALIVE_W n) then 256 else 16
  let v := x % m
  let prev := s.get (.CHK_ALIVE_PREV n)
  let s :=
    if s.on (.CHK_ALIVE_PREV_VALID n) = false then s
    else if v = prev then s.setB (.CHK_ALIVE_REPEAT n) true
    else if s.on (.CHK_CFG_STEP n) ∧ v ≠ (prev + 1) % m then s.setB (.CHK_ALIVE_GAP n) true
    else s
  (s.set (.CHK_ALIVE_PREV n) v).setB (.CHK_ALIVE_PREV_VALID n) true

/-- R352, R354: one byte is fed. -/
def State.chkFeed (s : State) (n : Nat) (x : Byte) : State :=
  let c := s.word (Reg.CHK_COUNT n)
  let s := if s.on (.CHK_CFG_ALIVE_EN n) ∧ c.toNat = s.get (.CHK_CFG_ALIVE_POS n) then s.chkAlive n x.toNat else s
  let r := chkByte (s.chkW n) (s.chkPoly n) (s.on (.CHK_CFG_REFIN n)) ((s.word (Reg.CHK_RUN n)).toNat % 2 ^ s.chkW n) x.toNat
  (s.setWord (Reg.CHK_RUN n) (BitVec.ofNat 32 r)).setWord (Reg.CHK_COUNT n) (c + 1)

/-- R353: a write of `k` bytes, lowest first. -/
def State.chkData (s : State) (n k : Nat) (w : Word) : State := s.each (leBytes k w.toNat) fun s b => s.chkFeed n b

/-- R352: the result, computed when CHK_RESULT is read. -/
def State.chkResult (s : State) (n : Nat) : Word :=
  let w := s.chkW n
  let r := (s.word (Reg.CHK_RUN n)).toNat % 2 ^ w
  BitVec.ofNat 32 ((if s.on (.CHK_CFG_REFOUT n) then revBits w r else r) ^^^ s.chkXor n)

/-- R352: a write of CHK_CFG: a WIDTH outside 8 to 32 is ignored with CFG_ERR; START starts a computation. -/
def State.chkCfg (s : State) (n : Nat) (v : Word) : State :=
  let width := Fld.of (.CHK_CFG_WIDTH n) v
  let bad := width < 8 ∨ 32 < width
  let s := ((s.set (.CHK_CFG_REFIN n) (Fld.of (.CHK_CFG_REFIN n) v)).set (.CHK_CFG_REFOUT n) (Fld.of (.CHK_CFG_REFOUT n) v)).set
    (.CHK_CFG_ALIVE_EN n) (Fld.of (.CHK_CFG_ALIVE_EN n) v)
  let s := ((s.set (.CHK_CFG_ALIVE_W n) (Fld.of (.CHK_CFG_ALIVE_W n) v)).set (.CHK_CFG_STEP n) (Fld.of (.CHK_CFG_STEP n) v)).set
    (.CHK_CFG_ALIVE_POS n) (Fld.of (.CHK_CFG_ALIVE_POS n) v)
  let s := if bad then s.setB (.CHK_ALIVE_CFG_ERR n) true else s.set (.CHK_CFG_WIDTH n) width
  if Fld.of (.CHK_CFG_START n) v = 1 then s.chkStart n else s

end Sys2Proof.Machine
end

