-- ==== Sys2Proof/Machine/Log.lean ====
section
/-!
DEFINITION. The event log (R426 to R432, R434): records, areas, counters, header copies, the write of a queued record, the
scan at a device start, and what GET_LOG returns.
-/

namespace Sys2Proof.Machine

open Sys2Proof

/-! ### The MRAM (R427) -/

/-- Bytes of the MRAM from an offset. -/
def State.mramBytes (s : State) (a n : Nat) : List Byte := readBytes 0 s.mram a n
/-- Write bytes of the MRAM. -/
def State.mramPut (s : State) (a : Nat) (bs : List Byte) : State := { s with mram := writeBytes 0 s.mram a bs }
/-- A number held in the MRAM. -/
def State.mramNum (s : State) (a n : Nat) : Nat := leNat (s.mramBytes a n)

/-- Records of an area (0 permanent, 1 ring, 2 sealed ring), and where its record `i` stands. -/
def logSize (area : Nat) : Nat := match area with | 0 => 57216 | 1 => 65536 | _ => 8192
def logAt (area i : Nat) : Nat :=
  match area with
  | 0 => 0x41000 + 32 * i
  | 1 => 0x200000 + 32 * (i % 65536)
  | _ => 0x1000 + 32 * (i % 8192)

/-- Does a header copy or record of `n` bytes end in its CRC? -/
def sealOk (bs : List Byte) : Bool :=
  let n := bs.length - 4
  leNat (bs.drop n) == (crc32c (bs.take n)).toNat

/-- Bytes with their CRC behind them. -/
def sealed (bs : List Byte) : List Byte := bs ++ leBytes 4 (crc32c bs).toNat

/-- The next index of an area, and a way to set it. -/
def State.logNext (s : State) (area : Nat) : Nat :=
  match area with
  | 0 => (s.word Reg.LOG_PERM_NEXT).toNat
  | 1 => (s.word Reg.LOG_RING_NEXT).toNat
  | _ => s.logs.sealedNext
def State.setLogNext (s : State) (area n : Nat) : State :=
  match area with
  | 0 => s.setWord Reg.LOG_PERM_NEXT (BitVec.ofNat 32 n)
  | 1 => s.setWord Reg.LOG_RING_NEXT (BitVec.ofNat 32 n)
  | _ => { s with logs := { s.logs with sealedNext := n } }

/-- SEQ_NEXT. -/
def State.logSeq (s : State) : Nat := (s.word Reg.LOG_SEQ).toNat

/-- R428: the older header copy is rewritten with the generation incremented. -/
def State.writeHeader (s : State) : State :=
  let gen := s.logs.gen + 1
  let copy := 1 - s.logs.copy
  let body := leBytes 4 0x4B524C47 ++ leBytes 4 gen ++ leBytes 4 (s.word Reg.LOG_START).toNat ++ leBytes 4 s.logSeq
    ++ leBytes 4 (s.logNext 0) ++ leBytes 4 (s.logNext 1) ++ leBytes 4 (s.logNext 2) ++ leBytes 1 (s.get .SCO_STATUS_AUTO_RESTARTS)
    ++ leBytes 1 (s.get .LOG_STATUS_PERM_FULL) ++ List.replicate 30 0
  let s := s.mramPut (64 * copy) (sealed body)
  { s with logs := { s.logs with gen := gen, copy := copy } }

/-! ### Writing a record (R426, R428, R430) -/

/-- The 32 bytes of a record. -/
def State.recordOf (s : State) (r : LogRec) : List Byte :=
  let area := logArea r.event
  let flags := b2n r.ext + 2 * b2n (area == 0) + 4 * b2n (area == 2)
  let time := if r.ext then r.time.toNat else r.time.toNat % 2 ^ 32
  sealed (leBytes 4 s.logSeq ++ leBytes 2 r.event ++ leBytes 1 r.dev ++ leBytes 1 flags ++ leBytes 8 time
    ++ leBytes 2 r.tick.toNat ++ leBytes 2 (s.word Reg.LOG_START).toNat ++ (r.args ++ List.replicate 8 0).take 8)

/-- The area a record goes to: a permanent one goes to the ring when PERM_FULL is 1 or 256 have been written. -/
def State.recordArea (s : State) (r : LogRec) : Nat :=
  let a := logArea r.event
  if a = 0 ∧ (s.on .LOG_STATUS_PERM_FULL = true ∨ 256 ≤ s.logs.perms) then 1 else a

/-- R427, R428: the counter of an event; the sealed one stands apart. -/
def State.countEvent (s : State) (event : Nat) : State :=
  let a := if logArea event = 2 then 0x800 else 0x200 + 8 * (logRows.findIdx fun x => x.1 == event)
  s.mramPut a (leBytes 8 (min (s.mramNum a 8 + 1) (2 ^ 64 - 1)))

/-- R428: a record is written to its area, counted, and the older header copy rewritten. -/
def State.writeRecord (s : State) (r : LogRec) : State :=
  let area := s.recordArea r
  let i := s.logNext area
  let s := s.mramPut (logAt area i) (s.recordOf r)
  let s := (s.setLogNext area (i + 1)).setWord Reg.LOG_SEQ (BitVec.ofNat 32 (s.logSeq + 1))
  let s := if area = 0 then { s with logs := { s.logs with perms := s.logs.perms + 1 } } else s
  let s := if area = 0 ∧ i + 1 = 57216 then s.setB .LOG_STATUS_PERM_FULL true else s
  (s.countEvent r.event).writeHeader

/-- R428: the oldest queued record is written; once there is room, records lost are reported. -/
def State.logWrite (s : State) : State :=
  if s.on .LOG_STATUS_READY = false then s
  else match s.sco.queue with
    | [] => s
    | r :: rest =>
      let n := s.sco.dropped
      let s := { s with sco := { s.sco with queue := rest, dropped := 0 } }.writeRecord r
      if n = 0 then s else s.log 0x0109 (by2 (min n 65535))

/-- Every queued record is written (R428), before the Scorer asks for a reset. -/
def State.logFlush (s : State) : State := s.each (List.range 512) fun s _ => s.logWrite

/-- R430: a supply loss after `n` bytes of the record in progress. -/
def State.tornRecord (s : State) (n : Nat) : State :=
  if s.on .LOG_STATUS_READY = false then s
  else match s.sco.queue with
    | [] => s
    | r :: _ =>
      let area := s.recordArea r
      s.mramPut (logAt area (s.logNext area)) ((s.recordOf r).take n)

/-! ### A device start (R429) -/

/-- A record of an area as it stands. -/
def State.recordAt (s : State) (area i : Nat) : List Byte := s.mramBytes (logAt area i) 32

/-- Scan an area forward over valid records at or above a SEQ: how many, the highest SEQ met, and whether the scan
ended at a record that is neither valid nor blank. -/
def State.scanArea (s : State) (area seq : Nat) : Nat → Nat → Nat → Nat → Nat × Nat × Bool
  | 0, _, k, top => (k, top, false)
  | n + 1, i, k, top =>
    let r := s.recordAt area i
    if sealOk r then
      if seq ≤ leNat (r.take 4) then s.scanArea area seq n (i + 1) (k + 1) (max top (leNat (r.take 4))) else (k, top, false)
    else (k, top, r.any (· != 0))

/-- Indices of an area at which some byte is not 0. -/
def State.usedRecords (s : State) (area : Nat) : List Nat :=
  uniq ((s.mram.filter fun e => decide (logAt area 0 ≤ e.1 ∧ e.1 < logAt area 0 + 32 * logSize area)).map fun e => (e.1 - logAt area 0) / 32)

/-- Valid records of an area: (index, SEQ). -/
def State.validRecords (s : State) (area : Nat) : List (Nat × Nat) :=
  (s.usedRecords area).filterMap fun i =>
    let r := s.recordAt area i
    if sealOk r then some (i, leNat (r.take 4)) else none

/-- The valid record of highest SEQ. -/
def topRecord (xs : List (Nat × Nat)) : Option (Nat × Nat) :=
  xs.foldl (fun a x => match a with
    | none => some x
    | some y => if y.2 < x.2 then some x else a) none

/-- A valid header copy: its generation. -/
def State.headerGen (s : State) (copy : Nat) : Option Nat :=
  let h := s.mramBytes (64 * copy) 64
  if sealOk h ∧ leNat (h.take 4) = 0x4B524C47 then some (leNat ((h.drop 4).take 4)) else none

/-- Take pointers and counts from header copy `c`, then scan each area forward. -/
def State.takeHeader (s : State) (c gen : Nat) : State :=
  let at_ := fun off n => s.mramNum (64 * c + off) n
  let s := { s with logs := { s.logs with gen := gen, copy := c } }
  let s := (s.setWord Reg.LOG_START (BitVec.ofNat 32 (at_ 8 4))).setWord Reg.LOG_SEQ (BitVec.ofNat 32 (at_ 12 4))
  let s := ((s.setLogNext 0 (at_ 16 4)).setLogNext 1 (at_ 20 4)).setLogNext 2 (at_ 24 4)
  let s := (s.set .SCO_STATUS_AUTO_RESTARTS (at_ 28 1)).setB .LOG_STATUS_PERM_FULL (bitOf (at_ 29 1) 0)
  let seq := at_ 12 4
  let s := s.each [0, 1, 2] fun s a =>
    let i := s.logNext a
    let (k, top, bad) := s.scanArea a seq (if a = 0 then 57216 - i else logSize a) i 0 0
    let s := if bad then s.count .LOG_DROP_CRC_BAD else s
    if k = 0 then s
    else ((s.setLogNext a (i + k)).setB .LOG_STATUS_HDR_REPAIRED true).setWord Reg.LOG_SEQ
      (BitVec.ofNat 32 (max s.logSeq (top + 1)))
  if s.logNext 0 = 57216 then s.setB .LOG_STATUS_PERM_FULL true else s

/-- A fresh header, no copy being valid. -/
def State.freshHeader (s : State) : State :=
  let tops := [0, 1, 2].map fun a => topRecord (s.validRecords a)
  let next := fun (a : Nat) => match (tops[a]?).join with
    | some x => x.1 + 1
    | none => 0
  let seq := (tops.map fun t => match t with | some x => x.2 + 1 | none => 1).foldl max 1
  let s := { s with logs := { LogSt.init with copy := 1 } }
  let s := ((s.setLogNext 0 (next 0)).setLogNext 1 (next 1)).setLogNext 2 (next 2)
  let s := (s.setWord Reg.LOG_SEQ (BitVec.ofNat 32 seq)).setWord Reg.LOG_START 0
  (s.set .SCO_STATUS_AUTO_RESTARTS 0).setB .LOG_STATUS_PERM_FULL (decide ((s.validRecords 0).length = 57216))

/-- The valid header copy with the newer generation, and that generation. -/
def newerHeader : Option Nat → Option Nat → Option (Nat × Nat)
  | some a, some b => if a < b then some (1, b) else some (0, a)
  | some a, none => some (0, a)
  | none, some b => some (1, b)
  | none, none => none

/-- R429: the pointers and counts a device start goes on from. -/
def State.loadHeader (s : State) : State :=
  match newerHeader (s.headerGen 0) (s.headerGen 1) with
  | some (c, g) => s.takeHeader c g
  | none => s.freshHeader

/-- R413, R429: the records of a device start: the reset causes, and a latch word, which is then cleared. -/
def State.startRecords (s : State) (causes latch : Nat) : State :=
  let s := s.log 0x0102 [causes, latch]
  if latch = 0 then s else (s.log 0x0103 [latch]).mramPut 0x80 [0, 0, 0, 0]

/-- R429: the Scorer takes the log up at a device start with the reset causes `causes`. -/
def State.logStart (s : State) (causes : Nat) : State :=
  let s := s.loadHeader
  let s := { s with logs := { s.logs with perms := 0 } }
  let s := s.setWord Reg.LOG_START (s.word Reg.LOG_START + 1)
  let s := if causes % 4 ≠ 0 then s.set .SCO_STATUS_AUTO_RESTARTS 0 else s
  ((s.startRecords causes (s.mramNum 0x80 4)).writeHeader).setB .LOG_STATUS_READY true

/-! ### GET_LOG (R432) and reads of the window (R428) -/

/-- R432, R346: what GET_LOG returns within `room` bytes of payload, none for RANGE. -/
def State.getLog (s : State) (area first count room : Nat) : Option (List Byte) :=
  if area = 2 then some (leBytes 1 2 ++ leBytes 4 0 ++ leBytes 1 (min 64 ((room - 6) / 8)) ++ (s.mramBytes 0x200 512).take (min 64 ((room - 6) / 8) * 8))
  else if 2 < area ∨ count = 0 ∨ s.logNext area ≤ first then none
  else
    let next := s.logNext area
    let from_ := if area = 1 then max first (next - 65536) else first
    let n := min (min (min count 30) (next - from_)) ((room - 6) / 32)
    some (leBytes 1 area ++ leBytes 4 from_ ++ leBytes 1 n ++ (List.range n).flatMap fun i => s.recordAt area (from_ + i))

/-- R428: a byte of the MRAM window as a master other than M9 reads it, or as M9 does. -/
def State.mramRead (s : State) (debug : Bool) (a : Nat) : Byte :=
  let hidden := decide (0x1000 ≤ a ∧ a < 0x41000) || decide (0x800 ≤ a ∧ a < 0x808)
  if hidden && !debug then 0 else Tab.get 0 s.mram a

end Sys2Proof.Machine
end

