-- ==== Sys2Proof/Machine/Flash.lean ====
section
/-!
DEFINITION. The device reset (R385, R386), the flash (R389), pointers (R390, R393), manifests and the verification of a slot
(R391, R392).
-/

namespace Sys2Proof.Machine

open Sys2Proof

/-! ### Device reset (R385, R386) -/

/-- Causes of R385 as bits. -/
def rstPowerOn : Nat := 1
def rstPin : Nat := 2
def rstScorer : Nat := 4
def rstSoftware : Nat := 8

/-! ### Fuses and their sensing (R376, R377, R379, R382) -/

/-- Change the platform. -/
def State.updPlat (s : State) (f : PlatSt → PlatSt) : State := { s with plat := f s.plat }
/-- Lifecycles (R377). -/
def lcBlank : Nat := 0
def lcLab : Nat := 1
def lcField : Nat := 2
def lcRetired : Nat := 3

/-- The lifecycle in force. -/
def State.lifecycle (s : State) : Nat := s.get .FUS_LIFECYCLE_STATE

/-- R377: the lifecycle of bits [2:0] of fuse word 0. -/
def lifecycleOf (raw : Nat) : Nat :=
  match raw with
  | 0 => lcBlank
  | 1 => lcLab
  | 3 => lcField
  | _ => lcRetired

/-- R376: a fuse word as its cells stand: a bit is 1 when either of its two cells is blown. -/
def State.cell (s : State) (w : Nat) : Word := Tab.get 0 s.plat.fuses w ||| Tab.get 0 s.plat.fusesB w

/-- R379: consecutive set bits from bit 0. -/
def onesFrom (n : Nat) : Nat → Nat → Nat
  | 0, k => k
  | m + 1, k => if bitOf n k then onesFrom n m (k + 1) else k

/-- R379: the anti-rollback count that the cells give. -/
def State.rollbackCells (s : State) : Nat := onesFrom ((s.cell 3).toNat + (s.cell 4).toNat * 2 ^ 32) 64 0

/-- R382: a new nonce. -/
def State.newNonce (s : State) : State :=
  let (v, s) := s.fresh
  s.updPlat fun p => { p with nonce := v }

/-- R376, R384: the fuse array is sensed into the FUS registers, and a nonce drawn. -/
def State.senseFuses (s : State) : State :=
  let raw := (s.cell 0).toNat % 8
  let zero1 := (List.range 8).all fun w => s.cell (8 + w) == 0
  let zero2 := (List.range 8).all fun w => s.cell (16 + w) == 0
  let keys := b2n (!zero1) + 2 * b2n (!zero2) + 4 * ((s.cell 5).toNat % 2)
  let s := (s.set .FUS_LIFECYCLE_STATE (lifecycleOf raw)).set .FUS_LIFECYCLE_RAW raw
  let s := (s.setW .FUS_SERIAL_LO_SERIAL (s.cell 1)).setW .FUS_SERIAL_HI_SERIAL (s.cell 2)
  let s := (s.set .FUS_ROLLBACK_COUNT s.rollbackCells).set .FUS_KEYSTAT_KEYS keys
  let pol := (s.cell 6).toNat
  let s := (s.set .FUS_DBG_POLICY_LAB pol).set .FUS_DBG_POLICY_FIELD (pol / 16)
  let s := s.each (List.range 8) fun s w =>
    (s.setW (.FUS_KEYHASH1_HASH w) (s.cell (8 + w))).setW (.FUS_KEYHASH2_HASH w) (s.cell (16 + w))
  let s := s.each (List.range 8) fun s e =>
    let a := s.cell (25 + 2 * e)
    ((s.setW (.FUS_SOMAP_BASE_BASE e) (s.cell (24 + 2 * e))).setW (.FUS_SOMAP_ATTR_SIZE e) a).setW
      (.FUS_SOMAP_ATTR_READ e) (a >>> 16)
  s.newNonce

/-- R376, R377, R379: fuse cells after a programming request that a reset cuts short. Its bits come one at a time in ascending order,
so those below a bit that the spec does not name are blown; of that bit's two cells each may be. -/
def cutFuses (s : State) : Tab Word × Tab Word × State :=
  match s.plat.prog with
  | none => (s.plat.fuses, s.plat.fusesB, s)
  | some (w, v) =>
    let (k, s) := s.fresh
    let n := k.toNat % 33
    let blown := fun (b : Nat) => (v &&& BitVec.ofNat 32 (2 ^ n - 1)) ||| if k.getLsbD b then v &&& BitVec.ofNat 32 (2 ^ n) else 0
    (Tab.upd 0 s.plat.fuses w fun x => x ||| blown 32, Tab.upd 0 s.plat.fusesB w fun x => x ||| blown 33, s)

/-- R376, R385, R386, R438: the device enters RESET with a cause, or a further cause comes while it is there: the fuse array is sensed
and a nonce drawn; the fuses, the flash, the MRAM and the sample of BOOT_RCV_N are kept, and the cause bits of earlier resets but for a power-on. -/
def State.deviceReset (s : State) (cause : Nat) : State :=
  let cause := if s.devState = 1 then cause ||| s.boot.cause else cause
  let old := if bitOf cause 0 then 0 else (s.word Reg.BKR_RST_CAUSE).toNat
  let (a, b, s) := cutFuses s
  let plat := { PlatSt.init with fuses := a, fusesB := b }
  let r : State :=
    { State.reset with
      flash := s.flash
      mram := s.mram
      plat := plat
      freeCtr := s.freeCtr
      out := s.out
      pending := s.pending }
  ({ r with boot := { BootSt.init with cause := cause, rcvPin := s.boot.rcvPin } }.setWord Reg.BKR_RST_CAUSE (BitVec.ofNat 32 (old ||| cause))).senseFuses

/-! ### Flash and pointers (R389, R390, R393) -/

/-- An erased byte. -/
def flashFill : Byte := 0xFF

/-- Bytes of the flash. -/
def State.flashBytes (s : State) (a n : Nat) : List Byte := readBytes flashFill s.flash a n
/-- Program bytes of the flash. -/
def State.flashPut (s : State) (a : Nat) (bs : List Byte) : State := { s with flash := writeBytes flashFill s.flash a bs }
/-- Erase a sector of 64 KiB. -/
def State.flashErase (s : State) (sector : Nat) : State :=
  { s with flash := s.flash.filter fun e => decide (e.1 / 0x10000 ≠ sector) }

/-- Where a slot and its image half stand. -/
def slotBase (slot : Nat) : Nat := if slot = 0 then 0x100000 else 0x1900000
def halfBase (slot : Nat) : Nat := if slot = 0 then 0x3100000 else 0x3500000

/-- A pointer (R390): PREVIOUS none for 0xFF. -/
structure Ptr where
  seq : BitVec 32
  active : Nat
  trial : Bool
  tries : Nat
  previous : Option Nat
  deriving DecidableEq, Repr

/-- The 64 bytes of a pointer. -/
def Ptr.bytes (p : Ptr) : List Byte :=
  sealed (leBytes 4 0x4B525054 ++ leBytes 4 p.seq.toNat ++ leBytes 1 p.active ++ leBytes 1 (b2n p.trial) ++ leBytes 1 p.tries
    ++ leBytes 1 (p.previous.getD 0xFF) ++ List.replicate 48 0)

/-- A pointer copy, when valid. -/
def State.ptrCopy (s : State) (copy : Nat) : Option Ptr :=
  let b := s.flashBytes (0x10000 * copy) 64
  let num := fun off n => leNat ((b.drop off).take n)
  if sealOk b ∧ num 0 4 = 0x4B525054 ∧ num 8 1 ≤ 1 ∧ (num 11 1 ≤ 1 ∨ num 11 1 = 0xFF) then
    some { seq := BitVec.ofNat 32 (num 4 4), active := num 8 1, trial := bitOf (num 9 1) 0, tries := num 10 1,
           previous := if num 11 1 = 0xFF then none else some (num 11 1) }
  else none

/-- R390: the pointer in force with its copy number. -/
def State.pointer (s : State) : Option (Nat × Ptr) :=
  match s.ptrCopy 0, s.ptrCopy 1 with
  | some a, some b => if seqNewer b.seq a.seq then some (1, b) else some (0, a)
  | some a, none => some (0, a)
  | none, some b => some (1, b)
  | none, none => none

/-- R390: write a pointer to the copy not in force; the second failed read-back fails the operation, leaving that copy
erased. -/
def State.writePtr (s : State) (f : FlashIn) (p : Ptr) : State × Bool :=
  let (copy, seq) := match s.pointer with
    | some (c, q) => (1 - c, q.seq + 1)
    | none => (0, 1)
  let s := s.flashErase copy
  if 2 ≤ f.badWrites then (s, false)
  else (s.flashPut (0x10000 * copy) { p with seq := seq }.bytes, true)

/-- R393: the pointer goes back to PREVIOUS, and the device is reset (SOFTWARE). With no PREVIOUS the code for none is written as
ACTIVE, so that copy is not valid (log 94). -/
def State.revert (s : State) (f : FlashIn) (p : Ptr) : State :=
  let prev := p.previous.getD 0xFF
  let (s, _) := s.writePtr f { seq := 0, active := prev, trial := false, tries := 0, previous := none }
  (s.log 0x0108 [5, prev]).deviceReset rstSoftware

/-! ### Manifests (R391, R392) -/

/-- A number of a slot's manifest. -/
def manNum (m : List Byte) (off n : Nat) : Nat := leNat ((m.drop off).take n)

/-- Part entries with a KIND: (kind, offset, length, digest). -/
def manParts (m : List Byte) : List (Nat × Nat × Nat × List Byte) :=
  (List.range 8).map fun i =>
    let e := (m.drop (0x40 + 48 * i)).take 48
    (manNum e 0 1, manNum e 4 4, manNum e 8 4, (e.drop 16).take 32)

/-- Largest LENGTH of a part. -/
def partMax (kind : Nat) : Nat :=
  match kind with
  | 1 => 0x300000 | 2 => 0x20000 | 3 => 0x80000 | 4 => 0x40000 | 5 => 0x40000 | 6 => 0x10000 | _ => 0x400000

/-- R391: are the part entries as required? -/
def partsOk (m : List Byte) : Bool :=
  let es := (List.range 8).map fun i => (m.drop (0x40 + 48 * i)).take 48
  ((List.range 8).drop 1).all (fun k => (es.filter fun e => manNum e 0 1 == k).length == 1) &&
    es.all fun e => if manNum e 0 1 = 0 then e.all (· == 0) else
      decide (manNum e 0 1 ≤ 7) && manNum e 1 3 == 0 && manNum e 12 4 == 0

/-- Bytes of a part of slot `slot`. -/
def State.partBytes (s : State) (slot kind off len : Nat) : List Byte :=
  s.flashBytes ((if kind = 7 then halfBase slot else slotBase slot) + off) len

/-- R392: does a part lie within its area and limit and have its digest? -/
def State.partGood (s : State) (slot : Nat) (e : Nat × Nat × Nat × List Byte) : Bool :=
  let (kind, off, len, digest) := e
  let area := if kind = 7 then 0x400000 else 0x1800000
  decide (off + len ≤ area) && decide (len ≤ partMax kind) && decide (sha256 (s.partBytes slot kind off len) = digest)

/-- The manifest of a slot. -/
def State.manifest (s : State) (slot : Nat) : List Byte := s.flashBytes (slotBase slot) 576

/-- A key hash as fused: the 32 bytes of FUS_KEYHASH1 or FUS_KEYHASH2. -/
def State.keyHash (s : State) (key : Nat) : List Byte :=
  (List.range 8).flatMap fun w => leBytes 4 (s.word (if key = 2 then Reg.FUS_KEYHASH2 w else Reg.FUS_KEYHASH1 w)).toNat

/-- KEY2_REVOKED. -/
def State.key2Revoked (s : State) : Bool := bitOf (s.get .FUS_KEYSTAT_KEYS) 2

/-- R392: the result of a slot, of its parts those of some kinds being checked: 1 OK, else the first failing check. -/
def State.verifyParts (s : State) (f : FlashIn) (slot : Nat) (kinds : List Nat) : Nat :=
  let m := s.manifest slot
  let key := manNum m 7 1
  let pub := (m.drop 0x1C0).take 64
  if f.unread.contains slot then 7
  else if manNum m 0 4 ≠ 0x4B524D46 ∨ manNum m 4 2 ≠ 0x5120 ∨ manNum m 6 1 ≠ 1 ∨ partsOk m = false then 2
  else if (key ≠ 1 ∧ key ≠ 2) ∨ (key = 2 ∧ s.key2Revoked = true) ∨ sha256 pub ≠ s.keyHash key then 3
  else if ecdsaOk pub ((m.drop 0x200).take 64) (m.take 0x200) = false then 4
  else if manNum m 8 1 < s.get .FUS_ROLLBACK_COUNT then 5
  else if ((manParts m).filter fun e => kinds.contains e.1).all (s.partGood slot) then 1
  else 6

/-- R392: a slot's result is shown in BKR_BOOT_ERR. -/
def State.setSlotErr (s : State) (slot r : Nat) : State :=
  if slot = 0 then s.set .BKR_BOOT_ERR_SLOT_A r else s.set .BKR_BOOT_ERR_SLOT_B r

/-- R392: the result of a slot. -/
def State.verifySlot (s : State) (f : FlashIn) (slot : Nat) : Nat := s.verifyParts f slot [1, 2, 3, 4, 5, 6, 7]

/-- IMG_FORMAT and MIG_FLOOR of a slot. -/
def State.imgFormat (s : State) (slot : Nat) : Nat := manNum (s.manifest slot) 0x10 2
def State.migFloor (s : State) (slot : Nat) : Nat := manNum (s.manifest slot) 0x12 2

/-- The running slot (R393). -/
def State.runSlot (s : State) : Nat := s.get .BKR_BOOT_RUN_SLOT

end Sys2Proof.Machine
end

