-- ==== Sys2Proof/Machine/Platform.lean ====
section
/-!
DEFINITION. The platform (R358 to R360, R376 to R383, R396): fuses and their programming, the debug port's own
instructions, the unlock token, Banker resets, the Banker watchdog and heartbeat, and the warm path.
-/

namespace Sys2Proof.Machine

open Sys2Proof

/-! ### Fuses (R376 to R379) -/

/-- The table of R378: lifecycles and masters that may program a word; none for the factory's and for words outside it. -/
def fuseGroup (w : Nat) : Option (List Nat × List Nat) :=
  if w = 0 then some ([lcBlank, lcLab, lcField], [0, 9])
  else if w = 3 ∨ w = 4 ∨ w = 5 then some ([lcLab, lcField], [0])
  else if w = 6 then some ([lcBlank, lcLab], [0, 9])
  else if 8 ≤ w ∧ w ≤ 23 then some ([lcBlank], [9])
  else if 24 ≤ w ∧ w ≤ 39 then some ([lcBlank, lcLab], [0, 9])
  else none

/-- R379: an anti-rollback request names a bit that is not the lowest unset one, or the count is 64. The words' bits are
judged as their cells stand. -/
def State.rollbackBad (s : State) (w : Nat) (v : Word) : Bool :=
  let n := s.rollbackCells
  (w == 3 || w == 4) && (decide (64 ≤ n) || decide (v ≠ 0 ∧ (n / 32 ≠ w - 3 ∨ v.toNat ≠ 2 ^ (n % 32))))

/-- R7, R379: the answer to a programming request of master `m`. -/
def State.fuseAnswer (s : State) (m w : Nat) (v : Word) : Nat :=
  match fuseGroup w with
  | none => stRANGE
  | some (lcs, ms) =>
    let key1 := (List.range 8).any fun k => s.cell (8 + k) != 0
    if ms.contains m = false then stAUTH
    else if lcs.contains s.lifecycle = false then stSTATE
    else if w = 0 ∧ v.toNat % 8 ≠ 0 ∧ s.lifecycle = lcBlank ∧ key1 = false then stSTATE
    else if s.rollbackBad w v then stRANGE
    else if s.on .FUS_PROG_STATUS_BUSY then stBUSY
    else stOK

/-- R378, R379: a write of GO by master `m` for word `w`. -/
def State.fuseGo (s : State) (m w : Nat) : State :=
  let v := s.word Reg.FUS_PROG_DATA
  let s := s.set .FUS_PROG_CTRL_WORD w
  let code := s.fuseAnswer m w v
  let s := s.set .FUS_PROG_STATUS_CODE code
  if code = stOK then (s.setB .FUS_PROG_STATUS_BUSY true).updPlat fun p => { p with prog := some (w, v) }
  else s.log 0x0803 [w, code]

/-- R376, R378, R431: programming of the word in progress completes, both cells of each bit. -/
def State.fuseDone (s : State) : State :=
  match s.plat.prog with
  | none => s
  | some (w, v) =>
    let fresh := decide (s.cell w ||| v ≠ s.cell w)
    let s := s.updPlat fun p => { p with fuses := Tab.upd 0 p.fuses w (fun x => x ||| v), fusesB := Tab.upd 0 p.fusesB w (fun x => x ||| v), prog := none }
    let s := if fresh then s.setB .FUS_LIFECYCLE_PENDING true else s
    (s.setB .FUS_PROG_STATUS_BUSY false).log 0x0803 [w, stOK]

/-! ### The debug port (R380, R382, R383) -/

/-- Instruction codes (R380), and IDCODE. -/
def irIdcode : Nat := 0x01
def irSample : Nat := 0x02
def irExtest : Nat := 0x03
def irAccess : Nat := 0x10
def irHalt : Nat := 0x11
def irUnlock : Nat := 0x12
def irStatus : Nat := 0x13
def irBypass : Nat := 0xFF
def idcodeValue : Nat := 0x15120987

/-- Bits of the debug policy of the lifecycle in force, and the scope of an unlock. -/
def State.labPolicy (s : State) (b : Nat) : Bool := bitOf (s.get .FUS_DBG_POLICY_LAB) b
def State.fieldPolicy (s : State) (b : Nat) : Bool := bitOf (s.get .FUS_DBG_POLICY_FIELD) b
def State.unlocked (s : State) : Bool := s.on .FUS_DBG_STATUS_UNLOCKED
def State.scope (s : State) (b : Nat) : Bool := s.unlocked && bitOf (s.get .FUS_DBG_STATUS_SCOPE) b

/-- An instruction takes effect, and its data register captures `dr`. The pins are driven by EXTEST alone. -/
def State.jtag (s : State) (code dr : Nat) : State :=
  (s.updPlat fun p => { p with ir := code, driven := code == irExtest }).emit (.jtag code dr)

/-- R380: a refused instruction behaves as BYPASS. -/
def State.bypass (s : State) : State := s.jtag irBypass 0

/-- R380: SAMPLE/PRELOAD captures the pins and shifts in a new value. -/
def State.samplePreload (s : State) (pins shift : Nat) : State :=
  (s.jtag irSample pins).updPlat fun p => { p with preload := shift }

/-- R380: may EXTEST drive? -/
def State.extestOk (s : State) : Bool :=
  s.lifecycle == lcBlank || (s.lifecycle == lcLab && s.labPolicy 2)

/-- R380: EXTEST drives the preloaded value, captures the pins, and drives what is shifted in. -/
def State.extest (s : State) (pins shift : Nat) : State :=
  if s.extestOk = false then s.bypass
  else (((s.emit (.pins s.plat.preload)).jtag irExtest pins).updPlat fun p => { p with preload := shift }).emit (.pins shift)

/-- R383: is a halt of processor `p` accepted? -/
def State.haltOk (s : State) (p : Nat) : Bool :=
  let l := s.lifecycle
  if p ≤ 3 then l == lcBlank || l == lcLab || (l == lcField && s.scope 1)
  else if p ≤ 8 then l == lcBlank || (l == lcLab && s.labPolicy 1) || (l == lcField && s.fieldPolicy 1 && s.scope 2)
  else false

/-- Condition 6 of R416: from a Banker reset until BANKER_UP is written, and while a Banker core is halted. -/
def State.bankerAbsent (s : State) : Bool :=
  s.on .FUS_DBG_STATUS_BANKER_HALTED || (s.get .BKR_STATUS_CAUSE != 0 && !s.on .HST_MB_STATUS_BANKER_UP)

/-- Show it. -/
def State.showAbsent (s : State) : State := s.setB .SCO_STATUS_BANKER_ABSENT s.bankerAbsent

/-- Show what halts mean: BANKER_HALTED, and TSP_RUN. -/
def State.showHalts (s : State) : State :=
  let h := s.plat.halted
  let s := s.setB .FUS_DBG_STATUS_BANKER_HALTED (h.any (· ≤ 3))
  (if h.contains 8 then s.setB .TCH_STATUS_TSP_RUN false else s).showAbsent

/-- BKR_STATUS.RUN: the Banker cores that run, halted ones left out. -/
def State.coresRunning (s : State) : Nat :=
  ((List.range 4).filter fun k => bitOf (s.get .BKR_STATUS_RUN) k && !s.plat.halted.contains k).foldl setBitN 0

/-- Is a Deck core halted? Is the touch signal processor? -/
def State.deckHalted (s : State) : Bool := s.plat.halted.any fun p => 4 ≤ p && p ≤ 7
def State.tspHalted (s : State) : Bool := s.plat.halted.contains 8

/-- R37, R402: the Banker is absent: an update being received is abandoned. -/
def State.abandonUpdate (s : State) : State :=
  if s.get .BKR_UPD_STATUS_STATE = 1 then (s.set .BKR_UPD_STATUS_STATE 0).updBoot fun b => { b with update := none } else s

/-- R360, R383: DBG_HALT: processor `p` is halted or resumed; bits [7:5] of what is captured hold the result. -/
def State.dbgHalt (s : State) (p : Nat) (halt : Bool) : State :=
  let dr := fun (result : Nat) => p + 16 * b2n halt + 32 * result
  if p = 0xA ∧ halt = true then
    let s := { s.setB .FUS_DBG_STATUS_SCORER_HALT_REQ true with sco := { s.sco with haltReq := true } }
    (s.log 0x0802 [5, p, 2]).jtag irHalt (dr 2)
  else if s.haltOk p then
    let s := s.updPlat fun x => { x with
      halted := if halt then uniq (x.halted ++ [p]) else x.halted.filter (· != p) }
    let s := if p = 8 ∧ halt = false ∧ s.boot.loaded = true then s.setB .TCH_STATUS_TSP_RUN true else s
    let back := (if halt ∧ p ≤ 3 then s.abandonUpdate else s).showHalts
    let back := if s.bankerUp = false ∧ back.bankerUp = true then back.bankerDrain else back
    (back.log 0x0802 [if halt then 1 else 2, p, 0]).jtag irHalt (dr 0)
  else
    let s := if p = 9 then s.log 0x0802 [if halt then 1 else 2, p, 1] else s
    s.jtag irHalt (dr 1)

/-- R382: DBG_UNLOCK takes a token of 160 bytes for the Scorer to verify. -/
def State.dbgUnlock (s : State) (token : List Byte) : State :=
  if s.lifecycle ≠ lcField ∨ 3 ≤ s.get .FUS_DBG_STATUS_FAILS then s.bypass
  else (s.updPlat fun p => { p with token := some ((token ++ List.replicate 160 0).take 160) }).jtag irUnlock 0

/-- R382: does a token pass? -/
def State.tokenOk (s : State) (t : List Byte) : Bool :=
  let at_ := fun (off n : Nat) => (t.drop off).take n
  let pub := at_ 0x20 64
  let nonce := leBytes 8 s.plat.nonce.toNat
  let serial := leBytes 4 (s.word Reg.FUS_SERIAL_LO).toNat ++ leBytes 2 (s.word Reg.FUS_SERIAL_HI).toNat
  let hash := sha256 pub
  (hash == s.keyHash 1 || (hash == s.keyHash 2 && !s.key2Revoked)) && at_ 0 6 == serial && leNat (at_ 6 1) == s.lifecycle
    && at_ 8 8 == nonce && s.fieldPolicy 0 && ecdsaOk pub (at_ 0x60 64) (t.take 0x20)

/-- R382: the Scorer's verification of the token completes. -/
def State.unlockVerify (s : State) : State :=
  match s.plat.token with
  | none => s
  | some t =>
    let ok := s.tokenOk t
    let s := s.updPlat fun p => { p with token := none }
    let s := if ok then
        (s.setB .FUS_DBG_STATUS_UNLOCKED true).set .FUS_DBG_STATUS_SCOPE (leNat ((t.drop 7).take 1))
      else s.set .FUS_DBG_STATUS_FAILS (min 3 (s.get .FUS_DBG_STATUS_FAILS + 1))
    (s.log 0x0802 [if ok then 3 else 4, 0, b2n (!ok)]).newNonce

/-! ### Banker resets (R18, R359, R396) -/

/-- Causes of BKR_STATUS. -/
def bkScorer : Nat := 1
def bkWatchdog : Nat := 2
def bkSelf : Nat := 3

/-- SCO_HB.HB_AGE: ms since BKR_HB last changed. -/
def State.hbAge (s : State) : Nat := min (2 ^ 16 - 1) ((s.extNow - s.plat.hbAt).toNat / 1000000)

/-- R359: ms for which the running heartbeat watch has seen no change; it starts anew when BANKER_UP is written. -/
def State.watchAge (s : State) : Nat := min s.hbAge ((s.extNow - s.plat.watchAt).toNat / 1000000)

/-- R359, R360: does the heartbeat watch run: BANKER_UP is 1, and no core is halted? -/
def State.hbWatched (s : State) : Bool := s.on .HST_MB_STATUS_BANKER_UP && !s.on .FUS_DBG_STATUS_BANKER_HALTED

/-- Does the Banker's firmware run: on all cores, none of them halted by debug (R37, R360)? -/
def State.firmware (s : State) : Bool := s.get .BKR_STATUS_RUN == 0xF && !s.on .FUS_DBG_STATUS_BANKER_HALTED

/-- CONFIRM_S and TRIAL_S of the delivered image (R397). -/
def State.imageNum (s : State) (off n : Nat) : Nat := leNat (readBytes 0 s.plat.sram (0x400000 + off) n)

/-- R18, R291, R359, R404: a Banker reset with a cause of BKR_STATUS. Its frames that wait at the network ports, membership reports among
them, are gone with its SRAM (log 113). -/
def State.bankerReset (s : State) (f : FlashIn) (cause : Nat) : State :=
  let s := ((s.set .BKR_STATUS_RUN 0).set .BKR_STATUS_CAUSE cause).count .BKR_STATUS_RESETS
  let s := s.log 0x0104 (cause :: by2 s.hbAge)
  let s := s.updPlat fun p => { p with hit := some (s.extNow, s.hbWatched) }
  let s := (s.setB .MTX_CTRL_REMAP false).updPlat fun p => { p with sram := [] }
  let s := s.updCmd fun c => { c with sessions := [], runs := [] }
  let s := s.each (List.range 3) fun s n => s.updNet n fun x => { x with txPtp := [], txGen := [] }
  let s := s.abandonUpdate
  let s := (s.set .HST_MB_STATUS_CODE stBUSY).setB .HST_MB_STATUS_BANKER_UP false
  let s := (s.showAbsent).updBoot fun b => { b with dealt := 0 }
  if s.on .BKR_BOOT_TRIAL then
    let s := s.updBoot fun b => { b with trialResets := b.trialResets + 1 }
    if 3 ≤ s.boot.trialResets then
      match s.pointer with
      | some (_, p) => s.revert f p
      | none => s
    else s
  else s

/-- R359: a cause that comes in the cycle of a Banker reset: BKR_STATUS.CAUSE, and the record still queued, take the lower code. -/
def State.joinCause (s : State) (cause : Nat) : State :=
  if s.get .BKR_STATUS_CAUSE ≤ cause then s
  else
    let s := s.set .BKR_STATUS_CAUSE cause
    { s with sco := { s.sco with queue := s.sco.queue.map fun r =>
        if r.event = 0x0104 ∧ r.time = s.extNow then { r with args := BitVec.ofNat 8 cause :: r.args.drop 1 } else r } }

/-- Is the device past RESET and not in RECOVERY, so that the Scorer watches the Banker? -/
def State.bankerWatch (s : State) : Bool := s.devState != stReset && s.devState != stRecovery

/-- R359, R360: the heartbeat has not changed for 500 ms while the watch runs, at `t`. -/
def State.heartbeatTimeout (s : State) (f : FlashIn) (t : Word) : State :=
  let s := s.at_ t
  if s.bankerWatch && s.hbWatched && decide (500 ≤ s.watchAge) then s.bankerReset f bkScorer
  else if s.plat.hit = some (s.extNow, true) ∧ 500 ≤ s.watchAge then s.joinCause bkScorer
  else s

/-- R359: BANKER_UP has not been written for 10 s. -/
def State.bankerUpTimeout (s : State) (f : FlashIn) : State :=
  if s.bankerWatch && !s.on .HST_MB_STATUS_BANKER_UP && !s.on .FUS_DBG_STATUS_BANKER_HALTED then s.bankerReset f bkScorer else s

/-- R359: any write restarts the Banker watchdog. -/
def State.wdtKick (s : State) (t : Word) : State :=
  let s := s.at_ t
  s.updPlat fun p => { p with wdtAt := s.extNow }

/-- R359: the Banker watchdog expires at `t`, TIMEOUT ms after the last kick. -/
def State.wdtTimeout (s : State) (f : FlashIn) (t : Word) : State :=
  let s := s.at_ t
  let ms := (s.extNow - s.plat.wdtAt).toNat / 1000000
  if s.get .BKR_WDT_TIMEOUT ≤ ms then
    if s.get .BKR_STATUS_RUN ≠ 0 then s.bankerReset f bkWatchdog
    else if (s.plat.hit.map (·.1)) = some s.extNow then s.joinCause bkWatchdog
    else s
  else s

/-- R359: a write of BKR_RESET.SELF. -/
def State.resetSelf (s : State) (f : FlashIn) : State :=
  if s.get .BKR_STATUS_RUN = 0 then s else s.bankerReset f bkSelf

/-- The bytes of a part of a slot that its manifest lists. -/
def State.partOf (s : State) (slot kind : Nat) : List Byte :=
  match (manParts (s.manifest slot)).find? (·.1 == kind) with
  | some (_, off, len, _) => s.partBytes slot kind off len
  | none => []

/-- R358, R391: parts of a slot are loaded into their memories off the system matrix. -/
def State.loadMems (s : State) (slot : Nat) (kinds : List Nat) : State :=
  s.updPlat fun p => { p with mems := kinds.foldl (fun t k => Tab.insert t k (s.partOf slot k)) p.mems }

/-- R394, R396: firmware and image of a slot are loaded into Banker SRAM. -/
def State.loadSram (s : State) (slot : Nat) : State :=
  s.updPlat fun p => { p with sram := writeBytes 0 (writeBytes 0 p.sram 0x400000 (s.partOf slot 7)) 0 (s.partOf slot 1) }

/-- R358, R394: the firmware starts: REMAP is set and the cores run, the watchdog starting with them. -/
def State.startFirmware (s : State) : State :=
  ((s.setB .MTX_CTRL_REMAP true).set .BKR_STATUS_RUN 0xF).updPlat fun p => { p with wdtAt := s.extNow, hbAt := s.extNow }

/-- R392, R396: the Banker cores leave reset, and the boot ROM runs the warm path; BKR_BOOT_ERR shows its verification. After one that
failed the cores stay halted. -/
def State.bankerRelease (s : State) (f : FlashIn) (t : Word) : State :=
  let s := s.at_ t
  if s.get .BKR_STATUS_RUN ≠ 0 ∨ s.get .BKR_STATUS_CAUSE = 0 ∨ s.bankerWatch = false ∨ s.on .BKR_BOOT_WARM_FAIL = true then s
  else
    let r := s.verifyParts f s.runSlot [1, 7]
    let s := s.setSlotErr s.runSlot r
    if r = 1 then (s.loadSram s.runSlot).startFirmware else s.setB .BKR_BOOT_WARM_FAIL true

/-! ### Small platform writes (R364, R365, R375, R443) -/

/-- R365: a write of REMAP. -/
def State.remapWrite (s : State) (v : Bool) : State := if v then s.setB .MTX_CTRL_REMAP true else s

/-- R364: the nibbles of a priority word as stored: 0 becomes 1, the fields of M1 and M2 stay 0. -/
def priStored (hi : Bool) (w : Word) : Word :=
  let f := fun (k : Nat) => w.toNat / 16 ^ k % 16
  BitVec.ofNat 32 (((List.range (if hi then 3 else 8)).map fun k =>
    (if hi = false ∧ (k = 1 ∨ k = 2) then 0 else max 1 (f k)) * 16 ^ k).foldl (· + ·) 0)

/-- R364: a write of MTX_PRI_LO_t or MTX_PRI_HI_t. -/
def State.priWrite (s : State) (t : Nat) (hi : Bool) (w : Word) : State :=
  if s.on .MTX_CTRL_ARB_MODE = false then s
  else s.setWord (if hi then Reg.MTX_PRI_HI t else Reg.MTX_PRI_LO t) (priStored hi w)

/-- Is the MPU locked? -/
def State.mpuLocked (s : State) : Bool := s.on .MPU_GLOBAL_LOCK

/-- R375: a write of MPU_RGN_BASE_m_r. -/
def State.rgnBaseWrite (s : State) (m r : Nat) (w : Word) : State :=
  if s.mpuLocked = true ∨ m = 1 ∨ s.on (.MPU_RGN_CTL_ON m r) = true then s
  else s.setW (.MPU_RGN_BASE_BASE m r) w

/-- R375, R384: a write of MPU_RGN_CTL_m_r; a SIZE outside 9 to 40 is ignored. -/
def State.rgnCtlWrite (s : State) (m r : Nat) (w : Word) : State :=
  if s.mpuLocked = true ∨ m = 1 then s
  else
    let size := w.toNat % 64
    let size := if 9 ≤ size ∧ size ≤ 40 then size else s.get (.MPU_RGN_CTL_SIZE m r)
    let s := (s.set (.MPU_RGN_CTL_SIZE m r) size).set (.MPU_RGN_CTL_ON m r) (w.toNat / 64)
    let s := s.set (.MPU_RGN_CTL_SUB_OFF m r) (w.toNat / 2 ^ 8)
    (s.set (.MPU_RGN_CTL_PRIV_RIGHTS m r) (w.toNat / 2 ^ 16)).set (.MPU_RGN_CTL_USER_RIGHTS m r) (w.toNat / 2 ^ 20)

/-- R375: a write of LOCK. -/
def State.mpuLock (s : State) (v : Bool) : State := if v then s.setB .MPU_GLOBAL_LOCK true else s

/-- R443: PERST_N resets the host port alone; CODE and BANKER_UP, which follow the Banker, stay. -/
def State.perst (s : State) : State :=
  let s := s.each [Reg.HST_LINK, Reg.HST_INT_STATUS, Reg.HST_INT_EN, Reg.HST_CNT] fun s a => s.setWord a (regReset a)
  (s.noLock 40).setB .HST_MB_STATUS_READY false

/-- R349: the host port's function; the vendor ID is of the package's chapter, the subsystem's are the image's. -/
def State.pciFunction (s : State) : PciFunction :=
  { vendor := 0x1E72, device := 0x5120, classCode := 0x048000, subsysVendor := s.image.subsystem.1, subsystem := s.image.subsystem.2,
    barSize := 0x4000000, vectors := 4, inta := true, errorReports := true, l1 := true }

/-- R349: the PCIe link is up at a width code (0 none) and rate, or down; the host finds the function on a link that comes up. -/
def State.hstLink (s : State) (width : Nat) (gen2 : Bool) : State :=
  let on := fun l => decide (l < widthLanes width)
  let s := if width ≠ 0 ∧ s.on .HST_LINK_UP = false then s.emit (.hostFunction s.pciFunction) else s
  (((s.setB .HST_LINK_UP (width != 0)).set .HST_LINK_WIDTH width).setB .HST_LINK_GEN2 (width != 0 && gen2)).linkLanes 40 on on

/-- R297: a network port gains or loses its link. -/
def State.npLink (s : State) (n : Nat) (up : Bool) : State := s.setB (.TIM_NP_STATUS_LINK n) up

end Sys2Proof.Machine
end

