-- ==== Sys2Proof/Machine/Issue.lean ====
section
/-!
DEFINITION. Tricks (R28 to R31, R108, R423): their issue, buffer allocation, what an abandonment does class by class, and the
sampling of due tricks at a boundary.
-/

namespace Sys2Proof.Machine

open Sys2Proof

/-- The running form of a trick issued now, with the buffer it fills or reads. -/
def State.runOf (s : State) (t : Trick) (buf : Option Nat) : RunTrick :=
  { trick := t, issueTick := s.tick, done := false, buf := buf, eav := none, dueAt := none, stale := false, coded := none }

/-- Enter a running trick. -/
def State.addRun (s : State) (r : RunTrick) : State := s.updDealer fun d => { d with tricks := d.tricks ++ [r] }

/-- The source a producer trick fills a buffer for (R43). -/
def State.producedBy (s : State) (t : Trick) : BitVec 16 :=
  match t.cls with
  | .capture => s.localSrc t.job
  | .decode => s.ctxSrc t.job
  | _ => s.localSrc (0x210 + t.job)

/-- R108: issue a trick that fills a buffer; without a FREE one it is abandoned at once. -/
def State.issueFilling (s : State) (t : Trick) (c : Nat) (empty : State → State) : State :=
  match s.lowestFree c with
  | none => empty (s.poolEmpty t)
  | some d => (s.fillBuf d (s.producedBy t)).addRun (s.runOf t (some d))

/-- A composition trick still open when the next one of its output is issued ends; its copy is not used. -/
def State.endCopy (s : State) (o : Nat) : State :=
  let s := match s.copyBuf o with
    | some d => s.freeBuf d
    | none => s
  s.updDealer fun d => { d with tricks := d.tricks.filter fun r => !(r.trick.cls == .composer && r.trick.index == o) }

/-- R44: a frame of output `o` is taken for the source of its composed copies. -/
def State.countCopy (s : State) (o : Nat) : State := s.updOut o fun x => { x with copySeq := x.copySeq + 1 }

/-- Does a flow start on this node? -/
def State.flowHere (s : State) (f : FlowDesc) : Bool := s.isLocal f.src

/-- R244, R246: a fabric-flow trick is issued. DIRECT carriage goes with its lines; a FRAME carriage is complete at once where
there is nothing newer to send; at the other nodes of the route there is nothing to issue. -/
def State.issueFlow (s : State) (t : Trick) : State :=
  match s.flow? t.job with
  | none => s
  | some f =>
    if f.direct = true ∨ s.flowHere f = false then s
    else if f.bmax ≠ 0 then s.addRun (s.runOf t none)
    else
      let s := s.frameIssue f
      if (Tab.find s.fab.sends f.id).isSome then s.addRun (s.runOf t none) else s

/-- R28: a trick is issued. Outside DEALING only transit flows have tricks, and these have no work on this node (R423). -/
def State.issueTrick (s : State) (t : Trick) : State :=
  if s.on .DLR_STATUS_DEALING = false then s
  else match t.cls with
    | .capture => match t.talon with
      | some c => s.issueFilling t c id
      | none => s
    | .decode => match t.talon with
      | some c => (s.issueFilling t c fun s => (s.takePicture t.job).1.decodeAbandoned t.job t.index (s.takePicture t.job).2).beginDecode t.index
      | none => s
    | .composer => match t.talon with
      | some c => ((s.endCopy t.index).countCopy t.index).issueFilling t c id
      | none => s
    | .encode =>
      if s.codesNow t.job then
        let (s, d) := s.encIssue t.job t.index
        s.addRun (s.runOf t d)
      else s
    | .touchScan =>
      let st := s.tchState t.job
      if st = tpOff then s else if st = tpFault then s.faultSlot t.job else s.addRun (s.runOf t none)
    | .selfTest =>
      let st := s.tchState t.job
      if st = tpOff ∨ st = tpFault ∨ s.testDue t.job = false then s
      else (s.addRun (s.runOf t none)).updTch t.job fun x => { x with testAt := some s.extNow, owed := false }
    | .audio => s
    | .scrub => ((s.addRun (s.runOf t none)).updMem fun m => { m with scrubLeft := m.scrubLeft + t.dram / 256 }).scrubOn
    | .fabricFlow => s.issueFlow t

/-- Issue every trick of the deal in force that satisfies `p`, in table order. -/
def State.issueWhere (s : State) (p : Trick → Bool) : State := s.each (s.curDeal.filter p) State.issueTrick

/-- R28: the tricks with issue offset 0. -/
def State.issueZero (s : State) : State := s.issueWhere fun t => t.issue == .offset 0

/-- R28: trick `k` of the deal in force is issued at its offset, once in a tick. -/
def State.issueAt (s : State) (k : Nat) : State :=
  match s.curDeal[k]? with
  | none => s
  | some t => match t.issue with
    | .offset ns =>
      if ns = 0 ∨ s.dealer.issued.contains k = true then s
      else (s.updDealer fun d => { d with issued := d.issued ++ [k] }).issueTrick t
    | _ => s

/-- R28, R164: a start of active video of input `i` at `t` issues the tricks that name it; the capture trick only for a frame
that is to be captured. -/
def State.inputSav (s : State) (i : Nat) (t : Word) : State :=
  let (s, take) := s.savStart i t
  s.issueWhere fun x => x.issue == .sav i && (x.cls != .capture || take)

/-- R28, R292, R324: a trigger channel fires at `t`: the deal's tricks that name it are issued, and audio groups take it. -/
def State.triggerFire (s : State) (c : Nat) (t : Word) : State :=
  if s.trgDue c t = false then s
  else
    let s := (s.at_ t).chanFire c
    (s.issueWhere fun x => x.issue == .trigger c && x.cls != .audio).audioFire c t

/-! ### Due tricks (R28 to R31) -/

/-- Pieces of a STREAM flow still waiting at this node's ports. -/
def State.streamLeft (s : State) (f : Nat) : Bool :=
  fabPorts.any fun p => (s.port p).queue.any fun x => x.cls == 2 && x.pk.flow == f

/-- R29: is a running trick due at the boundary latched now? -/
def State.isDue (s : State) (r : RunTrick) : Bool :=
  match r.trick.cls with
  | .composer => false
  | .capture => match r.eav with
    | some t => decide (64000 ≤ wordDiff s.tickTime t)
    | none => false
  | _ => match r.dueAt with
    | some n => decide (0 ≤ wordDiff s.tick n)
    | none => true

/-- Has a due trick run to its end? -/
def State.isComplete (s : State) (r : RunTrick) : Bool :=
  r.done || match r.trick.cls with
    | .touchScan => s.tchState r.trick.job == tpOff || s.tchState r.trick.job == tpFault
    | .selfTest => s.tchState r.trick.job == tpOff || s.tchState r.trick.job == tpFault
    | .fabricFlow => match s.flow? r.trick.job with
      | some f => f.bmax != 0 && !s.streamLeft f.id
      | none => true
    | _ => false

/-- R30: a fabric-flow trick is abandoned: on the destination its buffer returns; on the source the carriage ends. -/
def State.abandonFlow (s : State) (r : RunTrick) : State :=
  match r.buf with
  | some d => (s.freeBuf d).updFab fun x => { x with frames := Tab.erase x.frames r.trick.job }
  | none =>
    let s := s.each fabPorts fun s p => s.dropPackets p fun y => y.cls == 2 && y.pk.flow == r.trick.job
    match s.flow? r.trick.job with
    | some f => s.frameStop f
    | none => s

/-- R30, R31, R189, R191: a due decode trick is abandoned. One that its core has not come to loses the picture it would have taken; with
none queued it has nothing to do and ends. -/
def State.abandonDecode (s : State) (r : RunTrick) : State :=
  let c := r.trick.job
  match r.coded, s.takePicture c with
  | some p, _ => (s.recordAbandon r.trick).decodeAbandoned c r.trick.index (some p)
  | none, (_, none) => s
  | none, (s, some p) => (s.recordAbandon r.trick).decodeAbandoned c r.trick.index (some p)

/-- R30, R31: the effects of an abandonment. -/
def State.abandon (s : State) (r : RunTrick) : State :=
  let back := fun (s : State) => match r.buf with
    | some d => s.freeBuf d
    | none => s
  match r.trick.cls with
  | .capture => back (s.recordAbandon r.trick)
  | .decode => (back s).abandonDecode r
  | .encode => (s.recordAbandon r.trick).encAbandoned r.trick.job r.trick.index r.buf
  | .touchScan => (s.recordAbandon r.trick).scanAbandoned r.trick.job
  | .audio => (s.recordAbandon r.trick).audioAbandoned r.trick.job
  | .fabricFlow => (s.recordAbandon r.trick).abandonFlow r
  | .composer => s.recordAbandon r.trick
  | .selfTest => (s.recordAbandon r.trick).testAbandoned r.trick.job
  | .scrub => (s.recordAbandon r.trick).scrubEnd

/-- R28: at a boundary the completion flags of the due tricks are sampled, and the incomplete ones are abandoned. -/
def State.sampleDue (s : State) : State :=
  let late := s.dealer.tricks.filter fun r => s.isDue r && (!s.isComplete r || r.trick.cls == .fabricFlow && r.stale && !r.done)
  let s := s.updDealer fun d => { d with
    tricks := d.tricks.filter fun r => !(s.isDue r) && !r.done
    issued := [] }
  s.each late State.abandon

/-- R423: every trick in progress is stopped, its buffer returned; nothing is counted. The packets that tricks of own flows have queued
at the ports are withheld too. -/
def State.stopTricks (s : State) : State :=
  let runs := s.dealer.tricks
  let s := s.updDealer fun d => { d with tricks := [], issued := [] }
  let s := s.each runs fun s r => match r.trick.cls, r.buf with
    | .encode, some d => s.unhold d (holdEnc r.trick.index)
    | _, some d => if r.done then s else s.freeBuf d
    | _, none => s
  let s := s.each s.flowsFrom State.frameStop
  let s := s.each fabPorts fun s p => s.dropPackets p fun k => k.cls != 3 && s.flowsFrom.any fun f => f.id == k.pk.flow
  (s.updFab fun x => { x with frames := [] }).scrubEnd

end Sys2Proof.Machine
end

