-- ==== Sys2Proof/Machine/Admission.lean ====
section
/-!
DEFINITION. Admission (R32 to R35): what the image permits, scaler line buffers, core placement, the DRAM, engine and fabric
limits of a candidate layout, the answer the Dealer gives a change, and the encode commands.
-/

namespace Sys2Proof.Machine

open Sys2Proof

/-- Admission reasons (DLR_ADM_STATUS). -/
def admNone : Nat := 0
def admDram : Nat := 1
def admEngine : Nat := 2
def admLinebuf : Nat := 3
def admFabric : Nat := 4
def admPermit : Nat := 5

/-- An answer of R34: code, reason, engine class, index, and the core placement of an admitted change. -/
structure AdmAnswer where
  code : Nat
  reason : Nat
  cls : Nat
  index : Nat
  place : Tab Nat
  deriving DecidableEq, Repr

/-- A refusal. -/
def admRefused (reason cls index : Nat) : AdmAnswer :=
  { code := if reason = admPermit then stRANGE else stREFUSED, reason := reason, cls := cls, index := index, place := [] }

/-! ### Base and candidate -/

/-- What a deal depends on: register words, layers, layout, running encode streams and core placement. -/
structure DealBase where
  sh : Tab Word
  layers : List Nat
  layout : Nat
  encOn : List Nat
  place : Tab Nat

/-- Take a change into a base. -/
def DealBase.take (b : DealBase) (c : Change) : DealBase :=
  let place := c.place.foldl (fun t e => Tab.insert t e.1 e.2) b.place
  match c.kind with
  | .encStart e => { b with encOn := ascInsert e (b.encOn.filter (· != e)), place := place }
  | .encStop e => { b with encOn := b.encOn.filter (· != e), place := place }
  | _ => { b with
      sh := c.sh.foldl (fun t e => Tab.insert t e.1 (mergeSh e.1 ((Tab.find t e.1).getD 0) e.2)) b.sh
      layout := c.layout.getD b.layout
      place := place }

/-- The register words of a base: the words in force under those changed. -/
def State.rdOf (s : State) (b : DealBase) (a : Nat) : Word :=
  match Tab.find b.sh a with
  | some w => mergeSh a (s.word a) w
  | none => s.word a

/-- R34: the deal in force with all admitted changes applied. -/
def State.admBase (s : State) : DealBase :=
  let cs := s.dealer.changes.filter fun c => decide (c.stage ≠ .waiting)
  let b : DealBase := { sh := [], layers := s.layersTouched s.dealer.changes, layout := s.dealer.layout,
                        encOn := s.dealer.encOn, place := s.dealer.place }
  cs.foldl DealBase.take b

/-- The deals of a base's cycle. -/
def State.dealsOf (s : State) (b : DealBase) : List (List Trick) :=
  match s.layout? b.layout with
  | some ly => (List.range ly.cycle.length).map fun p => s.dealAt ly (s.rdOf b) b.layers b.encOn b.place p
  | none => []

/-! ### What the image permits (R42, R89, R90, R95, R104, R106, R130, R169, R347) -/

/-- Do two rectangles (x, y, w, h) overlap? -/
def rectsMeet (a b : Nat × Nat × Nat × Nat) : Bool :=
  decide (a.1 < b.1 + b.2.2.1 ∧ b.1 < a.1 + a.2.2.1 ∧ a.2.1 < b.2.1 + b.2.2.2 ∧ b.2.1 < a.2.1 + a.2.2.2)

/-- A layer's destination rectangle. -/
def Geo.rect (g : Geo) : Nat × Nat × Nat × Nat := (g.dx, g.dy, g.dw, g.dh)

/-- R95: crop, destination and ratios of a visible layer. -/
def State.geoOk (s : State) (g : Geo) : Bool :=
  let d := s.srcDesc g.src
  let ratio := fun (a b : Nat) => decide (b ≤ 8 * a ∧ a ≤ 16 * b) && b != 0
  (g.noSrc || decide (g.cx + g.cw ≤ d.width ∧ g.cy + g.ch ≤ d.height))
    && decide (g.dx + g.dw ≤ s.hAct g.output ∧ g.dy + g.dh ≤ s.vAct g.output)
    && ratio g.dw g.wRot && ratio g.dh g.hRot

/-- R173, R174: the nominal latency of a direct layer in ns, and whether it lies within the lock window. -/
def State.directLatency (s : State) (g : Geo) : Rat :=
  let o := g.output
  let d := s.srcDesc g.src
  let tp := s.tPix o
  ((s.get (.OUT_PHASE_PHASE o) : Int) - (d.savOffset : Int) : Int)
    + ((g.dy : Int) - g.cy : Int) * ((s.get (.OUT_HTIM0_TOTAL o) : Nat) : Rat) * tp + ((g.dx : Int) - g.cx : Int) * tp
def State.inWindow (s : State) (g : Geo) : Bool :=
  let d := s.srcDesc g.src
  let need : Rat := ((550 + 350 * d.hops + 5 * d.excess : Nat) : Rat)
  let l := s.directLatency g
  decide (need ≤ l ∧ l ≤ need + 250)

/-- R169: the conditions on one direct layer. -/
def State.directOk (s : State) (g : Geo) : Bool :=
  let d := s.srcDesc g.src
  let o := g.output
  let f := s.pixClock o
  g.rot == 0 && !g.mirH && !g.mirV && g.cw == g.dw && g.ch == g.dh
    && (g.noSrc || (decide (srcLocal g.src < 16) && d.directOk
      && d.hTotal == s.get (.OUT_HTIM0_TOTAL o) && d.vTotal == s.get (.OUT_VTIM0_TOTAL o)
      && decide (f - 1 < (d.pixClk : Rat) ∧ (d.pixClk : Rat) < f + 1 ∧ 148500000 ≤ d.pixClk)
      && decide (d.hops ≤ 4) && s.inWindow g))

/-- R347: may a layer of a layout carry a source (65536 for none)? The image's own assignment is always allowed. -/
def LayoutDesc_allows (ly : LayoutDesc) (l src : Nat) : Bool :=
  let own := match ly.sh.find? (·.1 == Reg.CMP_VL_SRC l) with
    | some (_, w) => if (Fld.CMP_VL_SRC_NO_SRC l).of w ≠ 0 then 65536 else (Fld.CMP_VL_SRC_SRC_ID l).of w
    | none => 65536
  own == src || match ly.permits.find? (·.1 == l) with
    | some (_, xs) => xs.contains src
    | none => false

/-- R90: does no visible layer of higher Z, and no graphic layer, overlap a direct layer? -/
def directClear (rd : Nat → Word) (vis : List Nat) (l : Nat) : Bool :=
  let g := geoOf rd l
  vis.all (fun k => decide ((geoOf rd k).z ≤ g.z) || !rectsMeet g.rect (geoOf rd k).rect)
    && (List.range 8).all fun k =>
      let fld := fun (f : Fld) => f.of (rd f.addr)
      fld (.CMP_GL_CTRL_EN g.output k) == 0 || !rectsMeet g.rect
        (fld (.CMP_GL_POS_X g.output k), fld (.CMP_GL_POS_Y g.output k), fld (.CMP_GL_SIZE_X g.output k), fld (.CMP_GL_SIZE_Y g.output k))

/-- Is the candidate permitted on one output? -/
def State.outputPermits (s : State) (rd : Nat → Word) (ls : List Nat) (ly : LayoutDesc) (o : Nat) : Bool :=
  let vis := ls.filter fun l => (geoOf rd l).visible o
  let dir := vis.filter fun l => (geoOf rd l).direct
  let en := (Fld.OUT_CTRL_EN o).of (rd (Reg.OUT_CTRL o)) != 0
  (s.declared o || (!en && vis.isEmpty)) && decide (vis.length ≤ 64) && decide (dir.length ≤ 4)
    && vis.all fun l =>
      let g := geoOf rd l
      s.geoOk g && ly.contracts.any (·.1 == l)
        && LayoutDesc_allows ly l (if g.noSrc then 65536 else g.src.toNat)
        && (!g.direct || (g.group == 0 && s.directOk g && directClear rd vis l))

/-- R104: no layer, visible or not, has one of the codes 0x4 to 0x7. -/
def cscsPermit (rd : Nat → Word) (ls : List Nat) : Bool := ls.all fun l => decide ((geoOf rd l).csc ≤ 3 ∨ 8 ≤ (geoOf rd l).csc)

/-- R106: no sync group of more than 16 members, with or without a source, and no direct member; R169: at most 16 remote
direct flows. The rules have Sniset reject such an image and do not say what a change at run time gets: it is outside the permit (log 101). -/
def State.groupsPermit (s : State) (rd : Nat → Word) (ls : List Nat) : Bool :=
  let gs := ls.map (geoOf rd)
  let remote := gs.filter fun t => t.isTile && t.direct && !s.isLocal t.src
  (List.range 32).all (fun g => g == 0 || decide ((gs.filter fun t => t.group == g).length ≤ 16))
    && gs.all (fun t => t.group == 0 || !t.direct)
    && decide ((uniq (remote.map (·.src))).length ≤ 16)

/-- R34: is a change, which leads to the candidate `b`, permitted by the image? -/
def State.permitted (s : State) (c : Change) (b : DealBase) : Bool :=
  match c.kind with
  | .encStart e => s.on (.ENC_ST_CFG_EN e)
  | .encStop _ => true
  | _ =>
    (match c.layout with | some y => s.image.layoutsOk.contains y | none => true) &&
    match s.layout? b.layout with
    | none => false
    | some ly => (outputs.all fun o => s.outputPermits (s.rdOf b) b.layers ly o) && s.groupsPermit (s.rdOf b) b.layers
        && cscsPermit (s.rdOf b) b.layers

/-! ### Limits (R32, R33, R257) -/

/-- Rates of MEM_STATUS.SPEED and MEM_CFG.SPEED in MT/s. -/
def memRate (code : Nat) : Nat := match code with | 0 => 3200 | 1 => 4800 | 2 => 5600 | _ => 6400

/-- R32, R257: usable DRAM bytes in one tick. -/
def State.usableDram (s : State) : Rat :=
  (7 : Rat) / 10 * ((s.memSubs * 4 * memRate (s.get .MEM_CFG_SPEED) : Nat) : Rat) / 1000 * s.pTick

/-- Bytes a deal reserves (R15, R34, R266). -/
def State.dealDram (s : State) (deal : List Trick) : Nat := ((List.range 55).map (s.reservedBytes deal)).sum

/-- R33: admissible load of an engine in a tick, in pixels; of the touch signal processor in thousandths of a scan frame. -/
def State.admissible (s : State) (cls : EngineClass) : Rat :=
  match cls with
  | .decode => s.pTick * 750 / 1000
  | .encode => s.pTick * 500 / 1000
  | .composer => s.pTick * 680 / 1000
  | .capture => s.pTick * 680 / 1000
  | .touchScan => s.pTick * 2040 / 1000000
  | _ => 0

/-- R33: the capacity of an engine in the same units. -/
def State.capacity (s : State) (cls : EngineClass) : Rat :=
  match cls with
  | .decode => s.pTick * 8824 / 10000
  | .encode => s.pTick * 5882 / 10000
  | .composer => s.pTick * 800 / 1000
  | .capture => s.pTick * 800 / 1000
  | .touchScan => s.pTick * 2400 / 1000000
  | _ => 0

/-- Has a class engines with a rated load? -/
def rated (cls : EngineClass) : Bool :=
  match cls with
  | .decode | .encode | .composer | .capture | .touchScan => true
  | _ => false

/-- The engine of a trick: the touch signal processor is one engine. -/
def engineOf (t : Trick) : EngineClass × Nat := (t.cls, if t.cls = .touchScan then 0 else t.index)

/-- R168, R190, R205, R301: the load of a trick. A decode trick is charged its share of the context's nominal pixel rate, an encode
trick width × height × F, a capture trick the pixel clock of its input, blanking included, a scan frame its nodes over those of a
full panel (in thousandths); for every other class, and where the image gives no source period, the deal states it. -/
def State.trickLoad (s : State) (t : Trick) : Rat :=
  match t.cls with
  | .decode =>
    let src := s.ctxSrc t.job
    let d := s.srcDesc src
    if d.period ≤ 0 then (t.load : Rat)
    else ((d.width * d.height : Nat) : Rat) * s.pTick / d.period / (s.decodeSlots src : Rat)
  | .encode =>
    let d := s.srcDesc (s.encSrc t.job)
    ((d.width * d.height : Nat) : Rat) / ((s.get (.ENC_ST_CFG_DIV t.job) + 1 : Nat) : Rat)
  | .capture => ((s.srcDesc (s.localSrc t.job)).pixClk : Rat) * s.pTick / 1000000000
  | .touchScan => ((1000 * s.get (.TCH_P_CFG0_DRIVES t.job) * s.get (.TCH_P_CFG0_SENSES t.job) : Nat) : Rat) / 4224
  | _ => (t.load : Rat)

/-- Load of an engine in a deal. -/
def State.engineLoad (s : State) (deal : List Trick) (e : EngineClass × Nat) : Rat :=
  (deal.filter fun t => engineOf t == e).foldl (fun a t => a + s.trickLoad t) 0

/-- The engines a deal uses that have a rated load. -/
def enginesOf (deal : List Trick) : List (EngineClass × Nat) := uniq ((deal.filter fun t => rated t.cls).map engineOf)

/-- The first engine of a deal above its admissible load. -/
def State.overEngine (s : State) (deal : List Trick) : Option (EngineClass × Nat) :=
  (enginesOf deal).find? fun e => decide (s.admissible e.1 < s.engineLoad deal e)

/-- R222: the first UP fabric port whose reserved flows exceed its payload at its present width. The rule does not say how a port
without a current width is judged: every flow through it passes (log 83). -/
def State.overPort (s : State) (deal : List Trick) : Option Nat :=
  fabPorts.find? fun p =>
    let w := widthLanes (s.get (.FAB_P_STATUS_WIDTH p))
    s.portUp p && w != 0 &&
      decide (s.payload w < ((((s.portFlows p).filter fun f => reserves deal f.id).map fun f => s.flowCost f w).sum : Rat))

/-! ### Core placement (R34) -/

/-- Cores of a class. -/
def coresOf (cls : EngineClass) : Nat := match cls with | .decode => 8 | _ => 2

/-- Key of a decode or encode trick in a placement. -/
def placeKey (t : Trick) : Option Nat :=
  match t.cls with
  | .decode => some t.job
  | .encode => some (encKey t.job)
  | _ => none

/-- The decode and encode jobs of some deals: (key, a trick of it). -/
def placedJobs (deals : List (List Trick)) : List (Nat × Trick) :=
  deals.foldl (fun acc d => d.foldl (fun acc t => match placeKey t with
    | some k => if acc.any (·.1 == k) then acc else acc ++ [(k, t)]
    | none => acc) acc) []

/-- Pixels of one picture of a decode or encode job. -/
def State.pictureSize (s : State) (t : Trick) : Nat :=
  let d := s.srcDesc (if t.cls = .encode then s.encSrc t.job else s.ctxSrc t.job)
  d.width * d.height

/-- Progress of the placement: the placement, and the deals of the jobs placed so far. -/
structure Placing where
  place : Tab Nat
  done : List (List Trick)
  fail : Option (Nat × Nat)

/-- The tricks of a job in each of some deals, the core left out. -/
def jobTricks (deals : List (List Trick)) (k : Nat) : List (List Trick) :=
  deals.map fun d => (d.filter fun t => placeKey t == some k).map fun t => { t with index := 0 }

/-- R34: the current core of a job: the core it has in the base; for a context that the change puts in the place of another
one's stream, that stream's core in the base, as the worked example of the swap has it (log 51). A job without either has no
current core. -/
def State.currentCore (s : State) (base cand : DealBase) (old : List (Nat × Trick)) (j : Nat × Trick) : Option Nat :=
  match old.find? (·.1 == j.1) with
  | some x => some x.2.index
  | none =>
    if j.2.cls ≠ .decode then none
    else cand.layers.findSome? fun l =>
      let g := geoOf (s.rdOf cand) l
      let b := geoOf (s.rdOf base) l
      if g.isTile ∧ b.isTile ∧ g.src = s.ctxSrc j.2.job then
        (old.find? fun x => x.2.cls == .decode && s.ctxSrc x.2.job == b.src).map (·.2.index)
      else none

/-- R34: place one changed job, with its current core: there if that core stays admissible, else on the lowest-index core of
its class that does. -/
def State.placeJob (s : State) (deals : List (List Trick)) (x : Placing) (j : (Nat × Trick) × Option Nat) : Placing :=
  if x.fail.isSome then x
  else
    let ((k, t), cur) := j
    let on := fun (core : Nat) => List.zipWith (fun done d =>
      done ++ (d.filter fun u => placeKey u == some k).map fun u => { u with index := core }) x.done deals
    let ok := fun core => (on core).all fun d => decide (s.engineLoad d (t.cls, core) ≤ s.admissible t.cls)
    match (cur.toList ++ List.range (coresOf t.cls)).find? ok with
    | none => { x with fail := some (t.cls.code, cur.getD 0) }
    | some core =>
      if s.admissible t.cls < (s.pictureSize t : Rat) then { x with fail := some (t.cls.code, core) }
      else { x with place := Tab.insert x.place k core, done := on core }

/-- R34: place the decode and encode jobs whose tricks a change adds or alters, in order of their first trick. The rule does not
say whether, while one of several such jobs is placed, those not yet placed count on their current cores: they do not (log 82). -/
def State.placeAll (s : State) (base cand : DealBase) : Placing :=
  let deals := s.dealsOf cand
  let was := s.dealsOf base
  let old := placedJobs was
  let changed := (placedJobs deals).filter fun j => decide (jobTricks deals j.1 ≠ jobTricks was j.1)
  let done := deals.map fun d => d.filter fun t => match placeKey t with
    | some k => !(changed.any (·.1 == k))
    | none => true
  (changed.map fun j => (j, s.currentCore base cand old j)).foldl (s.placeJob deals) { place := [], done := done, fail := none }

/-! ### The evaluation (R34) -/

/-- The limits of one deal; none when it passes. -/
def State.dealFails (s : State) (deal : List Trick) : Option AdmAnswer :=
  if (7 : Rat) / 10 * s.usableDram < (s.dealDram deal : Rat) then some (admRefused admDram 0 0)
  else match s.overEngine deal with
    | some (c, k) => some (admRefused admEngine c.code k)
    | none => (s.overPort deal).map fun p => admRefused admFabric 0 p

/-- R34: evaluate a change over a base. -/
def State.evaluate (s : State) (base : DealBase) (c : Change) : AdmAnswer :=
  let cand := base.take c
  if s.permitted c cand = false then admRefused admPermit 0 0
  else match outputs.find? fun o => (s.assignScalers (s.rdOf cand) cand.layers o).isNone with
    | some o => admRefused admLinebuf 0 o
    | none =>
      let x := s.placeAll base cand
      match x.fail with
      | some (c, k) => admRefused admEngine c k
      | none => match x.done.findSome? s.dealFails with
        | some a => a
        | none => { code := stOK, reason := admNone, cls := 0, index := 0, place := x.place }

/-! ### Answering (R35, R38) -/

/-- The change that is evaluated next: the oldest one waiting. -/
def State.nextChange (s : State) : Option Change := s.dealer.changes.find? fun c => decide (c.stage = .waiting)

/-- DLR_ADM_STATUS shows an answer. -/
def State.showAnswer (s : State) (a : AdmAnswer) : State :=
  let s := (s.set .DLR_ADM_STATUS_CODE a.code).set .DLR_ADM_STATUS_REASON a.reason
  let s := (s.set .DLR_ADM_STATUS_CLASS a.cls).set .DLR_ADM_STATUS_INDEX a.index
  if a.code = stOK then s else s.setB .DLR_INT_STATUS_ADM_REFUSED true

/-- A change leaves the Dealer. -/
def State.dropChange (s : State) (id : Nat) : State :=
  (s.updDealer fun d => { d with changes := d.changes.filter fun c => c.id != id }).showPending

/-- A change moves to a stage. -/
def State.setStage (s : State) (id : Nat) (st : ChangeStage) (place : Tab Nat) : State :=
  s.updDealer fun d => { d with changes := d.changes.map fun c => if c.id = id then { c with stage := st, place := place } else c }

/-- R122, R123: the answer to a device commit. -/
def State.answerCommit (s : State) (c : Change) (a : AdmAnswer) : State :=
  let s := { s with pend := [], pendLayout := none }.setB .CMP_COMMIT_PENDING false
  if a.code = stOK then
    (((s.setStage c.id .admitted a.place).set .CMP_COMMIT_STATUS_CODE stOK).set .CMP_COMMIT_STATUS_REASON 0).showPending
  else (s.dropChange c.id).commitCode a.code a.reason

/-- R205: the answer to an encode start or stop. -/
def State.answerEnc (s : State) (c : Change) (a : AdmAnswer) : State :=
  (if a.code = stOK then (s.setStage c.id .admitted a.place).showPending else s.dropChange c.id).encAnswer a.code a.reason

/-! ### The load in force (R38, R192) -/

/-- An exact fraction in thousandths, rounded to one of its neighbours, at most 1,023. -/
def State.perMille (s : State) (q : Rat) : Nat × State :=
  let (k, s) := s.roundFree (q * 1000)
  (min 1023 k.toNat, s)

/-- The greatest of some fractions. -/
def maxQ (qs : List Rat) : Rat := qs.foldl (fun a b => if a < b then b else a) 0

/-- DLR_LOAD and DEC_CORE_LOAD_k follow the deals in force. -/
def State.showLoad (s : State) : State :=
  let deals := s.deals
  let u := s.usableDram
  let dram := if u ≤ 0 then 0 else maxQ (deals.map fun d => (s.dealDram d : Rat) / u)
  let share := fun (e : EngineClass × Nat) => maxQ (deals.map fun d => s.engineLoad d e / s.capacity e.1)
  let peak := maxQ ((uniq (deals.flatMap enginesOf)).map share)
  let (a, s) := s.perMille dram
  let (b, s) := s.perMille peak
  let s := (s.set .DLR_LOAD_DRAM a).set .DLR_LOAD_PEAK_ENGINE b
  let jobs := placedJobs deals
  s.each (List.range 8) fun s k =>
    let (v, s) := s.perMille (share (.decode, k))
    (s.set (.DEC_CORE_LOAD_LOAD k) v).set (.DEC_CORE_LOAD_CONTEXTS k)
      (jobs.filter fun j => j.2.cls == .decode && j.2.index == k).length

/-! ### The encode commands (R205, R211) -/

/-- R7, R34, R35, R205: START and STOP are changes handed to the Dealer. -/
def State.encChange (s : State) (kind : ChangeKind) : State :=
  let c : Change := { id := s.dealer.nextChange, kind := kind, stage := .waiting, place := [], dueTick := s.tick + 1 }
  if s.dealing = false then s.encAnswer stSTATE 0
  else if 4 ≤ s.dealer.changes.length then
    let a := s.evaluate s.admBase c
    if a.code = stOK then s.changeRefused.encAnswer stBUSY 0 else s.changeRefused.encAnswer a.code a.reason
  else
    (s.updDealer fun d => { d with changes := d.changes ++ [c], nextChange := d.nextChange + 1 }).showPending.setB
      .ENC_CMD_STATUS_BUSY true

/-- R211: a write of ENC_CMD with GO: operation `op` on stream `e`. -/
def State.encCmd (s : State) (e op : Nat) : State :=
  let s := (s.set .ENC_CMD_STREAM e).set .ENC_CMD_OP op
  match op with
  | 1 => s.encChange (.encStart e)
  | 2 => s.encChange (.encStop e)
  | 3 => if s.encRuns e then (s.keyRequest e).encAnswer stOK 0 else s.encAnswer stSTATE 0
  | _ => s.encAnswer stUNKNOWN 0

end Sys2Proof.Machine
end

