-- ==== Sys2Proof/Machine/Wall.lean ====
section
/-!
DEFINITION. Wall commits (R124 to R128, R143, R241, R248): the coordinator, the participants, and the Dealer's answers to
changes, which a participant's vote carries.
-/

namespace Sys2Proof.Machine

open Sys2Proof

/-- Phases of CMP_WALL_STATUS. -/
def wpIdle : Nat := 0
def wpPreparing : Nat := 1
def wpArmed : Nat := 2
def wpApplied : Nat := 3
def wpAborted : Nat := 4
def wpSplit : Nat := 5

/-- Change the wall commit state. -/
def State.updWall (s : State) (f : WallSt → WallSt) : State := { s with wall := f s.wall }
/-- Change the coordinator's record. -/
def State.updCoord (s : State) (f : WallCoord → WallCoord) : State := s.updWall fun w => { w with coord := w.coord.map f }
/-- Set the phase; an end of the wall commit raises WALL_DONE or WALL_ABORT. -/
def State.setPhase (s : State) (p : Nat) : State :=
  let s := s.set .CMP_WALL_STATUS_PHASE p
  if p = wpApplied then s.setB .CMP_INT_STATUS_WALL_DONE true
  else if p = wpAborted ∨ p = wpSplit then s.setB .CMP_INT_STATUS_WALL_ABORT true
  else s
/-- A wall layout of the image. -/
def State.wallDesc (s : State) (i : Nat) : Option WallDesc := s.image.walls[i]?

/-- The wall commit ends ABORTED with a code and the node it came from. -/
def State.wallAbort (s : State) (node code : Nat) : State :=
  ((s.setPhase wpAborted).set .CMP_WALL_STATUS_ABORT_NODE node).set .CMP_WALL_STATUS_ABORT_CODE code

/-! ### Votes and outcomes at the coordinator -/

/-- The participants of the wall commit this node coordinates. -/
def State.wallMembers (s : State) (c : WallCoord) : List Nat := ((s.wallDesc c.wall).map (·.members)).getD []

/-- R127: a vote reaches the coordinator; it counts before boundary m + D − 1. -/
def State.recordVote (s : State) (node id code : Nat) : State :=
  match s.wall.coord with
  | none => s
  | some c =>
    let early := decide (wordDiff s.tick (c.m + BitVec.ofNat 32 (c.d - 1)) < 0)
    if c.id = id ∧ c.decided = none ∧ early = true ∧ (s.wallMembers c).contains node = true
        ∧ c.votes.any (·.1 == node) = false then
      s.updCoord fun x => { x with votes := x.votes ++ [(node, code)] }
    else s

/-- R128: an outcome (1 APPLIED, 2 ABORTED) reaches the coordinator; PHASE follows once the outcomes differ or all are in. -/
def State.recordOutcome (s : State) (node id r : Nat) : State :=
  match s.wall.coord with
  | none => s
  | some c =>
    if c.id ≠ id ∨ (s.wallMembers c).contains node = false ∨ c.outcomes.any (·.1 == node) = true then s
    else
      let outs := c.outcomes ++ [(node, r)]
      let s := s.updCoord fun x => { x with outcomes := outs }
      if outs.any (·.2 == 1) ∧ outs.any (·.2 != 1) then s.setPhase wpSplit
      else if outs.length = (s.wallMembers c).length ∧ c.decided.isSome then
        s.setPhase (if r = 1 then wpApplied else wpAborted)
      else s

/-- A participant's vote goes to the coordinator `coord`. -/
def State.sendVote (s : State) (coord id code reason : Nat) : State :=
  if coord = s.nodeId then s.recordVote coord id code else s.originate tWallVote coord false [id, code, reason] true

/-- A participant's outcome goes to the coordinator. -/
def State.sendOutcome (s : State) (coord id r : Nat) : State :=
  if coord = s.nodeId then s.recordOutcome coord id r else s.originate tWallOutcome coord false [id, r] true

/-! ### A participant's part (R125 to R127) -/

/-- A vote other than OK: the node's outcome is ABORTED. -/
def State.voteAgainst (s : State) (coord id code reason : Nat) : State :=
  let s := if coord = s.nodeId then s else s.setPhase wpAborted
  (s.sendVote coord id code reason).sendOutcome coord id 2

/-- The parts of wall commits that the node keeps, oldest first: its part of the last commit, and earlier ones. -/
def State.wallParts (s : State) : List WallPart := s.wall.left ++ s.wall.part.toList

/-- Change the part that carries a change of the Dealer. -/
def State.updPart (s : State) (change : Nat) (f : WallPart → WallPart) : State :=
  let g := fun (p : WallPart) => if p.change = change then f p else p
  s.updWall fun w => { w with part := w.part.map g, left := w.left.map g }

/-- Is a change held as the armed part of a wall commit? -/
def Change.armed (c : Change) : Bool := c.stage == .armed

/-- WALL_ARMED follows the changes that are held armed. -/
def State.showArmed (s : State) : State := s.setB .CMP_COMMIT_WALL_ARMED (s.dealer.changes.any Change.armed)

/-- R126, R360: is the Banker restarting: out of reset, and not yet up? It then votes BUSY; a Banker in reset or halted is absent and
does not vote. -/
def State.bankerRestarting (s : State) : Bool :=
  s.get .BKR_STATUS_RUN != 0 && !s.on .HST_MB_STATUS_BANKER_UP && !s.on .FUS_DBG_STATUS_BANKER_HALTED

/-- R126: the node's part of wall layout `wall` for boundary m′ and D is submitted, or voted against. The rule does not say what
a node does with a wall layout its image lacks: it sends no vote (log 52); nor what CMP_WALL_STATUS of a node shows that votes
BUSY with a part armed or a commit of its own in hand: the newer commit, ABORTED (log 53); nor which vote a node gives whose Banker
restarts and that is not DEALING: BUSY (log 103). A node whose Banker is absent does not vote. -/
def State.submitPart (s : State) (coord id wall : Nat) (m : Tick) (d : Nat) : State :=
  match s.wallDesc wall with
  | none => s
  | some w =>
    if w.members.contains s.nodeId = false ∨ (s.bankerUp = false ∧ s.bankerRestarting = false) then s
    else
      let s := s.set .CMP_WALL_STATUS_ID id
      let s := if coord = s.nodeId then s else s.setB .CMP_WALL_STATUS_COORD false
      if s.bankerUp = false ∨ s.wallArmed = true ∨ 4 ≤ s.dealer.changes.length then
        s.voteAgainst coord id stBUSY 0
      else if s.dealing = false then s.voteAgainst coord id stSTATE 0
      else
        let sh : Tab Word := ((s.layout? w.layout).map fun y => y.sh.foldl (fun t e => Tab.insert t e.1 e.2) []).getD []
        let c : Change := { id := s.dealer.nextChange, kind := .wall sh (some w.layout), stage := .waiting, place := [],
                            dueTick := m + BitVec.ofNat 32 d }
        let s := s.updDealer fun x => { x with changes := x.changes ++ [c], nextChange := x.nextChange + 1 }
        (s.updWall fun x => { x with
          part := some ⟨id, coord, m, d, c.id, false, false⟩
          left := (x.left ++ x.part.toList).filter fun p => !(p.dropped && p.coord == coord && p.id == id) }).showPending

/-- R127: a part that is neither released nor discarded is discarded. -/
def State.discardPart (s : State) (p : WallPart) : State :=
  if p.released ∨ p.dropped then s
  else
    let s := s.updPart p.change fun x => { x with dropped := true }
    let s := (s.dropChange p.change).showArmed
    (if p.coord = s.nodeId then s else s.setPhase wpAborted).sendOutcome p.coord p.id 2

/-- R122, R128: the device leaves DEALING. Its parts are discarded; one that GO had released and that is not yet in force never
takes effect either: its outcome is ABORTED, and the node reports WALL_SPLIT. -/
def State.loseParts (s : State) : State :=
  let gone := s.wallParts.filter fun p => p.released && s.dealer.changes.any (·.id == p.change)
  let s := s.each s.wallParts State.discardPart
  let s := s.updWall fun x => { x with left := x.left.filter (fun p => !p.released), part := x.part.filter fun p => !p.released }
  s.each gone fun s p =>
    (if p.coord = s.nodeId then s else s.setPhase wpAborted).sendOutcome p.coord p.id 2 |>.log 0x0504 [p.id]

/-- R127, R143: an armed part is released for tick m′ + D. -/
def State.releasePart (s : State) (p : WallPart) : State :=
  match s.dealer.changes.find? fun c => c.id == p.change && c.armed with
  | none => s
  | some c =>
    let s := s.updPart p.change fun x => { x with released := true }
    (s.setStage p.change (.released (p.m + BitVec.ofNat 32 p.d)) c.place).showArmed

/-- R126: the Dealer's answer to a part: vote, and arm on OK. A Banker that is absent by then does not vote, and the part ends. -/
def State.answerPart (s : State) (c : Change) (a : AdmAnswer) : State :=
  match s.wallParts.find? (·.change == c.id) with
  | none => s.dropChange c.id
  | some p =>
    if s.bankerUp = false then (s.dropChange c.id).updPart c.id fun x => { x with dropped := true }
    else if a.code = stOK then
      let s := ((s.setStage c.id .armed a.place).showArmed).setPhase wpArmed
      s.sendVote p.coord p.id stOK 0
    else
      let s := (s.dropChange c.id).updPart c.id fun x => { x with dropped := true }
      s.voteAgainst p.coord p.id a.code a.reason

/-- R34, R35: the Dealer evaluates the oldest waiting change and answers it. -/
def State.changeAdmission (s : State) : State :=
  match s.nextChange with
  | none => s
  | some c =>
    let a := s.evaluate s.admBase c
    let s := s.showAnswer a
    match c.kind with
    | .commit _ _ => s.answerCommit c a
    | .wall _ _ => s.answerPart c a
    | .encStart _ => s.answerEnc c a
    | .encStop _ => s.answerEnc c a

/-- The oldest set of the receive FIFO, if it has a type. -/
def State.frontSet (s : State) (type : Nat) : Option Trump :=
  match s.fab.fifo with
  | (m, _) :: _ => if m.type = type then some m else none
  | [] => none

/-- The oldest set of a type, where the Banker reads the receive FIFO. -/
def State.bankSet (s : State) (type : Nat) : Option Trump := if s.bankerUp then s.frontSet type else none

/-- Take the oldest set off the receive FIFO. -/
def State.takeSet (s : State) : State := s.updFab fun f => { f with fifo := f.fifo.drop 1 }

/-- R125, R126, R241: the Banker, up or restarting, takes a WALL_PREPARE that arrived at `t`. -/
def State.gotPrepare (s : State) (t : Word) : State :=
  match (if s.bankerRestarting then s.frontSet tWallPrepare else s.bankSet tWallPrepare) with
  | none => s
  | some x =>
    let s := s.takeSet
    if s.unsync then s
    else match s.latestEdge 16 (Trump_arg x 3 1) t with
      | none => s
      | some (m, _) => s.submitPart x.src (Trump_arg x 0 1) (Trump_arg x 1 1) m (Trump_arg x 2 1)

/-- The boundary that latched tick `n`, if it is remembered. -/
def State.edgeOf (s : State) (n : Tick) : Option Word := (s.dealer.history.find? (·.1 == n)).map (·.2)

/-- R127: is `t` before the cutoff of a part? -/
def State.beforeCutoff (s : State) (p : WallPart) (t : Word) : Bool :=
  let n := p.m + BitVec.ofNat 32 (p.d - 1)
  if decide (wordDiff s.tick n < 0) then true
  else match s.edgeOf n with
    | some e => decide (wordDiff t e < (s.image.cutoff : Int))
    | none => false

/-- This node's newest part of the commit `id` of a coordinator. -/
def State.partOf? (s : State) (coord id : Nat) : Option WallPart :=
  s.wallParts.reverse.find? fun p => p.coord == coord && p.id == id

/-- R127, R128: a coordinator's decision reaches this node at `t`. A GO for a part that is discarded is a WALL_SPLIT. -/
def State.decidePart (s : State) (coord id : Nat) (go : Bool) (t : Word) : State :=
  match s.partOf? coord id with
  | none => s
  | some p =>
    if go = false then s.discardPart p
    else if p.released then s
    else if p.dropped = false ∧ s.beforeCutoff p t = true then s.releasePart p
    else (s.discardPart p).log 0x0504 [id]

/-- The Banker takes a WALL_DECIDE that arrived at `t`. -/
def State.gotDecide (s : State) (t : Word) : State :=
  match s.bankSet tWallDecide with
  | none => s
  | some x =>
    (s.takeSet).decidePart x.src (Trump_arg x 0 1) (Trump_arg x 1 1 == 1) t

/-- R127: the cutoff of the parts whose boundary m′ + D − 1 has come passes without a DECIDE. -/
def State.wallCutoff (s : State) : State :=
  s.each (s.wallParts.filter fun p => decide (0 ≤ wordDiff s.tick (p.m + BitVec.ofNat 32 (p.d - 1)))) State.discardPart

/-- The Banker takes a WALL_VOTE, or a WALL_OUTCOME. -/
def State.gotVote (s : State) : State :=
  match s.bankSet tWallVote with
  | none => s
  | some x => (s.takeSet).recordVote x.src (Trump_arg x 0 1) (Trump_arg x 1 1)
def State.gotOutcome (s : State) : State :=
  match s.bankSet tWallOutcome with
  | none => s
  | some x => (s.takeSet).recordOutcome x.src (Trump_arg x 0 1) (Trump_arg x 1 1)

/-! ### The coordinator (R124, R127) -/

/-- R124: the code with which a wall request for a wall layout and target is refused at once, if it is. Which code an unknown wall layout
gets R124 does not say: RANGE (log 80). -/
def State.wallRefusal (s : State) (wall : Nat) (target : Tick) : Option Nat :=
  let d := wordDiff target (s.tick + 1)
  if 15 < d ∨ (s.wallDesc wall).isNone = true then some stRANGE
  else if d < 2 then some stLATE
  else none

/-- R124: a write of CMP_WALL_GO. The rule gives no answer to a request that comes while this node coordinates a commit: it is
ignored (log 80). -/
def State.wallGo (s : State) : State :=
  if s.wall.coord.isSome then s
  else
    let id := (s.wall.nextId + 1) % 256
    let wall := s.get .CMP_WALL_REQ_LAYOUT
    let m := s.tick + 1
    let d := wordDiff (s.word Reg.CMP_WALL_TARGET) m
    let s := s.updWall fun w => { w with nextId := id }
    let s := ((s.set .CMP_WALL_STATUS_ID id).setB .CMP_WALL_STATUS_COORD true).set .CMP_WALL_STATUS_ABORT_NODE 0
    let s := s.set .CMP_WALL_STATUS_ABORT_CODE 0
    match s.wallRefusal wall (s.word Reg.CMP_WALL_TARGET) with
    | some code => s.wallAbort s.nodeId code
    | none => (s.setPhase wpPreparing).updWall fun w => { w with coord := some ⟨id, wall, m, d.toNat, false, none, [], []⟩ }

/-- R124, R241: 10 µs after boundary m the coordinator sends PREPARE, and takes its own part. -/
def State.prepareSend (s : State) : State :=
  match s.wall.coord with
  | none => s
  | some c =>
    if c.sent = true ∨ decide (wordDiff s.tick c.m < 0) then s
    else if s.unsync then (s.wallAbort s.nodeId stSTATE).updWall fun w => { w with coord := none }
    else
      let s := s.updCoord fun x => { x with sent := true }
      let s := s.originate tWallPrepare 0 true [c.id, c.wall, c.d, c.m.toNat % 16] true
      s.submitPart s.nodeId c.id c.wall c.m c.d

/-- R127: the first vote other than OK, or LATE of the first participant without a vote. -/
def State.voteAgainst? (s : State) (c : WallCoord) : Option (Nat × Nat) :=
  match c.votes.find? (·.2 != stOK) with
  | some v => some v
  | none => ((s.wallMembers c).find? fun n => !(c.votes.any (·.1 == n))).map fun n => (n, stLATE)

/-- R127: 10 µs after boundary m + D − 1, at `t`, the coordinator decides and sends DECIDE. -/
def State.decideSend (s : State) (t : Word) : State :=
  match s.wall.coord with
  | none => s
  | some c =>
    if c.sent = false ∨ c.decided.isSome = true ∨ decide (wordDiff s.tick (c.m + BitVec.ofNat 32 (c.d - 1)) < 0) then s
    else
      let v := s.voteAgainst? c
      let go := v.isNone
      let s := s.updCoord fun x => { x with decided := some go }
      let s := match v with
        | some (n, code) => s.wallAbort n code
        | none => s
      let s := s.originate tWallDecide 0 true [c.id, if go then 1 else 2] true
      s.decidePart s.nodeId c.id go t

/-- At a boundary: released parts that have taken effect are APPLIED; and the coordinator's commit ends at boundary
m + D + 1. The rule does not say how PHASE ends where outcomes are missing then: APPLIED after a GO, unless an outcome that came
is ABORTED (log 81). -/
def State.wallTick (s : State) : State :=
  let waits := fun (p : WallPart) => !p.released || s.dealer.changes.any (·.id == p.change)
  let now := s.wall.left.filter fun p => !waits p
  let s := (s.updWall fun x => { x with left := x.left.filter waits }).each now fun s p => s.sendOutcome p.coord p.id 1
  let s := match s.wall.part with
    | some p =>
      if waits p = false then
        let s := s.updWall fun x => { x with part := none }
        (if p.coord = s.nodeId then s else s.setPhase wpApplied).sendOutcome p.coord p.id 1
      else s
    | none => s
  match s.wall.coord with
  | some c =>
    if c.sent = true ∧ decide (0 ≤ wordDiff s.tick (c.m + BitVec.ofNat 32 (c.d + 1))) = true then
      let ph := s.get .CMP_WALL_STATUS_PHASE
      let s := if ph = wpSplit ∨ ph = wpAborted ∨ ph = wpApplied then s
        else s.setPhase (if c.decided = some true ∧ c.outcomes.all (·.2 == 1) = true then wpApplied else wpAborted)
      s.updWall fun w => { w with coord := none }
    else s
  | none => s

end Sys2Proof.Machine
end

