-- ==== Sys2Proof/Machine/Validate.lean ====
section
/-!
DEFINITION. The rules under which an image is rejected at load (R398, with R15, R20, R40, R61, R101, R108, R127, R130,
R150, R168, R222, R238, R257, R293, R295, R298, R301, R321, R324, R335, R343, R415, and the ranges of the register tables),
judged over the LK words the image brings and its decoded tables; and the check of its memory section (R394).
-/

namespace Sys2Proof.Machine

open Sys2Proof

/-! ### LK words -/

/-- The LK bits of the register at an address. -/
def lkMask (a : Nat) : Word :=
  match (blockRegs a).find? (·.hit a) with
  | some d => BitVec.ofNat 32 (d.fields.foldl (fun n f => if f.ty = .lk then n + (2 ^ f.wid - 1) * 2 ^ f.lo else n) 0)
  | none => 0

/-- Put the LK bits of a word over a register. -/
def State.putLk (s : State) (a : Nat) (w : Word) : State :=
  s.setWord a ((s.word a &&& ~~~lkMask a) ||| (w &&& lkMask a))

/-- Is the address in the MEM block, or a contract register (R42, R394, R398)? -/
def memAddr (a : Nat) : Bool := a / 0x10000 == 0x1007
def contractAddr (a : Nat) : Bool :=
  decide (Reg.CMP_LV_CON0 0 ≤ a ∧ a < Reg.CMP_LV_CON0 512) && decide ((a - Reg.CMP_LV_CON0 0) % 32 < 12)

/-- R375, R384: a word of the image goes into an MPU, which takes none once it is locked, and no SIZE outside 9 to 40. -/
def State.putMpu (s : State) (a : Nat) (w : Word) : State :=
  let m := (a - Reg.MPU_RGN_CTL 0 0) / 0x100
  let r := (a - Reg.MPU_RGN_CTL m 0) / 8
  if s.mpuLocked = true ∨ m = 1 then s
  else if a = Reg.MPU_RGN_CTL m r then s.rgnCtlWrite m r w
  else s.putLk a w

/-- R293, R375, R398: the LK fields of every block but MEM and the contracts are written; a channel the image sets is image-owned. -/
def State.loadLk (s : State) (ws : List (Nat × Word)) : State :=
  s.each (ws.filter fun e => !memAddr e.1 && !contractAddr e.1) fun s (a, w) =>
    let s := if a / 0x10000 = 0x1001 then s.putMpu a w else s.putLk a w
    let c := (a - Reg.TIM_TRG_CFG 0) / 16
    if Reg.TIM_TRG_CFG 0 ≤ a ∧ c < 64 then s.setB (.TIM_TRG_CFG_OWNER c) true else s

/-! ### The memory section (R257, R394) -/

/-- Are the LK fields of the MEM block within their ranges? -/
def State.memRanges (s : State) : Bool :=
  s.get .MEM_CFG_CHANNELS != 3 && s.get .MEM_CFG_MAP != 3 && s.get .MEM_CFG_SPEED != 0 && s.get .MEM_WQ_ROWHIT_MAX != 0
    && decide (4 ≤ s.get .MEM_WQ_WQ_LOW ∧ s.get .MEM_WQ_WQ_LOW < s.get .MEM_WQ_WQ_HIGH ∧ s.get .MEM_WQ_WQ_HIGH ≤ 60)
    && decide (512 ≤ s.get .MEM_RDT_THRESHOLD ∧ s.get .MEM_RDT_THRESHOLD ≤ 0x8000)

/-- R394: the MEM block with a memory section, if every field of it is within its range. -/
def State.memSection (s : State) (ws : List (Nat × Word)) : Option State :=
  let x := s.each (ws.filter fun e => memAddr e.1) fun s (a, w) => s.putLk a w
  if x.memRanges then some x else none

/-- R398: do the LK fields of the MEM block equal those of a memory section? -/
def State.memEquals (s : State) (ws : List (Nat × Word)) : Bool :=
  (ws.filter fun e => memAddr e.1).all fun (a, w) => decide (s.word a &&& lkMask a = w &&& lkMask a)

/-! ### Rules over the loaded fields -/

/-- R20, R21: the tick period, and one of the two tick sources. -/
def State.periodOk (s : State) : Bool :=
  let n := s.get .DLR_TICK_NUM_NUM
  let d := s.get .DLR_TICK_DEN_DEN
  let src := s.get .DLR_TICK_CFG_TICK_SRC
  (src == 1 || src == 2) && d != 0 && decide (25000000 * d ≤ 3 * n ∧ 3 * n ≤ 125125000 * d)

/-- R130, R150: the timing of a declared output. -/
def State.timingOk (s : State) (o : Nat) : Bool :=
  let (h, v) := (s.hAct o, s.vAct o)
  let (ht, vt) := (s.get (.OUT_HTIM0_TOTAL o), s.get (.OUT_VTIM0_TOTAL o))
  let phase : Rat := (s.get (.OUT_PHASE_PHASE o) : Nat)
  let f := s.pixClock o
  let line : Rat := if vt = 0 then 0 else s.pTick / (vt : Nat)
  decide (640 ≤ h ∧ h ≤ 4096 ∧ 480 ≤ v ∧ v ≤ 2304 ∧ h ≤ ht ∧ v ≤ vt ∧ 25000000 ≤ f ∧ f ≤ 680000000)
    && decide (120000 ≤ ((vt - v : Nat) : Rat) * line ∧ 60000 ≤ phase)
    && decide (phase + ((v - s.get (.OUT_LEAD_COMMIT_LEAD o) : Nat) : Rat) * line ≤ s.pTick - 120000)
    && (trialOrder ⟨s.get (.OUT_CTRL_LANES_MAX o), s.get (.OUT_CTRL_RATE_MAX o)⟩).any
      (s.carries o (if s.get (.OUT_CTRL_BPC o) = 1 then 8 else 10))

/-- Outputs: field values rejected at load, declared timings, and the alarm rectangles of R415. -/
def State.outputsOk (s : State) : Bool :=
  s.get .OUT_REF_CFG_MIN_WIDTH != 0 && outputs.all fun o =>
    decide (s.get (.OUT_CTRL_BPC o) ≤ 1 ∧ s.get (.OUT_CTRL_LANES_MAX o) ≤ 2) && s.get (.CMP_LV_OUT_MISS_LIMIT o) != 0
      && decide (2 ≤ s.get (.OUT_LEAD_COMMIT_LEAD o) ∧ s.get (.OUT_LEAD_COMMIT_LEAD o) ≤ 64)
      && (!s.declared o || s.timingOk o)
      && (List.range 4).all fun a =>
        let rect := fun (k : Nat) => (s.get (.SCO_ALM_POS_X o k), s.get (.SCO_ALM_POS_Y o k),
          s.get (.SCO_ALM_SIZE_X o k), s.get (.SCO_ALM_SIZE_Y o k))
        let (x, y, w, h) := rect a
        !s.on (.SCO_ALM_CFG_EN o a) || (decide (8 ≤ w ∧ 8 ≤ h ∧ x + w ≤ s.hAct o ∧ y + h ≤ s.vAct o)
          && !rectsMeet (x, y, w, h) (0, 0, 4, 4)
          && (List.range a).all fun k => !s.on (.SCO_ALM_CFG_EN o k) || !rectsMeet (x, y, w, h) (rect k))

/-- Inputs and contexts: field values rejected at load, and R168. -/
def State.sourcesOk (s : State) : Bool :=
  (outputs.all fun i => decide (3 ≤ s.get (.CAP_CFG_STORE_FMT i) ∧ s.get (.CAP_CFG_STORE_FMT i) ≤ 6
      ∧ s.get (.CAP_CFG_LANES_MAX i) ≤ 2))
    && (List.range 512).all (fun c => !s.on (.DEC_CX_CFG_EN c) || s.get (.DEC_CX_CFG_CPA c) != 0)
    && s.image.srcs.all fun e => decide (e.2.pixClk ≤ 680000000)

/-- R238: are two nodes of the topology at most 4 hops apart, its node numbers below 64, and no port of a node at two links (which two
nodes of one ID would show)? -/
def topologyOk (links : List Link) : Bool :=
  let nodes := uniq (links.flatMap fun l => [l.a, l.b])
  let ends := links.flatMap fun l => [(l.a, l.pa), (l.b, l.pb)]
  (uniq ends).length == ends.length &&
  nodes.all fun d => decide (d < 64) && nodes.all fun v => v == d || (Tab.find (distances links d 4) v).isSome

/-- The flows that the image routes out through port `p` (R220, R237). -/
def State.imageFlows (s : State) (p : Nat) : List FlowDesc :=
  s.image.flows.filter fun f => f.dest != s.nodeId && ((routeOf s.image.links s.nodeId f.dest).map (·.1)) == some p

/-- Fabric: lengths, flow classes, the topology, at most two DIRECT flows through a port direction, and the payload of every
direction at ×4 in every deal (R222). -/
def State.fabricOk (s : State) : Bool :=
  (fabPorts.all fun p => !s.on (.FAB_P_CFG_EN p) || s.get (.FAB_P_CFG_LENGTH p) != 0)
    && s.regs.all (fun e => match regIdx (Reg.FAB_FLOW_CFG 0) 8 4096 e.1 with
      | some f => (Fld.FAB_FLOW_CFG_CLASS f).of e.2 != 3
      | none => true)
    && topologyOk s.image.links
    && s.image.layouts.all fun y => fabPorts.all fun p =>
      let fs := s.imageFlows p
      decide ((fs.filter fun f => f.direct && y.flows.contains f.id).length ≤ 2) && y.cycle.all fun deal =>
        decide ((((fs.filter fun f => reserves deal f.id).map fun f => s.flowCost f 4).sum : Rat) ≤ s.payload 4)

/-- Time: trigger channels and pulse outputs (R293, R295). The channels that the image sets. -/
def State.timeOk (s : State) : Bool :=
  ((List.range 64).all fun c => !s.on (.TIM_TRG_CFG_OWNER c) ||
      (s.get (.TIM_TRG_CFG_DEN c) != 0
        && (s.get (.TIM_TRG_CFG_MODE c) != 3 || decide (((s.get (.TIM_TRG_START_START c) : Nat) : Rat) < s.pTick - 1000))
        && (s.get (.TIM_TRG_CFG_MODE c) != 2 || decide (10000 * s.get (.TIM_TRG_CFG_DEN c) ≤ s.get (.TIM_TRG_PER_NUM c)))))
    && (List.range 4).all fun k =>
      let period : Rat := match s.get (.TIM_PPS_CFG_MODE k) with
        | 3 => s.pTick * ((s.get (.TIM_PPS_CFG_DIV k) + 1 : Nat) : Rat)
        | _ => mkRat (s.get (.TIM_PPS_PER_NUM k)) (s.get (.TIM_PPS_CFG_DEN k))
      let mode := s.get (.TIM_PPS_CFG_MODE k)
      decide (mode ≤ 4) && (mode == 0 || s.get (.TIM_PPS_CFG_WIDTH k) != 0 && s.get (.TIM_PPS_CFG_DEN k) != 0) && (mode ≤ 1 || (s.get (.TIM_PPS_CFG_DEN k) != 0
        && decide (((200 * s.get (.TIM_PPS_CFG_WIDTH k) : Nat) : Rat) < period)))

/-- Is a channel image-owned, PERIODIC with a period of 1 ms (R324)? -/
def State.msChannel (s : State) (c : Nat) : Bool :=
  s.on (.TIM_TRG_CFG_OWNER c) && s.get (.TIM_TRG_CFG_MODE c) == 2
    && s.get (.TIM_TRG_PER_NUM c) == 1000000 * s.get (.TIM_TRG_CFG_DEN c)

/-- R302, R320: the thresholds and ranges of a touch port. -/
def State.tchRanges (s : State) (p : Nat) : Bool :=
  decide (s.tLift p < s.tTouch p ∧ 8 ≤ s.get (.TCH_P_CFG1_PULSES p) ∧ s.get (.TCH_P_CFG1_PULSES p) ≤ 64)
    && decide (1 ≤ s.get (.TCH_P_CFG0_DEBOUNCE p) ∧ s.get (.TCH_P_CFG0_DEBOUNCE p) ≤ 4 ∧ 1 ≤ s.get (.TCH_P_CFG0_MATCH_RADIUS p))
    && decide (5 ≤ s.get (.TCH_P_THR2_HOLD_LIMIT p) ∧ s.get (.TCH_P_THR2_HOLD_LIMIT p) ≤ 3600)

/-- Touch ports (R298, R301, R302, R320). -/
def State.touchOk (s : State) : Bool :=
  (List.range 4).all fun p => s.get (.TCH_P_CFG1_F_EXC p) != 3 && s.tchRanges p && (!s.on (.TCH_P_CFG0_EN p) ||
    (let (d, n, spt) := (s.get (.TCH_P_CFG0_DRIVES p), s.get (.TCH_P_CFG0_SENSES p), s.get (.TCH_P_CFG0_SPT p))
     let pulse : Rat := (s.get (.TCH_P_CFG1_PULSES p) * (4000 / 2 ^ s.get (.TCH_P_CFG1_F_EXC p)) : Nat)
     let acq : Rat := pulse * (d + 2 : Nat) + 20000
     let gap : Rat := if spt = 0 then 0 else s.pTick / (spt : Nat)
     let last : Rat := ((1000 * s.get (.TCH_P_CFG1_SCAN_PHASE p) : Nat) : Rat) + gap * (spt - 1 : Nat)
     decide (4 ≤ d ∧ d ≤ 48 ∧ 4 ≤ n ∧ n ≤ 88 ∧ 1 ≤ spt ∧ spt ≤ 10)
       && decide (((1000000000 * spt : Nat) : Rat) ≤ 240 * s.pTick)
       && decide (last + acq + 1700000 ≤ s.pTick - 100000) && decide (pulse * 6 + 20000 ≤ gap - acq)))

/-- Audio (R321, R324, R326, R335, R337). -/
def State.audioOk (s : State) : Bool :=
  let on := (List.range 8).filter fun p => s.on (.AUD_P_CFG_EN p)
  let width := fun (p : Nat) => [16, 24, 32].getD (s.get (.AUD_P_CFG_SLOT_W p)) 0
  ((List.range 8).all fun g => s.get (.AUD_G_CFG_RATE g) != 3
      && (!s.on (.AUD_G_CFG_USED g) || s.msChannel (s.get (.AUD_G_CFG_TRG g))))
    && decide (s.get .AUD_ALARM_CFG_LEVEL ≤ 40 ∧ 200 ≤ s.get .AUD_ALARM_CFG_FREQ ∧ s.get .AUD_ALARM_CFG_FREQ ≤ 4000)
    && decide (10 ≤ s.get .AUD_ALARM_CAD_ON_MS ∧ s.get .AUD_ALARM_CAD_ON_MS ≤ 5000 ∧ s.get .AUD_ALARM_CAD_OFF_MS ≤ 5000)
    && (!s.on .AUD_ALARM_CFG_EN || decide (s.get .AUD_ALARM_CFG_SLOT < s.audSlots (s.get .AUD_ALARM_CFG_PORT)))
    && (!s.on .AUD_ALARM_CFG_EN || (!s.audRx (s.get .AUD_ALARM_CFG_PORT) && !s.audSlave (s.get .AUD_ALARM_CFG_PORT)))
    && (List.range 8).all (fun p => s.get (.AUD_P_CFG_SLOT_W p) != 3
      && decide (4 ≤ s.get (.AUD_P_RING_HI_RING p) ∧ s.get (.AUD_P_RING_HI_RING p) ≤ 64))
    && on.all fun p =>
      (s.on (.AUD_P_CFG_TDM p) || s.audSlots p == 2)
        && decide (s.audFs (s.audGroup p) * s.audSlots p * width p ≤ 25000000)
        && (!s.on (.AUD_P_CFG_SAMPLE24 p) || decide (24 ≤ width p))
        && on.all fun q => s.audGroup q != s.audGroup p || s.on (.AUD_P_CFG_DIR q) == s.on (.AUD_P_CFG_DIR p)
          || decide ((s.get (.AUD_P_RING_HI_BASE_HI q), s.get (.AUD_P_RING_LO_BASE_LO q))
            ≠ (s.get (.AUD_P_RING_HI_BASE_HI p), s.get (.AUD_P_RING_LO_BASE_LO p)))

/-- R101: the coefficients of the sets that the image loads sum to 256 in every phase, of 8 and of 6 taps. -/
def State.coefsOk (s : State) (ws : List (Nat × Word)) : Bool :=
  (List.range 4).all fun c =>
    !(ws.any fun e => decide (Reg.CMP_COEF c 0 ≤ e.1 ∧ e.1 < Reg.CMP_COEF (c + 1) 0)) ||
      ((List.range 64).all fun ph =>
        decide (((List.range 8).map fun t => s.coef c (8 * ph + t)).foldl (· + ·) 0 = 256) &&
        decide (((List.range 6).map fun t => s.coef c (512 + 6 * ph + t)).foldl (· + ·) 0 = 256))

/-- R40, R61 and the size of a VISIBLE tell: a contract of a layer under a layout. Whether sources that the permit table lets a later swap
assign are judged too the rules do not say (R32 says so of budgets alone): only the source the layout itself assigns is (log 97). -/
def State.contractOk (s : State) (y : LayoutDesc) (l : Nat) (c : Contract) : Bool :=
  let t := conTerms c
  let word := fun (a : Nat) => (Tab.find y.sh a).getD (regReset a)
  let g := geoOf word l
  let d := s.srcDesc g.src
  decide (t.ageBound ≤ 1000000 ∧ t.cls ≤ 2 ∧ 2 ≤ t.freezeF ∧ 1 ≤ t.unfoldN ∧ 1 ≤ t.firstN ∧ t.concealMax ≤ 1000)
    && decide (1 ≤ t.concealTicks ∧ 10 ≤ t.window ∧ t.window ≤ 2000)
    && (!g.isTile || ((t.cls != 1 || d.tell.isSome) && (t.cls != 2 || decide (16 ≤ srcLocal g.src) || d.graphics)
      && (!t.visible || decide (32 ≤ g.dw ∧ 32 ≤ g.dh)) && decide (srcLocal g.src < 0x220)))

/-- Masters whose transfers belong to tricks (R15). -/
def dmaMaster (m : Nat) : Bool := decide (2 ≤ m ∧ m ≤ 7) || m == 10

/-- R293: a trick names no channel, or an image-owned one. -/
def State.issueOwned (s : State) (t : Trick) : Bool :=
  match t.issue with
  | .trigger c => s.on (.TIM_TRG_CFG_OWNER c)
  | _ => true

/-- R15, R40, R106, R293 over the layouts: contracts, the DMA share of 4.0 GB/s, channels of tricks, sync groups of stored
layers. -/
def State.layoutOk (s : State) (y : LayoutDesc) : Bool :=
  y.contracts.all (fun e => s.contractOk y e.1 e.2) && decide (1 ≤ y.cycle.length ∧ y.cycle.length ≤ 16)
    && (listedLayers y.sh).all (fun l =>
      let g := geoOf (fun a => (Tab.find y.sh a).getD (regReset a)) l
      !g.direct || g.group == 0)
    && y.cycle.all fun deal =>
      decide ((((deal.filter fun t => (t.master.map dmaMaster).getD false).foldl (fun n t => n + t.dram) 0 : Nat) : Rat) ≤ 4 * s.pTick)
        && deal.all s.issueOwned

/-- R25, R106, R108, R127, R284, R293, R343, R384, R424: skews, the Talon's size, the wall cutoff, controller entries, the session timeout,
the PTP domain, channels of source and stream tricks, the watchdog's timeout, and RESTART_S. -/
def State.restOk (s : State) : Bool :=
  decide (((List.range 8).map fun c => s.get (.CMP_TLN_COUNT_COUNT c)).foldl (· + ·) 0 ≤ 8192)
    && (List.range 32).all (fun g => g == 0 || decide (s.get (.CMP_SG_CFG_SKEW g) ≤ 100000))
    && (s.image.walls.isEmpty || decide (50000 ≤ s.image.cutoff))
    && decide (s.image.controllers.length ≤ 16) && decide (s.image.ptpDomain ≤ 127)
    && decide (1 ≤ s.image.sessionTimeout ∧ s.image.sessionTimeout ≤ 600)
    && decide (1 ≤ s.image.lockTimeout ∧ s.image.lockTimeout ≤ 60)
    && s.image.srcs.all (fun e => e.2.tricks.all fun t => s.issueOwned t.2)
    && s.image.encs.all (fun e => e.2.all fun t => s.issueOwned t.2)
    && decide (10 ≤ s.get .BKR_WDT_TIMEOUT ∧ s.get .BKR_WDT_TIMEOUT ≤ 450)
    && s.image.controllers.all (fun c => c.transport != 0 || c.addr != 0)
    && decide (s.get .SCO_SAFE_CFG_RESTART_S = 0 ∨ (10 ≤ s.get .SCO_SAFE_CFG_RESTART_S ∧ s.get .SCO_SAFE_CFG_RESTART_S ≤ 3600))

/-- R210, R211: is a word that the image brings for a stream context or an encode stream within the ranges of its fields? -/
def codecWordOk (a : Nat) (w : Word) : Bool :=
  (match regIdx (Reg.DEC_CX_LAT 0) 64 512 a with
    | some c => decide ((Fld.DEC_CX_LAT_L c).of w ≤ 1000 ∧ (Fld.DEC_CX_LAT_U c).of w ≤ 100)
    | none => true)
  && (match regIdx (Reg.DEC_CX_TIM 0) 64 512 a with
    | some c => decide (5 ≤ (Fld.DEC_CX_TIM_ASM_TIMEOUT c).of w ∧ 50 ≤ (Fld.DEC_CX_TIM_STALL c).of w ∧ (Fld.DEC_CX_TIM_STALL c).of w ≤ 1000
        ∧ 5 ≤ (Fld.DEC_CX_TIM_PLI_REPEAT c).of w ∧ (Fld.DEC_CX_TIM_PLI_REPEAT c).of w ≤ 200)
    | none => true)
  && (match regIdx (Reg.DEC_CX_CONC 0) 64 512 a with
    | some c => decide ((Fld.DEC_CX_CONC_PLI_CONCEAL c).of w ≤ 1000 ∧ 1 ≤ (Fld.DEC_CX_CONC_PLI_RUN c).of w)
    | none => true)
  && (match regIdx (Reg.ENC_ST_RC 0) 64 32 a with
    | some e => decide ((Fld.ENC_ST_RC_QP_T e).of w ≤ (Fld.ENC_ST_RC_QP_MAX e).of w ∧ (Fld.ENC_ST_RC_QP_MAX e).of w ≤ 51
        ∧ 64 ≤ (Fld.ENC_ST_RC_CAP e).of w ∧ (Fld.ENC_ST_RC_CAP e).of w ≤ 200000)
    | none => true)
  && (match regIdx (Reg.ENC_ST_KEY 0) 64 32 a with
    | some e => decide (1 ≤ (Fld.ENC_ST_KEY_AGE e).of w ∧ (Fld.ENC_ST_KEY_AGE e).of w ≤ 1000)
    | none => true)

/-- R398: does the loaded image meet every rule under which an image is rejected? `ws` are the words it brings. -/
def State.rulesOk (s : State) (ws : List (Nat × Word)) : Bool :=
  s.periodOk && s.outputsOk && s.sourcesOk && s.fabricOk && s.timeOk && s.touchOk && s.audioOk && s.coefsOk ws
    && s.image.layouts.all s.layoutOk && s.restOk && ws.all fun e => codecWordOk e.1 e.2

/-! ### Every layout admitted (R34, R398) -/

/-- The answer of R34 to a layout with the source assignments the image gives it. -/
def State.layoutAnswer (s : State) (y : Nat) : AdmAnswer :=
  let img := { s.image with layoutsOk := List.range s.image.layouts.length }
  let s : State := { s with image := img }
  let sh := match s.layout? y with | some ly => ly.sh | none => []
  let c : Change := { id := 0, kind := .commit sh (some y), stage := .waiting, place := [], dueTick := 0 }
  let base : DealBase := { sh := [], layers := s.layersTouched [c], layout := y, encOn := [], place := [] }
  s.evaluate base c

/-- R398: is every layout admitted, the initial one first? -/
def State.layoutsAdmitted (s : State) (initial : Nat) : Bool :=
  decide (initial < s.image.layouts.length) &&
    (initial :: List.range s.image.layouts.length).all fun y => (s.layoutAnswer y).code == stOK

end Sys2Proof.Machine
end

