-- ==== Sys2Proof/Machine/Boot.lean ====
section
/-!
DEFINITION. Start-up: the device resets, the cold boot, loading, validation and migration of the image, entry to DEALING,
trials (R385 to R388, R393 to R400, R404, R405).
-/

namespace Sys2Proof.Machine

open Sys2Proof

/-! ### Resets (R385, R386, R438) -/

/-- R11, R385: a device reset with a cause, and FAULT_N as its pad logic drives it. -/
def State.enterReset (s : State) (cause : Nat) : State := (s.deviceReset cause).settleFault

/-- R430, R438: a rail falls below its trip level when `n` bytes of the record in progress are written. -/
def State.supplyTrip (s : State) (n : Nat) : State := (s.tornRecord n).enterReset rstPowerOn

/-- R385, R409: a write of BKR_DEV_RESET by a privileged piece of M0 or not; ignored in SAFE (R423). -/
def State.devReset (s : State) (key : Nat) (priv : Bool) : State :=
  if key = 0x5120 ∧ priv = true ∧ s.devState ≠ stSafe ∧ s.devState ≠ stReset then s.enterReset rstSoftware else s

/-! ### Slot selection (R387, R393) -/

/-- A slot's result in BKR_BOOT_ERR. -/
def State.slotErr (s : State) (slot : Nat) : Nat :=
  if slot = 0 then s.get .BKR_BOOT_ERR_SLOT_A else s.get .BKR_BOOT_ERR_SLOT_B

/-- R392: the boot ROM verifies a slot and shows the result. -/
def State.bootVerify (s : State) (f : FlashIn) (slot : Nat) : State := s.setSlotErr slot (s.verifySlot f slot)

/-- R387, R406: RECOVERY is entered from LOADING, with a result for each slot; a device in HELD stays there. -/
def State.enterRecovery (s : State) (f : FlashIn) (rcv : Bool) : State :=
  if s.devState ≠ stLoading then s
  else
    let s := s.each [0, 1] fun s k => if s.slotErr k = 0 then s.bootVerify f k else s
    (s.setDevState stRecovery).updBoot fun b => { b with recovery := { RecoverySt.init with rcv := rcv } }

/-- R393: a slot is started: it is the running slot until the next device reset, and its parts are loaded next. -/
def State.startSlot (s : State) (p : Ptr) (slot : Nat) (fallback : Bool) : State :=
  let m := s.manifest slot
  let s := (s.set .BKR_BOOT_RUN_SLOT slot).setB .BKR_BOOT_FALLBACK fallback
  let s := (s.setB .BKR_BOOT_TRIAL (p.trial && slot == p.active)).set .BKR_BOOT_SV (manNum m 8 1)
  (s.setWord Reg.BKR_FW_VER (BitVec.ofNat 32 (manNum m 0xC 4))).updBoot fun b => { b with scorerOk := false }

/-- R393: the active slot cannot be started: back to PREVIOUS on trial, else the other slot, else RECOVERY. -/
def State.nextBranch (s : State) (f : FlashIn) (p : Ptr) : State :=
  if p.trial ∧ p.previous.isSome = true then (s.revert f p).settleFault
  else
    let s := s.bootVerify f (1 - p.active)
    if s.slotErr (1 - p.active) = 1 then s.startSlot p (1 - p.active) true else s.enterRecovery f false

/-- The pointer in force as the boot ROM takes it; slot A where no copy is valid. -/
def State.bootPtr (s : State) : Ptr :=
  match s.pointer with
  | some (_, p) => p
  | none => { seq := 0, active := 0, trial := false, tries := 0, previous := none }

/-- R393: the boot ROM selects a slot. -/
def State.selectSlot (s : State) (f : FlashIn) : State :=
  let p := s.bootPtr
  let s := s.setB .BKR_BOOT_POINTER_BAD s.pointer.isNone
  if p.trial ∧ 3 ≤ p.tries then (s.revert f p).settleFault
  else
    let s := if p.trial then
        ((s.writePtr f { p with tries := p.tries + 1 }).1).set .BKR_BOOT_TRIES (p.tries + 1)
      else s
    let s := s.bootVerify f p.active
    if s.slotErr p.active = 1 then s.startSlot p p.active false else s.nextBranch f p

/-- R276, R289, R393: the boot ROM runs on Banker core 0 and starts DRAM training at 3200 MT/s; the management port is on by
the device state. -/
def State.bootRom (s : State) : State := (s.set .BKR_STATUS_RUN 1).trainStart

/-- Words of marker palette entries 1 to 7 (R68), B in [9:0], G in [19:10], R in [29:20]. -/
def scorerPalette : List (Nat × Word) :=
  [(1, 0x2C0002C0), (2, 0x3FF00000), (3, 0x3FFA8000), (4, 0x3FFFFFFF), (5, 0x3FF10040), (6, 0x3FF80000), (7, 0x00000000)]

/-- R68: the Scorer loads its palette entries from ROM. -/
def State.loadPalette (s : State) : State :=
  s.each outputs fun s o => s.each scorerPalette fun s e => s.setWord (Reg.CMP_MKP o e.1) e.2

/-- R402, R423: the reset that an activation asked for, once it is due; SAFE takes none. -/
def State.activationReset (s : State) : State :=
  match s.boot.resetAt with
  | some t => if 0 ≤ (s.extNow - t).toInt ∧ s.devState ≠ stSafe then s.enterReset rstSoftware else s
  | none => s

/-- R376, R386, R387, R393, R429, R443: the device leaves RESET. `rcv`: BOOT_RCV_N was low when RESET_N rose, which it did where POWER_ON
or RESET_PIN is among the causes; after another reset the sample of the last rise stands (log 109). -/
def State.resetEnd (s : State) (rcv : Bool) (f : FlashIn) : State :=
  if s.devState ≠ stReset then s
  else
    let cause := s.boot.cause
    let rcv := if cause % 4 ≠ 0 then rcv else s.boot.rcvPin
    let s := (s.senseFuses.updBoot fun b => { b with rcvPin := rcv, released := s.extNow }).setDevState stLoading
    let s := (s.loadPalette).logStart cause
    if s.lifecycle = lcBlank then s.hold_ holdBlank
    else if s.lifecycle = lcRetired then s.hold_ holdRetired
    else if rcv then (s.bootRom).enterRecovery f true
    else (s.bootRom).selectSlot f

/-! ### Holds and trials (R388, R404) -/

/-- R404: the firmware puts the pointer back to PREVIOUS and resets the device. -/
def State.revertTrial (s : State) (f : FlashIn) : State :=
  match s.pointer with
  | some (_, p) => (s.revert f p).settleFault
  | none => s

/-- R388, R404: a hold cause other than MIGRATE arises; on trial, causes but MEM_TRAIN, MEM_SPEED and TOPOLOGY revert the slot. -/
def State.holdBoot (s : State) (f : FlashIn) (cause : Nat) : State :=
  let s := s.hold_ cause
  if s.on .BKR_BOOT_TRIAL ∧ s.devState = stHeld ∧ cause ≠ holdMemTrain ∧ cause ≠ holdMemSpeed ∧ cause ≠ holdTopology then
    s.revertTrial f
  else s

/-- R237, R388, R404: the Scorer's route check ends; FAIL holds the device. -/
def State.routeResult (s : State) (f : FlashIn) : State :=
  let s := s.routeCheck
  if s.boot.holds.contains holdRoute ∧ s.on .BKR_BOOT_TRIAL = true ∧ s.devState = stHeld then s.revertTrial f else s

/-- Is the device starting, with the boot ROM or firmware at work? -/
def State.starting (s : State) : Bool := (s.devState == stLoading || s.devState == stHeld) && s.get .BKR_STATUS_RUN != 0

/-! ### Parts and the Scorer's check (R394, R395) -/

/-- R394: the memory section goes into the MEM block, once, and the image's rate is requested. -/
def State.bootMemory (s : State) (mem : List (Nat × Word)) : State :=
  if s.boot.memSet then s
  else match s.memSection mem with
    | some x => (x.updBoot fun b => { b with memSet := true }).freqGo (x.get .MEM_CFG_SPEED)
    | none => s

/-- R358, R394: the parts of the running slot are loaded. `bad` are the parts whose copy has another digest, `mem` the words
of the image's memory section. -/
def State.partsLoaded (s : State) (bad : List Nat) (mem : List (Nat × Word)) (f : FlashIn) (t : Word) : State :=
  if s.starting = false ∨ s.boot.loaded = true then s
  else
    let s := s.at_ t
    let slot := s.runSlot
    let s := s.loadMems slot ([2, 3, 4, 5, 6].filter fun k => !bad.contains k)
    let s := if bad.contains 7 then s else s.bootMemory mem
    if bad.isEmpty then
      let s := (s.loadSram slot).startFirmware
      let s := s.updBoot fun b => { b with loaded := true }
      let s := (s.set .BKR_IMG_DELIVERED (s.imageNum 4 2)).setB .TCH_STATUS_TSP_RUN true
      let s := if s.on .BKR_BOOT_TRIAL then
          (s.set .BKR_TRIAL_CONFIRM_LEFT (s.imageNum 0x16 2)).updBoot fun b => { b with trialS := s.imageNum 0xE 2, confirmS := s.imageNum 0x16 2 }
        else s
      s.log 0x0107 ([slot, (s.word Reg.BKR_BOOT).toNat % 256, s.get .BKR_BOOT_SV] ++ by4 (s.word Reg.BKR_FW_VER).toNat)
    else
      let s := s.setSlotErr slot 6
      let p := s.bootPtr
      if s.on .BKR_BOOT_FALLBACK then s.enterRecovery f false else s.nextBranch f p

/-- R395: the Scorer's own verification of the running slot ends, whatever the Banker does; `badFw`: its firmware fails its digest.
It loads its firmware from its own read. The slot was started because the boot ROM's result for it was OK; a warm path that failed later
(R396) does not change that. -/
def State.scorerCheck (s : State) (f g : FlashIn) (badFw : Bool) : State :=
  if (s.devState ≠ stLoading ∧ s.devState ≠ stHeld) ∨ s.boot.scorerOk = true ∨ s.slotErr s.runSlot = 0 then s
  else if s.verifySlot f s.runSlot = 1 ∧ badFw = false then
    (s.loadMems s.runSlot [3]).updBoot fun b => { b with scorerOk := true }
  else s.holdBoot g holdScorerImage

/-! ### The image (R397 to R399) -/

/-- Bytes of the image in use: the delivered one in Banker SRAM, or the migrated working copy in DRAM. -/
def State.imageBytes (s : State) (off n : Nat) : List Byte :=
  match s.boot.imageAt with
  | none => readBytes 0 s.plat.sram (0x400000 + off) n
  | some a => readBytes Config.dramFill s.dram (a + off) n
def State.imageVal (s : State) (off n : Nat) : Nat := leNat (s.imageBytes off n)

/-- R397: does a section of the image have its SAFETY flag set? -/
def State.hasSafety (s : State) : Bool := (List.range (s.imageVal 6 2)).any fun k => bitOf (s.imageVal (0x42 + 16 * k) 2) 0

/-- R397: the sections of the image: ID, offset, length, CRC. -/
def State.sections (s : State) : List (Nat × Nat × Nat × Nat) :=
  (List.range (s.imageVal 6 2)).map fun k =>
    let e := 0x40 + 16 * k
    (s.imageVal e 2, s.imageVal (e + 4) 4, s.imageVal (e + 8) 4, s.imageVal (e + 12) 4)

/-- R397: is the header right? -/
def State.headerOk (s : State) : Bool :=
  sealOk (s.imageBytes 0 64) && s.imageVal 0 4 == 0x4B52494D && decide (1 ≤ s.imageVal 6 2 ∧ s.imageVal 6 2 ≤ 255)
    && decide (s.imageVal 0xC 1 ≤ 63 ∧ 30 ≤ s.imageVal 0xE 2 ∧ s.imageVal 0xE 2 ≤ 3600)
    && decide (10 ≤ s.imageVal 0x16 2 ∧ s.imageVal 0x16 2 ≤ 3600)

/-- R397: the first section whose CRC fails. -/
def State.badSection (s : State) : Option Nat :=
  (s.sections.find? fun (_, off, len, crc) => (crc32c (s.imageBytes off len)).toNat != crc).map (·.1)

/-- R271: the blocks of the migrated image that fail when the Banker reads it. -/
def State.imageBad (s : State) : List Nat :=
  match s.boot.imageAt with
  | none => []
  | some a =>
    let head := s.badBlocks a (64 + 16 * s.imageVal 6 2)
    if head.isEmpty then s.sections.flatMap fun (_, off, len, _) => s.badBlocks (a + off) len else head

/-- R398: the section and item of the first failing check as far as the image names them: none when every check passes. The
section IDs are the image's own; where the spec names none, both are free values. -/
def State.imageFault (s x : State) (i : ImageIn) : Option (Option Nat × Option Nat) :=
  if s.imageBad.isEmpty = false ∨ s.headerOk = false ∨ (s.on .BKR_BOOT_MIGRATED = true ∧ s.imageVal 4 2 ≠ s.imgFormat s.runSlot) then
    some (none, none)
  else match s.badSection with
    | some id => some (some id, none)
    | none =>
      if s.imageVal 0x10 6 ≠ 0 ∧ s.imageVal 0x10 6 ≠ s.serialNo then some (none, none)
      else match i.bad with
        | some (a, b) => some (some a, some b)
        | none =>
          if x.rulesOk i.lk = false ∨ s.memEquals i.lk = false ∨ x.layoutsAdmitted (s.imageVal 0xD 1) = false then some (none, none)
          else none

/-- A number, or a free 16-bit value where none is stated. -/
def State.orFree (s : State) (v : Option Nat) : Nat × State :=
  match v with
  | some n => (n, s)
  | none =>
    let (k, s) := s.fresh
    (k.toNat % 65536, s)

/-- R388, R399, R404: the migration fails: cause MIGRATE, or on trial the slot is reverted, the failure logged (log 95). -/
def State.migrateFails (s : State) (f : FlashIn) : State :=
  if s.on .BKR_BOOT_TRIAL then
    (s.log 0x0106 (holdMigrate :: by4 (s.word Reg.BKR_HOLD_INFO).toNat)).revertTrial f
  else s.hold_ holdMigrate

/-- R398, R399, R404: the image fails: cause IMAGE, or MIGRATE for a migrated one, and BKR_HOLD_INFO. -/
def State.imageFails (s : State) (f : FlashIn) (section_ item : Option Nat) : State :=
  let (a, s) := s.orFree section_
  let (b, s) := s.orFree item
  let s := (s.set .BKR_HOLD_INFO_SECTION a).set .BKR_HOLD_INFO_ITEM b
  if s.on .BKR_BOOT_MIGRATED then s.migrateFails f else s.holdBoot f holdImage

/-- R405: the firmware of a confirmed slot programs the lowest unset anti-rollback bit while SV exceeds the count. -/
def State.rollbackGo (s : State) : State :=
  let n := s.rollbackCells
  if s.on .BKR_BOOT_TRIAL ∨ s.firmware = false ∨ s.get .BKR_BOOT_SV ≤ n ∨ s.on .FUS_PROG_STATUS_BUSY = true then s
  else (s.setWord Reg.FUS_PROG_DATA (BitVec.ofNat 32 (2 ^ (n % 32)))).fuseGo 0 (3 + n / 32)

/-- R376, R405: programming of a fuse word completes, and the firmware goes on to the next anti-rollback bit. -/
def State.fuseNext (s : State) : State :=
  match s.plat.prog with
  | none => s
  | some _ => (s.fuseDone).rollbackGo

/-- R395, R398: does the Scorer read back every LK field of the SAFETY sections as its own read of the image has it? The contract
fields, which the Dealer loads, are compared under R81. -/
def State.readbackOk (s : State) : Bool :=
  s.sco.safety.all fun e => contractAddr e.1 || s.word e.1 &&& tyMask (· == .lk) e.1 == e.2 &&& tyMask (· == .lk) e.1

/-- R398: loading completes over the candidate `x`, the state with the image's LK words and tables. -/
def State.imageLoaded (x : State) (i : ImageIn) (f : FlashIn) : State :=
  let y := x.imageVal 0xD 1
  let x := (x.updDealer fun d => { d with layout := y }).set .DLR_STATUS_LAYOUT y
  let x := (x.setWord Reg.BKR_IMG_ID (BitVec.ofNat 32 (x.imageVal 8 4))).set .BKR_IMG_IN_FORCE (x.imageVal 4 2)
  let x := (x.updBoot fun b => { b with imageOk := true }).servoRef
  let x := x.each x.enabledPorts fun s p => if s.portState p = ptDisabled then s.setPort p ptDown else s
  let x := (x.discUpdate []).rollbackGo
  let x := { x with sco := { x.sco with safety := if x.hasSafety then i.safety else [] } }
  if x.readbackOk then x else x.holdBoot f holdScorerImage

/-- R397, R398: the state with an image's LK words and tables: NODE_ID and the topology hash are its header's. -/
def State.candidate (s : State) (i : ImageIn) : State :=
  let x : State := { s.loadLk i.lk with image := i.image }
  (x.set .FAB_NODE_NODE_ID (s.imageVal 0xC 1)).setWord Reg.FAB_TOPO_HASH (BitVec.ofNat 32 (s.imageVal 0x18 4))

/-- R398, R399: the Banker validates the image. -/
def State.imageValidation (s : State) (i : ImageIn) (f : FlashIn) : State :=
  if s.starting = false ∨ s.on .FUS_DBG_STATUS_BANKER_HALTED = true ∨ s.boot.loaded = false ∨ s.boot.imageOk = true ∨ s.boot.holds.contains holdImage = true
      ∨ s.boot.holds.contains holdMigrate = true then s
  else
    let fmt := s.imageNum 4 2
    if s.imgFormat s.runSlot < fmt then s.imageFails f none none
    else if fmt < s.imgFormat s.runSlot ∧ s.on .BKR_BOOT_MIGRATED = false then s
    else
      let x := s.candidate i
      match s.imageFault x i with
      | some (a, b) => (s.persistAll 54 s.imageBad).imageFails f a b
      | none => x.imageLoaded i f

/-- R396, R399: the Banker migrates the delivered image into a working copy `bytes` at `addr`; `fields`: the SAFETY fields with their
values in the delivered and in the migrated image, which the Scorer compares. A further migration gives the same result. -/
def State.migrate (s : State) (addr : Nat) (bytes : List Byte) (fields : List (Nat × Word × Word)) (f : FlashIn) : State :=
  let fmt := s.imageNum 4 2
  let agree := fields.all fun e => e.2.1 == e.2.2
  if s.firmware = false ∨ s.boot.loaded = false ∨ s.get .MEM_STATUS_STATE ≠ memReady
      ∨ s.imgFormat s.runSlot ≤ fmt ∨ s.boot.holds.contains holdMigrate = true then s
  else if fmt < s.migFloor s.runSlot ∨ agree = false then
    if s.boot.imageOk then s else s.migrateFails f
  else
    let bytes := if s.boot.imageOk then s.boot.migrated.getD bytes else bytes
    let s := (s.chargeBlocks 54 (blocksOf addr bytes.length).length).storeBytes addr bytes
    let s := s.updBoot fun b => { b with imageAt := some addr, migrated := some bytes }
    if s.boot.imageOk then s else s.setB .BKR_BOOT_MIGRATED true

/-! ### Entry to DEALING (R25, R42, R67, R387, R400) -/

/-- R387, R400: may the Dealer enter DEALING? -/
def State.mayDeal (s : State) : Bool :=
  (s.devState == stLoading || s.devState == stHeld) && s.boot.holds.isEmpty
    && (s.lifecycle == lcLab || s.lifecycle == lcField) && s.boot.scorerOk && s.boot.imageOk
    && s.get .MEM_STATUS_STATE == memReady && s.get .MEM_STATUS_SPEED == s.get .MEM_CFG_SPEED
    && s.on .MPU_GLOBAL_LOCK && s.on .FAB_STATUS_TOPO_OK && s.on .FAB_STATUS_ROUTE_OK && s.epochValid

/-- R42, R81: contracts of the initial layout are loaded, copied by the Scorer and compared. -/
def State.contractLoad (s : State) (ly : LayoutDesc) : State := ((s.loadContracts ly).scorerContracts ly).compareContracts

/-- R67, R99, R105, R129, R130, R140, R169: the initial layout is in force. -/
def State.takeLayout (s : State) (ly : LayoutDesc) : State :=
  let s := s.takeWords ly.sh
  let s := s.contractLoad ly
  let s := s.each s.layersOn State.assignTile
  s.each outputs fun s o => (s.planOutput (s.assignScalers s.word (listedLayers s.regs) o) o).planSlots o

/-- R400: the Dealer enters DEALING. -/
def State.dealingEntry (s : State) : State :=
  if s.mayDeal = false then s
  else match s.layout? s.dealer.layout with
    | none => s
    | some ly =>
      let place := (s.layoutAnswer s.dealer.layout).place
      let s := (s.setDevState stDealing).set .BKR_DEV_STATE_CAUSE 0
      let s := s.takeLayout ly
      let s := s.updDealer fun d => { d with cyclePos := 0, place := place, encOn := [], tricks := [], issued := [] }
      let s := (s.startGenerators outputs).each outputs State.txEnable
      let s := (s.showDealPoint).each outputs State.rxEnable
      let s := ((s.touchStart).audioStart).startChannels
      let s := (s.refreshSlots).refreshFlows
      let s := s.each (fabPorts.filter s.portUp) State.rebudget
      let s := s.showLoad
      (s.updBoot fun b => { b with dealt := 0, trialS := 0 }).settleFault

/-! ### Trials (R404) -/

/-- R404: CONFIRM_LEFT: seconds of DEALING still needed on trial. -/
def State.showConfirm (s : State) : State :=
  if s.on .BKR_BOOT_TRIAL = false then s
  else
    let got := ((s.boot.dealt : Rat) * s.pTick / 1000000000).floor.toNat
    s.set .BKR_TRIAL_CONFIRM_LEFT (s.boot.confirmS - got)

/-- R404, R409: seconds left to reach DEALING on trial. -/
def State.trialLeft (s : State) : Nat := s.boot.trialS - (s.extNow - s.boot.released).toNat / 1000000000

/-- R404, R405: CONFIRM_S of DEALING have passed on a slot on trial. -/
def State.trialConfirm (s : State) (f : FlashIn) : State :=
  if s.on .BKR_BOOT_TRIAL = false ∨ s.dealing = false ∨ s.firmware = false ∨ (s.showConfirm).get .BKR_TRIAL_CONFIRM_LEFT ≠ 0 then s
  else
    let p := s.bootPtr
    let (s, ok) := s.writePtr f { p with trial := false, tries := 0 }
    if ok then ((s.setB .BKR_BOOT_TRIAL false).log 0x0108 [4, s.runSlot]).rollbackGo else s

/-- R404: TRIAL_S have passed since the release of reset without DEALING. -/
def State.trialTimeout (s : State) (f : FlashIn) : State :=
  if s.on .BKR_BOOT_TRIAL = true ∧ s.starting = true ∧ s.on .FUS_DBG_STATUS_BANKER_HALTED = false then s.revertTrial f else s

end Sys2Proof.Machine
end

