-- ==== Sys2Proof/Machine/Update.lean ====
section
/-!
DEFINITION. Field update (R401 to R403) and recovery (R406 to R408).
-/

namespace Sys2Proof.Machine

open Sys2Proof

/-! ### Packages and programming (R401) -/

/-- The header of an update package: is its CRC right, its MAGIC, L1 and L2. -/
def packageSeal (h : List Byte) : Bool :=
  decide (16 ≤ h.length) && leNat ((h.drop 12).take 4) == (crc32c (h.take 12)).toNat
def packageMagic (h : List Byte) : Bool := leNat (h.take 4) == 0x51205047
def packageL1 (h : List Byte) : Nat := leNat ((h.drop 4).take 4)
def packageL2 (h : List Byte) : Nat := leNat ((h.drop 8).take 4)

/-- R401: are MAGIC, L1 and L2 in range? -/
def packageRange (h : List Byte) : Bool :=
  packageMagic h && decide (576 ≤ packageL1 h ∧ packageL1 h ≤ 25165824 ∧ 64 ≤ packageL2 h ∧ packageL2 h ≤ 4194304)

/-- Some free bytes. -/
def State.freeBytes (s : State) (n : Nat) : List Byte × State :=
  ((List.range n).map fun i => (Config.freeValue (s.freeCtr + i)).setWidth 8, { s with freeCtr := s.freeCtr + n })

/-- R402: program bytes at an address, erasing each sector that is reached for the first time, one that starts among them. -/
def State.programAt (s : State) (a : Nat) (bs : List Byte) : State :=
  let n := bs.length
  let firsts := (List.range (n / 0x10000 + 2)).map (a / 0x10000 + ·)
  let s := s.each (firsts.filter fun k => decide (a ≤ k * 0x10000 ∧ k * 0x10000 < a + n)) State.flashErase
  s.flashPut a bs

/-- R401: program bytes at a body offset of a package for a slot. -/
def State.programBody (s : State) (slot l1 off : Nat) (bs : List Byte) : State :=
  let low := bs.take (l1 - off)
  let s := s.programAt (slotBase slot + off) low
  s.programAt (halfBase slot + (off + low.length - l1)) (bs.drop low.length)

/-- R403: is the image of a slot for this device: NODE_SERIAL, and its FORMAT within what the firmware takes? -/
def State.slotSuits (s : State) (slot : Nat) : Bool :=
  let img := s.partOf slot 7
  let num := fun off n => leNat ((img.drop off).take n)
  (num 0x10 6 == 0 || num 0x10 6 == s.serialNo) && decide (num 4 2 ≤ s.imgFormat slot) && decide (s.migFloor slot ≤ num 4 2)

/-- R403: NODE_ID of the image of a slot. -/
def State.slotNode (s : State) (slot : Nat) : Nat := leNat (((s.partOf slot 7).drop 0xC).take 1)

/-! ### Update commands (R402) -/

/-- Update states. -/
def upIdle : Nat := 0
def upReceiving : Nat := 1
def upActivated : Nat := 2

/-- The update state, and whether a session owns the update. -/
def State.updState (s : State) : Nat := s.get .BKR_UPD_STATUS_STATE
def State.updOwned (s : State) (session : Nat) : Bool := s.get .BKR_UPD_STATUS_SESSION == session

/-- UPDATE_BEGIN: the new state and the code answered. -/
def State.updateBegin (s : State) (session : Nat) (h : List Byte) : State × Nat :=
  let trial := match s.pointer with | some (_, p) => p.trial | none => false
  if packageSeal h = false then (s, stCHECK)
  else if s.updState = upActivated ∨ (s.updState = upIdle ∧ trial = true) then (s, stSTATE)
  else if packageRange h = false ∨ h.length ≠ 16 then (s, stRANGE)
  else if s.updState = upReceiving then (s, stBUSY)
  else
    let target := 1 - s.runSlot
    let s := (s.set .BKR_UPD_STATUS_STATE upReceiving).set .BKR_UPD_STATUS_TARGET target
    let s := (s.set .BKR_UPD_STATUS_SESSION session).set .BKR_UPD_NEXT_OFFSET 0
    let s := s.updBoot fun b => { b with update := some { l1 := packageL1 h, l2 := packageL2 h, session := session } }
    (s.log 0x0108 [1, target], stOK)

/-- UPDATE_DATA. -/
def State.updateData (s : State) (session : Nat) (p : List Byte) (f : FlashIn) : State × Nat :=
  match s.boot.update with
  | none => (s, stSTATE)
  | some u =>
    if s.updState ≠ upReceiving ∨ s.updOwned session = false then (s, stSTATE)
    else
      let off := leNat (p.take 4)
      let data := p.drop 8
      if p.length < 8 ∨ off ≠ s.get .BKR_UPD_NEXT_OFFSET ∨ u.l1 + u.l2 < off + data.length then (s, stRANGE)
      else
        let target := s.get .BKR_UPD_STATUS_TARGET
        if f.badWrites = 0 then
          ((s.programBody target u.l1 off data).set .BKR_UPD_NEXT_OFFSET (off + data.length), stOK)
        else
          let (bs, s) := s.freeBytes data.length
          let (code, s) := s.fresh
          (s.programBody target u.l1 off bs, 1 + code.toNat % 8)

/-- UPDATE_ACTIVATE; BKR_BOOT_ERR shows the verification of the target (R392, R403), whose AUTH comes before STATE (R7). Flags bit 0 asks
for a reset 100 ms after the response (R402). -/
def State.updateActivate (s : State) (session : Nat) (p : List Byte) (f : FlashIn) : State × Nat :=
  match s.boot.update with
  | none => (s, stSTATE)
  | some u =>
    let target := s.get .BKR_UPD_STATUS_TARGET
    let r := s.verifySlot f target
    let s := s.setSlotErr target r
    if r ≠ 1 then (s, stAUTH)
    else if s.updState ≠ upReceiving ∨ s.updOwned session = false then (s, stSTATE)
    else if s.get .BKR_UPD_NEXT_OFFSET ≠ u.l1 + u.l2 then (s, stSTATE)
    else if s.slotSuits target = false ∨ s.slotNode target ≠ s.nodeId ∨ p.length ≠ 4 then (s, stRANGE)
    else
      let (s, ok) := s.writePtr f { seq := 0, active := target, trial := true, tries := 0, previous := some s.runSlot }
      let due := if leNat (p.take 1) % 2 = 1 then some (s.extNow + 100000000#64) else none
      let s := s.updBoot fun b => { b with resetAt := if ok then due else b.resetAt }
      if ok then ((s.set .BKR_UPD_STATUS_STATE upActivated).log 0x0108 [2, target], stOK) else (s, stREFUSED)

/-- UPDATE_ABORT. -/
def State.updateAbort (s : State) (f : FlashIn) : State × Nat :=
  let target := s.get .BKR_UPD_STATUS_TARGET
  let ended := fun (s : State) => ((s.set .BKR_UPD_STATUS_STATE upIdle).updBoot fun b => { b with update := none, resetAt := none }).log 0x0108 [3, target]
  if s.updState = upReceiving then (ended s, stOK)
  else if s.updState = upActivated then
    let (s, ok) := s.writePtr f { seq := 0, active := s.runSlot, trial := false, tries := 0, previous := none }
    if ok then (ended s, stOK) else (s, stREFUSED)
  else (s, stSTATE)

/-! ### Recovery (R406 to R408) -/

/-- Change the recovery download. -/
def State.updRecovery (s : State) (g : RecoverySt → RecoverySt) : State :=
  s.updBoot fun b => { b with recovery := g b.recovery }

/-- Is the device in RECOVERY? Can it take a package, its download buffer being ready? -/
def State.inRecovery (s : State) : Bool := s.devState == stRecovery
def State.canDownload (s : State) : Bool :=
  s.inRecovery && s.get .MEM_STATUS_STATE == memReady && !s.boot.recovery.done && !s.boot.recovery.resetDue

/-- R406: the MAC and the IPv4 address of the management port in RECOVERY: link-local, 169.254.1.0 to 169.254.254.255 (log 115). -/
def State.portMac (s : State) : BitVec 48 := BitVec.ofNat 48 (0x02 * 2 ^ 40 + s.serialNo % 2 ^ 40)
def State.portIp (s : State) : Word := BitVec.ofNat 32 (0xA9FE0100 + Config.linkLocal s.serialNo % 0xFE00)

/-- R406: the beacon of the management port. -/
def State.beacon (s : State) : State :=
  if s.inRecovery then
    s.emit (.beacon s.portMac s.portIp s.serialNo s.lifecycle s.boot.recovery.rcv (s.slotErr 0) (s.slotErr 1) (s.get .FUS_ROLLBACK_COUNT)
      s.boot.recovery.failed)
  else s

/-- R406: UART0 sends 'C' until a transfer starts. -/
def State.xmodemPoll (s : State) : State :=
  if s.inRecovery ∧ s.boot.recovery.transport = none ∧ s.boot.recovery.resetDue = false then s.emit (.uart [0x43]) else s

/-- R406: a TFTP write request with its options. One in another mode than octet is not taken; which error it gets is not stated: a free one (log 3). -/
def State.tftpRequest (s : State) (q : TftpReq) (tsize : Option Nat) : State :=
  if s.canDownload = false then s
  else if q.octet = false then
    let (code, s) := s.fresh
    s.emit (.tftp 5 (code.toNat % 8))
  else if s.boot.recovery.tftp ∨ s.boot.recovery.transport.isSome = true then s.emit (.tftp 5 2)
  else
    let size := match q.blksize with
      | some b => if 512 ≤ b ∧ b ≤ 1428 then b else 512
      | none => 512
    let s := s.updRecovery fun r => { r with tftp := true, got := 0, block := 0, size := size }
    if q.blksize.isSome ∨ tsize.isSome = true then s.emit (.tftp 6 size) else s.emit (.tftp 4 0)

/-- R406: received bytes go into the download buffer in DRAM. -/
def State.takeBlock (s : State) (transport : Nat) (data : List Byte) : State :=
  let r := s.boot.recovery
  let s := (s.chargeBlocks 54 (blocksOf (dramBase + r.got) data.length).length).storeBytes (dramBase + r.got) data
  s.updRecovery fun r => { r with transport := some transport, got := r.got + data.length, block := r.block + 1 }

/-- R406: a TFTP data packet. The acknowledgement of the last one waits for the check of the package. -/
def State.tftpData (s : State) (block : Nat) (data : List Byte) : State :=
  let r := s.boot.recovery
  if s.canDownload = false ∨ r.tftp = false then s
  else if r.transport = some 1 then
    let (code, s) := s.fresh
    (s.emit (.tftp 5 (code.toNat % 8))).updRecovery fun r => { r with tftp := false }
  else if block = (r.block + 1) % 65536 then
    let s := s.takeBlock 0 data
    if data.length < r.size then s.updRecovery fun r => { r with done := true } else s.emit (.tftp 4 block)
  else if block = r.block % 65536 then s.emit (.tftp 4 block)
  else s

/-- The CRC of XMODEM: polynomial 0x1021, initial value 0. -/
def xmodemCrc (bs : List Byte) : BitVec 16 := 
  bs.foldl (fun (c : BitVec 16) (b : Byte) => crc16Shift 8 (c ^^^ (b ++ (0 : BitVec 8)))) 0

/-- R406: an XMODEM block, or the end of the transfer when it brings no data. -/
def State.xmodemBlock (s : State) (block : Nat) (data : List Byte) (crc : BitVec 16) : State :=
  let r := s.boot.recovery
  if s.canDownload = false then s
  else if r.transport = some 0 then s.emit (.uart [0x18])
  else
    let n := if r.transport = some 1 then r.block else 0
    if data.isEmpty then
      if r.transport = some 1 then s.updRecovery fun r => { r with done := true } else s.emit (.uart [0x15])
    else if xmodemCrc data ≠ crc ∨ (data.length ≠ 128 ∧ data.length ≠ 1024) then s.emit (.uart [0x15])
    else if block = (n + 1) % 256 then
      let s := if r.transport = none then s.updRecovery fun r => { r with got := 0, block := 0 } else s
      (s.takeBlock 1 data).emit (.uart [0x06])
    else if block = n % 256 ∧ r.transport = some 1 then s.emit (.uart [0x06])
    else s.emit (.uart [0x18])

/-- R407: the slot a package goes to. -/
def State.recoveryTarget (s : State) : Nat :=
  if s.slotErr 0 ≠ 1 ∧ s.slotErr 1 = 1 then 0
  else if s.slotErr 0 = 1 ∧ s.slotErr 1 ≠ 1 then 1
  else 1 - s.bootPtr.active

/-- R271: the blocks of the download buffer that fail when the boot ROM reads the package. -/
def State.packageBad (s : State) : List Nat := s.badBlocks dramBase s.boot.recovery.got

/-- R407: does the received package pass R401, R392 and R403, NODE_ID apart? It is judged as a slot of its own. One that cannot be read
does not pass. -/
def State.packageGood (s : State) (slot : Nat) : Bool :=
  let r := s.boot.recovery
  let h := readBytes Config.dramFill s.dram dramBase 16
  let n := packageL1 h + packageL2 h
  if !s.packageBad.isEmpty then false
  else if packageSeal h ∧ packageRange h = true ∧ 16 + n ≤ r.got then
    let body := readBytes Config.dramFill s.dram (dramBase + 16) n
    let v : State := { s with flash := [] }.programBody slot (packageL1 h) 0 body
    v.verifySlot { unread := [], badWrites := 0 } slot == 1 && v.slotSuits slot
  else false

/-- R407: the final answer of a download: acknowledged, or a TFTP error or an XMODEM cancel. -/
def State.downloadAnswer (s : State) (ok : Bool) : State :=
  let r := s.boot.recovery
  if r.transport = some 1 then s.emit (.uart [if ok then 0x06 else 0x18])
  else if ok then s.emit (.tftp 4 (r.block % 65536))
  else
    let (code, s) := s.fresh
    s.emit (.tftp 5 (code.toNat % 8))

/-- R406, R408: the download has ended with a failure that the beacon reports, and another may start. -/
def State.downloadOver (s : State) (failed : Nat) : State :=
  s.updRecovery fun r => { RecoverySt.init with rcv := r.rcv, failed := failed }

/-- R407, R408: the boot ROM checks the package and writes slot and pointer; `badSlot`: the read-back of the slot fails. -/
def State.packageCheck (s : State) (badSlot : Bool) (f : FlashIn) : State :=
  let r := s.boot.recovery
  if s.inRecovery = false ∨ r.done = false ∨ r.resetDue = true then s
  else
    let slot := s.recoveryTarget
    if s.packageGood slot = false then ((s.persistAll 54 s.packageBad).downloadAnswer false).downloadOver 1
    else
      let s := s.downloadAnswer true
      let h := readBytes Config.dramFill s.dram dramBase 16
      let n := packageL1 h + packageL2 h
      if badSlot then
        let (bs, s) := s.freeBytes n
        (s.programBody slot (packageL1 h) 0 bs).downloadOver 2
      else
        let s := s.programBody slot (packageL1 h) 0 (readBytes Config.dramFill s.dram (dramBase + 16) n)
        let other := if s.slotErr (1 - slot) = 1 then some (1 - slot) else none
        let (s, ok) := s.writePtr f { seq := 0, active := slot, trial := true, tries := 0, previous := other }
        if ok then s.updRecovery fun r => { r with resetDue := true } else s.downloadOver 2

/-- R408: 1 s after the pointer write of a download the boot ROM resets the device. -/
def State.recoveryReset (s : State) : State :=
  if s.inRecovery ∧ s.boot.recovery.resetDue = true then s.enterReset rstSoftware else s

end Sys2Proof.Machine
end

