-- ==== Sys2Proof/Machine/Safe.lean ====
section
/-!
DEFINITION. The Scorer's alarms and tone (R415 to R419), its checks of time and temperature (R85, R421), SAFE (R421 to R424),
and the hard-wired safe path (R411 to R413).
-/

namespace Sys2Proof.Machine

open Sys2Proof

/-! ### Conditions and alarms (R416, R417, R419) -/

/-- FAB_STATUS.PORTS_UP and PORTS_NARROW: ports in UP, and those narrower than ×4 in either direction. -/
def State.portsUp (s : State) : Nat := (fabPorts.filter s.portUp).foldl setBitN 0
def State.portsNarrow (s : State) : Nat :=
  (fabPorts.filter fun p => s.get (.FAB_P_STATUS_WIDTH p) != 0 &&
    !(s.get (.FAB_P_STATUS_WIDTH p) == 3 && (s.port p).peerWidth == 3)).foldl setBitN 0

/-- R416: does condition `k` of 2 to 10 hold? -/
def State.condition (s : State) (k : Nat) : Bool :=
  match k with
  | 2 => outputs.any fun o => bitOf (s.get (.OUT_STATUS_BLANK_SRC o)) 0
  | 3 => s.on .DLR_STATUS_REF_LOST
  | 4 => s.unsync
  | 5 => (List.range 4).any fun p => s.tchState p == tpFault
  | 6 => s.bankerAbsent
  | 7 => s.on .MEM_STATUS_HOT || (List.range 8).any fun u => s.on (.MEM_SC_STATUS_OVER_LIMIT u)
  | 8 => s.portsNarrow != 0 || s.enabledPorts.any fun p => !s.portUp p
  | 9 => match s.sco.disAt with
    | some t => decide ((s.extNow - t).toNat ≤ 1000000000)
    | none => false
  | 10 => s.on .SCO_STATUS_TONE_FAIL
  | _ => false

/-- R416: the Scorer's state of a tile is FOLDED. -/
def State.scoFolds (s : State) (l : Nat) : Bool := s.layersOn.contains l && (s.tile l).sco.state == .folded

/-- R416, R417: is rectangle `a` of output `o` to be active? -/
def State.alarmHolds (s : State) (o a : Nat) : Bool :=
  let m := s.get (.SCO_ALM_CFG_COND o a)
  s.on (.SCO_ALM_CFG_EN o a) &&
    ((bitOf m 0 && (s.layersOf o).any s.scoFolds) || (bitOf m 1 && s.scoFolds (s.get (.SCO_ALM_CFG_TILE o a)))
      || (List.range 11).any fun k => bitOf m k && s.condition k)

/-- R419: does a condition of the tone mask hold, tiles being taken over all outputs? -/
def State.toneHolds (s : State) : Bool :=
  let m := s.get .SCO_TONE_CFG_COND
  ((bitOf m 0 || bitOf m 1) && s.layersOn.any s.scoFolds) || (List.range 11).any fun k => bitOf m k && s.condition k

/-- R417: the sets delivered with the verdicts of the tick before reach the mixer copies, but for those of `lost` (output, whether copy B),
and come into use there. -/
def State.alarmsArrive (s : State) (lost : List (Nat × Bool)) : State :=
  if s.sco.delivered then s.each outputs fun s o => s.updOut o fun x => { x with
    alarmSet := if lost.contains (o, false) then x.alarmSet else x.alarmNext
    alarmSetB := if lost.contains (o, true) then x.alarmSetB else x.alarmNext }
  else s

/-- R416, R417, R419: the Scorer evaluates the conditions, the rectangles and the tone at a boundary. -/
def State.alarmEvaluate (s : State) : State :=
  let s := s.set .SCO_COND_COND (((List.range 11).filter s.condition).foldl setBitN 0)
  let s := s.each outputs fun s o =>
    let on := (List.range 4).filter (s.alarmHolds o)
    s.updOut o fun x => { x with alarmNext := { tick := s.tick, on := on } }
  if s.devState = stSafe then s else s.toneOrder s.toneHolds s.time.now

/-! ### Checks (R85, R421) -/

/-- R85: the advance of the time unit over a tick differs from its own by more than 0.5 %. -/
def State.rateCheck (s : State) (advance osc : Nat) : State :=
  if 1000 * (max advance osc - min advance osc) > 5 * osc then s.safeCause 1 else s

/-- R85: no boundary within 1.5 tick periods. -/
def State.tickMissing (s : State) : State :=
  if s.dealer.started ∧ s.sco.hard = false then s.safeCause 2 else s

/-- R421: a reading of the die temperature, in units of 0.25 °C, every 10 ms; one above 120 °C in every reading over 100 ms is
a cause of SAFE. -/
def State.tempRead (s : State) (temp : Int) : State :=
  if s.sco.hard then s
  else
    let s := s.setI .SCO_TEMP_TEMP temp
    let n := if 480 < temp then min (s.plat.hot + 1) 12 else 0
    let s := s.updPlat fun p => { p with hot := n }
    if n = 11 then s.safeCause 6 else s

/-! ### Entry to SAFE (R421 to R423) -/

/-- R422, R423: the engines, commits and ports of a device that leaves DEALING for SAFE. -/
def State.leaveDealing (s : State) : State :=
  let s := ((s.loseParts).dropCommits).stopTricks
  let s := s.each (List.range 512) fun s c => if s.ctxState c = cxClosed then s else s.setCtx c cxClosed 0
  let s := s.each s.dealer.encOn State.encEnd
  let s := ((s.touchOff).audioSafe).each (List.range 16) State.rxDisable
  s.each s.flowsFrom fun s f => s.sendPresence f false

/-- R421, R422: the Scorer enters SAFE for the causes reported. -/
def State.safeEntry (s : State) : State :=
  let m := s.sco.safeReq
  if s.dealing = false ∨ s.sco.hard = true then s
  else match firstBelow (bitOf m) 6 with
    | none => s
    | some k =>
      let s := (s.setDevState stSafe).log 0x0101 [k + 1, m]
      let s : State := { s with sco := { s.sco with safeReq := 0 } }
      let s := (s.setB .SCO_STATUS_SAFE true).set .SCO_STATUS_SAFE_CAUSE (k + 1)
      let s := (s.setW .SCO_SAFE_TIME_VALUE s.time.now).setW .SCO_SAFE_TICK_VALUE s.tick
      let s := s.setB .DLR_STATUS_DEALING false
      let s := s.each outputs fun s o => s.scorerBlank o causeSafe
      let s := s.leaveDealing
      (s.toneOrder true s.time.now).settleFault

/-! ### The end of SAFE (R424) -/

/-- R424: RESTART_S seconds have passed in SAFE. -/
def State.autoRestart (s : State) : State :=
  let n := s.get .SCO_STATUS_AUTO_RESTARTS
  if s.devState ≠ stSafe ∨ s.sco.hard = true ∨ s.get .SCO_SAFE_CFG_RESTART_S = 0 ∨ 3 ≤ n
      ∨ (s.get .SCO_STATUS_SAFE_CAUSE = 6 ∧ 400 < s.getI .SCO_TEMP_TEMP) then s
  else
    let s := s.set .SCO_STATUS_AUTO_RESTARTS (n + 1)
    (((s.log 0x0105 [n + 1]).logFlush).writeHeader).enterReset rstScorer

/-- R424: 600 s of continuous DEALING have passed. -/
def State.autoRestartClear (s : State) : State :=
  if s.dealing = false ∨ s.sco.hard = true then s else (s.set .SCO_STATUS_AUTO_RESTARTS 0).writeHeader

/-! ### The hard-wired safe path (R411 to R413) -/

/-- R413: the path starts, with 1 for LOCKSTEP or 2 for WATCHDOG. -/
def State.hardPath (s : State) (cause : Nat) : State :=
  if s.sco.hard ∨ s.devState = stReset then s
  else
    let s : State := { s with sco := { s.sco with hard := true } }
    let s := s.each outputs fun s o =>
      ((s.setBlank o 0).setB (.CMP_LV_OUT_BLANKED o) true).set (.CMP_LV_OUT_BLANK_CAUSE o) causeSafe
    let s := (s.touchOff).audioOff
    (s.mramPut 0x80 (leBytes 4 cause)).settleFault

/-- R413: 100 ms after its start the path resets the device. -/
def State.hardReset (s : State) : State := if s.sco.hard then s.enterReset rstScorer else s

end Sys2Proof.Machine
end

