-- ==== Sys2Proof/Machine/Commands.lean ====
section
/-!
DEFINITION. The command channel (R339, R342 to R348, R350): sessions, the commands of R345, and the commands that run on:
layouts, wall layouts and encode operations.
-/

namespace Sys2Proof.Machine

open Sys2Proof

/-! ### Sessions (R343, R344) -/

/-- The open session of an ID and origin. -/
def State.session? (s : State) (id : Nat) (o : Origin) : Option Session :=
  s.cmd.sessions.find? fun x => x.id == id && x.origin == o

/-- Change the session of an ID. -/
def State.updSession (s : State) (id : Nat) (f : Session → Session) : State :=
  s.updCmd fun c => { c with sessions := c.sessions.map fun x => if x.id = id then f x else x }

/-- R344: the answer to a command is sent, and stored as the session's last response. BKR_UPD_STATUS.CODE shows the status of the
last UPDATE command. -/
def State.answer (s : State) (h : CmdHdr) (code : Nat) (payload : List Byte) : State :=
  let s := if 0x40 ≤ h.command ∧ h.command ≤ 0x43 then s.set .BKR_UPD_STATUS_CODE code else s
  let s := s.respond h code payload
  if h.session = 0 then s
  else s.updSession h.session fun x => { x with resp := some (h, code, payload) }

/-- R342: CHECK, with the header as received. -/
def State.answerCheck (s : State) (f : InFrame) : State := s.respondCheck f.origin f.bytes

/-- Is a command run one of session and SEQUENCE given? -/
def CmdRun.isFor (r : CmdRun) (session seq : Nat) : Bool := r.hdr.session == session && r.hdr.seq == seq

/-- R344: the session checks of a frame; does it go on to execution? -/
def State.sessionCheck (s : State) (h : CmdHdr) : State × Bool :=
  if h.session = 0 then (s, true)
  else match s.session? h.session h.origin with
    | none => (s.respond h stAUTH [], false)
    | some x =>
      if h.alive = x.alive then (s.respond h stCHECK [], false)
      else
        let s := s.updSession x.id fun y => { y with alive := h.alive }
        let s := s.updCmd fun c => { c with
          runs := c.runs.map fun r =>
            if r.isFor h.session h.seq then { r with hdr := { r.hdr with alive := h.alive } } else r }
        if h.seq = x.seq then
          if s.cmd.runs.any fun r => r.isFor h.session h.seq then (s, false)
          else match x.resp with
            | some (g, code, p) => (s.respond { g with alive := h.alive } code p, false)
            | none => (s, false)
        else if wordDiff (BitVec.ofNat 32 h.seq) (BitVec.ofNat 32 x.seq) < 0 then
          (s.updCmd fun c => { c with seqOld := c.seqOld + 1 }, false)
        else
          let s := s.updSession x.id fun y => { y with seq := h.seq }
          if 4 ≤ (s.cmd.runs.filter fun r => r.hdr.session == h.session && r.stage == .queued).length then (s.answer h stBUSY [], false)
          else (s, true)

/-! ### The command set (R345) -/

/-- R345: the class a command needs (none: —), and the device states in which it is not answered STATE. -/
def commandRow (code : Nat) : Option (Option Nat × List Nat) :=
  match code with
  | 0x01 => some (none, [stLoading, stHeld, stDealing, stSafe])
  | 0x02 => some (none, [stHeld, stDealing, stSafe])
  | 0x03 => some (none, [stHeld, stDealing, stSafe])
  | 0x10 => some (some 0, [stLoading, stHeld, stDealing, stSafe])
  | 0x11 => some (some 0, [stDealing, stSafe])
  | 0x12 => some (some 0, [stDealing, stSafe])
  | 0x13 => some (some 0, [stHeld, stDealing, stSafe])
  | 0x20 | 0x21 | 0x22 | 0x23 | 0x24 => some (some 1, [stDealing])
  | 0x30 | 0x31 | 0x32 | 0x33 | 0x34 | 0x35 => some (some 2, [stDealing])
  | 0x40 | 0x41 | 0x42 | 0x43 => some (some 3, [stHeld, stDealing])
  | _ => none

/-- R343: may a session use a class of commands? -/
def State.classOk (s : State) (h : CmdHdr) (cls : Option Nat) : Bool :=
  match cls, s.session? h.session h.origin with
  | some k, some x => match s.image.controllers[x.entry]? with
    | some e => e.classes.contains k
    | none => false
  | _, _ => true

/-- R342 to R345: the Banker takes the oldest frame, as far as command `code`: answered where a check decides, left in the
FIFO where it carries another command, or handed on for execution with its payload. `auth` is a further condition of AUTH. -/
def State.takeCommand (s : State) (code : Nat) (auth : CmdHdr → Bool) : State × Option (CmdHdr × List Byte) :=
  if s.bankerUp = false ∨ s.devState = stReset ∨ s.devState = stRecovery then (s, none)
  else match s.cmd.fifo with
    | [] => (s, none)
    | f :: rest =>
      let h := frameHdr f.origin f.bytes
      let n := frameLength f.bytes
      let t := s.updCmd fun c => { c with fifo := rest }
      if f.crcOk = false ∨ f.bytes.length ≠ 20 + n ∨ maxPayload f.origin.transport < n then (t.answerCheck f, none)
      else
        let (t, go) := t.sessionCheck h
        if go = false then (t, none)
        else match commandRow h.command with
          | none => (t.answer h stUNKNOWN [], none)
          | some (cls, states) =>
            if frameNum f.bytes 0 1 ≠ 1 then (t.answer h stUNKNOWN [], none)
            else if h.command ≠ code then (s, none)
            else if (h.session = 0 ∧ code ≠ 0x01 ∧ code ≠ 0x02 ∧ code ≠ 0x10) ∨ t.classOk h cls = false ∨ auth h = false then
              (t.answer h stAUTH [], none)
            else if states.contains s.devState = false then (t.answer h stSTATE [], none)
            else (t, some (h, (f.bytes.drop 16).take n))

/-- Run a command that reaches execution. -/
def State.command (s : State) (code : Nat) (run : State → CmdHdr → List Byte → State) : State :=
  match s.takeCommand code (fun _ => true) with
  | (s, none) => s
  | (s, some (h, p)) => run s h p

/-- Run a command that answers at once with a code, RANGE where its parameters are out of range. -/
def State.operate (s : State) (code : Nat) (ok : Bool) (run : State → State × Nat) : State :=
  s.command code fun s h _ =>
    if ok then
      let (s, c) := run s
      s.answer h c []
    else s.answer h stRANGE []

/-! ### PING, sessions and reads (R343, R345, R346, R432) -/

/-- PING. -/
def State.cmdPing (s : State) : State := s.command 0x01 fun s h p => s.answer h stOK p

/-- R343: does a controller entry match an origin? -/
def Controller_matches (c : Controller) (o : Origin) : Bool :=
  c.transport == o.transport && (c.transport == 1 || c.addr == o.addr)

/-- R343: the next session ID in turn. -/
def nextId (used : List Nat) : Nat → Nat → Nat
  | 0, k => k
  | n + 1, k =>
    let k := k % 0xFFFF + 1
    if used.contains k then nextId used n k else k

/-- OPEN_SESSION of a controller entry. -/
def State.cmdOpen (s : State) (entry : Nat) : State :=
  let good := fun (h : CmdHdr) => match s.image.controllers[entry]? with
    | some c => Controller_matches c h.origin
    | none => false
  match s.takeCommand 0x02 good with
  | (s, none) => s
  | (s, some (h, _)) =>
    if 8 ≤ s.cmd.sessions.length then s.answer h stBUSY []
    else
      let id := nextId (s.cmd.sessions.map (·.id)) 9 s.cmd.lastId
      let x : Session := { id := id, entry := entry, origin := h.origin, alive := h.alive, seq := h.seq,
                           resp := some (h, stOK, leBytes 2 id) }
      let s := s.updCmd fun c => { c with sessions := c.sessions ++ [x], lastId := id }
      s.answer h stOK (leBytes 2 id)

/-- R343: a session is closed. -/
def State.closeSession (s : State) (id : Nat) : State :=
  s.updCmd fun c => { c with sessions := c.sessions.filter fun x => x.id != id }

/-- CLOSE_SESSION. -/
def State.cmdClose (s : State) : State :=
  s.command 0x03 fun s h _ => (s.answer h stOK []).closeSession h.session

/-- GET_STATUS. -/
def State.statusBytes (s : State) : List Byte :=
  let dark := (outputs.filter fun o => s.get (.OUT_STATUS_STATE o) != 3).foldl setBitN 0
  leBytes 1 s.devState ++ leBytes 1 s.nodeId ++ leBytes 4 (s.word Reg.DLR_STATUS).toNat ++ leBytes 4 s.tick.toNat
    ++ leBytes 1 (b2n (!s.on .SCO_STATUS_FAULT_N_LOW)) ++ leBytes 2 dark ++ leBytes 2 (s.get .CMP_LV_STATUS_FOLDED)
    ++ leBytes 4 (s.word Reg.OUT_REF_STATUS).toNat
def State.cmdStatus (s : State) : State := s.command 0x10 fun s h _ => s.answer h stOK s.statusBytes

/-- GET_TILES. -/
def State.cmdTiles (s : State) (first count : Nat) : State :=
  s.command 0x11 fun s h _ =>
    if 511 < first ∨ count = 0 ∨ 128 < count then s.answer h stRANGE []
    else
      let n := min count (min (512 - first) ((maxPayload h.origin.transport - 3) / 8))
      s.answer h stOK (leBytes 2 first ++ leBytes 1 n ++ (List.range n).flatMap fun k =>
        leBytes 4 (s.word (Reg.CMP_LV_STATE (first + k))).toNat ++ leBytes 4 (s.word (Reg.CMP_LV_AGE (first + k))).toNat)

/-- GET_TOUCH: the newest report of a port's ring. -/
def State.cmdTouch (s : State) (p : Nat) : State :=
  s.command 0x12 fun s h _ =>
    if 4 ≤ p then s.answer h stRANGE []
    else
      let r := (s.get (.TCH_P_RPT_NEXT p) + 15) % 16
      (s.slotRead p r).answer h stOK (leBytes 1 p ++ (List.range 48).flatMap fun k => leBytes 4 (s.word (Reg.TCH_RPT p r k)).toNat)

/-- GET_LOG: area, first index, count. -/
def State.cmdLog (s : State) : State :=
  s.command 0x13 fun s h p =>
    match s.getLog (leNat (p.take 1)) (leNat ((p.drop 1).take 4)) (leNat ((p.drop 5).take 1)) (maxPayload h.origin.transport) with
    | some r => if p.length < 6 then s.answer h stRANGE [] else s.answer h stOK r
    | none => s.answer h stRANGE []

/-! ### Commands that run on (R347, R348, R205) -/

/-- A command ends with its answer. -/
def State.endRun (s : State) (r : CmdRun) (code : Nat) (payload : List Byte) : State :=
  (s.updCmd fun c => { c with runs := c.runs.filter (· != r) }).answer r.hdr code payload

/-- A command moves to a stage. -/
def State.stageRun (s : State) (r : CmdRun) (st : CmdStage) : State :=
  s.updCmd fun c => { c with runs := c.runs.map fun x => if x = r then { x with stage := st } else x }

/-- R347: what the response of a layout command carries: CODE, REASON, CMP_COMMIT_TICK and COMMIT_LATE. -/
def State.layoutBytes (s : State) (code reason : Nat) : List Byte :=
  leBytes 1 code ++ leBytes 1 reason ++ leBytes 4 (s.get .CMP_COMMIT_TICK_TICK) ++ leBytes 1 (s.get .OUT_COMMIT_STATUS_COMMIT_LATE)
def State.endLayout (s : State) (r : CmdRun) (code reason : Nat) : State := s.endRun r code (s.layoutBytes code reason)

/-- R348: what the response of WALL_LAYOUT carries: PHASE, ABORT_NODE, ABORT_CODE. -/
def State.wallBytes (s : State) : List Byte :=
  leBytes 1 (s.get .CMP_WALL_STATUS_PHASE) ++ leBytes 1 (s.get .CMP_WALL_STATUS_ABORT_NODE)
    ++ leBytes 1 (s.get .CMP_WALL_STATUS_ABORT_CODE)

/-- A pending SH word: the SH bits of `w` over what a read returns (R12, R123). -/
def State.putPend (s : State) (a : Nat) (w : Word) : State :=
  { s with pend := Tab.insert s.pend a (mergeSh a (s.pendWord a) w) }

/-- The source word of a layer after a swap. -/
def State.putSwap (s : State) (x : Swap) : State :=
  let a := Reg.CMP_VL_SRC x.1
  let w := s.pendWord a
  match x.2 with
  | some src => s.putPend a ((Fld.CMP_VL_SRC_NO_SRC x.1).into ((Fld.CMP_VL_SRC_SRC_ID x.1).into w src.toNat) 0)
  | none => s.putPend a ((Fld.CMP_VL_SRC_NO_SRC x.1).into w 1)

/-- The target tick of a command, 0 for the first possible one, and its swaps. -/
def CmdAct.target : CmdAct → Nat
  | .select _ t _ => t
  | .swap t _ => t
  | .wall _ t => t
  | _ => 0
def CmdAct.swaps : CmdAct → List Swap
  | .select _ _ xs => xs
  | .swap _ xs => xs
  | _ => []

/-- R347: a layout command's values are written to the pending set. -/
def State.loadAct (s : State) (a : CmdAct) : State :=
  let s := match a with
    | .select y _ _ => match s.layout? y with
      | some ly => { s.each ly.sh fun s e => s.putPend e.1 e.2 with pendLayout := some y }
      | none => s
    | .words ws => s.each ws fun s e => s.putPend e.1 e.2
    | _ => s
  s.each a.swaps State.putSwap

/-- R347: does the permit table allow a command: its layout, and each swap's layer, visible in the resulting layout `x`, and
source? -/
def State.actPermits (s x : State) (a : CmdAct) : Bool :=
  let y := match a with
    | .select y _ _ => y
    | _ => s.pendLayout.getD s.admBase.layout
  let named := match a with
    | .select y _ _ => s.image.layoutsOk.contains y
    | _ => true
  match s.layout? y with
  | none => named && a.swaps.isEmpty && (match a with | .select _ _ _ => false | _ => true)
  | some ly => named && a.swaps.all fun e =>
      LayoutDesc_allows ly e.1 (match e.2 with | some src => src.toNat | none => 65536)
        && (Fld.CMP_VL_CTRL_EN e.1).of (x.pendWord (Reg.CMP_VL_CTRL e.1)) == 1

/-- R347: when the Banker writes GO for a target tick: now or later in this tick, at a later tick, or never any more. -/
inductive GoTime where
  | at_ (t : Word)
  | later
  | past

/-- R140, R142, R347: GO for target T is due in tick T − 1, after its device active start and at least 800 µs before its
device deal point. -/
def State.goTime (s : State) (target : Nat) : GoTime :=
  if target = 0 then .at_ s.time.now
  else
    let d := wordDiff (BitVec.ofNat 32 target) s.tick
    if 1 < d then .later
    else
      let anyOn := outputs.any fun o => s.on (.OUT_CTRL_EN o)
      let t := if anyOn ∨ (40000 : Int) ≤ wordDiff s.time.now s.tickTime then s.time.now else s.tickTime + 40000
      if d < 1 ∨ s.dealer.dealPassed = true ∨ (s.get .OUT_DEALPT_OFFSET : Int) - 800000 < wordDiff t s.tickTime then .past
      else if anyOn ∧ s.dealer.actStarted = false then .later
      else .at_ t

/-- R122, R347: GO is written for a command at `t`; `x` is the state with its values pending. -/
def State.writeGo (x : State) (r : CmdRun) (t : Word) : State :=
  let id := x.dealer.nextChange
  let now := x.time.now
  let s := (x.commitGo t).at_ now
  if s.dealer.nextChange = id then s.endLayout r (s.get .CMP_COMMIT_STATUS_CODE) (s.get .CMP_COMMIT_STATUS_REASON)
  else s.stageRun r (.change id)

/-- The target of a WALL_LAYOUT: 0 stands for the first possible tick. -/
def State.wallTarget (s : State) (target : Nat) : Tick := if target = 0 then s.tick + 3 else BitVec.ofNat 32 target

/-- R7, R124, R348: the wall request of a command is written; where `busy` keeps it from being written, it is answered with
the refusal of R124 that holds, else BUSY. -/
def State.writeWall (s : State) (r : CmdRun) (busy : Bool) (layout target : Nat) : State :=
  let t := s.wallTarget target
  if busy ∨ s.wall.coord.isSome = true then s.endRun r ((s.wallRefusal layout t).getD stBUSY) s.wallBytes
  else
    let s := (s.set .CMP_WALL_REQ_LAYOUT layout).setW .CMP_WALL_TARGET_TARGET t
    (s.wallGo).stageRun r .wall

/-- R7, R34, R347: the code and reason with which a layout command is refused whatever the Dealer holds: by the permit table, or
by the evaluation of the change it would submit from `x`, the state with its values pending. -/
def State.layoutRefusal (s x : State) (a : CmdAct) : Option (Nat × Nat) :=
  if s.actPermits x a = false then some (stRANGE, admPermit)
  else
    let c : Change := { id := s.dealer.nextChange, kind := .commit x.pend x.pendLayout, stage := .waiting, place := [], dueTick := s.tick }
    let r := s.evaluate s.admBase c
    if r.code = stOK then none else some (r.code, r.reason)

/-- R347: the layout command whose turn it is goes as far as it can. `since` is the tick at which it was taken. Of several reasons
for a rejection the first in the order of R7 is answered. -/
def State.runLayout (s : State) (r : CmdRun) (since : Tick) : State :=
  if s.dealing = false then
    match r.act with
    | .wall _ _ => s.endRun r stSTATE s.wallBytes
    | _ => s.endLayout r stSTATE 0
  else
    let busy := s.on .CMP_COMMIT_PENDING || s.wallArmed
    let waited := decide (4 ≤ wordDiff s.tick since)
    if busy ∧ waited = false then s
    else match r.act with
      | .wall y target => s.writeWall r busy y target
      | _ =>
        let x := s.loadAct r.act
        let no := s.layoutRefusal x r.act
        match s.goTime r.act.target with
        | .later =>
          if busy = false then s.stageRun r (.due (BitVec.ofNat 32 r.act.target - 1))
          else s.endLayout r (no.getD (stBUSY, 0)).1 (no.getD (stBUSY, 0)).2
        | .past => match no with
          | some (code, reason) => if code = stRANGE then s.endLayout r code reason else s.endLayout r stLATE 0
          | none => s.endLayout r stLATE 0
        | .at_ t =>
          if s.actPermits x r.act = false then s.endLayout r stRANGE admPermit
          else if busy ∨ 4 ≤ s.dealer.changes.length then s.endLayout r (no.getD (stBUSY, 0)).1 (no.getD (stBUSY, 0)).2
          else x.writeGo r t

/-- Is a command one whose turn is awaited? -/
def CmdRun.waits (r : CmdRun) : Bool :=
  match r.stage with
  | .queued => true
  | .taken _ => true
  | .due _ => true
  | _ => false

/-- R347: the first layout command in intake order is taken, or goes on. -/
def State.headLayout (s : State) : State :=
  match s.cmd.runs.find? CmdRun.waits with
  | none => s
  | some r => match r.stage with
    | .queued =>
      let s := s.stageRun r (.taken s.tick)
      s.runLayout { r with stage := .taken s.tick } s.tick
    | .taken at_ => s.runLayout r at_
    | .due k => if wordDiff s.tick k < 0 then s else s.runLayout r k
    | _ => s

/-- Does a command that runs on end now? `took`: a change that has left the Dealer has taken effect. -/
def State.pollRun (s : State) (took : Bool) (r : CmdRun) : State :=
  match r.stage, r.act with
  | .change id, .encode _ =>
    if s.dealer.changes.any fun c => c.id == id && c.stage == .waiting then s
    else s.endRun r (s.get .ENC_CMD_STATUS_CODE) (leBytes 4 (s.word Reg.ENC_CMD_STATUS).toNat)
  | .change id, _ =>
    if s.dealer.changes.any fun c => c.id == id then s
    else if took then s.endLayout r stOK 0
    else s.endLayout r (s.get .CMP_COMMIT_STATUS_CODE) (s.get .CMP_COMMIT_STATUS_REASON)
  | .wall, _ =>
    let ph := s.get .CMP_WALL_STATUS_PHASE
    if ph = wpApplied ∨ ph = wpSplit then s.endRun r stOK s.wallBytes
    else if ph = wpAborted then s.endRun r (s.get .CMP_WALL_STATUS_ABORT_CODE) s.wallBytes
    else s
  | _, _ => s

/-- R347, R348: the Banker looks after the commands that run on. -/
def State.cmdPoll (s : State) (took : Bool) : State :=
  if s.bankerUp = false then s
  else
    let s := s.each s.cmd.runs fun s r => s.pollRun took r
    let s := s.each s.cmd.runs fun s _ => s.headLayout
    s.each s.cmd.runs fun s r => match r.stage with
      | .wall => s.pollRun took r
      | _ => s

/-- R347, R348: what the response of a layout command answered at once carries. -/
def State.refusedBytes (s : State) (act : CmdAct) (code : Nat) : List Byte :=
  match act with
  | .wall _ _ => s.wallBytes
  | _ => s.layoutBytes code 0

/-- R347: does the target of a command lie more than 600 ticks ahead? That of a wall layout is judged by R124. -/
def State.tooFar (s : State) (act : CmdAct) : Bool :=
  match act with
  | .wall _ _ => false
  | _ => decide (act.target ≠ 0 ∧ 600 < wordDiff (BitVec.ofNat 32 act.target) s.tick)

/-- A layout command is queued; a field out of range or a target more than 600 ticks ahead is answered RANGE at once. -/
def State.layoutCommand (s : State) (code : Nat) (ok : Bool) (act : CmdAct) : State :=
  s.command code fun s h _ =>
    if ok = false ∨ s.tooFar act = true then s.answer h stRANGE (s.refusedBytes act stRANGE)
    else (s.updCmd fun c => { c with runs := c.runs ++ [{ hdr := h, act := act, stage := .queued }] }).cmdPoll false

/-- Are swaps within their fields? -/
def swapsOk (n : Nat) (xs : List Swap) : Bool := decide (xs.length ≤ n) && xs.all fun e => decide (e.1 < 512)

/-- SELECT_LAYOUT, SWAP_SOURCE, WALL_LAYOUT, SET_GRAPHIC and SET_USER_MARKER. -/
def State.cmdSelect (s : State) (layout target : Nat) (xs : List Swap) : State :=
  s.layoutCommand 0x20 (decide (layout < 256 ∧ target < 2 ^ 32) && swapsOk 16 xs) (.select layout target xs)
def State.cmdSwap (s : State) (target : Nat) (xs : List Swap) : State :=
  s.layoutCommand 0x21 (decide (target < 2 ^ 32) && swapsOk 32 xs) (.swap target xs)
def State.cmdWall (s : State) (layout target : Nat) : State :=
  s.layoutCommand 0x22 (decide (layout < 256 ∧ target < 2 ^ 32)) (.wall layout target)
def State.cmdGraphic (s : State) (o g : Nat) (ws : List Word) : State :=
  let regs := [Reg.CMP_GL_CTRL o g, Reg.CMP_GL_ADDR_LO o g, Reg.CMP_GL_ADDR_HI o g, Reg.CMP_GL_PITCH o g, Reg.CMP_GL_POS o g,
    Reg.CMP_GL_SIZE o g]
  s.layoutCommand 0x23 (decide (o < 16 ∧ g < 8 ∧ ws.length = 6)) (.words (regs.zip ws))
def State.cmdMarker (s : State) (o : Nat) (entries : List Word) (addr pitch : Nat) : State :=
  let es := (entries.zipIdx).map fun (w, i) => (Reg.CMP_MKP o (8 + i), w)
  let bm := [(Reg.CMP_OC_MKADDR_LO o, BitVec.ofNat 32 (addr % 2 ^ 32)), (Reg.CMP_OC_MKADDR_HI o, BitVec.ofNat 32 (addr / 2 ^ 32)),
    (Reg.CMP_OC_MKPITCH o, BitVec.ofNat 32 pitch)]
  s.layoutCommand 0x24 (decide (o < 16 ∧ entries.length = 8 ∧ addr < 2 ^ 40 ∧ pitch < 2 ^ 16)) (.words (es ++ bm))

/-! ### Operating commands (R139, R158, R187, R205, R319, R334) -/

/-- RESTART_OUTPUT, RESYNC, TOUCH_CTRL (0 RESTART, 1 RELEASE), AUDIO_MUTE and KEY_REQUEST. -/
def State.cmdRestart (s : State) (o : Nat) : State := s.operate 0x30 (decide (o < 16)) fun s => s.restartOutput o
def State.cmdResync (s : State) : State :=
  s.operate 0x31 true fun s => ((s.resyncGo), (s.resyncGo).get .OUT_RESYNC_CODE)
def State.cmdTouchCtrl (s : State) (p op : Nat) : State :=
  s.operate 0x32 (decide (p < 4 ∧ op < 2)) fun s =>
    let s := if op = 0 then s.tchRestart p else s.tchRelease p
    (s, s.get (.TCH_P_CTRL_CODE p))
def State.cmdMute (s : State) (p : Nat) (v : Bool) : State :=
  s.operate 0x34 (decide (p < 8)) fun s => (s.muteWrite p v, stOK)
def State.cmdKeyRequest (s : State) (c : Nat) : State :=
  s.command 0x35 fun s h _ =>
    if c < 512 then
      let s := s.decKeyReq c
      s.answer h (s.get .DEC_CMD_STATUS_CODE) (leBytes 4 (s.word Reg.DEC_CMD_STATUS).toNat)
    else s.answer h stRANGE []

/-- ENCODE_CTRL (1 START, 2 STOP, 3 KEY): answered at once, or when the Dealer answers the change it makes. -/
def State.cmdEncode (s : State) (e op : Nat) : State :=
  s.command 0x33 fun s h _ =>
    if 32 ≤ e ∨ op < 1 ∨ 3 < op then s.answer h stRANGE []
    else
      let id := s.dealer.nextChange
      let s := s.encCmd e op
      if s.dealer.nextChange = id then s.answer h (s.get .ENC_CMD_STATUS_CODE) (leBytes 4 (s.word Reg.ENC_CMD_STATUS).toNat)
      else s.updCmd fun c => { c with runs := c.runs ++ [{ hdr := h, act := .encode e, stage := .change id }] }

/-! ### Update commands (R402) -/

/-- Run an update command, which answers with a code. -/
def State.updateCommand (s : State) (code : Nat) (run : State → CmdHdr → List Byte → State × Nat) : State :=
  s.command code fun s h p =>
    let (s, c) := run s h p
    s.answer h c []

/-! ### Intake and mailbox (R339, R350) -/

/-- COMMAND_INTAKE: the front end takes the oldest command frame of a network port. While the Banker is absent no UDP command gets a
response (R37): a frame for another node waits in its queue. -/
def State.commandIntake (s : State) (n : Nat) : State :=
  match (s.net n).cmdQ with
  | [] => s
  | (f, st) :: rest =>
    match f.udp with
    | none => s.updNet n fun x => { x with cmdQ := rest }
    | some u =>
      if (if s.relays u.data then !s.bankerUp else s.intakeFull) then s
      else (s.updNet n fun x => { x with cmdQ := rest }).intake ⟨0, n, u.ip, u.sport⟩ u.data (st.setWidth 32)

/-- R350, R360: the host writes the doorbell with a length at `t`; CODE reads BUSY while the Banker is absent. -/
def State.doorbell (s : State) (len : Nat) (t : Word) : State :=
  let s := s.at_ t
  if s.devState = stReset then s
  else if s.bankerUp = false ∨ s.get .HST_MB_STATUS_CODE = stBUSY ∨ s.intakeFull = true then s.count .HST_CNT_DB_IGNORED
  else if 4096 < len then s.mbPost stCHECK
  else
    let s := (s.set .HST_MB_STATUS_CODE stBUSY).setB .HST_MB_STATUS_READY false
    s.intake ⟨1, 0, 0, 0⟩ (readBytes 0 s.cmd.req 0 len) t

/-- R350, R359: the Banker writes the response buffer and HST_MB_RESP. -/
def State.mbResp (s : State) (code : Nat) (up : Bool) (bytes : List Byte) : State :=
  if s.get .BKR_STATUS_RUN = 0 ∨ s.on .FUS_DBG_STATUS_BANKER_HALTED = true then s
  else
    let s := s.updCmd fun c => { c with resp := writeBytes 0 c.resp 0 (bytes.take 4096) }
    let fresh := up && !s.bankerUp
    let s := if up then s.setB .HST_MB_STATUS_BANKER_UP true else s
    let s := s.mbPost (if s.bankerUp then code else stBUSY)
    if fresh then ((s.showAbsent).bankerDrain).updPlat fun x => { x with watchAt := s.extNow } else s

/-- CMD_IN_POP: the oldest frame is removed. -/
def State.cmdPop (s : State) : State := s.updCmd fun c => { c with fifo := c.fifo.drop 1 }

end Sys2Proof.Machine
end

