-- ==== Sys2Proof/Machine/Regs.lean ====
section
/-!
DEFINITION. Reads and writes of the register blocks (R12, R13, R367): what each register reads as, what a read clears
or removes, and what a write does, by field type and, for the registers that act, by their own rule.
-/

namespace Sys2Proof.Machine

open Sys2Proof

/-! ### Addresses and field types -/

/-- The value of a field put into a word of zeros. -/
def Fld.at_ (f : Fld) (v : Nat) : Word := f.into 0 v

/-! ### Reads -/

/-- The descriptor window of the Talon (R113): the word at an offset for the descriptor selected. -/
def State.dselWord (s : State) (a : Nat) : Word :=
  let i := s.get .CMP_TLN_DSEL_INDEX
  let d := s.desc i
  if a = Reg.CMP_TLN_DSTATE then
    let st : Nat := match d.state with
      | .free => 0
      | .filling => 1
      | .eligible => 2
      | .retired => 3
      | .pendingFree => 4
    Fld.CMP_TLN_DSTATE_STATE.at_ st ||| Fld.CMP_TLN_DSTATE_BAD.at_ (b2n d.bad) |||
      Fld.CMP_TLN_DSTATE_CLASS.at_ (((s.descClass i).map (·.1)).getD 0) ||| Fld.CMP_TLN_DSTATE_SRC.at_ d.src.toNat
  else if a = Reg.CMP_TLN_DHOLD then d.holders.setWidth 32
  else if a = Reg.CMP_TLN_DELIG then d.eligTime
  else d.eligTick

/-- The oldest set of the receive FIFO as FAB_RX_HEAD, FAB_RX_ARG0 and FAB_RX_ARG1 read. -/
def State.rxWords (s : State) : Word × Word × Word :=
  match s.fab.fifo with
  | [] => (0, 0, 0)
  | (m, p) :: _ =>
    (Fld.FAB_RX_HEAD_SRC.at_ m.src ||| Fld.FAB_RX_HEAD_BCAST.at_ (b2n m.bcast) ||| Fld.FAB_RX_HEAD_SEQ.at_ m.seq.toNat |||
      Fld.FAB_RX_HEAD_TYPE.at_ m.type ||| Fld.FAB_RX_HEAD_PORT.at_ p,
     BitVec.ofNat 32 (leNat (m.args.take 4)), BitVec.ofNat 32 (leNat ((m.args.drop 4).take 4)))

/-- The oldest frame of the intake FIFO as the CMD_IN registers read. -/
def State.inWord (s : State) (a : Nat) : Word :=
  match s.cmd.fifo with
  | [] => 0
  | f :: _ =>
    if a = Reg.CMD_IN_STATUS then
      Fld.CMD_IN_STATUS_COUNT.at_ s.cmd.fifo.length ||| Fld.CMD_IN_STATUS_CRC_OK.at_ (b2n f.crcOk) |||
        Fld.CMD_IN_STATUS_TRANSPORT.at_ f.origin.transport |||
        Fld.CMD_IN_STATUS_NET_PORT.at_ (if f.origin.transport = 0 then f.origin.port else 0) |||
        Fld.CMD_IN_STATUS_LENGTH.at_ f.bytes.length
    else if a = Reg.CMD_IN_SRC then f.origin.addr
    else if a = Reg.CMD_IN_TIME then f.time
    else if a = Reg.CMD_IN_PORT then BitVec.ofNat 32 (f.origin.udp % 65536)
    else BitVec.ofNat 32 (leNat ((f.bytes.drop (a - Reg.CMD_IN_DATA 0)).take 4))

/-- Members of the wall layout requested, as a mask (R124). -/
def State.memberMask (s : State) : Nat :=
  (((s.wallDesc (s.get .CMP_WALL_REQ_LAYOUT)).map (·.members)).getD []).foldl setBitN 0

/-- Role of a quad (R217): 0 DP transmitter, 1 DP receiver, 2 fabric, 3 host. -/
def quadRole (q : Nat) : Nat := if q < 16 then 0 else if q < 32 then 1 else if q < 40 then 2 else 3

/-- The value that a register reads as, for master `m` (R12, R13): pending values of SH fields, 0 for WO fields, and the
registers that show other state. -/
def State.readReg (s : State) (m a : Nat) : Word :=
  let stored := ((s.word a &&& ~~~shMask a) ||| (s.pendWord a &&& shMask a)) &&& ~~~tyMask (· == .wo) a
  match a / 0x10000 with
  | 0x2000 =>
    match regIdx (Reg.CMP_TLN_COUNT 0) 16 8 a with
    | some c => (Fld.CMP_TLN_COUNT_FREE c).into stored (s.freeCount c)
    | none =>
      if Reg.CMP_TLN_DSTATE ≤ a ∧ a ≤ Reg.CMP_TLN_DTICK then s.dselWord a
      else if a = Reg.CMP_WALL_MEMBERS_LO then BitVec.ofNat 32 s.memberMask
      else if a = Reg.CMP_WALL_MEMBERS_HI then BitVec.ofNat 32 (s.memberMask / 2 ^ 32)
      else stored
  | 0x1005 =>
    if a = Reg.DEC_STATUS then
      Fld.DEC_STATUS_RUNNING.into (Fld.DEC_STATUS_OPEN.into stored s.openCount) s.runningCount
    else match regIdx (Reg.DEC_CX_STATE 0) 64 512 a with
      | some c => (Fld.DEC_CX_STATE_MAPPED c).into stored (b2n (s.mapMethod c != 3))
      | none => match regIdx (Reg.DEC_CX_SRAGE 0) 64 512 a with
        | some c => (Fld.DEC_CX_SRAGE_SR_AGE c).into stored (s.srAge c)
        | none => stored
  | 0x1006 => if a = Reg.ENC_STATUS then Fld.ENC_STATUS_RUNNING.into stored s.encRunning else stored
  | 0x2003 =>
    match regIdx (Reg.SER_QSTAT 0) 64 41 a with
    | some q =>
      let w := (Fld.SER_QSTAT_PSTATE q).into stored (s.quadPower q)
      let w := (Fld.SER_QSTAT_ACTIVE q).into w (b2n (s.quadActive q))
      (Fld.SER_QSTAT_ROLE q).into ((Fld.SER_QSTAT_PLL_LOCK q).into w (b2n (s.quadPower q != 2))) (quadRole q)
    | none => stored
  | 0x2004 =>
    if a = Reg.FAB_STATUS then
      Fld.FAB_STATUS_UNSYNC.into (Fld.FAB_STATUS_PORTS_NARROW.into (Fld.FAB_STATUS_PORTS_UP.into stored s.portsUp)
        s.portsNarrow) (b2n s.unsync)
    else if a = Reg.FAB_FLOW_CFG 0 ∨ a = Reg.FAB_FLOW_STATE 0 then 0
    else if a = Reg.FAB_TX_CTRL then Fld.FAB_TX_CTRL_QUEUE.into stored s.bankQueued
    else if a = Reg.FAB_RX_STATUS then Fld.FAB_RX_STATUS_COUNT.into stored s.fab.fifo.length
    else if a = Reg.FAB_RX_HEAD then s.rxWords.1
    else if a = Reg.FAB_RX_ARG0 then s.rxWords.2.1
    else if a = Reg.FAB_RX_ARG1 then s.rxWords.2.2
    else stored
  | 0x1008 =>
    if a = Reg.TIM_NOW_LO then s.time.now
    else if a = Reg.TIM_NOW_HI then s.nowHi m
    else if a = Reg.TIM_STATUS then Fld.TIM_STATUS_TRG_RUN.into stored (b2n s.chansRun)
    else match regIdx (Reg.TIM_NP_TXTS_LO 0) 0x100 3 a, regIdx (Reg.TIM_NP_TXTS_HI 0) 0x100 3 a,
        regIdx (Reg.TIM_NP_TXTS_ID 0) 0x100 3 a with
      | some n, _, _ => (s.txtsWords n).1
      | _, some n, _ => (s.txtsWords n).2.1
      | _, _, some n => (s.txtsWords n).2.2
      | _, _, _ => stored
  | 0x2002 =>
    match regIdx (Reg.CAP_LLK 0) 16 16 a with
    | some o => (Fld.CAP_LLK_FALLBACK o).into stored (b2n (s.on (.CAP_LLK_EN o) && !s.lineLocked o))
    | none => stored
  | 0x100A =>
    match regIdx (Reg.AUD_P_STATE 0) 0x40 8 a with
    | some p => if s.prestarts p s.time.now then (Fld.AUD_P_STATE_STATE p).into stored apPrestart else stored
    | none => stored
  | 0x1009 =>
    match regIdx (Reg.TCH_P_NVAL 0) 0x100 4 a, regIdx (Reg.TCH_P_NREF 0) 0x100 4 a, regIdx (Reg.TCH_P_NSTAT 0) 0x100 4 a with
    | some p, _, _ => (s.nselWords p).1
    | _, some p, _ => (s.nselWords p).2.1
    | _, _, some p => (s.nselWords p).2.2
    | _, _, _ => stored
  | 0x100C =>
    if a = Reg.HST_MB_STATUS ∧ s.bankerUp = false then Fld.HST_MB_STATUS_CODE.into stored stBUSY else stored
  | 0x1003 =>
    if a = Reg.BKR_STATUS then Fld.BKR_STATUS_RUN.into stored s.coresRunning
    else if a = Reg.BKR_TRIAL then Fld.BKR_TRIAL_TRIAL_LEFT.into stored s.trialLeft
    else stored
  | 0x1002 =>
    if a = Reg.FUS_DBG_NONCE_LO then s.plat.nonce.setWidth 32
    else if a = Reg.FUS_DBG_NONCE_HI then (s.plat.nonce >>> 32).setWidth 32
    else stored
  | 0x100B =>
    if a ≤ Reg.CMD_IN_PORT ∨ Reg.CMD_IN_DATA 0 ≤ a ∧ a < Reg.CMD_IN_DATA 1024 then s.inWord a else stored
  | 0x100D =>
    match regIdx (Reg.CHK_RESULT 0) 64 4 a with
    | some n => s.chkResult n
    | none => stored
  | 0x100E => if a = Reg.SCO_HB then Fld.SCO_HB_HB_AGE.into stored s.hbAge else stored
  | 0x100F => if a = Reg.LOG_STATUS then Fld.LOG_STATUS_QUEUE.into stored s.sco.queue.length else stored
  | _ => stored

/-- R315: a report counts as read when its check word, which ends it, has been read (log 93). -/
def State.reportSeen (s : State) (a : Nat) : State :=
  let k := (a - Reg.TCH_RPT 0 0 0) / 4
  let p := (a - Reg.TCH_RPT 0 0 0) / (Reg.TCH_RPT 1 0 0 - Reg.TCH_RPT 0 0 0)
  let r := (a - Reg.TCH_RPT p 0 0) / (Reg.TCH_RPT 0 1 0 - Reg.TCH_RPT 0 0 0)
  if Reg.TCH_RPT 0 0 0 ≤ a ∧ p < 4 ∧ r < 16 ∧ a = Reg.TCH_RPT p r 47 ∧ 0 < k then s.slotRead p r else s

/-- What a read of a register by master `m` changes: RC fields clear and FIFO entries go, except by the debug port
(R12, R255, R297), and the epoch is latched (R283). -/
def State.readSide (s : State) (m a : Nat) : State :=
  let s := if m = 9 then s else (s.setWord a (s.word a &&& ~~~tyMask (· == .rc) a)).reportSeen a
  if a = Reg.TIM_NOW_LO then s.nowLoRead m
  else if a = Reg.FAB_RX_ARG1 then s.fifoPop (m == 9)
  else match regIdx (Reg.TIM_NP_TXTS_ID 0) 0x100 3 a with
    | some n => s.txtsIdRead n m
    | none => s

/-- A read of a register over the peripheral buses. -/
def State.busRead (s : State) (m a : Nat) : State :=
  if s.devState = stReset then s else (s.showRead a (s.readReg m a)).readSide m a

/-! ### Writes by field type -/

/-- Do the LK fields of a register still take writes (R12, R293, R394, R398)? -/
def State.lkOpen (s : State) (a : Nat) : Bool :=
  let channel := decide (Reg.TIM_TRG_CFG 0 ≤ a ∧ (a - Reg.TIM_TRG_CFG 0) / 16 < 64)
  if contractAddr a then false
  else if channel then !s.on (.TIM_TRG_CFG_OWNER ((a - Reg.TIM_TRG_CFG 0) / 16))
  else if memAddr a then !s.boot.memSet
  else !s.boot.imageOk

/-- A write of SH fields: pending, or ignored and counted while the Dealer has the change (R12, R123). -/
def State.shWrite (s : State) (a : Nat) (w : Word) : State :=
  if shMask a = 0 then s
  else if s.on .CMP_COMMIT_PENDING then s.count .CMP_COMMIT_STATUS_WR_DROP
  else s.putPend a w

/-- A write as the types of a register's fields state (R12). The entries of flow 0 hold nothing (R255). -/
def State.typedWrite (s : State) (a : Nat) (w : Word) : State :=
  if a = Reg.FAB_FLOW_CFG 0 ∨ a = Reg.FAB_FLOW_STATE 0 then s else
  let take := if s.lkOpen a then tyMask (fun t => t == .rw || t == .lk) a else tyMask (· == .rw) a
  let clear := tyMask (· == .w1c) a &&& w
  (s.setWord a (((s.word a &&& ~~~take) ||| (w &&& take)) &&& ~~~clear)).shWrite a w

/-! ### Writes with a rule of their own -/

/-- R187, R210: a write of DEC_CMD. OPEN keeps the RTCP template that the Banker stored. -/
def State.decCmdWrite (s : State) (w : Word) : State :=
  let c := Fld.DEC_CMD_CTX.of w
  let op := Fld.DEC_CMD_OP.of w
  let s := s.typedWrite Reg.DEC_CMD w
  if Fld.DEC_CMD_GO.of w = 0 then s
  else if s.on .DEC_CMD_STATUS_BUSY then s.set .DEC_CMD_STATUS_CODE stBUSY
  else match op with
    | 1 => s.decOpen c (s.ctx c).template
    | 2 => s.decClose c
    | 3 => s.decKeyReq c
    | _ => s.decAnswer stUNKNOWN

/-- R211: a write of ENC_CMD. -/
def State.encCmdWrite (s : State) (w : Word) : State :=
  let s := s.typedWrite Reg.ENC_CMD w
  if Fld.ENC_CMD_GO.of w = 0 then s else s.encCmd (Fld.ENC_CMD_STREAM.of w) (Fld.ENC_CMD_OP.of w)

/-- R237: a write of FAB_RT_CHECK.GO. -/
def State.rtCheckGo (s : State) : State :=
  if s.devState = stReset then s else s.setB .FAB_RT_CHECK_BUSY true

/-- R286, R452: a write of TIM_SERVO. -/
def State.servoWrite (s : State) (w : Word) : State :=
  let s := s.servoLocked (Fld.TIM_SERVO_LOCKED.of w != 0)
  if Fld.TIM_SERVO_INVALIDATE.of w = 0 then s else s.servoInvalidate

/-- R319: a write of TCH_P_CTRL_p. -/
def State.tchCtrlWrite (s : State) (p : Nat) (w : Word) : State :=
  match (Fld.TCH_P_CTRL_RESTART p).of w != 0, (Fld.TCH_P_CTRL_RELEASE p).of w != 0 with
  | true, true => s.tchBoth p
  | true, false => s.tchRestart p
  | false, true => s.tchRelease p
  | false, false => s

/-- R37, R359: BKR_HB is written; a change of it restarts the heartbeat's time. -/
def State.hbWrite (s : State) (w : Word) : State :=
  if w = s.word Reg.BKR_HB then s else (s.setWord Reg.BKR_HB w).updPlat fun x => { x with hbAt := s.extNow }

/-- May master `m` write the platform's registers (R381, R384)? -/
def State.platformWriter (s : State) (m : Nat) (user : Bool) : Bool :=
  (m == 0 && !user) || (m == 9 && (s.lifecycle == lcBlank || s.lifecycle == lcLab))

/-- A write of the platform blocks MTX, MPU, FUS and BKR. -/
def State.platformWrite (s : State) (m : Nat) (user : Bool) (a : Nat) (w : Word) (t : Word) (f : FlashIn) : State :=
  if s.platformWriter m user = false then s
  else if a = Reg.MTX_CTRL then
    let s := if s.boot.imageOk then s else s.set .MTX_CTRL_ARB_MODE (Fld.MTX_CTRL_ARB_MODE.of w)
    s.remapWrite (w.getLsbD 0)
  else if a = Reg.MPU_GLOBAL then s.mpuLock (w.getLsbD 0)
  else if a = Reg.FUS_PROG_CTRL then
    let s := s.typedWrite a w
    if Fld.FUS_PROG_CTRL_GO.of w = 0 then s else s.fuseGo m (Fld.FUS_PROG_CTRL_WORD.of w)
  else if a = Reg.BKR_WDT_KICK then s.wdtKick t
  else if a = Reg.BKR_RESET then (if w.getLsbD 0 then s.resetSelf f else s)
  else if a = Reg.BKR_HB then s.hbWrite w
  else if a = Reg.BKR_DEV_RESET then s.devReset (Fld.BKR_DEV_RESET_KEY.of w) (m == 0 && !user)
  else
    let u := (a - Reg.MPU_RGN_CTL 0 0) / 0x100
    match regIdx (Reg.MTX_PRI_LO 0) 8 9 a, regIdx (Reg.MTX_PRI_HI 0) 8 9 a,
        regIdx (Reg.MPU_RGN_CTL u 0) 8 16 a, regIdx (Reg.MPU_RGN_BASE u 0) 8 16 a with
    | some k, _, _, _ => s.priWrite k false w
    | _, some k, _, _ => s.priWrite k true w
    | _, _, some r, _ => if u < 11 ∧ Reg.MPU_RGN_CTL 0 0 ≤ a then s.rgnCtlWrite u r w else s
    | _, _, _, some r => if u < 11 ∧ Reg.MPU_RGN_CTL 0 0 ≤ a then s.rgnBaseWrite u r w else s
    | _, _, _, _ => s.typedWrite a w

/-- A write of the time unit. -/
def State.timWrite (s : State) (a : Nat) (w : Word) : State :=
  if a = Reg.TIM_INCR then s.incrWrite w
  else if a = Reg.TIM_EPOCH then s.epochWrite w false
  else if a = Reg.TIM_PTP_OFF_LO then (if s.epochValid then s.setWord a w else s)
  else if a = Reg.TIM_PTP_OFF_HI then s.offHiWrite w
  else if a = Reg.TIM_SERVO then s.servoWrite w
  else if a = Reg.TIM_GM_DOM then s.gmDomWrite (Fld.TIM_GM_DOM_DOMAIN.of w)
  else if a = Reg.TIM_UTC then s.utcWrite (BitVec.ofNat 16 (Fld.TIM_UTC_UTC_OFFSET.of w))
  else match regIdx (Reg.TIM_TRG_START 0) 16 64 a, regIdx (Reg.TIM_TRG_CFG 0) 16 64 a, regIdx (Reg.TIM_TRG_PER 0) 16 64 a with
    | some c, _, _ => s.trgStartWrite c w
    | _, some c, _ =>
      let den := (Fld.TIM_TRG_CFG_DEN c).of w
      (s.typedWrite a ((Fld.TIM_TRG_CFG_DEN c).into w (if den = 0 then s.get (.TIM_TRG_CFG_DEN c) else den))).trgCfgWritten c
        (s.get (.TIM_TRG_CFG_MODE c))
    | _, _, some c => (s.typedWrite a w).trgCfgWritten c (s.get (.TIM_TRG_CFG_MODE c))
    | _, _, _ => s.typedWrite a w

/-- A write of the check-value units (R352, R353). -/
def State.chkWrite (s : State) (a : Nat) (w : Word) : State :=
  match regIdx (Reg.CHK_CFG 0) 64 4 a, regIdx (Reg.CHK_DATA8 0) 64 4 a, regIdx (Reg.CHK_DATA16 0) 64 4 a,
      regIdx (Reg.CHK_DATA32 0) 64 4 a with
  | some n, _, _, _ => s.chkCfg n w
  | _, some n, _, _ => s.chkData n 1 w
  | _, _, some n, _ => s.chkData n 2 w
  | _, _, _, some n => s.chkData n 4 w
  | _, _, _, _ => s.typedWrite a w

/-- A write of the blocks of bus B: composers, outputs, inputs, lanes and fabric. -/
def State.busBWrite (s : State) (a : Nat) (w : Word) (t : Word) : State :=
  if a = Reg.CMP_COMMIT then (if Fld.CMP_COMMIT_GO.of w = 0 then s else s.commitGo t)
  else if a = Reg.CMP_TLN_FREE then s.freeRequest (Fld.CMP_TLN_FREE_INDEX.of w)
  else if a = Reg.CMP_WALL_GO then (if Fld.CMP_WALL_GO_GO.of w = 0 then s else s.wallGo)
  else if a = Reg.OUT_RESYNC then (if Fld.OUT_RESYNC_GO.of w = 0 then s else s.resyncGo)
  else if a = Reg.FAB_RT_CHECK then (if Fld.FAB_RT_CHECK_GO.of w = 0 then s else s.rtCheckGo)
  else if a = Reg.FAB_TX_CTRL then
    let s := s.typedWrite a w
    if Fld.FAB_TX_CTRL_GO.of w = 0 then s else s.fabTxGo
  else if Reg.FAB_RT 0 ≤ a ∧ a < Reg.FAB_RT 64 ∨ Reg.FAB_BC 0 ≤ a ∧ a < Reg.FAB_BC 64 then
    (if s.on .DLR_STATUS_DEALING then s else s.typedWrite a w)
  else match regIdx (Reg.OUT_AUX_CTRL 0) 0x100 16 a, regIdx (Reg.SER_QCTRL 0) 64 41 a with
    | some o, _ =>
      let s := s.typedWrite a w
      if (Fld.OUT_AUX_CTRL_GO o).of w = 0 then s else s.auxGo o
    | _, some q => (s.set (.SER_QCTRL_PWR q) ((Fld.SER_QCTRL_PWR q).of w)).serLoop q ((Fld.SER_QCTRL_LOOP q).of w)
    | _, _ => s.typedWrite a w

/-- Session registers of a context that take writes only while it is CLOSED, and the destination address, SSRC and TSOFF of a stream
only while it does not run (R187, R211). -/
def State.sessionShut (s : State) (a : Nat) : Bool :=
  let c := (a - Reg.DEC_CX_CFG 0) / 64
  let e := (a - Reg.ENC_ST_CFG 0) / 64
  (decide (Reg.DEC_CX_CFG 0 ≤ a) && a / 0x10000 == 0x1005 && decide (c < 512) && s.ctxState c != cxClosed)
    || (decide (e < 32) && (a == Reg.ENC_ST_DSTIP e || a == Reg.ENC_ST_SSRC e || a == Reg.ENC_ST_TSOFF e) && s.encRuns e)

/-- A write of a register by master `m` at time `t`: the flash answers a Banker reset with `f`. The Scorer's blocks are
written by no master (R369). -/
def State.writeReg (s : State) (m : Nat) (user : Bool) (a : Nat) (w : Word) (t : Word) (f : FlashIn) : State :=
  if s.devState = stReset then s
  else
    let s := s.at_ t
    match a / 0x10000 with
    | 0x1000 => s.platformWrite m user a w t f
    | 0x1001 => s.platformWrite m user a w t f
    | 0x1002 => s.platformWrite m user a w t f
    | 0x1003 => s.platformWrite m user a w t f
    | 0x1004 => if a = Reg.DLR_TICK_FIRST then s.tickFirstWrite w else s.typedWrite a w
    | 0x1005 =>
      if a = Reg.DEC_CMD then s.decCmdWrite w else if s.sessionShut a then s else s.typedWrite a w
    | 0x1006 =>
      if a = Reg.ENC_CMD then s.encCmdWrite w else if s.sessionShut a then s else s.typedWrite a w
    | 0x1007 =>
      if a = Reg.MEM_FREQ then
        (if Fld.MEM_FREQ_GO.of w = 0 then s.typedWrite a w else s.freqGo (Fld.MEM_FREQ_TARGET.of w))
      else s.typedWrite a w
    | 0x1008 => s.timWrite a w
    | 0x1009 =>
      match regIdx (Reg.TCH_P_CTRL 0) 0x100 4 a with
      | some p => s.tchCtrlWrite p w
      | none => s.typedWrite a w
    | 0x100A =>
      match regIdx (Reg.AUD_P_CTRL 0) 0x40 8 a with
      | some p => s.muteWrite p ((Fld.AUD_P_CTRL_MUTE p).of w != 0)
      | none => s.typedWrite a w
    | 0x100B => if a = Reg.CMD_IN_PORT then (if w.getLsbD 31 then s.cmdPop else s) else s.typedWrite a w
    | 0x100C =>
      if a = Reg.HST_MB_DOORBELL then s.doorbell (Fld.HST_MB_DOORBELL_LENGTH.of w) t
      else if a = Reg.HST_MB_RESP then
        (if m = 0 then s.mbResp (Fld.HST_MB_RESP_CODE.of w) (Fld.HST_MB_RESP_BANKER_UP.of w != 0) (readBytes 0 s.cmd.resp 0 4096)
         else s)
      else s.typedWrite a w
    | 0x100D => s.chkWrite a w
    | 0x100E => s
    | 0x100F => s
    | _ => s.busBWrite a w t

end Sys2Proof.Machine
end

