-- ==== Sys2Proof/Machine/Matrix.lean ====
section
/-!
DEFINITION. The system matrix (R349, R361 to R374): targets, arbitration, the checks of a piece, what a piece does at its
target, violation records, and the transfers that run together.
-/

namespace Sys2Proof.Machine

open Sys2Proof

/-! ### Targets and masters (R361, R365, R366) -/

/-- Targets of the matrix. -/
def tgBoot : Nat := 0
def tgSram : Nat := 1
def tgMbox : Nat := 2
def tgDeal : Nat := 3
def tgBusA : Nat := 4
def tgBusB : Nat := 5
def tgHost : Nat := 6
def tgMram : Nat := 7
def tgDram : Nat := 8

/-- Targets that a master is connected to. -/
def connected : Nat → List Nat
  | 0 => [0, 1, 2, 3, 4, 5, 6, 7, 8]
  | 1 => [2]
  | 2 => [4, 5, 8]
  | 3 => [4, 8]
  | 4 => [5, 8]
  | 5 => [5, 8]
  | 6 => [4, 8]
  | 7 => [5, 8]
  | 8 => [6]
  | 9 => [0, 1, 2, 3, 4, 5, 6, 7, 8]
  | 10 => [4, 8]
  | _ => []

/-- Masters in their fixed order, highest first. -/
def masterOrder : List Nat := [1, 2, 5, 4, 7, 3, 10, 6, 0, 8, 9]

/-- The target that decodes an address (R365, R366), none where there is none. -/
def State.target (s : State) (a : Nat) : Option Nat :=
  let boot := if s.on .MTX_CTRL_REMAP then 0x800000 else 0x40000
  if a < 0x1000000 then (if a < boot then some tgBoot else none)
  else if a < 0x1800000 then some tgSram
  else if 0x2000000 ≤ a ∧ a < 0x2010000 then some tgMbox
  else if 0x3000000 ≤ a ∧ a < 0x3100000 then some tgDeal
  else if 0x10000000 ≤ a ∧ a < 0x10100000 then some tgBusA
  else if 0x20000000 ≤ a ∧ a < 0x20050000 then some tgBusB
  else if 0x40000000 ≤ a ∧ a < 0x44000000 then some tgHost
  else if 0x80000000 ≤ a ∧ a < 0x80400000 then some tgMram
  else if dramBase ≤ a ∧ (s.memMap a).isSome = true then some tgDram
  else none

/-- The target a master reaches at an address. -/
def State.reach (s : State) (m a : Nat) : Option Nat := (s.target a).filter fun t => (connected m).contains t

/-- Rank of a master at a target, lower first (R363, R364). -/
def State.matrixRank (s : State) (t m : Nat) : Nat :=
  let nibble := if m < 8 then (s.word (Reg.MTX_PRI_LO t)).toNat / 16 ^ m % 16
    else (s.word (Reg.MTX_PRI_HI t)).toNat / 16 ^ (m - 8) % 16
  (if s.on .MTX_CTRL_ARB_MODE then nibble * 16 else 0) + masterOrder.idxOf m

/-! ### The checks of a piece (R368 to R371, R381) -/

/-- Reason codes of R368. -/
def vDecode : Nat := 1
def vDebug : Nat := 2
def vFetch : Nat := 3
def vScorer : Nat := 4
def vDeal : Nat := 5
def vPerm : Nat := 6
def vRegion : Nat := 7

/-- Code of an access kind in a violation record, and its bit in the rights of a region. -/
def Access_code : Access → Nat
  | .read => 0
  | .write => 1
  | .fetch => 2

/-- Does a fused range of the Scorer's region map hold an address? -/
def State.fusedOwns (s : State) (e a : Nat) : Bool :=
  let size := s.get (.FUS_SOMAP_ATTR_SIZE e)
  let base := s.get (.FUS_SOMAP_BASE_BASE e) * 4096
  size != 0 && decide (base ≤ a ∧ a < base + 2 ^ size)

/-- Is an address in the ranges that the Scorer owns in every lifecycle (R369)? -/
def alwaysOwned (a : Nat) : Bool :=
  decide (0x80000000 ≤ a ∧ a < 0x80400000) || decide (0x100E0000 ≤ a ∧ a < 0x10100000)

/-- R369: is an address Scorer-owned? -/
def State.scorerOwned (s : State) (a : Nat) : Bool := alwaysOwned a || (List.range 8).any fun e => s.fusedOwns e a

/-- R369: may a master other than M9 read a Scorer-owned address? -/
def State.scorerReadable (s : State) (m a : Nat) : Bool :=
  (!alwaysOwned a || m == 0) && (List.range 8).all fun e => !s.fusedOwns e a || bitOf (s.get (.FUS_SOMAP_ATTR_READ e)) m

/-- Key storage (R381). -/
def keyStorage (a : Nat) : Bool := decide (0x10020040 ≤ a ∧ a < 0x10020080)

/-- R381: does the debug policy of the lifecycle admit an access by M9 to target `t`? -/
def State.debugAdmits (s : State) (t a : Nat) (k : Access) : Bool :=
  let lc := s.lifecycle
  let shut := s.scorerOwned a || keyStorage a
  let reads := decide (k = .read)
  if lc = lcBlank then true
  else if lc = lcLab then !(reads && shut) || s.labPolicy 3
  else if lc = lcField then
    s.unlocked && !shut && ((t == tgSram || t == tgBoot) && s.scope 0 || (t == tgBusA || t == tgBusB || t == tgDram) && reads)
  else t == tgMram && reads

/-- R371: is a piece privileged? -/
def privileged (m : Nat) (user : Bool) : Bool := if m = 0 then !user else m == 2 || m == 9

/-- R370: does region `r` of master `m` match an address? -/
def State.regionHits (s : State) (m r a : Nat) : Bool :=
  let size := s.get (.MPU_RGN_CTL_SIZE m r)
  let base := s.get (.MPU_RGN_BASE_BASE m r) * 512 / 2 ^ size * 2 ^ size
  s.on (.MPU_RGN_CTL_ON m r) && decide (base ≤ a ∧ a < base + 2 ^ size)
    && !bitOf (s.get (.MPU_RGN_CTL_SUB_OFF m r)) ((a - base) / 2 ^ (size - 3))

/-- R371: the default map: does it grant a privileged piece an access kind at a target? -/
def defaultMap (t : Nat) (k : Access) : Bool :=
  if t = tgBoot then k != .write
  else if t = tgSram then true
  else if t = tgDeal ∨ t = tgMram then k == .read
  else k != .fetch

/-- R370, R371: the MPU's answer to a piece: 0 passes, else the reason. M1's window is fixed. -/
def State.mpuCheck (s : State) (m : Nat) (user : Bool) (t a : Nat) (k : Access) : Nat :=
  let priv := privileged m user
  let bit := Access_code k
  if m = 1 then (if t = tgMbox ∧ k ≠ .fetch then 0 else vPerm)
  else match firstBelow (fun r => s.regionHits m r a) 16 with
    | some r =>
      let rights := if priv then s.get (.MPU_RGN_CTL_PRIV_RIGHTS m r) else s.get (.MPU_RGN_CTL_USER_RIGHTS m r)
      if bitOf rights bit then 0 else vPerm
    | none => if priv = false then vRegion else if defaultMap t k then 0 else vPerm

/-- Is an address in a platform block (MTX, MPU, FUS, BKR)? -/
def platformBlock (a : Nat) : Bool := decide (0x10000000 ≤ a ∧ a < 0x10040000)

/-- R368: the checks of a piece in order: 0 passes, else the reason of the first that fails. -/
def State.checkPiece (s : State) (m : Nat) (user : Bool) (k : Access) (a : Nat) : Nat :=
  match s.reach m a with
  | none => vDecode
  | some t =>
    if m = 9 ∧ s.debugAdmits t a k = false then vDebug
    else if k = .fetch ∧ t ≠ tgBoot ∧ t ≠ tgSram then vFetch
    else if s.scorerOwned a = true ∧ (k = .write ∨ m ≠ 9 ∧ s.scorerReadable m a = false) then vScorer
    else if t = tgDeal ∧ k = .write then vDeal
    else
      let r := s.mpuCheck m user t a k
      if r = 0 ∧ k = .write ∧ platformBlock a = true ∧ s.platformWriter m user = false then vPerm else r

/-- R373: the record of a failing transfer: one per master in each microsecond, further ones being counted. A violation by
M2 is a cause of SAFE (R421). -/
def State.violation (s : State) (m a : Nat) (user : Bool) (k : Access) (reason : Nat) : State :=
  let (last, rep) := (Tab.find s.plat.viol m).getD (none, 0)
  let soon := match last with
    | some t0 => decide ((s.extNow - t0).toNat < 1000)
    | none => false
  if soon then s.updPlat fun p => { p with viol := Tab.insert p.viol m (last, min 255 (rep + 1)) }
  else
    let s := s.updPlat fun p => { p with viol := Tab.insert p.viol m (some s.extNow, 0) }
    let s := s.log 0x0801 ((leBytes 5 a).map (·.toNat) ++ [m, Access_code k + 4 * b2n user + 8 * reason, rep])
    if m = 2 then s.safeCause 3 else s

/-! ### What a piece does at its target -/

/-- Word addresses that `n` bytes from `a` touch. -/
def wordsOf (a n : Nat) : List Nat := (List.range ((a % 4 + n + 3) / 4)).map fun i => a / 4 * 4 + 4 * i

/-- Bytes `n` from `a` out of the words read at `wordsOf a n`. -/
def bytesOf (a n : Nat) (ws : List Word) : List Byte := (((ws.flatMap fun w => leBytes 4 w.toNat)).drop (a % 4)).take n

/-- The word a write of bytes `bs` from `a` puts at word address `wa`: bytes not written keep what they read as, and clear
nothing. -/
def State.laneWord (s : State) (m a wa : Nat) (bs : List Byte) : Word :=
  let old := s.readReg m wa &&& ~~~tyMask (· == .w1c) wa
  BitVec.ofNat 32 (leNat ((List.range 4).map fun i =>
    if a ≤ wa + i then bs.getD (wa + i - a) (BitVec.ofNat 8 (old.toNat / 256 ^ i)) else BitVec.ofNat 8 (old.toNat / 256 ^ i)))

/-- R362: reads over a bridge, in 32-bit accesses. -/
def State.busReads (s : State) (m a n : Nat) : State × List Byte :=
  let (s, ws) := (wordsOf a n).foldl (fun (x : State × List Word) wa =>
    (x.1.readSide m wa, x.2 ++ [x.1.readReg m wa])) (s, [])
  (s, bytesOf a n ws)

/-- R362: writes over a bridge, in 32-bit accesses. -/
def State.busWrites (s : State) (m : Nat) (user : Bool) (a : Nat) (bs : List Byte) (t : Word) (f : FlashIn) : State :=
  s.each (wordsOf a bs.length) fun s wa => s.writeReg m user wa (s.laneWord m a wa bs) t f

/-- R349: the register that an offset of the host window shows, and whether writes reach it. -/
def windowReg (o : Nat) : Option (Nat × Bool) :=
  if o < 0x1000 then some (Reg.HST_LINK + o, true)
  else if 0x100000 ≤ o ∧ o < 0x105000 then some (0x20008000 + (o - 0x100000), false)
  else if 0x200000 ≤ o ∧ o < 0x208000 then some (0x10090000 + (o - 0x200000), false)
  else if 0x300000 ≤ o ∧ o < 0x300100 then some (0x10040000 + (o - 0x300000), false)
  else if 0x400040 ≤ o ∧ o < 0x400100 then some (0x100D0000 + (o - 0x400000), true)
  else none

/-- R349, R366: a read of the host window, which clears nothing. -/
def State.windowReads (s : State) (m o n : Nat) : List Byte :=
  if 0x1000 ≤ o ∧ o < 0x2000 then readBytes 0 s.cmd.req (o - 0x1000) n
  else if 0x2000 ≤ o ∧ o < 0x3000 then readBytes 0 s.cmd.resp (o - 0x2000) n
  else bytesOf o n ((wordsOf o n).map fun w => match windowReg w with
    | some (r, _) => s.readReg m r
    | none => 0)

/-- R315: what a read of the host window leaves: touch reports that it read. -/
def State.windowSeen (s : State) (m o n : Nat) : State :=
  if m = 9 then s else s.each (wordsOf o n) fun s w => match windowReg w with
    | some (r, _) => s.reportSeen r
    | none => s

/-- R349: a write to the host window. The Banker fills the response buffer (R350); what is dropped is counted. -/
def State.windowWrites (s : State) (m : Nat) (user : Bool) (o : Nat) (bs : List Byte) (t : Word) (f : FlashIn) : State :=
  if 0x1000 ≤ o ∧ o < 0x2000 then s.updCmd fun c => { c with req := writeBytes 0 c.req (o - 0x1000) bs }
  else if 0x2000 ≤ o ∧ o < 0x3000 ∧ m = 0 then s.updCmd fun c => { c with resp := writeBytes 0 c.resp (o - 0x2000) bs }
  else s.each (wordsOf o bs.length) fun s w => match windowReg w with
    | some (r, true) => s.writeReg m user r (s.laneWord m (r + o - w) r bs) t f
    | _ => s.count .HST_CNT_DROPPED

/-- The memory port of a master (R15, R266). -/
def memPort (m : Nat) : Nat := if m = 0 ∨ m = 8 ∨ m = 9 then 54 else 52

/-- A read of DRAM by the processor port: the bytes, and whether they come with an error (R272). -/
def State.dramPiece (s : State) (m a n : Nat) : State × List Byte × Bool :=
  let q : MemReq := { port := memPort m, addr := a, urgent := false, use := .processor, errs := [] }
  match s.memMap a with
  | none => (s, [], true)
  | some (u, b) =>
    let s := s.answerRead u b q
    match s.out.getLast? with
    | some (.block _ _ data err) => ({ s with out := s.out.dropLast }, (data.drop (a % 256)).take n, err)
    | _ => (s, [], true)

/-- A read or fetch of `n` bytes at an address that passed its checks. -/
def State.pieceRead (s : State) (m t a n : Nat) : State × List Byte × Bool :=
  if t = tgBoot then
    (s, if s.on .MTX_CTRL_REMAP then readBytes 0 s.plat.sram a n else (List.range n).map fun i => Config.bootRom (a + i), false)
  else if t = tgSram then (s, readBytes 0 s.plat.sram (a - 0x1000000) n, false)
  else if t = tgMbox then (s, readBytes 0 s.plat.mbox (a - 0x2000000) n, false)
  else if t = tgDeal then
    let (bs, s) := s.freeBytes n
    (s, bs, false)
  else if t = tgHost then (s.windowSeen m (a - 0x40000000) n, s.windowReads m (a - 0x40000000) n, false)
  else if t = tgMram then (s, (List.range n).map fun i => s.mramRead (m == 9) (a - 0x80000000 + i), false)
  else if t = tgDram then s.dramPiece m a n
  else
    let (s, bs) := s.busReads m a n
    (s, bs, false)

/-- A write of bytes at an address that passed its checks; the boot ROM takes none. -/
def State.pieceWrite (s : State) (m : Nat) (user : Bool) (t a : Nat) (bs : List Byte) (now : Word) (f : FlashIn) : State :=
  if t = tgBoot then
    (if s.on .MTX_CTRL_REMAP then s.updPlat fun p => { p with sram := writeBytes 0 p.sram a bs } else s)
  else if t = tgSram then s.updPlat fun p => { p with sram := writeBytes 0 p.sram (a - 0x1000000) bs }
  else if t = tgMbox then s.updPlat fun p => { p with mbox := writeBytes 0 p.mbox (a - 0x2000000) bs }
  else if t = tgHost then s.windowWrites m user (a - 0x40000000) bs now f
  else if t = tgDram then
    s.dramWrite { port := memPort m, addr := a, bytes := bs, errs := [] }
  else s.busWrites m user a bs now f

/-! ### Transfers (R362, R363, R372, R374) -/

/-- Length of a transfer in bytes. -/
def Transfer_size (x : Transfer) : Nat := if x.kind = .write then x.bytes.length else x.len

/-- R362: the pieces of `n` bytes from `a`: (address, length). -/
def splitPieces : Nat → Nat → Nat → List (Nat × Nat)
  | 0, _, _ => []
  | k + 1, a, n =>
    if n = 0 then []
    else
      let m := min n (64 - a % 64)
      (a, m) :: splitPieces k (a + m) (n - m)

/-- A transfer at its start. -/
def startFlight (f : FlashIn) (tap : Option Nat) (x : Transfer) : Flight :=
  { x := x, left := splitPieces (Transfer_size x / 64 + 2) x.addr.toNat (Transfer_size x), data := [], waits := 0, err := false,
    flash := f, tap := tap }

/-- R262, R274: is the next piece of a transfer a read of DRAM that its sub-channel does not answer yet? It is held. -/
def State.isHeld (s : State) (v : Flight) : Bool :=
  match v.left with
  | (a, _) :: _ => v.x.kind == .read && s.checkPiece v.x.master.val v.x.user .read a == 0 && s.target a == some tgDram
      && match s.memMap a with
        | some (u, _) => !s.subIssues u
        | none => false
  | [] => false

/-- R374: a DMA master's transfer met an error response: its trick does not complete. -/
def State.dmaStop (s : State) (x : Transfer) : State :=
  match x.trick with
  | some (cls, job) =>
    if dmaMaster x.master then s.stopRun cls job else s
  | none => s

/-- An error response to the piece at `a`: it and every later piece read as zero or are dropped (R372). -/
def Flight.fail (v : Flight) : Flight :=
  { v with data := v.data ++ (if v.x.kind = .write then [] else (v.left.flatMap fun p => List.replicate p.2 0)), left := [], err := true }

/-- The next piece of a transfer is checked, and reaches its target when it passes. -/
def State.runPiece (s : State) (v : Flight) (now : Word) : State × Flight :=
  match v.left with
  | [] => (s, v)
  | (a, n) :: rest =>
    let m := v.x.master.val
    let r := s.checkPiece m v.x.user v.x.kind a
    if r ≠ 0 then ((s.violation m a (!privileged m v.x.user) v.x.kind r).dmaStop v.x, v.fail)
    else match s.target a with
      | none => (s, v.fail)
      | some t =>
        if v.x.kind = .write then
          (s.pieceWrite m v.x.user t a ((v.x.bytes.drop (a - v.x.addr.toNat)).take n) now v.flash,
           { v with left := rest, waits := 0 })
        else
          let (s, bs, bad) := s.pieceRead m t a n
          if bad = true ∧ dmaMaster m = true then (s.dmaStop v.x, v.fail)
          else (s, { v with left := rest, data := v.data ++ bs, waits := 0, err := v.err || bad })

/-- Which transfers request port `t`: of each master the first that has pieces left, if it is not held. -/
def State.requesters (s : State) (vs : List Flight) (t : Nat) : List Nat :=
  (List.range vs.length).filter fun i => match vs[i]? with
    | some v => match v.left with
      | (a, _) :: _ => s.reach v.x.master.val a == some t && !s.isHeld v
          && !(vs.take i).any fun w => decide (w.x.master = v.x.master) && !w.left.isEmpty
      | [] => false
    | none => false

/-- The rank of the master of transfer `i` at port `t`. -/
def State.flightRank (s : State) (vs : List Flight) (t i : Nat) : Nat :=
  ((vs[i]?).map fun v => s.matrixRank t v.x.master.val).getD 0

/-- The first of some transfers by rank at a port. -/
def State.topFlight (s : State) (vs : List Flight) (t : Nat) : List Nat → Option Nat
  | [] => none
  | i :: is => some (is.foldl (fun b j => if s.flightRank vs t j < s.flightRank vs t b then j else b) i)

/-- R363: which of the requesters of a port is granted, and whether the starvation guard forced it. -/
def State.grantOf (s : State) (vs : List Flight) (t : Nat) (rq : List Nat) : Option (Nat × Bool) :=
  let starved := rq.filter fun i => ((vs[i]?).map fun v => decide (64 ≤ v.waits)).getD false
  match s.topFlight vs t rq, s.topFlight vs t starved with
  | some i, none => some (i, false)
  | some i, some j => some (j, i != j)
  | none, _ => none

/-- One arbitration of port `t` (R363), as the requests and priorities stood at its start: the piece granted runs, the others wait. -/
def State.arbitrate (s s0 : State) (vs vs0 : List Flight) (t : Nat) (now : Word) : State × List Flight :=
  let rq := s0.requesters vs0 t
  match s0.grantOf vs0 t rq with
  | none => (s, vs)
  | some (i, forced) =>
    match vs[i]? with
    | none => (s, vs)
    | some v =>
      let m := v.x.master.val
      let s := if forced then ((s.count .MTX_STARVE_COUNT).set .MTX_STARVE_MASTER m).set .MTX_STARVE_TARGET t else s
      let s := s.updPlat fun p => { p with parked := Tab.insert p.parked t m }
      let (s, v) := s.runPiece v now
      let vs := vs.mapIdx fun j w => if j ≠ i ∧ rq.contains j = true then { w with waits := w.waits + 1 } else w
      (s, vs.set i v)

/-- A piece that reaches no port fails at once (R361, R366). -/
def State.failLost (s : State) (vs : List Flight) (now : Word) : State × List Flight :=
  vs.foldl (fun (x : State × List Flight) v =>
    match v.left with
    | (a, _) :: _ =>
      let first := !x.2.any fun w => decide (w.x.master = v.x.master) && !w.left.isEmpty
      if first = true ∧ x.1.reach v.x.master.val a = none then
        let (s, v) := x.1.runPiece v now
        (s, x.2 ++ [v])
      else (x.1, x.2 ++ [v])
    | [] => (x.1, x.2 ++ [v])) (s, [])

/-- R363, R364: arbitrations of all ports together, `n` rounds of them: a priority written in one counts from the next. -/
def State.matrixRounds (s : State) (vs : List Flight) (now : Word) : Nat → State × List Flight
  | 0 => (s, vs)
  | n + 1 =>
    let (s, vs) := s.failLost vs now
    let (s, vs) := (List.range 9).foldl (fun (x : State × List Flight) t => x.1.arbitrate s x.2 vs t now) (s, vs)
    State.matrixRounds s vs now n

/-- A transfer that has ended is answered; one of DBG_ACCESS in the data register of the debug port: address, data, direction and,
in [75:73], the result: 0 OK, 1 error (R380). -/
def State.answerFlight (s : State) (v : Flight) : State :=
  match v.tap with
  | some a =>
    let data := leNat (if v.x.kind = .write then v.x.bytes else v.data)
    s.jtag irAccess (a % 2 ^ 40 + 2 ^ 40 * data + 2 ^ 72 * b2n (v.x.kind == .write) + 2 ^ 73 * b2n v.err)
  | none => s.emit (.transfer v.x.master.val v.data v.err)

/-- R361 to R374: transfers under way run to their ends and are answered; those held, and what their masters began behind them, stay
(R262). -/
def State.runFlights (s : State) (vs : List Flight) (now : Word) : State :=
  let rounds := vs.foldl (fun n v => n + v.left.length) 0
  let (s, vs) := s.matrixRounds vs now rounds
  let s := s.updMem fun m => { m with stalled := vs.filter fun v => !v.left.isEmpty }
  s.each (vs.filter fun v => v.left.isEmpty) State.answerFlight

/-- R262, R274: reads of DRAM that were held go on once their sub-channel answers. -/
def State.matrixOn (s : State) : State := if s.mem.stalled.isEmpty then s else s.runFlights s.mem.stalled s.time.now

/-- R361 to R374: transfers that begin together run to their ends; each is answered. In RESET nothing answers. -/
def State.matrix (s : State) (xs : List Transfer) (now : Word) (f : FlashIn) : State :=
  if s.devState = stReset then s
  else (s.at_ now).runFlights (s.mem.stalled ++ xs.map (startFlight f none)) now

/-- R380, R381: DBG_ACCESS, a 32-bit access of M9. -/
def State.dbgAccess (s : State) (a : Nat) (d : Word) (write : Bool) (now : Word) (f : FlashIn) : State :=
  if s.devState = stReset then s.bypass
  else
    let x : Transfer := { master := 9, user := false, kind := if write then .write else .read, addr := BitVec.ofNat 40 (a / 4 * 4),
                          len := 4, bytes := leBytes 4 d.toNat, trick := none }
    (s.at_ now).runFlights (s.mem.stalled ++ [startFlight f (some a) x]) now

end Sys2Proof.Machine
end

