-- ==== Sys2Proof/Machine/Tick.lean ====
section
/-!
DEFINITION. The tick boundary (R21, R22, R25, R28, R29, R51 to R67, R84, R85, R132, R141, R266): what happens when a boundary
arrives, in the order of R28.
-/

namespace Sys2Proof.Machine

open Sys2Proof

/-- Does a tick boundary occur now: the device deals or is in SAFE (R136, R423), and in PTP mode the first boundary has been
placed, written, or given up (R21, R25)? -/
def State.boundaryDue (s : State) : Bool :=
  (s.devState == stDealing || s.devState == stSafe)
    && (s.syncMode || s.dealer.started || s.on .DLR_STATUS_TICK_LOCKED || s.dealer.freeRun)

/-- R25: the Dealer deals from the first boundary after TICK_LOCKED is set (`locked`: it was before this one), or on the free-running
time unit. -/
def State.startDealing (s : State) (locked : Bool) : State :=
  if s.dealing = true ∧ s.on .DLR_STATUS_DEALING = false ∧ (locked = true ∨ s.dealer.freeRun = true) then
    ((s.setB .DLR_STATUS_DEALING true).set .DLR_STATUS_LAYOUT s.dealer.layout).updDealer fun d => { d with cyclePos := 0 }
  else s

/-- R80: at every boundary the time and the epoch word are latched. -/
def State.latchTime (s : State) : State :=
  let epoch := s.word Reg.TIM_EPOCH
  let s := (s.setWord Reg.DLR_TICK_TIME s.dealer.edge).setWord Reg.CMP_LV_TICK_EPOCH epoch
  (s.setB .CMP_LV_STATUS_EXT_MODE s.epochValid).updDealer fun d => { d with epochTick := epoch, epochOk := s.epochValid }

/-- R22, R28, R38: the tick is counted. -/
def State.latchTick (s : State) : State :=
  let n := s.tick + 1
  (s.setWord Reg.DLR_TICK_COUNT n).updDealer fun d => { d with
    history := ((n, d.edge) :: d.history).take 16, actStarted := false, dealPassed := false, issued := [] }

/-- R230: a stopped flow that the cycle `before` did not reserve and the one in force does starts again (log 78). -/
def State.restartFlows (s : State) (before : List (List Trick)) : State :=
  let anew := s.flowsFrom.filter fun f => s.on (.FAB_FLOW_STATE_STOPPED f.id) && !before.any (fun d => reserves d f.id)
    && s.deals.any fun d => reserves d f.id
  s.each anew fun s f =>
    let s := s.setB (.FAB_FLOW_STATE_STOPPED f.id) false
    s.sendPresence f (s.flowPresent f)

/-- R205: the starts and stops of encode streams among some changes take effect. -/
def State.takeStreams (s : State) (cs : List Change) : State :=
  s.each cs fun s c => match c.kind with
    | .encStart e => s.encBegin e
    | .encStop e => s.encEnd e
    | _ => s

/-- R26, R28, R141, R205: the next deal of the cycle, which goes on in SAFE (R423), and the changes that take effect with it. `first`: this is the first
boundary dealt. -/
def State.nextDeal (s : State) (first : Bool) : State :=
  let cycle := max 1 s.deals.length
  let before := s.deals
  let s := if first then s else s.updDealer fun d => { d with cyclePos := (d.cyclePos + 1) % cycle }
  let cs := s.latchedFor s.tick
  let s := s.takeCommits.takeStreams cs
  let s := s.set .DLR_STATUS_CYCLE_POS s.dealer.cyclePos
  if cs.isEmpty = true ∧ first = false then s.refreshFlows
  else ((((s.showLoad).refreshSlots).restartFlows before).refreshFlows).each (fabPorts.filter s.portUp) State.rebudget

/-- R247: every 64 ticks, in SAFE too (R423), the node sends the presence of each of its flows. -/
def State.presenceTick (s : State) : State :=
  if s.tick.toNat % 64 = 0 then s.each s.flowsFrom fun s f => s.sendPresence f (s.flowPresent f) else s

/-- What follows the deal at a boundary: tiles, alarms and the tricks with offset 0. `first`: this is the first boundary dealt. -/
def State.dealTick (s : State) (first : Bool) (b : BoundaryIn) : State :=
  let s := (s.alarmsArrive b.alarmLost).takeVerdicts
  let s := if first then s.firstTiles else s.evalTiles b.verdictFaults
  let s := s.issueZero
  let s := s.wakeCores
  (s.updBoot fun x => { x with dealt := x.dealt + 1 }).showConfirm

/-- R28: a tick boundary arrives. -/
def State.tickBoundary (s : State) (b : BoundaryIn) : State :=
  if s.boundaryDue = false then s
  else
    let had := s.dealer.started
    let prev := s.dealer.edge
    let was := s.on .DLR_STATUS_DEALING
    let locked := s.judge.on .DLR_STATUS_TICK_LOCKED
    let s := (((s.placeBoundary).servoBoundary).startDealing locked).setB .DLR_INT_STATUS_TICK true
    let deals := s.on .DLR_STATUS_DEALING
    let s := (s.latchTime).when (deals || s.devState == stSafe) fun s => (s.latchTick).markBoundary
    let s := s.sampleDue
    let s := s.when (deals || s.devState == stSafe) (·.nextDeal (deals && !was))
    let s := s.when (deals || s.devState == stSafe) State.presenceTick
    let s := ((((s.portsTick).widenPorts).memTick).wallTick).sendTickMarks
    let s := s.each outputs fun s o => s.outBoundary o (b.eps.getD o 0)
    let s := if deals then s.dealTick (!was) b else s
    let s := if had = true ∧ s.sco.hard = false then s.rateCheck (s.dealer.edge - prev).toNat b.osc else s
    let s := if s.sco.hard then s else s.alarmEvaluate
    (s.cmdPoll true).settleFault.activationReset

end Sys2Proof.Machine
end

