-- ==== Sys2Proof/Machine/Rows.lean ====
section
/-!
DEFINITION. What the meanings of the rows share: the block does nothing while it is in RESET, the Scorer nothing
while the hard-wired safe path runs, and the few effects that only one row has.
-/

namespace Sys2Proof.Machine

open Sys2Proof

/-- A row that acts in every device state. -/
def State.always (s : State) (f : State → State) : State := f s.quiet

/-- R386: while the device is in RESET its logic is held in reset, and a row has no effect. -/
def State.awake (s : State) (f : State → State) : State :=
  if s.devState = stReset then s.quiet else f s.quiet

/-- R411 to R413: a row of the Scorer has no effect either while the hard-wired safe path runs. -/
def State.scorer (s : State) (f : State → State) : State :=
  s.awake fun s => if s.sco.hard then s else f s

/-- What a step does on an empty queue: a cycle of the time unit passes (R280), and the reset that an activation asked for comes when
it is due (R402; the table has no row for it, log 110). While RESET_N holds the device in RESET the
unit stands. -/
def State.idle (s : State) : State :=
  if s.devState = stReset ∧ (bitOf s.boot.cause 0 = true ∨ bitOf s.boot.cause 1 = true) then s.quiet else s.quiet.cycle.activationReset

/-- R116: holder bit `o` of descriptor `d` has been set for more than K1 + 8 consecutive ticks: it is reported,
counted and logged, and stays set. -/
def State.leaseStuck (s : State) (d : Nat) (o : Nat) : State :=
  match Tab.find (s.desc d).since o with
  | none => s
  | some n =>
    if (s.desc d).holders.getLsbD o = false ∨ (s.tick - n).toNat ≤ s.k1 + 8 then s
    else ((s.count .CMP_TLN_EVT_LEASE_STUCK).setB .CMP_INT_STATUS_LEASE_STUCK true).log 0x0405 (by2 d ++ [o])

/-- R151: 1 s after entering FAILED a transmitter trains again. -/
def State.trainRetry (s : State) (o : Nat) : State :=
  if s.get (.OUT_STATUS_STATE o) = txFailed then (s.noLock o).set (.OUT_STATUS_STATE o) txTraining else s

/-- R84: the Scorer's verdicts come past the boundary: they are discarded, and count as missing there. What such a tick does to the
comparison of R83 the spec does not say: nothing is compared in it (log 60). -/
def State.verdictLate (s : State) : State := { s with sco := { s.sco with delivered := false } }

/-- R77, R413: a sink reading completes while the Scorer cannot judge it: its transaction leaves the queue. -/
def State.auxTaken (s : State) (o : Nat) : State :=
  match (s.outp o).aux with
  | q :: _ => if q.kind = 1 then s.auxPop o else s
  | [] => s

/-- A set of a given type (R229). -/
def Trump_as (m : Trump) (type : Nat) : Trump := { m with type := type }

end Sys2Proof.Machine
end

