-- ==== Sys2Proof/Machine/RowsCommand.lean ====
section
/-!
DEFINITION. Meanings of the rows for the command channel and the host mailbox (R337 to R357).
-/

namespace Sys2Proof.Machine

open Sys2Proof

/-- COMMAND_INTAKE (R339): a command frame is taken in. -/
def execCommandIntake (n : Fin 3) (s : State) : Host.Outcome State Fault Refusal :=
  .next (s.awake fun s => s.commandIntake n)

/-- RELAY_TIMEOUT (R341): a relayed frame has waited 1 s. -/
def execRelayTimeout (s : State) : Host.Outcome State Fault Refusal :=
  .next (s.awake fun s => s.relayTimeout)

/-- SESSION_TIMEOUT (R343): a session has been silent for the image's SESSION_TIMEOUT (`Image.sessionTimeout`, in seconds). -/
def execSessionTimeout (id : Nat) (s : State) : Host.Outcome State Fault Refusal :=
  .next (s.awake fun s => s.closeSession id)

/-- PING (R345): the command PING. -/
def execPing (s : State) : Host.Outcome State Fault Refusal :=
  .next (s.awake fun s => s.cmdPing)

/-- OPEN_SESSION (R343): the command OPEN_SESSION. -/
def execOpenSession (entry : Nat) (s : State) : Host.Outcome State Fault Refusal :=
  .next (s.awake fun s => s.cmdOpen entry)

/-- CLOSE_SESSION (R343): the command CLOSE_SESSION. -/
def execCloseSession (s : State) : Host.Outcome State Fault Refusal :=
  .next (s.awake fun s => s.cmdClose)

/-- GET_STATUS (R345): the command GET_STATUS. -/
def execGetStatus (s : State) : Host.Outcome State Fault Refusal :=
  .next (s.awake fun s => s.cmdStatus)

/-- GET_TILES (R346): the command GET_TILES. -/
def execGetTiles (first count : Nat) (s : State) : Host.Outcome State Fault Refusal :=
  .next (s.awake fun s => s.cmdTiles first count)

/-- GET_TOUCH (R346): the command GET_TOUCH. -/
def execGetTouch (p : Nat) (s : State) : Host.Outcome State Fault Refusal :=
  .next (s.awake fun s => s.cmdTouch p)

/-- GET_LOG (R432): the command GET_LOG. -/
def execGetLog (s : State) : Host.Outcome State Fault Refusal :=
  .next (s.awake fun s => s.cmdLog)

/-- SELECT_LAYOUT (R347): the command SELECT_LAYOUT. -/
def execSelectLayout (layout target : Nat) (swaps : List Swap) (s : State) : Host.Outcome State Fault Refusal :=
  .next (s.awake fun s => s.cmdSelect layout target swaps)

/-- SWAP_SOURCE (R347): the command SWAP_SOURCE. -/
def execSwapSource (target : Nat) (swaps : List Swap) (s : State) : Host.Outcome State Fault Refusal :=
  .next (s.awake fun s => s.cmdSwap target swaps)

/-- WALL_LAYOUT (R348): the command WALL_LAYOUT. -/
def execWallLayout (layout target : Nat) (s : State) : Host.Outcome State Fault Refusal :=
  .next (s.awake fun s => s.cmdWall layout target)

/-- SET_GRAPHIC (R345): the command SET_GRAPHIC. -/
def execSetGraphic (o g : Nat) (ws : List Word) (s : State) : Host.Outcome State Fault Refusal :=
  .next (s.awake fun s => s.cmdGraphic o g ws)

/-- SET_USER_MARKER (R345): the command SET_USER_MARKER. -/
def execSetUserMarker (o : Nat) (entries : List Word) (addr pitch : Nat) (s : State) : Host.Outcome State Fault Refusal :=
  .next (s.awake fun s => s.cmdMarker o entries addr pitch)

/-- RESYNC (R139): the command RESYNC. -/
def execResync (s : State) : Host.Outcome State Fault Refusal :=
  .next (s.awake fun s => (s.cmdResync).settleFault)

/-- TOUCH_CTRL (R319): the command TOUCH_CTRL. -/
def execTouchCtrl (p op : Nat) (s : State) : Host.Outcome State Fault Refusal :=
  .next (s.awake fun s => s.cmdTouchCtrl p op)

/-- ENCODE_CTRL (R205): the command ENCODE_CTRL. -/
def execEncodeCtrl (e op : Nat) (s : State) : Host.Outcome State Fault Refusal :=
  .next (s.awake fun s => s.cmdEncode e op)

/-- AUDIO_MUTE (R334): the command AUDIO_MUTE. -/
def execAudioMute (p : Nat) (v : Bool) (s : State) : Host.Outcome State Fault Refusal :=
  .next (s.awake fun s => s.cmdMute p v)

/-- KEY_REQUEST (R187): the command KEY_REQUEST. -/
def execKeyRequest (c : Nat) (s : State) : Host.Outcome State Fault Refusal :=
  .next (s.awake fun s => s.cmdKeyRequest c)

/-- UPDATE_BEGIN (R402): the command UPDATE_BEGIN. -/
def execUpdateBegin (s : State) : Host.Outcome State Fault Refusal :=
  .next (s.awake fun s => s.updateCommand 0x0040 fun s h p => s.updateBegin h.session p)

/-- UPDATE_DATA (R402): the command UPDATE_DATA. -/
def execUpdateData (f : FlashIn) (s : State) : Host.Outcome State Fault Refusal :=
  .next (s.awake fun s => s.updateCommand 0x0041 fun s h p => s.updateData h.session p f)

/-- UPDATE_ACTIVATE (R403): the command UPDATE_ACTIVATE. -/
def execUpdateActivate (f : FlashIn) (s : State) : Host.Outcome State Fault Refusal :=
  .next (s.awake fun s => s.updateCommand 0x0042 fun s h p => s.updateActivate h.session p f)

/-- UPDATE_ABORT (R402): the command UPDATE_ABORT. -/
def execUpdateAbort (f : FlashIn) (s : State) : Host.Outcome State Fault Refusal :=
  .next (s.awake fun s => s.updateCommand 0x0043 fun s _ _ => s.updateAbort f)

/-- HST_MB_DOORBELL (R350): the host writes its doorbell. -/
def execHstMbDoorbell (len : BitVec 13) (t : Word) (s : State) : Host.Outcome State Fault Refusal :=
  .next (s.awake fun s => s.doorbell len.toNat t)

/-- HST_MB_RESP_WRITE (R350): the Banker posts a mailbox response. -/
def execHstMbRespWrite (code : Byte) (up : Bool) (bytes : List Byte) (s : State) : Host.Outcome State Fault Refusal :=
  .next (s.awake fun s => s.mbResp code.toNat up bytes)

/-- CMD_IN_POP (R356): CMD_IN_POP is written. -/
def execCmdInPop (s : State) : Host.Outcome State Fault Refusal :=
  .next (s.awake fun s => s.cmdPop)

/-- PERST_N (R443): PERST_N goes low. -/
def execPerstN (s : State) : Host.Outcome State Fault Refusal :=
  .next (s.awake fun s => s.perst)

/-- HST_LINK_CHANGE (R253): the host link changes. -/
def execHstLinkChange (width : Fin 4) (gen2 : Bool) (s : State) : Host.Outcome State Fault Refusal :=
  .next (s.awake fun s => s.hstLink width gen2)

/-- CHK_START (R352): CHK_CFG.START. -/
def execChkStart (u : Fin 4) (s : State) : Host.Outcome State Fault Refusal :=
  .next (s.awake fun s => s.chkStart u)

/-- CHK_CFG_WRITE (R352): CHK_CFG is written. -/
def execChkCfgWrite (u : Fin 4) (w : Word) (s : State) : Host.Outcome State Fault Refusal :=
  .next (s.awake fun s => s.chkCfg u w)

/-- CHK_DATA8 (R353): CHK_DATA8 is written. -/
def execChkData8 (u : Fin 4) (w : Word) (s : State) : Host.Outcome State Fault Refusal :=
  .next (s.awake fun s => s.chkData u 1 w)

/-- CHK_DATA16 (R353): CHK_DATA16 is written. -/
def execChkData16 (u : Fin 4) (w : Word) (s : State) : Host.Outcome State Fault Refusal :=
  .next (s.awake fun s => s.chkData u 2 w)

/-- CHK_DATA32 (R353): CHK_DATA32 is written. -/
def execChkData32 (u : Fin 4) (w : Word) (s : State) : Host.Outcome State Fault Refusal :=
  .next (s.awake fun s => s.chkData u 4 w)

end Sys2Proof.Machine
end

