-- ==== Sys2Proof/Machine/RowsDeal.lean ====
section
/-!
DEFINITION. Meanings of the rows for the tick, the deal, and commits (R20 to R35, R113 to R143).
-/

namespace Sys2Proof.Machine

open Sys2Proof

/-- TICK_LOCK_TIMEOUT (R25): the lock timeout of the tick reference runs out. -/
def execTickLockTimeout (s : State) : Host.Outcome State Fault Refusal :=
  .next (s.awake fun s => s.lockTimeout)

/-- TICK_BOUNDARY (R28): a tick boundary. -/
def execTickBoundary (b : BoundaryIn) (s : State) : Host.Outcome State Fault Refusal :=
  .next (s.awake fun s => s.tickBoundary b)

/-- TICK_MISSING (R85): no boundary within 1.5 tick periods. -/
def execTickMissing (s : State) : Host.Outcome State Fault Refusal :=
  .next (s.awake fun s => s.tickMissing)

/-- LEASE_STUCK (R116): composer `o` has held descriptor `d` too long. -/
def execLeaseStuck (d : Fin 8192) (o : Fin 16) (s : State) : Host.Outcome State Fault Refusal :=
  .next (s.awake fun s => s.leaseStuck d o)

/-- TRICK_ISSUE (R28): trick `k` of the deal is issued at its offset. -/
def execTrickIssue (k : Nat) (s : State) : Host.Outcome State Fault Refusal :=
  .next (s.awake fun s => s.issueAt k)

/-- CHANGE_ADMISSION (R34): the Dealer evaluates a change. -/
def execChangeAdmission (s : State) : Host.Outcome State Fault Refusal :=
  .next (s.awake fun s => (s.changeAdmission).cmdPoll false)

/-- CMP_COMMIT_GO (R122): CMP_COMMIT.GO is written at `t`. -/
def execCmpCommitGo (t : Word) (s : State) : Host.Outcome State Fault Refusal :=
  .next (s.awake fun s => s.commitGo t)

/-- DEAL_POINT (R141): the device deal point. -/
def execDealPoint (s : State) : Host.Outcome State Fault Refusal :=
  .next (s.awake fun s => (s.dealPoint).cmdPoll false)

/-- CMP_TLN_FREE (R113): a free request by CMP_TLN_FREE. -/
def execCmpTlnFree (d : Fin 8192) (s : State) : Host.Outcome State Fault Refusal :=
  .next (s.awake fun s => s.freeRequest d)

end Sys2Proof.Machine
end

