-- ==== Sys2Proof/Machine/RowsFabric.lean ====
section
/-!
DEFINITION. Meanings of the rows for the fabric: packets, Trump sets, ports, and wall commits (R124 to R128, R213 to R255).
-/

namespace Sys2Proof.Machine

open Sys2Proof

/-- SEGMENT (R242): a SEGMENT packet arrives. -/
def execSegment (p : Fin 8) (k : RxPacket) (t : Word) (s : State) : Host.Outcome State Fault Refusal :=
  .next (s.awake fun s => s.ofKind p k 1 fun s => s.gotSegment p k t)

/-- LINE (R242): a LINE packet arrives. -/
def execLine (p : Fin 8) (k : RxPacket) (t : Word) (s : State) : Host.Outcome State Fault Refusal :=
  .next (s.awake fun s => s.ofKind p k 2 fun s => s.gotLine p k t)

/-- FRAME_START (R244): a FRAME_START packet arrives. -/
def execFrameStart (p : Fin 8) (k : RxPacket) (t : Word) (s : State) : Host.Outcome State Fault Refusal :=
  .next (s.awake fun s => s.ofKind p k 3 fun s => s.gotFrameStart p k t)

/-- FRAME_DATA (R244): a FRAME_DATA packet arrives. -/
def execFrameData (p : Fin 8) (k : RxPacket) (s : State) : Host.Outcome State Fault Refusal :=
  .next (s.awake fun s => s.ofKind p k 4 fun s => s.gotFrameData p k)

/-- FRAME_END (R244): a FRAME_END packet arrives. -/
def execFrameEnd (p : Fin 8) (k : RxPacket) (t : Word) (s : State) : Host.Outcome State Fault Refusal :=
  .next (s.awake fun s => s.ofKind p k 5 fun s => s.gotFrameEnd p k t)

/-- STREAM (R246): a STREAM packet arrives. -/
def execStream (p : Fin 8) (k : RxPacket) (s : State) : Host.Outcome State Fault Refusal :=
  .next (s.awake fun s => s.ofKind p k 6 fun s => s.gotStream p k)

/-- MESSAGE (R219): a MESSAGE packet arrives. -/
def execMessage (p : Fin 8) (k : RxPacket) (s : State) : Host.Outcome State Fault Refusal :=
  .next (s.awake fun s => s.ofKind p k 7 fun s => s.gotMessage p k)

/-- PACKET_TRANSMIT (R223): a packet boundary of a transmitter. -/
def execPacketTransmit (p : Fin 8) (d : TxDue) (s : State) : Host.Outcome State Fault Refusal :=
  .next (s.awake fun s => s.packetTransmit p d)

/-- CREDIT (R225): a credit set arrives. -/
def execCredit (p : Fin 8) (k : CreditIn) (errs : List (Nat × Nat)) (s : State) : Host.Outcome State Fault Refusal :=
  .next (s.awake fun s => ((s.laneErrors p errs).farEnd p (.fabSet p (.credit k.cls k.total.toNat) [])).when errs.isEmpty fun s =>
    s.gotCredit p k.cls k.total.toNat)

/-- CREDIT_STALL (R225): a class has waited 1 ms for credit. -/
def execCreditStall (p : Fin 8) (s : State) : Host.Outcome State Fault Refusal :=
  .next (s.awake fun s => s.creditStall p)

/-- LANE_STATUS (R250): a lane status set arrives on the lanes of a port; the report counts where one of them brings it whole. -/
def execLaneStatus (p : Fin 8) (status lane : Byte) (k : LaneCheck) (s : State) : Host.Outcome State Fault Refusal :=
  .next (s.awake fun s =>
    ((s.laneErrors p k.errs).farEnd p (.fabSet p (.laneStatus [(lane.toNat, status.toNat, k.check.toNat)]) [])).when (s.laneWhole p k.errs) fun s =>
      s.laneStatus p status lane k.check)

/-- LANE_BAD (R249): a receive lane turns bad. -/
def execLaneBad (p : Fin 8) (l : Fin 4) (errs : Nat) (unlock : Bool) (s : State) : Host.Outcome State Fault Refusal :=
  .next (s.awake fun s => (s.laneGood p l false unlock).count (.SER_LERR_ERR (32 + p) l) errs)

/-- LANE_GOOD (R249): a receive lane turns good. -/
def execLaneGood (p : Fin 8) (l : Fin 4) (s : State) : Host.Outcome State Fault Refusal :=
  .next (s.awake fun s => s.laneGood p l true false)

/-- PORT_ALIGN (R239): a port aligns. -/
def execPortAlign (p : Fin 8) (rxGood peerGood : Fin 16) (s : State) : Host.Outcome State Fault Refusal :=
  .next (s.awake fun s => s.portAlign p rxGood peerGood)

/-- PORT_DOWN (R239): a port goes DOWN. -/
def execPortDown (p : Fin 8) (s : State) : Host.Outcome State Fault Refusal :=
  .next (s.awake fun s => s.portDown p)

/-- DISCOVERY_TIMEOUT (R234): 10 s of discovery pass. -/
def execDiscoveryTimeout (s : State) : Host.Outcome State Fault Refusal :=
  .next (s.awake fun s => s.discTimeout)

/-- TRUMP_SET_RECEIVE (R228): the copies of a Trump set arrive. -/
def execTrumpSetReceive (p : Fin 8) (copies : List TrumpCopy) (t : Word) (s : State) : Host.Outcome State Fault Refusal :=
  .next (s.awake fun s => s.receiveTrump p copies t)

/-- FLOW_STOP (R230): a FLOW_STOP set is accepted. -/
def execFlowStop (p : Fin 8) (m : Trump) (s : State) : Host.Outcome State Fault Refusal :=
  .next (s.awake fun s => s.acceptTrump p (Trump_as m tFlowStop) s.time.now)

/-- FLOW_CUT (R251): a FLOW_CUT set is accepted. -/
def execFlowCut (p : Fin 8) (m : Trump) (s : State) : Host.Outcome State Fault Refusal :=
  .next (s.awake fun s => s.acceptTrump p (Trump_as m tFlowCut) s.time.now)

/-- FLOW_RESUME (R251): a FLOW_RESUME set is accepted. -/
def execFlowResume (p : Fin 8) (m : Trump) (s : State) : Host.Outcome State Fault Refusal :=
  .next (s.awake fun s => s.acceptTrump p (Trump_as m tFlowResume) s.time.now)

/-- PRESENCE (R247): a PRESENCE set is accepted. -/
def execPresence (p : Fin 8) (m : Trump) (s : State) : Host.Outcome State Fault Refusal :=
  .next (s.awake fun s => s.acceptTrump p (Trump_as m tPresence) s.time.now)

/-- TICK_MARK (R240): a TICK_MARK set is accepted. -/
def execTickMark (p : Fin 8) (m : Trump) (t : Word) (s : State) : Host.Outcome State Fault Refusal :=
  .next (s.awake fun s => s.acceptTrump p (Trump_as m tTickMark) t)

/-- ECHO (R234): a ECHO set is accepted. -/
def execEcho (p : Fin 8) (m : Trump) (t : Word) (s : State) : Host.Outcome State Fault Refusal :=
  .next (s.awake fun s => s.acceptTrump p (Trump_as m tEcho) t)

/-- ECHO_REPLY (R234): a ECHO_REPLY set is accepted. -/
def execEchoReply (p : Fin 8) (m : Trump) (t : Word) (s : State) : Host.Outcome State Fault Refusal :=
  .next (s.awake fun s => s.acceptTrump p (Trump_as m tEchoReply) t)

/-- IDENT_A (R235): a IDENT_A set is accepted. -/
def execIdentA (p : Fin 8) (m : Trump) (s : State) : Host.Outcome State Fault Refusal :=
  .next (s.awake fun s => s.acceptTrump p (Trump_as m tIdentA) s.time.now)

/-- IDENT_B (R235): a IDENT_B set is accepted. -/
def execIdentB (p : Fin 8) (m : Trump) (s : State) : Host.Outcome State Fault Refusal :=
  .next (s.awake fun s => s.acceptTrump p (Trump_as m tIdentB) s.time.now)

/-- IDENT_C (R235): a IDENT_C set is accepted. -/
def execIdentC (p : Fin 8) (m : Trump) (s : State) : Host.Outcome State Fault Refusal :=
  .next (s.awake fun s => s.acceptTrump p (Trump_as m tIdentC) s.time.now)

/-- CMD_FIRST (R340): a CMD_FIRST set is accepted. -/
def execCmdFirst (p : Fin 8) (m : Trump) (t : Word) (s : State) : Host.Outcome State Fault Refusal :=
  .next (s.awake fun s => s.acceptTrump p (Trump_as m tCmdFirst) t)

/-- CMD_MIDDLE (R340): a CMD_MIDDLE set is accepted. -/
def execCmdMiddle (p : Fin 8) (m : Trump) (t : Word) (s : State) : Host.Outcome State Fault Refusal :=
  .next (s.awake fun s => s.acceptTrump p (Trump_as m tCmdMiddle) t)

/-- CMD_LAST (R340): a CMD_LAST set is accepted. -/
def execCmdLast (p : Fin 8) (m : Trump) (t : Word) (s : State) : Host.Outcome State Fault Refusal :=
  .next (s.awake fun s => s.acceptTrump p (Trump_as m tCmdLast) t)

/-- CMD_ONLY (R344): a CMD_ONLY set is accepted. -/
def execCmdOnly (p : Fin 8) (m : Trump) (t : Word) (s : State) : Host.Outcome State Fault Refusal :=
  .next (s.awake fun s => s.acceptTrump p (Trump_as m tCmdOnly) t)

/-- TICK_MARK_TIMEOUT (R240): no TICK_MARK for 2 tick periods. -/
def execTickMarkTimeout (p : Fin 8) (s : State) : Host.Outcome State Fault Refusal :=
  .next (s.awake fun s => s.tickMarkTimeout p)

/-- FRAGMENT_TIMEOUT (R340): an assembly waits 10 ms. -/
def execFragmentTimeout (n : Fin 64) (s : State) : Host.Outcome State Fault Refusal :=
  .next (s.awake fun s => s.fragTimeout n)

/-- FAB_TX_GO (R230): FAB_TX_CTRL.GO is written. -/
def execFabTxGo (s : State) : Host.Outcome State Fault Refusal :=
  .next (s.awake fun s => s.fabTxGo)

/-- FAB_RX_ARG1_READ (R255): FAB_RX_ARG1 is read. -/
def execFabRxArg1Read (debug : Bool) (s : State) : Host.Outcome State Fault Refusal :=
  .next (s.awake fun s => s.busRead (if debug then 9 else 0) Reg.FAB_RX_ARG1)

/-- FAB_RT_CHECK_GO (R237): FAB_RT_CHECK.GO is written. -/
def execFabRtCheckGo (s : State) : Host.Outcome State Fault Refusal :=
  .next (s.awake fun s => s.rtCheckGo)

/-- SER_LOOP_WRITE (R217): a test loop is written. -/
def execSerLoopWrite (q : Fin 41) (v : Fin 4) (s : State) : Host.Outcome State Fault Refusal :=
  .next (s.awake fun s => s.serLoop q v)

/-- TRUMP_SET_TRANSMIT (R227): a Trump set is inserted. -/
def execTrumpSetTransmit (p : Fin 8) (t : Word) (s : State) : Host.Outcome State Fault Refusal :=
  .next (s.awake fun s => s.transmitTrump p t)

/-- CMP_WALL_GO (R124): CMP_WALL_GO is written. -/
def execCmpWallGo (s : State) : Host.Outcome State Fault Refusal :=
  .next (s.awake fun s => s.wallGo)

/-- PREPARE_SEND (R124): the coordinator sends PREPARE. -/
def execPrepareSend (s : State) : Host.Outcome State Fault Refusal :=
  .next (s.awake fun s => s.prepareSend)

/-- WALL_PREPARE (R126): the Banker takes a PREPARE. -/
def execWallPrepare (t : Word) (s : State) : Host.Outcome State Fault Refusal :=
  .next (s.awake fun s => s.gotPrepare t)

/-- WALL_VOTE (R127): the Banker takes a VOTE. -/
def execWallVote (s : State) : Host.Outcome State Fault Refusal :=
  .next (s.awake fun s => s.gotVote)

/-- DECIDE_SEND (R127): the coordinator sends DECIDE. -/
def execDecideSend (t : Word) (s : State) : Host.Outcome State Fault Refusal :=
  .next (s.awake fun s => s.decideSend t)

/-- WALL_DECIDE (R127): the Banker takes a DECIDE. -/
def execWallDecide (t : Word) (s : State) : Host.Outcome State Fault Refusal :=
  .next (s.awake fun s => s.gotDecide t)

/-- WALL_CUTOFF (R127): the cutoff of a part passes. -/
def execWallCutoff (s : State) : Host.Outcome State Fault Refusal :=
  .next (s.awake fun s => s.wallCutoff)

/-- WALL_OUTCOME (R128): the Banker takes an OUTCOME. -/
def execWallOutcome (s : State) : Host.Outcome State Fault Refusal :=
  .next (s.awake fun s => (s.gotOutcome).cmdPoll false)

end Sys2Proof.Machine
end

