-- ==== Sys2Proof/Machine/RowsInput.lean ====
section
/-!
DEFINITION. Meanings of the rows for the DisplayPort inputs (R53, R160 to R168).
-/

namespace Sys2Proof.Machine

open Sys2Proof

/-- RX_TRAINING_PATTERN_SET (R161): a source writes TRAINING_PATTERN_SET. -/
def execRxTrainingPatternSet (i : Fin 16) (pattern : Nat) (good : Bool) (link : LinkCfg) (s : State) : Host.Outcome State Fault Refusal :=
  .next (s.awake fun s => s.rxPattern i pattern good link)

/-- RX_LOCK_LOSS (R161): a receiver loses lock. -/
def execRxLockLoss (i : Fin 16) (lanes : Nat) (s : State) : Host.Outcome State Fault Refusal :=
  .next (s.awake fun s => s.rxLoss i lanes)

/-- RX_LOST_TIMEOUT (R161): no training within 500 ms of LOST. -/
def execRxLostTimeout (i : Fin 16) (s : State) : Host.Outcome State Fault Refusal :=
  .next (s.awake fun s => s.rxLostTimeout i)

/-- MSA (R162): a main stream attribute packet. -/
def execMsa (i : Fin 16) (m : MsaIn) (s : State) : Host.Outcome State Fault Refusal :=
  .next (s.awake fun s => s.rxMsa i m)

/-- NO_VIDEO_STREAM (R161): the video stream stops. -/
def execNoVideoStream (i : Fin 16) (s : State) : Host.Outcome State Fault Refusal :=
  .next (s.awake fun s => s.rxNoVideo i)

/-- RX_AUX_TRANSACTION (R160): a source accesses the receiver over AUX. -/
def execRxAuxTransaction (i : Fin 16) (r : RxAux) (s : State) : Host.Outcome State Fault Refusal :=
  .next (s.awake fun s => s.rxAux i r)

/-- INPUT_SAV (R164): start of active video of an input. -/
def execInputSav (i : Fin 16) (t : Word) (s : State) : Host.Outcome State Fault Refusal :=
  .next (s.awake fun s => s.inputSav i t)

/-- CAPTURE_COMPLETE (R166): a capture trick writes its header. -/
def execCaptureComplete (i : Fin 16) (badHeader : Bool) (t : Word) (s : State) : Host.Outcome State Fault Refusal :=
  .next (s.awake fun s => if s.staleRun .capture i then s else s.captureComplete i badHeader t)

/-- FRAME_DAMAGE (R167): damage to an input frame. -/
def execFrameDamage (i : Fin 16) (c : Damage) (s : State) : Host.Outcome State Fault Refusal :=
  .next (s.awake fun s => s.inputDamage i c)

/-- INPUT_END_OF_ACTIVE_VIDEO (R53): the last active pixel of an input frame. -/
def execInputEndOfActiveVideo (i : Fin 16) (f : Frame) (t : Word) (s : State) : Host.Outcome State Fault Refusal :=
  .next (s.awake fun s => s.inputEnd i f t)

end Sys2Proof.Machine
end

