-- ==== Sys2Proof/Machine/RowsMemory.lean ====
section
/-!
DEFINITION. Meanings of the rows for the DRAM controller (R257 to R278).
-/

namespace Sys2Proof.Machine

open Sys2Proof

/-- DRAM_READ (R271): reads that arrive together. -/
def execDramRead (rs : List MemReq) (s : State) : Host.Outcome State Fault Refusal :=
  .next (s.awake fun s => s.dramRead rs)

/-- DRAM_WRITE (R261): a write within one block. -/
def execDramWrite (w : MemWrite) (s : State) : Host.Outcome State Fault Refusal :=
  .next (s.awake fun s => s.dramWrite w)

/-- WRITE_DRAIN (R264): a write queue drains. -/
def execWriteDrain (u : Fin 8) (d : DrainIn) (s : State) : Host.Outcome State Fault Refusal :=
  .next (s.awake fun s => s.writeDrain u d.aged (d.due.map fun e => (e.1, e.2.val)))

/-- TARGETED_REFRESH (R270): a targeted refresh is issued. -/
def execTargetedRefresh (u : Fin 8) (s : State) : Host.Outcome State Fault Refusal :=
  .next (s.awake fun s => s.targetedRefresh u)

/-- REFRESH (R268): a refresh falls due. -/
def execRefresh (u : Fin 8) (r : Fin 2) (a : RefreshAct) (s : State) : Host.Outcome State Fault Refusal :=
  .next (s.awake fun s => s.refresh u r a)

/-- MR4_READ (R267): MR4 is read. -/
def execMr4Read (u : Fin 8) (r : Fin 2) (m : Mr4Out) (s : State) : Host.Outcome State Fault Refusal :=
  .next (s.awake fun s => s.mr4Read u r m)

/-- DQS_TRACK (R276): DQS drift is tracked. -/
def execDqsTrack (u : Fin 8) (drift : Int) (s : State) : Host.Outcome State Fault Refusal :=
  .next (s.awake fun s => s.dqsTrack u drift)

/-- ALERT (R274): ALERT_N falls. -/
def execAlert (u : Fin 8) (s : State) : Host.Outcome State Fault Refusal :=
  .next (s.awake fun s => (s.alert u).matrixOn)

/-- ALERT_TIMEOUT (R274): ALERT_N is low for 10 µs. -/
def execAlertTimeout (u : Fin 8) (s : State) : Host.Outcome State Fault Refusal :=
  .next (s.awake fun s => (s.alertTimeout u).matrixOn)

/-- ALERT_N_RETURN (R274): ALERT_N returns high. -/
def execAlertNReturn (u : Fin 8) (done : Bool) (s : State) : Host.Outcome State Fault Refusal :=
  .next (s.awake fun s => (s.alertReturn u done).matrixOn)

/-- TRAINING_STEP (R276): a training step ends. -/
def execTrainingStep (r : MemTrainIn) (s : State) : Host.Outcome State Fault Refusal :=
  .next (s.awake fun s => s.trainingStep (r.fails.map Fin.val) (r.results.map fun e => (e.1.val, e.2)))

/-- MEM_FREQ_GO (R277): MEM_FREQ.GO is written. -/
def execMemFreqGo (target : Fin 4) (s : State) : Host.Outcome State Fault Refusal :=
  .next (s.awake fun s => s.freqGo target)

/-- MEM_INIT_DONE (R262): initialisation is done. -/
def execMemInitDone (s : State) : Host.Outcome State Fault Refusal :=
  .next (s.awake fun s => (s.memInitDone).matrixOn)

end Sys2Proof.Machine
end

