-- ==== Sys2Proof/Machine/RowsOutput.lean ====
section
/-!
DEFINITION. Meanings of the rows for the outputs: composition, scan-out, links and the Scorer's verdicts (R74 to R84, R119 to R158, R175).
-/

namespace Sys2Proof.Machine

open Sys2Proof

/-- ACTIVE_VIDEO_END (R141): the end of active video of an output frame. -/
def execActiveVideoEnd (o : Fin 16) (s : State) : Host.Outcome State Fault Refusal :=
  .next (s.awake fun s => (s.activeEnd o).settleFault)

/-- OUTPUT_FRAME_START (R134, R136): the start of active video of an output frame, after the window of its boundary. -/
def execOutputFrameStart (o : Fin 16) (t : Word) (s : State) : Host.Outcome State Fault Refusal :=
  .next (s.awake fun s => (((s.frameStart o t).windowPassed).settleFault).cmdPoll false)

/-- SINK_CRC_READING (R77): a reading of the sink CRC completes. -/
def execSinkCrcReading (o : Fin 16) (r : Option SinkReading) (s : State) : Host.Outcome State Fault Refusal :=
  .next (s.awake fun s => (if s.sco.hard then s.auxTaken o else s.sinkCheck o r).settleFault)

/-- LINE_SIGNATURE_COMPARE (R119): the lane signatures of a line are compared. -/
def execLineSignatureCompare (o : Fin 16) (line : Nat) (fa fb : Flips) (s : State) : Host.Outcome State Fault Refusal :=
  .next (s.awake fun s => s.compareLine o line fa fb)

/-- LINE_RECOMPUTE (R119): the recompute of a line completes. -/
def execLineRecompute (o : Fin 16) (line : Nat) (fa fb : Flips) (s : State) : Host.Outcome State Fault Refusal :=
  .next (s.awake fun s => s.recomputeLine o line fa fb)

/-- LINE_SCAN (R146, R170): the mixer takes a line; the lines that local inputs have received by then stand in the line
stores. -/
def execLineScan (o : Fin 16) (i : ScanIn) (s : State) : Host.Outcome State Fault Refusal :=
  .next (s.awake fun s => (s.localLines i.lines).scanLine o i)

/-- SCAN_SIGNATURE_CHECK (R75): the Scorer checks the signatures of a frame. -/
def execScanSignatureCheck (o : Fin 16) (s : State) : Host.Outcome State Fault Refusal :=
  .next (s.scorer fun s => (s.checkSignatures o).settleFault)

/-- SCORER_VERDICT (R80): the Scorer delivers its verdicts, or is late. -/
def execScorerVerdict (inTime : Bool) (s : State) : Host.Outcome State Fault Refusal :=
  .next (s.scorer fun s => (if inTime then s.scorerVerdict else s.verdictLate).settleFault)

/-- LINE_LOCK_UPDATE (R175): a line start of the lock input. -/
def execLineLockUpdate (o : Fin 16) (eps : Int) (s : State) : Host.Outcome State Fault Refusal :=
  .next (s.awake fun s => s.lineLock o eps)

/-- SYNC_IN_PULSE (R135): an edge on SYNC_IN. -/
def execSyncInPulse (t : Word) (width : Nat) (falling : Bool) (s : State) : Host.Outcome State Fault Refusal :=
  .next (s.awake fun s => s.syncPulse t width falling)

/-- OUT_RESYNC_GO (R139): OUT_RESYNC.GO is written. -/
def execOutResyncGo (s : State) : Host.Outcome State Fault Refusal :=
  .next (s.awake fun s => (s.resyncGo).settleFault)

/-- HPD_LOW (R151): HPD is low for more than 2 ms. -/
def execHpdLow (o : Fin 16) (s : State) : Host.Outcome State Fault Refusal :=
  .next (s.awake fun s => (s.hpdLow o).settleFault)

/-- HPD_HIGH_STABLE (R151): HPD is high for 100 ms. -/
def execHpdHighStable (o : Fin 16) (s : State) : Host.Outcome State Fault Refusal :=
  .next (s.awake fun s => (s.hpdHigh o).settleFault)

/-- IRQ_HPD (R153): an HPD pulse. -/
def execIrqHpd (o : Fin 16) (us : Nat) (status : Option (List Byte)) (s : State) : Host.Outcome State Fault Refusal :=
  .next (s.awake fun s => (s.irqHpd o us status).settleFault)

/-- LINK_TRAINING (R152): link training ends. -/
def execLinkTraining (o : Fin 16) (r : TrainIn) (s : State) : Host.Outcome State Fault Refusal :=
  .next (s.awake fun s => (s.trainingEnds o r).settleFault)

/-- TRAIN_RETRY (R151): 1 s has passed in FAILED. -/
def execTrainRetry (o : Fin 16) (s : State) : Host.Outcome State Fault Refusal :=
  .next (s.awake fun s => s.trainRetry o)

/-- BANKER_RETRAIN (R151): the Banker asks for a retrain. -/
def execBankerRetrain (o : Fin 16) (s : State) : Host.Outcome State Fault Refusal :=
  .next (s.awake fun s => (s.retrain o).settleFault)

/-- OUT_AUX_GO (R154): OUT_AUX_CTRL.GO is written. -/
def execOutAuxGo (o : Fin 16) (s : State) : Host.Outcome State Fault Refusal :=
  .next (s.awake fun s => s.auxGo o)

/-- AUX_REPLY (R154): a reply on AUX. -/
def execAuxReply (o : Fin 16) (r : AuxReply) (s : State) : Host.Outcome State Fault Refusal :=
  .next (s.awake fun s => (s.auxReply o r).settleFault)

/-- AUX_TIMEOUT (R154): no reply on AUX within 400 µs. -/
def execAuxTimeout (o : Fin 16) (s : State) : Host.Outcome State Fault Refusal :=
  .next (s.awake fun s => (s.auxTimeout o).settleFault)

/-- RESTART_OUTPUT (R158): the command RESTART_OUTPUT. -/
def execRestartOutput (o : Nat) (s : State) : Host.Outcome State Fault Refusal :=
  .next (s.awake fun s => (s.cmdRestart o).settleFault)

end Sys2Proof.Machine
end

