-- ==== Sys2Proof/Machine/RowsPanel.lean ====
section
/-!
DEFINITION. Meanings of the rows for touch and audio (R298 to R336).
-/

namespace Sys2Proof.Machine

open Sys2Proof

/-- SCAN_FRAME (R308): a scan frame is acquired. -/
def execScanFrame (p : Fin 4) (d : ScanData) (s : State) : Host.Outcome State Fault Refusal :=
  .next (s.awake fun s => if s.tspHalted || s.staleRun .touchScan p then s else s.scanFrame p d)

/-- SELF_TEST (R307): a self-test completes. -/
def execSelfTest (p : Fin 4) (d : TestIn) (s : State) : Host.Outcome State Fault Refusal :=
  .next (s.awake fun s => if s.tspHalted || s.staleRun .selfTest p then s else s.selfTest p d)

/-- TEST_MISSED (R304): no self-test for 30 s. -/
def execTestMissed (p : Fin 4) (s : State) : Host.Outcome State Fault Refusal :=
  .next (s.awake fun s => s.testMissed p)

/-- COVERED_TIMEOUT (R304): nodes are locked COVERED for 60 s. -/
def execCoveredTimeout (p : Fin 4) (s : State) : Host.Outcome State Fault Refusal :=
  .next (s.awake fun s => s.coveredTimeout p)

/-- TCH_RESTART (R319): a restart of a port is asked for. -/
def execTchRestart (p : Fin 4) (s : State) : Host.Outcome State Fault Refusal :=
  .next (s.awake fun s => s.tchRestart p)

/-- TCH_RELEASE (R319): a release-all is asked for. -/
def execTchRelease (p : Fin 4) (s : State) : Host.Outcome State Fault Refusal :=
  .next (s.awake fun s => s.tchRelease p)

/-- AUDIO_FETCH (R327): an audio trick moves its block. -/
def execAudioFetch (p : Fin 8) (s : State) : Host.Outcome State Fault Refusal :=
  .next (s.awake fun s => s.audioFetch p)

/-- AUDIO_BLOCK_BOUNDARY (R330): a block boundary of an audio port. -/
def execAudioBlockBoundary (p : Fin 8) (b : AudioBound) (s : State) : Host.Outcome State Fault Refusal :=
  .next (s.awake fun s => (s.audioBoundary p b).settleFault)

/-- AUDIO_CLOCK_LOST (R331): no FS edge within 4 frame periods. -/
def execAudioClockLost (p : Fin 8) (s : State) : Host.Outcome State Fault Refusal :=
  .next (s.awake fun s => s.audioClockLost p)

/-- STOPPING_END (R333): a stopping port has sent its zeros. -/
def execStoppingEnd (p : Fin 8) (s : State) : Host.Outcome State Fault Refusal :=
  .next (s.awake fun s => s.stoppingEnd p)

/-- AUD_MUTE_WRITE (R334): MUTE is written. -/
def execAudMuteWrite (p : Fin 8) (v : Bool) (s : State) : Host.Outcome State Fault Refusal :=
  .next (s.awake fun s => s.muteWrite p v)

/-- TONE_ORDER (R335): the Scorer orders the tone on or off. -/
def execToneOrder (on : Bool) (t : Word) (s : State) : Host.Outcome State Fault Refusal :=
  .next (s.scorer fun s => (s.toneOrder on t).settleFault)

/-- FS_EDGE (R331): an FS edge of a slave port. -/
def execFsEdge (p : Fin 8) (frame : List Word) (t : Word) (s : State) : Host.Outcome State Fault Refusal :=
  .next (s.awake fun s => s.fsEdge p frame t)

end Sys2Proof.Machine
end

