-- ==== Sys2Proof/Machine/RowsPlatform.lean ====
section
/-!
DEFINITION. Meanings of the rows for the system matrix, registers, fuses, debug, the Banker's watch, SAFE and the log (R358 to R384, R410 to R432).
-/

namespace Sys2Proof.Machine

open Sys2Proof

/-- MATRIX_TRANSFER (R368): transfers on the system matrix. -/
def execMatrixTransfer (xs : List Transfer) (t : Word) (f : FlashIn) (s : State) : Host.Outcome State Fault Refusal :=
  .next (s.awake fun s => s.matrix xs t f)

/-- MTX_REMAP_WRITE (R365): MTX_REMAP is written. -/
def execMtxRemapWrite (v : Bool) (s : State) : Host.Outcome State Fault Refusal :=
  .next (s.awake fun s => s.remapWrite v)

/-- MTX_PRI_WRITE (R364): a priority word is written. -/
def execMtxPriWrite (t : Fin 9) (hi : Bool) (w : Word) (s : State) : Host.Outcome State Fault Refusal :=
  .next (s.awake fun s => s.priWrite t hi w)

/-- MPU_RGN_BASE_WRITE (R375): MPU_RGN_BASE is written. -/
def execMpuRgnBaseWrite (m : Fin 11) (r : Fin 16) (w : Word) (s : State) : Host.Outcome State Fault Refusal :=
  .next (s.awake fun s => s.rgnBaseWrite m r w)

/-- MPU_LOCK (R375): MPU_LOCK is written. -/
def execMpuLock (v : Bool) (s : State) : Host.Outcome State Fault Refusal :=
  .next (s.awake fun s => s.mpuLock v)

/-- FUS_PROG_GO (R379): FUS_PROG.GO is written. -/
def execFusProgGo (m : Fin 11) (word : Fin 64) (s : State) : Host.Outcome State Fault Refusal :=
  .next (s.awake fun s => s.fuseGo m word)

/-- FUSE_PROGRAM_DONE (R378): programming of a fuse word completes. -/
def execFuseProgramDone (s : State) : Host.Outcome State Fault Refusal :=
  .next (s.awake fun s => s.fuseNext)

/-- IDCODE (R380): the JTAG instruction IDCODE. -/
def execIdcode (s : State) : Host.Outcome State Fault Refusal :=
  .next (s.always fun s => s.jtag irIdcode idcodeValue)

/-- SAMPLE_PRELOAD (R380): the JTAG instruction SAMPLE/PRELOAD. -/
def execSamplePreload (pins shift : Nat) (s : State) : Host.Outcome State Fault Refusal :=
  .next (s.always fun s => s.samplePreload pins shift)

/-- EXTEST (R380): the JTAG instruction EXTEST. -/
def execExtest (pins shift : Nat) (s : State) : Host.Outcome State Fault Refusal :=
  .next (s.always fun s => s.extest pins shift)

/-- DBG_ACCESS (R381): the JTAG instruction DBG_ACCESS. -/
def execDbgAccess (a : BitVec 40) (d : Word) (write : Bool) (t : Word) (f : FlashIn) (s : State) : Host.Outcome State Fault Refusal :=
  .next (s.awake fun s => s.dbgAccess a.toNat d write t f)

/-- DBG_HALT (R383): the JTAG instruction DBG_HALT. -/
def execDbgHalt (p : Fin 16) (halt : Bool) (s : State) : Host.Outcome State Fault Refusal :=
  .next (s.awake fun s => s.dbgHalt p halt)

/-- DBG_UNLOCK (R382): the JTAG instruction DBG_UNLOCK. -/
def execDbgUnlock (token : List Byte) (s : State) : Host.Outcome State Fault Refusal :=
  .next (s.awake fun s => s.dbgUnlock token)

/-- UNLOCK_VERIFY (R382): the Scorer verifies an unlock token. -/
def execUnlockVerify (s : State) : Host.Outcome State Fault Refusal :=
  .next (s.scorer fun s => s.unlockVerify)

/-- DBG_STATUS (R380): the JTAG instruction DBG_STATUS. -/
def execDbgStatus (s : State) : Host.Outcome State Fault Refusal :=
  .next (s.always fun s => s.jtag irStatus (s.word Reg.FUS_DBG_STATUS).toNat)

/-- BYPASS (R380): the JTAG instruction BYPASS. -/
def execBypass (s : State) : Host.Outcome State Fault Refusal :=
  .next (s.always fun s => s.bypass)

/-- BKR_WDT_KICK (R359): the Banker watchdog is kicked. -/
def execBkrWdtKick (t : Word) (s : State) : Host.Outcome State Fault Refusal :=
  .next (s.awake fun s => s.wdtKick t)

/-- BKR_RESET_SELF (R359): BKR_RESET.SELF is written. -/
def execBkrResetSelf (f : FlashIn) (s : State) : Host.Outcome State Fault Refusal :=
  .next (s.awake fun s => s.resetSelf f)

/-- HEARTBEAT_TIMEOUT (R359): the heartbeat has not changed for 500 ms. -/
def execHeartbeatTimeout (f : FlashIn) (t : Word) (s : State) : Host.Outcome State Fault Refusal :=
  .next (s.scorer fun s => s.heartbeatTimeout f t)

/-- BANKER_WATCHDOG_TIMEOUT (R359): the Banker watchdog expires. -/
def execBankerWatchdogTimeout (f : FlashIn) (t : Word) (s : State) : Host.Outcome State Fault Refusal :=
  .next (s.awake fun s => s.wdtTimeout f t)

/-- BANKER_UP_TIMEOUT (R359): BANKER_UP has not been written for 10 s. -/
def execBankerUpTimeout (f : FlashIn) (s : State) : Host.Outcome State Fault Refusal :=
  .next (s.scorer fun s => s.bankerUpTimeout f)

/-- BANKER_RESET_RELEASE (R396): the Banker leaves its reset. -/
def execBankerResetRelease (f : FlashIn) (t : Word) (s : State) : Host.Outcome State Fault Refusal :=
  .next (s.awake fun s => s.bankerRelease f t)

/-- SAFE_ENTRY (R422): the Scorer enters SAFE. -/
def execSafeEntry (s : State) : Host.Outcome State Fault Refusal :=
  .next (s.scorer fun s => ((s.safeEntry).settleFault).cmdPoll false)

/-- TEMP_READ (R421): a reading of the die temperature. -/
def execTempRead (temp : Int) (s : State) : Host.Outcome State Fault Refusal :=
  .next (s.scorer fun s => s.tempRead temp)

/-- AUTO_RESTART (R424): RESTART_S have passed in SAFE. -/
def execAutoRestart (s : State) : Host.Outcome State Fault Refusal :=
  .next (s.scorer fun s => s.autoRestart)

/-- AUTO_RESTART_CLEAR (R424): 600 s of DEALING have passed. -/
def execAutoRestartClear (s : State) : Host.Outcome State Fault Refusal :=
  .next (s.scorer fun s => s.autoRestartClear)

/-- LOCKSTEP (R411): the Scorer's cores disagree. -/
def execLockstep (s : State) : Host.Outcome State Fault Refusal :=
  .next (s.awake fun s => (s.hardPath 1).settleFault)

/-- WATCHDOG (R412): the Scorer's watchdog expires. -/
def execWatchdog (s : State) : Host.Outcome State Fault Refusal :=
  .next (s.awake fun s => (s.hardPath 2).settleFault)

/-- SAFE_PATH_RESET (R413): the hard-wired path resets the device. -/
def execSafePathReset (s : State) : Host.Outcome State Fault Refusal :=
  .next (s.awake fun s => s.hardReset)

/-- LOG_WRITE (R428): the oldest queued record is written. -/
def execLogWrite (s : State) : Host.Outcome State Fault Refusal :=
  .next (s.scorer fun s => s.logWrite)

/-- REGISTER_WRITE (R12): a register is written. -/
def execRegisterWrite (a : BitVec 40) (w : Word) (m : Fin 11) (user : Bool) (t : Word) (f : FlashIn) (s : State) : Host.Outcome State Fault Refusal :=
  .next (s.awake fun s => s.writeReg m user a.toNat w t f)

/-- REGISTER_READ_CLEAR (R12): a register is read. -/
def execRegisterReadClear (a : BitVec 40) (m : Fin 11) (s : State) : Host.Outcome State Fault Refusal :=
  .next (s.awake fun s => s.busRead m a.toNat)

end Sys2Proof.Machine
end

