-- ==== Sys2Proof/Machine/RowsStart.lean ====
section
/-!
DEFINITION. Meanings of the rows for start, loading, resets, recovery and debug-unlock of the device (R385 to R409).
-/

namespace Sys2Proof.Machine

open Sys2Proof

/-- POWER_ON (R385, R441): power comes on; the pins are as the ramp leaves them until RESET drives them. -/
def execPowerOn (s : State) : Host.Outcome State Fault Refusal :=
  .next (s.always fun s => (s.emit (.ramp rampPins)).enterReset rstPowerOn)

/-- RESET_PIN (R385): RESET_N goes low. -/
def execResetPin (s : State) : Host.Outcome State Fault Refusal :=
  .next (s.always fun s => s.enterReset rstPin)

/-- SUPPLY_MONITOR_TRIP (R438): a rail falls below its trip level when `n` bytes of the log record in progress are written. -/
def execSupplyMonitorTrip (n : Nat) (s : State) : Host.Outcome State Fault Refusal :=
  .next (s.always fun s => s.supplyTrip n)

/-- RESET_END (R387): the device leaves RESET. -/
def execResetEnd (rcv : Bool) (f : FlashIn) (s : State) : Host.Outcome State Fault Refusal :=
  .next (s.always fun s => s.resetEnd rcv f)

/-- PART_LOAD_COMPLETE (R394): the boot ROM ends the load of the parts; `bad` lists the parts whose digest fails. -/
def execPartLoadComplete (bad : List (Fin 8)) (mem : List (Nat × Word)) (f : FlashIn) (t : Word) (s : State) : Host.Outcome State Fault Refusal :=
  .next (s.awake fun s => s.partsLoaded (bad.map Fin.val) mem f t)

/-- SCORER_IMAGE_CHECK (R395): the Scorer ends its own check of the running slot. -/
def execScorerImageCheck (f g : FlashIn) (badFw : Bool) (s : State) : Host.Outcome State Fault Refusal :=
  .next (s.scorer fun s => s.scorerCheck f g badFw)

/-- IMAGE_VALIDATION (R398): the Banker validates the image. -/
def execImageValidation (i : ImageIn) (f : FlashIn) (s : State) : Host.Outcome State Fault Refusal :=
  .next (s.awake fun s => s.imageValidation i f)

/-- MIGRATE_IMAGE (R399): the Banker migrates the image. -/
def execMigrateImage (addr : BitVec 40) (bytes : List Byte) (fields : List (Nat × Word × Word)) (f : FlashIn) (s : State) :
    Host.Outcome State Fault Refusal :=
  .next (s.awake fun s => s.migrate addr.toNat bytes fields f)

/-- DEALING_ENTRY (R400): the Dealer enters DEALING. -/
def execDealingEntry (s : State) : Host.Outcome State Fault Refusal :=
  .next (s.awake fun s => (s.dealingEntry).settleFault)

/-- ROUTE_CHECK_RESULT (R237): the Scorer's route check ends. -/
def execRouteCheckResult (f : FlashIn) (s : State) : Host.Outcome State Fault Refusal :=
  .next (s.scorer fun s => s.routeResult f)

/-- TRIAL_CONFIRM (R404): CONFIRM_S of DEALING have passed on trial. -/
def execTrialConfirm (f : FlashIn) (s : State) : Host.Outcome State Fault Refusal :=
  .next (s.awake fun s => s.trialConfirm f)

/-- TRIAL_TIMEOUT (R404): TRIAL_S have passed without DEALING. -/
def execTrialTimeout (f : FlashIn) (s : State) : Host.Outcome State Fault Refusal :=
  .next (s.awake fun s => s.trialTimeout f)

/-- BKR_DEV_RESET (R409): BKR_DEV_RESET is written. -/
def execBkrDevReset (w : Word) (priv : Bool) (s : State) : Host.Outcome State Fault Refusal :=
  .next (s.awake fun s => s.devReset (w.toNat % 65536) priv)

/-- RECOVERY_BEACON (R406): the recovery beacon. -/
def execRecoveryBeacon (s : State) : Host.Outcome State Fault Refusal :=
  .next (s.awake fun s => s.beacon)

/-- XMODEM_POLL (R406): UART0 polls for a transfer. -/
def execXmodemPoll (s : State) : Host.Outcome State Fault Refusal :=
  .next (s.awake fun s => s.xmodemPoll)

/-- TFTP_WRITE_REQUEST (R406): a TFTP write request. -/
def execTftpWriteRequest (q : TftpReq) (tsize : Option Nat) (s : State) : Host.Outcome State Fault Refusal :=
  .next (s.awake fun s => s.tftpRequest q tsize)

/-- TFTP_DATA (R406): a TFTP data packet. -/
def execTftpData (block : Nat) (data : List Byte) (s : State) : Host.Outcome State Fault Refusal :=
  .next (s.awake fun s => s.tftpData block data)

/-- XMODEM_BLOCK (R406): an XMODEM block. -/
def execXmodemBlock (block : Nat) (data : List Byte) (crc : BitVec 16) (s : State) : Host.Outcome State Fault Refusal :=
  .next (s.awake fun s => s.xmodemBlock block data crc)

/-- RECOVERY_PACKAGE_CHECK (R407): the boot ROM checks and writes a received package. -/
def execRecoveryPackageCheck (badSlot : Bool) (f : FlashIn) (s : State) : Host.Outcome State Fault Refusal :=
  .next (s.awake fun s => s.packageCheck badSlot f)

/-- RECOVERY_RESET (R408): the reset that ends a recovery download. -/
def execRecoveryReset (s : State) : Host.Outcome State Fault Refusal :=
  .next (s.awake fun s => s.recoveryReset)

end Sys2Proof.Machine
end

