-- ==== Sys2Proof/Machine/RowsStream.lean ====
section
/-!
DEFINITION. Meanings of the rows for the network ports, decode contexts and encode streams (R178 to R211, R284 to R291).
-/

namespace Sys2Proof.Machine

open Sys2Proof

/-- FRAME_RECEIVE (R290): a network port receives a frame. -/
def execFrameReceive (n : Fin 3) (f : NetFrame) (t : Word) (s : State) : Host.Outcome State Fault Refusal :=
  .next (s.awake fun s => s.frameReceive n f t)

/-- FRAME_TRANSMIT (R291): a frame boundary of a network port. -/
def execFrameTransmit (n : Fin 3) (ptp : List PtpTx) (gen : List (List Byte)) (t : Word) (s : State) : Host.Outcome State Fault Refusal :=
  .next (s.awake fun s => s.frameTransmit n ptp gen t)

/-- RTP_PACKET (R182): an RTP packet arrives. -/
def execRtpPacket (r : RtpIn) (t : Word) (s : State) : Host.Outcome State Fault Refusal :=
  .next (s.awake fun s => (s.rtpPacket r t).wakeCores)

/-- ASM_TIMEOUT (R182): ASM_TIMEOUT passes. -/
def execAsmTimeout (c : Fin 512) (s : State) : Host.Outcome State Fault Refusal :=
  .next (s.awake fun s => (s.asmTimeout c).wakeCores)

/-- SENDER_REPORT (R188): a sender report arrives. -/
def execSenderReport (c : Fin 512) (o : RtcpFrom) (r : SenderInfo) (t : Word) (s : State) : Host.Outcome State Fault Refusal :=
  .next (s.awake fun s => s.senderReport c o.ip o.ssrc r.ntp r.rtp t)

/-- BYE (R184): a BYE arrives. -/
def execBye (c : Fin 512) (o : RtcpFrom) (s : State) : Host.Outcome State Fault Refusal :=
  .next (s.awake fun s => (s.bye c o.ip o.ssrc).wakeCores)

/-- RTCP_FEEDBACK (R209): feedback for an encode stream arrives. -/
def execRtcpFeedback (e : Fin 32) (s : State) : Host.Outcome State Fault Refusal :=
  .next (s.awake fun s => s.rtcpFeedback e)

/-- RECEIVER_REPORT (R184): a receiver report is due. -/
def execReceiverReport (c : Fin 512) (s : State) : Host.Outcome State Fault Refusal :=
  .next (s.awake fun s => s.receiverReport c)

/-- PLI_REPEAT (R201): PLI_REPEAT passes. -/
def execPliRepeat (c : Fin 512) (s : State) : Host.Outcome State Fault Refusal :=
  .next (s.awake fun s => s.pliRepeat c)

/-- STALL_TIMEOUT (R185): STALL_TIMEOUT passes. -/
def execStallTimeout (c : Fin 512) (s : State) : Host.Outcome State Fault Refusal :=
  .next (s.awake fun s => (s.stall c).wakeCores)

/-- DEC_OPEN (R187): DEC_CMD with OPEN. -/
def execDecOpen (c : Fin 512) (template : List Byte) (s : State) : Host.Outcome State Fault Refusal :=
  .next (s.awake fun s => s.decOpen c template)

/-- DEC_CLOSE (R187): DEC_CMD with CLOSE. -/
def execDecClose (c : Fin 512) (s : State) : Host.Outcome State Fault Refusal :=
  .next (s.awake fun s => (s.decClose c).wakeCores)

/-- DEC_KEY_REQ (R187): DEC_CMD with KEY_REQ. -/
def execDecKeyReq (c : Fin 512) (s : State) : Host.Outcome State Fault Refusal :=
  .next (s.awake fun s => s.decKeyReq c)

/-- DECODE_COMPLETE (R192): a decode trick completes. -/
def execDecodeComplete (c : Fin 512) (r : DecodeIn) (badHeader : Bool) (t : Word) (s : State) : Host.Outcome State Fault Refusal :=
  .next (s.awake fun s => if s.deckHalted || s.staleRun .decode c then s else (s.decodeComplete c r badHeader t).wakeCores)

/-- ENC_START (R205): ENC_CMD with START. -/
def execEncStart (e : Fin 32) (s : State) : Host.Outcome State Fault Refusal :=
  .next (s.awake fun s => s.encCmd e 1)

/-- ENC_STOP (R205): ENC_CMD with STOP. -/
def execEncStop (e : Fin 32) (s : State) : Host.Outcome State Fault Refusal :=
  .next (s.awake fun s => s.encCmd e 2)

/-- ENC_KEY (R209): ENC_CMD with KEY. -/
def execEncKey (e : Fin 32) (s : State) : Host.Outcome State Fault Refusal :=
  .next (s.awake fun s => s.encCmd e 3)

/-- ENCODE_PICTURE (R208): an encode trick does its work. -/
def execEncodePicture (e : Fin 32) (r : EncodeIn) (s : State) : Host.Outcome State Fault Refusal :=
  .next (s.awake fun s => if s.staleRun .encode e then s else s.encodePicture e r)

/-- ENCODER_SENDER_REPORT (R204): a sender report of an encode stream. -/
def execEncoderSenderReport (e : Fin 32) (t : Word) (s : State) : Host.Outcome State Fault Refusal :=
  .next (s.awake fun s => s.encReport e t)

end Sys2Proof.Machine
end

