-- ==== Sys2Proof/Machine/RowsTime.lean ====
section
/-!
DEFINITION. Meanings of the rows for the time unit, triggers, pulse outputs and the PTP registers (R280 to R297, R452).
-/

namespace Sys2Proof.Machine

open Sys2Proof

/-- WRAP (R282): the nanosecond value wraps. -/
def execWrap (t : Fin 3) (s : State) : Host.Outcome State Fault Refusal :=
  .next (s.awake fun s => s.wrap t)

/-- TIM_INCR_WRITE (R281): TIM_INCR is written. -/
def execTimIncrWrite (w : Word) (s : State) : Host.Outcome State Fault Refusal :=
  .next (s.awake fun s => s.incrWrite w)

/-- TIM_EPOCH_WRITE (R282): TIM_EPOCH is written. -/
def execTimEpochWrite (w : Word) (wrap : Bool) (s : State) : Host.Outcome State Fault Refusal :=
  .next (s.awake fun s => s.epochWrite w wrap)

/-- TIM_NOW_LO_READ (R283): TIM_NOW_LO is read. -/
def execTimNowLoRead (m : Fin 11) (s : State) : Host.Outcome State Fault Refusal :=
  .next (s.awake fun s => s.busRead m Reg.TIM_NOW_LO)

/-- TIM_PTP_OFF_HI_WRITE (R285): TIM_PTP_OFF_HI is written. -/
def execTimPtpOffHiWrite (w : Word) (s : State) : Host.Outcome State Fault Refusal :=
  .next (s.awake fun s => s.offHiWrite w)

/-- OFF_VALID_EXPIRY (R286): the offset has not been written for too long. -/
def execOffValidExpiry (s : State) : Host.Outcome State Fault Refusal :=
  .next (s.awake fun s => s.clearOff)

/-- TIM_SERVO_LOCKED (R286): TIM_SERVO.LOCKED is written. -/
def execTimServoLocked (v : Bool) (s : State) : Host.Outcome State Fault Refusal :=
  .next (s.awake fun s => s.servoLocked v)

/-- TIM_SERVO_INVALIDATE (R286): TIM_SERVO.INVALIDATE is written. -/
def execTimServoInvalidate (s : State) : Host.Outcome State Fault Refusal :=
  .next (s.awake fun s => s.servoInvalidate)

/-- SERVO_LOCK_EXPIRY (R286): SERVO_LOCKED expires. -/
def execServoLockExpiry (s : State) : Host.Outcome State Fault Refusal :=
  .next (s.awake fun s => s.unlockServo)

/-- TIM_GM_DOM_WRITE (R287): TIM_GM_DOM is written. -/
def execTimGmDomWrite (dom : Byte) (s : State) : Host.Outcome State Fault Refusal :=
  .next (s.awake fun s => s.gmDomWrite dom.toNat)

/-- TIM_UTC_WRITE (R452): TIM_UTC is written. -/
def execTimUtcWrite (off : BitVec 16) (s : State) : Host.Outcome State Fault Refusal :=
  .next (s.awake fun s => s.utcWrite off)

/-- TIM_TRG_START_WRITE (R294): TIM_TRG_START is written. -/
def execTimTrgStartWrite (c : Fin 64) (w : Word) (s : State) : Host.Outcome State Fault Refusal :=
  .next (s.awake fun s => s.trgStartWrite c w)

/-- TRIGGER_FIRE (R292): a trigger channel fires. -/
def execTriggerFire (c : Fin 64) (t : Word) (s : State) : Host.Outcome State Fault Refusal :=
  .next (s.awake fun s => s.triggerFire c t)

/-- PPS_PULSE (R295): a pulse output is due. -/
def execPpsPulse (k : Fin 4) (t : Word) (s : State) : Host.Outcome State Fault Refusal :=
  .next (s.awake fun s => s.ppsPulse k t)

/-- TXTS_ID_READ (R297): TIM_NP_TXTS_ID is read. -/
def execTxtsIdRead (n : Fin 3) (m : Fin 11) (s : State) : Host.Outcome State Fault Refusal :=
  .next (s.awake fun s => s.busRead m (Reg.TIM_NP_TXTS_ID n))

/-- DLR_TICK_FIRST_WRITE (R21): the Banker writes DLR_TICK_FIRST; in PTP mode the first boundary from `w` on. -/
def execDlrTickFirstWrite (w : Word) (s : State) : Host.Outcome State Fault Refusal :=
  .next (s.awake fun s => s.tickFirst w)

/-- NP_LINK_CHANGE (R297): a network port gains or loses its link. -/
def execNpLinkChange (n : Fin 3) (up : Bool) (s : State) : Host.Outcome State Fault Refusal :=
  .next (s.awake fun s => s.npLink n up)

end Sys2Proof.Machine
end

