-- ==== Sys2Proof/Machine/Dispatch.lean ====
section
/-!
DEFINITION. Dispatch: the meaning of every command, one arm per row of the opcode table.
-/

namespace Sys2Proof.Machine

open Sys2Proof

/-- The effect of a command on everything but the queue. -/
def exec (i : Instr) (s : State) : Host.Outcome State Fault Refusal :=
  match i with
  | .powerOn => Sys2Proof.Machine.execPowerOn s
  | .resetPin => Sys2Proof.Machine.execResetPin s
  | .supplyMonitorTrip n => Sys2Proof.Machine.execSupplyMonitorTrip n s
  | .resetEnd rcv f => Sys2Proof.Machine.execResetEnd rcv f s
  | .partLoadComplete bad mem f t => Sys2Proof.Machine.execPartLoadComplete bad mem f t s
  | .scorerImageCheck f g badFw => Sys2Proof.Machine.execScorerImageCheck f g badFw s
  | .imageValidation x f => Sys2Proof.Machine.execImageValidation x f s
  | .migrateImage addr bytes agree f => Sys2Proof.Machine.execMigrateImage addr bytes agree f s
  | .dealingEntry => Sys2Proof.Machine.execDealingEntry s
  | .tickLockTimeout => Sys2Proof.Machine.execTickLockTimeout s
  | .tickBoundary b => Sys2Proof.Machine.execTickBoundary b s
  | .tickMissing => Sys2Proof.Machine.execTickMissing s
  | .leaseStuck d o => Sys2Proof.Machine.execLeaseStuck d o s
  | .trickIssue k => Sys2Proof.Machine.execTrickIssue k s
  | .changeAdmission => Sys2Proof.Machine.execChangeAdmission s
  | .cmpCommitGo t => Sys2Proof.Machine.execCmpCommitGo t s
  | .dealPoint => Sys2Proof.Machine.execDealPoint s
  | .activeVideoEnd o => Sys2Proof.Machine.execActiveVideoEnd o s
  | .outputFrameStart o t => Sys2Proof.Machine.execOutputFrameStart o t s
  | .sinkCrcReading o r => Sys2Proof.Machine.execSinkCrcReading o r s
  | .lineSignatureCompare o line fa fb => Sys2Proof.Machine.execLineSignatureCompare o line fa fb s
  | .lineRecompute o line fa fb => Sys2Proof.Machine.execLineRecompute o line fa fb s
  | .lineScan o x => Sys2Proof.Machine.execLineScan o x s
  | .scanSignatureCheck o => Sys2Proof.Machine.execScanSignatureCheck o s
  | .scorerVerdict inTime => Sys2Proof.Machine.execScorerVerdict inTime s
  | .lineLockUpdate o eps => Sys2Proof.Machine.execLineLockUpdate o eps s
  | .syncInPulse t width falling => Sys2Proof.Machine.execSyncInPulse t width falling s
  | .outResyncGo => Sys2Proof.Machine.execOutResyncGo s
  | .hpdLow o => Sys2Proof.Machine.execHpdLow o s
  | .hpdHighStable o => Sys2Proof.Machine.execHpdHighStable o s
  | .irqHpd o us status => Sys2Proof.Machine.execIrqHpd o us status s
  | .linkTraining o r => Sys2Proof.Machine.execLinkTraining o r s
  | .trainRetry o => Sys2Proof.Machine.execTrainRetry o s
  | .bankerRetrain o => Sys2Proof.Machine.execBankerRetrain o s
  | .outAuxGo o => Sys2Proof.Machine.execOutAuxGo o s
  | .auxReply o r => Sys2Proof.Machine.execAuxReply o r s
  | .auxTimeout o => Sys2Proof.Machine.execAuxTimeout o s
  | .restartOutput o => Sys2Proof.Machine.execRestartOutput o s
  | .rxTrainingPatternSet x pattern good link => Sys2Proof.Machine.execRxTrainingPatternSet x pattern good link s
  | .rxLockLoss x lanes => Sys2Proof.Machine.execRxLockLoss x lanes s
  | .rxLostTimeout x => Sys2Proof.Machine.execRxLostTimeout x s
  | .msa x m => Sys2Proof.Machine.execMsa x m s
  | .noVideoStream x => Sys2Proof.Machine.execNoVideoStream x s
  | .rxAuxTransaction x r => Sys2Proof.Machine.execRxAuxTransaction x r s
  | .inputSav x t => Sys2Proof.Machine.execInputSav x t s
  | .captureComplete x badHeader t => Sys2Proof.Machine.execCaptureComplete x badHeader t s
  | .frameDamage x c => Sys2Proof.Machine.execFrameDamage x c s
  | .frameReceive n f t => Sys2Proof.Machine.execFrameReceive n f t s
  | .frameTransmit n ptp gen t => Sys2Proof.Machine.execFrameTransmit n ptp gen t s
  | .rtpPacket r t => Sys2Proof.Machine.execRtpPacket r t s
  | .asmTimeout c => Sys2Proof.Machine.execAsmTimeout c s
  | .senderReport c o r t => Sys2Proof.Machine.execSenderReport c o r t s
  | .bye c o => Sys2Proof.Machine.execBye c o s
  | .rtcpFeedback e => Sys2Proof.Machine.execRtcpFeedback e s
  | .receiverReport c => Sys2Proof.Machine.execReceiverReport c s
  | .pliRepeat c => Sys2Proof.Machine.execPliRepeat c s
  | .stallTimeout c => Sys2Proof.Machine.execStallTimeout c s
  | .decOpen c template => Sys2Proof.Machine.execDecOpen c template s
  | .decClose c => Sys2Proof.Machine.execDecClose c s
  | .decKeyReq c => Sys2Proof.Machine.execDecKeyReq c s
  | .decodeComplete c r badHeader t => Sys2Proof.Machine.execDecodeComplete c r badHeader t s
  | .encStart e => Sys2Proof.Machine.execEncStart e s
  | .encStop e => Sys2Proof.Machine.execEncStop e s
  | .encKey e => Sys2Proof.Machine.execEncKey e s
  | .encodePicture e r => Sys2Proof.Machine.execEncodePicture e r s
  | .encoderSenderReport e t => Sys2Proof.Machine.execEncoderSenderReport e t s
  | .segment p k t => Sys2Proof.Machine.execSegment p k t s
  | .line p k t => Sys2Proof.Machine.execLine p k t s
  | .frameStart p k t => Sys2Proof.Machine.execFrameStart p k t s
  | .frameData p k => Sys2Proof.Machine.execFrameData p k s
  | .frameEnd p k t => Sys2Proof.Machine.execFrameEnd p k t s
  | .stream p k => Sys2Proof.Machine.execStream p k s
  | .message p k => Sys2Proof.Machine.execMessage p k s
  | .packetTransmit p d => Sys2Proof.Machine.execPacketTransmit p d s
  | .credit p k errs => Sys2Proof.Machine.execCredit p k errs s
  | .creditStall p => Sys2Proof.Machine.execCreditStall p s
  | .laneStatus p status lane k => Sys2Proof.Machine.execLaneStatus p status lane k s
  | .laneBad p l errs unlock => Sys2Proof.Machine.execLaneBad p l errs unlock s
  | .laneGood p l => Sys2Proof.Machine.execLaneGood p l s
  | .portAlign p rxGood peerGood => Sys2Proof.Machine.execPortAlign p rxGood peerGood s
  | .portDown p => Sys2Proof.Machine.execPortDown p s
  | .discoveryTimeout => Sys2Proof.Machine.execDiscoveryTimeout s
  | .trumpSetReceive p copies t => Sys2Proof.Machine.execTrumpSetReceive p copies t s
  | .flowStop p m => Sys2Proof.Machine.execFlowStop p m s
  | .flowCut p m => Sys2Proof.Machine.execFlowCut p m s
  | .flowResume p m => Sys2Proof.Machine.execFlowResume p m s
  | .presence p m => Sys2Proof.Machine.execPresence p m s
  | .tickMark p m t => Sys2Proof.Machine.execTickMark p m t s
  | .tickMarkTimeout p => Sys2Proof.Machine.execTickMarkTimeout p s
  | .echo p m t => Sys2Proof.Machine.execEcho p m t s
  | .echoReply p m t => Sys2Proof.Machine.execEchoReply p m t s
  | .identA p m => Sys2Proof.Machine.execIdentA p m s
  | .identB p m => Sys2Proof.Machine.execIdentB p m s
  | .identC p m => Sys2Proof.Machine.execIdentC p m s
  | .cmdFirst p m t => Sys2Proof.Machine.execCmdFirst p m t s
  | .cmdMiddle p m t => Sys2Proof.Machine.execCmdMiddle p m t s
  | .cmdLast p m t => Sys2Proof.Machine.execCmdLast p m t s
  | .cmdOnly p m t => Sys2Proof.Machine.execCmdOnly p m t s
  | .fragmentTimeout n => Sys2Proof.Machine.execFragmentTimeout n s
  | .fabTxGo => Sys2Proof.Machine.execFabTxGo s
  | .fabRxArg1Read debug => Sys2Proof.Machine.execFabRxArg1Read debug s
  | .fabRtCheckGo => Sys2Proof.Machine.execFabRtCheckGo s
  | .routeCheckResult f => Sys2Proof.Machine.execRouteCheckResult f s
  | .serLoopWrite q v => Sys2Proof.Machine.execSerLoopWrite q v s
  | .cmpWallGo => Sys2Proof.Machine.execCmpWallGo s
  | .prepareSend => Sys2Proof.Machine.execPrepareSend s
  | .wallPrepare t => Sys2Proof.Machine.execWallPrepare t s
  | .wallVote => Sys2Proof.Machine.execWallVote s
  | .decideSend t => Sys2Proof.Machine.execDecideSend t s
  | .wallDecide t => Sys2Proof.Machine.execWallDecide t s
  | .wallCutoff => Sys2Proof.Machine.execWallCutoff s
  | .wallOutcome => Sys2Proof.Machine.execWallOutcome s
  | .cmpTlnFree d => Sys2Proof.Machine.execCmpTlnFree d s
  | .dramRead rs => Sys2Proof.Machine.execDramRead rs s
  | .dramWrite w => Sys2Proof.Machine.execDramWrite w s
  | .writeDrain u d => Sys2Proof.Machine.execWriteDrain u d s
  | .targetedRefresh u => Sys2Proof.Machine.execTargetedRefresh u s
  | .refresh u r a => Sys2Proof.Machine.execRefresh u r a s
  | .mr4Read u r m => Sys2Proof.Machine.execMr4Read u r m s
  | .dqsTrack u drift => Sys2Proof.Machine.execDqsTrack u drift s
  | .alert u => Sys2Proof.Machine.execAlert u s
  | .alertTimeout u => Sys2Proof.Machine.execAlertTimeout u s
  | .trainingStep r => Sys2Proof.Machine.execTrainingStep r s
  | .memFreqGo target => Sys2Proof.Machine.execMemFreqGo target s
  | .memInitDone => Sys2Proof.Machine.execMemInitDone s
  | .wrap t => Sys2Proof.Machine.execWrap t s
  | .timIncrWrite w => Sys2Proof.Machine.execTimIncrWrite w s
  | .timEpochWrite w wrap => Sys2Proof.Machine.execTimEpochWrite w wrap s
  | .timNowLoRead m => Sys2Proof.Machine.execTimNowLoRead m s
  | .timPtpOffHiWrite w => Sys2Proof.Machine.execTimPtpOffHiWrite w s
  | .offValidExpiry => Sys2Proof.Machine.execOffValidExpiry s
  | .timServoLocked v => Sys2Proof.Machine.execTimServoLocked v s
  | .timServoInvalidate => Sys2Proof.Machine.execTimServoInvalidate s
  | .servoLockExpiry => Sys2Proof.Machine.execServoLockExpiry s
  | .timGmDomWrite dom => Sys2Proof.Machine.execTimGmDomWrite dom s
  | .timUtcWrite off => Sys2Proof.Machine.execTimUtcWrite off s
  | .timTrgStartWrite c w => Sys2Proof.Machine.execTimTrgStartWrite c w s
  | .triggerFire c t => Sys2Proof.Machine.execTriggerFire c t s
  | .ppsPulse k t => Sys2Proof.Machine.execPpsPulse k t s
  | .txtsIdRead n m => Sys2Proof.Machine.execTxtsIdRead n m s
  | .dlrTickFirstWrite w => Sys2Proof.Machine.execDlrTickFirstWrite w s
  | .scanFrame p d => Sys2Proof.Machine.execScanFrame p d s
  | .selfTest p d => Sys2Proof.Machine.execSelfTest p d s
  | .testMissed p => Sys2Proof.Machine.execTestMissed p s
  | .coveredTimeout p => Sys2Proof.Machine.execCoveredTimeout p s
  | .tchRestart p => Sys2Proof.Machine.execTchRestart p s
  | .tchRelease p => Sys2Proof.Machine.execTchRelease p s
  | .audioFetch p => Sys2Proof.Machine.execAudioFetch p s
  | .audioBlockBoundary p b => Sys2Proof.Machine.execAudioBlockBoundary p b s
  | .audioClockLost p => Sys2Proof.Machine.execAudioClockLost p s
  | .stoppingEnd p => Sys2Proof.Machine.execStoppingEnd p s
  | .audMuteWrite p v => Sys2Proof.Machine.execAudMuteWrite p v s
  | .toneOrder on t => Sys2Proof.Machine.execToneOrder on t s
  | .commandIntake n => Sys2Proof.Machine.execCommandIntake n s
  | .relayTimeout => Sys2Proof.Machine.execRelayTimeout s
  | .sessionTimeout id => Sys2Proof.Machine.execSessionTimeout id s
  | .ping => Sys2Proof.Machine.execPing s
  | .openSession entry => Sys2Proof.Machine.execOpenSession entry s
  | .closeSession => Sys2Proof.Machine.execCloseSession s
  | .getStatus => Sys2Proof.Machine.execGetStatus s
  | .getTiles first count => Sys2Proof.Machine.execGetTiles first count s
  | .getTouch p => Sys2Proof.Machine.execGetTouch p s
  | .getLog => Sys2Proof.Machine.execGetLog s
  | .selectLayout layout target swaps => Sys2Proof.Machine.execSelectLayout layout target swaps s
  | .swapSource target swaps => Sys2Proof.Machine.execSwapSource target swaps s
  | .wallLayout layout target => Sys2Proof.Machine.execWallLayout layout target s
  | .setGraphic o g ws => Sys2Proof.Machine.execSetGraphic o g ws s
  | .setUserMarker o entries addr pitch => Sys2Proof.Machine.execSetUserMarker o entries addr pitch s
  | .resync => Sys2Proof.Machine.execResync s
  | .touchCtrl p op => Sys2Proof.Machine.execTouchCtrl p op s
  | .encodeCtrl e op => Sys2Proof.Machine.execEncodeCtrl e op s
  | .audioMute p v => Sys2Proof.Machine.execAudioMute p v s
  | .keyRequest c => Sys2Proof.Machine.execKeyRequest c s
  | .updateBegin => Sys2Proof.Machine.execUpdateBegin s
  | .updateData f => Sys2Proof.Machine.execUpdateData f s
  | .updateActivate f => Sys2Proof.Machine.execUpdateActivate f s
  | .updateAbort f => Sys2Proof.Machine.execUpdateAbort f s
  | .hstMbDoorbell len t => Sys2Proof.Machine.execHstMbDoorbell len t s
  | .hstMbRespWrite code up bytes => Sys2Proof.Machine.execHstMbRespWrite code up bytes s
  | .cmdInPop => Sys2Proof.Machine.execCmdInPop s
  | .perstN => Sys2Proof.Machine.execPerstN s
  | .chkStart u => Sys2Proof.Machine.execChkStart u s
  | .chkCfgWrite u w => Sys2Proof.Machine.execChkCfgWrite u w s
  | .chkData8 u w => Sys2Proof.Machine.execChkData8 u w s
  | .chkData16 u w => Sys2Proof.Machine.execChkData16 u w s
  | .chkData32 u w => Sys2Proof.Machine.execChkData32 u w s
  | .matrixTransfer xs t f => Sys2Proof.Machine.execMatrixTransfer xs t f s
  | .mtxRemapWrite v => Sys2Proof.Machine.execMtxRemapWrite v s
  | .mtxPriWrite t hi w => Sys2Proof.Machine.execMtxPriWrite t hi w s
  | .mpuRgnBaseWrite m r w => Sys2Proof.Machine.execMpuRgnBaseWrite m r w s
  | .mpuLock v => Sys2Proof.Machine.execMpuLock v s
  | .fusProgGo m word => Sys2Proof.Machine.execFusProgGo m word s
  | .fuseProgramDone => Sys2Proof.Machine.execFuseProgramDone s
  | .idcode => Sys2Proof.Machine.execIdcode s
  | .samplePreload pins shift => Sys2Proof.Machine.execSamplePreload pins shift s
  | .extest pins shift => Sys2Proof.Machine.execExtest pins shift s
  | .dbgAccess a d write t f => Sys2Proof.Machine.execDbgAccess a d write t f s
  | .dbgHalt p halt => Sys2Proof.Machine.execDbgHalt p halt s
  | .dbgUnlock token => Sys2Proof.Machine.execDbgUnlock token s
  | .unlockVerify => Sys2Proof.Machine.execUnlockVerify s
  | .dbgStatus => Sys2Proof.Machine.execDbgStatus s
  | .bypass => Sys2Proof.Machine.execBypass s
  | .bkrWdtKick t => Sys2Proof.Machine.execBkrWdtKick t s
  | .bkrResetSelf f => Sys2Proof.Machine.execBkrResetSelf f s
  | .heartbeatTimeout f t => Sys2Proof.Machine.execHeartbeatTimeout f t s
  | .bankerWatchdogTimeout f t => Sys2Proof.Machine.execBankerWatchdogTimeout f t s
  | .bankerUpTimeout f => Sys2Proof.Machine.execBankerUpTimeout f s
  | .bankerResetRelease f t => Sys2Proof.Machine.execBankerResetRelease f t s
  | .bkrDevReset w priv => Sys2Proof.Machine.execBkrDevReset w priv s
  | .trialConfirm f => Sys2Proof.Machine.execTrialConfirm f s
  | .trialTimeout f => Sys2Proof.Machine.execTrialTimeout f s
  | .recoveryBeacon => Sys2Proof.Machine.execRecoveryBeacon s
  | .xmodemPoll => Sys2Proof.Machine.execXmodemPoll s
  | .tftpWriteRequest q tsize => Sys2Proof.Machine.execTftpWriteRequest q tsize s
  | .tftpData block data => Sys2Proof.Machine.execTftpData block data s
  | .xmodemBlock block data crc => Sys2Proof.Machine.execXmodemBlock block data crc s
  | .recoveryPackageCheck badSlot f => Sys2Proof.Machine.execRecoveryPackageCheck badSlot f s
  | .recoveryReset => Sys2Proof.Machine.execRecoveryReset s
  | .safeEntry => Sys2Proof.Machine.execSafeEntry s
  | .tempRead temp => Sys2Proof.Machine.execTempRead temp s
  | .autoRestart => Sys2Proof.Machine.execAutoRestart s
  | .autoRestartClear => Sys2Proof.Machine.execAutoRestartClear s
  | .lockstep => Sys2Proof.Machine.execLockstep s
  | .watchdog => Sys2Proof.Machine.execWatchdog s
  | .safePathReset => Sys2Proof.Machine.execSafePathReset s
  | .logWrite => Sys2Proof.Machine.execLogWrite s
  | .registerWrite a w m user t f => Sys2Proof.Machine.execRegisterWrite a w m user t f s
  | .registerReadClear a m => Sys2Proof.Machine.execRegisterReadClear a m s
  | .trumpSetTransmit p t => Sys2Proof.Machine.execTrumpSetTransmit p t s
  | .alertNReturn u done => Sys2Proof.Machine.execAlertNReturn u done s
  | .fsEdge p frame t => Sys2Proof.Machine.execFsEdge p frame t s
  | .inputEndOfActiveVideo x f t => Sys2Proof.Machine.execInputEndOfActiveVideo x f t s
  | .hstLinkChange width gen2 => Sys2Proof.Machine.execHstLinkChange width gen2 s
  | .npLinkChange n up => Sys2Proof.Machine.execNpLinkChange n up s

end Sys2Proof.Machine
end

