-- ==== Sys2Proof/Safety.lean ====
section
/-!
DEFINITION. What counts as a well-held state and a safe step, in the terms that statements use.
-/

namespace Sys2Proof.Machine

open Sys2Proof

/-- Registers and memories stand in their canonical form: equal contents are equal data. -/
def State.canonical (s : State) : Bool :=
  Tab.wf regReset s.regs && Memory.wf Config.dramFill s.dram && Memory.wf 0 s.mram && Memory.wf flashFill s.flash
    && Memory.wf 0 s.plat.sram && Memory.wf 0 s.plat.mbox && Memory.wf 0 s.cmd.req && Memory.wf 0 s.cmd.resp

/-- A step that goes on: neither a fault nor a refusal. -/
def State.goesOn (s : State) : Prop := ∃ t, step s = .next t

/-- The rows that act while the device is in RESET: its reset causes and end, and the JTAG instructions that reach no
other logic. -/
def actsInReset (i : Instr) : Bool :=
  match i with
  | .powerOn => true
  | .resetPin => true
  | .supplyMonitorTrip _ => true
  | .resetEnd _ _ => true
  | .idcode => true
  | .samplePreload _ _ => true
  | .extest _ _ => true
  | .dbgStatus => true
  | .bypass => true
  | _ => false

/-- The rows that the Scorer's cores carry out (R413: silent while the hard-wired path runs). -/
def scorerRow (i : Instr) : Bool :=
  match i with
  | .scanSignatureCheck _ => true
  | .scorerVerdict _ => true
  | .toneOrder _ _ => true
  | .unlockVerify => true
  | .heartbeatTimeout _ _ => true
  | .bankerUpTimeout _ => true
  | .safeEntry => true
  | .tempRead _ => true
  | .autoRestart => true
  | .autoRestartClear => true
  | .logWrite => true
  | .scorerImageCheck _ _ _ => true
  | .routeCheckResult _ => true
  | _ => false

/-- The rows that may change external memory, the log store, the flash or the fuse cells: captures, decoded pictures and frames
that arrive, transfers, the log, updates, the start and recovery, and every row that may reset the device. -/
def touchesMemory (i : Instr) : Bool :=
  match i with
  | .updateData _ => true
  | .updateActivate _ => true
  | .updateAbort _ => true
  | .frameData _ _ => true
  | .frameEnd _ _ _ => true
  | .captureComplete _ _ _ => true
  | .inputEndOfActiveVideo _ _ _ => true
  | .dramWrite _ => true
  | .writeDrain _ _ => true
  | .alertNReturn _ _ => true
  | .alert _ => true
  | .alertTimeout _ => true
  | .memInitDone => true
  | .activeVideoEnd _ => true
  | .lineScan _ _ => true
  | .audioFetch _ => true
  | .matrixTransfer _ _ _ => true
  | .fuseProgramDone => true
  | .dbgAccess _ _ _ _ _ => true
  | .bkrResetSelf _ => true
  | .heartbeatTimeout _ _ => true
  | .bankerWatchdogTimeout _ _ => true
  | .bankerUpTimeout _ => true
  | .autoRestart => true
  | .autoRestartClear => true
  | .lockstep => true
  | .watchdog => true
  | .safePathReset => true
  | .logWrite => true
  | .registerWrite _ _ _ _ _ _ => true
  | .powerOn => true
  | .resetPin => true
  | .supplyMonitorTrip _ => true
  | .resetEnd _ _ => true
  | .partLoadComplete _ _ _ _ => true
  | .scorerImageCheck _ _ _ => true
  | .imageValidation _ _ => true
  | .migrateImage _ _ _ _ => true
  | .routeCheckResult _ => true
  | .trialConfirm _ => true
  | .trialTimeout _ => true
  | .bkrDevReset _ _ => true
  | .tftpData _ _ => true
  | .xmodemBlock _ _ _ => true
  | .recoveryPackageCheck _ _ => true
  | .recoveryReset => true
  | .decodeComplete _ _ _ _ => true
  | .tickBoundary _ => true
  | _ => false

/-- The device is in RESET, and no waiting command acts there. -/
def State.heldInReset (s : State) : Prop := s.devState = stReset ∧ ∀ c ∈ s.pending, actsInReset c = false

/-! ### Words for statements -/

/-- The command's own effect: it answers a next state, and that state satisfies `P`. -/
def Gives (i : Instr) (s : State) (P : State → Prop) : Prop := ∃ t, exec i s = .next t ∧ P t

/-- The device is out of RESET. -/
abbrev State.up (s : State) : Prop := s.devState ≠ stReset

/-- The device is out of RESET and the hard-wired safe path does not run: the Scorer works. -/
abbrev State.scoring (s : State) : Prop := s.up ∧ s.sco.hard = false

/-- The parts of the state beside its registers, what it sends out, and its queue of commands. -/
inductive Part where
  | pend | pendLayout | tiles | descs | dealer | outs | slots | caps | image | time | sco | logs | mram | fab | wall | boot
  | plat | flash | ctxs | encs | nets | dram | mem | touch | audio | cmd | anomalies | freeCtr
  deriving DecidableEq, Repr

/-- A part holds the same in two states. -/
def Part.Same (p : Part) (s t : State) : Prop :=
  match p with
  | .pend => t.pend = s.pend
  | .pendLayout => t.pendLayout = s.pendLayout
  | .tiles => t.tiles = s.tiles
  | .descs => t.descs = s.descs
  | .dealer => t.dealer = s.dealer
  | .outs => t.outs = s.outs
  | .slots => t.slots = s.slots
  | .caps => t.caps = s.caps
  | .image => t.image = s.image
  | .time => t.time = s.time
  | .sco => t.sco = s.sco
  | .logs => t.logs = s.logs
  | .mram => t.mram = s.mram
  | .fab => t.fab = s.fab
  | .wall => t.wall = s.wall
  | .boot => t.boot = s.boot
  | .plat => t.plat = s.plat
  | .flash => t.flash = s.flash
  | .ctxs => t.ctxs = s.ctxs
  | .encs => t.encs = s.encs
  | .nets => t.nets = s.nets
  | .dram => t.dram = s.dram
  | .mem => t.mem = s.mem
  | .touch => t.touch = s.touch
  | .audio => t.audio = s.audio
  | .cmd => t.cmd = s.cmd
  | .anomalies => t.anomalies = s.anomalies
  | .freeCtr => t.freeCtr = s.freeCtr

/-- The frame of a command: every part but those named, every register but those at addresses in `W`, and the queue of
commands hold the same. -/
def Keeps (ps : List Part) (W : Nat → Prop) (s t : State) : Prop :=
  t.pending = s.pending ∧ (∀ p, p ∉ ps → p.Same s t) ∧ ∀ a, ¬ W a → t.word a = s.word a

/-- The registers at the addresses listed. -/
abbrev only (as : List Nat) (a : Nat) : Prop := a ∈ as

/-- Has port `p` no test loop (R217), so that what it sends goes onto its pads alone? -/
def State.driven (s : State) (p : Nat) : Bool := s.get (.SER_QCTRL_LOOP (32 + p)) == 0

/-- Every register. -/
abbrev anyReg (_ : Nat) : Prop := True

/-- The stored memories and the fuse cells hold the same: external memory, the log store, both flash slots, every fuse. -/
def MemoryFrame (s t : State) : Prop :=
  t.pending = s.pending ∧ t.dram = s.dram ∧ t.mram = s.mram ∧ t.flash = s.flash ∧ t.plat.fuses = s.plat.fuses
    ∧ t.plat.fusesB = s.plat.fusesB

/-- The fuse registers of the FUS block (R384), which a reset senses. -/
def fuseReg (a : Nat) : Bool := a / 0x10000 == 0x1002

/-- The state after a device reset with cause `cause` (R376, R385, R386): RESET, the cause recorded, FAULT_N low, the lifecycle as the
fuse cells stand, a nonce drawn, and everything else but the fuses, the flash, the log store and the cause registers at its reset
value. -/
def ResetBy (cause : Nat) (s t : State) : Prop :=
  t.devState = stReset ∧ bitOf t.boot.cause cause = true ∧ (t.word Reg.BKR_RST_CAUSE).getLsbD cause = true
    ∧ t.on .SCO_STATUS_FAULT_N_LOW = true ∧ t.flash = s.flash ∧ t.pending = s.pending
    ∧ (s.plat.prog = none → t.plat = { PlatSt.init with fuses := s.plat.fuses, fusesB := s.plat.fusesB, nonce := t.plat.nonce })
    ∧ t.lifecycle = lifecycleOf ((t.cell 0).toNat % 8)
    ∧ (∀ p, p ∉ [.flash, .mram, .plat, .boot, .freeCtr] → Part.Same p State.reset t)
    ∧ ∀ a, a ∉ [Reg.BKR_RST_CAUSE, Reg.SCO_FAULTN, Reg.SCO_STATUS] → fuseReg a = false → t.word a = regReset a

/-- The state after a Banker reset with a cause of BKR_STATUS (R18, R359), outside a trial: the cores stop, REMAP and Banker SRAM
clear, sessions and commands end, the mailbox reads BUSY, its frames at the network ports are gone, and nothing else changes. -/
def BankerReset (cause : Nat) (s t : State) : Prop :=
  t.get .BKR_STATUS_RUN = 0 ∧ t.get .BKR_STATUS_CAUSE = cause
    ∧ t.get .BKR_STATUS_RESETS = satAdd (Fld.BKR_STATUS_RESETS).wid (s.get .BKR_STATUS_RESETS) 1 ∧ t.on .MTX_CTRL_REMAP = false
    ∧ t.get .HST_MB_STATUS_CODE = stBUSY ∧ t.bankerUp = false ∧ t.on .SCO_STATUS_BANKER_ABSENT = true
    ∧ t.plat = { s.plat with sram := [], hit := t.plat.hit } ∧ t.cmd = { s.cmd with sessions := [], runs := [] }
    ∧ (t.sco.queue.getLast?).map (fun r => (r.event, r.args.map BitVec.toNat))
      = some (0x0104, [cause, s.hbAge % 256, s.hbAge / 256])
    ∧ (∀ n, n < 3 → t.net n = { s.net n with txPtp := [], txGen := [] })
    ∧ Keeps [.plat, .cmd, .boot, .sco, .nets] (only [Reg.BKR_STATUS, Reg.MTX_CTRL, Reg.HST_MB_STATUS, Reg.SCO_STATUS, Reg.BKR_UPD_STATUS]) s t

/-- The registers that show FAULT_N and its causes, and the interrupt vectors (R425). -/
abbrev faultRegs : List Nat := [Reg.SCO_FAULTN, Reg.SCO_STATUS, Reg.HST_INT_STATUS]

/-- No decode trick waits for its core (R189): every one not done has taken its picture. -/
abbrev State.noDecodeWaits (s : State) : Prop :=
  ∀ r ∈ s.dealer.tricks, r.trick.cls = .decode → r.done = true ∨ r.coded.isSome = true

/-- The lane states of quad `q` (R254). -/
abbrev lstatRegs (q : Nat) : List Nat := (List.range 4).map (Reg.SER_LSTAT q)

/-- The registers in which touch port `p` shows what it does, and its ring of reports (R315, R320). -/
def touchRegs (p : Nat) : List Nat :=
  [Reg.TCH_STATUS, Reg.TCH_INT_STATUS, Reg.TCH_P_STATE p, Reg.TCH_P_NODES p, Reg.TCH_P_CNT0 p, Reg.TCH_P_CNT1 p, Reg.TCH_P_RPT p,
    Reg.HST_INT_STATUS] ++ (List.range 768).map fun k => Reg.TCH_RPT p 0 k

/-- Has the register at `a`, outside the platform's, the Scorer's and the log's blocks, no rule of its own for a write beside the types
of its fields (R12)? -/
def State.plainReg (s : State) (a : Nat) : Bool :=
  decide (0x1004 ≤ a / 0x10000) && a / 0x10000 != 0x100E && a / 0x10000 != 0x100F && !s.sessionShut a
    && !([Reg.DLR_TICK_FIRST, Reg.DEC_CMD, Reg.ENC_CMD, Reg.MEM_FREQ, Reg.TIM_INCR, Reg.TIM_EPOCH, Reg.TIM_PTP_OFF_LO, Reg.TIM_PTP_OFF_HI,
        Reg.TIM_SERVO, Reg.TIM_GM_DOM, Reg.TIM_UTC, Reg.CMD_IN_PORT, Reg.HST_MB_DOORBELL, Reg.HST_MB_RESP, Reg.CMP_COMMIT, Reg.CMP_TLN_FREE,
        Reg.CMP_WALL_GO, Reg.OUT_RESYNC, Reg.FAB_RT_CHECK, Reg.FAB_TX_CTRL, Reg.FAB_FLOW_CFG 0, Reg.FAB_FLOW_STATE 0].contains a)
    && !(decide (Reg.FAB_RT 0 ≤ a ∧ a < Reg.FAB_RT 64 ∨ Reg.FAB_BC 0 ≤ a ∧ a < Reg.FAB_BC 64))
    && !([regIdx (Reg.TIM_TRG_START 0) 16 64 a, regIdx (Reg.TIM_TRG_CFG 0) 16 64 a, regIdx (Reg.TIM_TRG_PER 0) 16 64 a,
        regIdx (Reg.TCH_P_CTRL 0) 0x100 4 a, regIdx (Reg.AUD_P_CTRL 0) 0x40 8 a, regIdx (Reg.CHK_CFG 0) 64 4 a, regIdx (Reg.CHK_DATA8 0) 64 4 a,
        regIdx (Reg.CHK_DATA16 0) 64 4 a, regIdx (Reg.CHK_DATA32 0) 64 4 a, regIdx (Reg.OUT_AUX_CTRL 0) 0x100 16 a,
        regIdx (Reg.SER_QCTRL 0) 64 41 a].any (·.isSome))

/-- A stored word after a write of `w` as the types of its fields state (R12): LK fields only while `lk` holds. -/
def wroteTyped (lk : Bool) (a : Nat) (old w : Word) : Word :=
  let take := tyMask (fun t => t == .rw || (t == .lk && lk)) a
  ((old &&& ~~~take) ||| (w &&& take)) &&& ~~~(tyMask (· == .w1c) a &&& w)

/-- The signals that a scan frame gives port `p` (R302, R308): those of its nodes with the frame's raw counts, a locked node counting
as 0. -/
def State.framePanel (s : State) (p : Nat) (d : ScanData) : Panel :=
  { d := s.drives p
    k := s.senses p
    sig := (s.tch p).nodes.mapIdx fun i n => (n.take false ((d.raw[i]?).getD 0 % 65536)).live }

/-- The registers in which audio port `p` shows what it does (R336). -/
def audioRegs (p : Nat) : List Nat :=
  [Reg.AUD_STATUS, Reg.AUD_INT_STATUS, Reg.AUD_P_STATE p, Reg.AUD_P_BLOCK p, Reg.AUD_P_CNT0 p, Reg.AUD_P_CNT1 p, Reg.AUD_P_CNT2 p]

/-- The newest event in the Scorer's log queue: its code and argument bytes. -/
def State.lastLog (s : State) : Option (Nat × List Nat) :=
  (s.sco.queue.getLast?).map fun r => (r.event, r.args.map BitVec.toNat)

/-- The AUX requests that a command sends on an output. -/
def State.auxSent (t : State) (o : Nat) : List AuxReq :=
  t.out.filterMap fun e => match e with
    | .auxSend p r => if p = o then some r else none
    | _ => none

/-- The log queue has room. -/
abbrev State.logRoom (s : State) : Prop := s.sco.queue.length < 256

/-! ### The command channel (R342 to R345) -/

/-- A frame passes every check of R344 for command `code`: the Banker handles commands, CRC, length and version are right, the
device state is listed, the class permitted, and its session is open from this origin, with another ALIVE, a newer SEQUENCE and
fewer than 4 commands queued; or SESSION is 0 for a command that needs no session. -/
def State.admits (s : State) (code : Nat) (f : InFrame) : Bool :=
  let h := frameHdr f.origin f.bytes
  let n := frameLength f.bytes
  s.bankerUp && s.devState != stReset && s.devState != stRecovery && f.crcOk && f.bytes.length == 20 + n
    && decide (n ≤ maxPayload f.origin.transport) && frameNum f.bytes 0 1 == 1 && h.command == code
    && (match commandRow code with
        | some (cls, states) => states.contains s.devState && s.classOk h cls
        | none => false)
    && (if h.session = 0 then code == 0x01 || code == 0x02 || code == 0x10
        else match s.session? h.session h.origin with
          | some x => h.alive != x.alive && h.seq != x.seq && decide (0 ≤ wordDiff (BitVec.ofNat 32 h.seq) (BitVec.ofNat 32 x.seq))
              && decide ((s.cmd.runs.filter fun r => r.hdr.session == h.session && r.stage == .queued).length < 4)
          | none => false)

/-- A frame of right CRC and length. -/
def frameSound (f : InFrame) : Bool :=
  f.crcOk && f.bytes.length == 20 + frameLength f.bytes && decide (frameLength f.bytes ≤ maxPayload f.origin.transport)

/-- The payload of a frame. -/
def framePayload (f : InFrame) : List Byte := (f.bytes.drop 16).take (frameLength f.bytes)

/-- The response with `code` and `p` goes to the origin of a frame: by UDP, or into the response buffer of the host. -/
def SentTo (o : Origin) (bs : List Byte) (code : Nat) (t : State) : Prop :=
  (o.transport = 0 → .response o bs ∈ t.out) ∧
  (o.transport = 1 → t.get .HST_MB_STATUS_CODE = code ∧ t.on .HST_MB_STATUS_READY = true ∧ readBytes 0 t.cmd.resp 0 bs.length = bs)

/-- The frame is taken from the FIFO and answered, and its session, if it names one, holds its ALIVE, SEQUENCE and response. -/
def Answered (f : InFrame) (rest : List InFrame) (code : Nat) (p : List Byte) (t : State) : Prop :=
  t.cmd.fifo = rest ∧ SentTo f.origin (responseBytes (frameHdr f.origin f.bytes) code p) code t ∧
  (0 < frameNum f.bytes 2 2 → (t.session? (frameNum f.bytes 2 2) f.origin).map (·.seq) = some (frameNum f.bytes 4 4)
    ∧ (t.session? (frameNum f.bytes 2 2) f.origin).map (·.alive) = some (frameNum f.bytes 8 1)
    ∧ (t.session? (frameNum f.bytes 2 2) f.origin).map (·.resp) = some (some (frameHdr f.origin f.bytes, code, p)))

/-- The registers that an answer may write: the mailbox, and where the fabric drops the sets of a response. -/
def answerRegs : List Nat :=
  [Reg.HST_MB_STATUS, Reg.HST_INT_STATUS, Reg.FAB_INT_STATUS] ++ (List.range 8).map fun p => (Fld.FAB_P_TRUMP_BAD p).addr

end Sys2Proof.Machine
end

