-- ==== Sys2Proof/Certificates/Slice0/Obligations.lean ====
section
/-!
DEFINITION. The statements for the provers. `Gives c s P`: the command `c` answers a next state that satisfies `P`; the
hypotheses on the left are on the state and operands alone. `Keeps ps W`: every part of the state but `ps`, every register
but those in `W`, and the queue are unchanged; what the device sends out (`out`) is the model's own record of a command
and may always change.
-/

open Sys2Proof Sys2Proof.Machine

/-- A step takes the command at the front of the queue and runs it on the state with the queue's rest. For every command c, every rest of the queue and every state s whose queue is c followed by that rest, step of s is exec of c on s with the queue's rest. The queue of commands is the model's own (log 1); the rows are those of the opcode table. Rests on: 00_scope.md R1. -/
def Obligations.StepRunsTheFrontCommand : Prop :=
  ∀ (c : Instr) (rest : List Instr) (s : State), s.pending = c :: rest → step s = exec c { s with pending := rest }

/-- On an empty queue a step is one cycle of the time unit and touches nothing else, but for the reset that an activation asked for. For every state with an empty queue, a step answers a next state. Where no activation's reset waits, the 60-bit accumulator has advanced by TIM_INCR modulo 2^60, or stands where RESET_N or the supplies hold the device in RESET; no part but the time unit and no register but TIM_EPOCH and TIM_INT_STATUS changes. Where one waits, the device is not so held and not in SAFE, and its time has come with this cycle, the step is the device reset with cause SOFTWARE, which keeps the log store. That an empty queue lets a cycle pass, and that the reset comes with it, are the model's choices (logs 5 and 110). Rests on: 09_time.md R280, 14_startup.md R402. -/
def Obligations.IdleStepIsACycleOfTheTimeUnit : Prop :=
  (∀ s : State, s.pending = [] → s.boot.resetAt = none → ∃ t, step s = .next t ∧
    (s.devState = stReset ∧ (bitOf s.boot.cause 0 = true ∨ bitOf s.boot.cause 1 = true) → t = s.quiet) ∧
    (¬ (s.devState = stReset ∧ (bitOf s.boot.cause 0 = true ∨ bitOf s.boot.cause 1 = true)) →
      (t.time.now ++ t.time.frac).toNat = ((s.time.now ++ s.time.frac).toNat + (s.word Reg.TIM_INCR).toNat) % 2 ^ 60) ∧
    Keeps [.time] (only [Reg.TIM_EPOCH, Reg.TIM_INT_STATUS]) s t) ∧
  (∀ (w : BitVec 64) (s : State), s.pending = [] → s.boot.resetAt = some w → s.up → s.devState ≠ stSafe →
    0 ≤ (s.quiet.cycle.extNow - w).toInt → ∃ t, step s = .next t ∧ ResetBy 3 s t ∧ t.mram = s.mram)

/-- While the device is in RESET every command but the reset causes, the end of RESET and JTAG access leaves it as it is. For every command that is not POWER_ON, RESET_PIN, SUPPLY_MONITOR_TRIP, RESET_END or a JTAG instruction without access to the logic, in every state in RESET the command answers the same state with nothing sent out. The spec's words are R11 and R386; that a row has no effect in RESET is the model's reading (log 6). Rests on: 00_scope.md R11, 14_startup.md R386. -/
def Obligations.ResetHoldsTheLogic : Prop :=
  ∀ (c : Instr) (s : State), actsInReset c = false → s.devState = stReset → exec c s = .next s.quiet

/-- Every step keeps a device in RESET while no waiting command acts in RESET. Let Inv be: the device state is RESET, and no command in the queue is one of those that act in RESET. From every state with Inv a step that goes on gives a state with Inv, and no command but the end of RESET leaves RESET. Rests on the model's reading of R386 (log 6). Rests on: 14_startup.md R386, 14_startup.md R387. -/
def Obligations.QueueCannotEndReset : Prop :=
  (∀ s t : State, s.heldInReset → step s = .next t → t.heldInReset) ∧
    ∀ (c : Instr) (s t : State), s.devState = stReset → (∀ rcv f, c ≠ .resetEnd rcv f) → exec c s = .next t →
      t.devState = stReset

/-- The state after power-on is in RESET, held there, in canonical form, and shows it. State.reset meets the invariant of the steps in RESET, its tables and memories stand in their canonical form, its queue is empty, its reset cause is POWER_ON, and every register holds the value that the table of registers names. So the mailbox reads BUSY, the Banker's watchdog 250, the device state RESET with cause POWER_ON, the Scorer FAULT_N low, and the Dealer does not deal and shows no tick, no change and no load. That State.reset is the state after power-on, with an empty queue and the model's own canonical form, is the model's choice (log 8); that no waiting command acts in it, the model's reading of R386 (log 6). Rests on: 14_startup.md R385, 14_startup.md R386, 01_architecture.md R38, 12_commands.md R356, 14_startup.md R409, 15_faults.md R434. -/
def Obligations.ResetStateIsHeldInReset : Prop :=
  State.reset.heldInReset ∧ State.reset.canonical = true ∧ State.reset.pending = [] ∧ bitOf State.reset.boot.cause 0 = true
    ∧ (∀ a, State.reset.word a = regReset a)
    ∧ State.reset.get .HST_MB_STATUS_CODE = 1 ∧ State.reset.on .HST_MB_STATUS_READY = false ∧ State.reset.get .BKR_WDT_TIMEOUT = 250
    ∧ State.reset.get .BKR_DEV_STATE_STATE = 1 ∧ State.reset.on .BKR_RST_CAUSE_POWER_ON = true ∧ State.reset.get .BKR_STATUS_RUN = 0
    ∧ State.reset.on .SCO_STATUS_FAULT_N_LOW = true ∧ State.reset.on .SCO_STATUS_SAFE = false
    ∧ State.reset.on .DLR_STATUS_DEALING = false ∧ State.reset.get .DLR_STATUS_PENDING = 0 ∧ State.reset.word Reg.DLR_TICK_COUNT = 0

/-- While the hard-wired safe path runs, the commands of the Scorer have no effect. For the thirteen commands that the cores of the Scorer carry out (scorerRow), in every state in which the hard-wired path runs, the command answers the same state with nothing sent out. R413 says that nothing cancels the path and that the cores write nothing on it; that the other duties rest too is the model's reading (log 6). Rests on: 15_faults.md R413. -/
def Obligations.HardSafePathSilencesTheScorer : Prop :=
  ∀ (c : Instr) (s : State), scorerRow c = true → s.sco.hard = true → exec c s = .next s.quiet

/-- All but 48 named commands leave external memory, log store, flash, fuses and queue as they are. For every command but the 48 of touchesMemory (captures, decoded pictures and frames that arrive, transfers on the matrix, held writes and transfers of a sub-channel, the log, updates, start-up and recovery, and every row that may reset the device), in every state: the command answers a next state in which every byte of external memory, of the MRAM log store and of the flash, every fuse cell and the queue of waiting commands are as before. Rests on: 08_memory.md, 14_startup.md R389, 13_platform.md R376, 15_faults.md R427. -/
def Obligations.MemoriesChangeOnlyByNamedRows : Prop :=
  ∀ (c : Instr) (s : State), touchesMemory c = false → ∃ t, exec c s = .next t ∧ MemoryFrame s t

/-- Each of seven rows that reset the device puts it in RESET, records the cause and restores reset values, and the next start logs the cause. POWER_ON, RESET_PIN, a supply monitor's trip (POWER_ON), a privileged write of BKR_DEV_RESET with its key outside SAFE (SOFTWARE), the end of a recovery download (SOFTWARE), the automatic restart from SAFE and the reset of the hard-wired path (SCORER) each answer a next state in RESET with the cause in BKR_RST_CAUSE, FAULT_N low, the flash kept, every part but flash, log store, fuses and cause at its state after power-on, every register but BKR_RST_CAUSE, SCO_FAULTN, SCO_STATUS and the sensed FUS registers at its reset value, and the lifecycle as the fuse cells stand. All but the supply trip and the restart, whose own record goes out first, keep the log store. A write of BKR_DEV_RESET without key, privilege, or in SAFE does nothing. The end of RESET that leaves the device out of it puts a DEVICE_RESET record that names the causes into the Scorer's log queue. Rests on: 14_startup.md R385, 14_startup.md R386, 13_platform.md R376, 14_startup.md R408, 14_startup.md R409, 16_electrical.md R438, 15_faults.md R413, 15_faults.md R424, 15_faults.md R431. -/
def Obligations.DeviceResetCauses : Prop :=
  (∀ s, Gives .powerOn s fun t => ResetBy 0 s t ∧ t.mram = s.mram) ∧
  (∀ s, Gives .resetPin s fun t => ResetBy 1 s t ∧ t.mram = s.mram) ∧
  (∀ n s, Gives (.supplyMonitorTrip n) s fun t => ResetBy 0 s t) ∧
  (∀ (w : Word) (s : State), s.up → s.devState ≠ stSafe → w.toNat % 65536 = 0x5120 →
    Gives (.bkrDevReset w true) s fun t => ResetBy 3 s t ∧ t.mram = s.mram) ∧
  (∀ (w : Word) (priv : Bool) (s : State), s.up → (s.devState = stSafe ∨ w.toNat % 65536 ≠ 0x5120 ∨ priv = false) →
    exec (.bkrDevReset w priv) s = .next s.quiet) ∧
  (∀ s : State, s.inRecovery = true → s.boot.recovery.resetDue = true →
    Gives .recoveryReset s fun t => ResetBy 3 s t ∧ t.mram = s.mram) ∧
  (∀ s : State, s.up → s.sco.hard = true → Gives .safePathReset s fun t => ResetBy 2 s t ∧ t.mram = s.mram) ∧
  (∀ s : State, s.scoring → s.devState = stSafe → s.get .SCO_SAFE_CFG_RESTART_S ≠ 0 → s.get .SCO_STATUS_AUTO_RESTARTS < 3 →
    (s.get .SCO_STATUS_SAFE_CAUSE ≠ 6 ∨ s.getI .SCO_TEMP_TEMP ≤ 400) → Gives .autoRestart s fun t => ResetBy 2 s t) ∧
  (∀ (rcv : Bool) (f : FlashIn) (s : State), s.devState = stReset → s.logRoom → Gives (.resetEnd rcv f) s fun t =>
    t.devState = stReset ∨ ∃ r ∈ t.sco.queue, r.event = 0x0102 ∧ r.args.head? = some (BitVec.ofNat 8 s.boot.cause))

/-- RESET ends in LOADING, HELD or RECOVERY by lifecycle, BOOT_RCV_N and the slots. In RESET with no hold cause: fuses of lifecycle BLANK give LOADING with the hold cause BLANK; RETIRED gives HELD with RETIRED; LAB or FIELD with BOOT_RCV_N low as RESET_N rises, by POWER_ON or RESET_PIN, gives RECOVERY. With it high, or high when RESET_N last rose, LAB or FIELD takes the boot pointer in force, or slot A without one and POINTER_BAD: a slot that verifies and is not on trial is started in LOADING, DRAM training begun; one on trial too, its tries counted in the pointer first; where the active slot fails and is not on trial, the other slot is started as a fallback, or without one that verifies the device is in RECOVERY; a trial of three tries, or one whose slot fails, goes back to the previous slot by the pointer and the device is reset. In each case but the last the log is ready, and dram, and the flash but for the pointer, and the platform but its nonce are unchanged. That BOOT_RCV_N is sampled with those two causes alone is the model's reading (log 109). Rests on: 14_startup.md R387, 14_startup.md R388, 13_platform.md R377, 14_startup.md R392, 14_startup.md R393, 14_startup.md R390, 15_faults.md R429. -/
def Obligations.ResetEndsByLifecycle : Prop :=
  ∀ (rcv : Bool) (f : FlashIn) (s : State), s.devState = stReset → s.boot.holds = [] → s.get .BKR_DEV_STATE_CAUSE = 0 →
    (lifecycleOf ((s.cell 0).toNat % 8) = lcBlank → Gives (.resetEnd rcv f) s fun t =>
      t.devState = stLoading ∧ t.boot.holds = [holdBlank] ∧ t.get .BKR_DEV_STATE_CAUSE = holdBlank ∧ t.on .LOG_STATUS_READY = true
        ∧ t.dram = s.dram ∧ t.flash = s.flash ∧ t.plat = { s.plat with nonce := t.plat.nonce } ∧ t.pending = s.pending) ∧
    (lifecycleOf ((s.cell 0).toNat % 8) = lcRetired → Gives (.resetEnd rcv f) s fun t =>
      t.devState = stHeld ∧ t.boot.holds = [holdRetired] ∧ t.get .BKR_DEV_STATE_CAUSE = holdRetired ∧ t.on .LOG_STATUS_READY = true
        ∧ t.dram = s.dram ∧ t.flash = s.flash ∧ t.plat = { s.plat with nonce := t.plat.nonce } ∧ t.pending = s.pending) ∧
    (lifecycleOf ((s.cell 0).toNat % 8) = lcLab ∨ lifecycleOf ((s.cell 0).toNat % 8) = lcField →
      s.boot.cause % 4 ≠ 0 →
      Gives (.resetEnd true f) s fun t => t.devState = stRecovery ∧ t.boot.recovery.rcv = true ∧ t.boot.holds = [] ∧ t.on .LOG_STATUS_READY = true
        ∧ t.dram = s.dram ∧ t.flash = s.flash ∧ t.plat = { s.plat with nonce := t.plat.nonce } ∧ t.pending = s.pending) ∧
  (∀ (rcv : Bool) (f : FlashIn) (s : State), s.devState = stReset → s.boot.holds = [] →
    (lifecycleOf ((s.cell 0).toNat % 8) = lcLab ∨ lifecycleOf ((s.cell 0).toNat % 8) = lcField) →
    ((s.boot.cause % 4 ≠ 0 ∧ rcv = false) ∨ (s.boot.cause % 4 = 0 ∧ s.boot.rcvPin = false)) → s.bootPtr.trial = false →
    s.senseFuses.verifySlot f s.bootPtr.active = 1 → Gives (.resetEnd rcv f) s fun t =>
      t.devState = stLoading ∧ t.boot.holds = [] ∧ t.runSlot = s.bootPtr.active ∧ t.slotErr s.bootPtr.active = 1 ∧ t.on .BKR_BOOT_FALLBACK = false
        ∧ t.on .BKR_BOOT_TRIAL = false ∧ t.on .BKR_BOOT_POINTER_BAD = s.pointer.isNone ∧ t.get .BKR_STATUS_RUN = 1
        ∧ t.get .MEM_STATUS_STATE = memTraining ∧ t.on .LOG_STATUS_READY = true
        ∧ t.dram = s.dram ∧ t.flash = s.flash ∧ t.plat = { s.plat with nonce := t.plat.nonce } ∧ t.pending = s.pending) ∧
  (∀ (rcv : Bool) (f : FlashIn) (c : Nat) (p : Ptr) (s : State), s.devState = stReset → s.boot.holds = [] →
    (lifecycleOf ((s.cell 0).toNat % 8) = lcLab ∨ lifecycleOf ((s.cell 0).toNat % 8) = lcField) →
    ((s.boot.cause % 4 ≠ 0 ∧ rcv = false) ∨ (s.boot.cause % 4 = 0 ∧ s.boot.rcvPin = false)) → s.pointer = some (c, p) → p.trial = true → p.tries < 3 →
    s.senseFuses.verifySlot f p.active = 1 → f.badWrites < 2 → Gives (.resetEnd rcv f) s fun t =>
      t.devState = stLoading ∧ t.runSlot = p.active ∧ t.on .BKR_BOOT_TRIAL = true ∧ t.get .BKR_BOOT_TRIES = p.tries + 1
        ∧ (t.pointer.map fun q => (q.2.active, q.2.trial, q.2.tries, q.2.previous)) = some (p.active, true, p.tries + 1, p.previous)
        ∧ t.on .LOG_STATUS_READY = true ∧ t.dram = s.dram ∧ t.plat = { s.plat with nonce := t.plat.nonce } ∧ t.pending = s.pending) ∧
  (∀ (rcv : Bool) (f : FlashIn) (s : State), s.devState = stReset → s.boot.holds = [] →
    (lifecycleOf ((s.cell 0).toNat % 8) = lcLab ∨ lifecycleOf ((s.cell 0).toNat % 8) = lcField) →
    ((s.boot.cause % 4 ≠ 0 ∧ rcv = false) ∨ (s.boot.cause % 4 = 0 ∧ s.boot.rcvPin = false)) → s.bootPtr.trial = false →
    s.senseFuses.verifySlot f s.bootPtr.active ≠ 1 → s.senseFuses.verifySlot f (1 - s.bootPtr.active) = 1 → Gives (.resetEnd rcv f) s fun t =>
      t.devState = stLoading ∧ t.runSlot = 1 - s.bootPtr.active ∧ t.on .BKR_BOOT_FALLBACK = true ∧ t.on .BKR_BOOT_TRIAL = false
        ∧ t.slotErr (1 - s.bootPtr.active) = 1 ∧ t.on .LOG_STATUS_READY = true ∧ t.dram = s.dram ∧ t.flash = s.flash ∧ t.plat = { s.plat with nonce := t.plat.nonce } ∧ t.pending = s.pending) ∧
  (∀ (rcv : Bool) (f : FlashIn) (s : State), s.devState = stReset → s.boot.holds = [] →
    (lifecycleOf ((s.cell 0).toNat % 8) = lcLab ∨ lifecycleOf ((s.cell 0).toNat % 8) = lcField) →
    ((s.boot.cause % 4 ≠ 0 ∧ rcv = false) ∨ (s.boot.cause % 4 = 0 ∧ s.boot.rcvPin = false)) → s.bootPtr.trial = false →
    s.senseFuses.verifySlot f s.bootPtr.active ≠ 1 → s.senseFuses.verifySlot f (1 - s.bootPtr.active) ≠ 1 → Gives (.resetEnd rcv f) s fun t =>
      t.devState = stRecovery ∧ t.boot.recovery.rcv = false ∧ t.slotErr s.bootPtr.active = s.senseFuses.verifySlot f s.bootPtr.active
        ∧ t.on .LOG_STATUS_READY = true ∧ t.dram = s.dram ∧ t.flash = s.flash ∧ t.plat = { s.plat with nonce := t.plat.nonce } ∧ t.pending = s.pending) ∧
  (∀ (rcv : Bool) (f : FlashIn) (c q : Nat) (p : Ptr) (s : State), s.devState = stReset → s.boot.holds = [] →
    (lifecycleOf ((s.cell 0).toNat % 8) = lcLab ∨ lifecycleOf ((s.cell 0).toNat % 8) = lcField) →
    ((s.boot.cause % 4 ≠ 0 ∧ rcv = false) ∨ (s.boot.cause % 4 = 0 ∧ s.boot.rcvPin = false)) → s.pointer = some (c, p) → p.trial = true →
    (3 ≤ p.tries ∨ s.senseFuses.verifySlot f p.active ≠ 1) → p.previous = some q → f.badWrites < 2 → Gives (.resetEnd rcv f) s fun t =>
      t.devState = stReset ∧ bitOf t.boot.cause 3 = true
        ∧ (t.pointer.map fun x => (x.2.active, x.2.trial, x.2.tries, x.2.previous)) = some (q, false, 0, none) ∧ t.pending = s.pending)

/-- Loading the parts starts the firmware; the Scorer's own check passes or holds the device. With the boot ROM or firmware at work and the parts not yet loaded, a load in which every part's digest passes marks the parts loaded, holds parts 2 to 6 in their own memories, sets RUN of all four cores and REMAP and takes the event's time. In LOADING or HELD with a result of the boot ROM for the running slot, a Scorer check that verifies it and its own firmware marks the check passed, loads that firmware and changes nothing else; one whose firmware, or whose slot, fails, on a slot not on trial, adds the hold cause SCORER_IMAGE, puts the device in HELD and logs it. Rests on: 14_startup.md R394, 14_startup.md R395, 14_startup.md R388. -/
def Obligations.PartsAndScorerCheckComplete : Prop :=
  (∀ (mem : List (Nat × Word)) (f : FlashIn) (w : Word) (s : State), s.up → s.starting = true → s.boot.loaded = false →
    Gives (.partLoadComplete [] mem f w) s fun t =>
      t.boot.loaded = true ∧ t.get .BKR_STATUS_RUN = 0xF ∧ t.on .MTX_CTRL_REMAP = true ∧ t.time.now = w
        ∧ t.plat.sram = writeBytes 0 (writeBytes 0 s.plat.sram 0x400000 (s.partOf s.runSlot 7)) 0 (s.partOf s.runSlot 1)
        ∧ (∀ k, 2 ≤ k → k ≤ 6 → Tab.get [] t.plat.mems k = s.partOf s.runSlot k)
        ∧ MemoryFrame s t) ∧
  (∀ (f g : FlashIn) (s : State), s.scoring → (s.devState = stLoading ∨ s.devState = stHeld) → s.boot.scorerOk = false →
    s.slotErr s.runSlot ≠ 0 → s.verifySlot f s.runSlot = 1 → Gives (.scorerImageCheck f g false) s fun t =>
      t.boot.scorerOk = true ∧ t.plat = { s.plat with mems := Tab.insert s.plat.mems 3 (s.partOf s.runSlot 3) }
        ∧ Keeps [.boot, .plat] (only []) s t) ∧
  (∀ (f g : FlashIn) (s : State), s.scoring → (s.devState = stLoading ∨ s.devState = stHeld) → s.boot.scorerOk = false → s.slotErr s.runSlot ≠ 0 →
    s.on .BKR_BOOT_TRIAL = false → s.boot.holds.contains holdScorerImage = false → s.logRoom →
    Gives (.scorerImageCheck f g true) s fun t =>
      t.boot.holds = s.boot.holds ++ [holdScorerImage] ∧ t.devState = stHeld
        ∧ t.lastLog.map (·.1) = some 0x0106 ∧ Keeps [.boot, .sco] (only [Reg.BKR_DEV_STATE]) s t) ∧
  (∀ (f g : FlashIn) (s : State), s.scoring → (s.devState = stLoading ∨ s.devState = stHeld) → s.boot.scorerOk = false → s.slotErr s.runSlot ≠ 0 →
    s.verifySlot f s.runSlot ≠ 1 → s.on .BKR_BOOT_TRIAL = false → s.boot.holds.contains holdScorerImage = false → s.logRoom →
    Gives (.scorerImageCheck f g false) s fun t =>
      t.boot.holds = s.boot.holds ++ [holdScorerImage] ∧ t.devState = stHeld
        ∧ t.lastLog.map (·.1) = some 0x0106 ∧ Keeps [.boot, .sco] (only [Reg.BKR_DEV_STATE]) s t)

/-- A validated image is in force and its layout is the initial one; a failing one holds the device. With the parts loaded, the Banker not halted, no image yet and no hold of the image, an image of the firmware's format that passes every check, and whose SAFETY words read back as the Scorer reads them, is marked loaded, with the initial layout of its header at offset 0xD, the node ID of its header and the LK bits of every register those of the candidate state; and the LK bits that an image names last for a register outside the memory controller's block, the contracts, the MPUs and the trigger configurations stand in it as the image has them. An image of a newer format than the firmware's, on a slot not on trial and not migrated, gives the hold cause IMAGE and HELD. With no failed sub-channel, a migration whose format is at or above the floor and whose SAFETY values agree writes the working copy, whole, into external memory at the address given and records it; a further one over an image in force writes the same copy again. While a core of the Banker is halted the validation changes nothing. That the decoded words, SAFETY fields and migrated bytes come as operands is the model's choice (log 2). Rests on: 14_startup.md R398, 14_startup.md R399, 14_startup.md R388, 14_startup.md R397, 13_platform.md R360. -/
def Obligations.ImageLoadsOrHolds : Prop :=
  (∀ (i : ImageIn) (f : FlashIn) (s : State), s.up → s.starting = true → s.on .FUS_DBG_STATUS_BANKER_HALTED = false → s.boot.loaded = true → s.boot.imageOk = false →
    s.boot.holds.contains holdImage = false → s.boot.holds.contains holdMigrate = false →
    s.imgFormat s.runSlot = s.imageNum 4 2 → s.imageFault (s.candidate i) i = none →
    (∀ e ∈ i.safety, contractAddr e.1 = true ∨ (s.candidate i).word e.1 &&& tyMask (· == .lk) e.1 = e.2 &&& tyMask (· == .lk) e.1) →
    Gives (.imageValidation i f) s fun t =>
      t.boot.imageOk = true ∧ t.image = i.image ∧ t.dealer.layout = (s.candidate i).imageVal 0xD 1
        ∧ (∀ a, t.word a &&& lkMask a = (s.candidate i).word a &&& lkMask a)
        ∧ t.get .FAB_NODE_NODE_ID = s.imageVal 0xC 1 % 2 ^ (Fld.FAB_NODE_NODE_ID).wid
        ∧ t.dram = s.dram ∧ t.mram = s.mram ∧ t.flash = s.flash ∧ t.plat.fuses = s.plat.fuses ∧ t.pending = s.pending) ∧
  (∀ (i : ImageIn) (f : FlashIn) (s : State), s.up → s.starting = true → s.on .FUS_DBG_STATUS_BANKER_HALTED = false → s.boot.loaded = true → s.boot.imageOk = false →
    s.boot.holds.contains holdImage = false → s.boot.holds.contains holdMigrate = false → s.on .BKR_BOOT_TRIAL = false →
    s.on .BKR_BOOT_MIGRATED = false → s.imgFormat s.runSlot < s.imageNum 4 2 →
    Gives (.imageValidation i f) s fun t =>
      t.boot.holds = s.boot.holds ++ [holdImage] ∧ t.devState = stHeld ∧ t.boot.imageOk = false ∧ MemoryFrame s t) ∧
  (∀ (a : BitVec 40) (bytes : List Byte) (fields : List (Nat × Word × Word)) (f : FlashIn) (s : State), s.up → s.firmware = true → s.boot.loaded = true → s.boot.imageOk = false →
    s.get .MEM_STATUS_STATE = memReady → s.imageNum 4 2 < s.imgFormat s.runSlot → s.migFloor s.runSlot ≤ s.imageNum 4 2 →
    s.boot.holds.contains holdMigrate = false → s.get .MEM_STATUS_SC_FAILED = 0 →
    (∀ e ∈ fields, e.2.1 = e.2.2) → Gives (.migrateImage a bytes fields f) s fun t =>
      t.boot.imageAt = some a.toNat ∧ t.boot.migrated = some bytes ∧ t.on .BKR_BOOT_MIGRATED = true
        ∧ readBytes Config.dramFill t.dram a.toNat bytes.length = bytes
        ∧ (∀ x, (x < a.toNat ∨ a.toNat + bytes.length ≤ x) → Tab.get Config.dramFill t.dram x = Tab.get Config.dramFill s.dram x)
        ∧ Keeps [.boot, .dram, .mem] (only [Reg.BKR_BOOT]) s t) ∧
  (∀ (a : BitVec 40) (bytes old : List Byte) (fields : List (Nat × Word × Word)) (f : FlashIn) (s : State), s.up → s.firmware = true →
    s.boot.loaded = true → s.boot.imageOk = true → s.boot.migrated = some old →
    s.get .MEM_STATUS_STATE = memReady → s.imageNum 4 2 < s.imgFormat s.runSlot → s.migFloor s.runSlot ≤ s.imageNum 4 2 →
    s.boot.holds.contains holdMigrate = false → s.get .MEM_STATUS_SC_FAILED = 0 → (∀ e ∈ fields, e.2.1 = e.2.2) →
    Gives (.migrateImage a bytes fields f) s fun t =>
      t.boot = { s.boot with imageAt := some a.toNat } ∧ readBytes Config.dramFill t.dram a.toNat old.length = old
        ∧ Keeps [.boot, .dram, .mem] (only []) s t) ∧
  (∀ (e : Nat × Word) (es fs : List (Nat × Word)) (s : State), (∀ g ∈ fs, g.1 ≠ e.1) → memAddr e.1 = false → contractAddr e.1 = false →
    e.1 / 0x10000 ≠ 0x1001 → (∀ c : Fin 64, e.1 ≠ Reg.TIM_TRG_CFG c) →
    (s.loadLk (es ++ e :: fs)).word e.1 &&& lkMask e.1 = e.2 &&& lkMask e.1) ∧
  (∀ (i : ImageIn) (f : FlashIn) (s : State), s.up → s.on .FUS_DBG_STATUS_BANKER_HALTED = true → Gives (.imageValidation i f) s fun t => Keeps [] (only []) s t)

/-- DEALING is entered when every condition of R400 holds, and not otherwise. When the conditions of R400 hold and the image holds the initial layout, DEALING_ENTRY answers a next state in which the device is in DEALING with cause 0, the cycle stands at its first deal with no trick issued or in progress, the placement is the one of the layout's admission, the ticks dealt since entry are 0, the trial time ends, and the stored memories are as before; when one of them fails the state is unchanged but for what was sent. Rests on: 14_startup.md R387, 14_startup.md R400, 14_startup.md R404. -/
def Obligations.DealingIsEnteredWhenAllHolds : Prop :=
  (∀ (ly : LayoutDesc) (s : State), s.up → s.mayDeal = true → s.layout? s.dealer.layout = some ly →
    Gives .dealingEntry s fun t => t.devState = stDealing ∧ t.get .BKR_DEV_STATE_CAUSE = 0 ∧ t.boot.dealt = 0
      ∧ t.get .BKR_TRIAL_TRIAL_LEFT = 0 ∧ t.dealer.cyclePos = 0 ∧ t.dealer.tricks = [] ∧ t.dealer.issued = []
      ∧ t.dealer.layout = s.dealer.layout ∧ t.dealer.place = (s.layoutAnswer s.dealer.layout).place ∧ MemoryFrame s t) ∧
  (∀ s : State, s.up → (s.mayDeal = false ∨ s.layout? s.dealer.layout = none) →
    Gives .dealingEntry s fun t => t = s.quiet.settleFault)

/-- The route check passes only on the tables computed; a trial is confirmed or reverted by the pointer. A route check under way whose 64 table pairs are the node's own ends with RESULT OK and ROUTE_OK, changing nothing else; with a differing pair it ends with FAIL at the lowest such node, ROUTE_OK 0 and, on a starting device without that hold, the hold cause ROUTE. CONFIRM_S of DEALING on trial, with a pointer write that succeeds, end the trial, and the pointer in force has TRIAL and TRIES 0. A trial timeout writes the pointer back to the previous slot and resets the device with cause SOFTWARE; with no previous slot too, where what is written is the model's choice (log 94). Rests on: 07_fabric.md R237, 14_startup.md R404, 14_startup.md R393, 14_startup.md R388. -/
def Obligations.RouteCheckAndTrialEnd : Prop :=
  (∀ (f : FlashIn) (s : State), s.scoring → s.on .FAB_RT_CHECK_BUSY = true → s.boot.holds.contains holdRoute = false →
    (∀ d < 64, (s.word (Reg.FAB_RT d), s.word (Reg.FAB_BC d)) = s.ownTables d) → Gives (.routeCheckResult f) s fun t =>
      t.on .FAB_RT_CHECK_BUSY = false ∧ t.get .FAB_RT_CHECK_RESULT = 1 ∧ t.on .FAB_STATUS_ROUTE_OK = true
        ∧ Keeps [] (only [Reg.FAB_RT_CHECK, Reg.FAB_STATUS]) s t) ∧
  (∀ (f : FlashIn) (d : Nat) (s : State), s.scoring → s.on .FAB_RT_CHECK_BUSY = true → s.starting = true → s.on .BKR_BOOT_TRIAL = false →
    s.boot.holds.contains holdRoute = false → d < 64 → (s.word (Reg.FAB_RT d), s.word (Reg.FAB_BC d)) ≠ s.ownTables d →
    (∀ e < d, (s.word (Reg.FAB_RT e), s.word (Reg.FAB_BC e)) = s.ownTables e) → Gives (.routeCheckResult f) s fun t =>
      t.on .FAB_RT_CHECK_BUSY = false ∧ t.get .FAB_RT_CHECK_RESULT = 2 ∧ t.get .FAB_RT_CHECK_FAIL_NODE = d
        ∧ t.on .FAB_STATUS_ROUTE_OK = false ∧ t.devState = stHeld ∧ t.boot.holds = s.boot.holds ++ [holdRoute]
        ∧ MemoryFrame s t) ∧
  (∀ (f : FlashIn) (s : State), s.up → s.on .BKR_BOOT_TRIAL = true → s.dealing = true → s.firmware = true →
    (s.showConfirm).get .BKR_TRIAL_CONFIRM_LEFT = 0 → f.badWrites < 2 → Gives (.trialConfirm f) s fun t =>
      t.on .BKR_BOOT_TRIAL = false ∧ (t.pointer.map fun p => (p.2.trial, p.2.tries)) = some (false, 0)
        ∧ t.dram = s.dram ∧ t.mram = s.mram ∧ t.plat.fuses = s.plat.fuses ∧ t.pending = s.pending) ∧
  (∀ (f : FlashIn) (c : Nat) (p : Ptr) (s : State), s.up → s.on .BKR_BOOT_TRIAL = true → s.starting = true → s.on .FUS_DBG_STATUS_BANKER_HALTED = false → s.pointer = some (c, p) →
    Gives (.trialTimeout f) s fun t =>
      t.devState = stReset ∧ bitOf t.boot.cause 3 = true ∧ t.pending = s.pending
        ∧ (∀ prev, p.previous = some prev → f.badWrites < 2 →
            (t.pointer.map fun q => (q.2.active, q.2.trial, q.2.tries)) = some (prev, false, 0)))

/-- In RECOVERY the beacon, the polls, both transports and the package check act as R406 to R408 say. In RECOVERY the beacon is sent with the port's MAC and IPv4 address, and the UART poll byte 0x43 while no transport is in use; a TFTP write request in octet mode, none open and none in use, opens one and is answered (OACK with options, else ACK 0), one beside it is refused with error 2, and one in another mode with some error; the next TFTP data block goes to the download buffer behind the bytes received, but for blocks of a failed sub-channel, which stay as they are, a full one is acknowledged, a short one ends the download; an XMODEM block with a wrong CRC or length is answered NAK, the next one right is acknowledged and kept in the same way; a complete package that fails its check, or cannot be read, leaves the flash as it is and reports failure 1; one that passes stands in the slot and image half it is for, is named in the boot pointer as the slot on trial, and the reset is due. None of them changes a register but those of the memory controller's check. Which error answers another mode is free, as the model has it (log 3), and the address is the first candidate of RFC 3927, free too (log 115). Rests on: 14_startup.md R406, 14_startup.md R407, 14_startup.md R408, 14_startup.md R401, 08_memory.md R271, 08_memory.md R275. -/
def Obligations.RecoveryDownloadSteps : Prop :=
  (∀ s : State, s.inRecovery = true → Gives .recoveryBeacon s fun t =>
    t.out = [.beacon s.portMac s.portIp s.serialNo s.lifecycle s.boot.recovery.rcv (s.slotErr 0) (s.slotErr 1) (s.get .FUS_ROLLBACK_COUNT)
      s.boot.recovery.failed] ∧ Keeps [] (only []) s t) ∧
  (∀ s : State, s.inRecovery = true → s.boot.recovery.transport = none → s.boot.recovery.resetDue = false →
    Gives .xmodemPoll s fun t => t.out = [.uart [0x43]] ∧ Keeps [] (only []) s t) ∧
  (∀ (q : TftpReq) (z : Option Nat) (s : State), s.canDownload = true → q.octet = true → s.boot.recovery.tftp = false → s.boot.recovery.transport = none →
    Gives (.tftpWriteRequest q z) s fun t =>
      t.boot.recovery.tftp = true ∧ t.boot.recovery.got = 0 ∧ t.boot.recovery.block = 0
        ∧ t.out = [if q.blksize.isSome ∨ z.isSome = true then .tftp 6 t.boot.recovery.size else .tftp 4 0]
        ∧ (∀ n, q.blksize = some n → 512 ≤ n → n ≤ 1428 → t.boot.recovery.size = n) ∧ (q.blksize = none → t.boot.recovery.size = 512)
        ∧ Keeps [.boot] (only []) s t) ∧
  (∀ (q : TftpReq) (z : Option Nat) (s : State), s.canDownload = true → q.octet = true → (s.boot.recovery.tftp = true ∨ s.boot.recovery.transport.isSome = true) → Gives (.tftpWriteRequest q z) s fun t =>
    t.out = [.tftp 5 2] ∧ Keeps [] (only []) s t) ∧
  (∀ (data : List Byte) (s : State), s.canDownload = true → s.boot.recovery.tftp = true → s.boot.recovery.transport ≠ some 1 →
    s.get .MEM_STATUS_SC_FAILED = 0 → Gives (.tftpData ((s.boot.recovery.block + 1) % 65536) data) s fun t =>
      t.boot.recovery.got = s.boot.recovery.got + data.length ∧ t.boot.recovery.transport = some 0
        ∧ (data.length < s.boot.recovery.size → t.boot.recovery.done = true ∧ t.out = [])
        ∧ (s.boot.recovery.size ≤ data.length → t.out = [.tftp 4 ((s.boot.recovery.block + 1) % 65536)])
        ∧ readBytes Config.dramFill t.dram (dramBase + s.boot.recovery.got) data.length = data
        ∧ (∀ x, (x < dramBase + s.boot.recovery.got ∨ dramBase + s.boot.recovery.got + data.length ≤ x) →
            Tab.get Config.dramFill t.dram x = Tab.get Config.dramFill s.dram x)
        ∧ Keeps [.boot, .dram, .mem] (only []) s t) ∧
  (∀ (block : Nat) (data : List Byte) (crc : BitVec 16) (s : State), s.canDownload = true → s.boot.recovery.transport ≠ some 0 →
    data ≠ [] → (xmodemCrc data ≠ crc ∨ (data.length ≠ 128 ∧ data.length ≠ 1024)) →
    Gives (.xmodemBlock block data crc) s fun t => t.out = [.uart [0x15]] ∧ Keeps [] (only []) s t) ∧
  (∀ (data : List Byte) (crc : BitVec 16) (s : State), s.canDownload = true → s.boot.recovery.transport = some 1 →
    xmodemCrc data = crc → (data.length = 128 ∨ data.length = 1024) → s.get .MEM_STATUS_SC_FAILED = 0 → Gives (.xmodemBlock ((s.boot.recovery.block + 1) % 256) data crc) s fun t =>
      t.out = [.uart [0x06]] ∧ t.boot.recovery.got = s.boot.recovery.got + data.length ∧ t.boot.recovery.block = s.boot.recovery.block + 1
        ∧ readBytes Config.dramFill t.dram (dramBase + s.boot.recovery.got) data.length = data
        ∧ Keeps [.boot, .dram, .mem] (only []) s t) ∧
  (∀ (f : FlashIn) (bad : Bool) (s : State), s.inRecovery = true → s.boot.recovery.done = true → s.boot.recovery.resetDue = false →
    s.packageBad = [] → s.packageGood s.recoveryTarget = false → Gives (.recoveryPackageCheck bad f) s fun t =>
      t.boot.recovery.failed = 1 ∧ t.boot.recovery.done = false ∧ Keeps [.boot, .freeCtr] (only []) s t) ∧
  (∀ (f : FlashIn) (s : State), s.inRecovery = true → s.boot.recovery.done = true → s.boot.recovery.resetDue = false →
    s.packageGood s.recoveryTarget = true → f.badWrites = 0 → Gives (.recoveryPackageCheck false f) s fun t =>
      t.boot.recovery.resetDue = true ∧ t.boot.recovery.failed = s.boot.recovery.failed
        ∧ (t.pointer.map fun p => (p.2.active, p.2.trial, p.2.tries)) = some (s.recoveryTarget, true, 0)
        ∧ (∀ h body n1 n2, h = readBytes Config.dramFill s.dram dramBase 16 → n1 = packageL1 h → n2 = packageL2 h →
            body = readBytes Config.dramFill s.dram (dramBase + 16) (n1 + n2) →
            readBytes flashFill t.flash (slotBase s.recoveryTarget) n1 = body.take n1
              ∧ readBytes flashFill t.flash (halfBase s.recoveryTarget) n2 = body.drop n1
              ∧ ∀ a, 0x20000 ≤ a → Tab.get flashFill t.flash a = Tab.get flashFill (s.programBody s.recoveryTarget n1 0 body).flash a)
        ∧ Keeps [.boot, .flash, .freeCtr] (only []) s t) ∧
  (∀ (q : TftpReq) (z : Option Nat) (s : State), s.canDownload = true → q.octet = false → Gives (.tftpWriteRequest q z) s fun t =>
    (∃ c, t.out = [.tftp 5 c]) ∧ Keeps [.freeCtr] (only []) s t) ∧
  (∀ (data : List Byte) (s : State), s.canDownload = true → s.boot.recovery.tftp = true → s.boot.recovery.transport ≠ some 1 →
    s.get .MEM_STATUS_SC_FAILED ≠ 0 → Gives (.tftpData ((s.boot.recovery.block + 1) % 65536) data) s fun t =>
      t.boot.recovery.got = s.boot.recovery.got + data.length
        ∧ (∀ b ∈ blocksOf (dramBase + s.boot.recovery.got) data.length, s.blockFailed b = true →
            readBytes Config.dramFill t.dram b 256 = readBytes Config.dramFill s.dram b 256)
        ∧ (∀ k < data.length, s.blockFailed ((dramBase + s.boot.recovery.got + k) / 256 * 256) = false →
            some (Tab.get Config.dramFill t.dram (dramBase + s.boot.recovery.got + k)) = data[k]?)
        ∧ Keeps [.boot, .dram, .mem] (only [Reg.MEM_CHK_CNT]) s t) ∧
  (∀ (data : List Byte) (crc : BitVec 16) (s : State), s.canDownload = true → s.boot.recovery.transport = some 1 →
    xmodemCrc data = crc → (data.length = 128 ∨ data.length = 1024) → s.get .MEM_STATUS_SC_FAILED ≠ 0 →
    Gives (.xmodemBlock ((s.boot.recovery.block + 1) % 256) data crc) s fun t =>
      t.out = [.uart [0x06]] ∧ t.boot.recovery.got = s.boot.recovery.got + data.length
        ∧ (∀ b ∈ blocksOf (dramBase + s.boot.recovery.got) data.length, s.blockFailed b = true →
            readBytes Config.dramFill t.dram b 256 = readBytes Config.dramFill s.dram b 256)
        ∧ (∀ k < data.length, s.blockFailed ((dramBase + s.boot.recovery.got + k) / 256 * 256) = false →
            some (Tab.get Config.dramFill t.dram (dramBase + s.boot.recovery.got + k)) = data[k]?)
        ∧ Keeps [.boot, .dram, .mem] (only [Reg.MEM_CHK_CNT]) s t) ∧
  (∀ (f : FlashIn) (bad : Bool) (b : Nat) (bs : List Nat) (s : State), s.inRecovery = true → s.boot.recovery.done = true → s.boot.recovery.resetDue = false →
    s.packageBad = b :: bs → Gives (.recoveryPackageCheck bad f) s fun t =>
      t.boot.recovery.failed = 1 ∧ t.boot.recovery.done = false ∧ t.on .MEM_INT_STATUS_CHK_PERSIST = true ∧ MemoryFrame s t)

/-- The lock timeout, the missing boundary and the boundary itself act as the tick rules say. In DEALING with the tick not locked and not yet free-running, the lock timeout starts dealing on the free-running time unit and sets REF_LOST in both registers; with a SYNC_IN tick source in NONE or ACQUIRE it also enters HOLDOVER and sets the REF_LOST interrupt bit. Once boundaries run, a missing boundary makes the Scorer require SAFE by cause 2. When a boundary is due, it reports TICK, latches the time of its edge and the epoch word, counts the tick where the Dealer deals or the device is in SAFE, starts the Dealer where the tick was locked before it or is free-running, and not where its pulse locks it, and answers a next state that leaves the stored memories alone and in which FAULT_N is low exactly when the device is not DEALING, an output does not carry video, the tone failed, or the hard-wired path runs; when none is due nothing changes. Where an activation asked for a reset that is due then, the boundary ends in it, but in SAFE. Where the first boundary falls is the model's reading (log 28), that boundaries before dealing count no tick too (log 27), and that the reset comes with a boundary its choice (log 110). Rests on: 01_architecture.md R25, 02_liveness.md R85, 01_architecture.md R28, 15_faults.md R425, 04_output.md R136, 14_startup.md R402. -/
def Obligations.TickReferenceLossIsHandled : Prop :=
  (∀ s : State, s.dealing = true → s.on .DLR_STATUS_TICK_LOCKED = false → s.dealer.freeRun = false → s.syncMode = false →
    Gives .tickLockTimeout s fun t => t.dealer = { s.dealer with freeRun := true } ∧ t.on .OUT_REF_STATUS_REF_LOST = true
      ∧ t.on .DLR_STATUS_REF_LOST = true ∧ Keeps [.dealer] (only [Reg.OUT_REF_STATUS, Reg.DLR_STATUS]) s t) ∧
  (∀ s : State, s.dealing = true → s.on .DLR_STATUS_TICK_LOCKED = false → s.dealer.freeRun = false → s.syncMode = true →
    Gives .tickLockTimeout s fun t => t.dealer.freeRun = true
      ∧ (s.refState = refNone ∨ s.refState = refAcquire → t.refState = refHoldover ∧ t.on .OUT_INT_STATUS_REF_LOST = true)
      ∧ (s.refState ≠ refNone → s.refState ≠ refAcquire → t.refState = s.refState)
      ∧ t.on .OUT_REF_STATUS_REF_LOST = true ∧ t.on .DLR_STATUS_REF_LOST = true
      ∧ Keeps [.dealer] (only [Reg.OUT_REF_STATUS, Reg.DLR_STATUS, Reg.OUT_INT_STATUS]) s t) ∧
  (∀ s : State, s.dealing = true → s.dealer.started = true → s.sco.hard = false → Gives .tickMissing s fun t =>
      bitOf t.sco.safeReq 1 = true ∧ Keeps [.sco] (only []) s t) ∧
  (∀ (b : BoundaryIn) (s : State), s.boundaryDue = true → s.boot.resetAt = none → Gives (.tickBoundary b) s fun t =>
      t.on .SCO_FAULTN_STATE = !t.dealing ∧ t.on .SCO_FAULTN_OUTPUT = (t.notVideo != 0)
        ∧ t.on .SCO_STATUS_FAULT_N_LOW = (!t.dealing || t.notVideo != 0 || t.on .SCO_STATUS_TONE_FAIL || t.sco.hard)
        ∧ MemoryFrame s t) ∧
  (∀ (b : BoundaryIn) (s : State), s.boundaryDue = false → exec (.tickBoundary b) s = .next s.quiet) ∧
  (∀ (b : BoundaryIn) (s : State), s.boundaryDue = true → s.boot.resetAt = none → Gives (.tickBoundary b) s fun t =>
      t.on .DLR_INT_STATUS_TICK = true ∧ t.word Reg.DLR_TICK_TIME = t.dealer.edge ∧ t.word Reg.CMP_LV_TICK_EPOCH = t.dealer.epochTick
        ∧ t.dealer.started = true ∧ t.devState = s.devState
        ∧ (t.on .DLR_STATUS_DEALING = true ∨ s.devState = stSafe → t.tick = s.tick + 1)
        ∧ (t.on .DLR_STATUS_DEALING = false → s.devState ≠ stSafe → t.tick = s.tick)
        ∧ (s.dealing = true → s.dealer.freeRun = true ∨ s.on .DLR_STATUS_TICK_LOCKED = true → t.on .DLR_STATUS_DEALING = true)
        ∧ (s.on .DLR_STATUS_DEALING = true → t.boot.dealt = s.boot.dealt + 1)) ∧
  (∀ (b : BoundaryIn) (w : BitVec 64) (s : State), s.boundaryDue = true → s.boot.resetAt = some w → Gives (.tickBoundary b) s fun t =>
    (t.devState = stReset ∧ s.devState ≠ stSafe ∧ bitOf t.boot.cause 3 = true ∧ t.flash = s.flash ∧ t.mram = s.mram ∧ t.pending = s.pending)
      ∨ (t.devState = s.devState ∧ t.on .DLR_INT_STATUS_TICK = true ∧ t.dealer.started = true ∧ t.boot.resetAt = some w
        ∧ (s.devState = stSafe ∨ (t.extNow - w).toInt < 0) ∧ MemoryFrame s t)) ∧
  (∀ (b : BoundaryIn) (s : State), s.dealing = true → s.boundaryDue = true → s.boot.resetAt = none → s.on .DLR_STATUS_DEALING = false →
    s.dealer.freeRun = false → s.on .DLR_STATUS_TICK_LOCKED = false → s.judge.on .DLR_STATUS_TICK_LOCKED = false → Gives (.tickBoundary b) s fun t =>
      t.on .DLR_STATUS_DEALING = false ∧ t.boot.dealt = s.boot.dealt ∧ t.dealer.tricks = s.dealer.tricks)

/-- A commit is queued by GO, admitted or refused by the Dealer, and latched at the deal point. CMP_COMMIT.GO outside DEALING answers STATE and discards the words waiting; with a commit pending, a wall commit armed or four changes held it answers BUSY (a fifth change also sets ADM_REFUSED); otherwise it appends a waiting change that carries the words waiting, its due tick that of the time written, and sets PENDING. With no host command running: an admission of a commit that the image does not permit answers RANGE with reason PERMIT, drops the change, clears PENDING and the waiting words and sets both refusal bits; an admitted one is marked admitted with its placement, with code OK; with nothing waiting nothing changes. The deal point, once per tick, latches exactly the admitted changes and those released for the next tick; with host commands running too, every admitted one is latched, and with an absent Banker an admission does no more than that. Rests on: 03_composition.md R122, 01_architecture.md R34, 01_architecture.md R35, 04_output.md R141, 04_output.md R142, 04_output.md R143, 03_composition.md R123. -/
def Obligations.FrontEdgeOfAChange : Prop :=
  (∀ (w : Word) (s : State), s.up → s.dealing = false → Gives (.cmpCommitGo w) s fun t =>
    t.get .CMP_COMMIT_STATUS_CODE = 2 ∧ t.get .CMP_COMMIT_STATUS_REASON = 0 ∧ t.on .CMP_INT_STATUS_COMMIT_REFUSED = true ∧ t.pend = []
      ∧ t.pendLayout = none ∧ Keeps [.pend, .pendLayout, .time] (only [Reg.CMP_COMMIT_STATUS, Reg.CMP_INT_STATUS]) s t) ∧
  (∀ (w : Word) (s : State), s.dealing = true → (s.on .CMP_COMMIT_PENDING = true ∨ s.wallArmed = true ∨ 4 ≤ s.dealer.changes.length) →
    Gives (.cmpCommitGo w) s fun t => t.get .CMP_COMMIT_STATUS_CODE = 1 ∧ t.get .CMP_COMMIT_STATUS_REASON = 0
      ∧ t.on .CMP_INT_STATUS_COMMIT_REFUSED = true
      ∧ (s.on .CMP_COMMIT_PENDING = false → s.wallArmed = false → t.on .DLR_INT_STATUS_ADM_REFUSED = true)
      ∧ Keeps [.time] (only [Reg.CMP_COMMIT_STATUS, Reg.CMP_INT_STATUS, Reg.DLR_INT_STATUS]) s t) ∧
  (∀ (w : Word) (s : State), s.dealing = true → s.on .CMP_COMMIT_PENDING = false → s.wallArmed = false → s.dealer.changes.length < 4 →
    Gives (.cmpCommitGo w) s fun t =>
      t.dealer = { s.dealer with
        changes := s.dealer.changes ++ [{ id := s.dealer.nextChange, kind := .commit s.pend s.pendLayout, stage := .waiting,
                                          place := [], dueTick := s.onTimeTick w }]
        nextChange := s.dealer.nextChange + 1 }
      ∧ t.on .CMP_COMMIT_PENDING = true ∧ t.get .DLR_STATUS_PENDING = s.dealer.changes.length + 1
      ∧ Keeps [.dealer, .time] (only [Reg.CMP_COMMIT, Reg.DLR_STATUS]) s t) ∧
  (∀ (c : Change) (sh : Tab Word) (y : Option Nat) (s : State), s.up → s.cmd.runs = [] → s.nextChange = some c → c.kind = .commit sh y →
    s.permitted c (s.admBase.take c) = false → Gives .changeAdmission s fun t =>
      t.get .DLR_ADM_STATUS_CODE = stRANGE ∧ t.get .DLR_ADM_STATUS_REASON = admPermit ∧ t.get .CMP_COMMIT_STATUS_CODE = stRANGE
        ∧ t.get .CMP_COMMIT_STATUS_REASON = admPermit ∧ t.on .DLR_INT_STATUS_ADM_REFUSED = true ∧ t.on .CMP_INT_STATUS_COMMIT_REFUSED = true
        ∧ t.dealer = { s.dealer with changes := s.dealer.changes.filter fun x => x.id != c.id } ∧ t.pend = [] ∧ t.pendLayout = none
        ∧ t.on .CMP_COMMIT_PENDING = false
        ∧ Keeps [.dealer, .pend, .pendLayout] (only [Reg.DLR_ADM_STATUS, Reg.DLR_INT_STATUS, Reg.CMP_COMMIT, Reg.CMP_COMMIT_STATUS,
            Reg.CMP_INT_STATUS, Reg.DLR_STATUS]) s t) ∧
  (∀ (c : Change) (sh : Tab Word) (y : Option Nat) (s : State), s.up → s.cmd.runs = [] → s.nextChange = some c → c.kind = .commit sh y →
    (s.evaluate s.admBase c).code = stOK → Gives .changeAdmission s fun t =>
      t.get .DLR_ADM_STATUS_CODE = stOK ∧ t.get .CMP_COMMIT_STATUS_CODE = stOK ∧ t.get .CMP_COMMIT_STATUS_REASON = 0
        ∧ t.dealer.changes = s.dealer.changes.map (fun x =>
            if x.id = c.id then { x with stage := .admitted, place := (s.evaluate s.admBase c).place } else x)
        ∧ t.pend = [] ∧ t.pendLayout = none ∧ t.on .CMP_COMMIT_PENDING = false
        ∧ Keeps [.dealer, .pend, .pendLayout] (only [Reg.DLR_ADM_STATUS, Reg.CMP_COMMIT, Reg.CMP_COMMIT_STATUS, Reg.DLR_STATUS]) s t) ∧
  (∀ s : State, s.up → s.cmd.runs = [] → s.nextChange = none → exec .changeAdmission s = .next s.quiet) ∧
  (∀ s : State, s.dealing = true → s.cmd.runs = [] → s.dealer.dealPassed = false → Gives .dealPoint s fun t =>
    t.dealer.dealPassed = true
      ∧ t.dealer.changes = s.dealer.changes.map (fun c => match c.stage with
          | .admitted => { c with stage := .latched (s.tick + 1) }
          | .released n => if n = s.tick + 1 then { c with stage := .latched (s.tick + 1) } else c
          | _ => c)
      ∧ Keeps [.dealer] (only [Reg.OUT_COMMIT_STATUS, Reg.OUT_INT_STATUS]) s t) ∧
  (∀ s : State, s.up → s.cmd.runs = [] → (s.dealing = false ∨ s.dealer.dealPassed = true) → exec .dealPoint s = .next s.quiet) ∧
  (∀ s : State, s.dealing = true → s.dealer.dealPassed = false → Gives .dealPoint s fun t =>
    t.dealer.dealPassed = true ∧ (∀ c ∈ s.dealer.changes, c.stage = .admitted → ∃ d ∈ t.dealer.changes, d.id = c.id ∧ d.stage = .latched (s.tick + 1))
      ∧ MemoryFrame s t) ∧
  (∀ (c : Change) (sh : Tab Word) (y : Option Nat) (s : State), s.up → s.bankerUp = false → s.nextChange = some c → c.kind = .commit sh y →
    (s.evaluate s.admBase c).code = stOK → Gives .changeAdmission s fun t =>
      t.get .DLR_ADM_STATUS_CODE = stOK ∧ t.get .CMP_COMMIT_STATUS_CODE = stOK ∧ t.pend = [] ∧ t.pendLayout = none
        ∧ Keeps [.dealer, .pend, .pendLayout] (only [Reg.DLR_ADM_STATUS, Reg.CMP_COMMIT, Reg.CMP_COMMIT_STATUS, Reg.DLR_STATUS]) s t)

/-- A trick claims the lowest free buffer; free requests and stuck leases are handled by state. While the Dealer deals, an issue of a capture trick at its offset marks it issued, fills the lowest free buffer of its class with its source and puts the trick in progress with that buffer; with no buffer free it counts POOL_EMPTY and starts no trick. A free request on an ELIGIBLE or RETIRED buffer without holders frees it; with holders it becomes PENDING_FREE, counts and logs EARLY_FREE; in any other state it counts FREE_ERR and changes nothing else. A holder bit set for more than K1 + 8 ticks is counted, reported and logged, and stays set. Rests on: 01_architecture.md R28, 03_composition.md R112, 03_composition.md R113, 03_composition.md R114, 03_composition.md R116, 03_composition.md R108, 03_composition.md R111. -/
def Obligations.TalonBuffersAreClaimedAndFreed : Prop :=
  (∀ (k c d ns : Nat) (tr : Trick) (s : State), s.up → s.on .DLR_STATUS_DEALING = true → s.curDeal[k]? = some tr →
    tr.issue = .offset ns → ns ≠ 0 → s.dealer.issued.contains k = false → tr.cls = .capture → tr.talon = some c →
    s.lowestFree c = some d → Gives (.trickIssue k) s fun t =>
      t.dealer = { s.dealer with issued := s.dealer.issued ++ [k], tricks := s.dealer.tricks ++ [s.runOf tr (some d)] }
        ∧ (t.desc d).state = .filling ∧ (t.desc d).src = s.localSrc tr.job ∧ (∀ x, x ≠ d → t.desc x = s.desc x)
        ∧ Keeps [.dealer, .descs] (only []) s t) ∧
  (∀ (k c ns : Nat) (tr : Trick) (s : State), s.up → s.on .DLR_STATUS_DEALING = true → s.curDeal[k]? = some tr →
    tr.issue = .offset ns → ns ≠ 0 → s.dealer.issued.contains k = false → tr.cls = .capture → tr.talon = some c →
    s.lowestFree c = none → Gives (.trickIssue k) s fun t =>
      t.dealer = { s.dealer with issued := s.dealer.issued ++ [k] } ∧ t.descs = s.descs
        ∧ t.get .CMP_TLN_EVT_POOL_EMPTY = satAdd 8 (s.get .CMP_TLN_EVT_POOL_EMPTY) 1 ∧ t.on .CMP_INT_STATUS_POOL_EMPTY = true
        ∧ MemoryFrame s t) ∧
  (∀ (d : Fin 8192) (s : State), s.up → ((s.desc d).state = .eligible ∨ (s.desc d).state = .retired) → (s.desc d).holders = 0 →
    Gives (.cmpTlnFree d) s fun t => t.desc d = Desc.init ∧ (∀ x, x ≠ d.val → t.desc x = s.desc x) ∧ Keeps [.descs] (only []) s t) ∧
  (∀ (d : Fin 8192) (s : State), s.up → ((s.desc d).state = .eligible ∨ (s.desc d).state = .retired) → (s.desc d).holders ≠ 0 →
    s.logRoom → Gives (.cmpTlnFree d) s fun t =>
      t.desc d = { s.desc d with state := .pendingFree } ∧ (∀ x, x ≠ d.val → t.desc x = s.desc x)
        ∧ t.get .CMP_TLN_EVT_EARLY_FREE = satAdd 8 (s.get .CMP_TLN_EVT_EARLY_FREE) 1 ∧ t.on .CMP_INT_STATUS_EARLY_FREE = true
        ∧ t.lastLog = some (0x0406, [d.val % 256, d.val / 256, 2, 0])
        ∧ Keeps [.descs, .sco] (only [Reg.CMP_TLN_EVT, Reg.CMP_INT_STATUS]) s t) ∧
  (∀ (d : Fin 8192) (s : State), s.up → (s.desc d).state ≠ .eligible → (s.desc d).state ≠ .retired → Gives (.cmpTlnFree d) s fun t =>
      t.get .CMP_TLN_EVT_FREE_ERR = satAdd 8 (s.get .CMP_TLN_EVT_FREE_ERR) 1 ∧ Keeps [] (only [Reg.CMP_TLN_EVT]) s t) ∧
  (∀ (d : Fin 8192) (o : Fin 16) (n : Tick) (s : State), s.up → Tab.find (s.desc d).since o = some n →
    (s.desc d).holders.getLsbD o = true → s.k1 + 8 < (s.tick - n).toNat → s.logRoom → Gives (.leaseStuck d o) s fun t =>
      t.get .CMP_TLN_EVT_LEASE_STUCK = satAdd 8 (s.get .CMP_TLN_EVT_LEASE_STUCK) 1 ∧ t.on .CMP_INT_STATUS_LEASE_STUCK = true
        ∧ t.lastLog = some (0x0405, [d.val % 256, d.val / 256, o]) ∧ Keeps [.sco] (only [Reg.CMP_TLN_EVT, Reg.CMP_INT_STATUS]) s t)

/-- Hot plug, link interrupts and training move a transmitter between its states as the link rules say. HPD low clears HPD, reporting a change of it, empties the AUX queue, ends a busy transaction, and takes every state but IDLE to WAIT_HPD; HPD stable takes WAIT_HPD to TRAINING and leaves every other state; a pulse outside 250 us to 2 ms changes nothing, and one inside, in every state, counts and has the link status read, an unreadable one counted as an AUX failure; in VIDEO or BLANK a status that shows lost lock retrains from the configuration in use, its service bits cleared, one that shows none leaves the state; training that no setting passes ends in FAILED with TRAIN_FAIL; FAILED goes back to TRAINING after its wait; the Banker's retrain takes VIDEO or BLANK to TRAINING, no lane locked, and reports it, and does nothing in another state; with eight retrains in the last 10 s either ends in FAILED. A transmitter drives nothing in WAIT_HPD and training patterns in TRAINING. That the 10 s are counted by ticks is the model's choice (log 32). Rests on: 04_output.md R151, 04_output.md R152, 04_output.md R153, 07_fabric.md R254. -/
def Obligations.LinkStateFollowsHpd : Prop :=
  (∀ (o : Fin 16) (s : State), s.up → Gives (.hpdLow o) s fun t =>
    t.on (.OUT_STATUS_HPD o) = false ∧ t.on .OUT_INT_STATUS_HPD = (s.on (.OUT_STATUS_HPD o) || s.on .OUT_INT_STATUS_HPD)
      ∧ (t.outp o).aux = [] ∧ (t.outp o).auxHeld = false ∧ (t.outp o).videoWait = true
      ∧ t.on (.OUT_AUX_STAT_BUSY o) = false
      ∧ t.get (.OUT_STATUS_STATE o) = (if s.get (.OUT_STATUS_STATE o) = txIdle then txIdle else txWaitHpd)
      ∧ (∀ p, p ≠ o.val → t.outp p = s.outp p)
      ∧ Keeps [.outs] (only (faultRegs ++ lstatRegs o ++ [Reg.OUT_STATUS o, Reg.OUT_INT_STATUS, Reg.OUT_AUX_STAT o])) s t) ∧
  (∀ (o : Fin 16) (s : State), s.up → Gives (.hpdHighStable o) s fun t =>
    t.on (.OUT_STATUS_HPD o) = true ∧ t.on .OUT_INT_STATUS_HPD = (!s.on (.OUT_STATUS_HPD o) || s.on .OUT_INT_STATUS_HPD)
      ∧ t.get (.OUT_STATUS_STATE o) = (if s.get (.OUT_STATUS_STATE o) = txWaitHpd then txTraining else s.get (.OUT_STATUS_STATE o))
      ∧ Keeps [] (only (faultRegs ++ [Reg.OUT_STATUS o, Reg.OUT_INT_STATUS])) s t) ∧
  (∀ (o : Fin 16) (us : Nat) (st : Option (List Byte)) (s : State), s.up → (us < 250 ∨ 2000 < us) →
    Gives (.irqHpd o us st) s fun t => Keeps [] (only faultRegs) s t) ∧
  (∀ (o : Fin 16) (us : Nat) (s : State), s.up → 250 ≤ us → us ≤ 2000 →
    Gives (.irqHpd o us none) s fun t =>
      t.get (.OUT_LINK_IRQ_HPD o) = satAdd (Fld.OUT_LINK_IRQ_HPD o).wid (s.get (.OUT_LINK_IRQ_HPD o)) 1
        ∧ t.get (.OUT_LINK_AUX_FAIL o) = satAdd (Fld.OUT_LINK_AUX_FAIL o).wid (s.get (.OUT_LINK_AUX_FAIL o)) 1
        ∧ t.on .OUT_INT_STATUS_HPD = true ∧ Emission.auxSend o ⟨2, 0, 0x200, 6, [], 0, 0⟩ ∈ t.out
        ∧ Keeps [] (only (faultRegs ++ [Reg.OUT_LINK o, Reg.OUT_INT_STATUS])) s t) ∧
  (∀ (o : Fin 16) (r : TrainIn) (s : State), s.up → s.get (.OUT_STATUS_STATE o) = txTraining → r.ok = [] → r.ok8 = [] →
    Gives (.linkTraining o r) s fun t => t.get (.OUT_STATUS_STATE o) = txFailed ∧ t.on .OUT_INT_STATUS_TRAIN_FAIL = true
      ∧ (t.outp o) = { s.outp o with fromCfg := none } ∧ (∀ p, p ≠ o.val → t.outp p = s.outp p)
      ∧ (∀ l < 4, t.on (.SER_LSTAT_SYNC o l) = false ∧ t.on (.SER_LSTAT_GOOD o l) = false)
      ∧ Keeps [.outs] (only (faultRegs ++ lstatRegs o ++ [Reg.OUT_STATUS o, Reg.OUT_INT_STATUS])) s t) ∧
  (∀ (o : Fin 16) (c : LinkCfg) (r : TrainIn) (s : State), s.up → s.get (.OUT_STATUS_STATE o) = txTraining → s.get (.OUT_CTRL_BPC o) = 0 →
    ((s.outp o).fromCfg = none ∨ s.on (.OUT_STATUS_BPC8 o) = false) → s.trainPick o 10 r r.ok (s.outp o).fromCfg = some c → s.get (.CMP_LV_OUT_SINK_MODE o) = 0 → Gives (.linkTraining o r) s fun t =>
      t.get (.OUT_STATUS_STATE o) = (if s.get (.OUT_STATUS_BLANK_SRC o) = 0 then txVideo else txBlank)
        ∧ t.get (.OUT_LINK_TRAIN o) = satAdd (Fld.OUT_LINK_TRAIN o).wid (s.get (.OUT_LINK_TRAIN o)) 1
        ∧ t.on (.OUT_STATUS_BPC8 o) = false ∧ (t.outp o).videoWait = true ∧ (t.outp o).fromCfg = none
        ∧ t.get (.OUT_STATUS_LANES o) = c.lanes % 4 ∧ t.get (.OUT_STATUS_RATE o) = c.rate % 4
        ∧ t.on (.CMP_LV_OUT_SINK_ACTIVE o) = false ∧ (t.outp o).trained = some c
        ∧ (∀ l < 4, t.on (.SER_LSTAT_GOOD o l) = decide (l < laneCount c.lanes))
        ∧ Keeps [.outs] (only (faultRegs ++ lstatRegs o ++ [Reg.OUT_STATUS o, Reg.OUT_LINK o, Reg.CMP_LV_OUT o])) s t) ∧
  (∀ (o : Fin 16) (s : State), s.up → Gives (.trainRetry o) s fun t =>
    t.get (.OUT_STATUS_STATE o) = (if s.get (.OUT_STATUS_STATE o) = txFailed then txTraining else s.get (.OUT_STATUS_STATE o))
      ∧ (s.get (.OUT_STATUS_STATE o) = txFailed → ∀ l < 4, t.on (.SER_LSTAT_SYNC o l) = false)
      ∧ Keeps [] (only (Reg.OUT_STATUS o :: lstatRegs o)) s t) ∧
  (∀ (o : Fin 16) (s : State), s.up → (s.get (.OUT_STATUS_STATE o) = txVideo ∨ s.get (.OUT_STATUS_STATE o) = txBlank) →
    (s.recentRetrains o).length < 8 → Gives (.bankerRetrain o) s fun t => t.get (.OUT_STATUS_STATE o) = txTraining
      ∧ t.on .OUT_INT_STATUS_RETRAIN = true ∧ (t.outp o).videoWait = true ∧ (t.outp o).retrains = s.recentRetrains o ++ [s.tick] ∧ (∀ p, p ≠ o.val → t.outp p = s.outp p)
      ∧ (∀ l < 4, t.on (.SER_LSTAT_SYNC o l) = false ∧ t.on (.SER_LSTAT_GOOD o l) = false)
      ∧ Keeps [.outs] (only (faultRegs ++ lstatRegs o ++ [Reg.OUT_STATUS o, Reg.OUT_INT_STATUS])) s t) ∧
  (∀ (o : Fin 16) (s : State), s.up → s.get (.OUT_STATUS_STATE o) ≠ txVideo → s.get (.OUT_STATUS_STATE o) ≠ txBlank →
    Gives (.bankerRetrain o) s fun t => Keeps [] (only faultRegs) s t) ∧
  (∀ (o : Fin 16) (c : LinkCfg) (r : TrainIn) (s : State), s.up → s.get (.OUT_STATUS_STATE o) = txTraining →
    (s.get (.OUT_CTRL_BPC o) ≠ 0 ∨ (s.on (.OUT_CTRL_BPC_FALLBACK o) = true ∧ (s.outp o).fromCfg.isSome = true ∧ s.on (.OUT_STATUS_BPC8 o) = true)) →
    s.trainPick o 8 r r.ok8 (s.outp o).fromCfg = some c → s.get (.CMP_LV_OUT_SINK_MODE o) = 0 → Gives (.linkTraining o r) s fun t =>
      t.get (.OUT_STATUS_STATE o) = (if s.get (.OUT_STATUS_BLANK_SRC o) = 0 then txVideo else txBlank)
        ∧ t.on (.OUT_STATUS_BPC8 o) = true ∧ (t.outp o).videoWait = true ∧ (t.outp o).fromCfg = none
        ∧ t.get (.OUT_STATUS_LANES o) = c.lanes % 4 ∧ t.get (.OUT_STATUS_RATE o) = c.rate % 4
        ∧ (∀ p, p ≠ o.val → t.outp p = s.outp p)
        ∧ Keeps [.outs] (only (faultRegs ++ lstatRegs o ++ [Reg.OUT_STATUS o, Reg.OUT_LINK o, Reg.CMP_LV_OUT o])) s t) ∧
  (∀ (o : Fin 16) (s : State), s.up → (s.get (.OUT_STATUS_STATE o) = txVideo ∨ s.get (.OUT_STATUS_STATE o) = txBlank) →
    8 ≤ (s.recentRetrains o).length → Gives (.bankerRetrain o) s fun t =>
      t.get (.OUT_STATUS_STATE o) = txFailed ∧ t.on .OUT_INT_STATUS_TRAIN_FAIL = true ∧ (t.outp o).videoWait = true
        ∧ Keeps [.outs] (only (faultRegs ++ [Reg.OUT_STATUS o, Reg.OUT_INT_STATUS])) s t) ∧
  (∀ (o : Fin 16) (s : State), (s.get (.OUT_STATUS_STATE o) = txWaitHpd → s.txDrive o = .nothing)
    ∧ (s.get (.OUT_STATUS_STATE o) = txTraining → s.txDrive o = .training)
    ∧ (s.get (.OUT_STATUS_STATE o) = txFailed → (s.outp o).trained = none → s.txDrive o = .electricalIdle)) ∧
  (∀ (o : Fin 16) (us : Nat) (bs : List Byte) (s : State), s.up → 250 ≤ us → us ≤ 2000 →
    (s.get (.OUT_STATUS_STATE o) = txVideo ∨ s.get (.OUT_STATUS_STATE o) = txBlank) → lockLost (s.get (.OUT_STATUS_LANES o)) bs = true → (s.recentRetrains o).length < 8 →
    Gives (.irqHpd o us (some bs)) s fun t => t.get (.OUT_STATUS_STATE o) = txTraining ∧ t.on .OUT_INT_STATUS_HPD = true
      ∧ t.on .OUT_INT_STATUS_RETRAIN = true ∧ (t.outp o).fromCfg = some ⟨s.get (.OUT_STATUS_LANES o), s.get (.OUT_STATUS_RATE o)⟩
      ∧ (t.outp o).videoWait = true ∧ (t.outp o).retrains = s.recentRetrains o ++ [s.tick]
      ∧ t.get (.OUT_LINK_RETRAIN o) = satAdd (Fld.OUT_LINK_RETRAIN o).wid (s.get (.OUT_LINK_RETRAIN o)) 1
      ∧ (bs.getD 1 0 ≠ 0 → Emission.auxSend o ⟨2, 1, 0x201, 1, [bs.getD 1 0], 0, 0⟩ ∈ t.out)
      ∧ (∀ p, p ≠ o.val → t.outp p = s.outp p)
      ∧ Keeps [.outs] (only (faultRegs ++ lstatRegs o ++ [Reg.OUT_STATUS o, Reg.OUT_LINK o, Reg.OUT_INT_STATUS])) s t) ∧
  (∀ (o : Fin 16) (us : Nat) (bs : List Byte) (s : State), s.up → 250 ≤ us → us ≤ 2000 →
    (s.get (.OUT_STATUS_STATE o) = txVideo ∨ s.get (.OUT_STATUS_STATE o) = txBlank) → lockLost (s.get (.OUT_STATUS_LANES o)) bs = true → 8 ≤ (s.recentRetrains o).length →
    Gives (.irqHpd o us (some bs)) s fun t => t.get (.OUT_STATUS_STATE o) = txFailed ∧ t.on .OUT_INT_STATUS_TRAIN_FAIL = true
      ∧ (t.outp o).videoWait = true
      ∧ Keeps [.outs] (only (faultRegs ++ lstatRegs o ++ [Reg.OUT_STATUS o, Reg.OUT_LINK o, Reg.OUT_INT_STATUS])) s t) ∧
  (∀ (o : Fin 16) (us : Nat) (bs : List Byte) (s : State), s.up → 250 ≤ us → us ≤ 2000 →
    (s.get (.OUT_STATUS_STATE o) = txVideo ∨ s.get (.OUT_STATUS_STATE o) = txBlank) → lockLost (s.get (.OUT_STATUS_LANES o)) bs = false →
    Gives (.irqHpd o us (some bs)) s fun t => t.get (.OUT_STATUS_STATE o) = s.get (.OUT_STATUS_STATE o) ∧ t.on .OUT_INT_STATUS_HPD = true
      ∧ t.get (.OUT_LINK_IRQ_HPD o) = satAdd (Fld.OUT_LINK_IRQ_HPD o).wid (s.get (.OUT_LINK_IRQ_HPD o)) 1
      ∧ Keeps [] (only (faultRegs ++ lstatRegs o ++ [Reg.OUT_LINK o, Reg.OUT_INT_STATUS])) s t)

/-- AUX requests, replies, timeouts and sink readings act as the AUX rules say. A GO while busy changes nothing; a write into a protected range ends with result 4 and an idle transmitter with result 5, nothing sent; otherwise BUSY is set and the request queued: sent where nothing is in flight and it can finish before the next sink-check read, and behind another transaction when that one ends. A good reply to a Banker write ends it with result 0; a deferred one is repeated until its eighth; a timeout is repeated twice, and the third ends the request with result 3 and counts AUX_FAIL. A sink reading, while the sink is checked, whose frame count moved and whose CRCs differ from the last clears the run of misses and is kept; a missing one counts a miss. The answer 5 to a request made in IDLE or WAIT_HPD, and the longest time taken for a transaction that must finish before the next read, are the model's readings (log 66). Rests on: 04_output.md R154, 02_liveness.md R76, 02_liveness.md R77. -/
def Obligations.AuxTransactionsRunInOrder : Prop :=
  (∀ (o : Fin 16) (s : State), s.up → s.on (.OUT_AUX_STAT_BUSY o) = true → exec (.outAuxGo o) s = .next s.quiet) ∧
  (∀ (o : Fin 16) (s : State), s.up → s.on (.OUT_AUX_STAT_BUSY o) = false →
    (auxProtected (s.get (.OUT_AUX_CTRL_CMD o)) (s.get (.OUT_AUX_CTRL_ADDR o)) (s.get (.OUT_AUX_CTRL_LEN o) + 1) = true
      ∨ s.get (.OUT_STATUS_STATE o) = txIdle ∨ s.get (.OUT_STATUS_STATE o) = txWaitHpd) → Gives (.outAuxGo o) s fun t =>
      t.get (.OUT_AUX_STAT_RESULT o) = (if auxProtected (s.get (.OUT_AUX_CTRL_CMD o)) (s.get (.OUT_AUX_CTRL_ADDR o))
          (s.get (.OUT_AUX_CTRL_LEN o) + 1) then 4 else 5)
        ∧ t.get (.OUT_AUX_STAT_RETRIES o) = 0 ∧ t.on .OUT_INT_STATUS_AUX_DONE = true ∧ t.out = []
        ∧ Keeps [] (only [Reg.OUT_AUX_STAT o, Reg.OUT_INT_STATUS]) s t) ∧
  (∀ (o : Fin 16) (s : State), s.up → s.on (.OUT_AUX_STAT_BUSY o) = false →
    auxProtected (s.get (.OUT_AUX_CTRL_CMD o)) (s.get (.OUT_AUX_CTRL_ADDR o)) (s.get (.OUT_AUX_CTRL_LEN o) + 1) = false →
    s.get (.OUT_STATUS_STATE o) ≠ txIdle → s.get (.OUT_STATUS_STATE o) ≠ txWaitHpd → Gives (.outAuxGo o) s fun t =>
      t.on (.OUT_AUX_STAT_BUSY o) = true
        ∧ (∃ q, (t.outp o).aux = (s.outp o).aux ++ [q] ∧ t.auxSent o = (if (s.outp o).aux = [] ∧ s.auxFits o = true then [q] else []) ∧ q.kind = 0 ∧ q.cmd = s.get (.OUT_AUX_CTRL_CMD o)
            ∧ q.addr = s.get (.OUT_AUX_CTRL_ADDR o) ∧ q.len = s.get (.OUT_AUX_CTRL_LEN o) + 1 ∧ q.retries = 0 ∧ q.defers = 0)
        ∧ Keeps [.outs] (only [Reg.OUT_AUX_STAT o]) s t) ∧
  (∀ (o : Fin 16) (bs : List Byte) (r : AuxReq) (rs : List AuxReq) (s : State), s.up → (s.outp o).aux = r :: rs →
    (s.outp o).auxHeld = false → r.kind = 0 → r.cmd % 2 = 1 → Gives (.auxReply o (.ack bs)) s fun t =>
      (t.outp o).aux = rs ∧ t.auxSent o = ((rs.take 1).filter fun q => q.kind != 0 || s.auxFits o) ∧ t.on (.OUT_AUX_STAT_BUSY o) = false
        ∧ t.get (.OUT_AUX_STAT_RESULT o) = 0
        ∧ t.get (.OUT_AUX_STAT_RETRIES o) = min (r.retries + r.defers) 7 ∧ t.on .OUT_INT_STATUS_AUX_DONE = true
        ∧ Keeps [.outs] (only (faultRegs ++ [Reg.OUT_AUX_STAT o, Reg.OUT_INT_STATUS])) s t) ∧
  (∀ (o : Fin 16) (r : AuxReq) (rs : List AuxReq) (s : State), s.up → (s.outp o).aux = r :: rs →
    (s.outp o).auxHeld = false → r.defers < 7 →
    Gives (.auxReply o .defer) s fun t => (t.outp o).aux = { r with defers := r.defers + 1 } :: rs
      ∧ t.auxSent o = [{ r with defers := r.defers + 1 }] ∧ Keeps [.outs] (only faultRegs) s t) ∧
  (∀ (o : Fin 16) (r : AuxReq) (rs : List AuxReq) (s : State), s.up → (s.outp o).aux = r :: rs →
    (s.outp o).auxHeld = false → r.retries < 2 →
    Gives (.auxTimeout o) s fun t => (t.outp o).aux = { r with retries := r.retries + 1 } :: rs
      ∧ t.auxSent o = [{ r with retries := r.retries + 1 }] ∧ Keeps [.outs] (only faultRegs) s t) ∧
  (∀ (o : Fin 16) (r : AuxReq) (rs : List AuxReq) (s : State), s.up → (s.outp o).aux = r :: rs →
    (s.outp o).auxHeld = false → 2 ≤ r.retries → r.kind = 0 → Gives (.auxTimeout o) s fun t => (t.outp o).aux = rs ∧ t.on (.OUT_AUX_STAT_BUSY o) = false ∧ t.get (.OUT_AUX_STAT_RESULT o) = 3
      ∧ t.get (.OUT_LINK_AUX_FAIL o) = satAdd (Fld.OUT_LINK_AUX_FAIL o).wid (s.get (.OUT_LINK_AUX_FAIL o)) 1
      ∧ Keeps [.outs] (only (faultRegs ++ [Reg.OUT_AUX_STAT o, Reg.OUT_INT_STATUS, Reg.OUT_LINK o])) s t) ∧
  (∀ (o : Fin 16) (a b : SinkReading) (s : State), s.scoring → s.on (.CMP_LV_OUT_SINK_ACTIVE o) = true → (s.outp o).sinkPrev = some b →
    a.count ≠ b.count → a.crcG ≠ b.crcG → Gives (.sinkCrcReading o (some a)) s fun t =>
      t.get (.CMP_LV_OUT_MISS_RUN o) = 0 ∧ (t.outp o).sinkPrev = some a ∧ t.get (.CMP_LV_SINKCRC_CRC_G o) = a.crcG.toNat
        ∧ Keeps [.outs] (only (faultRegs ++ [Reg.CMP_LV_OUT o, Reg.CMP_LV_SINKCRC o])) s t) ∧
  (∀ (o : Fin 16) (s : State), s.scoring → s.on (.CMP_LV_OUT_SINK_ACTIVE o) = true →
    satAdd (Fld.CMP_LV_OUT_MISS_RUN o).wid (s.get (.CMP_LV_OUT_MISS_RUN o)) 1 < s.get (.CMP_LV_OUT_MISS_LIMIT o) →
    Gives (.sinkCrcReading o none) s fun t =>
      t.get (.CMP_LV_OUT_MISS_RUN o) = satAdd (Fld.CMP_LV_OUT_MISS_RUN o).wid (s.get (.CMP_LV_OUT_MISS_RUN o)) 1
        ∧ t.on .CMP_LV_INT_STATUS_SINK_MISS = true
        ∧ Keeps [.outs] (only (faultRegs ++ [Reg.CMP_LV_OUT o, Reg.CMP_LV_INT_STATUS, Reg.OUT_LINK o])) s t)

/-- Composed lines are kept, masked or recomputed by their lane signatures; frames begin, scan and end. A line of a running output within its picture, with room in the FIFO and not in it yet, for which the composer reads no failing block, whose two copies sign alike, no tile of it black, waits in the FIFO as good; copies that differ count a mismatch and cost 3 recompute credits, or mask the line when fewer are left; a recompute that agrees waits as good and counts, one that differs masks; a line whose graphic layer's data fail, at its composition or its recompute, is masked with cause 4. A line that cannot be taken, and a recompute that is not due, change nothing. A frame start on an output not in active video takes the time and tick, counts the frame and gives 6 credits; lines composed and masked before it still count. A line scanned is sent where the output sends and its pads drive (no near-end loop), gives back a credit, drops the FIFO up to it, and changes no memory unless a copy buffer is open. The end of active video closes the frame, keeps its two signatures and asks for the check if every line was sent. That a fetch checks its blocks at once is the model's reading (log 49). Rests on: 03_composition.md R119, 03_composition.md R120, 04_output.md R134, 04_output.md R146, 04_output.md R141, 02_liveness.md R74, 03_composition.md R121, 07_fabric.md R217. -/
def Obligations.LinesAreCheckedBeforeTheyAreShown : Prop :=
  (∀ (o : Fin 16) (y : Nat) (fa fb : Flips) (s : State), s.up → (s.outp o).running = true → y < s.vAct o → (s.outp o).fifo.length < 4 →
    (s.outp o).fifoAt y = none → s.fetchLine o y = (s, false) → lineSig (disturb fa (s.composeLine o y)) = lineSig (disturb fb (s.composeLine o y)) →
    (∀ l ∈ s.crossing o y, (s.tile l).blackFrom = none) → Gives (.lineSignatureCompare o y fa fb) s fun t =>
      (t.outp o).fifo = ((s.outp o).fifo.filter fun e => e.line != y)
          ++ [⟨y, .good (disturb fa (s.composeLine o y)) (disturb fb (s.composeLine o y))⟩]
        ∧ (∀ p, p ≠ o.val → t.outp p = s.outp p) ∧ Keeps [.outs] (only []) s t) ∧
  (∀ (o : Fin 16) (y : Nat) (fa fb : Flips) (s : State), s.up → (s.outp o).running = true → y < s.vAct o → (s.outp o).fifo.length < 4 →
    (s.outp o).fifoAt y = none → s.fetchLine o y = (s, false) → lineSig (disturb fa (s.composeLine o y)) ≠ lineSig (disturb fb (s.composeLine o y)) →
    3 ≤ s.get (.CMP_OC_STATUS_RCREDIT o) → Gives (.lineSignatureCompare o y fa fb) s fun t =>
      (t.outp o).fifo = ((s.outp o).fifo.filter fun e => e.line != y) ++ [⟨y, .recompute⟩]
        ∧ t.get (.CMP_OC_STATUS_RCREDIT o) = s.get (.CMP_OC_STATUS_RCREDIT o) - 3
        ∧ t.get (.CMP_OC_LINECHK_MISMATCH o) = satAdd (Fld.CMP_OC_LINECHK_MISMATCH o).wid (s.get (.CMP_OC_LINECHK_MISMATCH o)) 1
        ∧ Keeps [.outs] (only [Reg.CMP_OC_STATUS o, Reg.CMP_OC_LINECHK o]) s t) ∧
  (∀ (o : Fin 16) (y : Nat) (fa fb : Flips) (s : State), s.up → (s.outp o).running = true → y < s.vAct o → (s.outp o).fifo.length < 4 →
    (s.outp o).fifoAt y = none → s.fetchLine o y = (s, false) → lineSig (disturb fa (s.composeLine o y)) ≠ lineSig (disturb fb (s.composeLine o y)) →
    s.get (.CMP_OC_STATUS_RCREDIT o) < 3 → Gives (.lineSignatureCompare o y fa fb) s fun t =>
      (t.outp o).fifo = ((s.outp o).fifo.filter fun e => e.line != y) ++ [⟨y, .masked 2⟩]
        ∧ (t.outp o).linesMasked = (s.outp o).linesMasked + 1 ∧ t.on .CMP_INT_STATUS_LINE_MASKED = true
        ∧ t.get (.CMP_OC_MASK_LAST_LINE o) = y % 8192 ∧ t.get (.CMP_OC_MASK_LAST_CAUSE o) = 2
        ∧ Keeps [.outs, .tiles] (only [Reg.CMP_OC_LINECHK o, Reg.CMP_OC_MASKED o, Reg.CMP_OC_MASK_LAST o, Reg.CMP_INT_STATUS]) s t) ∧
  (∀ (o : Fin 16) (y : Nat) (fa fb : Flips) (s : State), s.up → (s.outp o).fifoAt y = some .recompute → s.fetchLine o y = (s, false) →
    lineSig (disturb fa (s.composeLine o y)) ≠ lineSig (disturb fb (s.composeLine o y)) → Gives (.lineRecompute o y fa fb) s fun t =>
      (t.outp o).fifo = ((s.outp o).fifo.filter fun e => e.line != y) ++ [⟨y, .masked 1⟩] ∧ t.on .CMP_INT_STATUS_LINE_MASKED = true
        ∧ Keeps [.outs, .tiles] (only [Reg.CMP_OC_MASKED o, Reg.CMP_OC_MASK_LAST o, Reg.CMP_INT_STATUS]) s t) ∧
  (∀ (o : Fin 16) (y : Nat) (fa fb : Flips) (s : State), s.up → (s.outp o).fifoAt y = some .recompute → s.fetchLine o y = (s, false) →
    lineSig (disturb fa (s.composeLine o y)) = lineSig (disturb fb (s.composeLine o y)) →
    (∀ l ∈ s.crossing o y, (s.tile l).blackFrom = none) → Gives (.lineRecompute o y fa fb) s fun t =>
      (t.outp o).fifo = ((s.outp o).fifo.filter fun e => e.line != y)
          ++ [⟨y, .good (disturb fa (s.composeLine o y)) (disturb fb (s.composeLine o y))⟩]
        ∧ t.get (.CMP_OC_LINECHK_RECOMPUTED o) = satAdd (Fld.CMP_OC_LINECHK_RECOMPUTED o).wid (s.get (.CMP_OC_LINECHK_RECOMPUTED o)) 1
        ∧ Keeps [.outs] (only [Reg.CMP_OC_LINECHK o]) s t) ∧
  (∀ (o : Fin 16) (w : Word) (s : State), s.up → s.cmd.runs = [] → (s.outp o).running = true → (s.outp o).active = false →
    Gives (.outputFrameStart o w) s fun t =>
      (t.outp o).active = true ∧ (t.outp o).frameTick = s.tick ∧ (t.outp o).linesMasked = (s.outp o).linesMasked ∧ t.time.now = w
        ∧ t.get (.OUT_FRAME_FRAME o) = (s.get (.OUT_FRAME_FRAME o) + 1) % 2 ^ (Fld.OUT_FRAME_FRAME o).wid
        ∧ t.get (.CMP_OC_STATUS_RCREDIT o) = 6 ∧ t.get (.CMP_OC_MASKED_LAST_FRAME o) = s.get (.CMP_OC_MASKED_LAST_FRAME o)
        ∧ (∀ p, p ≠ o.val → t.outp p = s.outp p) ∧ Keeps [.outs, .tiles, .slots, .dealer, .time, .sco, .mem, .freeCtr] anyReg s t) ∧
  (∀ (o : Fin 16) (i : ScanIn) (s : State), s.up → (s.outp o).running = true → (s.outp o).active = true → i.line < s.vAct o →
    Gives (.lineScan o i) s fun t =>
      (t.outp o).fifo = ((s.outp o).fifo.filter fun e => decide (i.line < e.line)) ∧ t.time.now = i.t
        ∧ t.get (.CMP_OC_STATUS_RCREDIT o) = min (s.get (.CMP_OC_STATUS_RCREDIT o) + 1) 6
        ∧ ((t.outp o).sending = true → s.padOn o = true → ∃ px, Emission.videoLine o i.line px ∈ t.out)
        ∧ t.mram = s.mram ∧ t.flash = s.flash ∧ t.plat = s.plat ∧ t.pending = s.pending ∧ (s.copyBuf o = none → t.dram = s.dram)) ∧
  (∀ (o : Fin 16) (s : State), s.up → (s.outp o).active = true → s.copyBuf o = none → Gives (.activeVideoEnd o) s fun t =>
      (t.outp o).active = false ∧ (t.outp o).fifo = [] ∧ (t.outp o).linesMasked = 0 ∧ (t.outp o).checkPending = (s.outp o).allSent
        ∧ (t.outp o).sigAct = ((s.outp o).crcAct ^^^ 0xFFFFFFFF#32) ∧ (t.outp o).sigExp = ((s.outp o).crcExp ^^^ 0xFFFFFFFF#32)
        ∧ Keeps [.outs, .tiles, .slots, .descs, .sco] anyReg s t) ∧
  (∀ (o : Fin 16) (d : Nat) (s : State), s.up → (s.outp o).active = true → s.copyBuf o = some d → Gives (.activeVideoEnd o) s fun t =>
      (t.outp o).active = false ∧ (t.outp o).fifo = [] ∧ (t.outp o).linesMasked = 0 ∧ (t.outp o).checkPending = (s.outp o).allSent
        ∧ (t.outp o).sigAct = ((s.outp o).crcAct ^^^ 0xFFFFFFFF#32) ∧ (t.outp o).sigExp = ((s.outp o).crcExp ^^^ 0xFFFFFFFF#32)
        ∧ t.mram = s.mram ∧ t.flash = s.flash ∧ t.plat = s.plat ∧ t.pending = s.pending) ∧
  (∀ (o : Fin 16) (y : Nat) (fa fb : Flips) (s : State), s.up → (s.outp o).running = true → y < s.vAct o → (s.outp o).fifo.length < 4 →
    (s.outp o).fifoAt y = none → (s.fetchLine o y).2 = true → Gives (.lineSignatureCompare o y fa fb) s fun t =>
      (t.outp o).fifoAt y = some (.masked 4) ∧ t.on .CMP_INT_STATUS_LINE_MASKED = true ∧ t.get (.CMP_OC_MASK_LAST_LINE o) = y % 8192
        ∧ t.get (.CMP_OC_MASK_LAST_CAUSE o) = 4 ∧ MemoryFrame s t) ∧
  (∀ (o : Fin 16) (y : Nat) (fa fb : Flips) (s : State), s.up → ((s.outp o).running = false ∨ s.vAct o ≤ y ∨ 4 ≤ (s.outp o).fifo.length ∨ (s.outp o).fifoAt y ≠ none) →
    exec (.lineSignatureCompare o y fa fb) s = .next s.quiet) ∧
  (∀ (o : Fin 16) (y : Nat) (fa fb : Flips) (s : State), s.up → (s.outp o).fifoAt y ≠ some .recompute →
    exec (.lineRecompute o y fa fb) s = .next s.quiet) ∧
  (∀ (o : Fin 16) (y : Nat) (fa fb : Flips) (s : State), s.up → (s.outp o).fifoAt y = some .recompute → (s.fetchLine o y).2 = true →
    Gives (.lineRecompute o y fa fb) s fun t => (t.outp o).fifoAt y = some (.masked 4) ∧ t.on .CMP_INT_STATUS_LINE_MASKED = true
      ∧ t.get (.CMP_OC_MASK_LAST_CAUSE o) = 4 ∧ MemoryFrame s t) ∧
  (∀ (o : Fin 16) (i : ScanIn) (s : State), s.up → (s.outp o).running = true → (s.outp o).active = true → i.line < s.vAct o → s.padOn o = false →
    Gives (.lineScan o i) s fun t => (∀ p l px, Emission.videoLine p l px ∉ t.out) ∧ t.time.now = i.t)

/-- The Scorer checks a frame's signatures, delivers its verdicts in time, and the locks follow their inputs. A frame waiting for its check is checked once: SCAN_MISMATCH says whether the two signatures differ, and the run of mismatches counts on or starts again. Verdicts in time put the Scorer's judgement of every enabled layer into the layer's inbox and mark the delivery; late ones mark it missing. A line start of a locked output records the phase error and counts toward lock; a SYNC_IN pulse on the wrong edge or in another tick mode changes nothing, one too narrow counts as a glitch, one within 2 us of the boundary in TRACK corrects the next interval by its error and the period by a sixteenth of it, and one that makes the reference stable more than 0.1 % off the centre enters RATE at once. RESYNC without a reference rate answers STATE, and with a period not measured or more than 0.3 % off the tick period RANGE; it is requested only with code OK. That a pulse has its window judged at once is the model's choice (log 89). Rests on: 02_liveness.md R75, 02_liveness.md R80, 02_liveness.md R84, 05_capture.md R175, 04_output.md R135, 04_output.md R139, 04_output.md R136. -/
def Obligations.ScorerJudgesFramesAndDelivers : Prop :=
  (∀ (o : Fin 16) (s : State), s.scoring → (s.outp o).checkPending = true → Gives (.scanSignatureCheck o) s fun t =>
    t.on (.CMP_LV_OUT_SCAN_MISMATCH o) = decide ((s.outp o).sigAct ≠ (s.outp o).sigExp) ∧ (t.outp o).checkPending = false
      ∧ (t.outp o).misRun = (if (s.outp o).sigAct ≠ (s.outp o).sigExp then (s.outp o).misRun + 1 else 0)
      ∧ (t.outp o).sigHist = [(s.outp o).sigAct] ++ (s.outp o).sigHist.take 1
      ∧ (∀ p, p ≠ o.val → t.outp p = s.outp p) ∧ Keeps [.outs, .sco] anyReg s t) ∧
  (∀ (o : Fin 16) (s : State), s.scoring → (s.outp o).checkPending = false → Gives (.scanSignatureCheck o) s fun t =>
    Keeps [] (only faultRegs) s t) ∧
  (∀ s : State, s.scoring → Gives (.scorerVerdict true) s fun t => t.sco.delivered = true
    ∧ (∀ l ∈ s.layersOn, (t.tile l).inbox
        = some ⟨(s.tile l).sco.state, (s.tile l).sco.mask, (s.tile l).sco.isRipe, (s.tile l).cmp.state⟩)
    ∧ Keeps [.tiles, .outs, .sco] anyReg s t) ∧
  (∀ s : State, s.scoring → Gives (.scorerVerdict false) s fun t => t.sco = { s.sco with delivered := false }
    ∧ Keeps [.sco] (only faultRegs) s t) ∧
  (∀ (o : Fin 16) (eps : Int) (s : State), s.up → s.lineLocked o = true → Gives (.lineLockUpdate o eps) s fun t =>
    (t.outp o).llkRun = (if eps.natAbs ≤ 50 then min ((s.outp o).llkRun + 1) 64 else 0)
      ∧ t.on (.CAP_LLK_LLK_LOCKED o) = decide (eps.natAbs ≤ 50 ∧ 63 ≤ (s.outp o).llkRun) ∧ t.on (.CAP_LLK_FALLBACK o) = false
      ∧ Keeps [.outs, .freeCtr] (only [Reg.CAP_LLK o, Reg.CAP_LLK_ERR o, Reg.OUT_TRIM o]) s t) ∧
  (∀ (o : Fin 16) (eps : Int) (s : State), s.up → s.lineLocked o = false → exec (.lineLockUpdate o eps) s = .next s.quiet) ∧
  (∀ (w : Word) (n : Nat) (f : Bool) (s : State), s.up → (s.syncMode = false ∨ f ≠ s.on .OUT_REF_CFG_EDGE) →
    exec (.syncInPulse w n f) s = .next s.quiet) ∧
  (∀ (w : Word) (n : Nat) (f : Bool) (s : State), s.up → s.syncMode = true → f = s.on .OUT_REF_CFG_EDGE →
    n < s.get .OUT_REF_CFG_MIN_WIDTH * 10 → (s.dealer.judged = true ∨ s.dealer.started = false) → Gives (.syncInPulse w n f) s fun t =>
      t.get .OUT_REF_CNT_GLITCH = satAdd (Fld.OUT_REF_CNT_GLITCH).wid (s.get .OUT_REF_CNT_GLITCH) 1 ∧ t.dealer = s.dealer
        ∧ Keeps [.time] (only [Reg.OUT_REF_CNT]) s t) ∧
  (∀ (w : Word) (n : Nat) (f : Bool) (s : State), s.up → s.syncMode = true → f = s.on .OUT_REF_CFG_EDGE →
    s.get .OUT_REF_CFG_MIN_WIDTH * 10 ≤ n → s.refState ≠ refAcquire → s.refState ≠ refHoldover →
    (s.dealer.judged = true ∨ s.dealer.started = false) → Gives (.syncInPulse w n f) s fun t =>
      t.dealer = { s.dealer with pulses := (w :: s.dealer.pulses).take 4 }
        ∧ Keeps [.dealer, .time, .freeCtr] (only [Reg.OUT_REF_CNT, Reg.OUT_REF_STATUS, Reg.OUT_REF_MEAS]) s t) ∧
  (∀ s : State, s.up → s.on .OUT_REF_STATUS_REF_RATE = false → Gives .outResyncGo s fun t =>
    t.get .OUT_RESYNC_CODE = 2 ∧ t.dealer = s.dealer ∧ Keeps [] (only (faultRegs ++ [Reg.OUT_RESYNC])) s t) ∧
  (∀ (m : Rat) (s : State), s.up → s.on .OUT_REF_STATUS_REF_RATE = true → s.measured = some m →
    absQ (m - s.pTick) ≤ s.pTick * 3 / 1000 → Gives .outResyncGo s fun t =>
      t.get .OUT_RESYNC_CODE = 0 ∧ t.dealer = { s.dealer with resyncReq := true }
        ∧ Keeps [.dealer] (only (faultRegs ++ [Reg.OUT_RESYNC])) s t) ∧
  (∀ (w : Word) (n : Nat) (f : Bool) (m : Rat) (s : State), s.up → s.syncMode = true → f = s.on .OUT_REF_CFG_EDGE →
    s.get .OUT_REF_CFG_MIN_WIDTH * 10 ≤ n → (s.refState = refAcquire ∨ s.refState = refHoldover) →
    (s.dealer.judged = true ∨ s.dealer.started = false) → ((s.at_ w).updDealer fun d => { d with pulses := (w :: d.pulses).take 4 }).measured = some m →
    s.pCentre / 1000 < absQ (m - s.pCentre) → Gives (.syncInPulse w n f) s fun t =>
      t.refState = refRate ∧ t.on .OUT_REF_STATUS_REF_RATE = true ∧ t.on .OUT_INT_STATUS_REF_RATE = true
        ∧ t.on .OUT_REF_STATUS_STABLE = true
        ∧ Keeps [.dealer, .time, .freeCtr] (only [Reg.OUT_REF_CNT, Reg.OUT_REF_STATUS, Reg.OUT_REF_MEAS, Reg.OUT_INT_STATUS]) s t) ∧
  (∀ (w : Word) (n : Nat) (f : Bool) (e : Int) (s : State), s.up → s.syncMode = true → f = s.on .OUT_REF_CFG_EDGE →
    s.get .OUT_REF_CFG_MIN_WIDTH * 10 ≤ n → s.refState = refTrack → s.dealer.started = true → s.dealer.judged = false →
    wordDiff w s.dealer.edge ≤ 2000 →
    (s.updDealer fun d => { d with pulses := (w :: d.pulses).take 4 }).nearestErr = some e → e.natAbs ≤ 2000 →
    Gives (.syncInPulse w n f) s fun t => t.refState = refTrack
        ∧ t.dealer = { s.dealer with pulses := (w :: s.dealer.pulses).take 4, judged := true, corr := (e : Rat), missRun := 0,
                                     delta := s.nearCentre (s.dealer.delta + e * 4096) }
        ∧ Keeps [.dealer, .time, .freeCtr] (only [Reg.OUT_REF_CNT, Reg.OUT_REF_STATUS, Reg.OUT_REF_MEAS, Reg.OUT_REF_ERR, Reg.OUT_REF_DELTA]) s t) ∧
  (∀ s : State, s.up → s.on .OUT_REF_STATUS_REF_RATE = true →
    (s.measured = none ∨ ∃ m, s.measured = some m ∧ s.pTick * 3 / 1000 < absQ (m - s.pTick)) → Gives .outResyncGo s fun t =>
      t.get .OUT_RESYNC_CODE = 3 ∧ t.dealer = s.dealer ∧ Keeps [] (only (faultRegs ++ [Reg.OUT_RESYNC])) s t)

/-- A receiver trains, locks, loses lock and accepts formats as the receiver rules say, and answers its source on AUX. Outside OFF, a training pattern takes a receiver to TRAINING, out of VIDEO with VIDEO_OFF and its frame ended, and pattern 0 ends training in LINKED with the link's lanes and rate, the training counted, or in WAIT_TRAIN when it failed. A lock loss in LINKED takes it to LOST, counts the loss and pulses HPD for 750 us; the time-out in LOST takes it to WAIT_TRAIN with a long HPD low. A second identical attribute packet without cause takes LINKED to VIDEO with its format, a first only records it; no video takes FORMAT to LINKED. A DPCD read is answered with the bytes, an I2C access to another address refused. Two packets are identical by the attributes of msaKey, as the model reads it (log 68). Rests on: 05_capture.md R161, 05_capture.md R160, 05_capture.md R162, 05_capture.md R167. -/
def Obligations.ReceiverFollowsItsLink : Prop :=
  (∀ (i : Fin 16) (n : Nat) (g : Bool) (k : LinkCfg) (s : State), s.up → s.rxState i ≠ rxOff → s.rxState i ≠ rxVideo → n ≠ 0 →
    Gives (.rxTrainingPatternSet i n g k) s fun t => t.rxState i = rxTraining ∧ (t.cap i).pattern = n
      ∧ t.on (.CAP_STATUS_PRESENT i) = (if s.rxState i = rxTraining then s.on (.CAP_STATUS_PRESENT i) else false)
      ∧ (∀ l < 4, t.on (.SER_LSTAT_SYNC (16 + i) l) = false ∧ t.on (.SER_LSTAT_GOOD (16 + i) l) = false)
      ∧ (∀ j, j ≠ i.val → t.cap j = s.cap j) ∧ Keeps [.caps] (only (Reg.CAP_STATUS i :: lstatRegs (16 + i))) s t) ∧
  (∀ (i : Fin 16) (k : LinkCfg) (s : State), s.up → s.rxState i = rxTraining → Gives (.rxTrainingPatternSet i 0 true k) s fun t =>
      t.rxState i = rxLinked ∧ (t.cap i).lostLanes = 0 ∧ (t.cap i).msaRun = 0 ∧ (t.cap i).accepted = none
        ∧ t.get (.CAP_STATUS_LANES i) = k.lanes % 4 ∧ t.get (.CAP_STATUS_RATE i) = k.rate % 4
        ∧ t.get (.CAP_LINK_TRAIN i) = satAdd 8 (s.get (.CAP_LINK_TRAIN i)) 1
        ∧ (∀ l < 4, t.on (.SER_LSTAT_GOOD (16 + i) l) = decide (l < 2 ^ k.lanes))
        ∧ Keeps [.caps] (only ([Reg.CAP_STATUS i, Reg.CAP_LINK i] ++ (List.range 4).map (Reg.SER_LSTAT (16 + i)))) s t) ∧
  (∀ (i : Fin 16) (k : LinkCfg) (s : State), s.up → s.rxState i = rxTraining → Gives (.rxTrainingPatternSet i 0 false k) s fun t =>
      t.rxState i = rxWaitTrain ∧ (∀ l < 4, t.on (.SER_LSTAT_GOOD (16 + i) l) = false)
        ∧ Keeps [.caps] (only ([Reg.CAP_STATUS i] ++ lstatRegs (16 + i))) s t) ∧
  (∀ (i : Fin 16) (lanes : Nat) (s : State), s.up → s.rxState i = rxLinked → Gives (.rxLockLoss i lanes) s fun t =>
      t.rxState i = rxLost ∧ t.on .CAP_INT_STATUS_LOCK_LOST = true ∧ (t.cap i).lostLanes = lanes % 32
        ∧ t.get (.CAP_LINK_LOST i) = satAdd 8 (s.get (.CAP_LINK_LOST i)) 1
        ∧ t.get (.CAP_LINK_IRQ_SENT i) = satAdd 8 (s.get (.CAP_LINK_IRQ_SENT i)) 1 ∧ t.out = [.rxHpd i 750]
        ∧ (∀ l < 4, bitOf lanes l = true → t.on (.SER_LSTAT_GOOD (16 + i) l) = false)
        ∧ Keeps [.caps] (only ([Reg.CAP_STATUS i, Reg.CAP_LINK i, Reg.CAP_INT_STATUS, Reg.CAP_ERR i] ++ lstatRegs (16 + i)
            ++ (List.range 4).map (Reg.SER_LERR (16 + i)))) s t) ∧
  (∀ (i : Fin 16) (s : State), s.up → s.rxState i = rxLost → Gives (.rxLostTimeout i) s fun t =>
      t.rxState i = rxWaitTrain ∧ t.get (.CAP_LINK_LONG_HPD i) = satAdd 8 (s.get (.CAP_LINK_LONG_HPD i)) 1
        ∧ (∀ l < 4, t.on (.SER_LSTAT_SYNC (16 + i) l) = false ∧ t.on (.SER_LSTAT_GOOD (16 + i) l) = false)
        ∧ t.out = [.rxHpd i 100000] ∧ Keeps [.caps] (only ([Reg.CAP_STATUS i, Reg.CAP_LINK i] ++ lstatRegs (16 + i))) s t) ∧
  (∀ (i : Fin 16) (m q : MsaIn) (s : State), s.up → s.rxState i = rxLinked → (s.cap i).lastMsa = some q → msaKey q = msaKey m →
    1 ≤ (s.cap i).msaRun → s.msaCause i q = 0 → s.msaCause i m = 0 → Gives (.msa i m) s fun t =>
      t.rxState i = rxVideo ∧ (t.cap i).accepted = some m ∧ (t.cap i).frameNo = 0 ∧ t.on .CAP_INT_STATUS_VIDEO_ON = true
        ∧ t.get (.CAP_STATUS_FMT_CAUSE i) = 0 ∧ MemoryFrame s t) ∧
  (∀ (i : Fin 16) (m : MsaIn) (s : State), s.up → s.rxState i = rxLinked → (s.cap i).lastMsa = none → Gives (.msa i m) s fun t =>
      t.rxState i = rxLinked ∧ (t.cap i).lastMsa = some m ∧ (t.cap i).msaRun = 1
        ∧ t.get (.CAP_MSA_ACT_H i) = m.hAct % 65536 ∧ t.get (.CAP_MSA_ACT_V i) = m.vAct % 65536
        ∧ Keeps [.caps] (only [Reg.CAP_MSA_ACT i, Reg.CAP_MSA_TOT i, Reg.CAP_MEAS i]) s t) ∧
  (∀ (i : Fin 16) (s : State), s.up → s.rxState i = rxFormat → Gives (.noVideoStream i) s fun t =>
      t.rxState i = rxLinked ∧ (t.cap i).lastMsa = none ∧ (t.cap i).accepted = none
        ∧ Keeps [.caps] (only [Reg.CAP_STATUS i, Reg.CAP_LINK i]) s t) ∧
  (∀ (i : Fin 16) (a n : Nat) (s : State), s.up → s.rxState i ≠ rxOff → Gives (.rxAuxTransaction i (.dpcdRead a n)) s fun t =>
      t.out = [.rxReply i true ((List.range n).map fun k => s.dpcdByte i (a + k))] ∧ Keeps [] (only []) s t) ∧
  (∀ (i : Fin 16) (a n : Nat) (s : State), s.up → s.rxState i ≠ rxOff → a ≠ 0x50 → Gives (.rxAuxTransaction i (.i2cRead a n)) s fun t =>
      t.out = [.rxReply i false []] ∧ Keeps [] (only []) s t) ∧
  (∀ (i : Fin 16) (n : Nat) (g : Bool) (k : LinkCfg) (s : State), s.up → s.rxState i = rxVideo → n ≠ 0 →
    Gives (.rxTrainingPatternSet i n g k) s fun t => t.rxState i = rxTraining ∧ (t.cap i).pattern = n ∧ (t.cap i).inFrame = false
      ∧ t.on (.CAP_STATUS_PRESENT i) = false ∧ t.on .CAP_INT_STATUS_VIDEO_OFF = true
      ∧ (∀ l < 4, t.on (.SER_LSTAT_SYNC (16 + i) l) = false ∧ t.on (.SER_LSTAT_GOOD (16 + i) l) = false)
      ∧ (∀ j, j ≠ i.val → t.cap j = s.cap j) ∧ MemoryFrame s t)

/-- Frames of an input begin, end, are stored with their header, or are discarded when damaged. In VIDEO, a start of active video opens a frame, takes the next sequence number and the time, and shows both; the end of a frame without a capture trick closes it with its freeze and tell signatures, storing nothing; with a trick that holds a buffer, it also marks the end of active video; a frame of other dimensions is damaged. A completed capture writes the header behind its check: with no failed sub-channel, one that fails the check leaves the buffer free and marked bad, reported and logged, and one accepted counts a captured frame and shows the buffer; one whose header lies in a failed sub-channel, so that nothing of it is written, is marked bad too. Damage to an open, undamaged frame counts it discarded; outside VIDEO the rows do nothing, but symbol errors count on the link and its lane unless the receiver is off. Rests on: 05_capture.md R164, 05_capture.md R165, 05_capture.md R166, 05_capture.md R167, 02_liveness.md R53, 02_liveness.md R58, 02_liveness.md R59, 03_composition.md R110, 03_composition.md R111, 03_composition.md R112, 08_memory.md R275. -/
def Obligations.InputFramesAreCapturedWhole : Prop :=
  (∀ (i : Fin 16) (w : Word) (s : State), s.up → s.rxState i = rxVideo → Gives (.inputSav i w) s fun t =>
      (t.cap i).inFrame = true ∧ (t.cap i).damaged = false ∧ (t.cap i).seq = (s.cap i).seq + 1 ∧ (t.cap i).frameNo = (s.cap i).frameNo + 1
        ∧ MemoryFrame s t) ∧
  (∀ (i : Fin 16) (w : Word) (s : State), s.up → s.rxState i = rxVideo → (s.cap i).inFrame = false → s.curDeal = [] →
    Gives (.inputSav i w) s fun t =>
      (t.cap i).inFrame = true ∧ (t.cap i).damaged = false ∧ (t.cap i).seq = (s.cap i).seq + 1 ∧ (t.cap i).frameNo = (s.cap i).frameNo + 1
        ∧ (t.cap i).savTick = s.tick ∧ t.word (Reg.CAP_SEQ i) = (s.cap i).seq + 1 ∧ t.word (Reg.CAP_SAV i) = w ∧ t.time.now = w
        ∧ (∀ j, j ≠ i.val → t.cap j = s.cap j) ∧ Keeps [.caps, .time] (only [Reg.CAP_SEQ i, Reg.CAP_SAV i]) s t) ∧
  (∀ (i : Fin 16) (w : Word) (s : State), s.up → s.rxState i ≠ rxVideo → s.curDeal = [] → exec (.inputSav i w) s = .next s.quiet) ∧
  (∀ (i : Fin 16) (f : Frame) (w : Word) (s : State), s.up → s.rxState i = rxVideo → (s.cap i).inFrame = true → s.capTrick i false = none →
    f.length = s.get (.CAP_DIM_V i) → (∀ l ∈ f, l.length = s.get (.CAP_DIM_H i)) → Gives (.inputEndOfActiveVideo i f w) s fun t =>
      (t.cap i).inFrame = false ∧ t.time.now = w
        ∧ (t.cap i).recDone = (s.cap i).recStart.map (fun r => { r with hdr := { r.hdr with
            frz := frzSig (s.get (.CAP_DIM_H i)) (s.get (.CAP_DIM_V i)) fun x y =>
              if s.get (.CAP_STATUS_ENC i) == 0 then (framePx f x y).b else (framePx f x y).a
            tell := tellSig (s.capTell i) (framePx f) } })
        ∧ Keeps [.caps, .time] (only []) s t) ∧
  (∀ (i : Fin 16) (f : Frame) (w : Word) (r : RunTrick) (d : Nat) (s : State), s.up → s.rxState i = rxVideo → (s.cap i).inFrame = true →
    s.capTrick i false = some r → r.buf = some d → f.length = s.get (.CAP_DIM_V i) → (∀ l ∈ f, l.length = s.get (.CAP_DIM_H i)) →
    s.get .MEM_STATUS_SC_FAILED = 0 → Gives (.inputEndOfActiveVideo i f w) s fun t =>
      (t.cap i).inFrame = false ∧ (∃ q ∈ t.dealer.tricks, q.trick = r.trick ∧ q.buf = some d ∧ q.eav = some w)
        ∧ (∀ q ∈ t.dealer.tricks, q.trick.cls = .capture → q.trick.job = i.val → q.buf = some d → q.eav = some w)
        ∧ Keeps [.caps, .time, .dealer, .dram, .mem] (only []) s t) ∧
  (∀ (i : Fin 16) (w : Word) (r : RunTrick) (c : BufRec) (d : Nat) (e : Word) (s : State), s.up → s.logRoom → s.staleRun .capture i = false → s.capTrick i true = some r →
    (s.cap i).recDone = some c → r.buf = some d → r.eav = some e → s.get .MEM_STATUS_SC_FAILED = 0 → Gives (.captureComplete i true w) s fun t =>
      (t.desc d) = { Desc.init with bad := true } ∧ t.on .CMP_INT_STATUS_BUF_BAD = true 
        ∧ (∀ q ∈ t.dealer.tricks, q.trick.cls = .capture → q.trick.job = i.val → q.buf ≠ some d)
        ∧ t.lastLog = some (0x0406, [d % 256, d / 256 % 256, 1, 0]) ∧ (∀ x, x ≠ d → t.desc x = s.desc x)
        ∧ Keeps [.time, .dram, .mem, .descs, .dealer, .sco] (only [Reg.CMP_INT_STATUS]) s t) ∧
  (∀ (i : Fin 16) (w : Word) (r : RunTrick) (c : BufRec) (d : Nat) (e : Word) (s : State), s.up → s.staleRun .capture i = false → s.capTrick i true = some r →
    (s.cap i).recDone = some c → r.buf = some d → r.eav = some e → d < 8192 → 1 ≤ c.hdr.format → c.hdr.format ≤ 6 →
    (c.hdr.width, c.hdr.height) = s.srcDim (s.desc d).src → s.get .MEM_STATUS_SC_FAILED = 0 → Gives (.captureComplete i false w) s fun t =>
      t.get (.CAP_FRAMES_CAPTURED i) = satAdd 16 (s.get (.CAP_FRAMES_CAPTURED i)) 1 ∧ t.get (.CAP_LASTBUF_INDEX i) = d
        ∧ t.get (.CAP_LASTBUF_TICK i) = s.tick16 ∧ (∀ q ∈ t.dealer.tricks, q.trick.cls = .capture → q.trick.job = i.val → q.buf ≠ some d)
        ∧ readBytes Config.dramFill t.dram (s.bufAddr d) 60 = c.hdr.body
        ∧ Keeps [.time, .dram, .mem, .descs, .dealer] (only [Reg.CAP_FRAMES i, Reg.CAP_LASTBUF i]) s t) ∧
  (∀ (i : Fin 16) (c : Damage) (s : State), s.up → s.logRoom → s.rxState i = rxVideo → (s.cap i).inFrame = true → (s.cap i).damaged = false →
    s.capTrick i false = none → Gives (.frameDamage i c) s fun t =>
      (t.cap i).damaged = true ∧ t.get (.CAP_FRAMES_DISCARDED i) = satAdd 16 (s.get (.CAP_FRAMES_DISCARDED i)) 1
        ∧ t.on .CAP_INT_STATUS_DAMAGED = true ∧ t.lastLog.map (·.1) = some 0x0406
        ∧ Keeps [.caps, .sco, .freeCtr] (only ([Reg.CAP_FRAMES i, Reg.CAP_INT_STATUS, Reg.CAP_ERR i] ++ (List.range 4).map (Reg.SER_LERR (16 + i)))) s t) ∧
  (∀ (i : Fin 16) (c : Damage) (s : State), s.up → s.rxState i ≠ rxVideo → (∀ l n, c ≠ .symbolError l n) →
    exec (.frameDamage i c) s = .next s.quiet) ∧
  (∀ (i : Fin 16) (l n : Nat) (s : State), s.up → s.rxState i ≠ rxVideo → s.rxState i ≠ rxOff → l < 4 →
    Gives (.frameDamage i (.symbolError l n)) s fun t =>
      t.get (.CAP_ERR_SYMBOL i) = satAdd (Fld.CAP_ERR_SYMBOL i).wid (s.get (.CAP_ERR_SYMBOL i)) n
        ∧ t.get (.SER_LERR_ERR (16 + i) l) = satAdd (Fld.SER_LERR_ERR (16 + i) l).wid (s.get (.SER_LERR_ERR (16 + i) l)) n
        ∧ Keeps [] (only [Reg.CAP_ERR i, Reg.SER_LERR (16 + i) l]) s t) ∧
  (∀ (i : Fin 16) (f : Frame) (w : Word) (s : State), s.up → (s.rxState i ≠ rxVideo ∨ (s.cap i).inFrame = false) →
    exec (.inputEndOfActiveVideo i f w) s = .next s.quiet) ∧
  (∀ (i : Fin 16) (b : Bool) (w : Word) (r : RunTrick) (c : BufRec) (d : Nat) (e : Word) (s : State), s.up → s.logRoom → s.staleRun .capture i = false →
    s.capTrick i true = some r → (s.cap i).recDone = some c → r.buf = some d → r.eav = some e → d < 8192 → s.blockFailed (s.bufAddr d) = true →
    Gives (.captureComplete i b w) s fun t =>
      t.desc d = { Desc.init with bad := true } ∧ t.on .CMP_INT_STATUS_BUF_BAD = true ∧ t.on .MEM_INT_STATUS_CHK_PERSIST = true
        ∧ t.get (.CAP_FRAMES_CAPTURED i) = s.get (.CAP_FRAMES_CAPTURED i)
        ∧ readBytes Config.dramFill t.dram (s.bufAddr d) 64 = readBytes Config.dramFill s.dram (s.bufAddr d) 64
        ∧ (∀ x, x ≠ d → t.desc x = s.desc x)) ∧
  (∀ (i : Fin 16) (f : Frame) (w : Word) (s : State), s.up → s.rxState i = rxVideo → (s.cap i).inFrame = true →
    (f.length ≠ s.get (.CAP_DIM_V i) ∨ f.any (fun l => l.length != s.get (.CAP_DIM_H i)) = true) → Gives (.inputEndOfActiveVideo i f w) s fun t =>
      (t.cap i).inFrame = false ∧ (t.cap i).damaged = true ∧ (t.cap i).recDone = (s.cap i).recDone ∧ t.time.now = w ∧ MemoryFrame s t)

/-- Frames, RTP and RTCP packets are filtered, steered, counted and taken by their context. A frame on a disabled port is ignored; a frame with a bad check or length counts BAD, a good PAUSE frame counts PAUSE, and a doubly tagged one, or one for another address, is dropped; PTP, command and Deck frames wait in the queue of their kind, and a general one too while the Banker is not up or busy; otherwise it goes to the Banker, which takes what waits for it first. A transmit opportunity sends a waiting PTP message first, then a Deck packet, then a general frame. An RTP packet of no context sets FOREIGN; one from another sender is counted and discarded; an accepted one is counted and its time kept, and the first of a picture starts its assembly; one with a bad payload faults its context with cause 7. A sender report or BYE of the camera acts on its context, one of another source is counted foreign and discarded; stalls, receiver reports, repeated key requests and feedback act by the context's state. That the Banker takes what waits with the next frame, unless that frame says it is busy, is the model's choice (log 92); the report blocks are RFC 3550's (log 69). Rests on: 09_time.md R289, 09_time.md R290, 09_time.md R291, 06_codec.md R181, 06_codec.md R182, 06_codec.md R184, 06_codec.md R185, 06_codec.md R187, 06_codec.md R188, 06_codec.md R189, 06_codec.md R190, 06_codec.md R209. -/
def Obligations.PacketsReachTheirContext : Prop :=
  (∀ (n : Fin 3) (f : NetFrame) (w : Word) (s : State), s.up → s.netOn n = false → Gives (.frameReceive n f w) s fun t =>
    t.time.now = w ∧ Keeps [.time] (only []) s t) ∧
  (∀ (n : Fin 3) (f : NetFrame) (w : Word) (s : State), s.up → s.netOn n = true → (f.fcs = false ∨ f.len < 64 ∨ 1522 < f.len) →
    Gives (.frameReceive n f w) s fun t => t.get (.TIM_NP_ERR_BAD n) = satAdd (Fld.TIM_NP_ERR_BAD n).wid (s.get (.TIM_NP_ERR_BAD n)) 1
      ∧ Keeps [.time] (only [Reg.TIM_NP_ERR n]) s t) ∧
  (∀ (n : Fin 3) (f : NetFrame) (w : Word) (s : State), s.up → s.netOn n = true → f.fcs = true → 64 ≤ f.len → f.len ≤ 1522 → f.pause = true →
    Gives (.frameReceive n f w) s fun t => t.get (.TIM_NP_ERR_PAUSE n) = satAdd (Fld.TIM_NP_ERR_PAUSE n).wid (s.get (.TIM_NP_ERR_PAUSE n)) 1
      ∧ Keeps [.time] (only [Reg.TIM_NP_ERR n]) s t) ∧
  (∀ (n : Fin 3) (f : NetFrame) (w : Word) (s : State), s.up → s.netOn n = true → f.fcs = true → 64 ≤ f.len → f.len ≤ 1522 → f.pause = false →
    f.tags ≤ 1 → s.passes n f.dest = true → f.ether = 0x88F7 → (s.bankerUp && !f.busy) = false → (s.net n).ptpQ.length < 16 →
    Gives (.frameReceive n f w) s fun t => (∃ st, (t.net n).ptpQ = (s.net n).ptpQ ++ [(f, st)]) ∧ (t.net n).cmdQ = (s.net n).cmdQ
      ∧ (∀ m, m ≠ n.val → t.net m = s.net m) ∧ Keeps [.time, .nets] (only []) s t) ∧
  (∀ (n : Fin 3) (w : Word) (d : DeckTx) (ds : List DeckTx) (s : State), s.up → s.netOn n = true → s.on (.TIM_NP_STATUS_LINK n) = true →
    (s.net n).txPtp = [] → (s.net n).txDeck = d :: ds → Gives (.frameTransmit n [] [] w) s fun t =>
      t.out = [.deckSend n d] ∧ (t.net n).txDeck = ds ∧ (t.net n).txGen = (s.net n).txGen ∧ Keeps [.time, .nets] (only []) s t) ∧
  (∀ (n : Fin 3) (w : Word) (m : PtpTx) (ms : List PtpTx) (s : State), s.up → s.netOn n = true → s.on (.TIM_NP_STATUS_LINK n) = true →
    (s.net n).txPtp = m :: ms → 4 ≤ (s.net n).stamps.length → Gives (.frameTransmit n [] [] w) s fun t =>
      t.out = [.ptpSend n m] ∧ (t.net n).txPtp = ms ∧ (t.net n).txDeck = (s.net n).txDeck
        ∧ t.get (.TIM_NP_STATUS_TXTS_OVF n) = satAdd (Fld.TIM_NP_STATUS_TXTS_OVF n).wid (s.get (.TIM_NP_STATUS_TXTS_OVF n)) 1
        ∧ Keeps [.time, .nets] (only [Reg.TIM_NP_STATUS n]) s t) ∧
  (∀ (r : RtpIn) (w : Word) (s : State), s.up → s.ctxAt r.port r.udp = none → Gives (.rtpPacket r w) s fun t =>
    t.on .DEC_INT_STATUS_FOREIGN = true ∧ MemoryFrame s t
      ∧ (s.noDecodeWaits → Keeps [.time, .nets] (only [Reg.DEC_INT_STATUS]) s t)) ∧
  (∀ (r : RtpIn) (w : Word) (c : Nat) (s : State), s.up → s.ctxAt r.port r.udp = some c →
    (s.on (.DEC_CX_NET_RTCP_MUX c) = true → r.pt < 64 ∨ 95 < r.pt) →
    (r.ip ≠ s.word (Reg.DEC_CX_SRCIP c) ∨ r.pt ≠ s.get (.DEC_CX_NET_PT c)) → Gives (.rtpPacket r w) s fun t =>
      t.get (.DEC_CX_DISC_FOREIGN c) = satAdd 8 (s.get (.DEC_CX_DISC_FOREIGN c)) 1 ∧ t.on .DEC_INT_STATUS_FOREIGN = true
        ∧ MemoryFrame s t ∧ (s.noDecodeWaits → Keeps [.time, .nets] (only [Reg.DEC_CX_DISC c, Reg.DEC_INT_STATUS]) s t)) ∧
  (∀ (r : RtpIn) (w : Word) (c : Nat) (s : State), s.up → s.ctxAt r.port r.udp = some c → r.ip = s.word (Reg.DEC_CX_SRCIP c) →
    (s.on (.DEC_CX_NET_RTCP_MUX c) = true → r.pt < 64 ∨ 95 < r.pt) → r.pt = s.get (.DEC_CX_NET_PT c) → r.ssrc = s.word (Reg.DEC_CX_SSRC c) → Gives (.rtpPacket r w) s fun t =>
      t.get (.DEC_CX_PKT_RECEIVED c) = satAdd 16 (s.get (.DEC_CX_PKT_RECEIVED c)) 1 ∧ (t.ctx c).lastPkt = some (s.word Reg.TIM_EPOCH ++ w)
        ∧ MemoryFrame s t) ∧
  (∀ (c : Fin 512) (ip x : Word) (n : BitVec 64) (r w : Word) (s : State), s.up → s.fromCamera c ip x = true →
    Gives (.senderReport c ⟨ip, x⟩ ⟨n, r⟩ w) s fun t =>
      (t.ctx c).sr = some ⟨n, r, s.word Reg.TIM_EPOCH ++ w⟩ ∧ (∀ d, d ≠ c.val → t.ctx d = s.ctx d)
        ∧ Keeps [.time, .ctxs, .nets] (only []) s t) ∧
  (∀ (c : Fin 512) (ip x : Word) (s : State), s.up → s.ctxState c ≠ cxClosed → s.fromCamera c ip x = false → Gives (.bye c ⟨ip, x⟩) s fun t =>
    t.get (.DEC_CX_DISC_FOREIGN c) = satAdd 8 (s.get (.DEC_CX_DISC_FOREIGN c)) 1 ∧ t.on .DEC_INT_STATUS_FOREIGN = true ∧ MemoryFrame s t
      ∧ (s.noDecodeWaits → Keeps [.nets] (only [Reg.DEC_CX_DISC c, Reg.DEC_INT_STATUS]) s t)) ∧
  (∀ (c : Fin 512) (s : State), s.up → (s.ctxState c = cxRunning ∨ s.ctxState c = cxWaitKey) → Gives (.stallTimeout c) s fun t =>
    t.ctxState c = cxStalled ∧ (t.ctx c).queue = [] ∧ (t.ctx c).dpb = [] ∧ t.on .DEC_INT_STATUS_STALL = true ∧ MemoryFrame s t) ∧
  (∀ (c : Fin 512) (s : State), s.up → (s.ctxState c = cxRunning ∨ s.ctxState c = cxWaitKey) →
    Gives (.bye c ⟨s.word (Reg.DEC_CX_SRCIP c), s.word (Reg.DEC_CX_SSRC c)⟩) s fun t => t.ctxState c = cxStalled ∧ (t.ctx c).queue = [] ∧ MemoryFrame s t) ∧
  (∀ (c : Fin 512) (s : State), s.up → s.ctxState c ≠ cxClosed → Gives (.receiverReport c) s fun t =>
    (t.net (s.get (.DEC_CX_NET_NET_PORT c))).txDeck
        = (s.net (s.get (.DEC_CX_NET_NET_PORT c))).txDeck ++ [.rtcp c (s.word (Reg.DEC_CX_LSSRC c)) (s.word (Reg.DEC_CX_SSRC c))
            ((s.ctx c).stats.map (s.reportBlock (s.ctx c))) 0 0 (s.ctx c).template] ∧ (∀ d, d ≠ c.val → t.ctx d = s.ctx d)
      ∧ Keeps [.nets, .ctxs] (only []) s t) ∧
  (∀ (c : Fin 512) (s : State), s.up → s.ctxState c = cxWaitKey → s.get (.DEC_CX_NET_FB c) = 1 → Gives (.pliRepeat c) s fun t =>
    t.get (.DEC_CX_ERR_PLI_SENT c) = satAdd 8 (s.get (.DEC_CX_ERR_PLI_SENT c)) 1
      ∧ (t.net (s.get (.DEC_CX_NET_NET_PORT c))).txDeck
        = (s.net (s.get (.DEC_CX_NET_NET_PORT c))).txDeck ++ [.rtcp c (s.word (Reg.DEC_CX_LSSRC c)) (s.word (Reg.DEC_CX_SSRC c))
            ((s.ctx c).stats.map (s.reportBlock (s.ctx c))) 1 (s.ctx c).fir (s.ctx c).template]
      ∧ (t.ctx c).fir = (s.ctx c).fir ∧ Keeps [.nets, .ctxs] (only [Reg.DEC_CX_ERR c]) s t) ∧
  (∀ (c : Fin 512) (s : State), s.up → s.ctxState c = cxWaitKey → s.get (.DEC_CX_NET_FB c) = 2 → Gives (.pliRepeat c) s fun t =>
    (t.net (s.get (.DEC_CX_NET_NET_PORT c))).txDeck
        = (s.net (s.get (.DEC_CX_NET_NET_PORT c))).txDeck ++ [.rtcp c (s.word (Reg.DEC_CX_LSSRC c)) (s.word (Reg.DEC_CX_SSRC c))
            ((s.ctx c).stats.map (s.reportBlock (s.ctx c))) 2 (s.ctx c).fir (s.ctx c).template]
      ∧ (t.ctx c).fir = ((s.ctx c).fir + 1) % 256 ∧ Keeps [.nets, .ctxs] (only [Reg.DEC_CX_ERR c]) s t) ∧
  (∀ (c : Fin 512) (ip x : Word) (n : BitVec 64) (r w : Word) (s : State), s.up → s.ctxState c ≠ cxClosed → s.fromCamera c ip x = false →
    Gives (.senderReport c ⟨ip, x⟩ ⟨n, r⟩ w) s fun t =>
      t.get (.DEC_CX_DISC_FOREIGN c) = satAdd 8 (s.get (.DEC_CX_DISC_FOREIGN c)) 1 ∧ t.on .DEC_INT_STATUS_FOREIGN = true
        ∧ Keeps [.time, .nets] (only [Reg.DEC_CX_DISC c, Reg.DEC_INT_STATUS]) s t) ∧
  (∀ (r : RtpIn) (w : Word) (c : Nat) (s : State), s.up → s.ctxAt r.port r.udp = some c → r.ip = s.word (Reg.DEC_CX_SRCIP c) →
    (s.on (.DEC_CX_NET_RTCP_MUX c) = true → r.pt < 64 ∨ 95 < r.pt) → r.pt = s.get (.DEC_CX_NET_PT c) → r.ssrc = s.word (Reg.DEC_CX_SSRC c) →
    payloadOk (s.on (.DEC_CX_CFG_CODEC c)) r.payload = false → s.ctxState c ≠ cxFault → Gives (.rtpPacket r w) s fun t =>
      t.ctxState c = cxFault ∧ t.get (.DEC_CX_STATE_FAULT_CAUSE c) = 7 ∧ t.on .DEC_INT_STATUS_FAULT = true ∧ MemoryFrame s t) ∧
  (∀ (r : RtpIn) (w : Word) (c : Nat) (s : State), s.up → s.ctxAt r.port r.udp = some c → s.on (.DEC_CX_NET_RTCP_MUX c) = true →
    64 ≤ r.pt → r.pt ≤ 95 → Gives (.rtpPacket r w) s fun t => MemoryFrame s t ∧ (s.noDecodeWaits → Keeps [.time, .nets] (only []) s t)) ∧
  (∀ (e : Fin 32) (s : State), s.up → s.encRuns e = true → s.encTrick e = none → Gives (.rtcpFeedback e) s fun t =>
    t.get (.ENC_ST_KEYS_REQUESTS e) = satAdd 16 (s.get (.ENC_ST_KEYS_REQUESTS e)) 1 ∧ t.on (.ENC_ST_STATE_KEY_PENDING e) = true
      ∧ Keeps [.nets] (only [Reg.ENC_ST_KEYS e, Reg.ENC_ST_STATE e]) s t) ∧
  (∀ (n : Fin 3) (f : NetFrame) (w : Word) (s : State), s.up → s.netOn n = true → f.fcs = true → 64 ≤ f.len → f.len ≤ 1522 → f.pause = false →
    (1 < f.tags ∨ s.passes n f.dest = false) → Gives (.frameReceive n f w) s fun t => t.time.now = w ∧ Keeps [.time] (only []) s t) ∧
  (∀ (n : Fin 3) (f : NetFrame) (u : UdpIn) (w : Word) (s : State), s.up → s.netOn n = true → f.fcs = true → 64 ≤ f.len → f.len ≤ 1522 →
    f.pause = false → f.tags ≤ 1 → s.passes n f.dest = true → f.ether ≠ 0x88F7 → f.udp = some u → u.port ≠ 319 → u.port ≠ 320 →
    (2 ≤ n.val ∨ s.deckPort n u.port = false) → u.port = s.get (.TIM_NP_CFG_CMD_PORT n) → (s.net n).cmdQ.length < 32 →
    Gives (.frameReceive n f w) s fun t => (∃ st, (t.net n).cmdQ = (s.net n).cmdQ ++ [(f, st)]) ∧ (t.net n).deckQ = (s.net n).deckQ
      ∧ ((s.bankerUp && !f.busy) = false → (t.net n).ptpQ = (s.net n).ptpQ ∧ (t.net n).genQ = (s.net n).genQ
        ∧ ∀ m, m ≠ n.val → t.net m = s.net m)
      ∧ Keeps [.time, .nets] (only []) s t) ∧
  (∀ (n : Fin 3) (f : NetFrame) (u : UdpIn) (w : Word) (s : State), s.up → s.netOn n = true → f.fcs = true → 64 ≤ f.len → f.len ≤ 1522 →
    f.pause = false → f.tags ≤ 1 → s.passes n f.dest = true → f.ether ≠ 0x88F7 → f.udp = some u → u.port ≠ 319 → u.port ≠ 320 → n.val < 2 →
    s.deckPort n u.port = true → ((s.net n).deckQ.map (·.1.len)).sum + f.len ≤ 524288 →
    Gives (.frameReceive n f w) s fun t => (∃ st, (t.net n).deckQ = (s.net n).deckQ ++ [(f, st)]) ∧ (t.net n).cmdQ = (s.net n).cmdQ
      ∧ Keeps [.time, .nets] (only []) s t) ∧
  (∀ (n : Fin 3) (f : NetFrame) (w : Word) (s : State), s.up → s.netOn n = true → f.fcs = true → 64 ≤ f.len → f.len ≤ 1522 →
    f.pause = false → f.tags ≤ 1 → s.passes n f.dest = true → f.ether ≠ 0x88F7 → f.udp = none → s.bankerUp = true → f.busy = false →
    Gives (.frameReceive n f w) s fun t => (∃ st, t.out.getLast? = some (.toBanker n f st)) ∧ (∀ m < 3, (t.net m).ptpQ = [] ∧ (t.net m).genQ = [])
      ∧ Keeps [.time, .nets] (only []) s t) ∧
  (∀ (r : RtpIn) (w : Word) (c : Nat) (s : State), s.up → s.ctxAt r.port r.udp = some c → r.ip = s.word (Reg.DEC_CX_SRCIP c) →
    (s.on (.DEC_CX_NET_RTCP_MUX c) = true → r.pt < 64 ∨ 95 < r.pt) → r.pt = s.get (.DEC_CX_NET_PT c) → r.ssrc = s.word (Reg.DEC_CX_SSRC c) →
    payloadOk (s.on (.DEC_CX_CFG_CODEC c)) r.payload = true → s.ctxState c = cxRunning → (s.ctx c).asm = none → (s.ctx c).lastClosed = none →
    r.marker = false → Gives (.rtpPacket r w) s fun t =>
      (∃ a, (t.ctx c).asm = some a ∧ a.ts = r.ts ∧ a.first = r.seq ∧ a.got = [(0, r.payload)] ∧ a.marker = none ∧ a.tArr = w)
        ∧ MemoryFrame s t) ∧
  (∀ (n : Fin 3) (f : NetFrame) (w : Word) (s : State), s.up → s.netOn n = true → f.fcs = true → 64 ≤ f.len → f.len ≤ 1522 →
    f.pause = false → f.tags ≤ 1 → s.passes n f.dest = true → f.ether ≠ 0x88F7 → f.udp = none → (s.bankerUp && !f.busy) = false →
    (s.net n).genQ.length < 128 → Gives (.frameReceive n f w) s fun t => (t.net n).genQ.dropLast = (s.net n).genQ ∧ (t.net n).genQ.getLast?.map (·.1) = some f
      ∧ (t.net n).ptpQ = (s.net n).ptpQ ∧ (t.net n).cmdQ = (s.net n).cmdQ ∧ (∀ m, m ≠ n.val → t.net m = s.net m)
      ∧ Keeps [.time, .nets] (only []) s t)

/-- Decode contexts open, close, ask for keys, close pictures by time-out, and finish or fault on a decoded picture. A GO of any operation while a command is unanswered answers BUSY and does nothing else. OPEN on a context not closed answers STATE, on one not enabled, without source address, on a taken port or with feedback 3, RANGE; otherwise OK, and the context is IDLE with empty assembly, queue and references. CLOSE answers STATE on a closed context and else closes it. A key request in WAIT_KEY with feedback answers OK and sends feedback; in IDLE it answers STATE. An assembly time-out closes the picture: its sequence number is the next, lost packets are counted, it joins the queue. A decode with a fault takes a context that is neither closed nor in fault to FAULT with that cause; in RUNNING without fault it counts the errors found. Nothing but external memory is touched among the stored memories. That a command is answered within its row, and BUSY held from GO on only then, is the model's choice (log 70), and so is when lost packets count (log 71). Rests on: 06_codec.md R178, 06_codec.md R179, 06_codec.md R183, 06_codec.md R186, 06_codec.md R191, 06_codec.md R192, 06_codec.md R193, 06_codec.md R195, 06_codec.md R198, 06_codec.md R185, 06_codec.md R187. -/
def Obligations.DecodeContextsAreManaged : Prop :=
  (∀ (c : Fin 512) (b : List Byte) (s : State), s.up → s.on .DEC_CMD_STATUS_BUSY = false → s.ctxState c ≠ cxClosed → Gives (.decOpen c b) s fun t =>
    t.get .DEC_CMD_STATUS_CODE = stSTATE ∧ t.on .DEC_CMD_STATUS_BUSY = false ∧ t.ctxs = s.ctxs
      ∧ Keeps [] (only [Reg.DEC_CMD, Reg.DEC_CMD_STATUS]) s t) ∧
  (∀ (c : Fin 512) (b : List Byte) (s : State), s.up → s.on .DEC_CMD_STATUS_BUSY = false → s.ctxState c = cxClosed →
    (s.on (.DEC_CX_CFG_EN c) = false ∨ s.word (Reg.DEC_CX_SRCIP c) = 0 ∨ s.portTaken c = true ∨ s.get (.DEC_CX_NET_FB c) = 3) →
    Gives (.decOpen c b) s fun t => t.get .DEC_CMD_STATUS_CODE = stRANGE ∧ Keeps [] (only [Reg.DEC_CMD, Reg.DEC_CMD_STATUS]) s t) ∧
  (∀ (c : Fin 512) (b : List Byte) (s : State), s.up → s.on .DEC_CMD_STATUS_BUSY = false → s.ctxState c = cxClosed → s.on (.DEC_CX_CFG_EN c) = true →
    s.word (Reg.DEC_CX_SRCIP c) ≠ 0 → s.portTaken c = false → s.get (.DEC_CX_NET_FB c) ≠ 3 → Gives (.decOpen c b) s fun t =>
      t.get .DEC_CMD_STATUS_CODE = stOK ∧ t.ctxState c = cxIdle ∧ (t.ctx c).template = b ∧ (t.ctx c).asm = none ∧ (t.ctx c).queue = []
        ∧ (t.ctx c).dpb = [] ∧ (t.ctx c).lastPkt = none ∧ (t.ctx c).learned = false ∧ (∀ d, d ≠ c.val → t.ctx d = s.ctx d)
        ∧ Keeps [.ctxs, .dealer, .descs] (only [Reg.DEC_CMD, Reg.DEC_CMD_STATUS, Reg.DEC_CX_STATE c]) s t) ∧
  (∀ (c : Fin 512) (s : State), s.up → s.on .DEC_CMD_STATUS_BUSY = false → s.ctxState c = cxClosed → Gives (.decClose c) s fun t =>
    t.get .DEC_CMD_STATUS_CODE = stSTATE ∧ MemoryFrame s t
      ∧ (s.noDecodeWaits → Keeps [] (only [Reg.DEC_CMD, Reg.DEC_CMD_STATUS]) s t)) ∧
  (∀ (c : Fin 512) (s : State), s.up → s.on .DEC_CMD_STATUS_BUSY = false → s.ctxState c ≠ cxClosed → Gives (.decClose c) s fun t =>
    t.get .DEC_CMD_STATUS_CODE = stOK ∧ t.ctxState c = cxClosed ∧ (t.ctx c).queue = [] ∧ (t.ctx c).dpb = [] ∧ MemoryFrame s t) ∧
  (∀ (c : Fin 512) (s : State), s.up → s.on .DEC_CMD_STATUS_BUSY = false → s.ctxState c = cxWaitKey → s.get (.DEC_CX_NET_FB c) = 1 → Gives (.decKeyReq c) s fun t =>
    t.get .DEC_CMD_STATUS_CODE = stOK ∧ t.get (.DEC_CX_ERR_PLI_SENT c) = satAdd 8 (s.get (.DEC_CX_ERR_PLI_SENT c)) 1
      ∧ Keeps [.nets, .ctxs] (only [Reg.DEC_CMD, Reg.DEC_CMD_STATUS, Reg.DEC_CX_ERR c]) s t) ∧
  (∀ (c : Fin 512) (s : State), s.up → s.on .DEC_CMD_STATUS_BUSY = false → s.ctxState c = cxIdle → Gives (.decKeyReq c) s fun t =>
    t.get .DEC_CMD_STATUS_CODE = stSTATE ∧ Keeps [] (only [Reg.DEC_CMD, Reg.DEC_CMD_STATUS]) s t) ∧
  (∀ (c : Fin 512) (a : Assembly) (s : State), s.up → (s.ctx c).asm = some a → (s.ctx c).queue.length < 4 → Gives (.asmTimeout c) s fun t =>
    (t.ctx c).asm = none ∧ (t.ctx c).lastClosed = some a.ts ∧ t.word (Reg.DEC_CX_SEQ c) = s.word (Reg.DEC_CX_SEQ c) + 1 ∧ MemoryFrame s t
      ∧ (s.noDecodeWaits → (t.ctx c).queue.length = (s.ctx c).queue.length + 1
        ∧ t.get (.DEC_CX_STATE_QUEUE c) = (s.ctx c).queue.length + 1
        ∧ ((t.ctx c).queue.getLast?).map (·.seq) = some (s.word (Reg.DEC_CX_SEQ c) + 1)
        ∧ Keeps [.ctxs] (only [Reg.DEC_CX_PKT c, Reg.DEC_CX_SEQ c, Reg.DEC_CX_STATE c]) s t)) ∧
  (∀ (c : Fin 512) (r : DecodeIn) (w : Word) (k : RunTrick) (d : Nat) (p : Coded) (s : State), s.up → s.deckHalted = false →
    s.staleRun .decode c = false → s.decTrick c = some k → k.buf = some d → k.coded = some p → s.pictureFault c r ≠ 0 →
    s.ctxState c ≠ cxClosed → s.ctxState c ≠ cxFault → Gives (.decodeComplete c r false w) s fun t =>
      t.ctxState c = cxFault ∧ t.get (.DEC_CX_STATE_FAULT_CAUSE c) = s.pictureFault c r ∧ t.on .DEC_INT_STATUS_FAULT = true ∧ MemoryFrame s t) ∧
  (∀ (c : Fin 512) (r : DecodeIn) (b : Bool) (w : Word) (k : RunTrick) (d : Nat) (p : Coded) (s : State), s.up → s.deckHalted = false →
    s.staleRun .decode c = false → s.decTrick c = some k → k.buf = some d → k.coded = some p → s.pictureFault c r = 0 →
    s.ctxState c = cxRunning → Gives (.decodeComplete c r b w) s fun t =>
      t.get (.DEC_CX_ERR_SYNTAX c) = satAdd 8 (s.get (.DEC_CX_ERR_SYNTAX c)) (s.syntaxErrs c p r)
        ∧ t.get (.DEC_CX_ERR_MISSING_REF c) = satAdd 8 (s.get (.DEC_CX_ERR_MISSING_REF c)) (s.missingRefs c r) ∧ t.time.now = w
        ∧ t.mram = s.mram ∧ t.flash = s.flash ∧ t.plat = s.plat ∧ t.pending = s.pending) ∧
  (∀ (c : Fin 512) (b : List Byte) (s : State), s.up → s.on .DEC_CMD_STATUS_BUSY = true →
    (Gives (.decOpen c b) s fun t => t.get .DEC_CMD_STATUS_CODE = stBUSY ∧ Keeps [] (only [Reg.DEC_CMD_STATUS]) s t)
      ∧ (Gives (.decClose c) s fun t => t.get .DEC_CMD_STATUS_CODE = stBUSY ∧ MemoryFrame s t
          ∧ (s.noDecodeWaits → Keeps [] (only [Reg.DEC_CMD_STATUS]) s t))
      ∧ (Gives (.decKeyReq c) s fun t => t.get .DEC_CMD_STATUS_CODE = stBUSY ∧ Keeps [] (only [Reg.DEC_CMD_STATUS]) s t))

/-- Encode streams start and stop through admission, take key requests, skip what they may not code, and report. START and STOP outside DEALING answer STATE; with four changes held BUSY, but RANGE for a START of a stream not enabled and REFUSED for one that the Dealer could not place; otherwise they append a waiting change due at the next tick and set BUSY. KEY on a running stream counts a request, marks it pending and answers OK; on a stopped one it answers STATE. An encode trick without a buffer codes nothing: it counts NO_SOURCE, reports it and ends; one whose buffer may be coded codes its padded frame, counts the picture and keeps its SEQ; one whose picture cannot be read sends nothing, and the next is a key picture. A running stream's sender report goes out on its network port with the RTP time stamp of its time and its packet counts; a stopped one sends none. Rests on: 06_codec.md R203, 06_codec.md R204, 06_codec.md R206, 06_codec.md R209, 06_codec.md R205, 06_codec.md R211, 01_architecture.md R34, 01_architecture.md R35, 00_scope.md R7. -/
def Obligations.EncodeStreamsAreCommanded : Prop :=
  (∀ (e : Fin 32) (s : State), s.up → s.dealing = false → Gives (.encStart e) s fun t =>
    t.get .ENC_CMD_STATUS_CODE = stSTATE ∧ t.on .ENC_CMD_STATUS_BUSY = false ∧ t.on .ENC_INT_STATUS_CMD_DONE = true
      ∧ Keeps [] (only [Reg.ENC_CMD, Reg.ENC_CMD_STATUS, Reg.ENC_INT_STATUS]) s t) ∧
  (∀ (e : Fin 32) (s : State), s.up → s.dealing = false → Gives (.encStop e) s fun t =>
    t.get .ENC_CMD_STATUS_CODE = stSTATE ∧ t.on .ENC_CMD_STATUS_BUSY = false ∧ t.on .ENC_INT_STATUS_CMD_DONE = true
      ∧ Keeps [] (only [Reg.ENC_CMD, Reg.ENC_CMD_STATUS, Reg.ENC_INT_STATUS]) s t) ∧
  (∀ (e : Fin 32) (s : State), s.dealing = true → 4 ≤ s.dealer.changes.length →
    (s.evaluate s.admBase ⟨s.dealer.nextChange, .encStart e, .waiting, [], s.tick + 1⟩).code = stOK → Gives (.encStart e) s fun t =>
    t.get .ENC_CMD_STATUS_CODE = stBUSY ∧ t.on .DLR_INT_STATUS_ADM_REFUSED = true
      ∧ Keeps [] (only [Reg.ENC_CMD, Reg.ENC_CMD_STATUS, Reg.ENC_INT_STATUS, Reg.DLR_INT_STATUS]) s t) ∧
  (∀ (e : Fin 32) (s : State), s.dealing = true → s.dealer.changes.length < 4 → Gives (.encStart e) s fun t =>
    t.dealer.changes = s.dealer.changes ++ [{ id := s.dealer.nextChange, kind := .encStart e, stage := .waiting, place := [], dueTick := s.tick + 1 }]
      ∧ t.dealer.nextChange = s.dealer.nextChange + 1 ∧ t.on .ENC_CMD_STATUS_BUSY = true
      ∧ Keeps [.dealer] (only [Reg.ENC_CMD, Reg.ENC_CMD_STATUS, Reg.DLR_STATUS]) s t) ∧
  (∀ (e : Fin 32) (s : State), s.dealing = true → s.dealer.changes.length < 4 → Gives (.encStop e) s fun t =>
    t.dealer.changes = s.dealer.changes ++ [{ id := s.dealer.nextChange, kind := .encStop e, stage := .waiting, place := [], dueTick := s.tick + 1 }]
      ∧ t.dealer.nextChange = s.dealer.nextChange + 1 ∧ t.on .ENC_CMD_STATUS_BUSY = true
      ∧ Keeps [.dealer] (only [Reg.ENC_CMD, Reg.ENC_CMD_STATUS, Reg.DLR_STATUS]) s t) ∧
  (∀ (e : Fin 32) (s : State), s.up → s.encRuns e = true → s.encTrick e = none → Gives (.encKey e) s fun t =>
    t.get .ENC_CMD_STATUS_CODE = stOK ∧ t.get (.ENC_ST_KEYS_REQUESTS e) = satAdd 16 (s.get (.ENC_ST_KEYS_REQUESTS e)) 1
      ∧ t.on (.ENC_ST_STATE_KEY_PENDING e) = true
      ∧ Keeps [] (only [Reg.ENC_CMD, Reg.ENC_CMD_STATUS, Reg.ENC_INT_STATUS, Reg.ENC_ST_KEYS e, Reg.ENC_ST_STATE e]) s t) ∧
  (∀ (e : Fin 32) (s : State), s.up → s.encRuns e = false → Gives (.encKey e) s fun t =>
    t.get .ENC_CMD_STATUS_CODE = stSTATE ∧ Keeps [] (only [Reg.ENC_CMD, Reg.ENC_CMD_STATUS, Reg.ENC_INT_STATUS]) s t) ∧
  (∀ (e : Fin 32) (r : EncodeIn) (k : RunTrick) (s : State), s.up → s.staleRun .encode e = false → s.encTrick e = some k → k.buf = none →
    Gives (.encodePicture e r) s fun t =>
      t.get (.ENC_ST_SKIP_NO_SOURCE e) = satAdd 8 (s.get (.ENC_ST_SKIP_NO_SOURCE e)) 1 ∧ t.on .ENC_INT_STATUS_NOT_CODED = true
        ∧ t.encTrick e = none ∧ Keeps [.encs, .dealer] (only [Reg.ENC_ST_SKIP e, Reg.ENC_INT_STATUS]) s t) ∧
  (∀ (e : Fin 32) (r : EncodeIn) (k : RunTrick) (d : Nat) (s : State), s.up → s.staleRun .encode e = false → s.encTrick e = some k →
    k.buf = some d → s.encReason e (some d) = none →
    s.badBlocks (s.bufAddr d + 256) (planeBytes (s.desc d).hdr.format (s.desc d).hdr.width (s.desc d).hdr.height) = [] →
    Gives (.encodePicture e r) s fun t =>
      t.encTrick e = none ∧ (t.enc e).lastSeq = some (s.desc d).hdr.seq ∧ t.time.now = s.time.now
        ∧ t.get (.ENC_ST_STATE_PICS e) = (s.get (.ENC_ST_STATE_PICS e) + 1) % 2 ^ (Fld.ENC_ST_STATE_PICS e).wid
        ∧ (∃ x, x ∈ t.out ∧ ∃ b1 b2 b3 b4 b5 b6 b7, x = .encoded e b1 b2 b3 b4 b5 b6 b7 (s.encFrame d)) ∧ MemoryFrame s t) ∧
  (∀ (e : Fin 32) (w : Word) (s : State), s.up → s.encRuns e = true → s.on (.ENC_ST_DEST_FABRIC e) = false → Gives (.encoderSenderReport e w) s fun t =>
    (∃ ntp, (t.net (s.get (.ENC_ST_DEST_NET_PORT e))).txDeck
        = (s.net (s.get (.ENC_ST_DEST_NET_PORT e))).txDeck ++ [.rtp (s.enc e).mac (s.word (Reg.ENC_ST_DSTIP e)) (s.get (.ENC_ST_DEST_UDP_PORT e) + 1)
            (srBytes (s.word (Reg.ENC_ST_SSRC e)) ntp (s.encTs e (s.word Reg.TIM_EPOCH ++ w)) (s.enc e).pkts (s.enc e).octets)])
      ∧ Keeps [.time, .nets, .freeCtr] (only []) s t) ∧
  (∀ (e : Fin 32) (w : Word) (s : State), s.up → s.encRuns e = false → Gives (.encoderSenderReport e w) s fun t =>
    Keeps [.time] (only []) s t) ∧
  (∀ (e : Fin 32) (s : State), s.dealing = true → 4 ≤ s.dealer.changes.length → s.on (.ENC_ST_CFG_EN e) = false → Gives (.encStart e) s fun t =>
    t.get .ENC_CMD_STATUS_CODE = stRANGE ∧ t.get .ENC_CMD_STATUS_REASON = 5 ∧ t.on .ENC_CMD_STATUS_BUSY = false
      ∧ Keeps [] (only [Reg.ENC_CMD, Reg.ENC_CMD_STATUS, Reg.ENC_INT_STATUS, Reg.DLR_INT_STATUS]) s t) ∧
  (∀ (e : Fin 32) (r : EncodeIn) (k : RunTrick) (d : Nat) (b : Nat) (bs : List Nat) (s : State), s.up → s.staleRun .encode e = false →
    s.encTrick e = some k → k.buf = some d → s.encReason e (some d) = none →
    s.badBlocks (s.bufAddr d + 256) (planeBytes (s.desc d).hdr.format (s.desc d).hdr.width (s.desc d).hdr.height) = b :: bs →
    Gives (.encodePicture e r) s fun t => t.encTrick e = none ∧ t.on (.ENC_ST_STATE_KEY_PENDING e) = true
      ∧ (t.enc e).window = (0 :: (s.enc e).window).take 256 ∧ (t.enc e).pkts = (s.enc e).pkts ∧ t.on .MEM_INT_STATUS_CHK_PERSIST = true ∧ MemoryFrame s t) ∧
  (∀ (e : Fin 32) (s : State), s.dealing = true → 4 ≤ s.dealer.changes.length → (s.evaluate s.admBase ⟨s.dealer.nextChange, .encStop e, .waiting, [], s.tick + 1⟩).code = stOK →
    Gives (.encStop e) s fun t => t.get .ENC_CMD_STATUS_CODE = stBUSY ∧ t.on .DLR_INT_STATUS_ADM_REFUSED = true
      ∧ Keeps [] (only [Reg.ENC_CMD, Reg.ENC_CMD_STATUS, Reg.ENC_INT_STATUS, Reg.DLR_INT_STATUS]) s t) ∧
  (∀ (e : Fin 32) (s : State), s.dealing = true → 4 ≤ s.dealer.changes.length → (s.evaluate s.admBase ⟨s.dealer.nextChange, .encStart e, .waiting, [], s.tick + 1⟩).code = stREFUSED →
    Gives (.encStart e) s fun t => t.get .ENC_CMD_STATUS_CODE = stREFUSED ∧ t.on .ENC_CMD_STATUS_BUSY = false ∧ t.on .DLR_INT_STATUS_ADM_REFUSED = true
      ∧ t.dealer = s.dealer ∧ Keeps [] (only [Reg.ENC_CMD, Reg.ENC_CMD_STATUS, Reg.ENC_INT_STATUS, Reg.DLR_INT_STATUS]) s t)

/-- Each packet kind that ends at this node has its effect, and a packet that does not belong is counted. On an UP port, for a flow that ends here and came by its port: a good LINE packet records source, tag, line and presence; a SEGMENT goes to every direct slot of its source; a FRAME_START with a free buffer opens a frame in it; with no failed sub-channel, a right FRAME_DATA packet is stored at its place and moves the frame on, and a right FRAME_END stores the header; a FRAME_END that fails discards the frame and counts it bad; the last STREAM piece of an unspoilt series goes to its network port whole, one of a spoilt series is dropped; a good MESSAGE to this node is kept. A packet of another kind than its row's, or of an unknown flow, is counted and has no other effect; a credit set with an invalid symbol is void, and its errors count on their lanes; eight or more on a good lane turn it bad. At a packet boundary a SKIP set goes out first, then a DIRECT packet whose flow may send, and with nothing due on a port that is not UP an idle set; a quad in the serial near-end loop returns what it sends to its receiver alone, in the parallel one sends it too, and in the far-end loop puts out nothing of its own. That eight invalid symbols of one row turn a lane bad is the model's choice (log 36), and what waits beyond its cost or credit its reading (log 76). Rests on: 07_fabric.md R219, 07_fabric.md R220, 07_fabric.md R221, 07_fabric.md R223, 07_fabric.md R241, 07_fabric.md R242, 07_fabric.md R243, 07_fabric.md R244, 07_fabric.md R245, 07_fabric.md R246, 07_fabric.md R247, 07_fabric.md R217. -/
def Obligations.PacketsAreReceivedByKind : Prop :=
  (∀ (p : Fin 8) (k : RxPacket) (w : Word) (s : State), s.up → k.kind ≠ 1 → (∀ e ∈ k.errs, e.1 < 4) → Gives (.segment p k w) s fun t =>
    t.get (.FAB_P_PKT_BAD p) = satAdd (Fld.FAB_P_PKT_BAD p).wid (s.get (.FAB_P_PKT_BAD p)) 1
      ∧ Keeps [] (only (Reg.FAB_P_PKT p :: k.errs.map fun e => Reg.SER_LERR (32 + p) e.1)) s t) ∧
  (∀ (p : Fin 8) (k : RxPacket) (w : Word) (s : State), s.up → k.kind = 2 → s.portUp p = true → RxPacketOk k = true → s.flow? k.flow = none →
    Gives (.line p k w) s fun t =>
      t.get (.FAB_P_MISC_MISROUTE p) = satAdd (Fld.FAB_P_MISC_MISROUTE p).wid (s.get (.FAB_P_MISC_MISROUTE p)) 1
        ∧ t.on .FAB_INT_STATUS_POLICE = true ∧ Keeps [.time] (only [Reg.FAB_P_MISC p, Reg.FAB_INT_STATUS]) s t) ∧
  (∀ (p : Fin 8) (k : RxPacket) (w : Word) (f : FlowDesc) (s : State), s.up → k.kind = 2 → s.portUp p = true → RxPacketOk k = true →
    s.flow? k.flow = some f → srcNode f.src ≠ s.nodeId → f.inPort = p → f.dest = s.nodeId → k.dest = f.dest → Gives (.line p k w) s fun t =>
      Tab.find t.fab.lineTag f.id
        = some (BitVec.ofNat 16 (leNat (k.payload.take 2)), k.payload.getD 2 0, k.field, bitOf (k.payload.getD 3 0).toNat 0)
      ∧ t.time.now = w ∧ MemoryFrame s t) ∧
  (∀ (p : Fin 8) (k : RxPacket) (w : Word) (f : FlowDesc) (src : BitVec 16) (q : BitVec 8) (n : Nat) (b : Bool) (s : State), s.up →
    k.kind = 1 → s.portUp p = true → RxPacketOk k = true → s.flow? k.flow = some f → srcNode f.src ≠ s.nodeId → f.inPort = p →
    f.dest = s.nodeId → Tab.find s.fab.lineTag f.id = some (src, q, n, b) →
    (∀ e ∈ s.slotsOf f.src, ∀ g ∈ (s.slot e.1 e.2).store, g.seq8 = q → g.line < n + 4) → Gives (.segment p k w) s fun t =>
      (∀ e ∈ s.slotsOf f.src, ∃ g ∈ (t.slot e.1 e.2).store, g.line = n ∧ g.index = k.field ∧ g.seq8 = q ∧ g.src = src ∧ g.arrival = w)
        ∧ Keeps [.time, .fab, .slots] (only []) s t) ∧
  (∀ (p : Fin 8) (k : RxPacket) (w : Word) (f : FlowDesc) (r : Trick) (c d : Nat) (s : State), s.up → k.kind = 3 → s.portUp p = true →
    RxPacketOk k = true → k.payload.length = 64 → s.flow? k.flow = some f → srcNode f.src ≠ s.nodeId → f.inPort = p → f.dest = s.nodeId →
    k.dest = f.dest → Tab.find s.fab.frames f.id = none →
    s.curDeal.find? (fun r => r.cls == .fabricFlow && r.job == f.id) = some r → r.talon = some c → s.lowestFree c = some d →
    Gives (.frameStart p k w) s fun t =>
      (t.desc d).state = .filling ∧ (t.desc d).src = f.src ∧ (∀ x, x ≠ d → t.desc x = s.desc x)
        ∧ ((Tab.find t.fab.frames f.id).map fun x => (x.buf, x.port, x.next, x.ok)) = some (d, p.val, 0, true)
        ∧ Keeps [.time, .fab, .descs, .dealer] (only []) s t) ∧
  (∀ (p : Fin 8) (k : RxPacket) (f : FlowDesc) (x : FlowRx) (s : State), s.up → k.kind = 4 → s.portUp p = true →
    RxPacketOk k = true → s.flow? k.flow = some f → srcNode f.src ≠ s.nodeId → f.inPort = p → f.dest = s.nodeId → k.dest = f.dest →
    Tab.find s.fab.frames f.id = some x → x.ok = true → k.field = x.next % 65536 → k.payload.length = 256 → x.next < framePackets x.hdr →
    s.get .MEM_STATUS_SC_FAILED = 0 → Gives (.frameData p k) s fun t =>
      readBytes Config.dramFill t.dram (s.bufAddr x.buf + 256 + 256 * x.next) 256 = k.payload
        ∧ (∀ a, (a < s.bufAddr x.buf + 256 + 256 * x.next ∨ s.bufAddr x.buf + 512 + 256 * x.next ≤ a) →
            Tab.get Config.dramFill t.dram a = Tab.get Config.dramFill s.dram a)
        ∧ Tab.find t.fab.frames f.id = some { x with next := x.next + 1, crc := crc32cFeed x.crc k.payload }
        ∧ Keeps [.fab, .dram, .mem] (only []) s t) ∧
  (∀ (p : Fin 8) (k : RxPacket) (w : Word) (f : FlowDesc) (x : FlowRx) (s : State), s.up → k.kind = 5 → s.portUp p = true →
    RxPacketOk k = true → s.flow? k.flow = some f → srcNode f.src ≠ s.nodeId → f.inPort = p → f.dest = s.nodeId → k.dest = f.dest →
    Tab.find s.fab.frames f.id = some x → x.ok = false → Gives (.frameEnd p k w) s fun t =>
      Tab.find t.fab.frames f.id = none ∧ t.desc x.buf = Desc.init ∧ (∀ y, y ≠ x.buf → t.desc y = s.desc y)
        ∧ t.get (.FAB_P_FRAME_FRAME_BAD x.port) = satAdd (Fld.FAB_P_FRAME_FRAME_BAD x.port).wid (s.get (.FAB_P_FRAME_FRAME_BAD x.port)) 1
        ∧ Keeps [.time, .fab, .descs, .dealer] (only [Reg.FAB_P_FRAME x.port]) s t) ∧
  (∀ (p : Fin 8) (k : RxPacket) (w : Word) (f : FlowDesc) (x : FlowRx) (s : State), s.up → k.kind = 5 → s.portUp p = true →
    RxPacketOk k = true → s.flow? k.flow = some f → srcNode f.src ≠ s.nodeId → f.inPort = p → f.dest = s.nodeId → k.dest = f.dest →
    Tab.find s.fab.frames f.id = some x → x.ok = true → x.next = framePackets x.hdr → leNat ((k.payload.drop 4).take 4) = x.next →
    leNat (k.payload.take 4) = (x.crc ^^^ 0xFFFFFFFF#32).toNat → s.get .MEM_STATUS_SC_FAILED = 0 → Gives (.frameEnd p k w) s fun t =>
      Tab.find t.fab.frames f.id = none ∧ readBytes Config.dramFill t.dram (s.bufAddr x.buf) 60 = x.hdr.body
        ∧ t.get (.FAB_P_FRAME_FRAME_BAD x.port) = s.get (.FAB_P_FRAME_FRAME_BAD x.port)
        ∧ Keeps [.time, .fab, .descs, .dealer, .dram, .mem, .sco] (only [Reg.CMP_INT_STATUS]) s t) ∧
  (∀ (p : Fin 8) (k : RxPacket) (f : FlowDesc) (held : List Byte) (s : State), s.up → k.kind = 6 → s.portUp p = true →
    RxPacketOk k = true → s.flow? k.flow = some f → srcNode f.src ≠ s.nodeId → f.inPort = p → f.dest = s.nodeId → k.dest = f.dest →
    bitOf k.field 0 = true → (Tab.find s.fab.streams f.id).getD ([], false) = (held, false) → Gives (.stream p k) s fun t =>
      (t.net f.gPort).txDeck = (s.net f.gPort).txDeck ++ [.flow f.mac (held ++ k.payload)]
        ∧ Tab.find t.fab.streams f.id = none ∧ Keeps [.fab, .nets] (only []) s t) ∧
  (∀ (p : Fin 8) (k : RxPacket) (s : State), s.up → k.kind = 7 → s.portUp p = true → RxPacketOk k = true → k.dest = s.nodeId →
    Gives (.message p k) s fun t => t.fab.messages = s.fab.messages ++ [(k.src, k.payload)] ∧ Keeps [.fab] (only []) s t) ∧
  (∀ (p : Fin 8) (d : TxDue) (s : State), s.up → s.fabIdle = false → s.get (.FAB_P_STATUS_WIDTH p) ≠ 0 → d.lines = [] → (s.port p).queue = [] →
    d.skip = true → s.driven p = true → Gives (.packetTransmit p d) s fun t => t.out = [.fabSet p .skip (s.setLanes p .skip)] ∧ Keeps [.fab] (only []) s t) ∧
  (∀ (p : Fin 8) (d : TxDue) (k : TxPacket) (ks : List TxPacket) (s : State), s.get (.FAB_P_STATUS_WIDTH p) ≠ 0 → s.portUp p = true → s.dealing = true →
    d = ⟨false, false, false, []⟩ → (s.port p).queue = k :: ks → k.cls = 0 → s.driven p = true → (∀ q ∈ (s.port p).queue, s.flowShut p q.pk.flow = false ∧
      (q.cls = 0 → (s.flow? q.pk.flow).map (s.costUsed p) = some false)) → Gives (.packetTransmit p d) s fun t => t.out = [.fabPacket p k.pk (s.packetLanes p k.pk)] ∧ Keeps [.fab] (only []) s t) ∧
  (∀ (p : Fin 8) (c : Fin 3) (n : BitVec 16) (s : State), s.up → Gives (.credit p ⟨c, n⟩ []) s fun t =>
    Tab.get 0 (t.port p).granted c = n.toNat ∧ (∀ q, q ≠ p.val → t.port q = s.port q) ∧ Keeps [.fab] (only []) s t) ∧
  (∀ (p : Fin 8) (s : State), s.up → Gives (.creditStall p) s fun t =>
    t.get (.FAB_P_MISC_CREDIT_STALL p) = satAdd (Fld.FAB_P_MISC_CREDIT_STALL p).wid (s.get (.FAB_P_MISC_CREDIT_STALL p)) 1
      ∧ Keeps [] (only [Reg.FAB_P_MISC p]) s t) ∧
  (∀ (p : Fin 8) (k : RxPacket) (f : FlowDesc) (held : List Byte) (s : State), s.up → k.kind = 6 → s.portUp p = true →
    RxPacketOk k = true → s.flow? k.flow = some f → srcNode f.src ≠ s.nodeId → f.inPort = p → f.dest = s.nodeId → k.dest = f.dest →
    (Tab.find s.fab.streams f.id).getD ([], false) = (held, true) → Gives (.stream p k) s fun t =>
      Tab.find t.fab.streams f.id = (if bitOf k.field 0 then none else some (held ++ k.payload, true))
        ∧ t.nets = s.nets ∧ Keeps [.fab] (only []) s t) ∧
  (∀ (p : Fin 8) (s : State), s.up → s.fabIdle = false → s.get (.FAB_P_STATUS_WIDTH p) ≠ 0 → s.portUp p = false → (s.port p).queue = [] → s.driven p = true →
    Gives (.packetTransmit p ⟨false, false, false, []⟩) s fun t =>
      t.out = [.fabSet p .idle (s.setLanes p .idle)] ∧ Keeps [.fab] (only []) s t) ∧
  (∀ (p : Fin 8) (c : Fin 3) (n : BitVec 16) (e : Nat × Nat) (es : List (Nat × Nat)) (s : State), s.up → (∀ x ∈ e :: es, x.2 < 8) →
    Gives (.credit p ⟨c, n⟩ (e :: es)) s fun t => Keeps [] (only ((e :: es).map fun e => Reg.SER_LERR (32 + p) e.1)) s t) ∧
  (∀ (p : Fin 8) (c : Fin 3) (n : BitVec 16) (l : Fin 4) (k : Nat) (s : State), s.up → 8 ≤ k → bitOf (s.get (.FAB_P_STATUS_RX_GOOD p)) l = true →
    Gives (.credit p ⟨c, n⟩ [(l, k)]) s fun t => t.get (.FAB_P_STATUS_RX_GOOD p) = putBitN (s.get (.FAB_P_STATUS_RX_GOOD p)) l false
      ∧ t.on (.SER_LSTAT_GOOD (32 + p) l) = false ∧ (t.port p).granted = (s.port p).granted
      ∧ Keeps [] (only [Reg.FAB_P_STATUS p, Reg.SER_LSTAT (32 + p) l, Reg.SER_LERR (32 + p) l]) s t) ∧
  (∀ (p : Fin 8) (d : TxDue) (s : State), s.up → s.fabIdle = false → s.get (.FAB_P_STATUS_WIDTH p) ≠ 0 → d.lines = [] → (s.port p).queue = [] →
    d.skip = true → s.get (.SER_QCTRL_LOOP (32 + p)) = 3 → Gives (.packetTransmit p d) s fun t => t.out = [] ∧ Keeps [.fab] (only []) s t) ∧
  (∀ (p : Fin 8) (d : TxDue) (s : State), s.up → s.fabIdle = false → s.get (.FAB_P_STATUS_WIDTH p) ≠ 0 → d.lines = [] → (s.port p).queue = [] →
    d.skip = true → s.get (.SER_QCTRL_LOOP (32 + p)) = 1 → Gives (.packetTransmit p d) s fun t =>
      t.out = [.looped (32 + p) (s.setLanes p .skip)] ∧ Keeps [.fab] (only []) s t) ∧
  (∀ (p : Fin 8) (d : TxDue) (s : State), s.up → s.fabIdle = false → s.get (.FAB_P_STATUS_WIDTH p) ≠ 0 → d.lines = [] → (s.port p).queue = [] →
    d.skip = true → s.get (.SER_QCTRL_LOOP (32 + p)) = 2 → Gives (.packetTransmit p d) s fun t =>
      t.out = [.fabSet p .skip (s.setLanes p .skip), .looped (32 + p) (s.setLanes p .skip)] ∧ Keeps [.fab] (only []) s t)

/-- Lanes, widths, alignment, loss of a port and discovery act as the link rules say. A lane status set whose check byte is wrong, or with a lane above 3, changes nothing; a right one that some good lane brings whole records the partner's lane, width and UNSYNC, and one that none does is void. A lane change shows in RX_GOOD and the lane status, and a bad lane counts its errors. Alignment of a DOWN port with a good lane each way leads to IDENT at the widths chosen; without one to ALIGNING; in RECOVERY it has no effect. Loss of a port that is neither DISABLED nor DOWN leaves it DOWN at width 0 with its queue dropped. The discovery time-out gives every enabled port a result. A missing tick mark marks an UP port skewed. A loop setting is refused on an active quad, taken on an idle one, and always cleared. That alignment shows PLL_LOCK, and that a lost port cuts its flows, are the model's readings (logs 77 and 75). Rests on: 07_fabric.md R213, 07_fabric.md R214, 07_fabric.md R215, 07_fabric.md R217, 07_fabric.md R218, 07_fabric.md R224, 07_fabric.md R225, 07_fabric.md R234, 07_fabric.md R235, 07_fabric.md R236, 07_fabric.md R250. -/
def Obligations.LinksAlignNarrowAndFail : Prop :=
  (∀ (p : Fin 8) (a l c : Byte) (s : State), s.up → (c ≠ a ^^^ l ^^^ 0xA5#8 ∨ 4 ≤ l.toNat) → Gives (.laneStatus p a l ⟨c, []⟩) s fun t =>
    Keeps [] (only []) s t ∧ (s.get (.SER_QCTRL_LOOP (32 + p)) ≠ 3 → t.out = [])) ∧
  (∀ (p : Fin 8) (a l : Byte) (s : State), s.up → l.toNat < 4 → Gives (.laneStatus p a l ⟨a ^^^ l ^^^ 0xA5#8, []⟩) s fun t =>
    (t.port p).peerWidth = a.toNat / 4 % 4 ∧ (t.port p).peerUnsync = bitOf a.toNat 5
      ∧ (t.port p).peerRx = putBitN (s.port p).peerRx l.toNat (bitOf a.toNat 1) ∧ MemoryFrame s t) ∧
  (∀ (p : Fin 8) (l : Fin 4) (n : Nat) (u : Bool) (s : State), s.up → Gives (.laneBad p l n u) s fun t =>
    t.get (.FAB_P_STATUS_RX_GOOD p) = putBitN (s.get (.FAB_P_STATUS_RX_GOOD p)) l false ∧ t.on (.SER_LSTAT_GOOD (32 + p) l) = false
      ∧ (u = true → t.on (.SER_LSTAT_SYNC (32 + p) l) = false)
      ∧ t.get (.SER_LERR_ERR (32 + p) l) = satAdd (Fld.SER_LERR_ERR (32 + p) l).wid (s.get (.SER_LERR_ERR (32 + p) l)) n
      ∧ Keeps [] (only [Reg.FAB_P_STATUS p, Reg.SER_LSTAT (32 + p) l, Reg.SER_LERR (32 + p) l]) s t) ∧
  (∀ (p : Fin 8) (l : Fin 4) (s : State), s.up → Gives (.laneGood p l) s fun t =>
    t.get (.FAB_P_STATUS_RX_GOOD p) = putBitN (s.get (.FAB_P_STATUS_RX_GOOD p)) l true ∧ t.on (.SER_LSTAT_GOOD (32 + p) l) = true
      ∧ t.on (.SER_LSTAT_SYNC (32 + p) l) = true ∧ Keeps [] (only [Reg.FAB_P_STATUS p, Reg.SER_LSTAT (32 + p) l]) s t) ∧
  (∀ (p : Fin 8) (a b : Fin 16) (s : State), s.up → s.devState ≠ stRecovery → s.logRoom → s.portState p = ptDown → a ≠ 0 → b ≠ 0 →
    Gives (.portAlign p a b) s fun t => t.portState p = ptIdent ∧ t.get (.FAB_P_STATUS_RX_GOOD p) = a
      ∧ t.get (.FAB_P_STATUS_WIDTH p) = (chooseWidth b).1 ∧ t.get (.FAB_P_STATUS_TX_LANES p) = (chooseWidth b).2
      ∧ (t.port p).peerRx = b ∧ (t.port p).peerWidth = (chooseWidth a).1 ∧ (t.port p).heard = 0 ∧ t.on (.SER_QSTAT_PLL_LOCK (32 + p)) = true ∧ MemoryFrame s t) ∧
  (∀ (p : Fin 8) (b : Fin 16) (s : State), s.up → s.devState ≠ stRecovery → s.logRoom → s.portState p = ptDown → Gives (.portAlign p 0 b) s fun t =>
    t.portState p = ptAligning ∧ t.lastLog = some (0x0502, [p.val, ptDown, ptAligning, s.get (.FAB_P_STATUS_WIDTH p)])
      ∧ Keeps [.sco] (only ([Reg.FAB_P_STATUS p, Reg.SER_QSTAT (32 + p)] ++ lstatRegs (32 + p))) s t) ∧
  (∀ (p : Fin 8) (s : State), s.up → s.portState p ≠ ptDisabled → s.portState p ≠ ptDown → Gives (.portDown p) s fun t =>
    t.portState p = ptDown ∧ t.get (.FAB_P_STATUS_WIDTH p) = 0 ∧ t.get (.FAB_P_STATUS_TX_LANES p) = 0 ∧ t.on (.FAB_P_STATUS_PEER_FWD p) = false
      ∧ (t.port p).queue = [] ∧ (t.port p).peerRx = 0 ∧ (t.port p).heard = 0 ∧ (s.portState p = ptUp → t.on .FAB_INT_STATUS_PORT_DOWN = true)
      ∧ MemoryFrame s t) ∧
  (∀ (p : Fin 8) (s : State), s.up → (s.portState p = ptDisabled ∨ s.portState p = ptDown) → exec (.portDown p) s = .next s.quiet) ∧
  (∀ s : State, s.up → Gives .discoveryTimeout s fun t => t.on .FAB_STATUS_DISC_DONE = true
    ∧ (∀ p ∈ s.enabledPorts, (t.port p).result = true ∧ ((s.port p).result = false → t.get (.FAB_P_STATUS_DISC_CAUSE p) = 1))
    ∧ MemoryFrame s t) ∧
  (∀ (p : Fin 8) (s : State), s.up → s.portUp p = true → s.on (.FAB_P_STATUS_SKEWED p) = false → Gives (.tickMarkTimeout p) s fun t =>
    t.on (.FAB_P_STATUS_SKEWED p) = true ∧ t.on .FAB_INT_STATUS_SKEW = true
      ∧ Keeps [] (only [Reg.FAB_P_STATUS p, Reg.FAB_INT_STATUS]) s t) ∧
  (∀ (q : Fin 41) (v : Fin 4) (s : State), s.up → v ≠ 0 → s.quadActive q = true → Gives (.serLoopWrite q v) s fun t =>
    t.on (.SER_QSTAT_LOOP_REFUSED q) = true ∧ Keeps [] (only [Reg.SER_QSTAT q]) s t) ∧
  (∀ (q : Fin 41) (v : Fin 4) (s : State), s.up → (v = 0 ∨ (s.quadActive q = false ∧ (v ≠ 3 ∨ 32 ≤ q.val))) → Gives (.serLoopWrite q v) s fun t =>
    t.get (.SER_QCTRL_LOOP q) = v ∧ Keeps [] (only [Reg.SER_QCTRL q]) s t) ∧
  (∀ (p : Fin 8) (a l : Byte) (m g : Fin 4) (k : Nat) (s : State), s.up → l.toNat < 4 → k < 8 → g ≠ m →
    bitOf (s.get (.FAB_P_STATUS_RX_GOOD p)) g = true → Gives (.laneStatus p a l ⟨a ^^^ l ^^^ 0xA5#8, [(m, k)]⟩) s fun t =>
    (t.port p).peerWidth = a.toNat / 4 % 4 ∧ (t.port p).peerUnsync = bitOf a.toNat 5
      ∧ t.get (.SER_LERR_ERR (32 + p) m) = satAdd (Fld.SER_LERR_ERR (32 + p) m).wid (s.get (.SER_LERR_ERR (32 + p) m)) k ∧ MemoryFrame s t) ∧
  (∀ (p : Fin 8) (a l c : Byte) (m : Fin 4) (k : Nat) (s : State), s.up → k < 8 →
    (∀ g < 4, g ≠ m.val → bitOf (s.get (.FAB_P_STATUS_RX_GOOD p)) g = false) → Gives (.laneStatus p a l ⟨c, [(m, k)]⟩) s fun t =>
    t.port p = s.port p ∧ Keeps [] (only [Reg.SER_LERR (32 + p) m]) s t)

/-- Trump sets are sent in order, received by their copies, and each type that ends here has its effect. A set whose copies all fail is counted bad; two copies that differ count DIFF; a right set of a known type is counted as received and taken. A transmit opportunity takes a priority set before an ordinary one, counts it sent and lets a set that waited into the queues; a port at width 0 sends nothing, and a device that does not deal and is not in SAFE sends the discovery sets only. FLOW_STOP of an own flow stops it; FLOW_CUT marks the flow cut at its place, FLOW_RESUME clears that, PRESENCE of a flow that ends here sets its PRESENT; a tick mark records the partner's tick; ECHO is answered by ECHO_REPLY; a reply adds a sample; identity parts are recorded while the port is in IDENT or DISABLED and ignored otherwise; command pieces open, extend or lose an assembly; the last one puts the whole frame into the intake FIFO, and a short response goes back to the origin of the relayed command, but for a UDP one while the Banker is absent. Each is counted as received; a gap in a source's sequence is counted and logged. That own sets wait beside a full queue is the model's reading (log 91), and which record a gap gives is free (log 114). Rests on: 07_fabric.md R228, 07_fabric.md R229, 07_fabric.md R230, 07_fabric.md R231, 07_fabric.md R232, 07_fabric.md R235, 07_fabric.md R248, 07_fabric.md R250, 12_commands.md R341, 01_architecture.md R37, 15_faults.md R414. -/
def Obligations.TrumpSetsAreCountedAndObeyed : Prop :=
  (∀ (p : Fin 8) (w : Word) (s : State), s.up → Gives (.trumpSetReceive p [] w) s fun t =>
    t.get (.FAB_P_TRUMP_BAD p) = satAdd (Fld.FAB_P_TRUMP_BAD p).wid (s.get (.FAB_P_TRUMP_BAD p)) 1 ∧ t.on .FAB_INT_STATUS_TRUMP_BAD = true
      ∧ Keeps [] (only [Reg.FAB_P_TRUMP p, Reg.FAB_INT_STATUS]) s t) ∧
  (∀ (p : Fin 8) (w : Word) (c : TrumpCopy) (m : Trump) (s : State), s.up → c.errs = 0 → trumpOf c.data = some m → trumpKnown m.type = false →
    Gives (.trumpSetReceive p [c] w) s fun t => t.get (.FAB_P_TRUMP_BAD p) = satAdd (Fld.FAB_P_TRUMP_BAD p).wid (s.get (.FAB_P_TRUMP_BAD p)) 1
      ∧ t.get (.FAB_P_TRUMP_RECEIVED p) = s.get (.FAB_P_TRUMP_RECEIVED p) ∧ MemoryFrame s t) ∧
  (∀ (p : Fin 8) (w : Word) (s : State), s.up → s.get (.FAB_P_STATUS_WIDTH p) = 0 → exec (.trumpSetTransmit p w) s = .next s.quiet) ∧
  (∀ (p : Fin 8) (w : Word) (m : Trump) (b : Bool) (ms : List (Trump × Bool)) (s : State), s.up → s.get (.FAB_P_STATUS_WIDTH p) ≠ 0 →
    s.fabIdle = false → (s.port p).prio = (m, b) :: ms → s.maySend p m = true → Gives (.trumpSetTransmit p w) s fun t =>
      (t.port p).prio = (({ s.port p with prio := ms } : PortSt).refill).prio ∧ (t.port p).ord = (({ s.port p with prio := ms } : PortSt).refill).ord
        ∧ ((s.port p).wait = [] → (t.port p).prio = ms ∧ (t.port p).ord = (s.port p).ord)
        ∧ t.get (.FAB_P_TRUMP_SENT p) = satAdd (Fld.FAB_P_TRUMP_SENT p).wid (s.get (.FAB_P_TRUMP_SENT p)) 1
        ∧ (m.type ≠ tTickMark → m.type ≠ tEcho → m.type ≠ tEchoReply → s.driven p = true → t.out = [.trumpSend p m (s.trumpLanes p m)])
        ∧ Keeps [.fab] (only [Reg.FAB_P_TRUMP p]) s t) ∧
  (∀ (p : Fin 8) (m : Trump) (f : FlowDesc) (s : State), s.up → s.portState p ≠ ptMismatch → m.bcast = false → m.dest = s.nodeId →
    s.flow? (Trump_arg m 0 2) = some f → srcNode f.src = s.nodeId → Gives (.flowStop p m) s fun t =>
      t.get (.FAB_P_TRUMP_RECEIVED p) = satAdd (Fld.FAB_P_TRUMP_RECEIVED p).wid (s.get (.FAB_P_TRUMP_RECEIVED p)) 1
        ∧ t.on (.FAB_FLOW_STATE_STOPPED (Trump_arg m 0 2)) = true ∧ MemoryFrame s t) ∧
  (∀ (p : Fin 8) (m : Trump) (s : State), s.up → s.portState p ≠ ptMismatch → m.bcast = false → m.dest = s.nodeId →
    (s.flow? (Trump_arg m 0 2)).isSome = true → Gives (.flowCut p m) s fun t =>
      t.on (.FAB_FLOW_STATE_CUT (Trump_arg m 0 2)) = true ∧ t.get (.FAB_FLOW_STATE_CUT_NODE (Trump_arg m 0 2)) = Trump_arg m 2 1 % 64
        ∧ t.get (.FAB_FLOW_STATE_CUT_PORT (Trump_arg m 0 2)) = Trump_arg m 3 1 % 8 ∧ t.on .FAB_INT_STATUS_FLOW_CUT = true ∧ MemoryFrame s t) ∧
  (∀ (p : Fin 8) (m : Trump) (s : State), s.up → s.portState p ≠ ptMismatch → m.bcast = false → m.dest = s.nodeId →
    (s.flow? (Trump_arg m 0 2)).isSome = true → Gives (.flowResume p m) s fun t => t.on (.FAB_FLOW_STATE_CUT (Trump_arg m 0 2)) = false ∧ MemoryFrame s t) ∧
  (∀ (p : Fin 8) (m : Trump) (f : FlowDesc) (s : State), s.up → s.portState p ≠ ptMismatch → m.bcast = false → m.dest = s.nodeId →
    s.flow? (Trump_arg m 0 2) = some f → f.dest = s.nodeId → Gives (.presence p m) s fun t =>
      t.on (.FAB_FLOW_STATE_PRESENT (Trump_arg m 0 2)) = bitOf (Trump_arg m 2 1) 0 ∧ MemoryFrame s t) ∧
  (∀ (p : Fin 8) (m : Trump) (w : Word) (s : State), s.up → Gives (.tickMark p m w) s fun t =>
    (t.port p).markTick = s.tick ∧ (t.port p).peerUnsync = bitOf (Trump_arg m 4 1) 0 ∧ t.time.now = w ∧ MemoryFrame s t) ∧
  (∀ (p : Fin 8) (m : Trump) (w : Word) (s : State), s.up → (s.port p).ord.length < 32 → Gives (.echo p m w) s fun t =>
    (∃ r, (t.port p).ord = (s.port p).ord ++ [(r, false)] ∧ r.type = tEchoReply ∧ r.src = s.nodeId)
      ∧ t.get (.FAB_P_TRUMP_RECEIVED p) = satAdd (Fld.FAB_P_TRUMP_RECEIVED p).wid (s.get (.FAB_P_TRUMP_RECEIVED p)) 1
      ∧ Keeps [.fab, .time, .sco] (only [Reg.FAB_P_TRUMP p, Reg.FAB_SEQ_GAP, Reg.LOG_DROP]) s t) ∧
  (∀ (p : Fin 8) (m : Trump) (w : Word) (s : State), s.up → (s.port p).echoes.length < 7 → Gives (.echoReply p m w) s fun t =>
    (t.port p).echoes = insInt (wordDiff w (BitVec.ofNat 32 (Trump_arg m 0 4)) - (Trump_arg m 4 2 : Int)) (s.port p).echoes
      ∧ Keeps [.fab, .time, .sco] (only [Reg.FAB_P_TRUMP p, Reg.FAB_SEQ_GAP, Reg.LOG_DROP]) s t) ∧
  (∀ (p : Fin 8) (m : Trump) (s : State), s.up → s.portState p = ptIdent → (s.port p).heard = 0 → Gives (.identA p m) s fun t =>
    (t.port p).ident.node = Trump_arg m 0 1 ∧ (t.port p).ident.port = Trump_arg m 1 1 ∧ (t.port p).ident.serial = Trump_arg m 2 6
      ∧ t.get (.FAB_P_PEER_NODE p) = Trump_arg m 0 1 % 64 ∧ MemoryFrame s t) ∧
  (∀ (p : Fin 8) (m : Trump) (s : State), s.up → s.portState p = ptIdent → (s.port p).heard = 0 → Gives (.identB p m) s fun t =>
    (t.port p).ident.num = Trump_arg m 1 4 ∧ (t.port p).ident.den = Trump_arg m 5 1 ∧ (t.port p).ident.hashLo = Trump_arg m 6 2
      ∧ MemoryFrame s t) ∧
  (∀ (p : Fin 8) (m : Trump) (s : State), s.up → s.portState p = ptIdent → (s.port p).heard = 0 → Gives (.identC p m) s fun t =>
    (t.port p).ident.hashHi = Trump_arg m 0 2 ∧ (t.port p).ident.node = (s.port p).ident.node ∧ MemoryFrame s t) ∧
  (∀ (p : Fin 8) (m : Trump) (w : Word) (s : State), s.up → s.portState p ≠ ptMismatch → m.bcast = false → m.dest = s.nodeId →
    Tab.find s.cmd.asms m.src = none → Gives (.cmdFirst p m w) s fun t =>
      Tab.find t.cmd.asms m.src = some { bytes := m.args.take 8, last := m.seq }
        ∧ Keeps [.fab, .time, .cmd, .sco] (only [Reg.FAB_P_TRUMP p, Reg.FAB_SEQ_GAP, Reg.LOG_DROP]) s t) ∧
  (∀ (p : Fin 8) (m : Trump) (w : Word) (a : Assembling) (s : State), s.up → s.portState p ≠ ptMismatch → m.bcast = false → m.dest = s.nodeId →
    Tab.find s.cmd.asms m.src = some a → m.seq = a.last + 1 → a.bytes.length < 256 → Gives (.cmdMiddle p m w) s fun t =>
      Tab.find t.cmd.asms m.src = some { bytes := a.bytes ++ m.args.take 8, last := m.seq }
        ∧ Keeps [.fab, .time, .cmd, .sco] (only [Reg.FAB_P_TRUMP p, Reg.FAB_SEQ_GAP, Reg.LOG_DROP]) s t) ∧
  (∀ (p : Fin 8) (m : Trump) (w : Word) (a : Assembling) (s : State), s.up → s.portState p ≠ ptMismatch → m.bcast = false → m.dest = s.nodeId →
    Tab.find s.cmd.asms m.src = some a → m.seq = a.last + 1 → a.bytes.length < 256 → Gives (.cmdLast p m w) s fun t =>
      Tab.find t.cmd.asms m.src = none ∧ t.time.now = w ∧ MemoryFrame s t) ∧
  (∀ (p : Fin 8) (m : Trump) (w : Word) (s : State), s.up → s.portState p ≠ ptMismatch → m.bcast = false → m.dest = s.nodeId →
    Gives (.cmdOnly p m w) s fun t => t.cmd.asms = s.cmd.asms ∧ t.time.now = w
        ∧ t.get (.FAB_P_TRUMP_RECEIVED p) = satAdd (Fld.FAB_P_TRUMP_RECEIVED p).wid (s.get (.FAB_P_TRUMP_RECEIVED p)) 1 ∧ MemoryFrame s t) ∧
  (∀ (p : Fin 8) (m : Trump) (s : State), s.up → s.portState p = ptDisabled → (s.port p).heard = 0 → Gives (.identA p m) s fun t =>
    (t.port p).ident.node = Trump_arg m 0 1 ∧ (t.port p).ident.serial = Trump_arg m 2 6 ∧ t.portState p = ptDisabled ∧ MemoryFrame s t) ∧
  (∀ (p : Fin 8) (m : Trump) (s : State), s.up → s.portState p ≠ ptIdent → s.portState p ≠ ptDisabled → Gives (.identA p m) s fun t =>
    (t.port p).ident = (s.port p).ident ∧ (t.port p).heard = (s.port p).heard
      ∧ Keeps [.fab, .sco] (only [Reg.FAB_P_TRUMP p, Reg.FAB_SEQ_GAP, Reg.LOG_DROP]) s t) ∧
  (∀ (p : Fin 8) (w : Word) (s : State), s.up → s.fabSilent = true →
    (∀ e ∈ (s.port p).prio ++ (s.port p).ord, trumpDisc e.1.type = false) → exec (.trumpSetTransmit p w) s = .next s.quiet) ∧
  (∀ (p : Fin 8) (w : Word) (c : TrumpCopy) (m : Trump) (s : State), s.up → c.errs = 0 → trumpOf c.data = some m → trumpKnown m.type = true →
    Gives (.trumpSetReceive p [c] w) s fun t => t.get (.FAB_P_TRUMP_RECEIVED p) = satAdd (Fld.FAB_P_TRUMP_RECEIVED p).wid (s.get (.FAB_P_TRUMP_RECEIVED p)) 1
      ∧ t.time.now = w ∧ MemoryFrame s t) ∧
  (∀ (p : Fin 8) (m : Trump) (w : Word) (a : Assembling) (bs fr : List Byte) (s : State), s.up → s.portState p ≠ ptMismatch → m.bcast = false →
    m.dest = s.nodeId → Tab.find s.cmd.asms m.src = some a → m.seq = a.last + 1 → a.bytes.length < 256 → bs = a.bytes ++ m.args.take 8 →
    fr = bs.take (20 + frameLength bs) → ceilDiv (20 + frameLength bs) 8 * 8 = bs.length → bitOf (frameNum fr 1 1) 0 = false → s.relays fr = false →
    s.intakeFull = false → frameCrcOk fr = true → Gives (.cmdLast p m w) s fun t =>
      t.cmd = { s.cmd with asms := Tab.erase s.cmd.asms m.src, fifo := queueFrame ⟨⟨2, 0, BitVec.ofNat 32 m.src, 0⟩, fr, w, true⟩ s.cmd.fifo }
        ∧ Keeps [.fab, .time, .cmd, .sco] (only [Reg.FAB_P_TRUMP p, Reg.FAB_SEQ_GAP, Reg.LOG_DROP]) s t) ∧
  (∀ (p : Fin 8) (m : Trump) (w : Word) (r : RelayRec) (s : State), s.up → s.portState p ≠ ptMismatch → m.bcast = false → m.dest = s.nodeId →
    s.cmd.relays = [r] → r.target = m.src → r.session = Trump_arg m 0 2 → r.seq = Trump_arg m 2 4 → r.alive = Trump_arg m 6 1 →
    r.origin.transport = 0 → s.bankerUp = true → Gives (.cmdOnly p m w) s fun t => t.cmd = { s.cmd with relays := [] } ∧ (∃ bs, t.out = [.response r.origin bs])
      ∧ Keeps [.fab, .time, .cmd, .sco] (only [Reg.FAB_P_TRUMP p, Reg.FAB_SEQ_GAP, Reg.LOG_DROP]) s t) ∧
  (∀ (p : Fin 8) (m : Trump) (w : Word) (r : RelayRec) (s : State), s.up → s.portState p ≠ ptMismatch → m.bcast = false → m.dest = s.nodeId →
    s.cmd.relays = [r] → r.target = m.src → r.session = Trump_arg m 0 2 → r.seq = Trump_arg m 2 4 → r.alive = Trump_arg m 6 1 →
    r.origin.transport = 0 → s.bankerUp = false → Gives (.cmdOnly p m w) s fun t => t.cmd = { s.cmd with relays := [] } ∧ t.out = []
      ∧ Keeps [.fab, .time, .cmd, .sco] (only [Reg.FAB_P_TRUMP p, Reg.FAB_SEQ_GAP, Reg.LOG_DROP]) s t) ∧
  (∀ (p : Fin 8) (m : Trump) (w : Word) (l : Nat) (s : State), s.up → s.logRoom → s.portState p ≠ ptMismatch → m.bcast = false → m.dest = s.nodeId →
    (s.port p).ord.length < 32 → Tab.get 256 s.fab.seqIn m.src = l → l ≠ 256 → m.seq.toNat ≠ (l + 1) % 256 → Gives (.echo p m w) s fun t =>
    t.get .FAB_SEQ_GAP_GAPS = satAdd (Fld.FAB_SEQ_GAP_GAPS).wid (s.get .FAB_SEQ_GAP_GAPS) 1 ∧ t.get .FAB_SEQ_GAP_LAST_SRC = m.src % 2 ^ (Fld.FAB_SEQ_GAP_LAST_SRC).wid
      ∧ t.sco.queue.length = s.sco.queue.length + 1 ∧ MemoryFrame s t)

/-- The Banker's sets, the table check, lost fragments and every step of a wall commit. A set of a hardware type is REFUSED; another, with room, waits at the ports of its route with the next sequence number and is answered OK. Reading FAB_RX_ARG1 takes the oldest set from the FIFO unless the debug unit reads. GO of the table check sets BUSY. A fragment time-out drops the assembly and counts it. A wall request while one is coordinated is ignored; with an unknown wall or a target more than 15 ticks ahead it aborts with RANGE, less than 2 ahead with LATE; else PREPARING begins. PREPARE goes out at its boundary, an unsynchronised node aborting with STATE; DECIDE goes out once; sets of the other types are taken from the FIFO: a PREPARE for a participant submits its part, a DECIDE of GO before the cutoff releases the armed part, an outcome is recorded; the cutoff drops a part that was not released. With its Banker absent a coordinator sends PREPARE and takes no part, and a part whose admission ends then is dropped without a vote. That a request is ignored while one is coordinated, and that an unknown wall is RANGE, are the model's choices (log 80). Rests on: 07_fabric.md R233, 07_fabric.md R237, 12_commands.md R346, 03_composition.md R124, 03_composition.md R125, 03_composition.md R126, 03_composition.md R127, 03_composition.md R128, 07_fabric.md R241. -/
def Obligations.BankerSendsReceivesAndCommitsWalls : Prop :=
  (∀ s : State, s.up → trumpHw (s.get .FAB_TX_CTRL_TYPE) = true → Gives .fabTxGo s fun t => t.get .FAB_TX_STATUS_CODE = stREFUSED
    ∧ Keeps [] (only [Reg.FAB_TX_STATUS]) s t) ∧
  (∀ s : State, s.up → trumpHw (s.get .FAB_TX_CTRL_TYPE) = false → (∀ p < 8, (s.port p).prio = [] ∧ (s.port p).ord = []) → Gives .fabTxGo s fun t =>
    t.get .FAB_TX_STATUS_CODE = stOK
      ∧ (s.on .FAB_TX_CTRL_BCAST = false → t.get .FAB_TX_STATUS_SEQ = Tab.get 0 s.fab.seqOut (s.get .FAB_TX_CTRL_DEST) % 256)
      ∧ t.fab.fifo = s.fab.fifo ∧ MemoryFrame s t
      ∧ (∀ p ∈ s.trumpPorts (s.on .FAB_TX_CTRL_BCAST) s.nodeId (s.get .FAB_TX_CTRL_DEST), ∃ x, (x, true) ∈ (t.port p).prio ++ (t.port p).ord
          ∧ x.type = s.get .FAB_TX_CTRL_TYPE ∧ x.src = s.nodeId)) ∧
  (∀ s : State, s.up → Gives (.fabRxArg1Read false) s fun t => t.fab = { s.fab with fifo := s.fab.fifo.drop 1 }
    ∧ t.out = [.read Reg.FAB_RX_ARG1 s.rxWords.2.2] ∧ MemoryFrame s t) ∧
  (∀ s : State, s.up → Gives (.fabRxArg1Read true) s fun t => t.out = [.read Reg.FAB_RX_ARG1 s.rxWords.2.2] ∧ Keeps [] (only []) s t) ∧
  (∀ s : State, s.up → Gives .fabRtCheckGo s fun t => t.on .FAB_RT_CHECK_BUSY = true ∧ Keeps [] (only [Reg.FAB_RT_CHECK]) s t) ∧
  (∀ (n : Fin 64) (s : State), s.up → (Tab.find s.cmd.asms n).isSome = true → Gives (.fragmentTimeout n) s fun t =>
    t.cmd = { s.cmd with asms := Tab.erase s.cmd.asms n } ∧ t.get .CMD_CNT_FRAG_LOST = satAdd (Fld.CMD_CNT_FRAG_LOST).wid (s.get .CMD_CNT_FRAG_LOST) 1
      ∧ Keeps [.cmd] (only [Reg.CMD_CNT]) s t) ∧
  (∀ s : State, s.up → s.wall.coord.isSome = true → exec .cmpWallGo s = .next s.quiet) ∧
  (∀ s : State, s.up → s.wall.coord = none → 2 ≤ wordDiff (s.word Reg.CMP_WALL_TARGET) (s.tick + 1) →
    wordDiff (s.word Reg.CMP_WALL_TARGET) (s.tick + 1) ≤ 15 → (s.wallDesc (s.get .CMP_WALL_REQ_LAYOUT)).isSome = true → Gives .cmpWallGo s fun t =>
      t.wall.coord = some ⟨(s.wall.nextId + 1) % 256, s.get .CMP_WALL_REQ_LAYOUT, s.tick + 1,
          (wordDiff (s.word Reg.CMP_WALL_TARGET) (s.tick + 1)).toNat, false, none, [], []⟩
        ∧ t.wall.nextId = (s.wall.nextId + 1) % 256 ∧ t.get .CMP_WALL_STATUS_ID = (s.wall.nextId + 1) % 256
        ∧ t.get .CMP_WALL_STATUS_PHASE = wpPreparing ∧ t.on .CMP_WALL_STATUS_COORD = true
        ∧ Keeps [.wall] (only [Reg.CMP_WALL_STATUS]) s t) ∧
  (∀ s : State, s.up → s.wall.coord = none → wordDiff (s.word Reg.CMP_WALL_TARGET) (s.tick + 1) < 2 →
    (s.wallDesc (s.get .CMP_WALL_REQ_LAYOUT)).isSome = true → Gives .cmpWallGo s fun t =>
      t.wall.coord = none ∧ t.get .CMP_WALL_STATUS_PHASE = wpAborted ∧ t.get .CMP_WALL_STATUS_ABORT_CODE = stLATE
        ∧ t.on .CMP_INT_STATUS_WALL_ABORT = true ∧ Keeps [.wall] (only [Reg.CMP_WALL_STATUS, Reg.CMP_INT_STATUS]) s t) ∧
  (∀ s : State, s.up → s.wall.coord = none → (15 < wordDiff (s.word Reg.CMP_WALL_TARGET) (s.tick + 1) ∨
    (s.wallDesc (s.get .CMP_WALL_REQ_LAYOUT)).isNone = true) → Gives .cmpWallGo s fun t =>
      t.wall.coord = none ∧ t.get .CMP_WALL_STATUS_PHASE = wpAborted ∧ t.get .CMP_WALL_STATUS_ABORT_CODE = stRANGE
        ∧ t.get .CMP_WALL_STATUS_ABORT_NODE = s.nodeId ∧ t.on .CMP_INT_STATUS_WALL_ABORT = true
        ∧ Keeps [.wall] (only [Reg.CMP_WALL_STATUS, Reg.CMP_INT_STATUS]) s t) ∧
  (∀ (c : WallCoord) (s : State), s.up → s.wall.coord = some c → c.sent = false → 0 ≤ wordDiff s.tick c.m → s.unsync = true → Gives .prepareSend s fun t =>
      t.wall.coord = none ∧ t.get .CMP_WALL_STATUS_PHASE = wpAborted ∧ t.get .CMP_WALL_STATUS_ABORT_CODE = stSTATE
        ∧ t.get .CMP_WALL_STATUS_ABORT_NODE = s.nodeId ∧ Keeps [.wall] (only [Reg.CMP_WALL_STATUS, Reg.CMP_INT_STATUS]) s t) ∧
  (∀ (c : WallCoord) (s : State), s.up → s.wall.coord = some c → c.sent = false → 0 ≤ wordDiff s.tick c.m → s.unsync = false → Gives .prepareSend s fun t =>
      (t.wall.coord.map fun x => (x.id, x.sent)) = some (c.id, true) ∧ MemoryFrame s t) ∧
  (∀ (x : Trump) (q : Nat) (fs : List (Trump × Nat)) (w : Word) (s : State), s.up → s.bankerUp = true → s.fab.fifo = (x, q) :: fs →
    x.type = tWallPrepare → Gives (.wallPrepare w) s fun t => t.fab.fifo = fs ∧ MemoryFrame s t) ∧
  (∀ (x : Trump) (q : Nat) (fs : List (Trump × Nat)) (c : WallCoord) (s : State), s.up → s.bankerUp = true → s.fab.fifo = (x, q) :: fs → x.type = tWallVote →
    s.wall.coord = some c → c.id = Trump_arg x 0 1 → c.decided = none → wordDiff s.tick (c.m + BitVec.ofNat 32 (c.d - 1)) < 0 →
    (s.wallMembers c).contains x.src = true → c.votes.any (·.1 == x.src) = false → Gives .wallVote s fun t =>
      t.fab.fifo = fs ∧ t.wall.coord = some { c with votes := c.votes ++ [(x.src, Trump_arg x 1 1)] } ∧ Keeps [.fab, .wall] (only []) s t) ∧
  (∀ (c : WallCoord) (w : Word) (s : State), s.up → s.wall.coord = some c → c.sent = true → c.decided = none →
    0 ≤ wordDiff s.tick (c.m + BitVec.ofNat 32 (c.d - 1)) → Gives (.decideSend w) s fun t =>
      (t.wall.coord.map fun x => (x.id, x.decided)) = some (c.id, some (s.voteAgainst? c).isNone) ∧ MemoryFrame s t) ∧
  (∀ (x : Trump) (q : Nat) (fs : List (Trump × Nat)) (w : Word) (s : State), s.up → s.bankerUp = true → s.fab.fifo = (x, q) :: fs →
    x.type = tWallDecide → Gives (.wallDecide w) s fun t => t.fab.fifo = fs ∧ MemoryFrame s t) ∧
  (∀ (p : WallPart) (s : State), s.up → s.wall.part = some p → s.wall.left = [] → p.released = false → p.dropped = false → p.coord ≠ s.nodeId →
    0 ≤ wordDiff s.tick (p.m + BitVec.ofNat 32 (p.d - 1)) → Gives .wallCutoff s fun t =>
      t.wall.part = some { p with dropped := true } ∧ t.on .CMP_COMMIT_WALL_ARMED = t.dealer.changes.any Change.armed ∧ t.get .CMP_WALL_STATUS_PHASE = wpAborted
        ∧ t.dealer.changes = s.dealer.changes.filter (fun c => c.id != p.change) ∧ MemoryFrame s t) ∧
  (∀ (x : Trump) (q : Nat) (fs : List (Trump × Nat)) (s : State), s.up → s.cmd.runs = [] → s.bankerUp = true → s.fab.fifo = (x, q) :: fs →
    x.type = tWallOutcome → Gives .wallOutcome s fun t => t.fab.fifo = fs ∧ (s.wall.coord = none → t.wall = s.wall) ∧ MemoryFrame s t) ∧
  (∀ (x : Trump) (q : Nat) (fs : List (Trump × Nat)) (w : Word) (m e : Word) (d : WallDesc) (s : State), s.dealing = true → s.bankerUp = true →
    s.fab.fifo = (x, q) :: fs → x.type = tWallPrepare → s.unsync = false → s.latestEdge 16 (Trump_arg x 3 1) w = some (m, e) →
    s.wallDesc (Trump_arg x 1 1) = some d → d.members.contains s.nodeId = true → x.src ≠ s.nodeId → s.wallArmed = false →
    s.dealer.changes.length < 4 → Gives (.wallPrepare w) s fun t =>
      t.wall.part = some ⟨Trump_arg x 0 1, x.src, m, Trump_arg x 2 1, s.dealer.nextChange, false, false⟩
        ∧ t.dealer.changes.map (fun c => (c.id, c.stage, c.dueTick))
          = s.dealer.changes.map (fun c => (c.id, c.stage, c.dueTick)) ++ [(s.dealer.nextChange, .waiting, m + BitVec.ofNat 32 (Trump_arg x 2 1))]
        ∧ t.get .CMP_WALL_STATUS_ID = Trump_arg x 0 1 % 256 ∧ t.on .CMP_WALL_STATUS_COORD = false ∧ t.fab.fifo = fs
        ∧ Keeps [.fab, .wall, .dealer, .time] (only [Reg.CMP_WALL_STATUS, Reg.DLR_STATUS]) s t) ∧
  (∀ (x : Trump) (q : Nat) (fs : List (Trump × Nat)) (w : Word) (p : WallPart) (k : Change) (s : State), s.up → s.bankerUp = true → s.fab.fifo = (x, q) :: fs →
    x.type = tWallDecide → s.wall.part = some p → p.coord = x.src → p.id = Trump_arg x 0 1 → Trump_arg x 1 1 = 1 → p.dropped = false →
    p.released = false → s.beforeCutoff p w = true → s.dealer.changes.find? (fun c => c.id == p.change && c.armed) = some k → Gives (.wallDecide w) s fun t =>
      t.wall.part = some { p with released := true } ∧ t.on .CMP_COMMIT_WALL_ARMED = t.dealer.changes.any Change.armed ∧ t.fab.fifo = fs
        ∧ t.dealer.changes = s.dealer.changes.map (fun c =>
            if c.id = p.change then { c with stage := .released (p.m + BitVec.ofNat 32 p.d), place := k.place } else c)
        ∧ Keeps [.fab, .wall, .dealer, .time] (only [Reg.CMP_COMMIT]) s t) ∧
  (∀ (x : Trump) (q : Nat) (fs : List (Trump × Nat)) (c : WallCoord) (s : State), s.up → s.cmd.runs = [] → s.bankerUp = true → s.fab.fifo = (x, q) :: fs →
    x.type = tWallOutcome → s.wall.coord = some c → c.id = Trump_arg x 0 1 → (s.wallMembers c).contains x.src = true →
    c.outcomes.any (·.1 == x.src) = false → Gives .wallOutcome s fun t =>
      t.wall.coord = some { c with outcomes := c.outcomes ++ [(x.src, Trump_arg x 1 1)] } ∧ t.fab.fifo = fs
        ∧ Keeps [.fab, .wall] (only [Reg.CMP_WALL_STATUS, Reg.CMP_INT_STATUS]) s t) ∧
  (∀ (c : WallCoord) (s : State), s.up → s.wall.coord = some c → c.sent = false → 0 ≤ wordDiff s.tick c.m → s.unsync = false →
    s.bankerUp = false → s.bankerRestarting = false → Gives .prepareSend s fun t =>
      t.wall.coord = some { c with sent := true } ∧ t.wall.part = s.wall.part ∧ t.dealer = s.dealer ∧ MemoryFrame s t) ∧
  (∀ (c : Change) (p : WallPart) (sh : Tab Word) (y : Option Nat) (s : State), s.up → s.bankerUp = false → s.nextChange = some c → c.kind = .wall sh y →
    s.wallParts.find? (·.change == c.id) = some p → Gives .changeAdmission s fun t =>
      t.dealer.changes = s.dealer.changes.filter (fun x => x.id != c.id) ∧ t.fab = s.fab ∧ MemoryFrame s t)

/-- A write lands where it says and nowhere else; reads queue, are answered with the bytes, or fail outside memory. A whole-block write to external memory by a port leaves exactly its bytes there, every other byte as before, and its block number in the write queue while the drain mark is not reached; one outside the memory writes nothing and is logged; with the queue full, a read of its block unanswered, or a part of a block while the sub-channel does not issue, the write is held and nothing is written; one to a failed sub-channel is discarded and counted. A part of a block written over a block already queued changes just its bytes. A read while its sub-channel does not issue is queued; a read of an error-free block on an idle ready sub-channel is answered with the stored bytes and leaves memory as it is; one of a poisoned block still in the write queue is answered as bad; one outside memory is answered as bad and logged. That the bytes of a queued write stand in memory at once is the model's choice (log 48). Rests on: 08_memory.md R259, 08_memory.md R261, 08_memory.md R262, 08_memory.md R263, 08_memory.md R264, 08_memory.md R265, 08_memory.md R266, 08_memory.md R271, 08_memory.md R272, 08_memory.md R275. -/
def Obligations.DramReadsReturnWhatWasWritten : Prop :=
  (∀ (w : MemWrite) (u b : Nat) (s : State), s.up → s.memMap w.addr = some (u, b) → s.scState u ≠ scFailed → w.addr % 256 = 0 →
    w.bytes.length = 256 → (s.sub u).wq.length < 64 → (s.sub u).held = [] → (∀ q ∈ (s.sub u).rq, q.req.addr / 256 ≠ w.addr / 256) → Gives (.dramWrite w) s fun t =>
      readBytes Config.dramFill t.dram w.addr 256 = w.bytes
        ∧ (∀ a, (a < w.addr ∨ w.addr + 256 ≤ a) → Tab.get Config.dramFill t.dram a = Tab.get Config.dramFill s.dram a)
        ∧ t.mram = s.mram ∧ t.flash = s.flash ∧ t.plat = s.plat ∧ t.pending = s.pending
        ∧ ((s.sub u).queued b = true ∨ (s.sub u).wq.length + 1 < s.get .MEM_WQ_WQ_HIGH →
            (t.sub u).queued b = true ∧ Keeps [.dram, .mem] (only [Reg.MEM_SC_STATUS u]) s t)) ∧
  (∀ (w : MemWrite) (u b : Nat) (s : State), s.up → s.memMap w.addr = some (u, b) → s.scState u ≠ scFailed →
    0 < w.bytes.length → w.addr % 256 + w.bytes.length < 256 → (s.sub u).queued b = true → (s.sub u).held = [] →
    (s.sub u).targets = [] →
    (∀ q ∈ (s.sub u).rq, q.req.addr / 256 ≠ w.addr / 256) →
    Gives (.dramWrite w) s fun t =>
      readBytes Config.dramFill t.dram w.addr w.bytes.length = w.bytes
        ∧ (∀ a, (a < w.addr ∨ w.addr + w.bytes.length ≤ a) → Tab.get Config.dramFill t.dram a = Tab.get Config.dramFill s.dram a)
        ∧ (t.sub u).wq.map (·.blk) = (s.sub u).wq.map (·.blk)
        ∧ t.get (.MEM_SC_DRAIN_RMW u) = satAdd (Fld.MEM_SC_DRAIN_RMW u).wid (s.get (.MEM_SC_DRAIN_RMW u)) 1
        ∧ Keeps [.dram, .mem] (only [Reg.MEM_SC_DRAIN u]) s t) ∧
  (∀ (w : MemWrite) (s : State), s.up → s.logRoom → s.memMap w.addr = none → Gives (.dramWrite w) s fun t =>
      t.out = [.block w.port w.addr [] true] ∧ t.lastLog.map (·.1) = some 0x0801 ∧ Keeps [.sco, .freeCtr] (only []) s t) ∧
  (∀ (q : MemReq) (u b : Nat) (s : State), s.up → s.memMap q.addr = some (u, b) → (∀ v < 8, s.subIssues v = false) → Gives (.dramRead [q]) s fun t =>
      (t.sub u).rq = (s.sub u).rq ++ [⟨q, 0⟩] ∧ t.out = [] ∧ t.dram = s.dram ∧ (∀ v, v ≠ u → t.sub v = s.sub v)
        ∧ Keeps [.mem] (only [Reg.MEM_SC_STATUS u]) s t) ∧
  (∀ (q : MemReq) (u b : Nat) (s : State), s.up → u < 8 → s.memMap q.addr = some (u, b) → s.subIssues u = true → s.scState u = scReady →
    (∀ v < 8, (s.sub v).rq = []) → (s.sub u).targets = [] → q.errs = [] → q.use ≠ .scrub → s.chkDiff q.addr = 0 → Gives (.dramRead [q]) s fun t =>
      t.out = [.block q.port q.addr (s.blockData q.addr) false] ∧ (t.sub u).rq = [] ∧ (t.sub u).wq = (s.sub u).wq ∧ MemoryFrame s t) ∧
  (∀ (q : MemReq) (s : State), s.up → s.logRoom → s.memMap q.addr = none → (∀ v < 8, s.subIssues v = false) → Gives (.dramRead [q]) s fun t =>
      t.out = [.block q.port q.addr [] true] ∧ t.lastLog.map (·.1) = some 0x0801 ∧ Keeps [.sco, .freeCtr] (only []) s t) ∧
  (∀ (q : MemReq) (u b : Nat) (s : State), s.up → u < 8 → s.memMap q.addr = some (u, b) → s.subIssues u = true → s.scState u = scReady →
    (∀ v < 8, (s.sub v).rq = []) → (s.sub u).queued b = true → q.use ≠ .scrub → s.chkDiff q.addr ≠ 0 → Gives (.dramRead [q]) s fun t =>
      (∃ bs, Emission.block q.port q.addr bs true ∈ t.out) ∧ t.on .MEM_INT_STATUS_CHK_PERSIST = true ∧ t.get .MEM_CHK_INFO_PORT = q.port % 64) ∧
  (∀ (w : MemWrite) (u b : Nat) (s : State), s.up → s.memMap w.addr = some (u, b) → s.scState u ≠ scFailed →
    ((s.sub u).rq.any (fun q => q.req.addr / 256 == w.addr / 256) = true ∨ ((s.sub u).queued b = false ∧
      (64 ≤ (s.sub u).wq.length ∨ ((MemWrite_bytes w).length ≠ 256 ∧ s.subIssues u = false)))) → (s.sub u).held = [] →
    Gives (.dramWrite w) s fun t =>
      (t.sub u).held = [w] ∧ (t.sub u).wq = (s.sub u).wq ∧ (∀ v, v ≠ u → t.sub v = s.sub v) ∧ t.dram = s.dram
        ∧ Keeps [.mem] (only [Reg.MEM_SC_STATUS u]) s t) ∧
  (∀ (w : MemWrite) (u b : Nat) (s : State), s.up → s.memMap w.addr = some (u, b) → s.scState u = scFailed → (s.sub u).held = [] →
    Gives (.dramWrite w) s fun t => t.get .MEM_CHK_CNT_PERSIST = satAdd (Fld.MEM_CHK_CNT_PERSIST).wid (s.get .MEM_CHK_CNT_PERSIST) 1
      ∧ t.dram = s.dram ∧ (∀ v, t.sub v = s.sub v) ∧ Keeps [.mem] (only [Reg.MEM_CHK_CNT]) s t)

/-- Drains, refreshes, alerts, training and frequency changes of the memory controller. A drain at the high mark issues writes down to the low one and counts, and issues none out of spare bandwidth while one from a reservation waits; with an empty queue nothing happens. A refresh due is counted against the debt, put off while a port that holds tokens waits, or issued and logged in the command list. An MR4 reading over the limit doubles the rate and is logged, a normal one ends both; a sub-channel in REPLAY or FAILED is not read. An alert without CA parity counts as spurious; with it a ready sub-channel goes to REPLAY, and when ALERT_N stays low it fails; a completed replay makes it ready again. A targeted refresh of a ready sub-channel leaves the queue and is sent with its neighbours; one that is not ready sends none. A training step that passes keeps its results and goes on; after the last, memory is initialised, which leaves it clear, but for blocks in the write queues, and READY. A frequency change is answered STATE in DEALING, RANGE above the limit or for target 0 by firmware, BUSY in RESET and INIT, so before the first training; in TRAINING it is put off, and in READY it trains anew. That the bytes of a queued write stand in memory at once is the model's choice (log 48). Rests on: 01_architecture.md R16, 08_memory.md R256, 08_memory.md R262, 08_memory.md R264, 08_memory.md R267, 08_memory.md R268, 08_memory.md R269, 08_memory.md R270, 08_memory.md R274, 08_memory.md R275, 08_memory.md R276, 08_memory.md R277. -/
def Obligations.TheControllerTrainsRefreshesAndRecovers : Prop :=
  (∀ (u : Fin 8) (n : Nat) (due : List (Nat × Fin 2)) (s : State), s.up → (s.sub u).wq = [] → (s.sub u).held = [] →
    exec (.writeDrain u ⟨n, due⟩) s = .next s.quiet) ∧
  (∀ (u : Fin 8) (n : Nat) (s : State), s.up → s.subIssues u = true → s.scState u = scReady → 0 < (s.sub u).wq.length →
    s.get .MEM_WQ_WQ_HIGH ≤ (s.sub u).wq.length → s.get .MEM_WQ_WQ_LOW ≤ (s.sub u).wq.length → (s.sub u).held = [] →
    (∀ e ∈ (s.sub u).wq, e.spare = false) →
    Gives (.writeDrain u ⟨n, []⟩) s fun t =>
      (t.sub u).wq = (s.sub u).wq.drop ((s.sub u).wq.length - s.get .MEM_WQ_WQ_LOW)
        ∧ t.get (.MEM_SC_DRAIN_DRAINS u) = satAdd (Fld.MEM_SC_DRAIN_DRAINS u).wid (s.get (.MEM_SC_DRAIN_DRAINS u)) 1
        ∧ (t.sub u).rq = (s.sub u).rq ∧ (∀ v, v ≠ u.val → t.sub v = s.sub v) ∧ MemoryFrame s t) ∧
  (∀ (u : Fin 8) (k b r : Nat) (xs : List (Nat × Nat × Nat)) (s : State), s.up → s.scState u = scReady → (s.sub u).targets = (k, b, r) :: xs →
    Gives (.targetedRefresh u) s fun t => (t.sub u).targets = xs ∧ t.on .MEM_INT_STATUS_TARGETED = true
      ∧ t.get (.MEM_SC_RDT_TARGETED u) = satAdd (Fld.MEM_SC_RDT_TARGETED u).wid (s.get (.MEM_SC_RDT_TARGETED u)) 1
      ∧ (∃ rows, t.out = [.targeted u k b rows] ∧ ∀ x ∈ rows, x ≠ r ∧ x < 2 ^ (orgBits (s.get .MEM_CFG_ORG)).2.1)
      ∧ Keeps [.mem] (only [Reg.MEM_SC_STATUS u, Reg.MEM_SC_RDT u, Reg.MEM_INT_STATUS]) s t) ∧
  (∀ (u : Fin 8) (r : Fin 2) (s : State), s.up → r.val < s.memRanks → s.scState u = scReady → ((s.sub u).rank r).debt < 0 →
    Gives (.refresh u r .issue) s fun t => ((t.sub u).rank r).debt = ((s.sub u).rank r).debt + 1 ∧ (t.sub u).cmds = (s.sub u).cmds
      ∧ Keeps [.mem] (only [Reg.MEM_SC_STATUS u]) s t) ∧
  (∀ (u : Fin 8) (r : Fin 2) (s : State), s.up → r.val < s.memRanks → s.scState u = scReady → 0 ≤ ((s.sub u).rank r).debt →
    Gives (.refresh u r .issue) s fun t => ((t.sub u).rank r).refreshes = (((s.sub u).rank r).refreshes + 1) % 8192
      ∧ ((t.sub u).rank r).debt = ((s.sub u).rank r).debt ∧ (t.sub u).cmds.getLast? = some (.refresh r)
      ∧ Keeps [.mem] (only [Reg.MEM_SC_STATUS u]) s t) ∧
  (∀ (u : Fin 8) (r : Fin 2) (s : State), s.up → s.logRoom → r.val < s.memRanks → s.scState u ≠ 0 → s.scState u ≠ scReplay → s.scState u ≠ scFailed →
    Gives (.mr4Read u r .overLimit) s fun t => ((t.sub u).rank r).doubled = true ∧ ((t.sub u).rank r).overLim = true
      ∧ t.on .MEM_INT_STATUS_HOT = true ∧ t.on (.MEM_SC_STATUS_REF2X u) = true ∧ t.on (.MEM_SC_STATUS_OVER_LIMIT u) = true
      ∧ t.lastLog = some (0x0404, [u.val, r.val, 1]) ∧ Keeps [.mem, .sco] (only [Reg.MEM_SC_STATUS u, Reg.MEM_INT_STATUS, Reg.MEM_STATUS]) s t) ∧
  (∀ (u : Fin 8) (d : Int) (s : State), s.up → s.get .MEM_STATUS_STATE = memReady → u.val < s.memSubs → Gives (.dqsTrack u d) s fun t =>
    (t.sub u).drift = d ∧ (∀ v, v ≠ u.val → t.sub v = s.sub v) ∧ Keeps [.mem] (only [Reg.MEM_SC_STATUS u]) s t) ∧
  (∀ (u : Fin 8) (s : State), s.up → u.val < s.memSubs → s.on .MEM_CFG_CA_PAR = false → s.mem.stalled = [] → Gives (.alert u) s fun t =>
    t.get (.MEM_SC_ALERT_SPURIOUS u) = satAdd (Fld.MEM_SC_ALERT_SPURIOUS u).wid (s.get (.MEM_SC_ALERT_SPURIOUS u)) 1
      ∧ Keeps [] (only [Reg.MEM_SC_ALERT u]) s t) ∧
  (∀ (u : Fin 8) (s : State), s.up → u.val < s.memSubs → s.on .MEM_CFG_CA_PAR = true → s.scState u = scReady → (s.sub u).alerts < 3 → s.mem.stalled = [] →
    Gives (.alert u) s fun t => t.scState u = scReplay ∧ (t.sub u).low = true ∧ (t.sub u).alerts = (s.sub u).alerts + 1
      ∧ t.on .MEM_INT_STATUS_ALERT = true ∧ Keeps [.mem] (only [Reg.MEM_SC_ALERT u, Reg.MEM_SC_STATUS u, Reg.MEM_INT_STATUS]) s t) ∧
  (∀ (u : Fin 8) (s : State), s.up → s.scState u = scReplay → (s.sub u).low = true → s.mem.stalled = [] → Gives (.alertTimeout u) s fun t =>
    t.scState u = scFailed ∧ t.on .MEM_INT_STATUS_SC_FAILED = true ∧ bitOf (t.get .MEM_STATUS_SC_FAILED) u = true ∧ MemoryFrame s t) ∧
  (∀ (u : Fin 8) (s : State), s.up → s.scState u = scReplay → (s.sub u).low = true → (s.sub u).rq = [] →
    (s.sub u).held = [] → (s.sub u).wq.length < s.get .MEM_WQ_WQ_HIGH → s.mem.scrubLeft = 0 → s.mem.stalled = [] → Gives (.alertNReturn u true) s fun t =>
    t.scState u = scReady ∧ (t.sub u).low = false ∧ (t.sub u).alerts = 0 ∧ (t.sub u).cmds = (s.sub u).cmds
      ∧ t.get (.MEM_SC_ALERT_REPLAYS u) = satAdd (Fld.MEM_SC_ALERT_REPLAYS u).wid (s.get (.MEM_SC_ALERT_REPLAYS u)) 1 ∧ MemoryFrame s t) ∧
  (∀ (u : Fin 8) (v : List Nat) (s : State), s.up → s.get .MEM_STATUS_STATE = memTraining → s.get .MEM_TRAIN_RESULT = 1 → s.on .MEM_FREQ_PENDING = false →
    s.get .MEM_TRAIN_STEP < 5 → (∀ u < 8, (s.sub u).stepAlert = false) → u.val < s.memSubs → Gives (.trainingStep ⟨[], [(u, v)]⟩) s fun t =>
      Tab.find (t.sub u).kept (8 * s.get .MEM_TRAIN_RANK + s.get .MEM_TRAIN_STEP) = some v ∧ t.get .MEM_TRAIN_STEP = s.get .MEM_TRAIN_STEP + 1 ∧ t.get .MEM_TRAIN_RESULT = 1 ∧ t.mem.tries = []
        ∧ t.get .MEM_STATUS_STATE = memTraining ∧ MemoryFrame s t) ∧
  (∀ (k : Fin 4) (s : State), s.dealing = true → Gives (.memFreqGo k) s fun t => t.get .MEM_FREQ_CODE = stSTATE ∧ t.get .MEM_FREQ_TARGET = k
    ∧ Keeps [] (only [Reg.MEM_FREQ]) s t) ∧
  (∀ (k : Fin 4) (s : State), s.up → s.dealing = false → s.get .MEM_CFG_SPEED < k → Gives (.memFreqGo k) s fun t =>
    t.get .MEM_FREQ_CODE = stRANGE ∧ Keeps [] (only [Reg.MEM_FREQ]) s t) ∧
  (∀ (k : Fin 4) (s : State), s.up → s.dealing = false → k.val ≠ 0 → k.val ≤ s.get .MEM_CFG_SPEED → s.get .MEM_STATUS_STATE = memReady →
    Gives (.memFreqGo k) s fun t => t.get .MEM_FREQ_CODE = stOK ∧ t.get .MEM_STATUS_SPEED = k ∧ t.get .MEM_STATUS_STATE = memTraining
      ∧ t.get .MEM_TRAIN_STEP = 1 ∧ t.get .MEM_TRAIN_RESULT = 1 ∧ t.mem.changing = true ∧ MemoryFrame s t) ∧
  (∀ s : State, s.up → s.get .MEM_STATUS_STATE = memInit → (∀ u < 16, (s.sub u).rq = [] ∧ (s.sub u).wq = [] ∧ (s.sub u).held = []) →
    s.mem.scrubLeft = 0 → s.mem.stalled = [] → Gives .memInitDone s fun t => t.get .MEM_STATUS_STATE = memReady ∧ t.dram = []
    ∧ t.mem.chk = [] ∧ t.mem.changing = false ∧ t.mram = s.mram ∧ t.flash = s.flash ∧ t.plat = s.plat ∧ t.pending = s.pending) ∧
  (∀ (u b : Nat) (s : State), s.up → s.get .MEM_STATUS_STATE = memInit → (∀ v < 8, (s.sub v).rq = [] ∧ (s.sub v).held = []) →
    s.mem.scrubLeft = 0 → s.mem.stalled = [] → u < s.memSubs → (s.sub u).queued b = true → Gives .memInitDone s fun t =>
      readBytes Config.dramFill t.dram (s.blockAddr u b) 256 = readBytes Config.dramFill s.dram (s.blockAddr u b) 256
        ∧ t.get .MEM_STATUS_STATE = memReady) ∧
  (∀ (u : Fin 8) (r : Fin 2) (s : State), s.up → r.val < s.memRanks → s.scState u ≠ 0 → s.scState u ≠ scReplay → s.scState u ≠ scFailed → Gives (.mr4Read u r .normal) s fun t =>
    ((t.sub u).rank r).doubled = false ∧ ((t.sub u).rank r).overLim = false ∧ (∀ v, v ≠ u.val → t.sub v = s.sub v)
      ∧ Keeps [.mem] (only [Reg.MEM_SC_STATUS u, Reg.MEM_STATUS]) s t) ∧
  (∀ (u : Fin 8) (r : Fin 2) (p : Fin 55) (s : State), s.up → r.val < s.memRanks → s.scState u = scReady → ((s.sub u).rank r).debt < 4 →
    Tab.get 0 s.mem.tokens p ≠ 0 → Gives (.refresh u r (.postpone p)) s fun t =>
      ((t.sub u).rank r).debt = ((s.sub u).rank r).debt + 1 ∧ (t.sub u).cmds = (s.sub u).cmds ∧ Keeps [.mem] (only [Reg.MEM_SC_STATUS u]) s t) ∧
  (∀ (u : Fin 8) (s : State), s.up → s.scState u ≠ scReady → exec (.targetedRefresh u) s = .next s.quiet) ∧
  (∀ (u : Fin 8) (r : Fin 2) (m : Mr4Out) (s : State), s.up → (s.scState u = scFailed ∨ s.scState u = scReplay) → exec (.mr4Read u r m) s = .next s.quiet) ∧
  (∀ (u : Fin 8) (n : Nat) (s : State), s.up → s.subIssues u = true → s.scState u = scReady → 0 < (s.sub u).wq.length →
    s.get .MEM_WQ_WQ_HIGH ≤ (s.sub u).wq.length → s.get .MEM_WQ_WQ_LOW ≤ (s.sub u).wq.length → (s.sub u).held = [] →
    Gives (.writeDrain u ⟨n, []⟩) s fun t => (t.sub u).wq.length = s.get .MEM_WQ_WQ_LOW
      ∧ ((∀ e ∈ (t.sub u).wq, e.spare = true) ∨ (t.sub u).wq.filter (·.spare) = (s.sub u).wq.filter (·.spare))) ∧
  (∀ (k : Fin 4) (s : State), s.up → s.dealing = false → (k.val ≠ 0 ∨ s.on .MTX_CTRL_REMAP = false) → k.val ≤ s.get .MEM_CFG_SPEED →
    (s.get .MEM_STATUS_STATE = memReset ∨ s.get .MEM_STATUS_STATE = memInit) → Gives (.memFreqGo k) s fun t =>
      t.get .MEM_FREQ_CODE = stBUSY ∧ t.get .MEM_FREQ_TARGET = k ∧ Keeps [] (only [Reg.MEM_FREQ]) s t) ∧
  (∀ s : State, s.up → s.dealing = false → s.on .MTX_CTRL_REMAP = true → Gives (.memFreqGo 0) s fun t =>
    t.get .MEM_FREQ_CODE = stRANGE ∧ t.get .MEM_FREQ_TARGET = 0 ∧ Keeps [] (only [Reg.MEM_FREQ]) s t) ∧
  (∀ (k : Fin 4) (s : State), s.up → s.dealing = false → (k.val ≠ 0 ∨ s.on .MTX_CTRL_REMAP = false) → k.val ≤ s.get .MEM_CFG_SPEED →
    s.get .MEM_STATUS_STATE = memTraining → Gives (.memFreqGo k) s fun t =>
      t.get .MEM_FREQ_CODE = stOK ∧ t.on .MEM_FREQ_PENDING = true ∧ t.mem = { s.mem with target := k } ∧ Keeps [.mem] (only [Reg.MEM_FREQ]) s t)

/-- Wraps, increments, the epoch, the offset, the servo lock, UTC and the grandmaster follow the time rules. A wrap reports WRAP and, once the epoch is valid, counts it on. TIM_INCR takes only values from 0x27FAE148 to 0x28051EB8, others are counted as rejected. The epoch is written once, and what is timed keeps its age. An offset counts only with a valid epoch, and expires with its interrupt bit. The servo lock follows its writes, and losing it is reported and, with a servo tick source, marks the reference lost. A new grandmaster or domain starts a new generation and makes UTC invalid; the same one changes only the domain field. A UTC write makes UTC valid. Reading the low word of now latches the epoch for the master that reads. Rests on: 09_time.md R280, 09_time.md R281, 09_time.md R282, 09_time.md R283, 09_time.md R285, 09_time.md R286, 09_time.md R287, 09_time.md R452. -/
def Obligations.TheTimeUnitKeepsItsRules : Prop :=
  (∀ (n : Fin 3) (s : State), s.up → Gives (.wrap n) s fun t => t.on .TIM_INT_STATUS_WRAP = true ∧ t.time.now = BitVec.ofNat 32 n.val
    ∧ t.word Reg.TIM_EPOCH = (if s.epochValid then s.word Reg.TIM_EPOCH + 1 else s.word Reg.TIM_EPOCH)
    ∧ Keeps [.time] (only [Reg.TIM_INT_STATUS, Reg.TIM_EPOCH]) s t) ∧
  (∀ (w : Word) (s : State), s.up → 0x27FAE148 ≤ w.toNat → w.toNat ≤ 0x28051EB8 → Gives (.timIncrWrite w) s fun t =>
    t.word Reg.TIM_INCR = w ∧ Keeps [] (only [Reg.TIM_INCR]) s t) ∧
  (∀ (w : Word) (s : State), s.up → (w.toNat < 0x27FAE148 ∨ 0x28051EB8 < w.toNat) → Gives (.timIncrWrite w) s fun t =>
    t.get .TIM_CNT_INCR_REJ = satAdd (Fld.TIM_CNT_INCR_REJ).wid (s.get .TIM_CNT_INCR_REJ) 1 ∧ Keeps [] (only [Reg.TIM_CNT]) s t) ∧
  (∀ (w : Word) (s : State), s.up → s.epochValid = false → Gives (.timEpochWrite w false) s fun t =>
    t.word Reg.TIM_EPOCH = w ∧ t.epochValid = true ∧ t.extNow - t.boot.released = s.extNow - s.boot.released
      ∧ t.extNow - t.plat.hbAt = s.extNow - s.plat.hbAt ∧ t.extNow - t.plat.watchAt = s.extNow - s.plat.watchAt
      ∧ t.extNow - t.plat.wdtAt = s.extNow - s.plat.wdtAt
      ∧ t.boot = { s.boot with released := t.boot.released, resetAt := t.boot.resetAt }
      ∧ t.plat = { s.plat with hbAt := t.plat.hbAt, watchAt := t.plat.watchAt, wdtAt := t.plat.wdtAt, viol := t.plat.viol }
      ∧ Keeps [.boot, .plat] (only [Reg.TIM_EPOCH, Reg.TIM_STATUS]) s t) ∧
  (∀ (w : Word) (s : State), s.up → s.epochValid = true → exec (.timEpochWrite w false) s = .next s.quiet) ∧
  (∀ (m : Fin 11) (s : State), s.up → Gives (.timNowLoRead m) s fun t => Tab.find t.time.latch m = some (s.word Reg.TIM_EPOCH)
    ∧ t.out = [.read Reg.TIM_NOW_LO s.time.now] ∧ t.time.now = s.time.now ∧ MemoryFrame s t) ∧
  (∀ (w : Word) (s : State), s.up → s.epochValid = true → Gives (.timPtpOffHiWrite w) s fun t =>
    t.time = { s.time with off := w ++ s.word Reg.TIM_PTP_OFF_LO, offAt := some s.extNow } ∧ t.word Reg.TIM_PTP_OFF_HI = w
      ∧ t.on .TIM_STATUS_OFF_VALID = true ∧ Keeps [.time] (only [Reg.TIM_PTP_OFF_HI, Reg.TIM_STATUS]) s t) ∧
  (∀ (w : Word) (s : State), s.up → s.epochValid = false → exec (.timPtpOffHiWrite w) s = .next s.quiet) ∧
  (∀ s : State, s.up → s.on .TIM_STATUS_OFF_VALID = true → Gives .offValidExpiry s fun t => t.on .TIM_STATUS_OFF_VALID = false
    ∧ t.on .TIM_INT_STATUS_OFF_EXPIRED = true ∧ Keeps [] (only [Reg.TIM_STATUS, Reg.TIM_INT_STATUS]) s t) ∧
  (∀ s : State, s.up → Gives (.timServoLocked true) s fun t => t.on .TIM_STATUS_SERVO_LOCKED = true ∧ t.on .TIM_SERVO_LOCKED = true
    ∧ Keeps [] (only [Reg.TIM_STATUS, Reg.TIM_SERVO]) s t) ∧
  (∀ s : State, s.up → s.on .TIM_STATUS_SERVO_LOCKED = true → Gives (.timServoLocked false) s fun t => t.on .TIM_STATUS_SERVO_LOCKED = false
    ∧ t.on .TIM_SERVO_LOCKED = false ∧ t.on .TIM_INT_STATUS_UNLOCKED = true ∧ (s.get .DLR_TICK_CFG_TICK_SRC = 2 → t.on .DLR_STATUS_REF_LOST = true)
    ∧ Keeps [] (only [Reg.TIM_STATUS, Reg.TIM_SERVO, Reg.TIM_INT_STATUS, Reg.OUT_REF_STATUS, Reg.DLR_STATUS]) s t) ∧
  (∀ s : State, s.up → s.on .TIM_STATUS_SERVO_LOCKED = true → s.get .DLR_TICK_CFG_TICK_SRC = 2 → Gives .servoLockExpiry s fun t =>
    t.on .TIM_STATUS_SERVO_LOCKED = false ∧ t.on .TIM_INT_STATUS_UNLOCKED = true ∧ t.on .DLR_STATUS_REF_LOST = true
      ∧ t.on .OUT_REF_STATUS_REF_LOST = true
      ∧ Keeps [] (only [Reg.TIM_STATUS, Reg.TIM_SERVO, Reg.TIM_INT_STATUS, Reg.OUT_REF_STATUS, Reg.DLR_STATUS]) s t) ∧
  (∀ s : State, s.up → Gives .timServoInvalidate s fun t => t.on .TIM_UTC_VALID = false ∧ t.on .TIM_STATUS_OFF_VALID = false
    ∧ Keeps [] (only [Reg.TIM_STATUS, Reg.TIM_UTC, Reg.TIM_INT_STATUS]) s t) ∧
  (∀ (d : Byte) (s : State), s.up → (s.word Reg.TIM_GM_ID_HI ++ s.word Reg.TIM_GM_ID_LO ≠ s.time.gmId ∨ d.toNat ≠ s.time.gmDom) →
    Gives (.timGmDomWrite d) s fun t => t.time = { s.time with gmId := s.word Reg.TIM_GM_ID_HI ++ s.word Reg.TIM_GM_ID_LO, gmDom := d.toNat }
      ∧ t.get .TIM_GM_DOM_DOMAIN = d.toNat ∧ t.get .TIM_GM_DOM_GEN = (s.get .TIM_GM_DOM_GEN + 1) % 2 ^ (Fld.TIM_GM_DOM_GEN).wid
      ∧ t.on .TIM_UTC_VALID = false ∧ Keeps [.time] (only [Reg.TIM_GM_DOM, Reg.TIM_UTC]) s t) ∧
  (∀ (d : Byte) (s : State), s.up → s.word Reg.TIM_GM_ID_HI ++ s.word Reg.TIM_GM_ID_LO = s.time.gmId → d.toNat = s.time.gmDom →
    Gives (.timGmDomWrite d) s fun t => t.get .TIM_GM_DOM_GEN = s.get .TIM_GM_DOM_GEN ∧ t.get .TIM_GM_DOM_DOMAIN = d.toNat
      ∧ Keeps [] (only [Reg.TIM_GM_DOM]) s t) ∧
  (∀ (v : BitVec 16) (s : State), s.up → Gives (.timUtcWrite v) s fun t => t.get .TIM_UTC_UTC_OFFSET = v.toNat ∧ t.on .TIM_UTC_VALID = true
    ∧ Keeps [] (only [Reg.TIM_UTC]) s t)

/-- Trigger channels, pulse outputs, transmit stamps and the first tick follow the time rules. A start time written to an image-owned channel is ignored; to another it is taken, arming a one-shot channel; while channels run, one whose new target already lies in the past fires at once and is counted late. A channel not due does not fire; one due fires once more, counted and no longer armed, and issues the trick of the deal that names it, as a self-test of a port in START. A pulse output out of DEALING and SAFE gives no pulse; a due one gives one of its polarity and width and counts it. Reading the stamp's ID takes the oldest transmit stamp, unless the debug unit reads. The first tick is written only while the Dealer does not deal; with a servo tick source it is the first whole nanosecond at or after a multiple of the period, counted with the offset, from the time given, and locks the tick. The link bit of a network port follows its link. That the row of the first tick brings the time aimed at, not the value of R21 computed from it, is the model's choice (log 44). Rests on: 01_architecture.md R21, 01_architecture.md R25, 01_architecture.md R28, 09_time.md R284, 09_time.md R288, 09_time.md R289, 09_time.md R292, 09_time.md R293, 09_time.md R294, 09_time.md R295, 09_time.md R296. -/
def Obligations.TriggersPulsesAndStamps : Prop :=
  (∀ (c : Fin 64) (w : Word) (s : State), s.up → s.on (.TIM_TRG_CFG_OWNER c) = true → exec (.timTrgStartWrite c w) s = .next s.quiet) ∧
  (∀ (c : Fin 64) (w : Word) (s : State), s.up → s.on (.TIM_TRG_CFG_OWNER c) = false → s.chansRun = false → Gives (.timTrgStartWrite c w) s fun t =>
    t.word (Reg.TIM_TRG_START c) = w ∧ t.trg c = { s.trg c with k := 0 }
      ∧ t.on (.TIM_TRG_STAT_ARMED c) = (s.get (.TIM_TRG_CFG_MODE c) == 1)
      ∧ (∀ d, d ≠ c.val → t.trg d = s.trg d) ∧ Keeps [.time] (only [Reg.TIM_TRG_START c, Reg.TIM_TRG_STAT c]) s t) ∧
  (∀ (c : Fin 64) (w : Word) (s : State), s.up → s.trgDue c w = false → exec (.triggerFire c w) s = .next s.quiet) ∧
  (∀ (c : Fin 64) (w : Word) (s : State), s.up → s.trgDue c w = true → (∀ g < 8, s.get (.AUD_G_CFG_TRG g) ≠ c) →
    (∀ x ∈ s.curDeal, x.issue = .trigger c → x.cls = .audio) →
    Gives (.triggerFire c w) s fun t => (t.trg c).k = (s.trg c).k + 1 ∧ (t.trg c).marks = (s.trg c).marks.drop 1
      ∧ t.get (.TIM_TRG_STAT_FIRED c) = satAdd (Fld.TIM_TRG_STAT_FIRED c).wid (s.get (.TIM_TRG_STAT_FIRED c)) 1
      ∧ t.on (.TIM_TRG_STAT_ARMED c) = false ∧ (s.on (.TIM_TRG_CFG_IRQ c) = true → t.on .TIM_INT_STATUS_TRIGGER = true) ∧ t.time.now = w
      ∧ Keeps [.time] (only [Reg.TIM_TRG_STAT c, Reg.TIM_INT_STATUS]) s t) ∧
  (∀ (k : Fin 4) (w : Word) (s : State), s.up → s.chansRun = false → Gives (.ppsPulse k w) s fun t => t.out = [] ∧ t.time.now = w
    ∧ Keeps [.time] (only []) s t) ∧
  (∀ (k : Fin 4) (w : Word) (s : State), s.up → s.chansRun = true → s.get (.TIM_PPS_CFG_MODE k) ≠ 4 →
    chanDue (s.get (.TIM_PPS_CFG_MODE k)) (s.word (Reg.TIM_PPS_START k)) (s.word (Reg.TIM_PPS_PER k)).toNat
      (s.get (.TIM_PPS_CFG_DEN k)) (s.ppsSt k) ((s.ppsSt k).k == 0) w = true → Gives (.ppsPulse k w) s fun t =>
      t.out = [.pulse k (!s.on (.TIM_PPS_CFG_POL k)) (s.ppsWidth k)] ∧ (t.ppsSt k).k = (s.ppsSt k).k + 1
        ∧ t.get (.TIM_PPS_STAT_PULSES k) = satAdd (Fld.TIM_PPS_STAT_PULSES k).wid (s.get (.TIM_PPS_STAT_PULSES k)) 1
        ∧ Keeps [.time] (only [Reg.TIM_PPS_STAT k]) s t) ∧
  (∀ (n : Fin 3) (m : Fin 11) (s : State), s.up → m ≠ 9 → Gives (.txtsIdRead n m) s fun t =>
    (t.net n).stamps = (s.net n).stamps.drop 1 ∧ (∀ k, k ≠ n.val → t.net k = s.net k)
      ∧ t.get (.TIM_NP_STATUS_TXTS_COUNT n) = ((s.net n).stamps.drop 1).length % 2 ^ (Fld.TIM_NP_STATUS_TXTS_COUNT n).wid ∧ MemoryFrame s t) ∧
  (∀ (n : Fin 3) (s : State), s.up → Gives (.txtsIdRead n 9) s fun t => Keeps [] (only []) s t) ∧
  (∀ (w : Word) (s : State), s.up → s.on .DLR_STATUS_DEALING = true → exec (.dlrTickFirstWrite w) s = .next s.quiet) ∧
  (∀ (w : Word) (s : State), s.up → s.on .DLR_STATUS_DEALING = false → s.get .DLR_TICK_CFG_TICK_SRC = 2 → s.dealer.freeRun = false →
    Gives (.dlrTickFirstWrite w) s fun t => t.word Reg.DLR_TICK_FIRST = BitVec.ofInt 32 (s.firstBoundary w) ∧ t.on .DLR_STATUS_TICK_LOCKED = true
      ∧ Keeps [] (only [Reg.DLR_TICK_FIRST, Reg.DLR_STATUS]) s t) ∧
  (∀ (n : Fin 3) (b : Bool) (s : State), s.up → Gives (.npLinkChange n b) s fun t => t.on (.TIM_NP_STATUS_LINK n) = b
    ∧ Keeps [] (only [Reg.TIM_NP_STATUS n]) s t) ∧
  (∀ (w : Word) (s : State), 0 < s.get .DLR_TICK_NUM_NUM → 0 < s.get .DLR_TICK_DEN_DEN → s.extAt w ≤ s.firstBoundary w
    ∧ ∃ k : Int, k * s.get .DLR_TICK_NUM_NUM ≤ (s.firstBoundary w + s.time.off.toInt) * s.get .DLR_TICK_DEN_DEN
        ∧ (s.firstBoundary w + s.time.off.toInt - 1) * s.get .DLR_TICK_DEN_DEN < k * s.get .DLR_TICK_NUM_NUM) ∧
  (∀ (c : Fin 64) (w : Word) (s : State), s.up → s.on (.TIM_TRG_CFG_OWNER c) = false → s.chansRun = true → Gives (.timTrgStartWrite c w) s fun t =>
    let due := chanDue (s.get (.TIM_TRG_CFG_MODE c)) w (s.word (Reg.TIM_TRG_PER c)).toNat (s.get (.TIM_TRG_CFG_DEN c)) { s.trg c with k := 0 }
      (s.get (.TIM_TRG_CFG_MODE c) == 1)
    let late := due s.time.now && due (s.time.now - 1)
    t.word (Reg.TIM_TRG_START c) = w ∧ (t.trg c).k = (if late then 1 else 0)
      ∧ t.get .TIM_CNT_TRG_LATE = (if late then satAdd (Fld.TIM_CNT_TRG_LATE).wid (s.get .TIM_CNT_TRG_LATE) 1 else s.get .TIM_CNT_TRG_LATE)
      ∧ t.get (.TIM_TRG_STAT_FIRED c) = (if late then satAdd (Fld.TIM_TRG_STAT_FIRED c).wid (s.get (.TIM_TRG_STAT_FIRED c)) 1
          else s.get (.TIM_TRG_STAT_FIRED c))
      ∧ t.on (.TIM_TRG_STAT_ARMED c) = (!late && s.get (.TIM_TRG_CFG_MODE c) == 1)
      ∧ (∀ d, d ≠ c.val → t.trg d = s.trg d)
      ∧ Keeps [.time] (only [Reg.TIM_TRG_START c, Reg.TIM_TRG_STAT c, Reg.TIM_CNT, Reg.TIM_INT_STATUS]) s t) ∧
  (∀ (c : Fin 64) (w : Word) (x : Trick) (s : State), s.up → s.trgDue c w = true → (∀ g < 8, s.get (.AUD_G_CFG_TRG g) ≠ c) →
    s.on .DLR_STATUS_DEALING = true → s.curDeal.filter (fun y => y.issue == .trigger c && y.cls != .audio) = [x] → x.cls = .selfTest →
    s.tchState x.job = tpStart → Gives (.triggerFire c w) s fun t =>
      t.dealer.tricks = s.dealer.tricks ++ [s.runOf x none] ∧ (t.trg c).k = (s.trg c).k + 1
        ∧ t.get (.TIM_TRG_STAT_FIRED c) = satAdd (Fld.TIM_TRG_STAT_FIRED c).wid (s.get (.TIM_TRG_STAT_FIRED c)) 1)

/-- Self-tests, missed tests, covered nodes, RESTART and RELEASE move a touch port as the touch rules say. A self-test of a port in OFF or FAULT, or without a running self-test trick, changes nothing. One that finds nothing counts and clears the unconfirmed failure, and the second in a row ends START. One that finds a failure not found before shows it unconfirmed, its repeat due in the next slot; the same failure again in START puts the port in FAULT with that cause and electrode. No test for 30 s puts a port in START or RUN in FAULT with cause 5, and nodes covered for 60 s one in RUN with cause 4, after a release that ends every contact; other states stay. RESTART is answered OK in RUN and FAULT and starts the port afresh, RELEASE OK in RUN, ending every contact; otherwise the answer is STATE and nothing else changes. Rests on: 10_touch.md R304, 10_touch.md R306, 10_touch.md R307, 10_touch.md R313, 10_touch.md R315, 10_touch.md R319, 10_touch.md R320. -/
def Obligations.TouchPortsTestFailRestartAndRelease : Prop :=
  (∀ (p : Fin 4) (d : TestIn) (s : State), s.up → (s.tchState p = tpOff ∨ s.tchState p = tpFault ∨ s.testTrick p = false ∨ s.staleRun .selfTest p = true) →
    exec (.selfTest p d) s = .next s.quiet) ∧
  (∀ (p : Fin 4) (d : TestIn) (s : State), s.up → s.tspHalted = false → s.staleRun .selfTest p = false →
    s.testTrick p = true → s.tchState p ≠ tpOff → s.tchState p ≠ tpFault → s.testFinds p d = [] → Gives (.selfTest p d) s fun t =>
    t.tch p = { s.tch p with fails := [], owed := false, passes := (s.tch p).passes + 1 } ∧ (∀ q, q ≠ p.val → t.tch q = s.tch q)
      ∧ t.tchState p = (if s.tchState p = tpStart ∧ 1 ≤ (s.tch p).passes then tpBaseline else s.tchState p)
      ∧ t.get (.TCH_P_FAULT_TESTS p) = satAdd 16 (s.get (.TCH_P_FAULT_TESTS p)) 1
      ∧ t.dealer = { s.dealer with tricks := endFirst .selfTest p s.dealer.tricks }
      ∧ Keeps [.touch, .dealer] (only [Reg.TCH_P_FAULT p, Reg.TCH_P_STATE p, Reg.TCH_STATUS]) s t) ∧
  (∀ (p : Fin 4) (d : TestIn) (x : Nat × Nat) (xs : List (Nat × Nat)) (s : State), s.up → s.tspHalted = false →
    s.staleRun .selfTest p = false → s.testTrick p = true → s.tchState p ≠ tpOff → s.tchState p ≠ tpFault →
    s.testFinds p d = x :: xs → (x :: xs).find? (s.tch p).fails.contains = none → Gives (.selfTest p d) s fun t =>
    t.tch p = { s.tch p with fails := x :: xs, owed := true, passes := 0 } ∧ t.on .TCH_INT_STATUS_TEST_FAIL = true ∧ t.tchState p = s.tchState p
      ∧ t.get (.TCH_P_FAULT_ITEM p) = x.1 % 8 ∧ t.get (.TCH_P_FAULT_ELECTRODE p) = x.2 % 256 ∧ t.on (.TCH_P_FAULT_CONFIRMED p) = false
      ∧ Keeps [.touch, .dealer] (only [Reg.TCH_P_FAULT p, Reg.TCH_INT_STATUS]) s t) ∧
  (∀ (p : Fin 4) (d : TestIn) (x : Nat × Nat) (s : State), s.up → s.logRoom → s.tspHalted = false → s.staleRun .selfTest p = false →
    s.testTrick p = true → s.tchState p = tpStart →
    (s.testFinds p d).find? (s.tch p).fails.contains = some x → Gives (.selfTest p d) s fun t =>
    t.tchState p = tpFault ∧ t.get (.TCH_P_STATE_FAULT_CAUSE p) = x.1 % 8 ∧ t.get (.TCH_P_FAULT_ITEM p) = x.1 % 8
      ∧ t.get (.TCH_P_FAULT_ELECTRODE p) = x.2 % 256 ∧ t.on (.TCH_P_FAULT_CONFIRMED p) = true ∧ t.on .TCH_INT_STATUS_FAULT = true
      ∧ t.lastLog = some (0x0601, [p.val, x.1 % 256, x.2 % 256])
      ∧ Keeps [.touch, .dealer, .sco] (only [Reg.TCH_P_FAULT p, Reg.TCH_INT_STATUS, Reg.TCH_P_STATE p, Reg.TCH_STATUS]) s t) ∧
  (∀ (p : Fin 4) (s : State), s.up → s.sco.queue.length < 255 → s.tchState p = tpRun → Gives (.testMissed p) s fun t =>
    t.tchState p = tpFault ∧ t.get (.TCH_P_STATE_FAULT_CAUSE p) = 5 ∧ (t.tch p).contacts = []
      ∧ t.get (.TCH_P_RPT_SEQ p) = (s.get (.TCH_P_RPT_SEQ p) + 1) % 65536 ∧ t.lastLog = some (0x0601, [p.val, 5, 0])
      ∧ (∀ q, q ≠ p.val → t.tch q = s.tch q) ∧ Keeps [.touch, .sco] (only (touchRegs p)) s t) ∧
  (∀ (p : Fin 4) (s : State), s.up → s.tchState p ≠ tpRun → s.tchState p ≠ tpStart → exec (.testMissed p) s = .next s.quiet) ∧
  (∀ (p : Fin 4) (s : State), s.up → s.logRoom → s.tchState p = tpStart → Gives (.testMissed p) s fun t =>
    t.tchState p = tpFault ∧ t.get (.TCH_P_STATE_FAULT_CAUSE p) = 5 ∧ t.lastLog = some (0x0601, [p.val, 5, 0])
      ∧ Keeps [.sco] (only [Reg.TCH_P_STATE p, Reg.TCH_STATUS, Reg.TCH_INT_STATUS]) s t) ∧
  (∀ (p : Fin 4) (s : State), s.up → s.sco.queue.length < 255 → s.tchState p = tpRun → s.get (.TCH_P_NODES_COVERED p) ≠ 0 →
    Gives (.coveredTimeout p) s fun t => t.tchState p = tpFault ∧ t.get (.TCH_P_STATE_FAULT_CAUSE p) = 4 ∧ (t.tch p).contacts = []
      ∧ t.lastLog = some (0x0601, [p.val, 4, 0]) ∧ Keeps [.touch, .sco] (only (touchRegs p)) s t) ∧
  (∀ (p : Fin 4) (s : State), s.up → (s.tchState p ≠ tpRun ∨ s.get (.TCH_P_NODES_COVERED p) = 0) → exec (.coveredTimeout p) s = .next s.quiet) ∧
  (∀ (p : Fin 4) (s : State), s.up → s.tchState p = tpFault → Gives (.tchRestart p) s fun t =>
    t.tchState p = tpStart ∧ t.get (.TCH_P_CTRL_CODE p) = stOK ∧ t.get (.TCH_P_STATE_FAULT_CAUSE p) = 0 ∧ (t.tch p).contacts = []
      ∧ (t.tch p).passes = 0 ∧ (t.tch p).nodes.length = s.drives p * s.senses p
      ∧ Keeps [.touch] (only [Reg.TCH_P_STATE p, Reg.TCH_STATUS, Reg.TCH_P_NODES p, Reg.TCH_P_CTRL p]) s t) ∧
  (∀ (p : Fin 4) (s : State), s.up → s.logRoom → s.tchState p = tpRun → Gives (.tchRestart p) s fun t =>
    t.tchState p = tpStart ∧ t.get (.TCH_P_CTRL_CODE p) = stOK ∧ (t.tch p).contacts = [] ∧ t.lastLog = some (0x0602, [p.val, 4])
      ∧ t.get (.TCH_P_RPT_SEQ p) = (s.get (.TCH_P_RPT_SEQ p) + 1) % 65536
      ∧ Keeps [.touch, .sco] (only (Reg.TCH_P_CTRL p :: touchRegs p)) s t) ∧
  (∀ (p : Fin 4) (s : State), s.up → s.tchState p ≠ tpRun → s.tchState p ≠ tpFault → Gives (.tchRestart p) s fun t =>
    t.get (.TCH_P_CTRL_CODE p) = stSTATE ∧ Keeps [] (only [Reg.TCH_P_CTRL p]) s t) ∧
  (∀ (p : Fin 4) (s : State), s.up → s.logRoom → s.tchState p = tpRun → Gives (.tchRelease p) s fun t =>
    t.tchState p = tpRun ∧ t.get (.TCH_P_CTRL_CODE p) = stOK ∧ (t.tch p).contacts = [] ∧ t.lastLog = some (0x0602, [p.val, 3])
      ∧ t.get (.TCH_P_CNT1_RELEASE_ALL p) = satAdd 8 (s.get (.TCH_P_CNT1_RELEASE_ALL p)) 1 ∧ t.on .TCH_INT_STATUS_RELEASE_ALL = true
      ∧ Keeps [.touch, .sco] (only (Reg.TCH_P_CTRL p :: touchRegs p)) s t) ∧
  (∀ (p : Fin 4) (s : State), s.up → s.tchState p ≠ tpRun → Gives (.tchRelease p) s fun t =>
    t.get (.TCH_P_CTRL_CODE p) = stSTATE ∧ Keeps [] (only [Reg.TCH_P_CTRL p]) s t)

/-- A scan frame completes its trick, is evaluated by the port's state, and writes its report into the ring. A scan frame without a running touch-scan trick, with the touch signal processor stopped, or of a port in OFF changes nothing. In START, and in BASELINE before the eighth frame, it writes one report without records, which the Scorer takes where nothing was altered on the way; BASELINE counts the frame into the sums. The eighth baseline frame takes the baselines, and the port enters RUN. In RUN the frame is evaluated into contacts of this port only: with no contact down, a frame whose peaks lie below T_TOUCH gives none; one peak of at least T_TOUCH, not rejected, becomes a contact with ID 1 at its place, or waits while DEBOUNCE asks for more frames; a contact matched by a peak within the radius continues there, up to HOLD_LIMIT; one without a peak lifts. Every frame ends its trick, ends the row of abandoned frames, and raises the host vector of touch, and, unless the Scorer takes a port in RUN to FAULT, writes just the next slot. Rests on: 10_touch.md R300, 10_touch.md R304, 10_touch.md R305, 10_touch.md R308, 10_touch.md R309, 10_touch.md R310, 10_touch.md R314, 10_touch.md R315, 10_touch.md R318, 12_commands.md R351. -/
def Obligations.ScanFramesAreEvaluatedAndReported : Prop :=
  (∀ (p : Fin 4) (d : ScanData) (s : State), s.up → (s.scanTrick p = false ∨ s.on .TCH_STATUS_TSP_RUN = false ∨ s.tchState p = tpOff) →
    exec (.scanFrame p d) s = .next s.quiet) ∧
  (∀ (p : Fin 4) (d : ScanData) (s : State), s.up → s.tspHalted = false → s.staleRun .touchScan p = false → s.scanTrick p = true →
    s.on .TCH_STATUS_TSP_RUN = true → s.tchState p = tpStart → d.flips = [] → (s.tch p).scoSeq = none → (s.tch p).scoDown = [] →
    Gives (.scanFrame p d) s fun t => t.tchState p = tpStart ∧ (t.tch p).abandoned = 0
      ∧ t.get (.TCH_P_RPT_SEQ p) = (s.get (.TCH_P_RPT_SEQ p) + 1) % 65536 ∧ t.get (.TCH_P_RPT_NEXT p) = (s.get (.TCH_P_RPT_NEXT p) + 1) % 16
      ∧ (t.tch p).scoSeq = some ((s.get (.TCH_P_RPT_SEQ p) + 1) % 65536) ∧ t.on .HST_INT_STATUS_VEC = true
      ∧ t.dealer = { s.dealer with tricks := endFirst .touchScan p s.dealer.tricks }
      ∧ (∀ q, q ≠ p.val → t.tch q = s.tch q) ∧ Keeps [.touch, .dealer] (only (touchRegs p)) s t) ∧
  (∀ (p : Fin 4) (d : ScanData) (s : State), s.up → s.tspHalted = false → s.staleRun .touchScan p = false → s.scanTrick p = true →
    s.on .TCH_STATUS_TSP_RUN = true → s.tchState p = tpBaseline → (s.tch p).baseN < 7 → d.flips = [] → (s.tch p).scoSeq = none →
    (s.tch p).scoDown = [] → Gives (.scanFrame p d) s fun t => t.tchState p = tpBaseline ∧ (t.tch p).baseN = (s.tch p).baseN + 1
      ∧ (t.tch p).abandoned = 0 ∧ t.get (.TCH_P_RPT_NEXT p) = (s.get (.TCH_P_RPT_NEXT p) + 1) % 16
      ∧ (t.tch p).unread = (s.tch p).unread.filter (· != s.get (.TCH_P_RPT_NEXT p)) ++ [s.get (.TCH_P_RPT_NEXT p)]
      ∧ bitOf (t.get .HST_INT_STATUS_VEC) 1 = true ∧ (∀ q, q ≠ p.val → t.tch q = s.tch q)
      ∧ t.dealer = { s.dealer with tricks := endFirst .touchScan p s.dealer.tricks }
      ∧ (t.tch p).nodes = ((s.tch p).nodes.mapIdx fun i n =>
          { n.take false ((d.raw[i]?).getD 0 % 65536) with sum := n.sum + (d.raw[i]?).getD 0 % 65536 })
      ∧ t.get (.TCH_P_RPT_SEQ p) = (s.get (.TCH_P_RPT_SEQ p) + 1) % 65536 ∧ Keeps [.touch, .dealer] (only (touchRegs p)) s t) ∧
  (∀ (p : Fin 4) (d : ScanData) (s : State), s.up → s.tspHalted = false → s.staleRun .touchScan p = false → s.scanTrick p = true →
    s.on .TCH_STATUS_TSP_RUN = true → s.tchState p = tpBaseline → (s.tch p).baseN = 7 → d.flips = [] → (s.tch p).scoSeq = none →
    (s.tch p).scoDown = [] → Gives (.scanFrame p d) s fun t => t.tchState p = tpRun ∧ (t.tch p).baseN = 8
      ∧ (t.tch p).abandoned = 0 ∧ t.get (.TCH_P_RPT_NEXT p) = (s.get (.TCH_P_RPT_NEXT p) + 1) % 16
      ∧ (t.tch p).unread = (s.tch p).unread.filter (· != s.get (.TCH_P_RPT_NEXT p)) ++ [s.get (.TCH_P_RPT_NEXT p)]
      ∧ bitOf (t.get .HST_INT_STATUS_VEC) 1 = true ∧ (∀ q, q ≠ p.val → t.tch q = s.tch q)
      ∧ t.dealer = { s.dealer with tricks := endFirst .touchScan p s.dealer.tricks }
      ∧ (t.tch p).nodes.length = (s.tch p).nodes.length
      ∧ (∀ n ∈ (t.tch p).nodes, (n.lock = 0 ∨ n.lock = 1) ∧ n.run = 0 ∧ n.neg = 0 ∧ (n.lock = 0 → n.base = n.sum / 8))
      ∧ t.get (.TCH_P_RPT_SEQ p) = (s.get (.TCH_P_RPT_SEQ p) + 1) % 65536 ∧ Keeps [.touch, .dealer] (only (touchRegs p)) s t) ∧
  (∀ (p : Fin 4) (d : ScanData) (s : State), s.up → s.tspHalted = false → s.staleRun .touchScan p = false → s.scanTrick p = true →
    s.on .TCH_STATUS_TSP_RUN = true → s.tchState p = tpRun → Gives (.scanFrame p d) s fun t => (t.tch p).abandoned = 0
      ∧ (∀ q, q ≠ p.val → t.tch q = s.tch q) ∧ (t.tchState p = tpRun ∨ t.tchState p = tpFault)
      ∧ (t.tch p).nodes.length = (s.tch p).nodes.length
      ∧ bitOf (t.get .HST_INT_STATUS_VEC) 1 = true ∧ t.dealer = { s.dealer with tricks := endFirst .touchScan p s.dealer.tricks }
      ∧ (t.tchState p = tpRun → t.get (.TCH_P_RPT_NEXT p) = (s.get (.TCH_P_RPT_NEXT p) + 1) % 16
          ∧ t.get (.TCH_P_RPT_SEQ p) = (s.get (.TCH_P_RPT_SEQ p) + 1) % 65536)
      ∧ Keeps [.touch, .dealer, .sco] (only (touchRegs p)) s t) ∧
  (∀ (p : Fin 4) (d : ScanData) (s : State), s.up → s.tspHalted = false → s.staleRun .touchScan p = false → s.scanTrick p = true →
    s.on .TCH_STATUS_TSP_RUN = true → s.tchState p = tpRun → d.flips = [] → (s.tch p).scoSeq = none →
    (s.tch p).scoDown = [] → (s.tch p).contacts = [] →
    (∀ k ∈ (s.framePanel p d).peaks (s.tLift p), (s.framePanel p d).at k.1 k.2 < s.tTouch p) → Gives (.scanFrame p d) s fun t =>
      t.tchState p = tpRun ∧ (t.tch p).contacts = [] ∧ (t.tch p).waiting = [] ∧ t.get (.TCH_P_STATE_CONTACTS p) = 0
        ∧ (t.tch p).scoDown = [] ∧ (t.tch p).scoSeq = some (t.get (.TCH_P_RPT_SEQ p))) ∧
  (∀ (p : Fin 4) (d : ScanData) (k : Nat × Nat) (s : State), s.up → s.tspHalted = false → s.staleRun .touchScan p = false → s.scanTrick p = true →
    s.on .TCH_STATUS_TSP_RUN = true → s.tchState p = tpRun → d.flips = [] → (s.tch p).scoSeq = none →
    (s.tch p).scoDown = [] → (s.tch p).contacts = [] →
    (s.tch p).waiting = [] → (s.tch p).lifts = [] → s.on (.TCH_P_CFG0_WATER_REJ p) = false → s.get (.TCH_P_CFG0_DEBOUNCE p) ≤ 1 →
    (s.framePanel p d).peaks (s.tLift p) = [k] → s.tTouch p ≤ (s.framePanel p d).at k.1 k.2 → Gives (.scanFrame p d) s fun t =>
      t.tchState p = tpRun ∧ t.on .TCH_INT_STATUS_DOWN = true ∧ t.get (.TCH_P_STATE_CONTACTS p) = 1 ∧ (t.tch p).waiting = []
        ∧ (t.tch p).contacts = [(s.framePanel p d).place (s.tLift p)
            { id := 1, d := k.1, k := k.2, downAt := s.fullTime d.t, x := 0, y := 0, strength := 0, size := 0 } k]
        ∧ (t.tch p).scoDown = [(1, s.fullTime d.t)]) ∧
  (∀ (p : Fin 4) (d : ScanData) (k : Nat × Nat) (s : State), s.up → s.tspHalted = false → s.staleRun .touchScan p = false → s.scanTrick p = true →
    s.on .TCH_STATUS_TSP_RUN = true → s.tchState p = tpRun → d.flips = [] → (s.tch p).scoSeq = none →
    (s.tch p).scoDown = [] → (s.tch p).contacts = [] →
    (s.tch p).waiting = [] → s.on (.TCH_P_CFG0_WATER_REJ p) = false → 1 < s.get (.TCH_P_CFG0_DEBOUNCE p) →
    (s.framePanel p d).peaks (s.tLift p) = [k] → s.tTouch p ≤ (s.framePanel p d).at k.1 k.2 → Gives (.scanFrame p d) s fun t =>
      t.tchState p = tpRun ∧ (t.tch p).contacts = [] ∧ (t.tch p).waiting = [(k.1, k.2, 1)]) ∧
  (∀ (p : Fin 4) (d : ScanData) (c : Contact) (k : Nat × Nat) (s : State), s.up → s.tspHalted = false → s.staleRun .touchScan p = false → s.scanTrick p = true →
    s.on .TCH_STATUS_TSP_RUN = true → s.tchState p = tpRun → d.flips = [] → (s.tch p).scoSeq = none →
    (s.tch p).scoDown = [] → (s.tch p).contacts = [c] →
    0 < c.id → c.id < 16 → s.on (.TCH_P_CFG0_WATER_REJ p) = false → (s.framePanel p d).peaks (s.tLift p) = [k] →
    cheb (c.d, c.k) k ≤ s.get (.TCH_P_CFG0_MATCH_RADIUS p) → (s.fullTime d.t - c.downAt).toInt ≤ s.get (.TCH_P_THR2_HOLD_LIMIT p) * 1000000000 →
    Gives (.scanFrame p d) s fun t => t.tchState p = tpRun ∧ t.get (.TCH_P_STATE_CONTACTS p) = 1
      ∧ (t.tch p).contacts = [(s.framePanel p d).place (s.tLift p) c k]) ∧
  (∀ (p : Fin 4) (d : ScanData) (c : Contact) (s : State), s.up → s.tspHalted = false → s.staleRun .touchScan p = false → s.scanTrick p = true →
    s.on .TCH_STATUS_TSP_RUN = true → s.tchState p = tpRun → d.flips = [] → (s.tch p).scoSeq = none →
    (s.tch p).scoDown = [] → (s.tch p).contacts = [c] →
    0 < c.id → c.id < 16 → (s.framePanel p d).peaks (s.tLift p) = [] → Gives (.scanFrame p d) s fun t =>
      t.tchState p = tpRun ∧ (t.tch p).contacts = [] ∧ Tab.find (t.tch p).lifts c.id = some (s.fullTime d.t)
        ∧ t.on .TCH_INT_STATUS_LIFT = true ∧ t.get (.TCH_P_STATE_CONTACTS p) = 0)

/-- Audio fetches, block boundaries, clock loss, stopping, mute and the tone act as the audio rules say. An audio fetch with no block waiting changes nothing; else the oldest waiting block that can move leaves the list and its trick ends, and a fetch of a TX port whose slot is EMPTY makes that block zeros and counts an underrun, one whose slot holds the block takes its samples and empties the slot, and, with no failed sub-channel, one of an RX port writes the block received, header first, into its slot; a fetch whose blocks fail moves nothing and is stopped, and the next one is that of the block after it. A boundary of a port in OFF before its PRESTART, or in STOPPING, or of a group not started, changes no audio; one in PRESTART begins block 0 and enters RUN, a slave with 8 frames in its store, a master RX port with its clocks. A running slave with no FS edge enters CLOCK_BAD with cause LOST. A stopping port that has sent its zeros enters OFF with nothing kept. MUTE is written as given. A tone order is recorded, shown and logged; one that repeats the standing order, without an alarm port, or that would stop the tone in SAFE, changes nothing. An FS edge of a running slave RX port puts its frame in the store, one of a TX port sends the oldest frame of it, and a store found empty, or full at 16, is CLOCK_BAD with cause RATE; the first edge after its PRESTART begins sends zeros; one of a master port past its PRESTART has no effect. That a fetch checks the blocks it reads within its row is the model's reading (log 49). Rests on: 11_audio.md R325, 11_audio.md R326, 11_audio.md R327, 11_audio.md R328, 11_audio.md R330, 11_audio.md R331, 11_audio.md R332, 11_audio.md R333, 11_audio.md R334, 11_audio.md R335, 08_memory.md R271, 08_memory.md R272. -/
def Obligations.AudioPortsKeepBlocksClocksAndTone : Prop :=
  (∀ (p : Fin 8) (s : State), s.up → (s.aud p).wants = [] → exec (.audioFetch p) s = .next s.quiet) ∧
  (∀ (p : Fin 8) (k : Nat) (ks : List Nat) (s : State), s.up → s.audioStale p = 0 → (s.aud p).wants = k :: ks → s.audRx p = false →
    s.audState p ≠ apClockBad → (s.aud p).k = none → (readBytes Config.dramFill s.dram (s.ringSlot p k) 64)[4]? = some 0 →
    s.slotBad p k = [] →
    Gives (.audioFetch p) s fun t =>
    t.aud p = { s.aud p with wants := ks, ready := (s.aud p).ready ++ [(k, none)] }
      ∧ t.get (.AUD_P_CNT0_UNDERRUN p) = satAdd 16 (s.get (.AUD_P_CNT0_UNDERRUN p)) 1 ∧ t.on .AUD_INT_STATUS_UNDERRUN = true
      ∧ t.dealer = { s.dealer with tricks := endFirst .audio p s.dealer.tricks } ∧ (∀ q, q ≠ p.val → t.aud q = s.aud q)
      ∧ t.audio = { s.audio with ports := t.audio.ports } ∧ Keeps [.audio, .dealer] (only [Reg.AUD_P_CNT0 p, Reg.AUD_INT_STATUS]) s t) ∧
  (∀ (p : Fin 8) (b : AudioBound) (s : State), s.up → (s.audState p = apOff ∨ s.audState p = apStopping ∨ s.audGrid (s.audGroup p) = none) →
    s.prestarts p b.t = false → Gives (.audioBlockBoundary p b) s fun t => Keeps [] (only faultRegs) s t) ∧
  (∀ (p : Fin 8) (b : AudioBound) (s : State), s.up → s.audState p = apPrestart → s.audGrid (s.audGroup p) ≠ none → (s.aud p).k = none →
    s.audSlave p = true → s.audRx p = true → b.rate = none → s.alarmPort p = false → s.on (.AUD_P_CTRL_MUTE p) = false →
    Gives (.audioBlockBoundary p b) s fun t =>
    t.audState p = apRun ∧ (t.aud p).k = some 0 ∧ (t.aud p).store = s.audZeros p 8 ∧ t.get (.AUD_P_STATE_STORE p) = 8 ∧ (t.aud p).slip = 0
      ∧ (t.aud p).began = b.t ∧ t.get (.AUD_G_BLOCK_VALUE (s.audGroup p)) = 0 ∧ t.on (.AUD_P_STATE_MUTED p) = false
      ∧ (∀ q, q ≠ p.val → t.aud q = s.aud q)
      ∧ Keeps [.audio] (only (faultRegs ++ audioRegs p ++ [Reg.AUD_G_BLOCK (s.audGroup p)])) s t) ∧
  (∀ (p : Fin 8) (s : State), s.up → (s.audSlave p = false ∨ s.audState p ≠ apRun) → exec (.audioClockLost p) s = .next s.quiet) ∧
  (∀ (p : Fin 8) (s : State), s.up → s.audSlave p = true → s.audState p = apRun → Gives (.audioClockLost p) s fun t =>
    t.audState p = apClockBad ∧ t.get (.AUD_P_STATE_BAD_CAUSE p) = 1 ∧ t.on .AUD_INT_STATUS_CLOCK_BAD = true
      ∧ t.get (.AUD_P_CNT2_CLOCK_BAD p) = satAdd 8 (s.get (.AUD_P_CNT2_CLOCK_BAD p)) 1
      ∧ Keeps [] (only [Reg.AUD_P_STATE p, Reg.AUD_STATUS, Reg.AUD_INT_STATUS, Reg.AUD_P_CNT2 p]) s t) ∧
  (∀ (p : Fin 8) (s : State), s.up → s.audState p ≠ apStopping → exec (.stoppingEnd p) s = .next s.quiet) ∧
  (∀ (p : Fin 8) (s : State), s.up → s.audState p = apStopping → Gives (.stoppingEnd p) s fun t =>
    t.audState p = apOff ∧ t.aud p = AudSt.init ∧ (∀ q, q ≠ p.val → t.aud q = s.aud q) ∧ t.audio = { s.audio with ports := t.audio.ports }
      ∧ Keeps [.audio] (only [Reg.AUD_P_STATE p, Reg.AUD_STATUS]) s t) ∧
  (∀ (p : Fin 8) (v : Bool) (s : State), s.up → Gives (.audMuteWrite p v) s fun t =>
    t.on (.AUD_P_CTRL_MUTE p) = v ∧ Keeps [] (only [Reg.AUD_P_CTRL p]) s t) ∧
  (∀ (v : Bool) (w : Word) (s : State), s.scoring → s.logRoom → s.on .AUD_ALARM_CFG_EN = true → s.on .AUD_ALARM_STAT_ORDERED ≠ v →
    (v = true ∨ s.devState ≠ stSafe) →
    Gives (.toneOrder v w) s fun t => t.audio = { s.audio with orders := s.audio.orders ++ [(v, w)] } ∧ t.on .AUD_ALARM_STAT_ORDERED = v
      ∧ t.on .AUD_STATUS_ALARM_ON = v ∧ t.on .SCO_STATUS_TONE_ORDERED = v ∧ t.get .AUD_ALARM_STAT_TICK = s.tick16
      ∧ t.lastLog = some (0x0702, [if v then 1 else 2])
      ∧ Keeps [.audio, .sco] (only (faultRegs ++ [Reg.AUD_ALARM_STAT, Reg.AUD_STATUS])) s t) ∧
  (∀ (v : Bool) (w : Word) (s : State), s.scoring → (s.on .AUD_ALARM_CFG_EN = false ∨ s.on .AUD_ALARM_STAT_ORDERED = v ∨ (v = false ∧ s.devState = stSafe)) →
    Gives (.toneOrder v w) s fun t => Keeps [] (only faultRegs) s t) ∧
  (∀ (p : Fin 8) (f : List Word) (w : Word) (s : State), s.up → s.audSlave p = false → s.prestarts p w = false →
    exec (.fsEdge p f w) s = .next s.quiet) ∧
  (∀ (p : Fin 8) (f : List Word) (w : Word) (s : State), s.up → s.audSlave p = true → s.audState p = apRun → s.audRx p = true →
    (s.aud p).k = none → (s.aud p).moved = 0 → 0 < (s.aud p).store.length → (s.aud p).store.length < 15 → Gives (.fsEdge p f w) s fun t =>
    t.aud p = { s.aud p with store := (s.aud p).store ++ [f.map (s.audSample p)] } ∧ t.audState p = apRun
      ∧ t.get (.AUD_P_STATE_STORE p) = (s.aud p).store.length + 1 ∧ Keeps [.audio] (only [Reg.AUD_P_STATE p]) s t) ∧
  (∀ (p : Fin 8) (f : List Word) (w : Word) (s : State), s.up → s.audSlave p = true → s.audState p = apRun → s.audRx p = true →
    (s.aud p).k = none → (s.aud p).moved = 0 → (s.aud p).store.length = 15 → Gives (.fsEdge p f w) s fun t =>
    t.audState p = apClockBad ∧ t.get (.AUD_P_STATE_BAD_CAUSE p) = 2 ∧ t.get (.AUD_P_STATE_STORE p) = 16
      ∧ Keeps [.audio] (only (audioRegs p)) s t) ∧
  (∀ (p : Fin 8) (k : Nat) (ks : List Nat) (s : State), s.up → s.audioStale p = 0 → (s.aud p).wants = k :: ks → s.audRx p = false →
    s.audState p ≠ apClockBad → (s.aud p).k = none → (readBytes Config.dramFill s.dram (s.ringSlot p k) 64)[4]? = some 1 →
    leNat ((readBytes Config.dramFill s.dram (s.ringSlot p k) 64).take 4) = k → k < 2 ^ 32 →
    s.slotBad p k = [] →
    s.get .MEM_STATUS_SC_FAILED = 0 → Gives (.audioFetch p) s fun t =>
    t.aud p = { s.aud p with wants := ks, ready := (s.aud p).ready ++ [(k, some (audioWords (s.audSlots p) (s.audFrames p k)
        (readBytes Config.dramFill s.dram (s.ringSlot p k + 64) (4 * s.audFrames p k * s.audSlots p))))] }
      ∧ Tab.get Config.dramFill t.dram (s.ringSlot p k + 4) = 0
      ∧ (∀ a, a ≠ s.ringSlot p k + 4 → Tab.get Config.dramFill t.dram a = Tab.get Config.dramFill s.dram a)
      ∧ t.dealer = { s.dealer with tricks := endFirst .audio p s.dealer.tricks } ∧ (∀ q, q ≠ p.val → t.aud q = s.aud q)
      ∧ Keeps [.audio, .dealer, .dram, .mem] (only []) s t) ∧
  (∀ (p : Fin 8) (k : Nat) (ks : List Nat) (b : RxBlock) (s : State), s.up → s.audioStale p = 0 → (s.aud p).wants = k :: ks →
    s.audRx p = true → (s.aud p).got.find? (·.k == k) = some b → s.slotBad p k = [] → s.get .MEM_STATUS_SC_FAILED = 0 → Gives (.audioFetch p) s fun t =>
    readBytes Config.dramFill t.dram (s.ringSlot p k) 64 = s.ringHeader p b ∧ (t.aud p).wants = ks ∧ (t.aud p).got = (s.aud p).got.filter (·.k != k)
      ∧ t.get (.AUD_P_BLOCK_BLOCK p) = k % 2 ^ (Fld.AUD_P_BLOCK_BLOCK p).wid
      ∧ (∀ a, a < s.ringSlot p k → Tab.get Config.dramFill t.dram a = Tab.get Config.dramFill s.dram a)
      ∧ Keeps [.audio, .dealer, .dram, .mem] (only [Reg.AUD_P_CNT0 p, Reg.AUD_INT_STATUS, Reg.AUD_P_BLOCK p]) s t) ∧
  (∀ (p : Fin 8) (f : List Word) (w : Word) (s : State), s.up → s.audSlave p = true → s.audState p = apRun → (s.aud p).k = none →
    (s.aud p).moved = 0 → (s.aud p).store = [] → Gives (.fsEdge p f w) s fun t =>
    t.audState p = apClockBad ∧ t.get (.AUD_P_STATE_BAD_CAUSE p) = 2 ∧ Keeps [.audio] (only (audioRegs p)) s t) ∧
  (∀ (p : Fin 8) (f : List Word) (w : Word) (x y : List Word) (xs : List (List Word)) (s : State), s.up → s.audSlave p = true → s.audState p = apRun →
    s.audRx p = false → (s.aud p).k = none → (s.aud p).moved = 0 → (s.aud p).store = x :: y :: xs → xs.length < 14 → Gives (.fsEdge p f w) s fun t =>
    t.out = [.audio p (s.wireFmt p) [x]] ∧ t.aud p = { s.aud p with store := y :: xs } ∧ t.audState p = apRun
      ∧ Keeps [.audio] (only [Reg.AUD_P_STATE p]) s t) ∧
  (∀ (p : Fin 8) (f : List Word) (w : Word) (s : State), s.up → s.audSlave p = true → s.prestarts p w = true → s.audRx p = false →
    Gives (.fsEdge p f w) s fun t => t.audState p = apPrestart ∧ (t.aud p).startAt = none ∧ t.out = [.audio p (s.wireFmt p) (s.audZeros p 1)]
      ∧ Keeps [.audio] (only [Reg.AUD_P_STATE p, Reg.AUD_STATUS]) s t) ∧
  (∀ (p : Fin 8) (k b : Nat) (ks bs : List Nat) (s : State), s.up → s.audioStale p = 0 → (s.aud p).wants = k :: ks →
    s.slotBad p k = b :: bs → Gives (.audioFetch p) s fun t =>
    t.audio = s.audio ∧ t.on .MEM_INT_STATUS_CHK_PERSIST = true
      ∧ t.dealer = { s.dealer with tricks := stopFirst .audio p s.dealer.tricks } ∧ MemoryFrame s t) ∧
  (∀ (p : Fin 8) (k : Nat) (s : State), s.up → (s.aud p).wants[s.audioStale p]? = some k → s.audRx p = false →
    s.audState p ≠ apClockBad → (s.aud p).k = none → (readBytes Config.dramFill s.dram (s.ringSlot p k) 64)[4]? = some 0 →
    s.slotBad p k = [] → Gives (.audioFetch p) s fun t =>
      (t.aud p).wants = (s.aud p).wants.eraseIdx (s.audioStale p) ∧ (t.aud p).ready = (s.aud p).ready ++ [(k, none)]
        ∧ t.dealer = { s.dealer with tricks := endFirst .audio p s.dealer.tricks }
        ∧ Keeps [.audio, .dealer] (only [Reg.AUD_P_CNT0 p, Reg.AUD_INT_STATUS]) s t) ∧
  (∀ (p : Fin 8) (b : AudioBound) (s : State), s.up → s.audState p = apPrestart → s.audGrid (s.audGroup p) ≠ none → (s.aud p).k = none →
    s.audSlave p = false → s.audRx p = true → b.rate = none → s.alarmPort p = false → s.on (.AUD_P_CTRL_MUTE p) = false →
    Gives (.audioBlockBoundary p b) s fun t => t.audState p = apRun ∧ (t.aud p).k = some 0
      ∧ Emission.audioClocks p (s.wireFmt p) (s.audFrames p 0) ∈ t.out)

/-- Intake, doorbell, mailbox responses, relays and the host link act as the front end's rules say. Intake of an empty queue changes nothing; with room the oldest frame of a network port enters the FIFO in its place with its origin, time and CRC result, unless it is for another node. One for another node, of UDP or of the host, is sent on and its relay entered; one too long or for no node of the fabric is answered RANGE, one beyond 16 relays BUSY and counted, one with a wrong CRC CHECK and counted; while the Banker is absent a UDP one waits. A doorbell while the Banker is absent, on a BUSY mailbox or a full FIFO is ignored and counted; above 4,096 it is answered CHECK; otherwise the mailbox is BUSY and the frame stored or sent on. A Banker that is in reset or halted posts nothing; one that works posts bytes and code, raises vector 0, and BUSY until it has reported itself up. CMD_IN_POP removes the oldest frame; a relay that has waited leaves; PERST_N resets the link, interrupt and counter registers and the lane states of the host quad alone, and INTA falls; a link change is shown, with the lanes it uses, and a link that comes up shows the host the function. That a Banker that reports itself up takes the frames waiting for it at once, and that the host quad is in L1 while its link is down, are the model's choices (logs 92, 112). Rests on: 12_commands.md R338, 12_commands.md R339, 12_commands.md R341, 12_commands.md R342, 12_commands.md R349, 12_commands.md R350, 12_commands.md R356, 16_electrical.md R443, 07_fabric.md R218, 07_fabric.md R253, 01_architecture.md R37. -/
def Obligations.FrontEndTakesFramesAndKeepsTheMailbox : Prop :=
  (∀ (n : Fin 3) (s : State), s.up → (s.net n).cmdQ = [] → exec (.commandIntake n) s = .next s.quiet) ∧
  (∀ (n : Fin 3) (f : NetFrame) (st : Time64) (rest : List (NetFrame × Time64)) (u : UdpIn) (s : State), s.up → (s.net n).cmdQ = (f, st) :: rest →
    f.udp = some u → s.relays u.data = false → s.intakeFull = false → frameCrcOk u.data = true → Gives (.commandIntake n) s fun t =>
    (t.net n).cmdQ = rest ∧ (∀ m, m ≠ n.val → t.net m = s.net m)
      ∧ t.cmd = { s.cmd with fifo := queueFrame ⟨⟨0, n, u.ip, u.sport⟩, u.data, st.setWidth 32, true⟩ s.cmd.fifo }
      ∧ Keeps [.nets, .cmd] (only []) s t) ∧
  (∀ (n : Fin 3) (f : NetFrame) (st : Time64) (rest : List (NetFrame × Time64)) (u : UdpIn) (s : State), s.up → (s.net n).cmdQ = (f, st) :: rest →
    f.udp = some u → s.relays u.data = false → s.intakeFull = false → frameCrcOk u.data = false → Gives (.commandIntake n) s fun t =>
    t.cmd = { s.cmd with fifo := queueFrame ⟨⟨0, n, u.ip, u.sport⟩, u.data, st.setWidth 32, false⟩ s.cmd.fifo }
      ∧ t.get .CMD_CNT_CRC_ERR = satAdd (Fld.CMD_CNT_CRC_ERR).wid (s.get .CMD_CNT_CRC_ERR) 1
      ∧ Keeps [.nets, .cmd] (only [(Fld.CMD_CNT_CRC_ERR).addr]) s t) ∧
  (∀ (n : Fin 3) (f : NetFrame) (st : Time64) (rest : List (NetFrame × Time64)) (u : UdpIn) (s : State), s.up → (s.net n).cmdQ = (f, st) :: rest →
    f.udp = some u → s.relays u.data = false → s.intakeFull = true → exec (.commandIntake n) s = .next s.quiet) ∧
  (∀ (len : BitVec 13) (w : Word) (s : State), s.up → (s.bankerUp = false ∨ s.get .HST_MB_STATUS_CODE = stBUSY ∨ s.intakeFull = true) → Gives (.hstMbDoorbell len w) s fun t =>
    t.get .HST_CNT_DB_IGNORED = satAdd (Fld.HST_CNT_DB_IGNORED).wid (s.get .HST_CNT_DB_IGNORED) 1 ∧ t.time = { s.time with now := w }
      ∧ Keeps [.time] (only [Reg.HST_CNT]) s t) ∧
  (∀ (len : BitVec 13) (w : Word) (s : State), s.up → s.bankerUp = true → s.get .HST_MB_STATUS_CODE ≠ stBUSY → s.intakeFull = false → 4096 < len.toNat →
    Gives (.hstMbDoorbell len w) s fun t => t.get .HST_MB_STATUS_CODE = stCHECK ∧ t.on .HST_MB_STATUS_READY = true ∧ t.cmd = s.cmd
      ∧ Keeps [.time] (only [Reg.HST_MB_STATUS, Reg.HST_INT_STATUS]) s t) ∧
  (∀ (len : BitVec 13) (w : Word) (s : State), s.up → s.bankerUp = true → s.get .HST_MB_STATUS_CODE ≠ stBUSY → s.intakeFull = false → len.toNat ≤ 4096 →
    s.relays (readBytes 0 s.cmd.req 0 len.toNat) = false → Gives (.hstMbDoorbell len w) s fun t =>
    t.get .HST_MB_STATUS_CODE = stBUSY ∧ t.on .HST_MB_STATUS_READY = false
      ∧ t.cmd = { s.cmd with fifo := queueFrame ⟨⟨1, 0, 0, 0⟩, readBytes 0 s.cmd.req 0 len.toNat, w, frameCrcOk (readBytes 0 s.cmd.req 0 len.toNat)⟩ s.cmd.fifo }
      ∧ Keeps [.time, .cmd] (only [Reg.HST_MB_STATUS, (Fld.CMD_CNT_CRC_ERR).addr]) s t) ∧
  (∀ (c : Byte) (v : Bool) (bs : List Byte) (s : State), s.up → (s.get .BKR_STATUS_RUN = 0 ∨ s.on .FUS_DBG_STATUS_BANKER_HALTED = true) →
    exec (.hstMbRespWrite c v bs) s = .next s.quiet) ∧
  (∀ (c : Byte) (bs : List Byte) (s : State), s.up → s.get .BKR_STATUS_RUN ≠ 0 → s.on .FUS_DBG_STATUS_BANKER_HALTED = false → bs.length ≤ 4096 →
    Gives (.hstMbRespWrite c false bs) s fun t => t.get .HST_MB_STATUS_CODE = (if s.bankerUp then c.toNat else stBUSY)
      ∧ t.on .HST_MB_STATUS_READY = true ∧ bitOf (t.get .HST_INT_STATUS_VEC) 0 = true ∧ readBytes 0 t.cmd.resp 0 bs.length = bs
      ∧ (∀ a, bs.length ≤ a → Tab.get 0 t.cmd.resp a = Tab.get 0 s.cmd.resp a) ∧ t.cmd = { s.cmd with resp := t.cmd.resp }
      ∧ Keeps [.cmd] (only [Reg.HST_MB_STATUS, Reg.HST_INT_STATUS]) s t) ∧
  (∀ (c : Byte) (s : State), s.up → s.get .BKR_STATUS_RUN ≠ 0 → s.on .FUS_DBG_STATUS_BANKER_HALTED = false → s.bankerUp = false →
    Gives (.hstMbRespWrite c true []) s fun t => t.get .HST_MB_STATUS_CODE = c.toNat ∧ t.bankerUp = true
      ∧ (∀ n : Fin 3, (t.net n).ptpQ = [] ∧ (t.net n).genQ = [] ∧ (t.net n).cmdQ = (s.net n).cmdQ ∧ (t.net n).deckQ = (s.net n).deckQ)
      ∧ t.plat = { s.plat with watchAt := s.extNow } ∧ Keeps [.nets, .plat] (only [Reg.HST_MB_STATUS, Reg.HST_INT_STATUS, Reg.SCO_STATUS]) s t) ∧
  (∀ s : State, s.up → Gives .cmdInPop s fun t => t.cmd = { s.cmd with fifo := s.cmd.fifo.drop 1 } ∧ Keeps [.cmd] (only []) s t) ∧
  (∀ s : State, s.up → Gives .relayTimeout s fun t => t.cmd = { s.cmd with relays := s.cmd.relays.drop 1 } ∧ Keeps [.cmd] (only []) s t) ∧
  (∀ s : State, s.up → Gives .perstN s fun t => (∀ a ∈ [Reg.HST_LINK, Reg.HST_INT_STATUS, Reg.HST_INT_EN, Reg.HST_CNT], t.word a = regReset a)
      ∧ t.on .HST_MB_STATUS_READY = false ∧ t.inta = false ∧ t.quadPower 40 = 1 ∧ (∀ l < 4, t.on (.SER_LSTAT_SYNC 40 l) = false ∧ t.on (.SER_LSTAT_GOOD 40 l) = false)
      ∧ Keeps [] (only ([Reg.HST_LINK, Reg.HST_INT_STATUS, Reg.HST_INT_EN, Reg.HST_CNT, Reg.HST_MB_STATUS] ++ lstatRegs 40)) s t) ∧
  (∀ (wd : Fin 4) (g : Bool) (s : State), s.up → Gives (.hstLinkChange wd g) s fun t => t.on .HST_LINK_UP = (wd != 0)
      ∧ t.get .HST_LINK_WIDTH = wd ∧ t.on .HST_LINK_GEN2 = (wd != 0 && g)
      ∧ t.quadPower 40 = (if wd = 0 then 1 else 0)
      ∧ (∀ l < 4, t.on (.SER_LSTAT_GOOD 40 l) = decide (l < widthLanes wd))
      ∧ t.out = (if wd ≠ 0 ∧ s.on .HST_LINK_UP = false then [.hostFunction s.pciFunction] else [])
      ∧ Keeps [] (only (Reg.HST_LINK :: lstatRegs 40)) s t) ∧
  (∀ (n : Fin 3) (f : NetFrame) (st : Time64) (rest : List (NetFrame × Time64)) (u : UdpIn) (s : State), s.up → (s.net n).cmdQ = (f, st) :: rest →
    f.udp = some u → s.relays u.data = true → s.bankerUp = false → exec (.commandIntake n) s = .next s.quiet) ∧
  (∀ (n : Fin 3) (f : NetFrame) (st : Time64) (rest : List (NetFrame × Time64)) (u : UdpIn) (s : State), s.up → (s.net n).cmdQ = (f, st) :: rest →
    f.udp = some u → s.relays u.data = true → s.bankerUp = true → frameCrcOk u.data = true →
    frameLength u.data ≤ 236 → u.data.length ≤ 256 → s.inFabric (frameNum u.data 14 1) = true → s.cmd.relays.length < 16 →
    Gives (.commandIntake n) s fun t => (t.net n).cmdQ = rest ∧ (∀ m, m ≠ n.val → t.net m = s.net m)
      ∧ t.cmd = { s.cmd with relays := s.cmd.relays ++
          [⟨⟨0, n, u.ip, u.sport⟩, frameNum u.data 14 1, frameNum u.data 2 2, frameNum u.data 4 4, frameNum u.data 8 1, frameNum u.data 10 2⟩] }
      ∧ Keeps [.nets, .cmd, .fab] (only answerRegs) s t) ∧
  (∀ (n : Fin 3) (f : NetFrame) (st : Time64) (rest : List (NetFrame × Time64)) (u : UdpIn) (s : State), s.up → (s.net n).cmdQ = (f, st) :: rest →
    f.udp = some u → s.relays u.data = true → s.bankerUp = true → frameCrcOk u.data = true →
    (236 < frameLength u.data ∨ 256 < u.data.length ∨ s.inFabric (frameNum u.data 14 1) = false) → Gives (.commandIntake n) s fun t =>
      (t.net n).cmdQ = rest ∧ t.out = [.response ⟨0, n, u.ip, u.sport⟩ (responseBytes (frameHdr ⟨0, n, u.ip, u.sport⟩ u.data) stRANGE [])] ∧ Keeps [.nets] (only []) s t) ∧
  (∀ (n : Fin 3) (f : NetFrame) (st : Time64) (rest : List (NetFrame × Time64)) (u : UdpIn) (s : State), s.up → (s.net n).cmdQ = (f, st) :: rest →
    f.udp = some u → s.relays u.data = true → s.bankerUp = true → frameCrcOk u.data = true →
    frameLength u.data ≤ 236 → u.data.length ≤ 256 → s.inFabric (frameNum u.data 14 1) = true → 16 ≤ s.cmd.relays.length →
    Gives (.commandIntake n) s fun t => (t.net n).cmdQ = rest
      ∧ t.out = [.response ⟨0, n, u.ip, u.sport⟩ (responseBytes (frameHdr ⟨0, n, u.ip, u.sport⟩ u.data) stBUSY [])]
      ∧ t.get .CMD_CNT_RELAY_BUSY = satAdd (Fld.CMD_CNT_RELAY_BUSY).wid (s.get .CMD_CNT_RELAY_BUSY) 1
      ∧ Keeps [.nets] (only [(Fld.CMD_CNT_RELAY_BUSY).addr]) s t) ∧
  (∀ (n : Fin 3) (f : NetFrame) (st : Time64) (rest : List (NetFrame × Time64)) (u : UdpIn) (s : State), s.up → (s.net n).cmdQ = (f, st) :: rest →
    f.udp = some u → s.relays u.data = true → s.bankerUp = true → frameCrcOk u.data = false →
    Gives (.commandIntake n) s fun t => (t.net n).cmdQ = rest
      ∧ (∃ r : List Byte, t.out = [.response ⟨0, n, u.ip, u.sport⟩ r] ∧ r[9]? = some (BitVec.ofNat 8 stCHECK))
      ∧ t.get .CMD_CNT_CRC_ERR = satAdd (Fld.CMD_CNT_CRC_ERR).wid (s.get .CMD_CNT_CRC_ERR) 1
      ∧ Keeps [.nets] (only [(Fld.CMD_CNT_CRC_ERR).addr]) s t) ∧
  (∀ (len : BitVec 13) (w : Word) (bs : List Byte) (s : State), s.up → s.bankerUp = true → s.get .HST_MB_STATUS_CODE ≠ stBUSY → s.intakeFull = false →
    len.toNat ≤ 4096 → bs = readBytes 0 s.cmd.req 0 len.toNat → s.relays bs = true → frameCrcOk bs = true → frameLength bs ≤ 236 → bs.length ≤ 256 →
    s.inFabric (frameNum bs 14 1) = true → s.cmd.relays.length < 16 → Gives (.hstMbDoorbell len w) s fun t =>
      t.get .HST_MB_STATUS_CODE = stBUSY ∧ t.on .HST_MB_STATUS_READY = false
        ∧ t.cmd = { s.cmd with relays := s.cmd.relays ++
            [⟨⟨1, 0, 0, 0⟩, frameNum bs 14 1, frameNum bs 2 2, frameNum bs 4 4, frameNum bs 8 1, frameNum bs 10 2⟩] }
        ∧ Keeps [.time, .cmd, .fab] (only answerRegs) s t) ∧
  (∀ (len : BitVec 13) (w : Word) (bs : List Byte) (s : State), s.up → s.bankerUp = true → s.get .HST_MB_STATUS_CODE ≠ stBUSY → s.intakeFull = false →
    len.toNat ≤ 4096 → bs = readBytes 0 s.cmd.req 0 len.toNat → s.relays bs = true → frameCrcOk bs = true →
    (236 < frameLength bs ∨ 256 < bs.length ∨ s.inFabric (frameNum bs 14 1) = false) → Gives (.hstMbDoorbell len w) s fun t =>
      t.get .HST_MB_STATUS_CODE = stRANGE ∧ t.on .HST_MB_STATUS_READY = true ∧ t.cmd = { s.cmd with resp := t.cmd.resp }
        ∧ readBytes 0 t.cmd.resp 0 20 = responseBytes (frameHdr ⟨1, 0, 0, 0⟩ bs) stRANGE []
        ∧ Keeps [.time, .cmd] (only [Reg.HST_MB_STATUS, Reg.HST_INT_STATUS]) s t)

/-- A frame is checked in the order of the session rules, and sessions open, repeat, and close. A frame that fails its CRC changes no session and is answered CHECK with its header as received; one whose session is not open AUTH; one with the session's ALIVE CHECK, with no session changed; one with the session's SEQUENCE and another ALIVE the stored response; an older SEQUENCE is discarded and counted; a fifth queued command is BUSY; an unknown code UNKNOWN; a state not listed STATE; a class not permitted AUTH. PING answers OK with its payload. OPEN_SESSION from the entry's origin with fewer than 8 sessions opens one with the next free ID, a wrong origin is AUTH, a ninth session BUSY. CLOSE_SESSION and a silent session's timeout close it. That an entry which the image does not hold is answered AUTH is the model's reading (log 30). Rests on: 12_commands.md R342, 12_commands.md R343, 12_commands.md R344, 12_commands.md R345, 12_commands.md R338, 01_architecture.md R37. -/
def Obligations.FramesAreCheckedAndSessionsKept : Prop :=
  (∀ s : State, s.up → (s.bankerUp = false ∨ s.devState = stRecovery ∨ s.cmd.fifo = []) → exec .ping s = .next s.quiet) ∧
  (∀ (f : InFrame) (rest : List InFrame) (s : State), s.up → s.cmd.fifo = f :: rest → s.admits 0x01 f = true → Gives .ping s fun t =>
    Answered f rest stOK (framePayload f) t ∧ Keeps [.cmd, .fab] (only answerRegs) s t) ∧
  (∀ (f : InFrame) (rest : List InFrame) (s : State), s.up → s.devState ≠ stRecovery → s.bankerUp = true → s.cmd.fifo = f :: rest →
    f.crcOk = false → f.origin.transport = 0 → Gives .ping s fun t => t.cmd = { s.cmd with fifo := rest }
      ∧ (∃ bs, t.out = [.response f.origin bs] ∧ bs[9]? = some (BitVec.ofNat 8 stCHECK) ∧ bs.length = 20
        ∧ (16 ≤ f.bytes.length → bs.take 1 = f.bytes.take 1 ∧ (bs.drop 2).take 7 = (f.bytes.drop 2).take 7 ∧ (bs.drop 10).take 6 = (f.bytes.drop 10).take 6)) ∧ Keeps [.cmd] (only []) s t) ∧
  (∀ (f : InFrame) (rest : List InFrame) (s : State), s.up → s.devState ≠ stRecovery → s.bankerUp = true → s.cmd.fifo = f :: rest →
    frameSound f = true → frameNum f.bytes 2 2 ≠ 0 → s.session? (frameNum f.bytes 2 2) f.origin = none → Gives .ping s fun t =>
    t.cmd.fifo = rest ∧ t.cmd.sessions = s.cmd.sessions ∧ SentTo f.origin (responseBytes (frameHdr f.origin f.bytes) stAUTH []) stAUTH t
      ∧ Keeps [.cmd, .fab] (only answerRegs) s t) ∧
  (∀ (f : InFrame) (rest : List InFrame) (x : Session) (s : State), s.up → s.devState ≠ stRecovery → s.bankerUp = true → s.cmd.fifo = f :: rest →
    frameSound f = true → frameNum f.bytes 2 2 ≠ 0 → s.session? (frameNum f.bytes 2 2) f.origin = some x → frameNum f.bytes 8 1 = x.alive →
    Gives .ping s fun t => t.cmd.fifo = rest ∧ t.cmd.sessions = s.cmd.sessions
      ∧ SentTo f.origin (responseBytes (frameHdr f.origin f.bytes) stCHECK []) stCHECK t ∧ Keeps [.cmd, .fab] (only answerRegs) s t) ∧
  (∀ (f : InFrame) (rest : List InFrame) (x : Session) (g : CmdHdr) (c : Nat) (p : List Byte) (s : State), s.up → s.devState ≠ stRecovery →
    s.bankerUp = true → s.cmd.fifo = f :: rest → frameSound f = true → frameNum f.bytes 2 2 ≠ 0 →
    s.session? (frameNum f.bytes 2 2) f.origin = some x → frameNum f.bytes 8 1 ≠ x.alive → frameNum f.bytes 4 4 = x.seq → s.cmd.runs = [] →
    x.resp = some (g, c, p) → Gives .ping s fun t => t.cmd.fifo = rest
      ∧ t.cmd.sessions = s.cmd.sessions.map (fun y => if y.id = x.id then { y with alive := frameNum f.bytes 8 1 } else y)
      ∧ SentTo g.origin (responseBytes { g with alive := frameNum f.bytes 8 1 } c p) c t ∧ Keeps [.cmd, .fab] (only answerRegs) s t) ∧
  (∀ (f : InFrame) (rest : List InFrame) (x : Session) (s : State), s.up → s.devState ≠ stRecovery → s.bankerUp = true → s.cmd.fifo = f :: rest →
    frameSound f = true → frameNum f.bytes 2 2 ≠ 0 → s.session? (frameNum f.bytes 2 2) f.origin = some x → frameNum f.bytes 8 1 ≠ x.alive →
    frameNum f.bytes 4 4 ≠ x.seq → wordDiff (BitVec.ofNat 32 (frameNum f.bytes 4 4)) (BitVec.ofNat 32 x.seq) < 0 → Gives .ping s fun t =>
    t.cmd.fifo = rest ∧ t.cmd.seqOld = s.cmd.seqOld + 1 ∧ t.out = [] ∧ Keeps [.cmd] (only []) s t) ∧
  (∀ (f : InFrame) (rest : List InFrame) (x : Session) (s : State), s.up → s.devState ≠ stRecovery → s.bankerUp = true → s.cmd.fifo = f :: rest →
    frameSound f = true → frameNum f.bytes 2 2 ≠ 0 → s.session? (frameNum f.bytes 2 2) f.origin = some x → frameNum f.bytes 8 1 ≠ x.alive →
    frameNum f.bytes 4 4 ≠ x.seq → 0 ≤ wordDiff (BitVec.ofNat 32 (frameNum f.bytes 4 4)) (BitVec.ofNat 32 x.seq) →
    4 ≤ (s.cmd.runs.filter fun r => r.hdr.session == frameNum f.bytes 2 2 && r.stage == .queued).length → frameNum f.bytes 10 2 < 0x40 → Gives .ping s fun t =>
    Answered f rest stBUSY [] t ∧ Keeps [.cmd, .fab] (only answerRegs) s t) ∧
  (∀ (f : InFrame) (rest : List InFrame) (s : State), s.up → s.devState ≠ stRecovery → s.bankerUp = true → s.cmd.fifo = f :: rest →
    frameSound f = true → frameNum f.bytes 2 2 = 0 → commandRow (frameNum f.bytes 10 2) = none → Gives .ping s fun t =>
    Answered f rest stUNKNOWN [] t ∧ Keeps [.cmd, .fab] (only answerRegs) s t) ∧
  (∀ (f : InFrame) (rest : List InFrame) (s : State), s.up → s.devState ≠ stRecovery → s.bankerUp = true → s.cmd.fifo = f :: rest →
    frameSound f = true → frameNum f.bytes 2 2 = 0 → frameNum f.bytes 0 1 = 1 → frameNum f.bytes 10 2 = 0x30 →
    Gives (.restartOutput 0) s fun t => Answered f rest stAUTH [] t ∧ Keeps [.cmd, .fab] (only (faultRegs ++ answerRegs)) s t) ∧
  (∀ (f : InFrame) (rest : List InFrame) (n : Nat) (c : Controller) (s : State), s.up → s.cmd.fifo = f :: rest → s.admits 0x02 f = true → frameNum f.bytes 2 2 = 0 →
    s.image.controllers[n]? = some c → Controller_matches c f.origin = true → s.cmd.sessions.length < 8 → Gives (.openSession n) s fun t =>
    (∃ x, t.cmd.sessions = s.cmd.sessions ++ [x] ∧ t.cmd.lastId = x.id ∧ x.entry = n ∧ x.origin = f.origin ∧ x.alive = frameNum f.bytes 8 1
        ∧ x.seq = frameNum f.bytes 4 4 ∧ 0 < x.id ∧ x.id ≤ 0xFFFF ∧ x.id ∉ s.cmd.sessions.map (·.id)
        ∧ SentTo f.origin (responseBytes (frameHdr f.origin f.bytes) stOK (leBytes 2 x.id)) stOK t)
      ∧ t.cmd.fifo = rest ∧ Keeps [.cmd, .fab] (only answerRegs) s t) ∧
  (∀ (f : InFrame) (rest : List InFrame) (n : Nat) (c : Controller) (s : State), s.up → s.cmd.fifo = f :: rest → s.admits 0x02 f = true → frameNum f.bytes 2 2 = 0 →
    s.image.controllers[n]? = some c → Controller_matches c f.origin = true → 8 ≤ s.cmd.sessions.length → Gives (.openSession n) s fun t =>
    Answered f rest stBUSY [] t ∧ t.cmd.sessions = s.cmd.sessions ∧ Keeps [.cmd, .fab] (only answerRegs) s t) ∧
  (∀ (f : InFrame) (rest : List InFrame) (n : Nat) (s : State), s.up → s.cmd.fifo = f :: rest → s.admits 0x02 f = true → frameNum f.bytes 2 2 = 0 →
    (s.image.controllers[n]?.any fun c => Controller_matches c f.origin) = false → Gives (.openSession n) s fun t =>
    Answered f rest stAUTH [] t ∧ t.cmd.sessions = s.cmd.sessions ∧ Keeps [.cmd, .fab] (only answerRegs) s t) ∧
  (∀ (f : InFrame) (rest : List InFrame) (s : State), s.up → s.cmd.fifo = f :: rest → s.admits 0x03 f = true → Gives .closeSession s fun t =>
    t.cmd.fifo = rest ∧ SentTo f.origin (responseBytes (frameHdr f.origin f.bytes) stOK []) stOK t
      ∧ (∀ x ∈ t.cmd.sessions, x.id ≠ frameNum f.bytes 2 2) ∧ t.cmd.sessions = s.cmd.sessions.filter (fun x => x.id != frameNum f.bytes 2 2)
      ∧ Keeps [.cmd, .fab] (only answerRegs) s t) ∧
  (∀ (id : Nat) (s : State), s.up → Gives (.sessionTimeout id) s fun t => t.cmd = { s.cmd with sessions := s.cmd.sessions.filter fun x => x.id != id }
    ∧ Keeps [.cmd] (only []) s t)

/-- GET_STATUS, GET_TILES, GET_TOUCH and GET_LOG answer with the state they name, as many whole items as fit. GET_STATUS returns the device state, node, Dealer status, tick count, FAULT_N level, outputs not in VIDEO, folded tiles and reference status. GET_TILES returns state and age of as many tiles from the first as the count and the transport allow, and RANGE for a count of 0 or above 128. GET_TOUCH returns the newest report of a port's ring, which is then read, and RANGE for a port above 3. GET_LOG returns from the first index on, or from the oldest record the ring still holds, as many records of an area as asked for, 30, those there are and the transport allow, or as many counters as the transport allows, and RANGE where there are none. That GET_TOUCH counts as reading the report is the model's reading (log 93). Rests on: 12_commands.md R345, 12_commands.md R346, 15_faults.md R432, 10_touch.md R314, 12_commands.md R338. -/
def Obligations.ReadCommandsReturnWhatTheyName : Prop :=
  (∀ (f : InFrame) (rest : List InFrame) (s : State), s.up → s.cmd.fifo = f :: rest → s.admits 0x10 f = true → Gives .getStatus s fun t =>
    Answered f rest stOK s.statusBytes t ∧ Keeps [.cmd, .fab] (only answerRegs) s t) ∧
  (∀ (f : InFrame) (rest : List InFrame) (a n : Nat) (s : State), s.up → s.cmd.fifo = f :: rest → s.admits 0x11 f = true → a < 512 → 0 < n → n ≤ 128 →
    Gives (.getTiles a n) s fun t => Answered f rest stOK (leBytes 2 a ++ leBytes 1 (min n (min (512 - a) ((maxPayload f.origin.transport - 3) / 8)))
        ++ (List.range (min n (min (512 - a) ((maxPayload f.origin.transport - 3) / 8)))).flatMap fun k =>
          leBytes 4 (s.word (Reg.CMP_LV_STATE (a + k))).toNat ++ leBytes 4 (s.word (Reg.CMP_LV_AGE (a + k))).toNat) t
      ∧ Keeps [.cmd, .fab] (only answerRegs) s t) ∧
  (∀ (f : InFrame) (rest : List InFrame) (a n : Nat) (s : State), s.up → s.cmd.fifo = f :: rest → s.admits 0x11 f = true → (512 ≤ a ∨ n = 0 ∨ 128 < n) →
    Gives (.getTiles a n) s fun t => Answered f rest stRANGE [] t ∧ Keeps [.cmd, .fab] (only answerRegs) s t) ∧
  (∀ (f : InFrame) (rest : List InFrame) (p : Fin 4) (s : State), s.up → s.cmd.fifo = f :: rest → s.admits 0x12 f = true → Gives (.getTouch p) s fun t =>
    Answered f rest stOK (leBytes 1 p ++ (List.range 48).flatMap fun k =>
        leBytes 4 (s.word (Reg.TCH_RPT p ((s.get (.TCH_P_RPT_NEXT p) + 15) % 16) k)).toNat) t
      ∧ (t.tch p).unread = (s.tch p).unread.filter (· != (s.get (.TCH_P_RPT_NEXT p) + 15) % 16)
      ∧ (∀ q, q ≠ p.val → t.tch q = s.tch q) ∧ Keeps [.cmd, .fab, .touch] (only answerRegs) s t) ∧
  (∀ (f : InFrame) (rest : List InFrame) (p : Nat) (s : State), s.up → s.cmd.fifo = f :: rest → s.admits 0x12 f = true → 4 ≤ p → Gives (.getTouch p) s fun t =>
    Answered f rest stRANGE [] t ∧ Keeps [.cmd, .fab] (only answerRegs) s t) ∧
  (∀ (f : InFrame) (rest : List InFrame) (s : State), s.up → s.cmd.fifo = f :: rest → s.admits 0x13 f = true → 6 ≤ (framePayload f).length →
    frameNum (framePayload f) 0 1 < 2 → frameNum (framePayload f) 1 4 < s.logNext (frameNum (framePayload f) 0 1) →
    0 < frameNum (framePayload f) 5 1 → Gives .getLog s fun t =>
    let area := frameNum (framePayload f) 0 1
    let next := s.logNext area
    let first := if area = 1 then max (frameNum (framePayload f) 1 4) (next - 65536) else frameNum (framePayload f) 1 4
    let n := min (min (min (frameNum (framePayload f) 5 1) 30) (next - first)) ((maxPayload f.origin.transport - 6) / 32)
    Answered f rest stOK (leBytes 1 area ++ leBytes 4 first ++ leBytes 1 n
        ++ (List.range n).flatMap fun i => s.mramBytes (logAt area (first + i)) 32) t
      ∧ Keeps [.cmd, .fab] (only answerRegs) s t) ∧
  (∀ (f : InFrame) (rest : List InFrame) (s : State), s.up → s.cmd.fifo = f :: rest → s.admits 0x13 f = true →
    (2 < frameNum (framePayload f) 0 1 ∨ (frameNum (framePayload f) 0 1 < 2 ∧
      (frameNum (framePayload f) 5 1 = 0 ∨ s.logNext (frameNum (framePayload f) 0 1) ≤ frameNum (framePayload f) 1 4))) → Gives .getLog s fun t =>
    Answered f rest stRANGE [] t ∧ Keeps [.cmd, .fab] (only answerRegs) s t) ∧
  (∀ (f : InFrame) (rest : List InFrame) (s : State), s.up → s.cmd.fifo = f :: rest → s.admits 0x13 f = true → 6 ≤ (framePayload f).length →
    frameNum (framePayload f) 0 1 = 2 → Gives .getLog s fun t =>
    let n := min 64 ((maxPayload f.origin.transport - 6) / 8)
    Answered f rest stOK (leBytes 1 2 ++ leBytes 4 0 ++ leBytes 1 n ++ (s.mramBytes 0x200 512).take (8 * n)) t ∧ Keeps [.cmd, .fab] (only answerRegs) s t)

/-- Layout commands are checked for range, wait for their tick, and write GO or the wall request. SELECT_LAYOUT and SWAP_SOURCE for a tick more than one ahead, with nothing pending, wait for the tick before their target, changing nothing else. One whose parameters are out of range, or whose target is more than 600 ticks ahead, is answered RANGE. SET_GRAPHIC and SET_USER_MARKER act at the first possible tick: with nothing pending and room for a change, GO is written with their words pending, and the change is recorded; their answer waits for it. While a commit is pending they wait, up to 4 ticks; then they are answered BUSY, or with the refusal that comes before BUSY, and leave the pending set as it was. WALL_LAYOUT with the first possible target makes this node the coordinator. That the wait counts from the command's turn is the model's reading (log 31). Rests on: 12_commands.md R347, 12_commands.md R348, 03_composition.md R122, 03_composition.md R123, 12_commands.md R345, 00_scope.md R7, 03_composition.md R124. -/
def Obligations.LayoutCommandsWaitForTheirTick : Prop :=
  (∀ (f : InFrame) (rest : List InFrame) (y n : Nat) (xs : List Swap) (s : State), s.up → s.cmd.fifo = f :: rest → s.admits 0x20 f = true → s.dealing = true →
    s.cmd.runs = [] → s.on .CMP_COMMIT_PENDING = false → s.wallArmed = false → y < 256 → n < 2 ^ 32 → swapsOk 16 xs = true → n ≠ 0 →
    1 < wordDiff (BitVec.ofNat 32 n) s.tick → wordDiff (BitVec.ofNat 32 n) s.tick ≤ 600 → Gives (.selectLayout y n xs) s fun t =>
    t.cmd.runs = [⟨frameHdr f.origin f.bytes, .select y n xs, .due (BitVec.ofNat 32 n - 1)⟩] ∧ t.cmd.fifo = rest ∧ t.out = []
      ∧ Keeps [.cmd] (only []) s t) ∧
  (∀ (f : InFrame) (rest : List InFrame) (y n : Nat) (xs : List Swap) (s : State), s.up → s.cmd.fifo = f :: rest → s.admits 0x20 f = true →
    (256 ≤ y ∨ 2 ^ 32 ≤ n ∨ swapsOk 16 xs = false) → Gives (.selectLayout y n xs) s fun t =>
    Answered f rest stRANGE (s.layoutBytes stRANGE 0) t ∧ Keeps [.cmd, .fab] (only answerRegs) s t) ∧
  (∀ (f : InFrame) (rest : List InFrame) (n : Nat) (xs : List Swap) (s : State), s.up → s.cmd.fifo = f :: rest → s.admits 0x21 f = true → s.dealing = true →
    s.cmd.runs = [] → s.on .CMP_COMMIT_PENDING = false → s.wallArmed = false → n < 2 ^ 32 → swapsOk 32 xs = true → n ≠ 0 →
    1 < wordDiff (BitVec.ofNat 32 n) s.tick → wordDiff (BitVec.ofNat 32 n) s.tick ≤ 600 → Gives (.swapSource n xs) s fun t =>
    t.cmd.runs = [⟨frameHdr f.origin f.bytes, .swap n xs, .due (BitVec.ofNat 32 n - 1)⟩] ∧ t.cmd.fifo = rest ∧ t.out = []
      ∧ Keeps [.cmd] (only []) s t) ∧
  (∀ (f : InFrame) (rest : List InFrame) (n : Nat) (xs : List Swap) (s : State), s.up → s.cmd.fifo = f :: rest → s.admits 0x21 f = true →
    n < 2 ^ 32 → swapsOk 32 xs = true → n ≠ 0 → 600 < wordDiff (BitVec.ofNat 32 n) s.tick → Gives (.swapSource n xs) s fun t =>
    Answered f rest stRANGE (s.layoutBytes stRANGE 0) t ∧ Keeps [.cmd, .fab] (only answerRegs) s t) ∧
  (∀ (f : InFrame) (rest : List InFrame) (o : Fin 16) (g : Fin 8) (ws : List Word) (s : State), s.up → s.cmd.fifo = f :: rest → s.admits 0x23 f = true →
    s.dealing = true → s.cmd.runs = [] → s.on .CMP_COMMIT_PENDING = false → s.wallArmed = false → ws.length = 6 → s.dealer.changes.length < 4 →
    Gives (.setGraphic o g ws) s fun t =>
    (∃ c, t.dealer = { s.dealer with changes := s.dealer.changes ++ [c], nextChange := s.dealer.nextChange + 1 } ∧ c.id = s.dealer.nextChange
        ∧ c.kind = .commit t.pend s.pendLayout)
      ∧ t.cmd.runs.map (·.stage) = [.change s.dealer.nextChange] ∧ t.on .CMP_COMMIT_PENDING = true
      ∧ t.get .DLR_STATUS_PENDING = (s.dealer.changes.length + 1) % 2 ^ (Fld.DLR_STATUS_PENDING).wid
      ∧ t.pendWord (Reg.CMP_GL_POS o g) = mergeSh (Reg.CMP_GL_POS o g) (s.pendWord (Reg.CMP_GL_POS o g)) (ws[4]?.getD 0)
      ∧ t.cmd.fifo = rest ∧ t.out = [] ∧ Keeps [.cmd, .pend, .dealer] (only [Reg.CMP_COMMIT, Reg.DLR_STATUS]) s t) ∧
  (∀ (f : InFrame) (rest : List InFrame) (o g : Nat) (ws : List Word) (s : State), s.up → s.cmd.fifo = f :: rest → s.admits 0x23 f = true →
    (16 ≤ o ∨ 8 ≤ g ∨ ws.length ≠ 6) → Gives (.setGraphic o g ws) s fun t =>
    Answered f rest stRANGE (s.layoutBytes stRANGE 0) t ∧ Keeps [.cmd, .fab] (only answerRegs) s t) ∧
  (∀ (f : InFrame) (rest : List InFrame) (o : Fin 16) (es : List Word) (a p : Nat) (s : State), s.up → s.cmd.fifo = f :: rest → s.admits 0x24 f = true →
    s.dealing = true → s.cmd.runs = [] → s.on .CMP_COMMIT_PENDING = false → s.wallArmed = false → es.length = 8 → a < 2 ^ 40 → p < 2 ^ 16 →
    s.dealer.changes.length < 4 → Gives (.setUserMarker o es a p) s fun t =>
    (∃ c, t.dealer = { s.dealer with changes := s.dealer.changes ++ [c], nextChange := s.dealer.nextChange + 1 } ∧ c.kind = .commit t.pend s.pendLayout)
      ∧ t.cmd.runs.map (·.stage) = [.change s.dealer.nextChange] ∧ t.on .CMP_COMMIT_PENDING = true ∧ t.cmd.fifo = rest ∧ t.out = []
      ∧ Keeps [.cmd, .pend, .dealer] (only [Reg.CMP_COMMIT, Reg.DLR_STATUS]) s t) ∧
  (∀ (f : InFrame) (rest : List InFrame) (o : Fin 16) (es : List Word) (a p : Nat) (s : State), s.up → s.cmd.fifo = f :: rest → s.admits 0x24 f = true →
    s.dealing = true → s.cmd.runs = [] → s.on .CMP_COMMIT_PENDING = true → es.length = 8 → a < 2 ^ 40 → p < 2 ^ 16 → Gives (.setUserMarker o es a p) s fun t =>
    t.cmd.runs.map (·.stage) = [.taken s.tick] ∧ t.cmd.fifo = rest ∧ t.out = [] ∧ Keeps [.cmd] (only []) s t) ∧
  (∀ (f : InFrame) (rest : List InFrame) (y : Nat) (d : WallDesc) (s : State), s.up → s.cmd.fifo = f :: rest → s.admits 0x22 f = true → s.dealing = true →
    s.cmd.runs = [] → s.on .CMP_COMMIT_PENDING = false → s.wallArmed = false → s.wall.coord = none → y < 256 → s.wallDesc y = some d →
    s.dealer.changes.length < 4 → Gives (.wallLayout y 0) s fun t =>
    (∃ x, t.wall.coord = some x ∧ x.wall = y ∧ x.m = s.tick + 1 ∧ x.d = 2 ∧ x.sent = false) ∧ t.get .CMP_WALL_REQ_LAYOUT = y
      ∧ t.word Reg.CMP_WALL_TARGET = s.tick + 3 ∧ t.get .CMP_WALL_STATUS_PHASE = wpPreparing ∧ t.cmd.runs.map (·.stage) = [.wall]
      ∧ t.cmd.fifo = rest ∧ t.out = []
      ∧ Keeps [.cmd, .wall] (only [Reg.CMP_WALL_REQ, Reg.CMP_WALL_TARGET, Reg.CMP_WALL_STATUS]) s t) ∧
  (∀ (f : InFrame) (rest : List InFrame) (y n : Nat) (s : State), s.up → s.cmd.fifo = f :: rest → s.admits 0x22 f = true → (256 ≤ y ∨ 2 ^ 32 ≤ n) →
    Gives (.wallLayout y n) s fun t => Answered f rest stRANGE s.wallBytes t ∧ Keeps [.cmd, .fab] (only answerRegs) s t) ∧
  (∀ (r : CmdRun) (ws : List (Nat × Word)) (k : Tick) (s : State), s.up → s.dealing = true → s.nextChange = none → s.cmd.runs = [r] →
    r.act = .words ws → r.stage = .taken k → (s.on .CMP_COMMIT_PENDING = true ∨ s.wallArmed = true) → wordDiff s.tick k < 4 →
    exec .changeAdmission s = .next s.quiet) ∧
  (∀ (r : CmdRun) (ws : List (Nat × Word)) (k : Tick) (s : State), s.up → s.bankerUp = true → s.dealing = true → s.nextChange = none →
    s.cmd.runs = [r] → r.act = .words ws → r.stage = .taken k → (s.on .CMP_COMMIT_PENDING = true ∨ s.wallArmed = true) → 4 ≤ wordDiff s.tick k →
    s.layoutRefusal (s.loadAct r.act) r.act = none → Gives .changeAdmission s fun t =>
      t.cmd.runs = [] ∧ SentTo r.hdr.origin (responseBytes r.hdr stBUSY (s.layoutBytes stBUSY 0)) stBUSY t ∧ t.dealer = s.dealer ∧ t.pend = s.pend
        ∧ Keeps [.cmd, .fab] (only (Reg.BKR_UPD_STATUS :: answerRegs)) s t) ∧
  (∀ (r : CmdRun) (ws : List (Nat × Word)) (k : Tick) (code reason : Nat) (s : State), s.up → s.bankerUp = true → s.dealing = true →
    s.nextChange = none → s.cmd.runs = [r] → r.act = .words ws → r.stage = .taken k → s.on .CMP_COMMIT_PENDING = true → 4 ≤ wordDiff s.tick k →
    s.actPermits (s.loadAct r.act) r.act = true → s.layoutRefusal (s.loadAct r.act) r.act = some (code, reason) →
    Gives .changeAdmission s fun t =>
      t.cmd.runs = [] ∧ SentTo r.hdr.origin (responseBytes r.hdr code (s.layoutBytes code reason)) code t ∧ t.dealer = s.dealer
        ∧ t.pend = s.pend)

/-- RESTART_OUTPUT, RESYNC, TOUCH_CTRL, ENCODE_CTRL, AUDIO_MUTE and KEY_REQUEST act and answer with their codes. RESTART_OUTPUT clears the blank source SCORER of an output that holds it, forgets its liveness history, logs it and answers OK; where it does not hold, or the hard-wired path does, STATE. RESYNC without a rate is answered STATE. TOUCH_CTRL releases or restarts a port in RUN with OK, a restart with its release report first, restarts one in FAULT, and answers STATE elsewhere. ENCODE_CTRL KEY of a running stream records the request and is OK, of a stopped one is STATE, each with ENC_CMD_STATUS; START becomes a change, and the answer waits for the Dealer. AUDIO_MUTE writes MUTE and answers OK. KEY_REQUEST of a context without feedback is STATE. Parameters out of range are answered RANGE and change nothing. Rests on: 04_output.md R139, 04_output.md R158, 06_codec.md R187, 06_codec.md R205, 06_codec.md R209, 10_touch.md R319, 11_audio.md R334, 12_commands.md R345, 00_scope.md R7, 15_faults.md R413. -/
def Obligations.OperatingCommandsActAndAnswer : Prop :=
  (∀ (f : InFrame) (rest : List InFrame) (o : Fin 16) (s : State), s.up → s.logRoom → s.cmd.fifo = f :: rest → s.admits 0x30 f = true →
    bitOf (s.get (.OUT_STATUS_BLANK_SRC o)) 0 = true → s.sco.hard = false → Gives (.restartOutput o) s fun t =>
    Answered f rest stOK [] t ∧ bitOf (t.get (.OUT_STATUS_BLANK_SRC o)) 0 = false ∧ t.on (.CMP_LV_OUT_BLANKED o) = false
      ∧ t.get (.CMP_LV_OUT_BLANK_CAUSE o) = 0 ∧ t.get (.CMP_LV_OUT_MISS_RUN o) = 0 ∧ t.lastLog = some (0x0302, [o.val])
      ∧ (t.outp o).sigHist = [] ∧ (t.outp o).misRun = 0 ∧ (∀ q, q ≠ o.val → t.outp q = s.outp q)
      ∧ Keeps [.cmd, .fab, .outs, .sco] (only (faultRegs ++ answerRegs ++ [Reg.OUT_STATUS o, Reg.CMP_LV_OUT o])) s t) ∧
  (∀ (f : InFrame) (rest : List InFrame) (o : Fin 16) (s : State), s.up → s.cmd.fifo = f :: rest → s.admits 0x30 f = true →
    (bitOf (s.get (.OUT_STATUS_BLANK_SRC o)) 0 = false ∨ s.sco.hard = true) → Gives (.restartOutput o) s fun t =>
    Answered f rest stSTATE [] t ∧ Keeps [.cmd, .fab] (only (faultRegs ++ answerRegs)) s t) ∧
  (∀ (f : InFrame) (rest : List InFrame) (o : Nat) (s : State), s.up → s.cmd.fifo = f :: rest → s.admits 0x30 f = true → 16 ≤ o →
    Gives (.restartOutput o) s fun t => Answered f rest stRANGE [] t ∧ Keeps [.cmd, .fab] (only (faultRegs ++ answerRegs)) s t) ∧
  (∀ (f : InFrame) (rest : List InFrame) (s : State), s.up → s.cmd.fifo = f :: rest → s.admits 0x31 f = true → s.on .OUT_REF_STATUS_REF_RATE = false →
    Gives .resync s fun t => Answered f rest stSTATE [] t ∧ t.get .OUT_RESYNC_CODE = stSTATE
      ∧ Keeps [.cmd, .fab] (only (faultRegs ++ answerRegs ++ [Reg.OUT_RESYNC])) s t) ∧
  (∀ (f : InFrame) (rest : List InFrame) (s : State), s.up → s.cmd.fifo = f :: rest → s.admits 0x31 f = true → s.on .OUT_REF_STATUS_REF_RATE = true →
    s.measured = some s.pTick → 0 ≤ s.pTick → Gives .resync s fun t => Answered f rest stOK [] t ∧ t.get .OUT_RESYNC_CODE = stOK
      ∧ t.dealer = { s.dealer with resyncReq := true }
      ∧ Keeps [.cmd, .fab, .dealer] (only (faultRegs ++ answerRegs ++ [Reg.OUT_RESYNC])) s t) ∧
  (∀ (f : InFrame) (rest : List InFrame) (p : Fin 4) (s : State), s.up → s.logRoom → s.cmd.fifo = f :: rest → s.admits 0x32 f = true → s.tchState p = tpRun →
    Gives (.touchCtrl p 1) s fun t => Answered f rest stOK [] t ∧ (t.tch p).contacts = [] ∧ t.tchState p = tpRun
      ∧ Keeps [.cmd, .fab, .touch, .sco] (only (Reg.TCH_P_CTRL p :: touchRegs p ++ answerRegs)) s t) ∧
  (∀ (f : InFrame) (rest : List InFrame) (p : Fin 4) (s : State), s.up → s.cmd.fifo = f :: rest → s.admits 0x32 f = true → s.tchState p = tpFault →
    Gives (.touchCtrl p 0) s fun t => Answered f rest stOK [] t ∧ t.tchState p = tpStart
      ∧ Keeps [.cmd, .fab, .touch] (only ([Reg.TCH_P_STATE p, Reg.TCH_STATUS, Reg.TCH_P_NODES p, Reg.TCH_P_CTRL p] ++ answerRegs)) s t) ∧
  (∀ (f : InFrame) (rest : List InFrame) (p op : Nat) (s : State), s.up → s.cmd.fifo = f :: rest → s.admits 0x32 f = true → (4 ≤ p ∨ 2 ≤ op) →
    Gives (.touchCtrl p op) s fun t => Answered f rest stRANGE [] t ∧ Keeps [.cmd, .fab] (only answerRegs) s t) ∧
  (∀ (f : InFrame) (rest : List InFrame) (e : Fin 32) (s : State), s.up → s.cmd.fifo = f :: rest → s.admits 0x33 f = true → s.encRuns e = true →
    Gives (.encodeCtrl e 3) s fun t => Answered f rest stOK (leBytes 4 (t.word Reg.ENC_CMD_STATUS).toNat) t ∧ t.get .ENC_CMD_STATUS_CODE = stOK ∧ t.on (.ENC_ST_STATE_KEY_PENDING e) = true
      ∧ t.get (.ENC_ST_KEYS_REQUESTS e) = satAdd (Fld.ENC_ST_KEYS_REQUESTS e).wid (s.get (.ENC_ST_KEYS_REQUESTS e)) 1
      ∧ t.get .ENC_CMD_STREAM = e ∧ t.get .ENC_CMD_OP = 3 ∧ t.on .ENC_INT_STATUS_CMD_DONE = true
      ∧ Keeps [.cmd, .fab, .encs] (only ([Reg.ENC_CMD, Reg.ENC_CMD_STATUS, Reg.ENC_INT_STATUS, Reg.ENC_ST_KEYS e, Reg.ENC_ST_STATE e] ++ answerRegs)) s t) ∧
  (∀ (f : InFrame) (rest : List InFrame) (e : Fin 32) (s : State), s.up → s.cmd.fifo = f :: rest → s.admits 0x33 f = true → s.encRuns e = false →
    Gives (.encodeCtrl e 3) s fun t => Answered f rest stSTATE (leBytes 4 (t.word Reg.ENC_CMD_STATUS).toNat) t ∧ t.get .ENC_CMD_STATUS_CODE = stSTATE
      ∧ Keeps [.cmd, .fab] (only ([Reg.ENC_CMD, Reg.ENC_CMD_STATUS, Reg.ENC_INT_STATUS] ++ answerRegs)) s t) ∧
  (∀ (f : InFrame) (rest : List InFrame) (e : Fin 32) (s : State), s.up → s.cmd.fifo = f :: rest → s.admits 0x33 f = true → s.dealing = true →
    s.dealer.changes.length < 4 → Gives (.encodeCtrl e 1) s fun t => t.on .ENC_CMD_STATUS_BUSY = true
      ∧ (∃ c, t.dealer = { s.dealer with changes := s.dealer.changes ++ [c], nextChange := s.dealer.nextChange + 1 }
        ∧ c.kind = .encStart e ∧ c.stage = .waiting ∧ c.dueTick = s.tick + 1 ∧ t.cmd.fifo = rest
        ∧ t.cmd.runs.map (·.stage) = (s.cmd.runs.map (·.stage)) ++ [.change c.id])
      ∧ Keeps [.cmd, .dealer] (only [Reg.ENC_CMD, Reg.ENC_CMD_STATUS, Reg.DLR_STATUS]) s t) ∧
  (∀ (f : InFrame) (rest : List InFrame) (p : Fin 8) (v : Bool) (s : State), s.up → s.cmd.fifo = f :: rest → s.admits 0x34 f = true →
    Gives (.audioMute p v) s fun t => Answered f rest stOK [] t ∧ t.on (.AUD_P_CTRL_MUTE p) = v
      ∧ Keeps [.cmd, .fab] (only (Reg.AUD_P_CTRL p :: answerRegs)) s t) ∧
  (∀ (f : InFrame) (rest : List InFrame) (p : Nat) (v : Bool) (s : State), s.up → s.cmd.fifo = f :: rest → s.admits 0x34 f = true → 8 ≤ p →
    Gives (.audioMute p v) s fun t => Answered f rest stRANGE [] t ∧ Keeps [.cmd, .fab] (only answerRegs) s t) ∧
  (∀ (f : InFrame) (rest : List InFrame) (c : Fin 512) (s : State), s.up → s.cmd.fifo = f :: rest → s.admits 0x35 f = true → s.on .DEC_CMD_STATUS_BUSY = false → s.get (.DEC_CX_NET_FB c) = 0 →
    Gives (.keyRequest c) s fun t => Answered f rest stSTATE (leBytes 4 (t.word Reg.DEC_CMD_STATUS).toNat) t ∧ t.get .DEC_CMD_STATUS_CODE = stSTATE ∧ t.get .DEC_CMD_CTX = c
      ∧ t.get .DEC_CMD_OP = 3 ∧ Keeps [.cmd, .fab] (only ([Reg.DEC_CMD, Reg.DEC_CMD_STATUS] ++ answerRegs)) s t) ∧
  (∀ (f : InFrame) (rest : List InFrame) (c : Fin 512) (s : State), s.up → s.cmd.fifo = f :: rest → s.admits 0x35 f = true → s.on .DEC_CMD_STATUS_BUSY = false → s.get (.DEC_CX_NET_FB c) = 1 →
    (s.ctxState c = cxWaitKey ∨ s.ctxState c = cxRunning) → Gives (.keyRequest c) s fun t => Answered f rest stOK (leBytes 4 (t.word Reg.DEC_CMD_STATUS).toNat) t
      ∧ t.get (.DEC_CX_ERR_PLI_SENT c) = satAdd (Fld.DEC_CX_ERR_PLI_SENT c).wid (s.get (.DEC_CX_ERR_PLI_SENT c)) 1
      ∧ MemoryFrame s t) ∧
  (∀ (f : InFrame) (rest : List InFrame) (c : Nat) (s : State), s.up → s.cmd.fifo = f :: rest → s.admits 0x35 f = true → 512 ≤ c →
    Gives (.keyRequest c) s fun t => Answered f rest stRANGE [] t ∧ Keeps [.cmd, .fab] (only answerRegs) s t) ∧
  (∀ (f : InFrame) (rest : List InFrame) (e op : Nat) (s : State), s.up → s.cmd.fifo = f :: rest → s.admits 0x33 f = true →
    (32 ≤ e ∨ op < 1 ∨ 3 < op) → Gives (.encodeCtrl e op) s fun t => Answered f rest stRANGE [] t ∧ Keeps [.cmd, .fab] (only answerRegs) s t) ∧
  (∀ (f : InFrame) (rest : List InFrame) (p : Fin 4) (s : State), s.up → s.cmd.fifo = f :: rest → s.admits 0x32 f = true → s.tchState p ≠ tpRun →
    Gives (.touchCtrl p 1) s fun t => Answered f rest stSTATE [] t ∧ t.get (.TCH_P_CTRL_CODE p) = stSTATE
      ∧ Keeps [.cmd, .fab] (only (Reg.TCH_P_CTRL p :: answerRegs)) s t) ∧
  (∀ (f : InFrame) (rest : List InFrame) (p : Fin 4) (s : State), s.up → s.cmd.fifo = f :: rest → s.admits 0x32 f = true → s.tchState p ≠ tpRun →
    s.tchState p ≠ tpFault → Gives (.touchCtrl p 0) s fun t => Answered f rest stSTATE [] t ∧ t.get (.TCH_P_CTRL_CODE p) = stSTATE
      ∧ Keeps [.cmd, .fab] (only (Reg.TCH_P_CTRL p :: answerRegs)) s t) ∧
  (∀ (f : InFrame) (rest : List InFrame) (p : Fin 4) (s : State), s.up → s.logRoom → s.cmd.fifo = f :: rest → s.admits 0x32 f = true → s.tchState p = tpRun →
    Gives (.touchCtrl p 0) s fun t => Answered f rest stOK [] t ∧ t.tchState p = tpStart ∧ (t.tch p).contacts = [] ∧ (t.tch p).baseN = 0
      ∧ t.get (.TCH_P_CNT1_RELEASE_ALL p) = satAdd (Fld.TCH_P_CNT1_RELEASE_ALL p).wid (s.get (.TCH_P_CNT1_RELEASE_ALL p)) 1
      ∧ t.lastLog = some (0x0602, [p.val, 4])
      ∧ Keeps [.cmd, .fab, .touch, .sco] (only (Reg.TCH_P_CTRL p :: touchRegs p ++ answerRegs)) s t)

/-- The update commands begin, program, activate and abort an update of the other slot. UPDATE_BEGIN with a sealed header in range, no update open and no trial running, opens an update of the other slot for its session and logs it; a bad seal is CHECK, and an update already receiving BUSY. UPDATE_DATA of the owner at the next offset programs its bytes into the target slot and moves the offset on; at another offset it is RANGE, without an update STATE. UPDATE_ACTIVATE without an update is STATE; of a slot that does not verify AUTH; of one that verifies, by another session, before the whole package has come, or once more, STATE, and for another node or an unsuitable image RANGE; else it writes the pointer with a trial of the target, and Flags bit 0 sets a reset for 100 ms later. UPDATE_ABORT of an update in progress ends it with OK, of an activated one writes the pointer back to the running slot, with no reset to come, and without one is STATE. Rests on: 14_startup.md R392, 14_startup.md R401, 14_startup.md R402, 14_startup.md R403, 12_commands.md R345, 00_scope.md R7. -/
def Obligations.UpdateCommandsProgramTheOtherSlot : Prop :=
  (∀ (f : InFrame) (rest : List InFrame) (s : State), s.up → s.logRoom → s.cmd.fifo = f :: rest → s.admits 0x40 f = true →
    packageSeal (framePayload f) = true → packageRange (framePayload f) = true → (framePayload f).length = 16 → s.updState = upIdle →
    (s.pointer.any fun p => p.2.trial) = false → Gives .updateBegin s fun t =>
    Answered f rest stOK [] t ∧ t.updState = upReceiving ∧ t.get .BKR_UPD_STATUS_TARGET = (1 - s.runSlot) % 2
      ∧ t.get .BKR_UPD_STATUS_SESSION = frameNum f.bytes 2 2 ∧ t.get .BKR_UPD_NEXT_OFFSET = 0 ∧ t.get .BKR_UPD_STATUS_CODE = stOK
      ∧ t.boot = { s.boot with update := some ⟨packageL1 (framePayload f), packageL2 (framePayload f), frameNum f.bytes 2 2⟩ }
      ∧ t.lastLog = some (0x0108, [1, 1 - s.runSlot])
      ∧ Keeps [.cmd, .fab, .boot, .sco] (only ([Reg.BKR_UPD_STATUS, Reg.BKR_UPD_NEXT] ++ answerRegs)) s t) ∧
  (∀ (f : InFrame) (rest : List InFrame) (s : State), s.up → s.cmd.fifo = f :: rest → s.admits 0x40 f = true → packageSeal (framePayload f) = false →
    Gives .updateBegin s fun t => Answered f rest stCHECK [] t ∧ t.get .BKR_UPD_STATUS_CODE = stCHECK
      ∧ Keeps [.cmd, .fab] (only (Reg.BKR_UPD_STATUS :: answerRegs)) s t) ∧
  (∀ (f : InFrame) (rest : List InFrame) (s : State), s.up → s.cmd.fifo = f :: rest → s.admits 0x40 f = true → packageSeal (framePayload f) = true →
    packageRange (framePayload f) = true → (framePayload f).length = 16 → s.updState = upReceiving → Gives .updateBegin s fun t =>
    Answered f rest stBUSY [] t ∧ t.boot = s.boot ∧ t.updState = upReceiving ∧ Keeps [.cmd, .fab] (only (Reg.BKR_UPD_STATUS :: answerRegs)) s t) ∧
  (∀ (f : InFrame) (rest : List InFrame) (fl : FlashIn) (s : State), s.up → s.cmd.fifo = f :: rest → s.admits 0x41 f = true →
    (s.boot.update = none ∨ s.updState ≠ upReceiving ∨ s.updOwned (frameNum f.bytes 2 2) = false) → Gives (.updateData fl) s fun t =>
    Answered f rest stSTATE [] t ∧ t.flash = s.flash ∧ Keeps [.cmd, .fab] (only (Reg.BKR_UPD_STATUS :: answerRegs)) s t) ∧
  (∀ (f : InFrame) (rest : List InFrame) (fl : FlashIn) (u : UpdateSt) (s : State), s.up → s.cmd.fifo = f :: rest → s.admits 0x41 f = true →
    s.boot.update = some u → s.updState = upReceiving → s.updOwned (frameNum f.bytes 2 2) = true → 8 ≤ (framePayload f).length →
    frameNum (framePayload f) 0 4 = s.get .BKR_UPD_NEXT_OFFSET → frameNum (framePayload f) 0 4 + ((framePayload f).length - 8) ≤ u.l1 + u.l2 →
    u.l1 + u.l2 < 2 ^ 32 → fl.badWrites = 0 → Gives (.updateData fl) s fun t => Answered f rest stOK [] t
      ∧ t.get .BKR_UPD_NEXT_OFFSET = s.get .BKR_UPD_NEXT_OFFSET + ((framePayload f).length - 8)
      ∧ t.flash = (s.programBody (s.get .BKR_UPD_STATUS_TARGET) u.l1 (frameNum (framePayload f) 0 4) ((framePayload f).drop 8)).flash
      ∧ Keeps [.cmd, .fab, .flash] (only ([Reg.BKR_UPD_STATUS, Reg.BKR_UPD_NEXT] ++ answerRegs)) s t) ∧
  (∀ (f : InFrame) (rest : List InFrame) (fl : FlashIn) (u : UpdateSt) (s : State), s.up → s.cmd.fifo = f :: rest → s.admits 0x41 f = true →
    s.boot.update = some u → s.updState = upReceiving → s.updOwned (frameNum f.bytes 2 2) = true →
    frameNum (framePayload f) 0 4 ≠ s.get .BKR_UPD_NEXT_OFFSET → Gives (.updateData fl) s fun t => Answered f rest stRANGE [] t ∧ t.flash = s.flash
      ∧ Keeps [.cmd, .fab] (only (Reg.BKR_UPD_STATUS :: answerRegs)) s t) ∧
  (∀ (f : InFrame) (rest : List InFrame) (fl : FlashIn) (s : State), s.up → s.cmd.fifo = f :: rest → s.admits 0x42 f = true →
    s.boot.update = none → Gives (.updateActivate fl) s fun t => Answered f rest stSTATE [] t
      ∧ Keeps [.cmd, .fab] (only (Reg.BKR_UPD_STATUS :: answerRegs)) s t) ∧
  (∀ (f : InFrame) (rest : List InFrame) (fl : FlashIn) (u : UpdateSt) (s : State), s.up → s.logRoom → s.cmd.fifo = f :: rest → s.admits 0x42 f = true →
    s.boot.update = some u → s.updState = upReceiving → s.updOwned (frameNum f.bytes 2 2) = true →
    s.verifySlot fl (s.get .BKR_UPD_STATUS_TARGET) = 1 → s.get .BKR_UPD_NEXT_OFFSET = u.l1 + u.l2 → s.slotSuits (s.get .BKR_UPD_STATUS_TARGET) = true →
    s.slotNode (s.get .BKR_UPD_STATUS_TARGET) = s.nodeId → (framePayload f).length = 4 → fl.badWrites = 0 → Gives (.updateActivate fl) s fun t =>
    Answered f rest stOK [] t ∧ t.updState = upActivated ∧ t.lastLog = some (0x0108, [2, s.get .BKR_UPD_STATUS_TARGET])
      ∧ (t.pointer.map fun p => (p.2.active, p.2.trial, p.2.tries, p.2.previous)) = some (s.get .BKR_UPD_STATUS_TARGET, true, 0, some s.runSlot)
      ∧ t.boot = { s.boot with
          resetAt := if leNat ((framePayload f).take 1) % 2 = 1 then some (s.extNow + 100000000#64) else none }
      ∧ t.slotErr (s.get .BKR_UPD_STATUS_TARGET) = 1 ∧ Keeps [.cmd, .fab, .boot, .flash, .sco] (only (Reg.BKR_UPD_STATUS :: Reg.BKR_BOOT_ERR :: answerRegs)) s t) ∧
  (∀ (f : InFrame) (rest : List InFrame) (fl : FlashIn) (s : State), s.up → s.logRoom → s.cmd.fifo = f :: rest → s.admits 0x43 f = true →
    s.updState = upReceiving → Gives (.updateAbort fl) s fun t => Answered f rest stOK [] t ∧ t.updState = upIdle
      ∧ t.boot = { s.boot with update := none, resetAt := none } ∧ t.lastLog = some (0x0108, [3, s.get .BKR_UPD_STATUS_TARGET]) ∧ t.flash = s.flash
      ∧ Keeps [.cmd, .fab, .boot, .sco] (only (Reg.BKR_UPD_STATUS :: answerRegs)) s t) ∧
  (∀ (f : InFrame) (rest : List InFrame) (fl : FlashIn) (s : State), s.up → s.cmd.fifo = f :: rest → s.admits 0x43 f = true →
    s.updState ≠ upReceiving → s.updState ≠ upActivated → Gives (.updateAbort fl) s fun t => Answered f rest stSTATE [] t
      ∧ Keeps [.cmd, .fab] (only (Reg.BKR_UPD_STATUS :: answerRegs)) s t) ∧
  (∀ (f : InFrame) (rest : List InFrame) (fl : FlashIn) (u : UpdateSt) (s : State), s.up → s.cmd.fifo = f :: rest → s.admits 0x42 f = true →
    s.boot.update = some u → s.updState = upReceiving → s.updOwned (frameNum f.bytes 2 2) = true →
    s.verifySlot fl (s.get .BKR_UPD_STATUS_TARGET) = 1 → s.get .BKR_UPD_NEXT_OFFSET ≠ u.l1 + u.l2 → Gives (.updateActivate fl) s fun t =>
    Answered f rest stSTATE [] t ∧ t.slotErr (s.get .BKR_UPD_STATUS_TARGET) = 1
      ∧ Keeps [.cmd, .fab] (only (Reg.BKR_UPD_STATUS :: Reg.BKR_BOOT_ERR :: answerRegs)) s t) ∧
  (∀ (f : InFrame) (rest : List InFrame) (fl : FlashIn) (u : UpdateSt) (s : State), s.up → s.cmd.fifo = f :: rest → s.admits 0x42 f = true →
    s.boot.update = some u → s.verifySlot fl (s.get .BKR_UPD_STATUS_TARGET) ≠ 1 → Gives (.updateActivate fl) s fun t =>
    Answered f rest stAUTH [] t ∧ t.slotErr (s.get .BKR_UPD_STATUS_TARGET) = s.verifySlot fl (s.get .BKR_UPD_STATUS_TARGET) % 16 ∧ t.updState = s.updState
      ∧ Keeps [.cmd, .fab] (only (Reg.BKR_UPD_STATUS :: Reg.BKR_BOOT_ERR :: answerRegs)) s t) ∧
  (∀ (f : InFrame) (rest : List InFrame) (fl : FlashIn) (u : UpdateSt) (s : State), s.up → s.cmd.fifo = f :: rest → s.admits 0x42 f = true →
    s.boot.update = some u → s.verifySlot fl (s.get .BKR_UPD_STATUS_TARGET) = 1 →
    (s.updState ≠ upReceiving ∨ s.updOwned (frameNum f.bytes 2 2) = false) → Gives (.updateActivate fl) s fun t =>
    Answered f rest stSTATE [] t ∧ t.updState = s.updState
      ∧ Keeps [.cmd, .fab] (only (Reg.BKR_UPD_STATUS :: Reg.BKR_BOOT_ERR :: answerRegs)) s t) ∧
  (∀ (f : InFrame) (rest : List InFrame) (fl : FlashIn) (u : UpdateSt) (s : State), s.up → s.cmd.fifo = f :: rest → s.admits 0x42 f = true →
    s.boot.update = some u → s.updState = upReceiving → s.updOwned (frameNum f.bytes 2 2) = true →
    s.verifySlot fl (s.get .BKR_UPD_STATUS_TARGET) = 1 → s.get .BKR_UPD_NEXT_OFFSET = u.l1 + u.l2 →
    (s.slotSuits (s.get .BKR_UPD_STATUS_TARGET) = false ∨ s.slotNode (s.get .BKR_UPD_STATUS_TARGET) ≠ s.nodeId) →
    Gives (.updateActivate fl) s fun t => Answered f rest stRANGE [] t ∧ t.updState = upReceiving
      ∧ Keeps [.cmd, .fab] (only (Reg.BKR_UPD_STATUS :: Reg.BKR_BOOT_ERR :: answerRegs)) s t) ∧
  (∀ (f : InFrame) (rest : List InFrame) (fl : FlashIn) (s : State), s.up → s.logRoom → s.cmd.fifo = f :: rest → s.admits 0x43 f = true →
    s.updState = upActivated → fl.badWrites = 0 → Gives (.updateAbort fl) s fun t => Answered f rest stOK [] t ∧ t.updState = upIdle
      ∧ (t.pointer.map fun p => (p.2.active, p.2.trial, p.2.tries, p.2.previous)) = some (s.runSlot, false, 0, none)
      ∧ t.boot = { s.boot with update := none, resetAt := none } ∧ t.lastLog = some (0x0108, [3, s.get .BKR_UPD_STATUS_TARGET])
      ∧ Keeps [.cmd, .fab, .boot, .flash, .sco] (only (Reg.BKR_UPD_STATUS :: answerRegs)) s t)

/-- The check-value units start, take their configuration, and feed bytes lowest first. START loads the initial value, clears the count and the alive flags, and leaves PREV. A configuration with a width of 8 to 32 is taken whole; one outside leaves the width and sets CFG_ERR. A byte written with the alive check off is fed to the register by width, polynomial and REFIN and counted; 16 and 32 bit writes feed their 2 or 4 bytes lowest first. At the alive position a byte equal to PREV sets REPEAT, with STEP one that is not the next sets GAP, and PREV becomes the byte. Rests on: 12_commands.md R352, 12_commands.md R353, 12_commands.md R354. -/
def Obligations.CheckUnitsComputeAsRegistered : Prop :=
  (∀ (u : Fin 4) (s : State), s.up → Gives (.chkStart u) s fun t => t.word (Reg.CHK_RUN u) = BitVec.ofNat 32 (s.chkInit u)
    ∧ t.word (Reg.CHK_COUNT u) = 0 ∧ t.on (.CHK_ALIVE_REPEAT u) = false ∧ t.on (.CHK_ALIVE_GAP u) = false
    ∧ t.get (.CHK_ALIVE_PREV u) = s.get (.CHK_ALIVE_PREV u) ∧ t.on (.CHK_ALIVE_PREV_VALID u) = s.on (.CHK_ALIVE_PREV_VALID u)
    ∧ Keeps [] (only [Reg.CHK_RUN u, Reg.CHK_COUNT u, Reg.CHK_ALIVE u]) s t) ∧
  (∀ (u : Fin 4) (w : Word) (s : State), s.up → 8 ≤ (Fld.CHK_CFG_WIDTH u).of w → (Fld.CHK_CFG_WIDTH u).of w ≤ 32 → (Fld.CHK_CFG_START u).of w = 0 →
    Gives (.chkCfgWrite u w) s fun t => t.chkW u = (Fld.CHK_CFG_WIDTH u).of w ∧ t.get (.CHK_CFG_REFIN u) = (Fld.CHK_CFG_REFIN u).of w
      ∧ t.get (.CHK_CFG_REFOUT u) = (Fld.CHK_CFG_REFOUT u).of w ∧ t.get (.CHK_CFG_ALIVE_EN u) = (Fld.CHK_CFG_ALIVE_EN u).of w
      ∧ t.get (.CHK_CFG_ALIVE_W u) = (Fld.CHK_CFG_ALIVE_W u).of w ∧ t.get (.CHK_CFG_STEP u) = (Fld.CHK_CFG_STEP u).of w
      ∧ t.get (.CHK_CFG_ALIVE_POS u) = (Fld.CHK_CFG_ALIVE_POS u).of w ∧ Keeps [] (only [Reg.CHK_CFG u]) s t) ∧
  (∀ (u : Fin 4) (w : Word) (s : State), s.up → ((Fld.CHK_CFG_WIDTH u).of w < 8 ∨ 32 < (Fld.CHK_CFG_WIDTH u).of w) → (Fld.CHK_CFG_START u).of w = 0 →
    Gives (.chkCfgWrite u w) s fun t => t.chkW u = s.chkW u ∧ t.on (.CHK_ALIVE_CFG_ERR u) = true
      ∧ Keeps [] (only [Reg.CHK_CFG u, Reg.CHK_ALIVE u]) s t) ∧
  (∀ (u : Fin 4) (w : Word) (s : State), s.up → 8 ≤ (Fld.CHK_CFG_WIDTH u).of w → (Fld.CHK_CFG_WIDTH u).of w ≤ 32 → (Fld.CHK_CFG_START u).of w = 1 →
    Gives (.chkCfgWrite u w) s fun t => t.word (Reg.CHK_RUN u) = BitVec.ofNat 32 ((s.word (Reg.CHK_INIT u)).toNat % 2 ^ (Fld.CHK_CFG_WIDTH u).of w)
      ∧ t.word (Reg.CHK_COUNT u) = 0 ∧ t.chkW u = (Fld.CHK_CFG_WIDTH u).of w
      ∧ Keeps [] (only [Reg.CHK_CFG u, Reg.CHK_RUN u, Reg.CHK_COUNT u, Reg.CHK_ALIVE u]) s t) ∧
  (∀ (u : Fin 4) (w : Word) (s : State), s.up → s.on (.CHK_CFG_ALIVE_EN u) = false → Gives (.chkData8 u w) s fun t =>
    t.word (Reg.CHK_RUN u) = BitVec.ofNat 32 (chkByte (s.chkW u) (s.chkPoly u) (s.on (.CHK_CFG_REFIN u))
        ((s.word (Reg.CHK_RUN u)).toNat % 2 ^ s.chkW u) (w.toNat % 256))
      ∧ t.word (Reg.CHK_COUNT u) = s.word (Reg.CHK_COUNT u) + 1 ∧ Keeps [] (only [Reg.CHK_RUN u, Reg.CHK_COUNT u]) s t) ∧
  (∀ (u : Fin 4) (w : Word) (s : State), s.up → s.on (.CHK_CFG_ALIVE_EN u) = true → (s.word (Reg.CHK_COUNT u)).toNat = s.get (.CHK_CFG_ALIVE_POS u) →
    s.on (.CHK_CFG_ALIVE_W u) = true → Gives (.chkData8 u w) s fun t =>
    t.get (.CHK_ALIVE_PREV u) = w.toNat % 256 ∧ t.on (.CHK_ALIVE_PREV_VALID u) = true
      ∧ t.on (.CHK_ALIVE_REPEAT u) = (s.on (.CHK_ALIVE_REPEAT u) || (s.on (.CHK_ALIVE_PREV_VALID u) && w.toNat % 256 == s.get (.CHK_ALIVE_PREV u)))
      ∧ t.on (.CHK_ALIVE_GAP u) = (s.on (.CHK_ALIVE_GAP u) || (s.on (.CHK_ALIVE_PREV_VALID u) && s.on (.CHK_CFG_STEP u)
          && w.toNat % 256 != s.get (.CHK_ALIVE_PREV u) && w.toNat % 256 != (s.get (.CHK_ALIVE_PREV u) + 1) % 256))
      ∧ Keeps [] (only [Reg.CHK_RUN u, Reg.CHK_COUNT u, Reg.CHK_ALIVE u]) s t) ∧
  (∀ (u : Fin 4) (w : Word) (s : State), s.up → Gives (.chkData16 u w) s fun t =>
    t = (s.quiet.chkFeed u (w.setWidth 8)).chkFeed u ((w >>> 8).setWidth 8) ∧ t.word (Reg.CHK_COUNT u) = s.word (Reg.CHK_COUNT u) + 2
      ∧ Keeps [] (only [Reg.CHK_RUN u, Reg.CHK_COUNT u, Reg.CHK_ALIVE u]) s t) ∧
  (∀ (u : Fin 4) (w : Word) (s : State), s.up → Gives (.chkData32 u w) s fun t =>
    t = (((s.quiet.chkFeed u (w.setWidth 8)).chkFeed u ((w >>> 8).setWidth 8)).chkFeed u ((w >>> 16).setWidth 8)).chkFeed u ((w >>> 24).setWidth 8)
      ∧ t.word (Reg.CHK_COUNT u) = s.word (Reg.CHK_COUNT u) + 4
      ∧ Keeps [] (only [Reg.CHK_RUN u, Reg.CHK_COUNT u, Reg.CHK_ALIVE u]) s t)

/-- A transfer's pieces reach their target only when every check passes, and the matrix's own registers obey their rules. With no transfer held, a transfer of one piece that passes the checks to Banker SRAM or the Scorer mailbox writes its bytes there, or reads them, and is answered without error. One whose piece fails a check reads as zeros or is dropped, is answered with an error, writes no register, and is reported to the Scorer once. MTX_CTRL.REMAP takes a 1 and ignores a 0. Priorities are taken only with ARB_MODE 1, a 0 as 1, and those of M1 and M2 stay 0. A region's base is taken only before LOCK, with the region off, and not for M1; LOCK takes a 1 and keeps it. A read of DRAM whose sub-channel does not answer yet is held, unanswered. That the transfer waits with the read it needs is the model's choice (log 37). Rests on: 13_platform.md R361, 13_platform.md R362, 13_platform.md R364, 13_platform.md R365, 13_platform.md R366, 13_platform.md R368, 13_platform.md R372, 13_platform.md R373, 13_platform.md R375, 15_faults.md R431. -/
def Obligations.MatrixPiecesAreCheckedAndAnswered : Prop :=
  (∀ (x : Transfer) (t0 : Word) (f : FlashIn) (s : State), s.up → s.mem.stalled = [] → x.kind = .write → 0 < x.bytes.length → x.addr.toNat % 64 + x.bytes.length ≤ 64 →
    s.target x.addr.toNat = some tgSram → (connected x.master).contains tgSram = true → s.checkPiece x.master x.user .write x.addr.toNat = 0 →
    Gives (.matrixTransfer [x] t0 f) s fun t => t.plat.sram = writeBytes 0 s.plat.sram (x.addr.toNat - 0x1000000) x.bytes
      ∧ t.out = [.transfer x.master [] false] ∧ t.plat = { s.plat with sram := t.plat.sram, parked := t.plat.parked }
      ∧ t.time = { s.time with now := t0 } ∧ Keeps [.plat, .time] (only []) s t) ∧
  (∀ (x : Transfer) (t0 : Word) (f : FlashIn) (s : State), s.up → s.mem.stalled = [] → x.kind = .read → 0 < x.len → x.addr.toNat % 64 + x.len ≤ 64 →
    s.target x.addr.toNat = some tgMbox → (connected x.master).contains tgMbox = true → s.checkPiece x.master x.user .read x.addr.toNat = 0 →
    Gives (.matrixTransfer [x] t0 f) s fun t => t.out = [.transfer x.master (readBytes 0 s.plat.mbox (x.addr.toNat - 0x2000000) x.len) false]
      ∧ t.plat = { s.plat with parked := t.plat.parked } ∧ Keeps [.plat, .time] (only []) s t) ∧
  (∀ (x : Transfer) (t0 : Word) (f : FlashIn) (s : State), s.up → s.mem.stalled = [] → s.logRoom → x.kind ≠ .write → 0 < x.len → x.addr.toNat % 64 + x.len ≤ 64 →
    s.checkPiece x.master x.user x.kind x.addr.toNat ≠ 0 → Tab.find s.plat.viol x.master = none → Gives (.matrixTransfer [x] t0 f) s fun t =>
    t.out = [.transfer x.master (List.replicate x.len 0) true] ∧ t.plat.sram = s.plat.sram ∧ t.plat.mbox = s.plat.mbox
      ∧ t.lastLog.map (·.1) = some 0x0801
      ∧ t.lastLog.map (fun l => l.2.drop 5) = some [x.master.val, Access_code x.kind + 4 * b2n (!privileged x.master x.user)
          + 8 * s.checkPiece x.master x.user x.kind x.addr.toNat, 0]
      ∧ MemoryFrame s t ∧ Keeps [.plat, .time, .sco, .dealer] (only []) s t) ∧
  (∀ (x : Transfer) (t0 : Word) (f : FlashIn) (s : State), s.up → s.mem.stalled = [] → s.logRoom → x.kind = .write → 0 < x.bytes.length → x.addr.toNat % 64 + x.bytes.length ≤ 64 →
    s.checkPiece x.master x.user .write x.addr.toNat ≠ 0 → Gives (.matrixTransfer [x] t0 f) s fun t =>
    t.out = [.transfer x.master [] true] ∧ t.plat.sram = s.plat.sram ∧ t.plat.mbox = s.plat.mbox
      ∧ MemoryFrame s t ∧ Keeps [.plat, .time, .sco, .dealer] (only []) s t) ∧
  (∀ s : State, s.up → Gives (.mtxRemapWrite true) s fun t => t.on .MTX_CTRL_REMAP = true ∧ Keeps [] (only [Reg.MTX_CTRL]) s t) ∧
  (∀ s : State, s.up → exec (.mtxRemapWrite false) s = .next s.quiet) ∧
  (∀ (p : Fin 9) (hi : Bool) (w : Word) (s : State), s.up → s.on .MTX_CTRL_ARB_MODE = false → exec (.mtxPriWrite p hi w) s = .next s.quiet) ∧
  (∀ (p : Fin 9) (w : Word) (s : State), s.up → s.on .MTX_CTRL_ARB_MODE = true → Gives (.mtxPriWrite p false w) s fun t =>
    (∀ m : Fin 8, (t.word (Reg.MTX_PRI_LO p)).toNat / 16 ^ m.val % 16
        = if m = 1 ∨ m = 2 then 0 else max 1 (w.toNat / 16 ^ m.val % 16)) ∧ Keeps [] (only [Reg.MTX_PRI_LO p]) s t) ∧
  (∀ (p : Fin 9) (w : Word) (s : State), s.up → s.on .MTX_CTRL_ARB_MODE = true → Gives (.mtxPriWrite p true w) s fun t =>
    (∀ m : Fin 3, (t.word (Reg.MTX_PRI_HI p)).toNat / 16 ^ m.val % 16 = max 1 (w.toNat / 16 ^ m.val % 16))
      ∧ Keeps [] (only [Reg.MTX_PRI_HI p]) s t) ∧
  (∀ (m : Fin 11) (r : Fin 16) (w : Word) (s : State), s.up → (s.mpuLocked = true ∨ m = 1 ∨ s.on (.MPU_RGN_CTL_ON m r) = true) →
    exec (.mpuRgnBaseWrite m r w) s = .next s.quiet) ∧
  (∀ (m : Fin 11) (r : Fin 16) (w : Word) (s : State), s.up → s.mpuLocked = false → m ≠ 1 → s.on (.MPU_RGN_CTL_ON m r) = false →
    Gives (.mpuRgnBaseWrite m r w) s fun t => t.get (.MPU_RGN_BASE_BASE m r) = w.toNat % 2 ^ (Fld.MPU_RGN_BASE_BASE m r).wid
      ∧ Keeps [] (only [Reg.MPU_RGN_BASE m r]) s t) ∧
  (∀ s : State, s.up → Gives (.mpuLock true) s fun t => t.mpuLocked = true ∧ Keeps [] (only [Reg.MPU_GLOBAL]) s t) ∧
  (∀ s : State, s.up → exec (.mpuLock false) s = .next s.quiet) ∧
  (∀ (x : Transfer) (t0 : Word) (f : FlashIn) (u b : Nat) (s : State), s.up → s.mem.stalled = [] → x.kind = .read → 0 < x.len →
    x.addr.toNat % 64 + x.len ≤ 64 → s.target x.addr.toNat = some tgDram → s.checkPiece x.master x.user .read x.addr.toNat = 0 →
    s.memMap x.addr.toNat = some (u, b) → s.subIssues u = false → Gives (.matrixTransfer [x] t0 f) s fun t =>
    t.out = [] ∧ t.mem = { s.mem with stalled := [startFlight f none x] } ∧ t.time = { s.time with now := t0 } ∧ Keeps [.mem, .time] (only []) s t)

/-- A register write acts by the types of the fields, and a read clears RC fields except for the debug port. Outside the platform's, the Scorer's and the log's blocks, a write of a register without a rule of its own takes its RW bits, its LK bits while they are open, clears the W1C bits written 1, and leaves every other register; its SH bits become the pending value, or are dropped and counted while a commit is pending. Once the image is in force a register without RW, W1C and SH bits keeps its word. A write of a Dealer register other than the first tick then changes exactly its RW bits and clears the W1C bits written 1. A write of the Scorer's and log blocks by any master, and of the platform blocks by a master that may not write them, changes nothing but the time. A read by the debug port clears nothing; by another master it clears the register's RC bits alone, where it is none of those whose read acts; and in five blocks it gives the pending value of SH bits, 0 for WO bits and the stored word else. A block interrupts the Banker exactly while a status bit is set whose enable bit is 1. Rests on: 00_scope.md R12, 00_scope.md R13, 03_composition.md R123, 13_platform.md R366, 13_platform.md R369, 13_platform.md R381, 13_platform.md R384, 14_startup.md R394, 14_startup.md R398. -/
def Obligations.RegistersTakeWritesByTheirTypes : Prop :=
  (∀ (a : BitVec 40) (w : Word) (m : Fin 11) (v : Bool) (t0 : Word) (f : FlashIn) (s : State), s.up → a.toNat / 0x10000 = 0x1004 → a.toNat ≠ Reg.DLR_TICK_FIRST →
    s.boot.imageOk = true → Gives (.registerWrite a w m v t0 f) s fun t =>
    t.word a.toNat = ((s.word a.toNat &&& ~~~tyMask (· == .rw) a.toNat) ||| (w &&& tyMask (· == .rw) a.toNat)) &&& ~~~(tyMask (· == .w1c) a.toNat &&& w)
      ∧ t.time = { s.time with now := t0 } ∧ Keeps [.time] (only [a.toNat]) s t) ∧
  (∀ (a : BitVec 40) (w : Word) (m : Fin 11) (v : Bool) (t0 : Word) (f : FlashIn) (s : State), s.up →
    (a.toNat / 0x10000 = 0x100E ∨ a.toNat / 0x10000 = 0x100F) → Gives (.registerWrite a w m v t0 f) s fun t =>
    t.time = { s.time with now := t0 } ∧ Keeps [.time] (only []) s t) ∧
  (∀ (a : BitVec 40) (w : Word) (m : Fin 11) (v : Bool) (t0 : Word) (f : FlashIn) (s : State), s.up → 0x10000000 ≤ a.toNat → a.toNat < 0x10040000 →
    ((m = 0 ∧ v = true) ∨ (m ≠ 0 ∧ m ≠ 9) ∨ (m = 9 ∧ s.lifecycle ≠ lcBlank ∧ s.lifecycle ≠ lcLab)) → Gives (.registerWrite a w m v t0 f) s fun t =>
    t.time = { s.time with now := t0 } ∧ Keeps [.time] (only []) s t) ∧
  (∀ (a : BitVec 40) (s : State), s.up → a.toNat / 0x10000 = 0x1004 → Gives (.registerReadClear a 9) s fun t =>
    t.out = [.read a.toNat (s.readReg 9 a.toNat)] ∧ Keeps [] (only []) s t) ∧
  (∀ (a : BitVec 40) (m : Fin 11) (s : State), s.up → a.toNat / 0x10000 = 0x1004 → m ≠ 9 → Gives (.registerReadClear a m) s fun t =>
    t.out = [.read a.toNat (s.readReg m a.toNat)] ∧ t.word a.toNat = s.word a.toNat &&& ~~~tyMask (· == .rc) a.toNat
      ∧ Keeps [] (only [a.toNat]) s t) ∧
  (∀ (e : Nat × Nat) (s : State), e ∈ [(Reg.DLR_INT_STATUS, Reg.DLR_INT_EN), (Reg.CMP_LV_INT_STATUS, Reg.CMP_LV_INT_EN),
      (Reg.CMP_INT_STATUS, Reg.CMP_INT_EN), (Reg.OUT_INT_STATUS, Reg.OUT_INT_EN), (Reg.CAP_INT_STATUS, Reg.CAP_INT_EN),
      (Reg.DEC_INT_STATUS, Reg.DEC_INT_EN), (Reg.ENC_INT_STATUS, Reg.ENC_INT_EN), (Reg.FAB_INT_STATUS, Reg.FAB_INT_EN),
      (Reg.MEM_INT_STATUS, Reg.MEM_INT_EN), (Reg.TIM_INT_STATUS, Reg.TIM_INT_EN), (Reg.TCH_INT_STATUS, Reg.TCH_INT_EN),
      (Reg.AUD_INT_STATUS, Reg.AUD_INT_EN)] → (e.1 ∈ s.bankerIrqs ↔ s.word e.1 &&& s.word e.2 ≠ 0)) ∧
  (∀ (a : BitVec 40) (w : Word) (m : Fin 11) (v : Bool) (t0 : Word) (f : FlashIn) (s : State), s.up → s.plainReg a.toNat = true → shMask a.toNat = 0 →
    Gives (.registerWrite a w m v t0 f) s fun t => t.word a.toNat = wroteTyped (s.lkOpen a.toNat) a.toNat (s.word a.toNat) w
      ∧ t.time = { s.time with now := t0 } ∧ Keeps [.time] (only [a.toNat]) s t) ∧
  (∀ (a : BitVec 40) (w : Word) (m : Fin 11) (v : Bool) (t0 : Word) (f : FlashIn) (s : State), s.up → s.plainReg a.toNat = true → shMask a.toNat ≠ 0 → s.on .CMP_COMMIT_PENDING = false →
    Gives (.registerWrite a w m v t0 f) s fun t => t.word a.toNat = wroteTyped (s.lkOpen a.toNat) a.toNat (s.word a.toNat) w
      ∧ t.pendWord a.toNat &&& shMask a.toNat = w &&& shMask a.toNat
      ∧ (∀ b, b ≠ a.toNat → Tab.find t.pend b = Tab.find s.pend b) ∧ Keeps [.time, .pend] (only [a.toNat]) s t) ∧
  (∀ (a : BitVec 40) (w : Word) (m : Fin 11) (v : Bool) (t0 : Word) (f : FlashIn) (s : State), s.up → s.plainReg a.toNat = true → shMask a.toNat ≠ 0 → s.on .CMP_COMMIT_PENDING = true →
    (Fld.CMP_COMMIT_STATUS_WR_DROP).addr ≠ a.toNat → Gives (.registerWrite a w m v t0 f) s fun t =>
      t.word a.toNat = wroteTyped (s.lkOpen a.toNat) a.toNat (s.word a.toNat) w
      ∧ t.get .CMP_COMMIT_STATUS_WR_DROP = satAdd (Fld.CMP_COMMIT_STATUS_WR_DROP).wid (s.get .CMP_COMMIT_STATUS_WR_DROP) 1
      ∧ t.pend = s.pend ∧ Keeps [.time] (only [a.toNat, (Fld.CMP_COMMIT_STATUS_WR_DROP).addr]) s t) ∧
  (∀ (a : BitVec 40) (w : Word) (v : Bool) (t0 : Word) (f : FlashIn) (s : State), s.up → s.boot.imageOk = true → s.plainReg a.toNat = true →
    shMask a.toNat = 0 → s.boot.memSet = true →
    (∀ c, regIdx (Reg.TIM_TRG_CFG 0) 4 256 a.toNat ≠ some c) → tyMask (fun t => t == .rw || t == .w1c) a.toNat = 0 →
    Gives (.registerWrite a w 0 v t0 f) s fun t => t.word a.toNat = s.word a.toNat ∧ Keeps [.time] (only []) s t) ∧
  (∀ (a : BitVec 40) (m : Fin 11) (s : State), s.up → m ≠ 9 → a.toNat ≠ Reg.TIM_NOW_LO → a.toNat ≠ Reg.FAB_RX_ARG1 →
    regIdx (Reg.TIM_NP_TXTS_ID 0) 0x100 3 a.toNat = none → a.toNat / 0x10000 ≠ 0x1009 → Gives (.registerReadClear a m) s fun t =>
    t.out = [.read a.toNat (s.readReg m a.toNat)] ∧ t.word a.toNat = s.word a.toNat &&& ~~~tyMask (· == .rc) a.toNat
      ∧ Keeps [] (only [a.toNat]) s t) ∧
  (∀ (a : BitVec 40) (s : State), s.up → a.toNat ≠ Reg.TIM_NOW_LO → a.toNat ≠ Reg.FAB_RX_ARG1 →
    regIdx (Reg.TIM_NP_TXTS_ID 0) 0x100 3 a.toNat = none → Gives (.registerReadClear a 9) s fun t =>
    t.out = [.read a.toNat (s.readReg 9 a.toNat)] ∧ Keeps [] (only []) s t) ∧
  (∀ (a m : Nat) (s : State), a / 0x10000 ∈ [0x1000, 0x1001, 0x1004, 0x1007, 0x2001] →
    s.readReg m a = ((s.word a &&& ~~~shMask a) ||| (s.pendWord a &&& shMask a)) &&& ~~~tyMask (· == .wo) a)

/-- A fuse request is answered by the table and its order of checks, and a completed one only sets the bits requested. A request by a master the table does not allow is AUTH, in a lifecycle it does not allow STATE, for a word outside the table RANGE; a lifecycle advance out of BLANK with a zero key hash is STATE, an anti-rollback bit that is not the lowest unset one, or any once the count is 64, RANGE, and one while another is in progress BUSY; each is logged and changes nothing else. An accepted request is recorded with its data and shows BUSY. When it completes, the word's cells are the old ones with the requested bits set, PENDING shows where a cell is new, BUSY clears, and it is logged; no other word changes. Rests on: 13_platform.md R376, 13_platform.md R377, 13_platform.md R378, 13_platform.md R379, 15_faults.md R431, 00_scope.md R7. -/
def Obligations.FusesAreProgrammedByTheirTable : Prop :=
  (∀ (m : Fin 11) (w : Fin 64) (s : State), s.up → s.fuseAnswer m w (s.word Reg.FUS_PROG_DATA) = stOK → Gives (.fusProgGo m w) s fun t =>
    t.plat = { s.plat with prog := some (w.val, s.word Reg.FUS_PROG_DATA) } ∧ t.on .FUS_PROG_STATUS_BUSY = true
      ∧ t.get .FUS_PROG_STATUS_CODE = stOK ∧ t.get .FUS_PROG_CTRL_WORD = w
      ∧ Keeps [.plat] (only [Reg.FUS_PROG_CTRL, Reg.FUS_PROG_STATUS]) s t) ∧
  (∀ (m : Fin 11) (w : Fin 64) (s : State), s.up → s.logRoom → fuseGroup w = none → Gives (.fusProgGo m w) s fun t =>
    t.get .FUS_PROG_STATUS_CODE = stRANGE ∧ t.lastLog = some (0x0803, [w.val, stRANGE])
      ∧ Keeps [.sco] (only [Reg.FUS_PROG_CTRL, Reg.FUS_PROG_STATUS]) s t) ∧
  (∀ (m : Fin 11) (w : Fin 64) (lcs ms : List Nat) (s : State), s.up → s.logRoom → fuseGroup w = some (lcs, ms) → ms.contains m.val = false →
    Gives (.fusProgGo m w) s fun t => t.get .FUS_PROG_STATUS_CODE = stAUTH ∧ t.lastLog = some (0x0803, [w.val, stAUTH])
      ∧ Keeps [.sco] (only [Reg.FUS_PROG_CTRL, Reg.FUS_PROG_STATUS]) s t) ∧
  (∀ (m : Fin 11) (w : Fin 64) (lcs ms : List Nat) (s : State), s.up → s.logRoom → fuseGroup w = some (lcs, ms) → ms.contains m.val = true →
    lcs.contains s.lifecycle = false → Gives (.fusProgGo m w) s fun t =>
    t.get .FUS_PROG_STATUS_CODE = stSTATE ∧ t.lastLog = some (0x0803, [w.val, stSTATE])
      ∧ Keeps [.sco] (only [Reg.FUS_PROG_CTRL, Reg.FUS_PROG_STATUS]) s t) ∧
  (∀ s : State, s.up → s.plat.prog = none → exec .fuseProgramDone s = .next s.quiet) ∧
  (∀ (w : Nat) (v : Word) (s : State), s.up → s.logRoom → s.plat.prog = some (w, v) →
    (s.on .BKR_BOOT_TRIAL = true ∨ s.firmware = false ∨ s.get .BKR_BOOT_SV = 0) → Gives .fuseProgramDone s fun t =>
    t.cell w = s.cell w ||| v ∧ (∀ k, k ≠ w → t.cell k = s.cell k) ∧ t.plat = { s.plat with fuses := t.plat.fuses, fusesB := t.plat.fusesB, prog := none }
      ∧ t.on .FUS_PROG_STATUS_BUSY = false ∧ t.on .FUS_LIFECYCLE_PENDING = (s.on .FUS_LIFECYCLE_PENDING || decide (s.cell w ||| v ≠ s.cell w))
      ∧ t.lastLog = some (0x0803, [w % 256, stOK]) ∧ Keeps [.plat, .sco] (only [Reg.FUS_PROG_STATUS, Reg.FUS_LIFECYCLE]) s t) ∧
  (∀ (w : Nat) (v : Word) (s : State), s.up → s.plat.prog = some (w, v) → Gives .fuseProgramDone s fun t =>
    t.cell w = s.cell w ||| v ∧ (∀ k, k ≠ w → t.cell k = s.cell k)
      ∧ Keeps [.plat, .sco] (only [Reg.FUS_PROG_STATUS, Reg.FUS_LIFECYCLE, Reg.FUS_PROG_CTRL, Reg.FUS_PROG_DATA, Reg.LOG_DROP]) s t) ∧
  (∀ (m : Fin 11) (w : Fin 64) (lcs ms : List Nat) (s : State), s.up → s.logRoom → fuseGroup w = some (lcs, ms) → ms.contains m.val = true →
    lcs.contains s.lifecycle = true → w.val = 0 → (s.word Reg.FUS_PROG_DATA).toNat % 8 ≠ 0 → s.lifecycle = lcBlank →
    (∀ k, k < 8 → s.cell (8 + k) = 0) → Gives (.fusProgGo m w) s fun t => t.get .FUS_PROG_STATUS_CODE = stSTATE ∧ t.lastLog = some (0x0803, [w.val, stSTATE])
      ∧ t.plat = s.plat ∧ Keeps [.sco] (only [Reg.FUS_PROG_CTRL, Reg.FUS_PROG_STATUS]) s t) ∧
  (∀ (m : Fin 11) (w : Fin 64) (lcs ms : List Nat) (s : State), s.up → s.logRoom → fuseGroup w = some (lcs, ms) → ms.contains m.val = true →
    lcs.contains s.lifecycle = true → (w.val = 3 ∨ w.val = 4) →
    (64 ≤ s.rollbackCells ∨ (s.word Reg.FUS_PROG_DATA ≠ 0 ∧
      (s.rollbackCells / 32 ≠ w.val - 3 ∨ (s.word Reg.FUS_PROG_DATA).toNat ≠ 2 ^ (s.rollbackCells % 32)))) → Gives (.fusProgGo m w) s fun t => t.get .FUS_PROG_STATUS_CODE = stRANGE ∧ t.lastLog = some (0x0803, [w.val, stRANGE])
      ∧ t.plat = s.plat ∧ Keeps [.sco] (only [Reg.FUS_PROG_CTRL, Reg.FUS_PROG_STATUS]) s t) ∧
  (∀ (m : Fin 11) (w : Fin 64) (lcs ms : List Nat) (s : State), s.up → s.logRoom → fuseGroup w = some (lcs, ms) → ms.contains m.val = true →
    lcs.contains s.lifecycle = true → s.on .FUS_PROG_STATUS_BUSY = true →
    (w.val ≠ 0 ∨ (s.word Reg.FUS_PROG_DATA).toNat % 8 = 0 ∨ s.lifecycle ≠ lcBlank ∨ ∃ k < 8, s.cell (8 + k) ≠ 0) →
    s.rollbackBad w (s.word Reg.FUS_PROG_DATA) = false → Gives (.fusProgGo m w) s fun t => t.get .FUS_PROG_STATUS_CODE = stBUSY ∧ t.lastLog = some (0x0803, [w.val, stBUSY])
      ∧ t.plat = s.plat ∧ Keeps [.sco] (only [Reg.FUS_PROG_CTRL, Reg.FUS_PROG_STATUS]) s t) ∧
  (∀ (m : Fin 11) (w : Fin 64) (lcs ms : List Nat) (s : State), s.up → fuseGroup w = some (lcs, ms) → ms.contains m.val = true →
    lcs.contains s.lifecycle = true → s.on .FUS_PROG_STATUS_BUSY = false → w.val ≠ 0 → w.val ≠ 3 → w.val ≠ 4 → Gives (.fusProgGo m w) s fun t =>
      t.get .FUS_PROG_STATUS_CODE = stOK ∧ t.on .FUS_PROG_STATUS_BUSY = true ∧ t.plat.prog = some (w.val, s.word Reg.FUS_PROG_DATA))

/-- The JTAG instructions capture what they name, drive and halt only where the lifecycle allows, and bypass otherwise. IDCODE captures 0x15120987, DBG_STATUS its register, BYPASS 0; SAMPLE/PRELOAD captures the pins and takes the new value; EXTEST drives the preloaded value where the lifecycle allows and bypasses otherwise. A halt where allowed is recorded, shown and logged with result 0, one of the Banker abandoning an update in reception, and a resume that brings the Banker back hands it the frames that waited, elsewhere refused with result 1; one of the Scorer is refused with result 2 and folds. An unlock token is taken only in FIELD before three failures; one that fails is counted and logged and a new nonce drawn; one that passes unlocks its scope. A debug access in RETIRED is an error. That a Banker that is back takes the frames that waited at once is the model's choice (log 92). Rests on: 13_platform.md R380, 13_platform.md R381, 13_platform.md R382, 13_platform.md R383, 02_liveness.md R81, 15_faults.md R431, 13_platform.md R360, 01_architecture.md R37. -/
def Obligations.DebugPortAnswersByLifecycle : Prop :=
  (∀ s : State, Gives .idcode s fun t => t.out = [.jtag irIdcode 0x15120987] ∧ t.plat = { s.plat with ir := irIdcode, driven := false }
    ∧ Keeps [.plat] (only []) s t) ∧
  (∀ s : State, Gives .dbgStatus s fun t => t.out = [.jtag irStatus (s.word Reg.FUS_DBG_STATUS).toNat]
    ∧ t.plat = { s.plat with ir := irStatus, driven := false } ∧ Keeps [.plat] (only []) s t) ∧
  (∀ s : State, Gives .bypass s fun t => t.out = [.jtag irBypass 0] ∧ t.plat = { s.plat with ir := irBypass, driven := false }
    ∧ Keeps [.plat] (only []) s t) ∧
  (∀ (n k : Nat) (s : State), Gives (.samplePreload n k) s fun t => t.out = [.jtag irSample n]
    ∧ t.plat = { s.plat with ir := irSample, driven := false, preload := k } ∧ Keeps [.plat] (only []) s t) ∧
  (∀ (n k : Nat) (s : State), (s.lifecycle = lcBlank ∨ (s.lifecycle = lcLab ∧ s.labPolicy 2 = true)) → Gives (.extest n k) s fun t =>
    t.out = [.pins s.plat.preload, .jtag irExtest n, .pins k] ∧ t.plat = { s.plat with ir := irExtest, driven := true, preload := k }
      ∧ Keeps [.plat] (only []) s t) ∧
  (∀ (n k : Nat) (s : State), s.lifecycle ≠ lcBlank → (s.lifecycle ≠ lcLab ∨ s.labPolicy 2 = false) → Gives (.extest n k) s fun t =>
    t.out = [.jtag irBypass 0] ∧ t.plat = { s.plat with ir := irBypass, driven := false } ∧ Keeps [.plat] (only []) s t) ∧
  (∀ (p : Fin 16) (v : Bool) (s : State), s.up → s.logRoom → s.haltOk p = true → Gives (.dbgHalt p v) s fun t =>
    t.plat.halted.contains p.val = v ∧ (∀ q, q ≠ p.val → t.plat.halted.contains q = s.plat.halted.contains q)
      ∧ t.out.getLast? = some (.jtag irHalt (p.val + 16 * b2n v)) ∧ t.lastLog = some (0x0802, [if v then 1 else 2, p.val, 0])
      ∧ t.on .FUS_DBG_STATUS_BANKER_HALTED = t.plat.halted.any (· ≤ 3)
      ∧ (v = true ∨ s.bankerUp = true ∨ t.bankerUp = false → t.out.length = 1 ∧ t.nets = s.nets)
      ∧ (s.bankerUp = false → t.bankerUp = true → ∀ n, n < 3 → t.net n = { s.net n with ptpQ := [], genQ := [] })
      ∧ t.boot = (if v = true ∧ p.val ≤ 3 ∧ s.updState = upReceiving then { s.boot with update := none } else s.boot)
      ∧ t.updState = (if v = true ∧ p.val ≤ 3 ∧ s.updState = upReceiving then upIdle else s.updState)
      ∧ Keeps [.plat, .sco, .nets, .boot] (only [Reg.FUS_DBG_STATUS, Reg.TCH_STATUS, Reg.SCO_STATUS, Reg.BKR_UPD_STATUS]) s t) ∧
  (∀ (p : Fin 16) (v : Bool) (s : State), s.up → s.haltOk p = false → p ≠ 9 → (p ≠ 10 ∨ v = false) → Gives (.dbgHalt p v) s fun t =>
    t.out = [.jtag irHalt (p.val + 16 * b2n v + 32)] ∧ t.plat.halted = s.plat.halted ∧ Keeps [.plat] (only []) s t) ∧
  (∀ s : State, s.up → s.logRoom → Gives (.dbgHalt 10 true) s fun t => t.out = [.jtag irHalt (10 + 16 + 64)] ∧ t.sco.haltReq = true
    ∧ t.on .FUS_DBG_STATUS_SCORER_HALT_REQ = true ∧ t.plat.halted = s.plat.halted ∧ t.lastLog = some (0x0802, [5, 10, 2])
    ∧ Keeps [.plat, .sco] (only [Reg.FUS_DBG_STATUS]) s t) ∧
  (∀ (v : Bool) (s : State), s.up → s.logRoom → Gives (.dbgHalt 9 v) s fun t => t.out = [.jtag irHalt (9 + 16 * b2n v + 32)]
    ∧ t.lastLog = some (0x0802, [if v then 1 else 2, 9, 1]) ∧ t.plat.halted = s.plat.halted ∧ Keeps [.plat, .sco] (only []) s t) ∧
  (∀ (bs : List Byte) (s : State), s.up → s.lifecycle = lcField → s.get .FUS_DBG_STATUS_FAILS < 3 → bs.length = 160 → Gives (.dbgUnlock bs) s fun t =>
    t.plat = { s.plat with ir := irUnlock, driven := false, token := some bs } ∧ t.out = [.jtag irUnlock 0] ∧ Keeps [.plat] (only []) s t) ∧
  (∀ (bs : List Byte) (s : State), s.up → (s.lifecycle ≠ lcField ∨ 3 ≤ s.get .FUS_DBG_STATUS_FAILS) → Gives (.dbgUnlock bs) s fun t =>
    t.plat = { s.plat with ir := irBypass, driven := false } ∧ t.out = [.jtag irBypass 0] ∧ Keeps [.plat] (only []) s t) ∧
  (∀ s : State, s.scoring → s.plat.token = none → exec .unlockVerify s = .next s.quiet) ∧
  (∀ (bs : List Byte) (s : State), s.scoring → s.logRoom → s.plat.token = some bs → s.tokenOk bs = false → Gives .unlockVerify s fun t =>
    t.plat = { s.plat with token := none, nonce := t.plat.nonce } ∧ t.unlocked = s.unlocked ∧ t.get .FUS_DBG_STATUS_FAILS = min 3 (s.get .FUS_DBG_STATUS_FAILS + 1)
      ∧ t.lastLog = some (0x0802, [4, 0, 1])
      ∧ Keeps [.plat, .sco, .freeCtr] (only [Reg.FUS_DBG_STATUS, Reg.FUS_DBG_NONCE_LO, Reg.FUS_DBG_NONCE_HI]) s t) ∧
  (∀ (bs : List Byte) (s : State), s.scoring → s.logRoom → s.plat.token = some bs → s.tokenOk bs = true → Gives .unlockVerify s fun t =>
    t.plat = { s.plat with token := none, nonce := t.plat.nonce } ∧ t.unlocked = true ∧ t.get .FUS_DBG_STATUS_FAILS = s.get .FUS_DBG_STATUS_FAILS
      ∧ (∀ b : Fin 3, t.scope b = bitOf (leNat ((bs.drop 7).take 1)) b) ∧ t.lastLog = some (0x0802, [3, 0, 0])
      ∧ Keeps [.plat, .sco, .freeCtr] (only [Reg.FUS_DBG_STATUS, Reg.FUS_DBG_NONCE_LO, Reg.FUS_DBG_NONCE_HI]) s t) ∧
  (∀ (a : BitVec 40) (d : Word) (t0 : Word) (f : FlashIn) (s : State), s.up → s.mem.stalled = [] → s.lifecycle = lcBlank → s.target (a.toNat / 4 * 4) = some tgMbox →
    s.checkPiece 9 false .read (a.toNat / 4 * 4) = 0 → Gives (.dbgAccess a d false t0 f) s fun t =>
    t.out = [.jtag irAccess (a.toNat + 2 ^ 40 * leNat (readBytes 0 s.plat.mbox (a.toNat / 4 * 4 - 0x2000000) 4))]
      ∧ Keeps [.plat, .time] (only []) s t) ∧
  (∀ (a : BitVec 40) (d : Word) (v : Bool) (t0 : Word) (f : FlashIn) (s : State), s.up → s.logRoom → s.mem.stalled = [] → s.lifecycle = lcRetired →
    (v = true ∨ s.target (a.toNat / 4 * 4) ≠ some tgMram) → Gives (.dbgAccess a d v t0 f) s fun t =>
    t.out = [.jtag irAccess (a.toNat + 2 ^ 40 * (if v then d.toNat else 0) + 2 ^ 72 * b2n v + 2 ^ 73)]
      ∧ MemoryFrame s t ∧ Keeps [.plat, .time, .sco] (only []) s t)

/-- The Banker's watchdog, heartbeat and own reset reset it with their cause, and its release starts the firmware again. A kick restarts the Banker watchdog. SELF, a watchdog not kicked for its timeout, a heartbeat unchanged for 500 ms while its watch runs, and a Banker not up for 10 s, reset a Banker that is not in reset, or watched, with their cause: the cores stop, REMAP and the SRAM clear, every session closes, the mailbox is BUSY and not up, the reset is counted and logged, and the fuses, the MPUs and the memories stay. In the other cases nothing changes but the time. On release the warm path that verifies firmware and image starts the firmware from the running slot; one that fails leaves the cores halted, for good, and shows it; both show the result for the slot. A heartbeat that stands still in a halted Banker resets nothing. A reset also drops the Banker's frames that wait at the network ports, which is the model's reading (log 113). A watchdog or heartbeat that expires in the cycle of another Banker reset resets nothing again: the cause shown is the lower code. Rests on: 01_architecture.md R18, 13_platform.md R359, 13_platform.md R360, 14_startup.md R396, 01_architecture.md R37, 12_commands.md R343, 12_commands.md R350, 15_faults.md R431. -/
def Obligations.BankerIsWatchedResetAndReleased : Prop :=
  (∀ (w : Word) (s : State), s.up → Gives (.bkrWdtKick w) s fun t => t.time = { s.time with now := w } ∧ t.plat = { s.plat with wdtAt := t.extNow }
    ∧ Keeps [.time, .plat] (only []) s t) ∧
  (∀ (f : FlashIn) (s : State), s.up → s.get .BKR_STATUS_RUN = 0 → exec (.bkrResetSelf f) s = .next s.quiet) ∧
  (∀ (f : FlashIn) (s : State), s.up → s.logRoom → s.get .BKR_STATUS_RUN ≠ 0 → s.on .BKR_BOOT_TRIAL = false → Gives (.bkrResetSelf f) s fun t =>
    BankerReset bkSelf s t ∧ t.time = s.time) ∧
  (∀ (f : FlashIn) (w : Word) (s : State), s.up → s.logRoom → s.get .BKR_STATUS_RUN ≠ 0 → s.on .BKR_BOOT_TRIAL = false →
    s.get .BKR_WDT_TIMEOUT ≤ ((s.at_ w).extNow - s.plat.wdtAt).toNat / 1000000 → Gives (.bankerWatchdogTimeout f w) s fun t =>
    BankerReset bkWatchdog (s.at_ w) t) ∧
  (∀ (f : FlashIn) (w : Word) (s : State), s.up → ((s.get .BKR_STATUS_RUN = 0 ∧ s.plat.hit.map (·.1) ≠ some (s.at_ w).extNow)
      ∨ ((s.at_ w).extNow - s.plat.wdtAt).toNat / 1000000 < s.get .BKR_WDT_TIMEOUT) →
    Gives (.bankerWatchdogTimeout f w) s fun t => t.time = { s.time with now := w } ∧ Keeps [.time] (only []) s t) ∧
  (∀ (f : FlashIn) (w : Word) (s : State), s.scoring → s.logRoom → s.devState ≠ stRecovery → s.bankerUp = true → s.on .FUS_DBG_STATUS_BANKER_HALTED = false →
    500 ≤ (s.at_ w).watchAge → s.on .BKR_BOOT_TRIAL = false → Gives (.heartbeatTimeout f w) s fun t => BankerReset bkScorer (s.at_ w) t) ∧
  (∀ (f : FlashIn) (w : Word) (s : State), s.scoring → (((s.devState = stRecovery ∨ s.bankerUp = false)
      ∧ s.plat.hit ≠ some ((s.at_ w).extNow, true)) ∨ (s.at_ w).watchAge < 500) → Gives (.heartbeatTimeout f w) s fun t => t.time = { s.time with now := w } ∧ Keeps [.time] (only []) s t) ∧
  (∀ (f : FlashIn) (s : State), s.scoring → s.logRoom → s.devState ≠ stRecovery → s.bankerUp = false → s.on .FUS_DBG_STATUS_BANKER_HALTED = false →
    s.on .BKR_BOOT_TRIAL = false → Gives (.bankerUpTimeout f) s fun t => BankerReset bkScorer s t ∧ t.time = s.time) ∧
  (∀ (f : FlashIn) (s : State), s.scoring → (s.devState = stRecovery ∨ s.bankerUp = true ∨ s.on .FUS_DBG_STATUS_BANKER_HALTED = true) →
    exec (.bankerUpTimeout f) s = .next s.quiet) ∧
  (∀ (f : FlashIn) (w : Word) (s : State), s.up → s.devState ≠ stRecovery → s.get .BKR_STATUS_RUN = 0 → s.get .BKR_STATUS_CAUSE ≠ 0 →
    s.on .BKR_BOOT_WARM_FAIL = false → s.verifyParts f s.runSlot [1, 7] = 1 → Gives (.bankerResetRelease f w) s fun t => t.get .BKR_STATUS_RUN = 0xF ∧ t.slotErr s.runSlot = 1 ∧ t.on .MTX_CTRL_REMAP = true
      ∧ t.plat = { s.plat with sram := t.plat.sram, wdtAt := t.extNow, hbAt := t.extNow }
      ∧ readBytes 0 t.plat.sram 0 (s.partOf s.runSlot 1).length = s.partOf s.runSlot 1
      ∧ Keeps [.time, .plat] (only [Reg.BKR_STATUS, Reg.MTX_CTRL, Reg.BKR_BOOT_ERR]) s t) ∧
  (∀ (f : FlashIn) (w : Word) (s : State), s.up → s.devState ≠ stRecovery → s.get .BKR_STATUS_RUN = 0 → s.get .BKR_STATUS_CAUSE ≠ 0 →
    s.on .BKR_BOOT_WARM_FAIL = false → s.verifyParts f s.runSlot [1, 7] ≠ 1 → Gives (.bankerResetRelease f w) s fun t => t.on .BKR_BOOT_WARM_FAIL = true ∧ t.get .BKR_STATUS_RUN = 0
      ∧ t.slotErr s.runSlot = s.verifyParts f s.runSlot [1, 7] ∧ Keeps [.time] (only [Reg.BKR_BOOT, Reg.BKR_BOOT_ERR]) s t) ∧
  (∀ (f : FlashIn) (w : Word) (s : State), s.up → s.get .BKR_STATUS_RUN = 0 → s.plat.hit.map (·.1) = some (s.at_ w).extNow →
    s.get .BKR_WDT_TIMEOUT ≤ ((s.at_ w).extNow - s.plat.wdtAt).toNat / 1000000 → Gives (.bankerWatchdogTimeout f w) s fun t =>
    t.get .BKR_STATUS_CAUSE = min bkWatchdog (s.get .BKR_STATUS_CAUSE) ∧ t.get .BKR_STATUS_RESETS = s.get .BKR_STATUS_RESETS
      ∧ t.sco.queue.length = s.sco.queue.length ∧ t.time = { s.time with now := w } ∧ Keeps [.time, .sco] (only [Reg.BKR_STATUS]) s t) ∧
  (∀ (f : FlashIn) (w : Word) (s : State), s.scoring → s.bankerUp = false → s.plat.hit = some ((s.at_ w).extNow, true) →
    500 ≤ (s.at_ w).watchAge → Gives (.heartbeatTimeout f w) s fun t =>
    t.get .BKR_STATUS_CAUSE = min bkScorer (s.get .BKR_STATUS_CAUSE) ∧ t.get .BKR_STATUS_RESETS = s.get .BKR_STATUS_RESETS
      ∧ t.sco.queue.length = s.sco.queue.length ∧ t.time = { s.time with now := w } ∧ Keeps [.time, .sco] (only [Reg.BKR_STATUS]) s t) ∧
  (∀ (f : FlashIn) (w : Word) (s : State), s.up → (s.devState = stRecovery ∨ s.get .BKR_STATUS_RUN ≠ 0 ∨ s.get .BKR_STATUS_CAUSE = 0
      ∨ s.on .BKR_BOOT_WARM_FAIL = true) → Gives (.bankerResetRelease f w) s fun t => t.time = { s.time with now := w } ∧ Keeps [.time] (only []) s t) ∧
  (∀ (f : FlashIn) (w : Word) (s : State), s.up → s.on .FUS_DBG_STATUS_BANKER_HALTED = true → s.plat.hit = none →
    Gives (.heartbeatTimeout f w) s fun t => t.get .BKR_STATUS_RESETS = s.get .BKR_STATUS_RESETS ∧ t.get .BKR_STATUS_RUN = s.get .BKR_STATUS_RUN
      ∧ MemoryFrame s t)

/-- SAFE, the die temperature, the restart from SAFE, the hard-wired path and the log act as the fault rules say. With a cause reported in DEALING the device enters SAFE: the lowest cause is shown with time and tick, every output is blanked, tricks and commits are gone, FAULT_N is low. Eleven hot readings in a row report cause 6, a cooler one ends the run. RESTART_S, with fewer than three restarts and a die cool enough, resets the device; after 600 s of DEALING the count clears. A lockstep error or Scorer watchdog starts the hard-wired path, which blanks every output, latches its cause in the MRAM, lets no trigger start an audio group, and 100 ms later resets the device. Writing the log puts the oldest record at the next index of its area. That the lowest cause is shown and every output blanked, and that a die too hot for 100 ms is eleven readings, are the model's readings (logs 47, 43). Rests on: 15_faults.md R410, 15_faults.md R411, 15_faults.md R412, 15_faults.md R413, 15_faults.md R421, 15_faults.md R422, 15_faults.md R423, 15_faults.md R424, 15_faults.md R425, 15_faults.md R426, 15_faults.md R428, 15_faults.md R430. -/
def Obligations.SafeIsEnteredLeftAndLogged : Prop :=
  (∀ (k : Nat) (s : State), s.scoring → s.dealing = true → firstBelow (bitOf s.sco.safeReq) 6 = some k → Gives .safeEntry s fun t =>
    t.devState = stSafe ∧ t.on .SCO_STATUS_SAFE = true ∧ t.get .SCO_STATUS_SAFE_CAUSE = k + 1 ∧ t.word Reg.SCO_SAFE_TIME = s.time.now
      ∧ t.word Reg.SCO_SAFE_TICK = s.tick ∧ t.on .DLR_STATUS_DEALING = false ∧ (∀ o : Fin 16, t.on (.CMP_LV_OUT_BLANKED o) = true)
      ∧ t.dealer.tricks = [] ∧ t.dealer.changes = [] ∧ t.pend = [] ∧ t.on .SCO_STATUS_FAULT_N_LOW = true ∧ MemoryFrame s t) ∧
  (∀ s : State, s.scoring → s.cmd.runs = [] → (s.dealing = false ∨ firstBelow (bitOf s.sco.safeReq) 6 = none) → Gives .safeEntry s fun t =>
    Keeps [] (only faultRegs) s t) ∧
  (∀ (n : Int) (s : State), s.scoring → s.dealing = true → 480 < n → n < 2048 → s.plat.hot = 10 → Gives (.tempRead n) s fun t =>
    t.getI .SCO_TEMP_TEMP = n ∧ t.plat = { s.plat with hot := 11 } ∧ t.sco = { s.sco with safeReq := setBitN s.sco.safeReq 5 }
      ∧ Keeps [.plat, .sco] (only [Reg.SCO_TEMP]) s t) ∧
  (∀ (n : Int) (s : State), s.scoring → n ≤ 480 → -2048 ≤ n → Gives (.tempRead n) s fun t =>
    t.getI .SCO_TEMP_TEMP = n ∧ t.plat = { s.plat with hot := 0 } ∧ Keeps [.plat] (only [Reg.SCO_TEMP]) s t) ∧
  (∀ s : State, s.scoring → s.devState = stSafe → s.get .SCO_SAFE_CFG_RESTART_S ≠ 0 → s.get .SCO_STATUS_AUTO_RESTARTS < 3 →
    (s.get .SCO_STATUS_SAFE_CAUSE ≠ 6 ∨ s.getI .SCO_TEMP_TEMP ≤ 400) → Gives .autoRestart s fun t => ResetBy 2 s t) ∧
  (∀ s : State, s.scoring → (s.devState ≠ stSafe ∨ s.get .SCO_SAFE_CFG_RESTART_S = 0 ∨ 3 ≤ s.get .SCO_STATUS_AUTO_RESTARTS
      ∨ (s.get .SCO_STATUS_SAFE_CAUSE = 6 ∧ 400 < s.getI .SCO_TEMP_TEMP)) → exec .autoRestart s = .next s.quiet) ∧
  (∀ s : State, s.scoring → s.dealing = true → Gives .autoRestartClear s fun t => t.get .SCO_STATUS_AUTO_RESTARTS = 0
    ∧ t.logs = { s.logs with gen := s.logs.gen + 1, copy := 1 - s.logs.copy } ∧ Keeps [.logs, .mram] (only [Reg.SCO_STATUS]) s t) ∧
  (∀ s : State, s.up → s.sco.hard = false → Gives .lockstep s fun t => t.sco.hard = true ∧ t.devState = s.devState
    ∧ (∀ o : Fin 16, t.on (.CMP_LV_OUT_BLANKED o) = true ∧ t.get (.CMP_LV_OUT_BLANK_CAUSE o) = causeSafe ∧ bitOf (t.get (.OUT_STATUS_BLANK_SRC o)) 0 = true)
    ∧ (∀ p : Fin 4, t.tchState p = tpOff) ∧ (∀ p : Fin 8, t.audState p = apOff) ∧ t.mram = writeBytes 0 s.mram 0x80 [1, 0, 0, 0]
    ∧ t.on .SCO_STATUS_FAULT_N_LOW = true ∧ t.dram = s.dram ∧ t.flash = s.flash ∧ t.plat = s.plat ∧ t.pending = s.pending) ∧
  (∀ s : State, s.up → s.sco.hard = false → Gives .watchdog s fun t => t.sco.hard = true ∧ t.devState = s.devState
    ∧ (∀ o : Fin 16, t.on (.CMP_LV_OUT_BLANKED o) = true ∧ bitOf (t.get (.OUT_STATUS_BLANK_SRC o)) 0 = true)
    ∧ t.mram = writeBytes 0 s.mram 0x80 [2, 0, 0, 0] ∧ t.on .SCO_STATUS_FAULT_N_LOW = true ∧ t.dram = s.dram ∧ t.flash = s.flash
    ∧ t.plat = s.plat ∧ t.pending = s.pending) ∧
  (∀ s : State, s.up → s.sco.hard = true → Gives .lockstep s fun t => Keeps [] (only faultRegs) s t) ∧
  (∀ s : State, s.up → s.sco.hard = true → Gives .safePathReset s fun t => ResetBy 2 s t ∧ t.mram = s.mram) ∧
  (∀ s : State, s.up → s.sco.hard = false → exec .safePathReset s = .next s.quiet) ∧
  (∀ (r : LogRec) (rs : List LogRec) (s : State), s.scoring → s.on .LOG_STATUS_READY = true → s.sco.queue = r :: rs → s.sco.dropped = 0 →
    s.logNext 0 < 57216 → s.logNext (s.recordArea r) + 1 < 2 ^ 32 → s.logSeq + 1 < 2 ^ 32 → Gives .logWrite s fun t =>
    t.sco = { s.sco with queue := rs } ∧ t.mramBytes (logAt (s.recordArea r) (s.logNext (s.recordArea r))) 32 = s.recordOf r
      ∧ t.logNext (s.recordArea r) = s.logNext (s.recordArea r) + 1 ∧ t.logSeq = s.logSeq + 1 ∧ t.logs.gen = s.logs.gen + 1
      ∧ t.logs.copy = 1 - s.logs.copy ∧ Keeps [.sco, .logs, .mram] (only [Reg.LOG_RING_NEXT, Reg.LOG_PERM_NEXT, Reg.LOG_SEQ, Reg.LOG_STATUS]) s t) ∧
  (∀ s : State, s.scoring → (s.on .LOG_STATUS_READY = false ∨ s.sco.queue = []) → exec .logWrite s = .next s.quiet) ∧
  (∀ (c : Fin 64) (w : Word) (s : State), s.up → s.sco.hard = true → s.trgDue c w = true → (∀ g < 8, s.audGrid g = none) →
    (∀ x ∈ s.curDeal, x.issue = .trigger c → x.cls = .audio) → Gives (.triggerFire c w) s fun t =>
      t.audio = s.audio ∧ (∀ p : Fin 8, t.audState p = s.audState p)
        ∧ Keeps [.time] (only [Reg.TIM_TRG_STAT c, Reg.TIM_INT_STATUS]) s t)

/-- System addresses map one to one onto blocks of sub-channels, and blocks onto places in a rank. A system address has a place when it stands in the DRAM window below N V 256 bytes; its sub-channel is below N and its local block below V; two addresses have the same place only in the same 256-byte block, every place is some address's, and blocks that follow one another stand in different sub-channels. Two local blocks with the same column and the same rank, bank and row under any of the three orders are the same block. Rests on: 08_memory.md R259, 08_memory.md R256. -/
def Obligations.DramMapIsOneToOne : Prop :=
  (∀ (a : Nat) (s : State), dramBase ≤ a → a - dramBase < s.memSubs * s.memV * 256 → ∃ p, s.memMap a = some p ∧ p.1 < s.memSubs ∧ p.2 < s.memV) ∧
  (∀ (a : Nat) (s : State), (a < dramBase ∨ s.memSubs * s.memV * 256 ≤ a - dramBase) → s.memMap a = none) ∧
  (∀ (a b : Nat) (p : Nat × Nat) (s : State), s.memMap a = some p → s.memMap b = some p → (a - dramBase) / 256 = (b - dramBase) / 256) ∧
  (∀ (u b : Nat) (s : State), u < s.memSubs → b < s.memV → ∃ a, s.memMap a = some (u, b)) ∧
  (∀ (a : Nat) (p q : Nat × Nat) (s : State), s.memMap a = some p → s.memMap (a + 256) = some q → p.1 ≠ q.1) ∧
  (∀ map nb nr b c : Nat, b % 16 = c % 16 → localMap map nb nr b = localMap map nb nr c → b = c)

/-- A Trump set and its 14 data symbols spell each other, and no set is longer or shorter. For every destination and source below 64, either BCAST, every sequence, type and eight argument bytes, the 14 symbols of the set are read back as the set itself. Every 14 symbols with reserved bits 0 that are read as a set are the symbols of that set, CRC included. What is read as a set has 14 symbols and eight arguments. Rests on: 07_fabric.md R226, 07_fabric.md R219. -/
def Obligations.TrumpSetsSurviveTheWire : Prop :=
  (∀ m : Trump, m.dest < 64 → m.src < 64 → m.type < 256 → m.args.length = 8 → trumpOf (trumpBytes m) = some m) ∧
  (∀ (bs : List Byte) (m : Trump), trumpOf bs = some m → (bs.getD 0 0).getLsbD 7 = false → (bs.getD 1 0).toNat < 64 → trumpBytes m = bs) ∧
  (∀ (bs : List Byte) (m : Trump), trumpOf bs = some m → bs.length = 14 ∧ m.args.length = 8 ∧ m.dest < 64 ∧ m.src < 64 ∧ m.type < 256)

/-- Every step keeps the registers and the memories in their canonical form. In every state whose register table, external memory, log store, flash, Banker memories and mailbox buffers are listed in the canonical form of the model (indices strictly rising, nothing listed that equals what an unlisted index reads as), a step that answers a next state leaves them in it. The form is the model's own; the memories are those that the cited rules name. Rests on: 13_platform.md R361, 15_faults.md R428, 14_startup.md R389, 08_memory.md R259. -/
def Obligations.CanonicalFormIsKept : Prop :=
  ∀ s t : State, s.canonical = true → step s = .next t → t.canonical = true

/-- No command clears a blown fuse, and only a finished or a cut programming blows one. Whatever a command does, every fuse bit that was blown stays blown; with no programming request in progress neither cell of any fuse changes at all. Rests on: 13_platform.md R376, 13_platform.md R379. -/
def Obligations.FusesOnlyGainBits : Prop :=
  (∀ (c : Instr) (w : Nat) (s t : State), exec c s = .next t → t.cell w &&& s.cell w = s.cell w) ∧
  (∀ (c : Instr) (s t : State), s.plat.prog = none → exec c s = .next t → t.plat.fuses = s.plat.fuses ∧ t.plat.fusesB = s.plat.fusesB)

/-- The log store changes only by the Scorer's own rows, never by a transfer on the matrix. A command leaves every byte of the MRAM as it was unless it is one of seven: a lockstep error or the Scorer watchdog (which latch their cause), the automatic restart and its clearing, the write of a record, a supply loss, which may cut a record, and the end of RESET, where the log is taken up. So no transfer of any master on the matrix, no register write and no debug access reaches it. Rests on: 13_platform.md R369, 15_faults.md R428, 15_faults.md R413, 15_faults.md R429, 15_faults.md R430. -/
def Obligations.OnlyTheScorerWritesTheLogStore : Prop :=
  ∀ (c : Instr) (s t : State), c ≠ .lockstep → c ≠ .watchdog → c ≠ .autoRestart → c ≠ .autoRestartClear → c ≠ .logWrite →
    (∀ n, c ≠ .supplyMonitorTrip n) → (∀ r f, c ≠ .resetEnd r f) → exec c s = .next t → t.mram = s.mram

/-- RESTART and RELEASE of a touch port are answered by its state, and without OK they do nothing. RESTART of a touch port is answered OK in RUN and FAULT, and STATE otherwise; RELEASE is answered OK in RUN, and STATE otherwise. The answer stands in CODE of TCH_P_CTRL. An operation that is not OK leaves every register but TCH_P_CTRL and every part of the state as it was. Rests on: R319. -/
def Obligations.TouchControlIsAnswered : Prop :=
  (∀ (p : Fin 4) (s : State), s.up → Gives (.tchRestart p) s fun t =>
    t.get (.TCH_P_CTRL_CODE p) = (if s.tchState p = tpRun ∨ s.tchState p = tpFault then stOK else stSTATE)) ∧
  (∀ (p : Fin 4) (s : State), s.up → Gives (.tchRelease p) s fun t => t.get (.TCH_P_CTRL_CODE p) = (if s.tchState p = tpRun then stOK else stSTATE)) ∧
  (∀ (p : Fin 4) (s : State), s.up → s.tchState p ≠ tpRun → s.tchState p ≠ tpFault → Gives (.tchRestart p) s fun t =>
    Keeps [] (only [Reg.TCH_P_CTRL p]) s t) ∧
  (∀ (p : Fin 4) (s : State), s.up → s.tchState p ≠ tpRun → Gives (.tchRelease p) s fun t => Keeps [] (only [Reg.TCH_P_CTRL p]) s t)

/-- The alive check of a check-value unit sets REPEAT, GAP, PREV and PREV_VALID as its rule says. With ALIVE_EN 1, a byte fed when the count equals ALIVE_POS is masked to 4 or 8 bits by ALIVE_W; with PREV_VALID 1 it sets REPEAT where it equals PREV, and else, with STEP 1, GAP where it is not PREV + 1 modulo 16 or 256; PREV becomes it and PREV_VALID 1. Any other byte leaves the four as they were, so that REPEAT and GAP stay set until START, which clears them and the count and leaves PREV. A byte fed counts; a write of 2 or 4 bytes feeds them one after the other. Rests on: R354. -/
def Obligations.AliveCheckFollowsItsRule : Prop :=
  (∀ (u : Fin 4) (x : Byte) (s : State), s.on (.CHK_CFG_ALIVE_EN u) = true → (s.word (Reg.CHK_COUNT u)).toNat = s.get (.CHK_CFG_ALIVE_POS u) →
    let m := if s.on (.CHK_CFG_ALIVE_W u) then 256 else 16
    let v := x.toNat % m
    let t := s.chkFeed u x
    t.on (.CHK_ALIVE_REPEAT u) = (s.on (.CHK_ALIVE_REPEAT u) || (s.on (.CHK_ALIVE_PREV_VALID u) && v == s.get (.CHK_ALIVE_PREV u)))
      ∧ t.on (.CHK_ALIVE_GAP u) = (s.on (.CHK_ALIVE_GAP u) || (s.on (.CHK_ALIVE_PREV_VALID u) && s.on (.CHK_CFG_STEP u)
          && v != s.get (.CHK_ALIVE_PREV u) && v != (s.get (.CHK_ALIVE_PREV u) + 1) % m))
      ∧ t.get (.CHK_ALIVE_PREV u) = v ∧ t.on (.CHK_ALIVE_PREV_VALID u) = true ∧ t.word (Reg.CHK_COUNT u) = s.word (Reg.CHK_COUNT u) + 1) ∧
  (∀ (u : Fin 4) (x : Byte) (s : State), (s.on (.CHK_CFG_ALIVE_EN u) = false ∨ (s.word (Reg.CHK_COUNT u)).toNat ≠ s.get (.CHK_CFG_ALIVE_POS u)) →
    (s.chkFeed u x).word (Reg.CHK_ALIVE u) = s.word (Reg.CHK_ALIVE u) ∧ (s.chkFeed u x).word (Reg.CHK_COUNT u) = s.word (Reg.CHK_COUNT u) + 1) ∧
  (∀ (u : Fin 4) (s : State), s.up → Gives (.chkStart u) s fun t => t.on (.CHK_ALIVE_REPEAT u) = false ∧ t.on (.CHK_ALIVE_GAP u) = false
    ∧ t.word (Reg.CHK_COUNT u) = 0 ∧ t.get (.CHK_ALIVE_PREV u) = s.get (.CHK_ALIVE_PREV u)
    ∧ t.on (.CHK_ALIVE_PREV_VALID u) = s.on (.CHK_ALIVE_PREV_VALID u)) ∧
  (∀ (u : Fin 4) (w : Word) (s : State), s.up → exec (.chkData8 u w) s = .next (s.quiet.chkFeed u (w.setWidth 8))) ∧
  (∀ (u : Fin 4) (w : Word) (s : State), s.up →
    exec (.chkData16 u w) s = .next ((s.quiet.chkFeed u (w.setWidth 8)).chkFeed u ((w >>> 8).setWidth 8))) ∧
  (∀ (u : Fin 4) (w : Word) (s : State), s.up → exec (.chkData32 u w) s =
    .next ((((s.quiet.chkFeed u (w.setWidth 8)).chkFeed u ((w >>> 8).setWidth 8)).chkFeed u ((w >>> 16).setWidth 8)).chkFeed u ((w >>> 24).setWidth 8)))

/-- The lowest matching region of a master's MPU decides, and a piece that passes has passed every check. For a master but M1, a region that matches, with none below it matching, grants or refuses by its rights field for the piece's privilege; with no match a user piece fails with NO_REGION and a privileged one goes by the default map. M1 has only the Scorer mailbox. A piece that passes is decoded to a target its master reaches, fetches only from the boot window or Banker SRAM, writes neither a Scorer-owned address nor the deal table, reads a Scorer-owned address only with permission, and passes its MPU; one by M9 passes the debug policy. Rests on: 13_platform.md R370, 13_platform.md R371, 13_platform.md R368, 13_platform.md R369. -/
def Obligations.LowestMatchingRegionDecides : Prop :=
  (∀ (m r t a : Nat) (user : Bool) (k : Access) (s : State), m ≠ 1 → r < 16 → s.regionHits m r a = true → (∀ q < r, s.regionHits m q a = false) →
    (s.mpuCheck m user t a k = 0 ↔ bitOf (s.get (if privileged m user then .MPU_RGN_CTL_PRIV_RIGHTS m r else .MPU_RGN_CTL_USER_RIGHTS m r))
        (Access_code k) = true)
      ∧ (s.mpuCheck m user t a k ≠ 0 → s.mpuCheck m user t a k = 6)) ∧
  (∀ (m t a : Nat) (user : Bool) (k : Access) (s : State), m ≠ 1 → (∀ q < 16, s.regionHits m q a = false) →
    s.mpuCheck m user t a k = (if privileged m user = false then 7 else if defaultMap t k then 0 else 6)) ∧
  (∀ (t a : Nat) (user : Bool) (k : Access) (s : State), s.mpuCheck 1 user t a k = 0 ↔ t = tgMbox ∧ k ≠ .fetch) ∧
  (∀ (m a : Nat) (user : Bool) (k : Access) (s : State), s.checkPiece m user k a = 0 → ∃ t, s.reach m a = some t
    ∧ (k = .fetch → t = tgBoot ∨ t = tgSram) ∧ (k = .write → s.scorerOwned a = false ∧ t ≠ tgDeal)
    ∧ (s.scorerOwned a = true → m ≠ 9 → s.scorerReadable m a = true) ∧ (m = 9 → s.debugAdmits t a k = true)
    ∧ s.mpuCheck m user t a k = 0) ∧
  (∀ (m r a : Nat) (s : State), s.regionHits m r a = true → s.on (.MPU_RGN_CTL_ON m r) = true
    ∧ s.get (.MPU_RGN_BASE_BASE m r) * 512 / 2 ^ s.get (.MPU_RGN_CTL_SIZE m r) = a / 2 ^ s.get (.MPU_RGN_CTL_SIZE m r))

/-- The state shown for a tile is the more restrictive of the composer's and the one the Scorer implies. For a tile that is not EMPTY, what the frame shows is the composer's state or the state that the Scorer's verdict implies, whichever is more restrictive in the order FOLDED, DEGRADED, LIVE. A tile folded only by the Scorer shows reason SCORER and SCORER_HOLD. While a verdict is missing and SCORER does not hold, the implied state stays (the model's reading, log 7). Rests on: 02_liveness.md R82, 02_liveness.md R87. -/
def Obligations.ShownStateIsTheMoreRestrictive : Prop :=
  (∀ (l : Nat) (s : State), (s.tile l).cmp.state ≠ .empty → (s.shownState l).1.code = max (s.tile l).cmp.state.code (s.tile l).implied.code) ∧
  (∀ (l : Nat) (s : State), (s.tile l).cmp.state ≠ .empty → (s.tile l).cmp.state ≠ .folded → (s.tile l).implied = .folded →
    s.shownState l = (.folded, 9, reasonBit 9, true)) ∧
  (∀ (l : Nat) (s : State), s.scorerHolds l = true → s.impliedBy l = .folded) ∧
  (∀ (l : Nat) (v : Verdict) (s : State), s.scorerHolds l = false → s.on .CMP_LV_STATUS_SCORER_OK = true → (s.tile l).verdict = some v →
    s.impliedBy l = (if v.state = .folded ∧ v.ripe = false then .folded else if v.state = .degraded then .degraded else .live)) ∧
  (∀ (l : Nat) (s : State), s.scorerHolds l = false → s.on .CMP_LV_STATUS_SCORER_OK = false → s.impliedBy l = (s.tile l).implied)

/-- After power-on the registers hold the values their tables give. In the state after reset every register address holds what the model's register tables (regReset) give it, and the named fields hold the reset columns of the spec's tables: those of the liveness contracts, the scalers, the outputs, the decoders, the encoders, the fabric power control, memory, the clock, touch, audio, the check units, the matrix priorities and the region sizes; those of the mailbox, the device state, the Scorer and the Dealer stand in ResetStateIsHeldInReset. That State.reset is the state after POWER_ON, in which these hold, is the model's choice (log 8). Rests on: 02_liveness.md R86, 03_composition.md R129, 04_output.md R159, 06_codec.md R210, 06_codec.md R211, 07_fabric.md R254, 08_memory.md R279, 09_time.md R297, 10_touch.md R320, 11_audio.md R337, 12_commands.md R357, 13_platform.md R384. -/
def Obligations.ResetRegistersHoldTheirTables : Prop :=
  let s := State.reset
  (∀ l < 512, s.get (.CMP_LV_CON1_CONCEAL_TICKS l) = 30 ∧ s.get (.CMP_LV_CON2_TELL_WINDOW l) = 1100
    ∧ s.get (.CMP_LV_AGE_AGE l) = 0xFFFFFFFF ∧ s.on (.CMP_VL_SRC_NO_SRC l) = true ∧ s.get (.CMP_VL_SRC_ALPHA l) = 255) ∧
  (∀ o < 16, s.get (.CMP_LV_OUT_MISS_LIMIT o) = 3 ∧ s.get (.OUT_PHASE_PHASE o) = 60000 ∧ s.get (.OUT_LEAD_COMMIT_LEAD o) = 8) ∧
  (∀ o < 16, ∀ k < 8, s.get (.CMP_SC_AVG_H_K o k) = 1 ∧ s.get (.CMP_SC_AVG_V_K o k) = 1) ∧
  (∀ c < 32, s.get (.DEC_CX_TIM_STALL c) = 500 ∧ s.get (.DEC_CX_SRAGE_SR_AGE c) = 0xFFFF ∧ s.get (.ENC_ST_RC_QP_T c) = 30 ∧ s.get (.ENC_ST_DEST_MTU c) = 175) ∧
  (∀ q < 8, s.get (.SER_QCTRL_PWR q) = 2 ∧ s.get (.SER_QSTAT_PSTATE q) = 2) ∧ s.get .MEM_WQ_WQ_HIGH = 48 ∧ s.get .MEM_WQ_WQ_LOW = 16
    ∧ s.get .MEM_RDT_THRESHOLD = 4096 ∧ (s.word Reg.TIM_INCR).toNat = 671088640 ∧ s.get (.TIM_NP_CFG_CMD_PORT 0) = 5120 ∧
  (∀ p < 4, s.get (.TCH_P_THR_T_TOUCH p) = 160 ∧ s.get (.TCH_P_THR_T_LIFT p) = 96 ∧ s.tchState p = 0) ∧
  (∀ p < 8, s.get (.AUD_P_CFG_SLOTS p) = 1 ∧ s.get (.AUD_P_RING_HI_RING p) = 4 ∧ s.audState p = 0) ∧ s.get .AUD_ALARM_CFG_FREQ = 1000 ∧
  (∀ u < 4, s.get (.CHK_CFG_WIDTH u) = 32 ∧ (s.word (Reg.CHK_POLY u)).toNat = 0x1EDC6F41 ∧ s.word (Reg.CHK_INIT u) = 0xFFFFFFFF
    ∧ s.word (Reg.CHK_XOR u) = 0xFFFFFFFF ∧ s.word (Reg.CHK_COUNT u) = 0) ∧
  (∀ t < 9, s.word (Reg.MTX_PRI_LO t) = 0xFFFFF00F ∧ s.word (Reg.MTX_PRI_HI t) = 0xFFF) ∧ (∀ r < 16, s.get (.MPU_RGN_CTL_SIZE 0 r) = 9) ∧
  (∀ a, s.word a = regReset a)
end

