-- ==== Sys2Proof/Laws/Tab.lean ====
section
/-!
SUPPORT. Laws of sparse tables and byte memories: reading after writing, and the canonical form.
-/

set_option linter.all false

namespace Sys2Proof.Machine

variable {α : Type}

theorem Tab.get_insert (d : α) (t : Tab α) (a b : Nat) (v : α) :
    Tab.get d (Tab.insert t a v) b = if b = a then v else Tab.get d t b := by
  induction t with
  | nil =>
    by_cases h : b = a
    · simp [Tab.insert, Tab.get, h]
    · simp [Tab.insert, Tab.get, h, Ne.symm h]
  | cons e rest ih =>
    obtain ⟨k, w⟩ := e
    simp only [Tab.insert]
    split
    · by_cases h : b = a
      · simp [Tab.get, h]
      · simp [Tab.get, h, Ne.symm h]
    · split
      · subst_vars
        by_cases h : b = k
        · simp [Tab.get, h]
        · simp [Tab.get, h, Ne.symm h]
      · simp only [Tab.get, ih]
        by_cases h : k = b
        · subst h
          have : ¬ k = a := fun h => by simp_all
          simp [this]
        · simp [h]

theorem Tab.get_erase (d : α) (t : Tab α) (a b : Nat) :
    Tab.get d (Tab.erase t a) b = if b = a then d else Tab.get d t b := by
  induction t with
  | nil => simp [Tab.erase, Tab.get]
  | cons e rest ih =>
    obtain ⟨k, w⟩ := e
    simp only [Tab.erase]
    split
    · subst_vars
      rw [ih]
      by_cases h : b = k
      · simp [h]
      · simp [Tab.get, h, Ne.symm h]
    · simp only [Tab.get, ih]
      by_cases h : k = b
      · subst h
        simp_all
      · simp [h]

/-- Reading after writing. -/
theorem Tab.get_put [DecidableEq α] (d : α) (t : Tab α) (a b : Nat) (v : α) :
    Tab.get d (Tab.put d t a v) b = if b = a then v else Tab.get d t b := by
  unfold Tab.put
  split
  · subst_vars; exact Tab.get_erase _ _ _ _
  · exact Tab.get_insert _ _ _ _ _

theorem Tab.get_put_ne {β : Type} [DecidableEq β] (d d' : β) (t : Tab β) (a b : Nat) (v : β) (h : b ≠ a) :
    Tab.get d' (Tab.put d t a v) b = Tab.get d' t b := by
  unfold Tab.put
  split
  · rw [Tab.get_erase, if_neg h]
  · rw [Tab.get_insert, if_neg h]

theorem Tab.get_upd [DecidableEq α] (d : α) (t : Tab α) (a b : Nat) (f : α → α) :
    Tab.get d (Tab.upd d t a f) b = if b = a then f (Tab.get d t a) else Tab.get d t b :=
  Tab.get_put _ _ _ _ _

theorem Tab.find_insert (t : Tab α) (a b : Nat) (v : α) :
    Tab.find (Tab.insert t a v) b = if b = a then some v else Tab.find t b := by
  induction t with
  | nil =>
    by_cases h : b = a
    · simp [Tab.insert, Tab.find, h]
    · simp [Tab.insert, Tab.find, h, Ne.symm h]
  | cons e rest ih =>
    obtain ⟨k, w⟩ := e
    simp only [Tab.insert]
    split
    · by_cases h : b = a
      · simp [Tab.find, h]
      · simp [Tab.find, h, Ne.symm h]
    · split
      · subst_vars
        by_cases h : b = k
        · simp [Tab.find, h]
        · simp [Tab.find, h, Ne.symm h]
      · simp only [Tab.find, ih]
        by_cases h : k = b
        · subst h
          have : ¬ k = a := fun h => by simp_all
          simp [this]
        · simp [h]

theorem Tab.find_erase (t : Tab α) (a b : Nat) :
    Tab.find (Tab.erase t a) b = if b = a then none else Tab.find t b := by
  induction t with
  | nil => simp [Tab.erase, Tab.find]
  | cons e rest ih =>
    obtain ⟨k, w⟩ := e
    simp only [Tab.erase]
    split
    · subst_vars
      rw [ih]
      by_cases h : b = k
      · simp [h]
      · simp [Tab.find, h, Ne.symm h]
    · simp only [Tab.find, ih]
      by_cases h : k = b
      · subst h
        simp_all
      · simp [h]

/-! ### The canonical form -/

theorem Tab.wfFrom_mono [DecidableEq α] (d : Nat → α) {t : Tab α} {j k : Nat} (h : j ≤ k) (w : Tab.wfFrom d k t = true) :
    Tab.wfFrom d j t = true := by
  cases t with
  | nil => rfl
  | cons e rest =>
    simp only [Tab.wfFrom, Bool.and_eq_true, decide_eq_true_eq] at w ⊢
    exact ⟨⟨by omega, w.1.2⟩, w.2⟩

theorem Tab.wfFrom_insert [DecidableEq α] (d : Nat → α) (a : Nat) (v : α) (hv : v ≠ d a) :
    ∀ (t : Tab α) (k : Nat), k ≤ a → Tab.wfFrom d k t = true → Tab.wfFrom d k (Tab.insert t a v) = true
  | [], k, h, _ => by simp [Tab.insert, Tab.wfFrom, h, hv]
  | (j, w) :: rest, k, h, hw => by
    simp only [Tab.wfFrom, Bool.and_eq_true, decide_eq_true_eq] at hw
    simp only [Tab.insert]
    split
    · simp only [Tab.wfFrom, Bool.and_eq_true, decide_eq_true_eq]
      exact ⟨⟨h, hv⟩, ⟨by omega, hw.1.2⟩, hw.2⟩
    · split
      · subst_vars
        simp only [Tab.wfFrom, Bool.and_eq_true, decide_eq_true_eq]
        exact ⟨⟨h, hv⟩, hw.2⟩
      · simp only [Tab.wfFrom, Bool.and_eq_true, decide_eq_true_eq]
        exact ⟨hw.1, Tab.wfFrom_insert d a v hv rest (j + 1) (by omega) hw.2⟩

theorem Tab.wfFrom_erase [DecidableEq α] (d : Nat → α) (a : Nat) :
    ∀ (t : Tab α) (k : Nat), Tab.wfFrom d k t = true → Tab.wfFrom d k (Tab.erase t a) = true
  | [], _, _ => rfl
  | (j, w) :: rest, k, hw => by
    simp only [Tab.wfFrom, Bool.and_eq_true, decide_eq_true_eq] at hw
    simp only [Tab.erase]
    split
    · exact Tab.wfFrom_erase d a rest k (Tab.wfFrom_mono d (by omega) hw.2)
    · simp only [Tab.wfFrom, Bool.and_eq_true, decide_eq_true_eq]
      exact ⟨hw.1, Tab.wfFrom_erase d a rest (j + 1) hw.2⟩

/-- A write keeps the canonical form. -/
theorem Tab.wf_put [DecidableEq α] (d : Nat → α) (t : Tab α) (a : Nat) (v : α) (h : Tab.wf d t = true) :
    Tab.wf d (Tab.put (d a) t a v) = true := by
  unfold Tab.put
  split
  · exact Tab.wfFrom_erase d a t 0 h
  · rename_i hv
    exact Tab.wfFrom_insert d a v hv t 0 (Nat.zero_le a) h

/-- Writing bytes keeps a memory's canonical form. -/
theorem Memory.wf_writeBytes (d : Byte) : ∀ (bs : List Byte) (m : Memory) (a : Nat), Memory.wf d m = true →
    Memory.wf d (writeBytes d m a bs) = true
  | [], _, _, h => h
  | b :: bs, m, a, h => Memory.wf_writeBytes d bs _ (a + 1) (Tab.wf_put (fun _ => d) m a b h)

/-! ### Byte memories -/

theorem get_writeBytes (d : Byte) : ∀ (bs : List Byte) (m : Memory) (a b : Nat),
    Tab.get d (writeBytes d m a bs) b = if a ≤ b ∧ b < a + bs.length then bs.getD (b - a) 0 else Tab.get d m b
  | [], m, a, b => by
    have : ¬ (a ≤ b ∧ b < a + ([] : List Byte).length) := by simp
    rw [if_neg this]
    rfl
  | x :: bs, m, a, b => by
    rw [writeBytes, get_writeBytes d bs, Tab.get_put]
    by_cases h : b = a
    · subst h
      have : ¬ (b + 1 ≤ b ∧ b < b + 1 + bs.length) := by omega
      rw [if_neg this]
      simp
    · by_cases g : a + 1 ≤ b ∧ b < a + 1 + bs.length
      · have e : b - a = (b - (a + 1)) + 1 := by omega
        have f : a ≤ b ∧ b < a + (x :: bs).length := by simp; omega
        rw [if_pos g, if_pos f, e]
        simp
      · have f : ¬ (a ≤ b ∧ b < a + (x :: bs).length) := by simp; omega
        rw [if_neg g, if_neg f, if_neg h]

theorem readBytes_length (d : Byte) (m : Memory) : ∀ (n a : Nat), (readBytes d m a n).length = n
  | 0, _ => rfl
  | n + 1, a => by simp [readBytes, readBytes_length d m n]

/-- Reading back what was written. -/
theorem readBytes_writeBytes (d : Byte) (m : Memory) (a : Nat) (bs : List Byte) :
    readBytes d (writeBytes d m a bs) a bs.length = bs := by
  have key : ∀ (n k : Nat), k + n = bs.length →
      readBytes d (writeBytes d m a bs) (a + k) n = bs.drop k := by
    intro n
    induction n with
    | zero => intro k h; simp [readBytes, List.drop_of_length_le (show bs.length ≤ k by omega)]
    | succ n ih =>
      intro k h
      have hk : k < bs.length := by omega
      rw [readBytes, Nat.add_assoc, ih (k + 1) (by omega), get_writeBytes,
        if_pos (show a ≤ a + k ∧ a + k < a + bs.length by omega), List.drop_eq_getElem_cons hk]
      simp [List.getD_eq_getElem?_getD, hk]
  simpa using key bs.length 0 (by omega)

end Sys2Proof.Machine
end

