-- ==== Sys2Proof/Laws/State.lean ====
section
/-!
SUPPORT. Laws of the state: reading a register or field after a write, and what each update leaves alone.
-/

set_option linter.all false

namespace Sys2Proof.Machine

open Sys2Proof

/-! ### Words -/

@[simp] theorem State.word_setWord (s : State) (a b : Nat) (w : Word) :
    (s.setWord a w).word b = if b = a then w else s.word b := by
  unfold State.word State.setWord
  by_cases h : b = a
  · subst h; simp [Tab.get_put]
  · simp [h, Tab.get_put_ne _ _ _ _ _ _ h]

/-! ### Fields -/

theorem Fld.of_testBit (f : Fld) (w : Word) (i : Nat) :
    (f.of w).testBit i = (decide (i < f.wid) && w.getLsbD (f.lo + i)) := by
  simp [Fld.of, Nat.testBit_mod_two_pow, Nat.testBit_div_two_pow, BitVec.getLsbD, Nat.add_comm]

theorem Fld.mask_getLsbD (f : Fld) (i : Nat) :
    f.mask.getLsbD i = (decide (i < 32) && decide (f.lo ≤ i) && decide (i < f.lo + f.wid)) := by
  simp only [Fld.mask, BitVec.getLsbD_ofNat, Nat.testBit_mul_two_pow, Nat.testBit_two_pow_sub_one]
  by_cases h : f.lo ≤ i
  · have : (i - f.lo < f.wid) = (i < f.lo + f.wid) := by apply propext; omega
    simp [h, this]
  · simp [h]

theorem Fld.into_getLsbD (f : Fld) (w : Word) (v i : Nat) :
    (f.into w v).getLsbD i =
      if f.lo ≤ i ∧ i < f.lo + f.wid then decide (i < 32) && v.testBit (i - f.lo) else w.getLsbD i := by
  simp only [Fld.into, BitVec.getLsbD_or, BitVec.getLsbD_and, BitVec.getLsbD_not, Fld.mask_getLsbD, BitVec.getLsbD_ofNat,
    Nat.testBit_mul_two_pow, Nat.testBit_mod_two_pow]
  by_cases h1 : f.lo ≤ i
  · by_cases h2 : i < f.lo + f.wid
    · have h3 : i - f.lo < f.wid := by omega
      by_cases h4 : i < 32 <;> simp [h1, h2, h3, h4]
    · have h3 : ¬ i - f.lo < f.wid := by omega
      by_cases h4 : i < 32
      · simp [h1, h2, h3, h4]
      · have : w.getLsbD i = false := BitVec.getLsbD_of_ge _ _ (by omega)
        simp [h1, h2, h3, h4, this]
  · by_cases h4 : i < 32
    · simp [h1, h4]
    · have : w.getLsbD i = false := BitVec.getLsbD_of_ge _ _ (by omega)
      simp [h1, h4, this]

/-- A field reads what was put into it. -/
theorem Fld.of_into (f : Fld) (w : Word) (v : Nat) (h : f.lo + f.wid ≤ 32) : f.of (f.into w v) = v % 2 ^ f.wid := by
  apply Nat.eq_of_testBit_eq
  intro i
  rw [Fld.of_testBit, Fld.into_getLsbD, Nat.testBit_mod_two_pow]
  by_cases hi : i < f.wid
  · have h1 : f.lo ≤ f.lo + i ∧ f.lo + i < f.lo + f.wid := by omega
    have h2 : f.lo + i < 32 := by omega
    simp [hi, h2]
  · simp [hi]

/-- A field reads the same after a write of one that it does not overlap. -/
theorem Fld.of_into_ne (f g : Fld) (w : Word) (v : Nat) (h : f.lo + f.wid ≤ g.lo ∨ g.lo + g.wid ≤ f.lo) :
    g.of (f.into w v) = g.of w := by
  apply Nat.eq_of_testBit_eq
  intro i
  rw [Fld.of_testBit, Fld.of_testBit, Fld.into_getLsbD]
  by_cases hi : i < g.wid
  · have h1 : ¬ (f.lo ≤ g.lo + i ∧ g.lo + i < f.lo + f.wid) := by omega
    simp [h1]
  · simp [hi]

/-- Two fields that share no bit of a register. -/
def Fld.Apart (f g : Fld) : Prop := g.addr ≠ f.addr ∨ f.lo + f.wid ≤ g.lo ∨ g.lo + g.wid ≤ f.lo

theorem State.get_set_same (s : State) (f : Fld) (v : Nat) (h : f.lo + f.wid ≤ 32) : (s.set f v).get f = v % 2 ^ f.wid := by
  simp [State.get, State.set, Fld.of_into f _ _ h]

theorem State.get_set_apart (s : State) (f g : Fld) (v : Nat) (h : f.Apart g) : (s.set f v).get g = s.get g := by
  rcases h with h | h
  · simp [State.get, State.set, h]
  · by_cases e : g.addr = f.addr
    · simp [State.get, State.set, e, Fld.of_into_ne f g _ _ h]
    · simp [State.get, State.set, e]

theorem State.word_set (s : State) (f : Fld) (v a : Nat) (h : a ≠ f.addr) : (s.set f v).word a = s.word a := by
  simp [State.set, h]

theorem State.get_setWord_ne (s : State) (a : Nat) (w : Word) (g : Fld) (h : g.addr ≠ a) : (s.setWord a w).get g = s.get g := by
  simp [State.get, h]

theorem State.get_setWord_same (s : State) (w : Word) (g : Fld) : (s.setWord g.addr w).get g = g.of w := by
  simp [State.get]

end Sys2Proof.Machine
end

