-- ==== Sys2Proof/Laws/Frame.lean ====
section
/-!
SUPPORT. What each update of the state leaves alone: one lemma per field and update for the primitive updates, and for the
updates of one unit what it does to that unit and that registers stay.
-/

set_option linter.all false

namespace Sys2Proof.Machine

open Sys2Proof

/-! ### Writes of fields as `set` -/

@[simp] theorem State.setB_eq (s : State) (f : Fld) (b : Bool) : s.setB f b = s.set f (b2n b) := rfl
@[simp] theorem State.setW_eq (s : State) (f : Fld) (w : Word) : s.setW f w = s.set f w.toNat := rfl
@[simp] theorem State.setI_eq (s : State) (f : Fld) (i : Int) : s.setI f i = s.set f (i % (2 ^ f.wid : Nat)).toNat := rfl
@[simp] theorem State.count_eq (s : State) (f : Fld) (k : Nat) : s.count f k = s.set f (satAdd f.wid (s.get f) k) := rfl
@[simp] theorem State.next_eq (s : State) (f : Fld) : s.next f = s.set f (s.get f + 1) := rfl
@[simp] theorem State.on_eq (s : State) (f : Fld) : s.on f = (s.get f != 0) := rfl

/-! ### setWord -/

@[simp] theorem State.setWord_pend (s : State) (a : Nat) (w : Word) : (s.setWord a w).pend = s.pend := rfl
@[simp] theorem State.setWord_pendLayout (s : State) (a : Nat) (w : Word) : (s.setWord a w).pendLayout = s.pendLayout := rfl
@[simp] theorem State.setWord_tiles (s : State) (a : Nat) (w : Word) : (s.setWord a w).tiles = s.tiles := rfl
@[simp] theorem State.setWord_descs (s : State) (a : Nat) (w : Word) : (s.setWord a w).descs = s.descs := rfl
@[simp] theorem State.setWord_dealer (s : State) (a : Nat) (w : Word) : (s.setWord a w).dealer = s.dealer := rfl
@[simp] theorem State.setWord_outs (s : State) (a : Nat) (w : Word) : (s.setWord a w).outs = s.outs := rfl
@[simp] theorem State.setWord_slots (s : State) (a : Nat) (w : Word) : (s.setWord a w).slots = s.slots := rfl
@[simp] theorem State.setWord_caps (s : State) (a : Nat) (w : Word) : (s.setWord a w).caps = s.caps := rfl
@[simp] theorem State.setWord_image (s : State) (a : Nat) (w : Word) : (s.setWord a w).image = s.image := rfl
@[simp] theorem State.setWord_time (s : State) (a : Nat) (w : Word) : (s.setWord a w).time = s.time := rfl
@[simp] theorem State.setWord_sco (s : State) (a : Nat) (w : Word) : (s.setWord a w).sco = s.sco := rfl
@[simp] theorem State.setWord_logs (s : State) (a : Nat) (w : Word) : (s.setWord a w).logs = s.logs := rfl
@[simp] theorem State.setWord_mram (s : State) (a : Nat) (w : Word) : (s.setWord a w).mram = s.mram := rfl
@[simp] theorem State.setWord_fab (s : State) (a : Nat) (w : Word) : (s.setWord a w).fab = s.fab := rfl
@[simp] theorem State.setWord_wall (s : State) (a : Nat) (w : Word) : (s.setWord a w).wall = s.wall := rfl
@[simp] theorem State.setWord_boot (s : State) (a : Nat) (w : Word) : (s.setWord a w).boot = s.boot := rfl
@[simp] theorem State.setWord_plat (s : State) (a : Nat) (w : Word) : (s.setWord a w).plat = s.plat := rfl
@[simp] theorem State.setWord_flash (s : State) (a : Nat) (w : Word) : (s.setWord a w).flash = s.flash := rfl
@[simp] theorem State.setWord_ctxs (s : State) (a : Nat) (w : Word) : (s.setWord a w).ctxs = s.ctxs := rfl
@[simp] theorem State.setWord_encs (s : State) (a : Nat) (w : Word) : (s.setWord a w).encs = s.encs := rfl
@[simp] theorem State.setWord_nets (s : State) (a : Nat) (w : Word) : (s.setWord a w).nets = s.nets := rfl
@[simp] theorem State.setWord_dram (s : State) (a : Nat) (w : Word) : (s.setWord a w).dram = s.dram := rfl
@[simp] theorem State.setWord_mem (s : State) (a : Nat) (w : Word) : (s.setWord a w).mem = s.mem := rfl
@[simp] theorem State.setWord_touch (s : State) (a : Nat) (w : Word) : (s.setWord a w).touch = s.touch := rfl
@[simp] theorem State.setWord_audio (s : State) (a : Nat) (w : Word) : (s.setWord a w).audio = s.audio := rfl
@[simp] theorem State.setWord_cmd (s : State) (a : Nat) (w : Word) : (s.setWord a w).cmd = s.cmd := rfl
@[simp] theorem State.setWord_anomalies (s : State) (a : Nat) (w : Word) : (s.setWord a w).anomalies = s.anomalies := rfl
@[simp] theorem State.setWord_freeCtr (s : State) (a : Nat) (w : Word) : (s.setWord a w).freeCtr = s.freeCtr := rfl
@[simp] theorem State.setWord_out (s : State) (a : Nat) (w : Word) : (s.setWord a w).out = s.out := rfl
@[simp] theorem State.setWord_pending (s : State) (a : Nat) (w : Word) : (s.setWord a w).pending = s.pending := rfl

/-! ### set -/

@[simp] theorem State.set_pend (s : State) (f : Fld) (v : Nat) : (s.set f v).pend = s.pend := rfl
@[simp] theorem State.set_pendLayout (s : State) (f : Fld) (v : Nat) : (s.set f v).pendLayout = s.pendLayout := rfl
@[simp] theorem State.set_tiles (s : State) (f : Fld) (v : Nat) : (s.set f v).tiles = s.tiles := rfl
@[simp] theorem State.set_descs (s : State) (f : Fld) (v : Nat) : (s.set f v).descs = s.descs := rfl
@[simp] theorem State.set_dealer (s : State) (f : Fld) (v : Nat) : (s.set f v).dealer = s.dealer := rfl
@[simp] theorem State.set_outs (s : State) (f : Fld) (v : Nat) : (s.set f v).outs = s.outs := rfl
@[simp] theorem State.set_slots (s : State) (f : Fld) (v : Nat) : (s.set f v).slots = s.slots := rfl
@[simp] theorem State.set_caps (s : State) (f : Fld) (v : Nat) : (s.set f v).caps = s.caps := rfl
@[simp] theorem State.set_image (s : State) (f : Fld) (v : Nat) : (s.set f v).image = s.image := rfl
@[simp] theorem State.set_time (s : State) (f : Fld) (v : Nat) : (s.set f v).time = s.time := rfl
@[simp] theorem State.set_sco (s : State) (f : Fld) (v : Nat) : (s.set f v).sco = s.sco := rfl
@[simp] theorem State.set_logs (s : State) (f : Fld) (v : Nat) : (s.set f v).logs = s.logs := rfl
@[simp] theorem State.set_mram (s : State) (f : Fld) (v : Nat) : (s.set f v).mram = s.mram := rfl
@[simp] theorem State.set_fab (s : State) (f : Fld) (v : Nat) : (s.set f v).fab = s.fab := rfl
@[simp] theorem State.set_wall (s : State) (f : Fld) (v : Nat) : (s.set f v).wall = s.wall := rfl
@[simp] theorem State.set_boot (s : State) (f : Fld) (v : Nat) : (s.set f v).boot = s.boot := rfl
@[simp] theorem State.set_plat (s : State) (f : Fld) (v : Nat) : (s.set f v).plat = s.plat := rfl
@[simp] theorem State.set_flash (s : State) (f : Fld) (v : Nat) : (s.set f v).flash = s.flash := rfl
@[simp] theorem State.set_ctxs (s : State) (f : Fld) (v : Nat) : (s.set f v).ctxs = s.ctxs := rfl
@[simp] theorem State.set_encs (s : State) (f : Fld) (v : Nat) : (s.set f v).encs = s.encs := rfl
@[simp] theorem State.set_nets (s : State) (f : Fld) (v : Nat) : (s.set f v).nets = s.nets := rfl
@[simp] theorem State.set_dram (s : State) (f : Fld) (v : Nat) : (s.set f v).dram = s.dram := rfl
@[simp] theorem State.set_mem (s : State) (f : Fld) (v : Nat) : (s.set f v).mem = s.mem := rfl
@[simp] theorem State.set_touch (s : State) (f : Fld) (v : Nat) : (s.set f v).touch = s.touch := rfl
@[simp] theorem State.set_audio (s : State) (f : Fld) (v : Nat) : (s.set f v).audio = s.audio := rfl
@[simp] theorem State.set_cmd (s : State) (f : Fld) (v : Nat) : (s.set f v).cmd = s.cmd := rfl
@[simp] theorem State.set_anomalies (s : State) (f : Fld) (v : Nat) : (s.set f v).anomalies = s.anomalies := rfl
@[simp] theorem State.set_freeCtr (s : State) (f : Fld) (v : Nat) : (s.set f v).freeCtr = s.freeCtr := rfl
@[simp] theorem State.set_out (s : State) (f : Fld) (v : Nat) : (s.set f v).out = s.out := rfl
@[simp] theorem State.set_pending (s : State) (f : Fld) (v : Nat) : (s.set f v).pending = s.pending := rfl

/-! ### quiet -/

@[simp] theorem State.quiet_regs (s : State) : (s.quiet).regs = s.regs := rfl
@[simp] theorem State.quiet_pend (s : State) : (s.quiet).pend = s.pend := rfl
@[simp] theorem State.quiet_pendLayout (s : State) : (s.quiet).pendLayout = s.pendLayout := rfl
@[simp] theorem State.quiet_tiles (s : State) : (s.quiet).tiles = s.tiles := rfl
@[simp] theorem State.quiet_descs (s : State) : (s.quiet).descs = s.descs := rfl
@[simp] theorem State.quiet_dealer (s : State) : (s.quiet).dealer = s.dealer := rfl
@[simp] theorem State.quiet_outs (s : State) : (s.quiet).outs = s.outs := rfl
@[simp] theorem State.quiet_slots (s : State) : (s.quiet).slots = s.slots := rfl
@[simp] theorem State.quiet_caps (s : State) : (s.quiet).caps = s.caps := rfl
@[simp] theorem State.quiet_image (s : State) : (s.quiet).image = s.image := rfl
@[simp] theorem State.quiet_time (s : State) : (s.quiet).time = s.time := rfl
@[simp] theorem State.quiet_sco (s : State) : (s.quiet).sco = s.sco := rfl
@[simp] theorem State.quiet_logs (s : State) : (s.quiet).logs = s.logs := rfl
@[simp] theorem State.quiet_mram (s : State) : (s.quiet).mram = s.mram := rfl
@[simp] theorem State.quiet_fab (s : State) : (s.quiet).fab = s.fab := rfl
@[simp] theorem State.quiet_wall (s : State) : (s.quiet).wall = s.wall := rfl
@[simp] theorem State.quiet_boot (s : State) : (s.quiet).boot = s.boot := rfl
@[simp] theorem State.quiet_plat (s : State) : (s.quiet).plat = s.plat := rfl
@[simp] theorem State.quiet_flash (s : State) : (s.quiet).flash = s.flash := rfl
@[simp] theorem State.quiet_ctxs (s : State) : (s.quiet).ctxs = s.ctxs := rfl
@[simp] theorem State.quiet_encs (s : State) : (s.quiet).encs = s.encs := rfl
@[simp] theorem State.quiet_nets (s : State) : (s.quiet).nets = s.nets := rfl
@[simp] theorem State.quiet_dram (s : State) : (s.quiet).dram = s.dram := rfl
@[simp] theorem State.quiet_mem (s : State) : (s.quiet).mem = s.mem := rfl
@[simp] theorem State.quiet_touch (s : State) : (s.quiet).touch = s.touch := rfl
@[simp] theorem State.quiet_audio (s : State) : (s.quiet).audio = s.audio := rfl
@[simp] theorem State.quiet_cmd (s : State) : (s.quiet).cmd = s.cmd := rfl
@[simp] theorem State.quiet_anomalies (s : State) : (s.quiet).anomalies = s.anomalies := rfl
@[simp] theorem State.quiet_freeCtr (s : State) : (s.quiet).freeCtr = s.freeCtr := rfl
@[simp] theorem State.quiet_pending (s : State) : (s.quiet).pending = s.pending := rfl
@[simp] theorem State.quiet_word (s : State)  (x : Nat) : (s.quiet).word x = s.word x := rfl
@[simp] theorem State.quiet_get (s : State)  (x : Fld) : (s.quiet).get x = s.get x := rfl

/-! ### emit -/

@[simp] theorem State.emit_regs (s : State) (e : Emission) : (s.emit e).regs = s.regs := rfl
@[simp] theorem State.emit_pend (s : State) (e : Emission) : (s.emit e).pend = s.pend := rfl
@[simp] theorem State.emit_pendLayout (s : State) (e : Emission) : (s.emit e).pendLayout = s.pendLayout := rfl
@[simp] theorem State.emit_tiles (s : State) (e : Emission) : (s.emit e).tiles = s.tiles := rfl
@[simp] theorem State.emit_descs (s : State) (e : Emission) : (s.emit e).descs = s.descs := rfl
@[simp] theorem State.emit_dealer (s : State) (e : Emission) : (s.emit e).dealer = s.dealer := rfl
@[simp] theorem State.emit_outs (s : State) (e : Emission) : (s.emit e).outs = s.outs := rfl
@[simp] theorem State.emit_slots (s : State) (e : Emission) : (s.emit e).slots = s.slots := rfl
@[simp] theorem State.emit_caps (s : State) (e : Emission) : (s.emit e).caps = s.caps := rfl
@[simp] theorem State.emit_image (s : State) (e : Emission) : (s.emit e).image = s.image := rfl
@[simp] theorem State.emit_time (s : State) (e : Emission) : (s.emit e).time = s.time := rfl
@[simp] theorem State.emit_sco (s : State) (e : Emission) : (s.emit e).sco = s.sco := rfl
@[simp] theorem State.emit_logs (s : State) (e : Emission) : (s.emit e).logs = s.logs := rfl
@[simp] theorem State.emit_mram (s : State) (e : Emission) : (s.emit e).mram = s.mram := rfl
@[simp] theorem State.emit_fab (s : State) (e : Emission) : (s.emit e).fab = s.fab := rfl
@[simp] theorem State.emit_wall (s : State) (e : Emission) : (s.emit e).wall = s.wall := rfl
@[simp] theorem State.emit_boot (s : State) (e : Emission) : (s.emit e).boot = s.boot := rfl
@[simp] theorem State.emit_plat (s : State) (e : Emission) : (s.emit e).plat = s.plat := rfl
@[simp] theorem State.emit_flash (s : State) (e : Emission) : (s.emit e).flash = s.flash := rfl
@[simp] theorem State.emit_ctxs (s : State) (e : Emission) : (s.emit e).ctxs = s.ctxs := rfl
@[simp] theorem State.emit_encs (s : State) (e : Emission) : (s.emit e).encs = s.encs := rfl
@[simp] theorem State.emit_nets (s : State) (e : Emission) : (s.emit e).nets = s.nets := rfl
@[simp] theorem State.emit_dram (s : State) (e : Emission) : (s.emit e).dram = s.dram := rfl
@[simp] theorem State.emit_mem (s : State) (e : Emission) : (s.emit e).mem = s.mem := rfl
@[simp] theorem State.emit_touch (s : State) (e : Emission) : (s.emit e).touch = s.touch := rfl
@[simp] theorem State.emit_audio (s : State) (e : Emission) : (s.emit e).audio = s.audio := rfl
@[simp] theorem State.emit_cmd (s : State) (e : Emission) : (s.emit e).cmd = s.cmd := rfl
@[simp] theorem State.emit_anomalies (s : State) (e : Emission) : (s.emit e).anomalies = s.anomalies := rfl
@[simp] theorem State.emit_freeCtr (s : State) (e : Emission) : (s.emit e).freeCtr = s.freeCtr := rfl
@[simp] theorem State.emit_pending (s : State) (e : Emission) : (s.emit e).pending = s.pending := rfl
@[simp] theorem State.emit_word (s : State) (e : Emission) (x : Nat) : (s.emit e).word x = s.word x := rfl
@[simp] theorem State.emit_get (s : State) (e : Emission) (x : Fld) : (s.emit e).get x = s.get x := rfl

/-! ### at_ -/

@[simp] theorem State.at__regs (s : State) (t : Word) : (s.at_ t).regs = s.regs := rfl
@[simp] theorem State.at__pend (s : State) (t : Word) : (s.at_ t).pend = s.pend := rfl
@[simp] theorem State.at__pendLayout (s : State) (t : Word) : (s.at_ t).pendLayout = s.pendLayout := rfl
@[simp] theorem State.at__tiles (s : State) (t : Word) : (s.at_ t).tiles = s.tiles := rfl
@[simp] theorem State.at__descs (s : State) (t : Word) : (s.at_ t).descs = s.descs := rfl
@[simp] theorem State.at__dealer (s : State) (t : Word) : (s.at_ t).dealer = s.dealer := rfl
@[simp] theorem State.at__outs (s : State) (t : Word) : (s.at_ t).outs = s.outs := rfl
@[simp] theorem State.at__slots (s : State) (t : Word) : (s.at_ t).slots = s.slots := rfl
@[simp] theorem State.at__caps (s : State) (t : Word) : (s.at_ t).caps = s.caps := rfl
@[simp] theorem State.at__image (s : State) (t : Word) : (s.at_ t).image = s.image := rfl
@[simp] theorem State.at__sco (s : State) (t : Word) : (s.at_ t).sco = s.sco := rfl
@[simp] theorem State.at__logs (s : State) (t : Word) : (s.at_ t).logs = s.logs := rfl
@[simp] theorem State.at__mram (s : State) (t : Word) : (s.at_ t).mram = s.mram := rfl
@[simp] theorem State.at__fab (s : State) (t : Word) : (s.at_ t).fab = s.fab := rfl
@[simp] theorem State.at__wall (s : State) (t : Word) : (s.at_ t).wall = s.wall := rfl
@[simp] theorem State.at__boot (s : State) (t : Word) : (s.at_ t).boot = s.boot := rfl
@[simp] theorem State.at__plat (s : State) (t : Word) : (s.at_ t).plat = s.plat := rfl
@[simp] theorem State.at__flash (s : State) (t : Word) : (s.at_ t).flash = s.flash := rfl
@[simp] theorem State.at__ctxs (s : State) (t : Word) : (s.at_ t).ctxs = s.ctxs := rfl
@[simp] theorem State.at__encs (s : State) (t : Word) : (s.at_ t).encs = s.encs := rfl
@[simp] theorem State.at__nets (s : State) (t : Word) : (s.at_ t).nets = s.nets := rfl
@[simp] theorem State.at__dram (s : State) (t : Word) : (s.at_ t).dram = s.dram := rfl
@[simp] theorem State.at__mem (s : State) (t : Word) : (s.at_ t).mem = s.mem := rfl
@[simp] theorem State.at__touch (s : State) (t : Word) : (s.at_ t).touch = s.touch := rfl
@[simp] theorem State.at__audio (s : State) (t : Word) : (s.at_ t).audio = s.audio := rfl
@[simp] theorem State.at__cmd (s : State) (t : Word) : (s.at_ t).cmd = s.cmd := rfl
@[simp] theorem State.at__anomalies (s : State) (t : Word) : (s.at_ t).anomalies = s.anomalies := rfl
@[simp] theorem State.at__freeCtr (s : State) (t : Word) : (s.at_ t).freeCtr = s.freeCtr := rfl
@[simp] theorem State.at__out (s : State) (t : Word) : (s.at_ t).out = s.out := rfl
@[simp] theorem State.at__pending (s : State) (t : Word) : (s.at_ t).pending = s.pending := rfl
@[simp] theorem State.at__word (s : State) (t : Word) (x : Nat) : (s.at_ t).word x = s.word x := rfl
@[simp] theorem State.at__get (s : State) (t : Word) (x : Fld) : (s.at_ t).get x = s.get x := rfl

@[simp] theorem State.quiet_out (s : State) : s.quiet.out = [] := rfl
@[simp] theorem State.emit_out (s : State) (e : Emission) : (s.emit e).out = s.out ++ [e] := rfl
@[simp] theorem State.at_now (s : State) (t : Word) : (s.at_ t).time.now = t := rfl

/-! ### updTile -/

theorem State.updTile_tile (s : State) (l : Nat) (f : Tile → Tile) (x : Nat) : (s.updTile l f).tile x = if x = l then f (s.tile l) else s.tile x :=
  Tab.get_upd _ _ _ _ _
@[simp] theorem State.updTile_word (s : State) (l : Nat) (f : Tile → Tile) (x : Nat) : (s.updTile l f).word x = s.word x := rfl
@[simp] theorem State.updTile_get (s : State) (l : Nat) (f : Tile → Tile) (x : Fld) : (s.updTile l f).get x = s.get x := rfl
@[simp] theorem State.updTile_out (s : State) (l : Nat) (f : Tile → Tile) : (s.updTile l f).out = s.out := rfl

/-! ### updDesc -/

theorem State.updDesc_desc (s : State) (d : Nat) (f : Desc → Desc) (x : Nat) : (s.updDesc d f).desc x = if x = d then f (s.desc d) else s.desc x :=
  Tab.get_upd _ _ _ _ _
@[simp] theorem State.updDesc_word (s : State) (d : Nat) (f : Desc → Desc) (x : Nat) : (s.updDesc d f).word x = s.word x := rfl
@[simp] theorem State.updDesc_get (s : State) (d : Nat) (f : Desc → Desc) (x : Fld) : (s.updDesc d f).get x = s.get x := rfl
@[simp] theorem State.updDesc_out (s : State) (d : Nat) (f : Desc → Desc) : (s.updDesc d f).out = s.out := rfl

/-! ### updOut -/

theorem State.updOut_outp (s : State) (o : Nat) (f : OutSt → OutSt) (x : Nat) : (s.updOut o f).outp x = if x = o then f (s.outp o) else s.outp x :=
  Tab.get_upd _ _ _ _ _
@[simp] theorem State.updOut_word (s : State) (o : Nat) (f : OutSt → OutSt) (x : Nat) : (s.updOut o f).word x = s.word x := rfl
@[simp] theorem State.updOut_get (s : State) (o : Nat) (f : OutSt → OutSt) (x : Fld) : (s.updOut o f).get x = s.get x := rfl
@[simp] theorem State.updOut_out (s : State) (o : Nat) (f : OutSt → OutSt) : (s.updOut o f).out = s.out := rfl

/-! ### updCap -/

theorem State.updCap_cap (s : State) (i : Nat) (f : CapSt → CapSt) (x : Nat) : (s.updCap i f).cap x = if x = i then f (s.cap i) else s.cap x :=
  Tab.get_upd _ _ _ _ _
@[simp] theorem State.updCap_word (s : State) (i : Nat) (f : CapSt → CapSt) (x : Nat) : (s.updCap i f).word x = s.word x := rfl
@[simp] theorem State.updCap_get (s : State) (i : Nat) (f : CapSt → CapSt) (x : Fld) : (s.updCap i f).get x = s.get x := rfl
@[simp] theorem State.updCap_out (s : State) (i : Nat) (f : CapSt → CapSt) : (s.updCap i f).out = s.out := rfl

/-! ### updNet -/

theorem State.updNet_net (s : State) (n : Nat) (f : NetSt → NetSt) (x : Nat) : (s.updNet n f).net x = if x = n then f (s.net n) else s.net x :=
  Tab.get_upd _ _ _ _ _
@[simp] theorem State.updNet_word (s : State) (n : Nat) (f : NetSt → NetSt) (x : Nat) : (s.updNet n f).word x = s.word x := rfl
@[simp] theorem State.updNet_get (s : State) (n : Nat) (f : NetSt → NetSt) (x : Fld) : (s.updNet n f).get x = s.get x := rfl
@[simp] theorem State.updNet_out (s : State) (n : Nat) (f : NetSt → NetSt) : (s.updNet n f).out = s.out := rfl

/-! ### updCtx -/

theorem State.updCtx_ctx (s : State) (c : Nat) (f : CtxSt → CtxSt) (x : Nat) : (s.updCtx c f).ctx x = if x = c then f (s.ctx c) else s.ctx x :=
  Tab.get_upd _ _ _ _ _
@[simp] theorem State.updCtx_word (s : State) (c : Nat) (f : CtxSt → CtxSt) (x : Nat) : (s.updCtx c f).word x = s.word x := rfl
@[simp] theorem State.updCtx_get (s : State) (c : Nat) (f : CtxSt → CtxSt) (x : Fld) : (s.updCtx c f).get x = s.get x := rfl
@[simp] theorem State.updCtx_out (s : State) (c : Nat) (f : CtxSt → CtxSt) : (s.updCtx c f).out = s.out := rfl

/-! ### updEnc -/

theorem State.updEnc_enc (s : State) (e : Nat) (f : EncSt → EncSt) (x : Nat) : (s.updEnc e f).enc x = if x = e then f (s.enc e) else s.enc x :=
  Tab.get_upd _ _ _ _ _
@[simp] theorem State.updEnc_word (s : State) (e : Nat) (f : EncSt → EncSt) (x : Nat) : (s.updEnc e f).word x = s.word x := rfl
@[simp] theorem State.updEnc_get (s : State) (e : Nat) (f : EncSt → EncSt) (x : Fld) : (s.updEnc e f).get x = s.get x := rfl
@[simp] theorem State.updEnc_out (s : State) (e : Nat) (f : EncSt → EncSt) : (s.updEnc e f).out = s.out := rfl

/-! ### updTch -/

theorem State.updTch_tch (s : State) (p : Nat) (f : TouchSt → TouchSt) (x : Nat) : (s.updTch p f).tch x = if x = p then f (s.tch p) else s.tch x :=
  Tab.get_upd _ _ _ _ _
@[simp] theorem State.updTch_word (s : State) (p : Nat) (f : TouchSt → TouchSt) (x : Nat) : (s.updTch p f).word x = s.word x := rfl
@[simp] theorem State.updTch_get (s : State) (p : Nat) (f : TouchSt → TouchSt) (x : Fld) : (s.updTch p f).get x = s.get x := rfl
@[simp] theorem State.updTch_out (s : State) (p : Nat) (f : TouchSt → TouchSt) : (s.updTch p f).out = s.out := rfl

/-! ### updAud -/

theorem State.updAud_aud (s : State) (p : Nat) (f : AudSt → AudSt) (x : Nat) : (s.updAud p f).aud x = if x = p then f (s.aud p) else s.aud x :=
  Tab.get_upd _ _ _ _ _
@[simp] theorem State.updAud_word (s : State) (p : Nat) (f : AudSt → AudSt) (x : Nat) : (s.updAud p f).word x = s.word x := rfl
@[simp] theorem State.updAud_get (s : State) (p : Nat) (f : AudSt → AudSt) (x : Fld) : (s.updAud p f).get x = s.get x := rfl
@[simp] theorem State.updAud_out (s : State) (p : Nat) (f : AudSt → AudSt) : (s.updAud p f).out = s.out := rfl

/-! ### updPort -/

theorem State.updPort_port (s : State) (p : Nat) (f : PortSt → PortSt) (x : Nat) : (s.updPort p f).port x = if x = p then f (s.port p) else s.port x :=
  Tab.get_upd _ _ _ _ _
@[simp] theorem State.updPort_word (s : State) (p : Nat) (f : PortSt → PortSt) (x : Nat) : (s.updPort p f).word x = s.word x := rfl
@[simp] theorem State.updPort_get (s : State) (p : Nat) (f : PortSt → PortSt) (x : Fld) : (s.updPort p f).get x = s.get x := rfl
@[simp] theorem State.updPort_out (s : State) (p : Nat) (f : PortSt → PortSt) : (s.updPort p f).out = s.out := rfl

/-! ### updDealer -/

@[simp] theorem State.updDealer_dealer (s : State) (f : Dealer → Dealer) : (s.updDealer f).dealer = f s.dealer := rfl
@[simp] theorem State.updDealer_word (s : State) (f : Dealer → Dealer) (x : Nat) : (s.updDealer f).word x = s.word x := rfl
@[simp] theorem State.updDealer_get (s : State) (f : Dealer → Dealer) (x : Fld) : (s.updDealer f).get x = s.get x := rfl
@[simp] theorem State.updDealer_out (s : State) (f : Dealer → Dealer) : (s.updDealer f).out = s.out := rfl

/-! ### updTime -/

@[simp] theorem State.updTime_time (s : State) (f : TimeSt → TimeSt) : (s.updTime f).time = f s.time := rfl
@[simp] theorem State.updTime_word (s : State) (f : TimeSt → TimeSt) (x : Nat) : (s.updTime f).word x = s.word x := rfl
@[simp] theorem State.updTime_get (s : State) (f : TimeSt → TimeSt) (x : Fld) : (s.updTime f).get x = s.get x := rfl
@[simp] theorem State.updTime_out (s : State) (f : TimeSt → TimeSt) : (s.updTime f).out = s.out := rfl

/-! ### updFab -/

@[simp] theorem State.updFab_fab (s : State) (f : FabSt → FabSt) : (s.updFab f).fab = f s.fab := rfl
@[simp] theorem State.updFab_word (s : State) (f : FabSt → FabSt) (x : Nat) : (s.updFab f).word x = s.word x := rfl
@[simp] theorem State.updFab_get (s : State) (f : FabSt → FabSt) (x : Fld) : (s.updFab f).get x = s.get x := rfl
@[simp] theorem State.updFab_out (s : State) (f : FabSt → FabSt) : (s.updFab f).out = s.out := rfl

/-! ### updCmd -/

@[simp] theorem State.updCmd_cmd (s : State) (f : CmdSt → CmdSt) : (s.updCmd f).cmd = f s.cmd := rfl
@[simp] theorem State.updCmd_word (s : State) (f : CmdSt → CmdSt) (x : Nat) : (s.updCmd f).word x = s.word x := rfl
@[simp] theorem State.updCmd_get (s : State) (f : CmdSt → CmdSt) (x : Fld) : (s.updCmd f).get x = s.get x := rfl
@[simp] theorem State.updCmd_out (s : State) (f : CmdSt → CmdSt) : (s.updCmd f).out = s.out := rfl

/-! ### updBoot -/

@[simp] theorem State.updBoot_boot (s : State) (f : BootSt → BootSt) : (s.updBoot f).boot = f s.boot := rfl
@[simp] theorem State.updBoot_word (s : State) (f : BootSt → BootSt) (x : Nat) : (s.updBoot f).word x = s.word x := rfl
@[simp] theorem State.updBoot_get (s : State) (f : BootSt → BootSt) (x : Fld) : (s.updBoot f).get x = s.get x := rfl
@[simp] theorem State.updBoot_out (s : State) (f : BootSt → BootSt) : (s.updBoot f).out = s.out := rfl

/-! ### updPlat -/

@[simp] theorem State.updPlat_plat (s : State) (f : PlatSt → PlatSt) : (s.updPlat f).plat = f s.plat := rfl
@[simp] theorem State.updPlat_word (s : State) (f : PlatSt → PlatSt) (x : Nat) : (s.updPlat f).word x = s.word x := rfl
@[simp] theorem State.updPlat_get (s : State) (f : PlatSt → PlatSt) (x : Fld) : (s.updPlat f).get x = s.get x := rfl
@[simp] theorem State.updPlat_out (s : State) (f : PlatSt → PlatSt) : (s.updPlat f).out = s.out := rfl

/-! ### updMem -/

@[simp] theorem State.updMem_mem (s : State) (f : MemSt → MemSt) : (s.updMem f).mem = f s.mem := rfl
@[simp] theorem State.updMem_word (s : State) (f : MemSt → MemSt) (x : Nat) : (s.updMem f).word x = s.word x := rfl
@[simp] theorem State.updMem_get (s : State) (f : MemSt → MemSt) (x : Fld) : (s.updMem f).get x = s.get x := rfl
@[simp] theorem State.updMem_out (s : State) (f : MemSt → MemSt) : (s.updMem f).out = s.out := rfl

/-! ### updWall -/

@[simp] theorem State.updWall_wall (s : State) (f : WallSt → WallSt) : (s.updWall f).wall = f s.wall := rfl
@[simp] theorem State.updWall_word (s : State) (f : WallSt → WallSt) (x : Nat) : (s.updWall f).word x = s.word x := rfl
@[simp] theorem State.updWall_get (s : State) (f : WallSt → WallSt) (x : Fld) : (s.updWall f).get x = s.get x := rfl
@[simp] theorem State.updWall_out (s : State) (f : WallSt → WallSt) : (s.updWall f).out = s.out := rfl

end Sys2Proof.Machine
end

