-- ==== Sys2Proof/Laws/Rows.lean ====
section
/-!
SUPPORT. What every row's meaning has in common: the awake and scorer forms, and what a frame composes to.
-/

set_option linter.all false

namespace Sys2Proof.Machine

open Sys2Proof

/-- A row that does not act in RESET runs one update of an awake device. -/
theorem exec_awake (c : Instr) (h : actsInReset c = false) : ∃ f : State → State, ∀ s, exec c s = .next (s.awake f) := by
  cases c <;> first | exact ⟨_, fun _ => rfl⟩ | cases h

/-- A row of the Scorer's cores. -/
theorem exec_scorer (c : Instr) (h : scorerRow c = true) : ∃ f : State → State, ∀ s, exec c s = .next (s.scorer f) := by
  cases c <;> first | (cases h; done) | exact ⟨_, fun _ => rfl⟩

theorem State.awake_up (s : State) (f : State → State) (h : s.up) : s.awake f = f s.quiet := if_neg h

theorem State.awake_reset (s : State) (f : State → State) (h : s.devState = stReset) : s.awake f = s.quiet := if_pos h

theorem State.scorer_scoring (s : State) (f : State → State) (h : s.scoring) : s.scorer f = f s.quiet := by
  simp [State.scorer, State.awake_up _ _ h.1, h.2]

/-- An awake row answers the update. -/
theorem gives_awake {i : Instr} {s : State} {P : State → Prop} (f : State → State) (hu : s.up)
    (he : exec i s = .next (s.awake f)) (h : P (f s.quiet)) : Gives i s P :=
  ⟨_, he.trans (by rw [State.awake_up _ _ hu]), h⟩

/-- A row of the Scorer answers the update. -/
theorem gives_scorer {i : Instr} {s : State} {P : State → Prop} (f : State → State) (hu : s.scoring)
    (he : exec i s = .next (s.scorer f)) (h : P (f s.quiet)) : Gives i s P :=
  ⟨_, he.trans (by rw [State.scorer_scoring _ _ hu]), h⟩

@[simp] theorem State.quiet_devState (s : State) : s.quiet.devState = s.devState := rfl
@[simp] theorem State.quiet_up (s : State) : s.quiet.up = s.up := rfl

/-! ### Frames -/

theorem Part.Same.refl (p : Part) (s : State) : p.Same s s := by cases p <;> rfl

theorem Part.Same.trans {p : Part} {s t u : State} (h : p.Same s t) (k : p.Same t u) : p.Same s u := by
  cases p <;> exact Eq.trans k h

theorem Keeps.refl (ps : List Part) (W : Nat → Prop) (s : State) : Keeps ps W s s :=
  ⟨rfl, fun p _ => Part.Same.refl p s, fun _ _ => rfl⟩

theorem Keeps.trans {ps : List Part} {W : Nat → Prop} {s t u : State} (h : Keeps ps W s t) (k : Keeps ps W t u) :
    Keeps ps W s u :=
  ⟨k.1.trans h.1, fun p hp => (h.2.1 p hp).trans (k.2.1 p hp), fun a ha => (k.2.2 a ha).trans (h.2.2 a ha)⟩

theorem Keeps.quiet (ps : List Part) (W : Nat → Prop) (s : State) : Keeps ps W s s.quiet :=
  ⟨rfl, fun p _ => by cases p <;> rfl, fun _ _ => rfl⟩

/-- A write of a register stays in a frame that names its address. -/
theorem Keeps.setWord {ps : List Part} {W : Nat → Prop} {s t : State} (h : Keeps ps W s t) (a : Nat) (w : Word) (ha : W a) :
    Keeps ps W s (t.setWord a w) :=
  ⟨h.1, fun p hp => (h.2.1 p hp).trans (by cases p <;> rfl), fun b hb => by
    rw [State.word_setWord, if_neg (by intro e; subst e; exact hb ha)]; exact h.2.2 b hb⟩

/-- A write of a field stays in a frame that names its register. -/
theorem Keeps.set {ps : List Part} {W : Nat → Prop} {s t : State} (h : Keeps ps W s t) (f : Fld) (v : Nat) (ha : W f.addr) :
    Keeps ps W s (t.set f v) := h.setWord _ _ ha

theorem Keeps.emit {ps : List Part} {W : Nat → Prop} {s t : State} (h : Keeps ps W s t) (e : Emission) :
    Keeps ps W s (t.emit e) :=
  ⟨h.1, fun p hp => (h.2.1 p hp).trans (by cases p <;> rfl), h.2.2⟩

/-- An update that keeps the registers and the queue stays in a frame that names every part it changes. -/
theorem Keeps.part {ps : List Part} {W : Nat → Prop} {s t u : State} (h : Keeps ps W s t) (hp : u.pending = t.pending)
    (hr : u.regs = t.regs) (hs : ∀ p, p ∉ ps → p.Same t u) : Keeps ps W s u :=
  ⟨hp.trans h.1, fun p hp => (h.2.1 p hp).trans (hs p hp), fun a ha => by
    rw [← h.2.2 a ha]; simp [State.word, hr]⟩

/-- A frame may be widened. -/
theorem Keeps.mono {ps qs : List Part} {W V : Nat → Prop} {s t : State} (h : Keeps ps W s t) (hp : ∀ p ∈ ps, p ∈ qs)
    (hw : ∀ a, W a → V a) : Keeps qs V s t :=
  ⟨h.1, fun p q => h.2.1 p (fun m => q (hp p m)), fun a ha => h.2.2 a (fun m => ha (hw a m))⟩

/-! ### Shared operations -/

theorem Keeps.hostVec {ps : List Part} {W : Nat → Prop} {a s : State} (h : Keeps ps W a s) (n : Nat)
    (hw : W Reg.HST_INT_STATUS) : Keeps ps W a (s.hostVec n) := by
  have k := h.set .HST_INT_STATUS_VEC (setBitN (s.get .HST_INT_STATUS_VEC) n) hw
  unfold State.hostVec
  dsimp only
  split
  · exact k.emit _
  · exact k

/-- R425: FAULT_N follows its conditions in SCO_FAULTN and SCO_STATUS; a change of level raises vector 2. -/
theorem Keeps.settleFault {ps : List Part} {W : Nat → Prop} {a s : State} (h : Keeps ps W a s) (h1 : W Reg.SCO_FAULTN)
    (h2 : W Reg.SCO_STATUS) (h3 : W Reg.HST_INT_STATUS) : Keeps ps W a s.settleFault := by
  have k := ((h.set .SCO_FAULTN_STATE (b2n (!s.dealing)) h1).set .SCO_FAULTN_OUTPUT (b2n (s.notVideo != 0)) h1).set
    .SCO_FAULTN_OUTPUTS s.notVideo h1
  unfold State.settleFault
  dsimp only
  split
  · exact k.set _ _ h1
  · exact ((k.set _ _ h1).set _ _ h2).hostVec _ h3

/-- A device state kept by a frame that does not name its register. -/
theorem Keeps.devState {ps : List Part} {W : Nat → Prop} {s t : State} (h : Keeps ps W s t) (hw : ¬ W Reg.BKR_DEV_STATE) :
    t.devState = s.devState := congrArg Fld.BKR_DEV_STATE_STATE.of (h.2.2 _ hw)

theorem Keeps.get {ps : List Part} {W : Nat → Prop} {s t : State} (h : Keeps ps W s t) (f : Fld) (hw : ¬ W f.addr) :
    t.get f = s.get f := congrArg f.of (h.2.2 _ hw)

theorem State.word_of_regs {s t : State} (h : t.regs = s.regs) (a : Nat) : t.word a = s.word a := by
  simp [State.word, h]

theorem State.devState_of_regs {s t : State} (h : t.regs = s.regs) : t.devState = s.devState :=
  congrArg Fld.BKR_DEV_STATE_STATE.of (State.word_of_regs h _)

theorem State.word_of_nil {s : State} (h : s.regs = []) (a : Nat) : s.word a = regReset a := by
  simp [State.word, h, Tab.get]

end Sys2Proof.Machine
end

