-- ==== Sys2Proof/Laws/Stored.lean ====
section
/-!
SUPPORT. Which operations leave the stored memories alone: `stored` is the queue of commands, external memory, the log store,
the flash and the fuse cells; one lemma per operation that leaves all of them as they are.
-/

set_option linter.all false

namespace Sys2Proof.Machine

open Sys2Proof

/-- The queue, external memory, the log store, the flash and the fuse cells. -/
def State.stored (s : State) : List Instr × Tab Byte × Tab Byte × Tab Byte × Tab Word × Tab Word :=
  (s.pending, s.dram, s.mram, s.flash, s.plat.fuses, s.plat.fusesB)

@[simp] theorem stored_fold (s : State) : (s.pending, s.dram, s.mram, s.flash, s.plat.fuses, s.plat.fusesB) = s.stored := (rfl)
theorem stored_each {α : Type} (xs : List α) (f : State → α → State) (h : ∀ s x, (f s x).stored = s.stored) (s : State) : (s.each xs f).stored = s.stored := by
  unfold State.each
  induction xs generalizing s with
  | nil => rfl
  | cons x xs ih => simp [List.foldl, ih, h]
theorem stored_foldl {α : Type} (xs : List α) (f : State → α → State) (h : ∀ s x, (f s x).stored = s.stored) (s : State) : (xs.foldl f s).stored = s.stored := stored_each xs f h s
theorem stored_when (c : Bool) (f : State → State) (h : ∀ s, (f s).stored = s.stored) (s : State) : (s.when c f).stored = s.stored := by
  unfold State.when; split <;> simp [h]
theorem stored_ite (c : Prop) [Decidable c] (x y : State) : (if c then x else y).stored = if c then x.stored else y.stored := by split <;> rfl
@[simp] theorem stored_with_regs (s : State) (v) : ({ s with regs := v } : State).stored = s.stored := (rfl)
@[simp] theorem stored_with_pend (s : State) (v) : ({ s with pend := v } : State).stored = s.stored := (rfl)
@[simp] theorem stored_with_pendLayout (s : State) (v) : ({ s with pendLayout := v } : State).stored = s.stored := (rfl)
@[simp] theorem stored_with_tiles (s : State) (v) : ({ s with tiles := v } : State).stored = s.stored := (rfl)
@[simp] theorem stored_with_descs (s : State) (v) : ({ s with descs := v } : State).stored = s.stored := (rfl)
@[simp] theorem stored_with_dealer (s : State) (v) : ({ s with dealer := v } : State).stored = s.stored := (rfl)
@[simp] theorem stored_with_outs (s : State) (v) : ({ s with outs := v } : State).stored = s.stored := (rfl)
@[simp] theorem stored_with_slots (s : State) (v) : ({ s with slots := v } : State).stored = s.stored := (rfl)
@[simp] theorem stored_with_caps (s : State) (v) : ({ s with caps := v } : State).stored = s.stored := (rfl)
@[simp] theorem stored_with_image (s : State) (v) : ({ s with image := v } : State).stored = s.stored := (rfl)
@[simp] theorem stored_with_time (s : State) (v) : ({ s with time := v } : State).stored = s.stored := (rfl)
@[simp] theorem stored_with_sco (s : State) (v) : ({ s with sco := v } : State).stored = s.stored := (rfl)
@[simp] theorem stored_with_logs (s : State) (v) : ({ s with logs := v } : State).stored = s.stored := (rfl)
@[simp] theorem stored_with_fab (s : State) (v) : ({ s with fab := v } : State).stored = s.stored := (rfl)
@[simp] theorem stored_with_wall (s : State) (v) : ({ s with wall := v } : State).stored = s.stored := (rfl)
@[simp] theorem stored_with_boot (s : State) (v) : ({ s with boot := v } : State).stored = s.stored := (rfl)
@[simp] theorem stored_with_ctxs (s : State) (v) : ({ s with ctxs := v } : State).stored = s.stored := (rfl)
@[simp] theorem stored_with_encs (s : State) (v) : ({ s with encs := v } : State).stored = s.stored := (rfl)
@[simp] theorem stored_with_nets (s : State) (v) : ({ s with nets := v } : State).stored = s.stored := (rfl)
@[simp] theorem stored_with_mem (s : State) (v) : ({ s with mem := v } : State).stored = s.stored := (rfl)
@[simp] theorem stored_with_touch (s : State) (v) : ({ s with touch := v } : State).stored = s.stored := (rfl)
@[simp] theorem stored_with_audio (s : State) (v) : ({ s with audio := v } : State).stored = s.stored := (rfl)
@[simp] theorem stored_with_cmd (s : State) (v) : ({ s with cmd := v } : State).stored = s.stored := (rfl)
@[simp] theorem stored_with_anomalies (s : State) (v) : ({ s with anomalies := v } : State).stored = s.stored := (rfl)
@[simp] theorem stored_with_freeCtr (s : State) (v) : ({ s with freeCtr := v } : State).stored = s.stored := (rfl)
@[simp] theorem stored_with_out (s : State) (v) : ({ s with out := v } : State).stored = s.stored := (rfl)
@[simp] theorem stored_with_pends (s : State) (v w) : ({ s with pend := v, pendLayout := w } : State).stored = s.stored := (rfl)
theorem stored_updPlat (s : State) (f : PlatSt → PlatSt) (h : ∀ p, (f p).fuses = p.fuses ∧ (f p).fusesB = p.fusesB) : (s.updPlat f).stored = s.stored := by
  show (s.pending, s.dram, s.mram, s.flash, (f s.plat).fuses, (f s.plat).fusesB) = _; rw [(h _).1, (h _).2]; rfl
set_option linter.unusedSimpArgs false

@[simp] theorem stored_setWord (s : State) (a : Nat) (w : Word) : (s.setWord a w).stored = s.stored := (rfl)
@[simp] theorem stored_set (s : State) (f : Fld) (v : Nat) : (s.set f v).stored = s.stored := (rfl)
@[simp] theorem stored_setB (s : State) (f : Fld) (b : Bool) : (s.setB f b).stored = s.stored := (rfl)
@[simp] theorem stored_setW (s : State) (f : Fld) (w : Word) : (s.setW f w).stored = s.stored := (rfl)
@[simp] theorem stored_setI (s : State) (f : Fld) (i : Int) : (s.setI f i).stored = s.stored := (rfl)
@[simp] theorem stored_count (s : State) (f : Fld) (k : Nat ) : (s.count f k).stored = s.stored := (rfl)
@[simp] theorem stored_next (s : State) (f : Fld) : (s.next f).stored = s.stored := (rfl)
@[simp] theorem stored_updTile (s : State) (l : Nat) (f : Tile → Tile) : (s.updTile l f).stored = s.stored := (rfl)
@[simp] theorem stored_updDesc (s : State) (d : Nat) (f : Desc → Desc) : (s.updDesc d f).stored = s.stored := (rfl)
@[simp] theorem stored_updOut (s : State) (o : Nat) (f : OutSt → OutSt) : (s.updOut o f).stored = s.stored := (rfl)
@[simp] theorem stored_updSlot (s : State) (o j : Nat) (f : SlotSt → SlotSt) : (s.updSlot o j f).stored = s.stored := (rfl)
@[simp] theorem stored_updCap (s : State) (i : Nat) (f : CapSt → CapSt) : (s.updCap i f).stored = s.stored := (rfl)
@[simp] theorem stored_updDealer (s : State) (f : Dealer → Dealer) : (s.updDealer f).stored = s.stored := (rfl)
@[simp] theorem stored_updBoot (s : State) (f : BootSt → BootSt) : (s.updBoot f).stored = s.stored := (rfl)
@[simp] theorem stored_stopRun (s : State) (cls : EngineClass) (job : Nat) : (s.stopRun cls job).stored = s.stored := by
  unfold State.stopRun; (repeat' split) <;> simp [stored_each, stored_foldl, stored_when, stored_ite, stored_updPlat]
@[simp] theorem stored_at_ (s : State) (t : Word) : (s.at_ t).stored = s.stored := (rfl)
@[simp] theorem stored_logPut (s : State) (r : LogRec) : (s.logPut r).stored = s.stored :=
  by unfold State.logPut; simp [stored_ite]
@[simp] theorem stored_log (s : State) (event : Nat) (args : List Nat) : (s.log event args).stored = s.stored :=
  by unfold State.log; simp
@[simp] theorem stored_updMem (s : State) (f : MemSt → MemSt) : (s.updMem f).stored = s.stored := (rfl)
@[simp] theorem stored_charge_ (s : State) (port n : Nat) : (s.charge_ port n).stored = s.stored := (rfl)
@[simp] theorem stored_chargeBlocks (s : State) (port n : Nat) : (s.chargeBlocks port n).stored = s.stored := by
  unfold State.chargeBlocks; (repeat' split) <;> simp [stored_each, stored_foldl, stored_when, stored_ite, stored_updPlat]
@[simp] theorem stored_persist (s : State) (port a kind : Nat) : (s.persist port a kind).stored = s.stored :=
  by unfold State.persist; simp
@[simp] theorem stored_persistAll (s : State) (port : Nat) (bs : List Nat) : (s.persistAll port bs).stored = s.stored := by
  unfold State.persistAll; (repeat' split) <;> simp [stored_each, stored_foldl, stored_when, stored_ite, stored_updPlat]
@[simp] theorem stored_quiet (s : State) : (s.quiet).stored = s.stored := (rfl)
@[simp] theorem stored_emit (s : State) (e : Emission) : (s.emit e).stored = s.stored := (rfl)
@[simp] theorem stored_fresh_st (s : State) : (s.fresh).2.stored = s.stored := (rfl)
@[simp] theorem stored_roundFree_st (s : State) (q : Rat) : (s.roundFree q).2.stored = s.stored :=
  by unfold State.roundFree; split <;> simp
@[simp] theorem stored_safeCause (s : State) (cause : Nat) : (s.safeCause cause).stored = s.stored :=
  by unfold State.safeCause; split <;> simp
@[simp] theorem stored_updNet (s : State) (n : Nat) (f : NetSt → NetSt) : (s.updNet n f).stored = s.stored := (rfl)
@[simp] theorem stored_deckSend (s : State) (n : Nat) (x : DeckTx) : (s.deckSend n x).stored = s.stored := (rfl)
@[simp] theorem stored_showRead (s : State) (a : Nat) (v : Word) : (s.showRead a v).stored = s.stored := (rfl)
@[simp] theorem stored_hostVec (s : State) (n : Nat) : (s.hostVec n).stored = s.stored :=
  by unfold State.hostVec; simp [stored_ite]
@[simp] theorem stored_settleFault (s : State) : (s.settleFault).stored = s.stored :=
  by unfold State.settleFault; dsimp only; (repeat' split) <;> simp
@[simp] theorem stored_fillBuf (s : State) (d : Nat) (src : BitVec 16) : (s.fillBuf d src).stored = s.stored := (rfl)
@[simp] theorem stored_freeBuf (s : State) (d : Nat) : (s.freeBuf d).stored = s.stored := (rfl)
@[simp] theorem stored_settleBuf (s : State) (d : Nat) : (s.settleBuf d).stored = s.stored :=
  by unfold State.settleBuf; simp [stored_ite]
@[simp] theorem stored_hold (s : State) (d bit : Nat) : (s.hold d bit).stored = s.stored := (rfl)
@[simp] theorem stored_unhold (s : State) (d bit : Nat) : (s.unhold d bit).stored = s.stored := by unfold State.unhold; simp
@[simp] theorem stored_retireBuf (s : State) (d : Nat) : (s.retireBuf d).stored = s.stored := by unfold State.retireBuf; simp
@[simp] theorem stored_retain (s : State) (src : BitVec 16) : (s.retain src).stored = s.stored :=
  by unfold State.retain; dsimp only; (repeat' split) <;> simp
@[simp] theorem stored_headerCheck (s : State) (d : Nat) (h : BufHdr) : (s.headerCheck d h).stored = s.stored :=
  by unfold State.headerCheck; simp [stored_ite]
@[simp] theorem stored_freeRequest (s : State) (d : Nat) : (s.freeRequest d).stored = s.stored :=
  by unfold State.freeRequest; dsimp only; (repeat' split) <;> simp
@[simp] theorem stored_setHist (s : State) (j : Judge) (l : Nat) (h : TileHist) : (s.setHist j l h).stored = s.stored := (rfl)
@[simp] theorem stored_assignTile (s : State) (l : Nat) : (s.assignTile l).stored = s.stored := (rfl)
@[simp] theorem stored_emptyTile (s : State) (l : Nat) : (s.emptyTile l).stored = s.stored := (rfl)
@[simp] theorem stored_judgeAll (s : State) (j : Judge) : (s.judgeAll j).stored = s.stored :=
  by unfold State.judgeAll; simp [stored_each, stored_foldl, stored_when, stored_ite, stored_updPlat]
@[simp] theorem stored_noteEligible (s : State) (l : Nat) : (s.noteEligible l).stored = s.stored := (rfl)
@[simp] theorem stored_countHolds (s : State) : (s.countHolds).stored = s.stored :=
  by unfold State.countHolds; simp [stored_each, stored_foldl, stored_when, stored_ite, stored_updPlat]
@[simp] theorem stored_leases (s : State) (o : Nat) : (s.leases o).stored = s.stored :=
  by unfold State.leases; simp [stored_each, stored_foldl, stored_when, stored_ite, stored_updPlat]
@[simp] theorem stored_firstTiles (s : State) : (s.firstTiles).stored = s.stored := by
  unfold State.firstTiles; dsimp only; (repeat' split) <;> simp [stored_each, stored_foldl, stored_when, stored_ite, stored_updPlat]
@[simp] theorem stored_evalTiles (s : State) (faults : List (Nat × Nat)) : (s.evalTiles faults).stored = s.stored :=
  by
    unfold State.evalTiles; dsimp only
    rw [stored_each _ _ (by intro s l; simp only [stored_leases]), stored_each, stored_each, stored_judgeAll,
      stored_judgeAll, stored_each, stored_countHolds, stored_with_anomalies, stored_each]
    · intro s l; exact stored_noteEligible ..
    · intro s l; exact stored_updTile ..
    · intro s x; exact stored_updTile ..
    · intro s l; split <;> simp only [stored_set, stored_setW]
@[simp] theorem stored_showTile (s : State) (l : Nat) : (s.showTile l).stored = s.stored :=
  by unfold State.showTile; simp [stored_ite]
@[simp] theorem stored_setBlank (s : State) (o bit : Nat) : (s.setBlank o bit).stored = s.stored :=
  by unfold State.setBlank; simp [stored_ite]
@[simp] theorem stored_clearBlank (s : State) (o bit : Nat) : (s.clearBlank o bit).stored = s.stored := (rfl)
@[simp] theorem stored_scorerBlank (s : State) (o cause : Nat) : (s.scorerBlank o cause).stored = s.stored :=
  by unfold State.scorerBlank; split <;> simp
@[simp] theorem stored_disagree (s : State) (l : Nat) : (State.disagree s l).stored = s.stored := by unfold State.disagree; dsimp only; simp only [stored_log, stored_setB, stored_with_sco, stored_set, stored_count]
@[simp] theorem stored_scorerVerdict (s : State) : (s.scorerVerdict).stored = s.stored :=
  by unfold State.scorerVerdict; simp [stored_each, stored_foldl, stored_when, stored_ite, stored_updPlat]
@[simp] theorem stored_takeVerdicts (s : State) : (s.takeVerdicts).stored = s.stored :=
  by unfold State.takeVerdicts; simp [stored_each, stored_foldl, stored_when, stored_ite, stored_updPlat]
@[simp] theorem stored_loadContracts (s : State) (y : LayoutDesc) : (s.loadContracts y).stored = s.stored :=
  by unfold State.loadContracts; simp [stored_each, stored_foldl, stored_when, stored_ite, stored_updPlat]
@[simp] theorem stored_scorerContracts (s : State) (y : LayoutDesc) : (s.scorerContracts y).stored = s.stored :=
  by unfold State.scorerContracts; simp [stored_each, stored_foldl, stored_when, stored_ite, stored_updPlat]
@[simp] theorem stored_compareContracts (s : State) : (s.compareContracts).stored = s.stored :=
  by unfold State.compareContracts; simp [stored_each, stored_foldl, stored_when, stored_ite, stored_updPlat]
@[simp] theorem stored_putScalers (s : State) (o : Nat) (asg : List (Nat × Nat × Option Nat)) : (s.putScalers o asg).stored = s.stored := by
  unfold State.putScalers; dsimp only; rw [stored_set, stored_set, stored_each, stored_each, stored_each, stored_each]
  · intro s k; simp only [stored_setWord]
  · intro s x; obtain ⟨l, a, b⟩ := x; dsimp only; split <;> simp only [stored_set, stored_setB]
  · intro s l; simp only [stored_set, stored_setB]
  · intro s l; simp only [stored_setWord]
@[simp] theorem stored_reportMask (s : State) (o y cause : Nat) (tiles : List Nat) : (s.reportMask o y cause tiles).stored = s.stored :=
  by unfold State.reportMask; simp [stored_each, stored_foldl, stored_when, stored_ite, stored_updPlat]
@[simp] theorem stored_maskLine (s : State) (o y cause : Nat) (tiles : List Nat) : (s.maskLine o y cause tiles).stored = s.stored :=
  by unfold State.maskLine; simp
@[simp] theorem stored_putFifo (s : State) (o y : Nat) (st : LineStatus) : (s.putFifo o y st).stored = s.stored := (rfl)
@[simp] theorem stored_markBad (s : State) (d : Nat) : (s.markBad d).stored = s.stored :=
  by unfold State.markBad; simp [stored_each, stored_foldl, stored_when, stored_ite, stored_updPlat]
@[simp] theorem stored_fallBack (s : State) (l y : Nat) : (s.fallBack l y).stored = s.stored := (rfl)
@[simp] theorem stored_fetchFail (s : State) (o l y : Nat) : (s.fetchFail o l y).stored = s.stored :=
  by unfold State.fetchFail; dsimp only; (repeat' split) <;> simp [stored_each, stored_foldl, stored_when, stored_ite, stored_updPlat]
@[simp] theorem stored_fetchTile (s : State) (o y l : Nat) (n : Nat) : (State.fetchTile s o y l n).stored = s.stored := by
  induction n generalizing s with
  | zero => unfold State.fetchTile; rfl
  | succ n ih => unfold State.fetchTile; dsimp only; (repeat' split) <;> simp [ih, stored_each, stored_foldl, stored_when, stored_ite, stored_updPlat]
@[simp] theorem stored_fetchLine_st (s : State) (o y : Nat) : (s.fetchLine o y).1.stored = s.stored := by
  unfold State.fetchLine; dsimp only; (repeat' split) <;> simp [stored_each, stored_foldl, stored_when, stored_ite, stored_updPlat]
@[simp] theorem stored_blackLines (s : State) (o y : Nat) : (s.blackLines o y).stored = s.stored :=
  by unfold State.blackLines; simp [stored_each, stored_foldl, stored_when, stored_ite, stored_updPlat]
@[simp] theorem stored_compareLine (s : State) (o y : Nat) (fa fb : Flips) : (s.compareLine o y fa fb).stored = s.stored :=
  by unfold State.compareLine; dsimp only; (repeat' split) <;> simp
@[simp] theorem stored_recomputeLine (s : State) (o y : Nat) (fa fb : Flips) : (s.recomputeLine o y fa fb).stored = s.stored :=
  by unfold State.recomputeLine; dsimp only; (repeat' split) <;> simp
@[simp] theorem stored_insertSegment_st (s : State) (o j l : Nat) (inLine y idx : Nat) (tIns : Word) (acc : DirectLine) : (s.insertSegment o j l inLine y idx tIns acc).1.stored = s.stored :=
  by unfold State.insertSegment; dsimp only; (repeat' split) <;> simp
@[simp] theorem stored_insertDirect_st (s : State) (o y : Nat) (t : Word) : (State.insertDirect s o y t).1.stored = s.stored := by 
  unfold State.insertDirect
  have seg : ∀ (f : State × DirectLine → Nat → State × DirectLine) (_ : ∀ a k, (f a k).1.stored = a.1.stored) (l : List Nat) (a : State × DirectLine), (l.foldl f a).1.stored = a.1.stored := by
    intro f hf l; induction l with
    | nil => intro a; rfl
    | cons y l ih => intro a; rw [List.foldl, ih, hf]
  have all : ∀ (f : State × List (Nat × Px) → Nat → State × List (Nat × Px)) (_ : ∀ a k, (f a k).1.stored = a.1.stored) (l : List Nat) (a : State × List (Nat × Px)), (l.foldl f a).1.stored = a.1.stored := by
    intro f hf l; induction l with
    | nil => intro a; rfl
    | cons y l ih => intro a; rw [List.foldl, ih, hf]
  rw [all]; intro a j; dsimp only; split; rfl; split
  · dsimp only; rw [seg]; intro b k; exact stored_insertSegment_st ..
  · rfl
@[simp] theorem stored_copyB (s : State) (o : Nat) : (s.copyB o).stored = s.stored := by
  unfold State.copyB; (repeat' split) <;> simp [stored_each, stored_foldl, stored_when, stored_ite, stored_updPlat]
@[simp] theorem stored_recordFlip (s : State) (o : Nat) : (s.recordFlip o).stored = s.stored :=
  by unfold State.recordFlip; split <;> simp
@[simp] theorem stored_auxLaunch (s : State) (o : Nat) : (s.auxLaunch o).stored = s.stored := by
  unfold State.auxLaunch; (repeat' split) <;> simp [stored_each, stored_foldl, stored_when, stored_ite, stored_updPlat]
@[simp] theorem stored_sinkRead (s : State) (o : Nat) : (s.sinkRead o).stored = s.stored :=
  by unfold State.sinkRead; simp [stored_ite]
@[simp] theorem stored_takeAlarms (s : State) (o : Nat) (video : Bool) : (s.takeAlarms o video).stored = s.stored := (rfl)
@[simp] theorem stored_frameStart (s : State) (o : Nat) (t : Word) : (s.frameStart o t).stored = s.stored :=
  by unfold State.frameStart; dsimp only; (repeat' split) <;> simp [stored_each, stored_foldl, stored_when, stored_ite, stored_updPlat]
@[simp] theorem stored_slotEnd (s : State) (o j : Nat) : (s.slotEnd o j).stored = s.stored :=
  by unfold State.slotEnd; dsimp only; (repeat' split) <;> simp
@[simp] theorem stored_tilesEnd (s : State) (o : Nat) : (State.tilesEnd s o).stored = s.stored := by unfold State.tilesEnd; dsimp only; rw [stored_leases, stored_each]; intro s l; rw [stored_updTile]; split <;> simp only [stored_set, stored_setB]
@[simp] theorem stored_checkSignatures (s : State) (o : Nat) : (s.checkSignatures o).stored = s.stored :=
  by unfold State.checkSignatures; simp [stored_ite]
@[simp] theorem stored_sinkReading (s : State) (o : Nat) (r : Option SinkReading) : (State.sinkReading s o r).stored = s.stored := by 
  unfold State.sinkReading; dsimp only; split; rfl
  have h : ∀ u : State, u.stored = s.stored → ∀ (c d : Prop) [Decidable c] [Decidable d], (if c then (if d then ((u.count (.CMP_LV_OUT_MISS_RUN o)).setB .CMP_LV_INT_STATUS_SINK_MISS true).scorerBlank o causeSinkStall else (u.count (.CMP_LV_OUT_MISS_RUN o)).setB .CMP_LV_INT_STATUS_SINK_MISS true) else u.set (.CMP_LV_OUT_MISS_RUN o) 0).stored = s.stored := by
    intro u hu c d _ _; split
    · split <;> simp only [stored_scorerBlank, stored_setB, stored_count, hu]
    · simp only [stored_set, hu]
  apply h; split <;> simp only [stored_updOut, stored_set]
@[simp] theorem stored_takeWords (s : State) (sh : Tab Word) : (s.takeWords sh).stored = s.stored :=
  by unfold State.takeWords; simp [stored_each, stored_foldl, stored_when, stored_ite, stored_updPlat]
@[simp] theorem stored_showPending (s : State) : (s.showPending).stored = s.stored := (rfl)
@[simp] theorem stored_commitCode (s : State) (code reason : Nat) : (s.commitCode code reason).stored = s.stored := (rfl)
@[simp] theorem stored_changeRefused (s : State) : (s.changeRefused).stored = s.stored := (rfl)
@[simp] theorem stored_commitGo (s : State) (t : Word) : (s.commitGo t).stored = s.stored :=
  by unfold State.commitGo; dsimp only; (repeat' split) <;> simp
@[simp] theorem stored_dropCommits (s : State) : (State.dropCommits s).stored = s.stored := (rfl)
@[simp] theorem stored_dealPoint (s : State) : (s.dealPoint).stored = s.stored :=
  by unfold State.dealPoint; (try dsimp only) <;> repeat' (first | with_reducible rfl | (simp [stored_each, stored_foldl, stored_when, stored_ite, stored_updPlat]; done) | (rw [stored_each _ _ (by intro s x; (try dsimp only) <;> repeat' (first | with_reducible rfl | (simp [stored_each, stored_foldl, stored_when, stored_ite, stored_updPlat]; done) | split))]) | (rename_i hq; have hp := congrArg (fun x => x.1.stored) hq; simp at hp; simp [← hp]; done) | (rename_i hq; have hp := congrArg (fun x => x.2.stored) hq; simp at hp; simp [← hp]; done) | split)
@[simp] theorem stored_linkLanes (s : State) (q : Nat) (sync good : Nat → Bool) : (s.linkLanes q sync good).stored = s.stored := by
  unfold State.linkLanes; dsimp only; (repeat' split) <;> simp [stored_each, stored_foldl, stored_when, stored_ite, stored_updPlat]
@[simp] theorem stored_noLock (s : State) (q : Nat) : (s.noLock q).stored = s.stored := by
  unfold State.noLock; (repeat' split) <;> simp [stored_each, stored_foldl, stored_when, stored_ite, stored_updPlat]
@[simp] theorem stored_auxEnd (s : State) (o result retries : Nat) : (s.auxEnd o result retries).stored = s.stored := (rfl)
@[simp] theorem stored_txEnable (s : State) (o : Nat) : (s.txEnable o).stored = s.stored :=
  by unfold State.txEnable; simp [stored_ite]
@[simp] theorem stored_endRetime (s : State) (o : Nat) : (s.endRetime o).stored = s.stored := by unfold State.endRetime; simp [stored_ite]
@[simp] theorem stored_switchOutput (s : State) (o : Nat) : (s.switchOutput o).stored = s.stored :=
  by unfold State.switchOutput; simp [stored_each, stored_foldl, stored_when, stored_ite, stored_updPlat]
@[simp] theorem stored_planOutput (s : State) (asg : Option (List (Nat × Nat × Option Nat))) (o : Nat) : (s.planOutput asg o).stored = s.stored := by
  unfold State.planOutput; dsimp only; (repeat' split) <;> simp [stored_each, stored_foldl, stored_when, stored_ite, stored_updPlat]
@[simp] theorem stored_planSlots (s : State) (o : Nat) : (s.planSlots o).stored = s.stored :=
  by unfold State.planSlots; dsimp only; rw [stored_each]; intro s x; (repeat' split) <;> simp
@[simp] theorem stored_showDealPoint (s : State) : (s.showDealPoint).stored = s.stored := by unfold State.showDealPoint; simp
@[simp] theorem stored_takeCommits (s : State) : (s.takeCommits).stored = s.stored :=
  by unfold State.takeCommits; dsimp only; (repeat' split) <;> simp [stored_each, stored_foldl, stored_when, stored_ite, stored_updPlat]
@[simp] theorem stored_sendTraining (s : State) (o bits : Nat) (t : TrainIn) (ok : List TrainTry) (inUse : Option LinkCfg) : (s.sendTraining o bits t ok inUse).stored = s.stored := by
  unfold State.sendTraining; dsimp only; (repeat' split) <;> simp [stored_each, stored_foldl, stored_when, stored_ite, stored_updPlat]
@[simp] theorem stored_sinkSupport (s : State) (o : Nat) (support : Bool) : (s.sinkSupport o support).stored = s.stored :=
  by unfold State.sinkSupport; simp [stored_ite]
@[simp] theorem stored_trainingEnds (s : State) (o : Nat) (t : TrainIn) : (s.trainingEnds o t).stored = s.stored :=
  by unfold State.trainingEnds; dsimp only; (repeat' split) <;> simp
@[simp] theorem stored_hpdLow (s : State) (o : Nat) : (s.hpdLow o).stored = s.stored := by
  unfold State.hpdLow; dsimp only; (repeat' split) <;> simp [stored_each, stored_foldl, stored_when, stored_ite, stored_updPlat]
@[simp] theorem stored_hpdHigh (s : State) (o : Nat) : (s.hpdHigh o).stored = s.stored := by
  unfold State.hpdHigh; dsimp only; (repeat' split) <;> simp [stored_each, stored_foldl, stored_when, stored_ite, stored_updPlat]
@[simp] theorem stored_retrain (s : State) (o : Nat) : (s.retrain o).stored = s.stored :=
  by unfold State.retrain; simp [stored_ite]
@[simp] theorem stored_irqHpd (s : State) (o us : Nat) (st : Option (List Byte)) : (s.irqHpd o us st).stored = s.stored := by
  unfold State.irqHpd
  split
  · rfl
  · cases st with
    | none => rfl
    | some bs => simp only [stored_ite, stored_when, stored_retrain, stored_linkLanes, stored_emit, stored_count, stored_setB, stored_updOut, ite_self, implies_true]
@[simp] theorem stored_auxGo (s : State) (o : Nat) : (s.auxGo o).stored = s.stored :=
  by unfold State.auxGo; simp [stored_ite]
@[simp] theorem stored_auxPop (s : State) (o : Nat) : (s.auxPop o).stored = s.stored := by
  unfold State.auxPop; (repeat' split) <;> simp [stored_each, stored_foldl, stored_when, stored_ite, stored_updPlat]
@[simp] theorem stored_auxData (s : State) (o : Nat) (bs : List Byte) : (s.auxData o bs).stored = s.stored :=
  by unfold State.auxData; simp [stored_each, stored_foldl, stored_when, stored_ite, stored_updPlat]
@[simp] theorem stored_auxFail (s : State) (o : Nat) (r : AuxReq) (result : Nat) : (s.auxFail o r result).stored = s.stored :=
  by unfold State.auxFail; simp [stored_ite]
@[simp] theorem stored_auxAgain (s : State) (o : Nat) (r : AuxReq) : (s.auxAgain o r).stored = s.stored := (rfl)
@[simp] theorem stored_auxReply (s : State) (o : Nat) (a : AuxReply) : (s.auxReply o a).stored = s.stored :=
  by unfold State.auxReply; dsimp only; (repeat' split) <;> simp
@[simp] theorem stored_auxTimeout (s : State) (o : Nat) : (s.auxTimeout o).stored = s.stored :=
  by unfold State.auxTimeout; (repeat' split) <;> simp
@[simp] theorem stored_sinkCheck (s : State) (o : Nat) (r : Option SinkReading) : (s.sinkCheck o r).stored = s.stored := by unfold State.sinkCheck; dsimp only; (repeat' split) <;> simp [stored_when]
@[simp] theorem stored_restartOutput_st (s : State) (o : Nat) : (s.restartOutput o).1.stored = s.stored :=
  by unfold State.restartOutput; split <;> simp
@[simp] theorem stored_servo (s : State) (o : Nat) (eps : Int) (p : Rat) : (s.servo o eps p).stored = s.stored :=
  by unfold State.servo; simp
@[simp] theorem stored_lineLock (s : State) (o : Nat) (eps : Int) : (s.lineLock o eps).stored = s.stored :=
  by unfold State.lineLock; split <;> simp
@[simp] theorem stored_retime (s : State) (o : Nat) : (s.retime o).stored = s.stored := by unfold State.retime; simp
@[simp] theorem stored_outBoundary (s : State) (o : Nat) (eps : Int) : (s.outBoundary o eps).stored = s.stored :=
  by unfold State.outBoundary; simp [stored_each, stored_foldl, stored_when, stored_ite, stored_updPlat]
@[simp] theorem stored_startGenerators (s : State) (os : List Nat) : (s.startGenerators os).stored = s.stored :=
  by unfold State.startGenerators; simp [stored_each, stored_foldl, stored_when, stored_ite, stored_updPlat]
@[simp] theorem stored_setRefLost (s : State) (b : Bool) : (s.setRefLost b).stored = s.stored := (rfl)
@[simp] theorem stored_showStable (s : State) : (s.showStable).stored = s.stored := by unfold State.showStable; split <;> simp
@[simp] theorem stored_setDelta (s : State) (d : Int) : (s.setDelta d).stored = s.stored := (rfl)
@[simp] theorem stored_setCentre (s : State) (d : Int) : (s.setCentre d).stored = s.stored := (rfl)
@[simp] theorem stored_enterTrack (s : State) : (s.enterTrack).stored = s.stored := (rfl)
@[simp] theorem stored_enterHoldover (s : State) (lost : Bool) : (s.enterHoldover lost).stored = s.stored :=
  by unfold State.enterHoldover; split <;> simp
@[simp] theorem stored_metStable (s : State) (m : Rat) : (s.metStable m).stored = s.stored :=
  by unfold State.metStable; split <;> simp
@[simp] theorem stored_resyncOutputs (s : State) : (s.resyncOutputs).stored = s.stored :=
  by unfold State.resyncOutputs; simp [stored_each, stored_foldl, stored_when, stored_ite, stored_updPlat]
@[simp] theorem stored_beginResync (s : State) : (s.beginResync).stored = s.stored := by
  unfold State.beginResync; dsimp only; (repeat' split) <;> simp [stored_each, stored_foldl, stored_when, stored_ite, stored_updPlat]
@[simp] theorem stored_refJudge_st (s : State) : (State.refJudge s).1.stored = s.stored := by 
  unfold State.refJudge; dsimp only
  generalize hu : (State.updDealer (State.set _ _ _) _) = u
  have h : u.stored = s.stored := by rw [← hu]; simp only [stored_updDealer, stored_set, stored_ite, stored_setI, stored_count, ite_self]
  (repeat' split) <;> simp only [stored_setDelta, stored_enterHoldover, stored_metStable, stored_enterTrack, stored_updDealer, stored_resyncOutputs, stored_setCentre, h] <;> first | done | (rw [stored_each _ _ (by intro s o; simp)]; simp only [stored_updDealer, stored_set, stored_setDelta, stored_roundFree_st, h])
@[simp] theorem stored_judge (s : State) : (s.judge).stored = s.stored := by
  unfold State.judge; dsimp only; (repeat' split) <;> simp [stored_each, stored_foldl, stored_when, stored_ite, stored_updPlat]
@[simp] theorem stored_judgeQualified (s : State) : (s.judgeQualified).stored = s.stored := by
  unfold State.judgeQualified; (repeat' split) <;> simp [stored_each, stored_foldl, stored_when, stored_ite, stored_updPlat]
@[simp] theorem stored_windowPassed (s : State) : (s.windowPassed).stored = s.stored := by
  unfold State.windowPassed; (repeat' split) <;> simp [stored_each, stored_foldl, stored_when, stored_ite, stored_updPlat]
@[simp] theorem stored_placeBoundary (s : State) : (s.placeBoundary).stored = s.stored :=
  by unfold State.placeBoundary; dsimp only; (repeat' split) <;> simp
@[simp] theorem stored_syncPulse (s : State) (t : Word) (width : Nat) (falling : Bool) : (s.syncPulse t width falling).stored = s.stored := by unfold State.syncPulse; dsimp only; (repeat' split) <;> simp [stored_ite]
@[simp] theorem stored_resyncGo (s : State) : (s.resyncGo).stored = s.stored := by unfold State.resyncGo; simp [stored_ite]
@[simp] theorem stored_lockTimeout (s : State) : (s.lockTimeout).stored = s.stored :=
  by unfold State.lockTimeout; simp [stored_ite]
@[simp] theorem stored_tickFirstWrite (s : State) (w : Word) : (s.tickFirstWrite w).stored = s.stored :=
  by unfold State.tickFirstWrite; dsimp only; (repeat' split) <;> simp
@[simp] theorem stored_tickFirst (s : State) (w : Word) : (s.tickFirst w).stored = s.stored := by unfold State.tickFirst; simp
@[simp] theorem stored_setDevState (s : State) (c : Nat) : (s.setDevState c).stored = s.stored := (rfl)
@[simp] theorem stored_hold_ (s : State) (cause : Nat) : (s.hold_ cause).stored = s.stored :=
  by unfold State.hold_; simp [stored_ite]
@[simp] theorem stored_clearTopology (s : State) : (s.clearTopology).stored = s.stored := (rfl)
@[simp] theorem stored_recordAbandon (s : State) (t : Trick) : (s.recordAbandon t).stored = s.stored :=
  by unfold State.recordAbandon; simp [stored_each, stored_foldl, stored_when, stored_ite, stored_updPlat]
@[simp] theorem stored_poolEmpty (s : State) (t : Trick) : (s.poolEmpty t).stored = s.stored := by unfold State.poolEmpty; simp
@[simp] theorem stored_updPort (s : State) (p : Nat) (f : PortSt → PortSt) : (s.updPort p f).stored = s.stored := (rfl)
@[simp] theorem stored_updFab (s : State) (f : FabSt → FabSt) : (s.updFab f).stored = s.stored := (rfl)
@[simp] theorem stored_setPort (s : State) (p st : Nat) : (s.setPort p st).stored = s.stored :=
  by unfold State.setPort; simp [stored_ite]
@[simp] theorem stored_coded (s : State) (p : Nat) (lanes : List (Nat × List Sym)) : (s.coded p lanes).stored = s.stored := by
  unfold State.coded; (repeat' split) <;> simp [stored_each, stored_foldl, stored_when, stored_ite, stored_updPlat]
@[simp] theorem stored_drive (s : State) (p : Nat) (lanes : List (Nat × List Sym)) (e : Emission) : (s.drive p lanes e).stored = s.stored := by
  unfold State.drive; (repeat' split) <;> simp [stored_each, stored_foldl, stored_when, stored_ite, stored_updPlat]
@[simp] theorem stored_farEnd (s : State) (p : Nat) (e : Emission) : (s.farEnd p e).stored = s.stored := by
  unfold State.farEnd; (repeat' split) <;> simp [stored_each, stored_foldl, stored_when, stored_ite, stored_updPlat]
@[simp] theorem stored_emitSet (s : State) (p : Nat) (k : FabSet) : (s.emitSet p k).stored = s.stored := by
  unfold State.emitSet; (repeat' split) <;> simp [stored_each, stored_foldl, stored_when, stored_ite, stored_updPlat]
@[simp] theorem stored_trumpBad (s : State) (p : Nat) : (s.trumpBad p).stored = s.stored := (rfl)
@[simp] theorem stored_enqueue (s : State) (p : Nat) (m : Trump) (bank : Bool) : (s.enqueue p m bank).stored = s.stored :=
  by unfold State.enqueue; simp [stored_ite]
@[simp] theorem stored_forward (s : State) (p : Nat) (m : Trump) : (s.forward p m).stored = s.stored := by
  unfold State.forward; (repeat' split) <;> simp [stored_each, stored_foldl, stored_when, stored_ite, stored_updPlat]
@[simp] theorem stored_originate (s : State) (type dest : Nat) (bcast : Bool) (args : List Nat) (bank : Bool) : (s.originate type dest bcast args bank).stored = s.stored :=
  by unfold State.originate; simp [stored_each, stored_foldl, stored_when, stored_ite, stored_updPlat]
@[simp] theorem stored_neighbour (s : State) (p type : Nat) (args : List Nat) : (s.neighbour p type args).stored = s.stored :=
  by unfold State.neighbour; simp
@[simp] theorem stored_refreshFlows (s : State) : (s.refreshFlows).stored = s.stored :=
  by unfold State.refreshFlows; simp [stored_each, stored_foldl, stored_when, stored_ite, stored_updPlat]
@[simp] theorem stored_toFlowEnds (s : State) (f : FlowDesc) (type : Nat) (args : List Nat) : (s.toFlowEnds f type args).stored = s.stored :=
  by unfold State.toFlowEnds; simp [stored_each, stored_foldl, stored_when, stored_ite, stored_updPlat]
@[simp] theorem stored_sendPresence (s : State) (f : FlowDesc) (present : Bool) : (s.sendPresence f present).stored = s.stored :=
  by unfold State.sendPresence; simp
@[simp] theorem stored_presenceReport (s : State) (src : BitVec 16) : (s.presenceReport src).stored = s.stored :=
  by unfold State.presenceReport; simp [stored_each, stored_foldl, stored_when, stored_ite, stored_updPlat]
@[simp] theorem stored_markCut (s : State) (f node port : Nat) : (s.markCut f node port).stored = s.stored :=
  by unfold State.markCut; simp [stored_ite]
@[simp] theorem stored_markResumed (s : State) (f : Nat) : (s.markResumed f).stored = s.stored := by unfold State.markResumed; simp [stored_ite]
@[simp] theorem stored_stopFlow (s : State) (f : Nat) : (s.stopFlow f).stored = s.stored :=
  by unfold State.stopFlow; (repeat' split) <;> simp
@[simp] theorem stored_flowStop (s : State) (f p : Nat) : (s.flowStop f p).stored = s.stored :=
  by unfold State.flowStop; dsimp only; (repeat' split) <;> simp
@[simp] theorem stored_gotPresence (s : State) (f : Nat) (present : Bool) : (s.gotPresence f present).stored = s.stored :=
  by unfold State.gotPresence; (repeat' split) <;> simp
@[simp] theorem stored_grant (s : State) (p : Nat) (k : RxPacket) : (s.grant p k).stored = s.stored :=
  by unfold State.grant; split <;> simp
@[simp] theorem stored_giveBack (s : State) (x : TxPacket) : (s.giveBack x).stored = s.stored := by unfold State.giveBack; split <;> simp
@[simp] theorem stored_dropPackets (s : State) (p : Nat) (bad : TxPacket → Bool) : (s.dropPackets p bad).stored = s.stored := by
  unfold State.dropPackets; dsimp only; (repeat' split) <;> simp [stored_each, stored_foldl, stored_when, stored_ite, stored_updPlat]
@[simp] theorem stored_rebudget (s : State) (p : Nat) : (s.rebudget p).stored = s.stored :=
  by unfold State.rebudget; simp [stored_each, stored_foldl, stored_when, stored_ite, stored_updPlat]
@[simp] theorem stored_takeWidth (s : State) (p code lanes : Nat) : (s.takeWidth p code lanes).stored = s.stored :=
  by unfold State.takeWidth; dsimp only; (repeat' split) <;> simp
@[simp] theorem stored_portDown (s : State) (p : Nat) : (s.portDown p).stored = s.stored :=
  by unfold State.portDown; simp [stored_ite]
@[simp] theorem stored_laneStatus (s : State) (p : Nat) (status lane check : Byte) : (s.laneStatus p status lane check).stored = s.stored :=
  by unfold State.laneStatus; simp [stored_ite]
@[simp] theorem stored_widenPorts (s : State) : (s.widenPorts).stored = s.stored :=
  by unfold State.widenPorts; simp [stored_each, stored_foldl, stored_when, stored_ite, stored_updPlat]
@[simp] theorem stored_laneGood (s : State) (p l : Nat) (good unlock : Bool) : (s.laneGood p l good unlock).stored = s.stored :=
  by unfold State.laneGood; simp [stored_ite]
@[simp] theorem stored_laneErrors (s : State) (p : Nat) (errs : List (Nat × Nat)) : (s.laneErrors p errs).stored = s.stored := by
  unfold State.laneErrors; apply stored_each; intro s e; dsimp only; split <;> simp only [stored_laneGood, stored_count]
@[simp] theorem stored_sendIdent (s : State) (p : Nat) : (s.sendIdent p).stored = s.stored :=
  by unfold State.sendIdent; simp [stored_each, stored_foldl, stored_when, stored_ite, stored_updPlat]
@[simp] theorem stored_portAlign (s : State) (p rxGood peerGood : Nat) : (s.portAlign p rxGood peerGood).stored = s.stored :=
  by unfold State.portAlign; dsimp only; (repeat' split) <;> simp [stored_each, stored_foldl, stored_when, stored_ite, stored_updPlat]
@[simp] theorem stored_discUpdate (s : State) (new : List Nat) : (s.discUpdate new).stored = s.stored := by
  unfold State.discUpdate; dsimp only; (repeat' split) <;> simp [stored_each, stored_foldl, stored_when, stored_ite, stored_updPlat]
@[simp] theorem stored_portEnterUp (s : State) (p : Nat) : (s.portEnterUp p).stored = s.stored := by unfold State.portEnterUp; simp
@[simp] theorem stored_judgeIdent (s : State) (p : Nat) : (s.judgeIdent p).stored = s.stored :=
  by unfold State.judgeIdent; simp [stored_ite]
@[simp] theorem stored_gotIdent (s : State) (p part : Nat) (m : Trump) : (s.gotIdent p part m).stored = s.stored :=
  by unfold State.gotIdent; simp [stored_ite]
@[simp] theorem stored_discTimeout (s : State) : (s.discTimeout).stored = s.stored :=
  by unfold State.discTimeout; simp [stored_each, stored_foldl, stored_when, stored_ite, stored_updPlat]
@[simp] theorem stored_gotEchoReply (s : State) (p : Nat) (m : Trump) (t : Word) : (s.gotEchoReply p m t).stored = s.stored :=
  by unfold State.gotEchoReply; simp [stored_ite]
@[simp] theorem stored_gotTickMark (s : State) (p : Nat) (m : Trump) (t : Word) : (s.gotTickMark p m t).stored = s.stored :=
  by unfold State.gotTickMark; simp [stored_ite]
@[simp] theorem stored_tickMarkTimeout (s : State) (p : Nat) : (s.tickMarkTimeout p).stored = s.stored :=
  by unfold State.tickMarkTimeout; split <;> simp
@[simp] theorem stored_sendTickMarks (s : State) : (s.sendTickMarks).stored = s.stored :=
  by unfold State.sendTickMarks; simp [stored_each, stored_foldl, stored_when, stored_ite, stored_updPlat]
@[simp] theorem stored_updCmd (s : State) (f : CmdSt → CmdSt) : (s.updCmd f).stored = s.stored := (rfl)
@[simp] theorem stored_sendFrame (s : State) (node : Nat) (bs : List Byte) : (s.sendFrame node bs).stored = s.stored :=
  by unfold State.sendFrame; simp [stored_each, stored_foldl, stored_when, stored_ite, stored_updPlat]
@[simp] theorem stored_mbPost (s : State) (code : Nat) : (s.mbPost code).stored = s.stored := by unfold State.mbPost; simp
@[simp] theorem stored_respond (s : State) (h : CmdHdr) (code : Nat) (payload : List Byte) : (s.respond h code payload).stored = s.stored :=
  by unfold State.respond; (repeat' split) <;> simp
@[simp] theorem stored_respondCheck (s : State) (o : Origin) (bs : List Byte) : (s.respondCheck o bs).stored = s.stored := by
  unfold State.respondCheck; dsimp only; (repeat' split) <;> simp [stored_each, stored_foldl, stored_when, stored_ite, stored_updPlat]
@[simp] theorem stored_store (s : State) (f : InFrame) : (s.store f).stored = s.stored := (rfl)
@[simp] theorem stored_relay (s : State) (o : Origin) (bs : List Byte) : (s.relay o bs).stored = s.stored :=
  by unfold State.relay; simp [stored_ite]
@[simp] theorem stored_intake (s : State) (o : Origin) (bs : List Byte) (t : Word) : (s.intake o bs t).stored = s.stored :=
  by unfold State.intake; simp [stored_ite]
@[simp] theorem stored_relayBack (s : State) (node session seq alive code : Nat) (payload : List Byte) : (s.relayBack node session seq alive code payload).stored = s.stored := by
  unfold State.relayBack; dsimp only; (repeat' split) <;> simp [stored_each, stored_foldl, stored_when, stored_ite, stored_updPlat]
@[simp] theorem stored_fragLost (s : State) (node : Nat) : (s.fragLost node).stored = s.stored := (rfl)
@[simp] theorem stored_assembled (s : State) (node : Nat) (bs : List Byte) (t : Word) : (s.assembled node bs t).stored = s.stored :=
  by unfold State.assembled; simp [stored_ite]
@[simp] theorem stored_cmdPiece (s : State) (m : Trump) (t : Word) : (s.cmdPiece m t).stored = s.stored :=
  by unfold State.cmdPiece; dsimp only; (repeat' split) <;> simp
@[simp] theorem stored_fragTimeout (s : State) (node : Nat) : (s.fragTimeout node).stored = s.stored :=
  by unfold State.fragTimeout; split <;> simp
@[simp] theorem stored_relayTimeout (s : State) : (s.relayTimeout).stored = s.stored := (rfl)
@[simp] theorem stored_followSeq (s : State) (m : Trump) : (s.followSeq m).stored = s.stored :=
  by unfold State.followSeq; simp [stored_ite]
@[simp] theorem stored_toFifo (s : State) (p : Nat) (m : Trump) : (s.toFifo p m).stored = s.stored :=
  by unfold State.toFifo; split <;> simp
@[simp] theorem stored_deliver (s : State) (p : Nat) (m : Trump) (t : Word) : (s.deliver p m t).stored = s.stored :=
  by unfold State.deliver; (repeat' split) <;> simp
@[simp] theorem stored_acceptTrump (s : State) (p : Nat) (m : Trump) (t : Word) : (s.acceptTrump p m t).stored = s.stored := by unfold State.acceptTrump; dsimp only; (repeat' split) <;> simp [stored_each]
@[simp] theorem stored_receiveTrump (s : State) (p : Nat) (copies : List TrumpCopy) (t : Word) : (s.receiveTrump p copies t).stored = s.stored :=
  by unfold State.receiveTrump; dsimp only; (repeat' split) <;> simp [stored_each, stored_foldl, stored_when, stored_ite, stored_updPlat]
@[simp] theorem stored_transmitTrump (s : State) (p : Nat) (t : Word) : (s.transmitTrump p t).stored = s.stored :=
  by unfold State.transmitTrump; dsimp only; (repeat' split) <;> simp
@[simp] theorem stored_fabTxGo (s : State) : (s.fabTxGo).stored = s.stored := by
  unfold State.fabTxGo; dsimp only; (repeat' split) <;> simp [stored_each, stored_foldl, stored_when, stored_ite, stored_updPlat]
@[simp] theorem stored_fifoPop (s : State) (debug : Bool) : (s.fifoPop debug).stored = s.stored :=
  by unfold State.fifoPop; split <;> simp
@[simp] theorem stored_routeCheck (s : State) : (s.routeCheck).stored = s.stored :=
  by unfold State.routeCheck; dsimp only; (repeat' split) <;> simp
@[simp] theorem stored_policed (s : State) (p f : Nat) : (s.policed p f).stored = s.stored :=
  by unfold State.policed; simp [stored_ite]
@[simp] theorem stored_charge (s : State) (p : Nat) (k : RxPacket) : (s.charge p k).stored = s.stored := (rfl)
@[simp] theorem stored_toPort (s : State) (p : Nat) (k : RxPacket) (origin : Option Nat) : (s.toPort p k origin).stored = s.stored := by
  unfold State.toPort; dsimp only; (repeat' split) <;> simp [stored_each, stored_foldl, stored_when, stored_ite, stored_updPlat]
@[simp] theorem stored_storeSegment (s : State) (src : BitVec 16) (g : Segment) : (s.storeSegment src g).stored = s.stored :=
  by unfold State.storeSegment; simp [stored_each, stored_foldl, stored_when, stored_ite, stored_updPlat]
@[simp] theorem stored_localLines (s : State) (ls : List LineIn) : (s.localLines ls).stored = s.stored :=
  by unfold State.localLines; simp [stored_each, stored_foldl, stored_when, stored_ite, stored_updPlat]
@[simp] theorem stored_sendLines (s : State) (p : Nat) (ls : List LineIn) : (s.sendLines p ls).stored = s.stored :=
  by unfold State.sendLines; (try dsimp only) <;> repeat' (first | with_reducible rfl | (simp [stored_each, stored_foldl, stored_when, stored_ite, stored_updPlat]; done) | (rw [stored_each _ _ (by intro s x; (try dsimp only) <;> repeat' (first | with_reducible rfl | (simp [stored_each, stored_foldl, stored_when, stored_ite, stored_updPlat]; done) | split))]) | (rename_i hq; have hp := congrArg (fun x => x.1.stored) hq; simp at hp; simp [← hp]; done) | (rename_i hq; have hp := congrArg (fun x => x.2.stored) hq; simp at hp; simp [← hp]; done) | split)
@[simp] theorem stored_frameIssue (s : State) (f : FlowDesc) : (s.frameIssue f).stored = s.stored :=
  by unfold State.frameIssue; dsimp only; (repeat' split) <;> simp
@[simp] theorem stored_frameStop (s : State) (f : FlowDesc) : (s.frameStop f).stored = s.stored :=
  by unfold State.frameStop; dsimp only; (repeat' split) <;> simp
@[simp] theorem stored_flowDone (s : State) (f : Nat) : (s.flowDone f).stored = s.stored := (rfl)
@[simp] theorem stored_sendPacket (s : State) (p : Nat) (k : RxPacket) : (s.sendPacket p k).stored = s.stored :=
  by unfold State.sendPacket; split <;> simp
@[simp] theorem stored_policeQueue (s : State) (p : Nat) : (s.policeQueue p).stored = s.stored :=
  by unfold State.policeQueue; simp [stored_each, stored_foldl, stored_when, stored_ite, stored_updPlat]
@[simp] theorem stored_sendWaiting (s : State) (p : Nat) (x : TxPacket) : (s.sendWaiting p x).stored = s.stored := by unfold State.sendWaiting; simp
@[simp] theorem stored_frameRead (s : State) (p : Nat) (k : RxPacket) (x : FlowSend) : (s.frameRead p k x).stored = s.stored := by
  unfold State.frameRead; (repeat' split) <;> simp [stored_each, stored_foldl, stored_when, stored_ite, stored_updPlat]
@[simp] theorem stored_frameAdvance (s : State) (p f : Nat) (k : RxPacket) : (s.frameAdvance p f k).stored = s.stored := by
  unfold State.frameAdvance; dsimp only; (repeat' split) <;> simp [stored_each, stored_foldl, stored_when, stored_ite, stored_updPlat]
@[simp] theorem stored_sendCredit (s : State) (p : Nat) : (s.sendCredit p).stored = s.stored := by
  unfold State.sendCredit; dsimp only; (repeat' split) <;> simp [stored_each, stored_foldl, stored_when, stored_ite, stored_updPlat]
@[simp] theorem stored_sendNext (s : State) (p : Nat) : (s.sendNext p).stored = s.stored := by
  unfold State.sendNext; dsimp only; (repeat' split) <;> simp [stored_each, stored_foldl, stored_when, stored_ite, stored_updPlat]
@[simp] theorem stored_packetTransmit (s : State) (p : Nat) (d : TxDue) : (s.packetTransmit p d).stored = s.stored :=
  by unfold State.packetTransmit; dsimp only; (repeat' split) <;> simp [stored_each, stored_foldl, stored_when, stored_ite, stored_updPlat]
@[simp] theorem stored_gotCredit (s : State) (p c total : Nat) : (s.gotCredit p c total).stored = s.stored := (rfl)
@[simp] theorem stored_creditStall (s : State) (p : Nat) : (s.creditStall p).stored = s.stored := (rfl)
@[simp] theorem stored_portsTick (s : State) : (s.portsTick).stored = s.stored :=
  by unfold State.portsTick; simp [stored_each, stored_foldl, stored_when, stored_ite, stored_updPlat]
@[simp] theorem stored_packetBad (s : State) (p : Nat) : (s.packetBad p).stored = s.stored := (rfl)
@[simp] theorem stored_misroute (s : State) (p : Nat) : (s.misroute p).stored = s.stored := (rfl)
theorem stored_receivePacket (s : State) (p : Nat) (k : RxPacket) (here : State → FlowDesc → State) (h : ∀ s f, (here s f).stored = s.stored) :
    (s.receivePacket p k here).stored = s.stored := by
  unfold State.receivePacket; dsimp only; (repeat' split) <;> simp [h, stored_ite]
@[simp] theorem stored_gotSegment (s : State) (p : Nat) (k : RxPacket) (t : Word) : (State.gotSegment s p k t).stored = s.stored := by 
  unfold State.gotSegment; apply Eq.trans (stored_receivePacket _ _ _ _ ?_)
  · simp
  · intro s f; dsimp only; (repeat' (first | rfl | (simp [stored_ite]; done) | split))
@[simp] theorem stored_freeSigs_st (s : State) : (State.freeSigs s).2.stored = s.stored := by 
  have h : ∀ (f : List (BitVec 16) × State → Nat → List (BitVec 16) × State) (_ : ∀ a x, (f a x).2.stored = a.2.stored) (l : List Nat) (a : List (BitVec 16) × State), (l.foldl f a).2.stored = a.2.stored := by
    intro f hf l; induction l with
    | nil => intro a; rfl
    | cons x l ih => intro a; rw [List.foldl, ih, hf]
  unfold State.freeSigs; dsimp only; rw [stored_fresh_st, h]; intro a x; exact stored_fresh_st a.2
@[simp] theorem stored_gotLine (s : State) (p : Nat) (k : RxPacket) (t : Word) : (State.gotLine s p k t).stored = s.stored := by 
  unfold State.gotLine; apply Eq.trans (stored_receivePacket _ _ _ _ ?_)
  · simp
  · intro s f; dsimp only; (repeat' (first | rfl | (simp [stored_ite]; done) | split))
@[simp] theorem stored_frameFail (s : State) (f : Nat) : (s.frameFail f).stored = s.stored :=
  by unfold State.frameFail; split <;> simp
@[simp] theorem stored_gotFrameStart (s : State) (p : Nat) (k : RxPacket) (t : Word) : (State.gotFrameStart s p k t).stored = s.stored := by 
  unfold State.gotFrameStart; apply Eq.trans (stored_receivePacket _ _ _ _ ?_)
  · simp
  · intro s f; dsimp only; (repeat' (first | rfl | (simp [stored_ite]; done) | split))
@[simp] theorem stored_gotStream (s : State) (p : Nat) (k : RxPacket) : (State.gotStream s p k).stored = s.stored := by 
  unfold State.gotStream; apply Eq.trans (stored_receivePacket _ _ _ _ ?_)
  · simp
  · intro s f; dsimp only; (repeat' (first | rfl | (simp [stored_ite]; done) | split))
@[simp] theorem stored_gotMessage (s : State) (p : Nat) (k : RxPacket) : (s.gotMessage p k).stored = s.stored := by unfold State.gotMessage; (repeat' split) <;> simp
@[simp] theorem stored_wrongKind (s : State) (p : Nat) : (s.wrongKind p).stored = s.stored := (rfl)
theorem stored_ofKind (s : State) (p : Nat) (k : RxPacket) (kind : Nat) (act : State → State) (h : ∀ s, (act s).stored = s.stored) :
    (s.ofKind p k kind act).stored = s.stored := by
  unfold State.ofKind; dsimp only; split <;> simp [h]
@[simp] theorem stored_serLoop (s : State) (q v : Nat) : (s.serLoop q v).stored = s.stored :=
  by unfold State.serLoop; simp [stored_ite]
@[simp] theorem stored_capTrickEnd (s : State) (i b : Nat) : (s.capTrickEnd i b).stored = s.stored := (rfl)
@[simp] theorem stored_frameDamage (s : State) (i : Nat) : (s.frameDamage i).stored = s.stored :=
  by unfold State.frameDamage; dsimp only; (repeat' split) <;> simp
@[simp] theorem stored_inputDamage (s : State) (i : Nat) (c : Damage) : (s.inputDamage i c).stored = s.stored :=
  by unfold State.inputDamage; dsimp only; (repeat' split) <;> simp [stored_each, stored_foldl, stored_when, stored_ite, stored_updPlat]
@[simp] theorem stored_setRx (s : State) (i st : Nat) : (s.setRx i st).stored = s.stored :=
  by unfold State.setRx; simp [stored_ite]
@[simp] theorem stored_rxEnable (s : State) (i : Nat) : (s.rxEnable i).stored = s.stored :=
  by unfold State.rxEnable; split <;> simp
@[simp] theorem stored_rxUnlock (s : State) (i : Nat) : (s.rxUnlock i).stored = s.stored := by unfold State.rxUnlock; simp [stored_each]
@[simp] theorem stored_rxDisable (s : State) (i : Nat) : (s.rxDisable i).stored = s.stored := by unfold State.rxDisable; simp
@[simp] theorem stored_rxPattern (s : State) (i pattern : Nat) (good : Bool) (link : LinkCfg) : (s.rxPattern i pattern good link).stored = s.stored :=
  by unfold State.rxPattern; simp [stored_each, stored_foldl, stored_when, stored_ite, stored_updPlat]
@[simp] theorem stored_rxLoss (s : State) (i lanes : Nat) : (s.rxLoss i lanes).stored = s.stored :=
  by unfold State.rxLoss; simp [stored_each, stored_foldl, stored_when, stored_ite, stored_updPlat]
@[simp] theorem stored_rxLostTimeout (s : State) (i : Nat) : (s.rxLostTimeout i).stored = s.stored :=
  by unfold State.rxLostTimeout; split <;> simp
@[simp] theorem stored_rxNoVideo (s : State) (i : Nat) : (s.rxNoVideo i).stored = s.stored :=
  by unfold State.rxNoVideo; simp [stored_ite]
@[simp] theorem stored_rxMsa (s : State) (i : Nat) (m : MsaIn) : (s.rxMsa i m).stored = s.stored :=
  by unfold State.rxMsa; simp [stored_ite]
@[simp] theorem stored_auxPattern (s : State) (i : Nat) : (s.auxPattern i).stored = s.stored := by
  unfold State.auxPattern; dsimp only; (repeat' split) <;> simp [stored_each, stored_foldl, stored_when, stored_ite, stored_updPlat]
@[simp] theorem stored_rxAux (s : State) (i : Nat) (r : RxAux) : (s.rxAux i r).stored = s.stored :=
  by unfold State.rxAux; dsimp only; (repeat' split) <;> simp [stored_each, stored_foldl, stored_when, stored_ite, stored_updPlat]
@[simp] theorem stored_savStart_st (s : State) (i : Nat) (t : Word) : (s.savStart i t).1.stored = s.stored :=
  by unfold State.savStart; dsimp only; (repeat' split) <;> simp
@[simp] theorem stored_updCtx (s : State) (c : Nat) (f : CtxSt → CtxSt) : (s.updCtx c f).stored = s.stored := (rfl)
@[simp] theorem stored_showQueue (s : State) (c : Nat) : (s.showQueue c).stored = s.stored := (rfl)
@[simp] theorem stored_sendRtcp (s : State) (c kind fir : Nat) : (s.sendRtcp c kind fir).stored = s.stored := by
  unfold State.sendRtcp; dsimp only; (repeat' split) <;> simp [stored_each, stored_foldl, stored_when, stored_ite, stored_updPlat]
@[simp] theorem stored_feedback (s : State) (c : Nat) : (s.feedback c).stored = s.stored :=
  by unfold State.feedback; simp [stored_ite]
@[simp] theorem stored_stopDecode (s : State) (c : Nat) : (State.stopDecode s c).stored = s.stored := by unfold State.stopDecode; dsimp only; rw [stored_updDealer, stored_updCtx, stored_each]; intro s x; split <;> simp
@[simp] theorem stored_flushDpb (s : State) (c : Nat) : (s.flushDpb c).stored = s.stored :=
  by unfold State.flushDpb; simp [stored_each, stored_foldl, stored_when, stored_ite, stored_updPlat]
@[simp] theorem stored_setCtx (s : State) (c st cause : Nat) : (s.setCtx c st cause).stored = s.stored :=
  by unfold State.setCtx; simp [stored_each, stored_foldl, stored_when, stored_ite, stored_updPlat]
@[simp] theorem stored_ctxFault (s : State) (c cause : Nat) : (s.ctxFault c cause).stored = s.stored :=
  by unfold State.ctxFault; simp [stored_ite]
@[simp] theorem stored_waitKey (s : State) (c cause : Nat) : (s.waitKey c cause).stored = s.stored :=
  by unfold State.waitKey; split <;> simp
@[simp] theorem stored_refreshSlots (s : State) : (s.refreshSlots).stored = s.stored :=
  by unfold State.refreshSlots; dsimp only; rw [stored_each]; intro s x; (repeat' split) <;> simp
@[simp] theorem stored_decAnswer (s : State) (code : Nat) : (s.decAnswer code).stored = s.stored := (rfl)
theorem stored_decGo (s : State) (c op : Nat) (f : State → State) (h : ∀ s, (f s).stored = s.stored) : (s.decGo c op f).stored = s.stored := by
  unfold State.decGo; split <;> simp [h]
@[simp] theorem stored_decOpen (s : State) (c : Nat) (template : List Byte) : (s.decOpen c template).stored = s.stored := by unfold State.decOpen; rw [stored_decGo]; intro s; dsimp only; (repeat' split) <;> simp
@[simp] theorem stored_decClose (s : State) (c : Nat) : (s.decClose c).stored = s.stored := by
  unfold State.decClose; rw [stored_decGo]; intro s; (repeat' split) <;> simp
@[simp] theorem stored_keyReq_st (s : State) (c : Nat) : (s.keyReq c).1.stored = s.stored :=
  by unfold State.keyReq; dsimp only; (repeat' split) <;> simp
@[simp] theorem stored_decKeyReq (s : State) (c : Nat) : (s.decKeyReq c).stored = s.stored := by unfold State.decKeyReq; rw [stored_decGo]; intro s; dsimp only; simp
@[simp] theorem stored_pictureTime_st (s : State) (c : Nat) (rtp : Word) : (s.pictureTime c rtp).2.stored = s.stored :=
  by unfold State.pictureTime; dsimp only; (repeat' split) <;> simp
@[simp] theorem stored_deckTake (s : State) (n udp : Nat) : (s.deckTake n udp).stored = s.stored := (rfl)
@[simp] theorem stored_deckTakeRtcp (s : State) (c : Nat) : (s.deckTakeRtcp c).stored = s.stored := (rfl)
@[simp] theorem stored_closePicture (s : State) (c : Nat) : (s.closePicture c).stored = s.stored :=
  by unfold State.closePicture; dsimp only; (repeat' split) <;> simp
@[simp] theorem stored_placePacket (s : State) (c : Nat) (r : RtpIn) : (s.placePacket c r).stored = s.stored :=
  by unfold State.placePacket; dsimp only; (repeat' split) <;> simp
@[simp] theorem stored_startPicture (s : State) (c : Nat) (r : RtpIn) (t : Word) : (s.startPicture c r t).stored = s.stored :=
  by unfold State.startPicture; simp
@[simp] theorem stored_gather (s : State) (c : Nat) (r : RtpIn) (t : Word) : (s.gather c r t).stored = s.stored :=
  by unfold State.gather; (repeat' split) <;> simp
@[simp] theorem stored_foreign (s : State) (c : Nat) : (s.foreign c).stored = s.stored := by unfold State.foreign; simp [stored_ite]
@[simp] theorem stored_rtpPacket (s : State) (r : RtpIn) (t : Word) : (s.rtpPacket r t).stored = s.stored :=
  by unfold State.rtpPacket; dsimp only; (repeat' split) <;> simp
@[simp] theorem stored_asmTimeout (s : State) (c : Nat) : (s.asmTimeout c).stored = s.stored := by unfold State.asmTimeout; simp
@[simp] theorem stored_senderReport (s : State) (c : Nat) (ip ssrc : Word) (ntp : BitVec 64) (rtp t : Word) : (s.senderReport c ip ssrc ntp rtp t).stored = s.stored := by
  unfold State.senderReport; dsimp only; (repeat' split) <;> simp [stored_each, stored_foldl, stored_when, stored_ite, stored_updPlat]
@[simp] theorem stored_stall (s : State) (c : Nat) : (s.stall c).stored = s.stored :=
  by unfold State.stall; simp [stored_ite]
@[simp] theorem stored_bye (s : State) (c : Nat) (ip ssrc : Word) : (s.bye c ip ssrc).stored = s.stored := by
  unfold State.bye; dsimp only; (repeat' split) <;> simp [stored_each, stored_foldl, stored_when, stored_ite, stored_updPlat]
@[simp] theorem stored_receiverReport (s : State) (c : Nat) : (s.receiverReport c).stored = s.stored :=
  by unfold State.receiverReport; split <;> simp
@[simp] theorem stored_pliRepeat (s : State) (c : Nat) : (s.pliRepeat c).stored = s.stored :=
  by unfold State.pliRepeat; split <;> simp
@[simp] theorem stored_takePicture_st (s : State) (c : Nat) : (s.takePicture c).1.stored = s.stored :=
  by unfold State.takePicture; dsimp only; (repeat' split) <;> simp
@[simp] theorem stored_beginDecode (s : State) (k : Nat) : (State.beginDecode s k).stored = s.stored := by 
  unfold State.beginDecode; dsimp only; split; rfl; rename_i hb; clear hb; generalize s.dealer.tricks.length = n
  induction n generalizing s with
  | zero => rfl
  | succ n ih =>
    unfold State.beginDecode.go; split; rfl; split; rfl; dsimp only; split
    · simp
    · rw [ih, stored_updDealer]; split <;> simp only [stored_freeBuf, stored_takePicture_st]
@[simp] theorem stored_decodeAbandoned (s : State) (c k : Nat) (p : Option Coded) : (s.decodeAbandoned c k p).stored = s.stored :=
  by unfold State.decodeAbandoned; (repeat' split) <;> simp
@[simp] theorem stored_takeRefs (s : State) (c : Nat) (p : RefPic) (keep : List (BitVec 32)) (isRef : Bool) : (s.takeRefs c p keep isRef).stored = s.stored :=
  by unfold State.takeRefs; simp [stored_each, stored_foldl, stored_when, stored_ite, stored_updPlat]
@[simp] theorem stored_saveCtx (s : State) (c : Nat) (r : DecodeIn) : (s.saveCtx c r).stored = s.stored := (rfl)
@[simp] theorem stored_decTrickEnd (s : State) (c : Nat) : (s.decTrickEnd c).stored = s.stored := (rfl)
@[simp] theorem stored_wakeCores (s : State) : (s.wakeCores).stored = s.stored :=
  by unfold State.wakeCores; rw [stored_each]; intro s x; simp
@[simp] theorem stored_updTime (s : State) (f : TimeSt → TimeSt) : (s.updTime f).stored = s.stored := (rfl)
@[simp] theorem stored_wrapEpoch (s : State) : (s.wrapEpoch).stored = s.stored := by unfold State.wrapEpoch; simp [stored_ite]
@[simp] theorem stored_cycle (s : State) : (s.cycle).stored = s.stored := by unfold State.cycle; simp [stored_ite]
@[simp] theorem stored_wrap (s : State) (t : Nat) : (s.wrap t).stored = s.stored := by unfold State.wrap; simp
@[simp] theorem stored_incrWrite (s : State) (w : Word) : (s.incrWrite w).stored = s.stored :=
  by unfold State.incrWrite; split <;> simp
@[simp] theorem stored_shiftMarks (s : State) (d : Time64) : (s.shiftMarks d).stored = s.stored := (rfl)
@[simp] theorem stored_epochWrite (s : State) (w : Word) (wrap : Bool) : (s.epochWrite w wrap).stored = s.stored :=
  by unfold State.epochWrite; simp [stored_each, stored_foldl, stored_when, stored_ite, stored_updPlat]
@[simp] theorem stored_nowLoRead (s : State) (m : Nat) : (s.nowLoRead m).stored = s.stored := (rfl)
@[simp] theorem stored_offHiWrite (s : State) (w : Word) : (s.offHiWrite w).stored = s.stored :=
  by unfold State.offHiWrite; split <;> simp
@[simp] theorem stored_clearOff (s : State) : (s.clearOff).stored = s.stored := by unfold State.clearOff; split <;> simp
@[simp] theorem stored_servoRef (s : State) : (s.servoRef).stored = s.stored := by
  unfold State.servoRef; (repeat' split) <;> simp [stored_each, stored_foldl, stored_when, stored_ite, stored_updPlat]
@[simp] theorem stored_unlockServo (s : State) : (s.unlockServo).stored = s.stored :=
  by unfold State.unlockServo; simp [stored_ite]
@[simp] theorem stored_servoLocked (s : State) (v : Bool) : (s.servoLocked v).stored = s.stored :=
  by unfold State.servoLocked; split <;> simp
@[simp] theorem stored_servoBoundary (s : State) : (s.servoBoundary).stored = s.stored :=
  by unfold State.servoBoundary; simp [stored_ite]
@[simp] theorem stored_servoInvalidate (s : State) : (s.servoInvalidate).stored = s.stored := by unfold State.servoInvalidate; simp
@[simp] theorem stored_gmDomWrite (s : State) (dom : Nat) : (s.gmDomWrite dom).stored = s.stored :=
  by unfold State.gmDomWrite; dsimp only; (repeat' split) <;> simp
@[simp] theorem stored_utcWrite (s : State) (off : BitVec 16) : (s.utcWrite off).stored = s.stored := (rfl)
@[simp] theorem stored_chanFire (s : State) (c : Nat) : (s.chanFire c).stored = s.stored :=
  by unfold State.chanFire; simp [stored_ite]
@[simp] theorem stored_chanStart (s : State) (c : Nat) : (s.chanStart c).stored = s.stored :=
  by unfold State.chanStart; dsimp only; (repeat' split) <;> simp
@[simp] theorem stored_startChannels (s : State) : (s.startChannels).stored = s.stored :=
  by unfold State.startChannels; simp [stored_each, stored_foldl, stored_when, stored_ite, stored_updPlat]
@[simp] theorem stored_markBoundary (s : State) : (s.markBoundary).stored = s.stored := by
  unfold State.markBoundary; dsimp only; (repeat' split) <;> simp [stored_each, stored_foldl, stored_when, stored_ite, stored_updPlat]
@[simp] theorem stored_chanLate (s : State) (c : Nat) : (s.chanLate c).stored = s.stored := by
  unfold State.chanLate; (repeat' split) <;> simp [stored_each, stored_foldl, stored_when, stored_ite, stored_updPlat]
@[simp] theorem stored_trgStartWrite (s : State) (c : Nat) (w : Word) : (s.trgStartWrite c w).stored = s.stored :=
  by unfold State.trgStartWrite; simp [stored_ite]
@[simp] theorem stored_trgCfgWritten (s : State) (c was : Nat) : (s.trgCfgWritten c was).stored = s.stored := by
  unfold State.trgCfgWritten; (repeat' split) <;> simp [stored_each, stored_foldl, stored_when, stored_ite, stored_updPlat]
@[simp] theorem stored_ppsMissed (s : State) (k : Nat) : (s.ppsMissed k).stored = s.stored := (rfl)
@[simp] theorem stored_ppsStart (s : State) (k : Nat) : (s.ppsStart k).stored = s.stored := (rfl)
@[simp] theorem stored_ppsPulse (s : State) (k : Nat) (t : Word) : (s.ppsPulse k t).stored = s.stored :=
  by unfold State.ppsPulse; dsimp only; (repeat' split) <;> simp
@[simp] theorem stored_netDrop (s : State) (f : Fld) : (s.netDrop f).stored = s.stored := (rfl)
@[simp] theorem stored_bankerDrain (s : State) : (s.bankerDrain).stored = s.stored :=
  by unfold State.bankerDrain; simp [stored_each, stored_foldl, stored_when, stored_ite, stored_updPlat]
@[simp] theorem stored_steer (s : State) (n : Nat) (f : NetFrame) (st : Time64) : (s.steer n f st).stored = s.stored := by
  unfold State.steer; dsimp only; (repeat' split) <;> simp [stored_each, stored_foldl, stored_when, stored_ite, stored_updPlat]
@[simp] theorem stored_frameReceive (s : State) (n : Nat) (f : NetFrame) (t : Word) : (s.frameReceive n f t).stored = s.stored :=
  by unfold State.frameReceive; simp [stored_ite]
@[simp] theorem stored_showStamps (s : State) (n : Nat) : (s.showStamps n).stored = s.stored := (rfl)
@[simp] theorem stored_txStamp (s : State) (n : Nat) (m : PtpTx) (t : Word) : (s.txStamp n m t).stored = s.stored :=
  by unfold State.txStamp; split <;> simp
@[simp] theorem stored_frameTransmit (s : State) (n : Nat) (ptp : List PtpTx) (gen : List (List Byte)) (t : Word) : (s.frameTransmit n ptp gen t).stored = s.stored :=
  by unfold State.frameTransmit; dsimp only; (repeat' split) <;> simp
@[simp] theorem stored_txtsIdRead (s : State) (n m : Nat) : (s.txtsIdRead n m).stored = s.stored :=
  by unfold State.txtsIdRead; split <;> simp
@[simp] theorem stored_updEnc (s : State) (e : Nat) (f : EncSt → EncSt) : (s.updEnc e f).stored = s.stored := (rfl)
@[simp] theorem stored_keyRequest (s : State) (e : Nat) : (s.keyRequest e).stored = s.stored :=
  by unfold State.keyRequest; dsimp only; (repeat' split) <;> simp
@[simp] theorem stored_rtcpFeedback (s : State) (e : Nat) : (s.rtcpFeedback e).stored = s.stored :=
  by unfold State.rtcpFeedback; simp [stored_ite]
@[simp] theorem stored_encIssue_st (s : State) (e k : Nat) : (s.encIssue e k).1.stored = s.stored :=
  by unfold State.encIssue; dsimp only; (repeat' split) <;> simp
@[simp] theorem stored_encSkip (s : State) (e : Nat) (r : NotCoded) : (s.encSkip e r).stored = s.stored :=
  by unfold State.encSkip; split <;> simp
@[simp] theorem stored_rowPlan_st (s : State) (prev : List (Nat × Nat)) (qpT b m : Nat) : (State.rowPlan s prev qpT b m).2.stored = s.stored := by 
  have h : ∀ (f : List Nat × State → Nat → List Nat × State) (_ : ∀ a x, (f a x).2.stored = a.2.stored) (l : List Nat) (a : List Nat × State), (l.foldl f a).2.stored = a.2.stored := by
    intro f hf l; induction l with
    | nil => intro a; rfl
    | cons x l ih => intro a; rw [List.foldl, ih, hf]
  have e : ∀ (c : Prop) [Decidable c] (x y : List Nat × State), x.2.stored = s.stored → y.2.stored = s.stored → (if c then x else y).2.stored = s.stored := by
    intro c _ x y; split <;> exact fun a b => by assumption
  unfold State.rowPlan
  refine e _ _ _ (h _ ?_ _ _) rfl; intro a x; exact stored_fresh_st a.2
@[simp] theorem stored_streamOut (s : State) (e : Nat) (bytes : List Byte) : (s.streamOut e bytes).stored = s.stored :=
  by unfold State.streamOut; dsimp only; (repeat' split) <;> simp [stored_each, stored_foldl, stored_when, stored_ite, stored_updPlat]
@[simp] theorem stored_ntpOf_st (s : State) (t : Time64) : (s.ntpOf t).2.stored = s.stored := by
  unfold State.ntpOf; dsimp only; (repeat' split) <;> simp [stored_each, stored_foldl, stored_when, stored_ite, stored_updPlat]
@[simp] theorem stored_encSend (s : State) (e : Nat) (ts : Word) (last : Bool) (payload : List Byte) : (s.encSend e ts last payload).stored = s.stored :=
  by unfold State.encSend; simp [stored_ite]
@[simp] theorem stored_encRecord (s : State) (e k : Nat) (key : Bool) (seq : BitVec 32) (w b : Nat) (x : Coding) : (State.encRecord s e k key seq w b x).stored = s.stored := by unfold State.encRecord; dsimp only; simp only [stored_ite, stored_count, stored_setB, stored_set, stored_setW, stored_next, stored_updEnc, ite_self, stored_log, stored_emit]
@[simp] theorem stored_encCode (s : State) (e k d : Nat) (r : EncodeIn) : (s.encCode e k d r).stored = s.stored := by unfold State.encCode; dsimp only; (repeat' split) <;> simp [stored_each]
@[simp] theorem stored_encRelease (s : State) (e k : Nat) (buf : Option Nat) : (s.encRelease e k buf).stored = s.stored := by
  unfold State.encRelease; dsimp only; (repeat' split) <;> simp [stored_each, stored_foldl, stored_when, stored_ite, stored_updPlat]
@[simp] theorem stored_encTrickEnd (s : State) (e : Nat) (r : RunTrick) : (s.encTrickEnd e r).stored = s.stored := by unfold State.encTrickEnd; simp
@[simp] theorem stored_encReadFail (s : State) (e : Nat) : (s.encReadFail e).stored = s.stored :=
  by unfold State.encReadFail; split <;> simp
@[simp] theorem stored_encodePicture (s : State) (e : Nat) (r : EncodeIn) : (s.encodePicture e r).stored = s.stored := by
  unfold State.encodePicture; dsimp only; (repeat' split) <;> simp [stored_each, stored_foldl, stored_when, stored_ite, stored_updPlat]
@[simp] theorem stored_encAbandoned (s : State) (e k : Nat) (buf : Option Nat) : (s.encAbandoned e k buf).stored = s.stored := by
  unfold State.encAbandoned; simp only [stored_setB, stored_count, stored_updEnc, stored_encRelease]
@[simp] theorem stored_encReport (s : State) (e : Nat) (t : Word) : (s.encReport e t).stored = s.stored :=
  by unfold State.encReport; simp [stored_ite]
@[simp] theorem stored_encAnswer (s : State) (code reason : Nat) : (s.encAnswer code reason).stored = s.stored := (rfl)
@[simp] theorem stored_encBegin (s : State) (e : Nat) : (s.encBegin e).stored = s.stored :=
  by unfold State.encBegin; split <;> simp
@[simp] theorem stored_encEnd (s : State) (e : Nat) : (s.encEnd e).stored = s.stored :=
  by unfold State.encEnd; dsimp only; (repeat' split) <;> simp
@[simp] theorem stored_setChk (s : State) (a : Nat) (w : Word) : (s.setChk a w).stored = s.stored := (rfl)
@[simp] theorem stored_updSub (s : State) (u : Nat) (f : SubSt → SubSt) : (s.updSub u f).stored = s.stored := by
  unfold State.updSub; dsimp only; (repeat' split) <;> simp [stored_each, stored_foldl, stored_when, stored_ite, stored_updPlat]
@[simp] theorem stored_activate (s : State) (u rank bank row : Nat) : (s.activate u rank bank row).stored = s.stored :=
  by unfold State.activate; simp [stored_ite]
@[simp] theorem stored_openRow (s : State) (u b : Nat) : (s.openRow u b).stored = s.stored :=
  by unfold State.openRow; simp [stored_ite]
@[simp] theorem stored_doRefresh (s : State) (u r : Nat) : (s.doRefresh u r).stored = s.stored := by
  unfold State.doRefresh; dsimp only; (repeat' split) <;> simp [stored_each, stored_foldl, stored_when, stored_ite, stored_updPlat]
@[simp] theorem stored_showDebt (s : State) (u : Nat) : (s.showDebt u).stored = s.stored := (rfl)
@[simp] theorem stored_setDebt (s : State) (u r : Nat) (d : Int) : (s.setDebt u r d).stored = s.stored := by
  unfold State.setDebt; (repeat' split) <;> simp [stored_each, stored_foldl, stored_when, stored_ite, stored_updPlat]
@[simp] theorem stored_limitRefresh (s : State) (u r : Nat) : (s.limitRefresh u r).stored = s.stored := by
  unfold State.limitRefresh; (repeat' split) <;> simp [stored_each, stored_foldl, stored_when, stored_ite, stored_updPlat]
@[simp] theorem stored_column (s : State) (u b : Nat) (write : Bool) : (s.column u b write).stored = s.stored := by
  unfold State.column; dsimp only; (repeat' split) <;> simp [stored_each, stored_foldl, stored_when, stored_ite, stored_updPlat]
@[simp] theorem stored_evict (s : State) (u port : Nat) : (s.evict u port).stored = s.stored := by
  unfold State.evict; dsimp only; (repeat' split) <;> simp [stored_each, stored_foldl, stored_when, stored_ite, stored_updPlat]
@[simp] theorem stored_chkAccess (s : State) (u b port : Nat) (write : Bool) : (s.chkAccess u b port write).stored = s.stored := by
  unfold State.chkAccess; dsimp only; (repeat' split) <;> simp [stored_each, stored_foldl, stored_when, stored_ite, stored_updPlat]
@[simp] theorem stored_reread (s : State) (u b port n : Nat) : (s.reread u b port n).stored = s.stored := by
  induction n generalizing s with
  | zero => rfl
  | succ n ih => unfold State.reread; rw [ih]; simp
@[simp] theorem stored_nextTarget (s : State) (u : Nat) : (s.nextTarget u).stored = s.stored := by
  unfold State.nextTarget; dsimp only; (repeat' split) <;> simp [stored_each, stored_foldl, stored_when, stored_ite, stored_updPlat]
@[simp] theorem stored_issueTargets (s : State) (u : Nat) (n : Nat) : (State.issueTargets s u n).stored = s.stored := by
  induction n generalizing s with
  | zero => rfl
  | succ n ih => unfold State.issueTargets; rw [ih, stored_nextTarget]
@[simp] theorem stored_targetedRefresh (s : State) (u : Nat) : (s.targetedRefresh u).stored = s.stored :=
  by unfold State.targetedRefresh; split <;> simp
@[simp] theorem stored_refreshDue (s : State) (u r : Nat) (claims : Bool) : (s.refreshDue u r claims).stored = s.stored := by
  unfold State.refreshDue; dsimp only; (repeat' split) <;> simp [stored_each, stored_foldl, stored_when, stored_ite, stored_updPlat]
@[simp] theorem stored_refresh (s : State) (u r : Nat) (a : RefreshAct) : (State.refresh s u r a).stored = s.stored := by
  unfold State.refresh; dsimp only; (repeat' split) <;> simp [stored_each, stored_foldl, stored_when, stored_ite, stored_updPlat]
@[simp] theorem stored_showHot (s : State) (u : Nat) : (s.showHot u).stored = s.stored := (rfl)
@[simp] theorem stored_mr4Read (s : State) (u r : Nat) (m : Mr4Out) : (s.mr4Read u r m).stored = s.stored :=
  by unfold State.mr4Read; simp [stored_ite]
@[simp] theorem stored_dqsTrack (s : State) (u : Nat) (drift : Int) : (s.dqsTrack u drift).stored = s.stored :=
  by unfold State.dqsTrack; split <;> simp
@[simp] theorem stored_ctxStateFail (s : State) (c : Nat) : (s.ctxStateFail c).stored = s.stored :=
  by
    unfold State.ctxStateFail; dsimp only; split; rfl
    rw [stored_wakeCores]; (repeat' split) <;> simp only [stored_waitKey, stored_set, stored_flushDpb, stored_decTrickEnd, stored_updDealer, stored_freeBuf]
@[simp] theorem stored_granulesFail (s : State) (c : Nat) (gs : List Nat) : (s.granulesFail c gs).stored = s.stored :=
  by unfold State.granulesFail; split <;> simp
@[simp] theorem stored_readerFail (s : State) (a : Nat) (u : ReadUse) : (s.readerFail a u).stored = s.stored := by
  cases u <;> unfold State.readerFail
  · exact stored_fetchFail ..
  · exact (stored_putFifo ..).trans (stored_maskLine ..)
  · exact stored_updOut ..
  · exact stored_granulesFail ..
  · exact stored_granulesFail ..
  · exact stored_ctxStateFail ..
  · exact stored_encReadFail ..
  · exact stored_updFab ..
  · exact stored_markBad ..
  · rfl
  · dsimp only; split
    · split
      · exact stored_count ..
      · exact (stored_markBad ..).trans (stored_count ..)
    · exact stored_count ..
@[simp] theorem stored_readBlock_st (s : State) (u b port a : Nat) (errs : List BlockErr) : (s.readBlock u b port a errs).1.stored = s.stored := by
  unfold State.readBlock; dsimp only; (repeat' split) <;> simp [stored_each, stored_foldl, stored_when, stored_ite, stored_updPlat]
@[simp] theorem stored_deliverBlock (s : State) (q : MemReq) (data : List Byte) (good : Bool) (kind : Nat) : (s.deliverBlock q data good kind).stored = s.stored := by
  unfold State.deliverBlock; dsimp only; (repeat' split) <;> simp [stored_each, stored_foldl, stored_when, stored_ite, stored_updPlat]
@[simp] theorem stored_beforeSpare (s : State) (u port : Nat) : (s.beforeSpare u port).stored = s.stored := by
  unfold State.beforeSpare; (repeat' split) <;> simp [stored_each, stored_foldl, stored_when, stored_ite, stored_updPlat]
@[simp] theorem stored_answerRead (s : State) (u b : Nat) (q : MemReq) : (s.answerRead u b q).stored = s.stored := by
  unfold State.answerRead; dsimp only
  have h : ∀ x : State, x.stored = s.stored → (if x.scState u = scFailed then x.deliverBlock q (if q.use = .processor then List.replicate 256 0 else []) false 3
      else if ((s.sub u).queued b) = true then x.deliverBlock q (x.blockData q.addr) (x.chkDiff q.addr == 0) 0
      else (x.readBlock u b q.port q.addr q.errs).1.deliverBlock q (x.readBlock u b q.port q.addr q.errs).2.1
        (x.readBlock u b q.port q.addr q.errs).2.2 (if q.use = .scrub then 2 else 0)).stored = s.stored := by
    intro x hx; split; · rw [stored_deliverBlock, hx]
    split <;> rw [stored_deliverBlock]
    · exact hx
    · rw [stored_readBlock_st, hx]
  split; rfl; exact h _ (by rw [stored_charge_, stored_beforeSpare])
@[simp] theorem stored_serveReads (s : State) (u n : Nat) : (s.serveReads u n).stored = s.stored := by
  induction n generalizing s with
  | zero => rfl
  | succ n ih =>
    unfold State.serveReads; split; rfl; split; rfl
    have h : ∀ x : State, x.stored = s.stored → ∀ (f : SubSt → SubSt) (o : Option (Nat × Nat)) (q : MemReq),
        (match o with | some (_, b) => State.serveReads ((x.updSub u f).answerRead u b q) u n | none => State.serveReads (x.updSub u f) u n).stored = s.stored := by
      intro x hx f o q; split <;> rw [ih] <;> simp [hx]
    dsimp only; exact h _ (by first | rfl | (split <;> simp)) _ _ _
@[simp] theorem stored_serveAll (s : State) : (State.serveAll s).stored = s.stored := by unfold State.serveAll; rw [stored_each]; intro s u; split; rw [stored_serveReads]; rfl
@[simp] theorem stored_memOutside (s : State) (port a kind : Nat) : (s.memOutside port a kind).stored = s.stored :=
  by unfold State.memOutside; simp
@[simp] theorem stored_dramRead (s : State) (rs : List MemReq) : (State.dramRead s rs).stored = s.stored := by unfold State.dramRead; dsimp only; rw [stored_serveAll, stored_each]; intro s q; split <;> simp
@[simp] theorem stored_issueWrites (s : State) (u : Nat) (due : List (Nat × Nat)) (lim : Nat) (m n : Nat) : (State.issueWrites s u due lim m n).stored = s.stored := by
  induction n generalizing s m lim with
  | zero => unfold State.issueWrites; rfl
  | succ n ih =>
    unfold State.issueWrites; dsimp only; split; rfl
    rw [ih, stored_each _ _ (by intro s e; split <;> simp), stored_updSub, stored_chkAccess, stored_column, stored_ite]; simp
@[simp] theorem stored_drain (s : State) (u aged : Nat) (due : List (Nat × Nat)) : (s.drain u aged due).stored = s.stored := by
  unfold State.drain; dsimp only; (repeat' split) <;> simp [stored_each, stored_foldl, stored_when, stored_ite, stored_updPlat]
@[simp] theorem stored_drainHigh (s : State) (u : Nat) : (s.drainHigh u).stored = s.stored := by unfold State.drainHigh; simp [stored_ite]
@[simp] theorem stored_queueWrite (s : State) (u b port : Nat) (spare : Bool) : (s.queueWrite u b port spare).stored = s.stored := by
  unfold State.queueWrite; (repeat' split) <;> simp [stored_each, stored_foldl, stored_when, stored_ite, stored_updPlat]
@[simp] theorem stored_scrubBlock (s : State) : (s.scrubBlock).stored = s.stored := by
  unfold State.scrubBlock; dsimp only; (repeat' split) <;> simp [stored_each, stored_foldl, stored_when, stored_ite, stored_updPlat]
@[simp] theorem stored_scrubRun (s : State) (n : Nat) : (State.scrubRun s n).stored = s.stored := by
  induction n generalizing s with
  | zero => unfold State.scrubRun; rfl
  | succ n ih => unfold State.scrubRun; dsimp only; (repeat' split) <;> simp [ih, stored_each, stored_foldl, stored_when, stored_ite, stored_updPlat]
@[simp] theorem stored_scrubOn (s : State) : (s.scrubOn).stored = s.stored := by
  unfold State.scrubOn; dsimp only; (repeat' split) <;> simp [stored_each, stored_foldl, stored_when, stored_ite, stored_updPlat]
@[simp] theorem stored_scrubEnd (s : State) : (s.scrubEnd).stored = s.stored := (rfl)
@[simp] theorem stored_memTick (s : State) : (s.memTick).stored = s.stored :=
  by unfold State.memTick; simp [stored_each, stored_foldl, stored_when, stored_ite, stored_updPlat]
@[simp] theorem stored_subFail (s : State) (u : Nat) : (State.subFail s u).stored = s.stored := by unfold State.subFail; dsimp only; split <;> simp
@[simp] theorem stored_alert (s : State) (u : Nat) : (s.alert u).stored = s.stored :=
  by unfold State.alert; simp [stored_ite]
@[simp] theorem stored_alertTimeout (s : State) (u : Nat) : (s.alertTimeout u).stored = s.stored :=
  by unfold State.alertTimeout; split <;> simp
@[simp] theorem stored_reissue (s : State) (u : Nat) (c : MemCmd) : (s.reissue u c).stored = s.stored := by
  cases c <;> unfold State.reissue <;> first | rfl | simp
@[simp] theorem stored_trainStart (s : State) : (s.trainStart).stored = s.stored :=
  by unfold State.trainStart; simp [stored_each, stored_foldl, stored_when, stored_ite, stored_updPlat]
@[simp] theorem stored_trainOk (s : State) : (s.trainOk).stored = s.stored :=
  by unfold State.trainOk; simp [stored_each, stored_foldl, stored_when, stored_ite, stored_updPlat]
@[simp] theorem stored_trainFail (s : State) (u : Nat) : (s.trainFail u).stored = s.stored := by unfold State.trainFail; simp
@[simp] theorem stored_keepResults (s : State) (bad : List Nat) (rs : List (Nat × List Nat)) : (s.keepResults bad rs).stored = s.stored := by
  unfold State.keepResults; dsimp only; (repeat' split) <;> simp [stored_each, stored_foldl, stored_when, stored_ite, stored_updPlat]
@[simp] theorem stored_trainingStep (s : State) (fails : List Nat) (rs : List (Nat × List Nat)) : (s.trainingStep fails rs).stored = s.stored := by
  unfold State.trainingStep; dsimp only; (repeat' split) <;> simp [stored_each, stored_foldl, stored_when, stored_ite, stored_updPlat]
@[simp] theorem stored_freqGo (s : State) (target : Nat) : (s.freqGo target).stored = s.stored :=
  by unfold State.freqGo; simp [stored_ite]
@[simp] theorem stored_updTch (s : State) (p : Nat) (f : TouchSt → TouchSt) : (s.updTch p f).stored = s.stored := (rfl)
@[simp] theorem stored_setTch (s : State) (p st : Nat) : (s.setTch p st).stored = s.stored := (rfl)
@[simp] theorem stored_showTch (s : State) (p : Nat) : (s.showTch p).stored = s.stored := (rfl)
@[simp] theorem stored_scoTouch_st (s : State) (p : Nat) (now : Time64) (bs : List Byte) : (s.scoTouch p now bs).1.stored = s.stored :=
  by unfold State.scoTouch; dsimp only; (repeat' split) <;> simp
@[simp] theorem stored_writeReport_st (s : State) (p : Nat) (rel fault : Bool) (t : Word) (recs : List TouchRecord) (flips : List (Nat × Byte)) : (s.writeReport p rel fault t recs flips).1.stored = s.stored :=
  by unfold State.writeReport; simp [stored_each, stored_foldl, stored_when, stored_ite, stored_updPlat]
@[simp] theorem stored_releaseAll (s : State) (p cause : Nat) : (s.releaseAll p cause).stored = s.stored :=
  by unfold State.releaseAll; simp [stored_each, stored_foldl, stored_when, stored_ite, stored_updPlat]
@[simp] theorem stored_tchFault (s : State) (p cause elec : Nat) : (s.tchFault p cause elec).stored = s.stored :=
  by unfold State.tchFault; simp
@[simp] theorem stored_tchFail (s : State) (p cause elec : Nat) : (s.tchFail p cause elec).stored = s.stored :=
  by unfold State.tchFail; simp [stored_ite]
@[simp] theorem stored_scoOrder (s : State) (p n : Nat) : (s.scoOrder p n).stored = s.stored :=
  by unfold State.scoOrder; simp [stored_ite]
@[simp] theorem stored_tchBegin (s : State) (p : Nat) : (s.tchBegin p).stored = s.stored := (rfl)
@[simp] theorem stored_touchStart (s : State) : (s.touchStart).stored = s.stored :=
  by unfold State.touchStart; simp [stored_each, stored_foldl, stored_when, stored_ite, stored_updPlat]
@[simp] theorem stored_touchOff (s : State) : (s.touchOff).stored = s.stored :=
  by unfold State.touchOff; simp [stored_each, stored_foldl, stored_when, stored_ite, stored_updPlat]
@[simp] theorem stored_baseFrame (s : State) (p : Nat) : (s.baseFrame p).stored = s.stored :=
  by unfold State.baseFrame; simp [stored_each, stored_foldl, stored_when, stored_ite, stored_updPlat]
@[simp] theorem stored_trackFrame (s : State) (p : Nat) (q : Panel) (was : List Nat) : (s.trackFrame p q was).stored = s.stored :=
  (rfl)
@[simp] theorem stored_runFrame_st (s : State) (p : Nat) (t : Word) : (State.runFrame s p t).1.stored = s.stored := by 
  unfold State.runFrame; dsimp only
  have fm : ∀ (f : FrameEval → Contact → FrameEval) (_ : ∀ v c, (f v c).st.stored = v.st.stored) (l : List Contact) (v : FrameEval), (l.foldl f v).st.stored = v.st.stored := by
    intro f hf l; induction l with
    | nil => intro a; rfl
    | cons x l ih => intro a; rw [List.foldl, ih, hf]
  have fn : ∀ (f : FrameEval → Nat × Nat → FrameEval) (_ : ∀ v c, (f v c).st.stored = v.st.stored) (l : List (Nat × Nat)) (v : FrameEval), (l.foldl f v).st.stored = v.st.stored := by
    intro f hf l; induction l with
    | nil => intro a; rfl
    | cons x l ih => intro a; rw [List.foldl, ih, hf]
  simp only [stored_showTch, stored_trackFrame, stored_updTch]
  rw [fn, fm]
  · rw [stored_when _ _ (by intro s; simp), stored_count]
  · intro v c; unfold matchContact; dsimp only; (repeat' split) <;> first | rfl | simp
  · intro v c; unfold newPeak; dsimp only; (repeat' split) <;> first | rfl | simp
@[simp] theorem stored_scanFrame (s : State) (p : Nat) (f : ScanData) : (s.scanFrame p f).stored = s.stored :=
  by unfold State.scanFrame; dsimp only; (repeat' split) <;> simp
@[simp] theorem stored_faultSlot (s : State) (p : Nat) : (State.faultSlot s p).stored = s.stored := by unfold State.faultSlot; rw [stored_scoOrder]; exact stored_writeReport_st ..
@[simp] theorem stored_scanAbandoned (s : State) (p : Nat) : (s.scanAbandoned p).stored = s.stored :=
  by unfold State.scanAbandoned; dsimp only; (repeat' split) <;> simp
@[simp] theorem stored_selfTest (s : State) (p : Nat) (f : TestIn) : (s.selfTest p f).stored = s.stored :=
  by unfold State.selfTest; dsimp only; (repeat' split) <;> simp
@[simp] theorem stored_testAbandoned (s : State) (p : Nat) : (s.testAbandoned p).stored = s.stored := by
  unfold State.testAbandoned; (repeat' split) <;> simp [stored_each, stored_foldl, stored_when, stored_ite, stored_updPlat]
@[simp] theorem stored_testMissed (s : State) (p : Nat) : (s.testMissed p).stored = s.stored := by unfold State.testMissed; simp
@[simp] theorem stored_coveredTimeout (s : State) (p : Nat) : (s.coveredTimeout p).stored = s.stored :=
  by unfold State.coveredTimeout; split <;> simp
@[simp] theorem stored_tchRestart (s : State) (p : Nat) : (s.tchRestart p).stored = s.stored :=
  by unfold State.tchRestart; simp [stored_ite]
@[simp] theorem stored_tchRelease (s : State) (p : Nat) : (s.tchRelease p).stored = s.stored :=
  by unfold State.tchRelease; split <;> simp
@[simp] theorem stored_tchBoth (s : State) (p : Nat) : (s.tchBoth p).stored = s.stored := by
  unfold State.tchBoth; (repeat' split) <;> simp [stored_each, stored_foldl, stored_when, stored_ite, stored_updPlat]
@[simp] theorem stored_slotRead (s : State) (p r : Nat) : (s.slotRead p r).stored = s.stored := by
  unfold State.slotRead; (repeat' split) <;> simp [stored_each, stored_foldl, stored_when, stored_ite, stored_updPlat]
@[simp] theorem stored_updAud (s : State) (p : Nat) (f : AudSt → AudSt) : (s.updAud p f).stored = s.stored := (rfl)
@[simp] theorem stored_setAud (s : State) (p st : Nat) : (s.setAud p st).stored = s.stored := by
  unfold State.setAud; dsimp only; (repeat' split) <;> simp [stored_each, stored_foldl, stored_when, stored_ite, stored_updPlat]
@[simp] theorem stored_sendAudio (s : State) (p : Nat) (frames : List (List Word)) : (s.sendAudio p frames).stored = s.stored := by
  unfold State.sendAudio; (repeat' split) <;> simp [stored_each, stored_foldl, stored_when, stored_ite, stored_updPlat]
@[simp] theorem stored_showStore (s : State) (p : Nat) : (s.showStore p).stored = s.stored := (rfl)
@[simp] theorem stored_underrun (s : State) (p : Nat) : (s.underrun p).stored = s.stored := (rfl)
@[simp] theorem stored_silentFrames (s : State) (p : Nat) : (s.silentFrames p).stored = s.stored := by
  unfold State.silentFrames; dsimp only; (repeat' split) <;> simp [stored_each, stored_foldl, stored_when, stored_ite, stored_updPlat]
@[simp] theorem stored_prestart (s : State) (p : Nat) (t : Word) : (s.prestart p t).stored = s.stored := by
  unfold State.prestart; (repeat' split) <;> simp [stored_each, stored_foldl, stored_when, stored_ite, stored_updPlat]
@[simp] theorem stored_audioIssue (s : State) (p c j : Nat) : (s.audioIssue p c j).stored = s.stored :=
  by unfold State.audioIssue; dsimp only; (repeat' split) <;> simp
@[simp] theorem stored_groupFire (s : State) (g c : Nat) (t : Word) : (State.groupFire s g c t).stored = s.stored := by 
  unfold State.groupFire; dsimp only
  have h : ∀ u : State, u.stored = s.stored → (match u.audGrid g with | none => u | some x => (if ({ u with audio := { u.audio with groups := Tab.insert u.audio.groups g { x with fired := x.fired + 1 } } } : State).dealing then ({ u with audio := { u.audio with groups := Tab.insert u.audio.groups g { x with fired := x.fired + 1 } } } : State).each ((List.range 8).filter fun p => s.on (.AUD_P_CFG_EN p) && s.audGroup p == g) (fun s p => s.audioIssue p c x.fired) else { u with audio := { u.audio with groups := Tab.insert u.audio.groups g { x with fired := x.fired + 1 } } })).stored = s.stored := by
    intro u hu; split; exact hu; split
    · rw [stored_each _ _ (by intro s p; simp), stored_with_audio, hu]
    · rw [stored_with_audio, hu]
  apply h; split; rfl; rw [stored_each _ _ (by intro s p; split <;> simp), stored_setW, stored_with_audio]
@[simp] theorem stored_audioFire (s : State) (c : Nat) (t : Word) : (s.audioFire c t).stored = s.stored :=
  by unfold State.audioFire; simp [stored_each, stored_foldl, stored_when, stored_ite, stored_updPlat]
@[simp] theorem stored_audioAbandoned (s : State) (p : Nat) : (s.audioAbandoned p).stored = s.stored :=
  by unfold State.audioAbandoned; dsimp only; (repeat' split) <;> simp
@[simp] theorem stored_toneOrder (s : State) (on : Bool) (t : Word) : (State.toneOrder s on t).stored = s.stored := by unfold State.toneOrder; split; rfl; dsimp only; simp only [stored_log, stored_with_audio, stored_setB, stored_set]
@[simp] theorem stored_takeOrder (s : State) (k : Nat) (on : Bool) : (s.takeOrder k on).stored = s.stored := by
  unfold State.takeOrder; dsimp only; (repeat' split) <;> simp [stored_each, stored_foldl, stored_when, stored_ite, stored_updPlat]
@[simp] theorem stored_toneEffect (s : State) (k : Nat) (t : Word) : (s.toneEffect k t).stored = s.stored := by
  unfold State.toneEffect; dsimp only; (repeat' split) <;> simp [stored_each, stored_foldl, stored_when, stored_ite, stored_updPlat]
@[simp] theorem stored_moveFrames (s : State) (p m : Nat) : (s.moveFrames p m).stored = s.stored := (rfl)
@[simp] theorem stored_clockBad (s : State) (p cause : Nat) : (s.clockBad p cause).stored = s.stored := by
  unfold State.clockBad; dsimp only; (repeat' split) <;> simp [stored_each, stored_foldl, stored_when, stored_ite, stored_updPlat]
@[simp] theorem stored_storeCheck (s : State) (p : Nat) : (s.storeCheck p).stored = s.stored := by
  unfold State.storeCheck; dsimp only; (repeat' split) <;> simp [stored_each, stored_foldl, stored_when, stored_ite, stored_updPlat]
@[simp] theorem stored_fsEdge (s : State) (p : Nat) (frame : List Word) (t : Word) : (s.fsEdge p frame t).stored = s.stored :=
  by unfold State.fsEdge; simp [stored_ite]
@[simp] theorem stored_audioClockLost (s : State) (p : Nat) : (s.audioClockLost p).stored = s.stored :=
  by unfold State.audioClockLost; split <;> simp
@[simp] theorem stored_endBlock (s : State) (p : Nat) (b : AudioBound) : (s.endBlock p b).stored = s.stored :=
  by unfold State.endBlock; (repeat' split) <;> simp
@[simp] theorem stored_blockFrames_st (s : State) (p k : Nat) : (s.blockFrames p k).1.stored = s.stored :=
  by unfold State.blockFrames; dsimp only; (repeat' split) <;> simp
@[simp] theorem stored_alarmBlock_st (s : State) (p k : Nat) (fail : Bool) (frames : List (List Word)) : (s.alarmBlock p k fail frames).1.stored = s.stored := by
  unfold State.alarmBlock; dsimp only; split; rfl; split
  · rfl
  · split
    · exact (stored_setB ..).trans ((stored_log ..).trans rfl)
    · rfl
@[simp] theorem stored_beginBlock (s : State) (p k : Nat) (b : AudioBound) : (s.beginBlock p k b).stored = s.stored :=
  by unfold State.beginBlock; dsimp only; (repeat' split) <;> simp
@[simp] theorem stored_boundState (s : State) (p : Nat) (b : AudioBound) : (s.boundState p b).stored = s.stored :=
  by unfold State.boundState; dsimp only; (repeat' split) <;> simp
@[simp] theorem stored_audioBoundary (s : State) (p : Nat) (b : AudioBound) : (s.audioBoundary p b).stored = s.stored :=
  by unfold State.audioBoundary; dsimp only; (repeat' split) <;> simp
@[simp] theorem stored_audOff (s : State) (p : Nat) : (s.audOff p).stored = s.stored := by
  unfold State.audOff; dsimp only; (repeat' split) <;> simp [stored_each, stored_foldl, stored_when, stored_ite, stored_updPlat]
@[simp] theorem stored_stoppingEnd (s : State) (p : Nat) : (s.stoppingEnd p).stored = s.stored :=
  by unfold State.stoppingEnd; split <;> simp
@[simp] theorem stored_audioSafe (s : State) : (s.audioSafe).stored = s.stored :=
  by unfold State.audioSafe; simp [stored_each, stored_foldl, stored_when, stored_ite, stored_updPlat]
@[simp] theorem stored_audioOff (s : State) : (s.audioOff).stored = s.stored := by
  unfold State.audioOff; dsimp only; (repeat' split) <;> simp [stored_each, stored_foldl, stored_when, stored_ite, stored_updPlat]
@[simp] theorem stored_audioStart (s : State) : (s.audioStart).stored = s.stored := (rfl)
@[simp] theorem stored_muteWrite (s : State) (p : Nat) (v : Bool) : (s.muteWrite p v).stored = s.stored := (rfl)
@[simp] theorem stored_chkStart (s : State) (n : Nat) : (s.chkStart n).stored = s.stored := (rfl)
@[simp] theorem stored_chkAlive (s : State) (n x : Nat) : (s.chkAlive n x).stored = s.stored :=
  by unfold State.chkAlive; simp [stored_ite]
@[simp] theorem stored_chkFeed (s : State) (n : Nat) (x : Byte) : (s.chkFeed n x).stored = s.stored :=
  by unfold State.chkFeed; simp [stored_ite]
@[simp] theorem stored_chkData (s : State) (n k : Nat) (w : Word) : (s.chkData n k w).stored = s.stored :=
  by unfold State.chkData; simp [stored_each, stored_foldl, stored_when, stored_ite, stored_updPlat]
@[simp] theorem stored_chkCfg (s : State) (n : Nat) (v : Word) : (s.chkCfg n v).stored = s.stored :=
  by unfold State.chkCfg; simp [stored_ite]
@[simp] theorem stored_setLogNext (s : State) (area n : Nat) : (s.setLogNext area n).stored = s.stored :=
  by unfold State.setLogNext; split <;> simp
@[simp] theorem stored_takeHeader (s : State) (c gen : Nat) : (s.takeHeader c gen).stored = s.stored :=
  by unfold State.takeHeader; dsimp only; (repeat' split) <;> simp [stored_each, stored_foldl, stored_when, stored_ite, stored_updPlat]
@[simp] theorem stored_freshHeader (s : State) : (State.freshHeader s).stored = s.stored := by unfold State.freshHeader; dsimp only; simp only [stored_setB, stored_set, stored_setWord, stored_setLogNext, stored_with_logs]
@[simp] theorem stored_loadHeader (s : State) : (s.loadHeader).stored = s.stored := by unfold State.loadHeader; split <;> simp
@[simp] theorem stored_newNonce (s : State) : (s.newNonce).stored = s.stored := (rfl)
@[simp] theorem stored_senseFuses (s : State) : (s.senseFuses).stored = s.stored := (rfl)
@[simp] theorem stored_setSlotErr (s : State) (slot r : Nat) : (s.setSlotErr slot r).stored = s.stored :=
  by unfold State.setSlotErr; split <;> simp
@[simp] theorem stored_fuseGo (s : State) (m w : Nat) : (s.fuseGo m w).stored = s.stored :=
  by unfold State.fuseGo; simp [stored_each, stored_foldl, stored_when, stored_ite, stored_updPlat]
@[simp] theorem stored_jtag (s : State) (code dr : Nat) : (s.jtag code dr).stored = s.stored := (rfl)
@[simp] theorem stored_bypass (s : State) : (s.bypass).stored = s.stored := (rfl)
@[simp] theorem stored_samplePreload (s : State) (pins shift : Nat) : (s.samplePreload pins shift).stored = s.stored := (rfl)
@[simp] theorem stored_extest (s : State) (pins shift : Nat) : (s.extest pins shift).stored = s.stored :=
  by unfold State.extest; simp [stored_each, stored_foldl, stored_when, stored_ite, stored_updPlat]
@[simp] theorem stored_showAbsent (s : State) : (s.showAbsent).stored = s.stored := (rfl)
@[simp] theorem stored_showHalts (s : State) : (s.showHalts).stored = s.stored := by unfold State.showHalts; simp [stored_ite]
@[simp] theorem stored_abandonUpdate (s : State) : (s.abandonUpdate).stored = s.stored := by
  unfold State.abandonUpdate; (repeat' split) <;> simp [stored_each, stored_foldl, stored_when, stored_ite, stored_updPlat]
@[simp] theorem stored_dbgHalt (s : State) (p : Nat) (halt : Bool) : (State.dbgHalt s p halt).stored = s.stored := by 
  unfold State.dbgHalt; dsimp only
  have hj : ∀ (u : State) c d, (u.jtag c d).stored = u.stored := by intro u c d; unfold State.jtag; rw [stored_emit, stored_updPlat _ _ (by intro p; exact ⟨rfl, rfl⟩)]
  have hp : ∀ (u : State) (g : List Nat → List Nat), (u.updPlat fun x => { x with halted := g x.halted }).stored = u.stored := by
    intro u g; exact stored_updPlat _ _ (by intro p; exact ⟨rfl, rfl⟩)
  have hd : ∀ (u : State) (c : Prop) [Decidable c], u.stored = s.stored → (if c then u.bankerDrain else u).stored = s.stored := by
    intro u c _ hu; split <;> simp only [stored_bankerDrain, hu]
  have hq : ∀ (u : State) (c : Prop) [Decidable c] (f : Fld) (b : Bool), u.stored = s.stored → (if c then u.setB f b else u).stored = s.stored := by
    intro u c _ f b hu; split <;> simp only [stored_setB, hu]
  have ha : ∀ (u : State) (c : Prop) [Decidable c], u.stored = s.stored → (if c then u.abandonUpdate else u).stored = s.stored := by
    intro u c _ hu; split <;> simp only [stored_abandonUpdate, hu]
  split
  · simp only [hj, stored_log, stored_with_sco, stored_setB]
  · split
    · rw [hj, stored_log]; apply hd; rw [stored_showHalts]; apply ha; apply hq; exact hp s fun l => if halt = true then uniq (l ++ [p]) else l.filter (· != p)
    · simp only [hj, stored_ite, stored_log, ite_self]
@[simp] theorem stored_dbgUnlock (s : State) (token : List Byte) : (s.dbgUnlock token).stored = s.stored :=
  by unfold State.dbgUnlock; simp [stored_each, stored_foldl, stored_when, stored_ite, stored_updPlat]
@[simp] theorem stored_unlockVerify (s : State) : (s.unlockVerify).stored = s.stored :=
  by unfold State.unlockVerify; dsimp only; (repeat' split) <;> simp [stored_each, stored_foldl, stored_when, stored_ite, stored_updPlat]
@[simp] theorem stored_joinCause (s : State) (cause : Nat) : (s.joinCause cause).stored = s.stored := by
  unfold State.joinCause; split; rfl; simp only [stored_with_sco, stored_set]
@[simp] theorem stored_wdtKick (s : State) (t : Word) : (s.wdtKick t).stored = s.stored := (rfl)
@[simp] theorem stored_loadMems (s : State) (slot : Nat) (kinds : List Nat) : (s.loadMems slot kinds).stored = s.stored := by
  unfold State.loadMems; (repeat' split) <;> simp [stored_each, stored_foldl, stored_when, stored_ite, stored_updPlat]
@[simp] theorem stored_loadSram (s : State) (slot : Nat) : (s.loadSram slot).stored = s.stored := (rfl)
@[simp] theorem stored_startFirmware (s : State) : (s.startFirmware).stored = s.stored := (rfl)
@[simp] theorem stored_bankerRelease (s : State) (f : FlashIn) (t : Word) : (s.bankerRelease f t).stored = s.stored :=
  by unfold State.bankerRelease; dsimp only; (repeat' split) <;> simp
@[simp] theorem stored_remapWrite (s : State) (v : Bool) : (s.remapWrite v).stored = s.stored :=
  by unfold State.remapWrite; split <;> simp
@[simp] theorem stored_priWrite (s : State) (t : Nat) (hi : Bool) (w : Word) : (s.priWrite t hi w).stored = s.stored :=
  by unfold State.priWrite; split <;> simp
@[simp] theorem stored_rgnBaseWrite (s : State) (m r : Nat) (w : Word) : (s.rgnBaseWrite m r w).stored = s.stored :=
  by unfold State.rgnBaseWrite; split <;> simp
@[simp] theorem stored_rgnCtlWrite (s : State) (m r : Nat) (w : Word) : (s.rgnCtlWrite m r w).stored = s.stored :=
  by unfold State.rgnCtlWrite; split <;> simp
@[simp] theorem stored_mpuLock (s : State) (v : Bool) : (s.mpuLock v).stored = s.stored :=
  by unfold State.mpuLock; split <;> simp
@[simp] theorem stored_perst (s : State) : (s.perst).stored = s.stored := by
  unfold State.perst; dsimp only; (repeat' split) <;> simp [stored_each, stored_foldl, stored_when, stored_ite, stored_updPlat]
@[simp] theorem stored_hstLink (s : State) (width : Nat) (gen2 : Bool) : (s.hstLink width gen2).stored = s.stored := by
  unfold State.hstLink; dsimp only; (repeat' split) <;> simp [stored_each, stored_foldl, stored_when, stored_ite, stored_updPlat]
@[simp] theorem stored_npLink (s : State) (n : Nat) (up : Bool) : (s.npLink n up).stored = s.stored := (rfl)
@[simp] theorem stored_addRun (s : State) (r : RunTrick) : (s.addRun r).stored = s.stored := (rfl)
theorem stored_issueFilling (s : State) (t : Trick) (c : Nat) (empty : State → State) (h : ∀ s, (empty s).stored = s.stored) : (s.issueFilling t c empty).stored = s.stored := by
  unfold State.issueFilling; split; rw [h]; simp; simp
@[simp] theorem stored_endCopy (s : State) (o : Nat) : (s.endCopy o).stored = s.stored :=
  by unfold State.endCopy; split <;> simp
@[simp] theorem stored_countCopy (s : State) (o : Nat) : (s.countCopy o).stored = s.stored := by
  unfold State.countCopy; (repeat' split) <;> simp [stored_each, stored_foldl, stored_when, stored_ite, stored_updPlat]
@[simp] theorem stored_issueFlow (s : State) (t : Trick) : (s.issueFlow t).stored = s.stored :=
  by unfold State.issueFlow; dsimp only; (repeat' split) <;> simp
@[simp] theorem stored_issueTrick (s : State) (t : Trick) : (State.issueTrick s t).stored = s.stored := by unfold State.issueTrick; split; rfl; split <;> (repeat' (first | rfl | (simp [stored_ite]; done) | (rw [stored_issueFilling _ _ _ _ (by intro s; simp)]; done) | (rw [stored_issueFilling _ _ _ _ (by intro s; simp)]; simp; done) | (rw [stored_beginDecode, stored_issueFilling _ _ _ _ (by intro s; simp)]) | split))
@[simp] theorem stored_issueWhere (s : State) (p : Trick → Bool) : (s.issueWhere p).stored = s.stored :=
  by unfold State.issueWhere; simp [stored_each, stored_foldl, stored_when, stored_ite, stored_updPlat]
@[simp] theorem stored_issueZero (s : State) : (s.issueZero).stored = s.stored := by unfold State.issueZero; simp
@[simp] theorem stored_issueAt (s : State) (k : Nat) : (s.issueAt k).stored = s.stored :=
  by unfold State.issueAt; (repeat' split) <;> simp
@[simp] theorem stored_inputSav (s : State) (i : Nat) (t : Word) : (s.inputSav i t).stored = s.stored :=
  by unfold State.inputSav; simp
@[simp] theorem stored_triggerFire (s : State) (c : Nat) (t : Word) : (s.triggerFire c t).stored = s.stored :=
  by unfold State.triggerFire; split <;> simp
@[simp] theorem stored_abandonFlow (s : State) (r : RunTrick) : (s.abandonFlow r).stored = s.stored :=
  by unfold State.abandonFlow; dsimp only; (repeat' split) <;> simp [stored_each, stored_foldl, stored_when, stored_ite, stored_updPlat]
@[simp] theorem stored_abandonDecode (s : State) (r : RunTrick) : (s.abandonDecode r).stored = s.stored := by
  unfold State.abandonDecode
  have h := stored_takePicture_st s r.trick.job
  dsimp only
  split <;> simp_all
@[simp] theorem stored_abandon (s : State) (r : RunTrick) : (s.abandon r).stored = s.stored :=
  by unfold State.abandon; (repeat' split) <;> simp
@[simp] theorem stored_sampleDue (s : State) : (s.sampleDue).stored = s.stored :=
  by unfold State.sampleDue; simp [stored_each, stored_foldl, stored_when, stored_ite, stored_updPlat]
@[simp] theorem stored_stopTricks (s : State) : (s.stopTricks).stored = s.stored := by
  unfold State.stopTricks; dsimp only; rw [stored_scrubEnd, stored_updFab, stored_each _ _ (by intro s x; simp), stored_each _ _ (by intro s x; simp), stored_each]
  · simp
  · intro s x; (repeat' split) <;> simp
@[simp] theorem stored_showAnswer (s : State) (a : AdmAnswer) : (s.showAnswer a).stored = s.stored :=
  by unfold State.showAnswer; split <;> simp
@[simp] theorem stored_dropChange (s : State) (id : Nat) : (s.dropChange id).stored = s.stored := (rfl)
@[simp] theorem stored_setStage (s : State) (id : Nat) (st : ChangeStage) (place : Tab Nat) : (s.setStage id st place).stored = s.stored :=
  (rfl)
@[simp] theorem stored_answerCommit (s : State) (c : Change) (a : AdmAnswer) : (s.answerCommit c a).stored = s.stored :=
  by unfold State.answerCommit; split <;> simp
@[simp] theorem stored_answerEnc (s : State) (c : Change) (a : AdmAnswer) : (s.answerEnc c a).stored = s.stored :=
  by unfold State.answerEnc; split <;> simp
@[simp] theorem stored_perMille_st (s : State) (q : Rat) : (s.perMille q).2.stored = s.stored := by unfold State.perMille; simp
@[simp] theorem stored_showLoad (s : State) : (s.showLoad).stored = s.stored :=
  by
    unfold State.showLoad
    dsimp only
    rw [stored_each _ _ (by intro s k; simp only [stored_set, stored_perMille_st])]
    simp only [stored_set, stored_perMille_st]
@[simp] theorem stored_encChange (s : State) (kind : ChangeKind) : (s.encChange kind).stored = s.stored :=
  by unfold State.encChange; simp [stored_ite]
@[simp] theorem stored_encCmd (s : State) (e op : Nat) : (s.encCmd e op).stored = s.stored :=
  by unfold State.encCmd; dsimp only; (repeat' split) <;> simp
@[simp] theorem stored_updWall (s : State) (f : WallSt → WallSt) : (s.updWall f).stored = s.stored := (rfl)
@[simp] theorem stored_updCoord (s : State) (f : WallCoord → WallCoord) : (s.updCoord f).stored = s.stored := (rfl)
@[simp] theorem stored_setPhase (s : State) (p : Nat) : (s.setPhase p).stored = s.stored :=
  by unfold State.setPhase; simp [stored_ite]
@[simp] theorem stored_wallAbort (s : State) (node code : Nat) : (s.wallAbort node code).stored = s.stored := (rfl)
@[simp] theorem stored_recordVote (s : State) (node id code : Nat) : (s.recordVote node id code).stored = s.stored :=
  by unfold State.recordVote; dsimp only; (repeat' split) <;> simp
@[simp] theorem stored_recordOutcome (s : State) (node id r : Nat) : (s.recordOutcome node id r).stored = s.stored :=
  by unfold State.recordOutcome; dsimp only; (repeat' split) <;> simp
@[simp] theorem stored_sendVote (s : State) (node id code reason : Nat) : (s.sendVote node id code reason).stored = s.stored :=
  by unfold State.sendVote; split <;> simp
@[simp] theorem stored_sendOutcome (s : State) (node id r : Nat) : (s.sendOutcome node id r).stored = s.stored :=
  by unfold State.sendOutcome; split <;> simp
@[simp] theorem stored_voteAgainst (s : State) (node id code reason : Nat) : (s.voteAgainst node id code reason).stored = s.stored :=
  by unfold State.voteAgainst; split <;> simp
@[simp] theorem stored_updPart (s : State) (change : Nat) (f : WallPart → WallPart) : (s.updPart change f).stored = s.stored := by
  unfold State.updPart; dsimp only; (repeat' split) <;> simp [stored_each, stored_foldl, stored_when, stored_ite, stored_updPlat]
@[simp] theorem stored_showArmed (s : State) : (s.showArmed).stored = s.stored := by
  unfold State.showArmed; (repeat' split) <;> simp [stored_each, stored_foldl, stored_when, stored_ite, stored_updPlat]
@[simp] theorem stored_submitPart (s : State) (node id wall : Nat) (m : Tick) (d : Nat) : (s.submitPart node id wall m d).stored = s.stored :=
  by unfold State.submitPart; dsimp only; (repeat' split) <;> simp
@[simp] theorem stored_discardPart (s : State) (p : WallPart) : (s.discardPart p).stored = s.stored := by
  unfold State.discardPart; dsimp only; (repeat' split) <;> simp [stored_each, stored_foldl, stored_when, stored_ite, stored_updPlat]
@[simp] theorem stored_loseParts (s : State) : (s.loseParts).stored = s.stored := by
  unfold State.loseParts; dsimp only; (repeat' split) <;> simp [stored_each, stored_foldl, stored_when, stored_ite, stored_updPlat]
@[simp] theorem stored_releasePart (s : State) (p : WallPart) : (s.releasePart p).stored = s.stored := by
  unfold State.releasePart; dsimp only; (repeat' split) <;> simp [stored_each, stored_foldl, stored_when, stored_ite, stored_updPlat]
@[simp] theorem stored_answerPart (s : State) (c : Change) (a : AdmAnswer) : (s.answerPart c a).stored = s.stored :=
  by unfold State.answerPart; (repeat' split) <;> simp
@[simp] theorem stored_changeAdmission (s : State) : (s.changeAdmission).stored = s.stored :=
  by unfold State.changeAdmission; (repeat' split) <;> simp
@[simp] theorem stored_takeSet (s : State) : (s.takeSet).stored = s.stored := (rfl)
@[simp] theorem stored_gotPrepare (s : State) (t : Word) : (s.gotPrepare t).stored = s.stored :=
  by unfold State.gotPrepare; dsimp only; (repeat' split) <;> simp
@[simp] theorem stored_decidePart (s : State) (coord id : Nat) (go : Bool) (t : Word) : (s.decidePart coord id go t).stored = s.stored := by
  unfold State.decidePart; (repeat' split) <;> simp [stored_each, stored_foldl, stored_when, stored_ite, stored_updPlat]
@[simp] theorem stored_gotDecide (s : State) (t : Word) : (s.gotDecide t).stored = s.stored := by
  unfold State.gotDecide; (repeat' split) <;> simp [stored_each, stored_foldl, stored_when, stored_ite, stored_updPlat]
@[simp] theorem stored_wallCutoff (s : State) : (s.wallCutoff).stored = s.stored := by
  unfold State.wallCutoff; (repeat' split) <;> simp [stored_each, stored_foldl, stored_when, stored_ite, stored_updPlat]
@[simp] theorem stored_gotVote (s : State) : (s.gotVote).stored = s.stored := by unfold State.gotVote; split <;> simp
@[simp] theorem stored_gotOutcome (s : State) : (s.gotOutcome).stored = s.stored := by unfold State.gotOutcome; split <;> simp
@[simp] theorem stored_wallGo (s : State) : (s.wallGo).stored = s.stored := by unfold State.wallGo; dsimp only; (repeat' split) <;> simp
@[simp] theorem stored_prepareSend (s : State) : (s.prepareSend).stored = s.stored :=
  by unfold State.prepareSend; (repeat' split) <;> simp
@[simp] theorem stored_decideSend (s : State) (t : Word) : (s.decideSend t).stored = s.stored :=
  by unfold State.decideSend; dsimp only; (repeat' split) <;> simp
@[simp] theorem stored_wallTick (s : State) : (s.wallTick).stored = s.stored := by unfold State.wallTick; dsimp only; (repeat' split) <;> simp [stored_each, stored_ite]
@[simp] theorem stored_putLk (s : State) (a : Nat) (w : Word) : (s.putLk a w).stored = s.stored := (rfl)
@[simp] theorem stored_putMpu (s : State) (a : Nat) (w : Word) : (s.putMpu a w).stored = s.stored := by
  unfold State.putMpu; dsimp only; (repeat' split) <;> simp [stored_each, stored_foldl, stored_when, stored_ite, stored_updPlat]
@[simp] theorem stored_loadLk (s : State) (ws : List (Nat × Word)) : (s.loadLk ws).stored = s.stored :=
  by unfold State.loadLk; simp [stored_each, stored_foldl, stored_when, stored_ite, stored_updPlat]
@[simp] theorem stored_bootVerify (s : State) (f : FlashIn) (slot : Nat) : (s.bootVerify f slot).stored = s.stored :=
  by unfold State.bootVerify; simp
@[simp] theorem stored_enterRecovery (s : State) (f : FlashIn) (rcv : Bool) : (s.enterRecovery f rcv).stored = s.stored :=
  by unfold State.enterRecovery; simp [stored_each, stored_foldl, stored_when, stored_ite, stored_updPlat]
@[simp] theorem stored_startSlot (s : State) (p : Ptr) (slot : Nat) (fallback : Bool) : (s.startSlot p slot fallback).stored = s.stored :=
  (rfl)
@[simp] theorem stored_bootRom (s : State) : (s.bootRom).stored = s.stored := by unfold State.bootRom; simp
@[simp] theorem stored_loadPalette (s : State) : (s.loadPalette).stored = s.stored :=
  by unfold State.loadPalette; simp [stored_each, stored_foldl, stored_when, stored_ite, stored_updPlat]
/-- An activation's reset either does not come or is the device reset, which empties external memory. -/
theorem activationReset_cases (s : State) : s.activationReset = s ∨ s.activationReset = s.enterReset rstSoftware := by
  unfold State.activationReset; (repeat' split) <;> simp
@[simp] theorem stored_bootMemory (s : State) (mem : List (Nat × Word)) : (State.bootMemory s mem).stored = s.stored := by 
  unfold State.bootMemory; split; rfl; split
  · rename_i x hx; unfold State.memSection at hx; dsimp only at hx; split at hx; rotate_left; cases hx
    have hs := Option.some.inj hx; rw [stored_freqGo, stored_updBoot, ← hs, stored_each]; intro s e; simp
  · rfl
@[simp] theorem stored_orFree_st (s : State) (v : Option Nat) : (s.orFree v).2.stored = s.stored :=
  by unfold State.orFree; split <;> simp
@[simp] theorem stored_rollbackGo (s : State) : (s.rollbackGo).stored = s.stored := by unfold State.rollbackGo; simp [stored_ite]
@[simp] theorem stored_candidate (s : State) (i : ImageIn) : (s.candidate i).stored = s.stored := by
  unfold State.candidate; dsimp only; (repeat' split) <;> simp [stored_each, stored_foldl, stored_when, stored_ite, stored_updPlat]
@[simp] theorem stored_contractLoad (s : State) (ly : LayoutDesc) : (s.contractLoad ly).stored = s.stored :=
  by unfold State.contractLoad; simp
@[simp] theorem stored_takeLayout (s : State) (ly : LayoutDesc) : (s.takeLayout ly).stored = s.stored :=
  by unfold State.takeLayout; simp [stored_each, stored_foldl, stored_when, stored_ite, stored_updPlat]
@[simp] theorem stored_dealingEntry (s : State) : (s.dealingEntry).stored = s.stored :=
  by unfold State.dealingEntry; dsimp only; (repeat' split) <;> simp [stored_each, stored_foldl, stored_when, stored_ite, stored_updPlat]
@[simp] theorem stored_showConfirm (s : State) : (s.showConfirm).stored = s.stored := by unfold State.showConfirm; split <;> simp
@[simp] theorem stored_freeBytes_st (s : State) (n : Nat) : (s.freeBytes n).2.stored = s.stored := (rfl)
@[simp] theorem stored_updateBegin_st (s : State) (session : Nat) (h : List Byte) : (s.updateBegin session h).1.stored = s.stored :=
  by unfold State.updateBegin; dsimp only; (repeat' split) <;> simp
@[simp] theorem stored_updRecovery (s : State) (g : RecoverySt → RecoverySt) : (s.updRecovery g).stored = s.stored := (rfl)
@[simp] theorem stored_beacon (s : State) : (s.beacon).stored = s.stored := by unfold State.beacon; split <;> simp
@[simp] theorem stored_xmodemPoll (s : State) : (s.xmodemPoll).stored = s.stored := by unfold State.xmodemPoll; split <;> simp
@[simp] theorem stored_tftpRequest (s : State) (q : TftpReq) (tsize : Option Nat) : (s.tftpRequest q tsize).stored = s.stored := by
  unfold State.tftpRequest; dsimp only; (repeat' split) <;> simp [stored_each, stored_foldl, stored_when, stored_ite, stored_updPlat]
@[simp] theorem stored_downloadAnswer (s : State) (ok : Bool) : (s.downloadAnswer ok).stored = s.stored :=
  by unfold State.downloadAnswer; simp [stored_ite]
@[simp] theorem stored_downloadOver (s : State) (failed : Nat) : (s.downloadOver failed).stored = s.stored := (rfl)
@[simp] theorem stored_alarmsArrive (s : State) (lost : List (Nat × Bool)) : (s.alarmsArrive lost).stored = s.stored := by
  unfold State.alarmsArrive; (repeat' split) <;> simp [stored_each, stored_foldl, stored_when, stored_ite, stored_updPlat]
@[simp] theorem stored_alarmEvaluate (s : State) : (s.alarmEvaluate).stored = s.stored :=
  by unfold State.alarmEvaluate; simp [stored_each, stored_foldl, stored_when, stored_ite, stored_updPlat]
@[simp] theorem stored_rateCheck (s : State) (advance osc : Nat) : (s.rateCheck advance osc).stored = s.stored :=
  by unfold State.rateCheck; split <;> simp
@[simp] theorem stored_tickMissing (s : State) : (s.tickMissing).stored = s.stored := by unfold State.tickMissing; split <;> simp
@[simp] theorem stored_tempRead (s : State) (temp : Int) : (s.tempRead temp).stored = s.stored :=
  by unfold State.tempRead; dsimp only; (repeat' split) <;> simp [stored_each, stored_foldl, stored_when, stored_ite, stored_updPlat]
@[simp] theorem stored_leaveDealing (s : State) : (s.leaveDealing).stored = s.stored :=
  by unfold State.leaveDealing; simp [stored_each, stored_foldl, stored_when, stored_ite, stored_updPlat]
@[simp] theorem stored_safeEntry (s : State) : (s.safeEntry).stored = s.stored :=
  by unfold State.safeEntry; dsimp only; (repeat' split) <;> simp [stored_each, stored_foldl, stored_when, stored_ite, stored_updPlat]
@[simp] theorem stored_updSession (s : State) (id : Nat) (f : Session → Session) : (s.updSession id f).stored = s.stored := (rfl)
@[simp] theorem stored_answer (s : State) (h : CmdHdr) (code : Nat) (payload : List Byte) : (s.answer h code payload).stored = s.stored :=
  by unfold State.answer; simp [stored_ite]
@[simp] theorem stored_answerCheck (s : State) (f : InFrame) : (s.answerCheck f).stored = s.stored := by
  unfold State.answerCheck; (repeat' split) <;> simp [stored_each, stored_foldl, stored_when, stored_ite, stored_updPlat]
@[simp] theorem stored_sessionCheck_st (s : State) (h : CmdHdr) : (State.sessionCheck s h).1.stored = s.stored := by unfold State.sessionCheck; dsimp only; (repeat' split) <;> simp
@[simp] theorem stored_takeCommand_st (s : State) (code : Nat) (auth : CmdHdr → Bool) : (State.takeCommand s code auth).1.stored = s.stored := by unfold State.takeCommand; dsimp only; (repeat' split) <;> simp
theorem stored_command (s : State) (code : Nat) (run : State → CmdHdr → List Byte → State) (hr : ∀ s h p, (run s h p).stored = s.stored) : (s.command code run).stored = s.stored := by
  unfold State.command
  have h := stored_takeCommand_st s code (fun _ => true)
  revert h; split <;> (rename_i hq; rw [hq]; intro h; dsimp only at h; first | exact h | exact (hr _ _ _).trans h)
theorem stored_operate (s : State) (code : Nat) (ok : Bool) (run : State → State × Nat) (hr : ∀ s, (run s).1.stored = s.stored) : (s.operate code ok run).stored = s.stored := by
  unfold State.operate; apply stored_command; intro s h p; dsimp only; split <;> simp only [stored_answer, hr]
@[simp] theorem stored_cmdPing (s : State) : (s.cmdPing).stored = s.stored :=
  by unfold State.cmdPing; apply stored_command; intro s h p; simp
@[simp] theorem stored_cmdOpen (s : State) (entry : Nat) : (State.cmdOpen s entry).stored = s.stored := by 
  unfold State.cmdOpen; dsimp only; split
  · rename_i hq; have hp := congrArg (fun x => x.1.stored) hq; simp only [stored_takeCommand_st] at hp; exact hp.symm
  · rename_i hq; have hp := congrArg (fun x => x.1.stored) hq; simp only [stored_takeCommand_st] at hp
    split <;> simp only [stored_answer, stored_updCmd] <;> exact hp.symm
@[simp] theorem stored_closeSession (s : State) (id : Nat) : (s.closeSession id).stored = s.stored := (rfl)
@[simp] theorem stored_cmdClose (s : State) : (s.cmdClose).stored = s.stored :=
  by unfold State.cmdClose; apply stored_command; intro s h p; simp
@[simp] theorem stored_cmdStatus (s : State) : (s.cmdStatus).stored = s.stored :=
  by unfold State.cmdStatus; apply stored_command; intro s h p; simp
@[simp] theorem stored_cmdTiles (s : State) (first count : Nat) : (s.cmdTiles first count).stored = s.stored :=
  by unfold State.cmdTiles; apply stored_command; intro s h p; split <;> simp
@[simp] theorem stored_cmdTouch (s : State) (p : Nat) : (s.cmdTouch p).stored = s.stored :=
  by unfold State.cmdTouch; apply stored_command; intro s h p; split <;> simp
@[simp] theorem stored_cmdLog (s : State) : (s.cmdLog).stored = s.stored :=
  by unfold State.cmdLog; apply stored_command; intro s h p; (repeat' split) <;> simp
@[simp] theorem stored_endRun (s : State) (r : CmdRun) (code : Nat) (payload : List Byte) : (s.endRun r code payload).stored = s.stored :=
  by unfold State.endRun; simp
@[simp] theorem stored_stageRun (s : State) (r : CmdRun) (st : CmdStage) : (s.stageRun r st).stored = s.stored := (rfl)
@[simp] theorem stored_endLayout (s : State) (r : CmdRun) (code reason : Nat) : (s.endLayout r code reason).stored = s.stored :=
  by unfold State.endLayout; simp
@[simp] theorem stored_putPend (s : State) (a : Nat) (w : Word) : (s.putPend a w).stored = s.stored := (rfl)
@[simp] theorem stored_putSwap (s : State) (x : Swap) : (s.putSwap x).stored = s.stored :=
  by unfold State.putSwap; split <;> simp
@[simp] theorem stored_loadAct (s : State) (a : CmdAct) : (s.loadAct a).stored = s.stored :=
  by unfold State.loadAct; dsimp only; (repeat' split) <;> simp [stored_each, stored_foldl, stored_when, stored_ite, stored_updPlat]
@[simp] theorem stored_writeGo (x : State) (r : CmdRun) (t : Word) : (State.writeGo x r t).stored = x.stored :=
  by unfold State.writeGo; dsimp only; (repeat' split) <;> simp
@[simp] theorem stored_writeWall (s : State) (r : CmdRun) (busy : Bool) (layout target : Nat) : (s.writeWall r busy layout target).stored = s.stored := by
  unfold State.writeWall; dsimp only; (repeat' split) <;> simp [stored_each, stored_foldl, stored_when, stored_ite, stored_updPlat]
@[simp] theorem stored_runLayout (s : State) (r : CmdRun) (since : Tick) : (s.runLayout r since).stored = s.stored :=
  by unfold State.runLayout; dsimp only; (repeat' split) <;> simp
@[simp] theorem stored_headLayout (s : State) : (s.headLayout).stored = s.stored :=
  by unfold State.headLayout; (repeat' split) <;> simp
@[simp] theorem stored_pollRun (s : State) (took : Bool) (r : CmdRun) : (s.pollRun took r).stored = s.stored :=
  by unfold State.pollRun; dsimp only; (repeat' split) <;> simp
@[simp] theorem stored_cmdPoll (s : State) (took : Bool) : (s.cmdPoll took).stored = s.stored :=
  by unfold State.cmdPoll; (try dsimp only) <;> repeat' (first | with_reducible rfl | (simp [stored_each, stored_foldl, stored_when, stored_ite, stored_updPlat]; done) | (rw [stored_each _ _ (by intro s x; (try dsimp only) <;> repeat' (first | with_reducible rfl | (simp [stored_each, stored_foldl, stored_when, stored_ite, stored_updPlat]; done) | split))]) | (rename_i hq; have hp := congrArg (fun x => x.1.stored) hq; simp at hp; simp [← hp]; done) | (rename_i hq; have hp := congrArg (fun x => x.2.stored) hq; simp at hp; simp [← hp]; done) | split)
@[simp] theorem stored_layoutCommand (s : State) (code : Nat) (ok : Bool) (act : CmdAct) : (s.layoutCommand code ok act).stored = s.stored :=
  by unfold State.layoutCommand; apply stored_command; intro s h p; simp [stored_ite]
@[simp] theorem stored_cmdSelect (s : State) (layout target : Nat) (xs : List Swap) : (s.cmdSelect layout target xs).stored = s.stored :=
  by unfold State.cmdSelect; simp
@[simp] theorem stored_cmdSwap (s : State) (target : Nat) (xs : List Swap) : (s.cmdSwap target xs).stored = s.stored :=
  by unfold State.cmdSwap; simp
@[simp] theorem stored_cmdWall (s : State) (layout target : Nat) : (s.cmdWall layout target).stored = s.stored :=
  by unfold State.cmdWall; simp
@[simp] theorem stored_cmdGraphic (s : State) (o g : Nat) (ws : List Word) : (s.cmdGraphic o g ws).stored = s.stored :=
  by unfold State.cmdGraphic; simp
@[simp] theorem stored_cmdMarker (s : State) (o : Nat) (entries : List Word) (addr pitch : Nat) : (s.cmdMarker o entries addr pitch).stored = s.stored :=
  by unfold State.cmdMarker; simp
@[simp] theorem stored_cmdRestart (s : State) (o : Nat) : (s.cmdRestart o).stored = s.stored :=
  by unfold State.cmdRestart; apply stored_operate; intro s; simp
@[simp] theorem stored_cmdResync (s : State) : (s.cmdResync).stored = s.stored :=
  by unfold State.cmdResync; apply stored_operate; intro s; simp
@[simp] theorem stored_cmdTouchCtrl (s : State) (p op : Nat) : (s.cmdTouchCtrl p op).stored = s.stored :=
  by unfold State.cmdTouchCtrl; apply stored_operate; intro s; split <;> simp
@[simp] theorem stored_cmdMute (s : State) (p : Nat) (v : Bool) : (s.cmdMute p v).stored = s.stored :=
  by unfold State.cmdMute; apply stored_operate; intro s; simp
@[simp] theorem stored_cmdKeyRequest (s : State) (c : Nat) : (s.cmdKeyRequest c).stored = s.stored := by
  unfold State.cmdKeyRequest; apply stored_command; intro s h p; split <;> simp
@[simp] theorem stored_cmdEncode (s : State) (e op : Nat) : (s.cmdEncode e op).stored = s.stored :=
  by unfold State.cmdEncode; apply stored_command; intro s h p; simp [stored_ite]
theorem stored_updateCommand (s : State) (code : Nat) (run : State → CmdHdr → List Byte → State × Nat) (hr : ∀ s h p, (run s h p).1.stored = s.stored) : (s.updateCommand code run).stored = s.stored := by
  unfold State.updateCommand; apply stored_command; intro s h p; dsimp only; simp only [stored_answer, hr]
@[simp] theorem stored_commandIntake (s : State) (n : Nat) : (s.commandIntake n).stored = s.stored :=
  by unfold State.commandIntake; (repeat' split) <;> simp
@[simp] theorem stored_doorbell (s : State) (len : Nat) (t : Word) : (s.doorbell len t).stored = s.stored :=
  by unfold State.doorbell; dsimp only; (repeat' split) <;> simp
@[simp] theorem stored_mbResp (s : State) (code : Nat) (up : Bool) (bytes : List Byte) : (s.mbResp code up bytes).stored = s.stored := by
  unfold State.mbResp; dsimp only; (repeat' split) <;> simp [stored_each, stored_foldl, stored_when, stored_ite, stored_updPlat]
@[simp] theorem stored_cmdPop (s : State) : (s.cmdPop).stored = s.stored := (rfl)
@[simp] theorem stored_reportSeen (s : State) (a : Nat) : (s.reportSeen a).stored = s.stored := by
  unfold State.reportSeen; dsimp only; (repeat' split) <;> simp [stored_each, stored_foldl, stored_when, stored_ite, stored_updPlat]
@[simp] theorem stored_readSide (s : State) (m a : Nat) : (s.readSide m a).stored = s.stored :=
  by unfold State.readSide; (repeat' split) <;> simp
@[simp] theorem stored_busRead (s : State) (m a : Nat) : (s.busRead m a).stored = s.stored :=
  by unfold State.busRead; split <;> simp
@[simp] theorem stored_shWrite (s : State) (a : Nat) (w : Word) : (s.shWrite a w).stored = s.stored :=
  by unfold State.shWrite; simp [stored_ite]
@[simp] theorem stored_typedWrite (s : State) (a : Nat) (w : Word) : (s.typedWrite a w).stored = s.stored := by unfold State.typedWrite; dsimp only; split <;> simp
@[simp] theorem stored_decCmdWrite (s : State) (w : Word) : (s.decCmdWrite w).stored = s.stored :=
  by unfold State.decCmdWrite; dsimp only; (repeat' split) <;> simp
@[simp] theorem stored_encCmdWrite (s : State) (w : Word) : (s.encCmdWrite w).stored = s.stored :=
  by unfold State.encCmdWrite; split <;> simp
@[simp] theorem stored_rtCheckGo (s : State) : (s.rtCheckGo).stored = s.stored := by unfold State.rtCheckGo; split <;> simp
@[simp] theorem stored_servoWrite (s : State) (w : Word) : (s.servoWrite w).stored = s.stored :=
  by unfold State.servoWrite; split <;> simp
@[simp] theorem stored_tchCtrlWrite (s : State) (p : Nat) (w : Word) : (s.tchCtrlWrite p w).stored = s.stored := by
  unfold State.tchCtrlWrite; (repeat' split) <;> simp [stored_each, stored_foldl, stored_when, stored_ite, stored_updPlat]
@[simp] theorem stored_hbWrite (s : State) (w : Word) : (s.hbWrite w).stored = s.stored :=
  by unfold State.hbWrite; simp [stored_each, stored_foldl, stored_when, stored_ite, stored_updPlat]
@[simp] theorem stored_timWrite (s : State) (a : Nat) (w : Word) : (s.timWrite a w).stored = s.stored :=
  by unfold State.timWrite; (repeat' split) <;> simp
@[simp] theorem stored_chkWrite (s : State) (a : Nat) (w : Word) : (s.chkWrite a w).stored = s.stored :=
  by unfold State.chkWrite; split <;> simp
@[simp] theorem stored_busBWrite (s : State) (a : Nat) (w : Word) (t : Word) : (s.busBWrite a w t).stored = s.stored := by
  unfold State.busBWrite; dsimp only; (repeat' split) <;> first | rfl | (simp [stored_each, stored_when, stored_ite]; done) | (rw [stored_each]; intro s x; (repeat' split) <;> simp)
@[simp] theorem stored_violation (s : State) (m a : Nat) (user : Bool) (k : Access) (reason : Nat) : (s.violation m a user k reason).stored = s.stored :=
  by unfold State.violation; simp [stored_each, stored_foldl, stored_when, stored_ite, stored_updPlat]
@[simp] theorem stored_busReads_st (s : State) (m a n : Nat) : (State.busReads s m a n).1.stored = s.stored := by 
  unfold State.busReads; dsimp only
  suffices h : ∀ (l : List Nat) (x : State × List Word), (l.foldl (fun (x : State × List Word) wa => (x.1.readSide m wa, x.2 ++ [x.1.readReg m wa])) x).1.stored = x.1.stored by exact h _ _
  intro l; induction l with
  | nil => intro x; rfl
  | cons y l ih => intro x; rw [List.foldl, ih, stored_readSide]
@[simp] theorem stored_windowSeen (s : State) (m o n : Nat) : (s.windowSeen m o n).stored = s.stored := by
  unfold State.windowSeen; split; rfl; apply stored_each; intro s w; split <;> simp
@[simp] theorem stored_dramPiece_st (s : State) (m a n : Nat) : (s.dramPiece m a n).1.stored = s.stored :=
  by unfold State.dramPiece; dsimp only; (repeat' split) <;> simp
@[simp] theorem stored_pieceRead_st (s : State) (m t a n : Nat) : (s.pieceRead m t a n).1.stored = s.stored :=
  by unfold State.pieceRead; dsimp only; (repeat' split) <;> simp
@[simp] theorem stored_dmaStop (s : State) (x : Transfer) : (s.dmaStop x).stored = s.stored :=
  by unfold State.dmaStop; (repeat' split) <;> simp
@[simp] theorem stored_answerFlight (s : State) (v : Flight) : (s.answerFlight v).stored = s.stored := by
  unfold State.answerFlight; dsimp only; (repeat' split) <;> simp [stored_each, stored_foldl, stored_when, stored_ite, stored_updPlat]
@[simp] theorem stored_startDealing (s : State) (locked : Bool) : (s.startDealing locked).stored = s.stored := by
  unfold State.startDealing; (repeat' split) <;> simp [stored_each, stored_foldl, stored_when, stored_ite, stored_updPlat]
@[simp] theorem stored_latchTime (s : State) : (s.latchTime).stored = s.stored := by
  unfold State.latchTime; dsimp only; (repeat' split) <;> simp [stored_each, stored_foldl, stored_when, stored_ite, stored_updPlat]
@[simp] theorem stored_latchTick (s : State) : (s.latchTick).stored = s.stored := (rfl)
@[simp] theorem stored_restartFlows (s : State) (before : List (List Trick)) : (s.restartFlows before).stored = s.stored := by
  unfold State.restartFlows; dsimp only; (repeat' split) <;> simp [stored_each, stored_foldl, stored_when, stored_ite, stored_updPlat]
@[simp] theorem stored_takeStreams (s : State) (cs : List Change) : (s.takeStreams cs).stored = s.stored := by
  unfold State.takeStreams; exact stored_each _ _ (by intro s c; split <;> simp) s
@[simp] theorem stored_nextDeal (s : State) (first : Bool) : (s.nextDeal first).stored = s.stored := by
  unfold State.nextDeal; dsimp only; simp [stored_each, stored_ite]
@[simp] theorem stored_presenceTick (s : State) : (s.presenceTick).stored = s.stored :=
  by unfold State.presenceTick; simp [stored_each, stored_foldl, stored_when, stored_ite, stored_updPlat]
@[simp] theorem stored_dealTick (s : State) (first : Bool) (b : BoundaryIn) : (s.dealTick first b).stored = s.stored := by
  unfold State.dealTick; dsimp only; (repeat' split) <;> simp [stored_each, stored_foldl, stored_when, stored_ite, stored_updPlat]
/-- A tick boundary leaves the stored memories alone but for an activation's reset at its end. -/
theorem stored_tickBoundary (s : State) (b : BoundaryIn) :
    ∃ x : State, x.stored = s.stored ∧ (s.tickBoundary b = x ∨ s.tickBoundary b = x.enterReset rstSoftware) := by
  unfold State.tickBoundary; split
  · exact ⟨s, rfl, .inl rfl⟩
  · exact ⟨_, by simp [stored_each, stored_foldl, stored_when, stored_ite, stored_updPlat], activationReset_cases _⟩
theorem stored_always (s : State) (f : State → State) (h : ∀ s, (f s).stored = s.stored) : (s.always f).stored = s.stored := by
  exact h _
theorem stored_awake (s : State) (f : State → State) (h : ∀ s, (f s).stored = s.stored) : (s.awake f).stored = s.stored := by
  unfold State.awake; split; rfl; exact h _
theorem stored_scorer (s : State) (f : State → State) (h : ∀ s, (f s).stored = s.stored) : (s.scorer f).stored = s.stored := by
  unfold State.scorer; apply stored_awake; intro s; split; rfl; exact h _
/-- So does a step on an empty queue. -/
theorem stored_idle (s : State) :
    ∃ x : State, x.stored = s.stored ∧ (s.idle = x ∨ s.idle = x.enterReset rstSoftware) := by
  unfold State.idle; split
  · exact ⟨_, by simp, .inl rfl⟩
  · exact ⟨_, by simp, activationReset_cases _⟩
@[simp] theorem stored_leaseStuck (s : State) (d : Nat) (o : Nat) : (s.leaseStuck d o).stored = s.stored :=
  by unfold State.leaseStuck; (repeat' split) <;> simp
@[simp] theorem stored_trainRetry (s : State) (o : Nat) : (s.trainRetry o).stored = s.stored :=
  by unfold State.trainRetry; split <;> simp
@[simp] theorem stored_verdictLate (s : State) : (s.verdictLate).stored = s.stored := (rfl)
@[simp] theorem stored_auxTaken (s : State) (o : Nat) : (s.auxTaken o).stored = s.stored :=
  by unfold State.auxTaken; (repeat' split) <;> simp

end Sys2Proof.Machine
end

