-- ==== Sys2Proof/WellFormed.lean ====
section
/-!
DEFINITION. Well-formed commands: operands that the fields they come from can hold. Operands whose type has exactly the
field's values need no check.
-/

namespace Sys2Proof

/-- A raster line number fits OUT_VTOT (R159). -/
def lineWf (n : Nat) : Bool := decide (n < 8192)

/-- Disturbances are of 10-bit components (R91). -/
def flipsWf (f : Flips) : Bool := f.all fun x => decide (x.2 < 1024)

/-- Pixel components have 10 bits (R91). -/
def pxWf (p : Px) : Bool := decide (p.a < 1024) && decide (p.b < 1024) && decide (p.c < 1024)

/-- The pixels of a picture (R165, R196). -/
def frameWf (f : Frame) : Bool := f.all fun l => l.all pxWf

/-- The pixels of input lines (R170). -/
def pixelsWf (ls : List LineIn) : Bool := ls.all fun l => l.row.all pxWf

/-- The six status bytes of R153. -/
def statusWf (s : Option (List Byte)) : Bool :=
  match s with
  | none => true
  | some bs => decide (bs.length = 6)

/-- Lane and rate codes (R159). -/
def linkWf (c : LinkCfg) : Bool := decide (c.lanes < 3) && decide (c.rate < 4)

/-- An AUX reply carries at most 16 bytes (R154). -/
def replyWf (r : AuxReply) : Bool :=
  match r with
  | .ack bs => decide (bs.length ≤ 16)
  | .nack => true
  | .defer => true
  | .badReply => true

/-- A DPCD address has 20 bits, an I²C one 7 (R160). -/
def rxAuxWf (r : RxAux) : Bool :=
  match r with
  | .dpcdRead a n => decide (a < 2 ^ 20) && decide (n ≤ 16)
  | .dpcdWrite a d => decide (a < 2 ^ 20) && decide (d.length ≤ 16)
  | .i2cWrite a d => decide (a < 128) && decide (d.length ≤ 16)
  | .i2cRead a n => decide (a < 128) && decide (n ≤ 16)

/-- Symbol errors lie on lanes 0 to 3 (R212). -/
def lanesWf (errs : List (Nat × Nat)) : Bool := errs.all fun e => decide (e.1 < 4)

/-- Header fields of a packet fit their symbols (R219). -/
def packetWf (k : RxPacket) : Bool :=
  lanesWf k.errs && decide (k.kind < 256) && decide (k.dest < 64) && decide (k.src < 64) && decide (k.flow < 65536)

/-- Header fields of a Trump set fit their symbols, and it has 8 argument bytes (R226). -/
def trumpWf (m : Trump) : Bool :=
  decide (m.dest < 64) && decide (m.src < 64) && decide (m.type < 256) && decide (m.args.length = 8)

/-- Words for registers, each at an address of 40 bits (R361). -/
def wordsWf (ws : List (Nat × Word)) : Bool := ws.all fun x => decide (x.1 < 2 ^ 40)

/-- A transfer moves something, and a write has its bytes (R361). -/
def transferWf (x : Transfer) : Bool :=
  match x.kind with
  | .write => decide (x.bytes ≠ [])
  | .read => decide (x.len ≠ 0)
  | .fetch => decide (x.len ≠ 0)

/-- Is a command well formed? -/
def wellFormed (i : Instr) : Bool :=
  match i with
  | .powerOn => true
  | .resetPin => true
  | .supplyMonitorTrip n => decide (n ≤ 32)
  | .resetEnd _ _ => true
  | .partLoadComplete _ mem _ _ => wordsWf mem
  | .scorerImageCheck _ _ _ => true
  | .imageValidation i _ => wordsWf i.lk
  | .migrateImage _ _ _ _ => true
  | .dealingEntry => true
  | .tickLockTimeout => true
  | .tickBoundary _ => true
  | .tickMissing => true
  | .leaseStuck _ _ => true
  | .trickIssue _ => true
  | .changeAdmission => true
  | .cmpCommitGo _ => true
  | .dealPoint => true
  | .activeVideoEnd _ => true
  | .outputFrameStart _ _ => true
  | .sinkCrcReading _ _ => true
  | .lineSignatureCompare _ line fa fb => lineWf line && flipsWf fa && flipsWf fb
  | .lineRecompute _ line fa fb => lineWf line && flipsWf fa && flipsWf fb
  | .lineScan _ i => lineWf i.line && flipsWf i.flipA && flipsWf i.flipB && flipsWf i.flipF && pixelsWf i.lines
  | .scanSignatureCheck _ => true
  | .scorerVerdict _ => true
  | .lineLockUpdate _ _ => true
  | .syncInPulse _ _ _ => true
  | .outResyncGo => true
  | .hpdLow _ => true
  | .hpdHighStable _ => true
  | .irqHpd _ _ status => statusWf status
  | .linkTraining _ r => linkWf r.sinkMax && r.ok.all (fun x => linkWf x.cfg) && r.ok8.all (fun x => linkWf x.cfg)
  | .trainRetry _ => true
  | .bankerRetrain _ => true
  | .outAuxGo _ => true
  | .auxReply _ r => replyWf r
  | .auxTimeout _ => true
  | .restartOutput o => decide (o < 256)
  | .rxTrainingPatternSet _ pattern _ link => decide (pattern < 4 ∨ pattern = 7) && linkWf link
  | .rxLockLoss _ lanes => decide (lanes < 32)
  | .rxLostTimeout _ => true
  | .msa _ m => decide (m.enc < 4)
  | .noVideoStream _ => true
  | .rxAuxTransaction _ r => rxAuxWf r
  | .inputSav _ _ => true
  | .captureComplete _ _ _ => true
  | .frameDamage _ _ => true
  | .frameReceive _ f _ => decide (f.dest < 2 ^ 48) && decide (f.ether < 65536)
  | .frameTransmit _ _ _ _ => true
  | .rtpPacket r _ => decide (r.port < 3) && decide (r.udp < 65536) && decide (r.pt < 128)
  | .asmTimeout _ => true
  | .senderReport _ _ _ _ => true
  | .bye _ _ => true
  | .rtcpFeedback _ => true
  | .receiverReport _ => true
  | .pliRepeat _ => true
  | .stallTimeout _ => true
  | .decOpen _ _ => true
  | .decClose _ => true
  | .decKeyReq _ => true
  | .decodeComplete _ r _ _ => frameWf r.frame
  | .encStart _ => true
  | .encStop _ => true
  | .encKey _ => true
  | .encodePicture _ r => r.rows.all fun x => decide (x.length = 52)
  | .encoderSenderReport _ _ => true
  | .segment _ k _ => packetWf k
  | .line _ k _ => packetWf k
  | .frameStart _ k _ => packetWf k
  | .frameData _ k => packetWf k
  | .frameEnd _ k _ => packetWf k
  | .stream _ k => packetWf k
  | .message _ k => packetWf k
  | .packetTransmit _ _ => true
  | .credit _ _ errs => lanesWf errs
  | .creditStall _ => true
  | .laneStatus _ _ _ k => lanesWf k.errs
  | .laneBad _ _ _ _ => true
  | .laneGood _ _ => true
  | .portAlign _ _ _ => true
  | .portDown _ => true
  | .discoveryTimeout => true
  | .trumpSetReceive _ copies _ => copies.all fun c => decide (c.lane < 4)
  | .flowStop _ m => trumpWf m
  | .flowCut _ m => trumpWf m
  | .flowResume _ m => trumpWf m
  | .presence _ m => trumpWf m
  | .tickMark _ m _ => trumpWf m
  | .tickMarkTimeout _ => true
  | .echo _ m _ => trumpWf m
  | .echoReply _ m _ => trumpWf m
  | .identA _ m => trumpWf m
  | .identB _ m => trumpWf m
  | .identC _ m => trumpWf m
  | .cmdFirst _ m _ => trumpWf m
  | .cmdMiddle _ m _ => trumpWf m
  | .cmdLast _ m _ => trumpWf m
  | .cmdOnly _ m _ => trumpWf m
  | .fragmentTimeout _ => true
  | .fabTxGo => true
  | .fabRxArg1Read _ => true
  | .fabRtCheckGo => true
  | .routeCheckResult _ => true
  | .serLoopWrite _ _ => true
  | .cmpWallGo => true
  | .prepareSend => true
  | .wallPrepare _ => true
  | .wallVote => true
  | .decideSend _ => true
  | .wallDecide _ => true
  | .wallCutoff => true
  | .wallOutcome => true
  | .cmpTlnFree _ => true
  | .dramRead rs => rs.all fun q => decide (q.addr < 2 ^ 40)
  | .dramWrite w => decide (w.addr < 2 ^ 40) && decide (w.addr % 256 + w.bytes.length ≤ 256)
  | .writeDrain _ _ => true
  | .targetedRefresh _ => true
  | .refresh _ _ _ => true
  | .mr4Read _ _ _ => true
  | .dqsTrack _ _ => true
  | .alert _ => true
  | .alertTimeout _ => true
  | .trainingStep _ => true
  | .memFreqGo _ => true
  | .memInitDone => true
  | .wrap _ => true
  | .timIncrWrite _ => true
  | .timEpochWrite _ _ => true
  | .timNowLoRead _ => true
  | .timPtpOffHiWrite _ => true
  | .offValidExpiry => true
  | .timServoLocked _ => true
  | .timServoInvalidate => true
  | .servoLockExpiry => true
  | .timGmDomWrite _ => true
  | .timUtcWrite _ => true
  | .timTrgStartWrite _ _ => true
  | .triggerFire _ _ => true
  | .ppsPulse _ _ => true
  | .txtsIdRead _ _ => true
  | .dlrTickFirstWrite _ => true
  | .scanFrame _ _ => true
  | .selfTest _ _ => true
  | .testMissed _ => true
  | .coveredTimeout _ => true
  | .tchRestart _ => true
  | .tchRelease _ => true
  | .audioFetch _ => true
  | .audioBlockBoundary _ _ => true
  | .audioClockLost _ => true
  | .stoppingEnd _ => true
  | .audMuteWrite _ _ => true
  | .toneOrder _ _ => true
  | .commandIntake _ => true
  | .relayTimeout => true
  | .sessionTimeout id => decide (id < 65536)
  | .ping => true
  | .openSession entry => decide (entry < 16)
  | .closeSession => true
  | .getStatus => true
  | .getTiles first count => decide (first < 65536) && decide (count < 65536)
  | .getTouch p => decide (p < 256)
  | .getLog => true
  | .selectLayout layout target _ => decide (layout < 256) && decide (target < 2 ^ 32)
  | .swapSource target _ => decide (target < 2 ^ 32)
  | .wallLayout layout target => decide (layout < 256) && decide (target < 2 ^ 32)
  | .setGraphic o g _ => decide (o < 256) && decide (g < 256)
  | .setUserMarker o _ _ _ => decide (o < 256)
  | .resync => true
  | .touchCtrl p op => decide (p < 256) && decide (op < 256)
  | .encodeCtrl e op => decide (e < 256) && decide (op < 256)
  | .audioMute p _ => decide (p < 256)
  | .keyRequest c => decide (c < 65536)
  | .updateBegin => true
  | .updateData _ => true
  | .updateActivate _ => true
  | .updateAbort _ => true
  | .hstMbDoorbell _ _ => true
  | .hstMbRespWrite _ _ _ => true
  | .cmdInPop => true
  | .perstN => true
  | .chkStart _ => true
  | .chkCfgWrite _ _ => true
  | .chkData8 _ _ => true
  | .chkData16 _ _ => true
  | .chkData32 _ _ => true
  | .matrixTransfer xs _ _ => xs.all transferWf
  | .mtxRemapWrite _ => true
  | .mtxPriWrite _ _ _ => true
  | .mpuRgnBaseWrite _ _ _ => true
  | .mpuLock _ => true
  | .fusProgGo _ _ => true
  | .fuseProgramDone => true
  | .idcode => true
  | .samplePreload _ _ => true
  | .extest _ _ => true
  | .dbgAccess _ _ _ _ _ => true
  | .dbgHalt _ _ => true
  | .dbgUnlock token => decide (token.length = 160)
  | .unlockVerify => true
  | .dbgStatus => true
  | .bypass => true
  | .bkrWdtKick _ => true
  | .bkrResetSelf _ => true
  | .heartbeatTimeout _ _ => true
  | .bankerWatchdogTimeout _ _ => true
  | .bankerUpTimeout _ => true
  | .bankerResetRelease _ _ => true
  | .bkrDevReset _ _ => true
  | .trialConfirm _ => true
  | .trialTimeout _ => true
  | .recoveryBeacon => true
  | .xmodemPoll => true
  | .tftpWriteRequest _ _ => true
  | .tftpData block _ => decide (block < 65536)
  | .xmodemBlock block _ _ => decide (block < 256)
  | .recoveryPackageCheck _ _ => true
  | .recoveryReset => true
  | .safeEntry => true
  | .tempRead _ => true
  | .autoRestart => true
  | .autoRestartClear => true
  | .lockstep => true
  | .watchdog => true
  | .safePathReset => true
  | .logWrite => true
  | .registerWrite _ _ _ _ _ _ => true
  | .registerReadClear _ _ => true
  | .trumpSetTransmit _ _ => true
  | .alertNReturn _ _ => true
  | .fsEdge _ _ _ => true
  | .inputEndOfActiveVideo _ f _ => frameWf f
  | .hstLinkChange _ _ => true
  | .npLinkChange _ _ => true

end Sys2Proof
end

