-- ==== Sys2Proof/Tests/Slice0.lean ====
section
/-!
SUPPORT. Tests: a term that each well-formedness check refuses, the spec's worked examples, and for every statement with
hypotheses a concrete state and operands that meet them.
-/

namespace Sys2Proof.Tests

open Sys2Proof Sys2Proof.Machine

set_option linter.all false
set_option Elab.async false

/-! ### Small states -/

/-- The state after power-on with fields set. -/
def wit (fs : List (Fld × Nat)) : State := fs.foldl (fun s f => s.set f.1 f.2) State.reset

/-- A device in DEALING, with fields set. -/
def dealing (fs : List (Fld × Nat)) : State := wit ((.BKR_DEV_STATE_STATE, 4) :: (.DLR_STATUS_DEALING, 1) :: fs)

/-- A device in LOADING with the firmware at work. -/
def loading (fs : List (Fld × Nat)) : State := wit ((.BKR_DEV_STATE_STATE, 2) :: (.BKR_STATUS_RUN, 0xF) :: fs)

/-- A device in RECOVERY with memory ready and a download state. -/
def recovering (r : RecoverySt) : State :=
  { wit [(.BKR_DEV_STATE_STATE, 6), (.BKR_STATUS_RUN, 1), (.MEM_STATUS_STATE, memReady)] with
    boot := { BootSt.init with recovery := r } }

/-- Flash that reads and writes without error. -/
def goodFlash : FlashIn := { unread := [], badWrites := 0 }

/-- An image with one layout whose cycle is one deal. -/
def oneLayout (deal : List Trick) : Image :=
  { Image.none_ with layouts := [{ sh := [], contracts := [], cycle := [deal], flows := [], permits := [] }] }

/-- A capture trick of input 1 at 1 µs into the tick, into class 2. -/
def capTrick : Trick :=
  { cls := .capture, index := 1, issue := .offset 1000, job := 1, talon := some 2, master := none, dram := 0, load := 0, fed := [] }

/-- A state with register words set. -/
def withWords (ws : List (Nat × Word)) (s : State) : State := ws.foldl (fun s e => s.setWord e.1 e.2) s

/-- A 640 by 480 attribute packet at 60 Hz, RGB of 8 bits. -/
def msa640 : MsaIn :=
  { hAct := 640, vAct := 480, hTotal := 800, vTotal := 525, enc := 0, bpc := 8, vsc := false, interlaced := false,
    periodNs := 16666667, pixClk := 25200000 }

/-- A record of a 2 by 1 frame of input 3. -/
def capRec : BufRec :=
  { desc := none, hdr := { BufHdr.zero with srcId := 3, seq := 9, width := 2, height := 1, format := 5, idx := 3 }, eligTime := 0,
    eligTick := 0, bad := false }

/-- A capture trick of input 3 in progress, with buffer 5. -/
def capRun : RunTrick :=
  { trick := { capTrick with job := 3, index := 3 }, issueTick := 0, done := false, buf := some 5, eav := none, dueAt := none, stale := false,
    coded := none }

/-- A frame of 100 bytes to all. -/
def netFrame : NetFrame :=
  { dest := 2 ^ 48 - 1, len := 100, fcs := true, tags := 0, pause := false, ether := 0x800, udp := none, bytes := [], busy := false }

/-- An RTP packet with one slice. -/
def rtpPkt : RtpIn :=
  { port := 1, ip := 0xA000001, udp := 5004, seq := 5, ts := 1000, ssrc := 7, pt := 96, marker := true, payload := [0x65, 1] }

/-- A coded picture, a decode trick of context 2 that works on it in buffer 5, and what the decoder makes of it. -/
def codedPic : Coded :=
  { seq := 4, ts := 0, tArr := 0, cap := 0, ext := false, map := 0, noShow := false, isRef := false, irap := true, rasl := false, loss := false,
    flush := false, craBla := false, data := [] }
def decRun : RunTrick :=
  { capRun with trick := { capTrick with cls := .decode, job := 2, index := 1 }, coded := some codedPic }
def decodeIn : DecodeIn :=
  { sets := none, frame := [], undecoded := [], missing := [], missingRefs := 1, preds := [], syntaxErrs := 2, isRef := false, output := true,
    keep := [] }

/-- Parameter sets of H.264 High profile, level 4.0, 16 by 16 samples. -/
def avcSets : ParamSets :=
  { profile := 100, compat := [], constraint1 := false, highTier := false, level := 40, lumaDepth := 8, chromaDepth := 8, chroma := 1,
    frameMbsOnly := true, dpb := 1, width := 16, height := 16, left := 0, right := 0, top := 0, bottom := 0 }

/-- An encode trick of stream 3. -/
def encRun : RunTrick := { capRun with trick := { capTrick with cls := .encode, job := 3, index := 1 }, buf := none }

/-- A packet of flow 2 with its right CRC, from node 1 to this node. -/
def packetField (kind field : Nat) (payload : List Byte) : RxPacket :=
  let k : RxPacket := { kind := kind, flow := 2, dest := 0, src := 1, field := field, payload := payload, crc := 0, good := true, errs := [] }
  { k with crc := packetCrc k }
def packetOf (kind : Nat) (payload : List Byte) : RxPacket := packetField kind 0 payload

/-- Flow 2: from input 3 of node 1 to this node, by port 3; and the trick that carries it. -/
def flowHere : FlowDesc := { id := 2, src := 0x403, dest := 0, direct := false, inPort := 3, bmax := 0, gPort := 1, mac := 0 }
def flowTrick : Trick := { capTrick with cls := .fabricFlow, job := 2, talon := some 0 }

/-- A Trump set from node 1 to this node. -/
def trumpHere (args : List Byte) : Trump := { dest := 0, bcast := false, src := 1, seq := 2, type := 0x10, args := args }

/-- The bytes of a TICK_MARK set from node 1 with its CRC. -/
def setBytes : List Byte :=
  let b := [0, 1, 2, 1] ++ List.replicate 8 0
  b ++ beBytes 2 (crc16 b).toNat

/-- A wall of nodes 0 and 1 that shows layout 0, and a commit this node coordinates. -/
def wallImage : Image := { oneLayout [] with walls := [{ members := [0, 1], layout := 0 }], cutoff := 100000 }
def wallCoord : WallCoord := { id := 4, wall := 0, m := 0, d := 3, sent := false, decided := none, votes := [], outcomes := [] }

/-- A read of the fourth block of external memory by port 20. -/
def memReq : MemReq := { port := 20, addr := 0x100000300, urgent := false, use := .processor, errs := [] }

/-- Touch port 2 in RUN with one contact down. -/
def touched : State :=
  (dealing [(.TCH_P_STATE_STATE 2, tpRun), (.TCH_P_RPT_SEQ 2, 65535), (.TCH_P_RPT_NEXT 2, 15)]).updTch 2 fun x =>
    { x with contacts := [{ id := 3, x := 10, y := 20, strength := 30, size := 4, d := 0, k := 0, downAt := 0 }] }

/-- Touch port 2, of one drive and two sense electrodes, with a scan trick running. -/
def scanning (st n : Nat) : State :=
  ({ dealing [(.TCH_STATUS_TSP_RUN, 1), (.TCH_P_STATE_STATE 2, st), (.TCH_P_CFG0_DRIVES 2, 1), (.TCH_P_CFG0_SENSES 2, 2)] with
    dealer := { State.reset.dealer with tricks := [{ capRun with trick := { capTrick with cls := .touchScan, job := 2, index := 2 }, buf := none }] } }).updTch 2
    fun x => { x with nodes := List.replicate 2 .init, elecs := List.replicate 3 .init, baseN := n }

/-- With a self-test trick of port `p` running. -/
def selfTesting (p : Nat) (s : State) : State :=
  { s with dealer := { s.dealer with tricks := [{ capRun with trick := { capTrick with cls := .selfTest, job := p, index := p }, buf := none }] } }

/-- Slave TX audio port 3 of group 0, started, in a state. -/
def audioOn (st : Nat) : State :=
  let s := dealing [(.AUD_P_STATE_STATE 3, st), (.AUD_P_CFG_EN 3, 1), (.AUD_P_CFG_MASTER 3, 0), (.AUD_P_RING_HI_RING 3, 4)]
  { s with audio := { s.audio with groups := [(0, { fired := 0, t0 := 0 })] } }

/-- A command frame by code, session, SEQUENCE, ALIVE and payload, its CRC bytes zero or right. -/
def cmdBytes (code session seq alive : Nat) (p : List Byte) : List Byte :=
  [1, 0] ++ leBytes 2 session ++ leBytes 4 seq ++ leBytes 1 alive ++ [0] ++ leBytes 2 code ++ leBytes 2 p.length ++ [0, 0] ++ p ++ [0, 0, 0, 0]
def sealed (code session : Nat) : List Byte :=
  let b := (cmdBytes code session 9 2 []).take 16
  b ++ leBytes 4 (crc32c b).toNat
def cmdFrame (o : Origin) (code session seq alive : Nat) (p : List Byte) : InFrame := ⟨o, cmdBytes code session seq alive p, 0, true⟩
def udpHost : Origin := ⟨0, 1, 0xA000005, 4000⟩

/-- A network frame that carries a command frame; a device whose port 1 has one waiting. -/
def cmdNet (bs : List Byte) : NetFrame := { netFrame with udp := some ⟨0xA000005, 4000, 5120, bs⟩ }
def atPort (n : Nat) : State := { dealing [] with nets := [(1, { NetSt.init with cmdQ := [(cmdNet (sealed 0x01 n), 77)] })] }

/-- A dealing device whose Banker is up, with one frame taken in and session 5 of its origin. -/
def commanded (f : InFrame) (fs : List (Fld × Nat)) : State :=
  { dealing ((.HST_MB_STATUS_BANKER_UP, 1) :: fs) with
    image := { oneLayout [] with controllers := [⟨0, 0xA000005, [0, 1, 2, 3]⟩] }
    cmd := { CmdSt.init with
      fifo := [f], sessions := [⟨5, 0, f.origin, 1, 9, some (frameHdr udpHost (cmdBytes 1 5 9 1 [7]), 0, [3])⟩] } }
def walled (s : State) : State := { s with image := { s.image with walls := wallImage.walls } }
def encoding (s : State) : State := s.set (.ENC_ST_STATE_RUNNING 31) 1
def updating (s : State) : State :=
  { (s.set .BKR_UPD_STATUS_STATE 1).set .BKR_UPD_STATUS_SESSION 5 with boot := { s.boot with update := some ⟨576, 64, 5⟩ } }

/-- The header of a smallest package. -/
def packageHead : List Byte :=
  let b := leBytes 4 0x51205047 ++ leBytes 4 576 ++ leBytes 4 64
  b ++ leBytes 4 (crc32c b).toNat

/-! ### Ill-formed commands, each refused by its check -/

/-- The opcode table gives no row bits, so no word spells a command. -/
theorem test_no_word_spells_a_command : decodeTableWord 32 0 = none ∧ decodeTableWord 0 0xFFFFFFFF = none := by decide

theorem test_ping_is_well_formed : wellFormed .ping = true := by decide
theorem test_refuses_torn_bytes : wellFormed (.supplyMonitorTrip 33) = false := by decide
theorem test_refuses_section_words : wellFormed (.partLoadComplete [] [(2 ^ 40, 0)] goodFlash 0) = false := by decide +kernel
theorem test_refuses_image_words : wellFormed (.imageValidation { image := Image.none_, lk := [(2 ^ 40, 0)], bad := none, safety := [] } goodFlash)
    = false := by decide +kernel
theorem test_refuses_raster_line : wellFormed (.lineSignatureCompare 0 8192 [] []) = false ∧ wellFormed (.lineRecompute 0 8192 [] []) = false := by
  decide
theorem test_refuses_deep_flip : wellFormed (.lineSignatureCompare 0 1 [(0, 1024)] []) = false
    ∧ wellFormed (.lineRecompute 0 1 [] [(0, 1024)]) = false := by decide +kernel
theorem test_refuses_scan_pixels : wellFormed (.lineScan 0 ⟨0, 0, [], [], [], 0, 0, [⟨0, 0, [], [], [⟨0, 0, 1024⟩]⟩]⟩) = false := by decide +kernel
theorem test_refuses_short_status : wellFormed (.irqHpd 0 0 (some [1])) = false := by decide
theorem test_refuses_link_codes : wellFormed (.linkTraining 0 { sinkMax := ⟨3, 0⟩, enhanced := true, testCrc := false, ok := [], ok8 := [] }) = false
    ∧ wellFormed (.linkTraining 0 { sinkMax := ⟨0, 0⟩, enhanced := true, testCrc := false, ok := [⟨⟨0, 4⟩, 0, 0⟩], ok8 := [] }) = false
    ∧ wellFormed (.linkTraining 0 { sinkMax := ⟨0, 0⟩, enhanced := true, testCrc := false, ok := [], ok8 := [⟨⟨3, 0⟩, 0, 0⟩] }) = false := by decide
theorem test_refuses_long_reply : wellFormed (.auxReply 0 (.ack (List.replicate 17 0))) = false := by decide
theorem test_refuses_output_byte : wellFormed (.restartOutput 256) = false := by decide
theorem test_refuses_pattern : wellFormed (.rxTrainingPatternSet 0 4 true ⟨0, 0⟩) = false := by decide
theorem test_tps4_is_well_formed : wellFormed (.rxTrainingPatternSet 0 7 true ⟨0, 0⟩) = true ∧ wellFormed (.rxTrainingPatternSet 0 3 true ⟨0, 0⟩) = true := by
  decide
theorem test_refuses_error_lanes : wellFormed (.credit 0 ⟨0, 0⟩ [(4, 1)]) = false ∧ wellFormed (.laneStatus 0 0 0 ⟨0, [(4, 1)]⟩) = false
    ∧ wellFormed (.message 0 { packetOf 7 [] with errs := [(4, 1)] }) = false := by decide +kernel
theorem test_refuses_lane_mask : wellFormed (.rxLockLoss 0 32) = false := by decide
theorem test_refuses_encoding : wellFormed (.msa 0 { msa640 with enc := 4 }) = false := by decide
theorem test_refuses_aux_addresses : wellFormed (.rxAuxTransaction 0 (.dpcdRead (2 ^ 20) 1)) = false
    ∧ wellFormed (.rxAuxTransaction 0 (.dpcdWrite 0 (List.replicate 17 0))) = false ∧ wellFormed (.rxAuxTransaction 0 (.i2cWrite 128 [])) = false
    ∧ wellFormed (.rxAuxTransaction 0 (.i2cRead 0 17)) = false := by decide +kernel
theorem test_refuses_net_frame : wellFormed (.frameReceive 0 { netFrame with ether := 65536 } 0) = false
    ∧ wellFormed (.frameReceive 0 { netFrame with dest := 2 ^ 48 } 0) = false := by decide +kernel
theorem test_refuses_rtp_fields : wellFormed (.rtpPacket { rtpPkt with pt := 128 } 0) = false ∧ wellFormed (.rtpPacket { rtpPkt with port := 3 } 0) = false := by
  decide
theorem test_refuses_decoded_pixels : wellFormed (.decodeComplete 0 { decodeIn with frame := [[⟨1024, 0, 0⟩]] } false 0) = false := by decide +kernel
theorem test_refuses_row_plan : wellFormed (.encodePicture 0 { rows := [[1, 2]], params := [], slices := [] }) = false := by decide
theorem test_refuses_packet_fields : wellFormed (.segment 0 { packetOf 1 [] with dest := 64 } 0) = false
    ∧ wellFormed (.line 0 { packetOf 2 [] with src := 64 } 0) = false ∧ wellFormed (.message 0 { packetOf 7 [] with flow := 65536 }) = false
    ∧ wellFormed (.stream 0 { packetOf 256 [] with crc := 0 }) = false := by decide +kernel
theorem test_refuses_lane : wellFormed (.trumpSetReceive 0 [⟨4, [], 0⟩] 0) = false := by decide
theorem test_refuses_set_fields : wellFormed (.flowStop 0 (trumpHere [])) = false ∧ wellFormed (.presence 0 { trumpHere (List.replicate 8 0) with dest := 64 }) = false
    ∧ wellFormed (.echo 0 { trumpHere (List.replicate 8 0) with type := 256 } 0) = false := by decide
theorem test_refuses_dram_address : wellFormed (.dramRead [{ memReq with addr := 2 ^ 40 }]) = false
    ∧ wellFormed (.dramWrite { port := 0, addr := 255, bytes := [1, 2], errs := [] }) = false := by decide +kernel
theorem test_refuses_session : wellFormed (.sessionTimeout 65536) = false ∧ wellFormed (.openSession 16) = false := by decide
theorem test_refuses_payload_fields : wellFormed (.getTiles 65536 1) = false ∧ wellFormed (.getTouch 256) = false ∧ wellFormed (.touchCtrl 0 256) = false
    ∧ wellFormed (.encodeCtrl 256 0) = false ∧ wellFormed (.audioMute 256 true) = false ∧ wellFormed (.keyRequest 65536) = false := by decide
theorem test_refuses_layout_fields : wellFormed (.wallLayout 256 0) = false ∧ wellFormed (.wallLayout 0 (2 ^ 32)) = false := by decide +kernel
theorem test_refuses_empty_transfer : wellFormed (.matrixTransfer [⟨0, false, .write, 0, 4, [], none⟩] 0 goodFlash) = false
    ∧ wellFormed (.matrixTransfer [⟨0, false, .fetch, 0, 0, [], none⟩] 0 goodFlash) = false := by decide
theorem test_refuses_token_length : wellFormed (.dbgUnlock [1]) = false := by decide
theorem test_refuses_blocks : wellFormed (.tftpData 65536 []) = false ∧ wellFormed (.xmodemBlock 256 [] 0) = false := by decide
theorem test_refuses_input_pixels : wellFormed (.inputEndOfActiveVideo 0 [[⟨0, 1024, 0⟩]] 0) = false := by decide +kernel

/-! ### The spec's worked examples -/

/-- Memory of four channels of ORG 0x3 under the XOR order (R259's worked example). -/
def xorMemory : State := wit [(.MEM_CFG_CHANNELS, 2), (.MEM_CFG_ORG, 3), (.MEM_CFG_MAP, 2)]

/-- R259: the address 0x01_2345_6700 stands in sub-channel 7, block 288,940, at bank 15 and row 564. -/
theorem test_dram_map : xorMemory.memMap 0x123456700 = some (7, 288940) ∧ xorMemory.place 288940 = (0, 15, 564) := by decide +kernel

/-- R260: its check word stands in block 33,034,658 at 0xB0, in bank 18 of row 64,520. -/
theorem test_check_word : xorMemory.checkPlace 288940 = (33034658, 0xB0) ∧ xorMemory.place 33034658 = (0, 18, 64520) := by decide +kernel

/-- "123456789". -/
def digits : List Byte := [0x31, 0x32, 0x33, 0x34, 0x35, 0x36, 0x37, 0x38, 0x39]

/-- R352's worked example: CRC-16 on CHK1, fed by CHK_DATA32 twice and CHK_DATA8, and CRC-32C with both reflections. -/
theorem test_check_unit_crc16 :
    let s := withWords [(Reg.CHK_POLY 1, 0x1021), (Reg.CHK_INIT 1, 0xFFFF), (Reg.CHK_XOR 1, 0)] (wit [(.CHK_CFG_WIDTH 1, 16)])
    ((((s.chkStart 1).chkData 1 4 0x34333231).chkData 1 4 0x38373635).chkData 1 1 0x39).chkResult 1 = 0x29B1 := by decide +kernel
theorem test_check_unit_crc32c :
    let s := withWords [(Reg.CHK_INIT 1, 0xFFFFFFFF), (Reg.CHK_XOR 1, 0xFFFFFFFF)] (wit [(.CHK_CFG_REFIN 1, 1), (.CHK_CFG_REFOUT 1, 1)])
    (digits.foldl (fun s b => s.chkFeed 1 b) (s.chkStart 1)).chkResult 1 = 0xE3069283 := by decide +kernel

/-- R219: CRC-16 and CRC-32C of the fabric and the stores, by the same published values. -/
theorem test_crcs : crc16 digits = 0x29B1 ∧ crc32c digits = 0xE3069283 := by decide +kernel

/-- R104: under BT.709 reference white gives 1,023 on every component and reference black 0. -/
theorem test_bt709_white_and_black : (State.reset.csc 2).apply ⟨940, 512, 512⟩ = ⟨1023, 1023, 1023⟩ ∧ (State.reset.csc 2).apply ⟨64, 512, 512⟩ = ⟨0, 0, 0⟩ := by
  decide +kernel

/-- R55's worked example: the signed difference across a wrap is 35,651,584 ns. -/
theorem test_age_across_wrap : Machine.wordDiff 0x02000000 0xFFE00000 = 35651584 := by decide

/-- R309's worked example: a press at (20, 35) reads as X 2,247, Y 1,274. -/
theorem test_touch_centroid :
    centroid 35 87 [(40, 34), (120, 35), (60, 36), (90, 34), (300, 35), (150, 36), (20, 34), (80, 35), (40, 36)] = 2247
      ∧ centroid 20 47 [(40, 19), (120, 19), (60, 19), (90, 20), (300, 20), (150, 20), (20, 21), (80, 21), (40, 21)] = 1274 := by decide +kernel

/-- R295's worked example: epoch 3, nanoseconds 0x2000_0000 is 13,421,772,800 ns of extended device time. -/
theorem test_extended_time :
    ({ State.reset.setWord Reg.TIM_EPOCH 3 with time := { TimeSt.init with now := 0x20000000 } } : State).extNow = 13421772800 := by decide +kernel

/-- R370's worked example: region 3 of M6 with its eighth sub-region disabled. -/
def encoderRegion : State :=
  wit [(.MPU_RGN_CTL_ON 6 3, 1), (.MPU_RGN_CTL_SIZE 6 3, 30), (.MPU_RGN_BASE_BASE 6 3, 0x140000000 / 512), (.MPU_RGN_CTL_USER_RIGHTS 6 3, 3),
    (.MPU_RGN_CTL_SUB_OFF 6 3, 0x80)]
theorem test_disabled_sub_region : encoderRegion.mpuCheck 6 true tgDram 0x177FFFFE0 .write = 0
    ∧ encoderRegion.mpuCheck 6 true tgDram 0x178000000 .write = 7 := by decide +kernel

/-- R377: lifecycle patterns. -/
theorem test_lifecycle : [0, 1, 2, 3, 4, 5, 6, 7].map lifecycleOf = [lcBlank, lcLab, lcRetired, lcField, lcRetired, lcRetired, lcRetired, lcRetired] := by
  decide

/-- The published SHA-256 of "abc" (the standard that R391 and R392 name). -/
theorem test_sha256 : sha256 [0x61, 0x62, 0x63] = beBytes 32 0xBA7816BF8F01CFEA414140DE5DAE2223B00361A396177A9CB410FF61F20015AD := by decide +kernel

/-! ### Witnesses proved by hand -/

theorem witness_IdleStepIsACycleOfTheTimeUnit_0 : ∃ s : State, s.pending = [] := ⟨dealing [], by decide +kernel⟩

theorem witness_QueueCannotEndReset_0 : ∃ s t : State, s.heldInReset ∧ step s = .next t :=
  ⟨{ State.reset with pending := [.ping] }, _, ⟨by decide +kernel, by intro c hc; simp at hc; subst hc; rfl⟩, rfl⟩

theorem witness_QueueCannotEndReset_1 :
    ∃ (c : Instr) (s t : State), s.devState = stReset ∧ (∀ rcv f, c ≠ .resetEnd rcv f) ∧ exec c s = .next t :=
  ⟨.ping, State.reset, _, by decide +kernel, fun _ _ h => Instr.noConfusion h, rfl⟩

theorem witness_CanonicalFormIsKept_0 : ∃ s t : State, s.canonical = true ∧ step s = .next t :=
  ⟨{ dealing [(.CHK_CFG_WIDTH 2, 9)] with pending := [.idcode] }, _, by decide +kernel, rfl⟩

theorem witness_FusesOnlyGainBits_0 : ∃ (c : Instr) (w : Nat) (s t : State), exec c s = .next t := ⟨.ping, 3, dealing [], _, rfl⟩

theorem witness_FusesOnlyGainBits_1 : ∃ (c : Instr) (s t : State), s.plat.prog = none ∧ exec c s = .next t :=
  ⟨.ping, dealing [], _, by decide +kernel, rfl⟩

theorem witness_OnlyTheScorerWritesTheLogStore_0 : ∃ (c : Instr) (s t : State), c ≠ .lockstep ∧ c ≠ .watchdog ∧ c ≠ .autoRestart
    ∧ c ≠ .autoRestartClear ∧ c ≠ .logWrite ∧ (∀ n, c ≠ .supplyMonitorTrip n) ∧ (∀ r f, c ≠ .resetEnd r f) ∧ exec c s = .next t :=
  ⟨.ping, dealing [], _, by decide, by decide, by decide, by decide, by decide, fun _ h => Instr.noConfusion h,
    fun _ _ h => Instr.noConfusion h, rfl⟩

/-- The header of a smallest image of FORMAT 0xFFFF for node 0, with one empty section. -/
def imageHead : List Byte :=
  Machine.sealed (leBytes 4 0x4B52494D ++ leBytes 2 0xFFFF ++ leBytes 2 1 ++ List.replicate 6 0 ++ leBytes 2 120 ++ List.replicate 6 0
    ++ leBytes 2 60 ++ List.replicate 36 0) ++ leBytes 16 1

/-- Its tables, a tick of 1/60 s from the time unit, and a device that loads it. -/
def smallImage : ImageIn :=
  { image := oneLayout [], bad := none, safety := [],
    lk := [(Reg.DLR_TICK_NUM, 50000000), (Reg.DLR_TICK_DEN, 3), (Reg.DLR_TICK_CFG, 2)] }
def imageDevice : State :=
  { loading [] with boot := { BootSt.init with loaded := true }, plat := { PlatSt.init with sram := writeBytes 0 [] 0x400000 imageHead } }

theorem witness_ImageLoadsOrHolds_0 :
    ∃ (i : ImageIn) (f : FlashIn) (s : State), s.up ∧ s.starting = true ∧ s.on .FUS_DBG_STATUS_BANKER_HALTED = false ∧ s.boot.loaded = true ∧ s.boot.imageOk = false
      ∧ s.boot.holds.contains holdImage = false ∧ s.boot.holds.contains holdMigrate = false ∧ s.imgFormat s.runSlot = s.imageNum 4 2
      ∧ s.imageFault (s.candidate i) i = none
      ∧ (∀ e ∈ i.safety, contractAddr e.1 = true ∨ (s.candidate i).word e.1 &&& tyMask (· == .lk) e.1 = e.2 &&& tyMask (· == .lk) e.1) :=
  ⟨smallImage, goodFlash, imageDevice, by decide +kernel, by decide +kernel, by decide +kernel, by decide +kernel, by decide +kernel,
    by decide +kernel, by decide +kernel, by decide +kernel, by decide +kernel, by decide +kernel⟩

theorem witness_DealingIsEnteredWhenAllHolds_0 :
    ∃ (ly : LayoutDesc) (s : State), s.up ∧ s.mayDeal = true ∧ s.layout? s.dealer.layout = some ly :=
  ⟨{ sh := [], contracts := [], cycle := [[]], flows := [], permits := [] },
    { loading [(.FUS_LIFECYCLE_STATE, lcField), (.MEM_STATUS_STATE, memReady), (.MPU_GLOBAL_LOCK, 1), (.FAB_STATUS_TOPO_OK, 1),
        (.FAB_STATUS_ROUTE_OK, 1), (.TIM_STATUS_EPOCH_VALID, 1)] with
      image := oneLayout [], boot := { BootSt.init with scorerOk := true, imageOk := true } },
    by decide +kernel, by decide +kernel, by decide +kernel⟩

/-- A device whose route check runs, with no link and its own route word right. -/
def routeDevice (st n : Nat) : State := withWords [(Reg.FAB_RT 0, BitVec.ofNat 32 n)] (wit [(.BKR_DEV_STATE_STATE, st), (.BKR_STATUS_RUN, 0xF), (.FAB_RT_CHECK_BUSY, 1)])

theorem witness_RouteCheckAndTrialEnd_0 :
    ∃ (f : FlashIn) (s : State), s.scoring ∧ s.on .FAB_RT_CHECK_BUSY = true ∧ s.boot.holds.contains holdRoute = false
      ∧ ∀ d < 64, (s.word (Reg.FAB_RT d), s.word (Reg.FAB_BC d)) = s.ownTables d :=
  ⟨goodFlash, routeDevice 4 24, by decide +kernel, by decide +kernel, by decide +kernel, by decide +kernel⟩

theorem witness_RouteCheckAndTrialEnd_1 :
    ∃ (f : FlashIn) (d : Nat) (s : State), s.scoring ∧ s.on .FAB_RT_CHECK_BUSY = true ∧ s.starting = true ∧ s.on .BKR_BOOT_TRIAL = false
      ∧ s.boot.holds.contains holdRoute = false ∧ d < 64 ∧ (s.word (Reg.FAB_RT d), s.word (Reg.FAB_BC d)) ≠ s.ownTables d
      ∧ ∀ e < d, (s.word (Reg.FAB_RT e), s.word (Reg.FAB_BC e)) = s.ownTables e :=
  ⟨goodFlash, 5, withWords [(Reg.FAB_RT 5, 1)] (routeDevice 2 24), by decide +kernel, by decide +kernel, by decide +kernel, by decide +kernel,
    by decide +kernel, by decide +kernel, by decide +kernel, by decide +kernel⟩

/-- A pointer in its first trial boot, slot 0 before it. -/
def trialPtr : Ptr := { seq := 5, active := 1, trial := true, tries := 1, previous := some 0 }

theorem witness_RouteCheckAndTrialEnd_3 :
    ∃ (f : FlashIn) (c : Nat) (p : Ptr) (prev : Nat) (s : State), s.up ∧ s.on .BKR_BOOT_TRIAL = true ∧ s.starting = true
      ∧ s.on .FUS_DBG_STATUS_BANKER_HALTED = false ∧ s.pointer = some (c, p) ∧ p.previous = some prev ∧ f.badWrites < 2 :=
  ⟨goodFlash, 0, trialPtr, 0, { loading [(.BKR_BOOT_TRIAL, 1)] with flash := writeBytes flashFill [] 0 trialPtr.bytes },
    by decide +kernel, by decide +kernel, by decide +kernel, by decide +kernel, by decide +kernel, by decide +kernel, by decide +kernel⟩

theorem witness_RecoveryDownloadSteps_6 :
    ∃ (data : List Byte) (crc : BitVec 16) (s : State), s.canDownload = true ∧ s.boot.recovery.transport = some 1 ∧ xmodemCrc data = crc
      ∧ (data.length = 128 ∨ data.length = 1024) ∧ s.get .MEM_STATUS_SC_FAILED = 0 :=
  ⟨List.replicate 128 0, xmodemCrc (List.replicate 128 0), recovering { RecoverySt.init with transport := some 1 }, by decide +kernel,
    by decide +kernel, rfl, .inl List.length_replicate, by decide +kernel⟩

theorem witness_ScorerJudgesFramesAndDelivers_4 : ∃ (o : Fin 16) (eps : Int) (s : State), s.up ∧ s.lineLocked o = true :=
  ⟨4, -40, { dealing [(.CAP_LLK_EN 4, 1), (.CAP_LLK_SLOT 4, 1), (.CMP_VL_SRC_SRC_ID 9, 2), (.CMP_VL_SRC_NO_SRC 9, 0), (.CAP_STATUS_PRESENT 2, 1)] with
    slots := [(0, { SlotSt.init with layer := some 9 }), (1, { SlotSt.init with layer := some 9 }), (8, { SlotSt.init with layer := some 9 }),
      (9, { SlotSt.init with layer := some 9 }), (17, { SlotSt.init with layer := some 9 })] }, by decide +kernel, by decide +kernel⟩

/-- A packet formed with its own CRC passes the receiver's check. -/
theorem packetField_ok (kind field : Nat) (p : List Byte) : RxPacketOk (packetField kind field p) = true := by
  simp [RxPacketOk, packetField, packetCrc, headerBytes]

/-- A receiver of flow 2 in the middle of a frame. -/
def midFrame : FlowRx :=
  { buf := 2, port := 3, hdr := { BufHdr.zero with format := 5, width := 64, height := 64 }, next := 0, crc := 0, ok := true }
def framing : State :=
  { dealing [(.FAB_P_STATUS_STATE 3, ptUp), (.CMP_TLN_SIZE_SIZE 0, 1), (.CMP_TLN_COUNT_COUNT 0, 3), (.CMP_TLN_BASE_BASE 0, 0x8000000)] with
    image := { Image.none_ with flows := [flowHere] }, fab := { FabSt.init with frames := [(2, midFrame)] } }

theorem witness_PacketsAreReceivedByKind_5 :
    ∃ (p : Fin 8) (k : RxPacket) (f : FlowDesc) (x : FlowRx) (s : State), s.up ∧ k.kind = 4 ∧ s.portUp p = true ∧ RxPacketOk k = true
      ∧ s.flow? k.flow = some f ∧ srcNode f.src ≠ s.nodeId ∧ f.inPort = p ∧ f.dest = s.nodeId ∧ k.dest = f.dest
      ∧ Tab.find s.fab.frames f.id = some x ∧ x.ok = true ∧ k.field = x.next % 65536 ∧ k.payload.length = 256 ∧ x.next < framePackets x.hdr
      ∧ s.get .MEM_STATUS_SC_FAILED = 0 :=
  ⟨3, packetField 4 0 (List.replicate 256 7), flowHere, midFrame, framing, by decide +kernel, rfl, by decide +kernel, packetField_ok _ _ _,
    by decide +kernel, by decide +kernel, rfl, by decide +kernel, rfl, by decide +kernel, rfl, rfl, List.length_replicate, by decide +kernel, by decide +kernel⟩

theorem witness_OperatingCommandsActAndAnswer_4 :
    ∃ (f : InFrame) (rest : List InFrame) (s : State), s.up ∧ s.cmd.fifo = f :: rest ∧ s.admits 0x31 f = true
      ∧ s.on .OUT_REF_STATUS_REF_RATE = true ∧ s.measured = some s.pTick ∧ 0 ≤ s.pTick :=
  ⟨cmdFrame udpHost 0x31 5 10 2 [], [],
    { commanded (cmdFrame udpHost 0x31 5 10 2 []) [(.OUT_REF_STATUS_REF_RATE, 1), (.DLR_TICK_NUM_NUM, 16000000), (.DLR_TICK_DEN_DEN, 1)] with
      dealer := { Dealer.init with pulses := [48000000, 32000000, 16000000, 0] }, time := { TimeSt.init with now := 48000001 } },
    by decide +kernel, by decide +kernel, by decide +kernel, by decide +kernel, by decide +kernel, by decide +kernel⟩

/-! A signed slot of seven empty parts, by the private key 1. -/

/-- The public key: the base point of P-256; and the hash words by which the fuses name it. -/
def pubKey : List Byte := beBytes 32 p256G.1 ++ beBytes 32 p256G.2
def keyWords : List Nat := [0x7ddb75d8, 0x362223ef, 0xc638c7ae, 0x803ebbb0, 0xf5d2f14, 0x24dff4d8, 0xf5eed6fe, 0x9f0db5cb]
def keyFuses : List (Nat × Word) := (List.range 8).map fun w => (Reg.FUS_KEYHASH1 w, BitVec.ofNat 32 (keyWords.getD w 0))

/-- The SHA-256 of no byte. -/
def emptyHash : List Byte := beBytes 32 0xe3b0c44298fc1c149afbf4c8996fb92427ae41e4649b934ca495991b7852b855

/-- The signed bytes of the manifest, and the manifest. -/
def manHead : List Byte :=
  leBytes 4 0x4B524D46 ++ leBytes 2 0x5120 ++ [1, 1] ++ List.replicate 56 0
    ++ ([1, 2, 3, 4, 5, 6, 7].flatMap fun k => [BitVec.ofNat 8 k] ++ List.replicate 15 0 ++ emptyHash) ++ List.replicate 48 0 ++ pubKey
def manSig : List Byte :=
  beBytes 32 p256G.1 ++ beBytes 32 0xe0373e0904270f5eb46a2fcd9b908f493f515033d5d267fa22b55593c8508c62
def manBytes : List Byte := manHead ++ manSig

/-- A state with its fuses and that manifest in a slot. -/
def withSlot (slot : Nat) (s : State) : State := { withWords keyFuses s with flash := writeBytes flashFill [] (slotBase slot) manBytes }

theorem manBytes_length : manBytes.length = 576 := by decide +kernel

theorem manifest_written (slot : Nat) (s : State) (m : List Byte) (h : m.length = 576) :
    ({ s with flash := writeBytes flashFill [] (slotBase slot) m } : State).manifest slot = m := by
  have k := readBytes_writeBytes flashFill [] (slotBase slot) m
  rw [h] at k
  exact k

theorem withSlot_manifest (slot : Nat) (s : State) : (withSlot slot s).manifest slot = manBytes :=
  manifest_written slot _ manBytes manBytes_length

theorem sha_empty : sha256 [] = emptyHash := by decide +kernel
theorem sha_pub : sha256 pubKey = keyWords.flatMap (leBytes 4) := by decide +kernel
theorem man_pub : (manBytes.drop 0x1C0).take 64 = pubKey := by decide +kernel
theorem man_sig : (manBytes.drop 0x200).take 64 = manSig := by decide +kernel
theorem man_head : manBytes.take 0x200 = manHead := by decide +kernel
theorem man_parts : (manParts manBytes).all (fun e => e.1 == 0 || e == (e.1, 0, 0, emptyHash)) = true := by decide +kernel
theorem man_ecdsa : ecdsaOk pubKey manSig manHead = true := by decide +kernel

theorem empty_partGood (s : State) (slot k : Nat) (h : List Byte) (e : sha256 [] = h) : s.partGood slot (k, 0, 0, h) = true := by
  have d : decide (sha256 (s.partBytes slot k 0 0) = h) = true := decide_eq_true e
  have a : decide (0 + 0 ≤ if k = 7 then 0x400000 else 0x1800000) = true := decide_eq_true (Nat.zero_le _)
  have b : decide (0 ≤ partMax k) = true := decide_eq_true (Nat.zero_le _)
  show (decide (0 + 0 ≤ if k = 7 then 0x400000 else 0x1800000) && decide (0 ≤ partMax k) && decide (sha256 (s.partBytes slot k 0 0) = h)) = true
  rw [a, b, d]
  rfl

theorem keyHash_flash (s : State) (m : Memory) (k : Nat) : ({ s with flash := m } : State).keyHash k = s.keyHash k := rfl

/-- A state with those fuses and that manifest verifies the slot. -/
theorem man_verifies (f : FlashIn) (slot : Nat) (s : State) (ks : List Nat) (hf : f.unread = []) (hz : 0 ∉ ks)
    (hm : s.manifest slot = manBytes) (hr : s.get .FUS_ROLLBACK_COUNT = 0) (hk' : s.keyHash 1 = keyWords.flatMap (leBytes 4)) :
    s.verifyParts f slot ks = 1 := by
  have h1 : manNum manBytes 0 4 = 0x4B524D46 ∧ manNum manBytes 4 2 = 0x5120 ∧ manNum manBytes 6 1 = 1 ∧ partsOk manBytes = true
      ∧ manNum manBytes 7 1 = 1 := by decide +kernel
  have hg : (((manParts manBytes).filter fun e => ks.contains e.1).all (s.partGood slot)) = true := by
    rw [List.all_eq_true]
    intro e he
    obtain ⟨hm, hc⟩ := List.mem_filter.mp he
    have hp := List.all_eq_true.mp man_parts e hm
    simp only [Bool.or_eq_true, beq_iff_eq] at hp
    rcases hp with hp | hp
    · exact absurd (by simpa [hp] using hc) hz
    · rw [hp]; exact empty_partGood _ _ _ _ sha_empty
  obtain ⟨a, b, c, d, e⟩ := h1
  unfold State.verifyParts
  rw [hm, hf]
  simp only [a, b, c, d, e, man_pub, man_sig, man_head, hk', sha_pub, man_ecdsa, hr, hg]
  simp

theorem withSlot_verifies (f : FlashIn) (slot : Nat) (s : State) (ks : List Nat) (hf : f.unread = []) (hz : 0 ∉ ks)
    (hr : (withSlot slot s).get .FUS_ROLLBACK_COUNT = 0)
    (hk : (withWords keyFuses s).keyHash 1 = keyWords.flatMap (leBytes 4)) : (withSlot slot s).verifyParts f slot ks = 1 :=
  man_verifies f slot _ ks hf hz (withSlot_manifest slot s) hr (by unfold withSlot; rw [keyHash_flash, hk])

theorem witness_BankerIsWatchedResetAndReleased_9 :
    ∃ (f : FlashIn) (w : Word) (s : State), s.up ∧ s.devState ≠ stRecovery ∧ s.get .BKR_STATUS_RUN = 0 ∧ s.get .BKR_STATUS_CAUSE ≠ 0
      ∧ s.on .BKR_BOOT_WARM_FAIL = false ∧ s.verifyParts f s.runSlot [1, 7] = 1 :=
  ⟨goodFlash, 6, withSlot 0 (dealing [(.BKR_STATUS_RUN, 0), (.BKR_STATUS_CAUSE, 3)]), by decide +kernel, by decide +kernel, by decide +kernel,
    by decide +kernel, by decide +kernel, by
      have h : (withSlot 0 (dealing [(.BKR_STATUS_RUN, 0), (.BKR_STATUS_CAUSE, 3)])).runSlot = 0 := by decide +kernel
      rw [h]
      exact withSlot_verifies _ _ _ _ rfl (by decide) (by decide +kernel) (by decide +kernel)⟩

theorem witness_PartsAndScorerCheckComplete_1 :
    ∃ (f g : FlashIn) (s : State), s.scoring ∧ (s.devState = stLoading ∨ s.devState = stHeld) ∧ s.boot.scorerOk = false
      ∧ s.slotErr s.runSlot ≠ 0 ∧ s.verifySlot f s.runSlot = 1 :=
  ⟨goodFlash, goodFlash, withSlot 0 (loading [(.BKR_BOOT_ERR_SLOT_A, 1)]), by decide +kernel, by decide +kernel, by decide +kernel,
    by decide +kernel, by
      have h : (withSlot 0 (loading [(.BKR_BOOT_ERR_SLOT_A, 1)])).runSlot = 0 := by decide +kernel
      rw [h]
      unfold State.verifySlot
      exact withSlot_verifies _ _ _ _ rfl (by decide) (by decide +kernel) (by decide +kernel)⟩

/-- A session's update whose package has arrived whole, in slot 1. -/
def activatedBase : State :=
  updating (commanded (cmdFrame udpHost 0x42 5 10 2 [1, 2, 3, 4]) [(.BKR_UPD_NEXT_OFFSET, 640), (.BKR_UPD_STATUS_TARGET, 1)])
def activated : State := withSlot 1 activatedBase

theorem activated_verifies : activated.verifySlot goodFlash 1 = 1 := by
  unfold State.verifySlot activated
  exact withSlot_verifies _ _ _ _ rfl (by decide) (by decide +kernel) (by decide +kernel)

theorem man_image : ((manParts manBytes).find? (·.1 == 7)) = some (7, 0, 0, emptyHash) ∧ manNum manBytes 0x10 2 = 0 ∧ manNum manBytes 0x12 2 = 0 := by
  decide +kernel

theorem partOf_empty (s : State) (slot k : Nat) (m : List Byte) (h : List Byte) (hm : s.manifest slot = m)
    (e : (manParts m).find? (·.1 == k) = some (k, 0, 0, h)) : s.partOf slot k = [] := by
  unfold State.partOf
  rw [hm, e]
  rfl

theorem activated_manifest (f : Fld) (v : Nat) : (activated.set f v).manifest 1 = manBytes := by
  unfold State.manifest State.flashBytes
  rw [State.set_flash]
  exact withSlot_manifest 1 activatedBase

theorem activated_image : activated.partOf 1 7 = [] := partOf_empty activated 1 7 manBytes emptyHash (withSlot_manifest 1 activatedBase) man_image.1

theorem witness_UpdateCommandsProgramTheOtherSlot_7 :
    ∃ (f : InFrame) (rest : List InFrame) (fl : FlashIn) (u : UpdateSt) (s : State), s.up ∧ s.logRoom ∧ s.cmd.fifo = f :: rest
      ∧ s.admits 0x42 f = true ∧ s.boot.update = some u ∧ s.updState = upReceiving ∧ s.updOwned (frameNum f.bytes 2 2) = true
      ∧ s.verifySlot fl (s.get .BKR_UPD_STATUS_TARGET) = 1 ∧ s.get .BKR_UPD_NEXT_OFFSET = u.l1 + u.l2
      ∧ s.slotSuits (s.get .BKR_UPD_STATUS_TARGET) = true ∧ s.slotNode (s.get .BKR_UPD_STATUS_TARGET) = s.nodeId
      ∧ (framePayload f).length = 4 ∧ fl.badWrites = 0 := by
  have ht : activated.get .BKR_UPD_STATUS_TARGET = 1 := by decide +kernel
  refine ⟨cmdFrame udpHost 0x42 5 10 2 [1, 2, 3, 4], [], goodFlash, ⟨576, 64, 5⟩, activated, by decide +kernel, by decide +kernel,
    by decide +kernel, by decide +kernel, by decide +kernel, by decide +kernel, by decide +kernel, ?_, by decide +kernel, ?_, ?_,
    by decide +kernel, rfl⟩
  · rw [ht]; exact activated_verifies
  · rw [ht]
    unfold State.slotSuits State.imgFormat State.migFloor
    rw [activated_image]
    unfold activated
    rw [withSlot_manifest, man_image.2.1, man_image.2.2]
    rfl
  · rw [ht]
    unfold State.slotNode
    rw [activated_image]
    decide +kernel

/-- The same before the package has arrived whole. -/
def unfinished : State :=
  withSlot 1 (updating (commanded (cmdFrame udpHost 0x42 5 10 2 [1, 2, 3, 4]) [(.BKR_UPD_NEXT_OFFSET, 600), (.BKR_UPD_STATUS_TARGET, 1)]))

theorem witness_UpdateCommandsProgramTheOtherSlot_10 :
    ∃ (f : InFrame) (rest : List InFrame) (fl : FlashIn) (u : UpdateSt) (s : State), s.up ∧ s.cmd.fifo = f :: rest ∧ s.admits 0x42 f = true
      ∧ s.boot.update = some u ∧ s.updState = upReceiving ∧ s.updOwned (frameNum f.bytes 2 2) = true
      ∧ s.verifySlot fl (s.get .BKR_UPD_STATUS_TARGET) = 1 ∧ s.get .BKR_UPD_NEXT_OFFSET ≠ u.l1 + u.l2 := by
  have ht : unfinished.get .BKR_UPD_STATUS_TARGET = 1 := by decide +kernel
  refine ⟨cmdFrame udpHost 0x42 5 10 2 [1, 2, 3, 4], [], goodFlash, ⟨576, 64, 5⟩, unfinished, by decide +kernel, by decide +kernel,
    by decide +kernel, by decide +kernel, by decide +kernel, by decide +kernel, ?_, by decide +kernel⟩
  rw [ht]
  unfold State.verifySlot unfinished
  exact withSlot_verifies _ _ _ _ rfl (by decide) (by decide +kernel) (by decide +kernel)

/-- A downloaded package of that manifest and 64 bytes of image half, in a device in RECOVERY. -/
def packageBody : List Byte := manBytes ++ List.replicate 64 0xFF
def withDram (m : Memory) : State :=
  { withWords keyFuses (recovering { RecoverySt.init with done := true, got := 656, transport := some 0 }) with dram := m }
def packaged : State := withDram (writeBytes Config.dramFill [] dramBase (packageHead ++ packageBody))
def programmed : State := { packaged with flash := [] }.programBody 1 576 0 packageBody

theorem readBytes_drop (d : Byte) (m : Memory) (n : Nat) : ∀ k a, readBytes d m (a + k) n = (readBytes d m a (k + n)).drop k
  | 0, a => by simp
  | k + 1, a => by
    have h := readBytes_drop d m n k (a + 1)
    rw [show k + 1 + n = (k + n) + 1 by omega, readBytes, List.drop_succ_cons, ← h]
    congr 1; omega

theorem readBytes_take (d : Byte) (m : Memory) (n : Nat) : ∀ k a, readBytes d m a k = (readBytes d m a (k + n)).take k
  | 0, a => by simp [readBytes]
  | k + 1, a => by
    rw [show k + 1 + n = (k + n) + 1 by omega, readBytes, readBytes, List.take_succ_cons, ← readBytes_take d m n k (a + 1)]

theorem readBytes_congr (d : Byte) (m m' : Memory) : ∀ n a, (∀ b, a ≤ b → b < a + n → Tab.get d m b = Tab.get d m' b) →
    readBytes d m a n = readBytes d m' a n
  | 0, _, _ => rfl
  | n + 1, a, h => by
    rw [readBytes, readBytes, h a (by omega) (by omega), readBytes_congr d m m' n (a + 1) fun b h1 h2 => h b (by omega) (by omega)]

theorem package_lengths : (packageHead ++ packageBody).length = 16 + 640 ∧ packageHead.length = 16 ∧ packageBody.take 576 = manBytes
    ∧ packageBody.drop 576 = List.replicate 64 0xFF := by decide +kernel

theorem read_written (d : Byte) (a n : Nat) (bs : List Byte) (h : bs.length = n) : readBytes d (writeBytes d [] a bs) a n = bs :=
  h ▸ readBytes_writeBytes d [] a bs

theorem withDram_dram (m : Memory) : (withDram m).dram = m := rfl

theorem packaged_dram : readBytes Config.dramFill packaged.dram dramBase (16 + 640) = packageHead ++ packageBody := by
  unfold packaged
  rw [withDram_dram]
  exact read_written _ _ _ _ package_lengths.1

theorem packaged_head : readBytes Config.dramFill packaged.dram dramBase 16 = packageHead := by
  rw [readBytes_take _ _ 640, packaged_dram, List.take_left' package_lengths.2.1]
theorem packaged_body : readBytes Config.dramFill packaged.dram (dramBase + 16) 640 = packageBody := by
  rw [readBytes_drop, packaged_dram, List.drop_left' package_lengths.2.1]

theorem get_erased (b : Nat) : ∀ (ks : List Nat) (s : State), (∀ k ∈ ks, b / 0x10000 ≠ k) →
    Tab.get flashFill (s.each ks State.flashErase).flash b = Tab.get flashFill s.flash b
  | [], _, _ => rfl
  | k :: ks, s, h => by
    rw [State.each, List.foldl_cons, ← State.each, get_erased b ks _ fun j hj => h j (List.mem_cons_of_mem _ hj)]
    unfold State.flashErase
    dsimp only
    have hk := h k List.mem_cons_self
    induction s.flash with
    | nil => rfl
    | cons e m ih =>
      by_cases he : e.1 / 0x10000 = k
      · have : e.1 ≠ b := fun x => hk (x ▸ he)
        simpa [he, Tab.get, this] using ih
      · simp only [List.filter, he, not_false_eq_true, decide_true, Tab.get, ih, ne_eq]

theorem get_programAt (s : State) (a b : Nat) (bs : List Byte) (h : b + 0x10000 ≤ a) :
    Tab.get flashFill (s.programAt a bs).flash b = Tab.get flashFill s.flash b := by
  have hw := fun m => get_writeBytes flashFill bs m a b
  have : ¬ (a ≤ b ∧ b < a + bs.length) := by omega
  unfold State.programAt State.flashPut
  dsimp only
  rw [hw, if_neg this]
  refine get_erased b _ s fun k hk => ?_
  have := of_decide_eq_true (List.mem_filter.mp hk).2
  omega

theorem manifest_programmed (s : State) (lo hi : List Byte) (hl : lo.length = 576) : (s.programBody 1 576 0 (lo ++ hi)).manifest 1 = lo := by
  have t : (lo ++ hi).take (576 - 0) = lo := List.take_left' hl
  have u : (lo ++ hi).drop 576 = hi := List.drop_left' hl
  unfold State.manifest State.flashBytes State.programBody
  dsimp only
  rw [t, hl, u]
  rw [readBytes_congr flashFill _ (s.programAt (slotBase 1 + 0) lo).flash]
  · have h := readBytes_writeBytes flashFill
    rw [← hl]
    exact h _ _ _
  · intro b _ hb
    refine get_programAt _ _ _ _ ?_
    have e : slotBase 1 = 0x1900000 := rfl
    have g : halfBase 1 = 0x3500000 := rfl
    omega

theorem programmed_manifest : programmed.manifest 1 = manBytes := manifest_programmed _ _ _ manBytes_length

theorem programmed_image : programmed.partOf 1 7 = [] := partOf_empty programmed 1 7 manBytes emptyHash programmed_manifest man_image.1

theorem programmed_suits : programmed.slotSuits 1 = true := by
  unfold State.slotSuits State.imgFormat State.migFloor
  rw [programmed_image, programmed_manifest, man_image.2.1, man_image.2.2]
  rfl

theorem packageGood_of (s : State) (slot n1 n2 : Nat) (h body : List Byte) (hh : readBytes Config.dramFill s.dram dramBase 16 = h)
    (h1 : packageSeal h) (h2 : packageRange h = true) (e1 : packageL1 h = n1) (e2 : packageL2 h = n2)
    (hg : 16 + (n1 + n2) ≤ s.boot.recovery.got) (hb : readBytes Config.dramFill s.dram (dramBase + 16) (n1 + n2) = body)
    (hv : (({ s with flash := [] } : State).programBody slot n1 0 body).verifySlot { unread := [], badWrites := 0 } slot = 1)
    (hs : (({ s with flash := [] } : State).programBody slot n1 0 body).slotSuits slot = true) (hp : s.packageBad = []) :
    s.packageGood slot = true := by
  unfold State.packageGood
  simp only [hp, List.isEmpty_nil, Bool.not_true, Bool.false_eq_true, if_false, hh, h1, h2, e1, e2, hg, hb, hv, hs, and_self, if_true, beq_self_eq_true, Bool.and_self]

theorem packaged_good : packaged.packageGood 1 = true :=
  packageGood_of packaged 1 576 64 packageHead packageBody packaged_head (by decide +kernel) (by decide +kernel) (by decide +kernel)
    (by decide +kernel) (by decide +kernel) packaged_body
    (man_verifies _ 1 programmed _ rfl (by decide) programmed_manifest (by decide +kernel) (by decide +kernel)) programmed_suits
    (by decide +kernel)

theorem witness_RecoveryDownloadSteps_8 :
    ∃ (f : FlashIn) (s : State), s.inRecovery = true ∧ s.boot.recovery.done = true ∧ s.boot.recovery.resetDue = false
      ∧ s.packageGood s.recoveryTarget = true ∧ f.badWrites = 0 := by
  have ht : packaged.recoveryTarget = 1 := by decide +kernel
  exact ⟨goodFlash, packaged, by decide +kernel, by decide +kernel, by decide +kernel, by rw [ht]; exact packaged_good, rfl⟩

/-- A token of device 0 in FIELD with scope 5 for the nonce 0, signed by a key of its own, and a device that received it. -/
def tokenHead : List Byte := List.replicate 6 0 ++ [2, 5] ++ List.replicate 24 0
def tokenKey : List Byte :=
  beBytes 32 0x76807d9ad1c7927dccfd82bf8253573487cba3d50b7f6fe2648541feff2e25c8
    ++ beBytes 32 0x5adb14b88d69a848db305b978da0bb411f141cb1588b6e85b0154ddb82f26c1f
def tokenSig : List Byte :=
  beBytes 32 0x8f70c93c3fd22e0120c3213be6de3f1335b818f3963e880b5ea1e81ef93e52cf
    ++ beBytes 32 0x8f70c93c3fd22e0120c3213be6de3f1335b818f3963e880b5ea1e81ef93e52cf
def tokenBytes : List Byte := tokenHead ++ tokenKey ++ tokenSig
def tokenWords : List Nat := [0x5925b850, 0x14b7e976, 0x7b694150, 0xfad3cf65, 0xf0898118, 0xbd4d688c, 0xc1092d20, 0x2904174e]
def tokened : State :=
  { withWords ((List.range 8).map fun w => (Reg.FUS_KEYHASH1 w, BitVec.ofNat 32 (tokenWords.getD w 0)))
      (dealing [(.FUS_LIFECYCLE_STATE, lcField), (.FUS_DBG_POLICY_FIELD, 1)]) with
    plat := { PlatSt.init with token := some tokenBytes } }

theorem token_ecdsa : ecdsaOk tokenKey tokenSig tokenHead = true := by decide +kernel

theorem token_sha : sha256 tokenKey = tokenWords.flatMap (leBytes 4) := by decide +kernel

theorem token_parts : (tokenBytes.drop 0x20).take 64 = tokenKey ∧ (tokenBytes.drop 0x60).take 64 = tokenSig ∧ tokenBytes.take 0x20 = tokenHead
    ∧ tokened.keyHash 1 = tokenWords.flatMap (leBytes 4) := by decide +kernel

theorem token_rest : ((tokenBytes.drop 0).take 6 == leBytes 4 (tokened.word Reg.FUS_SERIAL_LO).toNat ++ leBytes 2 (tokened.word Reg.FUS_SERIAL_HI).toNat)
    = true ∧ (leNat ((tokenBytes.drop 6).take 1) == tokened.lifecycle) = true
    ∧ ((tokenBytes.drop 8).take 8 == leBytes 8 tokened.plat.nonce.toNat) = true
    ∧ tokened.fieldPolicy 0 = true := by decide +kernel

theorem witness_DebugPortAnswersByLifecycle_14 :
    ∃ (bs : List Byte) (s : State), s.scoring ∧ s.logRoom ∧ s.plat.token = some bs ∧ s.tokenOk bs = true := by
  refine ⟨tokenBytes, tokened, by decide +kernel, by decide +kernel, by decide +kernel, ?_⟩
  obtain ⟨a, b, c, d⟩ := token_parts
  obtain ⟨e, f, g, h⟩ := token_rest
  unfold State.tokenOk
  simp only [a, b, c, d, e, f, g, h, token_sha, token_ecdsa]
  simp

/-- A lab device in RESET, and with the signed slot beside what its flash holds. -/
def labReset : State :=
  { State.reset with plat := { PlatSt.init with fuses := (0, 1) :: (List.range 8).map fun w => (8 + w, BitVec.ofNat 32 (keyWords.getD w 0)) } }
def bootable (m : Memory) (slot : Nat) : State := { labReset with flash := writeBytes flashFill m (slotBase slot) manBytes }

theorem sense_flash (s : State) : s.senseFuses.flash = s.flash := by
  have h := stored_senseFuses s
  unfold State.stored at h
  simp only [Prod.mk.injEq] at h
  exact h.2.2.2.1

theorem bootable_flash (m : Memory) (slot : Nat) : (bootable m slot).flash = writeBytes flashFill m (slotBase slot) manBytes := by
  unfold bootable; dsimp only

theorem bootable_verifies (m : Memory) (slot : Nat) (hr : (bootable m slot).senseFuses.get .FUS_ROLLBACK_COUNT = 0)
    (hk : (bootable m slot).senseFuses.keyHash 1 = keyWords.flatMap (leBytes 4)) : (bootable m slot).senseFuses.verifySlot goodFlash slot = 1 := by
  have k := readBytes_writeBytes flashFill m (slotBase slot) manBytes
  rw [manBytes_length] at k
  refine man_verifies goodFlash slot _ _ rfl (by decide) ?_ hr hk
  unfold State.manifest State.flashBytes
  rw [sense_flash, bootable_flash]
  exact k

/-- The slot's bytes stand above both pointer copies. -/
theorem bootable_copy (m : Memory) (slot k : Nat) (hk : k ≤ 1) :
    (bootable m slot).ptrCopy k = ({ labReset with flash := m } : State).ptrCopy k := by
  have e : (bootable m slot).flashBytes (0x10000 * k) 64 = ({ labReset with flash := m } : State).flashBytes (0x10000 * k) 64 := by
    unfold State.flashBytes
    rw [bootable_flash]
    refine readBytes_congr _ _ _ _ _ fun b h1 h2 => ?_
    rw [get_writeBytes, if_neg]
    unfold slotBase
    split <;> omega
  unfold State.ptrCopy
  rw [e]

theorem bootable_pointer (m : Memory) (slot : Nat) : (bootable m slot).pointer = ({ labReset with flash := m } : State).pointer := by
  unfold State.pointer
  rw [bootable_copy m slot 0 (by decide), bootable_copy m slot 1 (by decide)]

theorem bootable_none (slot : Nat) : (bootable [] slot).bootPtr.active = 0 ∧ (bootable [] slot).bootPtr.trial = false := by
  have e : ({ labReset with flash := [] } : State).pointer = none := by decide +kernel
  unfold State.bootPtr
  rw [bootable_pointer, e]
  exact ⟨rfl, rfl⟩

theorem bootable_first : (bootable [] 0).senseFuses.verifySlot goodFlash (bootable [] 0).bootPtr.active = 1 := by
  rw [(bootable_none 0).1]
  exact bootable_verifies _ _ (by decide +kernel) (by decide +kernel)

theorem bootable_other : (bootable [] 1).senseFuses.verifySlot goodFlash (1 - (bootable [] 1).bootPtr.active) = 1
    ∧ (bootable [] 1).senseFuses.verifySlot goodFlash (bootable [] 1).bootPtr.active ≠ 1 := by
  rw [(bootable_none 1).1]
  refine ⟨bootable_verifies _ _ (by decide +kernel) (by decide +kernel), ?_⟩
  have e : (bootable [] 1).senseFuses.manifest 0 = readBytes flashFill [] 0x100000 576 := by
    unfold State.manifest State.flashBytes
    rw [sense_flash, bootable_flash]
    refine readBytes_congr _ _ _ _ _ fun b _ h2 => ?_
    rw [get_writeBytes, if_neg]
    have e0 : slotBase 0 = 0x100000 := rfl
    have e1 : slotBase 1 = 0x1900000 := rfl
    omega
  unfold State.verifySlot State.verifyParts
  rw [e]
  decide +kernel

theorem bootable_trial : (bootable (writeBytes flashFill [] 0 trialPtr.bytes) 1).pointer = some (0, trialPtr) := by
  rw [bootable_pointer]
  decide +kernel

/-- A command frame for a node, its CRC right. -/
def nodeSealed (n : Nat) : List Byte :=
  let b := ((cmdBytes 1 5 9 2 []).take 16).set 14 (BitVec.ofNat 8 n)
  b ++ leBytes 4 (crc32c b).toNat

/-! ### Witnesses -/
theorem witness_IdleStepIsACycleOfTheTimeUnit_1 :
    ∃ (w : BitVec 64) (s : State), (s.pending = []) ∧ (s.boot.resetAt = some w) ∧ (s.up) ∧ (s.devState ≠ stSafe) ∧ (0 ≤ (s.quiet.cycle.extNow - w).toInt) :=
  ⟨0, { dealing [] with boot := { BootSt.init with resetAt := some 0 } }, by decide +kernel⟩

theorem witness_StepRunsTheFrontCommand_0 :
    ∃ (c : Instr) (rest : List Instr) (s : State), (s.pending = c :: rest) :=
  ⟨.ping, [.idcode], { State.reset with pending := [.ping, .idcode] }, by decide +kernel⟩

theorem witness_ResetHoldsTheLogic_0 :
    ∃ (c : Instr) (s : State), (actsInReset c = false) ∧ (s.devState = stReset) :=
  ⟨.ping, State.reset, by decide +kernel⟩

theorem witness_HardSafePathSilencesTheScorer_0 :
    ∃ (c : Instr) (s : State), (scorerRow c = true) ∧ (s.sco.hard = true) :=
  ⟨.logWrite, { dealing [] with sco := { ScorerSt.init with hard := true } }, by decide +kernel⟩

theorem witness_MemoriesChangeOnlyByNamedRows_0 :
    ∃ (c : Instr) (s : State), (touchesMemory c = false) :=
  ⟨.ping, dealing [], by decide +kernel⟩

theorem witness_DeviceResetCauses_3 :
    ∃ (w : Word) (s : State), (s.up) ∧ (s.devState ≠ stSafe) ∧ (w.toNat % 65536 = 0x5120) :=
  ⟨0x5120, dealing [], by decide +kernel⟩

theorem witness_DeviceResetCauses_4 :
    ∃ (w : Word) (priv : Bool) (s : State), (s.up) ∧ ((s.devState = stSafe ∨ w.toNat % 65536 ≠ 0x5120 ∨ priv = false)) :=
  ⟨0x5121, true, dealing [], by decide +kernel⟩

theorem witness_DeviceResetCauses_5 :
    ∃ (s : State), (s.inRecovery = true) ∧ (s.boot.recovery.resetDue = true) :=
  ⟨recovering { RecoverySt.init with resetDue := true }, by decide +kernel⟩

theorem witness_DeviceResetCauses_6 :
    ∃ (s : State), (s.up) ∧ (s.sco.hard = true) :=
  ⟨{ dealing [] with sco := { State.reset.sco with hard := true } }, by decide +kernel⟩

theorem witness_DeviceResetCauses_7 :
    ∃ (s : State), (s.scoring) ∧ (s.devState = stSafe) ∧ (s.get .SCO_SAFE_CFG_RESTART_S ≠ 0) ∧ (s.get .SCO_STATUS_AUTO_RESTARTS < 3) ∧ ((s.get .SCO_STATUS_SAFE_CAUSE ≠ 6 ∨ s.getI .SCO_TEMP_TEMP ≤ 400)) :=
  ⟨wit [(.BKR_DEV_STATE_STATE, stSafe), (.SCO_SAFE_CFG_RESTART_S, 5), (.SCO_STATUS_AUTO_RESTARTS, 2), (.SCO_STATUS_SAFE_CAUSE, 2)], by decide +kernel⟩

theorem witness_DeviceResetCauses_8 :
    ∃ (rcv : Bool) (f : FlashIn) (s : State), (s.devState = stReset) ∧ (s.logRoom) :=
  ⟨true, goodFlash, State.reset, by decide +kernel⟩

theorem witness_ResetEndsByLifecycle_0 :
    ∃ (rcv : Bool) (f : FlashIn) (s : State), (s.devState = stReset) ∧ (s.boot.holds = []) ∧ (s.get .BKR_DEV_STATE_CAUSE = 0) :=
  ⟨false, goodFlash, State.reset, by decide +kernel⟩

theorem witness_ResetEndsByLifecycle_0_1 :
    ∃ (rcv : Bool) (f : FlashIn) (s : State), (s.devState = stReset) ∧ (s.boot.holds = []) ∧ (s.get .BKR_DEV_STATE_CAUSE = 0) :=
  ⟨true, goodFlash, { State.reset with plat := { PlatSt.init with fuses := [(0, 1)] } }, by decide +kernel⟩

theorem witness_ResetEndsByLifecycle_0_2 :
    ∃ (rcv : Bool) (f : FlashIn) (s : State), (s.devState = stReset) ∧ (s.boot.holds = []) ∧ (s.get .BKR_DEV_STATE_CAUSE = 0) :=
  ⟨true, goodFlash, { State.reset with plat := { PlatSt.init with fuses := [(0, 7)] } }, by decide +kernel⟩

theorem witness_ResetEndsByLifecycle_3 :
    ∃ (rcv : Bool) (f : FlashIn) (s : State), (s.devState = stReset) ∧ (s.boot.holds = []) ∧ ((lifecycleOf ((s.cell 0).toNat % 8) = lcLab ∨ lifecycleOf ((s.cell 0).toNat % 8) = lcField)) ∧ (((s.boot.cause % 4 ≠ 0 ∧ rcv = false) ∨ (s.boot.cause % 4 = 0 ∧ s.boot.rcvPin = false))) ∧ (s.bootPtr.trial = false) ∧ (s.senseFuses.verifySlot f s.bootPtr.active = 1) :=
  ⟨false, goodFlash, bootable [] 0, by decide +kernel, by decide +kernel, by decide +kernel, by decide +kernel, (bootable_none 0).2, bootable_first⟩

theorem witness_ResetEndsByLifecycle_4 :
    ∃ (rcv : Bool) (f : FlashIn) (c : Nat) (p : Ptr) (s : State), (s.devState = stReset) ∧ (s.boot.holds = []) ∧ ((lifecycleOf ((s.cell 0).toNat % 8) = lcLab ∨ lifecycleOf ((s.cell 0).toNat % 8) = lcField)) ∧ (((s.boot.cause % 4 ≠ 0 ∧ rcv = false) ∨ (s.boot.cause % 4 = 0 ∧ s.boot.rcvPin = false))) ∧ (s.pointer = some (c, p)) ∧ (p.trial = true) ∧ (p.tries < 3) ∧ (s.senseFuses.verifySlot f p.active = 1) ∧ (f.badWrites < 2) :=
  ⟨false, goodFlash, 0, trialPtr, bootable (writeBytes flashFill [] 0 trialPtr.bytes) 1, by decide +kernel, by decide +kernel, by decide +kernel, by decide +kernel, bootable_trial, by decide, by decide, bootable_verifies _ _ (by decide +kernel) (by decide +kernel), by decide⟩

theorem witness_ResetEndsByLifecycle_5 :
    ∃ (rcv : Bool) (f : FlashIn) (s : State), (s.devState = stReset) ∧ (s.boot.holds = []) ∧ ((lifecycleOf ((s.cell 0).toNat % 8) = lcLab ∨ lifecycleOf ((s.cell 0).toNat % 8) = lcField)) ∧ (((s.boot.cause % 4 ≠ 0 ∧ rcv = false) ∨ (s.boot.cause % 4 = 0 ∧ s.boot.rcvPin = false))) ∧ (s.bootPtr.trial = false) ∧ (s.senseFuses.verifySlot f s.bootPtr.active ≠ 1) ∧ (s.senseFuses.verifySlot f (1 - s.bootPtr.active) = 1) :=
  ⟨false, goodFlash, bootable [] 1, by decide +kernel, by decide +kernel, by decide +kernel, by decide +kernel, (bootable_none 1).2, bootable_other.2, bootable_other.1⟩

theorem witness_ResetEndsByLifecycle_6 :
    ∃ (rcv : Bool) (f : FlashIn) (s : State), (s.devState = stReset) ∧ (s.boot.holds = []) ∧ ((lifecycleOf ((s.cell 0).toNat % 8) = lcLab ∨ lifecycleOf ((s.cell 0).toNat % 8) = lcField)) ∧ (((s.boot.cause % 4 ≠ 0 ∧ rcv = false) ∨ (s.boot.cause % 4 = 0 ∧ s.boot.rcvPin = false))) ∧ (s.bootPtr.trial = false) ∧ (s.senseFuses.verifySlot f s.bootPtr.active ≠ 1) ∧ (s.senseFuses.verifySlot f (1 - s.bootPtr.active) ≠ 1) :=
  ⟨false, goodFlash, { State.reset with plat := { PlatSt.init with fuses := [(0, 1)] } }, by decide +kernel⟩

theorem witness_ResetEndsByLifecycle_7 :
    ∃ (rcv : Bool) (f : FlashIn) (c q : Nat) (p : Ptr) (s : State), (s.devState = stReset) ∧ (s.boot.holds = []) ∧ ((lifecycleOf ((s.cell 0).toNat % 8) = lcLab ∨ lifecycleOf ((s.cell 0).toNat % 8) = lcField)) ∧ (((s.boot.cause % 4 ≠ 0 ∧ rcv = false) ∨ (s.boot.cause % 4 = 0 ∧ s.boot.rcvPin = false))) ∧ (s.pointer = some (c, p)) ∧ (p.trial = true) ∧ ((3 ≤ p.tries ∨ s.senseFuses.verifySlot f p.active ≠ 1)) ∧ (p.previous = some q) ∧ (f.badWrites < 2) :=
  ⟨false, goodFlash, 0, 0, { trialPtr with tries := 3 }, { State.reset with plat := { PlatSt.init with fuses := [(0, 1)] }, flash := writeBytes flashFill [] 0 ({ trialPtr with tries := 3 } : Ptr).bytes }, by decide +kernel⟩

theorem witness_PartsAndScorerCheckComplete_0 :
    ∃ (mem : List (Nat × Word)) (f : FlashIn) (w : Word) (s : State), (s.up) ∧ (s.starting = true) ∧ (s.boot.loaded = false) :=
  ⟨[], goodFlash, 77, loading [], by decide +kernel⟩

theorem witness_PartsAndScorerCheckComplete_2 :
    ∃ (f g : FlashIn) (s : State), (s.scoring) ∧ ((s.devState = stLoading ∨ s.devState = stHeld)) ∧ (s.boot.scorerOk = false) ∧ (s.slotErr s.runSlot ≠ 0) ∧ (s.on .BKR_BOOT_TRIAL = false) ∧ (s.boot.holds.contains holdScorerImage = false) ∧ (s.logRoom) :=
  ⟨{ unread := [], badWrites := 0 }, goodFlash, loading [(.BKR_BOOT_ERR_SLOT_A, 1)], by decide +kernel⟩

theorem witness_PartsAndScorerCheckComplete_3 :
    ∃ (f g : FlashIn) (s : State), (s.scoring) ∧ ((s.devState = stLoading ∨ s.devState = stHeld)) ∧ (s.boot.scorerOk = false) ∧ (s.slotErr s.runSlot ≠ 0) ∧ (s.verifySlot f s.runSlot ≠ 1) ∧ (s.on .BKR_BOOT_TRIAL = false) ∧ (s.boot.holds.contains holdScorerImage = false) ∧ (s.logRoom) :=
  ⟨goodFlash, goodFlash, loading [(.BKR_BOOT_ERR_SLOT_A, 6)], by decide +kernel⟩

theorem witness_ImageLoadsOrHolds_1 :
    ∃ (i : ImageIn) (f : FlashIn) (s : State), (s.up) ∧ (s.starting = true) ∧ (s.on .FUS_DBG_STATUS_BANKER_HALTED = false) ∧ (s.boot.loaded = true) ∧ (s.boot.imageOk = false) ∧ (s.boot.holds.contains holdImage = false) ∧ (s.boot.holds.contains holdMigrate = false) ∧ (s.on .BKR_BOOT_TRIAL = false) ∧ (s.on .BKR_BOOT_MIGRATED = false) ∧ (s.imgFormat s.runSlot < s.imageNum 4 2) :=
  ⟨{ image := Image.none_, lk := [], bad := none, safety := [] }, goodFlash, { loading [] with boot := { BootSt.init with loaded := true }, plat := { PlatSt.init with sram := [(0x400004, 1)] }, flash := [(0x100010, 0), (0x100011, 0)] }, by decide +kernel⟩

theorem witness_ImageLoadsOrHolds_2 :
    ∃ (a : BitVec 40) (bytes : List Byte) (fields : List (Nat × Word × Word)) (f : FlashIn) (s : State), (s.up) ∧ (s.firmware = true) ∧ (s.boot.loaded = true) ∧ (s.boot.imageOk = false) ∧ (s.get .MEM_STATUS_STATE = memReady) ∧ (s.imageNum 4 2 < s.imgFormat s.runSlot) ∧ (s.migFloor s.runSlot ≤ s.imageNum 4 2) ∧ (s.boot.holds.contains holdMigrate = false) ∧ (s.get .MEM_STATUS_SC_FAILED = 0) ∧ ((∀ e ∈ fields, e.2.1 = e.2.2)) :=
  ⟨0x8000000000, [1, 2, 3], [], goodFlash, { loading [(.MEM_STATUS_STATE, memReady), (.BKR_STATUS_RUN, 15)] with boot := { BootSt.init with loaded := true }, flash := [(0x100010, 1), (0x100011, 0), (0x100012, 0), (0x100013, 0)] }, by decide +kernel⟩

theorem witness_ImageLoadsOrHolds_3 :
    ∃ (a : BitVec 40) (bytes old : List Byte) (fields : List (Nat × Word × Word)) (f : FlashIn) (s : State), (s.up) ∧ (s.firmware = true) ∧ (s.boot.loaded = true) ∧ (s.boot.imageOk = true) ∧ (s.boot.migrated = some old) ∧ (s.get .MEM_STATUS_STATE = memReady) ∧ (s.imageNum 4 2 < s.imgFormat s.runSlot) ∧ (s.migFloor s.runSlot ≤ s.imageNum 4 2) ∧ (s.boot.holds.contains holdMigrate = false) ∧ (s.get .MEM_STATUS_SC_FAILED = 0) ∧ ((∀ e ∈ fields, e.2.1 = e.2.2)) :=
  ⟨0x8000000000, [1, 2, 3], [4, 5], [], goodFlash, { loading [(.MEM_STATUS_STATE, memReady), (.BKR_STATUS_RUN, 15)] with boot := { BootSt.init with loaded := true, imageOk := true, migrated := some [4, 5] }, flash := [(0x100010, 1), (0x100011, 0), (0x100012, 0), (0x100013, 0)] }, by decide +kernel⟩

theorem witness_ImageLoadsOrHolds_4 :
    ∃ (e : Nat × Word) (es fs : List (Nat × Word)) (s : State), ((∀ g ∈ fs, g.1 ≠ e.1)) ∧ (memAddr e.1 = false) ∧ (contractAddr e.1 = false) ∧ (e.1 / 0x10000 ≠ 0x1001) ∧ ((∀ c : Fin 64, e.1 ≠ Reg.TIM_TRG_CFG c)) :=
  ⟨(Reg.DLR_TICK_NUM, 5), [], [], loading [], by decide +kernel⟩

theorem witness_ImageLoadsOrHolds_5 :
    ∃ (i : ImageIn) (f : FlashIn) (s : State), (s.up) ∧ (s.on .FUS_DBG_STATUS_BANKER_HALTED = true) :=
  ⟨{ image := Image.none_, lk := [], bad := none, safety := [] }, goodFlash, loading [(.FUS_DBG_STATUS_BANKER_HALTED, 1)], by decide +kernel⟩

theorem witness_DealingIsEnteredWhenAllHolds_1 :
    ∃ (s : State), (s.up) ∧ ((s.mayDeal = false ∨ s.layout? s.dealer.layout = none)) :=
  ⟨loading [], by decide +kernel⟩

theorem witness_RouteCheckAndTrialEnd_2 :
    ∃ (f : FlashIn) (s : State), (s.up) ∧ (s.on .BKR_BOOT_TRIAL = true) ∧ (s.dealing = true) ∧ (s.firmware = true) ∧ ((s.showConfirm).get .BKR_TRIAL_CONFIRM_LEFT = 0) ∧ (f.badWrites < 2) :=
  ⟨goodFlash, dealing [(.BKR_STATUS_RUN, 0xF), (.BKR_BOOT_TRIAL, 1)], by decide +kernel⟩

theorem witness_RecoveryDownloadSteps_0 :
    ∃ (s : State), (s.inRecovery = true) :=
  ⟨recovering RecoverySt.init, by decide +kernel⟩

theorem witness_RecoveryDownloadSteps_1 :
    ∃ (s : State), (s.inRecovery = true) ∧ (s.boot.recovery.transport = none) ∧ (s.boot.recovery.resetDue = false) :=
  ⟨recovering RecoverySt.init, by decide +kernel⟩

theorem witness_RecoveryDownloadSteps_2 :
    ∃ (q : TftpReq) (z : Option Nat) (s : State), (s.canDownload = true) ∧ (q.octet = true) ∧ (s.boot.recovery.tftp = false) ∧ (s.boot.recovery.transport = none) :=
  ⟨⟨true, some 600⟩, none, recovering RecoverySt.init, by decide +kernel⟩

theorem witness_RecoveryDownloadSteps_2_1 :
    ∃ (q : TftpReq) (z : Option Nat) (s : State), (s.canDownload = true) ∧ (q.octet = true) ∧ (s.boot.recovery.tftp = false) ∧ (s.boot.recovery.transport = none) :=
  ⟨⟨true, none⟩, none, recovering RecoverySt.init, by decide +kernel⟩

theorem witness_RecoveryDownloadSteps_3 :
    ∃ (q : TftpReq) (z : Option Nat) (s : State), (s.canDownload = true) ∧ (q.octet = true) ∧ ((s.boot.recovery.tftp = true ∨ s.boot.recovery.transport.isSome = true)) :=
  ⟨⟨true, none⟩, none, recovering { RecoverySt.init with tftp := true }, by decide +kernel⟩

theorem witness_RecoveryDownloadSteps_4 :
    ∃ (data : List Byte) (s : State), (s.canDownload = true) ∧ (s.boot.recovery.tftp = true) ∧ (s.boot.recovery.transport ≠ some 1) ∧ (s.get .MEM_STATUS_SC_FAILED = 0) :=
  ⟨[1, 2, 3], recovering { RecoverySt.init with tftp := true }, by decide +kernel⟩

theorem witness_RecoveryDownloadSteps_5 :
    ∃ (block : Nat) (data : List Byte) (crc : BitVec 16) (s : State), (s.canDownload = true) ∧ (s.boot.recovery.transport ≠ some 0) ∧ (data ≠ []) ∧ ((xmodemCrc data ≠ crc ∨ (data.length ≠ 128 ∧ data.length ≠ 1024))) :=
  ⟨1, [1, 2, 3], 0, recovering RecoverySt.init, by decide +kernel⟩

theorem witness_RecoveryDownloadSteps_7 :
    ∃ (f : FlashIn) (bad : Bool) (s : State), (s.inRecovery = true) ∧ (s.boot.recovery.done = true) ∧ (s.boot.recovery.resetDue = false) ∧ (s.packageBad = []) ∧ (s.packageGood s.recoveryTarget = false) :=
  ⟨goodFlash, false, recovering { RecoverySt.init with done := true, transport := some 0 }, by decide +kernel⟩

theorem witness_RecoveryDownloadSteps_9 :
    ∃ (q : TftpReq) (z : Option Nat) (s : State), (s.canDownload = true) ∧ (q.octet = false) :=
  ⟨⟨false, some 512⟩, none, recovering RecoverySt.init, by decide +kernel⟩

theorem witness_RecoveryDownloadSteps_10 :
    ∃ (data : List Byte) (s : State), (s.canDownload = true) ∧ (s.boot.recovery.tftp = true) ∧ (s.boot.recovery.transport ≠ some 1) ∧ (s.get .MEM_STATUS_SC_FAILED ≠ 0) :=
  ⟨[1, 2, 3], { recovering { RecoverySt.init with tftp := true, transport := some 0 } with regs := (wit [(.BKR_DEV_STATE_STATE, 6), (.BKR_STATUS_RUN, 1), (.MEM_STATUS_STATE, memReady), (.MEM_STATUS_SC_FAILED, 1), (.MEM_SC_STATUS_STATE 0, scFailed)]).regs }, by decide +kernel⟩

theorem witness_RecoveryDownloadSteps_11 :
    ∃ (data : List Byte) (crc : BitVec 16) (s : State), (s.canDownload = true) ∧ (s.boot.recovery.transport = some 1) ∧ (xmodemCrc data = crc) ∧ ((data.length = 128 ∨ data.length = 1024)) ∧ (s.get .MEM_STATUS_SC_FAILED ≠ 0) :=
  ⟨List.replicate 128 0, xmodemCrc (List.replicate 128 0), { recovering { RecoverySt.init with transport := some 1 } with regs := (wit [(.BKR_DEV_STATE_STATE, 6), (.BKR_STATUS_RUN, 1), (.MEM_STATUS_STATE, memReady), (.MEM_STATUS_SC_FAILED, 1), (.MEM_SC_STATUS_STATE 0, scFailed)]).regs }, by decide +kernel, by decide +kernel, rfl, .inl List.length_replicate, by decide +kernel⟩

theorem witness_RecoveryDownloadSteps_12 :
    ∃ (f : FlashIn) (bad : Bool) (b : Nat) (bs : List Nat) (s : State), (s.inRecovery = true) ∧ (s.boot.recovery.done = true) ∧ (s.boot.recovery.resetDue = false) ∧ (s.packageBad = b :: bs) :=
  ⟨goodFlash, false, 0x100000000, [], { recovering { RecoverySt.init with done := true, got := 16 } with mem := { MemSt.init with chk := [(0, 1)] } }, by decide +kernel⟩

theorem witness_TickReferenceLossIsHandled_0 :
    ∃ (s : State), (s.dealing = true) ∧ (s.on .DLR_STATUS_TICK_LOCKED = false) ∧ (s.dealer.freeRun = false) ∧ (s.syncMode = false) :=
  ⟨dealing [], by decide +kernel⟩

theorem witness_TickReferenceLossIsHandled_1 :
    ∃ (s : State), (s.dealing = true) ∧ (s.on .DLR_STATUS_TICK_LOCKED = false) ∧ (s.dealer.freeRun = false) ∧ (s.syncMode = true) :=
  ⟨dealing [(.DLR_TICK_CFG_TICK_SRC, 1)], by decide +kernel⟩

theorem witness_TickReferenceLossIsHandled_2 :
    ∃ (s : State), (s.dealing = true) ∧ (s.dealer.started = true) ∧ (s.sco.hard = false) :=
  ⟨{ dealing [] with dealer := { Dealer.init with started := true } }, by decide +kernel⟩

theorem witness_TickReferenceLossIsHandled_3 :
    ∃ (b : BoundaryIn) (s : State), (s.boundaryDue = true) ∧ (s.boot.resetAt = none) :=
  ⟨{ eps := [], verdictFaults := [], alarmLost := [], osc := 16666667 }, { dealing [(.DLR_TICK_CFG_TICK_SRC, 2), (.DLR_TICK_NUM_NUM, 50000000), (.DLR_TICK_DEN_DEN, 3)] with dealer := { Dealer.init with started := true } }, by decide +kernel⟩

theorem witness_TickReferenceLossIsHandled_3_1 :
    ∃ (b : BoundaryIn) (s : State), (s.boundaryDue = true) ∧ (s.boot.resetAt = none) :=
  ⟨{ eps := [], verdictFaults := [], alarmLost := [], osc := 16666667 }, { dealing [(.DLR_TICK_CFG_TICK_SRC, 1), (.DLR_TICK_NUM_NUM, 50000000), (.DLR_TICK_DEN_DEN, 3)] with dealer := { Dealer.init with freeRun := true } }, by decide +kernel⟩

theorem witness_TickReferenceLossIsHandled_4 :
    ∃ (b : BoundaryIn) (s : State), (s.boundaryDue = false) :=
  ⟨{ eps := [], verdictFaults := [], alarmLost := [], osc := 0 }, dealing [], by decide +kernel⟩

theorem witness_TickReferenceLossIsHandled_5 :
    ∃ (b : BoundaryIn) (s : State), (s.boundaryDue = true) ∧ (s.boot.resetAt = none) :=
  ⟨{ eps := [], verdictFaults := [], alarmLost := [], osc := 16666667 }, { dealing [(.DLR_TICK_NUM_NUM, 50000000), (.DLR_TICK_DEN_DEN, 3)] with dealer := { Dealer.init with started := true } }, by decide +kernel⟩

theorem witness_TickReferenceLossIsHandled_6 :
    ∃ (b : BoundaryIn) (w : BitVec 64) (s : State), (s.boundaryDue = true) ∧ (s.boot.resetAt = some w) :=
  ⟨{ eps := [], verdictFaults := [], alarmLost := [], osc := 16666667 }, 0, { dealing [(.DLR_TICK_NUM_NUM, 50000000), (.DLR_TICK_DEN_DEN, 3)] with dealer := { Dealer.init with started := true }, boot := { BootSt.init with resetAt := some 0 } }, by decide +kernel⟩

theorem witness_TickReferenceLossIsHandled_7 :
    ∃ (b : BoundaryIn) (s : State), (s.dealing = true) ∧ (s.boundaryDue = true) ∧ (s.boot.resetAt = none) ∧ (s.on .DLR_STATUS_DEALING = false) ∧ (s.dealer.freeRun = false) ∧ (s.on .DLR_STATUS_TICK_LOCKED = false) ∧ (s.judge.on .DLR_STATUS_TICK_LOCKED = false) :=
  ⟨{ eps := [], verdictFaults := [], alarmLost := [], osc := 16666667 }, { wit [(.BKR_DEV_STATE_STATE, 4), (.DLR_TICK_NUM_NUM, 50000000), (.DLR_TICK_DEN_DEN, 3)] with dealer := { Dealer.init with started := true } }, by decide +kernel⟩

theorem witness_FrontEdgeOfAChange_0 :
    ∃ (w : Word) (s : State), (s.up) ∧ (s.dealing = false) :=
  ⟨5, loading [], by decide +kernel⟩

theorem witness_FrontEdgeOfAChange_1 :
    ∃ (w : Word) (s : State), (s.dealing = true) ∧ ((s.on .CMP_COMMIT_PENDING = true ∨ s.wallArmed = true ∨ 4 ≤ s.dealer.changes.length)) :=
  ⟨5, dealing [(.CMP_COMMIT_PENDING, 1)], by decide +kernel⟩

theorem witness_FrontEdgeOfAChange_2 :
    ∃ (w : Word) (s : State), (s.dealing = true) ∧ (s.on .CMP_COMMIT_PENDING = false) ∧ (s.wallArmed = false) ∧ (s.dealer.changes.length < 4) :=
  ⟨5, dealing [], by decide +kernel⟩

theorem witness_FrontEdgeOfAChange_3 :
    ∃ (c : Change) (sh : Tab Word) (y : Option Nat) (s : State), (s.up) ∧ (s.cmd.runs = []) ∧ (s.nextChange = some c) ∧ (c.kind = .commit sh y) ∧ (s.permitted c (s.admBase.take c) = false) :=
  ⟨{ id := 3, kind := .commit [] (some 9), stage := .waiting, place := [], dueTick := 0 }, [], some 9, { dealing [(.CMP_COMMIT_PENDING, 1)] with dealer := { Dealer.init with changes := [{ id := 3, kind := .commit [] (some 9), stage := .waiting, place := [], dueTick := 0 }] } }, by decide +kernel⟩

theorem witness_FrontEdgeOfAChange_4 :
    ∃ (c : Change) (sh : Tab Word) (y : Option Nat) (s : State), (s.up) ∧ (s.cmd.runs = []) ∧ (s.nextChange = some c) ∧ (c.kind = .commit sh y) ∧ ((s.evaluate s.admBase c).code = stOK) :=
  ⟨{ id := 3, kind := .commit [] none, stage := .waiting, place := [], dueTick := 0 }, [], none, { dealing [(.CMP_COMMIT_PENDING, 1), (.DLR_TICK_NUM_NUM, 50000000), (.DLR_TICK_DEN_DEN, 3), (.DLR_INT_STATUS_ADM_REFUSED, 1)] with image := oneLayout [], dealer := { Dealer.init with changes := [{ id := 3, kind := .commit [] none, stage := .waiting, place := [], dueTick := 0 }] } }, by decide +kernel⟩

theorem witness_FrontEdgeOfAChange_5 :
    ∃ (s : State), (s.up) ∧ (s.cmd.runs = []) ∧ (s.nextChange = none) :=
  ⟨loading [], by decide +kernel⟩

theorem witness_FrontEdgeOfAChange_6 :
    ∃ (s : State), (s.dealing = true) ∧ (s.cmd.runs = []) ∧ (s.dealer.dealPassed = false) :=
  ⟨{ dealing [] with dealer := { Dealer.init with changes := [{ id := 3, kind := .commit [] none, stage := .admitted, place := [], dueTick := 0 }, { id := 4, kind := .commit [] none, stage := .waiting, place := [], dueTick := 0 }] } }, by decide +kernel⟩

theorem witness_FrontEdgeOfAChange_6_1 :
    ∃ (s : State), (s.dealing = true) ∧ (s.cmd.runs = []) ∧ (s.dealer.dealPassed = false) :=
  ⟨{ dealing [(.OUT_COMMIT_STATUS_COMMIT_LATE, 1)] with dealer := { Dealer.init with changes := [{ id := 3, kind := .commit [] none, stage := .released 1, place := [], dueTick := 3 }, { id := 4, kind := .encStart 3, stage := .admitted, place := [], dueTick := 0 }] } }, by decide +kernel⟩

theorem witness_FrontEdgeOfAChange_7 :
    ∃ (s : State), (s.up) ∧ (s.cmd.runs = []) ∧ ((s.dealing = false ∨ s.dealer.dealPassed = true)) :=
  ⟨loading [], by decide +kernel⟩

theorem witness_FrontEdgeOfAChange_8 :
    ∃ (s : State), (s.dealing = true) ∧ (s.dealer.dealPassed = false) :=
  ⟨{ dealing [] with dealer := { Dealer.init with changes := [{ id := 3, kind := .commit [] none, stage := .admitted, place := [], dueTick := 0 }] } }, by decide +kernel⟩

theorem witness_FrontEdgeOfAChange_9 :
    ∃ (c : Change) (sh : Tab Word) (y : Option Nat) (s : State), (s.up) ∧ (s.bankerUp = false) ∧ (s.nextChange = some c) ∧ (c.kind = .commit sh y) ∧ ((s.evaluate s.admBase c).code = stOK) :=
  ⟨{ id := 3, kind := .commit [] none, stage := .waiting, place := [], dueTick := 0 }, [], none, { dealing [(.CMP_COMMIT_PENDING, 1), (.DLR_TICK_NUM_NUM, 50000000), (.DLR_TICK_DEN_DEN, 3)] with image := oneLayout [], dealer := { Dealer.init with changes := [{ id := 3, kind := .commit [] none, stage := .waiting, place := [], dueTick := 0 }] } }, by decide +kernel⟩

theorem witness_TalonBuffersAreClaimedAndFreed_0 :
    ∃ (k c d ns : Nat) (tr : Trick) (s : State), (s.up) ∧ (s.on .DLR_STATUS_DEALING = true) ∧ (s.curDeal[k]? = some tr) ∧ (tr.issue = .offset ns) ∧ (ns ≠ 0) ∧ (s.dealer.issued.contains k = false) ∧ (tr.cls = .capture) ∧ (tr.talon = some c) ∧ (s.lowestFree c = some d) :=
  ⟨0, 2, 0, 1000, capTrick, { dealing [(.CMP_TLN_SIZE_SIZE 2, 1), (.CMP_TLN_COUNT_COUNT 2, 3)] with image := oneLayout [capTrick] }, by decide +kernel⟩

theorem witness_TalonBuffersAreClaimedAndFreed_1 :
    ∃ (k c ns : Nat) (tr : Trick) (s : State), (s.up) ∧ (s.on .DLR_STATUS_DEALING = true) ∧ (s.curDeal[k]? = some tr) ∧ (tr.issue = .offset ns) ∧ (ns ≠ 0) ∧ (s.dealer.issued.contains k = false) ∧ (tr.cls = .capture) ∧ (tr.talon = some c) ∧ (s.lowestFree c = none) :=
  ⟨0, 2, 1000, capTrick, { dealing [(.CMP_TLN_EVT_POOL_EMPTY, 255)] with image := oneLayout [capTrick] }, by decide +kernel⟩

theorem witness_TalonBuffersAreClaimedAndFreed_2 :
    ∃ (d : Fin 8192) (s : State), (s.up) ∧ (((s.desc d).state = .eligible ∨ (s.desc d).state = .retired)) ∧ ((s.desc d).holders = 0) :=
  ⟨5, { dealing [] with descs := [(5, { Desc.init with state := .eligible, src := 3 })] }, by decide +kernel⟩

theorem witness_TalonBuffersAreClaimedAndFreed_3 :
    ∃ (d : Fin 8192) (s : State), (s.up) ∧ (((s.desc d).state = .eligible ∨ (s.desc d).state = .retired)) ∧ ((s.desc d).holders ≠ 0) ∧ (s.logRoom) :=
  ⟨5, { dealing [] with descs := [(5, { Desc.init with state := .retired, holders := 4 })] }, by decide +kernel⟩

theorem witness_TalonBuffersAreClaimedAndFreed_4 :
    ∃ (d : Fin 8192) (s : State), (s.up) ∧ ((s.desc d).state ≠ .eligible) ∧ ((s.desc d).state ≠ .retired) :=
  ⟨5, dealing [], by decide +kernel⟩

theorem witness_TalonBuffersAreClaimedAndFreed_5 :
    ∃ (d : Fin 8192) (o : Fin 16) (n : Tick) (s : State), (s.up) ∧ (Tab.find (s.desc d).since o = some n) ∧ ((s.desc d).holders.getLsbD o = true) ∧ (s.k1 + 8 < (s.tick - n).toNat) ∧ (s.logRoom) :=
  ⟨5, 3, 0, withWords [(Reg.DLR_TICK_COUNT, 5000), (Reg.DLR_TICK_DEN, 3), (Reg.DLR_TICK_NUM, 50000000)] { dealing [] with descs := [(5, { Desc.init with state := .retired, holders := 8, since := [(3, 0)] })] }, by decide +kernel⟩

theorem witness_LinkStateFollowsHpd_0 :
    ∃ (o : Fin 16) (s : State), (s.up) :=
  ⟨5, dealing [(.OUT_STATUS_STATE 5, txVideo), (.OUT_AUX_STAT_BUSY 5, 1), (.OUT_STATUS_HPD 5, 1)], by decide +kernel⟩

theorem witness_LinkStateFollowsHpd_0_1 :
    ∃ (o : Fin 16) (s : State), (s.up) :=
  ⟨15, dealing [], by decide +kernel⟩

theorem witness_LinkStateFollowsHpd_1 :
    ∃ (o : Fin 16) (s : State), (s.up) :=
  ⟨0, dealing [(.OUT_STATUS_STATE 0, txWaitHpd)], by decide +kernel⟩

theorem witness_LinkStateFollowsHpd_1_1 :
    ∃ (o : Fin 16) (s : State), (s.up) :=
  ⟨0, dealing [(.OUT_STATUS_STATE 0, txFailed)], by decide +kernel⟩

theorem witness_LinkStateFollowsHpd_2 :
    ∃ (o : Fin 16) (us : Nat) (st : Option (List Byte)) (s : State), (s.up) ∧ ((us < 250 ∨ 2000 < us)) :=
  ⟨3, 249, some [1, 2], dealing [(.OUT_STATUS_STATE 3, txVideo)], by decide +kernel⟩

theorem witness_LinkStateFollowsHpd_2_1 :
    ∃ (o : Fin 16) (us : Nat) (st : Option (List Byte)) (s : State), (s.up) ∧ ((us < 250 ∨ 2000 < us)) :=
  ⟨3, 2001, some [1, 2], dealing [(.OUT_STATUS_STATE 3, txVideo)], by decide +kernel⟩

theorem witness_LinkStateFollowsHpd_3 :
    ∃ (o : Fin 16) (us : Nat) (s : State), (s.up) ∧ (250 ≤ us) ∧ (us ≤ 2000) :=
  ⟨3, 250, dealing [(.OUT_STATUS_STATE 3, txVideo), (.OUT_LINK_AUX_FAIL 3, 255)], by decide +kernel⟩

theorem witness_LinkStateFollowsHpd_3_1 :
    ∃ (o : Fin 16) (us : Nat) (s : State), (s.up) ∧ (250 ≤ us) ∧ (us ≤ 2000) :=
  ⟨3, 2000, dealing [(.OUT_STATUS_STATE 3, txVideo)], by decide +kernel⟩

theorem witness_LinkStateFollowsHpd_4 :
    ∃ (o : Fin 16) (r : TrainIn) (s : State), (s.up) ∧ (s.get (.OUT_STATUS_STATE o) = txTraining) ∧ (r.ok = []) ∧ (r.ok8 = []) :=
  ⟨3, { sinkMax := ⟨2, 2⟩, enhanced := true, testCrc := true, ok := [], ok8 := [] }, dealing [(.OUT_STATUS_STATE 3, txTraining)], by decide +kernel⟩

theorem witness_LinkStateFollowsHpd_5 :
    ∃ (o : Fin 16) (c : LinkCfg) (r : TrainIn) (s : State), (s.up) ∧ (s.get (.OUT_STATUS_STATE o) = txTraining) ∧ (s.get (.OUT_CTRL_BPC o) = 0) ∧ (((s.outp o).fromCfg = none ∨ s.on (.OUT_STATUS_BPC8 o) = false)) ∧ (s.trainPick o 10 r r.ok (s.outp o).fromCfg = some c) ∧ (s.get (.CMP_LV_OUT_SINK_MODE o) = 0) :=
  ⟨3, ⟨0, 0⟩, { sinkMax := ⟨0, 0⟩, enhanced := true, testCrc := true, ok := [⟨⟨0, 0⟩, 4, 5⟩], ok8 := [] }, dealing [(.OUT_STATUS_STATE 3, txTraining), (.DLR_TICK_NUM_NUM, 50000000), (.DLR_TICK_DEN_DEN, 3), (.OUT_STATUS_BPC8 3, 1), (.CMP_LV_OUT_SINK_ACTIVE 3, 1)], by decide +kernel⟩

theorem witness_LinkStateFollowsHpd_6 :
    ∃ (o : Fin 16) (s : State), (s.up) :=
  ⟨3, dealing [(.OUT_STATUS_STATE 3, txFailed)], by decide +kernel⟩

theorem witness_LinkStateFollowsHpd_6_1 :
    ∃ (o : Fin 16) (s : State), (s.up) :=
  ⟨3, dealing [(.OUT_STATUS_STATE 3, txVideo)], by decide +kernel⟩

theorem witness_LinkStateFollowsHpd_7 :
    ∃ (o : Fin 16) (s : State), (s.up) ∧ ((s.get (.OUT_STATUS_STATE o) = txVideo ∨ s.get (.OUT_STATUS_STATE o) = txBlank)) ∧ ((s.recentRetrains o).length < 8) :=
  ⟨3, dealing [(.OUT_STATUS_STATE 3, txVideo)], by decide +kernel⟩

theorem witness_LinkStateFollowsHpd_8 :
    ∃ (o : Fin 16) (s : State), (s.up) ∧ (s.get (.OUT_STATUS_STATE o) ≠ txVideo) ∧ (s.get (.OUT_STATUS_STATE o) ≠ txBlank) :=
  ⟨3, dealing [(.OUT_STATUS_STATE 3, txFailed)], by decide +kernel⟩

theorem witness_LinkStateFollowsHpd_9 :
    ∃ (o : Fin 16) (c : LinkCfg) (r : TrainIn) (s : State), (s.up) ∧ (s.get (.OUT_STATUS_STATE o) = txTraining) ∧ ((s.get (.OUT_CTRL_BPC o) ≠ 0 ∨ (s.on (.OUT_CTRL_BPC_FALLBACK o) = true ∧ (s.outp o).fromCfg.isSome = true ∧ s.on (.OUT_STATUS_BPC8 o) = true))) ∧ (s.trainPick o 8 r r.ok8 (s.outp o).fromCfg = some c) ∧ (s.get (.CMP_LV_OUT_SINK_MODE o) = 0) :=
  ⟨3, ⟨0, 0⟩, { sinkMax := ⟨0, 1⟩, enhanced := true, testCrc := true, ok := [⟨⟨0, 0⟩, 0, 0⟩], ok8 := [⟨⟨0, 0⟩, 4, 4⟩, ⟨⟨0, 1⟩, 6, 1⟩] }, { dealing [(.OUT_STATUS_STATE 3, txTraining), (.OUT_CTRL_BPC_FALLBACK 3, 1), (.DLR_TICK_NUM_NUM, 50000000), (.DLR_TICK_DEN_DEN, 3), (.OUT_STATUS_BPC8 3, 1)] with outs := [(3, { OutSt.init with fromCfg := some ⟨0, 0⟩ })] }, by decide +kernel⟩

theorem witness_LinkStateFollowsHpd_9_1 :
    ∃ (o : Fin 16) (c : LinkCfg) (r : TrainIn) (s : State), (s.up) ∧ (s.get (.OUT_STATUS_STATE o) = txTraining) ∧ ((s.get (.OUT_CTRL_BPC o) ≠ 0 ∨ (s.on (.OUT_CTRL_BPC_FALLBACK o) = true ∧ (s.outp o).fromCfg.isSome = true ∧ s.on (.OUT_STATUS_BPC8 o) = true))) ∧ (s.trainPick o 8 r r.ok8 (s.outp o).fromCfg = some c) ∧ (s.get (.CMP_LV_OUT_SINK_MODE o) = 0) :=
  ⟨3, ⟨0, 1⟩, { sinkMax := ⟨0, 1⟩, enhanced := true, testCrc := true, ok := [], ok8 := [⟨⟨0, 0⟩, 0, 0⟩, ⟨⟨0, 1⟩, 0, 0⟩] }, dealing [(.OUT_STATUS_STATE 3, txTraining), (.OUT_CTRL_BPC 3, 1), (.OUT_CTRL_RATE_MAX 3, 3), (.DLR_TICK_NUM_NUM, 50000000), (.DLR_TICK_DEN_DEN, 3)], by decide +kernel⟩

theorem witness_LinkStateFollowsHpd_10 :
    ∃ (o : Fin 16) (s : State), (s.up) ∧ ((s.get (.OUT_STATUS_STATE o) = txVideo ∨ s.get (.OUT_STATUS_STATE o) = txBlank)) ∧ (8 ≤ (s.recentRetrains o).length) :=
  ⟨3, { dealing [(.OUT_STATUS_STATE 3, txVideo), (.DLR_TICK_NUM_NUM, 50000000), (.DLR_TICK_DEN_DEN, 3)] with outs := [(3, { OutSt.init with retrains := List.replicate 8 0 })] }, by decide +kernel⟩

theorem witness_LinkStateFollowsHpd_12 :
    ∃ (o : Fin 16) (us : Nat) (bs : List Byte) (s : State), (s.up) ∧ (250 ≤ us) ∧ (us ≤ 2000) ∧ ((s.get (.OUT_STATUS_STATE o) = txVideo ∨ s.get (.OUT_STATUS_STATE o) = txBlank)) ∧ (lockLost (s.get (.OUT_STATUS_LANES o)) bs = true) ∧ ((s.recentRetrains o).length < 8) :=
  ⟨3, 500, [1, 2, 0x77, 0x07, 1, 0], dealing [(.OUT_STATUS_STATE 3, txVideo), (.OUT_STATUS_LANES 3, 2), (.DLR_TICK_NUM_NUM, 50000000), (.DLR_TICK_DEN_DEN, 3)], by decide +kernel⟩

theorem witness_LinkStateFollowsHpd_13 :
    ∃ (o : Fin 16) (us : Nat) (bs : List Byte) (s : State), (s.up) ∧ (250 ≤ us) ∧ (us ≤ 2000) ∧ ((s.get (.OUT_STATUS_STATE o) = txVideo ∨ s.get (.OUT_STATUS_STATE o) = txBlank)) ∧ (lockLost (s.get (.OUT_STATUS_LANES o)) bs = true) ∧ (8 ≤ (s.recentRetrains o).length) :=
  ⟨3, 500, [1, 2, 0x77, 0x07, 1, 0], { dealing [(.OUT_STATUS_STATE 3, txVideo), (.OUT_STATUS_LANES 3, 2), (.DLR_TICK_NUM_NUM, 50000000), (.DLR_TICK_DEN_DEN, 3)] with outs := [(3, { OutSt.init with retrains := List.replicate 8 0 })] }, by decide +kernel⟩

theorem witness_LinkStateFollowsHpd_14 :
    ∃ (o : Fin 16) (us : Nat) (bs : List Byte) (s : State), (s.up) ∧ (250 ≤ us) ∧ (us ≤ 2000) ∧ ((s.get (.OUT_STATUS_STATE o) = txVideo ∨ s.get (.OUT_STATUS_STATE o) = txBlank)) ∧ (lockLost (s.get (.OUT_STATUS_LANES o)) bs = false) :=
  ⟨3, 500, [1, 2, 0x77, 0x77, 1, 0], dealing [(.OUT_STATUS_STATE 3, txBlank), (.OUT_STATUS_LANES 3, 2)], by decide +kernel⟩

theorem witness_AuxTransactionsRunInOrder_0 :
    ∃ (o : Fin 16) (s : State), (s.up) ∧ (s.on (.OUT_AUX_STAT_BUSY o) = true) :=
  ⟨4, dealing [(.OUT_AUX_STAT_BUSY 4, 1)], by decide +kernel⟩

theorem witness_AuxTransactionsRunInOrder_1 :
    ∃ (o : Fin 16) (s : State), (s.up) ∧ (s.on (.OUT_AUX_STAT_BUSY o) = false) ∧ ((auxProtected (s.get (.OUT_AUX_CTRL_CMD o)) (s.get (.OUT_AUX_CTRL_ADDR o)) (s.get (.OUT_AUX_CTRL_LEN o) + 1) = true ∨ s.get (.OUT_STATUS_STATE o) = txIdle ∨ s.get (.OUT_STATUS_STATE o) = txWaitHpd)) :=
  ⟨4, dealing [(.OUT_AUX_CTRL_CMD 4, 1), (.OUT_AUX_CTRL_ADDR 4, 0x100), (.OUT_STATUS_STATE 4, txVideo)], by decide +kernel⟩

theorem witness_AuxTransactionsRunInOrder_1_1 :
    ∃ (o : Fin 16) (s : State), (s.up) ∧ (s.on (.OUT_AUX_STAT_BUSY o) = false) ∧ ((auxProtected (s.get (.OUT_AUX_CTRL_CMD o)) (s.get (.OUT_AUX_CTRL_ADDR o)) (s.get (.OUT_AUX_CTRL_LEN o) + 1) = true ∨ s.get (.OUT_STATUS_STATE o) = txIdle ∨ s.get (.OUT_STATUS_STATE o) = txWaitHpd)) :=
  ⟨4, dealing [(.OUT_AUX_CTRL_CMD 4, 1), (.OUT_AUX_CTRL_ADDR 4, 0xFF), (.OUT_AUX_CTRL_LEN 4, 1), (.OUT_STATUS_STATE 4, txVideo)], by decide +kernel⟩

theorem witness_AuxTransactionsRunInOrder_1_2 :
    ∃ (o : Fin 16) (s : State), (s.up) ∧ (s.on (.OUT_AUX_STAT_BUSY o) = false) ∧ ((auxProtected (s.get (.OUT_AUX_CTRL_CMD o)) (s.get (.OUT_AUX_CTRL_ADDR o)) (s.get (.OUT_AUX_CTRL_LEN o) + 1) = true ∨ s.get (.OUT_STATUS_STATE o) = txIdle ∨ s.get (.OUT_STATUS_STATE o) = txWaitHpd)) :=
  ⟨4, dealing [(.OUT_STATUS_STATE 4, txWaitHpd)], by decide +kernel⟩

theorem witness_AuxTransactionsRunInOrder_2 :
    ∃ (o : Fin 16) (s : State), (s.up) ∧ (s.on (.OUT_AUX_STAT_BUSY o) = false) ∧ (auxProtected (s.get (.OUT_AUX_CTRL_CMD o)) (s.get (.OUT_AUX_CTRL_ADDR o)) (s.get (.OUT_AUX_CTRL_LEN o) + 1) = false) ∧ (s.get (.OUT_STATUS_STATE o) ≠ txIdle) ∧ (s.get (.OUT_STATUS_STATE o) ≠ txWaitHpd) :=
  ⟨4, dealing [(.OUT_AUX_CTRL_CMD 4, 1), (.OUT_AUX_CTRL_ADDR 4, 0xFF), (.OUT_AUX_CTRL_LEN 4, 0), (.OUT_STATUS_STATE 4, txVideo)], by decide +kernel⟩

theorem witness_AuxTransactionsRunInOrder_3 :
    ∃ (o : Fin 16) (bs : List Byte) (r : AuxReq) (rs : List AuxReq) (s : State), (s.up) ∧ ((s.outp o).aux = r :: rs) ∧ ((s.outp o).auxHeld = false) ∧ (r.kind = 0) ∧ (r.cmd % 2 = 1) :=
  ⟨4, [], ⟨0, 1, 0x300, 1, [1], 1, 2⟩, [], { dealing [(.OUT_AUX_STAT_BUSY 4, 1)] with outs := [(4, { OutSt.init with aux := [⟨0, 1, 0x300, 1, [1], 1, 2⟩] })] }, by decide +kernel⟩

theorem witness_AuxTransactionsRunInOrder_4 :
    ∃ (o : Fin 16) (r : AuxReq) (rs : List AuxReq) (s : State), (s.up) ∧ ((s.outp o).aux = r :: rs) ∧ ((s.outp o).auxHeld = false) ∧ (r.defers < 7) :=
  ⟨4, ⟨0, 1, 0x300, 1, [1], 1, 6⟩, [], { dealing [(.OUT_AUX_STAT_BUSY 4, 1)] with outs := [(4, { OutSt.init with aux := [⟨0, 1, 0x300, 1, [1], 1, 6⟩] })] }, by decide +kernel⟩

theorem witness_AuxTransactionsRunInOrder_5 :
    ∃ (o : Fin 16) (r : AuxReq) (rs : List AuxReq) (s : State), (s.up) ∧ ((s.outp o).aux = r :: rs) ∧ ((s.outp o).auxHeld = false) ∧ (r.retries < 2) :=
  ⟨4, ⟨0, 1, 0x300, 1, [1], 1, 6⟩, [], { dealing [(.OUT_AUX_STAT_BUSY 4, 1)] with outs := [(4, { OutSt.init with aux := [⟨0, 1, 0x300, 1, [1], 1, 6⟩] })] }, by decide +kernel⟩

theorem witness_AuxTransactionsRunInOrder_6 :
    ∃ (o : Fin 16) (r : AuxReq) (rs : List AuxReq) (s : State), (s.up) ∧ ((s.outp o).aux = r :: rs) ∧ ((s.outp o).auxHeld = false) ∧ (2 ≤ r.retries) ∧ (r.kind = 0) :=
  ⟨4, ⟨0, 1, 0x300, 1, [1], 2, 6⟩, [], { dealing [(.OUT_AUX_STAT_BUSY 4, 1)] with outs := [(4, { OutSt.init with aux := [⟨0, 1, 0x300, 1, [1], 2, 6⟩] })] }, by decide +kernel⟩

theorem witness_AuxTransactionsRunInOrder_7 :
    ∃ (o : Fin 16) (a b : SinkReading) (s : State), (s.scoring) ∧ (s.on (.CMP_LV_OUT_SINK_ACTIVE o) = true) ∧ ((s.outp o).sinkPrev = some b) ∧ (a.count ≠ b.count) ∧ (a.crcG ≠ b.crcG) :=
  ⟨4, { crcR := 1, crcG := 2, crcB := 3, count := 4 }, { crcR := 1, crcG := 1, crcB := 3, count := 3 }, { dealing [(.CMP_LV_OUT_SINK_ACTIVE 4, 1), (.CMP_LV_OUT_MISS_RUN 4, 2)] with outs := [(4, { OutSt.init with sinkPrev := some { crcR := 1, crcG := 1, crcB := 3, count := 3 } })] }, by decide +kernel⟩

theorem witness_AuxTransactionsRunInOrder_8 :
    ∃ (o : Fin 16) (s : State), (s.scoring) ∧ (s.on (.CMP_LV_OUT_SINK_ACTIVE o) = true) ∧ (satAdd (Fld.CMP_LV_OUT_MISS_RUN o).wid (s.get (.CMP_LV_OUT_MISS_RUN o)) 1 < s.get (.CMP_LV_OUT_MISS_LIMIT o)) :=
  ⟨4, dealing [(.CMP_LV_OUT_SINK_ACTIVE 4, 1), (.CMP_LV_OUT_MISS_RUN 4, 1), (.CMP_LV_OUT_MISS_LIMIT 4, 3)], by decide +kernel⟩

theorem witness_LinesAreCheckedBeforeTheyAreShown_0 :
    ∃ (o : Fin 16) (y : Nat) (fa fb : Flips) (s : State), (s.up) ∧ ((s.outp o).running = true) ∧ (y < s.vAct o) ∧ ((s.outp o).fifo.length < 4) ∧ ((s.outp o).fifoAt y = none) ∧ (s.fetchLine o y = (s, false)) ∧ (lineSig (disturb fa (s.composeLine o y)) = lineSig (disturb fb (s.composeLine o y))) ∧ ((∀ l ∈ s.crossing o y, (s.tile l).blackFrom = none)) :=
  ⟨4, 0, [], [], { dealing [(.OUT_VTIM0_ACT 4, 600), (.OUT_HTIM0_ACT 4, 1)] with outs := [(4, { OutSt.init with running := true })] }, by decide +kernel⟩

theorem witness_LinesAreCheckedBeforeTheyAreShown_1 :
    ∃ (o : Fin 16) (y : Nat) (fa fb : Flips) (s : State), (s.up) ∧ ((s.outp o).running = true) ∧ (y < s.vAct o) ∧ ((s.outp o).fifo.length < 4) ∧ ((s.outp o).fifoAt y = none) ∧ (s.fetchLine o y = (s, false)) ∧ (lineSig (disturb fa (s.composeLine o y)) ≠ lineSig (disturb fb (s.composeLine o y))) ∧ (3 ≤ s.get (.CMP_OC_STATUS_RCREDIT o)) :=
  ⟨4, 0, [(0, 5)], [], { dealing [(.OUT_VTIM0_ACT 4, 600), (.OUT_HTIM0_ACT 4, 1), (.CMP_OC_STATUS_RCREDIT 4, 3)] with outs := [(4, { OutSt.init with running := true })] }, by decide +kernel⟩

theorem witness_LinesAreCheckedBeforeTheyAreShown_2 :
    ∃ (o : Fin 16) (y : Nat) (fa fb : Flips) (s : State), (s.up) ∧ ((s.outp o).running = true) ∧ (y < s.vAct o) ∧ ((s.outp o).fifo.length < 4) ∧ ((s.outp o).fifoAt y = none) ∧ (s.fetchLine o y = (s, false)) ∧ (lineSig (disturb fa (s.composeLine o y)) ≠ lineSig (disturb fb (s.composeLine o y))) ∧ (s.get (.CMP_OC_STATUS_RCREDIT o) < 3) :=
  ⟨4, 7, [(0, 5)], [], { dealing [(.OUT_VTIM0_ACT 4, 600), (.OUT_HTIM0_ACT 4, 1), (.CMP_OC_STATUS_RCREDIT 4, 2)] with outs := [(4, { OutSt.init with running := true })] }, by decide +kernel⟩

theorem witness_LinesAreCheckedBeforeTheyAreShown_3 :
    ∃ (o : Fin 16) (y : Nat) (fa fb : Flips) (s : State), (s.up) ∧ ((s.outp o).fifoAt y = some .recompute) ∧ (s.fetchLine o y = (s, false)) ∧ (lineSig (disturb fa (s.composeLine o y)) ≠ lineSig (disturb fb (s.composeLine o y))) :=
  ⟨4, 7, [(0, 5)], [], { dealing [(.OUT_VTIM0_ACT 4, 600), (.OUT_HTIM0_ACT 4, 1)] with outs := [(4, { OutSt.init with fifo := [⟨7, .recompute⟩] })] }, by decide +kernel⟩

theorem witness_LinesAreCheckedBeforeTheyAreShown_4 :
    ∃ (o : Fin 16) (y : Nat) (fa fb : Flips) (s : State), (s.up) ∧ ((s.outp o).fifoAt y = some .recompute) ∧ (s.fetchLine o y = (s, false)) ∧ (lineSig (disturb fa (s.composeLine o y)) = lineSig (disturb fb (s.composeLine o y))) ∧ ((∀ l ∈ s.crossing o y, (s.tile l).blackFrom = none)) :=
  ⟨4, 7, [(0, 5)], [(0, 5)], { dealing [(.OUT_VTIM0_ACT 4, 600), (.OUT_HTIM0_ACT 4, 1)] with outs := [(4, { OutSt.init with fifo := [⟨7, .recompute⟩] })] }, by decide +kernel⟩

theorem witness_LinesAreCheckedBeforeTheyAreShown_5 :
    ∃ (o : Fin 16) (w : Word) (s : State), (s.up) ∧ (s.cmd.runs = []) ∧ ((s.outp o).running = true) ∧ ((s.outp o).active = false) :=
  ⟨4, 1234, { dealing [(.OUT_STATUS_STATE 4, txBlank), (.OUT_CTRL_EN 4, 1)] with outs := [(4, { OutSt.init with running := true, prevVideo := true, flipDue := true })] }, by decide +kernel⟩

theorem witness_LinesAreCheckedBeforeTheyAreShown_6 :
    ∃ (o : Fin 16) (i : ScanIn) (s : State), (s.up) ∧ ((s.outp o).running = true) ∧ ((s.outp o).active = true) ∧ (i.line < s.vAct o) :=
  ⟨4, { line := 7, t := 99, flipA := [(0, 2)], flipB := [], flipF := [], lossA := 0, lossB := 0, lines := [] }, { dealing [(.OUT_VTIM0_ACT 4, 600), (.OUT_HTIM0_ACT 4, 1), (.OUT_STATUS_STATE 4, txVideo)] with outs := [(4, { OutSt.init with running := true, active := true, sending := true, fifo := [⟨6, .recompute⟩, ⟨7, .masked 1⟩, ⟨8, .recompute⟩] })] }, by decide +kernel⟩

theorem witness_LinesAreCheckedBeforeTheyAreShown_7 :
    ∃ (o : Fin 16) (s : State), (s.up) ∧ ((s.outp o).active = true) ∧ (s.copyBuf o = none) :=
  ⟨4, { dealing [] with outs := [(4, { OutSt.init with running := true, active := true, sending := true, allSent := true, linesMasked := 3, fifo := [⟨6, .recompute⟩] })] }, by decide +kernel⟩

theorem witness_LinesAreCheckedBeforeTheyAreShown_8 :
    ∃ (o : Fin 16) (d : Nat) (s : State), (s.up) ∧ ((s.outp o).active = true) ∧ (s.copyBuf o = some d) :=
  ⟨4, 5, { dealing [] with outs := [(4, { OutSt.init with running := true, active := true, allSent := true })], dealer := { Dealer.init with tricks := [{ capRun with trick := { capTrick with cls := .composer, job := 4, index := 4 } }] } }, by decide +kernel⟩

theorem witness_LinesAreCheckedBeforeTheyAreShown_9 :
    ∃ (o : Fin 16) (y : Nat) (fa fb : Flips) (s : State), (s.up) ∧ ((s.outp o).running = true) ∧ (y < s.vAct o) ∧ ((s.outp o).fifo.length < 4) ∧ ((s.outp o).fifoAt y = none) ∧ ((s.fetchLine o y).2 = true) :=
  ⟨4, 0, [], [], { dealing [(.OUT_VTIM0_ACT 4, 600), (.OUT_HTIM0_ACT 4, 1), (.CMP_GL_CTRL_EN 4 1, 1), (.CMP_GL_SIZE_X 4 1, 8), (.CMP_GL_SIZE_Y 4 1, 8), (.MEM_STATUS_SC_FAILED, 1), (.MEM_SC_STATUS_STATE 0, scFailed), (.CMP_GL_ADDR_HI_ADDR_HI 4 1, 1)] with outs := [(4, { OutSt.init with running := true })] }, by decide +kernel⟩

theorem witness_LinesAreCheckedBeforeTheyAreShown_10 :
    ∃ (o : Fin 16) (y : Nat) (fa fb : Flips) (s : State), (s.up) ∧ (((s.outp o).running = false ∨ s.vAct o ≤ y ∨ 4 ≤ (s.outp o).fifo.length ∨ (s.outp o).fifoAt y ≠ none)) :=
  ⟨4, 0, [], [], dealing [], by decide +kernel⟩

theorem witness_LinesAreCheckedBeforeTheyAreShown_11 :
    ∃ (o : Fin 16) (y : Nat) (fa fb : Flips) (s : State), (s.up) ∧ ((s.outp o).fifoAt y ≠ some .recompute) :=
  ⟨4, 0, [], [], dealing [], by decide +kernel⟩

theorem witness_LinesAreCheckedBeforeTheyAreShown_12 :
    ∃ (o : Fin 16) (y : Nat) (fa fb : Flips) (s : State), (s.up) ∧ ((s.outp o).fifoAt y = some .recompute) ∧ ((s.fetchLine o y).2 = true) :=
  ⟨4, 0, [], [], { dealing [(.OUT_VTIM0_ACT 4, 600), (.OUT_HTIM0_ACT 4, 1), (.CMP_GL_CTRL_EN 4 1, 1), (.CMP_GL_SIZE_X 4 1, 8), (.CMP_GL_SIZE_Y 4 1, 8), (.MEM_STATUS_SC_FAILED, 1), (.MEM_SC_STATUS_STATE 0, scFailed), (.CMP_GL_ADDR_HI_ADDR_HI 4 1, 1)] with outs := [(4, { OutSt.init with running := true, fifo := [⟨0, .recompute⟩] })] }, by decide +kernel⟩

theorem witness_LinesAreCheckedBeforeTheyAreShown_13 :
    ∃ (o : Fin 16) (i : ScanIn) (s : State), (s.up) ∧ ((s.outp o).running = true) ∧ ((s.outp o).active = true) ∧ (i.line < s.vAct o) ∧ (s.padOn o = false) :=
  ⟨4, ⟨0, 5, [], [], [], 0, 0, []⟩, { dealing [(.OUT_VTIM0_ACT 4, 600), (.SER_QCTRL_LOOP 4, 1)] with outs := [(4, { OutSt.init with running := true, active := true })] }, by decide +kernel⟩

theorem witness_ScorerJudgesFramesAndDelivers_0 :
    ∃ (o : Fin 16) (s : State), (s.scoring) ∧ ((s.outp o).checkPending = true) :=
  ⟨4, { dealing [] with outs := [(4, { OutSt.init with checkPending := true, sigAct := 3, sigExp := 4, misRun := 1 })] }, by decide +kernel⟩

theorem witness_ScorerJudgesFramesAndDelivers_0_1 :
    ∃ (o : Fin 16) (s : State), (s.scoring) ∧ ((s.outp o).checkPending = true) :=
  ⟨4, { dealing [] with outs := [(4, { OutSt.init with checkPending := true, sigAct := 3, sigExp := 3, misRun := 1, sigHist := [3, 3] })] }, by decide +kernel⟩

theorem witness_ScorerJudgesFramesAndDelivers_1 :
    ∃ (o : Fin 16) (s : State), (s.scoring) ∧ ((s.outp o).checkPending = false) :=
  ⟨4, dealing [], by decide +kernel⟩

theorem witness_ScorerJudgesFramesAndDelivers_2 :
    ∃ (s : State), (s.scoring) :=
  ⟨dealing [(.CMP_VL_CTRL_EN 3, 1), (.CMP_VL_SRC_SRC_ID 3, 2), (.CMP_VL_SRC_NO_SRC 3, 0)], by decide +kernel⟩

theorem witness_ScorerJudgesFramesAndDelivers_3 :
    ∃ (s : State), (s.scoring) :=
  ⟨dealing [], by decide +kernel⟩

theorem witness_ScorerJudgesFramesAndDelivers_5 :
    ∃ (o : Fin 16) (eps : Int) (s : State), (s.up) ∧ (s.lineLocked o = false) :=
  ⟨4, 40, dealing [], by decide +kernel⟩

theorem witness_ScorerJudgesFramesAndDelivers_6 :
    ∃ (w : Word) (n : Nat) (f : Bool) (s : State), (s.up) ∧ ((s.syncMode = false ∨ f ≠ s.on .OUT_REF_CFG_EDGE)) :=
  ⟨40, 40, false, dealing [], by decide +kernel⟩

theorem witness_ScorerJudgesFramesAndDelivers_7 :
    ∃ (w : Word) (n : Nat) (f : Bool) (s : State), (s.up) ∧ (s.syncMode = true) ∧ (f = s.on .OUT_REF_CFG_EDGE) ∧ (n < s.get .OUT_REF_CFG_MIN_WIDTH * 10) ∧ ((s.dealer.judged = true ∨ s.dealer.started = false)) :=
  ⟨40, 9, false, dealing [(.DLR_TICK_CFG_TICK_SRC, 1), (.OUT_REF_CFG_MIN_WIDTH, 1), (.OUT_REF_CFG_EDGE, 0), (.OUT_REF_CNT_GLITCH, 3)], by decide +kernel⟩

theorem witness_ScorerJudgesFramesAndDelivers_8 :
    ∃ (w : Word) (n : Nat) (f : Bool) (s : State), (s.up) ∧ (s.syncMode = true) ∧ (f = s.on .OUT_REF_CFG_EDGE) ∧ (s.get .OUT_REF_CFG_MIN_WIDTH * 10 ≤ n) ∧ (s.refState ≠ refAcquire) ∧ (s.refState ≠ refHoldover) ∧ ((s.dealer.judged = true ∨ s.dealer.started = false)) :=
  ⟨40, 10, false, dealing [(.DLR_TICK_CFG_TICK_SRC, 1), (.OUT_REF_CFG_MIN_WIDTH, 1), (.OUT_REF_CFG_EDGE, 0), (.DLR_TICK_NUM_NUM, 50000000), (.DLR_TICK_DEN_DEN, 3)], by decide +kernel⟩

theorem witness_ScorerJudgesFramesAndDelivers_9 :
    ∃ (s : State), (s.up) ∧ (s.on .OUT_REF_STATUS_REF_RATE = false) :=
  ⟨dealing [], by decide +kernel⟩

theorem witness_ScorerJudgesFramesAndDelivers_10 :
    ∃ (m : Rat) (s : State), (s.up) ∧ (s.on .OUT_REF_STATUS_REF_RATE = true) ∧ (s.measured = some m) ∧ (absQ (m - s.pTick) ≤ s.pTick * 3 / 1000) :=
  ⟨16666667, { dealing [(.OUT_REF_STATUS_REF_RATE, 1), (.DLR_TICK_NUM_NUM, 50000000), (.DLR_TICK_DEN_DEN, 3)] with dealer := { Dealer.init with pulses := [50000001, 33333334, 16666667, 0] }, time := { TimeSt.init with now := 50000002 } }, by decide +kernel⟩

theorem witness_ScorerJudgesFramesAndDelivers_11 :
    ∃ (w : Word) (n : Nat) (f : Bool) (m : Rat) (s : State), (s.up) ∧ (s.syncMode = true) ∧ (f = s.on .OUT_REF_CFG_EDGE) ∧ (s.get .OUT_REF_CFG_MIN_WIDTH * 10 ≤ n) ∧ ((s.refState = refAcquire ∨ s.refState = refHoldover)) ∧ ((s.dealer.judged = true ∨ s.dealer.started = false)) ∧ (((s.at_ w).updDealer fun d => { d with pulses := (w :: d.pulses).take 4 }).measured = some m) ∧ (s.pCentre / 1000 < absQ (m - s.pCentre)) :=
  ⟨51000000, 10, false, 17000000, { dealing [(.DLR_TICK_CFG_TICK_SRC, 1), (.OUT_REF_STATUS_STATE, refAcquire), (.OUT_REF_CFG_MIN_WIDTH, 1), (.OUT_REF_CFG_EDGE, 0), (.DLR_TICK_NUM_NUM, 50000000), (.DLR_TICK_DEN_DEN, 3)] with dealer := { Dealer.init with pulses := [34000000, 17000000, 0] } }, by decide +kernel⟩

theorem witness_ScorerJudgesFramesAndDelivers_12 :
    ∃ (w : Word) (n : Nat) (f : Bool) (e : Int) (s : State), (s.up) ∧ (s.syncMode = true) ∧ (f = s.on .OUT_REF_CFG_EDGE) ∧ (s.get .OUT_REF_CFG_MIN_WIDTH * 10 ≤ n) ∧ (s.refState = refTrack) ∧ (s.dealer.started = true) ∧ (s.dealer.judged = false) ∧ (wordDiff w s.dealer.edge ≤ 2000) ∧ ((s.updDealer fun d => { d with pulses := (w :: d.pulses).take 4 }).nearestErr = some e) ∧ (e.natAbs ≤ 2000) :=
  ⟨50000900, 10, false, 900, { dealing [(.DLR_TICK_CFG_TICK_SRC, 1), (.OUT_REF_STATUS_STATE, refTrack), (.OUT_REF_CFG_MIN_WIDTH, 1), (.OUT_REF_CFG_EDGE, 0), (.DLR_TICK_NUM_NUM, 50000000), (.DLR_TICK_DEN_DEN, 3)] with dealer := { Dealer.init with pulses := [33334000, 16667000], edge := 50000000, started := true } }, by decide +kernel⟩

theorem witness_ScorerJudgesFramesAndDelivers_13 :
    ∃ (s : State), (s.up) ∧ (s.on .OUT_REF_STATUS_REF_RATE = true) ∧ ((s.measured = none ∨ ∃ m, s.measured = some m ∧ s.pTick * 3 / 1000 < absQ (m - s.pTick))) :=
  ⟨dealing [(.OUT_REF_STATUS_REF_RATE, 1)], by decide +kernel⟩

theorem witness_ReceiverFollowsItsLink_0 :
    ∃ (i : Fin 16) (n : Nat) (g : Bool) (k : LinkCfg) (s : State), (s.up) ∧ (s.rxState i ≠ rxOff) ∧ (s.rxState i ≠ rxVideo) ∧ (n ≠ 0) :=
  ⟨3, 2, true, ⟨1, 1⟩, dealing [(.CAP_STATUS_STATE 3, rxLinked), (.CAP_STATUS_PRESENT 3, 1)], by decide +kernel⟩

theorem witness_ReceiverFollowsItsLink_0_1 :
    ∃ (i : Fin 16) (n : Nat) (g : Bool) (k : LinkCfg) (s : State), (s.up) ∧ (s.rxState i ≠ rxOff) ∧ (s.rxState i ≠ rxVideo) ∧ (n ≠ 0) :=
  ⟨3, 2, true, ⟨1, 1⟩, dealing [(.CAP_STATUS_STATE 3, rxTraining), (.CAP_STATUS_PRESENT 3, 1)], by decide +kernel⟩

theorem witness_ReceiverFollowsItsLink_1 :
    ∃ (i : Fin 16) (k : LinkCfg) (s : State), (s.up) ∧ (s.rxState i = rxTraining) :=
  ⟨3, ⟨1, 2⟩, dealing [(.CAP_STATUS_STATE 3, rxTraining)], by decide +kernel⟩

theorem witness_ReceiverFollowsItsLink_2 :
    ∃ (i : Fin 16) (k : LinkCfg) (s : State), (s.up) ∧ (s.rxState i = rxTraining) :=
  ⟨3, ⟨1, 2⟩, dealing [(.CAP_STATUS_STATE 3, rxTraining)], by decide +kernel⟩

theorem witness_ReceiverFollowsItsLink_3 :
    ∃ (i : Fin 16) (lanes : Nat) (s : State), (s.up) ∧ (s.rxState i = rxLinked) :=
  ⟨3, 5, dealing [(.CAP_STATUS_STATE 3, rxLinked)], by decide +kernel⟩

theorem witness_ReceiverFollowsItsLink_4 :
    ∃ (i : Fin 16) (s : State), (s.up) ∧ (s.rxState i = rxLost) :=
  ⟨3, dealing [(.CAP_STATUS_STATE 3, rxLost)], by decide +kernel⟩

theorem witness_ReceiverFollowsItsLink_5 :
    ∃ (i : Fin 16) (m q : MsaIn) (s : State), (s.up) ∧ (s.rxState i = rxLinked) ∧ ((s.cap i).lastMsa = some q) ∧ (msaKey q = msaKey m) ∧ (1 ≤ (s.cap i).msaRun) ∧ (s.msaCause i q = 0) ∧ (s.msaCause i m = 0) :=
  ⟨3, msa640, msa640, { dealing [(.CAP_STATUS_STATE 3, rxLinked), (.CAP_DIM_H 3, 640), (.CAP_DIM_V 3, 480), (.CAP_CFG_STORE_FMT 3, 5)] with caps := [(3, { CapSt.init with lastMsa := some msa640, msaRun := 1 })] }, by decide +kernel⟩

theorem witness_ReceiverFollowsItsLink_6 :
    ∃ (i : Fin 16) (m : MsaIn) (s : State), (s.up) ∧ (s.rxState i = rxLinked) ∧ ((s.cap i).lastMsa = none) :=
  ⟨3, msa640, dealing [(.CAP_STATUS_STATE 3, rxLinked)], by decide +kernel⟩

theorem witness_ReceiverFollowsItsLink_7 :
    ∃ (i : Fin 16) (s : State), (s.up) ∧ (s.rxState i = rxFormat) :=
  ⟨3, dealing [(.CAP_STATUS_STATE 3, rxFormat)], by decide +kernel⟩

theorem witness_ReceiverFollowsItsLink_8 :
    ∃ (i : Fin 16) (a n : Nat) (s : State), (s.up) ∧ (s.rxState i ≠ rxOff) :=
  ⟨3, 0x200, 8, dealing [(.CAP_STATUS_STATE 3, rxLinked)], by decide +kernel⟩

theorem witness_ReceiverFollowsItsLink_9 :
    ∃ (i : Fin 16) (a n : Nat) (s : State), (s.up) ∧ (s.rxState i ≠ rxOff) ∧ (a ≠ 0x50) :=
  ⟨3, 0x51, 8, dealing [(.CAP_STATUS_STATE 3, rxLinked)], by decide +kernel⟩

theorem witness_ReceiverFollowsItsLink_10 :
    ∃ (i : Fin 16) (n : Nat) (g : Bool) (k : LinkCfg) (s : State), (s.up) ∧ (s.rxState i = rxVideo) ∧ (n ≠ 0) :=
  ⟨3, 1, true, ⟨2, 1⟩, dealing [(.CAP_STATUS_STATE 3, rxVideo)], by decide +kernel⟩

theorem witness_InputFramesAreCapturedWhole_0 :
    ∃ (i : Fin 16) (w : Word) (s : State), (s.up) ∧ (s.rxState i = rxVideo) :=
  ⟨3, 77, { dealing [(.CAP_STATUS_STATE 3, rxVideo)] with image := oneLayout [{ capTrick with issue := .sav 3, job := 3 }], caps := [(3, { CapSt.init with inFrame := true })] }, by decide +kernel⟩

theorem witness_InputFramesAreCapturedWhole_1 :
    ∃ (i : Fin 16) (w : Word) (s : State), (s.up) ∧ (s.rxState i = rxVideo) ∧ ((s.cap i).inFrame = false) ∧ (s.curDeal = []) :=
  ⟨3, 77, dealing [(.CAP_STATUS_STATE 3, rxVideo)], by decide +kernel⟩

theorem witness_InputFramesAreCapturedWhole_2 :
    ∃ (i : Fin 16) (w : Word) (s : State), (s.up) ∧ (s.rxState i ≠ rxVideo) ∧ (s.curDeal = []) :=
  ⟨3, 77, dealing [(.CAP_STATUS_STATE 3, rxLinked)], by decide +kernel⟩

theorem witness_InputFramesAreCapturedWhole_3 :
    ∃ (i : Fin 16) (f : Frame) (w : Word) (s : State), (s.up) ∧ (s.rxState i = rxVideo) ∧ ((s.cap i).inFrame = true) ∧ (s.capTrick i false = none) ∧ (f.length = s.get (.CAP_DIM_V i)) ∧ ((∀ l ∈ f, l.length = s.get (.CAP_DIM_H i))) :=
  ⟨3, [[{ a := 1, b := 2, c := 3 }, { a := 4, b := 5, c := 6 }]], 77, { dealing [(.CAP_STATUS_STATE 3, rxVideo), (.CAP_DIM_H 3, 2), (.CAP_DIM_V 3, 1)] with caps := [(3, { CapSt.init with inFrame := true, recStart := some capRec })] }, by decide +kernel⟩

theorem witness_InputFramesAreCapturedWhole_4 :
    ∃ (i : Fin 16) (f : Frame) (w : Word) (r : RunTrick) (d : Nat) (s : State), (s.up) ∧ (s.rxState i = rxVideo) ∧ ((s.cap i).inFrame = true) ∧ (s.capTrick i false = some r) ∧ (r.buf = some d) ∧ (f.length = s.get (.CAP_DIM_V i)) ∧ ((∀ l ∈ f, l.length = s.get (.CAP_DIM_H i))) ∧ (s.get .MEM_STATUS_SC_FAILED = 0) :=
  ⟨3, [[{ a := 1, b := 2, c := 3 }, { a := 4, b := 5, c := 6 }]], 77, capRun, 5, { dealing [(.CAP_STATUS_STATE 3, rxVideo), (.CAP_DIM_H 3, 2), (.CAP_DIM_V 3, 1), (.CAP_CFG_STORE_FMT 3, 5)] with caps := [(3, { CapSt.init with inFrame := true, recStart := some capRec })], dealer := { Dealer.init with tricks := [capRun] } }, by decide +kernel⟩

theorem witness_InputFramesAreCapturedWhole_5 :
    ∃ (i : Fin 16) (w : Word) (r : RunTrick) (c : BufRec) (d : Nat) (e : Word) (s : State), (s.up) ∧ (s.logRoom) ∧ (s.staleRun .capture i = false) ∧ (s.capTrick i true = some r) ∧ ((s.cap i).recDone = some c) ∧ (r.buf = some d) ∧ (r.eav = some e) ∧ (s.get .MEM_STATUS_SC_FAILED = 0) :=
  ⟨3, 77, { capRun with eav := some 70 }, capRec, 5, 70, { dealing [(.CAP_STATUS_STATE 3, rxVideo)] with caps := [(3, { CapSt.init with recDone := some capRec })], dealer := { Dealer.init with tricks := [{ capRun with eav := some 70 }] } }, by decide +kernel⟩

theorem witness_InputFramesAreCapturedWhole_6 :
    ∃ (i : Fin 16) (w : Word) (r : RunTrick) (c : BufRec) (d : Nat) (e : Word) (s : State), (s.up) ∧ (s.staleRun .capture i = false) ∧ (s.capTrick i true = some r) ∧ ((s.cap i).recDone = some c) ∧ (r.buf = some d) ∧ (r.eav = some e) ∧ (d < 8192) ∧ (1 ≤ c.hdr.format) ∧ (c.hdr.format ≤ 6) ∧ ((c.hdr.width, c.hdr.height) = s.srcDim (s.desc d).src) ∧ (s.get .MEM_STATUS_SC_FAILED = 0) :=
  ⟨3, 77, { capRun with eav := some 70 }, capRec, 5, 70, { dealing [(.CAP_STATUS_STATE 3, rxVideo), (.CMP_TLN_SIZE_SIZE 0, 1), (.CMP_TLN_COUNT_COUNT 0, 10), (.CMP_TLN_BASE_BASE 0, 0x8000000), (.CAP_DIM_H 3, 2), (.CAP_DIM_V 3, 1)] with descs := [(5, { Desc.init with state := .filling, src := 3 })], caps := [(3, { CapSt.init with recDone := some capRec })], dealer := { Dealer.init with tricks := [{ capRun with eav := some 70 }] } }, by decide +kernel⟩

theorem witness_InputFramesAreCapturedWhole_7 :
    ∃ (i : Fin 16) (c : Damage) (s : State), (s.up) ∧ (s.logRoom) ∧ (s.rxState i = rxVideo) ∧ ((s.cap i).inFrame = true) ∧ ((s.cap i).damaged = false) ∧ (s.capTrick i false = none) :=
  ⟨3, .symbolError 2 9, { dealing [(.CAP_STATUS_STATE 3, rxVideo)] with caps := [(3, { CapSt.init with inFrame := true })] }, by decide +kernel⟩

theorem witness_InputFramesAreCapturedWhole_8 :
    ∃ (i : Fin 16) (c : Damage) (s : State), (s.up) ∧ (s.rxState i ≠ rxVideo) ∧ ((∀ l n, c ≠ .symbolError l n)) :=
  ⟨3, .alignment, dealing [], by decide +kernel, by decide +kernel, fun _ _ h => Damage.noConfusion h⟩

theorem witness_InputFramesAreCapturedWhole_9 :
    ∃ (i : Fin 16) (l n : Nat) (s : State), (s.up) ∧ (s.rxState i ≠ rxVideo) ∧ (s.rxState i ≠ rxOff) ∧ (l < 4) :=
  ⟨3, 1, 4, dealing [(.CAP_STATUS_STATE 3, rxLinked)], by decide +kernel⟩

theorem witness_InputFramesAreCapturedWhole_10 :
    ∃ (i : Fin 16) (f : Frame) (w : Word) (s : State), (s.up) ∧ ((s.rxState i ≠ rxVideo ∨ (s.cap i).inFrame = false)) :=
  ⟨3, [], 77, dealing [(.CAP_STATUS_STATE 3, rxVideo)], by decide +kernel⟩

theorem witness_InputFramesAreCapturedWhole_11 :
    ∃ (i : Fin 16) (b : Bool) (w : Word) (r : RunTrick) (c : BufRec) (d : Nat) (e : Word) (s : State), (s.up) ∧ (s.logRoom) ∧ (s.staleRun .capture i = false) ∧ (s.capTrick i true = some r) ∧ ((s.cap i).recDone = some c) ∧ (r.buf = some d) ∧ (r.eav = some e) ∧ (d < 8192) ∧ (s.blockFailed (s.bufAddr d) = true) :=
  ⟨3, false, 77, { capRun with eav := some 70 }, capRec, 5, 70, { dealing [(.CAP_STATUS_STATE 3, rxVideo), (.CMP_TLN_SIZE_SIZE 0, 1), (.CMP_TLN_COUNT_COUNT 0, 10), (.CMP_TLN_BASE_BASE 0, 0x100000), (.MEM_STATUS_SC_FAILED, 1), (.MEM_SC_STATUS_STATE 0, scFailed)] with caps := [(3, { CapSt.init with recDone := some capRec })], dealer := { Dealer.init with tricks := [{ capRun with eav := some 70 }] } }, by decide +kernel⟩

theorem witness_InputFramesAreCapturedWhole_12 :
    ∃ (i : Fin 16) (f : Frame) (w : Word) (s : State), (s.up) ∧ (s.rxState i = rxVideo) ∧ ((s.cap i).inFrame = true) ∧ ((f.length ≠ s.get (.CAP_DIM_V i) ∨ f.any (fun l => l.length != s.get (.CAP_DIM_H i)) = true)) :=
  ⟨3, [[{ a := 1, b := 2, c := 3 }]], 77, { dealing [(.CAP_STATUS_STATE 3, rxVideo), (.CAP_DIM_H 3, 2), (.CAP_DIM_V 3, 1)] with caps := [(3, { CapSt.init with inFrame := true })] }, by decide +kernel⟩

theorem witness_PacketsReachTheirContext_0 :
    ∃ (n : Fin 3) (f : NetFrame) (w : Word) (s : State), (s.up) ∧ (s.netOn n = false) :=
  ⟨1, netFrame, 9, dealing [], by decide +kernel⟩

theorem witness_PacketsReachTheirContext_1 :
    ∃ (n : Fin 3) (f : NetFrame) (w : Word) (s : State), (s.up) ∧ (s.netOn n = true) ∧ ((f.fcs = false ∨ f.len < 64 ∨ 1522 < f.len)) :=
  ⟨1, { netFrame with len := 63 }, 9, dealing [(.TIM_NP_CFG_EN 1, 1)], by decide +kernel⟩

theorem witness_PacketsReachTheirContext_1_1 :
    ∃ (n : Fin 3) (f : NetFrame) (w : Word) (s : State), (s.up) ∧ (s.netOn n = true) ∧ ((f.fcs = false ∨ f.len < 64 ∨ 1522 < f.len)) :=
  ⟨1, { netFrame with len := 1523 }, 9, dealing [(.TIM_NP_CFG_EN 1, 1)], by decide +kernel⟩

theorem witness_PacketsReachTheirContext_2 :
    ∃ (n : Fin 3) (f : NetFrame) (w : Word) (s : State), (s.up) ∧ (s.netOn n = true) ∧ (f.fcs = true) ∧ (64 ≤ f.len) ∧ (f.len ≤ 1522) ∧ (f.pause = true) :=
  ⟨1, { netFrame with len := 64, pause := true }, 9, dealing [(.TIM_NP_CFG_EN 1, 1)], by decide +kernel⟩

theorem witness_PacketsReachTheirContext_3 :
    ∃ (n : Fin 3) (f : NetFrame) (w : Word) (s : State), (s.up) ∧ (s.netOn n = true) ∧ (f.fcs = true) ∧ (64 ≤ f.len) ∧ (f.len ≤ 1522) ∧ (f.pause = false) ∧ (f.tags ≤ 1) ∧ (s.passes n f.dest = true) ∧ (f.ether = 0x88F7) ∧ ((s.bankerUp && !f.busy) = false) ∧ ((s.net n).ptpQ.length < 16) :=
  ⟨1, { netFrame with ether := 0x88F7, tags := 1 }, 9, dealing [(.TIM_NP_CFG_EN 1, 1)], by decide +kernel⟩

theorem witness_PacketsReachTheirContext_4 :
    ∃ (n : Fin 3) (w : Word) (d : DeckTx) (ds : List DeckTx) (s : State), (s.up) ∧ (s.netOn n = true) ∧ (s.on (.TIM_NP_STATUS_LINK n) = true) ∧ ((s.net n).txPtp = []) ∧ ((s.net n).txDeck = d :: ds) :=
  ⟨1, 9, .flow 5 [1], [], { dealing [(.TIM_NP_CFG_EN 1, 1), (.TIM_NP_STATUS_LINK 1, 1)] with nets := [(1, { NetSt.init with txDeck := [.flow 5 [1]], txGen := [[1]] })] }, by decide +kernel⟩

theorem witness_PacketsReachTheirContext_5 :
    ∃ (n : Fin 3) (w : Word) (m : PtpTx) (ms : List PtpTx) (s : State), (s.up) ∧ (s.netOn n = true) ∧ (s.on (.TIM_NP_STATUS_LINK n) = true) ∧ ((s.net n).txPtp = m :: ms) ∧ (4 ≤ (s.net n).stamps.length) :=
  ⟨1, 9, { seq := 1, type := 1, bytes := [3] }, [], { dealing [(.TIM_NP_CFG_EN 1, 1), (.TIM_NP_STATUS_LINK 1, 1)] with nets := [(1, { NetSt.init with txPtp := [{ seq := 1, type := 1, bytes := [3] }], txDeck := [.flow 5 [1]], stamps := List.replicate 4 (0, { seq := 1, type := 1, bytes := [3] }) })] }, by decide +kernel⟩

theorem witness_PacketsReachTheirContext_6 :
    ∃ (r : RtpIn) (w : Word) (s : State), (s.up) ∧ (s.ctxAt r.port r.udp = none) :=
  ⟨rtpPkt, 9, dealing [], by decide +kernel⟩

theorem witness_PacketsReachTheirContext_7 :
    ∃ (r : RtpIn) (w : Word) (c : Nat) (s : State), (s.up) ∧ (s.ctxAt r.port r.udp = some c) ∧ ((s.on (.DEC_CX_NET_RTCP_MUX c) = true → r.pt < 64 ∨ 95 < r.pt)) ∧ ((r.ip ≠ s.word (Reg.DEC_CX_SRCIP c) ∨ r.pt ≠ s.get (.DEC_CX_NET_PT c))) :=
  ⟨rtpPkt, 9, 2, dealing [(.DEC_CX_STATE_STATE 2, cxRunning), (.DEC_CX_NET_UDP_PORT 2, 5004), (.DEC_CX_NET_NET_PORT 2, 1), (.DEC_CX_NET_PT 2, 97)], by decide +kernel⟩

theorem witness_PacketsReachTheirContext_8 :
    ∃ (r : RtpIn) (w : Word) (c : Nat) (s : State), (s.up) ∧ (s.ctxAt r.port r.udp = some c) ∧ (r.ip = s.word (Reg.DEC_CX_SRCIP c)) ∧ ((s.on (.DEC_CX_NET_RTCP_MUX c) = true → r.pt < 64 ∨ 95 < r.pt)) ∧ (r.pt = s.get (.DEC_CX_NET_PT c)) ∧ (r.ssrc = s.word (Reg.DEC_CX_SSRC c)) :=
  ⟨rtpPkt, 9, 2, withWords [(Reg.DEC_CX_SRCIP 2, 0xA000001), (Reg.DEC_CX_SSRC 2, 7)] (dealing [(.DEC_CX_STATE_STATE 2, cxRunning), (.DEC_CX_NET_UDP_PORT 2, 5004), (.DEC_CX_NET_NET_PORT 2, 1), (.DEC_CX_NET_PT 2, 96)]), by decide +kernel⟩

theorem witness_PacketsReachTheirContext_8_1 :
    ∃ (r : RtpIn) (w : Word) (c : Nat) (s : State), (s.up) ∧ (s.ctxAt r.port r.udp = some c) ∧ (r.ip = s.word (Reg.DEC_CX_SRCIP c)) ∧ ((s.on (.DEC_CX_NET_RTCP_MUX c) = true → r.pt < 64 ∨ 95 < r.pt)) ∧ (r.pt = s.get (.DEC_CX_NET_PT c)) ∧ (r.ssrc = s.word (Reg.DEC_CX_SSRC c)) :=
  ⟨{ rtpPkt with payload := [] }, 9, 2, withWords [(Reg.DEC_CX_SRCIP 2, 0xA000001), (Reg.DEC_CX_SSRC 2, 7)] (dealing [(.DEC_CX_STATE_STATE 2, cxRunning), (.DEC_CX_NET_UDP_PORT 2, 5004), (.DEC_CX_NET_NET_PORT 2, 1), (.DEC_CX_NET_PT 2, 96)]), by decide +kernel⟩

theorem witness_PacketsReachTheirContext_9 :
    ∃ (c : Fin 512) (ip x : Word) (n : BitVec 64) (r w : Word) (s : State), (s.up) ∧ (s.fromCamera c ip x = true) :=
  ⟨2, 5, 7, 5, 6, 7, withWords [(Reg.DEC_CX_SRCIP 2, 5), (Reg.DEC_CX_SSRC 2, 7)] (dealing [(.DEC_CX_STATE_STATE 2, cxRunning)]), by decide +kernel⟩

theorem witness_PacketsReachTheirContext_10 :
    ∃ (c : Fin 512) (ip x : Word) (s : State), (s.up) ∧ (s.ctxState c ≠ cxClosed) ∧ (s.fromCamera c ip x = false) :=
  ⟨2, 5, 7, withWords [(Reg.DEC_CX_SRCIP 2, 5)] (dealing [(.DEC_CX_STATE_STATE 2, cxRunning)]), by decide +kernel⟩

theorem witness_PacketsReachTheirContext_11 :
    ∃ (c : Fin 512) (s : State), (s.up) ∧ ((s.ctxState c = cxRunning ∨ s.ctxState c = cxWaitKey)) :=
  ⟨2, dealing [(.DEC_CX_STATE_STATE 2, cxRunning), (.DEC_CX_STATE_QUEUE 2, 2)], by decide +kernel⟩

theorem witness_PacketsReachTheirContext_12 :
    ∃ (c : Fin 512) (s : State), (s.up) ∧ ((s.ctxState c = cxRunning ∨ s.ctxState c = cxWaitKey)) :=
  ⟨2, dealing [(.DEC_CX_STATE_STATE 2, cxWaitKey), (.DEC_CX_STATE_QUEUE 2, 2)], by decide +kernel⟩

theorem witness_PacketsReachTheirContext_13 :
    ∃ (c : Fin 512) (s : State), (s.up) ∧ (s.ctxState c ≠ cxClosed) :=
  ⟨2, dealing [(.DEC_CX_STATE_STATE 2, cxWaitKey)], by decide +kernel⟩

theorem witness_PacketsReachTheirContext_14 :
    ∃ (c : Fin 512) (s : State), (s.up) ∧ (s.ctxState c = cxWaitKey) ∧ (s.get (.DEC_CX_NET_FB c) = 1) :=
  ⟨2, dealing [(.DEC_CX_STATE_STATE 2, cxWaitKey), (.DEC_CX_NET_FB 2, 1)], by decide +kernel⟩

theorem witness_PacketsReachTheirContext_15 :
    ∃ (c : Fin 512) (s : State), (s.up) ∧ (s.ctxState c = cxWaitKey) ∧ (s.get (.DEC_CX_NET_FB c) = 2) :=
  ⟨2, dealing [(.DEC_CX_STATE_STATE 2, cxWaitKey), (.DEC_CX_NET_FB 2, 2)], by decide +kernel⟩

theorem witness_PacketsReachTheirContext_16 :
    ∃ (c : Fin 512) (ip x : Word) (n : BitVec 64) (r w : Word) (s : State), (s.up) ∧ (s.ctxState c ≠ cxClosed) ∧ (s.fromCamera c ip x = false) :=
  ⟨2, 5, 7, 5, 6, 7, withWords [(Reg.DEC_CX_SRCIP 2, 5)] (dealing [(.DEC_CX_STATE_STATE 2, cxRunning)]), by decide +kernel⟩

theorem witness_PacketsReachTheirContext_17 :
    ∃ (r : RtpIn) (w : Word) (c : Nat) (s : State), (s.up) ∧ (s.ctxAt r.port r.udp = some c) ∧ (r.ip = s.word (Reg.DEC_CX_SRCIP c)) ∧ ((s.on (.DEC_CX_NET_RTCP_MUX c) = true → r.pt < 64 ∨ 95 < r.pt)) ∧ (r.pt = s.get (.DEC_CX_NET_PT c)) ∧ (r.ssrc = s.word (Reg.DEC_CX_SSRC c)) ∧ (payloadOk (s.on (.DEC_CX_CFG_CODEC c)) r.payload = false) ∧ (s.ctxState c ≠ cxFault) :=
  ⟨{ rtpPkt with payload := [0] }, 9, 2, withWords [(Reg.DEC_CX_SRCIP 2, 0xA000001), (Reg.DEC_CX_SSRC 2, 7)] (dealing [(.DEC_CX_STATE_STATE 2, cxRunning), (.DEC_CX_NET_UDP_PORT 2, 5004), (.DEC_CX_NET_NET_PORT 2, 1), (.DEC_CX_NET_PT 2, 96)]), by decide +kernel⟩

theorem witness_PacketsReachTheirContext_18 :
    ∃ (r : RtpIn) (w : Word) (c : Nat) (s : State), (s.up) ∧ (s.ctxAt r.port r.udp = some c) ∧ (s.on (.DEC_CX_NET_RTCP_MUX c) = true) ∧ (64 ≤ r.pt) ∧ (r.pt ≤ 95) :=
  ⟨{ rtpPkt with pt := 72 }, 9, 2, withWords [(Reg.DEC_CX_SRCIP 2, 0xA000001), (Reg.DEC_CX_SSRC 2, 7)] (dealing [(.DEC_CX_STATE_STATE 2, cxRunning), (.DEC_CX_NET_UDP_PORT 2, 5004), (.DEC_CX_NET_NET_PORT 2, 1), (.DEC_CX_NET_PT 2, 96), (.DEC_CX_NET_RTCP_MUX 2, 1)]), by decide +kernel⟩

theorem witness_PacketsReachTheirContext_19 :
    ∃ (e : Fin 32) (s : State), (s.up) ∧ (s.encRuns e = true) ∧ (s.encTrick e = none) :=
  ⟨2, dealing [(.ENC_ST_STATE_RUNNING 2, 1)], by decide +kernel⟩

theorem witness_PacketsReachTheirContext_20 :
    ∃ (n : Fin 3) (f : NetFrame) (w : Word) (s : State), (s.up) ∧ (s.netOn n = true) ∧ (f.fcs = true) ∧ (64 ≤ f.len) ∧ (f.len ≤ 1522) ∧ (f.pause = false) ∧ ((1 < f.tags ∨ s.passes n f.dest = false)) :=
  ⟨1, { netFrame with dest := 5 }, 9, dealing [(.TIM_NP_CFG_EN 1, 1)], by decide +kernel⟩

theorem witness_PacketsReachTheirContext_21 :
    ∃ (n : Fin 3) (f : NetFrame) (u : UdpIn) (w : Word) (s : State), (s.up) ∧ (s.netOn n = true) ∧ (f.fcs = true) ∧ (64 ≤ f.len) ∧ (f.len ≤ 1522) ∧ (f.pause = false) ∧ (f.tags ≤ 1) ∧ (s.passes n f.dest = true) ∧ (f.ether ≠ 0x88F7) ∧ (f.udp = some u) ∧ (u.port ≠ 319) ∧ (u.port ≠ 320) ∧ ((2 ≤ n.val ∨ s.deckPort n u.port = false)) ∧ (u.port = s.get (.TIM_NP_CFG_CMD_PORT n)) ∧ ((s.net n).cmdQ.length < 32) :=
  ⟨1, cmdNet [1], ⟨0xA000005, 4000, 5120, [1]⟩, 9, dealing [(.TIM_NP_CFG_EN 1, 1), (.TIM_NP_CFG_CMD_PORT 1, 5120)], by decide +kernel⟩

theorem witness_PacketsReachTheirContext_22 :
    ∃ (n : Fin 3) (f : NetFrame) (u : UdpIn) (w : Word) (s : State), (s.up) ∧ (s.netOn n = true) ∧ (f.fcs = true) ∧ (64 ≤ f.len) ∧ (f.len ≤ 1522) ∧ (f.pause = false) ∧ (f.tags ≤ 1) ∧ (s.passes n f.dest = true) ∧ (f.ether ≠ 0x88F7) ∧ (f.udp = some u) ∧ (u.port ≠ 319) ∧ (u.port ≠ 320) ∧ (n.val < 2) ∧ (s.deckPort n u.port = true) ∧ (((s.net n).deckQ.map (·.1.len)).sum + f.len ≤ 524288) :=
  ⟨1, { netFrame with udp := some ⟨5, 4000, 5004, [1]⟩ }, ⟨5, 4000, 5004, [1]⟩, 9, withWords [(Reg.DEC_CX_SRCIP 2, 0xA000001), (Reg.DEC_CX_SSRC 2, 7)] (dealing [(.DEC_CX_STATE_STATE 2, cxRunning), (.DEC_CX_NET_UDP_PORT 2, 5004), (.DEC_CX_NET_NET_PORT 2, 1), (.DEC_CX_NET_PT 2, 96), (.TIM_NP_CFG_EN 1, 1)]), by decide +kernel⟩

theorem witness_PacketsReachTheirContext_23 :
    ∃ (n : Fin 3) (f : NetFrame) (w : Word) (s : State), (s.up) ∧ (s.netOn n = true) ∧ (f.fcs = true) ∧ (64 ≤ f.len) ∧ (f.len ≤ 1522) ∧ (f.pause = false) ∧ (f.tags ≤ 1) ∧ (s.passes n f.dest = true) ∧ (f.ether ≠ 0x88F7) ∧ (f.udp = none) ∧ (s.bankerUp = true) ∧ (f.busy = false) :=
  ⟨1, netFrame, 9, dealing [(.TIM_NP_CFG_EN 1, 1), (.HST_MB_STATUS_BANKER_UP, 1)], by decide +kernel⟩

theorem witness_PacketsReachTheirContext_24 :
    ∃ (r : RtpIn) (w : Word) (c : Nat) (s : State), (s.up) ∧ (s.ctxAt r.port r.udp = some c) ∧ (r.ip = s.word (Reg.DEC_CX_SRCIP c)) ∧ ((s.on (.DEC_CX_NET_RTCP_MUX c) = true → r.pt < 64 ∨ 95 < r.pt)) ∧ (r.pt = s.get (.DEC_CX_NET_PT c)) ∧ (r.ssrc = s.word (Reg.DEC_CX_SSRC c)) ∧ (payloadOk (s.on (.DEC_CX_CFG_CODEC c)) r.payload = true) ∧ (s.ctxState c = cxRunning) ∧ ((s.ctx c).asm = none) ∧ ((s.ctx c).lastClosed = none) ∧ (r.marker = false) :=
  ⟨{ rtpPkt with marker := false }, 9, 2, withWords [(Reg.DEC_CX_SRCIP 2, 0xA000001), (Reg.DEC_CX_SSRC 2, 7)] (dealing [(.DEC_CX_STATE_STATE 2, cxRunning), (.DEC_CX_NET_UDP_PORT 2, 5004), (.DEC_CX_NET_NET_PORT 2, 1), (.DEC_CX_NET_PT 2, 96)]), by decide +kernel⟩

theorem witness_PacketsReachTheirContext_25 :
    ∃ (n : Fin 3) (f : NetFrame) (w : Word) (s : State), (s.up) ∧ (s.netOn n = true) ∧ (f.fcs = true) ∧ (64 ≤ f.len) ∧ (f.len ≤ 1522) ∧ (f.pause = false) ∧ (f.tags ≤ 1) ∧ (s.passes n f.dest = true) ∧ (f.ether ≠ 0x88F7) ∧ (f.udp = none) ∧ ((s.bankerUp && !f.busy) = false) ∧ ((s.net n).genQ.length < 128) :=
  ⟨1, netFrame, 9, dealing [(.TIM_NP_CFG_EN 1, 1)], by decide +kernel⟩

theorem witness_DecodeContextsAreManaged_0 :
    ∃ (c : Fin 512) (b : List Byte) (s : State), (s.up) ∧ (s.on .DEC_CMD_STATUS_BUSY = false) ∧ (s.ctxState c ≠ cxClosed) :=
  ⟨2, [1], dealing [(.DEC_CX_STATE_STATE 2, cxIdle)], by decide +kernel⟩

theorem witness_DecodeContextsAreManaged_1 :
    ∃ (c : Fin 512) (b : List Byte) (s : State), (s.up) ∧ (s.on .DEC_CMD_STATUS_BUSY = false) ∧ (s.ctxState c = cxClosed) ∧ ((s.on (.DEC_CX_CFG_EN c) = false ∨ s.word (Reg.DEC_CX_SRCIP c) = 0 ∨ s.portTaken c = true ∨ s.get (.DEC_CX_NET_FB c) = 3)) :=
  ⟨2, [1], dealing [(.DEC_CX_STATE_STATE 2, cxClosed)], by decide +kernel⟩

theorem witness_DecodeContextsAreManaged_2 :
    ∃ (c : Fin 512) (b : List Byte) (s : State), (s.up) ∧ (s.on .DEC_CMD_STATUS_BUSY = false) ∧ (s.ctxState c = cxClosed) ∧ (s.on (.DEC_CX_CFG_EN c) = true) ∧ (s.word (Reg.DEC_CX_SRCIP c) ≠ 0) ∧ (s.portTaken c = false) ∧ (s.get (.DEC_CX_NET_FB c) ≠ 3) :=
  ⟨2, [1], withWords [(Reg.DEC_CX_SRCIP 2, 0xA000001)] (dealing [(.DEC_CX_STATE_STATE 2, cxClosed), (.DEC_CX_CFG_EN 2, 1)]), by decide +kernel⟩

theorem witness_DecodeContextsAreManaged_3 :
    ∃ (c : Fin 512) (s : State), (s.up) ∧ (s.on .DEC_CMD_STATUS_BUSY = false) ∧ (s.ctxState c = cxClosed) :=
  ⟨2, dealing [(.DEC_CX_STATE_STATE 2, cxClosed)], by decide +kernel⟩

theorem witness_DecodeContextsAreManaged_4 :
    ∃ (c : Fin 512) (s : State), (s.up) ∧ (s.on .DEC_CMD_STATUS_BUSY = false) ∧ (s.ctxState c ≠ cxClosed) :=
  ⟨2, { dealing [(.DEC_CX_STATE_STATE 2, cxRunning)] with descs := [(5, { Desc.init with state := .eligible, src := 0x22 })] }, by decide +kernel⟩

theorem witness_DecodeContextsAreManaged_5 :
    ∃ (c : Fin 512) (s : State), (s.up) ∧ (s.on .DEC_CMD_STATUS_BUSY = false) ∧ (s.ctxState c = cxWaitKey) ∧ (s.get (.DEC_CX_NET_FB c) = 1) :=
  ⟨2, dealing [(.DEC_CX_STATE_STATE 2, cxWaitKey), (.DEC_CX_NET_FB 2, 1)], by decide +kernel⟩

theorem witness_DecodeContextsAreManaged_6 :
    ∃ (c : Fin 512) (s : State), (s.up) ∧ (s.on .DEC_CMD_STATUS_BUSY = false) ∧ (s.ctxState c = cxIdle) :=
  ⟨2, dealing [(.DEC_CX_STATE_STATE 2, cxIdle), (.DEC_CX_NET_FB 2, 1)], by decide +kernel⟩

theorem witness_DecodeContextsAreManaged_7 :
    ∃ (c : Fin 512) (a : Assembly) (s : State), (s.up) ∧ ((s.ctx c).asm = some a) ∧ ((s.ctx c).queue.length < 4) :=
  ⟨2, { ts := 5, tArr := 0, cap := 0, ext := false, map := 0, noShow := false, first := 0, marker := none, got := [] }, { dealing [] with ctxs := [(2, { CtxSt.init with asm := some { ts := 5, tArr := 0, cap := 0, ext := false, map := 0, noShow := false, first := 0, marker := none, got := [] } })] }, by decide +kernel⟩

theorem witness_DecodeContextsAreManaged_8 :
    ∃ (c : Fin 512) (r : DecodeIn) (w : Word) (k : RunTrick) (d : Nat) (p : Coded) (s : State), (s.up) ∧ (s.deckHalted = false) ∧ (s.staleRun .decode c = false) ∧ (s.decTrick c = some k) ∧ (k.buf = some d) ∧ (k.coded = some p) ∧ (s.pictureFault c r ≠ 0) ∧ (s.ctxState c ≠ cxClosed) ∧ (s.ctxState c ≠ cxFault) :=
  ⟨2, { decodeIn with sets := some avcSets }, 9, decRun, 5, codedPic, { dealing [(.DEC_CX_STATE_STATE 2, cxRunning)] with dealer := { Dealer.init with tricks := [decRun] } }, by decide +kernel⟩

theorem witness_DecodeContextsAreManaged_9 :
    ∃ (c : Fin 512) (r : DecodeIn) (b : Bool) (w : Word) (k : RunTrick) (d : Nat) (p : Coded) (s : State), (s.up) ∧ (s.deckHalted = false) ∧ (s.staleRun .decode c = false) ∧ (s.decTrick c = some k) ∧ (k.buf = some d) ∧ (k.coded = some p) ∧ (s.pictureFault c r = 0) ∧ (s.ctxState c = cxRunning) :=
  ⟨2, decodeIn, false, 9, decRun, 5, codedPic, { dealing [(.DEC_CX_STATE_STATE 2, cxRunning)] with dealer := { Dealer.init with tricks := [decRun] }, descs := [(5, { Desc.init with state := .filling, src := 0x22 })] }, by decide +kernel⟩

theorem witness_DecodeContextsAreManaged_10 :
    ∃ (c : Fin 512) (b : List Byte) (s : State), (s.up) ∧ (s.on .DEC_CMD_STATUS_BUSY = true) :=
  ⟨2, [], dealing [(.DEC_CMD_STATUS_BUSY, 1)], by decide +kernel⟩

theorem witness_EncodeStreamsAreCommanded_0 :
    ∃ (e : Fin 32) (s : State), (s.up) ∧ (s.dealing = false) :=
  ⟨3, loading [], by decide +kernel⟩

theorem witness_EncodeStreamsAreCommanded_1 :
    ∃ (e : Fin 32) (s : State), (s.up) ∧ (s.dealing = false) :=
  ⟨3, loading [], by decide +kernel⟩

theorem witness_EncodeStreamsAreCommanded_2 :
    ∃ (e : Fin 32) (s : State), (s.dealing = true) ∧ (4 ≤ s.dealer.changes.length) ∧ ((s.evaluate s.admBase ⟨s.dealer.nextChange, .encStart e, .waiting, [], s.tick + 1⟩).code = stOK) :=
  ⟨3, { dealing [(.ENC_ST_CFG_EN 3, 1)] with dealer := { Dealer.init with changes := List.replicate 4 { id := 3, kind := .encStop 1, stage := .waiting, place := [], dueTick := 0 } } }, by decide +kernel⟩

theorem witness_EncodeStreamsAreCommanded_3 :
    ∃ (e : Fin 32) (s : State), (s.dealing = true) ∧ (s.dealer.changes.length < 4) :=
  ⟨3, dealing [], by decide +kernel⟩

theorem witness_EncodeStreamsAreCommanded_4 :
    ∃ (e : Fin 32) (s : State), (s.dealing = true) ∧ (s.dealer.changes.length < 4) :=
  ⟨3, dealing [], by decide +kernel⟩

theorem witness_EncodeStreamsAreCommanded_5 :
    ∃ (e : Fin 32) (s : State), (s.up) ∧ (s.encRuns e = true) ∧ (s.encTrick e = none) :=
  ⟨3, dealing [(.ENC_ST_STATE_RUNNING 3, 1)], by decide +kernel⟩

theorem witness_EncodeStreamsAreCommanded_6 :
    ∃ (e : Fin 32) (s : State), (s.up) ∧ (s.encRuns e = false) :=
  ⟨3, dealing [], by decide +kernel⟩

theorem witness_EncodeStreamsAreCommanded_7 :
    ∃ (e : Fin 32) (r : EncodeIn) (k : RunTrick) (s : State), (s.up) ∧ (s.staleRun .encode e = false) ∧ (s.encTrick e = some k) ∧ (k.buf = none) :=
  ⟨3, { rows := [], params := [], slices := [] }, encRun, { dealing [(.ENC_ST_STATE_RUNNING 3, 1)] with dealer := { Dealer.init with tricks := [encRun] } }, by decide +kernel⟩

theorem witness_EncodeStreamsAreCommanded_8 :
    ∃ (e : Fin 32) (r : EncodeIn) (k : RunTrick) (d : Nat) (s : State), (s.up) ∧ (s.staleRun .encode e = false) ∧ (s.encTrick e = some k) ∧ (k.buf = some d) ∧ (s.encReason e (some d) = none) ∧ (s.badBlocks (s.bufAddr d + 256) (planeBytes (s.desc d).hdr.format (s.desc d).hdr.width (s.desc d).hdr.height) = []) :=
  ⟨3, { rows := [], params := [], slices := [[1, 2]] }, { encRun with buf := some 5 }, 5, { dealing [(.ENC_ST_STATE_RUNNING 3, 1), (.ENC_ST_KEY_AGE 3, 500), (.DLR_TICK_NUM_NUM, 50000000), (.DLR_TICK_DEN_DEN, 3)] with dealer := { Dealer.init with tricks := [{ encRun with buf := some 5 }] }, descs := [(5, { Desc.init with state := .eligible, hdr := { BufHdr.zero with capExt := true, seq := 4 } })] }, by decide +kernel⟩

theorem witness_EncodeStreamsAreCommanded_9 :
    ∃ (e : Fin 32) (w : Word) (s : State), (s.up) ∧ (s.encRuns e = true) ∧ (s.on (.ENC_ST_DEST_FABRIC e) = false) :=
  ⟨3, 9, dealing [(.ENC_ST_STATE_RUNNING 3, 1)], by decide +kernel⟩

theorem witness_EncodeStreamsAreCommanded_10 :
    ∃ (e : Fin 32) (w : Word) (s : State), (s.up) ∧ (s.encRuns e = false) :=
  ⟨3, 9, dealing [], by decide +kernel⟩

theorem witness_EncodeStreamsAreCommanded_11 :
    ∃ (e : Fin 32) (s : State), (s.dealing = true) ∧ (4 ≤ s.dealer.changes.length) ∧ (s.on (.ENC_ST_CFG_EN e) = false) :=
  ⟨3, { dealing [] with dealer := { Dealer.init with changes := List.replicate 4 { id := 3, kind := .encStop 1, stage := .waiting, place := [], dueTick := 0 } } }, by decide +kernel⟩

theorem witness_EncodeStreamsAreCommanded_12 :
    ∃ (e : Fin 32) (r : EncodeIn) (k : RunTrick) (d : Nat) (b : Nat) (bs : List Nat) (s : State), (s.up) ∧ (s.staleRun .encode e = false) ∧ (s.encTrick e = some k) ∧ (k.buf = some d) ∧ (s.encReason e (some d) = none) ∧ (s.badBlocks (s.bufAddr d + 256) (planeBytes (s.desc d).hdr.format (s.desc d).hdr.width (s.desc d).hdr.height) = b :: bs) :=
  ⟨3, { rows := [], params := [], slices := [[1, 2]] }, { encRun with buf := some 5 }, 5, 0x100000100, [], { dealing [(.ENC_ST_STATE_RUNNING 3, 1), (.ENC_ST_KEY_AGE 3, 500), (.DLR_TICK_NUM_NUM, 50000000), (.DLR_TICK_DEN_DEN, 3), (.CMP_TLN_COUNT_COUNT 0, 6), (.CMP_TLN_BASE_BASE 0, 0x100000)] with dealer := { Dealer.init with tricks := [{ encRun with buf := some 5 }] }, descs := [(5, { Desc.init with state := .eligible, hdr := { BufHdr.zero with capExt := true, seq := 4, format := 5, width := 16, height := 1 } })], mem := { MemSt.init with chk := [(1, 1)] } }, by decide +kernel⟩

theorem witness_EncodeStreamsAreCommanded_13 :
    ∃ (e : Fin 32) (s : State), (s.dealing = true) ∧ (4 ≤ s.dealer.changes.length) ∧ ((s.evaluate s.admBase ⟨s.dealer.nextChange, .encStop e, .waiting, [], s.tick + 1⟩).code = stOK) :=
  ⟨3, { dealing [(.ENC_ST_CFG_EN 3, 1), (.DLR_TICK_NUM_NUM, 50000000), (.DLR_TICK_DEN_DEN, 3)] with image := oneLayout [], dealer := { Dealer.init with changes := List.replicate 4 { id := 3, kind := .encStop 1, stage := .waiting, place := [], dueTick := 0 } } }, by decide +kernel⟩

theorem witness_EncodeStreamsAreCommanded_14 :
    ∃ (e : Fin 32) (s : State), (s.dealing = true) ∧ (4 ≤ s.dealer.changes.length) ∧ ((s.evaluate s.admBase ⟨s.dealer.nextChange, .encStart e, .waiting, [], s.tick + 1⟩).code = stREFUSED) :=
  ⟨3, { dealing [(.ENC_ST_CFG_EN 3, 1), (.DLR_TICK_NUM_NUM, 50000000), (.DLR_TICK_DEN_DEN, 3)] with image := oneLayout [{ capTrick with cls := .encode, job := 3, index := 1, issue := .offset 0, talon := none, load := 1000000000, dram := 1000000000 }], dealer := { Dealer.init with changes := List.replicate 4 { id := 3, kind := .encStop 1, stage := .waiting, place := [], dueTick := 0 } } }, by decide +kernel⟩

theorem witness_PacketsAreReceivedByKind_0 :
    ∃ (p : Fin 8) (k : RxPacket) (w : Word) (s : State), (s.up) ∧ (k.kind ≠ 1) ∧ ((∀ e ∈ k.errs, e.1 < 4)) :=
  ⟨3, packetOf 7 [1], 9, dealing [], by decide +kernel⟩

theorem witness_PacketsAreReceivedByKind_1 :
    ∃ (p : Fin 8) (k : RxPacket) (w : Word) (s : State), (s.up) ∧ (k.kind = 2) ∧ (s.portUp p = true) ∧ (RxPacketOk k = true) ∧ (s.flow? k.flow = none) :=
  ⟨3, packetOf 2 [1, 2, 3, 4], 9, dealing [(.FAB_P_STATUS_STATE 3, ptUp)], by decide +kernel⟩

theorem witness_PacketsAreReceivedByKind_2 :
    ∃ (p : Fin 8) (k : RxPacket) (w : Word) (f : FlowDesc) (s : State), (s.up) ∧ (k.kind = 2) ∧ (s.portUp p = true) ∧ (RxPacketOk k = true) ∧ (s.flow? k.flow = some f) ∧ (srcNode f.src ≠ s.nodeId) ∧ (f.inPort = p) ∧ (f.dest = s.nodeId) ∧ (k.dest = f.dest) :=
  ⟨3, packetOf 2 [1, 2, 3, 1], 9, flowHere, { dealing [(.FAB_P_STATUS_STATE 3, ptUp)] with image := { Image.none_ with flows := [flowHere] } }, by decide +kernel⟩

theorem witness_PacketsAreReceivedByKind_3 :
    ∃ (p : Fin 8) (k : RxPacket) (w : Word) (f : FlowDesc) (src : BitVec 16) (q : BitVec 8) (n : Nat) (b : Bool) (s : State), (s.up) ∧ (k.kind = 1) ∧ (s.portUp p = true) ∧ (RxPacketOk k = true) ∧ (s.flow? k.flow = some f) ∧ (srcNode f.src ≠ s.nodeId) ∧ (f.inPort = p) ∧ (f.dest = s.nodeId) ∧ (Tab.find s.fab.lineTag f.id = some (src, q, n, b)) ∧ ((∀ e ∈ s.slotsOf f.src, ∀ g ∈ (s.slot e.1 e.2).store, g.seq8 = q → g.line < n + 4)) :=
  ⟨3, packetOf 1 [1, 2, 3, 1], 9, flowHere, 0x403, 4, 7, true, { dealing [(.FAB_P_STATUS_STATE 3, ptUp), (.CMP_VL_CTRL_EN 5, 1), (.CMP_VL_SRC_SRC_ID 5, 0x403), (.CMP_VL_SRC_NO_SRC 5, 0)] with image := { Image.none_ with flows := [flowHere] }, slots := [(0, { SlotSt.init with layer := some 5 })], fab := { FabSt.init with lineTag := [(2, (0x403, 4, 7, true))] } }, by decide +kernel⟩

theorem witness_PacketsAreReceivedByKind_4 :
    ∃ (p : Fin 8) (k : RxPacket) (w : Word) (f : FlowDesc) (r : Trick) (c d : Nat) (s : State), (s.up) ∧ (k.kind = 3) ∧ (s.portUp p = true) ∧ (RxPacketOk k = true) ∧ (k.payload.length = 64) ∧ (s.flow? k.flow = some f) ∧ (srcNode f.src ≠ s.nodeId) ∧ (f.inPort = p) ∧ (f.dest = s.nodeId) ∧ (k.dest = f.dest) ∧ (Tab.find s.fab.frames f.id = none) ∧ (s.curDeal.find? (fun r => r.cls == .fabricFlow && r.job == f.id) = some r) ∧ (r.talon = some c) ∧ (s.lowestFree c = some d) :=
  ⟨3, packetOf 3 (List.replicate 64 0), 9, flowHere, flowTrick, 0, 0, { dealing [(.FAB_P_STATUS_STATE 3, ptUp), (.CMP_TLN_SIZE_SIZE 0, 1), (.CMP_TLN_COUNT_COUNT 0, 3)] with image := { oneLayout [flowTrick] with flows := [flowHere] } }, by decide +kernel⟩

theorem witness_PacketsAreReceivedByKind_6 :
    ∃ (p : Fin 8) (k : RxPacket) (w : Word) (f : FlowDesc) (x : FlowRx) (s : State), (s.up) ∧ (k.kind = 5) ∧ (s.portUp p = true) ∧ (RxPacketOk k = true) ∧ (s.flow? k.flow = some f) ∧ (srcNode f.src ≠ s.nodeId) ∧ (f.inPort = p) ∧ (f.dest = s.nodeId) ∧ (k.dest = f.dest) ∧ (Tab.find s.fab.frames f.id = some x) ∧ (x.ok = false) :=
  ⟨3, packetOf 5 (List.replicate 8 7), 9, flowHere, { buf := 2, port := 3, hdr := BufHdr.zero, next := 0, crc := 0, ok := false }, { dealing [(.FAB_P_STATUS_STATE 3, ptUp)] with descs := [(2, { Desc.init with state := .filling })], image := { Image.none_ with flows := [flowHere] }, fab := { FabSt.init with frames := [(2, { buf := 2, port := 3, hdr := BufHdr.zero, next := 0, crc := 0, ok := false })] } }, by decide +kernel⟩

theorem witness_PacketsAreReceivedByKind_7 :
    ∃ (p : Fin 8) (k : RxPacket) (w : Word) (f : FlowDesc) (x : FlowRx) (s : State), (s.up) ∧ (k.kind = 5) ∧ (s.portUp p = true) ∧ (RxPacketOk k = true) ∧ (s.flow? k.flow = some f) ∧ (srcNode f.src ≠ s.nodeId) ∧ (f.inPort = p) ∧ (f.dest = s.nodeId) ∧ (k.dest = f.dest) ∧ (Tab.find s.fab.frames f.id = some x) ∧ (x.ok = true) ∧ (x.next = framePackets x.hdr) ∧ (leNat ((k.payload.drop 4).take 4) = x.next) ∧ (leNat (k.payload.take 4) = (x.crc ^^^ 0xFFFFFFFF#32).toNat) ∧ (s.get .MEM_STATUS_SC_FAILED = 0) :=
  ⟨3, packetOf 5 [0, 0, 0, 0, 0, 0, 0, 0], 9, flowHere, { buf := 2, port := 3, hdr := BufHdr.zero, next := 0, crc := 0xFFFFFFFF, ok := true }, { dealing [(.FAB_P_STATUS_STATE 3, ptUp)] with descs := [(2, { Desc.init with state := .filling })], image := { Image.none_ with flows := [flowHere] }, fab := { FabSt.init with frames := [(2, { buf := 2, port := 3, hdr := BufHdr.zero, next := 0, crc := 0xFFFFFFFF, ok := true })] } }, by decide +kernel⟩

theorem witness_PacketsAreReceivedByKind_8 :
    ∃ (p : Fin 8) (k : RxPacket) (f : FlowDesc) (held : List Byte) (s : State), (s.up) ∧ (k.kind = 6) ∧ (s.portUp p = true) ∧ (RxPacketOk k = true) ∧ (s.flow? k.flow = some f) ∧ (srcNode f.src ≠ s.nodeId) ∧ (f.inPort = p) ∧ (f.dest = s.nodeId) ∧ (k.dest = f.dest) ∧ (bitOf k.field 0 = true) ∧ ((Tab.find s.fab.streams f.id).getD ([], false) = (held, false)) :=
  ⟨3, packetField 6 1 [9, 9], flowHere, [1], { dealing [(.FAB_P_STATUS_STATE 3, ptUp)] with image := { Image.none_ with flows := [flowHere] }, fab := { FabSt.init with streams := [(2, ([1], false))] } }, by decide +kernel⟩

theorem witness_PacketsAreReceivedByKind_9 :
    ∃ (p : Fin 8) (k : RxPacket) (s : State), (s.up) ∧ (k.kind = 7) ∧ (s.portUp p = true) ∧ (RxPacketOk k = true) ∧ (k.dest = s.nodeId) :=
  ⟨3, packetOf 7 [9, 9], dealing [(.FAB_P_STATUS_STATE 3, ptUp)], by decide +kernel⟩

theorem witness_PacketsAreReceivedByKind_10 :
    ∃ (p : Fin 8) (d : TxDue) (s : State), (s.up) ∧ (s.fabIdle = false) ∧ (s.get (.FAB_P_STATUS_WIDTH p) ≠ 0) ∧ (d.lines = []) ∧ ((s.port p).queue = []) ∧ (d.skip = true) ∧ (s.driven p = true) :=
  ⟨3, { skip := true, lane := true, credit := false, lines := [] }, dealing [(.FAB_P_STATUS_WIDTH 3, 1)], by decide +kernel⟩

theorem witness_PacketsAreReceivedByKind_11 :
    ∃ (p : Fin 8) (d : TxDue) (k : TxPacket) (ks : List TxPacket) (s : State), (s.get (.FAB_P_STATUS_WIDTH p) ≠ 0) ∧ (s.portUp p = true) ∧ (s.dealing = true) ∧ (d = ⟨false, false, false, []⟩) ∧ ((s.port p).queue = k :: ks) ∧ (k.cls = 0) ∧ (s.driven p = true) ∧ ((∀ q ∈ (s.port p).queue, s.flowShut p q.pk.flow = false ∧ (q.cls = 0 → (s.flow? q.pk.flow).map (s.costUsed p) = some false))) :=
  ⟨3, ⟨false, false, false, []⟩, ⟨0, packetOf 2 [1], none⟩, [], { dealing [(.FAB_P_STATUS_STATE 3, ptUp), (.FAB_P_STATUS_WIDTH 3, 1), (.FAB_FLOW_CFG_CLASS 2, 1)] with image := { oneLayout [flowTrick] with flows := [flowHere] }, fab := { FabSt.init with ports := [(3, { PortSt.init with queue := [⟨0, packetOf 2 [1], none⟩] })] } }, by decide +kernel⟩

theorem witness_PacketsAreReceivedByKind_12 :
    ∃ (p : Fin 8) (c : Fin 3) (n : BitVec 16) (s : State), (s.up) :=
  ⟨3, 2, 9, dealing [], by decide +kernel⟩

theorem witness_PacketsAreReceivedByKind_13 :
    ∃ (p : Fin 8) (s : State), (s.up) :=
  ⟨3, dealing [], by decide +kernel⟩

theorem witness_PacketsAreReceivedByKind_14 :
    ∃ (p : Fin 8) (k : RxPacket) (f : FlowDesc) (held : List Byte) (s : State), (s.up) ∧ (k.kind = 6) ∧ (s.portUp p = true) ∧ (RxPacketOk k = true) ∧ (s.flow? k.flow = some f) ∧ (srcNode f.src ≠ s.nodeId) ∧ (f.inPort = p) ∧ (f.dest = s.nodeId) ∧ (k.dest = f.dest) ∧ ((Tab.find s.fab.streams f.id).getD ([], false) = (held, true)) :=
  ⟨3, packetField 6 0 [9, 9], flowHere, [1], { dealing [(.FAB_P_STATUS_STATE 3, ptUp)] with image := { Image.none_ with flows := [flowHere] }, fab := { FabSt.init with streams := [(2, ([1], true))] } }, by decide +kernel⟩

theorem witness_PacketsAreReceivedByKind_15 :
    ∃ (p : Fin 8) (s : State), (s.up) ∧ (s.fabIdle = false) ∧ (s.get (.FAB_P_STATUS_WIDTH p) ≠ 0) ∧ (s.portUp p = false) ∧ ((s.port p).queue = []) ∧ (s.driven p = true) :=
  ⟨3, dealing [(.FAB_P_STATUS_WIDTH 3, 1), (.FAB_P_STATUS_STATE 3, ptIdent)], by decide +kernel⟩

theorem witness_PacketsAreReceivedByKind_16 :
    ∃ (p : Fin 8) (c : Fin 3) (n : BitVec 16) (e : Nat × Nat) (es : List (Nat × Nat)) (s : State), (s.up) ∧ ((∀ x ∈ e :: es, x.2 < 8)) :=
  ⟨3, 1, 7, (2, 1), [], dealing [], by decide +kernel⟩

theorem witness_PacketsAreReceivedByKind_17 :
    ∃ (p : Fin 8) (c : Fin 3) (n : BitVec 16) (l : Fin 4) (k : Nat) (s : State), (s.up) ∧ (8 ≤ k) ∧ (bitOf (s.get (.FAB_P_STATUS_RX_GOOD p)) l = true) :=
  ⟨3, 1, 5, 2, 9, dealing [(.FAB_P_STATUS_RX_GOOD 3, 15)], by decide +kernel⟩

theorem witness_PacketsAreReceivedByKind_18 :
    ∃ (p : Fin 8) (d : TxDue) (s : State), (s.up) ∧ (s.fabIdle = false) ∧ (s.get (.FAB_P_STATUS_WIDTH p) ≠ 0) ∧ (d.lines = []) ∧ ((s.port p).queue = []) ∧ (d.skip = true) ∧ (s.get (.SER_QCTRL_LOOP (32 + p)) = 3) :=
  ⟨3, ⟨true, false, false, []⟩, dealing [(.FAB_P_STATUS_WIDTH 3, 1), (.SER_QCTRL_LOOP 35, 3)], by decide +kernel⟩

theorem witness_PacketsAreReceivedByKind_19 :
    ∃ (p : Fin 8) (d : TxDue) (s : State), (s.up) ∧ (s.fabIdle = false) ∧ (s.get (.FAB_P_STATUS_WIDTH p) ≠ 0) ∧ (d.lines = []) ∧ ((s.port p).queue = []) ∧ (d.skip = true) ∧ (s.get (.SER_QCTRL_LOOP (32 + p)) = 1) :=
  ⟨3, ⟨true, false, false, []⟩, dealing [(.FAB_P_STATUS_WIDTH 3, 1), (.SER_QCTRL_LOOP 35, 1)], by decide +kernel⟩

theorem witness_PacketsAreReceivedByKind_20 :
    ∃ (p : Fin 8) (d : TxDue) (s : State), (s.up) ∧ (s.fabIdle = false) ∧ (s.get (.FAB_P_STATUS_WIDTH p) ≠ 0) ∧ (d.lines = []) ∧ ((s.port p).queue = []) ∧ (d.skip = true) ∧ (s.get (.SER_QCTRL_LOOP (32 + p)) = 2) :=
  ⟨3, ⟨true, false, false, []⟩, dealing [(.FAB_P_STATUS_WIDTH 3, 1), (.SER_QCTRL_LOOP 35, 2)], by decide +kernel⟩

theorem witness_LinksAlignNarrowAndFail_0 :
    ∃ (p : Fin 8) (a l c : Byte) (s : State), (s.up) ∧ ((c ≠ a ^^^ l ^^^ 0xA5#8 ∨ 4 ≤ l.toNat)) :=
  ⟨3, 1, 4, 0xA0, dealing [], by decide +kernel⟩

theorem witness_LinksAlignNarrowAndFail_0_1 :
    ∃ (p : Fin 8) (a l c : Byte) (s : State), (s.up) ∧ ((c ≠ a ^^^ l ^^^ 0xA5#8 ∨ 4 ≤ l.toNat)) :=
  ⟨3, 1, 3, 0xA6, dealing [], by decide +kernel⟩

theorem witness_LinksAlignNarrowAndFail_1 :
    ∃ (p : Fin 8) (a l : Byte) (s : State), (s.up) ∧ (l.toNat < 4) :=
  ⟨3, 0x2E, 3, dealing [(.FAB_P_STATUS_STATE 3, ptUp), (.FAB_P_STATUS_WIDTH 3, 2), (.FAB_P_STATUS_TX_LANES 3, 9)], by decide +kernel⟩

theorem witness_LinksAlignNarrowAndFail_2 :
    ∃ (p : Fin 8) (l : Fin 4) (n : Nat) (u : Bool) (s : State), (s.up) :=
  ⟨3, 2, 5, true, dealing [(.FAB_P_STATUS_RX_GOOD 3, 15)], by decide +kernel⟩

theorem witness_LinksAlignNarrowAndFail_3 :
    ∃ (p : Fin 8) (l : Fin 4) (s : State), (s.up) :=
  ⟨3, 2, dealing [], by decide +kernel⟩

theorem witness_LinksAlignNarrowAndFail_4 :
    ∃ (p : Fin 8) (a b : Fin 16) (s : State), (s.up) ∧ (s.devState ≠ stRecovery) ∧ (s.logRoom) ∧ (s.portState p = ptDown) ∧ (a ≠ 0) ∧ (b ≠ 0) :=
  ⟨3, 5, 7, dealing [(.FAB_P_STATUS_STATE 3, ptDown)], by decide +kernel⟩

theorem witness_LinksAlignNarrowAndFail_5 :
    ∃ (p : Fin 8) (b : Fin 16) (s : State), (s.up) ∧ (s.devState ≠ stRecovery) ∧ (s.logRoom) ∧ (s.portState p = ptDown) :=
  ⟨3, 7, dealing [(.FAB_P_STATUS_STATE 3, ptDown)], by decide +kernel⟩

theorem witness_LinksAlignNarrowAndFail_6 :
    ∃ (p : Fin 8) (s : State), (s.up) ∧ (s.portState p ≠ ptDisabled) ∧ (s.portState p ≠ ptDown) :=
  ⟨3, { dealing [(.FAB_P_STATUS_STATE 3, ptUp), (.FAB_P_STATUS_WIDTH 3, 2)] with image := { Image.none_ with flows := [flowHere] } }, by decide +kernel⟩

theorem witness_LinksAlignNarrowAndFail_7 :
    ∃ (p : Fin 8) (s : State), (s.up) ∧ ((s.portState p = ptDisabled ∨ s.portState p = ptDown)) :=
  ⟨3, dealing [(.FAB_P_STATUS_STATE 3, ptDown)], by decide +kernel⟩

theorem witness_LinksAlignNarrowAndFail_8 :
    ∃ (s : State), (s.up) :=
  ⟨loading [(.FAB_P_CFG_EN 3, 1), (.FAB_P_CFG_EN 5, 1)], by decide +kernel⟩

theorem witness_LinksAlignNarrowAndFail_9 :
    ∃ (p : Fin 8) (s : State), (s.up) ∧ (s.portUp p = true) ∧ (s.on (.FAB_P_STATUS_SKEWED p) = false) :=
  ⟨3, dealing [(.FAB_P_STATUS_STATE 3, ptUp)], by decide +kernel⟩

theorem witness_LinksAlignNarrowAndFail_10 :
    ∃ (q : Fin 41) (v : Fin 4) (s : State), (s.up) ∧ (v ≠ 0) ∧ (s.quadActive q = true) :=
  ⟨40, 1, dealing [], by decide +kernel⟩

theorem witness_LinksAlignNarrowAndFail_10_1 :
    ∃ (q : Fin 41) (v : Fin 4) (s : State), (s.up) ∧ (v ≠ 0) ∧ (s.quadActive q = true) :=
  ⟨3, 3, dealing [(.OUT_STATUS_STATE 3, txVideo)], by decide +kernel⟩

theorem witness_LinksAlignNarrowAndFail_11 :
    ∃ (q : Fin 41) (v : Fin 4) (s : State), (s.up) ∧ ((v = 0 ∨ (s.quadActive q = false ∧ (v ≠ 3 ∨ 32 ≤ q.val)))) :=
  ⟨3, 2, dealing [], by decide +kernel⟩

theorem witness_LinksAlignNarrowAndFail_11_1 :
    ∃ (q : Fin 41) (v : Fin 4) (s : State), (s.up) ∧ ((v = 0 ∨ (s.quadActive q = false ∧ (v ≠ 3 ∨ 32 ≤ q.val)))) :=
  ⟨40, 0, dealing [], by decide +kernel⟩

theorem witness_LinksAlignNarrowAndFail_12 :
    ∃ (p : Fin 8) (a l : Byte) (m g : Fin 4) (k : Nat) (s : State), (s.up) ∧ (l.toNat < 4) ∧ (k < 8) ∧ (g ≠ m) ∧ (bitOf (s.get (.FAB_P_STATUS_RX_GOOD p)) g = true) :=
  ⟨3, 0x2E, 3, 1, 2, 5, dealing [(.FAB_P_STATUS_STATE 3, ptUp), (.FAB_P_STATUS_RX_GOOD 3, 15)], by decide +kernel⟩

theorem witness_LinksAlignNarrowAndFail_13 :
    ∃ (p : Fin 8) (a l c : Byte) (m : Fin 4) (k : Nat) (s : State), (s.up) ∧ (k < 8) ∧ ((∀ g < 4, g ≠ m.val → bitOf (s.get (.FAB_P_STATUS_RX_GOOD p)) g = false)) :=
  ⟨3, 0x2E, 3, 0, 1, 5, dealing [(.FAB_P_STATUS_STATE 3, ptUp), (.FAB_P_STATUS_RX_GOOD 3, 2)], by decide +kernel⟩

theorem witness_TrumpSetsAreCountedAndObeyed_0 :
    ∃ (p : Fin 8) (w : Word) (s : State), (s.up) :=
  ⟨3, 9, dealing [], by decide +kernel⟩

theorem witness_TrumpSetsAreCountedAndObeyed_1 :
    ∃ (p : Fin 8) (w : Word) (c : TrumpCopy) (m : Trump) (s : State), (s.up) ∧ (c.errs = 0) ∧ (trumpOf c.data = some m) ∧ (trumpKnown m.type = false) :=
  ⟨3, 9, { lane := 0, data := trumpBytes { dest := 0, bcast := false, src := 1, seq := 2, type := 0x7F, args := [0, 0, 0, 0, 0, 0, 0, 0] }, errs := 0 }, { dest := 0, bcast := false, src := 1, seq := 2, type := 0x7F, args := [0, 0, 0, 0, 0, 0, 0, 0] }, dealing [], by decide +kernel⟩

theorem witness_TrumpSetsAreCountedAndObeyed_2 :
    ∃ (p : Fin 8) (w : Word) (s : State), (s.up) ∧ (s.get (.FAB_P_STATUS_WIDTH p) = 0) :=
  ⟨3, 9, dealing [], by decide +kernel⟩

theorem witness_TrumpSetsAreCountedAndObeyed_3 :
    ∃ (p : Fin 8) (w : Word) (m : Trump) (b : Bool) (ms : List (Trump × Bool)) (s : State), (s.up) ∧ (s.get (.FAB_P_STATUS_WIDTH p) ≠ 0) ∧ (s.fabIdle = false) ∧ ((s.port p).prio = (m, b) :: ms) ∧ (s.maySend p m = true) :=
  ⟨3, 9, trumpHere [1], true, [], { dealing [(.FAB_P_STATUS_WIDTH 3, 1)] with fab := { FabSt.init with ports := [(3, { PortSt.init with prio := [(trumpHere [1], true)], ord := [(trumpHere [2], true)] })] } }, by decide +kernel⟩

theorem witness_TrumpSetsAreCountedAndObeyed_4 :
    ∃ (p : Fin 8) (m : Trump) (f : FlowDesc) (s : State), (s.up) ∧ (s.portState p ≠ ptMismatch) ∧ (m.bcast = false) ∧ (m.dest = s.nodeId) ∧ (s.flow? (Trump_arg m 0 2) = some f) ∧ (srcNode f.src = s.nodeId) :=
  ⟨3, trumpHere [2, 0, 1, 1], { flowHere with src := 3, dest := 5 }, { dealing [] with image := { Image.none_ with flows := [{ flowHere with src := 3, dest := 5 }] } }, by decide +kernel⟩

theorem witness_TrumpSetsAreCountedAndObeyed_5 :
    ∃ (p : Fin 8) (m : Trump) (s : State), (s.up) ∧ (s.portState p ≠ ptMismatch) ∧ (m.bcast = false) ∧ (m.dest = s.nodeId) ∧ ((s.flow? (Trump_arg m 0 2)).isSome = true) :=
  ⟨3, trumpHere [2, 0, 9, 4], { dealing [] with image := { Image.none_ with flows := [flowHere] } }, by decide +kernel⟩

theorem witness_TrumpSetsAreCountedAndObeyed_6 :
    ∃ (p : Fin 8) (m : Trump) (s : State), (s.up) ∧ (s.portState p ≠ ptMismatch) ∧ (m.bcast = false) ∧ (m.dest = s.nodeId) ∧ ((s.flow? (Trump_arg m 0 2)).isSome = true) :=
  ⟨3, trumpHere [2, 0, 9, 4], { dealing [(.FAB_FLOW_STATE_CUT 2, 1)] with image := { Image.none_ with flows := [flowHere] } }, by decide +kernel⟩

theorem witness_TrumpSetsAreCountedAndObeyed_7 :
    ∃ (p : Fin 8) (m : Trump) (f : FlowDesc) (s : State), (s.up) ∧ (s.portState p ≠ ptMismatch) ∧ (m.bcast = false) ∧ (m.dest = s.nodeId) ∧ (s.flow? (Trump_arg m 0 2) = some f) ∧ (f.dest = s.nodeId) :=
  ⟨3, trumpHere [2, 0, 1], flowHere, { dealing [] with image := { Image.none_ with flows := [flowHere] } }, by decide +kernel⟩

theorem witness_TrumpSetsAreCountedAndObeyed_8 :
    ∃ (p : Fin 8) (m : Trump) (w : Word) (s : State), (s.up) :=
  ⟨3, trumpHere [2, 0, 1, 0, 1], 9, dealing [(.DLR_TICK_NUM_NUM, 50000000), (.DLR_TICK_DEN_DEN, 3)], by decide +kernel⟩

theorem witness_TrumpSetsAreCountedAndObeyed_9 :
    ∃ (p : Fin 8) (m : Trump) (w : Word) (s : State), (s.up) ∧ ((s.port p).ord.length < 32) :=
  ⟨3, trumpHere [2, 0, 1, 0, 1], 9, dealing [], by decide +kernel⟩

theorem witness_TrumpSetsAreCountedAndObeyed_10 :
    ∃ (p : Fin 8) (m : Trump) (w : Word) (s : State), (s.up) ∧ ((s.port p).echoes.length < 7) :=
  ⟨3, trumpHere [2, 0, 1, 0, 1, 0], 9, dealing [], by decide +kernel⟩

theorem witness_TrumpSetsAreCountedAndObeyed_11 :
    ∃ (p : Fin 8) (m : Trump) (s : State), (s.up) ∧ (s.portState p = ptIdent) ∧ ((s.port p).heard = 0) :=
  ⟨3, trumpHere [9, 2, 1, 0, 1, 0, 1, 2], dealing [(.FAB_P_STATUS_STATE 3, ptIdent)], by decide +kernel⟩

theorem witness_TrumpSetsAreCountedAndObeyed_12 :
    ∃ (p : Fin 8) (m : Trump) (s : State), (s.up) ∧ (s.portState p = ptIdent) ∧ ((s.port p).heard = 0) :=
  ⟨3, trumpHere [9, 2, 1, 0, 1, 0, 1, 2], dealing [(.FAB_P_STATUS_STATE 3, ptIdent)], by decide +kernel⟩

theorem witness_TrumpSetsAreCountedAndObeyed_13 :
    ∃ (p : Fin 8) (m : Trump) (s : State), (s.up) ∧ (s.portState p = ptIdent) ∧ ((s.port p).heard = 0) :=
  ⟨3, trumpHere [9, 2, 1, 0, 1, 0, 1, 2], dealing [(.FAB_P_STATUS_STATE 3, ptIdent)], by decide +kernel⟩

theorem witness_TrumpSetsAreCountedAndObeyed_14 :
    ∃ (p : Fin 8) (m : Trump) (w : Word) (s : State), (s.up) ∧ (s.portState p ≠ ptMismatch) ∧ (m.bcast = false) ∧ (m.dest = s.nodeId) ∧ (Tab.find s.cmd.asms m.src = none) :=
  ⟨3, trumpHere [9, 2, 1, 0, 1, 0, 1, 2], 9, dealing [], by decide +kernel⟩

theorem witness_TrumpSetsAreCountedAndObeyed_15 :
    ∃ (p : Fin 8) (m : Trump) (w : Word) (a : Assembling) (s : State), (s.up) ∧ (s.portState p ≠ ptMismatch) ∧ (m.bcast = false) ∧ (m.dest = s.nodeId) ∧ (Tab.find s.cmd.asms m.src = some a) ∧ (m.seq = a.last + 1) ∧ (a.bytes.length < 256) :=
  ⟨3, trumpHere [9, 2, 1, 0, 1, 0, 1, 2], 9, { bytes := [1], last := 1 }, { dealing [] with cmd := { CmdSt.init with asms := [(1, { bytes := [1], last := 1 })] } }, by decide +kernel⟩

theorem witness_TrumpSetsAreCountedAndObeyed_16 :
    ∃ (p : Fin 8) (m : Trump) (w : Word) (a : Assembling) (s : State), (s.up) ∧ (s.portState p ≠ ptMismatch) ∧ (m.bcast = false) ∧ (m.dest = s.nodeId) ∧ (Tab.find s.cmd.asms m.src = some a) ∧ (m.seq = a.last + 1) ∧ (a.bytes.length < 256) :=
  ⟨3, trumpHere [9, 2, 1, 0, 1, 0, 1, 2], 9, { bytes := [1], last := 1 }, { dealing [] with cmd := { CmdSt.init with asms := [(1, { bytes := [1], last := 1 })] } }, by decide +kernel⟩

theorem witness_TrumpSetsAreCountedAndObeyed_17 :
    ∃ (p : Fin 8) (m : Trump) (w : Word) (s : State), (s.up) ∧ (s.portState p ≠ ptMismatch) ∧ (m.bcast = false) ∧ (m.dest = s.nodeId) :=
  ⟨3, trumpHere [9, 2, 1, 0, 1, 0, 1, 2], 9, dealing [], by decide +kernel⟩

theorem witness_TrumpSetsAreCountedAndObeyed_18 :
    ∃ (p : Fin 8) (m : Trump) (s : State), (s.up) ∧ (s.portState p = ptDisabled) ∧ ((s.port p).heard = 0) :=
  ⟨3, trumpHere [9, 2, 1, 0, 1, 0, 1, 2], dealing [(.FAB_P_STATUS_STATE 3, ptDisabled)], by decide +kernel⟩

theorem witness_TrumpSetsAreCountedAndObeyed_19 :
    ∃ (p : Fin 8) (m : Trump) (s : State), (s.up) ∧ (s.portState p ≠ ptIdent) ∧ (s.portState p ≠ ptDisabled) :=
  ⟨3, trumpHere [9, 2, 1, 0, 1, 0, 1, 2], dealing [(.FAB_P_STATUS_STATE 3, ptUp)], by decide +kernel⟩

theorem witness_TrumpSetsAreCountedAndObeyed_20 :
    ∃ (p : Fin 8) (w : Word) (s : State), (s.up) ∧ (s.fabSilent = true) ∧ ((∀ e ∈ (s.port p).prio ++ (s.port p).ord, trumpDisc e.1.type = false)) :=
  ⟨3, 9, loading [], by decide +kernel⟩

theorem witness_TrumpSetsAreCountedAndObeyed_21 :
    ∃ (p : Fin 8) (w : Word) (c : TrumpCopy) (m : Trump) (s : State), (s.up) ∧ (c.errs = 0) ∧ (trumpOf c.data = some m) ∧ (trumpKnown m.type = true) :=
  ⟨3, 9, ⟨0, setBytes, 0⟩, { trumpHere [0, 0, 0, 0, 0, 0, 0, 0] with type := 1 }, dealing [(.FAB_P_STATUS_STATE 3, ptUp)], by decide +kernel⟩

theorem witness_TrumpSetsAreCountedAndObeyed_22 :
    ∃ (p : Fin 8) (m : Trump) (w : Word) (a : Assembling) (bs fr : List Byte) (s : State), (s.up) ∧ (s.portState p ≠ ptMismatch) ∧ (m.bcast = false) ∧ (m.dest = s.nodeId) ∧ (Tab.find s.cmd.asms m.src = some a) ∧ (m.seq = a.last + 1) ∧ (a.bytes.length < 256) ∧ (bs = a.bytes ++ m.args.take 8) ∧ (fr = bs.take (20 + frameLength bs)) ∧ (ceilDiv (20 + frameLength bs) 8 * 8 = bs.length) ∧ (bitOf (frameNum fr 1 1) 0 = false) ∧ (s.relays fr = false) ∧ (s.intakeFull = false) ∧ (frameCrcOk fr = true) :=
  ⟨3, { trumpHere ((Sys2Proof.Tests.sealed 1 5).drop 16 ++ [0, 0, 0, 0]) with seq := 2 }, 9, ⟨(Sys2Proof.Tests.sealed 1 5).take 16, 1⟩, Sys2Proof.Tests.sealed 1 5 ++ [0, 0, 0, 0], Sys2Proof.Tests.sealed 1 5, { dealing [] with cmd := { CmdSt.init with asms := [(1, ⟨(Sys2Proof.Tests.sealed 1 5).take 16, 1⟩)] } }, by decide +kernel⟩

theorem witness_TrumpSetsAreCountedAndObeyed_23 :
    ∃ (p : Fin 8) (m : Trump) (w : Word) (r : RelayRec) (s : State), (s.up) ∧ (s.portState p ≠ ptMismatch) ∧ (m.bcast = false) ∧ (m.dest = s.nodeId) ∧ (s.cmd.relays = [r]) ∧ (r.target = m.src) ∧ (r.session = Trump_arg m 0 2) ∧ (r.seq = Trump_arg m 2 4) ∧ (r.alive = Trump_arg m 6 1) ∧ (r.origin.transport = 0) ∧ (s.bankerUp = true) :=
  ⟨3, trumpHere [5, 0, 9, 0, 0, 0, 2, 0], 9, ⟨udpHost, 1, 5, 9, 2, 1⟩, { dealing [(.HST_MB_STATUS_BANKER_UP, 1)] with cmd := { CmdSt.init with relays := [⟨udpHost, 1, 5, 9, 2, 1⟩] } }, by decide +kernel⟩

theorem witness_TrumpSetsAreCountedAndObeyed_24 :
    ∃ (p : Fin 8) (m : Trump) (w : Word) (r : RelayRec) (s : State), (s.up) ∧ (s.portState p ≠ ptMismatch) ∧ (m.bcast = false) ∧ (m.dest = s.nodeId) ∧ (s.cmd.relays = [r]) ∧ (r.target = m.src) ∧ (r.session = Trump_arg m 0 2) ∧ (r.seq = Trump_arg m 2 4) ∧ (r.alive = Trump_arg m 6 1) ∧ (r.origin.transport = 0) ∧ (s.bankerUp = false) :=
  ⟨3, trumpHere [5, 0, 9, 0, 0, 0, 2, 0], 9, ⟨udpHost, 1, 5, 9, 2, 1⟩, { dealing [] with cmd := { CmdSt.init with relays := [⟨udpHost, 1, 5, 9, 2, 1⟩] } }, by decide +kernel⟩

theorem witness_TrumpSetsAreCountedAndObeyed_25 :
    ∃ (p : Fin 8) (m : Trump) (w : Word) (l : Nat) (s : State), (s.up) ∧ (s.logRoom) ∧ (s.portState p ≠ ptMismatch) ∧ (m.bcast = false) ∧ (m.dest = s.nodeId) ∧ ((s.port p).ord.length < 32) ∧ (Tab.get 256 s.fab.seqIn m.src = l) ∧ (l ≠ 256) ∧ (m.seq.toNat ≠ (l + 1) % 256) :=
  ⟨3, trumpHere [0, 0, 0, 0, 0, 0, 0, 0], 9, 255, { dealing [(.FAB_P_STATUS_STATE 3, ptUp)] with fab := { FabSt.init with seqIn := [(1, 255)] } }, by decide +kernel⟩

theorem witness_BankerSendsReceivesAndCommitsWalls_0 :
    ∃ (s : State), (s.up) ∧ (trumpHw (s.get .FAB_TX_CTRL_TYPE) = true) :=
  ⟨dealing [(.FAB_TX_CTRL_TYPE, 8)], by decide +kernel⟩

theorem witness_BankerSendsReceivesAndCommitsWalls_1 :
    ∃ (s : State), (s.up) ∧ (trumpHw (s.get .FAB_TX_CTRL_TYPE) = false) ∧ ((∀ p < 8, (s.port p).prio = [] ∧ (s.port p).ord = [])) :=
  ⟨dealing [(.FAB_TX_CTRL_TYPE, 0x10), (.FAB_TX_CTRL_DEST, 3)], by decide +kernel⟩

theorem witness_BankerSendsReceivesAndCommitsWalls_2 :
    ∃ (s : State), (s.up) :=
  ⟨{ dealing [] with fab := { FabSt.init with fifo := [(trumpHere [7], 3)] } }, by decide +kernel⟩

theorem witness_BankerSendsReceivesAndCommitsWalls_3 :
    ∃ (s : State), (s.up) :=
  ⟨{ dealing [] with fab := { FabSt.init with fifo := [(trumpHere [7], 3)] } }, by decide +kernel⟩

theorem witness_BankerSendsReceivesAndCommitsWalls_4 :
    ∃ (s : State), (s.up) :=
  ⟨dealing [], by decide +kernel⟩

theorem witness_BankerSendsReceivesAndCommitsWalls_5 :
    ∃ (n : Fin 64) (s : State), (s.up) ∧ ((Tab.find s.cmd.asms n).isSome = true) :=
  ⟨1, { dealing [] with cmd := { CmdSt.init with asms := [(1, { bytes := [1], last := 1 })] } }, by decide +kernel⟩

theorem witness_BankerSendsReceivesAndCommitsWalls_6 :
    ∃ (s : State), (s.up) ∧ (s.wall.coord.isSome = true) :=
  ⟨{ dealing [] with wall := { WallSt.init with coord := some wallCoord } }, by decide +kernel⟩

theorem witness_BankerSendsReceivesAndCommitsWalls_7 :
    ∃ (s : State), (s.up) ∧ (s.wall.coord = none) ∧ (2 ≤ wordDiff (s.word Reg.CMP_WALL_TARGET) (s.tick + 1)) ∧ (wordDiff (s.word Reg.CMP_WALL_TARGET) (s.tick + 1) ≤ 15) ∧ ((s.wallDesc (s.get .CMP_WALL_REQ_LAYOUT)).isSome = true) :=
  ⟨withWords [(Reg.CMP_WALL_TARGET, 5)] { dealing [(.CMP_WALL_REQ_LAYOUT, 0)] with image := wallImage }, by decide +kernel⟩

theorem witness_BankerSendsReceivesAndCommitsWalls_8 :
    ∃ (s : State), (s.up) ∧ (s.wall.coord = none) ∧ (wordDiff (s.word Reg.CMP_WALL_TARGET) (s.tick + 1) < 2) ∧ ((s.wallDesc (s.get .CMP_WALL_REQ_LAYOUT)).isSome = true) :=
  ⟨withWords [(Reg.CMP_WALL_TARGET, 2)] { dealing [(.CMP_WALL_REQ_LAYOUT, 0)] with image := wallImage }, by decide +kernel⟩

theorem witness_BankerSendsReceivesAndCommitsWalls_9 :
    ∃ (s : State), (s.up) ∧ (s.wall.coord = none) ∧ ((15 < wordDiff (s.word Reg.CMP_WALL_TARGET) (s.tick + 1) ∨ (s.wallDesc (s.get .CMP_WALL_REQ_LAYOUT)).isNone = true)) :=
  ⟨withWords [(Reg.CMP_WALL_TARGET, 20)] { dealing [(.CMP_WALL_REQ_LAYOUT, 0)] with image := wallImage }, by decide +kernel⟩

theorem witness_BankerSendsReceivesAndCommitsWalls_10 :
    ∃ (c : WallCoord) (s : State), (s.up) ∧ (s.wall.coord = some c) ∧ (c.sent = false) ∧ (0 ≤ wordDiff s.tick c.m) ∧ (s.unsync = true) :=
  ⟨wallCoord, { dealing [] with wall := { WallSt.init with coord := some wallCoord } }, by decide +kernel⟩

theorem witness_BankerSendsReceivesAndCommitsWalls_11 :
    ∃ (c : WallCoord) (s : State), (s.up) ∧ (s.wall.coord = some c) ∧ (c.sent = false) ∧ (0 ≤ wordDiff s.tick c.m) ∧ (s.unsync = false) :=
  ⟨wallCoord, { dealing [(.DLR_STATUS_TICK_LOCKED, 1)] with image := wallImage, wall := { WallSt.init with coord := some wallCoord } }, by decide +kernel⟩

theorem witness_BankerSendsReceivesAndCommitsWalls_12 :
    ∃ (x : Trump) (q : Nat) (fs : List (Trump × Nat)) (w : Word) (s : State), (s.up) ∧ (s.bankerUp = true) ∧ (s.fab.fifo = (x, q) :: fs) ∧ (x.type = tWallPrepare) :=
  ⟨{ trumpHere [1, 0, 2, 0] with type := tWallPrepare }, 3, [], 9, { dealing [(.HST_MB_STATUS_BANKER_UP, 1)] with image := wallImage, fab := { FabSt.init with fifo := [({ trumpHere [1, 0, 2, 0] with type := tWallPrepare }, 3)] } }, by decide +kernel⟩

theorem witness_BankerSendsReceivesAndCommitsWalls_13 :
    ∃ (x : Trump) (q : Nat) (fs : List (Trump × Nat)) (c : WallCoord) (s : State), (s.up) ∧ (s.bankerUp = true) ∧ (s.fab.fifo = (x, q) :: fs) ∧ (x.type = tWallVote) ∧ (s.wall.coord = some c) ∧ (c.id = Trump_arg x 0 1) ∧ (c.decided = none) ∧ (wordDiff s.tick (c.m + BitVec.ofNat 32 (c.d - 1)) < 0) ∧ ((s.wallMembers c).contains x.src = true) ∧ (c.votes.any (·.1 == x.src) = false) :=
  ⟨{ trumpHere [4, 0] with type := tWallVote }, 3, [], { wallCoord with sent := true, m := 1 }, { dealing [(.HST_MB_STATUS_BANKER_UP, 1)] with image := wallImage, wall := { WallSt.init with coord := some { wallCoord with sent := true, m := 1 } }, fab := { FabSt.init with fifo := [({ trumpHere [4, 0] with type := tWallVote }, 3)] } }, by decide +kernel⟩

theorem witness_BankerSendsReceivesAndCommitsWalls_14 :
    ∃ (c : WallCoord) (w : Word) (s : State), (s.up) ∧ (s.wall.coord = some c) ∧ (c.sent = true) ∧ (c.decided = none) ∧ (0 ≤ wordDiff s.tick (c.m + BitVec.ofNat 32 (c.d - 1))) :=
  ⟨{ wallCoord with sent := true }, 9, { withWords [(Reg.DLR_TICK_COUNT, 9)] (dealing []) with image := wallImage, wall := { WallSt.init with coord := some { wallCoord with sent := true } } }, by decide +kernel⟩

theorem witness_BankerSendsReceivesAndCommitsWalls_15 :
    ∃ (x : Trump) (q : Nat) (fs : List (Trump × Nat)) (w : Word) (s : State), (s.up) ∧ (s.bankerUp = true) ∧ (s.fab.fifo = (x, q) :: fs) ∧ (x.type = tWallDecide) :=
  ⟨{ trumpHere [4, 1] with type := tWallDecide }, 3, [], 9, { dealing [(.HST_MB_STATUS_BANKER_UP, 1)] with image := wallImage, fab := { FabSt.init with fifo := [({ trumpHere [4, 1] with type := tWallDecide }, 3)] } }, by decide +kernel⟩

theorem witness_BankerSendsReceivesAndCommitsWalls_16 :
    ∃ (p : WallPart) (s : State), (s.up) ∧ (s.wall.part = some p) ∧ (s.wall.left = []) ∧ (p.released = false) ∧ (p.dropped = false) ∧ (p.coord ≠ s.nodeId) ∧ (0 ≤ wordDiff s.tick (p.m + BitVec.ofNat 32 (p.d - 1))) :=
  ⟨{ id := 4, coord := 1, m := 0, d := 2, change := 7, released := false, dropped := false }, { withWords [(Reg.DLR_TICK_COUNT, 9)] (dealing [(.CMP_COMMIT_WALL_ARMED, 1)]) with wall := { WallSt.init with part := some { id := 4, coord := 1, m := 0, d := 2, change := 7, released := false, dropped := false } } }, by decide +kernel⟩

theorem witness_BankerSendsReceivesAndCommitsWalls_17 :
    ∃ (x : Trump) (q : Nat) (fs : List (Trump × Nat)) (s : State), (s.up) ∧ (s.cmd.runs = []) ∧ (s.bankerUp = true) ∧ (s.fab.fifo = (x, q) :: fs) ∧ (x.type = tWallOutcome) :=
  ⟨{ trumpHere [4, 1] with type := tWallOutcome }, 3, [], { dealing [(.HST_MB_STATUS_BANKER_UP, 1)] with fab := { FabSt.init with fifo := [({ trumpHere [4, 1] with type := tWallOutcome }, 3)] } }, by decide +kernel⟩

theorem witness_BankerSendsReceivesAndCommitsWalls_18 :
    ∃ (x : Trump) (q : Nat) (fs : List (Trump × Nat)) (w : Word) (m e : Word) (d : WallDesc) (s : State), (s.dealing = true) ∧ (s.bankerUp = true) ∧ (s.fab.fifo = (x, q) :: fs) ∧ (x.type = tWallPrepare) ∧ (s.unsync = false) ∧ (s.latestEdge 16 (Trump_arg x 3 1) w = some (m, e)) ∧ (s.wallDesc (Trump_arg x 1 1) = some d) ∧ (d.members.contains s.nodeId = true) ∧ (x.src ≠ s.nodeId) ∧ (s.wallArmed = false) ∧ (s.dealer.changes.length < 4) :=
  ⟨{ trumpHere [1, 0, 2, 0] with type := tWallPrepare }, 3, [], 9000, 0, 0, { members := [0, 1], layout := 0 }, { dealing [(.HST_MB_STATUS_BANKER_UP, 1), (.DLR_STATUS_TICK_LOCKED, 1)] with image := wallImage, fab := { FabSt.init with fifo := [({ trumpHere [1, 0, 2, 0] with type := tWallPrepare }, 3)] }, dealer := { Dealer.init with history := [(0, 0)] } }, by decide +kernel⟩

theorem witness_BankerSendsReceivesAndCommitsWalls_19 :
    ∃ (x : Trump) (q : Nat) (fs : List (Trump × Nat)) (w : Word) (p : WallPart) (k : Change) (s : State), (s.up) ∧ (s.bankerUp = true) ∧ (s.fab.fifo = (x, q) :: fs) ∧ (x.type = tWallDecide) ∧ (s.wall.part = some p) ∧ (p.coord = x.src) ∧ (p.id = Trump_arg x 0 1) ∧ (Trump_arg x 1 1 = 1) ∧ (p.dropped = false) ∧ (p.released = false) ∧ (s.beforeCutoff p w = true) ∧ (s.dealer.changes.find? (fun c => c.id == p.change && c.armed) = some k) :=
  ⟨{ trumpHere [4, 1] with type := tWallDecide }, 3, [], 9, { id := 4, coord := 1, m := 0, d := 2, change := 7, released := false, dropped := false }, { id := 7, kind := .wall [] none, stage := .armed, place := [], dueTick := 0 }, { dealing [(.HST_MB_STATUS_BANKER_UP, 1), (.CMP_COMMIT_WALL_ARMED, 1)] with wall := { WallSt.init with part := some { id := 4, coord := 1, m := 0, d := 2, change := 7, released := false, dropped := false } }, dealer := { Dealer.init with changes := [{ id := 7, kind := .wall [] none, stage := .armed, place := [], dueTick := 0 }] }, fab := { FabSt.init with fifo := [({ trumpHere [4, 1] with type := tWallDecide }, 3)] } }, by decide +kernel⟩

theorem witness_BankerSendsReceivesAndCommitsWalls_20 :
    ∃ (x : Trump) (q : Nat) (fs : List (Trump × Nat)) (c : WallCoord) (s : State), (s.up) ∧ (s.cmd.runs = []) ∧ (s.bankerUp = true) ∧ (s.fab.fifo = (x, q) :: fs) ∧ (x.type = tWallOutcome) ∧ (s.wall.coord = some c) ∧ (c.id = Trump_arg x 0 1) ∧ ((s.wallMembers c).contains x.src = true) ∧ (c.outcomes.any (·.1 == x.src) = false) :=
  ⟨{ trumpHere [4, 1] with type := tWallOutcome }, 3, [], { wallCoord with sent := true, decided := some true }, { dealing [(.HST_MB_STATUS_BANKER_UP, 1)] with image := wallImage, wall := { WallSt.init with coord := some { wallCoord with sent := true, decided := some true } }, fab := { FabSt.init with fifo := [({ trumpHere [4, 1] with type := tWallOutcome }, 3)] } }, by decide +kernel⟩

theorem witness_BankerSendsReceivesAndCommitsWalls_21 :
    ∃ (c : WallCoord) (s : State), (s.up) ∧ (s.wall.coord = some c) ∧ (c.sent = false) ∧ (0 ≤ wordDiff s.tick c.m) ∧ (s.unsync = false) ∧ (s.bankerUp = false) ∧ (s.bankerRestarting = false) :=
  ⟨wallCoord, { dealing [(.DLR_STATUS_TICK_LOCKED, 1), (.BKR_STATUS_RUN, 0)] with image := wallImage, wall := { WallSt.init with coord := some wallCoord } }, by decide +kernel⟩

theorem witness_BankerSendsReceivesAndCommitsWalls_22 :
    ∃ (c : Change) (p : WallPart) (sh : Tab Word) (y : Option Nat) (s : State), (s.up) ∧ (s.bankerUp = false) ∧ (s.nextChange = some c) ∧ (c.kind = .wall sh y) ∧ (s.wallParts.find? (·.change == c.id) = some p) :=
  ⟨{ id := 7, kind := .wall [] none, stage := .waiting, place := [], dueTick := 0 }, { id := 4, coord := 1, m := 0, d := 2, change := 7, released := false, dropped := false }, [], none, { dealing [] with wall := { WallSt.init with part := some { id := 4, coord := 1, m := 0, d := 2, change := 7, released := false, dropped := false } }, dealer := { Dealer.init with changes := [{ id := 7, kind := .wall [] none, stage := .waiting, place := [], dueTick := 0 }] } }, by decide +kernel⟩

theorem witness_DramReadsReturnWhatWasWritten_0_1 :
    ∃ (w : MemWrite) (u b : Nat) (s : State), (s.up) ∧ (s.memMap w.addr = some (u, b)) ∧ (s.scState u ≠ scFailed) ∧ (w.addr % 256 = 0) ∧ (w.bytes.length = 256) ∧ ((s.sub u).wq.length < 64) ∧ ((s.sub u).held = []) ∧ ((∀ q ∈ (s.sub u).rq, q.req.addr / 256 ≠ w.addr / 256)) :=
  ⟨{ port := 0, addr := 0x100000300, bytes := List.replicate 256 9, errs := [] }, 1, 1, dealing [(.MEM_SC_STATUS_STATE 1, scReady), (.MEM_STATUS_STATE, memReady)], by decide +kernel⟩

theorem witness_DramReadsReturnWhatWasWritten_1 :
    ∃ (w : MemWrite) (u b : Nat) (s : State), (s.up) ∧ (s.memMap w.addr = some (u, b)) ∧ (s.scState u ≠ scFailed) ∧ (0 < w.bytes.length) ∧ (w.addr % 256 + w.bytes.length < 256) ∧ ((s.sub u).queued b = true) ∧ ((s.sub u).held = []) ∧ ((s.sub u).targets = []) ∧ ((∀ q ∈ (s.sub u).rq, q.req.addr / 256 ≠ w.addr / 256)) :=
  ⟨{ port := 0, addr := 0x100000310, bytes := [1, 2, 3], errs := [] }, 1, 1, { dealing [(.MEM_SC_STATUS_STATE 1, scReady), (.MEM_STATUS_STATE, memReady), (.MEM_SC_STATUS_WQ 1, 1)] with mem := { MemSt.init with subs := [(1, { SubSt.init with wq := [⟨1, 0, false⟩] })] } }, by decide +kernel⟩

theorem witness_DramReadsReturnWhatWasWritten_2 :
    ∃ (w : MemWrite) (s : State), (s.up) ∧ (s.logRoom) ∧ (s.memMap w.addr = none) :=
  ⟨{ port := 0, addr := 0xFFFFFFFF, bytes := [1, 2, 3], errs := [] }, dealing [], by decide +kernel⟩

theorem witness_DramReadsReturnWhatWasWritten_3 :
    ∃ (q : MemReq) (u b : Nat) (s : State), (s.up) ∧ (s.memMap q.addr = some (u, b)) ∧ ((∀ v < 8, s.subIssues v = false)) :=
  ⟨memReq, 1, 1, dealing [], by decide +kernel⟩

theorem witness_DramReadsReturnWhatWasWritten_4 :
    ∃ (q : MemReq) (u b : Nat) (s : State), (s.up) ∧ (u < 8) ∧ (s.memMap q.addr = some (u, b)) ∧ (s.subIssues u = true) ∧ (s.scState u = scReady) ∧ ((∀ v < 8, (s.sub v).rq = [])) ∧ ((s.sub u).targets = []) ∧ (q.errs = []) ∧ (q.use ≠ .scrub) ∧ (s.chkDiff q.addr = 0) :=
  ⟨memReq, 1, 1, dealing [(.MEM_SC_STATUS_STATE 1, scReady), (.MEM_STATUS_STATE, memReady)], by decide +kernel⟩

theorem witness_DramReadsReturnWhatWasWritten_5 :
    ∃ (q : MemReq) (s : State), (s.up) ∧ (s.logRoom) ∧ (s.memMap q.addr = none) ∧ ((∀ v < 8, s.subIssues v = false)) :=
  ⟨{ memReq with addr := 5 }, dealing [], by decide +kernel⟩

theorem witness_DramReadsReturnWhatWasWritten_6 :
    ∃ (q : MemReq) (u b : Nat) (s : State), (s.up) ∧ (u < 8) ∧ (s.memMap q.addr = some (u, b)) ∧ (s.subIssues u = true) ∧ (s.scState u = scReady) ∧ ((∀ v < 8, (s.sub v).rq = [])) ∧ ((s.sub u).queued b = true) ∧ (q.use ≠ .scrub) ∧ (s.chkDiff q.addr ≠ 0) :=
  ⟨memReq, 1, 1, { dealing [(.MEM_SC_STATUS_STATE 1, scReady), (.MEM_STATUS_STATE, memReady)] with mem := { MemSt.init with chk := [(3, 1)], subs := [(1, { SubSt.init with wq := [⟨1, 0, false⟩] })] } }, by decide +kernel⟩

theorem witness_DramReadsReturnWhatWasWritten_7 :
    ∃ (w : MemWrite) (u b : Nat) (s : State), (s.up) ∧ (s.memMap w.addr = some (u, b)) ∧ (s.scState u ≠ scFailed) ∧ (((s.sub u).rq.any (fun q => q.req.addr / 256 == w.addr / 256) = true ∨ ((s.sub u).queued b = false ∧ (64 ≤ (s.sub u).wq.length ∨ ((MemWrite_bytes w).length ≠ 256 ∧ s.subIssues u = false))))) ∧ ((s.sub u).held = []) :=
  ⟨{ port := 0, addr := 0x100000310, bytes := [1, 2, 3], errs := [] }, 1, 1, { dealing [(.MEM_SC_STATUS_STATE 1, scReady), (.MEM_STATUS_STATE, memReady)] with mem := { MemSt.init with subs := [(1, { SubSt.init with wq := List.replicate 64 ⟨9, 0, false⟩ })] } }, by decide +kernel⟩

theorem witness_DramReadsReturnWhatWasWritten_8 :
    ∃ (w : MemWrite) (u b : Nat) (s : State), (s.up) ∧ (s.memMap w.addr = some (u, b)) ∧ (s.scState u = scFailed) ∧ ((s.sub u).held = []) :=
  ⟨{ port := 0, addr := 0x100000310, bytes := [1, 2, 3], errs := [] }, 1, 1, dealing [(.MEM_SC_STATUS_STATE 1, scFailed), (.MEM_STATUS_STATE, memReady), (.MEM_STATUS_SC_FAILED, 1)], by decide +kernel⟩

theorem witness_TheControllerTrainsRefreshesAndRecovers_0 :
    ∃ (u : Fin 8) (n : Nat) (due : List (Nat × Fin 2)) (s : State), (s.up) ∧ ((s.sub u).wq = []) ∧ ((s.sub u).held = []) :=
  ⟨1, 3, [(1, 0)], dealing [], by decide +kernel⟩

theorem witness_TheControllerTrainsRefreshesAndRecovers_1 :
    ∃ (u : Fin 8) (n : Nat) (s : State), (s.up) ∧ (s.subIssues u = true) ∧ (s.scState u = scReady) ∧ (0 < (s.sub u).wq.length) ∧ (s.get .MEM_WQ_WQ_HIGH ≤ (s.sub u).wq.length) ∧ (s.get .MEM_WQ_WQ_LOW ≤ (s.sub u).wq.length) ∧ ((s.sub u).held = []) ∧ ((∀ e ∈ (s.sub u).wq, e.spare = false)) :=
  ⟨1, 0, { dealing [(.MEM_SC_STATUS_STATE 1, scReady), (.MEM_STATUS_STATE, memReady), (.MEM_WQ_WQ_HIGH, 3), (.MEM_WQ_WQ_LOW, 1)] with mem := { MemSt.init with subs := [(1, { SubSt.init with wq := [⟨1, 0, false⟩, ⟨2, 0, false⟩, ⟨3, 5, false⟩] })] } }, by decide +kernel⟩

theorem witness_TheControllerTrainsRefreshesAndRecovers_2 :
    ∃ (u : Fin 8) (k b r : Nat) (xs : List (Nat × Nat × Nat)) (s : State), (s.up) ∧ (s.scState u = scReady) ∧ ((s.sub u).targets = (k, b, r) :: xs) :=
  ⟨1, 0, 1, 1, [], { dealing [(.MEM_SC_STATUS_STATE 1, scReady), (.MEM_STATUS_STATE, memReady)] with mem := { MemSt.init with subs := [(1, { SubSt.init with targets := [(0, 1, 1)] })] } }, by decide +kernel⟩

theorem witness_TheControllerTrainsRefreshesAndRecovers_3 :
    ∃ (u : Fin 8) (r : Fin 2) (s : State), (s.up) ∧ (r.val < s.memRanks) ∧ (s.scState u = scReady) ∧ (((s.sub u).rank r).debt < 0) :=
  ⟨1, 0, { dealing [(.MEM_SC_STATUS_STATE 1, scReady)] with mem := { MemSt.init with subs := [(1, { SubSt.init with ranks := [(0, { RankSt.init with debt := -1 })] })] } }, by decide +kernel⟩

theorem witness_TheControllerTrainsRefreshesAndRecovers_4 :
    ∃ (u : Fin 8) (r : Fin 2) (s : State), (s.up) ∧ (r.val < s.memRanks) ∧ (s.scState u = scReady) ∧ (0 ≤ ((s.sub u).rank r).debt) :=
  ⟨1, 0, dealing [(.MEM_SC_STATUS_STATE 1, scReady)], by decide +kernel⟩

theorem witness_TheControllerTrainsRefreshesAndRecovers_5 :
    ∃ (u : Fin 8) (r : Fin 2) (s : State), (s.up) ∧ (s.logRoom) ∧ (r.val < s.memRanks) ∧ (s.scState u ≠ 0) ∧ (s.scState u ≠ scReplay) ∧ (s.scState u ≠ scFailed) :=
  ⟨1, 0, dealing [(.MEM_SC_STATUS_STATE 1, scReady)], by decide +kernel⟩

theorem witness_TheControllerTrainsRefreshesAndRecovers_6 :
    ∃ (u : Fin 8) (d : Int) (s : State), (s.up) ∧ (s.get .MEM_STATUS_STATE = memReady) ∧ (u.val < s.memSubs) :=
  ⟨1, -3, dealing [(.MEM_STATUS_STATE, memReady)], by decide +kernel⟩

theorem witness_TheControllerTrainsRefreshesAndRecovers_7 :
    ∃ (u : Fin 8) (s : State), (s.up) ∧ (u.val < s.memSubs) ∧ (s.on .MEM_CFG_CA_PAR = false) ∧ (s.mem.stalled = []) :=
  ⟨1, dealing [(.MEM_CFG_CA_PAR, 0)], by decide +kernel⟩

theorem witness_TheControllerTrainsRefreshesAndRecovers_8 :
    ∃ (u : Fin 8) (s : State), (s.up) ∧ (u.val < s.memSubs) ∧ (s.on .MEM_CFG_CA_PAR = true) ∧ (s.scState u = scReady) ∧ ((s.sub u).alerts < 3) ∧ (s.mem.stalled = []) :=
  ⟨1, dealing [(.MEM_SC_STATUS_STATE 1, scReady), (.MEM_CFG_CA_PAR, 1)], by decide +kernel⟩

theorem witness_TheControllerTrainsRefreshesAndRecovers_9 :
    ∃ (u : Fin 8) (s : State), (s.up) ∧ (s.scState u = scReplay) ∧ ((s.sub u).low = true) ∧ (s.mem.stalled = []) :=
  ⟨1, { dealing [(.MEM_SC_STATUS_STATE 1, scReplay)] with mem := { MemSt.init with subs := [(1, { SubSt.init with low := true })] } }, by decide +kernel⟩

theorem witness_TheControllerTrainsRefreshesAndRecovers_10 :
    ∃ (u : Fin 8) (s : State), (s.up) ∧ (s.scState u = scReplay) ∧ ((s.sub u).low = true) ∧ ((s.sub u).rq = []) ∧ ((s.sub u).held = []) ∧ ((s.sub u).wq.length < s.get .MEM_WQ_WQ_HIGH) ∧ (s.mem.scrubLeft = 0) ∧ (s.mem.stalled = []) :=
  ⟨1, { dealing [(.MEM_SC_STATUS_STATE 1, scReplay)] with mem := { MemSt.init with subs := [(1, { SubSt.init with low := true, cmds := [.refresh 0], alerts := 2 })] } }, by decide +kernel⟩

theorem witness_TheControllerTrainsRefreshesAndRecovers_11 :
    ∃ (u : Fin 8) (v : List Nat) (s : State), (s.up) ∧ (s.get .MEM_STATUS_STATE = memTraining) ∧ (s.get .MEM_TRAIN_RESULT = 1) ∧ (s.on .MEM_FREQ_PENDING = false) ∧ (s.get .MEM_TRAIN_STEP < 5) ∧ ((∀ u < 8, (s.sub u).stepAlert = false)) ∧ (u.val < s.memSubs) :=
  ⟨1, [7, 8], loading [(.MEM_STATUS_STATE, memTraining), (.MEM_TRAIN_RESULT, 1), (.MEM_TRAIN_STEP, 4)], by decide +kernel⟩

theorem witness_TheControllerTrainsRefreshesAndRecovers_12 :
    ∃ (k : Fin 4) (s : State), (s.dealing = true) :=
  ⟨2, dealing [], by decide +kernel⟩

theorem witness_TheControllerTrainsRefreshesAndRecovers_13 :
    ∃ (k : Fin 4) (s : State), (s.up) ∧ (s.dealing = false) ∧ (s.get .MEM_CFG_SPEED < k) :=
  ⟨3, loading [(.MEM_CFG_SPEED, 2)], by decide +kernel⟩

theorem witness_TheControllerTrainsRefreshesAndRecovers_14 :
    ∃ (k : Fin 4) (s : State), (s.up) ∧ (s.dealing = false) ∧ (k.val ≠ 0) ∧ (k.val ≤ s.get .MEM_CFG_SPEED) ∧ (s.get .MEM_STATUS_STATE = memReady) :=
  ⟨2, loading [(.MEM_CFG_SPEED, 2), (.MEM_STATUS_STATE, memReady)], by decide +kernel⟩

theorem witness_TheControllerTrainsRefreshesAndRecovers_15 :
    ∃ (s : State), (s.up) ∧ (s.get .MEM_STATUS_STATE = memInit) ∧ ((∀ u < 16, (s.sub u).rq = [] ∧ (s.sub u).wq = [] ∧ (s.sub u).held = [])) ∧ (s.mem.scrubLeft = 0) ∧ (s.mem.stalled = []) :=
  ⟨{ loading [(.MEM_STATUS_STATE, memInit), (.MEM_STATUS_SPEED, 2), (.MEM_CFG_SPEED, 2)] with dram := [(0x100000000, 1)] }, by decide +kernel⟩

theorem witness_TheControllerTrainsRefreshesAndRecovers_16 :
    ∃ (u b : Nat) (s : State), (s.up) ∧ (s.get .MEM_STATUS_STATE = memInit) ∧ ((∀ v < 8, (s.sub v).rq = [] ∧ (s.sub v).held = [])) ∧ (s.mem.scrubLeft = 0) ∧ (s.mem.stalled = []) ∧ (u < s.memSubs) ∧ ((s.sub u).queued b = true) :=
  ⟨1, 5, { loading [(.MEM_STATUS_STATE, memInit), (.MEM_STATUS_SPEED, 2), (.MEM_CFG_SPEED, 2)] with mem := { MemSt.init with subs := [(1, { SubSt.init with wq := [⟨5, 0, false⟩] })] } }, by decide +kernel⟩

theorem witness_TheControllerTrainsRefreshesAndRecovers_17 :
    ∃ (u : Fin 8) (r : Fin 2) (s : State), (s.up) ∧ (r.val < s.memRanks) ∧ (s.scState u ≠ 0) ∧ (s.scState u ≠ scReplay) ∧ (s.scState u ≠ scFailed) :=
  ⟨1, 0, dealing [(.MEM_SC_STATUS_STATE 1, scReady), (.MEM_STATUS_STATE, memReady)], by decide +kernel⟩

theorem witness_TheControllerTrainsRefreshesAndRecovers_18 :
    ∃ (u : Fin 8) (r : Fin 2) (p : Fin 55) (s : State), (s.up) ∧ (r.val < s.memRanks) ∧ (s.scState u = scReady) ∧ (((s.sub u).rank r).debt < 4) ∧ (Tab.get 0 s.mem.tokens p ≠ 0) :=
  ⟨1, 0, 20, { dealing [(.MEM_SC_STATUS_STATE 1, scReady), (.MEM_STATUS_STATE, memReady)] with mem := { MemSt.init with tokens := [(20, 256)] } }, by decide +kernel⟩

theorem witness_TheControllerTrainsRefreshesAndRecovers_19 :
    ∃ (u : Fin 8) (s : State), (s.up) ∧ (s.scState u ≠ scReady) :=
  ⟨1, dealing [(.MEM_SC_STATUS_STATE 1, scReplay)], by decide +kernel⟩

theorem witness_TheControllerTrainsRefreshesAndRecovers_20 :
    ∃ (u : Fin 8) (r : Fin 2) (m : Mr4Out) (s : State), (s.up) ∧ ((s.scState u = scFailed ∨ s.scState u = scReplay)) :=
  ⟨1, 0, .overLimit, dealing [(.MEM_SC_STATUS_STATE 1, scFailed)], by decide +kernel⟩

theorem witness_TheControllerTrainsRefreshesAndRecovers_21 :
    ∃ (u : Fin 8) (n : Nat) (s : State), (s.up) ∧ (s.subIssues u = true) ∧ (s.scState u = scReady) ∧ (0 < (s.sub u).wq.length) ∧ (s.get .MEM_WQ_WQ_HIGH ≤ (s.sub u).wq.length) ∧ (s.get .MEM_WQ_WQ_LOW ≤ (s.sub u).wq.length) ∧ ((s.sub u).held = []) :=
  ⟨1, 0, { dealing [(.MEM_SC_STATUS_STATE 1, scReady), (.MEM_STATUS_STATE, memReady), (.MEM_WQ_WQ_HIGH, 2), (.MEM_WQ_WQ_LOW, 1)] with mem := { MemSt.init with subs := [(1, { SubSt.init with wq := [⟨1, 2, true⟩, ⟨2, 2, false⟩] })] } }, by decide +kernel⟩

theorem witness_TheControllerTrainsRefreshesAndRecovers_22 :
    ∃ (k : Fin 4) (s : State), (s.up) ∧ (s.dealing = false) ∧ ((k.val ≠ 0 ∨ s.on .MTX_CTRL_REMAP = false)) ∧ (k.val ≤ s.get .MEM_CFG_SPEED) ∧ ((s.get .MEM_STATUS_STATE = memReset ∨ s.get .MEM_STATUS_STATE = memInit)) :=
  ⟨1, loading [(.MEM_STATUS_STATE, memInit), (.MEM_CFG_SPEED, 2)], by decide +kernel⟩

theorem witness_TheControllerTrainsRefreshesAndRecovers_23 :
    ∃ (s : State), (s.up) ∧ (s.dealing = false) ∧ (s.on .MTX_CTRL_REMAP = true) :=
  ⟨loading [(.MTX_CTRL_REMAP, 1)], by decide +kernel⟩

theorem witness_TheControllerTrainsRefreshesAndRecovers_24 :
    ∃ (k : Fin 4) (s : State), (s.up) ∧ (s.dealing = false) ∧ ((k.val ≠ 0 ∨ s.on .MTX_CTRL_REMAP = false)) ∧ (k.val ≤ s.get .MEM_CFG_SPEED) ∧ (s.get .MEM_STATUS_STATE = memTraining) :=
  ⟨1, loading [(.MEM_STATUS_STATE, memTraining), (.MEM_CFG_SPEED, 2)], by decide +kernel⟩

theorem witness_TheTimeUnitKeepsItsRules_0 :
    ∃ (n : Fin 3) (s : State), (s.up) :=
  ⟨2, dealing [(.TIM_STATUS_EPOCH_VALID, 1)], by decide +kernel⟩

theorem witness_TheTimeUnitKeepsItsRules_0_1 :
    ∃ (n : Fin 3) (s : State), (s.up) :=
  ⟨0, dealing [], by decide +kernel⟩

theorem witness_TheTimeUnitKeepsItsRules_1 :
    ∃ (w : Word) (s : State), (s.up) ∧ (0x27FAE148 ≤ w.toNat) ∧ (w.toNat ≤ 0x28051EB8) :=
  ⟨0x27FAE148, dealing [], by decide +kernel⟩

theorem witness_TheTimeUnitKeepsItsRules_1_1 :
    ∃ (w : Word) (s : State), (s.up) ∧ (0x27FAE148 ≤ w.toNat) ∧ (w.toNat ≤ 0x28051EB8) :=
  ⟨0x28051EB8, dealing [], by decide +kernel⟩

theorem witness_TheTimeUnitKeepsItsRules_2 :
    ∃ (w : Word) (s : State), (s.up) ∧ ((w.toNat < 0x27FAE148 ∨ 0x28051EB8 < w.toNat)) :=
  ⟨0x27FAE147, dealing [], by decide +kernel⟩

theorem witness_TheTimeUnitKeepsItsRules_2_1 :
    ∃ (w : Word) (s : State), (s.up) ∧ ((w.toNat < 0x27FAE148 ∨ 0x28051EB8 < w.toNat)) :=
  ⟨0x28051EB9, dealing [], by decide +kernel⟩

theorem witness_TheTimeUnitKeepsItsRules_3 :
    ∃ (w : Word) (s : State), (s.up) ∧ (s.epochValid = false) :=
  ⟨7, dealing [], by decide +kernel⟩

theorem witness_TheTimeUnitKeepsItsRules_4 :
    ∃ (w : Word) (s : State), (s.up) ∧ (s.epochValid = true) :=
  ⟨7, dealing [(.TIM_STATUS_EPOCH_VALID, 1)], by decide +kernel⟩

theorem witness_TheTimeUnitKeepsItsRules_5 :
    ∃ (m : Fin 11) (s : State), (s.up) :=
  ⟨3, dealing [], by decide +kernel⟩

theorem witness_TheTimeUnitKeepsItsRules_6 :
    ∃ (w : Word) (s : State), (s.up) ∧ (s.epochValid = true) :=
  ⟨7, dealing [(.TIM_STATUS_EPOCH_VALID, 1)], by decide +kernel⟩

theorem witness_TheTimeUnitKeepsItsRules_7 :
    ∃ (w : Word) (s : State), (s.up) ∧ (s.epochValid = false) :=
  ⟨7, dealing [], by decide +kernel⟩

theorem witness_TheTimeUnitKeepsItsRules_8 :
    ∃ (s : State), (s.up) ∧ (s.on .TIM_STATUS_OFF_VALID = true) :=
  ⟨dealing [(.TIM_STATUS_OFF_VALID, 1)], by decide +kernel⟩

theorem witness_TheTimeUnitKeepsItsRules_9 :
    ∃ (s : State), (s.up) :=
  ⟨dealing [], by decide +kernel⟩

theorem witness_TheTimeUnitKeepsItsRules_10 :
    ∃ (s : State), (s.up) ∧ (s.on .TIM_STATUS_SERVO_LOCKED = true) :=
  ⟨dealing [(.TIM_STATUS_SERVO_LOCKED, 1)], by decide +kernel⟩

theorem witness_TheTimeUnitKeepsItsRules_11 :
    ∃ (s : State), (s.up) ∧ (s.on .TIM_STATUS_SERVO_LOCKED = true) ∧ (s.get .DLR_TICK_CFG_TICK_SRC = 2) :=
  ⟨dealing [(.TIM_STATUS_SERVO_LOCKED, 1), (.DLR_TICK_CFG_TICK_SRC, 2)], by decide +kernel⟩

theorem witness_TheTimeUnitKeepsItsRules_12 :
    ∃ (s : State), (s.up) :=
  ⟨dealing [(.TIM_STATUS_OFF_VALID, 1)], by decide +kernel⟩

theorem witness_TheTimeUnitKeepsItsRules_13 :
    ∃ (d : Byte) (s : State), (s.up) ∧ ((s.word Reg.TIM_GM_ID_HI ++ s.word Reg.TIM_GM_ID_LO ≠ s.time.gmId ∨ d.toNat ≠ s.time.gmDom)) :=
  ⟨4, dealing [(.TIM_UTC_VALID, 1), (.TIM_GM_DOM_GEN, 255)], by decide +kernel⟩

theorem witness_TheTimeUnitKeepsItsRules_14 :
    ∃ (d : Byte) (s : State), (s.up) ∧ (s.word Reg.TIM_GM_ID_HI ++ s.word Reg.TIM_GM_ID_LO = s.time.gmId) ∧ (d.toNat = s.time.gmDom) :=
  ⟨0, dealing [], by decide +kernel⟩

theorem witness_TheTimeUnitKeepsItsRules_15 :
    ∃ (v : BitVec 16) (s : State), (s.up) :=
  ⟨37, dealing [], by decide +kernel⟩

theorem witness_TriggersPulsesAndStamps_0 :
    ∃ (c : Fin 64) (w : Word) (s : State), (s.up) ∧ (s.on (.TIM_TRG_CFG_OWNER c) = true) :=
  ⟨5, 9, dealing [(.TIM_TRG_CFG_OWNER 5, 1)], by decide +kernel⟩

theorem witness_TriggersPulsesAndStamps_1 :
    ∃ (c : Fin 64) (w : Word) (s : State), (s.up) ∧ (s.on (.TIM_TRG_CFG_OWNER c) = false) ∧ (s.chansRun = false) :=
  ⟨5, 9, loading [(.TIM_TRG_CFG_MODE 5, 1)], by decide +kernel⟩

theorem witness_TriggersPulsesAndStamps_1_1 :
    ∃ (c : Fin 64) (w : Word) (s : State), (s.up) ∧ (s.on (.TIM_TRG_CFG_OWNER c) = false) ∧ (s.chansRun = false) :=
  ⟨5, 9, loading [(.TIM_TRG_CFG_MODE 5, 2)], by decide +kernel⟩

theorem witness_TriggersPulsesAndStamps_2 :
    ∃ (c : Fin 64) (w : Word) (s : State), (s.up) ∧ (s.trgDue c w = false) :=
  ⟨5, 9, dealing [], by decide +kernel⟩

theorem witness_TriggersPulsesAndStamps_3 :
    ∃ (c : Fin 64) (w : Word) (s : State), (s.up) ∧ (s.trgDue c w = true) ∧ ((∀ g < 8, s.get (.AUD_G_CFG_TRG g) ≠ c)) ∧ ((∀ x ∈ s.curDeal, x.issue = .trigger c → x.cls = .audio)) :=
  ⟨5, 9, withWords [(Reg.TIM_TRG_START 5, 9)] (dealing [(.TIM_TRG_CFG_MODE 5, 1), (.TIM_TRG_STAT_ARMED 5, 1), (.TIM_TRG_CFG_IRQ 5, 1), (.AUD_G_CFG_TRG 0, 63), (.AUD_G_CFG_TRG 1, 63), (.AUD_G_CFG_TRG 2, 63), (.AUD_G_CFG_TRG 3, 63), (.AUD_G_CFG_TRG 4, 63), (.AUD_G_CFG_TRG 5, 63), (.AUD_G_CFG_TRG 6, 63), (.AUD_G_CFG_TRG 7, 63)]), by decide +kernel⟩

theorem witness_TriggersPulsesAndStamps_4 :
    ∃ (k : Fin 4) (w : Word) (s : State), (s.up) ∧ (s.chansRun = false) :=
  ⟨2, 9, loading [(.TIM_PPS_CFG_MODE 2, 1)], by decide +kernel⟩

theorem witness_TriggersPulsesAndStamps_5 :
    ∃ (k : Fin 4) (w : Word) (s : State), (s.up) ∧ (s.chansRun = true) ∧ (s.get (.TIM_PPS_CFG_MODE k) ≠ 4) ∧ (chanDue (s.get (.TIM_PPS_CFG_MODE k)) (s.word (Reg.TIM_PPS_START k)) (s.word (Reg.TIM_PPS_PER k)).toNat (s.get (.TIM_PPS_CFG_DEN k)) (s.ppsSt k) ((s.ppsSt k).k == 0) w = true) :=
  ⟨2, 9, withWords [(Reg.TIM_PPS_START 2, 9), (Reg.TIM_PPS_PER 2, 1000000)] (dealing [(.TIM_PPS_CFG_MODE 2, 2), (.TIM_PPS_CFG_DEN 2, 1), (.TIM_PPS_CFG_WIDTH 2, 1)]), by decide +kernel⟩

theorem witness_TriggersPulsesAndStamps_6 :
    ∃ (n : Fin 3) (m : Fin 11) (s : State), (s.up) ∧ (m ≠ 9) :=
  ⟨1, 3, { dealing [(.TIM_NP_STATUS_TXTS_COUNT 1, 2)] with nets := [(1, { NetSt.init with stamps := List.replicate 2 (0, { seq := 1, type := 1, bytes := [3] }) })] }, by decide +kernel⟩

theorem witness_TriggersPulsesAndStamps_7 :
    ∃ (n : Fin 3) (s : State), (s.up) :=
  ⟨1, { dealing [(.TIM_NP_STATUS_TXTS_COUNT 1, 2)] with nets := [(1, { NetSt.init with stamps := List.replicate 2 (0, { seq := 1, type := 1, bytes := [3] }) })] }, by decide +kernel⟩

theorem witness_TriggersPulsesAndStamps_8 :
    ∃ (w : Word) (s : State), (s.up) ∧ (s.on .DLR_STATUS_DEALING = true) :=
  ⟨5, dealing [], by decide +kernel⟩

theorem witness_TriggersPulsesAndStamps_9 :
    ∃ (w : Word) (s : State), (s.up) ∧ (s.on .DLR_STATUS_DEALING = false) ∧ (s.get .DLR_TICK_CFG_TICK_SRC = 2) ∧ (s.dealer.freeRun = false) :=
  ⟨5, loading [(.DLR_TICK_CFG_TICK_SRC, 2)], by decide +kernel⟩

theorem witness_TriggersPulsesAndStamps_10 :
    ∃ (n : Fin 3) (b : Bool) (s : State), (s.up) :=
  ⟨2, true, dealing [], by decide +kernel⟩

theorem witness_TriggersPulsesAndStamps_11 :
    ∃ (w : Word) (s : State), (0 < s.get .DLR_TICK_NUM_NUM) ∧ (0 < s.get .DLR_TICK_DEN_DEN) :=
  ⟨9, dealing [(.DLR_TICK_NUM_NUM, 50000000), (.DLR_TICK_DEN_DEN, 3)], by decide +kernel⟩

theorem witness_TriggersPulsesAndStamps_12 :
    ∃ (c : Fin 64) (w : Word) (s : State), (s.up) ∧ (s.on (.TIM_TRG_CFG_OWNER c) = false) ∧ (s.chansRun = true) :=
  ⟨5, 9, dealing [(.TIM_TRG_CFG_MODE 5, 1)], by decide +kernel⟩

theorem witness_TriggersPulsesAndStamps_13 :
    ∃ (c : Fin 64) (w : Word) (x : Trick) (s : State), (s.up) ∧ (s.trgDue c w = true) ∧ ((∀ g < 8, s.get (.AUD_G_CFG_TRG g) ≠ c)) ∧ (s.on .DLR_STATUS_DEALING = true) ∧ (s.curDeal.filter (fun y => y.issue == .trigger c && y.cls != .audio) = [x]) ∧ (x.cls = .selfTest) ∧ (s.tchState x.job = tpStart) :=
  ⟨5, 9, { capTrick with cls := .selfTest, job := 2, index := 2, issue := .trigger 5, talon := none }, { withWords [(Reg.TIM_TRG_START 5, 9)] (dealing ([(.TIM_TRG_CFG_MODE 5, 1), (.TIM_TRG_STAT_ARMED 5, 1), (.TCH_P_STATE_STATE 2, tpStart)] ++ (List.range 8).map fun g => (.AUD_G_CFG_TRG g, 63))) with image := oneLayout [{ capTrick with cls := .selfTest, job := 2, index := 2, issue := .trigger 5, talon := none }] }, by decide +kernel⟩

theorem witness_TouchPortsTestFailRestartAndRelease_0 :
    ∃ (p : Fin 4) (d : TestIn) (s : State), (s.up) ∧ ((s.tchState p = tpOff ∨ s.tchState p = tpFault ∨ s.testTrick p = false ∨ s.staleRun .selfTest p = true)) :=
  ⟨3, ⟨[1], [1]⟩, dealing [(.TCH_P_STATE_STATE 3, tpFault)], by decide +kernel⟩

theorem witness_TouchPortsTestFailRestartAndRelease_0_1 :
    ∃ (p : Fin 4) (d : TestIn) (s : State), (s.up) ∧ ((s.tchState p = tpOff ∨ s.tchState p = tpFault ∨ s.testTrick p = false ∨ s.staleRun .selfTest p = true)) :=
  ⟨0, ⟨[1], [1]⟩, dealing [], by decide +kernel⟩

theorem witness_TouchPortsTestFailRestartAndRelease_1 :
    ∃ (p : Fin 4) (d : TestIn) (s : State), (s.up) ∧ (s.tspHalted = false) ∧ (s.staleRun .selfTest p = false) ∧ (s.testTrick p = true) ∧ (s.tchState p ≠ tpOff) ∧ (s.tchState p ≠ tpFault) ∧ (s.testFinds p d = []) :=
  ⟨1, ⟨[5, 6], [0]⟩, selfTesting 1 (dealing [(.TCH_P_STATE_STATE 1, tpRun), (.TCH_P_CFG0_DRIVES 1, 1), (.TCH_P_CFG0_SENSES 1, 1), (.TCH_P_FAULT_TESTS 1, 65535)]), by decide +kernel⟩

theorem witness_TouchPortsTestFailRestartAndRelease_1_1 :
    ∃ (p : Fin 4) (d : TestIn) (s : State), (s.up) ∧ (s.tspHalted = false) ∧ (s.staleRun .selfTest p = false) ∧ (s.testTrick p = true) ∧ (s.tchState p ≠ tpOff) ∧ (s.tchState p ≠ tpFault) ∧ (s.testFinds p d = []) :=
  ⟨1, ⟨[5, 6], [0]⟩, selfTesting 1 ((dealing [(.TCH_P_STATE_STATE 1, tpStart), (.TCH_P_CFG0_DRIVES 1, 1), (.TCH_P_CFG0_SENSES 1, 1)]).updTch 1 fun x => { x with passes := 1 }), by decide +kernel⟩

theorem witness_TouchPortsTestFailRestartAndRelease_2 :
    ∃ (p : Fin 4) (d : TestIn) (x : Nat × Nat) (xs : List (Nat × Nat)) (s : State), (s.up) ∧ (s.tspHalted = false) ∧ (s.staleRun .selfTest p = false) ∧ (s.testTrick p = true) ∧ (s.tchState p ≠ tpOff) ∧ (s.tchState p ≠ tpFault) ∧ (s.testFinds p d = x :: xs) ∧ ((x :: xs).find? (s.tch p).fails.contains = none) :=
  ⟨1, ⟨[5, 0xFFFF], [0]⟩, (2, 1), [], selfTesting 1 (dealing [(.TCH_P_STATE_STATE 1, tpRun), (.TCH_P_CFG0_DRIVES 1, 1), (.TCH_P_CFG0_SENSES 1, 1), (.TCH_P_FAULT_CONFIRMED 1, 1)]), by decide +kernel⟩

theorem witness_TouchPortsTestFailRestartAndRelease_3 :
    ∃ (p : Fin 4) (d : TestIn) (x : Nat × Nat) (s : State), (s.up) ∧ (s.logRoom) ∧ (s.tspHalted = false) ∧ (s.staleRun .selfTest p = false) ∧ (s.testTrick p = true) ∧ (s.tchState p = tpStart) ∧ ((s.testFinds p d).find? (s.tch p).fails.contains = some x) :=
  ⟨1, ⟨[5, 0xFFFF], [0]⟩, (2, 1), selfTesting 1 ((dealing [(.TCH_P_STATE_STATE 1, tpStart), (.TCH_P_CFG0_DRIVES 1, 1), (.TCH_P_CFG0_SENSES 1, 1)]).updTch 1 fun x => { x with fails := [(2, 1)] }), by decide +kernel⟩

theorem witness_TouchPortsTestFailRestartAndRelease_4 :
    ∃ (p : Fin 4) (s : State), (s.up) ∧ (s.sco.queue.length < 255) ∧ (s.tchState p = tpRun) :=
  ⟨2, touched, by decide +kernel⟩

theorem witness_TouchPortsTestFailRestartAndRelease_5 :
    ∃ (p : Fin 4) (s : State), (s.up) ∧ (s.tchState p ≠ tpRun) ∧ (s.tchState p ≠ tpStart) :=
  ⟨2, dealing [(.TCH_P_STATE_STATE 2, tpBaseline)], by decide +kernel⟩

theorem witness_TouchPortsTestFailRestartAndRelease_6 :
    ∃ (p : Fin 4) (s : State), (s.up) ∧ (s.logRoom) ∧ (s.tchState p = tpStart) :=
  ⟨2, dealing [(.TCH_P_STATE_STATE 2, tpStart)], by decide +kernel⟩

theorem witness_TouchPortsTestFailRestartAndRelease_7 :
    ∃ (p : Fin 4) (s : State), (s.up) ∧ (s.sco.queue.length < 255) ∧ (s.tchState p = tpRun) ∧ (s.get (.TCH_P_NODES_COVERED p) ≠ 0) :=
  ⟨2, touched.set (.TCH_P_NODES_COVERED 2) 1, by decide +kernel⟩

theorem witness_TouchPortsTestFailRestartAndRelease_8 :
    ∃ (p : Fin 4) (s : State), (s.up) ∧ ((s.tchState p ≠ tpRun ∨ s.get (.TCH_P_NODES_COVERED p) = 0)) :=
  ⟨2, touched, by decide +kernel⟩

theorem witness_TouchPortsTestFailRestartAndRelease_9 :
    ∃ (p : Fin 4) (s : State), (s.up) ∧ (s.tchState p = tpFault) :=
  ⟨2, (touched.set (.TCH_P_STATE_STATE 2) tpFault).set (.TCH_P_STATE_FAULT_CAUSE 2) 3, by decide +kernel⟩

theorem witness_TouchPortsTestFailRestartAndRelease_10 :
    ∃ (p : Fin 4) (s : State), (s.up) ∧ (s.logRoom) ∧ (s.tchState p = tpRun) :=
  ⟨2, touched, by decide +kernel⟩

theorem witness_TouchPortsTestFailRestartAndRelease_11 :
    ∃ (p : Fin 4) (s : State), (s.up) ∧ (s.tchState p ≠ tpRun) ∧ (s.tchState p ≠ tpFault) :=
  ⟨2, dealing [(.TCH_P_STATE_STATE 2, tpBaseline)], by decide +kernel⟩

theorem witness_TouchPortsTestFailRestartAndRelease_12 :
    ∃ (p : Fin 4) (s : State), (s.up) ∧ (s.logRoom) ∧ (s.tchState p = tpRun) :=
  ⟨2, touched, by decide +kernel⟩

theorem witness_TouchPortsTestFailRestartAndRelease_13 :
    ∃ (p : Fin 4) (s : State), (s.up) ∧ (s.tchState p ≠ tpRun) :=
  ⟨2, dealing [], by decide +kernel⟩

theorem witness_ScanFramesAreEvaluatedAndReported_0 :
    ∃ (p : Fin 4) (d : ScanData) (s : State), (s.up) ∧ ((s.scanTrick p = false ∨ s.on .TCH_STATUS_TSP_RUN = false ∨ s.tchState p = tpOff)) :=
  ⟨2, ⟨[], [], 5, []⟩, touched, by decide +kernel⟩

theorem witness_ScanFramesAreEvaluatedAndReported_0_1 :
    ∃ (p : Fin 4) (d : ScanData) (s : State), (s.up) ∧ ((s.scanTrick p = false ∨ s.on .TCH_STATUS_TSP_RUN = false ∨ s.tchState p = tpOff)) :=
  ⟨3, ⟨[], [], 5, []⟩, touched, by decide +kernel⟩

theorem witness_ScanFramesAreEvaluatedAndReported_1 :
    ∃ (p : Fin 4) (d : ScanData) (s : State), (s.up) ∧ (s.tspHalted = false) ∧ (s.staleRun .touchScan p = false) ∧ (s.scanTrick p = true) ∧ (s.on .TCH_STATUS_TSP_RUN = true) ∧ (s.tchState p = tpStart) ∧ (d.flips = []) ∧ ((s.tch p).scoSeq = none) ∧ ((s.tch p).scoDown = []) :=
  ⟨2, ⟨[100, 200], [], 5, []⟩, scanning tpStart 0, by decide +kernel⟩

theorem witness_ScanFramesAreEvaluatedAndReported_2 :
    ∃ (p : Fin 4) (d : ScanData) (s : State), (s.up) ∧ (s.tspHalted = false) ∧ (s.staleRun .touchScan p = false) ∧ (s.scanTrick p = true) ∧ (s.on .TCH_STATUS_TSP_RUN = true) ∧ (s.tchState p = tpBaseline) ∧ ((s.tch p).baseN < 7) ∧ (d.flips = []) ∧ ((s.tch p).scoSeq = none) ∧ ((s.tch p).scoDown = []) :=
  ⟨2, ⟨[100, 65536], [], 5, []⟩, scanning tpBaseline 0, by decide +kernel⟩

theorem witness_ScanFramesAreEvaluatedAndReported_2_1 :
    ∃ (p : Fin 4) (d : ScanData) (s : State), (s.up) ∧ (s.tspHalted = false) ∧ (s.staleRun .touchScan p = false) ∧ (s.scanTrick p = true) ∧ (s.on .TCH_STATUS_TSP_RUN = true) ∧ (s.tchState p = tpBaseline) ∧ ((s.tch p).baseN < 7) ∧ (d.flips = []) ∧ ((s.tch p).scoSeq = none) ∧ ((s.tch p).scoDown = []) :=
  ⟨2, ⟨[100, 65536], [], 5, []⟩, scanning tpBaseline 6, by decide +kernel⟩

theorem witness_ScanFramesAreEvaluatedAndReported_3 :
    ∃ (p : Fin 4) (d : ScanData) (s : State), (s.up) ∧ (s.tspHalted = false) ∧ (s.staleRun .touchScan p = false) ∧ (s.scanTrick p = true) ∧ (s.on .TCH_STATUS_TSP_RUN = true) ∧ (s.tchState p = tpBaseline) ∧ ((s.tch p).baseN = 7) ∧ (d.flips = []) ∧ ((s.tch p).scoSeq = none) ∧ ((s.tch p).scoDown = []) :=
  ⟨2, ⟨[100, 200], [], 5, []⟩, scanning tpBaseline 7, by decide +kernel⟩

theorem witness_ScanFramesAreEvaluatedAndReported_4 :
    ∃ (p : Fin 4) (d : ScanData) (s : State), (s.up) ∧ (s.tspHalted = false) ∧ (s.staleRun .touchScan p = false) ∧ (s.scanTrick p = true) ∧ (s.on .TCH_STATUS_TSP_RUN = true) ∧ (s.tchState p = tpRun) :=
  ⟨2, ⟨[100, 200], [], 5, []⟩, scanning tpRun 8, by decide +kernel⟩

theorem witness_ScanFramesAreEvaluatedAndReported_4_1 :
    ∃ (p : Fin 4) (d : ScanData) (s : State), (s.up) ∧ (s.tspHalted = false) ∧ (s.staleRun .touchScan p = false) ∧ (s.scanTrick p = true) ∧ (s.on .TCH_STATUS_TSP_RUN = true) ∧ (s.tchState p = tpRun) :=
  ⟨2, ⟨[100, 200], [], 5, [(0, 1)]⟩, scanning tpRun 8, by decide +kernel⟩

theorem witness_ScanFramesAreEvaluatedAndReported_5 :
    ∃ (p : Fin 4) (d : ScanData) (s : State), (s.up) ∧ (s.tspHalted = false) ∧ (s.staleRun .touchScan p = false) ∧ (s.scanTrick p = true) ∧ (s.on .TCH_STATUS_TSP_RUN = true) ∧ (s.tchState p = tpRun) ∧ (d.flips = []) ∧ ((s.tch p).scoSeq = none) ∧ ((s.tch p).scoDown = []) ∧ ((s.tch p).contacts = []) ∧ ((∀ k ∈ (s.framePanel p d).peaks (s.tLift p), (s.framePanel p d).at k.1 k.2 < s.tTouch p)) :=
  ⟨2, ⟨[1000, 990], [], 5, []⟩, ((scanning tpRun 8).each ([(.TCH_P_THR_T_LIFT 2, 50), (.TCH_P_THR_T_TOUCH 2, 100), (.TCH_P_CFG0_WATER_REJ 2, 0), (.TCH_P_CFG0_MATCH_RADIUS 2, 1)] : List (Fld × Nat)) fun s f => s.set f.1 f.2).updTch 2 fun x => { x with nodes := List.replicate 2 { TNode.init with base := 1000 } }, by decide +kernel⟩

theorem witness_ScanFramesAreEvaluatedAndReported_6 :
    ∃ (p : Fin 4) (d : ScanData) (k : Nat × Nat) (s : State), (s.up) ∧ (s.tspHalted = false) ∧ (s.staleRun .touchScan p = false) ∧ (s.scanTrick p = true) ∧ (s.on .TCH_STATUS_TSP_RUN = true) ∧ (s.tchState p = tpRun) ∧ (d.flips = []) ∧ ((s.tch p).scoSeq = none) ∧ ((s.tch p).scoDown = []) ∧ ((s.tch p).contacts = []) ∧ ((s.tch p).waiting = []) ∧ ((s.tch p).lifts = []) ∧ (s.on (.TCH_P_CFG0_WATER_REJ p) = false) ∧ (s.get (.TCH_P_CFG0_DEBOUNCE p) ≤ 1) ∧ ((s.framePanel p d).peaks (s.tLift p) = [k]) ∧ (s.tTouch p ≤ (s.framePanel p d).at k.1 k.2) :=
  ⟨2, ⟨[1000, 200], [], 5, []⟩, (0, 1), ((scanning tpRun 8).each ([(.TCH_P_THR_T_LIFT 2, 50), (.TCH_P_THR_T_TOUCH 2, 100), (.TCH_P_CFG0_WATER_REJ 2, 0), (.TCH_P_CFG0_MATCH_RADIUS 2, 1), (.TCH_P_CFG0_DEBOUNCE 2, 1)] : List (Fld × Nat)) fun s f => s.set f.1 f.2).updTch 2 fun x => { x with nodes := List.replicate 2 { TNode.init with base := 1000 } }, by decide +kernel⟩

theorem witness_ScanFramesAreEvaluatedAndReported_7 :
    ∃ (p : Fin 4) (d : ScanData) (k : Nat × Nat) (s : State), (s.up) ∧ (s.tspHalted = false) ∧ (s.staleRun .touchScan p = false) ∧ (s.scanTrick p = true) ∧ (s.on .TCH_STATUS_TSP_RUN = true) ∧ (s.tchState p = tpRun) ∧ (d.flips = []) ∧ ((s.tch p).scoSeq = none) ∧ ((s.tch p).scoDown = []) ∧ ((s.tch p).contacts = []) ∧ ((s.tch p).waiting = []) ∧ (s.on (.TCH_P_CFG0_WATER_REJ p) = false) ∧ (1 < s.get (.TCH_P_CFG0_DEBOUNCE p)) ∧ ((s.framePanel p d).peaks (s.tLift p) = [k]) ∧ (s.tTouch p ≤ (s.framePanel p d).at k.1 k.2) :=
  ⟨2, ⟨[1000, 200], [], 5, []⟩, (0, 1), ((scanning tpRun 8).each ([(.TCH_P_THR_T_LIFT 2, 50), (.TCH_P_THR_T_TOUCH 2, 100), (.TCH_P_CFG0_WATER_REJ 2, 0), (.TCH_P_CFG0_MATCH_RADIUS 2, 1), (.TCH_P_CFG0_DEBOUNCE 2, 2)] : List (Fld × Nat)) fun s f => s.set f.1 f.2).updTch 2 fun x => { x with nodes := List.replicate 2 { TNode.init with base := 1000 } }, by decide +kernel⟩

theorem witness_ScanFramesAreEvaluatedAndReported_8 :
    ∃ (p : Fin 4) (d : ScanData) (c : Contact) (k : Nat × Nat) (s : State), (s.up) ∧ (s.tspHalted = false) ∧ (s.staleRun .touchScan p = false) ∧ (s.scanTrick p = true) ∧ (s.on .TCH_STATUS_TSP_RUN = true) ∧ (s.tchState p = tpRun) ∧ (d.flips = []) ∧ ((s.tch p).scoSeq = none) ∧ ((s.tch p).scoDown = []) ∧ ((s.tch p).contacts = [c]) ∧ (0 < c.id) ∧ (c.id < 16) ∧ (s.on (.TCH_P_CFG0_WATER_REJ p) = false) ∧ ((s.framePanel p d).peaks (s.tLift p) = [k]) ∧ (cheb (c.d, c.k) k ≤ s.get (.TCH_P_CFG0_MATCH_RADIUS p)) ∧ ((s.fullTime d.t - c.downAt).toInt ≤ s.get (.TCH_P_THR2_HOLD_LIMIT p) * 1000000000) :=
  ⟨2, ⟨[1000, 200], [], 5, []⟩, { id := 3, x := 10, y := 20, strength := 30, size := 4, d := 0, k := 0, downAt := 0 }, (0, 1), ((scanning tpRun 8).each ([(.TCH_P_THR_T_LIFT 2, 50), (.TCH_P_THR_T_TOUCH 2, 100), (.TCH_P_CFG0_WATER_REJ 2, 0), (.TCH_P_CFG0_MATCH_RADIUS 2, 1)] : List (Fld × Nat)) fun s f => s.set f.1 f.2).updTch 2 fun x => { x with nodes := List.replicate 2 { TNode.init with base := 1000 }, contacts := [{ id := 3, x := 10, y := 20, strength := 30, size := 4, d := 0, k := 0, downAt := 0 }] }, by decide +kernel⟩

theorem witness_ScanFramesAreEvaluatedAndReported_9 :
    ∃ (p : Fin 4) (d : ScanData) (c : Contact) (s : State), (s.up) ∧ (s.tspHalted = false) ∧ (s.staleRun .touchScan p = false) ∧ (s.scanTrick p = true) ∧ (s.on .TCH_STATUS_TSP_RUN = true) ∧ (s.tchState p = tpRun) ∧ (d.flips = []) ∧ ((s.tch p).scoSeq = none) ∧ ((s.tch p).scoDown = []) ∧ ((s.tch p).contacts = [c]) ∧ (0 < c.id) ∧ (c.id < 16) ∧ ((s.framePanel p d).peaks (s.tLift p) = []) :=
  ⟨2, ⟨[1000, 990], [], 5, []⟩, { id := 3, x := 10, y := 20, strength := 30, size := 4, d := 0, k := 0, downAt := 0 }, ((scanning tpRun 8).each ([(.TCH_P_THR_T_LIFT 2, 50), (.TCH_P_THR_T_TOUCH 2, 100), (.TCH_P_CFG0_WATER_REJ 2, 0), (.TCH_P_CFG0_MATCH_RADIUS 2, 1)] : List (Fld × Nat)) fun s f => s.set f.1 f.2).updTch 2 fun x => { x with nodes := List.replicate 2 { TNode.init with base := 1000 }, contacts := [{ id := 3, x := 10, y := 20, strength := 30, size := 4, d := 0, k := 0, downAt := 0 }] }, by decide +kernel⟩

theorem witness_AudioPortsKeepBlocksClocksAndTone_0 :
    ∃ (p : Fin 8) (s : State), (s.up) ∧ ((s.aud p).wants = []) :=
  ⟨7, dealing [], by decide +kernel⟩

theorem witness_AudioPortsKeepBlocksClocksAndTone_1 :
    ∃ (p : Fin 8) (k : Nat) (ks : List Nat) (s : State), (s.up) ∧ (s.audioStale p = 0) ∧ ((s.aud p).wants = k :: ks) ∧ (s.audRx p = false) ∧ (s.audState p ≠ apClockBad) ∧ ((s.aud p).k = none) ∧ ((readBytes Config.dramFill s.dram (s.ringSlot p k) 64)[4]? = some 0) ∧ (s.slotBad p k = []) :=
  ⟨3, 4, [5], (audioOn apRun).updAud 3 fun x => { x with wants := [4, 5] }, by decide +kernel⟩

theorem witness_AudioPortsKeepBlocksClocksAndTone_2 :
    ∃ (p : Fin 8) (b : AudioBound) (s : State), (s.up) ∧ ((s.audState p = apOff ∨ s.audState p = apStopping ∨ s.audGrid (s.audGroup p) = none)) ∧ (s.prestarts p b.t = false) :=
  ⟨3, ⟨0, none, true, [], false⟩, audioOn apStopping, by decide +kernel⟩

theorem witness_AudioPortsKeepBlocksClocksAndTone_2_1 :
    ∃ (p : Fin 8) (b : AudioBound) (s : State), (s.up) ∧ ((s.audState p = apOff ∨ s.audState p = apStopping ∨ s.audGrid (s.audGroup p) = none)) ∧ (s.prestarts p b.t = false) :=
  ⟨3, ⟨0, none, true, [], false⟩, dealing [(.AUD_P_STATE_STATE 3, apPrestart)], by decide +kernel⟩

theorem witness_AudioPortsKeepBlocksClocksAndTone_3 :
    ∃ (p : Fin 8) (b : AudioBound) (s : State), (s.up) ∧ (s.audState p = apPrestart) ∧ (s.audGrid (s.audGroup p) ≠ none) ∧ ((s.aud p).k = none) ∧ (s.audSlave p = true) ∧ (s.audRx p = true) ∧ (b.rate = none) ∧ (s.alarmPort p = false) ∧ (s.on (.AUD_P_CTRL_MUTE p) = false) :=
  ⟨3, ⟨9, none, true, [], false⟩, (audioOn apPrestart).set (.AUD_P_CFG_DIR 3) 1, by decide +kernel⟩

theorem witness_AudioPortsKeepBlocksClocksAndTone_4 :
    ∃ (p : Fin 8) (s : State), (s.up) ∧ ((s.audSlave p = false ∨ s.audState p ≠ apRun)) :=
  ⟨3, (audioOn apRun).set (.AUD_P_CFG_MASTER 3) 1, by decide +kernel⟩

theorem witness_AudioPortsKeepBlocksClocksAndTone_4_1 :
    ∃ (p : Fin 8) (s : State), (s.up) ∧ ((s.audSlave p = false ∨ s.audState p ≠ apRun)) :=
  ⟨3, audioOn apPrestart, by decide +kernel⟩

theorem witness_AudioPortsKeepBlocksClocksAndTone_5 :
    ∃ (p : Fin 8) (s : State), (s.up) ∧ (s.audSlave p = true) ∧ (s.audState p = apRun) :=
  ⟨3, audioOn apRun, by decide +kernel⟩

theorem witness_AudioPortsKeepBlocksClocksAndTone_6 :
    ∃ (p : Fin 8) (s : State), (s.up) ∧ (s.audState p ≠ apStopping) :=
  ⟨3, audioOn apRun, by decide +kernel⟩

theorem witness_AudioPortsKeepBlocksClocksAndTone_7 :
    ∃ (p : Fin 8) (s : State), (s.up) ∧ (s.audState p = apStopping) :=
  ⟨3, audioOn apStopping, by decide +kernel⟩

theorem witness_AudioPortsKeepBlocksClocksAndTone_8 :
    ∃ (p : Fin 8) (v : Bool) (s : State), (s.up) :=
  ⟨3, true, dealing [], by decide +kernel⟩

theorem witness_AudioPortsKeepBlocksClocksAndTone_8_1 :
    ∃ (p : Fin 8) (v : Bool) (s : State), (s.up) :=
  ⟨3, false, dealing [(.AUD_P_CTRL_MUTE 3, 1)], by decide +kernel⟩

theorem witness_AudioPortsKeepBlocksClocksAndTone_9 :
    ∃ (v : Bool) (w : Word) (s : State), (s.scoring) ∧ (s.logRoom) ∧ (s.on .AUD_ALARM_CFG_EN = true) ∧ (s.on .AUD_ALARM_STAT_ORDERED ≠ v) ∧ ((v = true ∨ s.devState ≠ stSafe)) :=
  ⟨true, 77, dealing [(.AUD_ALARM_CFG_EN, 1)], by decide +kernel⟩

theorem witness_AudioPortsKeepBlocksClocksAndTone_9_1 :
    ∃ (v : Bool) (w : Word) (s : State), (s.scoring) ∧ (s.logRoom) ∧ (s.on .AUD_ALARM_CFG_EN = true) ∧ (s.on .AUD_ALARM_STAT_ORDERED ≠ v) ∧ ((v = true ∨ s.devState ≠ stSafe)) :=
  ⟨false, 77, dealing [(.AUD_ALARM_CFG_EN, 1), (.AUD_ALARM_STAT_ORDERED, 1), (.SCO_STATUS_TONE_ORDERED, 1)], by decide +kernel⟩

theorem witness_AudioPortsKeepBlocksClocksAndTone_10 :
    ∃ (v : Bool) (w : Word) (s : State), (s.scoring) ∧ ((s.on .AUD_ALARM_CFG_EN = false ∨ s.on .AUD_ALARM_STAT_ORDERED = v ∨ (v = false ∧ s.devState = stSafe))) :=
  ⟨true, 77, dealing [], by decide +kernel⟩

theorem witness_AudioPortsKeepBlocksClocksAndTone_10_1 :
    ∃ (v : Bool) (w : Word) (s : State), (s.scoring) ∧ ((s.on .AUD_ALARM_CFG_EN = false ∨ s.on .AUD_ALARM_STAT_ORDERED = v ∨ (v = false ∧ s.devState = stSafe))) :=
  ⟨true, 77, dealing [(.AUD_ALARM_CFG_EN, 1), (.AUD_ALARM_STAT_ORDERED, 1)], by decide +kernel⟩

theorem witness_AudioPortsKeepBlocksClocksAndTone_11 :
    ∃ (p : Fin 8) (f : List Word) (w : Word) (s : State), (s.up) ∧ (s.audSlave p = false) ∧ (s.prestarts p w = false) :=
  ⟨3, [1, 2], 5, (audioOn apRun).set (.AUD_P_CFG_MASTER 3) 1, by decide +kernel⟩

theorem witness_AudioPortsKeepBlocksClocksAndTone_12 :
    ∃ (p : Fin 8) (f : List Word) (w : Word) (s : State), (s.up) ∧ (s.audSlave p = true) ∧ (s.audState p = apRun) ∧ (s.audRx p = true) ∧ ((s.aud p).k = none) ∧ ((s.aud p).moved = 0) ∧ (0 < (s.aud p).store.length) ∧ ((s.aud p).store.length < 15) :=
  ⟨3, [0x12345678, 2], 5, ((audioOn apRun).set (.AUD_P_CFG_DIR 3) 1).updAud 3 fun x => { x with store := [[7]] }, by decide +kernel⟩

theorem witness_AudioPortsKeepBlocksClocksAndTone_13 :
    ∃ (p : Fin 8) (f : List Word) (w : Word) (s : State), (s.up) ∧ (s.audSlave p = true) ∧ (s.audState p = apRun) ∧ (s.audRx p = true) ∧ ((s.aud p).k = none) ∧ ((s.aud p).moved = 0) ∧ ((s.aud p).store.length = 15) :=
  ⟨3, [1, 2], 5, ((audioOn apRun).set (.AUD_P_CFG_DIR 3) 1).updAud 3 fun x => { x with store := List.replicate 15 [0] }, by decide +kernel⟩

theorem witness_AudioPortsKeepBlocksClocksAndTone_14 :
    ∃ (p : Fin 8) (k : Nat) (ks : List Nat) (s : State), (s.up) ∧ (s.audioStale p = 0) ∧ ((s.aud p).wants = k :: ks) ∧ (s.audRx p = false) ∧ (s.audState p ≠ apClockBad) ∧ ((s.aud p).k = none) ∧ ((readBytes Config.dramFill s.dram (s.ringSlot p k) 64)[4]? = some 1) ∧ (leNat ((readBytes Config.dramFill s.dram (s.ringSlot p k) 64).take 4) = k) ∧ (k < 2 ^ 32) ∧ (s.slotBad p k = []) ∧ (s.get .MEM_STATUS_SC_FAILED = 0) :=
  ⟨3, 1, [], { (audioOn apRun).updAud 3 fun x => { x with wants := [1] } with dram := [(8192, 1), (8193, 0), (8194, 0), (8195, 0), (8196, 1)] }, by decide +kernel⟩

theorem witness_AudioPortsKeepBlocksClocksAndTone_15 :
    ∃ (p : Fin 8) (k : Nat) (ks : List Nat) (b : RxBlock) (s : State), (s.up) ∧ (s.audioStale p = 0) ∧ ((s.aud p).wants = k :: ks) ∧ (s.audRx p = true) ∧ ((s.aud p).got.find? (·.k == k) = some b) ∧ (s.slotBad p k = []) ∧ (s.get .MEM_STATUS_SC_FAILED = 0) :=
  ⟨3, 4, [], ⟨4, [], false, false, false⟩, ((audioOn apRun).set (.AUD_P_CFG_DIR 3) 1).updAud 3 fun x => { x with wants := [4], got := [⟨4, [], false, false, false⟩] }, by decide +kernel⟩

theorem witness_AudioPortsKeepBlocksClocksAndTone_16 :
    ∃ (p : Fin 8) (f : List Word) (w : Word) (s : State), (s.up) ∧ (s.audSlave p = true) ∧ (s.audState p = apRun) ∧ ((s.aud p).k = none) ∧ ((s.aud p).moved = 0) ∧ ((s.aud p).store = []) :=
  ⟨3, [1, 2], 5, audioOn apRun, by decide +kernel⟩

theorem witness_AudioPortsKeepBlocksClocksAndTone_17 :
    ∃ (p : Fin 8) (f : List Word) (w : Word) (x y : List Word) (xs : List (List Word)) (s : State), (s.up) ∧ (s.audSlave p = true) ∧ (s.audState p = apRun) ∧ (s.audRx p = false) ∧ ((s.aud p).k = none) ∧ ((s.aud p).moved = 0) ∧ ((s.aud p).store = x :: y :: xs) ∧ (xs.length < 14) :=
  ⟨3, [1, 2], 5, [9], [8], [], (audioOn apRun).updAud 3 fun x => { x with store := [[9], [8]] }, by decide +kernel⟩

theorem witness_AudioPortsKeepBlocksClocksAndTone_18 :
    ∃ (p : Fin 8) (f : List Word) (w : Word) (s : State), (s.up) ∧ (s.audSlave p = true) ∧ (s.prestarts p w = true) ∧ (s.audRx p = false) :=
  ⟨3, [1, 2], 5, (audioOn apOff).updAud 3 fun x => { x with startAt := some 4 }, by decide +kernel⟩

theorem witness_AudioPortsKeepBlocksClocksAndTone_19 :
    ∃ (p : Fin 8) (k b : Nat) (ks bs : List Nat) (s : State), (s.up) ∧ (s.audioStale p = 0) ∧ ((s.aud p).wants = k :: ks) ∧ (s.slotBad p k = b :: bs) :=
  ⟨3, 1, 0x100002000, [], [], { ((audioOn apRun).set (.AUD_P_RING_HI_BASE_HI 3) 1).updAud 3 fun x => { x with wants := [1] } with mem := { MemSt.init with chk := [(32, 1)] } }, by decide +kernel⟩

theorem witness_AudioPortsKeepBlocksClocksAndTone_20 :
    ∃ (p : Fin 8) (k : Nat) (s : State), (s.up) ∧ ((s.aud p).wants[s.audioStale p]? = some k) ∧ (s.audRx p = false) ∧ (s.audState p ≠ apClockBad) ∧ ((s.aud p).k = none) ∧ ((readBytes Config.dramFill s.dram (s.ringSlot p k) 64)[4]? = some 0) ∧ (s.slotBad p k = []) :=
  ⟨3, 1, { (audioOn apRun).updAud 3 fun x => { x with wants := [1] } with dram := [(8196, 0)] }, by decide +kernel⟩

theorem witness_AudioPortsKeepBlocksClocksAndTone_21 :
    ∃ (p : Fin 8) (b : AudioBound) (s : State), (s.up) ∧ (s.audState p = apPrestart) ∧ (s.audGrid (s.audGroup p) ≠ none) ∧ ((s.aud p).k = none) ∧ (s.audSlave p = false) ∧ (s.audRx p = true) ∧ (b.rate = none) ∧ (s.alarmPort p = false) ∧ (s.on (.AUD_P_CTRL_MUTE p) = false) :=
  ⟨3, ⟨5, none, false, [], false⟩, ((audioOn apPrestart).set (.AUD_P_CFG_DIR 3) 1).set (.AUD_P_CFG_MASTER 3) 1, by decide +kernel⟩

theorem witness_FrontEndTakesFramesAndKeepsTheMailbox_0 :
    ∃ (n : Fin 3) (s : State), (s.up) ∧ ((s.net n).cmdQ = []) :=
  ⟨2, dealing [], by decide +kernel⟩

theorem witness_FrontEndTakesFramesAndKeepsTheMailbox_1 :
    ∃ (n : Fin 3) (f : NetFrame) (st : Time64) (rest : List (NetFrame × Time64)) (u : UdpIn) (s : State), (s.up) ∧ ((s.net n).cmdQ = (f, st) :: rest) ∧ (f.udp = some u) ∧ (s.relays u.data = false) ∧ (s.intakeFull = false) ∧ (frameCrcOk u.data = true) :=
  ⟨1, cmdNet (sealed 0x01 0), 77, [], ⟨0xA000005, 4000, 5120, sealed 0x01 0⟩, atPort 0, by decide +kernel⟩

theorem witness_FrontEndTakesFramesAndKeepsTheMailbox_2 :
    ∃ (n : Fin 3) (f : NetFrame) (st : Time64) (rest : List (NetFrame × Time64)) (u : UdpIn) (s : State), (s.up) ∧ ((s.net n).cmdQ = (f, st) :: rest) ∧ (f.udp = some u) ∧ (s.relays u.data = false) ∧ (s.intakeFull = false) ∧ (frameCrcOk u.data = false) :=
  ⟨1, cmdNet (cmdBytes 0x01 0 9 2 []), 77, [], ⟨0xA000005, 4000, 5120, cmdBytes 0x01 0 9 2 []⟩, { atPort 0 with nets := [(1, { NetSt.init with cmdQ := [(cmdNet (cmdBytes 0x01 0 9 2 []), 77)] })] }, by decide +kernel⟩

theorem witness_FrontEndTakesFramesAndKeepsTheMailbox_3 :
    ∃ (n : Fin 3) (f : NetFrame) (st : Time64) (rest : List (NetFrame × Time64)) (u : UdpIn) (s : State), (s.up) ∧ ((s.net n).cmdQ = (f, st) :: rest) ∧ (f.udp = some u) ∧ (s.relays u.data = false) ∧ (s.intakeFull = true) :=
  ⟨1, cmdNet (sealed 0x01 0), 77, [], ⟨0xA000005, 4000, 5120, sealed 0x01 0⟩, { atPort 0 with cmd := { CmdSt.init with fifo := List.replicate 16 (cmdFrame udpHost 1 0 0 0 []) } }, by decide +kernel⟩

theorem witness_FrontEndTakesFramesAndKeepsTheMailbox_4 :
    ∃ (len : BitVec 13) (w : Word) (s : State), (s.up) ∧ ((s.bankerUp = false ∨ s.get .HST_MB_STATUS_CODE = stBUSY ∨ s.intakeFull = true)) :=
  ⟨4097, 8, dealing [(.HST_MB_STATUS_CODE, stBUSY)], by decide +kernel⟩

theorem witness_FrontEndTakesFramesAndKeepsTheMailbox_4_1 :
    ∃ (len : BitVec 13) (w : Word) (s : State), (s.up) ∧ ((s.bankerUp = false ∨ s.get .HST_MB_STATUS_CODE = stBUSY ∨ s.intakeFull = true)) :=
  ⟨20, 8, { dealing [(.HST_MB_STATUS_CODE, 0)] with cmd := { CmdSt.init with fifo := List.replicate 16 (cmdFrame udpHost 1 0 0 0 []) } }, by decide +kernel⟩

theorem witness_FrontEndTakesFramesAndKeepsTheMailbox_5 :
    ∃ (len : BitVec 13) (w : Word) (s : State), (s.up) ∧ (s.bankerUp = true) ∧ (s.get .HST_MB_STATUS_CODE ≠ stBUSY) ∧ (s.intakeFull = false) ∧ (4096 < len.toNat) :=
  ⟨4097, 8, dealing [(.HST_MB_STATUS_CODE, 0), (.HST_MB_STATUS_BANKER_UP, 1)], by decide +kernel⟩

theorem witness_FrontEndTakesFramesAndKeepsTheMailbox_6 :
    ∃ (len : BitVec 13) (w : Word) (s : State), (s.up) ∧ (s.bankerUp = true) ∧ (s.get .HST_MB_STATUS_CODE ≠ stBUSY) ∧ (s.intakeFull = false) ∧ (len.toNat ≤ 4096) ∧ (s.relays (readBytes 0 s.cmd.req 0 len.toNat) = false) :=
  ⟨0, 8, dealing [(.HST_MB_STATUS_CODE, 0), (.HST_MB_STATUS_READY, 1), (.HST_MB_STATUS_BANKER_UP, 1)], by decide +kernel⟩

theorem witness_FrontEndTakesFramesAndKeepsTheMailbox_6_1 :
    ∃ (len : BitVec 13) (w : Word) (s : State), (s.up) ∧ (s.bankerUp = true) ∧ (s.get .HST_MB_STATUS_CODE ≠ stBUSY) ∧ (s.intakeFull = false) ∧ (len.toNat ≤ 4096) ∧ (s.relays (readBytes 0 s.cmd.req 0 len.toNat) = false) :=
  ⟨20, 8, { dealing [(.HST_MB_STATUS_CODE, 0), (.FAB_NODE_NODE_ID, 3), (.HST_MB_STATUS_BANKER_UP, 1)] with cmd := { CmdSt.init with req := [(14, 3)] } }, by decide +kernel⟩

theorem witness_FrontEndTakesFramesAndKeepsTheMailbox_7 :
    ∃ (c : Byte) (v : Bool) (bs : List Byte) (s : State), (s.up) ∧ ((s.get .BKR_STATUS_RUN = 0 ∨ s.on .FUS_DBG_STATUS_BANKER_HALTED = true)) :=
  ⟨5, true, [1], dealing [(.BKR_STATUS_RUN, 0)], by decide +kernel⟩

theorem witness_FrontEndTakesFramesAndKeepsTheMailbox_7_1 :
    ∃ (c : Byte) (v : Bool) (bs : List Byte) (s : State), (s.up) ∧ ((s.get .BKR_STATUS_RUN = 0 ∨ s.on .FUS_DBG_STATUS_BANKER_HALTED = true)) :=
  ⟨5, true, [1], dealing [(.BKR_STATUS_RUN, 0xF), (.FUS_DBG_STATUS_BANKER_HALTED, 1)], by decide +kernel⟩

theorem witness_FrontEndTakesFramesAndKeepsTheMailbox_8 :
    ∃ (c : Byte) (bs : List Byte) (s : State), (s.up) ∧ (s.get .BKR_STATUS_RUN ≠ 0) ∧ (s.on .FUS_DBG_STATUS_BANKER_HALTED = false) ∧ (bs.length ≤ 4096) :=
  ⟨5, [0, 1, 2], { dealing [(.BKR_STATUS_RUN, 0xF), (.HST_MB_STATUS_BANKER_UP, 1)] with cmd := { CmdSt.init with resp := [(0, 9), (7, 8)] } }, by decide +kernel⟩

theorem witness_FrontEndTakesFramesAndKeepsTheMailbox_8_1 :
    ∃ (c : Byte) (bs : List Byte) (s : State), (s.up) ∧ (s.get .BKR_STATUS_RUN ≠ 0) ∧ (s.on .FUS_DBG_STATUS_BANKER_HALTED = false) ∧ (bs.length ≤ 4096) :=
  ⟨5, [0, 1, 2], dealing [(.BKR_STATUS_RUN, 0xF)], by decide +kernel⟩

theorem witness_FrontEndTakesFramesAndKeepsTheMailbox_9 :
    ∃ (c : Byte) (s : State), (s.up) ∧ (s.get .BKR_STATUS_RUN ≠ 0) ∧ (s.on .FUS_DBG_STATUS_BANKER_HALTED = false) ∧ (s.bankerUp = false) :=
  ⟨5, { dealing [(.BKR_STATUS_RUN, 0xF)] with nets := [(1, { NetSt.init with genQ := [(netFrame, 5)] })] }, by decide +kernel⟩

theorem witness_FrontEndTakesFramesAndKeepsTheMailbox_10 :
    ∃ (s : State), (s.up) :=
  ⟨{ dealing [] with cmd := { CmdSt.init with fifo := [cmdFrame udpHost 1 0 0 0 []] } }, by decide +kernel⟩

theorem witness_FrontEndTakesFramesAndKeepsTheMailbox_11 :
    ∃ (s : State), (s.up) :=
  ⟨{ dealing [] with cmd := { CmdSt.init with relays := [⟨udpHost, 4, 0, 1, 2, 3⟩] } }, by decide +kernel⟩

theorem witness_FrontEndTakesFramesAndKeepsTheMailbox_12 :
    ∃ (s : State), (s.up) :=
  ⟨dealing [(.HST_MB_STATUS_READY, 1), (.HST_LINK_UP, 1), (.HST_CNT_DB_IGNORED, 5)], by decide +kernel⟩

theorem witness_FrontEndTakesFramesAndKeepsTheMailbox_13 :
    ∃ (wd : Fin 4) (g : Bool) (s : State), (s.up) :=
  ⟨2, true, dealing [], by decide +kernel⟩

theorem witness_FrontEndTakesFramesAndKeepsTheMailbox_13_1 :
    ∃ (wd : Fin 4) (g : Bool) (s : State), (s.up) :=
  ⟨0, true, dealing [(.HST_LINK_UP, 1), (.HST_LINK_GEN2, 1)], by decide +kernel⟩

theorem witness_FrontEndTakesFramesAndKeepsTheMailbox_14 :
    ∃ (n : Fin 3) (f : NetFrame) (st : Time64) (rest : List (NetFrame × Time64)) (u : UdpIn) (s : State), (s.up) ∧ ((s.net n).cmdQ = (f, st) :: rest) ∧ (f.udp = some u) ∧ (s.relays u.data = true) ∧ (s.bankerUp = false) :=
  ⟨1, cmdNet (nodeSealed 3), 77, [], ⟨0xA000005, 4000, 5120, (nodeSealed 3)⟩, { dealing [] with image := { oneLayout [] with links := [⟨0, 1, 3, 2, 10⟩] }, nets := [(1, { NetSt.init with cmdQ := [(cmdNet (nodeSealed 3), 77)] })] }, by decide +kernel⟩

theorem witness_FrontEndTakesFramesAndKeepsTheMailbox_15 :
    ∃ (n : Fin 3) (f : NetFrame) (st : Time64) (rest : List (NetFrame × Time64)) (u : UdpIn) (s : State), (s.up) ∧ ((s.net n).cmdQ = (f, st) :: rest) ∧ (f.udp = some u) ∧ (s.relays u.data = true) ∧ (s.bankerUp = true) ∧ (frameCrcOk u.data = true) ∧ (frameLength u.data ≤ 236) ∧ (u.data.length ≤ 256) ∧ (s.inFabric (frameNum u.data 14 1) = true) ∧ (s.cmd.relays.length < 16) :=
  ⟨1, cmdNet (nodeSealed 3), 77, [], ⟨0xA000005, 4000, 5120, (nodeSealed 3)⟩, { dealing [(.HST_MB_STATUS_BANKER_UP, 1)] with image := { oneLayout [] with links := [⟨0, 1, 3, 2, 10⟩] }, nets := [(1, { NetSt.init with cmdQ := [(cmdNet (nodeSealed 3), 77)] })] }, by decide +kernel⟩

theorem witness_FrontEndTakesFramesAndKeepsTheMailbox_16 :
    ∃ (n : Fin 3) (f : NetFrame) (st : Time64) (rest : List (NetFrame × Time64)) (u : UdpIn) (s : State), (s.up) ∧ ((s.net n).cmdQ = (f, st) :: rest) ∧ (f.udp = some u) ∧ (s.relays u.data = true) ∧ (s.bankerUp = true) ∧ (frameCrcOk u.data = true) ∧ ((236 < frameLength u.data ∨ 256 < u.data.length ∨ s.inFabric (frameNum u.data 14 1) = false)) :=
  ⟨1, cmdNet (nodeSealed 9), 77, [], ⟨0xA000005, 4000, 5120, (nodeSealed 9)⟩, { dealing [(.HST_MB_STATUS_BANKER_UP, 1)] with image := { oneLayout [] with links := [⟨0, 1, 3, 2, 10⟩] }, nets := [(1, { NetSt.init with cmdQ := [(cmdNet (nodeSealed 9), 77)] })] }, by decide +kernel⟩

theorem witness_FrontEndTakesFramesAndKeepsTheMailbox_17 :
    ∃ (n : Fin 3) (f : NetFrame) (st : Time64) (rest : List (NetFrame × Time64)) (u : UdpIn) (s : State), (s.up) ∧ ((s.net n).cmdQ = (f, st) :: rest) ∧ (f.udp = some u) ∧ (s.relays u.data = true) ∧ (s.bankerUp = true) ∧ (frameCrcOk u.data = true) ∧ (frameLength u.data ≤ 236) ∧ (u.data.length ≤ 256) ∧ (s.inFabric (frameNum u.data 14 1) = true) ∧ (16 ≤ s.cmd.relays.length) :=
  ⟨1, cmdNet (nodeSealed 3), 77, [], ⟨0xA000005, 4000, 5120, (nodeSealed 3)⟩, { dealing [(.HST_MB_STATUS_BANKER_UP, 1)] with image := { oneLayout [] with links := [⟨0, 1, 3, 2, 10⟩] }, nets := [(1, { NetSt.init with cmdQ := [(cmdNet (nodeSealed 3), 77)] })], cmd := { CmdSt.init with relays := List.replicate 16 ⟨udpHost, 1, 5, 9, 2, 1⟩ } }, by decide +kernel⟩

theorem witness_FrontEndTakesFramesAndKeepsTheMailbox_18 :
    ∃ (n : Fin 3) (f : NetFrame) (st : Time64) (rest : List (NetFrame × Time64)) (u : UdpIn) (s : State), (s.up) ∧ ((s.net n).cmdQ = (f, st) :: rest) ∧ (f.udp = some u) ∧ (s.relays u.data = true) ∧ (s.bankerUp = true) ∧ (frameCrcOk u.data = false) :=
  ⟨1, cmdNet ((cmdBytes 1 5 9 2 []).set 14 3), 77, [], ⟨0xA000005, 4000, 5120, ((cmdBytes 1 5 9 2 []).set 14 3)⟩, { dealing [(.HST_MB_STATUS_BANKER_UP, 1)] with image := { oneLayout [] with links := [⟨0, 1, 3, 2, 10⟩] }, nets := [(1, { NetSt.init with cmdQ := [(cmdNet ((cmdBytes 1 5 9 2 []).set 14 3), 77)] })] }, by decide +kernel⟩

theorem witness_FrontEndTakesFramesAndKeepsTheMailbox_19 :
    ∃ (len : BitVec 13) (w : Word) (bs : List Byte) (s : State), (s.up) ∧ (s.bankerUp = true) ∧ (s.get .HST_MB_STATUS_CODE ≠ stBUSY) ∧ (s.intakeFull = false) ∧ (len.toNat ≤ 4096) ∧ (bs = readBytes 0 s.cmd.req 0 len.toNat) ∧ (s.relays bs = true) ∧ (frameCrcOk bs = true) ∧ (frameLength bs ≤ 236) ∧ (bs.length ≤ 256) ∧ (s.inFabric (frameNum bs 14 1) = true) ∧ (s.cmd.relays.length < 16) :=
  ⟨20, 8, nodeSealed 3, { dealing [(.HST_MB_STATUS_CODE, 0), (.HST_MB_STATUS_BANKER_UP, 1)] with image := { oneLayout [] with links := [⟨0, 1, 3, 2, 10⟩] }, cmd := { CmdSt.init with req := writeBytes 0 [] 0 (nodeSealed 3) } }, by decide +kernel⟩

theorem witness_FrontEndTakesFramesAndKeepsTheMailbox_20 :
    ∃ (len : BitVec 13) (w : Word) (bs : List Byte) (s : State), (s.up) ∧ (s.bankerUp = true) ∧ (s.get .HST_MB_STATUS_CODE ≠ stBUSY) ∧ (s.intakeFull = false) ∧ (len.toNat ≤ 4096) ∧ (bs = readBytes 0 s.cmd.req 0 len.toNat) ∧ (s.relays bs = true) ∧ (frameCrcOk bs = true) ∧ ((236 < frameLength bs ∨ 256 < bs.length ∨ s.inFabric (frameNum bs 14 1) = false)) :=
  ⟨20, 8, nodeSealed 9, { dealing [(.HST_MB_STATUS_CODE, 0), (.HST_MB_STATUS_BANKER_UP, 1)] with image := { oneLayout [] with links := [⟨0, 1, 3, 2, 10⟩] }, cmd := { CmdSt.init with req := writeBytes 0 [] 0 (nodeSealed 9) } }, by decide +kernel⟩

theorem witness_FramesAreCheckedAndSessionsKept_0 :
    ∃ (s : State), (s.up) ∧ ((s.bankerUp = false ∨ s.devState = stRecovery ∨ s.cmd.fifo = [])) :=
  ⟨{ dealing [] with cmd := { CmdSt.init with fifo := [cmdFrame udpHost 1 0 0 0 []] } }, by decide +kernel⟩

theorem witness_FramesAreCheckedAndSessionsKept_0_1 :
    ∃ (s : State), (s.up) ∧ ((s.bankerUp = false ∨ s.devState = stRecovery ∨ s.cmd.fifo = [])) :=
  ⟨dealing [(.HST_MB_STATUS_BANKER_UP, 1)], by decide +kernel⟩

theorem witness_FramesAreCheckedAndSessionsKept_1 :
    ∃ (f : InFrame) (rest : List InFrame) (s : State), (s.up) ∧ (s.cmd.fifo = f :: rest) ∧ (s.admits 0x01 f = true) :=
  ⟨cmdFrame udpHost 1 0 9 2 [7], [], commanded (cmdFrame udpHost 1 0 9 2 [7]) [], by decide +kernel⟩

theorem witness_FramesAreCheckedAndSessionsKept_1_1 :
    ∃ (f : InFrame) (rest : List InFrame) (s : State), (s.up) ∧ (s.cmd.fifo = f :: rest) ∧ (s.admits 0x01 f = true) :=
  ⟨cmdFrame udpHost 1 5 10 2 [7], [], commanded (cmdFrame udpHost 1 5 10 2 [7]) [], by decide +kernel⟩

theorem witness_FramesAreCheckedAndSessionsKept_1_2 :
    ∃ (f : InFrame) (rest : List InFrame) (s : State), (s.up) ∧ (s.cmd.fifo = f :: rest) ∧ (s.admits 0x01 f = true) :=
  ⟨cmdFrame ⟨1, 0, 0, 0⟩ 1 0 10 2 [7], [], commanded (cmdFrame ⟨1, 0, 0, 0⟩ 1 0 10 2 [7]) [], by decide +kernel⟩

theorem witness_FramesAreCheckedAndSessionsKept_1_3 :
    ∃ (f : InFrame) (rest : List InFrame) (s : State), (s.up) ∧ (s.cmd.fifo = f :: rest) ∧ (s.admits 0x01 f = true) :=
  ⟨cmdFrame ⟨2, 0, 1, 0⟩ 1 0 10 2 [7], [], commanded (cmdFrame ⟨2, 0, 1, 0⟩ 1 0 10 2 [7]) [(.FAB_RT_VALID 1, 1), (.FAB_RT_PORT 1, 3)], by decide +kernel⟩

theorem witness_FramesAreCheckedAndSessionsKept_2 :
    ∃ (f : InFrame) (rest : List InFrame) (s : State), (s.up) ∧ (s.devState ≠ stRecovery) ∧ (s.bankerUp = true) ∧ (s.cmd.fifo = f :: rest) ∧ (f.crcOk = false) ∧ (f.origin.transport = 0) :=
  ⟨{ cmdFrame udpHost 1 0 9 2 [7] with crcOk := false }, [], commanded { cmdFrame udpHost 1 0 9 2 [7] with crcOk := false } [], by decide +kernel⟩

theorem witness_FramesAreCheckedAndSessionsKept_3 :
    ∃ (f : InFrame) (rest : List InFrame) (s : State), (s.up) ∧ (s.devState ≠ stRecovery) ∧ (s.bankerUp = true) ∧ (s.cmd.fifo = f :: rest) ∧ (frameSound f = true) ∧ (frameNum f.bytes 2 2 ≠ 0) ∧ (s.session? (frameNum f.bytes 2 2) f.origin = none) :=
  ⟨cmdFrame udpHost 1 6 9 2 [7], [], commanded (cmdFrame udpHost 1 6 9 2 [7]) [], by decide +kernel⟩

theorem witness_FramesAreCheckedAndSessionsKept_4 :
    ∃ (f : InFrame) (rest : List InFrame) (x : Session) (s : State), (s.up) ∧ (s.devState ≠ stRecovery) ∧ (s.bankerUp = true) ∧ (s.cmd.fifo = f :: rest) ∧ (frameSound f = true) ∧ (frameNum f.bytes 2 2 ≠ 0) ∧ (s.session? (frameNum f.bytes 2 2) f.origin = some x) ∧ (frameNum f.bytes 8 1 = x.alive) :=
  ⟨cmdFrame udpHost 1 5 10 1 [7], [], ⟨5, 0, udpHost, 1, 9, some (frameHdr udpHost (cmdBytes 1 5 9 1 [7]), 0, [3])⟩, commanded (cmdFrame udpHost 1 5 10 1 [7]) [], by decide +kernel⟩

theorem witness_FramesAreCheckedAndSessionsKept_5 :
    ∃ (f : InFrame) (rest : List InFrame) (x : Session) (g : CmdHdr) (c : Nat) (p : List Byte) (s : State), (s.up) ∧ (s.devState ≠ stRecovery) ∧ (s.bankerUp = true) ∧ (s.cmd.fifo = f :: rest) ∧ (frameSound f = true) ∧ (frameNum f.bytes 2 2 ≠ 0) ∧ (s.session? (frameNum f.bytes 2 2) f.origin = some x) ∧ (frameNum f.bytes 8 1 ≠ x.alive) ∧ (frameNum f.bytes 4 4 = x.seq) ∧ (s.cmd.runs = []) ∧ (x.resp = some (g, c, p)) :=
  ⟨cmdFrame udpHost 1 5 9 2 [7], [], ⟨5, 0, udpHost, 1, 9, some (frameHdr udpHost (cmdBytes 1 5 9 1 [7]), 0, [3])⟩, frameHdr udpHost (cmdBytes 1 5 9 1 [7]), 0, [3], commanded (cmdFrame udpHost 1 5 9 2 [7]) [], by decide +kernel⟩

theorem witness_FramesAreCheckedAndSessionsKept_6 :
    ∃ (f : InFrame) (rest : List InFrame) (x : Session) (s : State), (s.up) ∧ (s.devState ≠ stRecovery) ∧ (s.bankerUp = true) ∧ (s.cmd.fifo = f :: rest) ∧ (frameSound f = true) ∧ (frameNum f.bytes 2 2 ≠ 0) ∧ (s.session? (frameNum f.bytes 2 2) f.origin = some x) ∧ (frameNum f.bytes 8 1 ≠ x.alive) ∧ (frameNum f.bytes 4 4 ≠ x.seq) ∧ (wordDiff (BitVec.ofNat 32 (frameNum f.bytes 4 4)) (BitVec.ofNat 32 x.seq) < 0) :=
  ⟨cmdFrame udpHost 1 5 8 2 [7], [], ⟨5, 0, udpHost, 1, 9, some (frameHdr udpHost (cmdBytes 1 5 9 1 [7]), 0, [3])⟩, commanded (cmdFrame udpHost 1 5 8 2 [7]) [], by decide +kernel⟩

theorem witness_FramesAreCheckedAndSessionsKept_7 :
    ∃ (f : InFrame) (rest : List InFrame) (x : Session) (s : State), (s.up) ∧ (s.devState ≠ stRecovery) ∧ (s.bankerUp = true) ∧ (s.cmd.fifo = f :: rest) ∧ (frameSound f = true) ∧ (frameNum f.bytes 2 2 ≠ 0) ∧ (s.session? (frameNum f.bytes 2 2) f.origin = some x) ∧ (frameNum f.bytes 8 1 ≠ x.alive) ∧ (frameNum f.bytes 4 4 ≠ x.seq) ∧ (0 ≤ wordDiff (BitVec.ofNat 32 (frameNum f.bytes 4 4)) (BitVec.ofNat 32 x.seq)) ∧ (4 ≤ (s.cmd.runs.filter fun r => r.hdr.session == frameNum f.bytes 2 2 && r.stage == .queued).length) ∧ (frameNum f.bytes 10 2 < 0x40) :=
  ⟨cmdFrame udpHost 1 5 10 2 [7], [], ⟨5, 0, udpHost, 1, 9, some (frameHdr udpHost (cmdBytes 1 5 9 1 [7]), 0, [3])⟩, (commanded (cmdFrame udpHost 1 5 10 2 [7]) []).updCmd fun c => { c with runs := List.replicate 4 ⟨frameHdr udpHost (cmdBytes 0x20 5 3 1 []), .swap 0 [], .queued⟩ }, by decide +kernel⟩

theorem witness_FramesAreCheckedAndSessionsKept_8 :
    ∃ (f : InFrame) (rest : List InFrame) (s : State), (s.up) ∧ (s.devState ≠ stRecovery) ∧ (s.bankerUp = true) ∧ (s.cmd.fifo = f :: rest) ∧ (frameSound f = true) ∧ (frameNum f.bytes 2 2 = 0) ∧ (commandRow (frameNum f.bytes 10 2) = none) :=
  ⟨cmdFrame udpHost 0x99 0 10 2 [7], [], commanded (cmdFrame udpHost 0x99 0 10 2 [7]) [], by decide +kernel⟩

theorem witness_FramesAreCheckedAndSessionsKept_9 :
    ∃ (f : InFrame) (rest : List InFrame) (s : State), (s.up) ∧ (s.devState ≠ stRecovery) ∧ (s.bankerUp = true) ∧ (s.cmd.fifo = f :: rest) ∧ (frameSound f = true) ∧ (frameNum f.bytes 2 2 = 0) ∧ (frameNum f.bytes 0 1 = 1) ∧ (frameNum f.bytes 10 2 = 0x30) :=
  ⟨cmdFrame udpHost 0x30 0 10 2 [7], [], commanded (cmdFrame udpHost 0x30 0 10 2 [7]) [], by decide +kernel⟩

theorem witness_FramesAreCheckedAndSessionsKept_10 :
    ∃ (f : InFrame) (rest : List InFrame) (n : Nat) (c : Controller) (s : State), (s.up) ∧ (s.cmd.fifo = f :: rest) ∧ (s.admits 0x02 f = true) ∧ (frameNum f.bytes 2 2 = 0) ∧ (s.image.controllers[n]? = some c) ∧ (Controller_matches c f.origin = true) ∧ (s.cmd.sessions.length < 8) :=
  ⟨cmdFrame udpHost 2 0 10 2 [0], [], 0, ⟨0, 0xA000005, [0, 1, 2, 3]⟩, commanded (cmdFrame udpHost 2 0 10 2 [0]) [], by decide +kernel⟩

theorem witness_FramesAreCheckedAndSessionsKept_10_1 :
    ∃ (f : InFrame) (rest : List InFrame) (n : Nat) (c : Controller) (s : State), (s.up) ∧ (s.cmd.fifo = f :: rest) ∧ (s.admits 0x02 f = true) ∧ (frameNum f.bytes 2 2 = 0) ∧ (s.image.controllers[n]? = some c) ∧ (Controller_matches c f.origin = true) ∧ (s.cmd.sessions.length < 8) :=
  ⟨cmdFrame udpHost 2 0 10 2 [0], [], 0, ⟨0, 0xA000005, [0, 1, 2, 3]⟩, (commanded (cmdFrame udpHost 2 0 10 2 [0]) []).updCmd fun c => { c with lastId := 4 }, by decide +kernel⟩

theorem witness_FramesAreCheckedAndSessionsKept_10_2 :
    ∃ (f : InFrame) (rest : List InFrame) (n : Nat) (c : Controller) (s : State), (s.up) ∧ (s.cmd.fifo = f :: rest) ∧ (s.admits 0x02 f = true) ∧ (frameNum f.bytes 2 2 = 0) ∧ (s.image.controllers[n]? = some c) ∧ (Controller_matches c f.origin = true) ∧ (s.cmd.sessions.length < 8) :=
  ⟨cmdFrame udpHost 2 0 10 2 [0], [], 0, ⟨0, 0xA000005, [0, 1, 2, 3]⟩, (commanded (cmdFrame udpHost 2 0 10 2 [0]) []).updCmd fun c => { c with lastId := 0xFFFF }, by decide +kernel⟩

theorem witness_FramesAreCheckedAndSessionsKept_11 :
    ∃ (f : InFrame) (rest : List InFrame) (n : Nat) (c : Controller) (s : State), (s.up) ∧ (s.cmd.fifo = f :: rest) ∧ (s.admits 0x02 f = true) ∧ (frameNum f.bytes 2 2 = 0) ∧ (s.image.controllers[n]? = some c) ∧ (Controller_matches c f.origin = true) ∧ (8 ≤ s.cmd.sessions.length) :=
  ⟨cmdFrame udpHost 2 0 10 2 [0], [], 0, ⟨0, 0xA000005, [0, 1, 2, 3]⟩, (commanded (cmdFrame udpHost 2 0 10 2 [0]) []).updCmd fun c => { c with sessions := (List.range 8).map fun i => ⟨i + 1, 0, udpHost, 0, 0, none⟩ }, by decide +kernel⟩

theorem witness_FramesAreCheckedAndSessionsKept_12 :
    ∃ (f : InFrame) (rest : List InFrame) (n : Nat) (s : State), (s.up) ∧ (s.cmd.fifo = f :: rest) ∧ (s.admits 0x02 f = true) ∧ (frameNum f.bytes 2 2 = 0) ∧ ((s.image.controllers[n]?.any fun c => Controller_matches c f.origin) = false) :=
  ⟨cmdFrame ⟨0, 1, 6, 4000⟩ 2 0 10 2 [0], [], 0, commanded (cmdFrame ⟨0, 1, 6, 4000⟩ 2 0 10 2 [0]) [], by decide +kernel⟩

theorem witness_FramesAreCheckedAndSessionsKept_12_1 :
    ∃ (f : InFrame) (rest : List InFrame) (n : Nat) (s : State), (s.up) ∧ (s.cmd.fifo = f :: rest) ∧ (s.admits 0x02 f = true) ∧ (frameNum f.bytes 2 2 = 0) ∧ ((s.image.controllers[n]?.any fun c => Controller_matches c f.origin) = false) :=
  ⟨cmdFrame udpHost 2 0 10 2 [0], [], 9, commanded (cmdFrame udpHost 2 0 10 2 [0]) [], by decide +kernel⟩

theorem witness_FramesAreCheckedAndSessionsKept_13 :
    ∃ (f : InFrame) (rest : List InFrame) (s : State), (s.up) ∧ (s.cmd.fifo = f :: rest) ∧ (s.admits 0x03 f = true) :=
  ⟨cmdFrame udpHost 3 5 10 2 [], [], commanded (cmdFrame udpHost 3 5 10 2 []) [], by decide +kernel⟩

theorem witness_FramesAreCheckedAndSessionsKept_14 :
    ∃ (id : Nat) (s : State), (s.up) :=
  ⟨5, commanded (cmdFrame udpHost 3 5 10 2 []) [], by decide +kernel⟩

theorem witness_ReadCommandsReturnWhatTheyName_0 :
    ∃ (f : InFrame) (rest : List InFrame) (s : State), (s.up) ∧ (s.cmd.fifo = f :: rest) ∧ (s.admits 0x10 f = true) :=
  ⟨cmdFrame udpHost 0x10 0 9 2 [], [], commanded (cmdFrame udpHost 0x10 0 9 2 []) [], by decide +kernel⟩

theorem witness_ReadCommandsReturnWhatTheyName_0_1 :
    ∃ (f : InFrame) (rest : List InFrame) (s : State), (s.up) ∧ (s.cmd.fifo = f :: rest) ∧ (s.admits 0x10 f = true) :=
  ⟨cmdFrame udpHost 0x10 5 10 2 [], [], commanded (cmdFrame udpHost 0x10 5 10 2 []) [], by decide +kernel⟩

theorem witness_ReadCommandsReturnWhatTheyName_1 :
    ∃ (f : InFrame) (rest : List InFrame) (a n : Nat) (s : State), (s.up) ∧ (s.cmd.fifo = f :: rest) ∧ (s.admits 0x11 f = true) ∧ (a < 512) ∧ (0 < n) ∧ (n ≤ 128) :=
  ⟨cmdFrame udpHost 0x11 5 10 2 [], [], 510, 128, commanded (cmdFrame udpHost 0x11 5 10 2 []) [], by decide +kernel⟩

theorem witness_ReadCommandsReturnWhatTheyName_1_1 :
    ∃ (f : InFrame) (rest : List InFrame) (a n : Nat) (s : State), (s.up) ∧ (s.cmd.fifo = f :: rest) ∧ (s.admits 0x11 f = true) ∧ (a < 512) ∧ (0 < n) ∧ (n ≤ 128) :=
  ⟨cmdFrame ⟨1, 0, 0, 0⟩ 0x11 5 10 2 [], [], 0, 1, commanded (cmdFrame ⟨1, 0, 0, 0⟩ 0x11 5 10 2 []) [], by decide +kernel⟩

theorem witness_ReadCommandsReturnWhatTheyName_2 :
    ∃ (f : InFrame) (rest : List InFrame) (a n : Nat) (s : State), (s.up) ∧ (s.cmd.fifo = f :: rest) ∧ (s.admits 0x11 f = true) ∧ ((512 ≤ a ∨ n = 0 ∨ 128 < n)) :=
  ⟨cmdFrame udpHost 0x11 5 10 2 [], [], 512, 1, commanded (cmdFrame udpHost 0x11 5 10 2 []) [], by decide +kernel⟩

theorem witness_ReadCommandsReturnWhatTheyName_2_1 :
    ∃ (f : InFrame) (rest : List InFrame) (a n : Nat) (s : State), (s.up) ∧ (s.cmd.fifo = f :: rest) ∧ (s.admits 0x11 f = true) ∧ ((512 ≤ a ∨ n = 0 ∨ 128 < n)) :=
  ⟨cmdFrame udpHost 0x11 5 10 2 [], [], 5, 0, commanded (cmdFrame udpHost 0x11 5 10 2 []) [], by decide +kernel⟩

theorem witness_ReadCommandsReturnWhatTheyName_3 :
    ∃ (f : InFrame) (rest : List InFrame) (p : Fin 4) (s : State), (s.up) ∧ (s.cmd.fifo = f :: rest) ∧ (s.admits 0x12 f = true) :=
  ⟨cmdFrame udpHost 0x12 5 10 2 [], [], 3, commanded (cmdFrame udpHost 0x12 5 10 2 []) [], by decide +kernel⟩

theorem witness_ReadCommandsReturnWhatTheyName_4 :
    ∃ (f : InFrame) (rest : List InFrame) (p : Nat) (s : State), (s.up) ∧ (s.cmd.fifo = f :: rest) ∧ (s.admits 0x12 f = true) ∧ (4 ≤ p) :=
  ⟨cmdFrame udpHost 0x12 5 10 2 [], [], 4, commanded (cmdFrame udpHost 0x12 5 10 2 []) [], by decide +kernel⟩

theorem witness_ReadCommandsReturnWhatTheyName_5 :
    ∃ (f : InFrame) (rest : List InFrame) (s : State), (s.up) ∧ (s.cmd.fifo = f :: rest) ∧ (s.admits 0x13 f = true) ∧ (6 ≤ (framePayload f).length) ∧ (frameNum (framePayload f) 0 1 < 2) ∧ (frameNum (framePayload f) 1 4 < s.logNext (frameNum (framePayload f) 0 1)) ∧ (0 < frameNum (framePayload f) 5 1) :=
  ⟨cmdFrame udpHost 0x13 5 10 2 [1, 0, 0, 0, 0, 2], [], commanded (cmdFrame udpHost 0x13 5 10 2 [1, 0, 0, 0, 0, 2]) [(.LOG_RING_NEXT_VALUE, 1)], by decide +kernel⟩

theorem witness_ReadCommandsReturnWhatTheyName_6 :
    ∃ (f : InFrame) (rest : List InFrame) (s : State), (s.up) ∧ (s.cmd.fifo = f :: rest) ∧ (s.admits 0x13 f = true) ∧ ((2 < frameNum (framePayload f) 0 1 ∨ (frameNum (framePayload f) 0 1 < 2 ∧ (frameNum (framePayload f) 5 1 = 0 ∨ s.logNext (frameNum (framePayload f) 0 1) ≤ frameNum (framePayload f) 1 4)))) :=
  ⟨cmdFrame udpHost 0x13 5 10 2 [3, 0, 0, 0, 0, 2], [], commanded (cmdFrame udpHost 0x13 5 10 2 [3, 0, 0, 0, 0, 2]) [], by decide +kernel⟩

theorem witness_ReadCommandsReturnWhatTheyName_6_1 :
    ∃ (f : InFrame) (rest : List InFrame) (s : State), (s.up) ∧ (s.cmd.fifo = f :: rest) ∧ (s.admits 0x13 f = true) ∧ ((2 < frameNum (framePayload f) 0 1 ∨ (frameNum (framePayload f) 0 1 < 2 ∧ (frameNum (framePayload f) 5 1 = 0 ∨ s.logNext (frameNum (framePayload f) 0 1) ≤ frameNum (framePayload f) 1 4)))) :=
  ⟨cmdFrame udpHost 0x13 5 10 2 [0, 0, 0, 0, 0, 2], [], commanded (cmdFrame udpHost 0x13 5 10 2 [0, 0, 0, 0, 0, 2]) [], by decide +kernel⟩

theorem witness_ReadCommandsReturnWhatTheyName_7 :
    ∃ (f : InFrame) (rest : List InFrame) (s : State), (s.up) ∧ (s.cmd.fifo = f :: rest) ∧ (s.admits 0x13 f = true) ∧ (6 ≤ (framePayload f).length) ∧ (frameNum (framePayload f) 0 1 = 2) :=
  ⟨cmdFrame udpHost 0x13 5 10 2 [2, 0, 0, 0, 0, 2], [], commanded (cmdFrame udpHost 0x13 5 10 2 [2, 0, 0, 0, 0, 2]) [], by decide +kernel⟩

theorem witness_LayoutCommandsWaitForTheirTick_0 :
    ∃ (f : InFrame) (rest : List InFrame) (y n : Nat) (xs : List Swap) (s : State), (s.up) ∧ (s.cmd.fifo = f :: rest) ∧ (s.admits 0x20 f = true) ∧ (s.dealing = true) ∧ (s.cmd.runs = []) ∧ (s.on .CMP_COMMIT_PENDING = false) ∧ (s.wallArmed = false) ∧ (y < 256) ∧ (n < 2 ^ 32) ∧ (swapsOk 16 xs = true) ∧ (n ≠ 0) ∧ (1 < wordDiff (BitVec.ofNat 32 n) s.tick) ∧ (wordDiff (BitVec.ofNat 32 n) s.tick ≤ 600) :=
  ⟨cmdFrame udpHost 0x20 5 10 2 [], [], 0, 102, [(3, none)], withWords [(Reg.DLR_TICK_COUNT, 100)] (commanded (cmdFrame udpHost 0x20 5 10 2 []) []), by decide +kernel⟩

theorem witness_LayoutCommandsWaitForTheirTick_0_1 :
    ∃ (f : InFrame) (rest : List InFrame) (y n : Nat) (xs : List Swap) (s : State), (s.up) ∧ (s.cmd.fifo = f :: rest) ∧ (s.admits 0x20 f = true) ∧ (s.dealing = true) ∧ (s.cmd.runs = []) ∧ (s.on .CMP_COMMIT_PENDING = false) ∧ (s.wallArmed = false) ∧ (y < 256) ∧ (n < 2 ^ 32) ∧ (swapsOk 16 xs = true) ∧ (n ≠ 0) ∧ (1 < wordDiff (BitVec.ofNat 32 n) s.tick) ∧ (wordDiff (BitVec.ofNat 32 n) s.tick ≤ 600) :=
  ⟨cmdFrame udpHost 0x20 5 10 2 [], [], 255, 700, [], withWords [(Reg.DLR_TICK_COUNT, 100)] (commanded (cmdFrame udpHost 0x20 5 10 2 []) []), by decide +kernel⟩

theorem witness_LayoutCommandsWaitForTheirTick_1 :
    ∃ (f : InFrame) (rest : List InFrame) (y n : Nat) (xs : List Swap) (s : State), (s.up) ∧ (s.cmd.fifo = f :: rest) ∧ (s.admits 0x20 f = true) ∧ ((256 ≤ y ∨ 2 ^ 32 ≤ n ∨ swapsOk 16 xs = false)) :=
  ⟨cmdFrame udpHost 0x20 5 10 2 [], [], 256, 5, [], commanded (cmdFrame udpHost 0x20 5 10 2 []) [], by decide +kernel⟩

theorem witness_LayoutCommandsWaitForTheirTick_1_1 :
    ∃ (f : InFrame) (rest : List InFrame) (y n : Nat) (xs : List Swap) (s : State), (s.up) ∧ (s.cmd.fifo = f :: rest) ∧ (s.admits 0x20 f = true) ∧ ((256 ≤ y ∨ 2 ^ 32 ≤ n ∨ swapsOk 16 xs = false)) :=
  ⟨cmdFrame udpHost 0x20 5 10 2 [], [], 0, 5, [(512, none)], commanded (cmdFrame udpHost 0x20 5 10 2 []) [], by decide +kernel⟩

theorem witness_LayoutCommandsWaitForTheirTick_2 :
    ∃ (f : InFrame) (rest : List InFrame) (n : Nat) (xs : List Swap) (s : State), (s.up) ∧ (s.cmd.fifo = f :: rest) ∧ (s.admits 0x21 f = true) ∧ (s.dealing = true) ∧ (s.cmd.runs = []) ∧ (s.on .CMP_COMMIT_PENDING = false) ∧ (s.wallArmed = false) ∧ (n < 2 ^ 32) ∧ (swapsOk 32 xs = true) ∧ (n ≠ 0) ∧ (1 < wordDiff (BitVec.ofNat 32 n) s.tick) ∧ (wordDiff (BitVec.ofNat 32 n) s.tick ≤ 600) :=
  ⟨cmdFrame udpHost 0x21 5 10 2 [], [], 102, [(3, some 7)], withWords [(Reg.DLR_TICK_COUNT, 100)] (commanded (cmdFrame udpHost 0x21 5 10 2 []) []), by decide +kernel⟩

theorem witness_LayoutCommandsWaitForTheirTick_3 :
    ∃ (f : InFrame) (rest : List InFrame) (n : Nat) (xs : List Swap) (s : State), (s.up) ∧ (s.cmd.fifo = f :: rest) ∧ (s.admits 0x21 f = true) ∧ (n < 2 ^ 32) ∧ (swapsOk 32 xs = true) ∧ (n ≠ 0) ∧ (600 < wordDiff (BitVec.ofNat 32 n) s.tick) :=
  ⟨cmdFrame udpHost 0x21 5 10 2 [], [], 701, [(3, some 7)], withWords [(Reg.DLR_TICK_COUNT, 100)] (commanded (cmdFrame udpHost 0x21 5 10 2 []) []), by decide +kernel⟩

theorem witness_LayoutCommandsWaitForTheirTick_4 :
    ∃ (f : InFrame) (rest : List InFrame) (o : Fin 16) (g : Fin 8) (ws : List Word) (s : State), (s.up) ∧ (s.cmd.fifo = f :: rest) ∧ (s.admits 0x23 f = true) ∧ (s.dealing = true) ∧ (s.cmd.runs = []) ∧ (s.on .CMP_COMMIT_PENDING = false) ∧ (s.wallArmed = false) ∧ (ws.length = 6) ∧ (s.dealer.changes.length < 4) :=
  ⟨cmdFrame udpHost 0x23 5 10 2 [], [], 15, 7, [1, 2, 3, 4, 0x50006, 6], commanded (cmdFrame udpHost 0x23 5 10 2 []) [], by decide +kernel⟩

theorem witness_LayoutCommandsWaitForTheirTick_5 :
    ∃ (f : InFrame) (rest : List InFrame) (o g : Nat) (ws : List Word) (s : State), (s.up) ∧ (s.cmd.fifo = f :: rest) ∧ (s.admits 0x23 f = true) ∧ ((16 ≤ o ∨ 8 ≤ g ∨ ws.length ≠ 6)) :=
  ⟨cmdFrame udpHost 0x23 5 10 2 [], [], 15, 8, [1, 2, 3, 4, 5, 6], commanded (cmdFrame udpHost 0x23 5 10 2 []) [], by decide +kernel⟩

theorem witness_LayoutCommandsWaitForTheirTick_6 :
    ∃ (f : InFrame) (rest : List InFrame) (o : Fin 16) (es : List Word) (a p : Nat) (s : State), (s.up) ∧ (s.cmd.fifo = f :: rest) ∧ (s.admits 0x24 f = true) ∧ (s.dealing = true) ∧ (s.cmd.runs = []) ∧ (s.on .CMP_COMMIT_PENDING = false) ∧ (s.wallArmed = false) ∧ (es.length = 8) ∧ (a < 2 ^ 40) ∧ (p < 2 ^ 16) ∧ (s.dealer.changes.length < 4) :=
  ⟨cmdFrame udpHost 0x24 5 10 2 [], [], 15, [1, 2, 3, 4, 5, 6, 7, 8], 0x100000000, 64, commanded (cmdFrame udpHost 0x24 5 10 2 []) [], by decide +kernel⟩

theorem witness_LayoutCommandsWaitForTheirTick_7 :
    ∃ (f : InFrame) (rest : List InFrame) (o : Fin 16) (es : List Word) (a p : Nat) (s : State), (s.up) ∧ (s.cmd.fifo = f :: rest) ∧ (s.admits 0x24 f = true) ∧ (s.dealing = true) ∧ (s.cmd.runs = []) ∧ (s.on .CMP_COMMIT_PENDING = true) ∧ (es.length = 8) ∧ (a < 2 ^ 40) ∧ (p < 2 ^ 16) :=
  ⟨cmdFrame udpHost 0x24 5 10 2 [], [], 15, [1, 2, 3, 4, 5, 6, 7, 8], 0x100000000, 64, commanded (cmdFrame udpHost 0x24 5 10 2 []) [(.CMP_COMMIT_PENDING, 1)], by decide +kernel⟩

theorem witness_LayoutCommandsWaitForTheirTick_8 :
    ∃ (f : InFrame) (rest : List InFrame) (y : Nat) (d : WallDesc) (s : State), (s.up) ∧ (s.cmd.fifo = f :: rest) ∧ (s.admits 0x22 f = true) ∧ (s.dealing = true) ∧ (s.cmd.runs = []) ∧ (s.on .CMP_COMMIT_PENDING = false) ∧ (s.wallArmed = false) ∧ (s.wall.coord = none) ∧ (y < 256) ∧ (s.wallDesc y = some d) ∧ (s.dealer.changes.length < 4) :=
  ⟨cmdFrame udpHost 0x22 5 10 2 [], [], 0, { members := [0, 1], layout := 0 }, walled (commanded (cmdFrame udpHost 0x22 5 10 2 []) []), by decide +kernel⟩

theorem witness_LayoutCommandsWaitForTheirTick_9 :
    ∃ (f : InFrame) (rest : List InFrame) (y n : Nat) (s : State), (s.up) ∧ (s.cmd.fifo = f :: rest) ∧ (s.admits 0x22 f = true) ∧ ((256 ≤ y ∨ 2 ^ 32 ≤ n)) :=
  ⟨cmdFrame udpHost 0x22 5 10 2 [], [], 256, 0, commanded (cmdFrame udpHost 0x22 5 10 2 []) [], by decide +kernel⟩

theorem witness_LayoutCommandsWaitForTheirTick_10 :
    ∃ (r : CmdRun) (ws : List (Nat × Word)) (k : Tick) (s : State), (s.up) ∧ (s.dealing = true) ∧ (s.nextChange = none) ∧ (s.cmd.runs = [r]) ∧ (r.act = .words ws) ∧ (r.stage = .taken k) ∧ ((s.on .CMP_COMMIT_PENDING = true ∨ s.wallArmed = true)) ∧ (wordDiff s.tick k < 4) :=
  ⟨⟨frameHdr udpHost (cmdBytes 0x20 5 10 2 []), .words [], .taken 100⟩, [], 100, { withWords [(Reg.DLR_TICK_COUNT, 103)] (dealing [(.CMP_COMMIT_PENDING, 1)]) with cmd := { CmdSt.init with runs := [⟨frameHdr udpHost (cmdBytes 0x20 5 10 2 []), .words [], .taken 100⟩] } }, by decide +kernel⟩

theorem witness_LayoutCommandsWaitForTheirTick_11 :
    ∃ (r : CmdRun) (ws : List (Nat × Word)) (k : Tick) (s : State), (s.up) ∧ (s.bankerUp = true) ∧ (s.dealing = true) ∧ (s.nextChange = none) ∧ (s.cmd.runs = [r]) ∧ (r.act = .words ws) ∧ (r.stage = .taken k) ∧ ((s.on .CMP_COMMIT_PENDING = true ∨ s.wallArmed = true)) ∧ (4 ≤ wordDiff s.tick k) ∧ (s.layoutRefusal (s.loadAct r.act) r.act = none) :=
  ⟨⟨frameHdr udpHost (cmdBytes 0x20 5 10 2 []), .words [], .taken 100⟩, [], 100, { withWords [(Reg.DLR_TICK_COUNT, 104)] (dealing [(.HST_MB_STATUS_BANKER_UP, 1), (.CMP_COMMIT_PENDING, 1), (.DLR_TICK_NUM_NUM, 50000000), (.DLR_TICK_DEN_DEN, 3)]) with cmd := { CmdSt.init with runs := [⟨frameHdr udpHost (cmdBytes 0x20 5 10 2 []), .words [], .taken 100⟩] }, image := oneLayout [] }, by decide +kernel⟩

theorem witness_LayoutCommandsWaitForTheirTick_12 :
    ∃ (r : CmdRun) (ws : List (Nat × Word)) (k : Tick) (code reason : Nat) (s : State), (s.up) ∧ (s.bankerUp = true) ∧ (s.dealing = true) ∧ (s.nextChange = none) ∧ (s.cmd.runs = [r]) ∧ (r.act = .words ws) ∧ (r.stage = .taken k) ∧ (s.on .CMP_COMMIT_PENDING = true) ∧ (4 ≤ wordDiff s.tick k) ∧ (s.actPermits (s.loadAct r.act) r.act = true) ∧ (s.layoutRefusal (s.loadAct r.act) r.act = some (code, reason)) :=
  ⟨⟨frameHdr udpHost (cmdBytes 0x20 5 10 2 []), .words [], .taken 100⟩, [], 100, stRANGE, admPermit, { withWords [(Reg.DLR_TICK_COUNT, 104)] (dealing [(.HST_MB_STATUS_BANKER_UP, 1), (.CMP_COMMIT_PENDING, 1)]) with cmd := { CmdSt.init with runs := [⟨frameHdr udpHost (cmdBytes 0x20 5 10 2 []), .words [], .taken 100⟩] }, pendLayout := some 9 }, by decide +kernel⟩

theorem witness_OperatingCommandsActAndAnswer_0 :
    ∃ (f : InFrame) (rest : List InFrame) (o : Fin 16) (s : State), (s.up) ∧ (s.logRoom) ∧ (s.cmd.fifo = f :: rest) ∧ (s.admits 0x30 f = true) ∧ (bitOf (s.get (.OUT_STATUS_BLANK_SRC o)) 0 = true) ∧ (s.sco.hard = false) :=
  ⟨cmdFrame udpHost 0x30 5 10 2 [], [], 15, commanded (cmdFrame udpHost 0x30 5 10 2 []) [(.OUT_STATUS_BLANK_SRC 15, 3), (.CMP_LV_OUT_BLANKED 15, 1), (.CMP_LV_OUT_BLANK_CAUSE 15, 2), (.CMP_LV_OUT_MISS_RUN 15, 2)], by decide +kernel⟩

theorem witness_OperatingCommandsActAndAnswer_1 :
    ∃ (f : InFrame) (rest : List InFrame) (o : Fin 16) (s : State), (s.up) ∧ (s.cmd.fifo = f :: rest) ∧ (s.admits 0x30 f = true) ∧ ((bitOf (s.get (.OUT_STATUS_BLANK_SRC o)) 0 = false ∨ s.sco.hard = true)) :=
  ⟨cmdFrame udpHost 0x30 5 10 2 [], [], 15, commanded (cmdFrame udpHost 0x30 5 10 2 []) [(.OUT_STATUS_BLANK_SRC 15, 2)], by decide +kernel⟩

theorem witness_OperatingCommandsActAndAnswer_2 :
    ∃ (f : InFrame) (rest : List InFrame) (o : Nat) (s : State), (s.up) ∧ (s.cmd.fifo = f :: rest) ∧ (s.admits 0x30 f = true) ∧ (16 ≤ o) :=
  ⟨cmdFrame udpHost 0x30 5 10 2 [], [], 16, commanded (cmdFrame udpHost 0x30 5 10 2 []) [], by decide +kernel⟩

theorem witness_OperatingCommandsActAndAnswer_3 :
    ∃ (f : InFrame) (rest : List InFrame) (s : State), (s.up) ∧ (s.cmd.fifo = f :: rest) ∧ (s.admits 0x31 f = true) ∧ (s.on .OUT_REF_STATUS_REF_RATE = false) :=
  ⟨cmdFrame udpHost 0x31 5 10 2 [], [], commanded (cmdFrame udpHost 0x31 5 10 2 []) [], by decide +kernel⟩

theorem witness_OperatingCommandsActAndAnswer_5 :
    ∃ (f : InFrame) (rest : List InFrame) (p : Fin 4) (s : State), (s.up) ∧ (s.logRoom) ∧ (s.cmd.fifo = f :: rest) ∧ (s.admits 0x32 f = true) ∧ (s.tchState p = tpRun) :=
  ⟨cmdFrame udpHost 0x32 5 10 2 [], [], 2, commanded (cmdFrame udpHost 0x32 5 10 2 []) [(.TCH_P_STATE_STATE 2, tpRun)], by decide +kernel⟩

theorem witness_OperatingCommandsActAndAnswer_6 :
    ∃ (f : InFrame) (rest : List InFrame) (p : Fin 4) (s : State), (s.up) ∧ (s.cmd.fifo = f :: rest) ∧ (s.admits 0x32 f = true) ∧ (s.tchState p = tpFault) :=
  ⟨cmdFrame udpHost 0x32 5 10 2 [], [], 2, commanded (cmdFrame udpHost 0x32 5 10 2 []) [(.TCH_P_STATE_STATE 2, tpFault)], by decide +kernel⟩

theorem witness_OperatingCommandsActAndAnswer_7 :
    ∃ (f : InFrame) (rest : List InFrame) (p op : Nat) (s : State), (s.up) ∧ (s.cmd.fifo = f :: rest) ∧ (s.admits 0x32 f = true) ∧ ((4 ≤ p ∨ 2 ≤ op)) :=
  ⟨cmdFrame udpHost 0x32 5 10 2 [], [], 2, 2, commanded (cmdFrame udpHost 0x32 5 10 2 []) [], by decide +kernel⟩

theorem witness_OperatingCommandsActAndAnswer_8 :
    ∃ (f : InFrame) (rest : List InFrame) (e : Fin 32) (s : State), (s.up) ∧ (s.cmd.fifo = f :: rest) ∧ (s.admits 0x33 f = true) ∧ (s.encRuns e = true) :=
  ⟨cmdFrame udpHost 0x33 5 10 2 [], [], 31, encoding (commanded (cmdFrame udpHost 0x33 5 10 2 []) []), by decide +kernel⟩

theorem witness_OperatingCommandsActAndAnswer_9 :
    ∃ (f : InFrame) (rest : List InFrame) (e : Fin 32) (s : State), (s.up) ∧ (s.cmd.fifo = f :: rest) ∧ (s.admits 0x33 f = true) ∧ (s.encRuns e = false) :=
  ⟨cmdFrame udpHost 0x33 5 10 2 [], [], 31, commanded (cmdFrame udpHost 0x33 5 10 2 []) [], by decide +kernel⟩

theorem witness_OperatingCommandsActAndAnswer_10 :
    ∃ (f : InFrame) (rest : List InFrame) (e : Fin 32) (s : State), (s.up) ∧ (s.cmd.fifo = f :: rest) ∧ (s.admits 0x33 f = true) ∧ (s.dealing = true) ∧ (s.dealer.changes.length < 4) :=
  ⟨cmdFrame udpHost 0x33 5 10 2 [], [], 31, commanded (cmdFrame udpHost 0x33 5 10 2 []) [], by decide +kernel⟩

theorem witness_OperatingCommandsActAndAnswer_11 :
    ∃ (f : InFrame) (rest : List InFrame) (p : Fin 8) (v : Bool) (s : State), (s.up) ∧ (s.cmd.fifo = f :: rest) ∧ (s.admits 0x34 f = true) :=
  ⟨cmdFrame udpHost 0x34 5 10 2 [], [], 7, true, commanded (cmdFrame udpHost 0x34 5 10 2 []) [], by decide +kernel⟩

theorem witness_OperatingCommandsActAndAnswer_12 :
    ∃ (f : InFrame) (rest : List InFrame) (p : Nat) (v : Bool) (s : State), (s.up) ∧ (s.cmd.fifo = f :: rest) ∧ (s.admits 0x34 f = true) ∧ (8 ≤ p) :=
  ⟨cmdFrame udpHost 0x34 5 10 2 [], [], 8, true, commanded (cmdFrame udpHost 0x34 5 10 2 []) [], by decide +kernel⟩

theorem witness_OperatingCommandsActAndAnswer_13 :
    ∃ (f : InFrame) (rest : List InFrame) (c : Fin 512) (s : State), (s.up) ∧ (s.cmd.fifo = f :: rest) ∧ (s.admits 0x35 f = true) ∧ (s.on .DEC_CMD_STATUS_BUSY = false) ∧ (s.get (.DEC_CX_NET_FB c) = 0) :=
  ⟨cmdFrame udpHost 0x35 5 10 2 [], [], 511, commanded (cmdFrame udpHost 0x35 5 10 2 []) [], by decide +kernel⟩

theorem witness_OperatingCommandsActAndAnswer_14 :
    ∃ (f : InFrame) (rest : List InFrame) (c : Fin 512) (s : State), (s.up) ∧ (s.cmd.fifo = f :: rest) ∧ (s.admits 0x35 f = true) ∧ (s.on .DEC_CMD_STATUS_BUSY = false) ∧ (s.get (.DEC_CX_NET_FB c) = 1) ∧ ((s.ctxState c = cxWaitKey ∨ s.ctxState c = cxRunning)) :=
  ⟨cmdFrame udpHost 0x35 5 10 2 [], [], 511, commanded (cmdFrame udpHost 0x35 5 10 2 []) [(.DEC_CX_NET_FB 511, 1), (.DEC_CX_STATE_STATE 511, cxRunning)], by decide +kernel⟩

theorem witness_OperatingCommandsActAndAnswer_15 :
    ∃ (f : InFrame) (rest : List InFrame) (c : Nat) (s : State), (s.up) ∧ (s.cmd.fifo = f :: rest) ∧ (s.admits 0x35 f = true) ∧ (512 ≤ c) :=
  ⟨cmdFrame udpHost 0x35 5 10 2 [], [], 512, commanded (cmdFrame udpHost 0x35 5 10 2 []) [], by decide +kernel⟩

theorem witness_OperatingCommandsActAndAnswer_16 :
    ∃ (f : InFrame) (rest : List InFrame) (e op : Nat) (s : State), (s.up) ∧ (s.cmd.fifo = f :: rest) ∧ (s.admits 0x33 f = true) ∧ ((32 ≤ e ∨ op < 1 ∨ 3 < op)) :=
  ⟨cmdFrame udpHost 0x33 5 10 2 [], [], 3, 4, commanded (cmdFrame udpHost 0x33 5 10 2 []) [], by decide +kernel⟩

theorem witness_OperatingCommandsActAndAnswer_17 :
    ∃ (f : InFrame) (rest : List InFrame) (p : Fin 4) (s : State), (s.up) ∧ (s.cmd.fifo = f :: rest) ∧ (s.admits 0x32 f = true) ∧ (s.tchState p ≠ tpRun) :=
  ⟨cmdFrame udpHost 0x32 5 10 2 [], [], 2, commanded (cmdFrame udpHost 0x32 5 10 2 []) [(.TCH_P_STATE_STATE 2, tpStart)], by decide +kernel⟩

theorem witness_OperatingCommandsActAndAnswer_18 :
    ∃ (f : InFrame) (rest : List InFrame) (p : Fin 4) (s : State), (s.up) ∧ (s.cmd.fifo = f :: rest) ∧ (s.admits 0x32 f = true) ∧ (s.tchState p ≠ tpRun) ∧ (s.tchState p ≠ tpFault) :=
  ⟨cmdFrame udpHost 0x32 5 10 2 [], [], 2, commanded (cmdFrame udpHost 0x32 5 10 2 []) [(.TCH_P_STATE_STATE 2, tpBaseline)], by decide +kernel⟩

theorem witness_OperatingCommandsActAndAnswer_19 :
    ∃ (f : InFrame) (rest : List InFrame) (p : Fin 4) (s : State), (s.up) ∧ (s.logRoom) ∧ (s.cmd.fifo = f :: rest) ∧ (s.admits 0x32 f = true) ∧ (s.tchState p = tpRun) :=
  ⟨cmdFrame udpHost 0x32 5 10 2 [], [], 2, commanded (cmdFrame udpHost 0x32 5 10 2 []) [(.TCH_P_STATE_STATE 2, tpRun)], by decide +kernel⟩

theorem witness_UpdateCommandsProgramTheOtherSlot_0 :
    ∃ (f : InFrame) (rest : List InFrame) (s : State), (s.up) ∧ (s.logRoom) ∧ (s.cmd.fifo = f :: rest) ∧ (s.admits 0x40 f = true) ∧ (packageSeal (framePayload f) = true) ∧ (packageRange (framePayload f) = true) ∧ ((framePayload f).length = 16) ∧ (s.updState = upIdle) ∧ ((s.pointer.any fun p => p.2.trial) = false) :=
  ⟨cmdFrame udpHost 0x40 5 10 2 packageHead, [], commanded (cmdFrame udpHost 0x40 5 10 2 packageHead) [], by decide +kernel⟩

theorem witness_UpdateCommandsProgramTheOtherSlot_1 :
    ∃ (f : InFrame) (rest : List InFrame) (s : State), (s.up) ∧ (s.cmd.fifo = f :: rest) ∧ (s.admits 0x40 f = true) ∧ (packageSeal (framePayload f) = false) :=
  ⟨cmdFrame udpHost 0x40 5 10 2 [1, 2], [], commanded (cmdFrame udpHost 0x40 5 10 2 [1, 2]) [], by decide +kernel⟩

theorem witness_UpdateCommandsProgramTheOtherSlot_2 :
    ∃ (f : InFrame) (rest : List InFrame) (s : State), (s.up) ∧ (s.cmd.fifo = f :: rest) ∧ (s.admits 0x40 f = true) ∧ (packageSeal (framePayload f) = true) ∧ (packageRange (framePayload f) = true) ∧ ((framePayload f).length = 16) ∧ (s.updState = upReceiving) :=
  ⟨cmdFrame udpHost 0x40 5 10 2 packageHead, [], commanded (cmdFrame udpHost 0x40 5 10 2 packageHead) [(.BKR_UPD_STATUS_STATE, 1)], by decide +kernel⟩

theorem witness_UpdateCommandsProgramTheOtherSlot_3 :
    ∃ (f : InFrame) (rest : List InFrame) (fl : FlashIn) (s : State), (s.up) ∧ (s.cmd.fifo = f :: rest) ∧ (s.admits 0x41 f = true) ∧ ((s.boot.update = none ∨ s.updState ≠ upReceiving ∨ s.updOwned (frameNum f.bytes 2 2) = false)) :=
  ⟨cmdFrame udpHost 0x41 5 10 2 [1, 2], [], goodFlash, commanded (cmdFrame udpHost 0x41 5 10 2 [1, 2]) [], by decide +kernel⟩

theorem witness_UpdateCommandsProgramTheOtherSlot_4 :
    ∃ (f : InFrame) (rest : List InFrame) (fl : FlashIn) (u : UpdateSt) (s : State), (s.up) ∧ (s.cmd.fifo = f :: rest) ∧ (s.admits 0x41 f = true) ∧ (s.boot.update = some u) ∧ (s.updState = upReceiving) ∧ (s.updOwned (frameNum f.bytes 2 2) = true) ∧ (8 ≤ (framePayload f).length) ∧ (frameNum (framePayload f) 0 4 = s.get .BKR_UPD_NEXT_OFFSET) ∧ (frameNum (framePayload f) 0 4 + ((framePayload f).length - 8) ≤ u.l1 + u.l2) ∧ (u.l1 + u.l2 < 2 ^ 32) ∧ (fl.badWrites = 0) :=
  ⟨cmdFrame udpHost 0x41 5 10 2 [0, 1, 0, 0, 0, 0, 0, 0, 7, 9], [], goodFlash, ⟨576, 64, 5⟩, updating (commanded (cmdFrame udpHost 0x41 5 10 2 [0, 1, 0, 0, 0, 0, 0, 0, 7, 9]) [(.BKR_UPD_NEXT_OFFSET, 256)]), by decide +kernel⟩

theorem witness_UpdateCommandsProgramTheOtherSlot_5 :
    ∃ (f : InFrame) (rest : List InFrame) (fl : FlashIn) (u : UpdateSt) (s : State), (s.up) ∧ (s.cmd.fifo = f :: rest) ∧ (s.admits 0x41 f = true) ∧ (s.boot.update = some u) ∧ (s.updState = upReceiving) ∧ (s.updOwned (frameNum f.bytes 2 2) = true) ∧ (frameNum (framePayload f) 0 4 ≠ s.get .BKR_UPD_NEXT_OFFSET) :=
  ⟨cmdFrame udpHost 0x41 5 10 2 [0, 1, 0, 0, 0, 0, 0, 0, 7, 9], [], goodFlash, ⟨576, 64, 5⟩, updating (commanded (cmdFrame udpHost 0x41 5 10 2 [0, 1, 0, 0, 0, 0, 0, 0, 7, 9]) [(.BKR_UPD_NEXT_OFFSET, 64)]), by decide +kernel⟩

theorem witness_UpdateCommandsProgramTheOtherSlot_6 :
    ∃ (f : InFrame) (rest : List InFrame) (fl : FlashIn) (s : State), (s.up) ∧ (s.cmd.fifo = f :: rest) ∧ (s.admits 0x42 f = true) ∧ (s.boot.update = none) :=
  ⟨cmdFrame udpHost 0x42 5 10 2 [1, 2], [], goodFlash, commanded (cmdFrame udpHost 0x42 5 10 2 [1, 2]) [], by decide +kernel⟩

theorem witness_UpdateCommandsProgramTheOtherSlot_8 :
    ∃ (f : InFrame) (rest : List InFrame) (fl : FlashIn) (s : State), (s.up) ∧ (s.logRoom) ∧ (s.cmd.fifo = f :: rest) ∧ (s.admits 0x43 f = true) ∧ (s.updState = upReceiving) :=
  ⟨cmdFrame udpHost 0x43 5 10 2 [], [], goodFlash, updating (commanded (cmdFrame udpHost 0x43 5 10 2 []) []), by decide +kernel⟩

theorem witness_UpdateCommandsProgramTheOtherSlot_9 :
    ∃ (f : InFrame) (rest : List InFrame) (fl : FlashIn) (s : State), (s.up) ∧ (s.cmd.fifo = f :: rest) ∧ (s.admits 0x43 f = true) ∧ (s.updState ≠ upReceiving) ∧ (s.updState ≠ upActivated) :=
  ⟨cmdFrame udpHost 0x43 5 10 2 [], [], goodFlash, commanded (cmdFrame udpHost 0x43 5 10 2 []) [], by decide +kernel⟩

theorem witness_UpdateCommandsProgramTheOtherSlot_11 :
    ∃ (f : InFrame) (rest : List InFrame) (fl : FlashIn) (u : UpdateSt) (s : State), (s.up) ∧ (s.cmd.fifo = f :: rest) ∧ (s.admits 0x42 f = true) ∧ (s.boot.update = some u) ∧ (s.verifySlot fl (s.get .BKR_UPD_STATUS_TARGET) ≠ 1) :=
  ⟨cmdFrame udpHost 0x42 5 10 2 [1, 2, 3, 4], [], goodFlash, ⟨576, 64, 5⟩, updating (commanded (cmdFrame udpHost 0x42 5 10 2 [1, 2, 3, 4]) [(.BKR_UPD_STATUS_TARGET, 1)]), by decide +kernel⟩

theorem witness_UpdateCommandsProgramTheOtherSlot_12 :
    ∃ (f : InFrame) (rest : List InFrame) (fl : FlashIn) (u : UpdateSt) (s : State), (s.up) ∧ (s.cmd.fifo = f :: rest) ∧ (s.admits 0x42 f = true) ∧ (s.boot.update = some u) ∧ (s.verifySlot fl (s.get .BKR_UPD_STATUS_TARGET) = 1) ∧ ((s.updState ≠ upReceiving ∨ s.updOwned (frameNum f.bytes 2 2) = false)) :=
  ⟨cmdFrame udpHost 0x42 5 10 2 [1, 2, 3, 4], [], goodFlash, ⟨576, 64, 5⟩, activated.set .BKR_UPD_STATUS_STATE upActivated, by decide +kernel, by decide +kernel, by decide +kernel, by decide +kernel, by
    have h : (activated.set .BKR_UPD_STATUS_STATE upActivated).get .BKR_UPD_STATUS_TARGET = 1 := by decide +kernel
    rw [h]
    unfold State.verifySlot
    exact man_verifies _ _ _ _ rfl (by decide) (activated_manifest _ _) (by decide +kernel) (by decide +kernel), by decide +kernel⟩

theorem witness_UpdateCommandsProgramTheOtherSlot_13 :
    ∃ (f : InFrame) (rest : List InFrame) (fl : FlashIn) (u : UpdateSt) (s : State), (s.up) ∧ (s.cmd.fifo = f :: rest) ∧ (s.admits 0x42 f = true) ∧ (s.boot.update = some u) ∧ (s.updState = upReceiving) ∧ (s.updOwned (frameNum f.bytes 2 2) = true) ∧ (s.verifySlot fl (s.get .BKR_UPD_STATUS_TARGET) = 1) ∧ (s.get .BKR_UPD_NEXT_OFFSET = u.l1 + u.l2) ∧ ((s.slotSuits (s.get .BKR_UPD_STATUS_TARGET) = false ∨ s.slotNode (s.get .BKR_UPD_STATUS_TARGET) ≠ s.nodeId)) :=
  ⟨cmdFrame udpHost 0x42 5 10 2 [1, 2, 3, 4], [], goodFlash, ⟨576, 64, 5⟩, activated.set .FAB_NODE_NODE_ID 5, by decide +kernel, by decide +kernel, by decide +kernel, by decide +kernel, by decide +kernel, by decide +kernel, by
    have h : (activated.set .FAB_NODE_NODE_ID 5).get .BKR_UPD_STATUS_TARGET = 1 := by decide +kernel
    rw [h]
    unfold State.verifySlot
    exact man_verifies _ _ _ _ rfl (by decide) (activated_manifest _ _) (by decide +kernel) (by decide +kernel), by decide +kernel, .inr (by
    have h : (activated.set .FAB_NODE_NODE_ID 5).get .BKR_UPD_STATUS_TARGET = 1 := by decide +kernel
    rw [h]
    unfold State.slotNode
    rw [partOf_empty (activated.set .FAB_NODE_NODE_ID 5) 1 7 manBytes emptyHash (activated_manifest _ _) man_image.1]
    decide +kernel)⟩

theorem witness_UpdateCommandsProgramTheOtherSlot_14 :
    ∃ (f : InFrame) (rest : List InFrame) (fl : FlashIn) (s : State), (s.up) ∧ (s.logRoom) ∧ (s.cmd.fifo = f :: rest) ∧ (s.admits 0x43 f = true) ∧ (s.updState = upActivated) ∧ (fl.badWrites = 0) :=
  ⟨cmdFrame udpHost 0x43 5 10 2 [], [], goodFlash, (updating (commanded (cmdFrame udpHost 0x43 5 10 2 []) [(.BKR_UPD_STATUS_TARGET, 1)])).set .BKR_UPD_STATUS_STATE upActivated, by decide +kernel⟩

theorem witness_CheckUnitsComputeAsRegistered_0 :
    ∃ (u : Fin 4) (s : State), (s.up) :=
  ⟨3, withWords [(Reg.CHK_INIT 3, 0xFFFFFFFF), (Reg.CHK_RUN 3, 5), (Reg.CHK_ALIVE 3, 0xFFFFFFFF)] (dealing [(.CHK_CFG_WIDTH 3, 16)]), by decide +kernel⟩

theorem witness_CheckUnitsComputeAsRegistered_1 :
    ∃ (u : Fin 4) (w : Word) (s : State), (s.up) ∧ (8 ≤ (Fld.CHK_CFG_WIDTH u).of w) ∧ ((Fld.CHK_CFG_WIDTH u).of w ≤ 32) ∧ ((Fld.CHK_CFG_START u).of w = 0) :=
  ⟨0, (Fld.CHK_CFG_WIDTH 0).at_ 8, dealing [], by decide +kernel⟩

theorem witness_CheckUnitsComputeAsRegistered_1_1 :
    ∃ (u : Fin 4) (w : Word) (s : State), (s.up) ∧ (8 ≤ (Fld.CHK_CFG_WIDTH u).of w) ∧ ((Fld.CHK_CFG_WIDTH u).of w ≤ 32) ∧ ((Fld.CHK_CFG_START u).of w = 0) :=
  ⟨0, (Fld.CHK_CFG_WIDTH 0).at_ 32 + (Fld.CHK_CFG_ALIVE_EN 0).at_ 1 + (Fld.CHK_CFG_ALIVE_POS 0).at_ 3, dealing [], by decide +kernel⟩

theorem witness_CheckUnitsComputeAsRegistered_2 :
    ∃ (u : Fin 4) (w : Word) (s : State), (s.up) ∧ (((Fld.CHK_CFG_WIDTH u).of w < 8 ∨ 32 < (Fld.CHK_CFG_WIDTH u).of w)) ∧ ((Fld.CHK_CFG_START u).of w = 0) :=
  ⟨0, (Fld.CHK_CFG_WIDTH 0).at_ 7, dealing [], by decide +kernel⟩

theorem witness_CheckUnitsComputeAsRegistered_2_1 :
    ∃ (u : Fin 4) (w : Word) (s : State), (s.up) ∧ (((Fld.CHK_CFG_WIDTH u).of w < 8 ∨ 32 < (Fld.CHK_CFG_WIDTH u).of w)) ∧ ((Fld.CHK_CFG_START u).of w = 0) :=
  ⟨0, (Fld.CHK_CFG_WIDTH 0).at_ 33, dealing [], by decide +kernel⟩

theorem witness_CheckUnitsComputeAsRegistered_3 :
    ∃ (u : Fin 4) (w : Word) (s : State), (s.up) ∧ (8 ≤ (Fld.CHK_CFG_WIDTH u).of w) ∧ ((Fld.CHK_CFG_WIDTH u).of w ≤ 32) ∧ ((Fld.CHK_CFG_START u).of w = 1) :=
  ⟨1, (Fld.CHK_CFG_WIDTH 1).at_ 16 + (Fld.CHK_CFG_START 1).at_ 1, withWords [(Reg.CHK_INIT 1, 0xFFFFFFFF)] (dealing []), by decide +kernel⟩

theorem witness_CheckUnitsComputeAsRegistered_4 :
    ∃ (u : Fin 4) (w : Word) (s : State), (s.up) ∧ (s.on (.CHK_CFG_ALIVE_EN u) = false) :=
  ⟨1, 0x131, withWords [(Reg.CHK_POLY 1, 0x1021), (Reg.CHK_RUN 1, 0xFFFF)] (dealing [(.CHK_CFG_WIDTH 1, 16)]), by decide +kernel⟩

theorem witness_CheckUnitsComputeAsRegistered_5 :
    ∃ (u : Fin 4) (w : Word) (s : State), (s.up) ∧ (s.on (.CHK_CFG_ALIVE_EN u) = true) ∧ ((s.word (Reg.CHK_COUNT u)).toNat = s.get (.CHK_CFG_ALIVE_POS u)) ∧ (s.on (.CHK_CFG_ALIVE_W u) = true) :=
  ⟨1, 5, dealing [(.CHK_CFG_ALIVE_EN 1, 1), (.CHK_CFG_ALIVE_W 1, 1), (.CHK_ALIVE_PREV 1, 5), (.CHK_ALIVE_PREV_VALID 1, 1)], by decide +kernel⟩

theorem witness_CheckUnitsComputeAsRegistered_5_1 :
    ∃ (u : Fin 4) (w : Word) (s : State), (s.up) ∧ (s.on (.CHK_CFG_ALIVE_EN u) = true) ∧ ((s.word (Reg.CHK_COUNT u)).toNat = s.get (.CHK_CFG_ALIVE_POS u)) ∧ (s.on (.CHK_CFG_ALIVE_W u) = true) :=
  ⟨1, 0, dealing [(.CHK_CFG_ALIVE_EN 1, 1), (.CHK_CFG_ALIVE_W 1, 1), (.CHK_ALIVE_PREV 1, 255), (.CHK_CFG_STEP 1, 1), (.CHK_ALIVE_PREV_VALID 1, 1)], by decide +kernel⟩

theorem witness_CheckUnitsComputeAsRegistered_5_2 :
    ∃ (u : Fin 4) (w : Word) (s : State), (s.up) ∧ (s.on (.CHK_CFG_ALIVE_EN u) = true) ∧ ((s.word (Reg.CHK_COUNT u)).toNat = s.get (.CHK_CFG_ALIVE_POS u)) ∧ (s.on (.CHK_CFG_ALIVE_W u) = true) :=
  ⟨1, 7, dealing [(.CHK_CFG_ALIVE_EN 1, 1), (.CHK_CFG_ALIVE_W 1, 1), (.CHK_ALIVE_PREV 1, 5), (.CHK_CFG_STEP 1, 1), (.CHK_ALIVE_PREV_VALID 1, 1)], by decide +kernel⟩

theorem witness_CheckUnitsComputeAsRegistered_6 :
    ∃ (u : Fin 4) (w : Word) (s : State), (s.up) :=
  ⟨2, 0x1234, dealing [(.CHK_CFG_WIDTH 2, 16)], by decide +kernel⟩

theorem witness_CheckUnitsComputeAsRegistered_7 :
    ∃ (u : Fin 4) (w : Word) (s : State), (s.up) :=
  ⟨2, 0x12345678, dealing [(.CHK_CFG_WIDTH 2, 32)], by decide +kernel⟩

theorem witness_MatrixPiecesAreCheckedAndAnswered_0 :
    ∃ (x : Transfer) (t0 : Word) (f : FlashIn) (s : State), (s.up) ∧ (s.mem.stalled = []) ∧ (x.kind = .write) ∧ (0 < x.bytes.length) ∧ (x.addr.toNat % 64 + x.bytes.length ≤ 64) ∧ (s.target x.addr.toNat = some tgSram) ∧ ((connected x.master).contains tgSram = true) ∧ (s.checkPiece x.master x.user .write x.addr.toNat = 0) :=
  ⟨⟨0, false, .write, 0x1000010, 0, [1, 2, 3], none⟩, 5, goodFlash, dealing [], by decide +kernel⟩

theorem witness_MatrixPiecesAreCheckedAndAnswered_0_1 :
    ∃ (x : Transfer) (t0 : Word) (f : FlashIn) (s : State), (s.up) ∧ (s.mem.stalled = []) ∧ (x.kind = .write) ∧ (0 < x.bytes.length) ∧ (x.addr.toNat % 64 + x.bytes.length ≤ 64) ∧ (s.target x.addr.toNat = some tgSram) ∧ ((connected x.master).contains tgSram = true) ∧ (s.checkPiece x.master x.user .write x.addr.toNat = 0) :=
  ⟨⟨0, false, .write, 0x1000000, 0, List.replicate 64 7, none⟩, 5, goodFlash, dealing [], by decide +kernel⟩

theorem witness_MatrixPiecesAreCheckedAndAnswered_1 :
    ∃ (x : Transfer) (t0 : Word) (f : FlashIn) (s : State), (s.up) ∧ (s.mem.stalled = []) ∧ (x.kind = .read) ∧ (0 < x.len) ∧ (x.addr.toNat % 64 + x.len ≤ 64) ∧ (s.target x.addr.toNat = some tgMbox) ∧ ((connected x.master).contains tgMbox = true) ∧ (s.checkPiece x.master x.user .read x.addr.toNat = 0) :=
  ⟨⟨1, false, .read, 0x2000010, 16, [], none⟩, 5, goodFlash, dealing [], by decide +kernel⟩

theorem witness_MatrixPiecesAreCheckedAndAnswered_2 :
    ∃ (x : Transfer) (t0 : Word) (f : FlashIn) (s : State), (s.up) ∧ (s.mem.stalled = []) ∧ (s.logRoom) ∧ (x.kind ≠ .write) ∧ (0 < x.len) ∧ (x.addr.toNat % 64 + x.len ≤ 64) ∧ (s.checkPiece x.master x.user x.kind x.addr.toNat ≠ 0) ∧ (Tab.find s.plat.viol x.master = none) :=
  ⟨⟨3, true, .read, 0x2000010, 16, [], none⟩, 5, goodFlash, dealing [], by decide +kernel⟩

theorem witness_MatrixPiecesAreCheckedAndAnswered_2_1 :
    ∃ (x : Transfer) (t0 : Word) (f : FlashIn) (s : State), (s.up) ∧ (s.mem.stalled = []) ∧ (s.logRoom) ∧ (x.kind ≠ .write) ∧ (0 < x.len) ∧ (x.addr.toNat % 64 + x.len ≤ 64) ∧ (s.checkPiece x.master x.user x.kind x.addr.toNat ≠ 0) ∧ (Tab.find s.plat.viol x.master = none) :=
  ⟨⟨0, false, .fetch, 0x2000010, 48, [], none⟩, 5, goodFlash, dealing [], by decide +kernel⟩

theorem witness_MatrixPiecesAreCheckedAndAnswered_3 :
    ∃ (x : Transfer) (t0 : Word) (f : FlashIn) (s : State), (s.up) ∧ (s.mem.stalled = []) ∧ (s.logRoom) ∧ (x.kind = .write) ∧ (0 < x.bytes.length) ∧ (x.addr.toNat % 64 + x.bytes.length ≤ 64) ∧ (s.checkPiece x.master x.user .write x.addr.toNat ≠ 0) :=
  ⟨⟨0, false, .write, 0x100E0010, 0, [1, 2, 3, 4], none⟩, 5, goodFlash, dealing [], by decide +kernel⟩

theorem witness_MatrixPiecesAreCheckedAndAnswered_3_1 :
    ∃ (x : Transfer) (t0 : Word) (f : FlashIn) (s : State), (s.up) ∧ (s.mem.stalled = []) ∧ (s.logRoom) ∧ (x.kind = .write) ∧ (0 < x.bytes.length) ∧ (x.addr.toNat % 64 + x.bytes.length ≤ 64) ∧ (s.checkPiece x.master x.user .write x.addr.toNat ≠ 0) :=
  ⟨⟨2, false, .write, 0x80000000, 0, [1, 2, 3, 4], none⟩, 5, goodFlash, dealing [], by decide +kernel⟩

theorem witness_MatrixPiecesAreCheckedAndAnswered_4 :
    ∃ (s : State), (s.up) :=
  ⟨dealing [], by decide +kernel⟩

theorem witness_MatrixPiecesAreCheckedAndAnswered_5 :
    ∃ (s : State), (s.up) :=
  ⟨dealing [(.MTX_CTRL_REMAP, 1)], by decide +kernel⟩

theorem witness_MatrixPiecesAreCheckedAndAnswered_6 :
    ∃ (p : Fin 9) (hi : Bool) (w : Word) (s : State), (s.up) ∧ (s.on .MTX_CTRL_ARB_MODE = false) :=
  ⟨8, true, 5, dealing [], by decide +kernel⟩

theorem witness_MatrixPiecesAreCheckedAndAnswered_7 :
    ∃ (p : Fin 9) (w : Word) (s : State), (s.up) ∧ (s.on .MTX_CTRL_ARB_MODE = true) :=
  ⟨8, 0x01020304, dealing [(.MTX_CTRL_ARB_MODE, 1)], by decide +kernel⟩

theorem witness_MatrixPiecesAreCheckedAndAnswered_8 :
    ∃ (p : Fin 9) (w : Word) (s : State), (s.up) ∧ (s.on .MTX_CTRL_ARB_MODE = true) :=
  ⟨0, 0x0F0, dealing [(.MTX_CTRL_ARB_MODE, 1)], by decide +kernel⟩

theorem witness_MatrixPiecesAreCheckedAndAnswered_9 :
    ∃ (m : Fin 11) (r : Fin 16) (w : Word) (s : State), (s.up) ∧ ((s.mpuLocked = true ∨ m = 1 ∨ s.on (.MPU_RGN_CTL_ON m r) = true)) :=
  ⟨10, 15, 5, dealing [(.MPU_GLOBAL_LOCK, 1)], by decide +kernel⟩

theorem witness_MatrixPiecesAreCheckedAndAnswered_9_1 :
    ∃ (m : Fin 11) (r : Fin 16) (w : Word) (s : State), (s.up) ∧ ((s.mpuLocked = true ∨ m = 1 ∨ s.on (.MPU_RGN_CTL_ON m r) = true)) :=
  ⟨1, 15, 5, dealing [], by decide +kernel⟩

theorem witness_MatrixPiecesAreCheckedAndAnswered_9_2 :
    ∃ (m : Fin 11) (r : Fin 16) (w : Word) (s : State), (s.up) ∧ ((s.mpuLocked = true ∨ m = 1 ∨ s.on (.MPU_RGN_CTL_ON m r) = true)) :=
  ⟨2, 15, 5, dealing [(.MPU_RGN_CTL_ON 2 15, 1)], by decide +kernel⟩

theorem witness_MatrixPiecesAreCheckedAndAnswered_10 :
    ∃ (m : Fin 11) (r : Fin 16) (w : Word) (s : State), (s.up) ∧ (s.mpuLocked = false) ∧ (m ≠ 1) ∧ (s.on (.MPU_RGN_CTL_ON m r) = false) :=
  ⟨2, 15, 5, dealing [], by decide +kernel⟩

theorem witness_MatrixPiecesAreCheckedAndAnswered_11 :
    ∃ (s : State), (s.up) :=
  ⟨dealing [], by decide +kernel⟩

theorem witness_MatrixPiecesAreCheckedAndAnswered_12 :
    ∃ (s : State), (s.up) :=
  ⟨dealing [(.MPU_GLOBAL_LOCK, 1)], by decide +kernel⟩

theorem witness_MatrixPiecesAreCheckedAndAnswered_13 :
    ∃ (x : Transfer) (t0 : Word) (f : FlashIn) (u b : Nat) (s : State), (s.up) ∧ (s.mem.stalled = []) ∧ (x.kind = .read) ∧ (0 < x.len) ∧ (x.addr.toNat % 64 + x.len ≤ 64) ∧ (s.target x.addr.toNat = some tgDram) ∧ (s.checkPiece x.master x.user .read x.addr.toNat = 0) ∧ (s.memMap x.addr.toNat = some (u, b)) ∧ (s.subIssues u = false) :=
  ⟨⟨0, false, .read, 0x100000310, 16, [], none⟩, 5, goodFlash, 1, 1, dealing [], by decide +kernel⟩

theorem witness_RegistersTakeWritesByTheirTypes_0 :
    ∃ (a : BitVec 40) (w : Word) (m : Fin 11) (v : Bool) (t0 : Word) (f : FlashIn) (s : State), (s.up) ∧ (a.toNat / 0x10000 = 0x1004) ∧ (a.toNat ≠ Reg.DLR_TICK_FIRST) ∧ (s.boot.imageOk = true) :=
  ⟨BitVec.ofNat 40 Reg.DLR_STATUS, 0xFFFFFFFF, 0, false, 5, goodFlash, { dealing [(.DLR_STATUS_REF_LOST, 1)] with boot := { BootSt.init with imageOk := true } }, by decide +kernel⟩

theorem witness_RegistersTakeWritesByTheirTypes_0_1 :
    ∃ (a : BitVec 40) (w : Word) (m : Fin 11) (v : Bool) (t0 : Word) (f : FlashIn) (s : State), (s.up) ∧ (a.toNat / 0x10000 = 0x1004) ∧ (a.toNat ≠ Reg.DLR_TICK_FIRST) ∧ (s.boot.imageOk = true) :=
  ⟨BitVec.ofNat 40 Reg.DLR_INT_STATUS, 0xFFFFFFFF, 0, false, 5, goodFlash, { withWords [(Reg.DLR_INT_STATUS, 0xF)] (dealing []) with boot := { BootSt.init with imageOk := true } }, by decide +kernel⟩

theorem witness_RegistersTakeWritesByTheirTypes_1 :
    ∃ (a : BitVec 40) (w : Word) (m : Fin 11) (v : Bool) (t0 : Word) (f : FlashIn) (s : State), (s.up) ∧ ((a.toNat / 0x10000 = 0x100E ∨ a.toNat / 0x10000 = 0x100F)) :=
  ⟨0x100E0010, 0xFFFFFFFF, 0, false, 5, goodFlash, dealing [], by decide +kernel⟩

theorem witness_RegistersTakeWritesByTheirTypes_2 :
    ∃ (a : BitVec 40) (w : Word) (m : Fin 11) (v : Bool) (t0 : Word) (f : FlashIn) (s : State), (s.up) ∧ (0x10000000 ≤ a.toNat) ∧ (a.toNat < 0x10040000) ∧ (((m = 0 ∧ v = true) ∨ (m ≠ 0 ∧ m ≠ 9) ∨ (m = 9 ∧ s.lifecycle ≠ lcBlank ∧ s.lifecycle ≠ lcLab))) :=
  ⟨BitVec.ofNat 40 Reg.BKR_DEV_RESET, 0x5120, 3, false, 5, goodFlash, dealing [], by decide +kernel⟩

theorem witness_RegistersTakeWritesByTheirTypes_2_1 :
    ∃ (a : BitVec 40) (w : Word) (m : Fin 11) (v : Bool) (t0 : Word) (f : FlashIn) (s : State), (s.up) ∧ (0x10000000 ≤ a.toNat) ∧ (a.toNat < 0x10040000) ∧ (((m = 0 ∧ v = true) ∨ (m ≠ 0 ∧ m ≠ 9) ∨ (m = 9 ∧ s.lifecycle ≠ lcBlank ∧ s.lifecycle ≠ lcLab))) :=
  ⟨BitVec.ofNat 40 Reg.MPU_GLOBAL, 1, 0, true, 5, goodFlash, dealing [], by decide +kernel⟩

theorem witness_RegistersTakeWritesByTheirTypes_2_2 :
    ∃ (a : BitVec 40) (w : Word) (m : Fin 11) (v : Bool) (t0 : Word) (f : FlashIn) (s : State), (s.up) ∧ (0x10000000 ≤ a.toNat) ∧ (a.toNat < 0x10040000) ∧ (((m = 0 ∧ v = true) ∨ (m ≠ 0 ∧ m ≠ 9) ∨ (m = 9 ∧ s.lifecycle ≠ lcBlank ∧ s.lifecycle ≠ lcLab))) :=
  ⟨BitVec.ofNat 40 Reg.MPU_GLOBAL, 1, 9, true, 5, goodFlash, dealing [(.FUS_LIFECYCLE_STATE, lcField)], by decide +kernel⟩

theorem witness_RegistersTakeWritesByTheirTypes_3 :
    ∃ (a : BitVec 40) (s : State), (s.up) ∧ (a.toNat / 0x10000 = 0x1004) :=
  ⟨BitVec.ofNat 40 Reg.DLR_STATUS, dealing [], by decide +kernel⟩

theorem witness_RegistersTakeWritesByTheirTypes_4 :
    ∃ (a : BitVec 40) (m : Fin 11) (s : State), (s.up) ∧ (a.toNat / 0x10000 = 0x1004) ∧ (m ≠ 9) :=
  ⟨BitVec.ofNat 40 Reg.DLR_STATUS, 0, dealing [], by decide +kernel⟩

theorem witness_RegistersTakeWritesByTheirTypes_5 :
    ∃ (e : Nat × Nat) (s : State), (e ∈ [(Reg.DLR_INT_STATUS, Reg.DLR_INT_EN), (Reg.CMP_LV_INT_STATUS, Reg.CMP_LV_INT_EN), (Reg.CMP_INT_STATUS, Reg.CMP_INT_EN), (Reg.OUT_INT_STATUS, Reg.OUT_INT_EN), (Reg.CAP_INT_STATUS, Reg.CAP_INT_EN), (Reg.DEC_INT_STATUS, Reg.DEC_INT_EN), (Reg.ENC_INT_STATUS, Reg.ENC_INT_EN), (Reg.FAB_INT_STATUS, Reg.FAB_INT_EN), (Reg.MEM_INT_STATUS, Reg.MEM_INT_EN), (Reg.TIM_INT_STATUS, Reg.TIM_INT_EN), (Reg.TCH_INT_STATUS, Reg.TCH_INT_EN), (Reg.AUD_INT_STATUS, Reg.AUD_INT_EN)]) :=
  ⟨(Reg.OUT_INT_STATUS, Reg.OUT_INT_EN), dealing [], by decide +kernel⟩

theorem witness_RegistersTakeWritesByTheirTypes_6 :
    ∃ (a : BitVec 40) (w : Word) (m : Fin 11) (v : Bool) (t0 : Word) (f : FlashIn) (s : State), (s.up) ∧ (s.plainReg a.toNat = true) ∧ (shMask a.toNat = 0) :=
  ⟨BitVec.ofNat 40 (Reg.OUT_INT_EN), 5, 3, false, 9, goodFlash, dealing [], by decide +kernel⟩

theorem witness_RegistersTakeWritesByTheirTypes_7 :
    ∃ (a : BitVec 40) (w : Word) (m : Fin 11) (v : Bool) (t0 : Word) (f : FlashIn) (s : State), (s.up) ∧ (s.plainReg a.toNat = true) ∧ (shMask a.toNat ≠ 0) ∧ (s.on .CMP_COMMIT_PENDING = false) :=
  ⟨BitVec.ofNat 40 (Reg.CMP_VL_CTRL 3), 5, 3, false, 9, goodFlash, dealing [], by decide +kernel⟩

theorem witness_RegistersTakeWritesByTheirTypes_8 :
    ∃ (a : BitVec 40) (w : Word) (m : Fin 11) (v : Bool) (t0 : Word) (f : FlashIn) (s : State), (s.up) ∧ (s.plainReg a.toNat = true) ∧ (shMask a.toNat ≠ 0) ∧ (s.on .CMP_COMMIT_PENDING = true) ∧ ((Fld.CMP_COMMIT_STATUS_WR_DROP).addr ≠ a.toNat) :=
  ⟨BitVec.ofNat 40 (Reg.CMP_VL_CTRL 3), 5, 3, false, 9, goodFlash, dealing [(.CMP_COMMIT_PENDING, 1)], by decide +kernel⟩

theorem witness_RegistersTakeWritesByTheirTypes_9 :
    ∃ (a : BitVec 40) (w : Word) (v : Bool) (t0 : Word) (f : FlashIn) (s : State), (s.up) ∧ (s.boot.imageOk = true) ∧ (s.plainReg a.toNat = true) ∧ (shMask a.toNat = 0) ∧ (s.boot.memSet = true) ∧ ((∀ c, regIdx (Reg.TIM_TRG_CFG 0) 4 256 a.toNat ≠ some c)) ∧ (tyMask (fun t => t == .rw || t == .w1c) a.toNat = 0) :=
  by
  have e : regIdx (Reg.TIM_TRG_CFG 0) 4 256 (BitVec.ofNat 40 Reg.DLR_TICK_NUM).toNat = none := by decide +kernel
  refine ⟨BitVec.ofNat 40 Reg.DLR_TICK_NUM, 5, false, 9, goodFlash, { dealing [] with boot := { BootSt.init with imageOk := true, memSet := true } }, by decide +kernel, by decide +kernel, by decide +kernel, by decide +kernel, by decide +kernel, ?_, by decide +kernel⟩
  intro c h
  rw [e] at h
  cases h

theorem witness_RegistersTakeWritesByTheirTypes_10 :
    ∃ (a : BitVec 40) (m : Fin 11) (s : State), (s.up) ∧ (m ≠ 9) ∧ (a.toNat ≠ Reg.TIM_NOW_LO) ∧ (a.toNat ≠ Reg.FAB_RX_ARG1) ∧ (regIdx (Reg.TIM_NP_TXTS_ID 0) 0x100 3 a.toNat = none) ∧ (a.toNat / 0x10000 ≠ 0x1009) :=
  ⟨BitVec.ofNat 40 Reg.OUT_INT_EN, 3, dealing [], by decide +kernel⟩

theorem witness_RegistersTakeWritesByTheirTypes_11 :
    ∃ (a : BitVec 40) (s : State), (s.up) ∧ (a.toNat ≠ Reg.TIM_NOW_LO) ∧ (a.toNat ≠ Reg.FAB_RX_ARG1) ∧ (regIdx (Reg.TIM_NP_TXTS_ID 0) 0x100 3 a.toNat = none) :=
  ⟨BitVec.ofNat 40 Reg.OUT_INT_EN, dealing [], by decide +kernel⟩

theorem witness_RegistersTakeWritesByTheirTypes_12 :
    ∃ (a m : Nat) (s : State), (a / 0x10000 ∈ [0x1000, 0x1001, 0x1004, 0x1007, 0x2001]) :=
  ⟨0x10040010, 3, dealing [], by decide +kernel⟩

theorem witness_FusesAreProgrammedByTheirTable_0 :
    ∃ (m : Fin 11) (w : Fin 64) (s : State), (s.up) ∧ (s.fuseAnswer m w (s.word Reg.FUS_PROG_DATA) = stOK) :=
  ⟨9, 8, dealing [(.FUS_PROG_DATA_DATA, 5)], by decide +kernel⟩

theorem witness_FusesAreProgrammedByTheirTable_1 :
    ∃ (m : Fin 11) (w : Fin 64) (s : State), (s.up) ∧ (s.logRoom) ∧ (fuseGroup w = none) :=
  ⟨9, 1, dealing [], by decide +kernel⟩

theorem witness_FusesAreProgrammedByTheirTable_1_1 :
    ∃ (m : Fin 11) (w : Fin 64) (s : State), (s.up) ∧ (s.logRoom) ∧ (fuseGroup w = none) :=
  ⟨9, 40, dealing [], by decide +kernel⟩

theorem witness_FusesAreProgrammedByTheirTable_2 :
    ∃ (m : Fin 11) (w : Fin 64) (lcs ms : List Nat) (s : State), (s.up) ∧ (s.logRoom) ∧ (fuseGroup w = some (lcs, ms)) ∧ (ms.contains m.val = false) :=
  ⟨3, 0, [lcBlank, lcLab, lcField], [0, 9], dealing [], by decide +kernel⟩

theorem witness_FusesAreProgrammedByTheirTable_3 :
    ∃ (m : Fin 11) (w : Fin 64) (lcs ms : List Nat) (s : State), (s.up) ∧ (s.logRoom) ∧ (fuseGroup w = some (lcs, ms)) ∧ (ms.contains m.val = true) ∧ (lcs.contains s.lifecycle = false) :=
  ⟨9, 8, [lcBlank], [9], dealing [(.FUS_LIFECYCLE_STATE, lcField)], by decide +kernel⟩

theorem witness_FusesAreProgrammedByTheirTable_4 :
    ∃ (s : State), (s.up) ∧ (s.plat.prog = none) :=
  ⟨dealing [], by decide +kernel⟩

theorem witness_FusesAreProgrammedByTheirTable_5 :
    ∃ (w : Nat) (v : Word) (s : State), (s.up) ∧ (s.logRoom) ∧ (s.plat.prog = some (w, v)) ∧ ((s.on .BKR_BOOT_TRIAL = true ∨ s.firmware = false ∨ s.get .BKR_BOOT_SV = 0)) :=
  ⟨8, 5, { dealing [(.FUS_PROG_STATUS_BUSY, 1)] with plat := { PlatSt.init with prog := some (8, 5), fuses := [(8, 4)] } }, by decide +kernel⟩

theorem witness_FusesAreProgrammedByTheirTable_6 :
    ∃ (w : Nat) (v : Word) (s : State), (s.up) ∧ (s.plat.prog = some (w, v)) :=
  ⟨3, 1, { dealing [(.FUS_PROG_STATUS_BUSY, 1), (.BKR_STATUS_RUN, 0xF), (.BKR_BOOT_SV, 3), (.FUS_LIFECYCLE_STATE, lcField)] with plat := { PlatSt.init with prog := some (3, 1) } }, by decide +kernel⟩

theorem witness_FusesAreProgrammedByTheirTable_7 :
    ∃ (m : Fin 11) (w : Fin 64) (lcs ms : List Nat) (s : State), (s.up) ∧ (s.logRoom) ∧ (fuseGroup w = some (lcs, ms)) ∧ (ms.contains m.val = true) ∧ (lcs.contains s.lifecycle = true) ∧ (w.val = 0) ∧ ((s.word Reg.FUS_PROG_DATA).toNat % 8 ≠ 0) ∧ (s.lifecycle = lcBlank) ∧ ((∀ k, k < 8 → s.cell (8 + k) = 0)) :=
  ⟨9, 0, [lcBlank, lcLab, lcField], [0, 9], dealing [(.FUS_PROG_DATA_DATA, 1)], by decide +kernel⟩

theorem witness_FusesAreProgrammedByTheirTable_8 :
    ∃ (m : Fin 11) (w : Fin 64) (lcs ms : List Nat) (s : State), (s.up) ∧ (s.logRoom) ∧ (fuseGroup w = some (lcs, ms)) ∧ (ms.contains m.val = true) ∧ (lcs.contains s.lifecycle = true) ∧ ((w.val = 3 ∨ w.val = 4)) ∧ ((64 ≤ s.rollbackCells ∨ (s.word Reg.FUS_PROG_DATA ≠ 0 ∧ (s.rollbackCells / 32 ≠ w.val - 3 ∨ (s.word Reg.FUS_PROG_DATA).toNat ≠ 2 ^ (s.rollbackCells % 32))))) :=
  ⟨0, 3, [lcLab, lcField], [0], dealing [(.FUS_LIFECYCLE_STATE, lcField), (.FUS_PROG_DATA_DATA, 2)], by decide +kernel⟩

theorem witness_FusesAreProgrammedByTheirTable_9 :
    ∃ (m : Fin 11) (w : Fin 64) (lcs ms : List Nat) (s : State), (s.up) ∧ (s.logRoom) ∧ (fuseGroup w = some (lcs, ms)) ∧ (ms.contains m.val = true) ∧ (lcs.contains s.lifecycle = true) ∧ (s.on .FUS_PROG_STATUS_BUSY = true) ∧ ((w.val ≠ 0 ∨ (s.word Reg.FUS_PROG_DATA).toNat % 8 = 0 ∨ s.lifecycle ≠ lcBlank ∨ ∃ k < 8, s.cell (8 + k) ≠ 0)) ∧ (s.rollbackBad w (s.word Reg.FUS_PROG_DATA) = false) :=
  ⟨0, 3, [lcLab, lcField], [0], dealing [(.FUS_LIFECYCLE_STATE, lcField), (.FUS_PROG_DATA_DATA, 1), (.FUS_PROG_STATUS_BUSY, 1)], by decide +kernel⟩

theorem witness_FusesAreProgrammedByTheirTable_10 :
    ∃ (m : Fin 11) (w : Fin 64) (lcs ms : List Nat) (s : State), (s.up) ∧ (fuseGroup w = some (lcs, ms)) ∧ (ms.contains m.val = true) ∧ (lcs.contains s.lifecycle = true) ∧ (s.on .FUS_PROG_STATUS_BUSY = false) ∧ (w.val ≠ 0) ∧ (w.val ≠ 3) ∧ (w.val ≠ 4) :=
  ⟨9, 8, [lcBlank], [9], dealing [(.FUS_PROG_DATA_DATA, 5)], by decide +kernel⟩

theorem witness_DebugPortAnswersByLifecycle_4 :
    ∃ (n k : Nat) (s : State), ((s.lifecycle = lcBlank ∨ (s.lifecycle = lcLab ∧ s.labPolicy 2 = true))) :=
  ⟨5, 6, wit [(.FUS_LIFECYCLE_STATE, lcLab), (.FUS_DBG_POLICY_LAB, 4)], by decide +kernel⟩

theorem witness_DebugPortAnswersByLifecycle_5 :
    ∃ (n k : Nat) (s : State), (s.lifecycle ≠ lcBlank) ∧ ((s.lifecycle ≠ lcLab ∨ s.labPolicy 2 = false)) :=
  ⟨5, 6, wit [(.FUS_LIFECYCLE_STATE, lcField)], by decide +kernel⟩

theorem witness_DebugPortAnswersByLifecycle_5_1 :
    ∃ (n k : Nat) (s : State), (s.lifecycle ≠ lcBlank) ∧ ((s.lifecycle ≠ lcLab ∨ s.labPolicy 2 = false)) :=
  ⟨5, 6, wit [(.FUS_LIFECYCLE_STATE, lcLab)], by decide +kernel⟩

theorem witness_DebugPortAnswersByLifecycle_6 :
    ∃ (p : Fin 16) (v : Bool) (s : State), (s.up) ∧ (s.logRoom) ∧ (s.haltOk p = true) :=
  ⟨3, true, dealing [(.FUS_LIFECYCLE_STATE, lcLab)], by decide +kernel⟩

theorem witness_DebugPortAnswersByLifecycle_6_1 :
    ∃ (p : Fin 16) (v : Bool) (s : State), (s.up) ∧ (s.logRoom) ∧ (s.haltOk p = true) :=
  ⟨8, false, { dealing [(.FUS_LIFECYCLE_STATE, lcBlank)] with plat := { PlatSt.init with halted := [8, 2] } }, by decide +kernel⟩

theorem witness_DebugPortAnswersByLifecycle_7 :
    ∃ (p : Fin 16) (v : Bool) (s : State), (s.up) ∧ (s.haltOk p = false) ∧ (p ≠ 9) ∧ ((p ≠ 10 ∨ v = false)) :=
  ⟨3, true, dealing [(.FUS_LIFECYCLE_STATE, lcRetired)], by decide +kernel⟩

theorem witness_DebugPortAnswersByLifecycle_7_1 :
    ∃ (p : Fin 16) (v : Bool) (s : State), (s.up) ∧ (s.haltOk p = false) ∧ (p ≠ 9) ∧ ((p ≠ 10 ∨ v = false)) :=
  ⟨10, false, dealing [(.FUS_LIFECYCLE_STATE, lcLab)], by decide +kernel⟩

theorem witness_DebugPortAnswersByLifecycle_8 :
    ∃ (s : State), (s.up) ∧ (s.logRoom) :=
  ⟨dealing [], by decide +kernel⟩

theorem witness_DebugPortAnswersByLifecycle_9 :
    ∃ (v : Bool) (s : State), (s.up) ∧ (s.logRoom) :=
  ⟨true, dealing [], by decide +kernel⟩

theorem witness_DebugPortAnswersByLifecycle_10 :
    ∃ (bs : List Byte) (s : State), (s.up) ∧ (s.lifecycle = lcField) ∧ (s.get .FUS_DBG_STATUS_FAILS < 3) ∧ (bs.length = 160) :=
  ⟨List.replicate 160 7, dealing [(.FUS_LIFECYCLE_STATE, lcField), (.FUS_DBG_STATUS_FAILS, 2)], by decide +kernel⟩

theorem witness_DebugPortAnswersByLifecycle_11 :
    ∃ (bs : List Byte) (s : State), (s.up) ∧ ((s.lifecycle ≠ lcField ∨ 3 ≤ s.get .FUS_DBG_STATUS_FAILS)) :=
  ⟨[1], dealing [(.FUS_LIFECYCLE_STATE, lcField), (.FUS_DBG_STATUS_FAILS, 3)], by decide +kernel⟩

theorem witness_DebugPortAnswersByLifecycle_11_1 :
    ∃ (bs : List Byte) (s : State), (s.up) ∧ ((s.lifecycle ≠ lcField ∨ 3 ≤ s.get .FUS_DBG_STATUS_FAILS)) :=
  ⟨[1], dealing [(.FUS_LIFECYCLE_STATE, lcLab)], by decide +kernel⟩

theorem witness_DebugPortAnswersByLifecycle_12 :
    ∃ (s : State), (s.scoring) ∧ (s.plat.token = none) :=
  ⟨dealing [], by decide +kernel⟩

theorem witness_DebugPortAnswersByLifecycle_13 :
    ∃ (bs : List Byte) (s : State), (s.scoring) ∧ (s.logRoom) ∧ (s.plat.token = some bs) ∧ (s.tokenOk bs = false) :=
  ⟨[1, 2], { dealing [(.FUS_DBG_STATUS_FAILS, 2)] with plat := { PlatSt.init with token := some [1, 2] } }, by decide +kernel⟩

theorem witness_DebugPortAnswersByLifecycle_15 :
    ∃ (a : BitVec 40) (d : Word) (t0 : Word) (f : FlashIn) (s : State), (s.up) ∧ (s.mem.stalled = []) ∧ (s.lifecycle = lcBlank) ∧ (s.target (a.toNat / 4 * 4) = some tgMbox) ∧ (s.checkPiece 9 false .read (a.toNat / 4 * 4) = 0) :=
  ⟨0x2000012, 0, 5, goodFlash, { dealing [(.FUS_LIFECYCLE_STATE, lcBlank)] with plat := { PlatSt.init with mbox := [(16, 7)] } }, by decide +kernel⟩

theorem witness_DebugPortAnswersByLifecycle_16 :
    ∃ (a : BitVec 40) (d : Word) (v : Bool) (t0 : Word) (f : FlashIn) (s : State), (s.up) ∧ (s.logRoom) ∧ (s.mem.stalled = []) ∧ (s.lifecycle = lcRetired) ∧ ((v = true ∨ s.target (a.toNat / 4 * 4) ≠ some tgMram)) :=
  ⟨0x2000010, 9, false, 5, goodFlash, dealing [(.FUS_LIFECYCLE_STATE, lcRetired)], by decide +kernel⟩

theorem witness_DebugPortAnswersByLifecycle_16_1 :
    ∃ (a : BitVec 40) (d : Word) (v : Bool) (t0 : Word) (f : FlashIn) (s : State), (s.up) ∧ (s.logRoom) ∧ (s.mem.stalled = []) ∧ (s.lifecycle = lcRetired) ∧ ((v = true ∨ s.target (a.toNat / 4 * 4) ≠ some tgMram)) :=
  ⟨0x80000010, 9, true, 5, goodFlash, dealing [(.FUS_LIFECYCLE_STATE, lcRetired)], by decide +kernel⟩

theorem witness_BankerIsWatchedResetAndReleased_0 :
    ∃ (w : Word) (s : State), (s.up) :=
  ⟨77, dealing [], by decide +kernel⟩

theorem witness_BankerIsWatchedResetAndReleased_1 :
    ∃ (f : FlashIn) (s : State), (s.up) ∧ (s.get .BKR_STATUS_RUN = 0) :=
  ⟨goodFlash, dealing [(.BKR_STATUS_RUN, 0)], by decide +kernel⟩

theorem witness_BankerIsWatchedResetAndReleased_2 :
    ∃ (f : FlashIn) (s : State), (s.up) ∧ (s.logRoom) ∧ (s.get .BKR_STATUS_RUN ≠ 0) ∧ (s.on .BKR_BOOT_TRIAL = false) :=
  ⟨goodFlash, dealing [(.BKR_STATUS_RUN, 0xF), (.HST_MB_STATUS_BANKER_UP, 1), (.MTX_CTRL_REMAP, 1)], by decide +kernel⟩

theorem witness_BankerIsWatchedResetAndReleased_3 :
    ∃ (f : FlashIn) (w : Word) (s : State), (s.up) ∧ (s.logRoom) ∧ (s.get .BKR_STATUS_RUN ≠ 0) ∧ (s.on .BKR_BOOT_TRIAL = false) ∧ (s.get .BKR_WDT_TIMEOUT ≤ ((s.at_ w).extNow - s.plat.wdtAt).toNat / 1000000) :=
  ⟨goodFlash, 5000000, dealing [(.BKR_STATUS_RUN, 0xF), (.BKR_WDT_TIMEOUT, 5)], by decide +kernel⟩

theorem witness_BankerIsWatchedResetAndReleased_4 :
    ∃ (f : FlashIn) (w : Word) (s : State), (s.up) ∧ (((s.get .BKR_STATUS_RUN = 0 ∧ s.plat.hit.map (·.1) ≠ some (s.at_ w).extNow) ∨ ((s.at_ w).extNow - s.plat.wdtAt).toNat / 1000000 < s.get .BKR_WDT_TIMEOUT)) :=
  ⟨goodFlash, 4999999, dealing [(.BKR_STATUS_RUN, 0xF), (.BKR_WDT_TIMEOUT, 5)], by decide +kernel⟩

theorem witness_BankerIsWatchedResetAndReleased_4_1 :
    ∃ (f : FlashIn) (w : Word) (s : State), (s.up) ∧ (((s.get .BKR_STATUS_RUN = 0 ∧ s.plat.hit.map (·.1) ≠ some (s.at_ w).extNow) ∨ ((s.at_ w).extNow - s.plat.wdtAt).toNat / 1000000 < s.get .BKR_WDT_TIMEOUT)) :=
  ⟨goodFlash, 4999999, dealing [(.BKR_STATUS_RUN, 0)], by decide +kernel⟩

theorem witness_BankerIsWatchedResetAndReleased_5 :
    ∃ (f : FlashIn) (w : Word) (s : State), (s.scoring) ∧ (s.logRoom) ∧ (s.devState ≠ stRecovery) ∧ (s.bankerUp = true) ∧ (s.on .FUS_DBG_STATUS_BANKER_HALTED = false) ∧ (500 ≤ (s.at_ w).watchAge) ∧ (s.on .BKR_BOOT_TRIAL = false) :=
  ⟨goodFlash, 500000000, dealing [(.BKR_STATUS_RUN, 0xF), (.HST_MB_STATUS_BANKER_UP, 1)], by decide +kernel⟩

theorem witness_BankerIsWatchedResetAndReleased_6 :
    ∃ (f : FlashIn) (w : Word) (s : State), (s.scoring) ∧ ((((s.devState = stRecovery ∨ s.bankerUp = false) ∧ s.plat.hit ≠ some ((s.at_ w).extNow, true)) ∨ (s.at_ w).watchAge < 500)) :=
  ⟨goodFlash, 499999999, dealing [(.BKR_STATUS_RUN, 0xF), (.HST_MB_STATUS_BANKER_UP, 1)], by decide +kernel⟩

theorem witness_BankerIsWatchedResetAndReleased_6_1 :
    ∃ (f : FlashIn) (w : Word) (s : State), (s.scoring) ∧ ((((s.devState = stRecovery ∨ s.bankerUp = false) ∧ s.plat.hit ≠ some ((s.at_ w).extNow, true)) ∨ (s.at_ w).watchAge < 500)) :=
  ⟨goodFlash, 500000000, dealing [(.BKR_STATUS_RUN, 0xF)], by decide +kernel⟩

theorem witness_BankerIsWatchedResetAndReleased_7 :
    ∃ (f : FlashIn) (s : State), (s.scoring) ∧ (s.logRoom) ∧ (s.devState ≠ stRecovery) ∧ (s.bankerUp = false) ∧ (s.on .FUS_DBG_STATUS_BANKER_HALTED = false) ∧ (s.on .BKR_BOOT_TRIAL = false) :=
  ⟨goodFlash, dealing [(.BKR_STATUS_RUN, 0xF)], by decide +kernel⟩

theorem witness_BankerIsWatchedResetAndReleased_8 :
    ∃ (f : FlashIn) (s : State), (s.scoring) ∧ ((s.devState = stRecovery ∨ s.bankerUp = true ∨ s.on .FUS_DBG_STATUS_BANKER_HALTED = true)) :=
  ⟨goodFlash, dealing [(.BKR_STATUS_RUN, 0xF), (.HST_MB_STATUS_BANKER_UP, 1)], by decide +kernel⟩

theorem witness_BankerIsWatchedResetAndReleased_10 :
    ∃ (f : FlashIn) (w : Word) (s : State), (s.up) ∧ (s.devState ≠ stRecovery) ∧ (s.get .BKR_STATUS_RUN = 0) ∧ (s.get .BKR_STATUS_CAUSE ≠ 0) ∧ (s.on .BKR_BOOT_WARM_FAIL = false) ∧ (s.verifyParts f s.runSlot [1, 7] ≠ 1) :=
  ⟨goodFlash, 6, dealing [(.BKR_STATUS_RUN, 0), (.BKR_STATUS_CAUSE, 3)], by decide +kernel⟩

theorem witness_BankerIsWatchedResetAndReleased_11 :
    ∃ (f : FlashIn) (w : Word) (s : State), (s.up) ∧ (s.get .BKR_STATUS_RUN = 0) ∧ (s.plat.hit.map (·.1) = some (s.at_ w).extNow) ∧ (s.get .BKR_WDT_TIMEOUT ≤ ((s.at_ w).extNow - s.plat.wdtAt).toNat / 1000000) :=
  ⟨goodFlash, 5000000, { dealing [(.BKR_WDT_TIMEOUT, 5), (.BKR_STATUS_CAUSE, 3)] with plat := { PlatSt.init with hit := some (5000000, true) } }, by decide +kernel⟩

theorem witness_BankerIsWatchedResetAndReleased_12 :
    ∃ (f : FlashIn) (w : Word) (s : State), (s.scoring) ∧ (s.bankerUp = false) ∧ (s.plat.hit = some ((s.at_ w).extNow, true)) ∧ (500 ≤ (s.at_ w).watchAge) :=
  ⟨goodFlash, 500000000, { dealing [(.BKR_STATUS_CAUSE, 3)] with plat := { PlatSt.init with hit := some (500000000, true) } }, by decide +kernel⟩

theorem witness_BankerIsWatchedResetAndReleased_13 :
    ∃ (f : FlashIn) (w : Word) (s : State), (s.up) ∧ ((s.devState = stRecovery ∨ s.get .BKR_STATUS_RUN ≠ 0 ∨ s.get .BKR_STATUS_CAUSE = 0 ∨ s.on .BKR_BOOT_WARM_FAIL = true)) :=
  ⟨goodFlash, 9, dealing [(.BKR_STATUS_RUN, 1)], by decide +kernel⟩

theorem witness_BankerIsWatchedResetAndReleased_14 :
    ∃ (f : FlashIn) (w : Word) (s : State), (s.up) ∧ (s.on .FUS_DBG_STATUS_BANKER_HALTED = true) ∧ (s.plat.hit = none) :=
  ⟨goodFlash, 9, dealing [(.FUS_DBG_STATUS_BANKER_HALTED, 1)], by decide +kernel⟩

theorem witness_SafeIsEnteredLeftAndLogged_0 :
    ∃ (k : Nat) (s : State), (s.scoring) ∧ (s.dealing = true) ∧ (firstBelow (bitOf s.sco.safeReq) 6 = some k) :=
  ⟨2, { dealing [] with sco := { State.reset.sco with safeReq := 0x24 } }, by decide +kernel⟩

theorem witness_SafeIsEnteredLeftAndLogged_1 :
    ∃ (s : State), (s.scoring) ∧ (s.cmd.runs = []) ∧ ((s.dealing = false ∨ firstBelow (bitOf s.sco.safeReq) 6 = none)) :=
  ⟨dealing [], by decide +kernel⟩

theorem witness_SafeIsEnteredLeftAndLogged_2 :
    ∃ (n : Int) (s : State), (s.scoring) ∧ (s.dealing = true) ∧ (480 < n) ∧ (n < 2048) ∧ (s.plat.hot = 10) :=
  ⟨481, { dealing [] with plat := { PlatSt.init with hot := 10 } }, by decide +kernel⟩

theorem witness_SafeIsEnteredLeftAndLogged_3 :
    ∃ (n : Int) (s : State), (s.scoring) ∧ (n ≤ 480) ∧ (-2048 ≤ n) :=
  ⟨480, { dealing [] with plat := { PlatSt.init with hot := 10 } }, by decide +kernel⟩

theorem witness_SafeIsEnteredLeftAndLogged_3_1 :
    ∃ (n : Int) (s : State), (s.scoring) ∧ (n ≤ 480) ∧ (-2048 ≤ n) :=
  ⟨-5, dealing [], by decide +kernel⟩

theorem witness_SafeIsEnteredLeftAndLogged_4 :
    ∃ (s : State), (s.scoring) ∧ (s.devState = stSafe) ∧ (s.get .SCO_SAFE_CFG_RESTART_S ≠ 0) ∧ (s.get .SCO_STATUS_AUTO_RESTARTS < 3) ∧ ((s.get .SCO_STATUS_SAFE_CAUSE ≠ 6 ∨ s.getI .SCO_TEMP_TEMP ≤ 400)) :=
  ⟨dealing [(.BKR_DEV_STATE_STATE, 5), (.SCO_SAFE_CFG_RESTART_S, 1), (.SCO_STATUS_AUTO_RESTARTS, 2)], by decide +kernel⟩

theorem witness_SafeIsEnteredLeftAndLogged_5 :
    ∃ (s : State), (s.scoring) ∧ ((s.devState ≠ stSafe ∨ s.get .SCO_SAFE_CFG_RESTART_S = 0 ∨ 3 ≤ s.get .SCO_STATUS_AUTO_RESTARTS ∨ (s.get .SCO_STATUS_SAFE_CAUSE = 6 ∧ 400 < s.getI .SCO_TEMP_TEMP))) :=
  ⟨dealing [(.SCO_SAFE_CFG_RESTART_S, 1)], by decide +kernel⟩

theorem witness_SafeIsEnteredLeftAndLogged_5_1 :
    ∃ (s : State), (s.scoring) ∧ ((s.devState ≠ stSafe ∨ s.get .SCO_SAFE_CFG_RESTART_S = 0 ∨ 3 ≤ s.get .SCO_STATUS_AUTO_RESTARTS ∨ (s.get .SCO_STATUS_SAFE_CAUSE = 6 ∧ 400 < s.getI .SCO_TEMP_TEMP))) :=
  ⟨dealing [(.BKR_DEV_STATE_STATE, 5), (.SCO_SAFE_CFG_RESTART_S, 1), (.SCO_STATUS_AUTO_RESTARTS, 3)], by decide +kernel⟩

theorem witness_SafeIsEnteredLeftAndLogged_6 :
    ∃ (s : State), (s.scoring) ∧ (s.dealing = true) :=
  ⟨dealing [(.SCO_STATUS_AUTO_RESTARTS, 3)], by decide +kernel⟩

theorem witness_SafeIsEnteredLeftAndLogged_7 :
    ∃ (s : State), (s.up) ∧ (s.sco.hard = false) :=
  ⟨dealing [], by decide +kernel⟩

theorem witness_SafeIsEnteredLeftAndLogged_8 :
    ∃ (s : State), (s.up) ∧ (s.sco.hard = false) :=
  ⟨dealing [], by decide +kernel⟩

theorem witness_SafeIsEnteredLeftAndLogged_9 :
    ∃ (s : State), (s.up) ∧ (s.sco.hard = true) :=
  ⟨{ dealing [] with sco := { State.reset.sco with hard := true } }, by decide +kernel⟩

theorem witness_SafeIsEnteredLeftAndLogged_10 :
    ∃ (s : State), (s.up) ∧ (s.sco.hard = true) :=
  ⟨{ dealing [] with sco := { State.reset.sco with hard := true } }, by decide +kernel⟩

theorem witness_SafeIsEnteredLeftAndLogged_11 :
    ∃ (s : State), (s.up) ∧ (s.sco.hard = false) :=
  ⟨dealing [], by decide +kernel⟩

theorem witness_SafeIsEnteredLeftAndLogged_12 :
    ∃ (r : LogRec) (rs : List LogRec) (s : State), (s.scoring) ∧ (s.on .LOG_STATUS_READY = true) ∧ (s.sco.queue = r :: rs) ∧ (s.sco.dropped = 0) ∧ (s.logNext 0 < 57216) ∧ (s.logNext (s.recordArea r) + 1 < 2 ^ 32) ∧ (s.logSeq + 1 < 2 ^ 32) :=
  ⟨⟨0x0601, [1, 2, 3], 4, 5, 6, false⟩, [], { dealing [(.LOG_STATUS_READY, 1)] with sco := { State.reset.sco with queue := [⟨0x0601, [1, 2, 3], 4, 5, 6, false⟩] } }, by decide +kernel⟩

theorem witness_SafeIsEnteredLeftAndLogged_12_1 :
    ∃ (r : LogRec) (rs : List LogRec) (s : State), (s.scoring) ∧ (s.on .LOG_STATUS_READY = true) ∧ (s.sco.queue = r :: rs) ∧ (s.sco.dropped = 0) ∧ (s.logNext 0 < 57216) ∧ (s.logNext (s.recordArea r) + 1 < 2 ^ 32) ∧ (s.logSeq + 1 < 2 ^ 32) :=
  ⟨⟨0x0801, [1, 2, 3], 4, 5, 6, true⟩, [⟨0x0301, [], 4, 5, 6, true⟩], { dealing [(.LOG_STATUS_READY, 1)] with sco := { State.reset.sco with queue := [⟨0x0801, [1, 2, 3], 4, 5, 6, true⟩, ⟨0x0301, [], 4, 5, 6, true⟩] } }, by decide +kernel⟩

theorem witness_SafeIsEnteredLeftAndLogged_13 :
    ∃ (s : State), (s.scoring) ∧ ((s.on .LOG_STATUS_READY = false ∨ s.sco.queue = [])) :=
  ⟨dealing [], by decide +kernel⟩

theorem witness_SafeIsEnteredLeftAndLogged_13_1 :
    ∃ (s : State), (s.scoring) ∧ ((s.on .LOG_STATUS_READY = false ∨ s.sco.queue = [])) :=
  ⟨dealing [(.LOG_STATUS_READY, 1)], by decide +kernel⟩

theorem witness_SafeIsEnteredLeftAndLogged_14 :
    ∃ (c : Fin 64) (w : Word) (s : State), (s.up) ∧ (s.sco.hard = true) ∧ (s.trgDue c w = true) ∧ ((∀ g < 8, s.audGrid g = none)) ∧ ((∀ x ∈ s.curDeal, x.issue = .trigger c → x.cls = .audio)) :=
  ⟨5, 9, { withWords [(Reg.TIM_TRG_START 5, 9)] (dealing [(.TIM_TRG_CFG_MODE 5, 1), (.TIM_TRG_STAT_ARMED 5, 1)]) with sco := { State.reset.sco with hard := true } }, by decide +kernel⟩

theorem witness_DramMapIsOneToOne_0 :
    ∃ (a : Nat) (s : State), (dramBase ≤ a) ∧ (a - dramBase < s.memSubs * s.memV * 256) :=
  ⟨dramBase + 0x3FFFF, dealing [], by decide +kernel⟩

theorem witness_DramMapIsOneToOne_1 :
    ∃ (a : Nat) (s : State), ((a < dramBase ∨ s.memSubs * s.memV * 256 ≤ a - dramBase)) :=
  ⟨5, dealing [], by decide +kernel⟩

theorem witness_DramMapIsOneToOne_1_1 :
    ∃ (a : Nat) (s : State), ((a < dramBase ∨ s.memSubs * s.memV * 256 ≤ a - dramBase)) :=
  ⟨0x100000000000, dealing [], by decide +kernel⟩

theorem witness_DramMapIsOneToOne_2 :
    ∃ (a b : Nat) (p : Nat × Nat) (s : State), (s.memMap a = some p) ∧ (s.memMap b = some p) :=
  ⟨dramBase + 0x100, dramBase + 0x1FF, (1, 0), dealing [], by decide +kernel⟩

theorem witness_DramMapIsOneToOne_3 :
    ∃ (u b : Nat) (s : State), (u < s.memSubs) ∧ (b < s.memV) :=
  ⟨1, 7, dealing [], by decide +kernel⟩

theorem witness_DramMapIsOneToOne_4 :
    ∃ (a : Nat) (p q : Nat × Nat) (s : State), (s.memMap a = some p) ∧ (s.memMap (a + 256) = some q) :=
  ⟨dramBase + 0xFF, (0, 0), (1, 0), dealing [], by decide +kernel⟩

theorem witness_DramMapIsOneToOne_5 :
    ∃ (map nb nr b c : Nat), (b % 16 = c % 16) ∧ (localMap map nb nr b = localMap map nb nr c) :=
  ⟨2, 4, 16, 0x12345, 0x12345, by decide +kernel⟩

theorem witness_TrumpSetsSurviveTheWire_0 :
    ∃ (m : Trump), (m.dest < 64) ∧ (m.src < 64) ∧ (m.type < 256) ∧ (m.args.length = 8) :=
  ⟨{ dest := 63, bcast := true, src := 62, seq := 255, type := 255, args := [1, 2, 3, 4, 5, 6, 7, 8] }, by decide +kernel⟩

theorem witness_TrumpSetsSurviveTheWire_1 :
    ∃ (bs : List Byte) (m : Trump), (trumpOf bs = some m) ∧ ((bs.getD 0 0).getLsbD 7 = false) ∧ ((bs.getD 1 0).toNat < 64) :=
  ⟨trumpBytes { dest := 0, bcast := true, src := 63, seq := 1, type := 16, args := [1, 2, 3, 4, 5, 6, 7, 8] }, { dest := 0, bcast := true, src := 63, seq := 1, type := 16, args := [1, 2, 3, 4, 5, 6, 7, 8] }, by decide +kernel⟩

theorem witness_TrumpSetsSurviveTheWire_2 :
    ∃ (bs : List Byte) (m : Trump), (trumpOf bs = some m) :=
  ⟨trumpBytes { dest := 5, bcast := false, src := 63, seq := 1, type := 35, args := [1, 2, 3, 4, 5, 6, 7, 8] }, { dest := 5, bcast := false, src := 63, seq := 1, type := 35, args := [1, 2, 3, 4, 5, 6, 7, 8] }, by decide +kernel⟩

theorem witness_TouchControlIsAnswered_0 :
    ∃ (p : Fin 4) (s : State), (s.up) :=
  ⟨2, touched, by decide +kernel⟩

theorem witness_TouchControlIsAnswered_0_1 :
    ∃ (p : Fin 4) (s : State), (s.up) :=
  ⟨2, touched.set (.TCH_P_STATE_STATE 2) tpFault, by decide +kernel⟩

theorem witness_TouchControlIsAnswered_0_2 :
    ∃ (p : Fin 4) (s : State), (s.up) :=
  ⟨1, touched, by decide +kernel⟩

theorem witness_TouchControlIsAnswered_1 :
    ∃ (p : Fin 4) (s : State), (s.up) :=
  ⟨2, touched, by decide +kernel⟩

theorem witness_TouchControlIsAnswered_1_1 :
    ∃ (p : Fin 4) (s : State), (s.up) :=
  ⟨2, touched.set (.TCH_P_STATE_STATE 2) tpFault, by decide +kernel⟩

theorem witness_TouchControlIsAnswered_2 :
    ∃ (p : Fin 4) (s : State), (s.up) ∧ (s.tchState p ≠ tpRun) ∧ (s.tchState p ≠ tpFault) :=
  ⟨1, touched, by decide +kernel⟩

theorem witness_TouchControlIsAnswered_3 :
    ∃ (p : Fin 4) (s : State), (s.up) ∧ (s.tchState p ≠ tpRun) :=
  ⟨2, touched.set (.TCH_P_STATE_STATE 2) tpFault, by decide +kernel⟩

theorem witness_AliveCheckFollowsItsRule_0 :
    ∃ (u : Fin 4) (x : Byte) (s : State), (s.on (.CHK_CFG_ALIVE_EN u) = true) ∧ ((s.word (Reg.CHK_COUNT u)).toNat = s.get (.CHK_CFG_ALIVE_POS u)) :=
  ⟨2, 0x3F, dealing [(.CHK_CFG_ALIVE_EN 2, 1), (.CHK_CFG_STEP 2, 1), (.CHK_ALIVE_PREV 2, 14), (.CHK_ALIVE_PREV_VALID 2, 1)], by decide +kernel⟩

theorem witness_AliveCheckFollowsItsRule_0_1 :
    ∃ (u : Fin 4) (x : Byte) (s : State), (s.on (.CHK_CFG_ALIVE_EN u) = true) ∧ ((s.word (Reg.CHK_COUNT u)).toNat = s.get (.CHK_CFG_ALIVE_POS u)) :=
  ⟨2, 0xFF, dealing [(.CHK_CFG_ALIVE_EN 2, 1), (.CHK_CFG_ALIVE_W 2, 1), (.CHK_CFG_STEP 2, 1), (.CHK_ALIVE_PREV 2, 255), (.CHK_ALIVE_PREV_VALID 2, 1)], by decide +kernel⟩

theorem witness_AliveCheckFollowsItsRule_0_2 :
    ∃ (u : Fin 4) (x : Byte) (s : State), (s.on (.CHK_CFG_ALIVE_EN u) = true) ∧ ((s.word (Reg.CHK_COUNT u)).toNat = s.get (.CHK_CFG_ALIVE_POS u)) :=
  ⟨2, 0, dealing [(.CHK_CFG_ALIVE_EN 2, 1), (.CHK_CFG_ALIVE_W 2, 1), (.CHK_CFG_STEP 2, 1), (.CHK_ALIVE_PREV 2, 253), (.CHK_ALIVE_PREV_VALID 2, 1)], by decide +kernel⟩

theorem witness_AliveCheckFollowsItsRule_1 :
    ∃ (u : Fin 4) (x : Byte) (s : State), ((s.on (.CHK_CFG_ALIVE_EN u) = false ∨ (s.word (Reg.CHK_COUNT u)).toNat ≠ s.get (.CHK_CFG_ALIVE_POS u))) :=
  ⟨2, 7, withWords [(Reg.CHK_ALIVE 2, 0x507)] (dealing [(.CHK_CFG_ALIVE_EN 2, 1), (.CHK_CFG_ALIVE_POS 2, 1)]), by decide +kernel⟩

theorem witness_AliveCheckFollowsItsRule_2 :
    ∃ (u : Fin 4) (s : State), (s.up) :=
  ⟨3, withWords [(Reg.CHK_COUNT 3, 5), (Reg.CHK_ALIVE 3, 0xFFFFFFFF)] (dealing []), by decide +kernel⟩

theorem witness_AliveCheckFollowsItsRule_3 :
    ∃ (u : Fin 4) (w : Word) (s : State), (s.up) :=
  ⟨1, 0x12345678, dealing [], by decide +kernel⟩

theorem witness_AliveCheckFollowsItsRule_4 :
    ∃ (u : Fin 4) (w : Word) (s : State), (s.up) :=
  ⟨1, 0x12345678, dealing [], by decide +kernel⟩

theorem witness_AliveCheckFollowsItsRule_5 :
    ∃ (u : Fin 4) (w : Word) (s : State), (s.up) :=
  ⟨1, 0x12345678, dealing [], by decide +kernel⟩

theorem witness_LowestMatchingRegionDecides_0 :
    ∃ (m r t a : Nat) (user : Bool) (k : Access) (s : State), (m ≠ 1) ∧ (r < 16) ∧ (s.regionHits m r a = true) ∧ ((∀ q < r, s.regionHits m q a = false)) :=
  ⟨3, 1, 6, 0x100000200, true, .read, dealing [(.MPU_RGN_CTL_ON 3 1, 1), (.MPU_RGN_BASE_BASE 3 1, 0x800001), (.MPU_RGN_CTL_USER_RIGHTS 3 1, 1), (.MPU_RGN_CTL_ON 3 0, 1)], by decide +kernel⟩

theorem witness_LowestMatchingRegionDecides_1 :
    ∃ (m t a : Nat) (user : Bool) (k : Access) (s : State), (m ≠ 1) ∧ ((∀ q < 16, s.regionHits m q a = false)) :=
  ⟨0, 0, 0x1000, true, .read, dealing [], by decide +kernel⟩

theorem witness_LowestMatchingRegionDecides_1_1 :
    ∃ (m t a : Nat) (user : Bool) (k : Access) (s : State), (m ≠ 1) ∧ ((∀ q < 16, s.regionHits m q a = false)) :=
  ⟨0, 0, 0x1000, false, .write, dealing [], by decide +kernel⟩

theorem witness_LowestMatchingRegionDecides_3 :
    ∃ (m a : Nat) (user : Bool) (k : Access) (s : State), (s.checkPiece m user k a = 0) :=
  ⟨0, 0x1000000, false, .fetch, dealing [], by decide +kernel⟩

theorem witness_LowestMatchingRegionDecides_4 :
    ∃ (m r a : Nat) (s : State), (s.regionHits m r a = true) :=
  ⟨3, 1, 0x100000200, dealing [(.MPU_RGN_CTL_ON 3 1, 1), (.MPU_RGN_BASE_BASE 3 1, 0x800001)], by decide +kernel⟩

theorem witness_ShownStateIsTheMoreRestrictive_0 :
    ∃ (l : Nat) (s : State), ((s.tile l).cmp.state ≠ .empty) :=
  ⟨3, { dealing [] with tiles := [(3, { Tile.init with cmp := { TileHist.init with state := .degraded }, implied := .live })] }, by decide +kernel⟩

theorem witness_ShownStateIsTheMoreRestrictive_1 :
    ∃ (l : Nat) (s : State), ((s.tile l).cmp.state ≠ .empty) ∧ ((s.tile l).cmp.state ≠ .folded) ∧ ((s.tile l).implied = .folded) :=
  ⟨3, { dealing [] with tiles := [(3, { Tile.init with cmp := { TileHist.init with state := .live }, implied := .folded })] }, by decide +kernel⟩

theorem witness_ShownStateIsTheMoreRestrictive_2 :
    ∃ (l : Nat) (s : State), (s.scorerHolds l = true) :=
  ⟨3, dealing [(.CMP_LV_STATUS_SCORER_MISS, 2)], by decide +kernel⟩

theorem witness_ShownStateIsTheMoreRestrictive_3 :
    ∃ (l : Nat) (v : Verdict) (s : State), (s.scorerHolds l = false) ∧ (s.on .CMP_LV_STATUS_SCORER_OK = true) ∧ ((s.tile l).verdict = some v) :=
  ⟨3, ⟨.degraded, 0, false, .degraded⟩, { dealing [(.CMP_LV_STATUS_SCORER_OK, 1)] with tiles := [(3, { Tile.init with verdict := some ⟨.degraded, 0, false, .degraded⟩ })] }, by decide +kernel⟩

theorem witness_ShownStateIsTheMoreRestrictive_4 :
    ∃ (l : Nat) (s : State), (s.scorerHolds l = false) ∧ (s.on .CMP_LV_STATUS_SCORER_OK = false) :=
  ⟨3, dealing [], by decide +kernel⟩

end Sys2Proof.Tests
end

section
/-!
SUPPORT. Reads and writes of the register blocks by the types of a register's fields (R12, R13), and the statements of the scope
chapter: the step and its queue (O1), RESET (O3), register access (O46).
-/

namespace Sys2Proof.Machine

open Sys2Proof

/-! ### Masks of field types -/

/-- Bit `i` of the union of the fields of a type in `p`. -/
theorem foldl_fieldMask_getLsbD (p : FieldTy → Bool) (a i : Nat) (fs : List FieldDesc) (m : Word) :
    (fs.foldl (fun m f => if p f.ty then m ||| (⟨a, f.lo, f.wid⟩ : Fld).mask else m) m).getLsbD i
      = (m.getLsbD i || fs.any fun f => p f.ty && (⟨a, f.lo, f.wid⟩ : Fld).mask.getLsbD i) := by
  induction fs generalizing m with
  | nil => simp
  | cons f fs ih =>
    rw [List.foldl_cons, ih, List.any_cons]
    cases p f.ty <;> simp [Bool.or_assoc]

/-- A bit is in the mask of `p` where the register at the address has a field of a type in `p` over it. -/
theorem tyMask_getLsbD (p : FieldTy → Bool) (a i : Nat) :
    (tyMask p a).getLsbD i = ((blockRegs a).find? (·.hit a)).any fun d =>
      d.fields.any fun f => p f.ty && (⟨a, f.lo, f.wid⟩ : Fld).mask.getLsbD i := by
  unfold tyMask
  cases (blockRegs a).find? (·.hit a) with
  | none => simp
  | some d => simp [foldl_fieldMask_getLsbD]

/-- Fewer types, fewer bits: where the mask of `q` is empty, so is that of a narrower `p`. -/
theorem tyMask_eq_zero_of_imp {p q : FieldTy → Bool} {a : Nat} (hpq : ∀ t, p t = true → q t = true) (h : tyMask q a = 0) :
    tyMask p a = 0 := by
  apply BitVec.eq_of_getLsbD_eq
  intro i _
  have hq : (tyMask q a).getLsbD i = false := by rw [h]; exact BitVec.getLsbD_zero
  rw [tyMask_getLsbD] at hq
  rw [tyMask_getLsbD, BitVec.ofNat_eq_ofNat, BitVec.getLsbD_zero]
  cases hd : (blockRegs a).find? (·.hit a) with
  | none => rfl
  | some d =>
    simp only [hd, Option.any_some, List.any_eq_false, Bool.and_eq_true, not_and] at hq ⊢
    exact fun f hf hp => hq f hf (hpq _ hp)

/-- A block without a field of a type in `p` has an empty mask at every address. -/
theorem tyMask_eq_zero_of_block {p : FieldTy → Bool} {a : Nat} (h : ∀ d ∈ blockRegs a, ∀ f ∈ d.fields, p f.ty = false) :
    tyMask p a = 0 := by
  apply BitVec.eq_of_getLsbD_eq
  intro i _
  rw [tyMask_getLsbD, BitVec.ofNat_eq_ofNat, BitVec.getLsbD_zero]
  cases hd : (blockRegs a).find? (·.hit a) with
  | none => rfl
  | some d =>
    simp only [Option.any_some, List.any_eq_false, Bool.and_eq_true, not_and]
    intro f hf hp
    exact absurd (h d (List.mem_of_find?_eq_some hd) f hf) (by simp [hp])

/-- An address that names no register has an empty mask. -/
theorem tyMask_eq_zero_of_unassigned {a : Nat} (p : FieldTy → Bool) (h : ∀ d ∈ blockRegs a, d.hit a = false) :
    tyMask p a = 0 := by
  have hf : (blockRegs a).find? (·.hit a) = none := List.find?_eq_none.mpr fun d hd => by simp [h d hd]
  simp [tyMask, hf]

/-- The SH bits are those of type SH, but for the marker palette entries that no write reaches. -/
theorem shMask_eq (a : Nat) : shMask a = if paletteFixed a then 0 else tyMask (· == .sh) a := by
  unfold shMask tyMask
  split
  · rfl
  · cases (blockRegs a).find? (·.hit a) with
    | none => rfl
    | some d => simp only [beq_iff_eq]

theorem shMask_eq_zero {a : Nat} (h : tyMask (· == .sh) a = 0) : shMask a = 0 := by
  rw [shMask_eq, h, ite_self]

/-! ### Addresses -/

theorem dimsHit_mod_four {dims : List (Nat × Nat)} (hd : ∀ e ∈ dims, e.2 % 4 = 0) {off : Nat} (h : dimsHit dims off = true) :
    off % 4 = 0 := by
  induction dims generalizing off with
  | nil => simp_all [dimsHit]
  | cons e rest ih =>
    simp only [dimsHit, Bool.and_eq_true] at h
    have hr : off % e.2 % 4 = 0 := ih (fun x hx => hd x (List.mem_cons_of_mem _ hx)) h.2
    rwa [Nat.mod_mod_of_dvd _ (Nat.dvd_of_mod_eq_zero (hd e List.mem_cons_self))] at hr

/-- A family on word addresses holds word addresses only. -/
theorem RegDesc.hit_mod_four {d : RegDesc} (hb : d.base % 4 = 0) (hd : ∀ e ∈ d.dims, e.2 % 4 = 0) {a : Nat}
    (h : d.hit a = true) : a % 4 = 0 := by
  simp only [RegDesc.hit, Bool.and_eq_true, decide_eq_true_eq] at h
  obtain ⟨hle, hoff⟩ := h
  have := dimsHit_mod_four hd hoff
  omega

theorem regsTim_on_words : ∀ d ∈ regsTim, d.base % 4 = 0 ∧ ∀ e ∈ d.dims, e.2 % 4 = 0 := by decide

/-- Between the words of the time unit's block there is no register. -/
theorem tyMask_tim_between_words {a : Nat} (p : FieldTy → Bool) (hb : a / 0x10000 = 0x1008) (h : a % 4 ≠ 0) : tyMask p a = 0 := by
  refine tyMask_eq_zero_of_unassigned p fun d hd => Bool.eq_false_iff.mpr fun hit => h ?_
  have hd : d ∈ regsTim := by simpa only [blockRegs, hb] using hd
  exact RegDesc.hit_mod_four (regsTim_on_words d hd).1 (regsTim_on_words d hd).2 hit

theorem regIdx_eq_none_of_lt {base a : Nat} (stride n : Nat) (h : a < base) : regIdx base stride n a = none :=
  if_neg fun hit => absurd hit.1 (by omega)

/-! ### Frames -/

theorem Keeps.at_ {ps : List Part} {W : Nat → Prop} {s t : State} (h : Keeps ps W s t) (now : Word) (hp : .time ∈ ps) :
    Keeps ps W s (t.at_ now) :=
  h.part rfl rfl fun p hn => by
    cases p
    case time => exact absurd hp hn
    all_goals rfl

theorem Keeps.putPend {ps : List Part} {W : Nat → Prop} {s t : State} (h : Keeps ps W s t) (a : Nat) (w : Word) (hp : .pend ∈ ps) :
    Keeps ps W s (t.putPend a w) :=
  h.part rfl rfl fun p hn => by
    cases p
    case pend => exact absurd hp hn
    all_goals rfl

/-! ### Writes by field type (R12) -/

theorem wroteTyped_closed (a : Nat) (old w : Word) : wroteTyped false a old w
    = ((old &&& ~~~tyMask (· == .rw) a) ||| (w &&& tyMask (· == .rw) a)) &&& ~~~(tyMask (· == .w1c) a &&& w) := by
  simp [wroteTyped]

/-- A register without RW and W1C bits keeps its word while its LK bits are closed; so does an address that names none. -/
theorem wroteTyped_unwritable {lk : Bool} {a : Nat} (h : tyMask (fun t => t == .rw || t == .w1c) a = 0)
    (hlk : lk = true → ∀ p, tyMask p a = 0) (old w : Word) : wroteTyped lk a old w = old := by
  have hw1c : tyMask (· == .w1c) a = 0 := tyMask_eq_zero_of_imp (by simp +contextual) h
  have htake : tyMask (fun t => t == .rw || (t == .lk && lk)) a = 0 := by
    cases lk with
    | true => exact hlk rfl _
    | false => exact tyMask_eq_zero_of_imp (by simp +contextual) h
  calc wroteTyped lk a old w
      _ = (old &&& ~~~0 ||| w &&& 0) &&& ~~~(0 &&& w) := by simp only [wroteTyped, htake, hw1c]
      _ = old := by simp only [BitVec.ofNat_eq_ofNat, BitVec.not_zero, BitVec.and_allOnes, BitVec.and_zero,
          BitVec.or_zero, BitVec.zero_and]

/-- What a write of the fields does to the word: `wroteTyped`; its SH bits go the way of `shWrite`. -/
theorem State.typedWrite_eq (s : State) {a : Nat} (w : Word) (hc : a ≠ Reg.FAB_FLOW_CFG 0) (hs : a ≠ Reg.FAB_FLOW_STATE 0) :
    s.typedWrite a w = (s.setWord a (wroteTyped (s.lkOpen a) a (s.word a) w)).shWrite a w := by
  simp only [State.typedWrite, hc, hs, or_self, if_false]
  cases s.lkOpen a <;> simp [wroteTyped]

theorem State.shWrite_none (s : State) {a : Nat} (w : Word) (h : shMask a = 0) : s.shWrite a w = s := if_pos h

theorem State.shWrite_free (s : State) {a : Nat} (w : Word) (h : shMask a ≠ 0) (hp : s.on .CMP_COMMIT_PENDING = false) :
    s.shWrite a w = s.putPend a w := by
  simp only [State.shWrite, h, hp, if_false, Bool.false_eq_true]

theorem State.shWrite_pending (s : State) {a : Nat} (w : Word) (h : shMask a ≠ 0) (hp : s.on .CMP_COMMIT_PENDING = true) :
    s.shWrite a w = s.count .CMP_COMMIT_STATUS_WR_DROP := by
  simp only [State.shWrite, h, hp, if_false, if_true]

/-- The merged word has the SH bits of the new one. -/
theorem mergeSh_and_shMask (a : Nat) (old new : Word) : mergeSh a old new &&& shMask a = new &&& shMask a := by
  ext i
  simp only [mergeSh, BitVec.getElem_and, BitVec.getElem_or, BitVec.getElem_not]
  cases (shMask a)[i] <;> simp

/-- The pending value of a word just put takes its SH bits from the write. -/
theorem State.pendWord_putPend (s : State) (a : Nat) (w : Word) : (s.putPend a w).pendWord a &&& shMask a = w &&& shMask a := by
  have h : (s.putPend a w).pendWord a = mergeSh a (s.pendWord a) w := by
    simp only [State.pendWord, State.putPend, Tab.find_insert, if_true, Option.getD_some]
  rw [h, mergeSh_and_shMask]

theorem State.find_pend_putPend (s : State) {a b : Nat} (w : Word) (h : b ≠ a) :
    Tab.find (s.putPend a w).pend b = Tab.find s.pend b := by
  simp only [State.putPend, Tab.find_insert, h, if_false]

/-- A count holds the saturated sum. -/
theorem State.get_count (s : State) (f : Fld) (k : Nat) (h : f.lo + f.wid ≤ 32) :
    (s.count f k).get f = satAdd f.wid (s.get f) k := by
  rw [State.count, State.get_set_same s f _ h]
  have := Nat.two_pow_pos f.wid
  exact Nat.mod_eq_of_lt (by unfold satAdd; omega)

/-- The LK bits are closed once image and memory section are in force, outside the trigger channels (R293, R394, R398). -/
theorem State.lkOpen_closed {s : State} {a : Nat} (hi : s.boot.imageOk = true) (hm : memAddr a = true → s.boot.memSet = true)
    (hc : ¬ (Reg.TIM_TRG_CFG 0 ≤ a ∧ (a - Reg.TIM_TRG_CFG 0) / 16 < 64)) : s.lkOpen a = false := by
  simp only [State.lkOpen, hc, hi]
  cases h : memAddr a
  · simp
  · simp [hm h]

/-! ### Registers without a rule of their own -/

/-- The registers that `State.plainReg` excludes one by one: a write of each acts beyond the types of its fields. -/
def ownRuleRegs : List Nat :=
  [Reg.DLR_TICK_FIRST, Reg.DEC_CMD, Reg.ENC_CMD, Reg.MEM_FREQ, Reg.TIM_INCR, Reg.TIM_EPOCH, Reg.TIM_PTP_OFF_LO, Reg.TIM_PTP_OFF_HI,
    Reg.TIM_SERVO, Reg.TIM_GM_DOM, Reg.TIM_UTC, Reg.CMD_IN_PORT, Reg.HST_MB_DOORBELL, Reg.HST_MB_RESP, Reg.CMP_COMMIT, Reg.CMP_TLN_FREE,
    Reg.CMP_WALL_GO, Reg.OUT_RESYNC, Reg.FAB_RT_CHECK, Reg.FAB_TX_CTRL, Reg.FAB_FLOW_CFG 0, Reg.FAB_FLOW_STATE 0]

/-- The families that `State.plainReg` excludes, by an address: the index in each. -/
def ownRuleFamilies (a : Nat) : List (Option Nat) :=
  [regIdx (Reg.TIM_TRG_START 0) 16 64 a, regIdx (Reg.TIM_TRG_CFG 0) 16 64 a, regIdx (Reg.TIM_TRG_PER 0) 16 64 a,
    regIdx (Reg.TCH_P_CTRL 0) 0x100 4 a, regIdx (Reg.AUD_P_CTRL 0) 0x40 8 a, regIdx (Reg.CHK_CFG 0) 64 4 a, regIdx (Reg.CHK_DATA8 0) 64 4 a,
    regIdx (Reg.CHK_DATA16 0) 64 4 a, regIdx (Reg.CHK_DATA32 0) 64 4 a, regIdx (Reg.OUT_AUX_CTRL 0) 0x100 16 a,
    regIdx (Reg.SER_QCTRL 0) 64 41 a]

/-- What it says that a register has no rule of its own. -/
structure PlainReg (s : State) (a : Nat) : Prop where
  block : 0x1004 ≤ a / 0x10000
  notScorer : a / 0x10000 ≠ 0x100E
  notLog : a / 0x10000 ≠ 0x100F
  session : s.sessionShut a = false
  notOwn : a ∉ ownRuleRegs
  notRoute : ¬ (Reg.FAB_RT 0 ≤ a ∧ a < Reg.FAB_RT 64 ∨ Reg.FAB_BC 0 ≤ a ∧ a < Reg.FAB_BC 64)
  noFamily : ∀ i ∈ ownRuleFamilies a, i = none

theorem State.plainReg_facts {s : State} {a : Nat} (h : s.plainReg a = true) : PlainReg s a := by
  simp only [State.plainReg, Bool.and_eq_true, Bool.not_eq_true', decide_eq_true_eq, decide_eq_false_iff_not, bne_iff_ne] at h
  obtain ⟨⟨⟨⟨⟨⟨hb, he⟩, hl⟩, hs⟩, ho⟩, hr⟩, hf⟩ := h
  refine ⟨hb, he, hl, hs, fun hm => ?_, hr, fun i hi => ?_⟩
  · exact Bool.eq_false_iff.mp ho (List.contains_iff_mem.mpr hm)
  · exact Option.not_isSome_iff_eq_none.mp (List.any_eq_false.mp hf i hi)

/-- The address is none of the registers that act. -/
theorem PlainReg.ne {s : State} {a r : Nat} (h : PlainReg s a) (hr : r ∈ ownRuleRegs) : a ≠ r :=
  fun e => h.notOwn (e ▸ hr)

theorem PlainReg.timWrite {s : State} {a : Nat} (h : PlainReg s a) (t : State) (w : Word) : t.timWrite a w = t.typedWrite a w := by
  have hstart := h.noFamily (regIdx (Reg.TIM_TRG_START 0) 16 64 a) (by simp [ownRuleFamilies])
  have hcfg := h.noFamily (regIdx (Reg.TIM_TRG_CFG 0) 16 64 a) (by simp [ownRuleFamilies])
  have hper := h.noFamily (regIdx (Reg.TIM_TRG_PER 0) 16 64 a) (by simp [ownRuleFamilies])
  simp only [State.timWrite, h.ne (r := Reg.TIM_INCR) (by decide), h.ne (r := Reg.TIM_EPOCH) (by decide),
    h.ne (r := Reg.TIM_PTP_OFF_LO) (by decide), h.ne (r := Reg.TIM_PTP_OFF_HI) (by decide), h.ne (r := Reg.TIM_SERVO) (by decide),
    h.ne (r := Reg.TIM_GM_DOM) (by decide), h.ne (r := Reg.TIM_UTC) (by decide), hstart, hcfg, hper, if_false]

theorem PlainReg.chkWrite {s : State} {a : Nat} (h : PlainReg s a) (t : State) (w : Word) : t.chkWrite a w = t.typedWrite a w := by
  have hcfg := h.noFamily (regIdx (Reg.CHK_CFG 0) 64 4 a) (by simp [ownRuleFamilies])
  have h8 := h.noFamily (regIdx (Reg.CHK_DATA8 0) 64 4 a) (by simp [ownRuleFamilies])
  have h16 := h.noFamily (regIdx (Reg.CHK_DATA16 0) 64 4 a) (by simp [ownRuleFamilies])
  have h32 := h.noFamily (regIdx (Reg.CHK_DATA32 0) 64 4 a) (by simp [ownRuleFamilies])
  simp only [State.chkWrite, hcfg, h8, h16, h32]

theorem PlainReg.busBWrite {s : State} {a : Nat} (h : PlainReg s a) (t : State) (w now : Word) :
    t.busBWrite a w now = t.typedWrite a w := by
  have haux := h.noFamily (regIdx (Reg.OUT_AUX_CTRL 0) 0x100 16 a) (by simp [ownRuleFamilies])
  have hquad := h.noFamily (regIdx (Reg.SER_QCTRL 0) 64 41 a) (by simp [ownRuleFamilies])
  simp only [State.busBWrite, h.ne (r := Reg.CMP_COMMIT) (by decide), h.ne (r := Reg.CMP_TLN_FREE) (by decide),
    h.ne (r := Reg.CMP_WALL_GO) (by decide), h.ne (r := Reg.OUT_RESYNC) (by decide), h.ne (r := Reg.FAB_RT_CHECK) (by decide),
    h.ne (r := Reg.FAB_TX_CTRL) (by decide), h.notRoute, haux, hquad, if_false]

/-- A write of a register without a rule of its own acts as the types of its fields say. -/
theorem State.writeReg_plain {s : State} {a : Nat} (hu : s.up) (h : PlainReg s a) (m : Nat) (user : Bool) (w now : Word) (f : FlashIn) :
    s.writeReg m user a w now f = (s.at_ now).typedWrite a w := by
  have hblock := h.block
  have hses : (s.at_ now).sessionShut a = false := h.session
  simp only [State.writeReg, hu, if_false]
  split
  case h_1 | h_2 | h_3 | h_4 => omega
  case h_5 => rw [if_neg (h.ne (by decide))]
  case h_6 | h_7 => rw [if_neg (h.ne (by decide)), hses, if_neg Bool.false_ne_true]
  case h_8 => rw [if_neg (h.ne (by decide))]
  case h_9 => exact h.timWrite _ w
  case h_10 => rw [h.noFamily (regIdx (Reg.TCH_P_CTRL 0) 0x100 4 a) (by simp [ownRuleFamilies])]
  case h_11 => rw [h.noFamily (regIdx (Reg.AUD_P_CTRL 0) 0x40 8 a) (by simp [ownRuleFamilies])]
  case h_12 => rw [if_neg (h.ne (by decide))]
  case h_13 => rw [if_neg (h.ne (by decide)), if_neg (h.ne (by decide))]
  case h_14 => exact h.chkWrite _ w
  case h_15 heq => exact absurd heq h.notScorer
  case h_16 heq => exact absurd heq h.notLog
  case h_17 => exact h.busBWrite _ w now

/-- A register write on an awake device: `writeReg`, whatever was sent out before. -/
theorem exec_registerWrite (a : BitVec 40) (w : Word) (m : Fin 11) (v : Bool) (now : Word) (f : FlashIn) (s : State) (hu : s.up) :
    exec (.registerWrite a w m v now f) s = .next (s.quiet.writeReg m v a.toNat w now f) :=
  congrArg Host.Outcome.next (State.awake_up s _ hu)

/-- The state after a write by field type, before its SH bits: time and word. -/
def State.wroteWord (s : State) (a : Nat) (w now : Word) : State :=
  (s.quiet.at_ now).setWord a (wroteTyped (s.lkOpen a) a (s.word a) w)

theorem State.wroteWord_word (s : State) (a : Nat) (w now : Word) :
    (s.wroteWord a w now).word a = wroteTyped (s.lkOpen a) a (s.word a) w := by
  simp [State.wroteWord]

theorem State.wroteWord_time (s : State) (a : Nat) (w now : Word) :
    (s.wroteWord a w now).time = { s.time with now := now } := rfl

theorem Keeps.wroteWord (s : State) (a : Nat) (w now : Word) : Keeps [.time] (only [a]) s (s.wroteWord a w now) :=
  ((Keeps.quiet _ _ s).at_ now (by simp)).setWord a _ (by simp)

/-- A write by field type does not reach CMP_COMMIT, so it starts and ends no pending commit. -/
theorem PlainReg.pending_wroteWord {s : State} {a : Nat} (h : PlainReg s a) (w now : Word) :
    (s.wroteWord a w now).on .CMP_COMMIT_PENDING = s.on .CMP_COMMIT_PENDING := by
  have hne : (Fld.CMP_COMMIT_PENDING).addr ≠ a := (h.ne (by decide)).symm
  rw [State.on_eq, State.on_eq, (Keeps.wroteWord s a w now).get .CMP_COMMIT_PENDING (by simpa using hne)]

/-- A write that acts as the types of the fields say: the word, then the SH bits. -/
theorem exec_registerWrite_typed {a : BitVec 40} {w now : Word} {m : Fin 11} {v : Bool} {f : FlashIn} {s : State} (hu : s.up)
    (hty : s.quiet.writeReg m v a.toNat w now f = (s.quiet.at_ now).typedWrite a.toNat w) (hc : a.toNat ≠ Reg.FAB_FLOW_CFG 0)
    (hs : a.toNat ≠ Reg.FAB_FLOW_STATE 0) :
    exec (.registerWrite a w m v now f) s = .next ((s.wroteWord a.toNat w now).shWrite a.toNat w) := by
  rw [exec_registerWrite a w m v now f s hu, hty, State.typedWrite_eq _ w hc hs]
  rfl

theorem exec_registerWrite_plain {a : BitVec 40} {s : State} (hu : s.up) (h : PlainReg s a.toNat) (w : Word) (m : Fin 11) (v : Bool)
    (now : Word) (f : FlashIn) :
    exec (.registerWrite a w m v now f) s = .next ((s.wroteWord a.toNat w now).shWrite a.toNat w) :=
  have hq : PlainReg s.quiet a.toNat := ⟨h.block, h.notScorer, h.notLog, h.session, h.notOwn, h.notRoute, h.noFamily⟩
  exec_registerWrite_typed hu (State.writeReg_plain (s := s.quiet) hu hq m v w now f) (h.ne (by decide)) (h.ne (by decide))

/-- A write of a register whose SH mask is empty. -/
theorem gives_registerWrite_plain {a : BitVec 40} {s : State} (hu : s.up) (h : s.plainReg a.toNat = true) (hsh : shMask a.toNat = 0)
    (w : Word) (m : Fin 11) (v : Bool) (now : Word) (f : FlashIn) : Gives (.registerWrite a w m v now f) s fun t =>
      t.word a.toNat = wroteTyped (s.lkOpen a.toNat) a.toNat (s.word a.toNat) w
        ∧ t.time = { s.time with now := now } ∧ Keeps [.time] (only [a.toNat]) s t := by
  have he := exec_registerWrite_plain hu (State.plainReg_facts h) w m v now f
  rw [State.shWrite_none _ w hsh] at he
  exact ⟨_, he, State.wroteWord_word .., State.wroteWord_time .., Keeps.wroteWord ..⟩

/-- A write of SH bits while no commit is pending: they become the pending value (R123). -/
theorem gives_registerWrite_sh {a : BitVec 40} {s : State} (hu : s.up) (h : s.plainReg a.toNat = true) (hsh : shMask a.toNat ≠ 0)
    (hp : s.on .CMP_COMMIT_PENDING = false) (w : Word) (m : Fin 11) (v : Bool) (now : Word) (f : FlashIn) :
    Gives (.registerWrite a w m v now f) s fun t =>
      t.word a.toNat = wroteTyped (s.lkOpen a.toNat) a.toNat (s.word a.toNat) w
        ∧ t.pendWord a.toNat &&& shMask a.toNat = w &&& shMask a.toNat
        ∧ (∀ b, b ≠ a.toNat → Tab.find t.pend b = Tab.find s.pend b) ∧ Keeps [.time, .pend] (only [a.toNat]) s t := by
  have hf := State.plainReg_facts h
  have he := exec_registerWrite_plain hu hf w m v now f
  rw [State.shWrite_free _ w hsh ((hf.pending_wroteWord w now).trans hp)] at he
  exact ⟨_, he, State.wroteWord_word .., State.pendWord_putPend .., fun b hb => State.find_pend_putPend _ w hb,
    ((Keeps.wroteWord s a.toNat w now).mono (by simp) fun _ => id).putPend _ _ (by simp)⟩

/-- A write of SH bits while a commit is pending: they are dropped and counted (R123). -/
theorem gives_registerWrite_sh_dropped {a : BitVec 40} {s : State} (hu : s.up) (h : s.plainReg a.toNat = true)
    (hsh : shMask a.toNat ≠ 0) (hp : s.on .CMP_COMMIT_PENDING = true) (ha : (Fld.CMP_COMMIT_STATUS_WR_DROP).addr ≠ a.toNat)
    (w : Word) (m : Fin 11) (v : Bool) (now : Word) (f : FlashIn) : Gives (.registerWrite a w m v now f) s fun t =>
      t.word a.toNat = wroteTyped (s.lkOpen a.toNat) a.toNat (s.word a.toNat) w
        ∧ t.get .CMP_COMMIT_STATUS_WR_DROP = satAdd (Fld.CMP_COMMIT_STATUS_WR_DROP).wid (s.get .CMP_COMMIT_STATUS_WR_DROP) 1
        ∧ t.pend = s.pend ∧ Keeps [.time] (only [a.toNat, (Fld.CMP_COMMIT_STATUS_WR_DROP).addr]) s t := by
  have hf := State.plainReg_facts h
  have he := exec_registerWrite_plain hu hf w m v now f
  have hk := Keeps.wroteWord s a.toNat w now
  rw [State.shWrite_pending _ w hsh ((hf.pending_wroteWord w now).trans hp)] at he
  refine ⟨_, he, ?_, ?_, rfl, (hk.mono (fun _ => id) (by simp +contextual)).set _ _ (by simp)⟩
  · rw [State.count, State.word_set _ _ _ _ ha.symm, State.wroteWord_word]
  · rw [State.get_count _ _ _ (by decide), hk.get .CMP_COMMIT_STATUS_WR_DROP (by simpa using ha)]

/-- Once image and memory section are in force, a register without RW, W1C and SH bits keeps its word. -/
theorem gives_registerWrite_unwritable {a : BitVec 40} {s : State} (hu : s.up) (hi : s.boot.imageOk = true)
    (h : s.plainReg a.toNat = true) (hsh : shMask a.toNat = 0) (hms : s.boot.memSet = true)
    (hc : ∀ c, regIdx (Reg.TIM_TRG_CFG 0) 4 256 a.toNat ≠ some c) (hty : tyMask (fun t => t == .rw || t == .w1c) a.toNat = 0)
    (w : Word) (v : Bool) (now : Word) (f : FlashIn) : Gives (.registerWrite a w 0 v now f) s fun t =>
      t.word a.toNat = s.word a.toNat ∧ Keeps [.time] (only []) s t := by
  obtain ⟨t, he, hw, -, hk⟩ := gives_registerWrite_plain hu h hsh w 0 v now f
  have hlk : s.lkOpen a.toNat = true → ∀ p, tyMask p a.toNat = 0 := fun ho p => by
    by_cases hr : Reg.TIM_TRG_CFG 0 ≤ a.toNat ∧ (a.toNat - Reg.TIM_TRG_CFG 0) / 16 < 64
    · have hm : a.toNat % 4 ≠ 0 := fun hm => hc _ (if_pos (by unfold Reg.TIM_TRG_CFG at hr ⊢; omega))
      exact tyMask_tim_between_words p (by unfold Reg.TIM_TRG_CFG at hr; omega) hm
    · rw [State.lkOpen_closed hi (fun _ => hms) hr] at ho
      cases ho
  rw [wroteTyped_unwritable hty hlk] at hw
  refine ⟨t, he, hw, hk.1, hk.2.1, fun b _ => ?_⟩
  by_cases hb : b = a.toNat
  · rw [hb, hw]
  · exact hk.2.2 b (by simpa using hb)

/-! ### The Dealer's, the Scorer's, the log's and the platform's blocks -/

theorem regsDlr_no_sh : ∀ d ∈ regsDlr, ∀ f ∈ d.fields, (f.ty == .sh) = false := by decide

theorem shMask_dealer {a : Nat} (hb : a / 0x10000 = 0x1004) : shMask a = 0 :=
  shMask_eq_zero (tyMask_eq_zero_of_block fun d hd => regsDlr_no_sh d (by simpa only [blockRegs, hb] using hd))

theorem State.writeReg_dealer {s : State} {a : Nat} (hu : s.up) (hb : a / 0x10000 = 0x1004) (hne : a ≠ Reg.DLR_TICK_FIRST) (m : Nat)
    (user : Bool) (w now : Word) (f : FlashIn) : s.writeReg m user a w now f = (s.at_ now).typedWrite a w := by
  simp only [State.writeReg, hu, hb, hne, if_false]

/-- With the image in force, a write of a Dealer register other than the first tick reaches its RW and W1C bits alone. -/
theorem gives_registerWrite_dealer {a : BitVec 40} {s : State} (hu : s.up) (hb : a.toNat / 0x10000 = 0x1004)
    (hne : a.toNat ≠ Reg.DLR_TICK_FIRST) (hi : s.boot.imageOk = true) (w : Word) (m : Fin 11) (v : Bool) (now : Word) (f : FlashIn) :
    Gives (.registerWrite a w m v now f) s fun t =>
      t.word a.toNat = ((s.word a.toNat &&& ~~~tyMask (· == .rw) a.toNat) ||| (w &&& tyMask (· == .rw) a.toNat))
          &&& ~~~(tyMask (· == .w1c) a.toNat &&& w)
        ∧ t.time = { s.time with now := now } ∧ Keeps [.time] (only [a.toNat]) s t := by
  have hfab : ∀ r, r / 0x10000 = 0x2004 → a.toNat ≠ r := by omega
  have he := exec_registerWrite_typed hu (State.writeReg_dealer (s := s.quiet) hu hb hne m v w now f) (hfab _ rfl) (hfab _ rfl)
  rw [State.shWrite_none _ w (shMask_dealer hb)] at he
  have hlk : s.lkOpen a.toNat = false :=
    State.lkOpen_closed hi (by simp [memAddr, hb]) (by unfold Reg.TIM_TRG_CFG; omega)
  refine ⟨_, he, ?_, State.wroteWord_time .., Keeps.wroteWord ..⟩
  rw [State.wroteWord_word, hlk, wroteTyped_closed]

/-- A write that the block refuses leaves everything but the time. -/
theorem gives_registerWrite_refused {a : BitVec 40} {w now : Word} {m : Fin 11} {v : Bool} {f : FlashIn} {s : State} (hu : s.up)
    (h : s.quiet.writeReg m v a.toNat w now f = s.quiet.at_ now) : Gives (.registerWrite a w m v now f) s fun t =>
      t.time = { s.time with now := now } ∧ Keeps [.time] (only []) s t :=
  ⟨_, (exec_registerWrite a w m v now f s hu).trans (congrArg _ h), rfl, (Keeps.quiet _ _ s).at_ now (by simp)⟩

/-- R369: no master writes the Scorer's and the log's blocks. -/
theorem State.writeReg_scorer {s : State} {a : Nat} (hu : s.up) (hb : a / 0x10000 = 0x100E ∨ a / 0x10000 = 0x100F) (m : Nat)
    (user : Bool) (w now : Word) (f : FlashIn) : s.writeReg m user a w now f = s.at_ now := by
  rcases hb with hb | hb <;> simp only [State.writeReg, hu, hb, if_false]

/-- R381, R384: who may not write the platform's registers. -/
theorem State.platformWriter_refused {s : State} {m : Fin 11} {v : Bool}
    (h : (m = 0 ∧ v = true) ∨ (m ≠ 0 ∧ m ≠ 9) ∨ (m = 9 ∧ s.lifecycle ≠ lcBlank ∧ s.lifecycle ≠ lcLab)) :
    s.platformWriter m v = false := by
  rcases h with ⟨rfl, rfl⟩ | ⟨h0, h9⟩ | ⟨rfl, hb, hl⟩
  · simp [State.platformWriter]
  · have h9' : m.val ≠ 9 := fun e => h9 (Fin.ext e)
    simp [State.platformWriter, h0, h9']
  · simp [State.platformWriter, hb, hl]

theorem State.writeReg_platform_refused {s : State} {a m : Nat} {user : Bool} (hu : s.up) (hlo : 0x10000000 ≤ a) (hhi : a < 0x10040000)
    (hw : s.platformWriter m user = false) (w now : Word) (f : FlashIn) : s.writeReg m user a w now f = s.at_ now := by
  have hp : (s.at_ now).platformWrite m user a w now f = s.at_ now := if_pos hw
  have hb : a / 0x10000 = 0x1000 ∨ a / 0x10000 = 0x1001 ∨ a / 0x10000 = 0x1002 ∨ a / 0x10000 = 0x1003 := by omega
  rcases hb with hb | hb | hb | hb <;> simp only [State.writeReg, hu, hb, if_false, hp]

/-! ### Reads (R12) -/

/-- Only the touch reports note that they have been read (R315). -/
theorem State.reportSeen_of_block (s : State) {a : Nat} (h : a / 0x10000 ≠ 0x1009) : s.reportSeen a = s := by
  refine if_neg fun hit => h ?_
  obtain ⟨-, hp, hr, ha, -⟩ := hit
  unfold Reg.TCH_RPT at *
  omega

/-- A read of a register by the debug port changes nothing, but where the read acts. -/
theorem State.readSide_debug (s : State) {a : Nat} (hnow : a ≠ Reg.TIM_NOW_LO) (hrx : a ≠ Reg.FAB_RX_ARG1)
    (htx : regIdx (Reg.TIM_NP_TXTS_ID 0) 0x100 3 a = none) : s.readSide 9 a = s := by
  simp only [State.readSide, hnow, hrx, htx, if_true, if_false]

/-- A read by another master clears the RC bits, where the read does not act. -/
theorem State.readSide_clears (s : State) {a m : Nat} (hm : m ≠ 9) (hnow : a ≠ Reg.TIM_NOW_LO) (hrx : a ≠ Reg.FAB_RX_ARG1)
    (htx : regIdx (Reg.TIM_NP_TXTS_ID 0) 0x100 3 a = none) (hb : a / 0x10000 ≠ 0x1009) :
    s.readSide m a = s.setWord a (s.word a &&& ~~~tyMask (· == .rc) a) := by
  simp only [State.readSide, hm, hnow, hrx, htx, if_false, State.reportSeen_of_block _ hb]

/-- What was sent out before is not part of what a register reads as. -/
theorem State.readReg_quiet (s : State) (m a : Nat) : s.quiet.readReg m a = s.readReg m a := rfl

/-- A register read on an awake device: the value goes out, then the read's effect. -/
theorem exec_registerReadClear (a : BitVec 40) (m : Fin 11) (s : State) (hu : s.up) :
    exec (.registerReadClear a m) s = .next ((s.quiet.emit (.read a.toNat (s.readReg m a.toNat))).readSide m a.toNat) := by
  have hb : s.quiet.busRead m a.toNat = (s.quiet.showRead a.toNat (s.quiet.readReg m a.toNat)).readSide m a.toNat := if_neg hu
  rw [State.readReg_quiet] at hb
  exact congrArg Host.Outcome.next ((State.awake_up s _ hu).trans hb)

theorem gives_registerReadClear_debug {a : BitVec 40} {s : State} (hu : s.up) (hnow : a.toNat ≠ Reg.TIM_NOW_LO)
    (hrx : a.toNat ≠ Reg.FAB_RX_ARG1) (htx : regIdx (Reg.TIM_NP_TXTS_ID 0) 0x100 3 a.toNat = none) :
    Gives (.registerReadClear a 9) s fun t => t.out = [.read a.toNat (s.readReg 9 a.toNat)] ∧ Keeps [] (only []) s t :=
  ⟨_, (exec_registerReadClear a 9 s hu).trans (congrArg _ (State.readSide_debug _ hnow hrx htx)), rfl, (Keeps.quiet _ _ s).emit _⟩

theorem gives_registerReadClear_clears {a : BitVec 40} {m : Fin 11} {s : State} (hu : s.up) (hm : m ≠ 9) (hnow : a.toNat ≠ Reg.TIM_NOW_LO)
    (hrx : a.toNat ≠ Reg.FAB_RX_ARG1) (htx : regIdx (Reg.TIM_NP_TXTS_ID 0) 0x100 3 a.toNat = none) (hb : a.toNat / 0x10000 ≠ 0x1009) :
    Gives (.registerReadClear a m) s fun t => t.out = [.read a.toNat (s.readReg m a.toNat)]
      ∧ t.word a.toNat = s.word a.toNat &&& ~~~tyMask (· == .rc) a.toNat ∧ Keeps [] (only [a.toNat]) s t := by
  have hm' : m.val ≠ 9 := fun e => hm (Fin.ext e)
  have he := exec_registerReadClear a m s hu
  rw [State.readSide_clears _ hm' hnow hrx htx hb] at he
  exact ⟨_, he, rfl, by simp, ((Keeps.quiet _ _ s).emit _).setWord _ _ (by simp)⟩

/-- The Dealer's block lies below every register whose read acts. -/
theorem dealer_read_plain {a : Nat} (hb : a / 0x10000 = 0x1004) :
    a ≠ Reg.TIM_NOW_LO ∧ a ≠ Reg.FAB_RX_ARG1 ∧ regIdx (Reg.TIM_NP_TXTS_ID 0) 0x100 3 a = none := by
  refine ⟨?_, ?_, regIdx_eq_none_of_lt _ _ ?_⟩ <;> (simp only [Reg.TIM_NOW_LO, Reg.FAB_RX_ARG1, Reg.TIM_NP_TXTS_ID]; omega)

/-- In five blocks a register reads as its stored word with the pending SH bits, WO bits 0. -/
theorem State.readReg_stored (s : State) (m : Nat) {a : Nat} (hb : a / 0x10000 ∈ [0x1000, 0x1001, 0x1004, 0x1007, 0x2001]) :
    s.readReg m a = ((s.word a &&& ~~~shMask a) ||| (s.pendWord a &&& shMask a)) &&& ~~~tyMask (· == .wo) a := by
  simp only [List.mem_cons, List.not_mem_nil, or_false] at hb
  rcases hb with hb | hb | hb | hb | hb <;> simp only [State.readReg, hb]

/-! ### Interrupts of the Banker -/

theorem bankerInts_injOn : ∀ e ∈ bankerInts, ∀ f ∈ bankerInts, e.1 = f.1 → e = f := by decide

/-- A block interrupts exactly while a status bit is set whose enable bit is 1. -/
theorem State.mem_bankerIrqs (s : State) {e : Nat × Nat} (he : e ∈ bankerInts) :
    e.1 ∈ s.bankerIrqs ↔ s.word e.1 &&& s.word e.2 ≠ 0 := by
  simp only [State.bankerIrqs, List.mem_map, List.mem_filter, bne_iff_ne]
  constructor
  · rintro ⟨f, ⟨hf, hset⟩, hfe⟩
    rwa [bankerInts_injOn f hf e he hfe] at hset
  · exact fun hset => ⟨e, ⟨he, hset⟩, rfl⟩

/-! ### The statements -/

/-- Settles O3: every such row is an awake update, which RESET holds. -/
theorem resetHoldsTheLogic : Obligations.ResetHoldsTheLogic := by
  intro c s hc hr
  obtain ⟨f, hf⟩ := exec_awake c hc
  rw [hf, State.awake_reset s f hr]

/-- Settles O46: the rules of writes by field type, of refused writes, of reads and of the interrupt lines. -/
theorem registersTakeWritesByTheirTypes : Obligations.RegistersTakeWritesByTheirTypes := by
  refine ⟨?dealerWrite, ?scorerWrite, ?platformWrite, ?dealerDebugRead, ?dealerRead, ?interrupts, ?plain, ?shadowed, ?dropped,
    ?unwritable, ?read, ?debugRead, ?stored⟩
  case dealerWrite => exact fun a w m v t0 f s hu hb hne hi => gives_registerWrite_dealer hu hb hne hi w m v t0 f
  case scorerWrite => exact fun a w m v t0 f s hu hb => gives_registerWrite_refused hu (State.writeReg_scorer (s := s.quiet) hu hb ..)
  case platformWrite =>
    exact fun a w m v t0 f s hu hlo hhi hm =>
      gives_registerWrite_refused hu (State.writeReg_platform_refused (s := s.quiet) hu hlo hhi (State.platformWriter_refused hm) ..)
  case dealerDebugRead =>
    intro a s hu hb
    obtain ⟨hnow, hrx, htx⟩ := dealer_read_plain hb
    exact gives_registerReadClear_debug hu hnow hrx htx
  case dealerRead =>
    intro a m s hu hb hm
    obtain ⟨hnow, hrx, htx⟩ := dealer_read_plain hb
    exact gives_registerReadClear_clears hu hm hnow hrx htx (by omega)
  case interrupts => exact fun e s he => s.mem_bankerIrqs he
  case plain => exact fun a w m v t0 f s hu h hsh => gives_registerWrite_plain hu h hsh w m v t0 f
  case shadowed => exact fun a w m v t0 f s hu h hsh hp => gives_registerWrite_sh hu h hsh hp w m v t0 f
  case dropped => exact fun a w m v t0 f s hu h hsh hp ha => gives_registerWrite_sh_dropped hu h hsh hp ha w m v t0 f
  case unwritable =>
    exact fun a w v t0 f s hu hi h hsh hms hc hty => gives_registerWrite_unwritable hu hi h hsh hms hc hty w v t0 f
  case read => exact fun a m s hu hm hnow hrx htx hb => gives_registerReadClear_clears hu hm hnow hrx htx hb
  case debugRead => exact fun a s hu hnow hrx htx => gives_registerReadClear_debug hu hnow hrx htx
  case stored => exact fun a m s hb => s.readReg_stored m hb

/-- Settles O1: a step takes the front command off the queue and runs it on the rest. -/
theorem stepRunsTheFrontCommand : Obligations.StepRunsTheFrontCommand := by
  intro c rest s h
  simp only [step, h]

end Sys2Proof.Machine
end

section
/-!
SUPPORT. Fields after writes of fields, and the frames of the named updates.
-/

namespace Sys2Proof.Machine

open Sys2Proof

/-! ### Fields after writes -/

/-- The field lies inside its word. -/
def Fld.fits (f : Fld) : Bool := (f.lo + f.wid).ble 32

/-- A check that two fields share no bit: of one register by their bits, else by the addresses. It computes where the registers
are numerals, and where they are one register. -/
def Fld.apart (f g : Fld) : Bool := (f.lo + f.wid).ble g.lo || (g.lo + g.wid).ble f.lo || (!g.addr.beq f.addr)

theorem State.get_set_self (s : State) {f : Fld} (v : Nat) (h : f.fits = true) : (s.set f v).get f = v % 2 ^ f.wid :=
  State.get_set_same s f v (Nat.le_of_ble_eq_true h)

theorem State.get_set_other (s : State) {f g : Fld} (v : Nat) (h : f.apart g = true) : (s.set f v).get g = s.get g := by
  refine State.get_set_apart s f g v ?_
  simp only [Fld.apart, Bool.or_eq_true, Nat.ble_eq, Bool.not_eq_true'] at h
  exact h.elim .inr fun h => .inl (Nat.ne_of_beq_eq_false h)

theorem State.get_set_addr (s : State) {f g : Fld} (v : Nat) (h : g.addr ≠ f.addr) : (s.set f v).get g = s.get g :=
  State.get_set_apart s f g v (.inl h)

@[simp] theorem satAdd_mod (w n k : Nat) : satAdd w n k % 2 ^ w = satAdd w n k :=
  Nat.mod_eq_of_lt (by have := Nat.two_pow_pos w; unfold satAdd; omega)

@[simp] theorem b2n_mod_two (b : Bool) : b2n b % 2 = b2n b := by cases b <;> rfl
@[simp] theorem b2n_bne_zero (b : Bool) : (b2n b != 0) = b := by cases b <;> rfl

/-- A one-bit field just written holds the bit. -/
theorem State.on_setB (s : State) {f : Fld} (b : Bool) (h : f.fits = true) (hw : f.wid = 1) : (s.setB f b).on f = b := by
  rw [State.on, State.setB, State.get_set_self _ _ h, hw, pow_one, b2n_mod_two, b2n_bne_zero]

theorem State.get_of_regs {s t : State} (h : t.regs = s.regs) (f : Fld) : t.get f = s.get f :=
  congrArg f.of (State.word_of_regs h _)

/-! ### Frames -/

theorem Keeps.same {ps : List Part} {W : Nat → Prop} {s t : State} (h : Keeps ps W s t) {p : Part} (hp : p ∉ ps) : p.Same s t := h.2.1 p hp

theorem Keeps.on {ps : List Part} {W : Nat → Prop} {s t : State} (h : Keeps ps W s t) (f : Fld) (hw : ¬ W f.addr) : t.on f = s.on f :=
  congrArg (· != 0) (h.get f hw)

theorem Keeps.count {ps : List Part} {W : Nat → Prop} {s t : State} (h : Keeps ps W s t) (f : Fld) (ha : W f.addr) (k : Nat := 1) :
    Keeps ps W s (t.count f k) := h.set f _ ha

theorem Keeps.setB {ps : List Part} {W : Nat → Prop} {s t : State} (h : Keeps ps W s t) (f : Fld) (b : Bool) (ha : W f.addr) :
    Keeps ps W s (t.setB f b) := h.set f _ ha

theorem Keeps.updDealer {ps : List Part} {W : Nat → Prop} {s t : State} (h : Keeps ps W s t) (f : Dealer → Dealer) (hp : .dealer ∈ ps) :
    Keeps ps W s (t.updDealer f) :=
  h.part rfl rfl fun p hn => by
    cases p
    case dealer => exact absurd hp hn
    all_goals rfl

theorem Keeps.updDesc {ps : List Part} {W : Nat → Prop} {s t : State} (h : Keeps ps W s t) (d : Nat) (f : Desc → Desc)
    (hp : .descs ∈ ps) : Keeps ps W s (t.updDesc d f) :=
  h.part rfl rfl fun p hn => by
    cases p
    case descs => exact absurd hp hn
    all_goals rfl

/-- The state with a part of the Scorer's changed. -/
theorem Keeps.withSco {ps : List Part} {W : Nat → Prop} {s t : State} (h : Keeps ps W s t) (x : ScorerSt) (hp : .sco ∈ ps) :
    Keeps ps W s { t with sco := x } :=
  h.part rfl rfl fun p hn => by
    cases p
    case sco => exact absurd hp hn
    all_goals rfl

/-! ### The log queue with room (R428) -/

/-- The record that an event makes now. -/
def State.logRecord (s : State) (event : Nat) (args : List Nat) : LogRec :=
  { event := event, args := args.map (BitVec.ofNat 8), dev := s.get .BKR_DEV_STATE_STATE, tick := s.tick, time := s.extNow, ext := s.epochValid }

theorem State.log_of_room {s : State} (h : s.logRoom) (event : Nat) (args : List Nat) :
    s.log event args = { s with sco := { s.sco with queue := s.sco.queue ++ [s.logRecord event args] } } := if_pos h

theorem Keeps.log {ps : List Part} {W : Nat → Prop} {s t : State} (h : Keeps ps W s t) (hr : t.logRoom) (event : Nat) (args : List Nat)
    (hp : .sco ∈ ps) : Keeps ps W s (t.log event args) := by
  rw [State.log_of_room hr]
  exact h.withSco _ hp

theorem State.get_log_of_room {s : State} (h : s.logRoom) (event : Nat) (args : List Nat) (f : Fld) : (s.log event args).get f = s.get f :=
  State.get_of_regs (congrArg State.regs (State.log_of_room h event args)) f

theorem State.lastLog_log {s : State} (h : s.logRoom) (event : Nat) (args : List Nat) :
    (s.log event args).lastLog = some (event, args.map (· % 256)) := by
  rw [State.log_of_room h, State.lastLog, List.getLast?_concat]
  simp [State.logRecord]

/-! ### Stored memories -/

theorem memoryFrame_of_stored {s t : State} (h : t.stored = s.stored) : MemoryFrame s t := by
  simpa only [MemoryFrame, State.stored, Prod.mk.injEq] using h

end Sys2Proof.Machine
end

section
/-!
SUPPORT. The pool of Talon buffers (R108 to R116): a trick's claim, free requests, stuck leases. The statement O17.
-/

namespace Sys2Proof.Machine

open Sys2Proof

/-! ### Abandoned tricks (R31) -/

/-- A frame of updates applied one after another. -/
theorem Keeps.each {α : Type} {ps : List Part} {W : Nat → Prop} {f : State → α → State} (hf : ∀ t x, Keeps ps W t (f t x)) {s : State}
    (xs : List α) : ∀ {t}, Keeps ps W s t → Keeps ps W s (t.each xs f) := by
  induction xs with
  | nil => exact id
  | cons x xs ih => exact fun h => ih (h.trans (hf _ x))

theorem Keeps.updTile {ps : List Part} {W : Nat → Prop} {s t : State} (h : Keeps ps W s t) (l : Nat) (f : Tile → Tile)
    (hp : .tiles ∈ ps) : Keeps ps W s (t.updTile l f) :=
  h.part rfl rfl fun p hn => by
    cases p
    case tiles => exact absurd hp hn
    all_goals rfl

theorem Keeps.logFull {ps : List Part} {W : Nat → Prop} {s t : State} (h : Keeps ps W s t) (event : Nat) (args : List Nat)
    (hp : .sco ∈ ps) (hw : W Reg.LOG_DROP) : Keeps ps W s (t.log event args) := by
  unfold State.log State.logPut
  dsimp only
  split
  · exact h.withSco _ hp
  · exact (h.withSco _ hp).count .LOG_DROP_DROPPED hw

/-- An abandonment is counted, shown and logged, and marks the tiles that the trick feeds. -/
theorem Keeps.recordAbandon {ps : List Part} {W : Nat → Prop} {s t : State} (h : Keeps ps W s t) (tr : Trick)
    (hsco : .sco ∈ ps) (htile : .tiles ∈ ps) (hw : ∀ a ∈ [Reg.DLR_OVR_CNT tr.cls.code, Reg.DLR_INT_STATUS, Reg.DLR_OVR_LAST, Reg.LOG_DROP], W a) :
    Keeps ps W s (t.recordAbandon tr) := by
  simp only [List.forall_mem_cons] at hw
  obtain ⟨hcnt, hint, hlast, hdrop, -⟩ := hw
  refine Keeps.each (fun t _ => (Keeps.refl _ _ t).updTile _ _ htile) _ (Keeps.logFull ?_ _ _ hsco hdrop)
  exact ((((h.count _ hcnt).setB _ _ hint).set _ _ hlast).set _ _ hlast).set _ _ hlast

/-! ### The issue of a trick at its offset (R28) -/

/-- Trick `k` of the deal counts as issued in this tick. -/
def State.noteIssued (s : State) (k : Nat) : State := s.updDealer fun d => { d with issued := d.issued ++ [k] }

theorem State.issueAt_offset {s : State} {k ns : Nat} {tr : Trick} (hk : s.curDeal[k]? = some tr) (hi : tr.issue = .offset ns)
    (h0 : ns ≠ 0) (hc : s.dealer.issued.contains k = false) : s.issueAt k = (s.noteIssued k).issueTrick tr := by
  simp only [State.issueAt, hk, hi, h0, hc, false_or, Bool.false_eq_true, if_false, State.noteIssued]

theorem State.issueTrick_capture {s : State} {tr : Trick} {c : Nat} (hd : s.on .DLR_STATUS_DEALING = true) (hc : tr.cls = .capture)
    (ht : tr.talon = some c) : s.issueTrick tr = s.issueFilling tr c id := by
  simp only [State.issueTrick, hd, Bool.true_eq_false, if_false, hc, ht]

/-- A trick that fills a buffer takes the lowest free one and runs with it. -/
theorem State.issueFilling_free {s : State} {tr : Trick} {c d : Nat} (h : s.lowestFree c = some d) (empty : State → State) :
    s.issueFilling tr c empty = (s.fillBuf d (s.producedBy tr)).addRun (s.runOf tr (some d)) := by
  simp only [State.issueFilling, h]

theorem State.issueFilling_empty {s : State} {tr : Trick} {c : Nat} (h : s.lowestFree c = none) (empty : State → State) :
    s.issueFilling tr c empty = empty (s.poolEmpty tr) := by
  simp only [State.issueFilling, h]

theorem State.producedBy_capture (s : State) {tr : Trick} (h : tr.cls = .capture) : s.producedBy tr = s.localSrc tr.job := by
  simp only [State.producedBy, h]

/-- The free buffers follow from the registers and the descriptors. -/
theorem State.lowestFree_congr {s t : State} (hr : t.regs = s.regs) (hd : t.descs = s.descs) (c : Nat) : t.lowestFree c = s.lowestFree c := by
  have hget : t.get = s.get := funext (State.get_of_regs hr)
  have hdesc : t.desc = s.desc := funext fun d => congrArg (Tab.get Desc.init · d) hd
  have hstart : t.classStart c = s.classStart c := by rw [State.classStart, hget, State.classStart]
  rw [State.lowestFree, hget, hdesc, hstart, State.lowestFree]

theorem State.fillBuf_desc (s : State) (d : Nat) (src : BitVec 16) (x : Nat) : (s.fillBuf d src).desc x
    = if x = d then { Desc.init with state := .filling, src := src, holders := 1#28 <<< holdProducer } else s.desc x :=
  State.updDesc_desc ..

theorem State.freeBuf_desc (s : State) (d x : Nat) : (s.freeBuf d).desc x = if x = d then Desc.init else s.desc x :=
  State.updDesc_desc ..

/-- POOL_EMPTY is counted and reported, and nothing but the abandonment is recorded. -/
theorem State.poolEmpty_spec {s t : State} {tr : Trick} (h : s.poolEmpty tr = t) :
    t.dealer = s.dealer ∧ t.descs = s.descs ∧ t.get .CMP_TLN_EVT_POOL_EMPTY = satAdd 8 (s.get .CMP_TLN_EVT_POOL_EMPTY) 1
      ∧ t.on .CMP_INT_STATUS_POOL_EMPTY = true := by
  subst h
  have hk : Keeps [.sco, .tiles] (only [Reg.DLR_OVR_CNT tr.cls.code, Reg.DLR_INT_STATUS, Reg.DLR_OVR_LAST, Reg.LOG_DROP])
      ((s.count .CMP_TLN_EVT_POOL_EMPTY).setB .CMP_INT_STATUS_POOL_EMPTY true) (s.poolEmpty tr) :=
    (Keeps.refl _ _ _).recordAbandon tr (by simp) (by simp) fun _ ha => ha
  have hevt := hk.get .CMP_TLN_EVT_POOL_EMPTY (by cases tr.cls <;> decide)
  have hint := hk.get .CMP_INT_STATUS_POOL_EMPTY (by cases tr.cls <;> decide)
  refine ⟨hk.same (p := .dealer) (by decide), hk.same (p := .descs) (by decide), ?_, ?_⟩
  · rw [hevt, State.setB, State.get_set_other _ _ rfl, State.get_count _ _ _ (by decide)]
    rfl
  · rw [State.on, hint]
    exact State.on_setB _ _ rfl rfl

/-! ### Free requests and stuck leases (R116) -/

theorem State.freeRequest_free {s : State} {d : Nat} (hs : (s.desc d).state = .eligible ∨ (s.desc d).state = .retired)
    (hh : (s.desc d).holders = 0) : s.freeRequest d = s.freeBuf d := by
  rcases hs with hs | hs <;> simp only [State.freeRequest, hs, hh, if_true]

theorem State.freeRequest_held {s : State} {d : Nat} (hs : (s.desc d).state = .eligible ∨ (s.desc d).state = .retired)
    (hh : (s.desc d).holders ≠ 0) : s.freeRequest d
      = (((s.updDesc d fun x => { x with state := .pendingFree }).count .CMP_TLN_EVT_EARLY_FREE).setB
          .CMP_INT_STATUS_EARLY_FREE true).log 0x0406 (by2 d ++ [2, 0]) := by
  rcases hs with hs | hs <;> simp only [State.freeRequest, hs, hh, if_false]

theorem State.freeRequest_other {s : State} {d : Nat} (he : (s.desc d).state ≠ .eligible) (hr : (s.desc d).state ≠ .retired) :
    s.freeRequest d = s.count .CMP_TLN_EVT_FREE_ERR := by
  unfold State.freeRequest
  dsimp only
  split
  · contradiction
  · contradiction
  · rfl

theorem State.leaseStuck_due {s : State} {d o : Nat} {n : Tick} (hf : Tab.find (s.desc d).since o = some n)
    (hh : (s.desc d).holders.getLsbD o = true) (ht : s.k1 + 8 < (s.tick - n).toNat) : s.leaseStuck d o
      = ((s.count .CMP_TLN_EVT_LEASE_STUCK).setB .CMP_INT_STATUS_LEASE_STUCK true).log 0x0405 (by2 d ++ [o]) := by
  simp only [State.leaseStuck, hf, hh, Bool.true_eq_false, Nat.not_le.mpr ht, or_self, if_false]

/-- An event counted, reported in an interrupt bit and logged. -/
theorem State.countReportLog_spec {s : State} {cnt int : Fld} {event : Nat} {args : List Nat} (hr : s.logRoom) (hf : cnt.fits = true)
    (hi : int.fits = true) (hw : int.wid = 1) (hd : int.apart cnt = true) : let t := ((s.count cnt).setB int true).log event args
    t.get cnt = satAdd cnt.wid (s.get cnt) 1 ∧ t.on int = true ∧ t.lastLog = some (event, args.map (· % 256))
      ∧ Keeps [.sco] (only [cnt.addr, int.addr]) s t := by
  have hroom : ((s.count cnt).setB int true).logRoom := hr
  refine ⟨?_, ?_, State.lastLog_log hroom .., ?_⟩
  · calc _ = ((s.count cnt).setB int true).get cnt := State.get_log_of_room hroom ..
      _ = (s.count cnt).get cnt := State.get_set_other _ _ hd
      _ = _ := State.get_count _ _ _ (Nat.le_of_ble_eq_true hf)
  · exact (congrArg (· != 0) (State.get_log_of_room hroom ..)).trans (State.on_setB _ _ hi hw)
  · exact (((Keeps.refl _ _ s).count _ (by simp)).setB _ _ (by simp)).log hroom _ _ (by simp)

/-! ### The statement -/

/-- Settles O17: the claim of a free buffer and the empty pool by the issue of a capture trick, the free request by the state of
its buffer, the stuck lease. -/
theorem talonBuffersAreClaimedAndFreed : Obligations.TalonBuffersAreClaimedAndFreed := by
  refine ⟨?claim, ?empty, ?free, ?pending, ?wrong, ?stuck⟩
  case claim =>
    intro k c d ns tr s hu hd hk hi h0 hc hcls ht hfree
    have hfree' : (s.quiet.noteIssued k).lowestFree c = some d := (State.lowestFree_congr (s := s) rfl rfl c).trans hfree
    have he : s.quiet.issueAt k = ((s.quiet.noteIssued k).fillBuf d ((s.quiet.noteIssued k).producedBy tr)).addRun
        ((s.quiet.noteIssued k).runOf tr (some d)) :=
      (State.issueAt_offset (s := s.quiet) hk hi h0 hc).trans <|
        (State.issueTrick_capture (s := s.quiet.noteIssued k) hd hcls ht).trans <| State.issueFilling_free hfree' _
    refine gives_awake (fun s => s.issueAt k) hu rfl ?_
    rw [he, State.producedBy_capture _ hcls]
    have hfill := (s.quiet.noteIssued k).fillBuf_desc d (s.localSrc tr.job)
    refine ⟨rfl, ?_, ?_, fun x hx => (hfill x).trans (if_neg hx), ?_⟩
    · exact congrArg Desc.state ((hfill d).trans (if_pos rfl))
    · exact congrArg Desc.src ((hfill d).trans (if_pos rfl))
    · exact (((Keeps.quiet _ _ s).updDealer _ (by simp)).updDesc d _ (by simp)).updDealer _ (by simp)
  case empty =>
    intro k c ns tr s hu hd hk hi h0 hc hcls ht hfree
    have hfree' : (s.quiet.noteIssued k).lowestFree c = none := (State.lowestFree_congr (s := s) rfl rfl c).trans hfree
    have he : s.quiet.issueAt k = (s.quiet.noteIssued k).poolEmpty tr :=
      (State.issueAt_offset (s := s.quiet) hk hi h0 hc).trans <|
        (State.issueTrick_capture (s := s.quiet.noteIssued k) hd hcls ht).trans <| State.issueFilling_empty hfree' _
    refine gives_awake (fun s => s.issueAt k) hu rfl ?_
    obtain ⟨hdl, hds, hcnt, hint⟩ := State.poolEmpty_spec he.symm
    exact ⟨hdl, hds, hcnt, hint, memoryFrame_of_stored ((stored_issueAt _ _).trans (stored_quiet s))⟩
  case free =>
    intro d s hu hs hh
    refine gives_awake (fun s => s.freeRequest d) hu rfl ?_
    rw [State.freeRequest_free (s := s.quiet) hs hh]
    have hfree := s.quiet.freeBuf_desc d
    exact ⟨(hfree d).trans (if_pos rfl), fun x hx => (hfree x).trans (if_neg hx), (Keeps.quiet _ _ s).updDesc d _ (by simp)⟩
  case pending =>
    intro d s hu hs hh hr
    refine gives_awake (fun s => s.freeRequest d) hu rfl ?_
    rw [State.freeRequest_held (s := s.quiet) hs hh]
    have hk := (Keeps.quiet [.descs, .sco] (only [Reg.CMP_TLN_EVT, Reg.CMP_INT_STATUS]) s).updDesc d (fun x => { x with state := .pendingFree }) (by simp)
    obtain ⟨hcnt, hint, hlog, hsco⟩ := State.countReportLog_spec (s := s.quiet.updDesc d fun x => { x with state := .pendingFree })
      (cnt := .CMP_TLN_EVT_EARLY_FREE) (int := .CMP_INT_STATUS_EARLY_FREE) (event := 0x0406) (args := by2 d ++ [2, 0]) hr rfl rfl rfl rfl
    have hdesc := hsco.same (p := .descs) (by simp)
    have hpend : ∀ x, (s.updDesc d fun x => { x with state := .pendingFree }).desc x
        = if x = d.val then { s.desc d with state := .pendingFree } else s.desc x := fun x => State.updDesc_desc ..
    refine ⟨?_, fun x hx => ?_, hcnt, hint, ?_, hk.trans (hsco.mono (by simp) fun _ => id)⟩
    · exact (congrArg (Tab.get Desc.init · d.val) hdesc).trans ((hpend d).trans (if_pos rfl))
    · exact (congrArg (Tab.get Desc.init · x) hdesc).trans ((hpend x).trans (if_neg hx))
    · rw [hlog]
      simp only [by2, List.map_cons, List.map_nil, Nat.mod_mod, List.cons_append, List.nil_append]
      rw [Nat.mod_eq_of_lt (show d.val / 256 < 256 by omega)]
  case wrong =>
    intro d s hu he hr
    refine gives_awake (fun s => s.freeRequest d) hu rfl ?_
    rw [State.freeRequest_other (s := s.quiet) he hr]
    exact ⟨State.get_count _ _ _ (by decide), (Keeps.quiet _ _ s).count _ (by decide)⟩
  case stuck =>
    intro d o n s hu hf hh ht hr
    refine gives_awake (fun s => s.leaseStuck d o) hu rfl ?_
    rw [State.leaseStuck_due (s := s.quiet) hf hh ht]
    obtain ⟨hcnt, hint, hlog, hsco⟩ := State.countReportLog_spec (s := s.quiet) (cnt := .CMP_TLN_EVT_LEASE_STUCK)
      (int := .CMP_INT_STATUS_LEASE_STUCK) (event := 0x0405) (args := by2 d ++ [o.val]) hr rfl rfl rfl rfl
    refine ⟨hcnt, hint, ?_, (Keeps.quiet _ _ s).trans hsco⟩
    rw [hlog]
    simp only [by2, List.map_cons, List.map_nil, Nat.mod_mod, List.cons_append, List.nil_append]
    rw [Nat.mod_eq_of_lt (show d.val / 256 < 256 by omega), Nat.mod_eq_of_lt (show o.val < 256 by omega)]

end Sys2Proof.Machine
end

section
/-!
SUPPORT. The deal in force does not depend on the time unit's block.
-/
namespace Sys2Proof.Machine

open Sys2Proof

/-! ### What the deal in force depends on -/

/-- Register `a` lies in the time unit's block. -/
abbrev timReg (a : Nat) : Prop := a / 0x10000 = 0x1008

/-- A table's members that `f` lists do not change with a member that it does not list. -/
theorem Tab.filterMap_insert {α β : Type} {f : Nat × α → Option β} {a : Nat} (h : ∀ v, f (a, v) = none) (v : α) (t : Tab α) :
    (Tab.insert t a v).filterMap f = t.filterMap f := by
  induction t with
  | nil => simp [Tab.insert, h]
  | cons e rest ih =>
    obtain ⟨k, w⟩ := e
    rw [Tab.insert]
    split
    · simp [h]
    · split
      · next hk => subst hk; simp [h]
      · simp [ih, List.filterMap_cons]

theorem Tab.filterMap_erase {α β : Type} {f : Nat × α → Option β} {a : Nat} (h : ∀ v, f (a, v) = none) (t : Tab α) :
    (Tab.erase t a).filterMap f = t.filterMap f := by
  induction t with
  | nil => rfl
  | cons e rest ih =>
    obtain ⟨k, w⟩ := e
    rw [Tab.erase]
    split
    · next hk => subst hk; simp [h, ih]
    · simp [ih, List.filterMap_cons]

theorem listedLayers_setWord {a : Nat} (ha : timReg a) (s : State) (w : Word) : listedLayers (s.setWord a w).regs = listedLayers s.regs := by
  have hn : ∀ v : Word, (fun (e : Nat × Word) =>
      let l := (e.1 - Reg.CMP_VL_CTRL 0) / 0x20
      if Reg.CMP_VL_CTRL 0 ≤ e.1 ∧ l < 512 ∧ e.1 = Reg.CMP_VL_CTRL l then some l else none) (a, v) = none :=
    fun v => if_neg fun h => absurd h.1 (by unfold Reg.CMP_VL_CTRL; omega)
  unfold listedLayers State.setWord Tab.put
  dsimp only
  split
  · exact Tab.filterMap_erase hn _
  · exact Tab.filterMap_insert hn _ _

theorem geoOf_congr {rd rd' : Nat → Word} (h : ∀ a, ¬ timReg a → rd' a = rd a) (l : Nat) : geoOf rd' l = geoOf rd l := by
  have e : ∀ a, 0x20004000 ≤ a → rd' a = rd a := fun a ha => h a (by omega)
  simp only [geoOf, e, Reg.CMP_VL_CTRL, Reg.CMP_VL_SRC, Reg.CMP_VL_CROP_POS, Reg.CMP_VL_CROP_SIZE, Reg.CMP_VL_DST_POS, Reg.CMP_VL_DST_SIZE,
    Nat.le_add_right, Nat.le_add_right_of_le, Nat.reduceLeDiff]

/-- The states agree on what the deal depends on: the image, the Dealer and the registers outside the time unit's block. -/
structure SameDeal (s t : State) : Prop where
  image : t.image = s.image
  dealer : t.dealer = s.dealer
  layers : listedLayers t.regs = listedLayers s.regs
  word : ∀ a, ¬ timReg a → t.word a = s.word a

theorem SameDeal.refl (s : State) : SameDeal s s := ⟨rfl, rfl, rfl, fun _ _ => rfl⟩

theorem SameDeal.trans {s t u : State} (h : SameDeal s t) (k : SameDeal t u) : SameDeal s u :=
  ⟨k.image.trans h.image, k.dealer.trans h.dealer, k.layers.trans h.layers, fun a ha => (k.word a ha).trans (h.word a ha)⟩

theorem SameDeal.set {s t : State} (h : SameDeal s t) {f : Fld} (ha : timReg f.addr) (v : Nat) : SameDeal s (t.set f v) :=
  h.trans ⟨rfl, rfl, listedLayers_setWord ha _ _, fun _ hn => State.word_set _ _ _ _ fun e => hn (e ▸ ha)⟩

theorem SameDeal.updTime {s t : State} (h : SameDeal s t) (f : TimeSt → TimeSt) : SameDeal s (t.updTime f) :=
  h.trans ⟨rfl, rfl, rfl, fun _ _ => rfl⟩

theorem SameDeal.get {s t : State} (h : SameDeal s t) {f : Fld} (hf : ¬ timReg f.addr) : t.get f = s.get f := congrArg f.of (h.word _ hf)

theorem SameDeal.on {s t : State} (h : SameDeal s t) {f : Fld} (hf : ¬ timReg f.addr) : t.on f = s.on f := congrArg (· != 0) (h.get hf)

theorem SameDeal.pTick {s t : State} (h : SameDeal s t) : t.pTick = s.pTick := by
  rw [State.pTick, h.get (by decide), h.get (by decide), State.pTick]

theorem SameDeal.localSrc {s t : State} (h : SameDeal s t) (i : Nat) : t.localSrc i = s.localSrc i := by
  rw [State.localSrc, State.nodeId, h.get (by decide), State.localSrc, State.nodeId]

theorem SameDeal.srcDesc {s t : State} (h : SameDeal s t) (src : BitVec 16) : t.srcDesc src = s.srcDesc src := by
  rw [State.srcDesc, h.image, State.srcDesc]

theorem SameDeal.isLocal {s t : State} (h : SameDeal s t) (src : BitVec 16) : t.isLocal src = s.isLocal src := by
  rw [State.isLocal, State.nodeId, h.get (by decide), State.isLocal, State.nodeId]

theorem SameDeal.chargedFmt {s t : State} (h : SameDeal s t) (src : BitVec 16) : t.chargedFmt src = s.chargedFmt src := by
  unfold State.chargedFmt
  dsimp only
  rw [h.isLocal, h.srcDesc]
  refine if_ctx_congr Iff.rfl (fun hk => ?_) fun _ => rfl
  have hn : ¬ timReg (Fld.DEC_CX_CFG_DEPTH10 (srcLocal src - 16)).addr := by
    show ¬ (0x10052000 + 0x40 * (srcLocal src - 16)) / 0x10000 = 0x1008
    omega
  rw [h.on hn]

theorem SameDeal.fetchCharge {s t : State} (h : SameDeal s t) {rd rd' : Nat → Word} (hr : ∀ l, geoOf rd' l = geoOf rd l) (ls : List Nat) (o : Nat) :
    t.fetchCharge rd' ls o = s.fetchCharge rd ls o := by
  simp only [State.fetchCharge, hr, h.chargedFmt]

theorem SameDeal.charged {s t : State} (h : SameDeal s t) (ly : LayoutDesc) (ls : List Nat) : t.charged ly t.word ls = s.charged ly s.word ls := by
  funext x
  have hcap : t.get (.CAP_CFG_STORE_FMT x.job) = s.get (.CAP_CFG_STORE_FMT x.job) :=
    h.get (show ¬ (0x20020100 + 0x100 * x.job) / 0x10000 = 0x1008 by omega)
  have hown := h.fetchCharge (rd := LayoutDesc_word ly) (rd' := LayoutDesc_word ly) fun _ => rfl
  simp only [State.charged, hown, h.fetchCharge (geoOf_congr h.word), h.srcDesc, h.localSrc, hcap]

theorem SameDeal.decodeTricks {s t : State} (h : SameDeal s t) (ts : List Trick) : t.decodeTricks ts = s.decodeTricks ts := by
  simp only [State.decodeTricks, State.decodeSlots, h.srcDesc, h.localSrc, h.pTick]

theorem SameDeal.scanTricks {s t : State} (h : SameDeal s t) (ts : List Trick) : t.scanTricks ts = s.scanTricks ts := by
  have hspt : ∀ j, t.get (.TCH_P_CFG0_SPT j) = s.get (.TCH_P_CFG0_SPT j) := fun j =>
    h.get (show ¬ (0x10090100 + 0x100 * j) / 0x10000 = 0x1008 by omega)
  have hphase : ∀ j, t.get (.TCH_P_CFG1_SCAN_PHASE j) = s.get (.TCH_P_CFG1_SCAN_PHASE j) := fun j =>
    h.get (show ¬ (0x10090104 + 0x100 * j) / 0x10000 = 0x1008 by omega)
  simp only [State.scanTricks, hspt, hphase, h.pTick]

theorem SameDeal.curDeal {s t : State} (h : SameDeal s t) : t.curDeal = s.curDeal := by
  have hshown : shownSources t.word (listedLayers s.regs) = shownSources s.word (listedLayers s.regs) := by
    simp only [shownSources, geoOf_congr h.word]
  have hsrc : t.srcDesc = s.srcDesc := funext h.srcDesc
  simp only [State.curDeal, State.layout?, State.dealAt, h.image, h.dealer, h.layers, hshown, hsrc, h.decodeTricks, h.scanTricks, h.charged]

end Sys2Proof.Machine
end

section
/-!
SUPPORT. Trigger channels, pulse outputs, transmit stamps and the first tick (R21, R292 to R297). The statement O34.
-/

namespace Sys2Proof.Machine

open Sys2Proof

/-! ### Frames of the time unit and the network ports -/

theorem Keeps.updTime {ps : List Part} {W : Nat → Prop} {s t : State} (h : Keeps ps W s t) (f : TimeSt → TimeSt) (hp : .time ∈ ps) :
    Keeps ps W s (t.updTime f) :=
  h.part rfl rfl fun p hn => by
    cases p
    case time => exact absurd hp hn
    all_goals rfl

theorem Keeps.updNet {ps : List Part} {W : Nat → Prop} {s t : State} (h : Keeps ps W s t) (n : Nat) (f : NetSt → NetSt) (hp : .nets ∈ ps) :
    Keeps ps W s (t.updNet n f) :=
  h.part rfl rfl fun p hn => by
    cases p
    case nets => exact absurd hp hn
    all_goals rfl

/-! ### Channels (R292) -/

theorem State.updTrg_trg (s : State) (c d : Nat) (f : TrgSt → TrgSt) :
    (s.updTime fun x => { x with trgs := Tab.upd .init x.trgs c f }).trg d = if d = c then f (s.trg c) else s.trg d :=
  Tab.get_upd _ _ _ _ _

/-- What a firing of channel `c` does, but for its interrupt. -/
structure Fired (c : Nat) (s t : State) : Prop where
  trg : ∀ d, t.trg d = if d = c then { s.trg c with k := (s.trg c).k + 1, marks := (s.trg c).marks.drop 1 } else s.trg d
  now : t.time.now = s.time.now
  fired : t.get (.TIM_TRG_STAT_FIRED c) = satAdd (Fld.TIM_TRG_STAT_FIRED c).wid (s.get (.TIM_TRG_STAT_FIRED c)) 1
  armed : t.on (.TIM_TRG_STAT_ARMED c) = false
  keeps : Keeps [.time] (only [Reg.TIM_TRG_STAT c, Reg.TIM_INT_STATUS]) s t
  deal : SameDeal s t

/-- Channel `c` is counted and its next firing placed, before the interrupt. -/
def State.chanCount (s : State) (c : Nat) : State :=
  ((s.updTime fun x => { x with trgs := Tab.upd .init x.trgs c fun y => { y with k := y.k + 1, marks := y.marks.drop 1 } }).count
    (.TIM_TRG_STAT_FIRED c)).setB (.TIM_TRG_STAT_ARMED c) false

theorem timReg_trgStat {c : Nat} (hc : c < 64) : timReg (Reg.TIM_TRG_STAT c) := by
  unfold Reg.TIM_TRG_STAT
  omega

theorem trgStat_ne_intStatus (c : Nat) : Reg.TIM_TRG_STAT c ≠ Reg.TIM_INT_STATUS := by
  unfold Reg.TIM_TRG_STAT Reg.TIM_INT_STATUS
  omega

theorem trgCfg_ne_trgStat (c : Nat) : Reg.TIM_TRG_CFG c ≠ Reg.TIM_TRG_STAT c := by
  unfold Reg.TIM_TRG_CFG Reg.TIM_TRG_STAT
  omega

theorem State.fired_chanCount (s : State) {c : Nat} (hc : c < 64) : Fired c s (s.chanCount c) where
  trg := s.updTrg_trg c (f := _)
  now := rfl
  fired := (State.get_set_other _ _ rfl).trans (State.get_count _ _ _ (by decide : 0 + 16 ≤ 32))
  armed := State.on_setB _ _ rfl rfl
  keeps := (((Keeps.refl _ _ s).updTime _ (by simp)).count (.TIM_TRG_STAT_FIRED c) List.mem_cons_self).setB (.TIM_TRG_STAT_ARMED c) _
    List.mem_cons_self
  deal := (((SameDeal.refl s).updTime _).set (f := .TIM_TRG_STAT_FIRED c) (timReg_trgStat hc) _).set (f := .TIM_TRG_STAT_ARMED c)
    (timReg_trgStat hc) _

theorem Fired.report {c : Nat} {s t : State} (h : Fired c s t) : Fired c s (t.setB .TIM_INT_STATUS_TRIGGER true) where
  trg := h.trg
  now := h.now
  fired := (State.get_set_addr _ _ (trgStat_ne_intStatus c)).trans h.fired
  armed := (congrArg (· != 0) (State.get_set_addr _ _ (trgStat_ne_intStatus c))).trans h.armed
  keeps := h.keeps.setB _ _ (List.mem_cons_of_mem _ List.mem_cons_self)
  deal := h.deal.set (f := .TIM_INT_STATUS_TRIGGER) (by decide) _

theorem State.chanFire_eq (s : State) (c : Nat) : s.chanFire c
    = if s.on (.TIM_TRG_CFG_IRQ c) then (s.chanCount c).setB .TIM_INT_STATUS_TRIGGER true else s.chanCount c := by
  have hirq : (s.chanCount c).on (.TIM_TRG_CFG_IRQ c) = s.on (.TIM_TRG_CFG_IRQ c) := congrArg (· != 0)
    ((State.get_set_addr _ _ (trgCfg_ne_trgStat c)).trans (State.get_set_addr _ _ (trgCfg_ne_trgStat c)))
  rw [← hirq]
  rfl

theorem State.fired_chanFire (s : State) {c : Nat} (hc : c < 64) : Fired c s (s.chanFire c) := by
  rw [State.chanFire_eq]
  split
  · exact (s.fired_chanCount hc).report
  · exact s.fired_chanCount hc

theorem State.chanFire_reports {s : State} {c : Nat} (h : s.on (.TIM_TRG_CFG_IRQ c) = true) : (s.chanFire c).on .TIM_INT_STATUS_TRIGGER = true := by
  rw [State.chanFire_eq, if_pos h]
  exact State.on_setB _ _ rfl rfl

/-! ### A write of a start time (R292 to R294) -/

theorem trgStart_ne_trgStat (c d : Nat) : Reg.TIM_TRG_START c ≠ Reg.TIM_TRG_STAT d := by
  unfold Reg.TIM_TRG_START Reg.TIM_TRG_STAT
  omega

/-- Channel `c` begins at the start time `w`, before it is known whether that lies in the past. -/
def State.trgBegun (s : State) (c : Nat) (w : Word) : State := (s.setWord (Reg.TIM_TRG_START c) w).chanStart c

/-- What a write of a start time does before a late target fires. -/
structure Begun (c : Nat) (w : Word) (s t : State) : Prop where
  start : t.word (Reg.TIM_TRG_START c) = w
  trg : ∀ d, t.trg d = if d = c then { s.trg c with k := 0 } else s.trg d
  now : t.time.now = s.time.now
  fired : t.get (.TIM_TRG_STAT_FIRED c) = s.get (.TIM_TRG_STAT_FIRED c)
  armed : t.on (.TIM_TRG_STAT_ARMED c) = (s.get (.TIM_TRG_CFG_MODE c) == 1)
  keeps : Keeps [.time] (only [Reg.TIM_TRG_START c, Reg.TIM_TRG_STAT c]) s t

theorem State.begun_trgBegun (s : State) (c : Nat) (w : Word) : Begun c w s (s.trgBegun c w) where
  start := by
    refine (State.word_set _ _ _ _ (trgStart_ne_trgStat c c)).trans ?_
    exact (State.word_setWord ..).trans (if_pos rfl)
  trg := (s.setWord (Reg.TIM_TRG_START c) w).updTrg_trg c (f := _)
  now := rfl
  fired := (State.get_set_other _ _ rfl).trans (State.get_setWord_ne _ _ _ _ (trgStart_ne_trgStat c c).symm)
  armed := by
    refine (State.on_setB _ _ rfl rfl).trans (congrArg (· == 1) ?_)
    exact State.get_setWord_ne _ _ _ _ (by show 0x10080100 + 0x10 * c ≠ 0x10080104 + 0x10 * c; omega)
  keeps := (((Keeps.refl _ _ s).setWord _ _ List.mem_cons_self).updTime _ (by simp)).setB (.TIM_TRG_STAT_ARMED c) _
    (List.mem_cons_of_mem _ List.mem_cons_self)

/-- Is a channel due at `x` right after a write of its start time `w`, the channels running? -/
def State.dueFrom (s : State) (c : Nat) (w x : Word) : Bool :=
  chanDue (s.get (.TIM_TRG_CFG_MODE c)) w (s.word (Reg.TIM_TRG_PER c)).toNat (s.get (.TIM_TRG_CFG_DEN c)) { s.trg c with k := 0 }
    (s.get (.TIM_TRG_CFG_MODE c) == 1) x

theorem Begun.trgDue {c : Nat} {w : Word} {s t : State} (h : Begun c w s t) (x : Word) : t.trgDue c x = (s.chansRun && s.dueFrom c w x) := by
  have hne : ∀ k, k = 0 ∨ k = 8 → ¬ only [Reg.TIM_TRG_START c, Reg.TIM_TRG_STAT c] (0x10080100 + k + 0x10 * c) := by
    intro k hk
    simp only [only, List.mem_cons, List.not_mem_nil, or_false, Reg.TIM_TRG_START, Reg.TIM_TRG_STAT]
    omega
  have hcfg := h.keeps.2.2 _ (hne 0 (.inl rfl))
  have hper := h.keeps.2.2 _ (hne 8 (.inr rfl))
  have hmode : t.get (.TIM_TRG_CFG_MODE c) = s.get (.TIM_TRG_CFG_MODE c) := congrArg (Fld.TIM_TRG_CFG_MODE c).of hcfg
  have hden : t.get (.TIM_TRG_CFG_DEN c) = s.get (.TIM_TRG_CFG_DEN c) := congrArg (Fld.TIM_TRG_CFG_DEN c).of hcfg
  have hdev : t.devState = s.devState := h.keeps.devState (by
    simp only [only, List.mem_cons, List.not_mem_nil, or_false, Reg.TIM_TRG_START, Reg.TIM_TRG_STAT, Reg.BKR_DEV_STATE]
    omega)
  have hword : t.word (Reg.TIM_TRG_PER c) = s.word (Reg.TIM_TRG_PER c) := hper
  rw [State.trgDue, State.chansRun, hdev, hmode, hden, hword, h.start, h.armed, h.trg, if_pos rfl, State.dueFrom, State.chansRun]

theorem State.trgStartWrite_banker {s : State} {c : Nat} (h : s.on (.TIM_TRG_CFG_OWNER c) = false) (w : Word) :
    s.trgStartWrite c w = (s.trgBegun c w).chanLate c := if_neg (by rw [h]; exact Bool.false_ne_true)

/-- A write of a start time that fires nothing. -/
theorem State.trgStartWrite_early {s : State} {c : Nat} {w : Word} (ho : s.on (.TIM_TRG_CFG_OWNER c) = false)
    (h : (s.chansRun && s.dueFrom c w s.time.now && s.dueFrom c w (s.time.now - 1)) = false) :
    s.trgStartWrite c w = s.trgBegun c w := by
  have hb := s.begun_trgBegun c w
  rw [State.trgStartWrite_banker ho, State.chanLate, hb.trgDue, hb.trgDue, hb.now]
  refine if_neg fun hl => ?_
  simp only [Bool.and_eq_true] at hl
  obtain ⟨⟨hr, hd⟩, -, hp⟩ := hl
  rw [hr, hd, hp] at h
  cases h

theorem State.trgStartWrite_late {s : State} {c : Nat} {w : Word} (ho : s.on (.TIM_TRG_CFG_OWNER c) = false) (hr : s.chansRun = true)
    (h : (s.dueFrom c w s.time.now && s.dueFrom c w (s.time.now - 1)) = true) :
    s.trgStartWrite c w = ((s.trgBegun c w).count .TIM_CNT_TRG_LATE).chanFire c := by
  have hb := s.begun_trgBegun c w
  rw [State.trgStartWrite_banker ho, State.chanLate, hb.trgDue, hb.trgDue, hb.now]
  rw [Bool.and_eq_true] at h
  exact if_pos ⟨by rw [hr, h.1]; rfl, by rw [hr, h.2]; rfl⟩

/-- What a write of a start time answers while the channels run: a late target fires at once and is counted late. -/
structure StartWritten (c : Nat) (w : Word) (late : Bool) (s t : State) : Prop where
  start : t.word (Reg.TIM_TRG_START c) = w
  firing : (t.trg c).k = if late then 1 else 0
  lates : t.get .TIM_CNT_TRG_LATE = if late then satAdd (Fld.TIM_CNT_TRG_LATE).wid (s.get .TIM_CNT_TRG_LATE) 1 else s.get .TIM_CNT_TRG_LATE
  fired : t.get (.TIM_TRG_STAT_FIRED c) = if late then satAdd (Fld.TIM_TRG_STAT_FIRED c).wid (s.get (.TIM_TRG_STAT_FIRED c)) 1
    else s.get (.TIM_TRG_STAT_FIRED c)
  armed : t.on (.TIM_TRG_STAT_ARMED c) = (!late && s.get (.TIM_TRG_CFG_MODE c) == 1)
  others : ∀ d, d ≠ c → t.trg d = s.trg d
  keeps : Keeps [.time] (only [Reg.TIM_TRG_START c, Reg.TIM_TRG_STAT c, Reg.TIM_CNT, Reg.TIM_INT_STATUS]) s t

theorem timCnt_ne_trg (c : Nat) : Reg.TIM_CNT ≠ Reg.TIM_TRG_START c ∧ Reg.TIM_CNT ≠ Reg.TIM_TRG_STAT c := by
  unfold Reg.TIM_CNT Reg.TIM_TRG_START Reg.TIM_TRG_STAT
  omega

theorem Begun.written {c : Nat} {w : Word} {s t : State} (h : Begun c w s t) : StartWritten c w false s t where
  start := h.start
  firing := by rw [h.trg, if_pos rfl]; rfl
  lates := h.keeps.get .TIM_CNT_TRG_LATE (by simpa [Fld.TIM_CNT_TRG_LATE] using timCnt_ne_trg c)
  fired := h.fired
  armed := h.armed
  others := fun d hd => (h.trg d).trans (if_neg hd)
  keeps := h.keeps.mono (by simp) (by simp +contextual)

theorem Begun.writtenLate {c : Nat} {w : Word} {s t : State} (h : Begun c w s t) (hc : c < 64) :
    StartWritten c w true s ((t.count .TIM_CNT_TRG_LATE).chanFire c) := by
  have hf := (t.count .TIM_CNT_TRG_LATE).fired_chanFire hc
  have hcnt := timCnt_ne_trg c
  have hlate : t.get .TIM_CNT_TRG_LATE = s.get .TIM_CNT_TRG_LATE := h.written.lates
  exact {
    start := by
      refine (hf.keeps.2.2 _ ?_).trans ((State.word_set _ _ _ _ hcnt.1.symm).trans h.start)
      simp only [only, List.mem_cons, List.not_mem_nil, or_false, not_or, Reg.TIM_TRG_START, Reg.TIM_TRG_STAT, Reg.TIM_INT_STATUS]
      omega
    firing := by
      rw [hf.trg, if_pos rfl]
      show (t.trg c).k + 1 = 1
      rw [h.trg, if_pos rfl]
    lates := by
      rw [hf.keeps.get .TIM_CNT_TRG_LATE (by simpa [Fld.TIM_CNT_TRG_LATE] using ⟨hcnt.2, by decide⟩), State.get_count _ _ _ (by decide), hlate]
      rfl
    fired := by
      rw [hf.fired, State.count, State.get_set_addr _ _ hcnt.2.symm, h.fired]
      rfl
    armed := hf.armed
    others := fun d hd => (hf.trg d).trans ((if_neg hd).trans ((h.trg d).trans (if_neg hd)))
    keeps := ((h.keeps.mono (by simp) (by simp +contextual)).count .TIM_CNT_TRG_LATE (by simp [Fld.TIM_CNT_TRG_LATE])).trans
      (hf.keeps.mono (by simp) (by simp +contextual)) }

/-! ### A firing and the tricks that it issues (R28, R292) -/

theorem State.triggerFire_due {s : State} {c : Nat} {w : Word} (h : s.trgDue c w = true) : s.triggerFire c w
    = (((s.at_ w).chanFire c).issueWhere fun x => x.issue == .trigger c && x.cls != .audio).audioFire c w :=
  if_neg (by rw [h]; decide)

/-- A channel that no audio group names starts none. -/
theorem State.audioFire_none {s : State} {c : Nat} (h : ∀ g < 8, s.get (.AUD_G_CFG_TRG g) ≠ c) (w : Word) : s.audioFire c w = s := by
  have hf : (List.range 8).filter (fun g => s.on (.AUD_G_CFG_USED g) && s.get (.AUD_G_CFG_TRG g) == c
      && (s.dealing && !s.sco.hard || (s.audGrid g).isSome)) = [] := by
    rw [List.filter_eq_nil_iff]
    intro g hg
    simp [h g (List.mem_range.mp hg)]
  rw [State.audioFire, hf]
  rfl

theorem State.issueWhere_eq (s : State) {p : Trick → Bool} {xs : List Trick} (h : s.curDeal.filter p = xs) :
    s.issueWhere p = s.each xs State.issueTrick := by rw [State.issueWhere, h]

theorem audGroup_not_tim (g : Nat) : ¬ timReg (Fld.AUD_G_CFG_TRG g).addr := by
  show ¬ Reg.AUD_G_CFG g / 0x10000 = 0x1008
  unfold Reg.AUD_G_CFG
  omega

theorem sameDeal_at (s : State) (w : Word) : SameDeal s (s.quiet.at_ w) := ⟨rfl, rfl, rfl, fun _ _ => rfl⟩

/-- A due channel that no audio group names fires and issues the tricks `xs` of the deal that name it. -/
theorem State.triggerFire_issues {s : State} {c : Nat} {w : Word} {xs : List Trick} (hc : c < 64) (hd : s.trgDue c w = true)
    (hdeal : s.curDeal.filter (fun x => x.issue == .trigger c && x.cls != .audio) = xs)
    (haud : ∀ g < 8, (((s.quiet.at_ w).chanFire c).each xs State.issueTrick).get (.AUD_G_CFG_TRG g) ≠ c) :
    s.quiet.triggerFire c w = ((s.quiet.at_ w).chanFire c).each xs State.issueTrick := by
  have hsame := (sameDeal_at s w).trans ((s.quiet.at_ w).fired_chanFire hc).deal
  rw [State.triggerFire_due (s := s.quiet) hd, State.issueWhere_eq _ ((congrArg _ hsame.curDeal).trans hdeal)]
  exact State.audioFire_none haud w

theorem tchState_not_tim (p : Nat) : ¬ timReg (Fld.TCH_P_STATE_STATE p).addr := by
  show ¬ Reg.TCH_P_STATE p / 0x10000 = 0x1008
  unfold Reg.TCH_P_STATE
  omega

/-- A self-test in START enters the deal's running tricks (R304). -/
theorem State.issueTrick_selfTest {s : State} {x : Trick} (hd : s.on .DLR_STATUS_DEALING = true) (hc : x.cls = .selfTest)
    (hs : s.tchState x.job = tpStart) :
    s.issueTrick x = (s.addRun (s.runOf x none)).updTch x.job fun y => { y with testAt := some s.extNow, owed := false } := by
  have hdue : s.testDue x.job = true := by simp only [State.testDue, hs, BEq.rfl, Bool.true_or]
  have hno : ¬ (tpStart = tpOff ∨ tpStart = tpFault) := by decide
  simp only [State.issueTrick, hd, Bool.true_eq_false, if_false, hc, hs, hdue, or_false, hno]

/-! ### Pulse outputs (R295, R296) -/

theorem State.updPps_ppsSt (s : State) (k j : Nat) (f : TrgSt → TrgSt) :
    (s.updTime fun x => { x with pps := Tab.upd .init x.pps k f }).ppsSt j = if j = k then f (s.ppsSt k) else s.ppsSt j :=
  Tab.get_upd _ _ _ _ _

theorem State.ppsPulse_idle {s : State} (h : s.chansRun = false) (k : Nat) (w : Word) : s.ppsPulse k w = s.at_ w := if_pos h

theorem State.ppsPulse_due {s : State} {k : Nat} {w : Word} (hr : s.chansRun = true) (hm : s.get (.TIM_PPS_CFG_MODE k) ≠ 4)
    (hd : chanDue (s.get (.TIM_PPS_CFG_MODE k)) (s.word (Reg.TIM_PPS_START k)) (s.word (Reg.TIM_PPS_PER k)).toNat
      (s.get (.TIM_PPS_CFG_DEN k)) (s.ppsSt k) ((s.ppsSt k).k == 0) w = true) : s.ppsPulse k w = (s.at_ w).ppsStart k := by
  unfold State.ppsPulse
  exact (if_neg (by show ¬ s.chansRun = false; rw [hr]; decide)).trans ((if_neg hm).trans (if_pos hd))

theorem ppsStat_ne_ppsCfg (k : Nat) : Reg.TIM_PPS_CFG k ≠ Reg.TIM_PPS_STAT k := by
  unfold Reg.TIM_PPS_CFG Reg.TIM_PPS_STAT
  omega

/-! ### Transmit stamps (R290, R297) -/

theorem regIdx_txtsId (n : Fin 3) : regIdx (Reg.TIM_NP_TXTS_ID 0) 0x100 3 (Reg.TIM_NP_TXTS_ID n) = some n.val := by
  revert n
  decide

theorem txtsId_acts_alone (n : Fin 3) : Reg.TIM_NP_TXTS_ID n ≠ Reg.TIM_NOW_LO ∧ Reg.TIM_NP_TXTS_ID n ≠ Reg.FAB_RX_ARG1
    ∧ Reg.TIM_NP_TXTS_ID n / 0x10000 ≠ 0x1009 := by
  revert n
  decide

theorem State.busRead_txtsId {s : State} (hu : s.up) (n : Fin 3) (m : Nat) : s.busRead m (Reg.TIM_NP_TXTS_ID n)
    = (if m = 9 then s.showRead (Reg.TIM_NP_TXTS_ID n) (s.readReg m (Reg.TIM_NP_TXTS_ID n))
        else (s.showRead (Reg.TIM_NP_TXTS_ID n) (s.readReg m (Reg.TIM_NP_TXTS_ID n))).setWord (Reg.TIM_NP_TXTS_ID n)
          (s.word (Reg.TIM_NP_TXTS_ID n) &&& ~~~tyMask (· == .rc) (Reg.TIM_NP_TXTS_ID n))).txtsIdRead n m := by
  obtain ⟨hnow, hrx, hblock⟩ := txtsId_acts_alone n
  simp only [State.busRead, hu, if_false, State.readSide, hnow, hrx, regIdx_txtsId, State.reportSeen_of_block _ hblock]
  rfl

/-! ### The first tick (R21, R25) -/

theorem State.tickFirst_dealing {s : State} (h : s.on .DLR_STATUS_DEALING = true) (w : Word) : s.tickFirst w = s := if_pos h

theorem State.tickFirst_servo {s : State} (hd : s.on .DLR_STATUS_DEALING = false) (hs : s.get .DLR_TICK_CFG_TICK_SRC = 2)
    (hf : s.dealer.freeRun = false) (w : Word) : s.tickFirst w
      = (s.setWord Reg.DLR_TICK_FIRST (BitVec.ofInt 32 (s.firstBoundary w))).setB .DLR_STATUS_TICK_LOCKED true := by
  have hsrc : (s.setWord Reg.DLR_TICK_FIRST (BitVec.ofInt 32 (s.firstBoundary w))).get .DLR_TICK_CFG_TICK_SRC = 2 :=
    (State.get_setWord_ne _ _ _ _ (by decide)).trans hs
  have hfree : (s.setWord Reg.DLR_TICK_FIRST (BitVec.ofInt 32 (s.firstBoundary w))).dealer.freeRun = false := hf
  simp only [State.tickFirst, hs, if_true, State.tickFirstWrite, hd, Bool.false_eq_true, if_false, hsrc, hfree, ne_eq, not_true_eq_false,
    or_self]

/-- The ceiling of a quotient, as the model writes it, in whole numbers. -/
theorem ceil_bounds (a : Int) {b : Int} (hb : 0 < b) : a ≤ -(-a / b) * b ∧ (-(-a / b) - 1) * b < a := by
  have hdiv := Int.emod_add_mul_ediv (-a) b
  have hlo := Int.emod_nonneg (-a) hb.ne'
  have hhi := Int.emod_lt_of_pos (-a) hb
  constructor <;> nlinarith

/-- The first boundary is the first whole nanosecond at or after a multiple of the period that is not before the time given. -/
theorem State.firstBoundary_spec (s : State) (w : Word) (hn : 0 < s.get .DLR_TICK_NUM_NUM) (hd : 0 < s.get .DLR_TICK_DEN_DEN) :
    s.extAt w ≤ s.firstBoundary w ∧ ∃ k : Int, k * s.get .DLR_TICK_NUM_NUM ≤ (s.firstBoundary w + s.time.off.toInt) * s.get .DLR_TICK_DEN_DEN
      ∧ (s.firstBoundary w + s.time.off.toInt - 1) * s.get .DLR_TICK_DEN_DEN < k * s.get .DLR_TICK_NUM_NUM := by
  have hnum : (0 : Int) < s.get .DLR_TICK_NUM_NUM := by exact_mod_cast hn
  have hden : (0 : Int) < s.get .DLR_TICK_DEN_DEN := by exact_mod_cast hd
  obtain ⟨hk, -⟩ := ceil_bounds ((s.extAt w + s.time.off.toInt) * s.get .DLR_TICK_DEN_DEN) hnum
  obtain ⟨hlo, hhi⟩ := ceil_bounds
    (-(-((s.extAt w + s.time.off.toInt) * s.get .DLR_TICK_DEN_DEN) / s.get .DLR_TICK_NUM_NUM) * s.get .DLR_TICK_NUM_NUM) hden
  have hoff : s.firstBoundary w + s.time.off.toInt = -(-(-(-((s.extAt w + s.time.off.toInt) * s.get .DLR_TICK_DEN_DEN)
      / s.get .DLR_TICK_NUM_NUM) * s.get .DLR_TICK_NUM_NUM) / s.get .DLR_TICK_DEN_DEN) := Int.sub_add_cancel _ _
  rw [← hoff] at hlo hhi
  have hle : s.extAt w + s.time.off.toInt ≤ s.firstBoundary w + s.time.off.toInt := le_of_mul_le_mul_right (hk.trans hlo) hden
  exact ⟨by omega, _, hlo, hhi⟩

/-! ### The statement -/

/-- Settles O34: one case per row and per state that it distinguishes. -/
theorem triggersPulsesAndStamps : Obligations.TriggersPulsesAndStamps := by
  refine ⟨?imageOwned, ?written, ?notDue, ?fires, ?ppsIdle, ?ppsDue, ?stampRead, ?stampSeen, ?firstDealing, ?firstServo, ?link,
    ?firstBoundary, ?writtenRunning, ?selfTest⟩
  case imageOwned =>
    intro c w s hu ho
    exact congrArg Host.Outcome.next ((State.awake_up s _ hu).trans (if_pos ho))
  case written =>
    intro c w s hu ho hr
    refine gives_awake (fun s => s.trgStartWrite c w) hu rfl ?_
    rw [State.trgStartWrite_early (s := s.quiet) ho (by rw [show s.quiet.chansRun = false from hr, Bool.false_and, Bool.false_and])]
    have h := s.quiet.begun_trgBegun c w
    exact ⟨h.start, (h.trg c).trans (if_pos rfl), h.armed, fun d hd => (h.trg d).trans (if_neg hd), (Keeps.quiet _ _ s).trans h.keeps⟩
  case notDue =>
    intro c w s hu hd
    exact congrArg Host.Outcome.next ((State.awake_up s _ hu).trans (if_pos hd))
  case fires =>
    intro c w s hu hd haud hdeal
    refine gives_awake (fun s => s.triggerFire c w) hu rfl ?_
    have h := (s.quiet.at_ w).fired_chanFire c.isLt
    have hsame := (sameDeal_at s w).trans h.deal
    have hnone : s.curDeal.filter (fun x => x.issue == .trigger c && x.cls != .audio) = [] := by
      rw [List.filter_eq_nil_iff]
      intro x hx
      simpa using hdeal x hx
    have he := State.triggerFire_issues c.isLt hd hnone fun g hg => by
      rw [State.each, List.foldl_nil, hsame.get (audGroup_not_tim g)]
      exact haud g hg
    rw [he]
    have htrg := (h.trg c).trans (if_pos rfl)
    exact ⟨congrArg TrgSt.k htrg, congrArg TrgSt.marks htrg, h.fired, h.armed, fun hi => State.chanFire_reports (s := s.quiet.at_ w) hi,
      h.now, ((Keeps.quiet _ _ s).at_ w (by simp)).trans h.keeps⟩
  case ppsIdle =>
    intro k w s hu hr
    refine gives_awake (fun s => s.ppsPulse k w) hu rfl ?_
    rw [State.ppsPulse_idle (s := s.quiet) hr]
    exact ⟨rfl, rfl, (Keeps.quiet _ _ s).at_ w (by simp)⟩
  case ppsDue =>
    intro k w s hu hr hm hd
    refine gives_awake (fun s => s.ppsPulse k w) hu rfl ?_
    rw [State.ppsPulse_due (s := s.quiet) hr hm hd]
    refine ⟨rfl, ?_, State.get_count _ (.TIM_PPS_STAT_PULSES k) _ (by decide : 0 + 16 ≤ 32), ?_⟩
    · exact congrArg TrgSt.k ((State.updPps_ppsSt (s.quiet.at_ w) k k _).trans (if_pos rfl))
    · exact ((((Keeps.quiet _ _ s).at_ w (by simp)).updTime _ (by simp)).count (.TIM_PPS_STAT_PULSES k) List.mem_cons_self).emit _
  case stampRead =>
    intro n m s hu hm
    have hm' : m.val ≠ 9 := fun e => hm (Fin.ext e)
    refine gives_awake (fun s => s.busRead m (Reg.TIM_NP_TXTS_ID n)) hu rfl ?_
    have hmem : MemoryFrame s (s.quiet.busRead m (Reg.TIM_NP_TXTS_ID n)) :=
      memoryFrame_of_stored ((stored_busRead _ _ _).trans (stored_quiet s))
    have he := State.busRead_txtsId (s := s.quiet) hu n m
    rw [if_neg hm', State.txtsIdRead, if_neg hm'] at he
    rw [he] at hmem ⊢
    have hnet : ∀ k, (s.updNet n fun x => { x with stamps := x.stamps.drop 1 }).net k
        = if k = n.val then { s.net n with stamps := (s.net n).stamps.drop 1 } else s.net k := fun k => State.updNet_net ..
    have hstamps := congrArg NetSt.stamps ((hnet n).trans (if_pos rfl))
    refine ⟨hstamps, fun k hk => (hnet k).trans (if_neg hk), ?_, hmem⟩
    refine (State.get_set_self _ _ rfl).trans (congrArg (fun x => List.length x % _) hstamps)
  case stampSeen =>
    intro n s hu
    refine gives_awake (fun s => s.busRead 9 (Reg.TIM_NP_TXTS_ID n)) hu rfl ?_
    rw [State.busRead_txtsId (s := s.quiet) hu]
    exact (Keeps.quiet _ _ s).emit _
  case firstDealing =>
    intro w s hu hd
    exact congrArg Host.Outcome.next ((State.awake_up s _ hu).trans (State.tickFirst_dealing (s := s.quiet) hd w))
  case firstServo =>
    intro w s hu hd hs hf
    refine gives_awake (fun s => s.tickFirst w) hu rfl ?_
    rw [State.tickFirst_servo (s := s.quiet) hd hs hf]
    refine ⟨?_, State.on_setB _ _ rfl rfl, ((Keeps.quiet _ _ s).setWord _ _ (by simp)).setB _ _ (by simp [Fld.DLR_STATUS_TICK_LOCKED])⟩
    exact (State.word_set _ _ _ _ (by decide)).trans ((State.word_setWord ..).trans (if_pos rfl))
  case link =>
    intro n b s hu
    exact gives_awake (fun s => s.npLink n b) hu rfl
      ⟨State.on_setB _ _ rfl rfl, (Keeps.quiet _ _ s).setB (.TIM_NP_STATUS_LINK n) _ List.mem_cons_self⟩
  case firstBoundary => exact fun w s hn hd => s.firstBoundary_spec w hn hd
  case writtenRunning =>
    intro c w s hu ho hr
    refine gives_awake (fun s => s.trgStartWrite c w) hu rfl ?_
    have hw : StartWritten c w (s.dueFrom c w s.time.now && s.dueFrom c w (s.time.now - 1)) s.quiet (s.quiet.trgStartWrite c w) := by
      cases hl : s.dueFrom c w s.time.now && s.dueFrom c w (s.time.now - 1) with
      | true =>
        rw [State.trgStartWrite_late (s := s.quiet) ho hr hl]
        exact (s.quiet.begun_trgBegun c w).writtenLate c.isLt
      | false =>
        rw [State.trgStartWrite_early (s := s.quiet) ho (by
          rw [Bool.and_assoc]
          exact (congrArg (s.chansRun && ·) hl).trans (Bool.and_false _))]
        exact (s.quiet.begun_trgBegun c w).written
    exact ⟨hw.start, hw.firing, hw.lates, hw.fired, hw.armed, hw.others, (Keeps.quiet _ _ s).trans hw.keeps⟩
  case selfTest =>
    intro c w x s hu hd haud hdl hdeal hcls hst
    refine gives_awake (fun s => s.triggerFire c w) hu rfl ?_
    have h := (s.quiet.at_ w).fired_chanFire c.isLt
    have hsame := (sameDeal_at s w).trans h.deal
    have hdl' : ((s.quiet.at_ w).chanFire c).on .DLR_STATUS_DEALING = true := (hsame.on (by decide)).trans hdl
    have hst' : ((s.quiet.at_ w).chanFire c).tchState x.job = tpStart := (hsame.get (tchState_not_tim x.job)).trans hst
    have hrun : ((s.quiet.at_ w).chanFire c).runOf x none = s.runOf x none :=
      congrArg (fun n => { s.runOf x none with issueTick := n }) (hsame.word Reg.DLR_TICK_COUNT (by decide))
    have hissue := State.issueTrick_selfTest hdl' hcls hst'
    have he := State.triggerFire_issues c.isLt hd hdeal fun g hg => by
      rw [State.each, List.foldl_cons, List.foldl_nil, hissue]
      exact fun e => haud g hg ((hsame.get (audGroup_not_tim g)).symm.trans e)
    rw [State.each, List.foldl_cons, List.foldl_nil, hissue, hrun] at he
    rw [he]
    refine ⟨congrArg (· ++ [s.runOf x none]) (congrArg Dealer.tricks hsame.dealer), ?_, h.fired⟩
    exact congrArg TrgSt.k ((h.trg c).trans (if_pos rfl))

end Sys2Proof.Machine
end

section
/-!
SUPPORT. Banker resets and the Banker's release (R18, R359, R360, R396). The statement O49.
-/

namespace Sys2Proof.Machine

open Sys2Proof

theorem Keeps.updPlat {ps : List Part} {W : Nat → Prop} {s t : State} (h : Keeps ps W s t) (f : PlatSt → PlatSt) (hp : .plat ∈ ps) :
    Keeps ps W s (t.updPlat f) :=
  h.part rfl rfl fun p hn => by
    cases p
    case plat => exact absurd hp hn
    all_goals rfl

theorem Keeps.updCmd {ps : List Part} {W : Nat → Prop} {s t : State} (h : Keeps ps W s t) (f : CmdSt → CmdSt) (hp : .cmd ∈ ps) :
    Keeps ps W s (t.updCmd f) :=
  h.part rfl rfl fun p hn => by
    cases p
    case cmd => exact absurd hp hn
    all_goals rfl

theorem Keeps.updBoot {ps : List Part} {W : Nat → Prop} {s t : State} (h : Keeps ps W s t) (f : BootSt → BootSt) (hp : .boot ∈ ps) :
    Keeps ps W s (t.updBoot f) :=
  h.part rfl rfl fun p hn => by
    cases p
    case boot => exact absurd hp hn
    all_goals rfl

/-! ### The extended time -/

theorem State.updPlat_extNow (s : State) (f : PlatSt → PlatSt) : (s.updPlat f).extNow = s.extNow := rfl

theorem State.set_extNow (s : State) {f : Fld} (v : Nat) (h : Reg.TIM_EPOCH ≠ f.addr) : (s.set f v).extNow = s.extNow :=
  congrArg (· ++ s.time.now) (State.word_set s f v _ h)

/-! ### The parts of a Banker reset -/

/-- The cores stop, and BKR_STATUS shows and counts it. -/
def State.resetCounted (s : State) (cause : Nat) : State :=
  ((s.set .BKR_STATUS_RUN 0).set .BKR_STATUS_CAUSE cause).count .BKR_STATUS_RESETS

/-- The cores stop with a cause, which is counted and logged. -/
def State.coresStopped (s : State) (cause : Nat) : State := (s.resetCounted cause).log 0x0104 (cause :: by2 (s.resetCounted cause).hbAge)

/-- REMAP, Banker SRAM, sessions, commands and waiting frames clear. -/
def State.bankerCleared (s : State) : State :=
  ((((s.updPlat fun p => { p with hit := some (s.extNow, s.hbWatched) }).setB .MTX_CTRL_REMAP false).updPlat fun p => { p with sram := [] }).updCmd
    fun c => { c with sessions := [], runs := [] }).each (List.range 3) fun s n => s.updNet n fun x => { x with txPtp := [], txGen := [] }

/-- The mailbox and the Scorer show the Banker absent. -/
def State.bankerGone (s : State) : State :=
  (((s.set .HST_MB_STATUS_CODE stBUSY).setB .HST_MB_STATUS_BANKER_UP false).showAbsent).updBoot fun b => { b with dealt := 0 }

theorem State.hbAge_resetCounted (s : State) (cause : Nat) : (s.resetCounted cause).hbAge = s.hbAge := by
  have hext : (s.resetCounted cause).extNow = s.extNow := by
    simp (disch := decide) only [State.resetCounted, State.count_eq, State.set_extNow]
  unfold State.hbAge
  rw [hext]
  rfl

/-- The effects of `coresStopped`. -/
structure CoresStopped (cause : Nat) (s t : State) : Prop where
  run : t.get .BKR_STATUS_RUN = 0
  shown : t.get .BKR_STATUS_CAUSE = cause
  resets : t.get .BKR_STATUS_RESETS = satAdd (Fld.BKR_STATUS_RESETS).wid (s.get .BKR_STATUS_RESETS) 1
  logged : t.lastLog = some (0x0104, [cause, s.hbAge % 256, s.hbAge / 256])
  keeps : Keeps [.sco] (only [Reg.BKR_STATUS]) s t

theorem State.hbAge_lt (s : State) : s.hbAge < 65536 := by
  unfold State.hbAge
  omega

theorem State.coresStopped_spec {s : State} {cause : Nat} (hr : s.logRoom) (hc : cause < 8) : CoresStopped cause s (s.coresStopped cause) := by
  have hlog : ∀ f, (s.coresStopped cause).get f = (s.resetCounted cause).get f := State.get_log_of_room (s := s.resetCounted cause) hr _ _
  have hage := s.hbAge_lt
  refine ⟨?_, ?_, ?_, ?_, ?_⟩
  · rw [hlog, State.resetCounted, State.count, State.get_set_other _ _ rfl, State.get_set_other _ _ rfl, State.get_set_self _ _ rfl]
    rfl
  · rw [hlog, State.resetCounted, State.count, State.get_set_other _ _ rfl, State.get_set_self _ _ rfl]
    exact Nat.mod_eq_of_lt hc
  · rw [hlog, State.resetCounted, State.get_count _ _ _ (by decide), State.get_set_other _ _ rfl, State.get_set_other _ _ rfl]
  · refine (State.lastLog_log (s := s.resetCounted cause) hr ..).trans ?_
    simp only [by2, List.map_cons, List.map_nil, Nat.mod_mod, State.hbAge_resetCounted]
    rw [Nat.mod_eq_of_lt (show cause < 256 by omega), Nat.mod_eq_of_lt (show s.hbAge / 256 < 256 by omega)]
  · exact Keeps.log ((((Keeps.refl _ _ s).set .BKR_STATUS_RUN _ List.mem_cons_self).set .BKR_STATUS_CAUSE _ List.mem_cons_self).count
      .BKR_STATUS_RESETS List.mem_cons_self) hr _ _ List.mem_cons_self

/-- The effects of `bankerCleared`. -/
structure BankerCleared (s t : State) : Prop where
  remap : t.on .MTX_CTRL_REMAP = false
  plat : t.plat = { s.plat with sram := [], hit := t.plat.hit }
  cmd : t.cmd = { s.cmd with sessions := [], runs := [] }
  net : ∀ n, n < 3 → t.net n = { s.net n with txPtp := [], txGen := [] }
  keeps : Keeps [.plat, .cmd, .nets] (only [Reg.MTX_CTRL]) s t

theorem State.bankerCleared_spec (s : State) : BankerCleared s s.bankerCleared where
  remap := State.on_setB _ _ rfl rfl
  plat := rfl
  cmd := rfl
  net := by
    intro n hn
    simp only [State.bankerCleared, State.each, List.range_succ, List.range_zero, List.nil_append, List.cons_append, List.foldl_cons,
      List.foldl_nil, State.updNet_net]
    obtain rfl | rfl | rfl : n = 0 ∨ n = 1 ∨ n = 2 := by omega
    all_goals rfl
  keeps := Keeps.each (fun t n => (Keeps.refl _ _ t).updNet n _ (by simp)) _ <|
    ((((Keeps.refl _ _ s).updPlat _ (by simp)).setB .MTX_CTRL_REMAP _ List.mem_cons_self).updPlat _ (by simp)).updCmd _ (by simp)

theorem State.abandonUpdate_keeps (s : State) : Keeps [.boot] (only [Reg.BKR_UPD_STATUS]) s s.abandonUpdate := by
  unfold State.abandonUpdate
  split
  · exact ((Keeps.refl _ _ s).set .BKR_UPD_STATUS_STATE _ List.mem_cons_self).updBoot _ List.mem_cons_self
  · exact Keeps.refl _ _ s

/-- The effects of `bankerGone` after a Banker reset with a cause. -/
structure BankerGone (s t : State) : Prop where
  code : t.get .HST_MB_STATUS_CODE = stBUSY
  up : t.bankerUp = false
  absent : t.on .SCO_STATUS_BANKER_ABSENT = true
  keeps : Keeps [.boot] (only [Reg.HST_MB_STATUS, Reg.SCO_STATUS]) s t

/-- The mailbox reads BUSY, without a Banker. -/
def State.mailboxDown (s : State) : State := (s.set .HST_MB_STATUS_CODE stBUSY).setB .HST_MB_STATUS_BANKER_UP false

theorem State.bankerGone_spec {s : State} (hc : s.get .BKR_STATUS_CAUSE ≠ 0) : BankerGone s s.bankerGone := by
  have hup : s.mailboxDown.on .HST_MB_STATUS_BANKER_UP = false := State.on_setB _ _ rfl rfl
  have hcause : s.mailboxDown.get .BKR_STATUS_CAUSE = s.get .BKR_STATUS_CAUSE :=
    (State.get_set_other _ _ rfl).trans (State.get_set_other _ _ rfl)
  have habs : s.mailboxDown.bankerAbsent = true := by
    rw [State.bankerAbsent, hup, hcause, bne_iff_ne.mpr hc]
    exact Bool.or_true _
  refine ⟨?_, ?_, ?_, ?_⟩
  · refine (State.get_set_other _ _ rfl).trans ((State.get_set_other _ _ rfl).trans ((State.get_set_self _ _ rfl).trans ?_))
    rfl
  · exact (congrArg (· && _) ((congrArg (· != 0) (State.get_set_other _ _ rfl)).trans hup)).trans (Bool.false_and _)
  · exact (State.on_setB s.mailboxDown s.mailboxDown.bankerAbsent (f := .SCO_STATUS_BANKER_ABSENT) rfl rfl).trans habs
  · exact ((((Keeps.refl _ _ s).set .HST_MB_STATUS_CODE _ List.mem_cons_self).setB .HST_MB_STATUS_BANKER_UP _ List.mem_cons_self).setB
      .SCO_STATUS_BANKER_ABSENT _ (List.mem_cons_of_mem _ List.mem_cons_self)).updBoot _ List.mem_cons_self

/-! ### A Banker reset outside a trial -/

theorem State.bankerReset_spec {s : State} {cause : Nat} (hr : s.logRoom) (h0 : cause ≠ 0) (hc : cause < 8)
    (ht : s.on .BKR_BOOT_TRIAL = false) (f : FlashIn) : BankerReset cause s (s.bankerReset f cause) ∧ (s.bankerReset f cause).time = s.time := by
  have hcores := State.coresStopped_spec hr hc
  have hclear := (s.coresStopped cause).bankerCleared_spec
  have habandon := (s.coresStopped cause).bankerCleared.abandonUpdate_keeps
  have hcause : (s.coresStopped cause).bankerCleared.abandonUpdate.get .BKR_STATUS_CAUSE = cause :=
    (habandon.get _ (by decide)).trans ((hclear.keeps.get _ (by decide)).trans hcores.shown)
  have hgone := State.bankerGone_spec (hcause.trans_ne h0)
  have hlate : Keeps [.boot] (only [Reg.BKR_UPD_STATUS, Reg.HST_MB_STATUS, Reg.SCO_STATUS]) (s.coresStopped cause).bankerCleared
      (s.coresStopped cause).bankerCleared.abandonUpdate.bankerGone :=
    (habandon.mono (by simp) (by simp)).trans (hgone.keeps.mono (by simp) (by simp +contextual))
  have hkeep : Keeps [.plat, .cmd, .boot, .sco, .nets] (only [Reg.BKR_STATUS, Reg.MTX_CTRL, Reg.HST_MB_STATUS, Reg.SCO_STATUS, Reg.BKR_UPD_STATUS]) s
      (s.coresStopped cause).bankerCleared.abandonUpdate.bankerGone :=
    ((hcores.keeps.mono (by simp) (by simp)).trans (hclear.keeps.mono (by simp) (by simp))).trans (hlate.mono (by simp) (by simp +contextual))
  have he : s.bankerReset f cause = (s.coresStopped cause).bankerCleared.abandonUpdate.bankerGone :=
    if_neg (Bool.eq_false_iff.mp ((hkeep.on .BKR_BOOT_TRIAL (by decide)).trans ht))
  rw [he]
  refine ⟨⟨?run, ?shown, ?resets, ?remap, hgone.code, hgone.up, hgone.absent, ?plat, ?cmd, ?logged, ?net, hkeep⟩, hkeep.same (p := .time) (by decide)⟩
  case run => exact (hlate.get _ (by decide)).trans ((hclear.keeps.get _ (by decide)).trans hcores.run)
  case shown => exact (hgone.keeps.get _ (by decide)).trans hcause
  case resets => exact (hlate.get _ (by decide)).trans ((hclear.keeps.get _ (by decide)).trans hcores.resets)
  case remap => exact (hlate.on _ (by decide)).trans hclear.remap
  case plat =>
    have hplat : (s.coresStopped cause).bankerCleared.abandonUpdate.bankerGone.plat = _ := hlate.same (p := .plat) (by decide)
    have hbefore : (s.coresStopped cause).plat = s.plat := hcores.keeps.same (p := .plat) (by decide)
    rw [hplat, ← hbefore]
    exact hclear.plat
  case cmd =>
    have hcmd : (s.coresStopped cause).bankerCleared.abandonUpdate.bankerGone.cmd = _ := hlate.same (p := .cmd) (by decide)
    have hbefore : (s.coresStopped cause).cmd = s.cmd := hcores.keeps.same (p := .cmd) (by decide)
    rw [hcmd, hclear.cmd, hbefore]
  case logged =>
    have hsco : (s.coresStopped cause).bankerCleared.abandonUpdate.bankerGone.sco = _ := hlate.same (p := .sco) (by decide)
    have hclr : (s.coresStopped cause).bankerCleared.sco = _ := hclear.keeps.same (p := .sco) (by decide)
    rw [hsco, hclr]
    exact hcores.logged
  case net =>
    intro n hn
    have hnet := congrArg (Tab.get NetSt.init · n) (hlate.same (p := .nets) (by decide))
    have hbefore := congrArg (Tab.get NetSt.init · n) (hcores.keeps.same (p := .nets) (by decide))
    exact hnet.trans ((hclear.net n hn).trans (congrArg (fun x => { x with txPtp := [], txGen := [] }) hbefore))

/-- What was sent out before is no part of a Banker reset. -/
theorem BankerReset.of_quiet {cause : Nat} {s t : State} (h : BankerReset cause s.quiet t) : BankerReset cause s t := by
  obtain ⟨hrun, hcause, hresets, hremap, hcode, hup, habsent, hplat, hcmd, hlog, hnet, hkeep⟩ := h
  exact ⟨hrun, hcause, hresets, hremap, hcode, hup, habsent, hplat, hcmd, hlog, hnet, (Keeps.quiet _ _ s).trans hkeep⟩

/-! ### A cause that joins another (R359) -/

/-- In the cycle of a Banker reset a further cause resets nothing; the lower code is shown. -/
theorem State.joinCause_spec (s : State) {cause : Nat} (hc : cause < 8) :
    (s.joinCause cause).get .BKR_STATUS_CAUSE = min cause (s.get .BKR_STATUS_CAUSE)
      ∧ (s.joinCause cause).get .BKR_STATUS_RESETS = s.get .BKR_STATUS_RESETS
      ∧ (s.joinCause cause).sco.queue.length = s.sco.queue.length ∧ Keeps [.sco] (only [Reg.BKR_STATUS]) s (s.joinCause cause) := by
  unfold State.joinCause
  split
  · next h => exact ⟨(min_eq_right h).symm, rfl, rfl, Keeps.refl _ _ s⟩
  · next h =>
    refine ⟨?_, State.get_set_other _ _ rfl, List.length_map .., ((Keeps.refl _ _ s).set .BKR_STATUS_CAUSE _ List.mem_cons_self).withSco _ (by simp)⟩
    rw [min_eq_left (Nat.le_of_not_le h)]
    exact (State.get_set_self _ _ rfl).trans (Nat.mod_eq_of_lt hc)

/-! ### Who resets (R359, R360) -/

theorem State.wdtTimeout_resets {s : State} {w : Word} (hr : s.get .BKR_STATUS_RUN ≠ 0)
    (hw : s.get .BKR_WDT_TIMEOUT ≤ ((s.at_ w).extNow - s.plat.wdtAt).toNat / 1000000) (f : FlashIn) :
    s.wdtTimeout f w = (s.at_ w).bankerReset f bkWatchdog := (if_pos hw).trans (if_pos hr)

theorem State.wdtTimeout_joins {s : State} {w : Word} (hr : s.get .BKR_STATUS_RUN = 0) (hh : s.plat.hit.map (·.1) = some (s.at_ w).extNow)
    (hw : s.get .BKR_WDT_TIMEOUT ≤ ((s.at_ w).extNow - s.plat.wdtAt).toNat / 1000000) (f : FlashIn) :
    s.wdtTimeout f w = (s.at_ w).joinCause bkWatchdog := (if_pos hw).trans ((if_neg (not_not.mpr hr)).trans (if_pos hh))

theorem State.wdtTimeout_none {s : State} {w : Word} (h : (s.get .BKR_STATUS_RUN = 0 ∧ s.plat.hit.map (·.1) ≠ some (s.at_ w).extNow)
    ∨ ((s.at_ w).extNow - s.plat.wdtAt).toNat / 1000000 < s.get .BKR_WDT_TIMEOUT) (f : FlashIn) : s.wdtTimeout f w = s.at_ w := by
  rcases h with ⟨hr, hh⟩ | hw
  · exact ite_eq_right_iff.mpr fun _ => (if_neg (not_not.mpr hr)).trans (if_neg hh)
  · exact if_neg (Nat.not_le.mpr hw)

theorem State.hbWatched_eq (s : State) : s.hbWatched = s.bankerUp := rfl

theorem State.heartbeatTimeout_resets {s : State} {w : Word} (hw : (s.at_ w).bankerWatch = true) (hu : s.bankerUp = true)
    (ha : 500 ≤ (s.at_ w).watchAge) (f : FlashIn) : s.heartbeatTimeout f w = (s.at_ w).bankerReset f bkScorer := by
  have hu' : (s.at_ w).hbWatched = true := hu
  unfold State.heartbeatTimeout
  simp only [hw, hu', ha, decide_true, Bool.and_self, if_true]

theorem State.heartbeatTimeout_joins {s : State} {w : Word} (hu : s.bankerUp = false) (hh : s.plat.hit = some ((s.at_ w).extNow, true))
    (ha : 500 ≤ (s.at_ w).watchAge) (f : FlashIn) : s.heartbeatTimeout f w = (s.at_ w).joinCause bkScorer := by
  have hu' : (s.at_ w).hbWatched = false := hu
  have hh' : (s.at_ w).plat.hit = some ((s.at_ w).extNow, true) := hh
  unfold State.heartbeatTimeout
  simp only [hu', hh', ha, Bool.and_false, Bool.false_and, Bool.false_eq_true, if_false, and_self, if_true]

theorem State.heartbeatTimeout_none {s : State} {w : Word} (h : (((s.at_ w).bankerWatch = false ∨ s.bankerUp = false)
    ∧ s.plat.hit ≠ some ((s.at_ w).extNow, true)) ∨ (s.at_ w).watchAge < 500) (f : FlashIn) : s.heartbeatTimeout f w = s.at_ w := by
  have hne : ¬ ((s.at_ w).plat.hit = some ((s.at_ w).extNow, true) ∧ 500 ≤ (s.at_ w).watchAge) := fun ⟨hh, ha⟩ =>
    h.elim (fun h => h.2 hh) fun h => absurd ha (Nat.not_le.mpr h)
  have hno : ((s.at_ w).bankerWatch && (s.at_ w).hbWatched && decide (500 ≤ (s.at_ w).watchAge)) = false := by
    rcases h with ⟨hb | hu, -⟩ | ha
    · rw [hb, Bool.false_and, Bool.false_and]
    · rw [State.hbWatched_eq, show (s.at_ w).bankerUp = false from hu, Bool.and_false, Bool.false_and]
    · rw [decide_eq_false (Nat.not_le.mpr ha), Bool.and_false]
  exact (if_neg (Bool.eq_false_iff.mp hno)).trans (if_neg hne)

theorem State.bankerUpTimeout_resets {s : State} (hw : s.bankerWatch = true) (hu : s.bankerUp = false)
    (hh : s.on .FUS_DBG_STATUS_BANKER_HALTED = false) (f : FlashIn) : s.bankerUpTimeout f = s.bankerReset f bkScorer := by
  have hup : s.on .HST_MB_STATUS_BANKER_UP = false := by simpa only [State.bankerUp, hh, Bool.not_false, Bool.and_true] using hu
  exact if_pos (by rw [hw, hup, hh]; rfl)

theorem State.bankerUpTimeout_none {s : State} (h : s.bankerWatch = false ∨ s.bankerUp = true ∨ s.on .FUS_DBG_STATUS_BANKER_HALTED = true)
    (f : FlashIn) : s.bankerUpTimeout f = s := by
  refine if_neg (Bool.eq_false_iff.mp ?_)
  rcases h with hw | hu | hh
  · rw [hw, Bool.false_and, Bool.false_and]
  · rw [State.bankerUp, Bool.and_eq_true] at hu
    rw [hu.1, Bool.not_true, Bool.and_false, Bool.false_and]
  · rw [hh, Bool.not_true, Bool.and_false]

/-- The Scorer watches the Banker from the end of RESET on, but in RECOVERY. -/
theorem State.bankerWatch_up {s : State} (hu : s.up) (hr : s.devState ≠ stRecovery) : s.bankerWatch = true := by
  rw [State.bankerWatch, bne_iff_ne.mpr hu, bne_iff_ne.mpr hr]
  rfl

theorem State.bankerWatch_recovery {s : State} (hr : s.devState = stRecovery) : s.bankerWatch = false := by
  rw [State.bankerWatch, hr]
  rfl

/-! ### The release (R396) -/

/-- The parts of a slot follow from the flash. -/
theorem State.partOf_congr {s t : State} (h : t.flash = s.flash) (slot kind : Nat) : t.partOf slot kind = s.partOf slot kind := by
  simp only [State.partOf, State.manifest, State.partBytes, State.flashBytes, h]

theorem State.verifyParts_lt (s : State) (f : FlashIn) (slot : Nat) (kinds : List Nat) : s.verifyParts f slot kinds < 16 := by
  unfold State.verifyParts
  dsimp only
  split_ifs <;> decide

theorem State.setSlotErr_spec (s : State) {slot r : Nat} (hr : r < 16) :
    (s.setSlotErr slot r).slotErr slot = r ∧ Keeps [] (only [Reg.BKR_BOOT_ERR]) s (s.setSlotErr slot r) := by
  unfold State.setSlotErr State.slotErr
  split
  · exact ⟨(State.get_set_self _ _ rfl).trans (Nat.mod_eq_of_lt hr), (Keeps.refl _ _ s).set .BKR_BOOT_ERR_SLOT_A _ List.mem_cons_self⟩
  · exact ⟨(State.get_set_self _ _ rfl).trans (Nat.mod_eq_of_lt hr), (Keeps.refl _ _ s).set .BKR_BOOT_ERR_SLOT_B _ List.mem_cons_self⟩

theorem Keeps.slotErr {ps : List Part} {W : Nat → Prop} {s t : State} (h : Keeps ps W s t) (hw : ¬ W Reg.BKR_BOOT_ERR) (slot : Nat) :
    t.slotErr slot = s.slotErr slot := by
  rw [State.slotErr, State.slotErr, h.get .BKR_BOOT_ERR_SLOT_A hw, h.get .BKR_BOOT_ERR_SLOT_B hw]

/-- No warm path: the cores run, no Banker reset came, the watch is off, or the last path failed. -/
theorem State.bankerRelease_none {s : State} {w : Word} (h : s.devState = stRecovery ∨ s.get .BKR_STATUS_RUN ≠ 0 ∨ s.get .BKR_STATUS_CAUSE = 0
    ∨ s.on .BKR_BOOT_WARM_FAIL = true) (f : FlashIn) : s.bankerRelease f w = s.at_ w := by
  refine if_pos ?_
  rcases h with hr | hr | hc | hf
  · exact .inr (.inr (.inl (State.bankerWatch_recovery (s := s.at_ w) hr)))
  · exact .inl hr
  · exact .inr (.inl hc)
  · exact .inr (.inr (.inr hf))

/-- The state in which the warm path has verified the running slot with result `r`. -/
def State.warmVerified (s : State) (r : Nat) (w : Word) : State := (s.at_ w).setSlotErr s.runSlot r

theorem State.verifyParts_quiet_at (s : State) (w : Word) (f : FlashIn) (slot : Nat) (kinds : List Nat) :
    (s.quiet.at_ w).verifyParts f slot kinds = s.verifyParts f slot kinds := rfl

theorem State.bankerRelease_runs {s : State} {w : Word} {f : FlashIn} (hu : s.up) (hd : s.devState ≠ stRecovery)
    (hr : s.get .BKR_STATUS_RUN = 0) (hc : s.get .BKR_STATUS_CAUSE ≠ 0) (hf : s.on .BKR_BOOT_WARM_FAIL = false) :
    s.quiet.bankerRelease f w = if s.verifyParts f s.runSlot [1, 7] = 1
      then ((s.quiet.warmVerified (s.verifyParts f s.runSlot [1, 7]) w).loadSram s.runSlot).startFirmware
      else (s.quiet.warmVerified (s.verifyParts f s.runSlot [1, 7]) w).setB .BKR_BOOT_WARM_FAIL true := by
  have hw : (s.quiet.at_ w).bankerWatch = true := State.bankerWatch_up (s := s.quiet.at_ w) hu hd
  have hgo : ¬ ((s.quiet.at_ w).get .BKR_STATUS_RUN ≠ 0 ∨ (s.quiet.at_ w).get .BKR_STATUS_CAUSE = 0 ∨ (s.quiet.at_ w).bankerWatch = false
      ∨ (s.quiet.at_ w).on .BKR_BOOT_WARM_FAIL = true) := by
    rintro (h | h | h | h)
    · exact h hr
    · exact hc h
    · rw [hw] at h; cases h
    · exact Bool.eq_false_iff.mp hf h
  have hslot : ((s.quiet.at_ w).setSlotErr s.runSlot (s.verifyParts f s.runSlot [1, 7])).runSlot = s.runSlot :=
    (State.setSlotErr_spec (s.quiet.at_ w) (s.verifyParts_lt f _ _)).2.get .BKR_BOOT_RUN_SLOT (by decide)
  refine (if_neg hgo).trans ?_
  rw [State.verifyParts_quiet_at]
  exact if_congr Iff.rfl (congrArg (fun n => ((s.quiet.warmVerified (s.verifyParts f s.runSlot [1, 7]) w).loadSram n).startFirmware) hslot) rfl

/-- The firmware starts: the cores run with REMAP, watchdog and heartbeat from now. -/
theorem State.startFirmware_spec (s : State) : s.startFirmware.get .BKR_STATUS_RUN = 0xF ∧ s.startFirmware.on .MTX_CTRL_REMAP = true
    ∧ s.startFirmware.plat = { s.plat with wdtAt := s.startFirmware.extNow, hbAt := s.startFirmware.extNow }
    ∧ Keeps [.plat] (only [Reg.BKR_STATUS, Reg.MTX_CTRL]) s s.startFirmware := by
  refine ⟨State.get_set_self _ _ rfl, ?_, ?_, ?_⟩
  · exact (congrArg (· != 0) (State.get_set_other _ _ rfl)).trans (State.on_setB _ _ rfl rfl)
  · simp (disch := decide) only [State.startFirmware, State.updPlat_extNow, State.updPlat_plat, State.set_plat, State.setB_eq, State.set_extNow]
  · exact (((Keeps.refl _ _ s).setB .MTX_CTRL_REMAP _ (List.mem_cons_of_mem _ List.mem_cons_self)).set .BKR_STATUS_RUN _
      List.mem_cons_self).updPlat _ List.mem_cons_self

/-- Firmware and image of a slot stand in Banker SRAM, the firmware at its start. -/
theorem State.loadSram_spec (s : State) (slot : Nat) : (s.loadSram slot).plat = { s.plat with sram := (s.loadSram slot).plat.sram }
    ∧ readBytes 0 (s.loadSram slot).plat.sram 0 (s.partOf slot 1).length = s.partOf slot 1
    ∧ Keeps [.plat] (only []) s (s.loadSram slot) :=
  ⟨rfl, readBytes_writeBytes 0 (writeBytes 0 s.plat.sram 0x400000 (s.partOf slot 7)) 0 (s.partOf slot 1),
    (Keeps.refl _ _ s).updPlat _ List.mem_cons_self⟩

/-! ### The statement -/

/-- Settles O49: the kick, then each cause of a Banker reset where it resets, where it joins another and where it does nothing, and the
release by the result of its verification. -/
theorem bankerIsWatchedResetAndReleased : Obligations.BankerIsWatchedResetAndReleased := by
  refine ⟨?kick, ?selfIdle, ?self, ?watchdog, ?watchdogNone, ?heartbeat, ?heartbeatNone, ?upTimeout, ?upTimeoutNone, ?released, ?warmFail,
    ?watchdogJoins, ?heartbeatJoins, ?releaseNone, ?halted⟩
  case kick =>
    intro w s hu
    exact gives_awake (fun s => s.wdtKick w) hu rfl ⟨rfl, rfl, ((Keeps.quiet _ _ s).at_ w (by simp)).updPlat _ (by simp)⟩
  case selfIdle =>
    intro f s hu hr
    exact congrArg Host.Outcome.next ((State.awake_up s _ hu).trans (if_pos hr))
  case self =>
    intro f s hu hl hr ht
    refine gives_awake (fun s => s.resetSelf f) hu rfl ?_
    rw [show s.quiet.resetSelf f = s.quiet.bankerReset f bkSelf from if_neg hr]
    obtain ⟨hreset, htime⟩ := State.bankerReset_spec (s := s.quiet) (cause := bkSelf) hl (by decide) (by decide) ht f
    exact ⟨hreset.of_quiet, htime⟩
  case watchdog =>
    intro f w s hu hl hr ht hw
    refine gives_awake (fun s => s.wdtTimeout f w) hu rfl ?_
    rw [State.wdtTimeout_resets (s := s.quiet) hr hw]
    exact (State.bankerReset_spec (s := s.quiet.at_ w) (cause := bkWatchdog) hl (by decide) (by decide) ht f).1.of_quiet (s := s.at_ w)
  case watchdogNone =>
    intro f w s hu h
    refine gives_awake (fun s => s.wdtTimeout f w) hu rfl ?_
    rw [State.wdtTimeout_none (s := s.quiet) h]
    exact ⟨rfl, (Keeps.quiet _ _ s).at_ w (by simp)⟩
  case heartbeat =>
    intro f w s hs hl hd hb hh ha ht
    refine gives_scorer (fun s => s.heartbeatTimeout f w) hs rfl ?_
    rw [State.heartbeatTimeout_resets (s := s.quiet) (State.bankerWatch_up (s := s.quiet.at_ w) hs.1 hd) hb ha]
    exact (State.bankerReset_spec (s := s.quiet.at_ w) (cause := bkScorer) hl (by decide) (by decide) ht f).1.of_quiet (s := s.at_ w)
  case heartbeatNone =>
    intro f w s hs h
    refine gives_scorer (fun s => s.heartbeatTimeout f w) hs rfl ?_
    rw [State.heartbeatTimeout_none (s := s.quiet)
      (h.imp_left fun h => ⟨h.1.imp_left fun hd => State.bankerWatch_recovery (s := s.quiet.at_ w) hd, h.2⟩)]
    exact ⟨rfl, (Keeps.quiet _ _ s).at_ w (by simp)⟩
  case upTimeout =>
    intro f s hs hl hd hb hh ht
    refine gives_scorer (fun s => s.bankerUpTimeout f) hs rfl ?_
    rw [State.bankerUpTimeout_resets (s := s.quiet) (State.bankerWatch_up (s := s.quiet) hs.1 hd) hb hh]
    obtain ⟨hreset, htime⟩ := State.bankerReset_spec (s := s.quiet) (cause := bkScorer) hl (by decide) (by decide) ht f
    exact ⟨hreset.of_quiet, htime⟩
  case upTimeoutNone =>
    intro f s hs h
    exact congrArg Host.Outcome.next ((State.scorer_scoring s _ hs).trans (State.bankerUpTimeout_none (s := s.quiet)
      (h.imp_left fun hd => State.bankerWatch_recovery (s := s.quiet) hd) f))
  case released =>
    intro f w s hu hd hr hc hf hv
    refine gives_awake (fun s => s.bankerRelease f w) hu rfl ?_
    rw [State.bankerRelease_runs hu hd hr hc hf, if_pos hv, hv]
    obtain ⟨herr, hkeep⟩ := (s.quiet.at_ w).setSlotErr_spec (slot := s.runSlot) (r := 1) (by decide)
    obtain ⟨hsram, hread, hload⟩ := (s.quiet.warmVerified 1 w).loadSram_spec s.runSlot
    obtain ⟨hrun, hremap, hplat, hstart⟩ := ((s.quiet.warmVerified 1 w).loadSram s.runSlot).startFirmware_spec
    have hbefore : (s.quiet.warmVerified 1 w).plat = s.plat := hkeep.same (p := .plat) (by simp)
    have hpart : (s.quiet.warmVerified 1 w).partOf s.runSlot 1 = s.partOf s.runSlot 1 :=
      State.partOf_congr (hkeep.same (p := .flash) (by simp)) _ _
    have hlate := (hload.mono (qs := [.plat]) (V := only [Reg.BKR_STATUS, Reg.MTX_CTRL]) (by simp) (by simp)).trans hstart
    have htime := (Keeps.quiet [.time] (only [Reg.BKR_BOOT_ERR]) s).at_ w (by simp)
    refine ⟨hrun, (hlate.slotErr (by decide) _).trans herr, hremap, ?_, ?_, ?_⟩
    · rw [hplat, hsram, hbefore]
    · rw [hplat, ← hpart]
      exact hread
    · exact ((htime.trans (hkeep.mono (by simp) fun _ => id)).mono (by simp) (by simp)).trans (hlate.mono (by simp) (by simp +contextual))
  case warmFail =>
    intro f w s hu hd hr hc hf hv
    refine gives_awake (fun s => s.bankerRelease f w) hu rfl ?_
    rw [State.bankerRelease_runs hu hd hr hc hf, if_neg hv]
    obtain ⟨herr, hkeep⟩ := (s.quiet.at_ w).setSlotErr_spec (slot := s.runSlot) (s.verifyParts_lt f s.runSlot [1, 7])
    have hwarm : Keeps [] (only [Reg.BKR_BOOT]) (s.quiet.warmVerified (s.verifyParts f s.runSlot [1, 7]) w)
        ((s.quiet.warmVerified (s.verifyParts f s.runSlot [1, 7]) w).setB .BKR_BOOT_WARM_FAIL true) :=
      (Keeps.refl _ _ _).setB .BKR_BOOT_WARM_FAIL _ List.mem_cons_self
    refine ⟨State.on_setB _ _ rfl rfl, ?_, (hwarm.slotErr (by decide) _).trans herr, ?_⟩
    · exact (hwarm.get .BKR_STATUS_RUN (by decide)).trans ((hkeep.get .BKR_STATUS_RUN (by decide)).trans hr)
    · exact (((Keeps.quiet _ _ s).at_ w (by simp)).trans (hkeep.mono (by simp) (by simp))).trans (hwarm.mono (by simp) (by simp))
  case watchdogJoins =>
    intro f w s hu hr hh hw
    refine gives_awake (fun s => s.wdtTimeout f w) hu rfl ?_
    rw [State.wdtTimeout_joins (s := s.quiet) hr hh hw]
    obtain ⟨hcause, hresets, hlen, hk⟩ := (s.quiet.at_ w).joinCause_spec (cause := bkWatchdog) (by decide)
    exact ⟨hcause, hresets, hlen, hk.same (p := .time) (by decide), ((Keeps.quiet _ _ s).at_ w (by simp)).trans (hk.mono (by simp) fun _ => id)⟩
  case heartbeatJoins =>
    intro f w s hs hb hh ha
    refine gives_scorer (fun s => s.heartbeatTimeout f w) hs rfl ?_
    rw [State.heartbeatTimeout_joins (s := s.quiet) hb hh ha]
    obtain ⟨hcause, hresets, hlen, hk⟩ := (s.quiet.at_ w).joinCause_spec (cause := bkScorer) (by decide)
    exact ⟨hcause, hresets, hlen, hk.same (p := .time) (by decide), ((Keeps.quiet _ _ s).at_ w (by simp)).trans (hk.mono (by simp) fun _ => id)⟩
  case releaseNone =>
    intro f w s hu h
    refine gives_awake (fun s => s.bankerRelease f w) hu rfl ?_
    rw [State.bankerRelease_none (s := s.quiet) h]
    exact ⟨rfl, (Keeps.quiet _ _ s).at_ w (by simp)⟩
  case halted =>
    intro f w s hu hh hn
    have hb : s.bankerUp = false := by rw [State.bankerUp, hh]; exact Bool.and_false _
    have hbeat : s.quiet.heartbeatTimeout f w = s.quiet.at_ w :=
      State.heartbeatTimeout_none (s := s.quiet) (.inl ⟨.inr hb, by rw [show s.quiet.plat.hit = none from hn]; exact nofun⟩) f
    refine gives_awake (fun s => if s.sco.hard then s else s.heartbeatTimeout f w) hu rfl ?_
    rw [hbeat]
    split <;> exact ⟨rfl, rfl, memoryFrame_of_stored rfl⟩

end Sys2Proof.Machine
end

section
/-!
SUPPORT. A boundary at which the Dealer does not deal. The statement O15.
-/

namespace Sys2Proof.Machine

open Sys2Proof

/-! ### A boundary before dealing that samples a trick (R28, R29) -/

/-- A capture trick that has run to its end. -/
def endedTrick : RunTrick :=
  { trick := { cls := .capture, index := 0, issue := .offset 0, job := 0, talon := none, master := none, dram := 0, load := 0, fed := [] }
    issueTick := 0, done := true, buf := none, eav := none, dueAt := none, stale := false, coded := none }

/-- DEALING on the servo's time with boundaries running, the tick not locked, the Dealer not dealing; one ended trick is left. -/
def undealtBoundary : State :=
  { State.reset.set .BKR_DEV_STATE_STATE stDealing with dealer := { Dealer.init with started := true, tricks := [endedTrick] } }

/-- A boundary without errors. -/
def plainBoundary : BoundaryIn := { eps := [], verdictFaults := [], alarmLost := [], osc := 0 }

/-- Every boundary samples the tricks, also one at which the Dealer does not deal: the ended trick leaves. -/
theorem undealtBoundary_samples : (undealtBoundary.awake fun s => s.tickBoundary plainBoundary).dealer.tricks = [] := by
  decide +kernel

/-- Refutes O15: its last clause has the running tricks stay at a boundary that starts no dealing, but the boundary samples them there
too, and one that has ended leaves the list. -/
theorem not_tickReferenceLossIsHandled : ¬ Obligations.TickReferenceLossIsHandled := by
  intro h
  obtain ⟨-, -, -, -, -, -, -, hundealt⟩ := h
  obtain ⟨t, he, -, -, htricks⟩ := hundealt plainBoundary undealtBoundary (by decide) (by decide) rfl (by decide) rfl (by decide) (by decide)
  have ht : (undealtBoundary.awake fun s => s.tickBoundary plainBoundary) = t := Host.Outcome.next.inj he
  rw [← ht, undealtBoundary_samples] at htricks
  exact absurd htricks (by decide)

end Sys2Proof.Machine
end

section
/-!
SUPPORT. A training step with an alert on a sub-channel above the eighth. The statement O32.
-/

namespace Sys2Proof.Machine

open Sys2Proof

/-! ### A training step with sixteen sub-channels fitted (R276) -/

/-- Training, with MEM_CFG.CHANNELS at 3, so that `memSubs` is 16; an alert in this step stands on sub-channel 9. -/
def alertPastEight : State :=
  { (((State.reset.set .BKR_DEV_STATE_STATE stLoading).set .MEM_CFG_CHANNELS 3).set .MEM_STATUS_STATE memTraining).set .MEM_TRAIN_RESULT 1 with
    mem := { MemSt.init with subs := [(9, { SubSt.init with stepAlert := true })] } }

/-- The step fails on sub-channel 9 and is to be tried again. -/
theorem alertPastEight_retries : (alertPastEight.awake fun s => s.trainingStep [] [(1, [7, 8])]).get .MEM_TRAIN_STEP =
    alertPastEight.get .MEM_TRAIN_STEP := by
  decide +kernel

/-- Refutes O32: its clause of a training step that passes asks for no alert on the sub-channels below 8, but the step looks at all
`memSubs` of them, and with CHANNELS at 3, a value the load rejects (R256) but the statement's states may hold, there are 16: an alert on
sub-channel 9 fails the step. -/
theorem not_theControllerTrainsRefreshesAndRecovers : ¬ Obligations.TheControllerTrainsRefreshesAndRecovers := by
  intro h
  obtain ⟨-, -, -, -, -, -, -, -, -, -, -, hpass, -⟩ := h
  obtain ⟨t, he, -, hstep, -⟩ := hpass 1 [7, 8] alertPastEight (by decide +kernel) (by decide +kernel) (by decide +kernel) (by decide +kernel)
    (by decide +kernel) (by decide +kernel) (by decide +kernel)
  have ht : (alertPastEight.awake fun s => s.trainingStep [] [(1, [7, 8])]) = t := Host.Outcome.next.inj he
  rw [← ht, alertPastEight_retries] at hstep
  exact absurd hstep (Nat.ne_of_lt (Nat.lt_succ_self _))

end Sys2Proof.Machine
end

section
/-!
SUPPORT. The Scorer's check of a frame's signatures (R75, R418).
-/

namespace Sys2Proof.Machine

open Sys2Proof

/-! ### Frames of outputs, rounding and reports -/

theorem Keeps.updOut {ps : List Part} {W : Nat → Prop} {s t : State} (h : Keeps ps W s t) (o : Nat) (f : OutSt → OutSt) (hp : .outs ∈ ps) :
    Keeps ps W s (t.updOut o f) :=
  h.part rfl rfl fun p hn => by
    cases p
    case outs => exact absurd hp hn
    all_goals rfl

theorem Keeps.outp {ps : List Part} {W : Nat → Prop} {s t : State} (h : Keeps ps W s t) (hp : .outs ∉ ps) (o : Nat) : t.outp o = s.outp o :=
  congrArg (Tab.get OutSt.init · o) (h.same hp)

theorem Keeps.tile {ps : List Part} {W : Nat → Prop} {s t : State} (h : Keeps ps W s t) (hp : .tiles ∉ ps) (l : Nat) : t.tile l = s.tile l :=
  congrArg (Tab.get Tile.init · l) (h.same hp)

theorem State.updOut_self (s : State) (o : Nat) (f : OutSt → OutSt) : (s.updOut o f).outp o = f (s.outp o) :=
  (State.updOut_outp ..).trans (if_pos rfl)

theorem State.updOut_other (s : State) {o p : Nat} (f : OutSt → OutSt) (h : p ≠ o) : (s.updOut o f).outp p = s.outp p :=
  (State.updOut_outp ..).trans (if_neg h)

theorem State.log_keeps (s : State) (event : Nat) (args : List Nat) : Keeps [.sco] (only [Reg.LOG_DROP]) s (s.log event args) :=
  (Keeps.refl _ _ s).logFull event args List.mem_cons_self List.mem_cons_self

theorem State.safeCause_keeps (s : State) (cause : Nat) : Keeps [.sco] (only [Reg.LOG_DROP]) s (s.safeCause cause) := by
  unfold State.safeCause
  split
  · exact (Keeps.refl _ _ s).withSco _ List.mem_cons_self
  · exact s.log_keeps _ _

theorem State.settleFault_keeps (s : State) : Keeps [] (only faultRegs) s s.settleFault :=
  (Keeps.refl _ _ s).settleFault (by decide) (by decide) (by decide)

/-! ### Steps after which the check of output `o` still stands -/

/-- Nothing of what the check of output `o` leaves changes: its count of mismatches, the signatures it keeps, SCAN_MISMATCH and the other
outputs. -/
structure CheckStands (o : Nat) (s t : State) : Prop where
  other : ∀ p, p ≠ o → t.outp p = s.outp p
  pending : (t.outp o).checkPending = (s.outp o).checkPending
  run : (t.outp o).misRun = (s.outp o).misRun
  hist : (t.outp o).sigHist = (s.outp o).sigHist
  mismatch : t.get (.CMP_LV_OUT_SCAN_MISMATCH o) = s.get (.CMP_LV_OUT_SCAN_MISMATCH o)
  keeps : Keeps [.outs, .sco] anyReg s t

theorem CheckStands.refl (o : Nat) (s : State) : CheckStands o s s := ⟨fun _ _ => rfl, rfl, rfl, rfl, rfl, Keeps.refl _ _ s⟩

theorem CheckStands.trans {o : Nat} {s t u : State} (h : CheckStands o s t) (k : CheckStands o t u) : CheckStands o s u where
  other p hp := (k.other p hp).trans (h.other p hp)
  pending := k.pending.trans h.pending
  run := k.run.trans h.run
  hist := k.hist.trans h.hist
  mismatch := k.mismatch.trans h.mismatch
  keeps := h.keeps.trans k.keeps

theorem CheckStands.of_keeps {o : Nat} {W : Nat → Prop} {s t : State} (h : Keeps [.sco] W s t) (hw : ¬ W (Reg.CMP_LV_OUT o)) :
    CheckStands o s t where
  other p _ := h.outp (by decide) p
  pending := congrArg OutSt.checkPending (h.outp (by decide) o)
  run := congrArg OutSt.misRun (h.outp (by decide) o)
  hist := congrArg OutSt.sigHist (h.outp (by decide) o)
  mismatch := h.get (.CMP_LV_OUT_SCAN_MISMATCH o) hw
  keeps := h.mono (by decide) fun _ _ => trivial

theorem CheckStands.on {o : Nat} {s t : State} (h : CheckStands o s t) :
    t.on (.CMP_LV_OUT_SCAN_MISMATCH o) = s.on (.CMP_LV_OUT_SCAN_MISMATCH o) := congrArg (· != 0) h.mismatch

theorem CheckStands.set {o : Nat} {s t : State} (h : CheckStands o s t) {f : Fld} (v : Nat) (hf : f.Apart (.CMP_LV_OUT_SCAN_MISMATCH o)) :
    CheckStands o s (t.set f v) :=
  h.trans ⟨fun _ _ => rfl, rfl, rfl, rfl, State.get_set_apart _ _ _ _ hf, (Keeps.refl _ _ t).set _ _ trivial⟩

/-- The 16 registers CMP_LV_OUT, which hold SCAN_MISMATCH, fill 64 bytes. -/
theorem cmpLvOut_div (o : Fin 16) : Reg.CMP_LV_OUT o / 0x40 = 0x800201 := by
  unfold Reg.CMP_LV_OUT
  omega

theorem CheckStands.setBlank {s t : State} {o : Fin 16} (h : CheckStands o s t) (bit : Nat) : CheckStands o s (t.setBlank o bit) := by
  have hreg := cmpLvOut_div o
  have hne : Reg.CMP_LV_OUT o ≠ Reg.OUT_STATUS o := by unfold Reg.OUT_STATUS; omega
  have hsrc := h.set (f := .OUT_STATUS_BLANK_SRC o) (setBitN (t.get (.OUT_STATUS_BLANK_SRC o)) bit) (.inl hne)
  unfold State.setBlank
  dsimp only
  split
  · have hstate := hsrc.set (f := .OUT_STATUS_STATE o) txBlank (.inl hne)
    refine hstate.trans ⟨fun p hp => State.updOut_other _ _ hp, ?_, ?_, ?_, State.updOut_get ..,
      (Keeps.refl _ _ _).updOut _ _ List.mem_cons_self⟩ <;> rw [State.updOut_self]
  · exact hsrc

theorem CheckStands.log {o : Fin 16} {s t : State} (h : CheckStands o s t) (event : Nat) (args : List Nat) : CheckStands o s (t.log event args) := by
  refine h.trans (.of_keeps (t.log_keeps event args) ?_)
  have hreg := cmpLvOut_div o
  simp only [List.mem_singleton, Reg.LOG_DROP]
  omega

theorem CheckStands.safeCause {o : Fin 16} {s t : State} (h : CheckStands o s t) (cause : Nat) : CheckStands o s (t.safeCause cause) := by
  refine h.trans (.of_keeps (t.safeCause_keeps cause) ?_)
  have hreg := cmpLvOut_div o
  simp only [List.mem_singleton, Reg.LOG_DROP]
  omega

theorem CheckStands.settleFault {o : Fin 16} {s t : State} (h : CheckStands o s t) : CheckStands o s t.settleFault := by
  refine h.trans (.of_keeps (t.settleFault_keeps.mono (by simp) fun _ => id) ?_)
  have hreg := cmpLvOut_div o
  simp only [faultRegs, List.mem_cons, List.not_mem_nil, or_false, Reg.SCO_FAULTN, Reg.SCO_STATUS, Reg.HST_INT_STATUS]
  omega

theorem CheckStands.scorerBlank {o : Fin 16} {s t : State} (h : CheckStands o s t) (cause : Nat) :
    CheckStands o s (t.scorerBlank o cause) := by
  have hreg := cmpLvOut_div o
  unfold State.scorerBlank
  dsimp only
  split
  · exact h
  · have hblanked := h.set (f := .CMP_LV_OUT_BLANKED o) 1 (.inr (.inr (Nat.le_of_ble_eq_true rfl)))
    have hcause := hblanked.set (f := .CMP_LV_OUT_BLANK_CAUSE o) cause (.inr (.inr (Nat.le_of_ble_eq_true rfl)))
    refine ((hcause.set (f := .CMP_LV_INT_STATUS_BLANK) 1 (.inl ?_)).setBlank 0).log _ _
    show Reg.CMP_LV_OUT o ≠ Reg.CMP_LV_INT_STATUS
    unfold Reg.CMP_LV_INT_STATUS
    omega

/-! ### The check (R75, R418) -/

/-- The two signatures of the frame that waits for its check differ. -/
def State.sigsDiffer (s : State) (o : Nat) : Bool := decide ((s.outp o).sigAct ≠ (s.outp o).sigExp)

/-- R75: the result of the comparison is shown, and logged when the signatures differ. -/
def State.showCheck (s : State) (o : Nat) : State :=
  let shown := s.setB (.CMP_LV_OUT_SCAN_MISMATCH o) (s.sigsDiffer o)
  if s.sigsDiffer o then shown.log 0x0303 ([o] ++ by4 (shown.get (.OUT_FRAME_FRAME o))) else shown

/-- R75: the run of mismatches counts, and the frame's signature joins those kept. -/
def State.noteCheck (s : State) (o : Nat) : State :=
  (s.showCheck o).updOut o fun x => { x with
    checkPending := false, misRun := if s.sigsDiffer o then (s.outp o).misRun + 1 else 0,
    sigHist := [x.sigAct] ++ x.sigHist.take 1 }

/-- What the check leaves when the frame is noted, whatever it goes on to blank or report. -/
structure Checked (o : Nat) (s t : State) : Prop where
  mismatch : t.on (.CMP_LV_OUT_SCAN_MISMATCH o) = s.sigsDiffer o
  pending : (t.outp o).checkPending = false
  run : (t.outp o).misRun = if s.sigsDiffer o then (s.outp o).misRun + 1 else 0
  hist : (t.outp o).sigHist = [(s.outp o).sigAct] ++ (s.outp o).sigHist.take 1
  other : ∀ p, p ≠ o → t.outp p = s.outp p
  keeps : Keeps [.outs, .sco] anyReg s t

theorem Checked.stands {o : Nat} {s t u : State} (h : Checked o s t) (k : CheckStands o t u) : Checked o s u where
  mismatch := k.on.trans h.mismatch
  pending := k.pending.trans h.pending
  run := k.run.trans h.run
  hist := k.hist.trans h.hist
  other p hp := (k.other p hp).trans (h.other p hp)
  keeps := h.keeps.trans k.keeps

theorem State.showCheck_spec (s : State) (o : Fin 16) : (s.showCheck o).on (.CMP_LV_OUT_SCAN_MISMATCH o) = s.sigsDiffer o
    ∧ Keeps [.sco] anyReg s (s.showCheck o) := by
  have hreg := cmpLvOut_div o
  have hshown : (s.setB (.CMP_LV_OUT_SCAN_MISMATCH o) (s.sigsDiffer o)).on (.CMP_LV_OUT_SCAN_MISMATCH o) = s.sigsDiffer o :=
    State.on_setB _ _ rfl rfl
  have hkeep : Keeps [.sco] anyReg s (s.setB (.CMP_LV_OUT_SCAN_MISMATCH o) (s.sigsDiffer o)) := (Keeps.refl _ _ s).setB _ _ trivial
  unfold State.showCheck
  dsimp only
  split
  · have hlog := (s.setB (.CMP_LV_OUT_SCAN_MISMATCH o) (s.sigsDiffer o)).log_keeps 0x0303
      ([o.val] ++ by4 ((s.setB (.CMP_LV_OUT_SCAN_MISMATCH o) (s.sigsDiffer o)).get (.OUT_FRAME_FRAME o)))
    exact ⟨((CheckStands.refl ..).log ..).on.trans hshown, hkeep.trans (hlog.mono (fun _ => id) fun _ _ => trivial)⟩
  · exact ⟨hshown, hkeep⟩

theorem State.checked_noteCheck (s : State) (o : Fin 16) : Checked o s (s.noteCheck o) := by
  obtain ⟨hshown, hkeep⟩ := s.showCheck_spec o
  have hout := hkeep.outp (by decide)
  refine ⟨hshown, ?_, ?_, ?_, fun p hp => ?_, (hkeep.mono (by decide) fun _ => id).updOut _ _ (by decide)⟩
  · exact congrArg OutSt.checkPending (State.updOut_self ..)
  · exact congrArg OutSt.misRun (State.updOut_self ..)
  · exact (congrArg OutSt.sigHist (State.updOut_self ..)).trans (by rw [hout])
  · exact (State.updOut_other _ _ hp).trans (hout p)

/-- R75: three equal signatures in a row: the output is frozen. -/
def State.sigsFrozen (s : State) (o : Nat) : Bool :=
  match (s.outp o).sigHist with
  | a :: b :: _ => decide ((s.outp o).sigAct = a ∧ a = b)
  | _ => false

/-- R75: the Scorer blanks an output that is frozen, or whose signatures differed in two frames in a row. -/
def State.blankChecked (s : State) (o : Nat) (frozen : Bool) (run : Nat) : State :=
  if frozen then s.scorerBlank o causeScanFrozen else if 2 ≤ run then s.scorerBlank o causeScanMismatch else s

/-- R418: whether the alarm counts of the frame were right; a wrong count is a cause of SAFE. -/
def State.alarmChecked (s : State) (o : Nat) (ok : Bool) (area : Nat) : State :=
  let shown := (s.setB (.SCO_ALMCHK_OK o) ok).set (.SCO_ALMCHK_EXPECTED o) area
  if ok then shown else shown.safeCause 5

theorem State.checkSignatures_pending {s : State} {o : Nat} (h : (s.outp o).checkPending = true) : s.checkSignatures o
    = ((s.noteCheck o).blankChecked o (s.sigsFrozen o) (if s.sigsDiffer o then (s.outp o).misRun + 1 else 0)).alarmChecked o
      ((s.outp o).alarmChkA == (s.outp o).alarmArea && (s.outp o).alarmChkB == (s.outp o).alarmAreaB) (s.outp o).alarmArea := by
  unfold State.checkSignatures
  rw [if_neg (by rw [h]; decide)]
  rfl

theorem CheckStands.blankChecked {o : Fin 16} {s t : State} (h : CheckStands o s t) (frozen : Bool) (run : Nat) :
    CheckStands o s (t.blankChecked o frozen run) := by
  unfold State.blankChecked
  split_ifs
  · exact h.scorerBlank _
  · exact h.scorerBlank _
  · exact h

theorem CheckStands.alarmChecked {o : Fin 16} {s t : State} (h : CheckStands o s t) (ok : Bool) (area : Nat) :
    CheckStands o s (t.alarmChecked o ok area) := by
  have hreg := cmpLvOut_div o
  have hne : Reg.CMP_LV_OUT o ≠ Reg.SCO_ALMCHK o := by unfold Reg.SCO_ALMCHK; omega
  have hshown := (h.set (f := .SCO_ALMCHK_OK o) (b2n ok) (.inl hne)).set (f := .SCO_ALMCHK_EXPECTED o) area (.inl hne)
  unfold State.alarmChecked
  dsimp only
  split
  · exact hshown
  · exact hshown.safeCause 5

theorem State.checked_checkSignatures {s : State} {o : Fin 16} (h : (s.outp o).checkPending = true) : Checked o s (s.checkSignatures o) := by
  rw [State.checkSignatures_pending h]
  exact (s.checked_noteCheck o).stands (((CheckStands.refl ..).blankChecked _ _).alarmChecked _ _)

theorem State.checkSignatures_idle {s : State} {o : Nat} (h : (s.outp o).checkPending = false) : s.checkSignatures o = s := if_pos h

end Sys2Proof.Machine
end

section
/-!
SUPPORT. The delivery of the Scorer's verdicts (R80 to R84).
-/

namespace Sys2Proof.Machine

open Sys2Proof

/-! ### Updates of one tile after another -/

theorem State.each_cons {α : Type} (s : State) (x : α) (xs : List α) (f : State → α → State) : s.each (x :: xs) f = (f s x).each xs f := rfl

/-- The same change of the tiles of a list, where a second time changes nothing more. -/
theorem State.each_updTile_tile {g : Tile → Tile} (hg : ∀ t, g (g t) = g t) (xs : List Nat) (l : Nat) : ∀ s : State,
    (s.each xs fun s x => s.updTile x g).tile l = if l ∈ xs then g (s.tile l) else s.tile l := by
  induction xs with
  | nil => exact fun s => rfl
  | cons x xs ih =>
    intro s
    rw [State.each_cons, ih, State.updTile_tile]
    by_cases hx : l = x
    · subst hx
      simp only [if_true, List.mem_cons, true_or, hg, ite_self]
    · simp only [List.mem_cons, hx, if_false, false_or]

/-- What holds of a state and of every update holds after all of them. -/
theorem State.each_inv {α : Type} {P : State → Prop} {f : State → α → State} (hf : ∀ t x, P t → P (f t x)) {s : State} (hs : P s)
    (xs : List α) : P (s.each xs f) := by
  induction xs generalizing s with
  | nil => exact hs
  | cons x xs ih => exact ih (hf s x hs)

/-! ### Steps that keep both judgements -/

/-- Both judges' histories of every tile stay. -/
structure JudgementsStand (s t : State) : Prop where
  tile : ∀ l, (t.tile l).cmp = (s.tile l).cmp ∧ (t.tile l).sco = (s.tile l).sco
  keeps : Keeps [.tiles, .outs, .sco] anyReg s t

theorem JudgementsStand.refl (s : State) : JudgementsStand s s := ⟨fun _ => ⟨rfl, rfl⟩, Keeps.refl _ _ s⟩

theorem JudgementsStand.keep {s t u : State} (h : JudgementsStand s t) (k : Keeps [.outs, .sco] anyReg t u) : JudgementsStand s u where
  tile l := by rw [k.tile (by decide)]; exact h.tile l
  keeps := h.keeps.trans (k.mono (by decide) fun _ => id)

theorem JudgementsStand.updTile {s t : State} (h : JudgementsStand s t) (l : Nat) {g : Tile → Tile} (hc : ∀ x, (g x).cmp = x.cmp)
    (hs : ∀ x, (g x).sco = x.sco) : JudgementsStand s (t.updTile l g) where
  tile x := by
    rw [State.updTile_tile]
    split
    · next e => subst e; rw [hc, hs]; exact h.tile x
    · exact h.tile x
  keeps := h.keeps.updTile _ _ (by decide)

theorem Keeps.scorerBlank {ps : List Part} {s t : State} (h : Keeps ps anyReg s t) (hout : .outs ∈ ps) (hsco : .sco ∈ ps) (o cause : Nat) :
    Keeps ps anyReg s (t.scorerBlank o cause) := by
  unfold State.scorerBlank State.setBlank
  dsimp only
  have hset : ∀ {u : State} (f : Fld) (v : Nat), Keeps ps anyReg s u → Keeps ps anyReg s (u.set f v) := fun f v hu => hu.set f v trivial
  split_ifs
  · exact h
  · exact ((hset _ _ (hset _ _ (hset _ _ (hset _ _ (hset _ _ h))))).updOut _ _ hout).logFull _ _ hsco trivial
  · exact (hset _ _ (hset _ _ (hset _ _ (hset _ _ h)))).logFull _ _ hsco trivial

theorem Keeps.disagree {s t : State} (h : Keeps [.outs, .sco] anyReg s t) (l : Nat) : Keeps [.outs, .sco] anyReg s (t.disagree l) := by
  have hset : ∀ {u : State} (f : Fld) (v : Nat), Keeps [.outs, .sco] anyReg s u → Keeps [.outs, .sco] anyReg s (u.set f v) :=
    fun f v hu => hu.set f v trivial
  have hlast := hset .CMP_LV_DIS_LAST_SCO_STATE (t.tile l).sco.state.code (hset .CMP_LV_DIS_LAST_CMP_STATE (t.tile l).cmp.state.code
    (hset .CMP_LV_DIS_LAST_TILE l (h.count (if (t.tile l).cmp.state.code < (t.tile l).sco.state.code then .CMP_LV_DISAGREE_SCORER_ONLY
      else .CMP_LV_DISAGREE_COMPOSER_ONLY) trivial)))
  exact (((hset _ _ hlast).withSco _ (by decide)).setB .CMP_LV_INT_STATUS_DISAGREE true trivial).logFull _ _ (by decide) trivial

/-! ### The verdicts (R80 to R84) -/

/-- R83: a tile on which the two judges differ is recorded, and the run of ticks in which only the Scorer folds it counts. -/
def State.compareTile (s : State) (l : Nat) : State :=
  (if (s.tile l).cmp.state ≠ (s.tile l).sco.state then s.disagree l else s).updTile l fun t => { t with
    disRun := if t.scorerOnlyFold then min (t.disRun + 1) 60 else 0 }

/-- R83: an output with many tiles that only the Scorer folds, or one for long, is blanked. -/
def State.blankDisputed (s : State) (o : Nat) : State :=
  let n := ((s.layersOf o).filter fun l => (s.tile l).scorerOnlyFold).length
  let long := (s.layersOf o).any fun l => decide (60 ≤ (s.tile l).disRun)
  if 4 ≤ n ∨ long = true then s.scorerBlank o causeVerdict else s

/-- R80: the Scorer's judgement of a tile in its inbox. -/
def Tile.withVerdict (t : Tile) : Tile := { t with inbox := some ⟨t.sco.state, t.sco.mask, t.sco.isRipe, t.cmp.state⟩ }

/-- The state before the delivery: every tile compared and every output judged. -/
def State.compared (s : State) : State := (s.each s.layersOn State.compareTile).each outputs State.blankDisputed

theorem State.scorerVerdict_eq (s : State) : s.scorerVerdict
    = { s.compared.each s.layersOn (fun s l => s.updTile l Tile.withVerdict) with
        sco := { (s.compared.each s.layersOn fun s l => s.updTile l Tile.withVerdict).sco with delivered := true } } := rfl

theorem State.judgementsStand_compared (s : State) : JudgementsStand s s.compared := by
  refine State.each_inv (fun t o h => ?_) (State.each_inv (fun t l h => ?_) (.refl s) _) _
  · unfold State.blankDisputed
    dsimp only
    split
    · exact h.keep ((Keeps.refl _ _ t).scorerBlank (by decide) (by decide) o _)
    · exact h
  · refine JudgementsStand.updTile ?_ l (fun _ => rfl) fun _ => rfl
    split
    · exact h.keep ((Keeps.refl _ _ t).disagree l)
    · exact h

theorem State.scorerVerdict_spec (s : State) : s.scorerVerdict.sco.delivered = true
    ∧ (∀ l ∈ s.layersOn, (s.scorerVerdict.tile l).inbox
        = some ⟨(s.tile l).sco.state, (s.tile l).sco.mask, (s.tile l).sco.isRipe, (s.tile l).cmp.state⟩)
    ∧ Keeps [.tiles, .outs, .sco] anyReg s s.scorerVerdict := by
  have hstand := s.judgementsStand_compared
  rw [State.scorerVerdict_eq]
  refine ⟨rfl, fun l hl => ?_, ?_⟩
  · have htile : (s.compared.each s.layersOn fun s l => s.updTile l Tile.withVerdict).tile l = (s.compared.tile l).withVerdict :=
      (State.each_updTile_tile (g := Tile.withVerdict) (fun _ => rfl) _ l _).trans (if_pos hl)
    obtain ⟨hcmp, hsco⟩ := hstand.tile l
    exact (congrArg Tile.inbox htile).trans (by rw [Tile.withVerdict, hcmp, hsco])
  · exact (Keeps.each (fun t l => (Keeps.refl _ _ t).updTile l _ (by decide)) _ hstand.keeps).withSco _ (by decide)

theorem State.verdictLate_keeps (s : State) : Keeps [.sco] (only []) s s.verdictLate := (Keeps.refl _ _ s).withSco _ List.mem_cons_self

end Sys2Proof.Machine
end

section
/-!
SUPPORT. The line lock of an output (R175), the pulses of SYNC_IN (R135, R136) and RESYNC (R139).
-/

namespace Sys2Proof.Machine

open Sys2Proof

/-! ### Rounding that the spec leaves free -/

theorem Keeps.fresh {ps : List Part} {W : Nat → Prop} {s t : State} (h : Keeps ps W s t) (hp : .freeCtr ∈ ps) : Keeps ps W s t.fresh.2 :=
  h.part rfl rfl fun p hn => by
    cases p
    case freeCtr => exact absurd hp hn
    all_goals rfl

theorem Keeps.roundFree {ps : List Part} {W : Nat → Prop} {s t : State} (h : Keeps ps W s t) (q : Rat) (hp : .freeCtr ∈ ps) :
    Keeps ps W s (t.roundFree q).2 := by
  unfold State.roundFree
  split
  · exact h
  · exact h.fresh hp

/-! ### The line lock (R132, R175) -/

@[simp] theorem State.set_outp (s : State) (f : Fld) (v o : Nat) : (s.set f v).outp o = s.outp o := rfl

/-- R132: the rate that the servo takes from a phase error, and the trim that it drives with it. -/
def State.servoRate (s : State) (o : Nat) (eps : Int) (p : Rat) : Rat := (s.outp o).rate + (eps : Rat) / p * 1000000 / 64
def State.servoTrim (s : State) (o : Nat) (eps : Int) (p : Rat) : Rat :=
  clampQ (-trimMax) trimMax (s.servoRate o eps p + (eps : Rat) / p * 1000000 / 8)

theorem State.servo_eq (s : State) (o : Nat) (eps : Int) (p : Rat) : s.servo o eps p
    = ((s.roundFree (s.servoTrim o eps p * 10)).2.updOut o fun x => { x with
        rate := clampQ (-trimMax) trimMax (s.servoRate o eps p), trim := s.servoTrim o eps p }).setI (.OUT_TRIM_TRIM o)
          (s.roundFree (s.servoTrim o eps p * 10)).1 := rfl

theorem State.servo_spec (s : State) (o : Nat) (eps : Int) (p : Rat) : ((s.servo o eps p).outp o).llkRun = (s.outp o).llkRun
    ∧ Keeps [.outs, .freeCtr] (only [Reg.OUT_TRIM o]) s (s.servo o eps p) := by
  have hround := (Keeps.refl [.freeCtr] (only []) s).roundFree (s.servoTrim o eps p * 10) (by decide)
  rw [State.servo_eq]
  refine ⟨?_, ((hround.mono (by decide) (by simp)).updOut o _ (by decide)).set _ _ List.mem_cons_self⟩
  rw [State.setI_eq, State.set_outp, State.updOut_self, hround.outp (by decide)]

/-- The state in which a line start is noted, before the servo takes its error. -/
def State.lineNoted (s : State) (o : Nat) (eps : Int) : State :=
  let run := if eps.natAbs ≤ 50 then min ((s.outp o).llkRun + 1) 64 else 0
  let s := (s.updOut o fun x => { x with llkRun := run }).setI (.CAP_LLK_ERR_EPS o) eps
  (s.setB (.CAP_LLK_LLK_LOCKED o) (run == 64)).setB (.CAP_LLK_FALLBACK o) false

theorem State.lineLock_locked {s : State} {o : Nat} (h : s.lineLocked o = true) (eps : Int) : s.lineLock o eps
    = (s.lineNoted o eps).servo o eps ((s.lineNoted o eps).pTick / (((s.lineNoted o eps).get (.OUT_VTIM0_TOTAL o) : Nat) : Rat)) := if_pos h

theorem State.lineLock_unlocked {s : State} {o : Nat} (h : s.lineLocked o = false) (eps : Int) : s.lineLock o eps = s :=
  if_neg (Bool.eq_false_iff.mp h)

theorem State.lineNoted_spec (s : State) (o : Nat) (eps : Int) :
    ((s.lineNoted o eps).outp o).llkRun = (if eps.natAbs ≤ 50 then min ((s.outp o).llkRun + 1) 64 else 0)
      ∧ (s.lineNoted o eps).on (.CAP_LLK_LLK_LOCKED o) = decide (eps.natAbs ≤ 50 ∧ 63 ≤ (s.outp o).llkRun)
      ∧ (s.lineNoted o eps).on (.CAP_LLK_FALLBACK o) = false
      ∧ Keeps [.outs] (only [Reg.CAP_LLK o, Reg.CAP_LLK_ERR o]) s (s.lineNoted o eps) := by
  have hrun : (s.lineNoted o eps).outp o = { s.outp o with llkRun := if eps.natAbs ≤ 50 then min ((s.outp o).llkRun + 1) 64 else 0 } :=
    by simp only [State.lineNoted, State.setB_eq, State.setI_eq, State.set_outp, State.updOut_self]
  refine ⟨congrArg OutSt.llkRun hrun, ?_, State.on_setB _ _ rfl rfl, ?_⟩
  · have hlocked : (s.lineNoted o eps).on (.CAP_LLK_LLK_LOCKED o) = ((if eps.natAbs ≤ 50 then min ((s.outp o).llkRun + 1) 64 else 0) == 64) :=
      (congrArg (· != 0) (State.get_set_other _ _ rfl)).trans (State.on_setB _ _ rfl rfl)
    rw [hlocked, beq_eq_decide]
    refine decide_eq_decide.mpr ?_
    split <;> omega
  · exact ((((Keeps.refl _ _ s).updOut o _ (by decide)).set (.CAP_LLK_ERR_EPS o) _ (List.mem_cons_of_mem _ List.mem_cons_self)).setB
      (.CAP_LLK_LLK_LOCKED o) _ List.mem_cons_self).setB (.CAP_LLK_FALLBACK o) _ List.mem_cons_self

theorem capLlk_ne_outTrim (o : Fin 16) : Reg.CAP_LLK o ≠ Reg.OUT_TRIM o := by
  unfold Reg.CAP_LLK Reg.OUT_TRIM
  omega

theorem State.lineLock_spec {s : State} {o : Fin 16} (h : s.lineLocked o = true) (eps : Int) :
    ((s.lineLock o eps).outp o).llkRun = (if eps.natAbs ≤ 50 then min ((s.outp o).llkRun + 1) 64 else 0)
      ∧ (s.lineLock o eps).on (.CAP_LLK_LLK_LOCKED o) = decide (eps.natAbs ≤ 50 ∧ 63 ≤ (s.outp o).llkRun)
      ∧ (s.lineLock o eps).on (.CAP_LLK_FALLBACK o) = false
      ∧ Keeps [.outs, .freeCtr] (only [Reg.CAP_LLK o, Reg.CAP_LLK_ERR o, Reg.OUT_TRIM o]) s (s.lineLock o eps) := by
  rw [State.lineLock_locked h]
  obtain ⟨hrun, hlocked, hfall, hnoted⟩ := s.lineNoted_spec o eps
  obtain ⟨hkeep, hservo⟩ := (s.lineNoted o eps).servo_spec o eps
    ((s.lineNoted o eps).pTick / (((s.lineNoted o eps).get (.OUT_VTIM0_TOTAL o) : Nat) : Rat))
  have hne : ¬ only [Reg.OUT_TRIM o] (Reg.CAP_LLK o) := by simpa using capLlk_ne_outTrim o
  exact ⟨hkeep.trans hrun, (hservo.on (.CAP_LLK_LLK_LOCKED o) hne).trans hlocked, (hservo.on (.CAP_LLK_FALLBACK o) hne).trans hfall,
    (hnoted.mono (by decide) (by simp +contextual)).trans (hservo.mono (by decide) (by simp +contextual))⟩

/-! ### The reference's measure and its window -/

/-- The period measured follows from the pulses and the time. -/
theorem State.measured_congr {s t : State} (hp : t.dealer.pulses = s.dealer.pulses) (ht : t.time.now = s.time.now) :
    t.measured = s.measured := by
  rw [State.measured, hp, ht, State.measured]

theorem State.showStable_spec (s : State) : s.showStable.dealer = s.dealer ∧ s.showStable.refState = s.refState
    ∧ s.showStable.on .OUT_REF_STATUS_STABLE = s.measured.isSome
    ∧ Keeps [.freeCtr] (only [Reg.OUT_REF_STATUS, Reg.OUT_REF_MEAS]) s s.showStable := by
  have hshow : ∀ (t : State) (b : Bool) (v : Nat), Keeps [.freeCtr] (only []) s t →
      let u := (t.setB .OUT_REF_STATUS_STABLE b).set .OUT_REF_MEAS_PERIOD v
      u.dealer = s.dealer ∧ u.refState = s.refState ∧ u.on .OUT_REF_STATUS_STABLE = b
        ∧ Keeps [.freeCtr] (only [Reg.OUT_REF_STATUS, Reg.OUT_REF_MEAS]) s u := fun t b v h =>
    ⟨h.same (p := .dealer) (by decide),
      (State.get_set_other _ _ rfl).trans ((State.get_set_other _ _ rfl).trans (h.get .OUT_REF_STATUS_STATE (by decide))),
      (congrArg (· != 0) (State.get_set_other _ _ rfl)).trans (State.on_setB _ _ rfl rfl),
      ((h.mono (by decide) (by simp)).setB .OUT_REF_STATUS_STABLE b List.mem_cons_self).set .OUT_REF_MEAS_PERIOD v
        (List.mem_cons_of_mem _ List.mem_cons_self)⟩
  unfold State.showStable
  cases s.measured with
  | none => exact hshow s false 0 (.refl _ _ s)
  | some m => exact hshow _ true _ ((Keeps.refl _ _ s).roundFree m (by decide))

/-- The window of the boundary last placed is judged, or there is none yet. -/
abbrev State.windowSettled (s : State) : Prop := s.dealer.judged = true ∨ s.dealer.started = false

theorem State.judge_settled {s : State} (h : s.windowSettled) : s.judge = s :=
  if_pos (.inr h.symm)

theorem State.windowPassed_settled {s : State} (h : s.windowSettled) : s.windowPassed = s := by
  rw [State.windowPassed, State.judge_settled h, ite_self]

theorem State.windowPassed_open {s : State} (h : wordDiff s.time.now s.dealer.edge ≤ 2000) : s.windowPassed = s :=
  if_pos (.inr (.inr h))

theorem State.judgeQualified_settled {s : State} (h : s.windowSettled) : s.judgeQualified = s := by
  unfold State.judgeQualified
  rw [State.judge_settled h]
  cases s.nearestErr with
  | none => rfl
  | some e => exact ite_self _

theorem State.judgeQualified_near {s : State} {e : Int} (h : s.nearestErr = some e) (he : e.natAbs ≤ 2000) : s.judgeQualified = s.judge := by
  simp only [State.judgeQualified, h, he, if_true]

/-! ### A pulse of the right edge (R135) -/

theorem State.syncPulse_ignored {s : State} {f : Bool} (h : s.syncMode = false ∨ f ≠ s.on .OUT_REF_CFG_EDGE) (w : Word) (n : Nat) :
    s.syncPulse w n f = s := if_pos h

theorem State.syncPulse_narrow {s : State} {w : Word} {n : Nat} {f : Bool} (hm : s.syncMode = true) (hf : f = s.on .OUT_REF_CFG_EDGE)
    (hwin : (s.at_ w).windowPassed = s.at_ w) (hn : n < s.get .OUT_REF_CFG_MIN_WIDTH * 10) :
    s.syncPulse w n f = (s.at_ w).count .OUT_REF_CNT_GLITCH := by
  unfold State.syncPulse
  rw [if_neg (by simp [hm, hf]), hwin]
  exact if_pos hn

/-- The pulse at `w` lies in the window of the boundary last placed or of the next. -/
def State.pulseInWindow (s : State) (w : Word) : Bool :=
  s.dealer.started && (decide ((wordDiff w s.dealer.edge).natAbs ≤ 2000)
    || decide ((wordDiff w (s.dealer.edge + BitVec.ofInt 32 s.nextAt)).natAbs ≤ 2000))

/-- A pulse of the right width is accepted: outside the windows it counts as a glitch; its interval is measured and shown. -/
def State.pulseTaken (s : State) (w : Word) : State :=
  ((if s.pulseInWindow w then s else s.count .OUT_REF_CNT_GLITCH).updDealer fun d => { d with pulses := (w :: d.pulses).take 4 }).showStable

/-- R136: a reference that is stable while the tick waits for one. -/
def State.meetIfWaiting (s : State) : State :=
  match s.measured with
  | some m => if s.refState = refAcquire ∨ s.refState = refHoldover then s.metStable m else s
  | none => s

theorem State.syncPulse_taken {s : State} {w : Word} {n : Nat} {f : Bool} (hm : s.syncMode = true) (hf : f = s.on .OUT_REF_CFG_EDGE)
    (hwin : (s.at_ w).windowPassed = s.at_ w) (hn : s.get .OUT_REF_CFG_MIN_WIDTH * 10 ≤ n) :
    s.syncPulse w n f = ((s.at_ w).pulseTaken w).judgeQualified.meetIfWaiting := by
  unfold State.syncPulse
  rw [if_neg (by simp [hm, hf]), hwin]
  exact if_neg (Nat.not_lt.mpr hn)

/-- The registers in which the acceptance of a pulse shows. -/
abbrev pulseRegs : List Nat := [Reg.OUT_REF_CNT, Reg.OUT_REF_STATUS, Reg.OUT_REF_MEAS]

/-- What the acceptance of a pulse leaves. -/
structure PulseTaken (w : Word) (s t : State) : Prop where
  dealer : t.dealer = { s.dealer with pulses := (w :: s.dealer.pulses).take 4 }
  state : t.refState = s.refState
  stable : t.on .OUT_REF_STATUS_STABLE = t.measured.isSome
  keeps : Keeps [.dealer, .freeCtr] (only pulseRegs) s t

theorem State.pulseTaken_spec (s : State) (w : Word) : PulseTaken w s (s.pulseTaken w) := by
  have hcount : Keeps [] (only [Reg.OUT_REF_CNT]) s (if s.pulseInWindow w then s else s.count .OUT_REF_CNT_GLITCH) := by
    split
    · exact .refl _ _ s
    · exact (Keeps.refl _ _ s).count _ List.mem_cons_self
  have hpulses := (hcount.mono (qs := [.dealer]) (by simp) fun _ => id).updDealer (fun d => { d with pulses := (w :: d.pulses).take 4 }) (by decide)
  obtain ⟨hdealer, hstate, hstable, hkeep⟩ := ((if s.pulseInWindow w then s else s.count .OUT_REF_CNT_GLITCH).updDealer fun d => { d with
    pulses := (w :: d.pulses).take 4 }).showStable_spec
  have hsame : (if s.pulseInWindow w then s else s.count .OUT_REF_CNT_GLITCH).dealer = s.dealer := hcount.same (p := .dealer) (by decide)
  refine ⟨hdealer.trans ?_, hstate.trans (hpulses.get .OUT_REF_STATUS_STATE (by decide)), hstable.trans ?_,
    (hpulses.mono (by decide) (by simp +contextual)).trans (hkeep.mono (by decide) (by simp +contextual))⟩
  · rw [State.updDealer_dealer, hsame]
  · refine congrArg Option.isSome (State.measured_congr ?_ ?_).symm
    · exact congrArg Dealer.pulses hdealer
    · exact congrArg TimeSt.now (hkeep.same (p := .time) (by decide))

theorem PulseTaken.measured {w : Word} {s t : State} (h : PulseTaken w s t) :
    t.measured = (s.updDealer fun d => { d with pulses := (w :: d.pulses).take 4 }).measured :=
  State.measured_congr (congrArg Dealer.pulses h.dealer) (congrArg TimeSt.now (h.keeps.same (p := .time) (by decide)))

theorem PulseTaken.settled {w : Word} {s t : State} (h : PulseTaken w s t) (hs : s.windowSettled) : t.windowSettled := by
  rw [State.windowSettled, h.dealer]
  exact hs

/-- In a state that waits for no reference the pulse has no further effect. -/
theorem State.meetIfWaiting_none {s : State} (ha : s.refState ≠ refAcquire) (hh : s.refState ≠ refHoldover) : s.meetIfWaiting = s := by
  unfold State.meetIfWaiting
  split
  · exact if_neg (by simp [ha, hh])
  · rfl

/-! ### A reference off the centre (R136) -/

theorem State.pCentre_congr {s t : State} (hp : t.pTick = s.pTick) (hc : t.dealer.centre = s.dealer.centre) : t.pCentre = s.pCentre := by
  rw [State.pCentre, hp, hc, State.pCentre]

theorem Keeps.pTick {ps : List Part} {W : Nat → Prop} {s t : State} (h : Keeps ps W s t) (hn : ¬ W Reg.DLR_TICK_NUM) (hd : ¬ W Reg.DLR_TICK_DEN) :
    t.pTick = s.pTick := by
  rw [State.pTick, h.get .DLR_TICK_NUM_NUM hn, h.get .DLR_TICK_DEN_DEN hd, State.pTick]

theorem State.metStable_rate {s : State} {m : Rat} (h : s.pCentre / 1000 < absQ (m - s.pCentre)) : s.metStable m
    = ((s.set .OUT_REF_STATUS_STATE refRate).setB .OUT_REF_STATUS_REF_RATE true).setB .OUT_INT_STATUS_REF_RATE true :=
  if_neg (not_le.mpr h)

theorem State.metStable_rate_spec {s : State} {m : Rat} (h : s.pCentre / 1000 < absQ (m - s.pCentre)) :
    (s.metStable m).refState = refRate ∧ (s.metStable m).on .OUT_REF_STATUS_REF_RATE = true ∧ (s.metStable m).on .OUT_INT_STATUS_REF_RATE = true
      ∧ (s.metStable m).on .OUT_REF_STATUS_STABLE = s.on .OUT_REF_STATUS_STABLE
      ∧ Keeps [] (only [Reg.OUT_REF_STATUS, Reg.OUT_INT_STATUS]) s (s.metStable m) := by
  rw [State.metStable_rate h]
  refine ⟨?_, ?_, State.on_setB _ _ rfl rfl, congrArg (· != 0) ?_, ?_⟩
  · exact (State.get_set_other _ _ rfl).trans ((State.get_set_other _ _ rfl).trans (State.get_set_self _ _ rfl))
  · exact (congrArg (· != 0) (State.get_set_other _ _ rfl)).trans (State.on_setB _ _ rfl rfl)
  · exact (State.get_set_other _ _ rfl).trans ((State.get_set_other _ _ rfl).trans (State.get_set_other _ _ rfl))
  · exact (((Keeps.refl _ _ s).set .OUT_REF_STATUS_STATE _ List.mem_cons_self).setB .OUT_REF_STATUS_REF_RATE _ List.mem_cons_self).setB
      .OUT_INT_STATUS_REF_RATE _ (List.mem_cons_of_mem _ List.mem_cons_self)

theorem State.meetIfWaiting_met {s : State} {m : Rat} (hm : s.measured = some m) (hw : s.refState = refAcquire ∨ s.refState = refHoldover) :
    s.meetIfWaiting = s.metStable m := by
  simp only [State.meetIfWaiting, hm, hw, if_true]

/-! ### A pulse at its boundary in TRACK (R136) -/

theorem State.nearestErr_congr {s t : State} (hp : t.dealer.pulses = s.dealer.pulses) (he : t.dealer.edge = s.dealer.edge) :
    t.nearestErr = s.nearestErr := by
  rw [State.nearestErr, hp, he, State.nearestErr]

/-- The window of a qualified pulse is noted: its error is shown, and no miss counts. -/
def State.noteQualified (s : State) (e : Int) : State :=
  ((s.setI .OUT_REF_ERR_ERR e).set .OUT_REF_STATUS_MISS_RUN 0).updDealer fun d => { d with missRun := 0 }

theorem State.refJudge_track {s : State} {e : Int} (hs : s.refState = refTrack) (h : s.nearestErr = some e) (he : e.natAbs ≤ 2000) :
    s.refJudge = ((s.noteQualified e).setDelta ((s.noteQualified e).nearCentre ((s.noteQualified e).dealer.delta + e * 4096)), (e : Rat)) := by
  simp only [State.refJudge, hs, h, he, refTrack, refSlew, refResync, decide_true, Bool.true_or, if_true, Bool.not_true, Bool.false_eq_true,
    Nat.reduceEqDiff, if_false]
  rfl

theorem State.nearCentre_congr {s t : State} (hp : t.pTick = s.pTick) (hc : t.dealer.centre = s.dealer.centre) (d : Int) :
    t.nearCentre d = s.nearCentre d := by
  rw [State.nearCentre, State.thousandth, hp, hc, State.nearCentre, State.thousandth]

theorem State.judge_track {s : State} {e : Int} (hm : s.syncMode = true) (hst : s.dealer.started = true) (hj : s.dealer.judged = false)
    (hs : s.refState = refTrack) (h : s.nearestErr = some e) (he : e.natAbs ≤ 2000) :
    s.judge.dealer = { s.dealer with judged := true, corr := (e : Rat), missRun := 0, delta := s.nearCentre (s.dealer.delta + e * 4096) }
      ∧ s.judge.refState = refTrack ∧ Keeps [.dealer] (only [Reg.OUT_REF_ERR, Reg.OUT_REF_STATUS, Reg.OUT_REF_DELTA]) s s.judge := by
  have hjudge : s.judge = s.refJudge.1.updDealer fun d => { d with judged := true, corr := s.refJudge.2 } := if_neg (by simp [hm, hst, hj])
  have hnote : Keeps [.dealer] (only [Reg.OUT_REF_ERR, Reg.OUT_REF_STATUS]) s (s.noteQualified e) :=
    (((Keeps.refl _ _ s).set .OUT_REF_ERR_ERR _ List.mem_cons_self).set .OUT_REF_STATUS_MISS_RUN 0
      (List.mem_cons_of_mem _ List.mem_cons_self)).updDealer _ (by decide)
  have hnear := State.nearCentre_congr (s := s) (t := s.noteQualified e) (hnote.pTick (by decide) (by decide)) rfl
  rw [hjudge, State.refJudge_track hs h he, hnear]
  refine ⟨rfl, ?_, ?_⟩
  · exact ((State.get_set_other _ _ rfl).trans ((State.get_set_other _ _ rfl).trans (State.get_set_other _ _ rfl))).trans hs
  · exact (((hnote.mono (fun _ => id) (by simp +contextual)).updDealer _ (by decide)).set .OUT_REF_DELTA_DELTA _ (by decide)).updDealer _ (by decide)

end Sys2Proof.Machine
end

section
/-!
SUPPORT. The pulses of SYNC_IN by the state of the reference (R135, R136), and RESYNC (R139). The statement O21.
-/

namespace Sys2Proof.Machine

open Sys2Proof

/-! ### The pulse by the state of the reference -/

theorem PulseTaken.keeps_at {w : Word} {s t : State} (h : PulseTaken w (s.at_ w) t) : Keeps [.dealer, .time, .freeCtr] (only pulseRegs) s t :=
  ((Keeps.refl _ _ s).at_ w (by decide)).trans (h.keeps.mono (by decide) fun _ => id)

theorem State.syncPulse_settled {s : State} {w : Word} {n : Nat} {f : Bool} (hm : s.syncMode = true) (hf : f = s.on .OUT_REF_CFG_EDGE)
    (hn : s.get .OUT_REF_CFG_MIN_WIDTH * 10 ≤ n) (hs : s.windowSettled) : s.syncPulse w n f = ((s.at_ w).pulseTaken w).meetIfWaiting := by
  rw [State.syncPulse_taken hm hf (State.windowPassed_settled (s := s.at_ w) hs) hn,
    State.judgeQualified_settled (((s.at_ w).pulseTaken_spec w).settled hs)]

/-- A pulse of the right edge and width, where no window waits for its judgement and no reference is awaited. -/
theorem State.syncPulse_kept {s : State} {w : Word} {n : Nat} {f : Bool} (hm : s.syncMode = true) (hf : f = s.on .OUT_REF_CFG_EDGE)
    (hn : s.get .OUT_REF_CFG_MIN_WIDTH * 10 ≤ n) (ha : s.refState ≠ refAcquire) (hh : s.refState ≠ refHoldover) (hs : s.windowSettled) :
    (s.syncPulse w n f).dealer = { s.dealer with pulses := (w :: s.dealer.pulses).take 4 }
      ∧ Keeps [.dealer, .time, .freeCtr] (only pulseRegs) s (s.syncPulse w n f) := by
  have htaken := (s.at_ w).pulseTaken_spec w
  rw [State.syncPulse_settled hm hf hn hs, State.meetIfWaiting_none (htaken.state ▸ ha) (htaken.state ▸ hh)]
  exact ⟨htaken.dealer, htaken.keeps_at⟩

/-- A pulse that makes the reference stable off the centre while one is awaited. -/
theorem State.syncPulse_rate {s : State} {w : Word} {n : Nat} {f : Bool} {m : Rat} (hm : s.syncMode = true) (hf : f = s.on .OUT_REF_CFG_EDGE)
    (hn : s.get .OUT_REF_CFG_MIN_WIDTH * 10 ≤ n) (hw : s.refState = refAcquire ∨ s.refState = refHoldover) (hs : s.windowSettled)
    (hmeas : ((s.at_ w).updDealer fun d => { d with pulses := (w :: d.pulses).take 4 }).measured = some m)
    (hoff : s.pCentre / 1000 < absQ (m - s.pCentre)) :
    (s.syncPulse w n f).refState = refRate ∧ (s.syncPulse w n f).on .OUT_REF_STATUS_REF_RATE = true
      ∧ (s.syncPulse w n f).on .OUT_INT_STATUS_REF_RATE = true ∧ (s.syncPulse w n f).on .OUT_REF_STATUS_STABLE = true
      ∧ Keeps [.dealer, .time, .freeCtr] (only [Reg.OUT_REF_CNT, Reg.OUT_REF_STATUS, Reg.OUT_REF_MEAS, Reg.OUT_INT_STATUS]) s
          (s.syncPulse w n f) := by
  have htaken := (s.at_ w).pulseTaken_spec w
  have hmet := htaken.measured.trans hmeas
  have hcentre : ((s.at_ w).pulseTaken w).pCentre = s.pCentre :=
    State.pCentre_congr (htaken.keeps_at.pTick (by decide) (by decide)) (by rw [htaken.dealer]; rfl)
  obtain ⟨hstate, hrate, hint, hstable, hkeep⟩ := State.metStable_rate_spec (m := m) (hcentre ▸ hoff)
  rw [State.syncPulse_settled hm hf hn hs, State.meetIfWaiting_met hmet (by rw [htaken.state]; exact hw)]
  refine ⟨hstate, hrate, hint, hstable.trans ?_, ?_⟩
  · rw [htaken.stable, hmet]
    rfl
  · exact (htaken.keeps_at.mono (fun _ => id) (by simp +contextual)).trans (hkeep.mono (by simp) (by simp +contextual))

/-- A pulse in the open window of its boundary in TRACK. -/
theorem State.syncPulse_track {s : State} {w : Word} {n : Nat} {f : Bool} {e : Int} (hm : s.syncMode = true) (hf : f = s.on .OUT_REF_CFG_EDGE)
    (hn : s.get .OUT_REF_CFG_MIN_WIDTH * 10 ≤ n) (ht : s.refState = refTrack) (hst : s.dealer.started = true) (hj : s.dealer.judged = false)
    (hw : wordDiff w s.dealer.edge ≤ 2000)
    (he : (s.updDealer fun d => { d with pulses := (w :: d.pulses).take 4 }).nearestErr = some e) (hq : e.natAbs ≤ 2000) :
    (s.syncPulse w n f).refState = refTrack
      ∧ (s.syncPulse w n f).dealer = { s.dealer with pulses := (w :: s.dealer.pulses).take 4, judged := true, corr := (e : Rat), missRun := 0,
                                                     delta := s.nearCentre (s.dealer.delta + e * 4096) }
      ∧ Keeps [.dealer, .time, .freeCtr] (only [Reg.OUT_REF_CNT, Reg.OUT_REF_STATUS, Reg.OUT_REF_MEAS, Reg.OUT_REF_ERR, Reg.OUT_REF_DELTA]) s
          (s.syncPulse w n f) := by
  have htaken := (s.at_ w).pulseTaken_spec w
  have hkeep := htaken.keeps_at
  have hnear : ((s.at_ w).pulseTaken w).nearestErr = some e :=
    (State.nearestErr_congr (congrArg Dealer.pulses htaken.dealer) (congrArg Dealer.edge htaken.dealer)).trans he
  have hmode : ((s.at_ w).pulseTaken w).syncMode = true := (congrArg (· == 1) (hkeep.get .DLR_TICK_CFG_TICK_SRC (by decide))).trans hm
  obtain ⟨hdealer, hstate, hjudge⟩ := State.judge_track hmode ((congrArg Dealer.started htaken.dealer).trans hst)
    ((congrArg Dealer.judged htaken.dealer).trans hj) (htaken.state.trans ht) hnear hq
  have hcentre := State.nearCentre_congr (s := s) (t := (s.at_ w).pulseTaken w) (hkeep.pTick (by decide) (by decide))
    (by rw [htaken.dealer]; rfl)
  rw [State.syncPulse_taken hm hf (State.windowPassed_open (s := s.at_ w) hw) hn, State.judgeQualified_near hnear hq,
    State.meetIfWaiting_none (by rw [hstate]; decide) (by rw [hstate]; decide)]
  refine ⟨hstate, ?_, (hkeep.mono (fun _ => id) (by simp +contextual)).trans (hjudge.mono (by decide) (by simp +contextual))⟩
  rw [hdealer, hcentre, htaken.dealer]
  rfl

/-! ### RESYNC (R139) -/

/-- R139: the code that answers a RESYNC. -/
def State.resyncCode (s : State) : Nat :=
  if s.on .OUT_REF_STATUS_REF_RATE = false then 0x02
  else match s.measured with
    | some m => if absQ (m - s.pTick) ≤ s.pTick * 3 / 1000 then 0x00 else 0x03
    | none => 0x03

theorem State.resyncGo_eq (s : State) : s.resyncGo = if s.resyncCode = 0
    then (s.set .OUT_RESYNC_CODE s.resyncCode).updDealer fun d => { d with resyncReq := true } else s.set .OUT_RESYNC_CODE s.resyncCode := rfl

theorem State.resyncCode_state {s : State} (h : s.on .OUT_REF_STATUS_REF_RATE = false) : s.resyncCode = 2 := if_pos h

theorem State.resyncCode_ok {s : State} {m : Rat} (hr : s.on .OUT_REF_STATUS_REF_RATE = true) (hm : s.measured = some m)
    (h : absQ (m - s.pTick) ≤ s.pTick * 3 / 1000) : s.resyncCode = 0 := by
  simp only [State.resyncCode, hr, hm, h, Bool.true_eq_false, if_false, if_true]

theorem State.resyncCode_range {s : State} (hr : s.on .OUT_REF_STATUS_REF_RATE = true)
    (h : s.measured = none ∨ ∃ m, s.measured = some m ∧ s.pTick * 3 / 1000 < absQ (m - s.pTick)) : s.resyncCode = 3 := by
  rcases h with hm | ⟨m, hm, hfar⟩
  · simp only [State.resyncCode, hr, hm, Bool.true_eq_false, if_false]
  · simp only [State.resyncCode, hr, hm, not_le.mpr hfar, Bool.true_eq_false, if_false]

/-- The registers that a RESYNC may change, with FAULT_N's. -/
abbrev resyncRegs : List Nat := faultRegs ++ [Reg.OUT_RESYNC]

theorem State.settleFault_resyncCode {s : State} {c : Nat} (h : s.get .OUT_RESYNC_CODE = c) : s.settleFault.get .OUT_RESYNC_CODE = c :=
  (s.settleFault_keeps.get .OUT_RESYNC_CODE (by decide)).trans h

/-- A RESYNC with another code than OK is answered only. -/
theorem State.resyncGo_refused {s : State} {c : Nat} (h : s.resyncCode = c) (h0 : c ≠ 0) (hc : c < 256) :
    s.resyncGo.settleFault.get .OUT_RESYNC_CODE = c ∧ s.resyncGo.settleFault.dealer = s.dealer
      ∧ Keeps [] (only resyncRegs) s s.resyncGo.settleFault := by
  have hgo : s.resyncGo = s.set .OUT_RESYNC_CODE c := by rw [State.resyncGo_eq, h]; exact if_neg h0
  have hkeep : Keeps [] (only resyncRegs) s (s.set .OUT_RESYNC_CODE c).settleFault :=
    ((Keeps.refl _ _ s).set .OUT_RESYNC_CODE c (by decide)).settleFault (by decide) (by decide) (by decide)
  rw [hgo]
  exact ⟨State.settleFault_resyncCode ((State.get_set_self _ _ rfl).trans (Nat.mod_eq_of_lt hc)), hkeep.same (p := .dealer) (by decide), hkeep⟩

/-- A RESYNC with code OK is requested. -/
theorem State.resyncGo_requested {s : State} (h : s.resyncCode = 0) : s.resyncGo.settleFault.get .OUT_RESYNC_CODE = 0
      ∧ s.resyncGo.settleFault.dealer = { s.dealer with resyncReq := true } ∧ Keeps [.dealer] (only resyncRegs) s s.resyncGo.settleFault := by
  have hgo : s.resyncGo = (s.set .OUT_RESYNC_CODE 0).updDealer fun d => { d with resyncReq := true } := by
    rw [State.resyncGo_eq, h]; exact if_pos rfl
  rw [hgo]
  refine ⟨State.settleFault_resyncCode (State.get_set_self s (f := .OUT_RESYNC_CODE) 0 rfl),
    (State.settleFault_keeps _).same (p := .dealer) (by decide), ?_⟩
  exact (((Keeps.refl _ _ s).set .OUT_RESYNC_CODE 0 (by decide)).updDealer _ (by decide)).settleFault (by decide) (by decide) (by decide)

/-! ### The statement -/

/-- Settles O21: the check of a frame that waits and of none, the delivery in time and late, the line start of a locked and of an
unlocked output, then the pulse and the RESYNC by the state of the reference. -/
theorem scorerJudgesFramesAndDelivers : Obligations.ScorerJudgesFramesAndDelivers := by
  refine ⟨?checked, ?unchecked, ?delivered, ?late, ?locked, ?unlocked, ?ignored, ?narrow, ?kept, ?noRate, ?requested, ?rate, ?track, ?range⟩
  case checked =>
    intro o s hs hp
    refine gives_scorer (fun s => (s.checkSignatures o).settleFault) hs rfl ?_
    obtain ⟨hmis, hpend, hrun, hhist, hother, hkeep⟩ :=
      (State.checked_checkSignatures (s := s.quiet) hp).stands (CheckStands.settleFault (.refl o _))
    refine ⟨hmis, hpend, ?_, hhist, hother, (Keeps.quiet _ _ s).trans hkeep⟩
    exact hrun.trans (if_congr decide_eq_true_iff rfl rfl)
  case unchecked =>
    intro o s hs hp
    refine gives_scorer (fun s => (s.checkSignatures o).settleFault) hs rfl ?_
    rw [State.checkSignatures_idle (s := s.quiet) hp]
    exact (Keeps.quiet _ _ s).trans s.quiet.settleFault_keeps
  case delivered =>
    intro s hs
    refine gives_scorer (fun s => s.scorerVerdict.settleFault) hs rfl ?_
    obtain ⟨hdel, hinbox, hkeep⟩ := s.quiet.scorerVerdict_spec
    have hfault := s.quiet.scorerVerdict.settleFault_keeps
    refine ⟨(congrArg ScorerSt.delivered (hfault.same (p := .sco) (by decide))).trans hdel, fun l hl => ?_, ?_⟩
    · rw [hfault.tile (by decide)]
      exact hinbox l hl
    · exact ((Keeps.quiet _ _ s).trans hkeep).trans (hfault.mono (by simp) fun _ _ => trivial)
  case late =>
    intro s hs
    refine gives_scorer (fun s => s.verdictLate.settleFault) hs rfl ?_
    have hfault := s.quiet.verdictLate.settleFault_keeps
    refine ⟨hfault.same (p := .sco) (by decide), ?_⟩
    exact ((Keeps.quiet _ _ s).trans (s.quiet.verdictLate_keeps.mono (fun _ => id) (by simp))).trans (hfault.mono (by simp) fun _ => id)
  case locked =>
    intro o eps s hu hl
    refine gives_awake (fun s => s.lineLock o eps) hu rfl ?_
    obtain ⟨hrun, hlocked, hfall, hkeep⟩ := State.lineLock_spec (s := s.quiet) hl eps
    exact ⟨hrun, hlocked, hfall, (Keeps.quiet _ _ s).trans hkeep⟩
  case unlocked =>
    intro o eps s hu hl
    exact congrArg Host.Outcome.next ((State.awake_up s _ hu).trans (State.lineLock_unlocked (s := s.quiet) hl eps))
  case ignored =>
    intro w n f s hu h
    exact congrArg Host.Outcome.next ((State.awake_up s _ hu).trans (State.syncPulse_ignored (s := s.quiet) h w n))
  case narrow =>
    intro w n f s hu hm hf hn hs
    refine gives_awake (fun s => s.syncPulse w n f) hu rfl ?_
    rw [State.syncPulse_narrow (s := s.quiet) hm hf (State.windowPassed_settled (s := s.quiet.at_ w) hs) hn]
    exact ⟨State.get_count _ _ _ (by decide), rfl, ((Keeps.quiet _ _ s).at_ w (by decide)).count _ (by decide)⟩
  case kept =>
    intro w n f s hu hm hf hn ha hh hs
    refine gives_awake (fun s => s.syncPulse w n f) hu rfl ?_
    obtain ⟨hdealer, hkeep⟩ := State.syncPulse_kept (s := s.quiet) (w := w) hm hf hn ha hh hs
    exact ⟨hdealer, (Keeps.quiet _ _ s).trans hkeep⟩
  case noRate =>
    intro s hu hr
    refine gives_awake (fun s => s.resyncGo.settleFault) hu rfl ?_
    obtain ⟨hcode, hdealer, hkeep⟩ := State.resyncGo_refused (s := s.quiet) (State.resyncCode_state hr) (by decide) (by decide)
    exact ⟨hcode, hdealer, (Keeps.quiet _ _ s).trans hkeep⟩
  case requested =>
    intro m s hu hr hm hnear
    refine gives_awake (fun s => s.resyncGo.settleFault) hu rfl ?_
    obtain ⟨hcode, hdealer, hkeep⟩ := State.resyncGo_requested (s := s.quiet) (State.resyncCode_ok hr hm hnear)
    exact ⟨hcode, hdealer, (Keeps.quiet _ _ s).trans hkeep⟩
  case rate =>
    intro w n f m s hu hm hf hn hw hs hmeas hoff
    refine gives_awake (fun s => s.syncPulse w n f) hu rfl ?_
    obtain ⟨hstate, hrate, hint, hstable, hkeep⟩ := State.syncPulse_rate (s := s.quiet) hm hf hn hw hs hmeas hoff
    exact ⟨hstate, hrate, hint, hstable, (Keeps.quiet _ _ s).trans hkeep⟩
  case track =>
    intro w n f e s hu hm hf hn ht hst hj hw he hq
    refine gives_awake (fun s => s.syncPulse w n f) hu rfl ?_
    obtain ⟨hstate, hdealer, hkeep⟩ := State.syncPulse_track (s := s.quiet) hm hf hn ht hst hj hw he hq
    exact ⟨hstate, hdealer, (Keeps.quiet _ _ s).trans hkeep⟩
  case range =>
    intro s hu hr h
    refine gives_awake (fun s => s.resyncGo.settleFault) hu rfl ?_
    obtain ⟨hcode, hdealer, hkeep⟩ := State.resyncGo_refused (s := s.quiet) (State.resyncCode_range hr h) (by decide) (by decide)
    exact ⟨hcode, hdealer, (Keeps.quiet _ _ s).trans hkeep⟩

end Sys2Proof.Machine
end

section
/-!
SUPPORT. The state shown for a tile (R82). The statement O59.
-/

namespace Sys2Proof.Machine

open Sys2Proof

theorem TileState.code_le (a : TileState) : a.code ≤ 3 := by cases a <;> decide

/-- The code grows with the restriction, so the more restrictive state has the greater code. -/
theorem moreRestrictive_code (a b : TileState) : (moreRestrictive a b).code = max a.code b.code := by
  rw [moreRestrictive, apply_ite TileState.code]
  split <;> omega

theorem moreRestrictive_folded (a : TileState) : moreRestrictive a .folded = .folded := by
  cases a <;> rfl

/-- A tile that the composer folds shows the composer's reasons. -/
theorem State.shownState_folded {s : State} {l : Nat} (h : (s.tile l).cmp.state = .folded) :
    s.shownState l = (.folded, (s.tile l).cmp.reason, (s.tile l).cmp.mask, (s.tile l).cmp.mask == reasonBit 9) := by
  simp only [State.shownState, h, reduceCtorEq, if_false, if_true]

/-- A tile that only the Scorer folds shows SCORER. -/
theorem State.shownState_scorer {s : State} {l : Nat} (he : (s.tile l).cmp.state ≠ .empty) (hf : (s.tile l).cmp.state ≠ .folded)
    (h : moreRestrictive (s.tile l).cmp.state (s.tile l).implied = .folded) : s.shownState l = (.folded, 9, reasonBit 9, true) := by
  simp only [State.shownState, he, hf, h, if_false]

/-- A tile that neither folds shows the more restrictive state, without a reason. -/
theorem State.shownState_unfolded {s : State} {l : Nat} (he : (s.tile l).cmp.state ≠ .empty) (hf : (s.tile l).cmp.state ≠ .folded)
    (h : moreRestrictive (s.tile l).cmp.state (s.tile l).implied ≠ .folded) :
    s.shownState l = (moreRestrictive (s.tile l).cmp.state (s.tile l).implied, 0, 0, false) := by
  cases hm : moreRestrictive (s.tile l).cmp.state (s.tile l).implied with
  | folded => exact absurd hm h
  | _ => simp only [State.shownState, he, hf, hm, if_false]

theorem State.shownState_code {s : State} {l : Nat} (he : (s.tile l).cmp.state ≠ .empty) :
    (s.shownState l).1.code = max (s.tile l).cmp.state.code (s.tile l).implied.code := by
  by_cases hf : (s.tile l).cmp.state = .folded
  · rw [State.shownState_folded hf, hf]
    exact (max_eq_left (TileState.code_le _)).symm
  rw [← moreRestrictive_code]
  by_cases h : moreRestrictive (s.tile l).cmp.state (s.tile l).implied = .folded
  · rw [State.shownState_scorer he hf h, h]
  · rw [State.shownState_unfolded he hf h]

theorem State.impliedBy_held {s : State} {l : Nat} (h : s.scorerHolds l = true) : s.impliedBy l = .folded := if_pos h

theorem State.impliedBy_missing {s : State} {l : Nat} (hh : s.scorerHolds l = false) (hok : s.on .CMP_LV_STATUS_SCORER_OK = false) :
    s.impliedBy l = (s.tile l).implied :=
  (if_neg (Bool.eq_false_iff.mp hh)).trans (if_pos hok)

theorem State.impliedBy_verdict {s : State} {l : Nat} {v : Verdict} (hh : s.scorerHolds l = false)
    (hok : s.on .CMP_LV_STATUS_SCORER_OK = true) (hv : (s.tile l).verdict = some v) :
    s.impliedBy l = if v.state = .folded ∧ v.ripe = false then .folded else if v.state = .degraded then .degraded else .live := by
  simp only [State.impliedBy, hh, hok, hv, Bool.false_eq_true, Bool.true_eq_false, if_false]

/-- Settles O59: the code of the state shown, the tile that only the Scorer folds, and the implied state by the verdict. -/
theorem shownStateIsTheMoreRestrictive : Obligations.ShownStateIsTheMoreRestrictive := by
  refine ⟨fun l s he => State.shownState_code he, ?scorerFold, fun l s => State.impliedBy_held, ?verdict, fun l s => State.impliedBy_missing⟩
  case scorerFold =>
    intro l s he hf hi
    exact State.shownState_scorer he hf (by rw [hi, moreRestrictive_folded])
  case verdict => exact fun l v s => State.impliedBy_verdict

end Sys2Proof.Machine
end

section
/-!
SUPPORT. The reset words of register families. The statement O60.
-/

namespace Sys2Proof.Machine

open Sys2Proof

/-! ### Families that share no address -/

/-- The last offset that a family's indices reach. -/
def dimsSpan : List (Nat × Nat) → Nat
  | [] => 0
  | (count, stride) :: rest => (count - 1) * stride + dimsSpan rest

theorem dimsHit_le_span {dims : List (Nat × Nat)} {off : Nat} (h : dimsHit dims off = true) : off ≤ dimsSpan dims := by
  induction dims generalizing off with
  | nil => exact (beq_iff_eq.mp h).le
  | cons e rest ih =>
    obtain ⟨count, stride⟩ := e
    simp only [dimsHit, Bool.and_eq_true, decide_eq_true_eq] at h
    obtain ⟨hcount, hrest⟩ := h
    calc off = off / stride * stride + off % stride := (Nat.div_add_mod' off stride).symm
      _ ≤ (count - 1) * stride + dimsSpan rest := Nat.add_le_add (Nat.mul_le_mul_right _ (by omega)) (ih hrest)

theorem dimsHit_mod {dims : List (Nat × Nat)} {g : Nat} (hg : ∀ e ∈ dims, g ∣ e.2) {off : Nat} (h : dimsHit dims off = true) : g ∣ off := by
  induction dims generalizing off with
  | nil => simp_all [dimsHit]
  | cons e rest ih =>
    simp only [dimsHit, Bool.and_eq_true] at h
    have hr : g ∣ off % e.2 := ih (fun x hx => hg x (List.mem_cons_of_mem _ hx)) h.2
    exact (Nat.dvd_mod_iff (hg e List.mem_cons_self)).mp hr

/-- The greatest step that divides every stride of a family. -/
def dimsStep (dims : List (Nat × Nat)) : Nat := dims.foldr (fun e g => e.2.gcd g) 0

theorem dimsStep_dvd {dims : List (Nat × Nat)} : ∀ e ∈ dims, dimsStep dims ∣ e.2 := by
  induction dims with
  | nil => simp
  | cons e rest ih =>
    exact List.forall_mem_cons.mpr ⟨Nat.gcd_dvd_left .., fun x hx => (Nat.gcd_dvd_right ..).trans (ih x hx)⟩

/-- A check that two families share no address: one ends before the other begins, or their addresses differ by their steps. -/
def RegDesc.apart (d e : RegDesc) : Bool :=
  decide (d.base + dimsSpan d.dims < e.base) || decide (e.base + dimsSpan e.dims < d.base)
    || (let g := (dimsStep d.dims).gcd (dimsStep e.dims); d.base % g != e.base % g)

theorem RegDesc.hit_le {d : RegDesc} {a : Nat} (h : d.hit a = true) : d.base ≤ a ∧ a ≤ d.base + dimsSpan d.dims := by
  simp only [RegDesc.hit, Bool.and_eq_true, decide_eq_true_eq] at h
  have := dimsHit_le_span h.2
  omega

theorem RegDesc.hit_mod {d : RegDesc} {a g : Nat} (hg : g ∣ dimsStep d.dims) (h : d.hit a = true) : a % g = d.base % g := by
  simp only [RegDesc.hit, Bool.and_eq_true, decide_eq_true_eq] at h
  have hdvd : g ∣ a - d.base := dimsHit_mod (fun e he => hg.trans (dimsStep_dvd e he)) h.2
  exact ((Nat.modEq_iff_dvd' h.1).mpr hdvd).symm

theorem RegDesc.not_hit_of_apart {d e : RegDesc} {a : Nat} (h : d.apart e = true) (hd : d.hit a = true) : e.hit a = false := by
  refine Bool.eq_false_iff.mpr fun he => ?_
  have hdle := RegDesc.hit_le hd
  have hele := RegDesc.hit_le he
  simp only [RegDesc.apart, Bool.or_eq_true, decide_eq_true_eq, bne_iff_ne] at h
  rcases h with (h | h) | h
  · omega
  · omega
  · exact h ((RegDesc.hit_mod (Nat.gcd_dvd_left ..) hd).symm.trans (RegDesc.hit_mod (Nat.gcd_dvd_right ..) he))

/-! ### Reset words -/

/-- Is the family of the register at `b` apart from every other family of its block? -/
def familyAlone (b : Nat) (d : RegDesc) : Bool :=
  (blockRegs b).find? (·.hit b) == some d && (blockRegs b).all fun e => e == d || d.apart e

/-- The members of such a family reset alike. -/
theorem regReset_eq_of_family {a b : Nat} {d : RegDesc} (hb : a / 0x10000 = b / 0x10000) (hd : familyAlone b d = true) (ha : d.hit a = true) :
    regReset a = regReset b := by
  simp only [familyAlone, Bool.and_eq_true, beq_iff_eq, List.all_eq_true, Bool.or_eq_true] at hd
  obtain ⟨hdb, halone⟩ := hd
  have hfind : (blockRegs b).find? (·.hit a) = some d := by
    cases hf : (blockRegs b).find? (·.hit a) with
    | none => exact absurd ha (List.find?_eq_none.mp hf d (List.mem_of_find?_eq_some hdb))
    | some e =>
      have hit : e.hit a = true := List.find?_some (p := fun x : RegDesc => x.hit a) hf
      refine congrArg some ((halone e (List.mem_of_find?_eq_some hf)).resolve_right fun hda => ?_)
      rw [RegDesc.not_hit_of_apart hda ha] at hit
      cases hit
  have hblock : blockRegs a = blockRegs b := by simp only [blockRegs, hb]
  simp only [regReset, hblock, hfind, hdb]

/-- Do the registers from `b` on form a family of these dimensions, apart from the others of their block? -/
def familyAt (b : Nat) (dims : List (Nat × Nat)) : Bool :=
  ((blockRegs b).find? (·.hit b)).any fun d => d.base == b && d.dims == dims && familyAlone b d

theorem regReset_family {a b : Nat} {dims : List (Nat × Nat)} (h : familyAt b dims = true) (hle : b ≤ a)
    (hoff : dimsHit dims (a - b) = true) (hb : a / 0x10000 = b / 0x10000) : regReset a = regReset b := by
  simp only [familyAt, Option.any_eq_true, Bool.and_eq_true, beq_iff_eq] at h
  obtain ⟨d, -, ⟨hbase, hdims⟩, halone⟩ := h
  exact regReset_eq_of_family hb halone (by simp [RegDesc.hit, hbase, hdims, hle, hoff])

/-! ### Fields in the state after reset -/

theorem State.reset_word (a : Nat) : State.reset.word a = regReset a := State.word_of_nil rfl a

theorem State.reset_get_congr {a b : Nat} (h : regReset a = regReset b) (lo wid : Nat) :
    State.reset.get ⟨a, lo, wid⟩ = State.reset.get ⟨b, lo, wid⟩ := by
  simp only [State.get, State.reset_word, h, Fld.of]

/-- A register of a layer, of a row of 512 that lies in one block, resets as that of layer 0. -/
theorem regReset_layer {b l : Nat} (h : familyAt b [(512, 0x20)] = true) (hl : l < 512) (hb : b % 0x10000 + 0x20 * 511 < 0x10000) :
    regReset (b + 0x20 * l) = regReset b :=
  regReset_family h (Nat.le_add_right ..) (by simp [dimsHit, hl]) (by omega)

theorem regReset_cmpLvCon1 {l : Nat} (hl : l < 512) : regReset (Reg.CMP_LV_CON1 l) = regReset (Reg.CMP_LV_CON1 0) :=
  regReset_layer (b := Reg.CMP_LV_CON1 0) (by decide +kernel) hl (by decide)

theorem regReset_cmpLvCon2 {l : Nat} (hl : l < 512) : regReset (Reg.CMP_LV_CON2 l) = regReset (Reg.CMP_LV_CON2 0) :=
  regReset_layer (b := Reg.CMP_LV_CON2 0) (by decide +kernel) hl (by decide)

theorem regReset_cmpLvAge {l : Nat} (hl : l < 512) : regReset (Reg.CMP_LV_AGE l) = regReset (Reg.CMP_LV_AGE 0) :=
  regReset_layer (b := Reg.CMP_LV_AGE 0) (by decide +kernel) hl (by decide)

theorem regReset_cmpVlSrc {l : Nat} (hl : l < 512) : regReset (Reg.CMP_VL_SRC l) = regReset (Reg.CMP_VL_SRC 0) :=
  regReset_layer (b := Reg.CMP_VL_SRC 0) (by decide +kernel) hl (by decide)

theorem regReset_cmpScAvg {o k : Nat} (ho : o < 16) (hk : k < 16) : regReset (Reg.CMP_SC_AVG o k) = regReset (Reg.CMP_SC_AVG 0 0) := by
  have hoff : Reg.CMP_SC_AVG o k - Reg.CMP_SC_AVG 0 0 = 0x100 * o + 0x10 * k := by unfold Reg.CMP_SC_AVG; omega
  refine regReset_family (dims := [(16, 0x100), (16, 0x10)]) (by decide +kernel) (by unfold Reg.CMP_SC_AVG; omega) ?_
    (by unfold Reg.CMP_SC_AVG; omega)
  simp only [hoff, dimsHit, Bool.and_eq_true, decide_eq_true_eq, beq_iff_eq]
  omega

/-- Settles O60: the large families by their first registers, the others register by register. -/
theorem resetRegistersHoldTheirTables : Obligations.ResetRegistersHoldTheirTables := by
  refine ⟨?layers, ?outputs, ?scalers, ?codec, ?serial, ?memHigh, ?memLow, ?reads, ?clock, ?ptp, ?touch, ?audio, ?alarm, ?check, ?matrix,
    ?regions, State.reset_word⟩
  case layers =>
    intro l hl
    have hcon1 := State.reset_get_congr (regReset_cmpLvCon1 hl)
    have hcon2 := State.reset_get_congr (regReset_cmpLvCon2 hl)
    have hage := State.reset_get_congr (regReset_cmpLvAge hl)
    have hsrc := State.reset_get_congr (regReset_cmpVlSrc hl)
    refine ⟨(hcon1 _ _).trans ?_, (hcon2 _ _).trans ?_, (hage _ _).trans ?_, congrArg (· != 0) (hsrc _ _) |>.trans ?_, (hsrc _ _).trans ?_⟩ <;>
      decide +kernel
  case scalers =>
    intro o ho k hk
    have havg := State.reset_get_congr (regReset_cmpScAvg ho (Nat.lt_trans hk (by decide)))
    exact ⟨(havg _ _).trans (by decide +kernel), (havg _ _).trans (by decide +kernel)⟩
  case outputs => decide +kernel
  case codec => decide +kernel
  case serial => decide +kernel
  case memHigh => decide +kernel
  case memLow => decide +kernel
  case reads => decide +kernel
  case clock => decide +kernel
  case ptp => decide +kernel
  case touch => decide +kernel
  case audio => decide +kernel
  case alarm => decide +kernel
  case check => decide +kernel
  case matrix => decide +kernel
  case regions => decide +kernel

end Sys2Proof.Machine
end

section
/-!
SUPPORT. The front edge of a change: GO (R122, R123), the admission (R34), the deal point (R141 to R143), and the changes held while
commands run on (R347, R348). The statement O16.
-/

namespace Sys2Proof.Machine

open Sys2Proof

/-! ### Frames of the pending set -/

theorem Keeps.dropPend {ps : List Part} {W : Nat → Prop} {s t : State} (h : Keeps ps W s t) (hp : .pend ∈ ps) (hy : .pendLayout ∈ ps) :
    Keeps ps W s { t with pend := [], pendLayout := none } :=
  h.part rfl rfl fun p hn => by
    cases p
    case pend => exact absurd hp hn
    case pendLayout => exact absurd hy hn
    all_goals rfl

theorem Keeps.runs {ps : List Part} {W : Nat → Prop} {s t : State} (h : Keeps ps W s t) (hc : .cmd ∉ ps) : t.cmd.runs = s.cmd.runs :=
  congrArg CmdSt.runs (h.same (p := .cmd) hc)

theorem State.up_of_dealing {s : State} (h : s.dealing = true) : s.up := by
  have hst : s.devState = stDealing := beq_iff_eq.mp h
  rw [State.up, hst]
  decide

/-! ### The answer to a commit (R122) -/

/-- A commit that is refused shows its code and reason and raises COMMIT_REFUSED. -/
theorem State.commitCode_spec (s : State) {code reason : Nat} (hc : code < 256) (hr : reason < 16) :
    (s.commitCode code reason).get .CMP_COMMIT_STATUS_CODE = code ∧ (s.commitCode code reason).get .CMP_COMMIT_STATUS_REASON = reason
      ∧ (s.commitCode code reason).on .CMP_INT_STATUS_COMMIT_REFUSED = true
      ∧ Keeps [] (only [Reg.CMP_COMMIT_STATUS, Reg.CMP_INT_STATUS]) s (s.commitCode code reason) := by
  refine ⟨?_, ?_, State.on_setB _ _ rfl rfl, ?_⟩
  · exact (State.get_set_other _ _ rfl).trans ((State.get_set_other _ _ rfl).trans
      ((State.get_set_self _ _ rfl).trans (Nat.mod_eq_of_lt hc)))
  · exact (State.get_set_other _ _ rfl).trans ((State.get_set_self _ _ rfl).trans (Nat.mod_eq_of_lt hr))
  · exact (((Keeps.refl _ _ s).set .CMP_COMMIT_STATUS_CODE _ (by decide)).set .CMP_COMMIT_STATUS_REASON _ (by decide)).setB
      .CMP_INT_STATUS_COMMIT_REFUSED _ (by decide)

/-! ### GO (R122, R123) -/

theorem State.commitGo_outside {s : State} (h : s.dealing = false) (w : Word) :
    s.commitGo w = { (s.at_ w).commitCode 2 0 with pend := [], pendLayout := none } := if_pos h

/-- The change that GO submits at `w`. -/
def State.goChange (s : State) (w : Word) : Change :=
  { id := s.dealer.nextChange, kind := .commit s.pend s.pendLayout, stage := .waiting, place := [], dueTick := s.onTimeTick w }

/-- GO is taken: the Dealer holds its change. -/
def State.goTaken (s : State) (w : Word) : State :=
  (((s.at_ w).updDealer fun d => { d with changes := d.changes ++ [s.goChange w], nextChange := d.nextChange + 1 }).setB
    .CMP_COMMIT_PENDING true).showPending

/-- In DEALING a GO is answered BUSY with a commit in hand, and also by the Dealer with four changes held; else it is taken. -/
theorem State.commitGo_dealing {s : State} (h : s.dealing = true) (w : Word) : s.commitGo w =
    if s.on .CMP_COMMIT_PENDING = true ∨ s.wallArmed = true then (s.at_ w).commitCode 1 0
    else if 4 ≤ s.dealer.changes.length then (s.at_ w).changeRefused.commitCode 1 0 else s.goTaken w := by
  have hd : ¬ (s.at_ w).dealing = false := by rw [show (s.at_ w).dealing = s.dealing from rfl, h]; decide
  unfold State.commitGo
  dsimp only
  rw [if_neg hd, ite_or]
  rfl

theorem State.goTaken_spec (s : State) (w : Word) (h : s.dealer.changes.length < 4) :
    (s.goTaken w).on .CMP_COMMIT_PENDING = true ∧ (s.goTaken w).get .DLR_STATUS_PENDING = s.dealer.changes.length + 1
      ∧ Keeps [.dealer, .time] (only [Reg.CMP_COMMIT, Reg.DLR_STATUS]) s (s.goTaken w) := by
  refine ⟨?_, ?_, ?_⟩
  · exact (congrArg (· != 0) (State.get_set_other _ _ rfl)).trans (State.on_setB _ _ rfl rfl)
  · refine (State.get_set_self _ _ rfl).trans ((Nat.mod_eq_of_lt ?_).trans (List.length_append ..))
    exact Nat.lt_of_le_of_lt (List.length_append ..).le (show s.dealer.changes.length + 1 < 8 by omega)
  · exact ((((Keeps.refl _ _ s).at_ w (by decide)).updDealer _ (by decide)).setB .CMP_COMMIT_PENDING _ (by decide)).set
      .DLR_STATUS_PENDING _ (by decide)

/-! ### Admission (R34, R122) -/

theorem State.changeAdmission_commit {s : State} {c : Change} {sh : Tab Word} {y : Option Nat} (hn : s.nextChange = some c)
    (hk : c.kind = .commit sh y) :
    s.changeAdmission = (s.showAnswer (s.evaluate s.admBase c)).answerCommit c (s.evaluate s.admBase c) := by
  simp only [State.changeAdmission, hn, hk]

theorem State.changeAdmission_none {s : State} (h : s.nextChange = none) : s.changeAdmission = s := by
  simp only [State.changeAdmission, h]

theorem State.evaluate_refused {s : State} {base : DealBase} {c : Change} (h : s.permitted c (base.take c) = false) :
    s.evaluate base c = admRefused admPermit 0 0 := if_pos h

/-- Without the Banker, or without a command running, no command goes on. -/
theorem State.cmdPoll_idle {s : State} (h : s.cmd.runs = [] ∨ s.bankerUp = false) (took : Bool) : s.cmdPoll took = s := by
  unfold State.cmdPoll
  rcases h with h | h
  · split
    · rfl
    · simp only [h, State.each, List.foldl_nil]
  · exact if_pos h

/-- DLR_ADM_STATUS with code and reason of an answer. -/
def State.showCode (s : State) (a : AdmAnswer) : State :=
  (((s.set .DLR_ADM_STATUS_CODE a.code).set .DLR_ADM_STATUS_REASON a.reason).set .DLR_ADM_STATUS_CLASS a.cls).set
    .DLR_ADM_STATUS_INDEX a.index

theorem State.showCode_keeps (s : State) (a : AdmAnswer) : Keeps [] (only [Reg.DLR_ADM_STATUS]) s (s.showCode a) :=
  ((((Keeps.refl _ _ s).set .DLR_ADM_STATUS_CODE _ (by decide)).set .DLR_ADM_STATUS_REASON _ (by decide)).set
    .DLR_ADM_STATUS_CLASS _ (by decide)).set .DLR_ADM_STATUS_INDEX _ (by decide)

theorem State.showCode_code (s : State) {a : AdmAnswer} (h : a.code < 256) : (s.showCode a).get .DLR_ADM_STATUS_CODE = a.code := by
  simp (disch := decide) only [State.showCode, State.get_set_other, State.get_set_self]
  exact Nat.mod_eq_of_lt h

theorem State.showCode_reason (s : State) {a : AdmAnswer} (h : a.reason < 16) : (s.showCode a).get .DLR_ADM_STATUS_REASON = a.reason := by
  simp (disch := decide) only [State.showCode, State.get_set_other, State.get_set_self]
  exact Nat.mod_eq_of_lt h

theorem State.showAnswer_ok {s : State} {a : AdmAnswer} (h : a.code = stOK) : s.showAnswer a = s.showCode a := if_pos h

theorem State.showAnswer_refused {s : State} {a : AdmAnswer} (h : a.code ≠ stOK) :
    s.showAnswer a = (s.showCode a).setB .DLR_INT_STATUS_ADM_REFUSED true := if_neg h

/-- The words of a commit that is answered are pending no more. -/
def State.clearPending (s : State) : State := { s with pend := [], pendLayout := none }.setB .CMP_COMMIT_PENDING false

theorem State.clearPending_spec (s : State) :
    s.clearPending.on .CMP_COMMIT_PENDING = false ∧ Keeps [.pend, .pendLayout] (only [Reg.CMP_COMMIT]) s s.clearPending :=
  ⟨State.on_setB _ _ rfl rfl, ((Keeps.refl _ _ s).dropPend (by decide) (by decide)).setB .CMP_COMMIT_PENDING _ (by decide)⟩

theorem State.dropChange_keeps (s : State) (id : Nat) : Keeps [.dealer] (only [Reg.DLR_STATUS]) s (s.dropChange id) :=
  ((Keeps.refl _ _ s).updDealer _ (by decide)).set .DLR_STATUS_PENDING _ (by decide)

/-- The answer to an admitted commit. -/
def State.answerOk (s : State) (id : Nat) (place : Tab Nat) : State :=
  (((s.setStage id .admitted place).set .CMP_COMMIT_STATUS_CODE stOK).set .CMP_COMMIT_STATUS_REASON 0).showPending

theorem State.answerOk_spec (s : State) (id : Nat) (place : Tab Nat) :
    (s.answerOk id place).get .CMP_COMMIT_STATUS_CODE = stOK ∧ (s.answerOk id place).get .CMP_COMMIT_STATUS_REASON = 0
      ∧ Keeps [.dealer] (only [Reg.CMP_COMMIT_STATUS, Reg.DLR_STATUS]) s (s.answerOk id place) := by
  refine ⟨?_, ?_, ?_⟩
  · simp (disch := decide) only [State.answerOk, State.showPending, State.get_set_other, State.get_set_self]
    rfl
  · simp (disch := decide) only [State.answerOk, State.showPending, State.get_set_other, State.get_set_self]
    rfl
  · exact ((((Keeps.refl _ _ s).updDealer _ (by decide)).set .CMP_COMMIT_STATUS_CODE _ (by decide)).set .CMP_COMMIT_STATUS_REASON _
      (by decide)).set .DLR_STATUS_PENDING _ (by decide)

theorem State.answerCommit_ok {s : State} {c : Change} {a : AdmAnswer} (h : a.code = stOK) :
    s.answerCommit c a = s.clearPending.answerOk c.id a.place := if_pos h

theorem State.answerCommit_refused {s : State} {c : Change} {a : AdmAnswer} (h : a.code ≠ stOK) : s.answerCommit c a
    = (s.clearPending.dropChange c.id).commitCode a.code a.reason := if_neg h

/-- A commit admitted with a core placement. -/
structure CommitAdmitted (c : Change) (place : Tab Nat) (s t : State) : Prop where
  admCode : t.get .DLR_ADM_STATUS_CODE = stOK
  commitCode : t.get .CMP_COMMIT_STATUS_CODE = stOK
  reason : t.get .CMP_COMMIT_STATUS_REASON = 0
  changes : t.dealer.changes = s.dealer.changes.map fun x => if x.id = c.id then { x with stage := .admitted, place := place } else x
  pend : t.pend = []
  pendLayout : t.pendLayout = none
  pending : t.on .CMP_COMMIT_PENDING = false
  keeps : Keeps [.dealer, .pend, .pendLayout] (only [Reg.DLR_ADM_STATUS, Reg.CMP_COMMIT, Reg.CMP_COMMIT_STATUS, Reg.DLR_STATUS]) s t

theorem State.changeAdmission_admitted {s : State} {c : Change} {sh : Tab Word} {y : Option Nat} (hn : s.nextChange = some c)
    (hk : c.kind = .commit sh y) (hok : (s.evaluate s.admBase c).code = stOK) :
    CommitAdmitted c (s.evaluate s.admBase c).place s s.changeAdmission := by
  rw [State.changeAdmission_commit hn hk]
  generalize s.evaluate s.admBase c = a at hok ⊢
  rw [State.showAnswer_ok hok, State.answerCommit_ok hok]
  have hshow := s.showCode_keeps a
  obtain ⟨hpending, hclear⟩ := (s.showCode a).clearPending_spec
  obtain ⟨hcode, hreason, hanswer⟩ := (s.showCode a).clearPending.answerOk_spec c.id a.place
  refine ⟨?admCode, hcode, hreason, rfl, rfl, rfl, (hanswer.on .CMP_COMMIT_PENDING (by decide)).trans hpending, ?keeps⟩
  case admCode =>
    calc ((s.showCode a).clearPending.answerOk c.id a.place).get .DLR_ADM_STATUS_CODE
        _ = (s.showCode a).clearPending.get .DLR_ADM_STATUS_CODE := hanswer.get .DLR_ADM_STATUS_CODE (by decide)
        _ = (s.showCode a).get .DLR_ADM_STATUS_CODE := hclear.get .DLR_ADM_STATUS_CODE (by decide)
        _ = a.code := s.showCode_code (by rw [hok]; decide)
        _ = stOK := hok
  case keeps =>
    exact ((hshow.mono (by simp) (by simp)).trans (hclear.mono (by simp) (by simp))).trans (hanswer.mono (by simp) (by simp +contextual))

/-- A commit refused with a code and a reason. -/
structure CommitRefused (c : Change) (code reason : Nat) (s t : State) : Prop where
  admCode : t.get .DLR_ADM_STATUS_CODE = code
  admReason : t.get .DLR_ADM_STATUS_REASON = reason
  commitCode : t.get .CMP_COMMIT_STATUS_CODE = code
  commitReason : t.get .CMP_COMMIT_STATUS_REASON = reason
  admRefused : t.on .DLR_INT_STATUS_ADM_REFUSED = true
  commitRefused : t.on .CMP_INT_STATUS_COMMIT_REFUSED = true
  dealer : t.dealer = { s.dealer with changes := s.dealer.changes.filter fun x => x.id != c.id }
  pend : t.pend = []
  pendLayout : t.pendLayout = none
  pending : t.on .CMP_COMMIT_PENDING = false
  keeps : Keeps [.dealer, .pend, .pendLayout] (only [Reg.DLR_ADM_STATUS, Reg.DLR_INT_STATUS, Reg.CMP_COMMIT, Reg.CMP_COMMIT_STATUS,
    Reg.CMP_INT_STATUS, Reg.DLR_STATUS]) s t

theorem State.changeAdmission_refused {s : State} {c : Change} {sh : Tab Word} {y : Option Nat} (hn : s.nextChange = some c)
    (hk : c.kind = .commit sh y) (hp : s.permitted c (s.admBase.take c) = false) :
    CommitRefused c stRANGE admPermit s s.changeAdmission := by
  rw [State.changeAdmission_commit hn hk, State.evaluate_refused hp, State.showAnswer_refused (by decide),
    State.answerCommit_refused (by decide)]
  have hshow := s.showCode_keeps (admRefused admPermit 0 0)
  have hcode := s.showCode_code (a := admRefused admPermit 0 0) (by decide)
  have hreason := s.showCode_reason (a := admRefused admPermit 0 0) (by decide)
  have hdealer : (s.showCode (admRefused admPermit 0 0)).dealer = s.dealer := rfl
  generalize s.showCode (admRefused admPermit 0 0) = shown at hshow hcode hreason hdealer ⊢
  have hraised : (shown.setB .DLR_INT_STATUS_ADM_REFUSED true).on .DLR_INT_STATUS_ADM_REFUSED = true := State.on_setB _ _ rfl rfl
  have hraise := (Keeps.refl [] (only [Reg.DLR_INT_STATUS]) shown).setB .DLR_INT_STATUS_ADM_REFUSED true (by decide)
  obtain ⟨hpending, hclear⟩ := (shown.setB .DLR_INT_STATUS_ADM_REFUSED true).clearPending_spec
  have hdrop := (shown.setB .DLR_INT_STATUS_ADM_REFUSED true).clearPending.dropChange_keeps c.id
  obtain ⟨hccode, hcreason, hcrefused, hanswer⟩ := ((shown.setB .DLR_INT_STATUS_ADM_REFUSED true).clearPending.dropChange c.id).commitCode_spec
    (code := stRANGE) (reason := admPermit) (by decide) (by decide)
  have hrest := ((hclear.mono (qs := [.dealer, .pend, .pendLayout])
    (V := only [Reg.CMP_COMMIT, Reg.CMP_COMMIT_STATUS, Reg.CMP_INT_STATUS, Reg.DLR_STATUS]) (by simp) (by simp)).trans
      (hdrop.mono (by simp) (by simp))).trans (hanswer.mono (by simp) (by simp +contextual))
  refine ⟨?_, ?_, hccode, hcreason, ?_, hcrefused, ?_, rfl, rfl, ?_, ?_⟩
  · exact (hrest.get .DLR_ADM_STATUS_CODE (by decide)).trans ((hraise.get .DLR_ADM_STATUS_CODE (by decide)).trans hcode)
  · exact (hrest.get .DLR_ADM_STATUS_REASON (by decide)).trans ((hraise.get .DLR_ADM_STATUS_REASON (by decide)).trans hreason)
  · exact (hrest.on .DLR_INT_STATUS_ADM_REFUSED (by decide)).trans hraised
  · exact congrArg (fun d : Dealer => { d with changes := d.changes.filter fun x => x.id != c.id }) hdealer
  · exact (hanswer.on .CMP_COMMIT_PENDING (by decide)).trans ((hdrop.on .CMP_COMMIT_PENDING (by decide)).trans hpending)
  · exact ((hshow.mono (by simp) (by simp)).trans (hraise.mono (by simp) (by simp))).trans (hrest.mono (by simp) (by simp +contextual))

/-! ### The deal point (R141, R143) -/

/-- Is a change latched at the deal point before tick `n`: admitted, or released for `n`? -/
def Change.dueAt (n : Tick) (c : Change) : Bool :=
  match c.stage with
  | .admitted => true
  | .released t => decide (t = n)
  | _ => false

/-- A change after the deal point before tick `n`. -/
def Change.atDealPoint (n : Tick) (c : Change) : Change := if c.dueAt n then { c with stage := .latched n } else c

theorem Change.atDealPoint_eq (n : Tick) (c : Change) : c.atDealPoint n = match c.stage with
    | .admitted => { c with stage := .latched n }
    | .released t => if t = n then { c with stage := .latched n } else c
    | _ => c := by
  unfold Change.atDealPoint Change.dueAt
  cases c.stage with
  | released t => exact if_congr decide_eq_true_iff rfl rfl
  | _ => rfl

theorem Change.atDealPoint_admitted (n : Tick) {c : Change} (h : c.stage = .admitted) :
    c.atDealPoint n = { c with stage := .latched n } := by
  rw [Change.atDealPoint_eq, h]

/-- R142: whether a latched commit is late is shown and counted. -/
def State.showLate (s : State) (n : Tick) (c : Change) : State :=
  match c.kind with
  | .commit _ _ =>
    if decide (0 < wordDiff n c.dueTick) then
      ((s.setB .OUT_COMMIT_STATUS_COMMIT_LATE true).count .OUT_COMMIT_STATUS_LATE_CNT).setB .OUT_INT_STATUS_COMMIT_LATE true
    else s.setB .OUT_COMMIT_STATUS_COMMIT_LATE false
  | _ => s

theorem State.showLate_keeps (s : State) (n : Tick) (c : Change) :
    Keeps [] (only [Reg.OUT_COMMIT_STATUS, Reg.OUT_INT_STATUS]) s (s.showLate n c) := by
  unfold State.showLate
  split
  · split
    · exact (((Keeps.refl _ _ s).setB .OUT_COMMIT_STATUS_COMMIT_LATE _ (by decide)).count .OUT_COMMIT_STATUS_LATE_CNT (by decide)).setB
        .OUT_INT_STATUS_COMMIT_LATE _ (by decide)
    · exact (Keeps.refl _ _ s).setB .OUT_COMMIT_STATUS_COMMIT_LATE _ (by decide)
  · exact .refl _ _ s

theorem State.dealPoint_passed {s : State} (h : s.dealing = false ∨ s.dealer.dealPassed = true) : s.dealPoint = s := if_pos h

/-- The changes that the deal point now latches. -/
def State.dueNow (s : State) : List Change := s.dealer.changes.filter (Change.dueAt (s.tick + 1))

/-- R64, R99, R141: the changes due are latched, with the tiles that they assign anew or empty and their scalers. -/
def State.latchDue (s : State) : State :=
  s.updDealer fun d => { d with
    dealPassed := true, changes := d.changes.map (Change.atDealPoint (s.tick + 1))
    reassign := (s.tileChanges s.dueNow).1, emptied := (s.tileChanges s.dueNow).2
    plan := outputs.filterMap fun o => (s.assignScalers (s.wordAfter s.dueNow) (s.layersTouched s.dueNow) o).map fun a => (o, a) }

theorem State.dealPoint_due {s : State} (hd : s.dealing = true) (hp : s.dealer.dealPassed = false) :
    s.dealPoint = s.latchDue.each s.dueNow fun t c => t.showLate (s.tick + 1) c := by
  unfold State.dealPoint
  rw [if_neg (by simp [hd, hp])]
  rfl

theorem State.dealPoint_spec {s : State} (hd : s.dealing = true) (hp : s.dealer.dealPassed = false) :
    s.dealPoint.dealer.dealPassed = true ∧ s.dealPoint.dealer.changes = s.dealer.changes.map (Change.atDealPoint (s.tick + 1))
      ∧ Keeps [.dealer] (only [Reg.OUT_COMMIT_STATUS, Reg.OUT_INT_STATUS]) s s.dealPoint := by
  have hlate : Keeps [] (only [Reg.OUT_COMMIT_STATUS, Reg.OUT_INT_STATUS]) s.latchDue s.dealPoint := by
    rw [State.dealPoint_due hd hp]
    exact Keeps.each (fun t c => t.showLate_keeps _ c) _ (.refl _ _ _)
  have hdealer : s.dealPoint.dealer = s.latchDue.dealer := hlate.same (p := .dealer) (by decide)
  rw [hdealer]
  exact ⟨rfl, rfl, ((Keeps.refl _ _ s).updDealer _ (by decide)).trans (hlate.mono (by simp) fun _ => id)⟩

/-! ### The changes held while commands run on (R347, R348) -/

/-- The Dealer holds every change that it held, and its deal point has passed or not as before. -/
structure ChangesHeld (s t : State) : Prop where
  passed : t.dealer.dealPassed = s.dealer.dealPassed
  held : ∀ c ∈ s.dealer.changes, c ∈ t.dealer.changes

theorem ChangesHeld.of_dealer {s t : State} (h : t.dealer = s.dealer) : ChangesHeld s t := by
  constructor <;> simp [h]

theorem ChangesHeld.trans {s t u : State} (h : ChangesHeld s t) (k : ChangesHeld t u) : ChangesHeld s u :=
  ⟨k.passed.trans h.passed, fun c hc => k.held c (h.held c hc)⟩

/-- Updates that leave the Dealer alone, one after another. -/
theorem State.each_dealer {α : Type} {f : State → α → State} (hf : ∀ t x, (f t x).dealer = t.dealer) (s : State) (xs : List α) :
    (s.each xs f).dealer = s.dealer :=
  State.each_inv (P := fun t => t.dealer = s.dealer) (fun t x h => (hf t x).trans h) rfl xs

theorem State.hostVec_dealer (s : State) (n : Nat) : (s.hostVec n).dealer = s.dealer := by
  unfold State.hostVec
  dsimp only
  split <;> rfl

theorem State.originate_dealer (s : State) (type dest : Nat) (bcast : Bool) (args : List Nat) (bank : Bool) :
    (s.originate type dest bcast args bank).dealer = s.dealer :=
  State.each_dealer (f := fun t p => t.enqueue p _ bank) (fun _ _ => rfl) _ _

theorem State.respond_dealer (s : State) (h : CmdHdr) (code : Nat) (payload : List Byte) : (s.respond h code payload).dealer = s.dealer := by
  unfold State.respond
  split
  · rfl
  · exact State.hostVec_dealer _ _
  · dsimp only
    split
    · exact State.originate_dealer ..
    · exact State.each_dealer (fun t x => State.originate_dealer ..) _ _

theorem State.answer_dealer (s : State) (h : CmdHdr) (code : Nat) (payload : List Byte) : (s.answer h code payload).dealer = s.dealer := by
  have hshown : ∀ t : State, t.dealer = s.dealer → (t.respond h code payload).dealer = s.dealer := fun t ht =>
    (State.respond_dealer ..).trans ht
  unfold State.answer
  dsimp only
  split_ifs <;> exact hshown _ rfl

theorem State.endRun_dealer (s : State) (r : CmdRun) (code : Nat) (payload : List Byte) : (s.endRun r code payload).dealer = s.dealer :=
  State.answer_dealer ..

theorem State.setPhase_dealer (s : State) (p : Nat) : (s.setPhase p).dealer = s.dealer := by
  unfold State.setPhase
  dsimp only
  split_ifs <;> rfl

theorem State.wallAbort_dealer (s : State) (node code : Nat) : (s.wallAbort node code).dealer = s.dealer := by
  rw [State.wallAbort, State.set_dealer, State.set_dealer, State.setPhase_dealer]

theorem State.wallGo_dealer (s : State) : s.wallGo.dealer = s.dealer := by
  unfold State.wallGo
  dsimp only
  split
  · rfl
  · split
    · exact (State.wallAbort_dealer ..).trans rfl
    · exact (State.setPhase_dealer ..).trans rfl

theorem State.writeWall_dealer (s : State) (r : CmdRun) (busy : Bool) (layout target : Nat) :
    (s.writeWall r busy layout target).dealer = s.dealer := by
  unfold State.writeWall
  dsimp only
  split
  · exact State.endRun_dealer ..
  · exact State.wallGo_dealer _

theorem State.loadAct_dealer (s : State) (a : CmdAct) : (s.loadAct a).dealer = s.dealer := by
  have hswap : ∀ (t : State) (x : Swap), (t.putSwap x).dealer = t.dealer := fun t x => by
    unfold State.putSwap
    split <;> rfl
  have hput : ∀ (t : State) (e : Nat × Word), (t.putPend e.1 e.2).dealer = t.dealer := fun _ _ => rfl
  refine (State.each_dealer hswap _ _).trans ?_
  cases a with
  | select y _ _ =>
    dsimp only
    split
    · exact State.each_dealer hput _ _
    · rfl
  | words ws => exact State.each_dealer hput _ _
  | _ => rfl

theorem State.commitGo_held (s : State) (w : Word) : ChangesHeld s (s.commitGo w) := by
  cases hd : s.dealing with
  | false => rw [State.commitGo_outside hd]; exact .of_dealer rfl
  | true =>
    rw [State.commitGo_dealing hd]
    split_ifs
    · exact .of_dealer rfl
    · exact .of_dealer rfl
    · exact ⟨rfl, fun c hc => List.mem_append_left _ hc⟩

theorem State.writeGo_held (x : State) (r : CmdRun) (w : Word) : ChangesHeld x (x.writeGo r w) := by
  refine (x.commitGo_held w).trans (.of_dealer ?_)
  unfold State.writeGo
  dsimp only
  split
  · exact State.endRun_dealer ..
  · rfl

theorem State.runLayout_held (s : State) (r : CmdRun) (since : Tick) : ChangesHeld s (s.runLayout r since) := by
  have hend : ∀ code reason, ChangesHeld s (s.endLayout r code reason) := fun _ _ => .of_dealer (State.endRun_dealer ..)
  unfold State.runLayout
  dsimp only
  split
  · split
    · exact .of_dealer (State.endRun_dealer ..)
    · exact hend ..
  · split
    · exact .of_dealer rfl
    · split
      · exact .of_dealer (State.writeWall_dealer ..)
      · split
        · split
          · exact .of_dealer rfl
          · exact hend ..
        · split
          · split <;> exact hend ..
          · exact hend ..
        · split
          · exact hend ..
          · split
            · exact hend ..
            · exact (ChangesHeld.of_dealer (s.loadAct_dealer r.act)).trans (State.writeGo_held ..)

theorem State.headLayout_held (s : State) : ChangesHeld s s.headLayout := by
  unfold State.headLayout
  split
  · exact .of_dealer rfl
  · next r _ =>
    split
    · exact ChangesHeld.trans (t := s.stageRun r (.taken s.tick)) (.of_dealer rfl) (State.runLayout_held ..)
    · exact State.runLayout_held ..
    · split_ifs
      · exact .of_dealer rfl
      · exact State.runLayout_held ..
    · exact .of_dealer rfl

theorem State.pollRun_dealer (s : State) (took : Bool) (r : CmdRun) : (s.pollRun took r).dealer = s.dealer := by
  unfold State.pollRun
  dsimp only
  split
  · split_ifs
    · rfl
    · exact State.endRun_dealer ..
  · split_ifs
    · rfl
    · exact State.endRun_dealer ..
    · exact State.endRun_dealer ..
  · split_ifs
    · exact State.endRun_dealer ..
    · exact State.endRun_dealer ..
    · rfl
  · rfl

theorem State.cmdPoll_held (s : State) (took : Bool) : ChangesHeld s (s.cmdPoll took) := by
  have hpoll : ∀ t : State, ChangesHeld t (t.each t.cmd.runs fun t r => t.pollRun took r) := fun t =>
    .of_dealer (State.each_dealer (fun t r => t.pollRun_dealer took r) _ _)
  have hhead : ∀ t : State, ChangesHeld t (t.each t.cmd.runs fun t _ => t.headLayout) := fun t =>
    State.each_inv (P := ChangesHeld t) (fun u _ h => h.trans u.headLayout_held) (.of_dealer rfl) _
  have hwallRun : ∀ (t : State) (r : CmdRun), (match r.stage with
      | .wall => t.pollRun took r
      | _ => t).dealer = t.dealer := fun t r => by
    split
    · exact t.pollRun_dealer took r
    · rfl
  have hwall : ∀ t : State, ChangesHeld t (t.each t.cmd.runs fun t r => match r.stage with
      | .wall => t.pollRun took r
      | _ => t) := fun t =>
    .of_dealer (State.each_dealer hwallRun _ _)
  unfold State.cmdPoll
  split
  · exact .of_dealer rfl
  · exact ((hpoll s).trans (hhead _)).trans (hwall _)

/-! ### The front edge of a change -/

theorem State.commitGo_busy {s : State} (hd : s.dealing = true) (w : Word)
    (hb : s.on .CMP_COMMIT_PENDING = true ∨ s.wallArmed = true ∨ 4 ≤ s.dealer.changes.length) :
    (s.commitGo w).get .CMP_COMMIT_STATUS_CODE = 1 ∧ (s.commitGo w).get .CMP_COMMIT_STATUS_REASON = 0
      ∧ (s.commitGo w).on .CMP_INT_STATUS_COMMIT_REFUSED = true
      ∧ (s.on .CMP_COMMIT_PENDING = false → s.wallArmed = false → (s.commitGo w).on .DLR_INT_STATUS_ADM_REFUSED = true)
      ∧ Keeps [.time] (only [Reg.CMP_COMMIT_STATUS, Reg.CMP_INT_STATUS, Reg.DLR_INT_STATUS]) s (s.commitGo w) := by
  have hat := (Keeps.refl [.time] (only [Reg.CMP_COMMIT_STATUS, Reg.CMP_INT_STATUS, Reg.DLR_INT_STATUS]) s).at_ w (by decide)
  rw [State.commitGo_dealing hd]
  split_ifs with hin hfull
  · obtain ⟨hcode, hreason, hrefused, hk⟩ := (s.at_ w).commitCode_spec (code := 1) (reason := 0) (by decide) (by decide)
    refine ⟨hcode, hreason, hrefused, fun hp hw => ?_, hat.trans (hk.mono (by simp) (by simp +contextual))⟩
    rw [hp, hw] at hin
    exact absurd hin (by decide)
  · obtain ⟨hcode, hreason, hrefused, hk⟩ := (s.at_ w).changeRefused.commitCode_spec (code := 1) (reason := 0) (by decide) (by decide)
    have hraised : (s.at_ w).changeRefused.on .DLR_INT_STATUS_ADM_REFUSED = true := State.on_setB _ _ rfl rfl
    have hraise : Keeps [.time] (only [Reg.CMP_COMMIT_STATUS, Reg.CMP_INT_STATUS, Reg.DLR_INT_STATUS]) s (s.at_ w).changeRefused :=
      hat.setB .DLR_INT_STATUS_ADM_REFUSED _ (by decide)
    exact ⟨hcode, hreason, hrefused, fun _ _ => (hk.on .DLR_INT_STATUS_ADM_REFUSED (by decide)).trans hraised,
      hraise.trans (hk.mono (by simp) (by simp +contextual))⟩
  · exact absurd (or_assoc.mpr hb) (not_or.mpr ⟨hin, hfull⟩)

theorem State.commitGo_taken {s : State} (hd : s.dealing = true) (hp : s.on .CMP_COMMIT_PENDING = false) (hw : s.wallArmed = false)
    (hc : s.dealer.changes.length < 4) (w : Word) : s.commitGo w = s.goTaken w := by
  rw [State.commitGo_dealing hd, hp, hw, if_neg (by decide), if_neg (Nat.not_le.mpr hc)]

/-- With no command to go on, an admission is what the Dealer answers. -/
theorem gives_changeAdmission {s : State} {P : State → Prop} (hu : s.up)
    (hidle : s.quiet.changeAdmission.cmd.runs = [] ∨ s.quiet.changeAdmission.bankerUp = false)
    (h : P s.quiet.changeAdmission) : Gives .changeAdmission s P :=
  gives_awake (fun s => s.changeAdmission.cmdPoll false) hu rfl ((State.cmdPoll_idle hidle false).symm ▸ h)

/-- With no command to go on, the deal point is what the Dealer latches. -/
theorem gives_dealPoint {s : State} {P : State → Prop} (hu : s.up) (hruns : s.quiet.dealPoint.cmd.runs = [])
    (h : P s.quiet.dealPoint) : Gives .dealPoint s P :=
  gives_awake (fun s => s.dealPoint.cmdPoll false) hu rfl ((State.cmdPoll_idle (.inl hruns) false).symm ▸ h)

/-- Settles O16: GO, the admission and the deal point, by cases, each with the effect of its update and the frame of what it leaves;
a command that goes on after the deal point may submit a change but ends none, so what was latched stays (R141, R347). -/
theorem frontEdgeOfAChange : Obligations.FrontEdgeOfAChange := by
  refine ⟨?goOutside, ?goBusy, ?goTaken, ?refused, ?admitted, ?nothing, ?latched, ?noDeal, ?withCommands, ?noBanker⟩
  case goOutside =>
    intro w s hu hd
    obtain ⟨hcode, hreason, hrefused, hk⟩ := (s.quiet.at_ w).commitCode_spec (code := 2) (reason := 0) (by decide) (by decide)
    refine gives_awake (fun s => s.commitGo w) hu rfl ?_
    rw [State.commitGo_outside (s := s.quiet) hd]
    have hat := (Keeps.quiet [.pend, .pendLayout, .time] (only [Reg.CMP_COMMIT_STATUS, Reg.CMP_INT_STATUS]) s).at_ w (by decide)
    exact ⟨hcode, hreason, hrefused, rfl, rfl, (hat.trans (hk.mono (by simp) fun _ => id)).dropPend (by decide) (by decide)⟩
  case goBusy =>
    intro w s hd hb
    obtain ⟨hcode, hreason, hrefused, hfull, hk⟩ := State.commitGo_busy (s := s.quiet) hd w hb
    exact gives_awake (fun s => s.commitGo w) (State.up_of_dealing hd) rfl
      ⟨hcode, hreason, hrefused, hfull, (Keeps.quiet _ _ s).trans hk⟩
  case goTaken =>
    intro w s hd hp hw hc
    obtain ⟨hpending, hcount, hk⟩ := s.quiet.goTaken_spec w hc
    refine gives_awake (fun s => s.commitGo w) (State.up_of_dealing hd) rfl ?_
    rw [State.commitGo_taken (s := s.quiet) hd hp hw hc]
    exact ⟨rfl, hpending, hcount, (Keeps.quiet _ _ s).trans hk⟩
  case refused =>
    intro c sh y s hu hruns hn hk hp
    have h := State.changeAdmission_refused (s := s.quiet) hn hk hp
    exact gives_changeAdmission hu (.inl ((h.keeps.runs (by decide)).trans hruns))
      ⟨h.admCode, h.admReason, h.commitCode, h.commitReason, h.admRefused, h.commitRefused, h.dealer, h.pend, h.pendLayout, h.pending,
        (Keeps.quiet _ _ s).trans h.keeps⟩
  case admitted =>
    intro c sh y s hu hruns hn hk hok
    have h := State.changeAdmission_admitted (s := s.quiet) hn hk hok
    exact gives_changeAdmission hu (.inl ((h.keeps.runs (by decide)).trans hruns))
      ⟨h.admCode, h.commitCode, h.reason, h.changes, h.pend, h.pendLayout, h.pending, (Keeps.quiet _ _ s).trans h.keeps⟩
  case nothing =>
    intro s hu hruns hn
    have ha : s.quiet.changeAdmission = s.quiet := State.changeAdmission_none (s := s.quiet) hn
    refine congrArg Host.Outcome.next ((State.awake_up s _ hu).trans ?_)
    rw [ha, State.cmdPoll_idle (s := s.quiet) (.inl hruns)]
  case latched =>
    intro s hd hruns hp
    obtain ⟨hpassed, hchanges, hk⟩ := State.dealPoint_spec (s := s.quiet) hd hp
    exact gives_dealPoint (State.up_of_dealing hd) ((hk.runs (by decide)).trans hruns)
      ⟨hpassed, hchanges.trans (List.map_congr_left fun c _ => c.atDealPoint_eq _), (Keeps.quiet _ _ s).trans hk⟩
  case noDeal =>
    intro s hu hruns hno
    have ha : s.quiet.dealPoint = s.quiet := State.dealPoint_passed (s := s.quiet) hno
    refine congrArg Host.Outcome.next ((State.awake_up s _ hu).trans ?_)
    rw [ha, State.cmdPoll_idle (s := s.quiet) (.inl hruns)]
  case withCommands =>
    intro s hd hp
    obtain ⟨hpassed, hchanges, hk⟩ := State.dealPoint_spec (s := s.quiet) hd hp
    have hpoll := s.quiet.dealPoint.cmdPoll_held false
    refine gives_awake (fun s => s.dealPoint.cmdPoll false) (State.up_of_dealing hd) rfl
      ⟨hpoll.passed.trans hpassed, fun c hc ha => ?_, ?_⟩
    · have hlatched := Change.atDealPoint_admitted (s.tick + 1) ha
      exact ⟨c.atDealPoint (s.tick + 1), hpoll.held _ (hchanges ▸ List.mem_map_of_mem hc), (congrArg Change.id hlatched).trans rfl,
        (congrArg Change.stage hlatched).trans rfl⟩
    · exact memoryFrame_of_stored ((stored_cmdPoll _ _).trans ((stored_dealPoint _).trans (stored_quiet s)))
  case noBanker =>
    intro c sh y s hu hb hn hk hok
    have h := State.changeAdmission_admitted (s := s.quiet) hn hk hok
    have hup := h.keeps.on .HST_MB_STATUS_BANKER_UP (by decide)
    have hhalted := h.keeps.on .FUS_DBG_STATUS_BANKER_HALTED (by decide)
    have hbanker : s.quiet.changeAdmission.bankerUp = false := by
      rw [State.bankerUp, hup, hhalted]
      exact hb
    exact gives_changeAdmission hu (.inr hbanker)
      ⟨h.admCode, h.commitCode, h.pend, h.pendLayout, (Keeps.quiet _ _ s).trans h.keeps⟩

end Sys2Proof.Machine
end

section
/-!
SUPPORT. A frame start that shows a tile past the 512 layers. The statement O20.
-/

namespace Sys2Proof.Machine

open Sys2Proof

/-- DEALING with output 0 running, its frame number 0, and a tile of output 0 under index 905, past the 512 layers. -/
def tilePastLayers : State :=
  { State.reset.set .BKR_DEV_STATE_STATE stDealing with
    outs := [(0, { OutSt.init with running := true })], tiles := [(905, { Tile.init with overruns := [0] })] }

/-- The frame start shows the EMPTY tile at CMP_LV_STATE 905, and that address is OUT_FRAME 0: the frame number just counted is lost. -/
theorem tilePastLayers_clearsFrame :
    (tilePastLayers.awake fun s => (((s.frameStart 0 0).windowPassed).settleFault).cmdPoll false).get (.OUT_FRAME_FRAME 0) = 0 := by
  decide +kernel

/-- Refutes O20: the clause of the frame start takes every state, also one that holds a tile under an index past the 512 layers. At
index 905 the register that shows the tile's state (R82) would stand at 0x2001012C, where the frame number of output 0 stands (R134).
The EMPTY tile there is shown anew because that register is not 0 (R87), which writes 0 over the frame number just counted to 1. -/
theorem not_linesAreCheckedBeforeTheyAreShown : ¬ Obligations.LinesAreCheckedBeforeTheyAreShown := by
  intro h
  obtain ⟨-, -, -, -, -, hstart, -⟩ := h
  obtain ⟨t, he, -, -, -, -, hframe, -⟩ := hstart 0 0 tilePastLayers (by decide) rfl rfl rfl
  have ht : (tilePastLayers.awake fun s => (((s.frameStart 0 0).windowPassed).settleFault).cmdPoll false) = t := Host.Outcome.next.inj he
  have hzero : t.get (.OUT_FRAME_FRAME 0) = 0 := ht ▸ tilePastLayers_clearsFrame
  rw [show ((0 : Fin 16).val) = 0 from rfl, hzero] at hframe
  exact absurd hframe (by decide +kernel)

end Sys2Proof.Machine
end

section
/-!
SUPPORT. Fields and frames of the registers of the sixteen outputs, and what settling FAULT_N (R425) leaves alone.
-/

namespace Sys2Proof.Machine

open Sys2Proof

/-! ### Fields and frames -/

/-- A closed fact about one index of a small family holds where it holds at every index, which `decide` can check: `apply` generalises the
goal at `x` alone, where `revert x` would take the hypotheses about `x` with it. -/
theorem checkEach {α : Type} (x : α) {P : α → Prop} (h : ∀ x, P x) : P x := h x

theorem State.on_set_other (s : State) {f g : Fld} (v : Nat) (h : f.apart g = true) : (s.set f v).on g = s.on g :=
  congrArg (· != 0) (State.get_set_other s v h)

theorem State.get_set_fits (s : State) {f : Fld} {v wid : Nat} (h : f.fits = true) (hw : f.wid = wid) (hv : v < 2 ^ wid) :
    (s.set f v).get f = v := (State.get_set_self s v h).trans (Nat.mod_eq_of_lt (hw ▸ hv))

/-- A frame widened to more registers. -/
theorem Keeps.widen {ps qs : List Part} {as bs : List Nat} {s t : State} (h : Keeps ps (only as) s t) (hp : ps ⊆ qs) (hw : as ⊆ bs) :
    Keeps qs (only bs) s t := h.mono hp fun _ ha => hw ha

theorem State.get_count_self (s : State) {f : Fld} (h : f.fits = true) : (s.count f).get f = satAdd f.wid (s.get f) 1 :=
  State.get_count s f 1 (Nat.le_of_ble_eq_true h)

/-! ### FAULT_N settles (R425) -/

/-- What settling FAULT_N leaves: everything but its registers, and but the host's vector 2 that it may raise. -/
structure Settled (s t : State) : Prop where
  keeps : Keeps [] (only faultRegs) s t
  out : t.out = s.out ∨ t.out = s.out ++ [.msi 2]

theorem State.hostVec_out (s : State) (n : Nat) : (s.hostVec n).out = s.out ∨ (s.hostVec n).out = s.out ++ [.msi n] := by
  unfold State.hostVec
  dsimp only
  split
  · exact .inr rfl
  · exact .inl rfl

theorem State.settled (s : State) : Settled s s.settleFault where
  keeps := s.settleFault_keeps
  out := by
    unfold State.settleFault
    dsimp only
    split
    · exact .inl rfl
    · exact State.hostVec_out _ 2

theorem faultRegs_below {a : Nat} (h : a ∈ faultRegs) : a < 0x20000000 := by
  revert a
  decide

theorem Settled.get {s t : State} (h : Settled s t) (f : Fld) (hf : 0x20000000 ≤ f.addr) : t.get f = s.get f :=
  h.keeps.get f fun hm => absurd hf (Nat.not_le.mpr (faultRegs_below hm))

theorem Settled.on {s t : State} (h : Settled s t) (f : Fld) (hf : 0x20000000 ≤ f.addr) : t.on f = s.on f :=
  congrArg (· != 0) (h.get f hf)

theorem Settled.outp {s t : State} (h : Settled s t) (o : Nat) : t.outp o = s.outp o := h.keeps.outp List.not_mem_nil o

theorem Settled.mem_out {s t : State} (h : Settled s t) {e : Emission} (he : e ∈ s.out) : e ∈ t.out := by
  rcases h.out with ho | ho <;> simp [ho, he]

theorem Settled.auxSent {s t : State} (h : Settled s t) (o : Nat) : t.auxSent o = s.auxSent o := by
  rcases h.out with ho | ho <;> simp [State.auxSent, ho]

/-- A row that settles FAULT_N at its end: its own update, then the settling. -/
theorem gives_settled {i : Instr} {s : State} {P : State → Prop} (f : State → State) (hu : s.up)
    (he : exec i s = .next (s.awake fun s => (f s).settleFault)) (h : ∀ t, Settled (f s.quiet) t → P t) : Gives i s P :=
  gives_awake (fun s => (f s).settleFault) hu he (h _ (State.settled _))

/-- The frame of such a row. -/
theorem Settled.frame {s u t : State} {ps : List Part} {as : List Nat} (h : Settled u t) (k : Keeps ps (only as) s.quiet u) :
    Keeps ps (only (faultRegs ++ as)) s t :=
  ((Keeps.quiet _ _ s).trans (k.widen (fun _ => id) (List.subset_append_right ..))).trans
    (h.keeps.widen (List.nil_subset _) (List.subset_append_left ..))

/-- The frame of such a row, its registers listed in two parts. -/
theorem Settled.frame₂ {s u t : State} {ps : List Part} {as bs : List Nat} (h : Settled u t) (k : Keeps ps (only (as ++ bs)) s.quiet u) :
    Keeps ps (only (faultRegs ++ as ++ bs)) s t := by
  rw [List.append_assoc]
  exact h.frame k

end Sys2Proof.Machine
end

section
/-!
SUPPORT. The transmitter's link (R151 to R153, R254): hot plug, lanes, and HPD low, for O18.
-/

namespace Sys2Proof.Machine

open Sys2Proof

/-! ### The lanes of a quad (R254) -/

/-- The four lanes of quad `q` show lock and quality. -/
def LanesShow (q : Nat) (sync good : Nat → Bool) (t : State) : Prop :=
  ∀ l < 4, t.on (.SER_LSTAT_SYNC q l) = sync l ∧ t.on (.SER_LSTAT_GOOD q l) = good l

theorem LanesShow.keep {q : Nat} {sync good : Nat → Bool} {ps : List Part} {as : List Nat} {s t : State}
    (h : LanesShow q sync good s) (k : Keeps ps (only as) s t) (hw : ∀ a ∈ lstatRegs q, a ∉ as) : LanesShow q sync good t := by
  intro l hl
  have ha : Reg.SER_LSTAT q l ∉ as := hw _ (List.mem_map_of_mem (List.mem_range.mpr hl))
  rw [k.on (.SER_LSTAT_SYNC q l) ha, k.on (.SER_LSTAT_GOOD q l) ha]
  exact h l hl

/-- Lane `l` of quad `q` shows lock and quality; a lock that it loses is counted. -/
def State.setLane (s : State) (q l : Nat) (sync good : Bool) : State :=
  ((if s.on (.SER_LSTAT_SYNC q l) && !sync then s.count (.SER_LSTAT_LOCK_LOSS q l) else s).setB (.SER_LSTAT_SYNC q l) sync).setB
    (.SER_LSTAT_GOOD q l) good

theorem State.setLane_spec (s : State) (q l : Nat) (sync good : Bool) : (s.setLane q l sync good).on (.SER_LSTAT_SYNC q l) = sync
    ∧ (s.setLane q l sync good).on (.SER_LSTAT_GOOD q l) = good
    ∧ Keeps [] (only [Reg.SER_LSTAT q l]) s (s.setLane q l sync good) := by
  have hcount : Keeps [] (only [Reg.SER_LSTAT q l]) s
      (if s.on (.SER_LSTAT_SYNC q l) && !sync then s.count (.SER_LSTAT_LOCK_LOSS q l) else s) := by
    split
    · exact (Keeps.refl _ _ s).count (.SER_LSTAT_LOCK_LOSS q l) List.mem_cons_self
    · exact Keeps.refl _ _ s
  refine ⟨?_, State.on_setB _ _ rfl rfl,
    (hcount.setB (.SER_LSTAT_SYNC q l) _ List.mem_cons_self).setB (.SER_LSTAT_GOOD q l) _ List.mem_cons_self⟩
  exact (State.on_set_other _ _ rfl).trans (State.on_setB _ _ rfl rfl)

theorem serLstat_inj {q l m : Nat} (h : Reg.SER_LSTAT q l = Reg.SER_LSTAT q m) : l = m := by
  unfold Reg.SER_LSTAT at h
  omega

theorem State.each_setLane_spec (q : Nat) (sync good : Nat → Bool) (ls : List Nat) (hd : ls.Nodup) : ∀ s : State,
    (∀ l ∈ ls, (s.each ls fun s l => s.setLane q l (sync l) (good l)).on (.SER_LSTAT_SYNC q l) = sync l
        ∧ (s.each ls fun s l => s.setLane q l (sync l) (good l)).on (.SER_LSTAT_GOOD q l) = good l)
      ∧ Keeps [] (only (ls.map (Reg.SER_LSTAT q))) s (s.each ls fun s l => s.setLane q l (sync l) (good l)) := by
  induction ls with
  | nil => exact fun s => ⟨fun _ h => absurd h List.not_mem_nil, Keeps.refl _ _ s⟩
  | cons x xs ih =>
    intro s
    obtain ⟨hx, hxs⟩ := List.nodup_cons.mp hd
    obtain ⟨hsync, hgood, hkeep⟩ := s.setLane_spec q x (sync x) (good x)
    obtain ⟨hrest, hrestKeep⟩ := ih hxs (s.setLane q x (sync x) (good x))
    have hfar : Reg.SER_LSTAT q x ∉ xs.map (Reg.SER_LSTAT q) := fun hm => by
      obtain ⟨l, hl, he⟩ := List.mem_map.mp hm
      exact hx (serLstat_inj he ▸ hl)
    refine ⟨fun l hl => ?_, (hkeep.widen (fun _ => id) (by simp)).trans (hrestKeep.widen (fun _ => id) (by simp))⟩
    rcases List.mem_cons.mp hl with rfl | hl
    · exact ⟨(hrestKeep.on (.SER_LSTAT_SYNC q l) hfar).trans hsync, (hrestKeep.on (.SER_LSTAT_GOOD q l) hfar).trans hgood⟩
    · exact hrest l hl

theorem State.linkLanes_spec (s : State) (q : Nat) (sync good : Nat → Bool) :
    LanesShow q sync good (s.linkLanes q sync good) ∧ Keeps [] (only (lstatRegs q)) s (s.linkLanes q sync good) := by
  obtain ⟨hlanes, hkeep⟩ := State.each_setLane_spec q sync good (List.range 4) List.nodup_range s
  exact ⟨fun l hl => hlanes l (List.mem_range.mpr hl), hkeep⟩

/-- No lane of quad `q` has symbol lock. -/
abbrev NoLock (q : Nat) (t : State) : Prop := LanesShow q (fun _ => false) (fun _ => false) t

theorem State.noLock_spec (s : State) (q : Nat) : NoLock q (s.noLock q) ∧ Keeps [] (only (lstatRegs q)) s (s.noLock q) :=
  s.linkLanes_spec q _ _

/-! ### HPD as it shows (R151) -/

/-- HPD of output `o` shows `b`, with an interrupt where `c` says so. -/
def State.showHpd (s : State) (o : Nat) (c b : Bool) : State := (s.when c fun s => s.setB .OUT_INT_STATUS_HPD true).setB (.OUT_STATUS_HPD o) b

/-- The effects of showing HPD. -/
structure HpdShown (o : Fin 16) (c b : Bool) (s t : State) : Prop where
  hpd : t.on (.OUT_STATUS_HPD o) = b
  int : t.on .OUT_INT_STATUS_HPD = (c || s.on .OUT_INT_STATUS_HPD)
  state : t.get (.OUT_STATUS_STATE o) = s.get (.OUT_STATUS_STATE o)
  keeps : Keeps [] (only [Reg.OUT_STATUS o, Reg.OUT_INT_STATUS]) s t

theorem State.showHpd_spec (s : State) (o : Fin 16) (c b : Bool) : HpdShown o c b s (s.showHpd o c b) where
  hpd := State.on_setB _ _ rfl rfl
  int := by
    refine (State.on_set_other _ _ (by apply checkEach o; decide)).trans ?_
    cases c
    · rfl
    · exact State.on_setB _ _ rfl rfl
  state := by
    refine (State.get_set_other _ _ rfl).trans ?_
    cases c
    · rfl
    · exact State.get_set_other _ _ (by apply checkEach o; decide)
  keeps := by
    refine Keeps.setB ?_ (.OUT_STATUS_HPD o) _ List.mem_cons_self
    cases c
    · exact Keeps.refl _ _ s
    · exact (Keeps.refl _ _ s).setB .OUT_INT_STATUS_HPD true (by simp [Fld.OUT_INT_STATUS_HPD])

/-! ### The end of a Banker request (R154, R159) -/

/-- The effects of the end of the Banker's request on output `o`. -/
structure AuxEnded (o : Fin 16) (result retries : Nat) (s t : State) : Prop where
  busy : t.on (.OUT_AUX_STAT_BUSY o) = false
  result : t.get (.OUT_AUX_STAT_RESULT o) = result
  retries : t.get (.OUT_AUX_STAT_RETRIES o) = min retries 7
  done : t.on .OUT_INT_STATUS_AUX_DONE = true
  hpd : t.on .OUT_INT_STATUS_HPD = s.on .OUT_INT_STATUS_HPD
  keeps : Keeps [] (only [Reg.OUT_AUX_STAT o, Reg.OUT_INT_STATUS]) s t

theorem State.auxEnd_spec (s : State) (o : Fin 16) {result : Nat} (hr : result < 8) (retries : Nat) :
    AuxEnded o result retries s (s.auxEnd o result retries) where
  busy := by
    refine (State.on_set_other _ _ (by apply checkEach o; decide)).trans ((State.on_set_other _ _ rfl).trans ?_)
    exact (State.on_set_other _ _ rfl).trans (State.on_setB _ _ rfl rfl)
  result := by
    refine (State.get_set_other _ _ (by apply checkEach o; decide)).trans ((State.get_set_other _ _ rfl).trans ?_)
    exact (State.get_set_self _ _ rfl).trans (Nat.mod_eq_of_lt hr)
  retries := by
    refine (State.get_set_other _ _ (by apply checkEach o; decide)).trans ((State.get_set_self _ _ rfl).trans (Nat.mod_eq_of_lt ?_))
    exact Nat.lt_succ_of_le (Nat.min_le_right _ _)
  done := State.on_setB _ _ rfl rfl
  hpd := by
    refine (State.on_set_other _ _ rfl).trans ((State.on_set_other _ _ (by apply checkEach o; decide)).trans ?_)
    exact (State.on_set_other _ _ (by apply checkEach o; decide)).trans (State.on_set_other _ _ (by apply checkEach o; decide))
  keeps := by
    refine Keeps.setB ?_ .OUT_INT_STATUS_AUX_DONE _ (by simp [Fld.OUT_INT_STATUS_AUX_DONE])
    exact (((Keeps.refl _ _ s).setB (.OUT_AUX_STAT_BUSY o) _ List.mem_cons_self).set (.OUT_AUX_STAT_RESULT o) _ List.mem_cons_self).set
      (.OUT_AUX_STAT_RETRIES o) _ List.mem_cons_self

/-- The Banker's request in flight on output `o` ends without a sink. -/
def State.auxDrop (s : State) (o : Nat) : State := if s.on (.OUT_AUX_STAT_BUSY o) then s.auxEnd o 5 0 else s

theorem State.auxDrop_spec (s : State) (o : Fin 16) : (s.auxDrop o).on (.OUT_AUX_STAT_BUSY o) = false
    ∧ (s.auxDrop o).on .OUT_INT_STATUS_HPD = s.on .OUT_INT_STATUS_HPD
    ∧ Keeps [] (only [Reg.OUT_AUX_STAT o, Reg.OUT_INT_STATUS]) s (s.auxDrop o) := by
  unfold State.auxDrop
  split
  case isTrue =>
    have hend := s.auxEnd_spec o (result := 5) (by decide) 0
    exact ⟨hend.busy, hend.hpd, hend.keeps⟩
  case isFalse hbusy => exact ⟨Bool.eq_false_iff.mpr hbusy, rfl, Keeps.refl _ _ s⟩

/-! ### HPD low (R151) -/

/-- Output `o` without HPD, its state not yet moved: the link and the AUX requests are gone. -/
def State.unplugged (s : State) (o : Nat) : State :=
  (((s.showHpd o (s.on (.OUT_STATUS_HPD o)) false).auxDrop o).noLock o).updOut o fun x =>
    { x with aux := [], auxHeld := false, videoWait := true, fromCfg := none }

theorem State.hpdLow_eq (s : State) (o : Nat) : s.hpdLow o = if (s.unplugged o).get (.OUT_STATUS_STATE o) = txIdle then s.unplugged o
    else (s.unplugged o).set (.OUT_STATUS_STATE o) txWaitHpd := rfl

/-- The effects of HPD low beside the transmitter's state. -/
structure Unplugged (o : Fin 16) (s t : State) : Prop where
  hpd : t.on (.OUT_STATUS_HPD o) = false
  int : t.on .OUT_INT_STATUS_HPD = (s.on (.OUT_STATUS_HPD o) || s.on .OUT_INT_STATUS_HPD)
  outp : t.outp o = { s.outp o with aux := [], auxHeld := false, videoWait := true, fromCfg := none }
  other : ∀ p, p ≠ o.val → t.outp p = s.outp p
  busy : t.on (.OUT_AUX_STAT_BUSY o) = false
  keeps : Keeps [.outs] (only (lstatRegs o ++ [Reg.OUT_STATUS o, Reg.OUT_INT_STATUS, Reg.OUT_AUX_STAT o])) s t

theorem State.unplugged_spec (s : State) (o : Fin 16) :
    Unplugged o s (s.unplugged o) ∧ (s.unplugged o).get (.OUT_STATUS_STATE o) = s.get (.OUT_STATUS_STATE o) := by
  have hshow := s.showHpd_spec o (s.on (.OUT_STATUS_HPD o)) false
  unfold State.unplugged
  generalize s.showHpd o (s.on (.OUT_STATUS_HPD o)) false = u at hshow ⊢
  obtain ⟨hbusy, hint, hdrop⟩ := u.auxDrop_spec o
  generalize u.auxDrop o = v at hbusy hint hdrop ⊢
  obtain ⟨-, hlanes⟩ := v.noLock_spec o
  have hkeep := (hdrop.widen (bs := Reg.OUT_AUX_STAT o :: Reg.OUT_INT_STATUS :: lstatRegs o) (fun _ => id) (by simp)).trans
    (hlanes.widen (fun _ => id) (by simp))
  have hall := (hshow.keeps.widen (bs := lstatRegs o ++ [Reg.OUT_STATUS o, Reg.OUT_INT_STATUS, Reg.OUT_AUX_STAT o])
    (fun _ => id) (by simp)).trans (hkeep.widen (fun _ => id) (by simp))
  refine ⟨⟨?hpd, ?int, ?outp, ?other, ?busy, ?keeps⟩, ?state⟩
  case hpd => exact (hkeep.on (.OUT_STATUS_HPD o) (by apply checkEach o; decide)).trans hshow.hpd
  case int => exact (hlanes.on .OUT_INT_STATUS_HPD (by apply checkEach o; decide)).trans (hint.trans hshow.int)
  case outp => rw [State.updOut_self, hall.outp List.not_mem_nil]
  case other => exact fun p hp => (State.updOut_other _ _ hp).trans (hall.outp List.not_mem_nil p)
  case busy => exact (hlanes.on (.OUT_AUX_STAT_BUSY o) (by apply checkEach o; decide)).trans hbusy
  case keeps => exact (hall.widen (List.nil_subset _) (fun _ => id)).updOut o _ List.mem_cons_self
  case state => exact (hkeep.get (.OUT_STATUS_STATE o) (by apply checkEach o; decide)).trans hshow.state

/-- A transmitter without HPD stays in IDLE and waits for HPD otherwise. -/
theorem State.hpdLow_spec (s : State) (o : Fin 16) : Unplugged o s (s.hpdLow o)
    ∧ (s.hpdLow o).get (.OUT_STATUS_STATE o) = if s.get (.OUT_STATUS_STATE o) = txIdle then txIdle else txWaitHpd := by
  obtain ⟨hun, hstate⟩ := s.unplugged_spec o
  rw [State.hpdLow_eq, hstate]
  split
  case isTrue hidle => exact ⟨hun, hstate.trans hidle⟩
  case isFalse =>
    refine ⟨⟨?_, ?_, (State.set_outp ..).trans hun.outp, fun p hp => (State.set_outp ..).trans (hun.other p hp), ?_, ?_⟩,
      State.get_set_fits _ rfl (wid := 3) rfl (by decide)⟩
    · exact (State.on_set_other _ _ rfl).trans hun.hpd
    · exact (State.on_set_other _ _ (by apply checkEach o; decide)).trans hun.int
    · exact (State.on_set_other _ _ (by apply checkEach o; decide)).trans hun.busy
    · exact hun.keeps.set (.OUT_STATUS_STATE o) _ (by simp [Fld.OUT_STATUS_STATE])

end Sys2Proof.Machine
end

section
/-!
SUPPORT. HPD stable, the wait in FAILED, and retraining (R151, R153), for O18.
-/

namespace Sys2Proof.Machine

open Sys2Proof

/-! ### HPD stable, and the wait in FAILED (R151) -/

theorem State.hpdHigh_eq (s : State) (o : Nat) : s.hpdHigh o =
    if (s.showHpd o (!s.on (.OUT_STATUS_HPD o)) true).get (.OUT_STATUS_STATE o) = txWaitHpd
    then (s.showHpd o (!s.on (.OUT_STATUS_HPD o)) true).set (.OUT_STATUS_STATE o) txTraining
    else s.showHpd o (!s.on (.OUT_STATUS_HPD o)) true := rfl

/-- A transmitter that waits for HPD trains once it is stable. -/
theorem State.hpdHigh_spec (s : State) (o : Fin 16) : (s.hpdHigh o).on (.OUT_STATUS_HPD o) = true
    ∧ (s.hpdHigh o).on .OUT_INT_STATUS_HPD = (!s.on (.OUT_STATUS_HPD o) || s.on .OUT_INT_STATUS_HPD)
    ∧ (s.hpdHigh o).get (.OUT_STATUS_STATE o)
      = (if s.get (.OUT_STATUS_STATE o) = txWaitHpd then txTraining else s.get (.OUT_STATUS_STATE o))
    ∧ Keeps [] (only [Reg.OUT_STATUS o, Reg.OUT_INT_STATUS]) s (s.hpdHigh o) := by
  have hshow := s.showHpd_spec o (!s.on (.OUT_STATUS_HPD o)) true
  rw [State.hpdHigh_eq]
  generalize s.showHpd o (!s.on (.OUT_STATUS_HPD o)) true = u at hshow ⊢
  rw [hshow.state]
  split
  case isTrue =>
    refine ⟨(State.on_set_other _ _ rfl).trans hshow.hpd, (State.on_set_other _ _ (by apply checkEach o; decide)).trans hshow.int,
      State.get_set_fits _ rfl (wid := 3) rfl (by decide), hshow.keeps.set (.OUT_STATUS_STATE o) _ List.mem_cons_self⟩
  case isFalse => exact ⟨hshow.hpd, hshow.int, hshow.state, hshow.keeps⟩

/-- A transmitter leaves FAILED after its wait, with no lane locked, and no other state. -/
theorem State.trainRetry_spec (s : State) (o : Fin 16) : (s.trainRetry o).get (.OUT_STATUS_STATE o)
      = (if s.get (.OUT_STATUS_STATE o) = txFailed then txTraining else s.get (.OUT_STATUS_STATE o))
    ∧ (s.get (.OUT_STATUS_STATE o) = txFailed → NoLock o (s.trainRetry o))
    ∧ Keeps [] (only (Reg.OUT_STATUS o :: lstatRegs o)) s (s.trainRetry o) := by
  unfold State.trainRetry
  split
  case isTrue =>
    obtain ⟨hlanes, hkeep⟩ := s.noLock_spec o
    refine ⟨State.get_set_fits _ rfl (wid := 3) rfl (by decide), fun _ => ?_, ?_⟩
    · exact hlanes.keep ((Keeps.refl [] (only [Reg.OUT_STATUS o]) _).set (.OUT_STATUS_STATE o) _ List.mem_cons_self)
        (by apply checkEach o; decide)
    · exact (hkeep.widen (fun _ => id) (by simp)).set (.OUT_STATUS_STATE o) _ List.mem_cons_self
  case isFalse hne => exact ⟨rfl, fun h => absurd h hne, Keeps.refl _ _ s⟩

/-! ### Retraining (R151, R153) -/

theorem State.setLane_out (s : State) (q l : Nat) (sync good : Bool) : (s.setLane q l sync good).out = s.out := by
  unfold State.setLane
  simp only [State.setB, State.set_out]
  split
  · simp only [State.count, State.set_out]
  · rfl

theorem State.each_setLane_out (q : Nat) (sync good : Nat → Bool) (ls : List Nat) : ∀ s : State,
    (s.each ls fun s l => s.setLane q l (sync l) (good l)).out = s.out := by
  induction ls with
  | nil => exact fun _ => rfl
  | cons l ls ih => exact fun s => (ih _).trans (State.setLane_out ..)

theorem State.linkLanes_out (s : State) (q : Nat) (sync good : Nat → Bool) : (s.linkLanes q sync good).out = s.out :=
  State.each_setLane_out q sync good (List.range 4) s

/-- Output `o` sends or could send video. -/
abbrev State.linkUp (s : State) (o : Nat) : Prop := s.get (.OUT_STATUS_STATE o) = txVideo ∨ s.get (.OUT_STATUS_STATE o) = txBlank

theorem Keeps.linkUp {ps : List Part} {W : Nat → Prop} {s t : State} {o : Nat} (h : Keeps ps W s t) (hw : ¬ W (Reg.OUT_STATUS o))
    (hs : s.linkUp o) : t.linkUp o := by
  rwa [State.linkUp, h.get (.OUT_STATUS_STATE o) hw]

/-- The recent retrains follow from the ticks kept and the tick. -/
theorem Keeps.recentRetrains {ps : List Part} {W : Nat → Prop} {s t : State} {o : Nat} (h : Keeps ps W s t)
    (hr : (t.outp o).retrains = (s.outp o).retrains) (hw : ∀ a ∈ [Reg.DLR_TICK_COUNT, Reg.DLR_TICK_NUM, Reg.DLR_TICK_DEN], ¬ W a) :
    t.recentRetrains o = s.recentRetrains o ∧ t.tick = s.tick := by
  simp only [List.forall_mem_cons] at hw
  obtain ⟨hcount, hnum, hden, -⟩ := hw
  have htick : t.tick = s.tick := h.2.2 _ hcount
  rw [State.recentRetrains, State.recentRetrains, hr, htick, h.pTick hnum hden]
  exact ⟨rfl, rfl⟩

/-- Output `o` trains again, at a further tick. -/
def State.trainAgain (s : State) (o : Nat) (ticks : List Tick) : State :=
  (((s.noLock o).set (.OUT_STATUS_STATE o) txTraining).setB .OUT_INT_STATUS_RETRAIN true).updOut o fun x => { x with retrains := ticks }

/-- Output `o` sends no video until a vertical blanking. -/
def State.holdVideo (s : State) (o : Nat) : State := s.updOut o fun x => { x with videoWait := true }

theorem State.retrain_again {s : State} {o : Nat} (hs : s.linkUp o) (hr : (s.recentRetrains o).length < 8) :
    s.retrain o = (s.holdVideo o).trainAgain o (s.recentRetrains o ++ [s.tick]) :=
  (if_pos hs).trans (if_neg (Nat.not_le.mpr hr))

theorem State.retrain_failed {s : State} {o : Nat} (hs : s.linkUp o) (hr : 8 ≤ (s.recentRetrains o).length) :
    s.retrain o = ((s.holdVideo o).set (.OUT_STATUS_STATE o) txFailed).setB .OUT_INT_STATUS_TRAIN_FAIL true :=
  (if_pos hs).trans (if_pos hr)

theorem State.retrain_down {s : State} {o : Nat} (h : ¬ s.linkUp o) : s.retrain o = s := if_neg h

/-- The effects of a retrain. -/
structure Retrained (o : Fin 16) (s t : State) : Prop where
  state : t.get (.OUT_STATUS_STATE o) = txTraining
  int : t.on .OUT_INT_STATUS_RETRAIN = true
  hpd : t.on .OUT_INT_STATUS_HPD = s.on .OUT_INT_STATUS_HPD
  outp : t.outp o = { s.outp o with videoWait := true, retrains := s.recentRetrains o ++ [s.tick] }
  other : ∀ p, p ≠ o.val → t.outp p = s.outp p
  lanes : NoLock o t
  out : t.out = s.out
  keeps : Keeps [.outs] (only (lstatRegs o ++ [Reg.OUT_STATUS o, Reg.OUT_INT_STATUS])) s t

theorem State.retrain_spec {s : State} {o : Fin 16} (hs : s.linkUp o) (hr : (s.recentRetrains o).length < 8) :
    Retrained o s (s.retrain o) := by
  rw [State.retrain_again hs hr]
  unfold State.trainAgain
  have hhold : Keeps [.outs] (only (lstatRegs o)) s (s.holdVideo o) := (Keeps.refl _ _ s).updOut o _ List.mem_cons_self
  obtain ⟨hlanes, hlock⟩ := (s.holdVideo o).noLock_spec o
  have hkeep := hhold.trans (hlock.widen (List.nil_subset _) (fun _ => id))
  have houtp : ∀ p, ((s.holdVideo o).noLock o).outp p = (s.holdVideo o).outp p := hlock.outp List.not_mem_nil
  have hout : ((s.holdVideo o).noLock o).out = s.out := (State.linkLanes_out ..).trans (State.updOut_out ..)
  generalize (s.holdVideo o).noLock o = u at hlanes hkeep houtp hout ⊢
  have hset : Keeps [] (only [Reg.OUT_STATUS o, Reg.OUT_INT_STATUS]) u
      ((u.set (.OUT_STATUS_STATE o) txTraining).setB .OUT_INT_STATUS_RETRAIN true) :=
    ((Keeps.refl _ _ u).set (.OUT_STATUS_STATE o) _ List.mem_cons_self).setB .OUT_INT_STATUS_RETRAIN _
      (by simp [Fld.OUT_INT_STATUS_RETRAIN])
  have hint : ((u.set (.OUT_STATUS_STATE o) txTraining).setB .OUT_INT_STATUS_RETRAIN true).on .OUT_INT_STATUS_RETRAIN = true :=
    State.on_setB _ _ rfl rfl
  have hstate : ((u.set (.OUT_STATUS_STATE o) txTraining).setB .OUT_INT_STATUS_RETRAIN true).get (.OUT_STATUS_STATE o) = txTraining :=
    (State.get_set_other _ _ (by apply checkEach o; decide)).trans (State.get_set_fits _ rfl (wid := 3) rfl (by decide))
  have hhpd : ((u.set (.OUT_STATUS_STATE o) txTraining).setB .OUT_INT_STATUS_RETRAIN true).on .OUT_INT_STATUS_HPD = u.on .OUT_INT_STATUS_HPD :=
    (State.on_set_other _ _ rfl).trans (State.on_set_other _ _ (by apply checkEach o; decide))
  have hvout : ((u.set (.OUT_STATUS_STATE o) txTraining).setB .OUT_INT_STATUS_RETRAIN true).out = u.out :=
    (State.set_out ..).trans (State.set_out ..)
  generalize (u.set (.OUT_STATUS_STATE o) txTraining).setB .OUT_INT_STATUS_RETRAIN true = v at hset hint hstate hhpd hvout ⊢
  have hticks : Keeps [.outs] (only []) v (v.updOut o fun x => { x with retrains := s.recentRetrains o ++ [s.tick] }) :=
    (Keeps.refl _ _ v).updOut o _ List.mem_cons_self
  have hend := (hset.widen (bs := [Reg.OUT_STATUS o, Reg.OUT_INT_STATUS]) (List.nil_subset _) (fun _ => id)).trans
    (hticks.widen (fun _ => id) (List.nil_subset _))
  refine ⟨(hticks.get _ List.not_mem_nil).trans hstate, (hticks.on _ List.not_mem_nil).trans hint, ?hpd, ?outp, ?other, ?lanes, ?out, ?keeps⟩
  case out => exact (State.updOut_out ..).trans (hvout.trans hout)
  case hpd => exact (hticks.on _ List.not_mem_nil).trans (hhpd.trans (hkeep.on .OUT_INT_STATUS_HPD (by apply checkEach o; decide)))
  case outp =>
    rw [State.updOut_self, hset.outp List.not_mem_nil, houtp, State.holdVideo, State.updOut_self]
  case other =>
    intro p hp
    rw [State.updOut_other _ _ hp, hset.outp List.not_mem_nil, houtp, State.holdVideo, State.updOut_other _ _ hp]
  case lanes => exact hlanes.keep hend (by apply checkEach o; decide)
  case keeps => exact (hkeep.widen (fun _ => id) (by simp)).trans (hend.widen (fun _ => id) (by simp))

/-- The effects of a retrain too many. -/
structure RetrainFailed (o : Fin 16) (s t : State) : Prop where
  state : t.get (.OUT_STATUS_STATE o) = txFailed
  int : t.on .OUT_INT_STATUS_TRAIN_FAIL = true
  wait : (t.outp o).videoWait = true
  keeps : Keeps [.outs] (only [Reg.OUT_STATUS o, Reg.OUT_INT_STATUS]) s t

theorem State.retrain_failed_spec {s : State} {o : Fin 16} (hs : s.linkUp o) (hr : 8 ≤ (s.recentRetrains o).length) :
    RetrainFailed o s (s.retrain o) := by
  rw [State.retrain_failed hs hr]
  have hhold : Keeps [.outs] (only [Reg.OUT_STATUS o, Reg.OUT_INT_STATUS]) s (s.holdVideo o) :=
    (Keeps.refl _ _ s).updOut o _ List.mem_cons_self
  have hwait : ((s.holdVideo o).outp o).videoWait = true := by rw [State.holdVideo, State.updOut_self]
  refine ⟨?_, State.on_setB _ _ rfl rfl, (congrArg OutSt.videoWait ((State.set_outp ..).trans (State.set_outp ..))).trans hwait, ?_⟩
  · exact (State.get_set_other _ _ (by apply checkEach o; decide)).trans (State.get_set_fits _ rfl (wid := 3) rfl (by decide))
  · exact (hhold.set (.OUT_STATUS_STATE o) _ List.mem_cons_self).setB .OUT_INT_STATUS_TRAIN_FAIL _ (by simp [Fld.OUT_INT_STATUS_TRAIN_FAIL])

end Sys2Proof.Machine
end

section
/-!
SUPPORT. The sink's interrupt (R153): what its status counts, shows and starts, for O18.
-/

namespace Sys2Proof.Machine

open Sys2Proof

/-! ### The sink's interrupt (R153) -/

/-- A pulse of HPD is counted and reported, and the link status read. -/
def State.irqSeen (s : State) (o : Nat) : State :=
  ((s.count (.OUT_LINK_IRQ_HPD o)).setB .OUT_INT_STATUS_HPD true).emit (.auxSend o ⟨2, 0, 0x200, 6, [], 0, 0⟩)

theorem State.irqHpd_outside {s : State} {us : Nat} (h : us < 250 ∨ 2000 < us) (o : Nat) (st : Option (List Byte)) : s.irqHpd o us st = s :=
  if_pos h

theorem State.irqHpd_unread {s : State} {us : Nat} (hlo : 250 ≤ us) (hhi : us ≤ 2000) (o : Nat) :
    s.irqHpd o us none = (s.irqSeen o).count (.OUT_LINK_AUX_FAIL o) := if_neg (by omega)

/-- The service bits that the status shows are cleared. -/
def State.irqServiced (s : State) (o : Nat) (bs : List Byte) : State :=
  if bs.getD 1 0 = 0 then s.irqSeen o else (s.irqSeen o).emit (.auxSend o ⟨2, 1, 0x201, 1, [bs.getD 1 0], 0, 0⟩)

/-- The lanes of output `o` show what the status says. -/
def State.irqLanes (s : State) (o : Nat) (bs : List Byte) : State :=
  s.linkLanes o (fun l => decide (l < laneCount (s.get (.OUT_STATUS_LANES o))) && bitOf (Machine.laneNibble bs l) 2)
    fun l => decide (l < laneCount (s.get (.OUT_STATUS_LANES o))) && Machine.laneNibble bs l == 7

/-- Output `o` is to train from the configuration in use. -/
def State.trainFromUse (s : State) (o : Nat) : State :=
  (s.updOut o fun x => { x with fromCfg := some ⟨s.get (.OUT_STATUS_LANES o), s.get (.OUT_STATUS_RATE o)⟩ }).count (.OUT_LINK_RETRAIN o)

/-- The status read while the link is up, before it is judged. -/
def State.irqRead (s : State) (o : Nat) (bs : List Byte) : State := (s.irqServiced o bs).irqLanes o bs

/-- What a readable status shows and counts while the link of output `o` is up. -/
structure IrqRead (o : Fin 16) (bs : List Byte) (s t : State) : Prop where
  irqs : t.get (.OUT_LINK_IRQ_HPD o) = satAdd (Fld.OUT_LINK_IRQ_HPD o).wid (s.get (.OUT_LINK_IRQ_HPD o)) 1
  retrains : t.get (.OUT_LINK_RETRAIN o) = s.get (.OUT_LINK_RETRAIN o)
  hpd : t.on .OUT_INT_STATUS_HPD = true
  serviced : bs.getD 1 0 ≠ 0 → Emission.auxSend o ⟨2, 1, 0x201, 1, [bs.getD 1 0], 0, 0⟩ ∈ t.out
  keeps : Keeps [] (only (lstatRegs o ++ [Reg.OUT_LINK o, Reg.OUT_INT_STATUS])) s t

theorem State.emit_on (s : State) (e : Emission) (f : Fld) : (s.emit e).on f = s.on f := rfl

theorem State.irqSeen_spec (s : State) (o : Fin 16) :
    (s.irqSeen o).get (.OUT_LINK_IRQ_HPD o) = satAdd (Fld.OUT_LINK_IRQ_HPD o).wid (s.get (.OUT_LINK_IRQ_HPD o)) 1
    ∧ (s.irqSeen o).get (.OUT_LINK_AUX_FAIL o) = s.get (.OUT_LINK_AUX_FAIL o)
    ∧ (s.irqSeen o).get (.OUT_LINK_RETRAIN o) = s.get (.OUT_LINK_RETRAIN o)
    ∧ (s.irqSeen o).on .OUT_INT_STATUS_HPD = true ∧ Emission.auxSend o ⟨2, 0, 0x200, 6, [], 0, 0⟩ ∈ (s.irqSeen o).out
    ∧ Keeps [] (only [Reg.OUT_LINK o, Reg.OUT_INT_STATUS]) s (s.irqSeen o) := by
  unfold State.irqSeen
  have hkeep := ((Keeps.refl [] (only [Reg.OUT_LINK o, Reg.OUT_INT_STATUS]) s).count (.OUT_LINK_IRQ_HPD o) List.mem_cons_self).setB
    .OUT_INT_STATUS_HPD true (by simp [Fld.OUT_INT_STATUS_HPD])
  have hint : ((s.count (.OUT_LINK_IRQ_HPD o)).setB .OUT_INT_STATUS_HPD true).on .OUT_INT_STATUS_HPD = true := State.on_setB _ _ rfl rfl
  have hlink : ∀ f : Fld, Fld.OUT_INT_STATUS_HPD.apart f = true →
      ((s.count (.OUT_LINK_IRQ_HPD o)).setB .OUT_INT_STATUS_HPD true).get f = (s.count (.OUT_LINK_IRQ_HPD o)).get f :=
    fun f hf => State.get_set_other _ _ hf
  generalize (s.count (.OUT_LINK_IRQ_HPD o)).setB .OUT_INT_STATUS_HPD true = u at hkeep hint hlink ⊢
  rw [State.emit_get, State.emit_get, State.emit_get, State.emit_on, State.emit_out]
  refine ⟨?irqs, ?fails, ?retrains, hint, List.mem_append_right _ List.mem_cons_self, hkeep.emit _⟩
  case irqs => exact (hlink _ (by apply checkEach o; decide)).trans (State.get_count_self s rfl)
  case fails => exact (hlink _ (by apply checkEach o; decide)).trans (State.get_set_other _ _ rfl)
  case retrains => exact (hlink _ (by apply checkEach o; decide)).trans (State.get_set_other _ _ rfl)

/-- Clearing the service bits sends, and changes nothing that is stored. -/
theorem State.irqServiced_spec (s : State) (o : Nat) (bs : List Byte) :
    (bs.getD 1 0 ≠ 0 → Emission.auxSend o ⟨2, 1, 0x201, 1, [bs.getD 1 0], 0, 0⟩ ∈ (s.irqServiced o bs).out)
    ∧ Keeps [] (only []) (s.irqSeen o) (s.irqServiced o bs) := by
  unfold State.irqServiced
  split
  case isTrue h => exact ⟨fun hne => absurd h hne, Keeps.refl _ _ _⟩
  case isFalse => exact ⟨fun _ => by simp, (Keeps.refl _ _ _).emit _⟩

theorem State.irqRead_spec (s : State) (o : Fin 16) (bs : List Byte) : IrqRead o bs s (s.irqRead o bs) := by
  obtain ⟨hirqs, -, hretrains, hhpd, -, hseen⟩ := s.irqSeen_spec o
  obtain ⟨hsent, hserv⟩ := s.irqServiced_spec o bs
  obtain ⟨-, hlanes⟩ := (s.irqServiced o bs).linkLanes_spec o
    (fun l => decide (l < laneCount ((s.irqServiced o bs).get (.OUT_STATUS_LANES o))) && bitOf (Machine.laneNibble bs l) 2)
    fun l => decide (l < laneCount ((s.irqServiced o bs).get (.OUT_STATUS_LANES o))) && Machine.laneNibble bs l == 7
  have hkeep := (hserv.widen (bs := lstatRegs o) (fun _ => id) (List.nil_subset _)).trans hlanes
  refine ⟨?irqs, ?retrains, ?hpd, fun h => ?serviced, ?keeps⟩
  case irqs => exact (hkeep.get (.OUT_LINK_IRQ_HPD o) (by apply checkEach o; decide)).trans hirqs
  case retrains => exact (hkeep.get (.OUT_LINK_RETRAIN o) (by apply checkEach o; decide)).trans hretrains
  case hpd => exact (hkeep.on .OUT_INT_STATUS_HPD (by apply checkEach o; decide)).trans hhpd
  case serviced =>
    rw [State.irqRead, State.irqLanes, State.linkLanes_out]
    exact hsent h
  case keeps => exact (hseen.widen (fun _ => id) (by simp)).trans (hkeep.widen (fun _ => id) (by simp))

/-- A link that lost lock trains again, or fails. -/
def State.irqJudge (s : State) (o : Nat) (bs : List Byte) : State :=
  if lockLost (s.get (.OUT_STATUS_LANES o)) bs ∧ s.linkUp o then
    (s.when (decide ((s.recentRetrains o).length < 8)) fun s => s.trainFromUse o).retrain o
  else s

theorem State.irqHpd_read {s : State} {us : Nat} (hlo : 250 ≤ us) (hhi : us ≤ 2000) (o : Nat) (bs : List Byte) :
    s.irqHpd o us (some bs)
      = (if (s.irqServiced o bs).linkUp o then s.irqRead o bs else s.irqServiced o bs).irqJudge o bs := by
  unfold State.irqHpd
  rw [if_neg (by omega)]
  rfl

theorem State.irqHpd_up {s : State} {o : Fin 16} {us : Nat} (hlo : 250 ≤ us) (hhi : us ≤ 2000) (hs : s.linkUp o) (bs : List Byte) :
    s.irqHpd o us (some bs) = (s.irqRead o bs).irqJudge o bs := by
  have hserv := (s.irqSeen_spec o).2.2.2.2.2.trans ((s.irqServiced_spec o bs).2.widen (fun _ => id) (List.nil_subset _))
  rw [State.irqHpd_read hlo hhi, if_pos (hserv.linkUp (by apply checkEach o; decide) hs)]

/-- The effects of keeping the configuration in use for the training. -/
structure FromUse (o : Fin 16) (s t : State) : Prop where
  outp : t.outp o = { s.outp o with fromCfg := some ⟨s.get (.OUT_STATUS_LANES o), s.get (.OUT_STATUS_RATE o)⟩ }
  other : ∀ p, p ≠ o.val → t.outp p = s.outp p
  retrains : t.get (.OUT_LINK_RETRAIN o) = satAdd (Fld.OUT_LINK_RETRAIN o).wid (s.get (.OUT_LINK_RETRAIN o)) 1
  out : t.out = s.out
  keeps : Keeps [.outs] (only [Reg.OUT_LINK o]) s t

theorem State.trainFromUse_spec (s : State) (o : Fin 16) : FromUse o s (s.trainFromUse o) := by
  unfold State.trainFromUse
  have hcfg : Keeps [.outs] (only [Reg.OUT_LINK o]) s
      (s.updOut o fun x => { x with fromCfg := some ⟨s.get (.OUT_STATUS_LANES o), s.get (.OUT_STATUS_RATE o)⟩ }) :=
    (Keeps.refl _ _ s).updOut o _ List.mem_cons_self
  have hget : (s.updOut o fun x => { x with fromCfg := some ⟨s.get (.OUT_STATUS_LANES o), s.get (.OUT_STATUS_RATE o)⟩ }).get
      (.OUT_LINK_RETRAIN o) = s.get (.OUT_LINK_RETRAIN o) := rfl
  refine ⟨?outp, ?other, ?retrains, ?out, hcfg.count (.OUT_LINK_RETRAIN o) List.mem_cons_self⟩
  case outp => rw [State.count, State.set_outp, State.updOut_self]
  case other => exact fun p hp => by rw [State.count, State.set_outp, State.updOut_other _ _ hp]
  case retrains => rw [State.get_count_self _ rfl, hget]
  case out => rw [State.count, State.set_out, State.updOut_out]

/-- What every read of the status in VIDEO or BLANK keeps for the judgement. -/
theorem IrqRead.judged {o : Fin 16} {bs : List Byte} {s t : State} (h : IrqRead o bs s t) (hs : s.linkUp o) :
    t.linkUp o ∧ t.get (.OUT_STATUS_LANES o) = s.get (.OUT_STATUS_LANES o) ∧ t.get (.OUT_STATUS_RATE o) = s.get (.OUT_STATUS_RATE o)
      ∧ t.recentRetrains o = s.recentRetrains o ∧ t.tick = s.tick := by
  obtain ⟨hrecent, htick⟩ := h.keeps.recentRetrains (o := o) (congrArg OutSt.retrains (h.keeps.outp List.not_mem_nil o)) (by apply checkEach o; decide)
  exact ⟨h.keeps.linkUp (by apply checkEach o; decide) hs, h.keeps.get _ (by apply checkEach o; decide),
    h.keeps.get _ (by apply checkEach o; decide), hrecent, htick⟩

/-- A status that shows lost lock retrains from the configuration in use. -/
theorem State.irqJudge_again {s : State} {o : Fin 16} {bs : List Byte} (hs : s.linkUp o) (hl : lockLost (s.get (.OUT_STATUS_LANES o)) bs = true)
    (hr : (s.recentRetrains o).length < 8) : s.irqJudge o bs = (s.trainFromUse o).retrain o := by
  rw [State.irqJudge, if_pos ⟨hl, hs⟩, decide_eq_true hr]
  rfl

theorem State.irqJudge_failed {s : State} {o : Fin 16} {bs : List Byte} (hs : s.linkUp o) (hl : lockLost (s.get (.OUT_STATUS_LANES o)) bs = true)
    (hr : 8 ≤ (s.recentRetrains o).length) : s.irqJudge o bs = s.retrain o := by
  rw [State.irqJudge, if_pos ⟨hl, hs⟩, decide_eq_false (Nat.not_lt.mpr hr)]
  rfl

theorem State.irqJudge_locked {s : State} {o : Fin 16} {bs : List Byte} (hl : lockLost (s.get (.OUT_STATUS_LANES o)) bs = false) :
    s.irqJudge o bs = s := if_neg fun h => Bool.false_ne_true (hl.symm.trans h.1)

/-- The effects of a status that shows lost lock. -/
structure IrqRetrained (o : Fin 16) (bs : List Byte) (s t : State) : Prop where
  state : t.get (.OUT_STATUS_STATE o) = txTraining
  hpd : t.on .OUT_INT_STATUS_HPD = true
  int : t.on .OUT_INT_STATUS_RETRAIN = true
  outp : t.outp o = { s.outp o with
    fromCfg := some ⟨s.get (.OUT_STATUS_LANES o), s.get (.OUT_STATUS_RATE o)⟩, videoWait := true, retrains := s.recentRetrains o ++ [s.tick] }
  count : t.get (.OUT_LINK_RETRAIN o) = satAdd (Fld.OUT_LINK_RETRAIN o).wid (s.get (.OUT_LINK_RETRAIN o)) 1
  serviced : bs.getD 1 0 ≠ 0 → Emission.auxSend o ⟨2, 1, 0x201, 1, [bs.getD 1 0], 0, 0⟩ ∈ t.out
  other : ∀ p, p ≠ o.val → t.outp p = s.outp p
  keeps : Keeps [.outs] (only (lstatRegs o ++ [Reg.OUT_STATUS o, Reg.OUT_LINK o, Reg.OUT_INT_STATUS])) s t

theorem State.irqRetrained_spec (s : State) (o : Fin 16) (bs : List Byte) (hs : s.linkUp o)
    (hl : lockLost (s.get (.OUT_STATUS_LANES o)) bs = true) (hr : (s.recentRetrains o).length < 8) :
    IrqRetrained o bs s ((s.irqRead o bs).irqJudge o bs) := by
  have hread := s.irqRead_spec o bs
  obtain ⟨hup, hlanes, hrate, hrecent, htick⟩ := hread.judged hs
  generalize s.irqRead o bs = u at hread hup hlanes hrate hrecent htick ⊢
  rw [State.irqJudge_again hup (by rw [hlanes]; exact hl) (by rw [hrecent]; exact hr)]
  have huse := u.trainFromUse_spec o
  generalize u.trainFromUse o = v at huse ⊢
  obtain ⟨hrecentUse, htickUse⟩ := huse.keeps.recentRetrains (o := o) (by rw [huse.outp]) (by apply checkEach o; decide)
  have hre := State.retrain_spec (huse.keeps.linkUp (by apply checkEach o; decide) hup) (by rw [hrecentUse, hrecent]; exact hr)
  generalize v.retrain o = t at hre ⊢
  refine ⟨hre.state, ?hpd, hre.int, ?outp, ?count, fun hne => ?serviced, fun p hp => ?other, ?keeps⟩
  case hpd => exact hre.hpd.trans ((huse.keeps.on _ (by apply checkEach o; decide)).trans hread.hpd)
  case outp => rw [hre.outp, huse.outp, hread.keeps.outp List.not_mem_nil, hlanes, hrate, hrecentUse, hrecent, htickUse, htick]
  case count => rw [hre.keeps.get _ (by apply checkEach o; decide), huse.retrains, hread.retrains]
  case serviced =>
    rw [hre.out, huse.out]
    exact hread.serviced hne
  case other => exact (hre.other p hp).trans ((huse.other p hp).trans (hread.keeps.outp List.not_mem_nil p))
  case keeps =>
    exact ((hread.keeps.widen (List.nil_subset _) (by simp)).trans (huse.keeps.widen (fun _ => id) (by simp))).trans
      (hre.keeps.widen (fun _ => id) (by simp))

end Sys2Proof.Machine
end

section
/-!
SUPPORT. Link training and its results (R152), for O18.
-/

namespace Sys2Proof.Machine

open Sys2Proof

/-! ### Link training (R152) -/

/-- The configuration that trains at 8 bits per component. -/
def State.trainEight (s : State) (o : Nat) (t : TrainIn) (inUse : Option LinkCfg) : Option (LinkCfg × Bool) :=
  (s.trainPick o 8 t t.ok8 inUse).map fun c => (c, true)

/-- The configuration found at the depth wanted first. -/
def State.trainFirst (s : State) (o : Nat) (t : TrainIn) : Option (LinkCfg × Bool) :=
  if !(s.get (.OUT_CTRL_BPC o) == 0) then s.trainEight o t (s.outp o).fromCfg
  else if (s.outp o).fromCfg.isSome && s.on (.OUT_STATUS_BPC8 o) then none
  else (s.trainPick o 10 t t.ok (s.outp o).fromCfg).map fun c => (c, false)

/-- The result of the training of output `o`: the configuration, and whether it is at 8 bits per component. -/
def State.trainResult (s : State) (o : Nat) (t : TrainIn) : Option (LinkCfg × Bool) :=
  match s.trainFirst o t with
  | some r => some r
  | none =>
    if s.get (.OUT_CTRL_BPC o) == 0 && s.on (.OUT_CTRL_BPC_FALLBACK o) then
      s.trainEight o t (if s.on (.OUT_STATUS_BPC8 o) then (s.outp o).fromCfg else none)
    else none

/-- The configurations tried at 10 bits per component have been sent. -/
def State.trainSendsTen (s : State) (o : Nat) (t : TrainIn) : State :=
  if s.get (.OUT_CTRL_BPC o) == 0 && !((s.outp o).fromCfg.isSome && s.on (.OUT_STATUS_BPC8 o)) then s.sendTraining o 10 t t.ok (s.outp o).fromCfg
  else s

/-- The training of output `o` has sent what it tried. -/
def State.trainSends (s : State) (o : Nat) (t : TrainIn) : State :=
  if !(s.get (.OUT_CTRL_BPC o) == 0)
      || ((((s.trainResult o t).map (·.2)).getD true) && (s.trainSendsTen o t).on (.OUT_CTRL_BPC_FALLBACK o)) then
    (s.trainSendsTen o t).sendTraining o 8 t t.ok8
      (if s.get (.OUT_CTRL_BPC o) == 0 && !s.on (.OUT_STATUS_BPC8 o) then none else (s.outp o).fromCfg)
  else s.trainSendsTen o t

/-- The link of output `o` runs on configuration `c`. -/
def State.linkTrained (s : State) (o : Nat) (c : LinkCfg) (b8 : Bool) : State :=
  ((((s.set (.OUT_STATUS_LANES o) c.lanes).set (.OUT_STATUS_RATE o) c.rate).setB (.OUT_STATUS_BPC8 o) b8).count (.OUT_LINK_TRAIN o)).updOut o
    fun x => { x with videoWait := true, trained := some c }

/-- The lanes of output `o` show configuration `c`, and the sink check starts afresh. -/
def State.linkShown (s : State) (o : Nat) (c : LinkCfg) (t : TrainIn) : State :=
  ((s.set (.OUT_STATUS_STATE o) txVideo).linkLanes o (fun l => decide (l < laneCount c.lanes)) fun l => decide (l < laneCount c.lanes)).sinkSupport
    o t.testCrc

/-- A blanked output goes to BLANK and not to VIDEO. -/
def State.videoOrBlank (s : State) (o : Nat) : State :=
  if s.get (.OUT_STATUS_BLANK_SRC o) = 0 then s else s.set (.OUT_STATUS_STATE o) txBlank

/-- The training of output `o` has a result. -/
def State.trainDone (s : State) (o : Nat) (t : TrainIn) : Option (LinkCfg × Bool) → State
  | none => ((s.set (.OUT_STATUS_STATE o) txFailed).noLock o).setB .OUT_INT_STATUS_TRAIN_FAIL true
  | some (c, b8) => ((s.linkTrained o c b8).linkShown o c t).videoOrBlank o

/-- The training of output `o` has sent what it tried, and the configuration to start from is forgotten. -/
def State.trainSent (s : State) (o : Nat) (t : TrainIn) : State := (s.trainSends o t).updOut o fun x => { x with fromCfg := none }

theorem State.trainingEnds_eq {s : State} {o : Nat} (h : s.get (.OUT_STATUS_STATE o) = txTraining) (t : TrainIn) :
    s.trainingEnds o t = (s.trainSent o t).trainDone o t (s.trainResult o t) := by
  unfold State.trainingEnds
  rw [if_neg (not_not_intro h)]
  rfl

theorem State.trainPick_nil (s : State) (o bits : Nat) (t : TrainIn) (inUse : Option LinkCfg) : s.trainPick o bits t [] inUse = none :=
  List.find?_eq_none.mpr fun _ _ => Bool.false_ne_true

theorem State.trainResult_none (s : State) (o : Nat) {t : TrainIn} (h : t.ok = []) (h8 : t.ok8 = []) : s.trainResult o t = none := by
  have height : ∀ inUse, s.trainEight o t inUse = none := fun inUse => by rw [State.trainEight, h8, State.trainPick_nil, Option.map_none]
  simp only [State.trainResult, State.trainFirst, height, h, State.trainPick_nil, Option.map_none, ite_self]

theorem State.trainResult_ten {s : State} {o : Nat} {t : TrainIn} {c : LinkCfg} (hbpc : s.get (.OUT_CTRL_BPC o) = 0)
    (huse : (s.outp o).fromCfg = none ∨ s.on (.OUT_STATUS_BPC8 o) = false) (hc : s.trainPick o 10 t t.ok (s.outp o).fromCfg = some c) :
    s.trainResult o t = some (c, false) := by
  have hten : ((s.outp o).fromCfg.isSome && s.on (.OUT_STATUS_BPC8 o)) = false := by
    rcases huse with h | h
    · rw [h]; rfl
    · rw [h, Bool.and_false]
  have hfirst : s.trainFirst o t = some (c, false) := by
    rw [State.trainFirst, hbpc, hten, hc]
    rfl
  rw [State.trainResult, hfirst]

theorem State.trainResult_eight {s : State} {o : Nat} {t : TrainIn} {c : LinkCfg}
    (hbpc : s.get (.OUT_CTRL_BPC o) ≠ 0
      ∨ (s.on (.OUT_CTRL_BPC_FALLBACK o) = true ∧ (s.outp o).fromCfg.isSome = true ∧ s.on (.OUT_STATUS_BPC8 o) = true))
    (hc : s.trainPick o 8 t t.ok8 (s.outp o).fromCfg = some c) : s.trainResult o t = some (c, true) := by
  have height : s.trainEight o t (s.outp o).fromCfg = some (c, true) := by rw [State.trainEight, hc, Option.map_some]
  by_cases hwant : s.get (.OUT_CTRL_BPC o) = 0
  · obtain ⟨hfall, huse, hat⟩ := hbpc.resolve_left (not_not_intro hwant)
    have hfirst : s.trainFirst o t = none := by
      rw [State.trainFirst, hwant, huse, hat]
      rfl
    rw [State.trainResult, hfirst, hwant, hfall, hat]
    exact height
  · have hfirst : s.trainFirst o t = some (c, true) := by
      rw [State.trainFirst, beq_false_of_ne hwant]
      exact height
    rw [State.trainResult, hfirst]

/-- Training sends, and changes nothing that is stored. -/
theorem State.sendTraining_keeps (s : State) (o bits : Nat) (t : TrainIn) (ok : List TrainTry) (inUse : Option LinkCfg) :
    Keeps [] (only []) s (s.sendTraining o bits t ok inUse) := by
  unfold State.sendTraining
  dsimp only
  split
  · exact Keeps.refl _ _ s
  · unfold State.when
    split
    · exact ((Keeps.refl _ _ s).emit _).emit _
    · exact (Keeps.refl _ _ s).emit _

theorem State.trainSends_keeps (s : State) (o : Nat) (t : TrainIn) : Keeps [] (only []) s (s.trainSends o t) := by
  have hten : Keeps [] (only []) s (s.trainSendsTen o t) := by
    unfold State.trainSendsTen
    split
    · exact State.sendTraining_keeps ..
    · exact Keeps.refl _ _ s
  unfold State.trainSends
  split
  · exact hten.trans (State.sendTraining_keeps ..)
  · exact hten

/-- The effects of what the training sends. -/
theorem State.trainSent_spec (s : State) (o : Nat) (t : TrainIn) : (s.trainSent o t).outp o = { s.outp o with fromCfg := none }
    ∧ (∀ p, p ≠ o → (s.trainSent o t).outp p = s.outp p) ∧ Keeps [.outs] (only []) s (s.trainSent o t) := by
  have hsends := s.trainSends_keeps o t
  unfold State.trainSent
  generalize s.trainSends o t = u at hsends ⊢
  refine ⟨?_, fun p hp => ?_, (hsends.widen (List.nil_subset _) (fun _ => id)).updOut o _ List.mem_cons_self⟩
  · rw [State.updOut_self, hsends.outp List.not_mem_nil]
  · rw [State.updOut_other _ _ hp, hsends.outp List.not_mem_nil]

/-- The effects of a training that no setting passes. -/
structure TrainFailed (o : Fin 16) (s t : State) : Prop where
  state : t.get (.OUT_STATUS_STATE o) = txFailed
  int : t.on .OUT_INT_STATUS_TRAIN_FAIL = true
  lanes : NoLock o t
  keeps : Keeps [] (only (lstatRegs o ++ [Reg.OUT_STATUS o, Reg.OUT_INT_STATUS])) s t

theorem State.trainDone_none_spec (s : State) (o : Fin 16) (t : TrainIn) : TrainFailed o s (s.trainDone o t none) := by
  unfold State.trainDone
  have hstate : (s.set (.OUT_STATUS_STATE o) txFailed).get (.OUT_STATUS_STATE o) = txFailed := State.get_set_fits _ rfl (wid := 3) rfl (by decide)
  have hset := (Keeps.refl [] (only (lstatRegs o ++ [Reg.OUT_STATUS o, Reg.OUT_INT_STATUS])) s).set (.OUT_STATUS_STATE o) txFailed
    (by simp [Fld.OUT_STATUS_STATE])
  generalize s.set (.OUT_STATUS_STATE o) txFailed = u at hstate hset ⊢
  obtain ⟨hlanes, hlock⟩ := u.noLock_spec o
  have hkeep := hset.trans (hlock.widen (fun _ => id) (by simp))
  have hstill := (hlock.get (.OUT_STATUS_STATE o) (by apply checkEach o; decide)).trans hstate
  generalize u.noLock o = v at hlanes hkeep hstill ⊢
  refine ⟨?state, State.on_setB _ _ rfl rfl, ?lanes, hkeep.setB .OUT_INT_STATUS_TRAIN_FAIL true (by simp [Fld.OUT_INT_STATUS_TRAIN_FAIL])⟩
  case state => exact (State.get_set_other _ _ (by apply checkEach o; decide)).trans hstill
  case lanes =>
    exact hlanes.keep ((Keeps.refl [] (only [Reg.OUT_INT_STATUS]) v).setB .OUT_INT_STATUS_TRAIN_FAIL true List.mem_cons_self)
      (by apply checkEach o; decide)

/-- What OUT_STATUS shows of the configuration in use. -/
structure CfgShown (o : Fin 16) (c : LinkCfg) (b8 : Bool) (t : State) : Prop where
  lanes : t.get (.OUT_STATUS_LANES o) = c.lanes % 4
  rate : t.get (.OUT_STATUS_RATE o) = c.rate % 4
  bpc8 : t.on (.OUT_STATUS_BPC8 o) = b8

theorem CfgShown.of_get {o : Fin 16} {c : LinkCfg} {b8 : Bool} {s t : State} (h : CfgShown o c b8 s)
    (hg : ∀ f : Fld, f.addr = Reg.OUT_STATUS o → (Fld.OUT_STATUS_STATE o).apart f = true → t.get f = s.get f) : CfgShown o c b8 t where
  lanes := (hg _ rfl rfl).trans h.lanes
  rate := (hg _ rfl rfl).trans h.rate
  bpc8 := (congrArg (· != 0) (hg (.OUT_STATUS_BPC8 o) rfl rfl)).trans h.bpc8

/-- The effects of a link that runs on a configuration. -/
structure LinkTrained (o : Fin 16) (c : LinkCfg) (b8 : Bool) (s t : State) : Prop where
  shown : CfgShown o c b8 t
  count : t.get (.OUT_LINK_TRAIN o) = satAdd (Fld.OUT_LINK_TRAIN o).wid (s.get (.OUT_LINK_TRAIN o)) 1
  blank : t.get (.OUT_STATUS_BLANK_SRC o) = s.get (.OUT_STATUS_BLANK_SRC o)
  outp : t.outp o = { s.outp o with videoWait := true, trained := some c }
  other : ∀ p, p ≠ o.val → t.outp p = s.outp p
  keeps : Keeps [.outs] (only [Reg.OUT_STATUS o, Reg.OUT_LINK o]) s t

theorem State.linkTrained_spec (s : State) (o : Fin 16) (c : LinkCfg) (b8 : Bool) : LinkTrained o c b8 s (s.linkTrained o c b8) := by
  unfold State.linkTrained
  have hcfg : CfgShown o c b8 (((s.set (.OUT_STATUS_LANES o) c.lanes).set (.OUT_STATUS_RATE o) c.rate).setB (.OUT_STATUS_BPC8 o) b8) :=
    ⟨(State.get_set_other _ _ rfl).trans ((State.get_set_other _ _ rfl).trans (State.get_set_self _ _ rfl)),
      (State.get_set_other _ _ rfl).trans (State.get_set_self _ _ rfl), State.on_setB _ _ rfl rfl⟩
  have hblank : (((s.set (.OUT_STATUS_LANES o) c.lanes).set (.OUT_STATUS_RATE o) c.rate).setB (.OUT_STATUS_BPC8 o) b8).get
      (.OUT_STATUS_BLANK_SRC o) = s.get (.OUT_STATUS_BLANK_SRC o) :=
    (State.get_set_other _ _ rfl).trans ((State.get_set_other _ _ rfl).trans (State.get_set_other _ _ rfl))
  have hkeep := (((Keeps.refl [] (only [Reg.OUT_STATUS o]) s).set (.OUT_STATUS_LANES o) c.lanes List.mem_cons_self).set
    (.OUT_STATUS_RATE o) c.rate List.mem_cons_self).setB (.OUT_STATUS_BPC8 o) b8 List.mem_cons_self
  generalize ((s.set (.OUT_STATUS_LANES o) c.lanes).set (.OUT_STATUS_RATE o) c.rate).setB (.OUT_STATUS_BPC8 o) b8 = u at hcfg hblank hkeep ⊢
  have hcount : Keeps [] (only [Reg.OUT_LINK o]) u (u.count (.OUT_LINK_TRAIN o)) :=
    (Keeps.refl _ _ u).count (.OUT_LINK_TRAIN o) List.mem_cons_self
  have hfar : Reg.OUT_STATUS o ∉ [Reg.OUT_LINK o] := by apply checkEach o; decide
  have htrain : (u.count (.OUT_LINK_TRAIN o)).get (.OUT_LINK_TRAIN o) = satAdd (Fld.OUT_LINK_TRAIN o).wid (s.get (.OUT_LINK_TRAIN o)) 1 := by
    rw [State.get_count_self _ rfl, hkeep.get (.OUT_LINK_TRAIN o) (by apply checkEach o; decide)]
  generalize u.count (.OUT_LINK_TRAIN o) = v at hcount htrain ⊢
  have hall := (hkeep.widen (bs := [Reg.OUT_STATUS o, Reg.OUT_LINK o]) (fun _ => id) (by simp)).trans (hcount.widen (fun _ => id) (by simp))
  refine ⟨hcfg.of_get fun f hf _ => ?_, ?count, ?blank, ?outp, fun p hp => ?_,
    (hall.widen (List.nil_subset _) (fun _ => id)).updOut o _ List.mem_cons_self⟩
  · rw [State.updOut_get, hcount.get f (by rw [hf]; exact hfar)]
  case count => rw [State.updOut_get, htrain]
  case blank => rw [State.updOut_get, hcount.get (.OUT_STATUS_BLANK_SRC o) hfar, hblank]
  case outp => rw [State.updOut_self, hall.outp List.not_mem_nil]
  · rw [State.updOut_other _ _ hp, hall.outp List.not_mem_nil]

/-- The effects of a sink check that starts afresh and does not run. -/
theorem State.sinkSupport_off_spec {s : State} {o : Fin 16} (h : s.get (.CMP_LV_OUT_SINK_MODE o) = 0) (support : Bool) :
    (s.sinkSupport o support).on (.CMP_LV_OUT_SINK_ACTIVE o) = false
    ∧ (s.sinkSupport o support).outp o = { s.outp o with sinkPrev := none }
    ∧ (∀ p, p ≠ o.val → (s.sinkSupport o support).outp p = s.outp p)
    ∧ Keeps [.outs] (only [Reg.CMP_LV_OUT o]) s (s.sinkSupport o support) := by
  unfold State.sinkSupport
  rw [if_pos h]
  have hrun : Keeps [] (only [Reg.CMP_LV_OUT o]) s (s.set (.CMP_LV_OUT_MISS_RUN o) 0) :=
    (Keeps.refl _ _ s).set (.CMP_LV_OUT_MISS_RUN o) 0 List.mem_cons_self
  generalize s.set (.CMP_LV_OUT_MISS_RUN o) 0 = u at hrun ⊢
  have hprev := (hrun.widen (qs := [.outs]) (List.nil_subset _) (fun _ => id)).updOut o (fun x => { x with sinkPrev := none }) List.mem_cons_self
  refine ⟨State.on_setB _ _ rfl rfl, ?outp, ?other, hprev.setB (.CMP_LV_OUT_SINK_ACTIVE o) false List.mem_cons_self⟩
  case outp => rw [State.setB, State.set_outp, State.updOut_self, hrun.outp List.not_mem_nil]
  case other => exact fun p hp => by rw [State.setB, State.set_outp, State.updOut_other _ _ hp, hrun.outp List.not_mem_nil]

/-- The effects of showing the link's lanes, with no sink check. -/
structure LinkShown (o : Fin 16) (c : LinkCfg) (s t : State) : Prop where
  state : t.get (.OUT_STATUS_STATE o) = txVideo
  status : ∀ f : Fld, f.addr = Reg.OUT_STATUS o → (Fld.OUT_STATUS_STATE o).apart f = true → t.get f = s.get f
  active : t.on (.CMP_LV_OUT_SINK_ACTIVE o) = false
  outp : t.outp o = { s.outp o with sinkPrev := none }
  other : ∀ p, p ≠ o.val → t.outp p = s.outp p
  lanes : LanesShow o (fun l => decide (l < laneCount c.lanes)) (fun l => decide (l < laneCount c.lanes)) t
  keeps : Keeps [.outs] (only (lstatRegs o ++ [Reg.OUT_STATUS o, Reg.CMP_LV_OUT o])) s t

theorem State.linkShown_spec {s : State} {o : Fin 16} (h : s.get (.CMP_LV_OUT_SINK_MODE o) = 0) (c : LinkCfg) (t : TrainIn) :
    LinkShown o c s (s.linkShown o c t) := by
  unfold State.linkShown
  have hstate : (s.set (.OUT_STATUS_STATE o) txVideo).get (.OUT_STATUS_STATE o) = txVideo := State.get_set_fits _ rfl (wid := 3) rfl (by decide)
  have hstatus : ∀ f : Fld, (Fld.OUT_STATUS_STATE o).apart f = true → (s.set (.OUT_STATUS_STATE o) txVideo).get f = s.get f :=
    fun f hf => State.get_set_other _ _ hf
  have hset := (Keeps.refl [] (only [Reg.OUT_STATUS o]) s).set (.OUT_STATUS_STATE o) txVideo List.mem_cons_self
  generalize s.set (.OUT_STATUS_STATE o) txVideo = u at hstate hstatus hset ⊢
  obtain ⟨hlanes, hlock⟩ := u.linkLanes_spec o (fun l => decide (l < laneCount c.lanes)) fun l => decide (l < laneCount c.lanes)
  generalize u.linkLanes o (fun l => decide (l < laneCount c.lanes)) (fun l => decide (l < laneCount c.lanes)) = v at hlanes hlock ⊢
  have hkeep := (hset.widen (bs := Reg.OUT_STATUS o :: lstatRegs o) (fun _ => id) (by simp)).trans (hlock.widen (fun _ => id) (by simp))
  have hmode : v.get (.CMP_LV_OUT_SINK_MODE o) = 0 := (hkeep.get (.CMP_LV_OUT_SINK_MODE o) (by apply checkEach o; decide)).trans h
  obtain ⟨hactive, houtp, hother, hsink⟩ := State.sinkSupport_off_spec hmode t.testCrc
  have hfar : Reg.OUT_STATUS o ∉ lstatRegs o ∧ Reg.OUT_STATUS o ∉ [Reg.CMP_LV_OUT o] := by apply checkEach o; decide
  refine ⟨?state, fun f hf ha => ?_, hactive, ?outp, fun p hp => ?_, hlanes.keep hsink (by apply checkEach o; decide), ?keeps⟩
  case state => exact (hsink.get (.OUT_STATUS_STATE o) hfar.2).trans ((hlock.get (.OUT_STATUS_STATE o) hfar.1).trans hstate)
  · rw [hsink.get f (by rw [hf]; exact hfar.2), hlock.get f (by rw [hf]; exact hfar.1), hstatus f ha]
  case outp => rw [houtp, hkeep.outp List.not_mem_nil]
  · rw [hother p hp, hkeep.outp List.not_mem_nil]
  case keeps => exact (hkeep.widen (List.nil_subset _) (by simp)).trans (hsink.widen (fun _ => id) (by simp))

/-- The effects of a training that ends on configuration `c`. -/
structure Trained (o : Fin 16) (c : LinkCfg) (b8 : Bool) (s t : State) : Prop where
  state : t.get (.OUT_STATUS_STATE o) = if s.get (.OUT_STATUS_BLANK_SRC o) = 0 then txVideo else txBlank
  shown : CfgShown o c b8 t
  count : t.get (.OUT_LINK_TRAIN o) = satAdd (Fld.OUT_LINK_TRAIN o).wid (s.get (.OUT_LINK_TRAIN o)) 1
  active : t.on (.CMP_LV_OUT_SINK_ACTIVE o) = false
  outp : t.outp o = { s.outp o with videoWait := true, trained := some c, sinkPrev := none }
  other : ∀ p, p ≠ o.val → t.outp p = s.outp p
  lanes : LanesShow o (fun l => decide (l < laneCount c.lanes)) (fun l => decide (l < laneCount c.lanes)) t
  keeps : Keeps [.outs] (only (lstatRegs o ++ [Reg.OUT_STATUS o, Reg.OUT_LINK o, Reg.CMP_LV_OUT o])) s t

theorem State.trainDone_some_spec {s : State} {o : Fin 16} (h : s.get (.CMP_LV_OUT_SINK_MODE o) = 0) (t : TrainIn) (c : LinkCfg) (b8 : Bool) :
    Trained o c b8 s (s.trainDone o t (some (c, b8))) := by
  unfold State.trainDone
  have htrained := s.linkTrained_spec o c b8
  dsimp only
  generalize s.linkTrained o c b8 = u at htrained ⊢
  have hshown := State.linkShown_spec ((htrained.keeps.get (.CMP_LV_OUT_SINK_MODE o) (by apply checkEach o; decide)).trans h) c t
  generalize u.linkShown o c t = v at hshown ⊢
  have hcfg : CfgShown o c b8 v := htrained.shown.of_get hshown.status
  have hcount := (hshown.keeps.get (.OUT_LINK_TRAIN o) (by apply checkEach o; decide)).trans htrained.count
  have hblank : v.get (.OUT_STATUS_BLANK_SRC o) = s.get (.OUT_STATUS_BLANK_SRC o) :=
    (hshown.status (.OUT_STATUS_BLANK_SRC o) rfl rfl).trans htrained.blank
  have houtp : v.outp o = { s.outp o with videoWait := true, trained := some c, sinkPrev := none } := by
    rw [hshown.outp, htrained.outp]
  have hother : ∀ p, p ≠ o.val → v.outp p = s.outp p := fun p hp => (hshown.other p hp).trans (htrained.other p hp)
  have hkeep := (htrained.keeps.widen (bs := lstatRegs o ++ [Reg.OUT_STATUS o, Reg.OUT_LINK o, Reg.CMP_LV_OUT o]) (fun _ => id) (by simp)).trans
    (hshown.keeps.widen (fun _ => id) (by simp))
  unfold State.videoOrBlank
  rw [hblank]
  split
  case isTrue => exact ⟨by rw [if_pos ‹_›]; exact hshown.state, hcfg, hcount, hshown.active, houtp, hother, hshown.lanes, hkeep⟩
  case isFalse hne =>
    have hset := (Keeps.refl [] (only [Reg.OUT_STATUS o]) v).set (.OUT_STATUS_STATE o) txBlank List.mem_cons_self
    refine ⟨by rw [if_neg hne]; exact State.get_set_fits _ rfl (wid := 3) rfl (by decide), hcfg.of_get fun f _ ha => State.get_set_other _ _ ha,
      ?count, ?active, (State.set_outp ..).trans houtp, fun p hp => (State.set_outp ..).trans (hother p hp),
      hshown.lanes.keep hset (by apply checkEach o; decide), hkeep.set (.OUT_STATUS_STATE o) _ (by simp [Fld.OUT_STATUS_STATE])⟩
    case count => exact (hset.get (.OUT_LINK_TRAIN o) (by apply checkEach o; decide)).trans hcount
    case active => exact (hset.on (.CMP_LV_OUT_SINK_ACTIVE o) (by apply checkEach o; decide)).trans hshown.active

/-- The row of a training that ends on configuration `c`, with no sink check. -/
theorem State.trained_settled {s t : State} {o : Fin 16} {c : LinkCfg} {b8 : Bool} {r : TrainIn} (hmode : s.get (.CMP_LV_OUT_SINK_MODE o) = 0)
    (ht : Settled ((s.quiet.trainSent o r).trainDone o r (some (c, b8))) t) :
    t.get (.OUT_STATUS_STATE o) = (if s.get (.OUT_STATUS_BLANK_SRC o) = 0 then txVideo else txBlank)
    ∧ t.get (.OUT_LINK_TRAIN o) = satAdd (Fld.OUT_LINK_TRAIN o).wid (s.get (.OUT_LINK_TRAIN o)) 1
    ∧ CfgShown o c b8 t ∧ t.on (.CMP_LV_OUT_SINK_ACTIVE o) = false
    ∧ t.outp o = { s.outp o with fromCfg := none, videoWait := true, trained := some c, sinkPrev := none }
    ∧ (∀ p, p ≠ o.val → t.outp p = s.outp p) ∧ (∀ l < 4, t.on (.SER_LSTAT_GOOD o l) = decide (l < laneCount c.lanes))
    ∧ Keeps [.outs] (only (faultRegs ++ lstatRegs o ++ [Reg.OUT_STATUS o, Reg.OUT_LINK o, Reg.CMP_LV_OUT o])) s t := by
  obtain ⟨houtp, hother, hsent⟩ := s.quiet.trainSent_spec o r
  have hget : ∀ f, (s.quiet.trainSent o r).get f = s.get f := fun f => (hsent.get f List.not_mem_nil).trans (State.quiet_get ..)
  have htrain := State.trainDone_some_spec ((hget _).trans hmode) r c b8
  generalize s.quiet.trainSent o r = u at ht houtp hother hsent hget htrain
  refine ⟨?state, ?count, ?shown, ?active, ?outp, fun p hp => ?other, ?good, ?keeps⟩
  case state => rw [ht.get _ (by apply checkEach o; decide), htrain.state, hget]
  case count => rw [ht.get _ (by apply checkEach o; decide), htrain.count, hget]
  case shown => exact htrain.shown.of_get fun f hf _ => ht.get f (by rw [hf]; apply checkEach o; decide)
  case active => exact (ht.on _ (by apply checkEach o; decide)).trans htrain.active
  case outp => rw [ht.outp, htrain.outp, houtp]; rfl
  case other => exact (ht.outp p).trans ((htrain.other p hp).trans (hother p hp))
  case good => exact fun l hl => (htrain.lanes.keep ht.keeps (by apply checkEach o; decide) l hl).2
  case keeps => exact ht.frame₂ ((hsent.widen (fun _ => id) (List.nil_subset _)).trans htrain.keeps)

end Sys2Proof.Machine
end

section
/-!
PROOF. The statement O18: hot plug, link interrupts and training.
-/

namespace Sys2Proof.Machine

open Sys2Proof

/-! ### The rows of the link -/

/-- Settles O18: each event of a link is one update of its output, whose effects the lemmas above state once; the rows then settle FAULT_N,
which is outside the registers of the outputs. -/
theorem linkStateFollowsHpd : Obligations.LinkStateFollowsHpd := by
  unfold Obligations.LinkStateFollowsHpd
  refine ⟨?low, ?high, ?outside, ?unread, ?trainFails, ?trainTen, ?retry, ?again, ?down, ?trainEight, ?tooMany, ?drive, ?lost, ?lostTooMany, ?locked⟩
  case low =>
    intro o s hu
    refine gives_settled (·.hpdLow o) hu rfl fun t ht => ?_
    obtain ⟨hun, hstate⟩ := s.quiet.hpdLow_spec o
    have houtp := (ht.outp o).trans hun.outp
    refine ⟨(ht.on _ (by apply checkEach o; decide)).trans hun.hpd, (ht.on _ (by decide)).trans hun.int, by rw [houtp], by rw [houtp], by rw [houtp],
      (ht.on _ (by apply checkEach o; decide)).trans hun.busy, (ht.get _ (by apply checkEach o; decide)).trans hstate,
      fun p hp => (ht.outp p).trans (hun.other p hp), ht.frame₂ hun.keeps⟩
  case high =>
    intro o s hu
    refine gives_settled (·.hpdHigh o) hu rfl fun t ht => ?_
    obtain ⟨hhpd, hint, hstate, hkeep⟩ := s.quiet.hpdHigh_spec o
    exact ⟨(ht.on _ (by apply checkEach o; decide)).trans hhpd, (ht.on _ (by decide)).trans hint,
      (ht.get _ (by apply checkEach o; decide)).trans hstate, ht.frame hkeep⟩
  case outside =>
    intro o us st s hu hus
    refine gives_settled (·.irqHpd o us st) hu rfl fun t ht => ?_
    rw [State.irqHpd_outside hus] at ht
    exact ht.frame (Keeps.refl [] (only []) _)
  case unread =>
    intro o us s hu hlo hhi
    refine gives_settled (·.irqHpd o us none) hu rfl fun t ht => ?_
    rw [State.irqHpd_unread hlo hhi] at ht
    obtain ⟨hirqs, hfails, -, hint, hsent, hkeep⟩ := s.quiet.irqSeen_spec o
    generalize s.quiet.irqSeen o = u at ht hirqs hfails hint hsent hkeep
    refine ⟨?irqs, ?fails, ?int, ht.mem_out hsent, ht.frame (hkeep.count (.OUT_LINK_AUX_FAIL o) List.mem_cons_self)⟩
    case irqs => exact (ht.get _ (by apply checkEach o; decide)).trans ((State.get_set_other _ _ rfl).trans hirqs)
    case fails => exact (ht.get _ (by apply checkEach o; decide)).trans ((State.get_count_self _ rfl).trans (by rw [hfails]; rfl))
    case int => exact (ht.on _ (by decide)).trans ((State.on_set_other _ _ (by apply checkEach o; decide)).trans hint)
  case trainFails =>
    intro o r s hu hs hok hok8
    refine gives_settled (·.trainingEnds o r) hu rfl fun t ht => ?_
    rw [State.trainingEnds_eq (s := s.quiet) hs, State.trainResult_none _ _ hok hok8] at ht
    obtain ⟨houtp, hother, hsent⟩ := s.quiet.trainSent_spec o r
    have hfail := (s.quiet.trainSent o r).trainDone_none_spec o r
    refine ⟨(ht.get _ (by apply checkEach o; decide)).trans hfail.state, (ht.on _ (by decide)).trans hfail.int, ?outp, fun p hp => ?other,
      hfail.lanes.keep ht.keeps (by apply checkEach o; decide), ?keeps⟩
    case outp => exact (ht.outp o).trans ((hfail.keeps.outp List.not_mem_nil o).trans houtp)
    case other => exact (ht.outp p).trans ((hfail.keeps.outp List.not_mem_nil p).trans (hother p hp))
    case keeps =>
      exact ht.frame₂ ((hsent.widen (fun _ => id) (List.nil_subset _)).trans (hfail.keeps.widen (List.nil_subset _) (fun _ => id)))
  case trainTen =>
    intro o c r s hu hs hbpc huse hc hmode
    refine gives_settled (·.trainingEnds o r) hu rfl fun t ht => ?_
    rw [State.trainingEnds_eq (s := s.quiet) hs, State.trainResult_ten (s := s.quiet) hbpc huse hc] at ht
    obtain ⟨hstate, hcount, hshown, hactive, houtp, -, hgood, hkeep⟩ := State.trained_settled hmode ht
    exact ⟨hstate, hcount, hshown.bpc8, by rw [houtp], by rw [houtp], hshown.lanes, hshown.rate, hactive, by rw [houtp], hgood, hkeep⟩
  case trainEight =>
    intro o c r s hu hs hbpc hc hmode
    refine gives_settled (·.trainingEnds o r) hu rfl fun t ht => ?_
    rw [State.trainingEnds_eq (s := s.quiet) hs, State.trainResult_eight (s := s.quiet) hbpc hc] at ht
    obtain ⟨hstate, -, hshown, -, houtp, hother, -, hkeep⟩ := State.trained_settled hmode ht
    exact ⟨hstate, hshown.bpc8, by rw [houtp], by rw [houtp], hshown.lanes, hshown.rate, hother, hkeep⟩
  case retry =>
    intro o s hu
    obtain ⟨hstate, hlanes, hkeep⟩ := s.quiet.trainRetry_spec o
    exact gives_awake (·.trainRetry o) hu rfl ⟨hstate, fun hf l hl => (hlanes hf l hl).1, (Keeps.quiet _ _ s).trans hkeep⟩
  case again =>
    intro o s hu hs hr
    refine gives_settled (·.retrain o) hu rfl fun t ht => ?_
    have hre := State.retrain_spec (s := s.quiet) (o := o) hs hr
    have houtp := (ht.outp o).trans hre.outp
    exact ⟨(ht.get _ (by apply checkEach o; decide)).trans hre.state, (ht.on _ (by decide)).trans hre.int, by rw [houtp], by rw [houtp]; rfl,
      fun p hp => (ht.outp p).trans (hre.other p hp), hre.lanes.keep ht.keeps (by apply checkEach o; decide), ht.frame₂ hre.keeps⟩
  case down =>
    intro o s hu hvideo hblank
    refine gives_settled (·.retrain o) hu rfl fun t ht => ?_
    rw [State.retrain_down (s := s.quiet) fun h => h.elim hvideo hblank] at ht
    exact ht.frame (Keeps.refl [] (only []) _)
  case tooMany =>
    intro o s hu hs hr
    refine gives_settled (·.retrain o) hu rfl fun t ht => ?_
    have hfail := State.retrain_failed_spec (s := s.quiet) (o := o) hs hr
    exact ⟨(ht.get _ (by apply checkEach o; decide)).trans hfail.state, (ht.on _ (by decide)).trans hfail.int,
      (congrArg OutSt.videoWait (ht.outp o)).trans hfail.wait, ht.frame hfail.keeps⟩
  case drive =>
    intro o s
    refine ⟨fun h => ?_, fun h => ?_, fun h hnone => ?_⟩
    · rw [State.txDrive, h]; rfl
    · rw [State.txDrive, h]; rfl
    · rw [State.txDrive, h, hnone]; rfl
  case lost =>
    intro o us bs s hu hlo hhi hs hlost hr
    refine gives_settled (·.irqHpd o us (some bs)) hu rfl fun t ht => ?_
    rw [State.irqHpd_up (s := s.quiet) hlo hhi hs] at ht
    have h := s.quiet.irqRetrained_spec o bs hs hlost hr
    generalize (s.quiet.irqRead o bs).irqJudge o bs = u at ht h
    have houtp := (ht.outp o).trans h.outp
    exact ⟨(ht.get _ (by apply checkEach o; decide)).trans h.state, (ht.on _ (by decide)).trans h.hpd, (ht.on _ (by decide)).trans h.int,
      by rw [houtp]; rfl, by rw [houtp], by rw [houtp]; rfl, (ht.get _ (by apply checkEach o; decide)).trans h.count,
      fun hne => ht.mem_out (h.serviced hne), fun p hp => (ht.outp p).trans (h.other p hp), ht.frame₂ h.keeps⟩
  case lostTooMany =>
    intro o us bs s hu hlo hhi hs hlost hr
    refine gives_settled (·.irqHpd o us (some bs)) hu rfl fun t ht => ?_
    rw [State.irqHpd_up (s := s.quiet) hlo hhi hs] at ht
    have hread := s.quiet.irqRead_spec o bs
    obtain ⟨hup, hlanes, -, hrecent, -⟩ := hread.judged hs
    generalize s.quiet.irqRead o bs = u at ht hread hup hlanes hrecent
    have hmany : 8 ≤ (u.recentRetrains o).length := by rw [hrecent]; exact hr
    rw [State.irqJudge_failed hup (by rw [hlanes]; exact hlost) hmany] at ht
    have hfail := State.retrain_failed_spec hup hmany
    have hkeep : Keeps [.outs] (only (lstatRegs o ++ [Reg.OUT_STATUS o, Reg.OUT_LINK o, Reg.OUT_INT_STATUS])) s.quiet (u.retrain o) :=
      (hread.keeps.widen (List.nil_subset _) (by simp)).trans (hfail.keeps.widen (fun _ => id) (by simp))
    exact ⟨(ht.get _ (by apply checkEach o; decide)).trans hfail.state, (ht.on _ (by decide)).trans hfail.int,
      (congrArg OutSt.videoWait (ht.outp o)).trans hfail.wait, ht.frame₂ hkeep⟩
  case locked =>
    intro o us bs s hu hlo hhi hs hlost
    refine gives_settled (·.irqHpd o us (some bs)) hu rfl fun t ht => ?_
    rw [State.irqHpd_up (s := s.quiet) hlo hhi hs] at ht
    have hread := s.quiet.irqRead_spec o bs
    obtain ⟨-, hlanes, -, -, -⟩ := hread.judged hs
    rw [State.irqJudge_locked (by rw [hlanes]; exact hlost)] at ht
    exact ⟨(ht.get _ (by apply checkEach o; decide)).trans (hread.keeps.get _ (by apply checkEach o; decide)),
      (ht.on _ (by decide)).trans hread.hpd, (ht.get _ (by apply checkEach o; decide)).trans hread.irqs, ht.frame₂ hread.keeps⟩

end Sys2Proof.Machine
end

section
/-!
SUPPORT. The AUX channel of an output (R154) and the sink check's readings (R77), for O19.
-/

namespace Sys2Proof.Machine

open Sys2Proof

/-! ### The queue of AUX requests (R154) -/

/-- Whether a request can finish in time follows from the tick, the edge and the output's frame. -/
theorem Keeps.auxFits {s t : State} {o : Fin 16} {as : List Nat} (h : Keeps [.outs] (only as) s t) (hr : (t.outp o).running = (s.outp o).running)
    (hf : (t.outp o).frameTick = (s.outp o).frameTick)
    (hw : ∀ a ∈ [Reg.CMP_LV_OUT o, Reg.OUT_PHASE o, Reg.OUT_VTIM0 o, Reg.DLR_TICK_COUNT, Reg.DLR_TICK_NUM, Reg.DLR_TICK_DEN], a ∉ as) :
    t.auxFits o = s.auxFits o := by
  simp only [List.forall_mem_cons] at hw
  obtain ⟨hactive, hphase, htotal, hcount, hnum, hden, -⟩ := hw
  have htime : t.time = s.time := h.same (p := .time) (by decide)
  have hdealer : t.dealer = s.dealer := h.same (p := .dealer) (by decide)
  have htick : t.tick = s.tick := h.2.2 _ hcount
  rw [State.auxFits, State.auxFits, State.sinkDue, State.sinkDue, h.on (.CMP_LV_OUT_SINK_ACTIVE o) hactive, h.get (.OUT_PHASE_PHASE o) hphase,
    h.get (.OUT_VTIM0_TOTAL o) htotal, h.pTick hnum hden, htime, hdealer, htick, hr, hf]

/-- The request at the head of the queue of output `o` that can be sent, if any. -/
def State.auxNext (s : State) (o : Nat) : List AuxReq := ((s.outp o).aux.take 1).filter fun q => q.kind != 0 || s.auxFits o

/-- The effects of letting the head of the queue go. -/
structure AuxLaunched (o : Nat) (s t : State) : Prop where
  aux : (t.outp o).aux = (s.outp o).aux
  prev : (t.outp o).sinkPrev = (s.outp o).sinkPrev
  out : t.out = s.out ++ (s.auxNext o).map (Emission.auxSend o ·)
  keeps : Keeps [.outs] (only []) s t

theorem State.emit_outp (s : State) (e : Emission) (o : Nat) : (s.emit e).outp o = s.outp o := rfl

theorem State.auxHold_spec (s : State) (o : Nat) (b : Bool) :
    ((s.updOut o fun x => { x with auxHeld := b }).outp o) = { s.outp o with auxHeld := b }
    ∧ Keeps [.outs] (only []) s (s.updOut o fun x => { x with auxHeld := b }) :=
  ⟨State.updOut_self .., (Keeps.refl _ _ s).updOut o _ List.mem_cons_self⟩

theorem State.auxLaunch_spec (s : State) (o : Nat) : AuxLaunched o s (s.auxLaunch o) := by
  unfold State.auxLaunch
  split
  case h_1 hnil =>
    obtain ⟨houtp, hkeep⟩ := s.auxHold_spec o false
    exact ⟨by rw [houtp], by rw [houtp], by rw [State.updOut_out, State.auxNext, hnil]; exact (List.append_nil _).symm, hkeep⟩
  case h_2 r rs haux =>
    split
    case isTrue hwait =>
      obtain ⟨houtp, hkeep⟩ := s.auxHold_spec o true
      refine ⟨by rw [houtp], by rw [houtp], ?_, hkeep⟩
      rw [State.updOut_out, State.auxNext, haux]
      simp [hwait]
    case isFalse hgo =>
      obtain ⟨houtp, hkeep⟩ := s.auxHold_spec o false
      have hsend : (r.kind != 0 || s.auxFits o) = true := by
        by_contra hne
        simp only [Bool.or_eq_true, bne_iff_ne, ne_eq, not_or, not_not, Bool.not_eq_true] at hne
        exact hgo hne
      refine ⟨by rw [State.emit_outp, houtp], by rw [State.emit_outp, houtp], ?_, hkeep.emit _⟩
      rw [State.emit_out, State.updOut_out, State.auxNext, haux, List.take_succ_cons, List.take_zero,
        List.filter_cons_of_pos (p := fun q : AuxReq => q.kind != 0 || s.auxFits o) hsend]
      rfl

/-- What an output has sent on AUX, where nothing else has gone out. -/
theorem State.auxSent_of_out {t : State} {o : Nat} {rs : List AuxReq} (h : t.out = rs.map (Emission.auxSend o ·)) : t.auxSent o = rs := by
  rw [State.auxSent, h, List.filterMap_map]
  simp

/-- The effects of the end of the head request. -/
structure AuxPopped (o : Fin 16) (s t : State) : Prop where
  aux : (t.outp o).aux = (s.outp o).aux.drop 1
  prev : (t.outp o).sinkPrev = (s.outp o).sinkPrev
  out : t.out = s.out ++ (((s.outp o).aux.drop 1).take 1 |>.filter fun q => q.kind != 0 || s.auxFits o).map (Emission.auxSend o ·)
  keeps : Keeps [.outs] (only []) s t

theorem State.auxPop_spec (s : State) (o : Fin 16) : AuxPopped o s (s.auxPop o) := by
  unfold State.auxPop
  have houtp : (s.updOut o fun x => { x with aux := x.aux.drop 1 }).outp o = { s.outp o with aux := (s.outp o).aux.drop 1 } :=
    State.updOut_self ..
  have hdrop : Keeps [.outs] (only []) s (s.updOut o fun x => { x with aux := x.aux.drop 1 }) := (Keeps.refl _ _ s).updOut o _ List.mem_cons_self
  have hout := State.updOut_out s o fun x => { x with aux := x.aux.drop 1 }
  generalize (s.updOut o fun x => { x with aux := x.aux.drop 1 }) = u at houtp hdrop hout ⊢
  have hgo := u.auxLaunch_spec o
  have hfits : u.auxFits o = s.auxFits o := hdrop.auxFits (by rw [houtp]) (by rw [houtp]) (fun _ _ => List.not_mem_nil)
  refine ⟨by rw [hgo.aux, houtp], by rw [hgo.prev, houtp], ?_, hdrop.trans hgo.keeps⟩
  rw [hgo.out, hout, State.auxNext, houtp, hfits]

theorem State.auxEnd_out (s : State) (o result retries : Nat) : (s.auxEnd o result retries).out = s.out := by
  simp only [State.auxEnd, State.setB, State.set_out]

/-- A request that is not refused waits in the queue, BUSY. -/
def State.auxQueue (s : State) (o : Nat) (r : AuxReq) : State :=
  (s.setB (.OUT_AUX_STAT_BUSY o) true).updOut o fun x => { x with aux := x.aux ++ [r] }

/-- The request that the registers of output `o` name. -/
def State.auxAsked (s : State) (o : Nat) : AuxReq :=
  ⟨0, s.get (.OUT_AUX_CTRL_CMD o), s.get (.OUT_AUX_CTRL_ADDR o), s.get (.OUT_AUX_CTRL_LEN o) + 1,
    if s.get (.OUT_AUX_CTRL_CMD o) % 2 = 1 then
      (List.range (s.get (.OUT_AUX_CTRL_LEN o) + 1)).map fun k => BitVec.ofNat 8 (s.get (.OUT_AUX_DATA_DATA o (k / 4)) / 256 ^ (k % 4))
    else [], 0, 0⟩

/-- GO while the output is not busy. -/
theorem State.auxGo_idle {s : State} {o : Nat} (hb : s.on (.OUT_AUX_STAT_BUSY o) = false) : s.auxGo o =
    if auxProtected (s.get (.OUT_AUX_CTRL_CMD o)) (s.get (.OUT_AUX_CTRL_ADDR o)) (s.get (.OUT_AUX_CTRL_LEN o) + 1) then s.auxEnd o 4 0
    else if s.get (.OUT_STATUS_STATE o) = txIdle ∨ s.get (.OUT_STATUS_STATE o) = txWaitHpd then s.auxEnd o 5 0
    else if (s.outp o).aux.isEmpty then (s.auxQueue o (s.auxAsked o)).auxLaunch o else s.auxQueue o (s.auxAsked o) := by
  unfold State.auxGo
  rw [if_neg (by rw [hb]; decide)]
  rfl

/-- A refused request ends at once, with its code. -/
theorem State.auxGo_refused {s : State} {o : Nat} (hb : s.on (.OUT_AUX_STAT_BUSY o) = false)
    (h : auxProtected (s.get (.OUT_AUX_CTRL_CMD o)) (s.get (.OUT_AUX_CTRL_ADDR o)) (s.get (.OUT_AUX_CTRL_LEN o) + 1) = true
      ∨ s.get (.OUT_STATUS_STATE o) = txIdle ∨ s.get (.OUT_STATUS_STATE o) = txWaitHpd) : s.auxGo o = s.auxEnd o
        (if auxProtected (s.get (.OUT_AUX_CTRL_CMD o)) (s.get (.OUT_AUX_CTRL_ADDR o)) (s.get (.OUT_AUX_CTRL_LEN o) + 1) then 4 else 5) 0 := by
  rw [State.auxGo_idle hb]
  by_cases hp : auxProtected (s.get (.OUT_AUX_CTRL_CMD o)) (s.get (.OUT_AUX_CTRL_ADDR o)) (s.get (.OUT_AUX_CTRL_LEN o) + 1) = true
  · rw [if_pos hp, if_pos hp]
  · rw [if_neg hp, if_neg hp, if_pos (h.resolve_left hp)]

/-- A request that is not refused is queued, and launched where nothing is before it. -/
theorem State.auxGo_accepted {s : State} {o : Nat} (hb : s.on (.OUT_AUX_STAT_BUSY o) = false)
    (hp : auxProtected (s.get (.OUT_AUX_CTRL_CMD o)) (s.get (.OUT_AUX_CTRL_ADDR o)) (s.get (.OUT_AUX_CTRL_LEN o) + 1) = false)
    (hi : s.get (.OUT_STATUS_STATE o) ≠ txIdle) (hw : s.get (.OUT_STATUS_STATE o) ≠ txWaitHpd) :
    s.auxGo o = if (s.outp o).aux.isEmpty then (s.auxQueue o (s.auxAsked o)).auxLaunch o else s.auxQueue o (s.auxAsked o) := by
  rw [State.auxGo_idle hb, if_neg (by rw [hp]; decide), if_neg (not_or_intro hi hw)]

/-- The effects of a request that waits in the queue or is sent. -/
structure AuxQueued (o : Fin 16) (r : AuxReq) (s t : State) : Prop where
  busy : t.on (.OUT_AUX_STAT_BUSY o) = true
  aux : (t.outp o).aux = (s.outp o).aux ++ [r]
  out : t.out = s.out ++ (if (s.outp o).aux = [] ∧ s.auxFits o = true then [r] else []).map (Emission.auxSend o ·)
  keeps : Keeps [.outs] (only [Reg.OUT_AUX_STAT o]) s t

theorem State.auxQueue_spec (s : State) (o : Fin 16) {r : AuxReq} (hr : r.kind = 0) :
    AuxQueued o r s (if (s.outp o).aux.isEmpty then (s.auxQueue o r).auxLaunch o else s.auxQueue o r) := by
  unfold State.auxQueue
  have hbusy : (s.setB (.OUT_AUX_STAT_BUSY o) true).on (.OUT_AUX_STAT_BUSY o) = true := State.on_setB _ _ rfl rfl
  have hset := (Keeps.refl [] (only [Reg.OUT_AUX_STAT o]) s).setB (.OUT_AUX_STAT_BUSY o) true List.mem_cons_self
  have hsetOut : (s.setB (.OUT_AUX_STAT_BUSY o) true).out = s.out := State.set_out ..
  generalize s.setB (.OUT_AUX_STAT_BUSY o) true = u at hbusy hset hsetOut ⊢
  have houtp : (u.updOut o fun x => { x with aux := x.aux ++ [r] }).outp o = { s.outp o with aux := (s.outp o).aux ++ [r] } := by
    rw [State.updOut_self, hset.outp List.not_mem_nil]
  have hadd : Keeps [.outs] (only []) u (u.updOut o fun x => { x with aux := x.aux ++ [r] }) := (Keeps.refl _ _ u).updOut o _ List.mem_cons_self
  have hout : (u.updOut o fun x => { x with aux := x.aux ++ [r] }).out = s.out := (State.updOut_out ..).trans hsetOut
  generalize (u.updOut o fun x => { x with aux := x.aux ++ [r] }) = v at houtp hadd hout ⊢
  have hkeep := (hset.widen (qs := [.outs]) (List.nil_subset _) (fun _ => id)).trans (hadd.widen (fun _ => id) (List.nil_subset _))
  have hbusyV := (hadd.on _ List.not_mem_nil).trans hbusy
  split
  case isTrue hempty =>
    have hnil := List.isEmpty_iff.mp hempty
    have hgo := v.auxLaunch_spec o
    have hfits : v.auxFits o = s.auxFits o := hkeep.auxFits (by rw [houtp]) (by rw [houtp]) (by apply checkEach o; decide)
    refine ⟨(hgo.keeps.on _ List.not_mem_nil).trans hbusyV, by rw [hgo.aux, houtp], ?_, hkeep.trans (hgo.keeps.widen (fun _ => id) (List.nil_subset _))⟩
    rw [hgo.out, hout, State.auxNext, houtp, hfits, hnil]
    cases hf : s.auxFits o <;> simp [hr]
  case isFalse hne =>
    have hnil : (s.outp o).aux ≠ [] := fun h => hne (List.isEmpty_iff.mpr h)
    refine ⟨hbusyV, by rw [houtp], ?_, hkeep⟩
    rw [hout, if_neg fun h => hnil h.1]
    exact (List.append_nil _).symm

/-! ### The end of a transaction (R154) -/

theorem State.auxInFlight_head {s : State} {o : Nat} {r : AuxReq} {rs : List AuxReq} (h : (s.outp o).aux = r :: rs)
    (hh : (s.outp o).auxHeld = false) : s.auxInFlight o = some r := by
  rw [State.auxInFlight, hh, h]
  rfl

theorem State.auxReply_write {s : State} {o : Nat} {r : AuxReq} (h : s.auxInFlight o = some r) (hk : r.kind = 0) (hc : r.cmd % 2 = 1)
    (bs : List Byte) : s.auxReply o (.ack bs) = (s.auxPop o).auxEnd o 0 (r.retries + r.defers) := by
  have hread : ¬ r.cmd % 2 = 0 := by omega
  rw [State.auxReply, h]
  dsimp only
  rw [if_pos hk, if_neg hread]

theorem State.auxReply_defer {s : State} {o : Nat} {r : AuxReq} (h : s.auxInFlight o = some r) (hd : r.defers < 7) :
    s.auxReply o .defer = s.auxAgain o { r with defers := r.defers + 1 } := by
  rw [State.auxReply, h]
  exact if_pos hd

theorem State.auxTimeout_again {s : State} {o : Nat} {r : AuxReq} (h : s.auxInFlight o = some r) (hr : r.retries < 2) :
    s.auxTimeout o = s.auxAgain o { r with retries := r.retries + 1 } := by
  rw [State.auxTimeout, h]
  exact if_pos hr

theorem State.auxTimeout_last {s : State} {o : Nat} {r : AuxReq} (h : s.auxInFlight o = some r) (hr : 2 ≤ r.retries) (hk : r.kind = 0) :
    s.auxTimeout o = ((s.auxPop o).count (.OUT_LINK_AUX_FAIL o)).auxEnd o 3 (r.retries + r.defers) := by
  rw [State.auxTimeout, h]
  dsimp only
  rw [if_neg (by omega), State.auxFail]
  exact if_pos hk

/-- The request at the head is sent again. -/
theorem State.auxAgain_spec {s : State} {o : Nat} {q : AuxReq} {rs : List AuxReq} (h : (s.outp o).aux = q :: rs) (r : AuxReq) :
    ((s.auxAgain o r).outp o).aux = r :: rs ∧ (s.auxAgain o r).out = s.out ++ [.auxSend o r] ∧ Keeps [.outs] (only []) s (s.auxAgain o r) := by
  unfold State.auxAgain
  refine ⟨?_, by rw [State.emit_out, State.updOut_out], ((Keeps.refl _ _ s).updOut o _ List.mem_cons_self).emit _⟩
  rw [State.emit_outp, State.updOut_self, h, List.drop_one, List.tail_cons]

/-! ### The sink check (R77) -/

/-- The sink-check read leaves the queue, counted where it failed. -/
def State.sinkTaken (s : State) (o : Nat) (failed : Bool) : State :=
  match (s.outp o).aux with
  | q :: _ => if q.kind = 1 then (s.auxPop o).when failed fun s => s.count (.OUT_LINK_AUX_FAIL o) else s
  | [] => s

theorem State.sinkCheck_eq (s : State) (o : Nat) (r : Option SinkReading) : s.sinkCheck o r = (s.sinkTaken o r.isNone).sinkReading o r := rfl

theorem State.sinkTaken_spec (s : State) (o : Fin 16) (failed : Bool) : ((s.sinkTaken o failed).outp o).sinkPrev = (s.outp o).sinkPrev
    ∧ Keeps [.outs] (only (if failed then [Reg.OUT_LINK o] else [])) s (s.sinkTaken o failed) := by
  unfold State.sinkTaken
  split
  · split
    · have hpop := s.auxPop_spec o
      generalize s.auxPop o = u at hpop ⊢
      cases failed
      · exact ⟨hpop.prev, hpop.keeps⟩
      · refine ⟨(congrArg OutSt.sinkPrev (State.set_outp ..)).trans hpop.prev, ?_⟩
        exact (hpop.keeps.widen (fun _ => id) (List.nil_subset _)).count (.OUT_LINK_AUX_FAIL o) List.mem_cons_self
    · exact ⟨rfl, Keeps.refl _ _ s⟩
  · exact ⟨rfl, Keeps.refl _ _ s⟩

/-- A reading is kept, with its CRC and count shown. -/
def State.sinkKept (s : State) (o : Nat) (a : SinkReading) : State :=
  ((s.set (.CMP_LV_SINKCRC_CRC_G o) a.crcG.toNat).set (.CMP_LV_SINKCRC_COUNT o) a.count.toNat).updOut o fun x => { x with sinkPrev := some a }

theorem State.sinkKept_spec (s : State) (o : Nat) (a : SinkReading) : ((s.sinkKept o a).outp o).sinkPrev = some a
    ∧ (s.sinkKept o a).get (.CMP_LV_SINKCRC_CRC_G o) = a.crcG.toNat ∧ Keeps [.outs] (only [Reg.CMP_LV_SINKCRC o]) s (s.sinkKept o a) := by
  unfold State.sinkKept
  refine ⟨by rw [State.updOut_self], ?_, ?_⟩
  · rw [State.updOut_get, State.get_set_other _ _ rfl, State.get_set_fits _ rfl (wid := 16) rfl a.crcG.isLt]
  · exact (((Keeps.refl _ _ s).set (.CMP_LV_SINKCRC_CRC_G o) _ List.mem_cons_self).set (.CMP_LV_SINKCRC_COUNT o) _ List.mem_cons_self).updOut o _
      List.mem_cons_self

/-- A reading is a miss: missing, the first of a run, of the same frame, or of the same picture. -/
def sinkMiss : Option SinkReading → Option SinkReading → Bool
  | none, _ => true
  | some _, none => false
  | some a, some b => decide (a.count = b.count ∨ (a.crcR = b.crcR ∧ a.crcG = b.crcG ∧ a.crcB = b.crcB))

/-- A miss is counted and reported. -/
def State.sinkMissed (s : State) (o : Nat) : State := (s.count (.CMP_LV_OUT_MISS_RUN o)).setB .CMP_LV_INT_STATUS_SINK_MISS true

/-- An output with too many misses is blanked. -/
def State.sinkLimit (s : State) (o : Nat) : State :=
  if s.get (.CMP_LV_OUT_MISS_LIMIT o) ≤ s.get (.CMP_LV_OUT_MISS_RUN o) then s.scorerBlank o causeSinkStall else s

theorem State.sinkReading_some {s : State} {o : Nat} (hon : s.on (.CMP_LV_OUT_SINK_ACTIVE o) = true) (a : SinkReading) :
    s.sinkReading o (some a) = if sinkMiss (some a) (s.outp o).sinkPrev then ((s.sinkKept o a).sinkMissed o).sinkLimit o
      else (s.sinkKept o a).set (.CMP_LV_OUT_MISS_RUN o) 0 := by
  unfold State.sinkReading
  rw [if_neg (by rw [hon]; decide)]
  rfl

theorem State.sinkReading_none {s : State} {o : Nat} (hon : s.on (.CMP_LV_OUT_SINK_ACTIVE o) = true) :
    s.sinkReading o none = (s.sinkMissed o).sinkLimit o := by
  unfold State.sinkReading
  rw [if_neg (by rw [hon]; decide)]
  unfold State.sinkMissed State.sinkLimit
  generalize (s.outp o).sinkPrev = prev
  exact if_pos rfl

/-- A reading whose count moved and whose CRC differs is no miss. -/
theorem sinkMiss_moved {a b : SinkReading} (hcount : a.count ≠ b.count) (hcrc : a.crcG ≠ b.crcG) : sinkMiss (some a) (some b) = false := by
  refine decide_eq_false ?_
  rintro (h | ⟨-, h, -⟩)
  · exact hcount h
  · exact hcrc h

/-- A missing reading below the limit counts a miss and no more. -/
theorem State.sinkReading_missed_spec {s : State} {o : Fin 16} (hon : s.on (.CMP_LV_OUT_SINK_ACTIVE o) = true)
    (hlim : satAdd (Fld.CMP_LV_OUT_MISS_RUN o).wid (s.get (.CMP_LV_OUT_MISS_RUN o)) 1 < s.get (.CMP_LV_OUT_MISS_LIMIT o)) :
    (s.sinkReading o none).get (.CMP_LV_OUT_MISS_RUN o) = satAdd (Fld.CMP_LV_OUT_MISS_RUN o).wid (s.get (.CMP_LV_OUT_MISS_RUN o)) 1
    ∧ (s.sinkReading o none).on .CMP_LV_INT_STATUS_SINK_MISS = true
    ∧ Keeps [] (only [Reg.CMP_LV_OUT o, Reg.CMP_LV_INT_STATUS]) s (s.sinkReading o none) := by
  have hrun : (s.sinkMissed o).get (.CMP_LV_OUT_MISS_RUN o)
      = satAdd (Fld.CMP_LV_OUT_MISS_RUN o).wid (s.get (.CMP_LV_OUT_MISS_RUN o)) 1 :=
    (State.get_set_other _ _ (by apply checkEach o; decide)).trans (State.get_count_self s rfl)
  have hlimit : (s.sinkMissed o).get (.CMP_LV_OUT_MISS_LIMIT o) = s.get (.CMP_LV_OUT_MISS_LIMIT o) :=
    (State.get_set_other _ _ (by apply checkEach o; decide)).trans (State.get_set_other _ _ rfl)
  rw [State.sinkReading_none hon, State.sinkLimit, hrun, hlimit, if_neg (Nat.not_le.mpr hlim)]
  refine ⟨hrun, State.on_setB _ _ rfl rfl, ?_⟩
  exact ((Keeps.refl _ _ s).count (.CMP_LV_OUT_MISS_RUN o) List.mem_cons_self).setB .CMP_LV_INT_STATUS_SINK_MISS true
    (by simp [Fld.CMP_LV_INT_STATUS_SINK_MISS])

end Sys2Proof.Machine
end

section
/-!
PROOF. The statement O19: the rows of the AUX channel and of the sink check.
-/

namespace Sys2Proof.Machine

open Sys2Proof

/-- Settles O19: a request is refused, queued or launched by what the queue and the output hold; a reply, a timeout and a sink reading act on
the head of the queue. -/
theorem auxTransactionsRunInOrder : Obligations.AuxTransactionsRunInOrder := by
  unfold Obligations.AuxTransactionsRunInOrder
  refine ⟨?busy, ?refused, ?queued, ?acked, ?deferred, ?timeout, ?lastTimeout, ?moved, ?missing⟩
  case busy =>
    intro o s hu hb
    have hrow : s.awake (·.auxGo o) = s.quiet := by
      rw [State.awake_up _ _ hu, State.auxGo]
      exact if_pos hb
    exact congrArg Host.Outcome.next hrow
  case refused =>
    intro o s hu hb hno
    refine gives_awake (·.auxGo o) hu rfl ?_
    rw [State.auxGo_refused (s := s.quiet) hb hno]
    have hend := s.quiet.auxEnd_spec o (result := if auxProtected (s.get (.OUT_AUX_CTRL_CMD o)) (s.get (.OUT_AUX_CTRL_ADDR o))
      (s.get (.OUT_AUX_CTRL_LEN o) + 1) then 4 else 5) (by split <;> decide) 0
    exact ⟨hend.result, hend.retries, hend.done, State.auxEnd_out .., (Keeps.quiet _ _ s).trans hend.keeps⟩
  case queued =>
    intro o s hu hb hp hidle hwait
    refine gives_awake (·.auxGo o) hu rfl ?_
    rw [State.auxGo_accepted (s := s.quiet) hb hp hidle hwait]
    have hq := s.quiet.auxQueue_spec o (r := s.quiet.auxAsked o) rfl
    exact ⟨hq.busy, ⟨s.quiet.auxAsked o, hq.aux, State.auxSent_of_out hq.out, rfl, rfl, rfl, rfl, rfl, rfl⟩, (Keeps.quiet _ _ s).trans hq.keeps⟩
  case acked =>
    intro o bs r rs s hu haux hheld hk hc
    refine gives_settled (·.auxReply o (.ack bs)) hu rfl fun t ht => ?_
    rw [State.auxReply_write (s := s.quiet) (State.auxInFlight_head haux hheld) hk hc] at ht
    obtain ⟨hrest, -, hsent, hpop⟩ := s.quiet.auxPop_spec o
    rw [State.quiet_out, List.nil_append, show (s.quiet.outp o).aux.drop 1 = rs from congrArg (List.drop 1) haux] at hsent
    generalize s.quiet.auxPop o = u at ht hrest hsent hpop
    have hend := u.auxEnd_spec o (result := 0) (by decide) (r.retries + r.defers)
    have hout := (State.auxEnd_out u o 0 (r.retries + r.defers)).trans hsent
    have houtp := (ht.outp o).trans (hend.keeps.outp List.not_mem_nil o)
    exact ⟨by rw [houtp, hrest]; exact congrArg (List.drop 1) haux, (ht.auxSent o).trans (State.auxSent_of_out hout),
      (ht.on _ (by apply checkEach o; decide)).trans hend.busy, (ht.get _ (by apply checkEach o; decide)).trans hend.result,
      (ht.get _ (by apply checkEach o; decide)).trans hend.retries, (ht.on _ (by decide)).trans hend.done,
      ht.frame ((hpop.widen (fun _ => id) (List.nil_subset _)).trans (hend.keeps.widen (List.nil_subset _) (fun _ => id)))⟩
  case deferred =>
    intro o r rs s hu haux hheld hd
    refine gives_settled (·.auxReply o .defer) hu rfl fun t ht => ?_
    rw [State.auxReply_defer (s := s.quiet) (State.auxInFlight_head haux hheld) hd] at ht
    obtain ⟨hqueue, hsent, hkeep⟩ := State.auxAgain_spec (s := s.quiet) haux { r with defers := r.defers + 1 }
    exact ⟨by rw [ht.outp, hqueue], (ht.auxSent o).trans (State.auxSent_of_out (rs := [{ r with defers := r.defers + 1 }]) hsent), ht.frame hkeep⟩
  case timeout =>
    intro o r rs s hu haux hheld hr
    refine gives_settled (·.auxTimeout o) hu rfl fun t ht => ?_
    rw [State.auxTimeout_again (s := s.quiet) (State.auxInFlight_head haux hheld) hr] at ht
    obtain ⟨hqueue, hsent, hkeep⟩ := State.auxAgain_spec (s := s.quiet) haux { r with retries := r.retries + 1 }
    exact ⟨by rw [ht.outp, hqueue], (ht.auxSent o).trans (State.auxSent_of_out (rs := [{ r with retries := r.retries + 1 }]) hsent), ht.frame hkeep⟩
  case lastTimeout =>
    intro o r rs s hu haux hheld hr hk
    refine gives_settled (·.auxTimeout o) hu rfl fun t ht => ?_
    rw [State.auxTimeout_last (s := s.quiet) (State.auxInFlight_head haux hheld) hr hk] at ht
    obtain ⟨hrest, -, -, hpop⟩ := s.quiet.auxPop_spec o
    generalize s.quiet.auxPop o = u at ht hrest hpop
    have hfail : (u.count (.OUT_LINK_AUX_FAIL o)).get (.OUT_LINK_AUX_FAIL o) = satAdd (Fld.OUT_LINK_AUX_FAIL o).wid (s.get (.OUT_LINK_AUX_FAIL o)) 1 := by
      rw [State.get_count_self _ rfl, hpop.get _ List.not_mem_nil, State.quiet_get]
    have hcount : Keeps [] (only [Reg.OUT_LINK o]) u (u.count (.OUT_LINK_AUX_FAIL o)) :=
      (Keeps.refl _ _ u).count (.OUT_LINK_AUX_FAIL o) List.mem_cons_self
    generalize u.count (.OUT_LINK_AUX_FAIL o) = v at ht hfail hcount
    have hend := v.auxEnd_spec o (result := 3) (by decide) (r.retries + r.defers)
    have houtp := (ht.outp o).trans ((hend.keeps.outp List.not_mem_nil o).trans (hcount.outp List.not_mem_nil o))
    refine ⟨by rw [houtp, hrest]; exact congrArg (List.drop 1) haux, (ht.on _ (by apply checkEach o; decide)).trans hend.busy,
      (ht.get _ (by apply checkEach o; decide)).trans hend.result, ?fail, ht.frame ?keeps⟩
    case fail => exact (ht.get _ (by apply checkEach o; decide)).trans ((hend.keeps.get _ (by apply checkEach o; decide)).trans hfail)
    case keeps =>
      exact ((hpop.widen (fun _ => id) (List.nil_subset _)).trans (hcount.widen (List.nil_subset _) (by simp))).trans
        (hend.keeps.widen (List.nil_subset _) (by simp))
  case moved =>
    intro o a b s hs hon hprev hcount hcrc
    obtain ⟨hu, hhard⟩ := hs
    refine gives_settled (fun s => if s.sco.hard then s.auxTaken o else s.sinkCheck o (some a)) hu rfl fun t ht => ?_
    rw [if_neg (show ¬ s.quiet.sco.hard = true by rw [State.quiet_sco, hhard]; decide), State.sinkCheck_eq] at ht
    obtain ⟨htakenPrev, htaken⟩ := s.quiet.sinkTaken_spec o false
    change Settled ((s.quiet.sinkTaken o false).sinkReading o (some a)) t at ht
    generalize s.quiet.sinkTaken o false = u at ht htakenPrev htaken
    rw [State.sinkReading_some ((htaken.on _ List.not_mem_nil).trans hon), htakenPrev.trans hprev, sinkMiss_moved hcount hcrc,
      if_neg Bool.false_ne_true] at ht
    obtain ⟨hkept, hshown, hkeep⟩ := u.sinkKept_spec o a
    generalize u.sinkKept o a = v at ht hkept hshown hkeep
    refine ⟨(ht.get _ (by apply checkEach o; decide)).trans (State.get_set_fits _ rfl (wid := 4) rfl (by decide)), ?prev, ?crc, ht.frame ?keeps⟩
    case prev => rw [ht.outp, State.set_outp, hkept]
    case crc => rw [ht.get _ (by apply checkEach o; decide), State.get_set_other _ _ (by apply checkEach o; decide), hshown]
    case keeps =>
      exact ((htaken.widen (fun _ => id) (List.nil_subset _)).trans (hkeep.widen (fun _ => id) (by simp))).set (.CMP_LV_OUT_MISS_RUN o) 0
        List.mem_cons_self
  case missing =>
    intro o s hs hon hlim
    obtain ⟨hu, hhard⟩ := hs
    refine gives_settled (fun s => if s.sco.hard then s.auxTaken o else s.sinkCheck o none) hu rfl fun t ht => ?_
    rw [if_neg (show ¬ s.quiet.sco.hard = true by rw [State.quiet_sco, hhard]; decide), State.sinkCheck_eq] at ht
    obtain ⟨-, htaken⟩ := s.quiet.sinkTaken_spec o true
    change Settled ((s.quiet.sinkTaken o true).sinkReading o none) t at ht
    generalize s.quiet.sinkTaken o true = u at ht htaken
    have hrun : u.get (.CMP_LV_OUT_MISS_RUN o) = s.get (.CMP_LV_OUT_MISS_RUN o) := htaken.get _ (by apply checkEach o; decide)
    have hlimit : u.get (.CMP_LV_OUT_MISS_LIMIT o) = s.get (.CMP_LV_OUT_MISS_LIMIT o) := htaken.get _ (by apply checkEach o; decide)
    have hactive : u.on (.CMP_LV_OUT_SINK_ACTIVE o) = true := (htaken.on _ (by apply checkEach o; decide)).trans hon
    obtain ⟨hmissed, hint, hkeep⟩ := State.sinkReading_missed_spec hactive (by rw [hrun, hlimit]; exact hlim)
    refine ⟨?run, (ht.on _ (by decide)).trans hint, ht.frame ?keeps⟩
    case run => rw [ht.get _ (by apply checkEach o; decide), hmissed, hrun]
    case keeps => exact (htaken.widen (fun _ => id) (by simp)).trans (hkeep.widen (List.nil_subset _) (by simp))

end Sys2Proof.Machine
end

section
/-!
SUPPORT. A command that its frame admits (R342 to R344): how it is taken, and what its answer leaves.
-/

namespace Sys2Proof.Machine

open Sys2Proof

/-! ### Sessions (R343, R344) -/

theorem State.session?_updSession (s : State) (id : Nat) {f : Session → Session} (hid : ∀ x, (f x).id = x.id) (ho : ∀ x, (f x).origin = x.origin)
    (j : Nat) (o : Origin) : (s.updSession id f).session? j o = (s.session? j o).map fun x => if x.id = id then f x else x := by
  have hsame : ((fun x : Session => x.id == j && x.origin == o) ∘ fun x => if x.id = id then f x else x) = fun x => x.id == j && x.origin == o := by
    funext x
    simp only [Function.comp_apply]
    split
    · rw [hid, ho]
    · rfl
  show (List.map _ s.cmd.sessions).find? _ = _
  rw [List.find?_map, hsame]
  rfl

theorem State.session?_id {s : State} {j : Nat} {o : Origin} {x : Session} (h : s.session? j o = some x) : x.id = j := by
  have hx := List.find?_some h
  simp only [Bool.and_eq_true, beq_iff_eq] at hx
  exact hx.1

/-- The session that a lookup finds is changed with those of its ID. -/
theorem State.session?_updated {s : State} {j : Nat} {o : Origin} {x : Session} (h : s.session? j o = some x) {f : Session → Session}
    (hid : ∀ x, (f x).id = x.id) (ho : ∀ x, (f x).origin = x.origin) : (s.updSession j f).session? j o = some (f x) := by
  rw [State.session?_updSession s j hid ho, h, Option.map_some, if_pos (State.session?_id h)]

/-! ### Taking a command (R344) -/

/-- What a frame that is admitted meets: every check of R344, with its session `x`. -/
structure Admitted (s : State) (code : Nat) (f : InFrame) (x : Session) : Prop where
  banker : s.bankerUp = true
  reset : s.devState ≠ stReset
  recovery : s.devState ≠ stRecovery
  crc : f.crcOk = true
  length : f.bytes.length = 20 + frameLength f.bytes
  fits : frameLength f.bytes ≤ maxPayload f.origin.transport
  version : frameNum f.bytes 0 1 = 1
  command : (frameHdr f.origin f.bytes).command = code
  row : ∃ cls states, commandRow code = some (cls, states) ∧ states.contains s.devState = true
    ∧ s.classOk (frameHdr f.origin f.bytes) cls = true
  session : (frameHdr f.origin f.bytes).session ≠ 0
  found : s.session? (frameHdr f.origin f.bytes).session f.origin = some x
  alive : (frameHdr f.origin f.bytes).alive ≠ x.alive
  seq : (frameHdr f.origin f.bytes).seq ≠ x.seq
  newer : 0 ≤ wordDiff (BitVec.ofNat 32 (frameHdr f.origin f.bytes).seq) (BitVec.ofNat 32 x.seq)
  room : (s.cmd.runs.filter fun r => r.hdr.session == (frameHdr f.origin f.bytes).session && r.stage == .queued).length < 4

/-- A command that needs a session is admitted with one. -/
theorem State.admitted {s : State} {code : Nat} {f : InFrame} (h : s.admits code f = true) (hcode : 0x11 ≤ code) : ∃ x, Admitted s code f x := by
  have hne : (code == 0x01 || code == 0x02 || code == 0x10) = false := by
    simp only [Bool.or_eq_false_iff, beq_eq_false_iff_ne]
    omega
  simp only [State.admits, Bool.and_eq_true, bne_iff_ne, beq_iff_eq, decide_eq_true_eq, hne] at h
  obtain ⟨⟨⟨⟨⟨⟨⟨⟨⟨hbanker, hreset⟩, hrecovery⟩, hcrc⟩, hlength⟩, hfits⟩, hversion⟩, hcommand⟩, hrow⟩, hsession⟩ := h
  have hzero : (frameHdr f.origin f.bytes).session ≠ 0 := fun h0 => by
    rw [if_pos h0] at hsession
    exact absurd hsession Bool.false_ne_true
  rw [if_neg hzero] at hsession
  split at hsession
  case h_2 => exact absurd hsession Bool.false_ne_true
  case h_1 x hx =>
    simp only [Bool.and_eq_true, bne_iff_ne, decide_eq_true_eq] at hsession
    obtain ⟨⟨⟨halive, hseq⟩, hnewer⟩, hroom⟩ := hsession
    refine ⟨x, hbanker, hreset, hrecovery, hcrc, hlength, hfits, hversion, hcommand, ?_, hzero, hx, halive, hseq, hnewer, hroom⟩
    split at hrow
    case h_1 cls states hc =>
      simp only [Bool.and_eq_true] at hrow
      exact ⟨cls, states, hc, hrow⟩
    case h_2 => exact absurd hrow Bool.false_ne_true

/-- The session of a header holds its ALIVE, and so do the command runs of the same SEQUENCE. -/
def State.takeAlive (s : State) (h : CmdHdr) : State :=
  (s.updSession h.session fun y => { y with alive := h.alive }).updCmd fun c => { c with
    runs := c.runs.map fun r => if r.isFor h.session h.seq then { r with hdr := { r.hdr with alive := h.alive } } else r }

/-- The oldest frame is taken, and its session holds its ALIVE and SEQUENCE. -/
def State.taken (s : State) (f : InFrame) (rest : List InFrame) : State :=
  ((s.updCmd fun c => { c with fifo := rest }).takeAlive (frameHdr f.origin f.bytes)).updSession (frameHdr f.origin f.bytes).session
    fun y => { y with seq := (frameHdr f.origin f.bytes).seq }

theorem State.taken_keeps (s : State) (f : InFrame) (rest : List InFrame) : Keeps [.cmd] (only []) s (s.taken f rest) :=
  ((((Keeps.refl _ _ s).updCmd _ List.mem_cons_self).updCmd _ List.mem_cons_self).updCmd _ List.mem_cons_self).updCmd _ List.mem_cons_self

theorem CmdRun.aliveSet_stage (h : CmdHdr) (r : CmdRun) :
    (if r.isFor h.session h.seq then { r with hdr := { r.hdr with alive := h.alive } } else r).stage = r.stage := by
  split <;> rfl

theorem CmdRun.aliveSet_session (h : CmdHdr) (r : CmdRun) :
    (if r.isFor h.session h.seq then { r with hdr := { r.hdr with alive := h.alive } } else r).hdr.session = r.hdr.session := by
  split <;> rfl

theorem State.takeAlive_room (s : State) (h : CmdHdr) :
    ((s.takeAlive h).cmd.runs.filter fun r => r.hdr.session == h.session && r.stage == .queued).length
      = (s.cmd.runs.filter fun r => r.hdr.session == h.session && r.stage == .queued).length := by
  show ((List.map _ s.cmd.runs).filter _).length = _
  rw [List.filter_map, List.length_map]
  simp only [Function.comp_def, CmdRun.aliveSet_stage, CmdRun.aliveSet_session]

theorem Admitted.sessionCheck {s : State} {code : Nat} {f : InFrame} {x : Session} (h : Admitted s code f x) (rest : List InFrame) :
    (s.updCmd fun c => { c with fifo := rest }).sessionCheck (frameHdr f.origin f.bytes) = (s.taken f rest, true) := by
  have hfound : (s.updCmd fun c => { c with fifo := rest }).session? (frameHdr f.origin f.bytes).session (frameHdr f.origin f.bytes).origin
      = some x := h.found
  have hroom : ¬ 4 ≤ ((s.taken f rest).cmd.runs.filter fun r =>
      r.hdr.session == (frameHdr f.origin f.bytes).session && r.stage == .queued).length := by
    refine Nat.not_le.mpr (lt_of_eq_of_lt ?_ h.room)
    exact State.takeAlive_room (s.updCmd fun c => { c with fifo := rest }) _
  unfold State.sessionCheck
  rw [if_neg h.session, hfound]
  dsimp only
  rw [if_neg h.alive, if_neg h.seq, if_neg (Int.not_lt.mpr h.newer), State.session?_id h.found]
  exact if_neg hroom

theorem State.classOk_of_entry {s t : State} {h : CmdHdr} (hi : t.image = s.image)
    (he : (t.session? h.session h.origin).map (·.entry) = (s.session? h.session h.origin).map (·.entry)) (cls : Option Nat) :
    t.classOk h cls = s.classOk h cls := by
  unfold State.classOk
  rw [hi]
  generalize t.session? h.session h.origin = a at he ⊢
  generalize s.session? h.session h.origin = b at he ⊢
  cases cls with
  | none => rfl
  | some k =>
    cases a with
    | none => cases b with
      | none => rfl
      | some y => exact absurd he nofun
    | some x => cases b with
      | none => exact absurd he nofun
      | some y =>
        have hxy : x.entry = y.entry := Option.some.inj he
        simp only [hxy]

theorem Admitted.found_taken {s : State} {code : Nat} {f : InFrame} {x : Session} (h : Admitted s code f x) (rest : List InFrame) :
    (s.taken f rest).session? (frameHdr f.origin f.bytes).session f.origin
      = some { x with alive := (frameHdr f.origin f.bytes).alive, seq := (frameHdr f.origin f.bytes).seq } := by
  have hfound : (s.updCmd fun c => { c with fifo := rest }).session? (frameHdr f.origin f.bytes).session f.origin = some x := h.found
  have halive := State.session?_updated hfound (f := fun y => { y with alive := (frameHdr f.origin f.bytes).alive }) (fun _ => rfl) (fun _ => rfl)
  have htaken : ((s.updCmd fun c => { c with fifo := rest }).takeAlive (frameHdr f.origin f.bytes)).session? (frameHdr f.origin f.bytes).session
      f.origin = some { x with alive := (frameHdr f.origin f.bytes).alive } := halive
  exact State.session?_updated htaken (f := fun y => { y with seq := (frameHdr f.origin f.bytes).seq }) (fun _ => rfl) (fun _ => rfl)

theorem Admitted.takeCommand {s : State} {code : Nat} {f : InFrame} {x : Session} {rest : List InFrame} (h : Admitted s code f x)
    (hf : s.cmd.fifo = f :: rest) :
    s.takeCommand code (fun _ => true) = (s.taken f rest, some (frameHdr f.origin f.bytes, framePayload f)) := by
  obtain ⟨cls, states, hrow, hstate, hclass⟩ := h.row
  have hup : ¬ (s.bankerUp = false ∨ s.devState = stReset ∨ s.devState = stRecovery) := by
    rw [h.banker]
    simp [h.reset, h.recovery]
  have hsound : ¬ (f.crcOk = false ∨ f.bytes.length ≠ 20 + frameLength f.bytes ∨ maxPayload f.origin.transport < frameLength f.bytes) := by
    rw [h.crc]
    simp [h.length, h.fits]
  have hclassTaken : (s.taken f rest).classOk (frameHdr f.origin f.bytes) cls = true := by
    have hentry : ((s.taken f rest).session? (frameHdr f.origin f.bytes).session f.origin).map (·.entry)
        = (s.session? (frameHdr f.origin f.bytes).session f.origin).map (·.entry) := by
      rw [h.found_taken, h.found]
      rfl
    have himage : (s.taken f rest).image = s.image := (s.taken_keeps f rest).same (p := .image) (by decide)
    have hsame := State.classOk_of_entry (h := frameHdr f.origin f.bytes) himage hentry cls
    exact hsame.trans hclass
  have hauth : ¬ (((frameHdr f.origin f.bytes).session = 0 ∧ code ≠ 0x01 ∧ code ≠ 0x02 ∧ code ≠ 0x10)
      ∨ (s.taken f rest).classOk (frameHdr f.origin f.bytes) cls = false ∨ true = false) := by
    rw [hclassTaken]
    simp [h.session]
  unfold State.takeCommand
  rw [if_neg hup, hf]
  dsimp only
  rw [if_neg hsound, h.sessionCheck rest]
  dsimp only
  rw [if_neg (by decide), h.command, hrow]
  dsimp only
  rw [if_neg (not_not_intro h.version), if_neg (not_not_intro rfl), if_neg hauth, hstate, if_neg (by decide)]
  rfl

/-! ### The frame at hand -/

/-- The frame is taken, and its session holds its ALIVE and SEQUENCE. -/
structure AtHand (f : InFrame) (rest : List InFrame) (t : State) : Prop where
  fifo : t.cmd.fifo = rest
  session : (frameHdr f.origin f.bytes).session ≠ 0
  command : (frameHdr f.origin f.bytes).command < 0x40
  found : ∃ x, t.session? (frameHdr f.origin f.bytes).session f.origin = some x ∧ x.alive = (frameHdr f.origin f.bytes).alive
    ∧ x.seq = (frameHdr f.origin f.bytes).seq

theorem AtHand.of_cmd {f : InFrame} {rest : List InFrame} {s t : State} (h : AtHand f rest s) (hc : t.cmd = s.cmd) : AtHand f rest t := by
  obtain ⟨hfifo, hsession, hcommand, x, hx, halive, hseq⟩ := h
  refine ⟨by rw [hc, hfifo], hsession, hcommand, x, ?_, halive, hseq⟩
  rw [State.session?, hc]
  exact hx

theorem AtHand.keep {f : InFrame} {rest : List InFrame} {s t : State} {ps : List Part} {W : Nat → Prop} (h : AtHand f rest s) (k : Keeps ps W s t)
    (hp : .cmd ∉ ps) : AtHand f rest t := h.of_cmd (k.same hp)

/-- A command that is admitted runs with its frame at hand. -/
theorem State.command_admitted {s : State} {code : Nat} {f : InFrame} {rest : List InFrame} (hf : s.cmd.fifo = f :: rest)
    (ha : s.admits code f = true) (hlo : 0x11 ≤ code) (hhi : code < 0x40) :
    (∀ run, s.command code run = run (s.taken f rest) (frameHdr f.origin f.bytes) (framePayload f))
    ∧ AtHand f rest (s.taken f rest) ∧ Keeps [.cmd] (only []) s (s.taken f rest) := by
  obtain ⟨x, hx⟩ := State.admitted ha hlo
  have hcmd : (frameHdr f.origin f.bytes).command < 0x40 := by rw [hx.command]; exact hhi
  refine ⟨fun run => ?_, ⟨rfl, hx.session, hcmd, _, hx.found_taken rest, rfl, rfl⟩, s.taken_keeps f rest⟩
  rw [State.command, hx.takeCommand hf]

theorem State.taken_stages (s : State) (f : InFrame) (rest : List InFrame) :
    (s.taken f rest).cmd.runs.map (·.stage) = s.cmd.runs.map (·.stage) := by
  show (List.map _ s.cmd.runs).map _ = _
  rw [List.map_map]
  exact List.map_congr_left fun r _ => CmdRun.aliveSet_stage (frameHdr f.origin f.bytes) r

end Sys2Proof.Machine
end

section
/-!
SUPPORT. The answer to a command (R338, R344, R350): where it goes, and what it leaves.
-/

namespace Sys2Proof.Machine

open Sys2Proof

/-! ### Sets of the fabric (R230, R231) -/

theorem Keeps.updFab {ps : List Part} {W : Nat → Prop} {s t : State} (h : Keeps ps W s t) (f : FabSt → FabSt) (hp : .fab ∈ ps) :
    Keeps ps W s (t.updFab f) :=
  h.part rfl rfl fun p hn => by
    cases p
    case fab => exact absurd hp hn
    all_goals rfl

theorem Keeps.updPort {ps : List Part} {W : Nat → Prop} {s t : State} (h : Keeps ps W s t) (p : Nat) (f : PortSt → PortSt) (hp : .fab ∈ ps) :
    Keeps ps W s (t.updPort p f) := h.updFab (fun x => { x with ports := Tab.upd .init x.ports p f }) hp

theorem Keeps.enqueue {ps : List Part} {W : Nat → Prop} {s t : State} (h : Keeps ps W s t) (p : Nat) (m : Trump) (bank : Bool) (hp : .fab ∈ ps) :
    Keeps ps W s (t.enqueue p m bank) := h.updPort p _ hp

theorem Keeps.originate {ps : List Part} {W : Nat → Prop} {s t : State} (h : Keeps ps W s t) (type dest : Nat) (bcast : Bool) (args : List Nat)
    (bank : Bool) (hp : .fab ∈ ps) : Keeps ps W s (t.originate type dest bcast args bank) := by
  unfold State.originate
  dsimp only
  exact Keeps.each (fun t p => (Keeps.refl _ _ t).enqueue p _ bank hp) _ (h.updFab _ hp)

theorem Keeps.sendFrame {ps : List Part} {W : Nat → Prop} {s t : State} (h : Keeps ps W s t) (node : Nat) (bs : List Byte) (hp : .fab ∈ ps) :
    Keeps ps W s (t.sendFrame node bs) := by
  unfold State.sendFrame
  dsimp only
  exact Keeps.each (fun t _ => (Keeps.refl _ _ t).originate _ _ _ _ _ hp) _ h

/-! ### The mailbox (R350) -/

theorem State.hostVec_parts (s : State) (n : Nat) : Keeps [] (only [Reg.HST_INT_STATUS]) s (s.hostVec n) :=
  (Keeps.refl _ _ s).hostVec n List.mem_cons_self

/-- The mailbox shows a response. -/
theorem State.mbPost_spec (s : State) {code : Nat} (hc : code < 256) : (s.mbPost code).get .HST_MB_STATUS_CODE = code
    ∧ (s.mbPost code).on .HST_MB_STATUS_READY = true ∧ Keeps [] (only [Reg.HST_MB_STATUS, Reg.HST_INT_STATUS]) s (s.mbPost code) := by
  unfold State.mbPost
  have hcode : ((s.set .HST_MB_STATUS_CODE code).setB .HST_MB_STATUS_READY true).get .HST_MB_STATUS_CODE = code :=
    (State.get_set_other _ _ rfl).trans (State.get_set_fits _ rfl (wid := 8) rfl hc)
  have hready : ((s.set .HST_MB_STATUS_CODE code).setB .HST_MB_STATUS_READY true).on .HST_MB_STATUS_READY = true := State.on_setB _ _ rfl rfl
  have hset := ((Keeps.refl [] (only [Reg.HST_MB_STATUS, Reg.HST_INT_STATUS]) s).set .HST_MB_STATUS_CODE code List.mem_cons_self).setB
    .HST_MB_STATUS_READY true List.mem_cons_self
  generalize (s.set .HST_MB_STATUS_CODE code).setB .HST_MB_STATUS_READY true = u at hcode hready hset ⊢
  have hvec := u.hostVec_parts 0
  exact ⟨(hvec.get _ (by decide)).trans hcode, (hvec.on _ (by decide)).trans hready, hset.trans (hvec.widen (fun _ => id) (by simp))⟩

/-! ### The response (R338, R344) -/

/-- The effects of a response. -/
structure Responded (o : Origin) (bs : List Byte) (code : Nat) (s t : State) : Prop where
  sent : SentTo o bs code t
  cmd : t.cmd = { s.cmd with resp := t.cmd.resp }
  keeps : Keeps [.cmd, .fab] (only answerRegs) s t

theorem Responded.of_fabric {o : Origin} {bs : List Byte} {code : Nat} {s t : State} (h0 : o.transport ≠ 0) (h1 : o.transport ≠ 1)
    (hk : Keeps [.fab] (only answerRegs) s t) : Responded o bs code s t where
  sent := ⟨fun h => absurd h h0, fun h => absurd h h1⟩
  cmd := by rw [show t.cmd = s.cmd from hk.same (p := .cmd) (by decide)]
  keeps := hk.widen (by simp) (fun _ => id)

theorem State.respond_spec (s : State) (h : CmdHdr) {code : Nat} (hc : code < 256) (p : List Byte) :
    Responded h.origin (responseBytes h code p) code s (s.respond h code p) := by
  unfold State.respond
  split
  case h_1 h0 =>
    refine ⟨⟨fun _ => by simp, fun h1 => ?_⟩, by rw [State.emit_cmd], (Keeps.refl _ _ s).emit _⟩
    rw [h0] at h1
    exact absurd h1 (by decide)
  case h_2 h1 =>
    have hresp : readBytes 0 (s.updCmd fun c => { c with resp := writeBytes 0 c.resp 0 (responseBytes h code p) }).cmd.resp 0
        (responseBytes h code p).length = responseBytes h code p := readBytes_writeBytes ..
    have hcmd : (s.updCmd fun c => { c with resp := writeBytes 0 c.resp 0 (responseBytes h code p) }).cmd
        = { s.cmd with resp := (s.updCmd fun c => { c with resp := writeBytes 0 c.resp 0 (responseBytes h code p) }).cmd.resp } := by
      simp only [State.updCmd_cmd]
    have hput : Keeps [.cmd, .fab] (only answerRegs) s (s.updCmd fun c => { c with resp := writeBytes 0 c.resp 0 (responseBytes h code p) }) :=
      (Keeps.refl _ _ s).updCmd _ List.mem_cons_self
    generalize (s.updCmd fun c => { c with resp := writeBytes 0 c.resp 0 (responseBytes h code p) }) = u at hresp hcmd hput ⊢
    obtain ⟨hcode, hready, hpost⟩ := u.mbPost_spec hc
    have hsame : (u.mbPost code).cmd = u.cmd := hpost.same (p := .cmd) (by decide)
    refine ⟨⟨fun h0 => ?_, fun _ => ⟨hcode, hready, by rw [hsame, hresp]⟩⟩, by rw [hsame, hcmd], hput.trans (hpost.widen (List.nil_subset _) ?_)⟩
    · rw [h1] at h0
      exact absurd h0 (by decide)
    · simp [answerRegs]
  case h_3 h0 h1 =>
    refine Responded.of_fabric h0 h1 ?_
    dsimp only
    split
    · exact (Keeps.refl _ _ s).originate _ _ _ _ _ List.mem_cons_self
    · exact (Keeps.refl _ _ s).sendFrame _ _ List.mem_cons_self

/-! ### The answer (R344) -/

/-- The response of a session is kept. -/
def State.keepResp (s : State) (h : CmdHdr) (code : Nat) (p : List Byte) : State :=
  s.updSession h.session fun x => { x with resp := some (h, code, p) }

theorem AtHand.answer_eq {f : InFrame} {rest : List InFrame} {s : State} (h : AtHand f rest s) (code : Nat) (p : List Byte) :
    s.answer (frameHdr f.origin f.bytes) code p
      = (s.respond (frameHdr f.origin f.bytes) code p).keepResp (frameHdr f.origin f.bytes) code p := by
  have hupdate : ¬ (0x40 ≤ (frameHdr f.origin f.bytes).command ∧ (frameHdr f.origin f.bytes).command ≤ 0x43) :=
    fun hu => absurd h.command (Nat.not_lt.mpr hu.1)
  unfold State.answer
  dsimp only
  rw [if_neg h.session, if_neg hupdate]
  rfl

/-- The effects of an answer. -/
structure AnswerKeeps (f : InFrame) (rest : List InFrame) (code : Nat) (p : List Byte) (s t : State) : Prop where
  answered : Answered f rest code p t
  keeps : Keeps [.cmd, .fab] (only answerRegs) s t

theorem AtHand.answer {f : InFrame} {rest : List InFrame} {s : State} (h : AtHand f rest s) {code : Nat} (hc : code < 256) (p : List Byte) :
    AnswerKeeps f rest code p s (s.answer (frameHdr f.origin f.bytes) code p) := by
  rw [h.answer_eq]
  obtain ⟨hsent, hcmd, hkeep⟩ := s.respond_spec (frameHdr f.origin f.bytes) hc p
  obtain ⟨hfifo, -, -, x, hx, halive, hseq⟩ := h
  generalize s.respond (frameHdr f.origin f.bytes) code p = u at hsent hcmd hkeep ⊢
  have hfound : u.session? (frameHdr f.origin f.bytes).session f.origin = some x := by
    rw [State.session?, hcmd]
    exact hx
  have hresp : (u.keepResp (frameHdr f.origin f.bytes) code p).session? (frameHdr f.origin f.bytes).session f.origin
      = some { x with resp := some (frameHdr f.origin f.bytes, code, p) } :=
    State.session?_updated hfound (f := fun x => { x with resp := some (frameHdr f.origin f.bytes, code, p) }) (fun _ => rfl) (fun _ => rfl)
  have hkept : Keeps [.cmd] (only []) u (u.keepResp (frameHdr f.origin f.bytes) code p) := (Keeps.refl _ _ u).updCmd _ List.mem_cons_self
  have hcmdKept : (u.keepResp (frameHdr f.origin f.bytes) code p).cmd = { u.cmd with
      sessions := (u.keepResp (frameHdr f.origin f.bytes) code p).cmd.sessions } := by
    simp only [State.keepResp, State.updSession, State.updCmd_cmd]
  have hout : (u.keepResp (frameHdr f.origin f.bytes) code p).out = u.out := State.updCmd_out ..
  generalize u.keepResp (frameHdr f.origin f.bytes) code p = v at hresp hkept hcmdKept hout ⊢
  refine ⟨⟨by rw [hcmdKept, hcmd]; exact hfifo, ⟨fun h0 => ?_, fun h1 => ?_⟩, fun _ => ?_⟩, hkeep.trans (hkept.widen (by simp) (List.nil_subset _))⟩
  · rw [hout]
    exact hsent.1 h0
  · obtain ⟨hcode, hready, hread⟩ := hsent.2 h1
    refine ⟨(hkept.get _ List.not_mem_nil).trans hcode, (hkept.on _ List.not_mem_nil).trans hready, ?_⟩
    rw [hcmdKept]
    exact hread
  · have hlook : v.session? (frameNum f.bytes 2 2) f.origin = some { x with resp := some (frameHdr f.origin f.bytes, code, p) } := hresp
    rw [hlook]
    exact ⟨congrArg some hseq, congrArg some halive, rfl⟩

/-- What an answer shows stands where the registers of the mailbox and what goes out stand. -/
theorem Answered.keep {f : InFrame} {rest : List InFrame} {code : Nat} {p : List Byte} {s t : State} {ps : List Part} {as : List Nat}
    (h : Answered f rest code p s) (k : Keeps ps (only as) s t) (hp : .cmd ∉ ps) (hw : Reg.HST_MB_STATUS ∉ as) (ho : ∀ e ∈ s.out, e ∈ t.out) :
    Answered f rest code p t := by
  have hcmd : t.cmd = s.cmd := k.same hp
  obtain ⟨hfifo, ⟨hemit, hmail⟩, hsession⟩ := h
  refine ⟨by rw [hcmd, hfifo], ⟨fun h0 => ho _ (hemit h0), fun h1 => ?_⟩, fun hs => ?_⟩
  · obtain ⟨hcode, hready, hread⟩ := hmail h1
    exact ⟨(k.get _ hw).trans hcode, (k.on _ hw).trans hready, by rw [hcmd, hread]⟩
  · rw [State.session?, hcmd]
    exact hsession hs

theorem Settled.answered {f : InFrame} {rest : List InFrame} {code : Nat} {p : List Byte} {s t : State} (h : Settled s t)
    (ha : Answered f rest code p s) : Answered f rest code p t := ha.keep h.keeps List.not_mem_nil (by decide) fun _ => h.mem_out

end Sys2Proof.Machine
end

section
/-!
SUPPORT. The operating commands that act on registers of their own: RESTART_OUTPUT (R158), RESYNC (R139), AUDIO_MUTE (R334), and the
parameters out of range.
-/

namespace Sys2Proof.Machine

open Sys2Proof

/-! ### Rows of commands -/

/-- The frame of a command that acts, then answers. -/
theorem AnswerKeeps.frame {f : InFrame} {rest : List InFrame} {code : Nat} {p : List Byte} {s u t : State} {ps qs : List Part} {as bs : List Nat}
    (h : AnswerKeeps f rest code p u t) (k : Keeps ps (only as) (s.quiet.taken f rest) u) (hp : .cmd :: .fab :: ps ⊆ qs)
    (hw : as ⊆ bs) (ha : answerRegs ⊆ bs) : Keeps qs (only bs) s t := by
  have htaken := (Keeps.quiet [.cmd] (only []) s).trans (s.quiet.taken_keeps f rest)
  have hmine : Keeps qs (only bs) s u :=
    (htaken.widen (fun _ hq => hp (by simp at hq; simp [hq])) (List.nil_subset _)).trans (k.widen (fun _ hq => hp (by simp [hq])) hw)
  exact hmine.trans (h.keeps.widen (fun _ hq => hp (by simp at hq; rcases hq with rfl | rfl <;> simp)) ha)

/-- A command that is admitted answers with the code of its own update. -/
theorem State.operate_admitted {s : State} {code : Nat} {f : InFrame} {rest : List InFrame} (hf : s.cmd.fifo = f :: rest)
    (ha : s.admits code f = true) (hlo : 0x11 ≤ code) (hhi : code < 0x40) (run : State → State × Nat) :
    s.operate code true run = (run (s.taken f rest)).1.answer (frameHdr f.origin f.bytes) (run (s.taken f rest)).2 [] := by
  unfold State.operate
  rw [(State.command_admitted hf ha hlo hhi).1, if_pos rfl]

theorem State.operate_range {s : State} {code : Nat} {f : InFrame} {rest : List InFrame} (hf : s.cmd.fifo = f :: rest)
    (ha : s.admits code f = true) (hlo : 0x11 ≤ code) (hhi : code < 0x40) (run : State → State × Nat) :
    s.operate code false run = (s.taken f rest).answer (frameHdr f.origin f.bytes) stRANGE [] := by
  unfold State.operate
  rw [(State.command_admitted hf ha hlo hhi).1, if_neg Bool.false_ne_true]

/-! ### RESTART_OUTPUT (R158) -/

theorem bitOf_clrBitN_zero (n k : Nat) (hk : k % 2 = 0) : bitOf (clrBitN n 0 % k) 0 = false := by
  have heven : clrBitN n 0 % 2 = 0 := by
    unfold clrBitN bitOf
    split
    case isTrue h =>
      rw [beq_iff_eq] at h
      omega
    case isFalse h =>
      simp only [pow_zero, Nat.div_one, beq_iff_eq] at h
      omega
  have hmod : clrBitN n 0 % k % 2 = 0 := by
    rw [Nat.mod_mod_of_dvd _ (Nat.dvd_of_mod_eq_zero hk)]
    exact heven
  unfold bitOf
  rw [pow_zero, Nat.div_one, hmod]
  rfl

/-- The blank source SCORER of output `o` is cleared, with what the Scorer shows of it. -/
def State.scorerClears (s : State) (o : Nat) : State :=
  ((s.clearBlank o 0).setB (.CMP_LV_OUT_BLANKED o) false).set (.CMP_LV_OUT_BLANK_CAUSE o) 0

/-- The liveness history of output `o` is forgotten. -/
def State.forgetHistory (s : State) (o : Nat) : State :=
  (s.updOut o fun x => { x with sigHist := [], misRun := 0, sinkPrev := none }).set (.CMP_LV_OUT_MISS_RUN o) 0

theorem State.restartOutput_cleared {s : State} {o : Nat} (hs : s.devState ≠ stSafe) (hh : s.sco.hard = false)
    (hb : bitOf (s.get (.OUT_STATUS_BLANK_SRC o)) 0 = true) :
    s.restartOutput o = (((s.scorerClears o).forgetHistory o).log 0x0302 [o], 0x00) := by
  unfold State.restartOutput
  rw [if_neg (by rw [hh, hb]; simp [hs])]
  rfl

theorem State.restartOutput_refused {s : State} {o : Nat} (h : bitOf (s.get (.OUT_STATUS_BLANK_SRC o)) 0 = false ∨ s.sco.hard = true) :
    s.restartOutput o = (s, 0x02) := if_pos (h.elim (fun hb => .inr (.inr hb)) fun hh => .inr (.inl hh))

/-- The effects of RESTART_OUTPUT. -/
structure OutputRestarted (o : Fin 16) (s t : State) : Prop where
  source : bitOf (t.get (.OUT_STATUS_BLANK_SRC o)) 0 = false
  blanked : t.on (.CMP_LV_OUT_BLANKED o) = false
  cause : t.get (.CMP_LV_OUT_BLANK_CAUSE o) = 0
  missRun : t.get (.CMP_LV_OUT_MISS_RUN o) = 0
  outp : t.outp o = { s.outp o with sigHist := [], misRun := 0, sinkPrev := none }
  other : ∀ q, q ≠ o.val → t.outp q = s.outp q
  keeps : Keeps [.outs] (only [Reg.OUT_STATUS o, Reg.CMP_LV_OUT o]) s t

theorem State.scorerClears_spec (s : State) (o : Fin 16) : bitOf ((s.scorerClears o).get (.OUT_STATUS_BLANK_SRC o)) 0 = false
    ∧ (s.scorerClears o).on (.CMP_LV_OUT_BLANKED o) = false ∧ (s.scorerClears o).get (.CMP_LV_OUT_BLANK_CAUSE o) = 0
    ∧ Keeps [] (only [Reg.OUT_STATUS o, Reg.CMP_LV_OUT o]) s (s.scorerClears o) := by
  unfold State.scorerClears
  have hsource : bitOf ((s.clearBlank o 0).get (.OUT_STATUS_BLANK_SRC o)) 0 = false := by
    rw [State.clearBlank, State.get_set_self _ _ rfl]
    exact bitOf_clrBitN_zero _ (2 ^ 3) rfl
  have hclear := (Keeps.refl [] (only [Reg.OUT_STATUS o, Reg.CMP_LV_OUT o]) s).set (.OUT_STATUS_BLANK_SRC o)
    (clrBitN (s.get (.OUT_STATUS_BLANK_SRC o)) 0) List.mem_cons_self
  change Keeps _ _ s (s.clearBlank o 0) at hclear
  generalize s.clearBlank o 0 = u at hsource hclear ⊢
  have hshown := ((Keeps.refl [] (only [Reg.CMP_LV_OUT o]) u).setB (.CMP_LV_OUT_BLANKED o) false List.mem_cons_self).set
    (.CMP_LV_OUT_BLANK_CAUSE o) 0 List.mem_cons_self
  refine ⟨?_, (State.on_set_other _ _ rfl).trans (State.on_setB _ _ rfl rfl), State.get_set_fits _ rfl (wid := 3) rfl (by decide),
    hclear.trans (hshown.widen (fun _ => id) (by simp))⟩
  rw [hshown.get _ (by apply checkEach o; decide)]
  exact hsource

theorem State.outputRestarted (s : State) (o : Fin 16) : OutputRestarted o s ((s.scorerClears o).forgetHistory o) := by
  obtain ⟨hsource, hblanked, hcause, hclear⟩ := s.scorerClears_spec o
  generalize s.scorerClears o = u at hsource hblanked hcause hclear ⊢
  unfold State.forgetHistory
  have houtp : (u.updOut o fun x => { x with sigHist := [], misRun := 0, sinkPrev := none }).outp o
      = { s.outp o with sigHist := [], misRun := 0, sinkPrev := none } := by
    rw [State.updOut_self, hclear.outp List.not_mem_nil]
  have hother : ∀ q, q ≠ o.val → (u.updOut o fun x => { x with sigHist := [], misRun := 0, sinkPrev := none }).outp q = s.outp q := fun q hq => by
    rw [State.updOut_other _ _ hq, hclear.outp List.not_mem_nil]
  have hforget : Keeps [.outs] (only []) u (u.updOut o fun x => { x with sigHist := [], misRun := 0, sinkPrev := none }) :=
    (Keeps.refl _ _ u).updOut o _ List.mem_cons_self
  generalize (u.updOut o fun x => { x with sigHist := [], misRun := 0, sinkPrev := none }) = v at houtp hother hforget ⊢
  refine ⟨?source, ?blanked, ?cause, State.get_set_fits _ rfl (wid := 4) rfl (by decide), (State.set_outp ..).trans houtp,
    fun q hq => (State.set_outp ..).trans (hother q hq), ?keeps⟩
  case source =>
    rw [State.get_set_other _ _ (by apply checkEach o; decide), hforget.get _ List.not_mem_nil]
    exact hsource
  case blanked => exact (State.on_set_other _ _ rfl).trans ((hforget.on _ List.not_mem_nil).trans hblanked)
  case cause => exact (State.get_set_other _ _ rfl).trans ((hforget.get _ List.not_mem_nil).trans hcause)
  case keeps =>
    exact ((hclear.widen (List.nil_subset _) (fun _ => id)).trans (hforget.widen (fun _ => id) (List.nil_subset _))).set
      (.CMP_LV_OUT_MISS_RUN o) 0 (by simp [Fld.CMP_LV_OUT_MISS_RUN])

end Sys2Proof.Machine
end

section
/-!
PROOF. The row of RESTART_OUTPUT (R158) that clears a blank source, for O42.
-/

namespace Sys2Proof.Machine

open Sys2Proof

/-! ### The rows of RESTART_OUTPUT, RESYNC and AUDIO_MUTE -/

theorem Keeps.lastLog {ps : List Part} {W : Nat → Prop} {s t : State} (h : Keeps ps W s t) (hp : .sco ∉ ps) : t.lastLog = s.lastLog := by
  have hsco : t.sco = s.sco := h.same hp
  rw [State.lastLog, hsco]
  rfl

/-- An operating command is admitted in DEALING only. -/
theorem State.admits_dealing {s : State} {code : Nat} {f : InFrame} (h : s.admits code f = true) (hlo : 0x30 ≤ code) (hhi : code < 0x36) :
    s.devState = stDealing := by
  obtain ⟨x, hx⟩ := State.admitted h (by omega)
  obtain ⟨cls, states, hrow, hstate, -⟩ := hx.row
  have hdealing : commandRow code = some (some 2, [stDealing]) := by
    interval_cases code <;> rfl
  obtain ⟨-, rfl⟩ := Prod.mk.inj (Option.some.inj (hrow.symm.trans hdealing))
  simpa using hstate

theorem Keeps.logRoom {ps : List Part} {W : Nat → Prop} {s t : State} (h : Keeps ps W s t) (hp : .sco ∉ ps) (hr : s.logRoom) : t.logRoom := by
  have hsco : t.sco = s.sco := h.same hp
  rw [State.logRoom, hsco]
  exact hr

/-- The effects of RESTART_OUTPUT with its log entry. -/
structure RestartLogged (o : Fin 16) (s t : State) : Prop where
  regs : ∀ g : Fld, t.get g = ((s.scorerClears o).forgetHistory o).get g
  outp : ∀ q, t.outp q = ((s.scorerClears o).forgetHistory o).outp q
  log : t.lastLog = some (0x0302, [o.val])
  keeps : Keeps [.outs, .sco] (only [Reg.OUT_STATUS o, Reg.CMP_LV_OUT o]) s t

/-- RESTART_OUTPUT of an output that the Scorer blanks is OK. -/
theorem State.restartOutput_spec {s : State} {o : Fin 16} (hs : s.devState ≠ stSafe) (hh : s.sco.hard = false)
    (hb : bitOf (s.get (.OUT_STATUS_BLANK_SRC o)) 0 = true) (hr : s.logRoom) :
    (s.restartOutput o).2 = stOK ∧ RestartLogged o s (s.restartOutput o).1 := by
  rw [State.restartOutput_cleared hs hh hb]
  have hre := (s.outputRestarted o).keeps
  have hroom := hre.logRoom (by decide) hr
  have hlogged : Keeps [.sco] (only []) ((s.scorerClears o).forgetHistory o) (((s.scorerClears o).forgetHistory o).log 0x0302 [o]) :=
    (Keeps.refl _ _ _).log hroom _ _ List.mem_cons_self
  refine ⟨rfl, fun g => hlogged.get g List.not_mem_nil, hlogged.outp (by decide), ?_,
    (hre.widen (by simp) (fun _ => id)).trans (hlogged.widen (by simp) (List.nil_subset _))⟩
  rw [State.lastLog_log hroom, List.map_cons, List.map_nil, Nat.mod_eq_of_lt (by omega)]

/-- RESTART_OUTPUT of an output that the Scorer blanks. -/
theorem gives_restart {f : InFrame} {rest : List InFrame} {o : Fin 16} {s : State} (hu : s.up) (hroom : s.logRoom) (hf : s.cmd.fifo = f :: rest)
    (ha : s.admits 0x30 f = true) (hb : bitOf (s.get (.OUT_STATUS_BLANK_SRC o)) 0 = true) (hh : s.sco.hard = false) :
    Gives (.restartOutput o) s fun t => Answered f rest stOK [] t ∧ bitOf (t.get (.OUT_STATUS_BLANK_SRC o)) 0 = false
      ∧ t.on (.CMP_LV_OUT_BLANKED o) = false ∧ t.get (.CMP_LV_OUT_BLANK_CAUSE o) = 0 ∧ t.get (.CMP_LV_OUT_MISS_RUN o) = 0
      ∧ t.lastLog = some (0x0302, [o.val]) ∧ (t.outp o).sigHist = [] ∧ (t.outp o).misRun = 0 ∧ (∀ q, q ≠ o.val → t.outp q = s.outp q)
      ∧ Keeps [.cmd, .fab, .outs, .sco] (only (faultRegs ++ answerRegs ++ [Reg.OUT_STATUS o, Reg.CMP_LV_OUT o])) s t := by
  refine gives_settled (·.cmdRestart o) hu rfl fun t ht => ?_
  obtain ⟨-, hat, htaken⟩ := State.command_admitted (s := s.quiet) hf ha (by decide) (by decide)
  have hsafe : (s.quiet.taken f rest).devState ≠ stSafe := by
    rw [htaken.devState List.not_mem_nil, State.quiet_devState, State.admits_dealing ha (by decide) (by decide)]
    decide
  have hsco : (s.quiet.taken f rest).sco = s.quiet.sco := htaken.same (p := .sco) (by decide)
  have hblank : bitOf ((s.quiet.taken f rest).get (.OUT_STATUS_BLANK_SRC o)) 0 = true := by
    rw [htaken.get _ List.not_mem_nil]
    exact hb
  obtain ⟨hcode, hdone⟩ := State.restartOutput_spec hsafe (by rw [hsco]; exact hh) hblank (htaken.logRoom (by decide) hroom)
  rw [State.cmdRestart, decide_eq_true o.isLt, State.operate_admitted (s := s.quiet) hf ha (by decide) (by decide), hcode] at ht
  have houtpTaken := htaken.outp (by decide)
  have hre := (s.quiet.taken f rest).outputRestarted o
  have hans := (hat.keep hdone.keeps (by decide)).answer (code := stOK) (by decide) []
  have hframe := hans.frame (qs := [.cmd, .fab, .outs, .sco]) (bs := faultRegs ++ answerRegs ++ [Reg.OUT_STATUS o, Reg.CMP_LV_OUT o]) hdone.keeps
    (fun _ => id) (List.subset_append_right ..) (fun _ ha => List.mem_append_left _ (List.mem_append_right _ ha))
  generalize ((s.quiet.taken f rest).restartOutput o).1.answer (frameHdr f.origin f.bytes) stOK [] = w at ht hans hframe
  have hregs : ∀ g : Fld, 0x20000000 ≤ g.addr → g.addr ∉ answerRegs →
      t.get g = (((s.quiet.taken f rest).scorerClears o).forgetHistory o).get g := fun g hg hn => by
    rw [ht.get g hg, hans.keeps.get g hn, hdone.regs]
  have houtp : ∀ q, t.outp q = (((s.quiet.taken f rest).scorerClears o).forgetHistory o).outp q := fun q => by
    rw [ht.outp, hans.keeps.outp (by decide), hdone.outp]
  refine ⟨ht.answered hans.answered, ?source, ?blanked, ?cause, ?missRun, ?log, ?hist, ?run, fun q hq => ?other, ?keeps⟩
  case source =>
    rw [hregs _ (by apply checkEach o; decide) (by apply checkEach o; decide)]
    exact hre.source
  case blanked => exact (congrArg (· != 0) (hregs (.CMP_LV_OUT_BLANKED o) (by apply checkEach o; decide) (by apply checkEach o; decide))).trans hre.blanked
  case cause => exact (hregs _ (by apply checkEach o; decide) (by apply checkEach o; decide)).trans hre.cause
  case missRun => exact (hregs _ (by apply checkEach o; decide) (by apply checkEach o; decide)).trans hre.missRun
  case log => rw [ht.keeps.lastLog List.not_mem_nil, hans.keeps.lastLog (by decide), hdone.log]
  case hist => rw [houtp, hre.outp]
  case run => rw [houtp, hre.outp]
  case other =>
    rw [houtp, hre.other q hq, houtpTaken]
    rfl
  case keeps => exact hframe.trans (ht.keeps.widen (List.nil_subset _) (fun _ ha => List.mem_append_left _ (List.mem_append_left _ ha)))

end Sys2Proof.Machine
end

section
/-!
PROOF. The rows of a refused RESTART_OUTPUT, RESYNC and AUDIO_MUTE (R139, R158, R334), for O42.
-/

namespace Sys2Proof.Machine

open Sys2Proof

/-- A command that answers and does nothing else. -/
theorem AtHand.answer_only {f : InFrame} {rest : List InFrame} {code : Nat} {s : State} (h : AtHand f rest (s.quiet.taken f rest)) (hc : code < 256)
    (p : List Byte) : AnswerKeeps f rest code p s ((s.quiet.taken f rest).answer (frameHdr f.origin f.bytes) code p) :=
  ⟨(h.answer hc p).answered, (h.answer hc p).frame (Keeps.refl [] (only []) _) (fun _ => id) (List.nil_subset _) (fun _ => id)⟩

/-- Such a command, its row settling FAULT_N. -/
theorem AnswerKeeps.settled {f : InFrame} {rest : List InFrame} {code : Nat} {p : List Byte} {s u t : State} (h : AnswerKeeps f rest code p s u)
    (ht : Settled u t) : Answered f rest code p t ∧ Keeps [.cmd, .fab] (only (faultRegs ++ answerRegs)) s t :=
  ⟨ht.answered h.answered, (h.keeps.widen (fun _ => id) (List.subset_append_right ..)).trans
    (ht.keeps.widen (List.nil_subset _) (List.subset_append_left ..))⟩

theorem gives_restart_refused {f : InFrame} {rest : List InFrame} {o : Fin 16} {s : State} (hu : s.up) (hf : s.cmd.fifo = f :: rest)
    (ha : s.admits 0x30 f = true) (hb : bitOf (s.get (.OUT_STATUS_BLANK_SRC o)) 0 = false ∨ s.sco.hard = true) :
    Gives (.restartOutput o) s fun t => Answered f rest stSTATE [] t ∧ Keeps [.cmd, .fab] (only (faultRegs ++ answerRegs)) s t := by
  refine gives_settled (·.cmdRestart o) hu rfl fun t ht => ?_
  obtain ⟨-, hat, htaken⟩ := State.command_admitted (s := s.quiet) hf ha (by decide) (by decide)
  have hrefused : bitOf ((s.quiet.taken f rest).get (.OUT_STATUS_BLANK_SRC o)) 0 = false ∨ (s.quiet.taken f rest).sco.hard = true := by
    rw [htaken.get _ List.not_mem_nil, show (s.quiet.taken f rest).sco = s.quiet.sco from htaken.same (p := .sco) (by decide)]
    exact hb
  rw [State.cmdRestart, decide_eq_true o.isLt, State.operate_admitted (s := s.quiet) hf ha (by decide) (by decide),
    State.restartOutput_refused hrefused] at ht
  exact (hat.answer_only (code := stSTATE) (by decide) []).settled ht

theorem gives_restart_range {f : InFrame} {rest : List InFrame} {o : Nat} {s : State} (hu : s.up) (hf : s.cmd.fifo = f :: rest)
    (ha : s.admits 0x30 f = true) (ho : 16 ≤ o) :
    Gives (.restartOutput o) s fun t => Answered f rest stRANGE [] t ∧ Keeps [.cmd, .fab] (only (faultRegs ++ answerRegs)) s t := by
  refine gives_settled (·.cmdRestart o) hu rfl fun t ht => ?_
  obtain ⟨-, hat, -⟩ := State.command_admitted (s := s.quiet) hf ha (by decide) (by decide)
  rw [State.cmdRestart, decide_eq_false (Nat.not_lt.mpr ho), State.operate_range (s := s.quiet) hf ha (by decide) (by decide)] at ht
  exact (hat.answer_only (by decide) []).settled ht

/-- RESYNC answers with its code. -/
theorem State.cmdResync_admitted {s : State} {f : InFrame} {rest : List InFrame} (hf : s.cmd.fifo = f :: rest) (ha : s.admits 0x31 f = true) :
    s.cmdResync = (s.taken f rest).resyncGo.answer (frameHdr f.origin f.bytes) ((s.taken f rest).resyncGo.get .OUT_RESYNC_CODE) [] :=
  State.operate_admitted hf ha (by decide) (by decide) _

theorem State.resyncGo_code (s : State) : s.resyncGo.get .OUT_RESYNC_CODE = s.resyncCode % 2 ^ 8 := by
  have hset : (s.set .OUT_RESYNC_CODE s.resyncCode).get .OUT_RESYNC_CODE = s.resyncCode % 2 ^ 8 := State.get_set_self _ _ rfl
  rw [State.resyncGo_eq]
  split
  · exact hset
  · exact hset

theorem gives_resync_refused {f : InFrame} {rest : List InFrame} {s : State} (hu : s.up) (hf : s.cmd.fifo = f :: rest)
    (ha : s.admits 0x31 f = true) (hr : s.on .OUT_REF_STATUS_REF_RATE = false) : Gives .resync s fun t =>
    Answered f rest stSTATE [] t ∧ t.get .OUT_RESYNC_CODE = stSTATE
      ∧ Keeps [.cmd, .fab] (only (faultRegs ++ answerRegs ++ [Reg.OUT_RESYNC])) s t := by
  refine gives_settled (·.cmdResync) hu rfl fun t ht => ?_
  obtain ⟨-, hat, htaken⟩ := State.command_admitted (s := s.quiet) hf ha (by decide) (by decide)
  have hcode := State.resyncCode_state ((htaken.on .OUT_REF_STATUS_REF_RATE List.not_mem_nil).trans hr)
  have hgo : (s.quiet.taken f rest).resyncGo = (s.quiet.taken f rest).set .OUT_RESYNC_CODE 2 := by
    rw [State.resyncGo_eq, hcode]
    exact if_neg (by decide)
  have hshown : (s.quiet.taken f rest).resyncGo.get .OUT_RESYNC_CODE = stSTATE := by rw [State.resyncGo_code, hcode]; rfl
  have hset : Keeps [] (only [Reg.OUT_RESYNC]) (s.quiet.taken f rest) (s.quiet.taken f rest).resyncGo := by
    rw [hgo]
    exact (Keeps.refl _ _ _).set .OUT_RESYNC_CODE 2 List.mem_cons_self
  rw [State.cmdResync_admitted (s := s.quiet) hf ha, hshown] at ht
  generalize (s.quiet.taken f rest).resyncGo = u at ht hshown hset
  have hans := (hat.keep hset (by decide)).answer (code := stSTATE) (by decide) []
  have hframe := hans.frame (qs := [.cmd, .fab]) (bs := faultRegs ++ answerRegs ++ [Reg.OUT_RESYNC]) hset
    (fun _ => id) (List.subset_append_right ..) (fun _ ha => List.mem_append_left _ (List.mem_append_right _ ha))
  refine ⟨ht.answered hans.answered, ?_, hframe.trans (ht.keeps.widen (List.nil_subset _) fun _ ha => List.mem_append_left _ (List.mem_append_left _ ha))⟩
  rw [ht.get _ (by decide), hans.keeps.get _ (by decide), hshown]

theorem Keeps.measured {ps : List Part} {W : Nat → Prop} {s t : State} (h : Keeps ps W s t) (hd : .dealer ∉ ps) (ht : .time ∉ ps) :
    t.measured = s.measured :=
  State.measured_congr (congrArg Dealer.pulses (h.same (p := .dealer) hd)) (congrArg TimeSt.now (h.same (p := .time) ht))

theorem gives_resync_requested {f : InFrame} {rest : List InFrame} {s : State} (hu : s.up) (hf : s.cmd.fifo = f :: rest)
    (ha : s.admits 0x31 f = true) (hr : s.on .OUT_REF_STATUS_REF_RATE = true) (hm : s.measured = some s.pTick) (hp : 0 ≤ s.pTick) :
    Gives .resync s fun t => Answered f rest stOK [] t ∧ t.get .OUT_RESYNC_CODE = stOK ∧ t.dealer = { s.dealer with resyncReq := true }
      ∧ Keeps [.cmd, .fab, .dealer] (only (faultRegs ++ answerRegs ++ [Reg.OUT_RESYNC])) s t := by
  refine gives_settled (·.cmdResync) hu rfl fun t ht => ?_
  obtain ⟨-, hat, htaken⟩ := State.command_admitted (s := s.quiet) hf ha (by decide) (by decide)
  have hnear : absQ (s.pTick - s.pTick) ≤ s.pTick * 3 / 1000 := by
    rw [sub_self, absQ]
    simp only [lt_irrefl, if_false]
    positivity
  have hpTick : (s.quiet.taken f rest).pTick = s.pTick := htaken.pTick List.not_mem_nil List.not_mem_nil
  have hcode : (s.quiet.taken f rest).resyncCode = 0 :=
    State.resyncCode_ok ((htaken.on .OUT_REF_STATUS_REF_RATE List.not_mem_nil).trans hr)
      ((htaken.measured (by decide) (by decide)).trans hm) (by rw [hpTick]; exact hnear)
  have hgo : (s.quiet.taken f rest).resyncGo
      = ((s.quiet.taken f rest).set .OUT_RESYNC_CODE 0).updDealer fun d => { d with resyncReq := true } := by
    rw [State.resyncGo_eq, hcode]
    exact if_pos rfl
  have hshown : (s.quiet.taken f rest).resyncGo.get .OUT_RESYNC_CODE = stOK := by rw [State.resyncGo_code, hcode]; rfl
  have hset : Keeps [.dealer] (only [Reg.OUT_RESYNC]) (s.quiet.taken f rest) (s.quiet.taken f rest).resyncGo := by
    rw [hgo]
    exact ((Keeps.refl _ _ _).set .OUT_RESYNC_CODE 0 List.mem_cons_self).updDealer _ List.mem_cons_self
  have hdealer : (s.quiet.taken f rest).resyncGo.dealer = { s.dealer with resyncReq := true } := by
    have hkept : (s.quiet.taken f rest).dealer = s.quiet.dealer := htaken.same (p := .dealer) (by decide)
    rw [hgo, State.updDealer_dealer, State.set_dealer, hkept]
    rfl
  rw [State.cmdResync_admitted (s := s.quiet) hf ha, hshown] at ht
  generalize (s.quiet.taken f rest).resyncGo = u at ht hshown hset hdealer
  have hans := (hat.keep hset (by decide)).answer (code := stOK) (by decide) []
  have hframe := hans.frame (qs := [.cmd, .fab, .dealer]) (bs := faultRegs ++ answerRegs ++ [Reg.OUT_RESYNC]) hset
    (fun _ => id) (List.subset_append_right ..) (fun _ ha => List.mem_append_left _ (List.mem_append_right _ ha))
  have hanswered : (u.answer (frameHdr f.origin f.bytes) stOK []).dealer = u.dealer := State.answer_dealer ..
  have hsettled : t.dealer = (u.answer (frameHdr f.origin f.bytes) stOK []).dealer := ht.keeps.same (p := .dealer) (by decide)
  refine ⟨ht.answered hans.answered, ?_, by rw [hsettled, hanswered, hdealer],
    hframe.trans (ht.keeps.widen (List.nil_subset _) fun _ ha => List.mem_append_left _ (List.mem_append_left _ ha))⟩
  rw [ht.get _ (by decide), hans.keeps.get _ (by decide), hshown]

/-! ### The rows of AUDIO_MUTE -/

theorem gives_audioMute {f : InFrame} {rest : List InFrame} {p : Fin 8} (v : Bool) {s : State} (hu : s.up) (hf : s.cmd.fifo = f :: rest)
    (ha : s.admits 0x34 f = true) : Gives (.audioMute p v) s fun t => Answered f rest stOK [] t ∧ t.on (.AUD_P_CTRL_MUTE p) = v
      ∧ Keeps [.cmd, .fab] (only (Reg.AUD_P_CTRL p :: answerRegs)) s t := by
  refine gives_awake (·.cmdMute p v) hu rfl ?_
  obtain ⟨-, hat, -⟩ := State.command_admitted (s := s.quiet) hf ha (by decide) (by decide)
  rw [State.cmdMute, decide_eq_true p.isLt, State.operate_admitted (s := s.quiet) hf ha (by decide) (by decide)]
  have hmute : ((s.quiet.taken f rest).muteWrite p v).on (.AUD_P_CTRL_MUTE p) = v := State.on_setB _ _ rfl rfl
  have hset : Keeps [] (only [Reg.AUD_P_CTRL p]) (s.quiet.taken f rest) ((s.quiet.taken f rest).muteWrite p v) :=
    (Keeps.refl _ _ _).setB (.AUD_P_CTRL_MUTE p) v List.mem_cons_self
  dsimp only
  generalize (s.quiet.taken f rest).muteWrite p v = u at hmute hset ⊢
  have hans := (hat.keep hset (by decide)).answer (code := stOK) (by decide) []
  refine ⟨hans.answered, ?_, hans.frame hset (fun _ => id) (by simp) (List.subset_cons_self ..)⟩
  rw [hans.keeps.on _ (by apply checkEach p; decide), hmute]

theorem gives_audioMute_range {f : InFrame} {rest : List InFrame} {p : Nat} (v : Bool) {s : State} (hu : s.up) (hf : s.cmd.fifo = f :: rest)
    (ha : s.admits 0x34 f = true) (hp : 8 ≤ p) :
    Gives (.audioMute p v) s fun t => Answered f rest stRANGE [] t ∧ Keeps [.cmd, .fab] (only answerRegs) s t := by
  refine gives_awake (·.cmdMute p v) hu rfl ?_
  obtain ⟨-, hat, -⟩ := State.command_admitted (s := s.quiet) hf ha (by decide) (by decide)
  rw [State.cmdMute, decide_eq_false (Nat.not_lt.mpr hp), State.operate_range (s := s.quiet) hf ha (by decide) (by decide)]
  have hans := hat.answer_only (code := stRANGE) (by decide) []
  exact ⟨hans.answered, hans.keeps⟩

end Sys2Proof.Machine
end

section
/-!
SUPPORT. ENCODE_CTRL (R205, R209, R211) and KEY_REQUEST (R187, R201), for O42.
-/

namespace Sys2Proof.Machine

open Sys2Proof

theorem Keeps.word {ps : List Part} {W : Nat → Prop} {s t : State} (h : Keeps ps W s t) {a : Nat} (hw : ¬ W a) : t.word a = s.word a := h.2.2 a hw

theorem Keeps.updEnc {ps : List Part} {W : Nat → Prop} {s t : State} (h : Keeps ps W s t) (e : Nat) (f : EncSt → EncSt) (hp : .encs ∈ ps) :
    Keeps ps W s (t.updEnc e f) :=
  h.part rfl rfl fun p hn => by
    cases p
    case encs => exact absurd hp hn
    all_goals rfl

/-! ### The operations of ENC_CMD (R205, R211) -/

/-- An answer of ENC_CMD stands in its registers. -/
theorem State.encAnswer_spec (s : State) {code : Nat} (hc : code < 256) (reason : Nat) : (s.encAnswer code reason).get .ENC_CMD_STATUS_CODE = code
    ∧ (s.encAnswer code reason).on .ENC_INT_STATUS_CMD_DONE = true
    ∧ Keeps [] (only [Reg.ENC_CMD_STATUS, Reg.ENC_INT_STATUS]) s (s.encAnswer code reason) := by
  unfold State.encAnswer
  refine ⟨?_, State.on_setB _ _ rfl rfl, ?_⟩
  · refine (State.get_set_other _ _ rfl).trans ((State.get_set_other _ _ rfl).trans ((State.get_set_other _ _ rfl).trans ?_))
    exact State.get_set_fits _ rfl (wid := 8) rfl hc
  · exact ((((Keeps.refl _ _ s).set .ENC_CMD_STATUS_CODE code List.mem_cons_self).set .ENC_CMD_STATUS_REASON reason List.mem_cons_self).setB
      .ENC_CMD_STATUS_BUSY false List.mem_cons_self).setB .ENC_INT_STATUS_CMD_DONE true (by simp [Fld.ENC_INT_STATUS_CMD_DONE])

/-- ENC_CMD shows stream and operation. -/
def State.encShow (s : State) (e op : Nat) : State := (s.set .ENC_CMD_STREAM e).set .ENC_CMD_OP op

theorem State.encShow_spec (s : State) (e : Fin 32) {op : Nat} (ho : op < 8) : (s.encShow e op).get .ENC_CMD_STREAM = e
    ∧ (s.encShow e op).get .ENC_CMD_OP = op ∧ Keeps [] (only [Reg.ENC_CMD]) s (s.encShow e op) :=
  ⟨(State.get_set_other _ _ rfl).trans (State.get_set_fits _ rfl (wid := 5) rfl e.isLt), State.get_set_fits _ rfl (wid := 3) rfl ho,
    ((Keeps.refl _ _ s).set .ENC_CMD_STREAM e List.mem_cons_self).set .ENC_CMD_OP op List.mem_cons_self⟩

/-- A key request of a stream is recorded. -/
theorem State.keyRequest_spec (s : State) (e : Fin 32) : (s.keyRequest e).on (.ENC_ST_STATE_KEY_PENDING e) = true
    ∧ (s.keyRequest e).get (.ENC_ST_KEYS_REQUESTS e) = satAdd (Fld.ENC_ST_KEYS_REQUESTS e).wid (s.get (.ENC_ST_KEYS_REQUESTS e)) 1
    ∧ Keeps [.encs] (only [Reg.ENC_ST_KEYS e, Reg.ENC_ST_STATE e]) s (s.keyRequest e) := by
  unfold State.keyRequest
  have hpending : ((s.count (.ENC_ST_KEYS_REQUESTS e)).setB (.ENC_ST_STATE_KEY_PENDING e) true).on (.ENC_ST_STATE_KEY_PENDING e) = true :=
    State.on_setB _ _ rfl rfl
  have hcount : ((s.count (.ENC_ST_KEYS_REQUESTS e)).setB (.ENC_ST_STATE_KEY_PENDING e) true).get (.ENC_ST_KEYS_REQUESTS e)
      = satAdd (Fld.ENC_ST_KEYS_REQUESTS e).wid (s.get (.ENC_ST_KEYS_REQUESTS e)) 1 :=
    (State.get_set_other _ _ (by apply checkEach e; decide)).trans (State.get_count_self s rfl)
  have hset := ((Keeps.refl [.encs] (only [Reg.ENC_ST_KEYS e, Reg.ENC_ST_STATE e]) s).count (.ENC_ST_KEYS_REQUESTS e) List.mem_cons_self).setB
    (.ENC_ST_STATE_KEY_PENDING e) true (by simp [Fld.ENC_ST_STATE_KEY_PENDING])
  dsimp only
  generalize (s.count (.ENC_ST_KEYS_REQUESTS e)).setB (.ENC_ST_STATE_KEY_PENDING e) true = u at hpending hcount hset ⊢
  split
  case isTrue =>
    have hlate : Keeps [.encs] (only []) u (u.updEnc e fun x => { x with lateReq := true }) := (Keeps.refl _ _ u).updEnc _ _ List.mem_cons_self
    exact ⟨(hlate.on _ List.not_mem_nil).trans hpending, (hlate.get _ List.not_mem_nil).trans hcount,
      hset.trans (hlate.widen (fun _ => id) (List.nil_subset _))⟩
  case isFalse => exact ⟨hpending, hcount, hset⟩

theorem State.encCmd_key {s : State} {e : Nat} (h : (s.encShow e 3).encRuns e = true) :
    s.encCmd e 3 = ((s.encShow e 3).keyRequest e).encAnswer stOK 0 := if_pos h

theorem State.encCmd_keyRefused {s : State} {e : Nat} (h : (s.encShow e 3).encRuns e = false) : s.encCmd e 3 = (s.encShow e 3).encAnswer stSTATE 0 :=
  if_neg fun hr => Bool.false_ne_true (h.symm.trans hr)

/-- The change that a START of stream `e` makes. -/
def State.encStartChange (s : State) (e : Nat) : Change :=
  { id := s.dealer.nextChange, kind := .encStart e, stage := .waiting, place := [], dueTick := s.tick + 1 }

/-- A change is handed to the Dealer. -/
def State.encHand (s : State) (c : Change) : State :=
  ((s.updDealer fun d => { d with changes := d.changes ++ [c], nextChange := d.nextChange + 1 }).showPending).setB .ENC_CMD_STATUS_BUSY true

theorem State.encCmd_start {s : State} {e : Nat} (hd : (s.encShow e 1).dealing = true) (hl : (s.encShow e 1).dealer.changes.length < 4) :
    s.encCmd e 1 = (s.encShow e 1).encHand ((s.encShow e 1).encStartChange e) := by
  show (s.encShow e 1).encChange (.encStart e) = _
  unfold State.encChange
  dsimp only
  rw [if_neg (by rw [hd]; decide), if_neg (Nat.not_le.mpr hl)]
  rfl

theorem State.encHand_spec (s : State) (c : Change) : (s.encHand c).on .ENC_CMD_STATUS_BUSY = true
    ∧ (s.encHand c).dealer = { s.dealer with changes := s.dealer.changes ++ [c], nextChange := s.dealer.nextChange + 1 }
    ∧ Keeps [.dealer] (only [Reg.DLR_STATUS, Reg.ENC_CMD_STATUS]) s (s.encHand c) := by
  unfold State.encHand State.showPending
  refine ⟨State.on_setB _ _ rfl rfl, ?_, ?_⟩
  · rw [State.setB, State.set_dealer, State.set_dealer, State.updDealer_dealer]
  · exact (((Keeps.refl _ _ s).updDealer _ List.mem_cons_self).set .DLR_STATUS_PENDING _ List.mem_cons_self).setB .ENC_CMD_STATUS_BUSY true
      (by simp [Fld.ENC_CMD_STATUS_BUSY])

/-- A command runs on, its answer to come. -/
def State.runsOn (s : State) (r : CmdRun) : State := s.updCmd fun c => { c with runs := c.runs ++ [r] }

theorem State.runsOn_spec (s : State) (r : CmdRun) : (s.runsOn r).cmd.fifo = s.cmd.fifo ∧ (s.runsOn r).cmd.runs = s.cmd.runs ++ [r]
    ∧ Keeps [.cmd] (only []) s (s.runsOn r) := by
  unfold State.runsOn
  rw [State.updCmd_cmd]
  exact ⟨rfl, rfl, (Keeps.refl _ _ s).updCmd _ List.mem_cons_self⟩

/-- ENCODE_CTRL, its frame admitted. -/
theorem State.cmdEncode_admitted {s : State} {f : InFrame} {rest : List InFrame} (hf : s.cmd.fifo = f :: rest) (ha : s.admits 0x33 f = true) (e op : Nat) :
    s.cmdEncode e op = if 32 ≤ e ∨ op < 1 ∨ 3 < op then (s.taken f rest).answer (frameHdr f.origin f.bytes) stRANGE []
      else if ((s.taken f rest).encCmd e op).dealer.nextChange = (s.taken f rest).dealer.nextChange then
        ((s.taken f rest).encCmd e op).answer (frameHdr f.origin f.bytes) (((s.taken f rest).encCmd e op).get .ENC_CMD_STATUS_CODE)
          (leBytes 4 (((s.taken f rest).encCmd e op).word Reg.ENC_CMD_STATUS).toNat)
      else ((s.taken f rest).encCmd e op).runsOn
        { hdr := frameHdr f.origin f.bytes, act := .encode e, stage := .change (s.taken f rest).dealer.nextChange } := by
  unfold State.cmdEncode
  rw [(State.command_admitted hf ha (by decide) (by decide)).1]
  rfl

theorem gives_encode_range {f : InFrame} {rest : List InFrame} {e op : Nat} {s : State} (hu : s.up) (hf : s.cmd.fifo = f :: rest)
    (ha : s.admits 0x33 f = true) (hr : 32 ≤ e ∨ op < 1 ∨ 3 < op) :
    Gives (.encodeCtrl e op) s fun t => Answered f rest stRANGE [] t ∧ Keeps [.cmd, .fab] (only answerRegs) s t := by
  refine gives_awake (·.cmdEncode e op) hu rfl ?_
  obtain ⟨-, hat, -⟩ := State.command_admitted (s := s.quiet) hf ha (by decide) (by decide)
  rw [State.cmdEncode_admitted (s := s.quiet) hf ha, if_pos hr]
  have hans := hat.answer_only (code := stRANGE) (by decide) []
  exact ⟨hans.answered, hans.keeps⟩

/-- A KEY of a stream that runs. -/
theorem gives_encode_key {f : InFrame} {rest : List InFrame} {e : Fin 32} {s : State} (hu : s.up) (hf : s.cmd.fifo = f :: rest)
    (ha : s.admits 0x33 f = true) (hr : s.encRuns e = true) : Gives (.encodeCtrl e 3) s fun t =>
    Answered f rest stOK (leBytes 4 (t.word Reg.ENC_CMD_STATUS).toNat) t ∧ t.get .ENC_CMD_STATUS_CODE = stOK
      ∧ t.on (.ENC_ST_STATE_KEY_PENDING e) = true
      ∧ t.get (.ENC_ST_KEYS_REQUESTS e) = satAdd (Fld.ENC_ST_KEYS_REQUESTS e).wid (s.get (.ENC_ST_KEYS_REQUESTS e)) 1
      ∧ t.get .ENC_CMD_STREAM = e ∧ t.get .ENC_CMD_OP = 3 ∧ t.on .ENC_INT_STATUS_CMD_DONE = true
      ∧ Keeps [.cmd, .fab, .encs]
        (only ([Reg.ENC_CMD, Reg.ENC_CMD_STATUS, Reg.ENC_INT_STATUS, Reg.ENC_ST_KEYS e, Reg.ENC_ST_STATE e] ++ answerRegs)) s t := by
  refine gives_awake (·.cmdEncode e 3) hu rfl ?_
  obtain ⟨-, hat, htaken⟩ := State.command_admitted (s := s.quiet) hf ha (by decide) (by decide)
  obtain ⟨hstream, hop, hshow⟩ := (s.quiet.taken f rest).encShow_spec e (op := 3) (by decide)
  have hruns : ((s.quiet.taken f rest).encShow e 3).encRuns e = true :=
    (hshow.on (.ENC_ST_STATE_RUNNING e) (by apply checkEach e; decide)).trans ((htaken.on _ List.not_mem_nil).trans hr)
  rw [State.cmdEncode_admitted (s := s.quiet) hf ha, if_neg (by omega), State.encCmd_key hruns]
  have hrequests : ((s.quiet.taken f rest).encShow e 3).get (.ENC_ST_KEYS_REQUESTS e) = s.get (.ENC_ST_KEYS_REQUESTS e) :=
    (hshow.get _ (by apply checkEach e; decide)).trans (htaken.get _ List.not_mem_nil)
  generalize (s.quiet.taken f rest).encShow e 3 = u at hstream hop hshow hrequests ⊢
  obtain ⟨hpending, hcount, hkey⟩ := u.keyRequest_spec e
  generalize u.keyRequest e = v at hpending hcount hkey ⊢
  obtain ⟨hcode, hdone, hend⟩ := v.encAnswer_spec (code := stOK) (by decide) 0
  generalize v.encAnswer stOK 0 = w at hcode hdone hend ⊢
  have hall := ((hshow.widen (qs := [.encs]) (bs := [Reg.ENC_CMD, Reg.ENC_CMD_STATUS, Reg.ENC_INT_STATUS, Reg.ENC_ST_KEYS e, Reg.ENC_ST_STATE e])
    (List.nil_subset _) (by simp)).trans (hkey.widen (fun _ => id) (by simp))).trans (hend.widen (List.nil_subset _) (by simp))
  have hdealer : w.dealer = (s.quiet.taken f rest).dealer := hall.same (p := .dealer) (by decide)
  rw [if_pos (congrArg Dealer.nextChange hdealer), hcode]
  have hans := (hat.keep hall (by decide)).answer (code := stOK) (by decide) (leBytes 4 (w.word Reg.ENC_CMD_STATUS).toNat)
  have hframe := hans.frame (qs := [.cmd, .fab, .encs]) hall (fun _ => id) (List.subset_append_left _ answerRegs) (List.subset_append_right ..)
  generalize w.answer (frameHdr f.origin f.bytes) stOK (leBytes 4 (w.word Reg.ENC_CMD_STATUS).toNat) = t at hans hframe ⊢
  refine ⟨?answered, ?shownCode, ?pending, ?count, ?shownStream, ?shownOp, (hans.keeps.on _ (by decide)).trans hdone, hframe⟩
  case answered =>
    rw [hans.keeps.word (a := Reg.ENC_CMD_STATUS) (by decide)]
    exact hans.answered
  case shownCode => exact (hans.keeps.get _ (by decide)).trans hcode
  case pending =>
    exact (hans.keeps.on _ (by apply checkEach e; decide)).trans ((hend.on _ (by apply checkEach e; decide)).trans hpending)
  case count =>
    rw [hans.keeps.get _ (by apply checkEach e; decide), hend.get _ (by apply checkEach e; decide), hcount, hrequests]
  case shownStream =>
    rw [hans.keeps.get _ (by decide), hend.get _ (by decide), hkey.get _ (by apply checkEach e; decide), hstream]
  case shownOp => rw [hans.keeps.get _ (by decide), hend.get _ (by decide), hkey.get _ (by apply checkEach e; decide), hop]

/-- A KEY of a stream that is stopped. -/
theorem gives_encode_keyRefused {f : InFrame} {rest : List InFrame} {e : Fin 32} {s : State} (hu : s.up) (hf : s.cmd.fifo = f :: rest)
    (ha : s.admits 0x33 f = true) (hr : s.encRuns e = false) : Gives (.encodeCtrl e 3) s fun t =>
    Answered f rest stSTATE (leBytes 4 (t.word Reg.ENC_CMD_STATUS).toNat) t ∧ t.get .ENC_CMD_STATUS_CODE = stSTATE
      ∧ Keeps [.cmd, .fab] (only ([Reg.ENC_CMD, Reg.ENC_CMD_STATUS, Reg.ENC_INT_STATUS] ++ answerRegs)) s t := by
  refine gives_awake (·.cmdEncode e 3) hu rfl ?_
  obtain ⟨-, hat, htaken⟩ := State.command_admitted (s := s.quiet) hf ha (by decide) (by decide)
  obtain ⟨-, -, hshow⟩ := (s.quiet.taken f rest).encShow_spec e (op := 3) (by decide)
  have hruns : ((s.quiet.taken f rest).encShow e 3).encRuns e = false :=
    (hshow.on (.ENC_ST_STATE_RUNNING e) (by apply checkEach e; decide)).trans ((htaken.on _ List.not_mem_nil).trans hr)
  rw [State.cmdEncode_admitted (s := s.quiet) hf ha, if_neg (by omega), State.encCmd_keyRefused hruns]
  generalize (s.quiet.taken f rest).encShow e 3 = u at hshow ⊢
  obtain ⟨hcode, -, hend⟩ := u.encAnswer_spec (code := stSTATE) (by decide) 0
  generalize u.encAnswer stSTATE 0 = w at hcode hend ⊢
  have hall := (hshow.widen (qs := []) (bs := [Reg.ENC_CMD, Reg.ENC_CMD_STATUS, Reg.ENC_INT_STATUS]) (List.nil_subset _) (by simp)).trans
    (hend.widen (List.nil_subset _) (by simp))
  have hdealer : w.dealer = (s.quiet.taken f rest).dealer := hall.same (p := .dealer) (by decide)
  rw [if_pos (congrArg Dealer.nextChange hdealer), hcode]
  have hans := (hat.keep hall (by decide)).answer (code := stSTATE) (by decide) (leBytes 4 (w.word Reg.ENC_CMD_STATUS).toNat)
  have hframe := hans.frame (qs := [.cmd, .fab]) hall (fun _ => id) (List.subset_append_left _ answerRegs) (List.subset_append_right ..)
  refine ⟨?_, (hans.keeps.get _ (by decide)).trans hcode, hframe⟩
  rw [hans.keeps.word (a := Reg.ENC_CMD_STATUS) (by decide)]
  exact hans.answered

/-- A START becomes a change, whose end answers. -/
theorem gives_encode_start {f : InFrame} {rest : List InFrame} {e : Fin 32} {s : State} (hu : s.up) (hf : s.cmd.fifo = f :: rest)
    (ha : s.admits 0x33 f = true) (hd : s.dealing = true) (hl : s.dealer.changes.length < 4) : Gives (.encodeCtrl e 1) s fun t =>
    t.on .ENC_CMD_STATUS_BUSY = true
      ∧ (∃ c, t.dealer = { s.dealer with changes := s.dealer.changes ++ [c], nextChange := s.dealer.nextChange + 1 }
        ∧ c.kind = .encStart e ∧ c.stage = .waiting ∧ c.dueTick = s.tick + 1 ∧ t.cmd.fifo = rest
        ∧ t.cmd.runs.map (·.stage) = (s.cmd.runs.map (·.stage)) ++ [.change c.id])
      ∧ Keeps [.cmd, .dealer] (only [Reg.ENC_CMD, Reg.ENC_CMD_STATUS, Reg.DLR_STATUS]) s t := by
  refine gives_awake (·.cmdEncode e 1) hu rfl ?_
  obtain ⟨-, hat, htaken⟩ := State.command_admitted (s := s.quiet) hf ha (by decide) (by decide)
  obtain ⟨-, -, hshow⟩ := (s.quiet.taken f rest).encShow_spec e (op := 1) (by decide)
  have hdealerTaken : (s.quiet.taken f rest).dealer = s.quiet.dealer := htaken.same (p := .dealer) (by decide)
  have hdealerShow : ((s.quiet.taken f rest).encShow e 1).dealer = (s.quiet.taken f rest).dealer := hshow.same (p := .dealer) (by decide)
  have hdealer : ((s.quiet.taken f rest).encShow e 1).dealer = s.dealer := by rw [hdealerShow, hdealerTaken, State.quiet_dealer]
  have hdealing : ((s.quiet.taken f rest).encShow e 1).dealing = true := by
    rw [State.dealing, hshow.devState (by decide), htaken.devState List.not_mem_nil, State.quiet_devState]
    exact hd
  have htick : ((s.quiet.taken f rest).encShow e 1).tick = s.tick := by
    rw [State.tick, hshow.word (a := Reg.DLR_TICK_COUNT) (by decide), htaken.word (a := Reg.DLR_TICK_COUNT) List.not_mem_nil, State.quiet_word,
      State.tick]
  have hid : (s.quiet.taken f rest).dealer.nextChange = s.dealer.nextChange := by rw [hdealerTaken, State.quiet_dealer]
  have hcmd : ((s.quiet.taken f rest).encShow e 1).cmd = (s.quiet.taken f rest).cmd := hshow.same (p := .cmd) (by decide)
  have hstages : ((s.quiet.taken f rest).cmd.runs.map (·.stage)) = s.cmd.runs.map (·.stage) := s.quiet.taken_stages f rest
  rw [State.cmdEncode_admitted (s := s.quiet) hf ha, if_neg (by omega), State.encCmd_start hdealing (by rw [hdealer]; exact hl)]
  have hchange : ((s.quiet.taken f rest).encShow e 1).encStartChange e
      = { id := s.dealer.nextChange, kind := .encStart e, stage := .waiting, place := [], dueTick := s.tick + 1 } := by
    rw [State.encStartChange, hdealer, htick]
  rw [hchange, hid]
  have hfifo := hat.fifo
  generalize (s.quiet.taken f rest).encShow e 1 = u at hshow hdealer hcmd ⊢
  obtain ⟨hbusy, hhand, hkeep⟩ :=
    u.encHand_spec { id := s.dealer.nextChange, kind := .encStart e, stage := .waiting, place := [], dueTick := s.tick + 1 }
  generalize u.encHand { id := s.dealer.nextChange, kind := .encStart e, stage := .waiting, place := [], dueTick := s.tick + 1 } = v
    at hbusy hhand hkeep ⊢
  rw [hdealer] at hhand
  have hnext : v.dealer.nextChange = s.dealer.nextChange + 1 := congrArg Dealer.nextChange hhand
  have hkept : v.cmd = u.cmd := hkeep.same (p := .cmd) (by decide)
  have hcmdV : v.cmd = (s.quiet.taken f rest).cmd := hkept.trans hcmd
  rw [if_neg (by omega)]
  obtain ⟨hsame, hruns, hrun⟩ := v.runsOn_spec { hdr := frameHdr f.origin f.bytes, act := .encode e, stage := .change s.dealer.nextChange }
  generalize v.runsOn { hdr := frameHdr f.origin f.bytes, act := .encode e, stage := .change s.dealer.nextChange } = t at hsame hruns hrun ⊢
  have hdone : t.dealer = v.dealer := hrun.same (p := .dealer) (by decide)
  have hall := ((Keeps.quiet [.cmd, .dealer] (only [Reg.ENC_CMD, Reg.ENC_CMD_STATUS, Reg.DLR_STATUS]) s).trans
    (htaken.widen (by simp) (List.nil_subset _))).trans ((hshow.widen (List.nil_subset _) (by simp)).trans (hkeep.widen (by simp) (by simp)))
  refine ⟨(hrun.on _ List.not_mem_nil).trans hbusy,
    ⟨{ id := s.dealer.nextChange, kind := .encStart e, stage := .waiting, place := [], dueTick := s.tick + 1 },
      hdone.trans hhand, rfl, rfl, rfl, ?fifo, ?stages⟩, hall.trans (hrun.widen (by simp) (List.nil_subset _))⟩
  case fifo => rw [hsame, hcmdV, hfifo]
  case stages => rw [hruns, hcmdV, List.map_append, hstages, List.map_cons, List.map_nil]

end Sys2Proof.Machine
end

section
/-!
SUPPORT. KEY_REQUEST (R187, R201), for O42.
-/

namespace Sys2Proof.Machine

open Sys2Proof

theorem Keeps.updCtx {ps : List Part} {W : Nat → Prop} {s t : State} (h : Keeps ps W s t) (c : Nat) (f : CtxSt → CtxSt) (hp : .ctxs ∈ ps) :
    Keeps ps W s (t.updCtx c f) :=
  h.part rfl rfl fun p hn => by
    cases p
    case ctxs => exact absurd hp hn
    all_goals rfl

/-- A register of a decode context. -/
def ctxReg (a : Nat) : Prop := 0x10052000 ≤ a ∧ a < 0x1005A000

theorem ctxReg_net (c : Fin 512) : ctxReg (Reg.DEC_CX_NET c) := by
  unfold ctxReg Reg.DEC_CX_NET
  omega

theorem ctxReg_err (c : Fin 512) : ctxReg (Reg.DEC_CX_ERR c) := by
  unfold ctxReg Reg.DEC_CX_ERR
  omega

theorem ctxReg_state (c : Fin 512) : ctxReg (Reg.DEC_CX_STATE c) := by
  unfold ctxReg Reg.DEC_CX_STATE
  omega

theorem ctxReg.notMem_cmd {a : Nat} (h : ctxReg a) : a ∉ [Reg.DEC_CMD, Reg.DEC_CMD_STATUS] := by
  obtain ⟨hlo, -⟩ := h
  simp only [List.mem_cons, List.not_mem_nil, or_false, Reg.DEC_CMD, Reg.DEC_CMD_STATUS]
  omega

theorem ctxReg.notMem_answer {a : Nat} (h : ctxReg a) : a ∉ answerRegs := fun hm => by
  have hfar : ∀ b ∈ answerRegs, b < 0x10052000 ∨ 0x1005A000 ≤ b := by decide
  have ha := hfar a hm
  obtain ⟨hlo, hhi⟩ := h
  omega

/-- DEC_CMD shows context and operation. -/
def State.decShow (s : State) (c op : Nat) : State := (s.set .DEC_CMD_CTX c).set .DEC_CMD_OP op

theorem State.decShow_spec (s : State) (c : Fin 512) {op : Nat} (ho : op < 8) : (s.decShow c op).get .DEC_CMD_CTX = c
    ∧ (s.decShow c op).get .DEC_CMD_OP = op ∧ Keeps [] (only [Reg.DEC_CMD]) s (s.decShow c op) :=
  ⟨(State.get_set_other _ _ rfl).trans (State.get_set_fits _ rfl (wid := 9) rfl c.isLt), State.get_set_fits _ rfl (wid := 3) rfl ho,
    ((Keeps.refl _ _ s).set .DEC_CMD_CTX c List.mem_cons_self).set .DEC_CMD_OP op List.mem_cons_self⟩

theorem State.decAnswer_spec (s : State) {code : Nat} (hc : code < 256) : (s.decAnswer code).get .DEC_CMD_STATUS_CODE = code
    ∧ Keeps [] (only [Reg.DEC_CMD_STATUS]) s (s.decAnswer code) :=
  ⟨(State.get_set_other _ _ rfl).trans (State.get_set_fits _ rfl (wid := 8) rfl hc),
    ((Keeps.refl _ _ s).set .DEC_CMD_STATUS_CODE code List.mem_cons_self).setB .DEC_CMD_STATUS_BUSY false List.mem_cons_self⟩

theorem State.decKeyReq_idle {s : State} (h : s.on .DEC_CMD_STATUS_BUSY = false) (c : Nat) :
    s.decKeyReq c = ((s.decShow c 3).keyReq c).1.decAnswer ((s.decShow c 3).keyReq c).2 := by
  unfold State.decKeyReq State.decGo
  rw [if_neg (by rw [h]; decide)]
  rfl

theorem State.keyReq_refused {s : State} {c : Nat} (h : s.get (.DEC_CX_NET_FB c) = 0) : s.keyReq c = (s, stSTATE) := if_neg fun hk => hk.2 h

theorem State.keyReq_sent {s : State} {c : Nat} (h : s.get (.DEC_CX_NET_FB c) = 1) (hs : s.ctxState c = cxWaitKey ∨ s.ctxState c = cxRunning) :
    s.keyReq c = (s.feedback c, stOK) := if_pos ⟨hs, by rw [h]; decide⟩

/-- A receiver report goes out through the Deck. -/
theorem Keeps.sendRtcp {ps : List Part} {W : Nat → Prop} {s t : State} (h : Keeps ps W s t) (c kind fir : Nat) (hn : .nets ∈ ps) (hc : .ctxs ∈ ps) :
    Keeps ps W s (t.sendRtcp c kind fir) := by
  unfold State.sendRtcp State.deckSend
  exact (h.updNet _ _ hn).updCtx _ _ hc

/-- A picture loss indication is counted and sent. -/
theorem State.feedback_spec {s : State} {c : Nat} (h : s.get (.DEC_CX_NET_FB c) = 1) :
    (s.feedback c).get (.DEC_CX_ERR_PLI_SENT c) = satAdd (Fld.DEC_CX_ERR_PLI_SENT c).wid (s.get (.DEC_CX_ERR_PLI_SENT c)) 1
    ∧ Keeps [.nets, .ctxs] (only [Reg.DEC_CX_ERR c]) s (s.feedback c) := by
  have hpli : s.feedback c = (s.count (.DEC_CX_ERR_PLI_SENT c)).sendRtcp c 1 (s.ctx c).fir := by
    unfold State.feedback
    rw [h]
    exact if_neg (by decide)
  have hcount : (s.count (.DEC_CX_ERR_PLI_SENT c)).get (.DEC_CX_ERR_PLI_SENT c) = satAdd (Fld.DEC_CX_ERR_PLI_SENT c).wid (s.get (.DEC_CX_ERR_PLI_SENT c)) 1 :=
    State.get_count_self s rfl
  have hset := (Keeps.refl [.nets, .ctxs] (only [Reg.DEC_CX_ERR c]) s).count (.DEC_CX_ERR_PLI_SENT c) List.mem_cons_self
  rw [hpli]
  generalize s.count (.DEC_CX_ERR_PLI_SENT c) = u at hcount hset ⊢
  have hsend : Keeps [.nets, .ctxs] (only []) u (u.sendRtcp c 1 (s.ctx c).fir) := (Keeps.refl _ _ u).sendRtcp _ _ _ (by simp) (by simp)
  exact ⟨(hsend.get _ List.not_mem_nil).trans hcount, hset.trans (hsend.widen (fun _ => id) (List.nil_subset _))⟩

/-- KEY_REQUEST, its frame admitted. -/
theorem State.cmdKeyRequest_admitted {s : State} {f : InFrame} {rest : List InFrame} (hf : s.cmd.fifo = f :: rest) (ha : s.admits 0x35 f = true) (c : Nat) :
    s.cmdKeyRequest c = if c < 512 then ((s.taken f rest).decKeyReq c).answer (frameHdr f.origin f.bytes)
        (((s.taken f rest).decKeyReq c).get .DEC_CMD_STATUS_CODE) (leBytes 4 (((s.taken f rest).decKeyReq c).word Reg.DEC_CMD_STATUS).toNat)
      else (s.taken f rest).answer (frameHdr f.origin f.bytes) stRANGE [] := by
  unfold State.cmdKeyRequest
  rw [(State.command_admitted hf ha (by decide) (by decide)).1]

theorem gives_keyRequest_range {f : InFrame} {rest : List InFrame} {c : Nat} {s : State} (hu : s.up) (hf : s.cmd.fifo = f :: rest)
    (ha : s.admits 0x35 f = true) (hc : 512 ≤ c) :
    Gives (.keyRequest c) s fun t => Answered f rest stRANGE [] t ∧ Keeps [.cmd, .fab] (only answerRegs) s t := by
  refine gives_awake (·.cmdKeyRequest c) hu rfl ?_
  obtain ⟨-, hat, -⟩ := State.command_admitted (s := s.quiet) hf ha (by decide) (by decide)
  rw [State.cmdKeyRequest_admitted (s := s.quiet) hf ha, if_neg (Nat.not_lt.mpr hc)]
  have hans := hat.answer_only (code := stRANGE) (by decide) []
  exact ⟨hans.answered, hans.keeps⟩

/-- A KEY_REQUEST of a context without feedback. -/
theorem gives_keyRequest_refused {f : InFrame} {rest : List InFrame} {c : Fin 512} {s : State} (hu : s.up) (hf : s.cmd.fifo = f :: rest)
    (ha : s.admits 0x35 f = true) (hb : s.on .DEC_CMD_STATUS_BUSY = false) (hfb : s.get (.DEC_CX_NET_FB c) = 0) : Gives (.keyRequest c) s fun t =>
    Answered f rest stSTATE (leBytes 4 (t.word Reg.DEC_CMD_STATUS).toNat) t ∧ t.get .DEC_CMD_STATUS_CODE = stSTATE ∧ t.get .DEC_CMD_CTX = c
      ∧ t.get .DEC_CMD_OP = 3 ∧ Keeps [.cmd, .fab] (only ([Reg.DEC_CMD, Reg.DEC_CMD_STATUS] ++ answerRegs)) s t := by
  refine gives_awake (·.cmdKeyRequest c) hu rfl ?_
  obtain ⟨-, hat, htaken⟩ := State.command_admitted (s := s.quiet) hf ha (by decide) (by decide)
  obtain ⟨hctx, hop, hshow⟩ := (s.quiet.taken f rest).decShow_spec c (op := 3) (by decide)
  have hnone : ((s.quiet.taken f rest).decShow c 3).get (.DEC_CX_NET_FB c) = 0 := by
    rw [hshow.get _ (fun hm => (ctxReg_net c).notMem_cmd (List.mem_cons.mpr (.inl (List.mem_singleton.mp hm)))), htaken.get _ List.not_mem_nil,
      State.quiet_get, hfb]
  rw [State.cmdKeyRequest_admitted (s := s.quiet) hf ha, if_pos c.isLt, State.decKeyReq_idle ((htaken.on _ List.not_mem_nil).trans hb),
    State.keyReq_refused hnone]
  dsimp only
  generalize (s.quiet.taken f rest).decShow c 3 = u at hctx hop hshow ⊢
  obtain ⟨hcode, hend⟩ := u.decAnswer_spec (code := stSTATE) (by decide)
  generalize u.decAnswer stSTATE = w at hcode hend ⊢
  rw [hcode]
  have hall := (hshow.widen (qs := []) (bs := [Reg.DEC_CMD, Reg.DEC_CMD_STATUS]) (List.nil_subset _) (by simp)).trans
    (hend.widen (List.nil_subset _) (by simp))
  have hans := (hat.keep hall (by decide)).answer (code := stSTATE) (by decide) (leBytes 4 (w.word Reg.DEC_CMD_STATUS).toNat)
  have hframe := hans.frame (qs := [.cmd, .fab]) hall (fun _ => id) (List.subset_append_left _ answerRegs) (List.subset_append_right ..)
  refine ⟨?_, (hans.keeps.get _ (by decide)).trans hcode, ?_, ?_, hframe⟩
  · rw [hans.keeps.word (a := Reg.DEC_CMD_STATUS) (by decide)]
    exact hans.answered
  · rw [hans.keeps.get _ (by decide), hend.get _ (by decide), hctx]
  · rw [hans.keeps.get _ (by decide), hend.get _ (by decide), hop]

/-- A KEY_REQUEST of a context with feedback sends a picture loss indication. -/
theorem gives_keyRequest_sent {f : InFrame} {rest : List InFrame} {c : Fin 512} {s : State} (hu : s.up) (hf : s.cmd.fifo = f :: rest)
    (ha : s.admits 0x35 f = true) (hb : s.on .DEC_CMD_STATUS_BUSY = false) (hfb : s.get (.DEC_CX_NET_FB c) = 1)
    (hs : s.ctxState c = cxWaitKey ∨ s.ctxState c = cxRunning) : Gives (.keyRequest c) s fun t =>
    Answered f rest stOK (leBytes 4 (t.word Reg.DEC_CMD_STATUS).toNat) t
      ∧ t.get (.DEC_CX_ERR_PLI_SENT c) = satAdd (Fld.DEC_CX_ERR_PLI_SENT c).wid (s.get (.DEC_CX_ERR_PLI_SENT c)) 1 ∧ MemoryFrame s t := by
  refine gives_awake (·.cmdKeyRequest c) hu rfl ?_
  have hmemory : MemoryFrame s (s.quiet.cmdKeyRequest c) := memoryFrame_of_stored (by rw [stored_cmdKeyRequest, stored_quiet])
  obtain ⟨-, hat, htaken⟩ := State.command_admitted (s := s.quiet) hf ha (by decide) (by decide)
  obtain ⟨-, -, hshow⟩ := (s.quiet.taken f rest).decShow_spec c (op := 3) (by decide)
  have hctx : ∀ g : Fld, ctxReg g.addr → ((s.quiet.taken f rest).decShow c 3).get g = s.get g := fun g hg => by
    rw [hshow.get _ (fun hm => hg.notMem_cmd (List.mem_cons.mpr (.inl (List.mem_singleton.mp hm)))), htaken.get _ List.not_mem_nil, State.quiet_get]
  have hone : ((s.quiet.taken f rest).decShow c 3).get (.DEC_CX_NET_FB c) = 1 := (hctx _ (ctxReg_net c)).trans hfb
  have hstate : ((s.quiet.taken f rest).decShow c 3).ctxState c = cxWaitKey ∨ ((s.quiet.taken f rest).decShow c 3).ctxState c = cxRunning := by
    rw [State.ctxState, hctx _ (ctxReg_state c)]
    exact hs
  have hpli := hctx (.DEC_CX_ERR_PLI_SENT c) (ctxReg_err c)
  rw [State.cmdKeyRequest_admitted (s := s.quiet) hf ha, if_pos c.isLt, State.decKeyReq_idle ((htaken.on _ List.not_mem_nil).trans hb),
    State.keyReq_sent hone hstate] at hmemory ⊢
  dsimp only at hmemory ⊢
  generalize (s.quiet.taken f rest).decShow c 3 = u at hshow hone hpli hmemory ⊢
  obtain ⟨hcount, hsend⟩ := State.feedback_spec hone
  generalize u.feedback c = v at hcount hsend hmemory ⊢
  obtain ⟨hcode, hend⟩ := v.decAnswer_spec (code := stOK) (by decide)
  generalize v.decAnswer stOK = w at hcode hend hmemory ⊢
  rw [hcode] at hmemory ⊢
  have hans := (((hat.keep hshow (by decide)).keep hsend (by decide)).keep hend (by decide)).answer (code := stOK) (by decide)
    (leBytes 4 (w.word Reg.DEC_CMD_STATUS).toNat)
  refine ⟨?_, ?_, hmemory⟩
  · rw [hans.keeps.word (a := Reg.DEC_CMD_STATUS) (by decide)]
    exact hans.answered
  · rw [hans.keeps.get _ (ctxReg_err c).notMem_answer, hend.get _ (fun hm => (ctxReg_err c).notMem_cmd (List.mem_cons_of_mem _ hm)), hcount, hpli]

end Sys2Proof.Machine
end

section
/-!
SUPPORT. A port's release-all and restart (R304, R313 to R315, R318, R319), for O42.
-/

namespace Sys2Proof.Machine

open Sys2Proof

theorem Keeps.updTch {ps : List Part} {W : Nat → Prop} {s t : State} (h : Keeps ps W s t) (p : Nat) (f : TouchSt → TouchSt) (hp : .touch ∈ ps) :
    Keeps ps W s (t.updTch p f) :=
  h.part rfl rfl fun q hn => by
    cases q
    case touch => exact absurd hp hn
    all_goals rfl

theorem State.updTch_self (s : State) (p : Nat) (f : TouchSt → TouchSt) : (s.updTch p f).tch p = f (s.tch p) :=
  (State.updTch_tch ..).trans (if_pos rfl)

theorem Keeps.tch {ps : List Part} {W : Nat → Prop} {s t : State} (h : Keeps ps W s t) (hp : .touch ∉ ps) (p : Nat) : t.tch p = s.tch p :=
  congrArg (Tab.get TouchSt.init · p) (h.same hp)

theorem State.get_lt (s : State) (f : Fld) : s.get f < 2 ^ f.wid := Nat.mod_lt _ (Nat.two_pow_pos _)

/-! ### The report ring (R314, R315) -/

/-- The words of the report ring of port `p`. -/
def ringRegs (p : Nat) : List Nat := (List.range 768).map fun k => Reg.TCH_RPT p 0 k

theorem mem_ringRegs {p r k : Nat} (hr : r < 16) (hk : k < 48) : Reg.TCH_RPT p r k ∈ ringRegs p := by
  refine List.mem_map.mpr ⟨48 * r + k, List.mem_range.mpr (by omega), ?_⟩
  unfold Reg.TCH_RPT
  omega

theorem ringRegs_above {p a : Nat} (h : a ∈ ringRegs p) : 0x10094000 ≤ a := by
  obtain ⟨k, -, rfl⟩ := List.mem_map.mp h
  unfold Reg.TCH_RPT
  omega

/-- A report of bytes `bs` stands in slot `r` of the ring. -/
def State.ringPut (s : State) (p r : Nat) (bs : List Byte) : State :=
  s.each (List.range 48) fun s k => s.setWord (Reg.TCH_RPT p r k) (BitVec.ofNat 32 (leNat ((bs.drop (4 * k)).take 4)))

theorem State.each_ringPut_keeps (p : Nat) {r : Nat} (hr : r < 16) (bs : List Byte) (ks : List Nat) : (∀ k ∈ ks, k < 48) → ∀ s : State,
    Keeps [] (only (ringRegs p)) s
      (s.each ks fun s k => s.setWord (Reg.TCH_RPT p r k) (BitVec.ofNat 32 (leNat ((bs.drop (4 * k)).take 4)))) := by
  induction ks with
  | nil => exact fun _ s => Keeps.refl _ _ s
  | cons k ks ih =>
    intro hk s
    have hput := (Keeps.refl [] (only (ringRegs p)) s).setWord (Reg.TCH_RPT p r k) (BitVec.ofNat 32 (leNat ((bs.drop (4 * k)).take 4)))
      (mem_ringRegs hr (hk k List.mem_cons_self))
    exact hput.trans (ih (fun j hj => hk j (List.mem_cons_of_mem _ hj)) _)

theorem State.ringPut_keeps (s : State) (p : Nat) {r : Nat} (hr : r < 16) (bs : List Byte) : Keeps [] (only (ringRegs p)) s (s.ringPut p r bs) :=
  State.each_ringPut_keeps p hr bs _ (fun _ hk => List.mem_range.mp hk) s

/-- The report of number `seq` stands in slot `r` of port `p`, not read. -/
def State.ringPosted (s : State) (p r seq : Nat) (bs : List Byte) : State :=
  (((((s.when ((s.tch p).unread.contains r) fun s => s.count (.TCH_P_CNT1_RPT_LOST p)).ringPut p r bs).set (.TCH_P_RPT_NEXT p) (r + 1)).set
    (.TCH_P_RPT_SEQ p) seq).updTch p fun x => { x with unread := x.unread.filter (· != r) ++ [r] }).hostVec 1

theorem ite_fst_elim {α β : Type} {c : Prop} [Decidable c] {P : α → Prop} {a b : α × β} (ha : P a.1) (hb : P b.1) : P (if c then a else b).1 := by
  split
  · exact ha
  · exact hb

/-- The Scorer's check of a report changes its own record of the port. -/
theorem State.scoTouch_spec (s : State) (p : Nat) (now : Time64) (bs : List Byte) : ((s.scoTouch p now bs).1.tch p).contacts = (s.tch p).contacts
    ∧ Keeps [.touch] (only []) s (s.scoTouch p now bs).1 := by
  have hupd : ∀ (q : Option Nat) (d : List (Nat × Time64)),
      ((s.updTch p fun x => { x with scoSeq := q, scoDown := d }).tch p).contacts = (s.tch p).contacts
      ∧ Keeps [.touch] (only []) s (s.updTch p fun x => { x with scoSeq := q, scoDown := d }) := fun q d =>
    ⟨by rw [State.updTch_self], (Keeps.refl _ _ s).updTch _ _ List.mem_cons_self⟩
  unfold State.scoTouch
  dsimp only
  exact ite_fst_elim (P := fun t : State => (t.tch p).contacts = (s.tch p).contacts ∧ Keeps [.touch] (only []) s t) (hupd none []) (hupd _ _)

/-- The registers that a report writes. -/
def reportRegs (p : Nat) : List Nat := [Reg.TCH_P_CNT1 p, Reg.TCH_P_RPT p, Reg.HST_INT_STATUS] ++ ringRegs p

/-- The effects of a report. -/
structure Reported (p : Fin 4) (s t : State) : Prop where
  contacts : (t.tch p).contacts = (s.tch p).contacts
  count : t.get (.TCH_P_CNT1_RELEASE_ALL p) = s.get (.TCH_P_CNT1_RELEASE_ALL p)
  keeps : Keeps [.touch] (only (reportRegs p)) s t

theorem State.ringCounted_spec (s : State) (p : Fin 4) (lost : Bool) :
    (s.when lost fun s => s.count (.TCH_P_CNT1_RPT_LOST p)).get (.TCH_P_CNT1_RELEASE_ALL p) = s.get (.TCH_P_CNT1_RELEASE_ALL p)
    ∧ Keeps [] (only [Reg.TCH_P_CNT1 p]) s (s.when lost fun s => s.count (.TCH_P_CNT1_RPT_LOST p)) := by
  cases lost
  · exact ⟨rfl, Keeps.refl _ _ s⟩
  · exact ⟨State.get_set_other _ _ rfl, (Keeps.refl _ _ s).count (.TCH_P_CNT1_RPT_LOST p) List.mem_cons_self⟩

theorem State.ringPosted_spec (s : State) (p : Fin 4) {r : Nat} (hr : r < 16) (seq : Nat) (bs : List Byte) :
    Reported p s (s.ringPosted p r seq bs) := by
  unfold State.ringPosted
  obtain ⟨hcount, hlost⟩ := s.ringCounted_spec p ((s.tch p).unread.contains r)
  generalize (s.when ((s.tch p).unread.contains r) fun s => s.count (.TCH_P_CNT1_RPT_LOST p)) = a at hcount hlost ⊢
  have hput := a.ringPut_keeps p hr bs
  generalize a.ringPut p r bs = b at hput ⊢
  have hnext := ((Keeps.refl [] (only [Reg.TCH_P_RPT p]) b).set (.TCH_P_RPT_NEXT p) (r + 1) List.mem_cons_self).set (.TCH_P_RPT_SEQ p) seq
    List.mem_cons_self
  generalize (b.set (.TCH_P_RPT_NEXT p) (r + 1)).set (.TCH_P_RPT_SEQ p) seq = c at hnext ⊢
  have hcontacts : ((c.updTch p fun x => { x with unread := x.unread.filter (· != r) ++ [r] }).tch p).contacts = (c.tch p).contacts := by
    rw [State.updTch_self]
  have hunread : Keeps [.touch] (only []) c (c.updTch p fun x => { x with unread := x.unread.filter (· != r) ++ [r] }) :=
    (Keeps.refl _ _ c).updTch _ _ List.mem_cons_self
  generalize (c.updTch p fun x => { x with unread := x.unread.filter (· != r) ++ [r] }) = d at hcontacts hunread ⊢
  have hvec := d.hostVec_parts 1
  have hring : Reg.TCH_P_CNT1 p ∉ ringRegs p := fun hm => absurd (ringRegs_above hm) (by apply checkEach p; decide)
  refine ⟨?contacts, ?count, ?keeps⟩
  case contacts =>
    rw [hvec.tch List.not_mem_nil, hcontacts, hnext.tch List.not_mem_nil, hput.tch List.not_mem_nil, hlost.tch List.not_mem_nil]
  case count =>
    rw [hvec.get _ (by apply checkEach p; decide), hunread.get _ List.not_mem_nil, hnext.get _ (by apply checkEach p; decide), hput.get _ hring,
      hcount]
  case keeps =>
    have hbefore : Keeps [] (only (reportRegs p)) s c :=
      ((hlost.widen (fun _ => id) (by simp)).trans (hput.widen (fun _ => id) (List.subset_append_right ..))).trans
        (hnext.widen (fun _ => id) (by simp))
    exact ((hbefore.widen (List.nil_subset _) (fun _ => id)).trans (hunread.widen (fun _ => id) (List.nil_subset _))).trans
      (hvec.widen (List.nil_subset _) (by simp [reportRegs]))

theorem State.writeReport_posted (s : State) (p : Nat) (rel fault : Bool) (t : Word) (recs : List TouchRecord) (flips : List (Nat × Byte)) :
    ∃ now bs cs, (s.writeReport p rel fault t recs flips).1
      = ((s.ringPosted p (s.get (.TCH_P_RPT_NEXT p)) ((s.get (.TCH_P_RPT_SEQ p) + 1) % 65536) bs).scoTouch p now cs).1 := by
  unfold State.writeReport State.ringPosted State.ringPut
  exact ⟨_, _, _, rfl⟩

theorem State.writeReport_spec (s : State) (p : Fin 4) (rel fault : Bool) (t : Word) (recs : List TouchRecord) (flips : List (Nat × Byte)) :
    Reported p s (s.writeReport p rel fault t recs flips).1 := by
  obtain ⟨now, bs, cs, he⟩ := s.writeReport_posted p rel fault t recs flips
  rw [he]
  have hslot : s.get (.TCH_P_RPT_NEXT p) < 16 := State.get_lt s (.TCH_P_RPT_NEXT p)
  obtain ⟨hcontacts, hcount, hkeep⟩ := s.ringPosted_spec p hslot ((s.get (.TCH_P_RPT_SEQ p) + 1) % 65536) bs
  generalize s.ringPosted p (s.get (.TCH_P_RPT_NEXT p)) ((s.get (.TCH_P_RPT_SEQ p) + 1) % 65536) bs = u at hcontacts hcount hkeep ⊢
  obtain ⟨hsco, hscoKeep⟩ := u.scoTouch_spec p now cs
  exact ⟨hsco.trans hcontacts, (hscoKeep.get _ List.not_mem_nil).trans hcount, hkeep.trans (hscoKeep.widen (fun _ => id) (List.nil_subset _))⟩

end Sys2Proof.Machine
end

section
/-!
SUPPORT. The release-all, restart and release of a port (R304, R313, R319), for O42.
-/

namespace Sys2Proof.Machine

open Sys2Proof

/-! ### The state shown for a port (R304) -/

theorem Keeps.tchState {ps : List Part} {W : Nat → Prop} {s t : State} {p : Nat} (h : Keeps ps W s t) (hw : ¬ W (Reg.TCH_P_STATE p)) :
    t.tchState p = s.tchState p := h.get (.TCH_P_STATE_STATE p) hw

/-- The counts shown for a port leave its state. -/
theorem State.showTch_spec (s : State) (p : Fin 4) : (s.showTch p).tchState p = s.tchState p
    ∧ Keeps [] (only [Reg.TCH_P_NODES p, Reg.TCH_P_STATE p]) s (s.showTch p) := by
  unfold State.showTch
  dsimp only
  generalize ((s.tch p).nodes ++ (s.tch p).elecs).countP (·.lock == 1) = covered
  generalize ((s.tch p).nodes.countP fun n => n.lock == 2 || n.lock == 3) = locked
  have hnodes := ((Keeps.refl [] (only [Reg.TCH_P_NODES p]) s).set (.TCH_P_NODES_COVERED p) covered List.mem_cons_self).set
    (.TCH_P_NODES_LOCKED p) locked List.mem_cons_self
  generalize (s.set (.TCH_P_NODES_COVERED p) covered).set (.TCH_P_NODES_LOCKED p) locked = u at hnodes ⊢
  refine ⟨(State.get_set_other _ _ rfl).trans (hnodes.tchState (by apply checkEach p; decide)), ?_⟩
  exact (hnodes.widen (fun _ => id) (by simp)).set (.TCH_P_STATE_CONTACTS p) _ (by simp [Fld.TCH_P_STATE_CONTACTS])

theorem State.setTch_spec (s : State) (p : Fin 4) {st : Nat} (h : st < 8) : (s.setTch p st).tchState p = st
    ∧ Keeps [] (only [Reg.TCH_P_STATE p, Reg.TCH_STATUS]) s (s.setTch p st) := by
  unfold State.setTch
  dsimp only
  have hstate : (s.set (.TCH_P_STATE_STATE p) st).tchState p = st := State.get_set_fits _ rfl (wid := 3) rfl h
  have hset := (Keeps.refl [] (only [Reg.TCH_P_STATE p, Reg.TCH_STATUS]) s).set (.TCH_P_STATE_STATE p) st List.mem_cons_self
  generalize s.set (.TCH_P_STATE_STATE p) st = u at hstate hset ⊢
  generalize putBitN (u.get .TCH_STATUS_FAULT) p (st == tpFault) = faults
  exact ⟨(State.get_set_other _ _ (by apply checkEach p; decide)).trans hstate, hset.set .TCH_STATUS_FAULT faults (by simp [Fld.TCH_STATUS_FAULT])⟩

/-! ### A port begins (R304) -/

/-- A port is to be baselined afresh. -/
def State.tchCleared (s : State) (p : Nat) : State :=
  s.updTch p fun x =>
    { x with
      nodes := List.replicate (s.drives p * s.senses p) .init
      elecs := List.replicate (s.drives p + s.senses p) .init
      contacts := []
      waiting := []
      baseN := 0
      passes := 0
      fails := []
      owed := false
      testAt := none
      abandoned := 0 }

/-- The effects of the start of a port. -/
structure PortBegun (p : Fin 4) (s t : State) : Prop where
  state : t.tchState p = tpStart
  contacts : (t.tch p).contacts = []
  base : (t.tch p).baseN = 0
  keeps : Keeps [.touch] (only [Reg.TCH_P_STATE p, Reg.TCH_STATUS, Reg.TCH_P_NODES p]) s t

theorem State.tchBegin_spec (s : State) (p : Fin 4) : PortBegun p s (s.tchBegin p) := by
  have heq : s.tchBegin p = (((s.tchCleared p).setTch p tpStart).set (.TCH_P_STATE_FAULT_CAUSE p) 0).showTch p := rfl
  rw [heq]
  have hcontacts : ((s.tchCleared p).tch p).contacts = [] := by rw [State.tchCleared, State.updTch_self]
  have hbase : ((s.tchCleared p).tch p).baseN = 0 := by rw [State.tchCleared, State.updTch_self]
  have hclear : Keeps [.touch] (only []) s (s.tchCleared p) := (Keeps.refl _ _ s).updTch _ _ List.mem_cons_self
  generalize s.tchCleared p = a at hcontacts hbase hclear ⊢
  obtain ⟨hstate, hset⟩ := a.setTch_spec p (st := tpStart) (by decide)
  generalize a.setTch p tpStart = b at hstate hset ⊢
  have hcause : (b.set (.TCH_P_STATE_FAULT_CAUSE p) 0).tchState p = tpStart := (State.get_set_other _ _ rfl).trans hstate
  have hsetCause := hset.set (.TCH_P_STATE_FAULT_CAUSE p) 0 List.mem_cons_self
  generalize b.set (.TCH_P_STATE_FAULT_CAUSE p) 0 = c at hcause hsetCause ⊢
  obtain ⟨hshown, hshow⟩ := c.showTch_spec p
  have htch : (c.showTch p).tch p = a.tch p := (hshow.tch List.not_mem_nil p).trans (hsetCause.tch List.not_mem_nil p)
  refine ⟨hshown.trans hcause, by rw [htch, hcontacts], by rw [htch, hbase], ?_⟩
  exact ((hclear.widen (fun _ => id) (List.nil_subset _)).trans (hsetCause.widen (List.nil_subset _) (by simp))).trans
    (hshow.widen (List.nil_subset _) (by simp))

/-! ### A release-all (R313) -/

/-- The contacts of a port are lifted. -/
def State.tchLifted (s : State) (p : Nat) : State :=
  s.updTch p fun x =>
    { x with
      contacts := []
      waiting := []
      lifts := x.contacts.foldl (fun l c => Tab.insert l c.id (s.fullTime s.time.now)) x.lifts
      nodes := x.nodes.map fun n => if n.lock = 0 ∧ s.tLift p ≤ n.sig then { n with lock := 3, run := 0 } else n }

/-- A release-all is counted and reported. -/
def State.releaseShown (s : State) (p : Nat) (lifted : Bool) : State :=
  ((s.count (.TCH_P_CNT1_RELEASE_ALL p)).setB .TCH_INT_STATUS_RELEASE_ALL true).when lifted fun s => s.setB .TCH_INT_STATUS_LIFT true

theorem State.releaseAll_reported (s : State) (p cause : Nat) : ∃ lifted t recs, s.releaseAll p cause
    = (((((s.tchLifted p).releaseShown p lifted).log 0x0602 [p, cause]).showTch p).writeReport p true false t recs []).1 := by
  unfold State.releaseAll State.tchLifted State.releaseShown
  exact ⟨_, _, _, rfl⟩

theorem State.releaseShown_spec (s : State) (p : Fin 4) (lifted : Bool) :
    (s.releaseShown p lifted).get (.TCH_P_CNT1_RELEASE_ALL p) = satAdd (Fld.TCH_P_CNT1_RELEASE_ALL p).wid (s.get (.TCH_P_CNT1_RELEASE_ALL p)) 1
    ∧ Keeps [] (only [Reg.TCH_P_CNT1 p, Reg.TCH_INT_STATUS]) s (s.releaseShown p lifted) := by
  unfold State.releaseShown
  have hcount : ((s.count (.TCH_P_CNT1_RELEASE_ALL p)).setB .TCH_INT_STATUS_RELEASE_ALL true).get (.TCH_P_CNT1_RELEASE_ALL p)
      = satAdd (Fld.TCH_P_CNT1_RELEASE_ALL p).wid (s.get (.TCH_P_CNT1_RELEASE_ALL p)) 1 :=
    (State.get_set_other _ _ (by apply checkEach p; decide)).trans (State.get_count_self s rfl)
  have hset := ((Keeps.refl [] (only [Reg.TCH_P_CNT1 p, Reg.TCH_INT_STATUS]) s).count (.TCH_P_CNT1_RELEASE_ALL p) List.mem_cons_self).setB
    .TCH_INT_STATUS_RELEASE_ALL true (by simp [Fld.TCH_INT_STATUS_RELEASE_ALL])
  generalize (s.count (.TCH_P_CNT1_RELEASE_ALL p)).setB .TCH_INT_STATUS_RELEASE_ALL true = u at hcount hset ⊢
  cases lifted
  · exact ⟨hcount, hset⟩
  · exact ⟨(State.get_set_other _ _ (by apply checkEach p; decide)).trans hcount, hset.setB .TCH_INT_STATUS_LIFT true (by simp [Fld.TCH_INT_STATUS_LIFT])⟩

/-- The effects of a release-all. -/
structure Released (p : Fin 4) (cause : Nat) (s t : State) : Prop where
  contacts : (t.tch p).contacts = []
  state : t.tchState p = s.tchState p
  count : t.get (.TCH_P_CNT1_RELEASE_ALL p) = satAdd (Fld.TCH_P_CNT1_RELEASE_ALL p).wid (s.get (.TCH_P_CNT1_RELEASE_ALL p)) 1
  log : t.lastLog = some (0x0602, [p.val, cause % 256])
  keeps : Keeps [.touch, .sco] (only (touchRegs p)) s t

theorem reportRegs_subset (p : Nat) : reportRegs p ⊆ touchRegs p :=
  List.append_subset.mpr ⟨fun _ ha => List.mem_append_left _ (by simp at ha ⊢; tauto), List.subset_append_right ..⟩

theorem State.releaseAll_spec {s : State} (hr : s.logRoom) (p : Fin 4) (cause : Nat) : Released p cause s (s.releaseAll p cause) := by
  obtain ⟨lifted, w, recs, he⟩ := s.releaseAll_reported p cause
  rw [he]
  have hcontacts : ((s.tchLifted p).tch p).contacts = [] := by rw [State.tchLifted, State.updTch_self]
  have hlift : Keeps [.touch] (only []) s (s.tchLifted p) := (Keeps.refl _ _ s).updTch _ _ List.mem_cons_self
  generalize s.tchLifted p = a at hcontacts hlift ⊢
  obtain ⟨hcount, hshow⟩ := a.releaseShown_spec p lifted
  generalize a.releaseShown p lifted = b at hcount hshow ⊢
  have hroom : b.logRoom := hshow.logRoom (by decide) (hlift.logRoom (by decide) hr)
  have hlog : (b.log 0x0602 [p.val, cause]).lastLog = some (0x0602, [p.val, cause % 256]) := by
    rw [State.lastLog_log hroom, List.map_cons, List.map_cons, List.map_nil, Nat.mod_eq_of_lt (by omega)]
  have hlogged : Keeps [.sco] (only []) b (b.log 0x0602 [p.val, cause]) := (Keeps.refl _ _ b).log hroom _ _ List.mem_cons_self
  generalize b.log 0x0602 [p.val, cause] = c at hlog hlogged ⊢
  obtain ⟨hstate, hcounts⟩ := c.showTch_spec p
  generalize c.showTch p = d at hstate hcounts ⊢
  obtain ⟨hkept, hcounted, hreport⟩ := d.writeReport_spec p true false w recs []
  generalize (d.writeReport p true false w recs []).1 = t at hkept hcounted hreport ⊢
  have hring : Reg.TCH_P_STATE p ∉ reportRegs p := by
    intro hm
    rcases List.mem_append.mp hm with hm | hm
    · exact absurd hm (by apply checkEach p; decide)
    · exact absurd (ringRegs_above hm) (by apply checkEach p; decide)
  refine ⟨?contacts, ?state, ?count, ?log, ?keeps⟩
  case contacts =>
    rw [hkept, hcounts.tch List.not_mem_nil, hlogged.tch (by decide), hshow.tch List.not_mem_nil, hcontacts]
  case state =>
    rw [hreport.tchState hring, hstate, hlogged.tchState List.not_mem_nil, hshow.tchState (by apply checkEach p; decide), hlift.tchState List.not_mem_nil]
  case count =>
    rw [hcounted, hcounts.get _ (by apply checkEach p; decide), hlogged.get _ List.not_mem_nil, hcount, hlift.get _ List.not_mem_nil]
  case log => rw [hreport.lastLog (by decide), hcounts.lastLog List.not_mem_nil, hlog]
  case keeps =>
    have hbefore : Keeps [.touch, .sco] (only (touchRegs p)) s c :=
      ((hlift.widen (by simp) (List.nil_subset _)).trans (hshow.widen (List.nil_subset _) (by simp [touchRegs]))).trans
        (hlogged.widen (by simp) (List.nil_subset _))
    exact (hbefore.trans (hcounts.widen (List.nil_subset _) (by simp [touchRegs]))).trans (hreport.widen (by simp) (reportRegs_subset p))

end Sys2Proof.Machine
end

section
/-!
PROOF. The rows of TOUCH_CTRL (R319), and the statement O42.
-/

namespace Sys2Proof.Machine

open Sys2Proof

theorem State.tchRestart_run {s : State} {p : Nat} (h : s.tchState p = tpRun) :
    s.tchRestart p = ((s.releaseAll p 4).tchBegin p).set (.TCH_P_CTRL_CODE p) stOK := if_pos h

theorem State.tchRestart_fault {s : State} {p : Nat} (h : s.tchState p = tpFault) : s.tchRestart p = (s.tchBegin p).set (.TCH_P_CTRL_CODE p) stOK := by
  have hrun : ¬ s.tchState p = tpRun := by
    rw [h]
    decide
  unfold State.tchRestart
  dsimp only
  rw [if_neg hrun, if_pos h]

theorem State.tchRestart_refused {s : State} {p : Nat} (hr : s.tchState p ≠ tpRun) (hf : s.tchState p ≠ tpFault) :
    s.tchRestart p = s.set (.TCH_P_CTRL_CODE p) stSTATE := by
  unfold State.tchRestart
  dsimp only
  rw [if_neg hr, if_neg hf]

theorem State.tchRelease_run {s : State} {p : Nat} (h : s.tchState p = tpRun) :
    s.tchRelease p = (s.releaseAll p 3).set (.TCH_P_CTRL_CODE p) stOK := if_pos h

theorem State.tchRelease_refused {s : State} {p : Nat} (h : s.tchState p ≠ tpRun) : s.tchRelease p = s.set (.TCH_P_CTRL_CODE p) stSTATE := if_neg h

/-- The code of TCH_P_CTRL. -/
theorem State.tchCode_spec (s : State) (p : Fin 4) {code : Nat} (hc : code < 256) : (s.set (.TCH_P_CTRL_CODE p) code).get (.TCH_P_CTRL_CODE p) = code
    ∧ Keeps [] (only [Reg.TCH_P_CTRL p]) s (s.set (.TCH_P_CTRL_CODE p) code) :=
  ⟨State.get_set_fits _ rfl (wid := 8) rfl hc, (Keeps.refl _ _ s).set (.TCH_P_CTRL_CODE p) code List.mem_cons_self⟩

/-- The port's part of TOUCH_CTRL. -/
def State.tchOperate (s : State) (p op : Nat) : State := if op = 0 then s.tchRestart p else s.tchRelease p

/-- TOUCH_CTRL, its frame admitted. -/
theorem State.cmdTouchCtrl_admitted {s : State} {f : InFrame} {rest : List InFrame} (hf : s.cmd.fifo = f :: rest) (ha : s.admits 0x32 f = true)
    (p : Fin 4) {op : Nat} (ho : op < 2) : s.cmdTouchCtrl p op
      = ((s.taken f rest).tchOperate p op).answer (frameHdr f.origin f.bytes) (((s.taken f rest).tchOperate p op).get (.TCH_P_CTRL_CODE p)) [] := by
  rw [State.cmdTouchCtrl, decide_eq_true ⟨p.isLt, ho⟩, State.operate_admitted hf ha (by decide) (by decide)]
  rfl

theorem gives_touch_range {f : InFrame} {rest : List InFrame} {p op : Nat} {s : State} (hu : s.up) (hf : s.cmd.fifo = f :: rest)
    (ha : s.admits 0x32 f = true) (hr : 4 ≤ p ∨ 2 ≤ op) :
    Gives (.touchCtrl p op) s fun t => Answered f rest stRANGE [] t ∧ Keeps [.cmd, .fab] (only answerRegs) s t := by
  refine gives_awake (·.cmdTouchCtrl p op) hu rfl ?_
  obtain ⟨-, hat, -⟩ := State.command_admitted (s := s.quiet) hf ha (by decide) (by decide)
  rw [State.cmdTouchCtrl, decide_eq_false (by omega), State.operate_range (s := s.quiet) hf ha (by decide) (by decide)]
  have hans := hat.answer_only (code := stRANGE) (by decide) []
  exact ⟨hans.answered, hans.keeps⟩

/-- The effects of TOUCH_CTRL with a code: what the port did stands after the answer. -/
structure TouchAnswered (f : InFrame) (rest : List InFrame) (p : Fin 4) (code : Nat) (ps : List Part) (as : List Nat) (s u t : State) : Prop where
  answered : Answered f rest code [] t
  shown : t.get (.TCH_P_CTRL_CODE p) = code
  regs : ∀ g : Fld, g.addr ∉ answerRegs → g.addr ≠ Reg.TCH_P_CTRL p → t.get g = u.get g
  tch : t.tch p = u.tch p
  lastLog : t.lastLog = u.lastLog
  keeps : Keeps (.cmd :: .fab :: ps) (only (Reg.TCH_P_CTRL p :: as ++ answerRegs)) s t

/-- TOUCH_CTRL of a port that does `u`, then shows its code. -/
theorem gives_touch {f : InFrame} {rest : List InFrame} {p : Fin 4} {op code : Nat} {s u : State} {ps : List Part} {as : List Nat} (hu : s.up)
    (hf : s.cmd.fifo = f :: rest) (ha : s.admits 0x32 f = true) (ho : op < 2) (hc : code < 256)
    (hop : (s.quiet.taken f rest).tchOperate p op = u.set (.TCH_P_CTRL_CODE p) code) (hk : Keeps ps (only as) (s.quiet.taken f rest) u)
    (hcmd : .cmd ∉ ps) : Gives (.touchCtrl p op) s (TouchAnswered f rest p code ps as s u) := by
  refine gives_awake (·.cmdTouchCtrl p op) hu rfl ?_
  obtain ⟨-, hat, -⟩ := State.command_admitted (s := s.quiet) hf ha (by decide) (by decide)
  rw [State.cmdTouchCtrl_admitted (s := s.quiet) hf ha p ho, hop]
  obtain ⟨hcode, hset⟩ := u.tchCode_spec p hc
  generalize u.set (.TCH_P_CTRL_CODE p) code = v at hcode hset ⊢
  rw [hcode]
  have hans := ((hat.keep hk hcmd).keep hset List.not_mem_nil).answer hc []
  have hall := (hk.widen (bs := Reg.TCH_P_CTRL p :: as) (fun _ => id) (List.subset_cons_self ..)).trans
    (hset.widen (List.nil_subset _) (by simp))
  have hframe := hans.frame hall (fun _ => id) (List.subset_append_left _ answerRegs) (List.subset_append_right ..)
  refine ⟨hans.answered, (hans.keeps.get _ (by apply checkEach p; decide)).trans hcode, fun g hg hn => ?_, ?_, ?_, hframe⟩
  · rw [hans.keeps.get g hg, hset.get g (by simpa using hn)]
  · rw [hans.keeps.tch (by decide), hset.tch List.not_mem_nil]
  · rw [hans.keeps.lastLog (by decide), hset.lastLog List.not_mem_nil]

/-- The port that a command takes is the one that the state holds. -/
theorem State.taken_tchState {s : State} {f : InFrame} {rest : List InFrame} (p st : Nat) (h : s.tchState p = st) :
    (s.quiet.taken f rest).tchState p = st := ((s.quiet.taken_keeps f rest).tchState List.not_mem_nil).trans h

theorem State.taken_logRoom {s : State} (f : InFrame) (rest : List InFrame) (h : s.logRoom) : (s.quiet.taken f rest).logRoom :=
  (s.quiet.taken_keeps f rest).logRoom (by decide) h

/-- Settles O42: each command is taken as its frame admits it, does its own update and answers with its code. -/
theorem operatingCommandsActAndAnswer : Obligations.OperatingCommandsActAndAnswer := by
  unfold Obligations.OperatingCommandsActAndAnswer
  refine ⟨fun _ _ _ _ => gives_restart, fun _ _ _ _ => gives_restart_refused, fun _ _ _ _ => gives_restart_range,
    fun _ _ _ => gives_resync_refused, fun _ _ _ => gives_resync_requested, ?release, ?restartFault, fun _ _ _ _ _ => gives_touch_range,
    fun _ _ _ _ => gives_encode_key, fun _ _ _ _ => gives_encode_keyRefused, fun _ _ _ _ => gives_encode_start,
    fun _ _ _ v _ => gives_audioMute v, fun _ _ _ v _ => gives_audioMute_range v, fun _ _ _ _ => gives_keyRequest_refused,
    fun _ _ _ _ => gives_keyRequest_sent, fun _ _ _ _ => gives_keyRequest_range, fun _ _ _ _ _ => gives_encode_range, ?releaseRefused,
    ?restartRefused, ?restartRun⟩
  case release =>
    intro f rest p s hu hroom hf ha hst
    have hrun := State.taken_tchState (f := f) (rest := rest) p tpRun hst
    have hrel := State.releaseAll_spec (State.taken_logRoom f rest hroom) p 3
    obtain ⟨t, he, h⟩ := gives_touch (op := 1) hu hf ha (by decide) (by decide) (State.tchRelease_run hrun) hrel.keeps (by decide)
    refine ⟨t, he, h.answered, by rw [h.tch, hrel.contacts], ?_, h.keeps⟩
    exact (h.regs (.TCH_P_STATE_STATE p) (by apply checkEach p; decide) (by apply checkEach p; decide)).trans (hrel.state.trans hrun)
  case restartFault =>
    intro f rest p s hu hf ha hst
    have hfault := State.taken_tchState (f := f) (rest := rest) p tpFault hst
    have hbegun := (s.quiet.taken f rest).tchBegin_spec p
    obtain ⟨t, he, h⟩ := gives_touch (op := 0) hu hf ha (by decide) (by decide) (State.tchRestart_fault hfault) hbegun.keeps (by decide)
    refine ⟨t, he, h.answered, ?_, h.keeps.widen (fun _ => id) ?_⟩
    · exact (h.regs (.TCH_P_STATE_STATE p) (by apply checkEach p; decide) (by apply checkEach p; decide)).trans hbegun.state
    · exact List.append_subset.mpr ⟨List.cons_subset.mpr ⟨by simp, by simp⟩, List.subset_append_right ..⟩
  case releaseRefused =>
    intro f rest p s hu hf ha hst
    have hstop := fun hr => hst ((State.taken_tchState (s := s) (f := f) (rest := rest) p _ rfl).symm.trans hr)
    obtain ⟨t, he, h⟩ := gives_touch (op := 1) hu hf ha (by decide) (by decide) (State.tchRelease_refused hstop) (Keeps.refl [] (only []) _) (by decide)
    exact ⟨t, he, h.answered, h.shown, h.keeps⟩
  case restartRefused =>
    intro f rest p s hu hf ha hrun hfault
    have hkept := State.taken_tchState (s := s) (f := f) (rest := rest) p _ rfl
    obtain ⟨t, he, h⟩ := gives_touch (op := 0) hu hf ha (by decide) (by decide)
      (State.tchRestart_refused (fun hr => hrun (hkept.symm.trans hr)) fun hr => hfault (hkept.symm.trans hr)) (Keeps.refl [] (only []) _) (by decide)
    exact ⟨t, he, h.answered, h.shown, h.keeps⟩
  case restartRun =>
    intro f rest p s hu hroom hf ha hst
    have hrun := State.taken_tchState (f := f) (rest := rest) p tpRun hst
    have hcount : (s.quiet.taken f rest).get (.TCH_P_CNT1_RELEASE_ALL p) = s.get (.TCH_P_CNT1_RELEASE_ALL p) :=
      (s.quiet.taken_keeps f rest).get _ List.not_mem_nil
    have hrel := State.releaseAll_spec (State.taken_logRoom f rest hroom) p 4
    have hbegun := ((s.quiet.taken f rest).releaseAll p 4).tchBegin_spec p
    have hboth : Keeps [.touch, .sco] (only (touchRegs p)) (s.quiet.taken f rest) (((s.quiet.taken f rest).releaseAll p 4).tchBegin p) :=
      hrel.keeps.trans (hbegun.keeps.widen (by simp) (by simp [touchRegs]))
    obtain ⟨t, he, h⟩ := gives_touch (op := 0) hu hf ha (by decide) (by decide) (State.tchRestart_run hrun) hboth (by decide)
    refine ⟨t, he, h.answered, ?state, by rw [h.tch, hbegun.contacts], by rw [h.tch, hbegun.base], ?count, ?log, h.keeps⟩
    case state => exact (h.regs (.TCH_P_STATE_STATE p) (by apply checkEach p; decide) (by apply checkEach p; decide)).trans hbegun.state
    case count =>
      rw [h.regs _ (by apply checkEach p; decide) (by apply checkEach p; decide), hbegun.keeps.get _ (by apply checkEach p; decide), hrel.count, hcount]
    case log => rw [h.lastLog, hbegun.keeps.lastLog (by decide), hrel.log]

end Sys2Proof.Machine
end

section
/-!
SUPPORT. The inputs: frames of their updates, damage to a frame (R167), and the presence of a source that changes (R163, R247).
-/

namespace Sys2Proof.Machine

open Sys2Proof

/-! ### Updates of one input -/

theorem Keeps.updCap {ps : List Part} {W : Nat → Prop} {s t : State} (h : Keeps ps W s t) (i : Nat) (f : CapSt → CapSt) (hp : .caps ∈ ps) :
    Keeps ps W s (t.updCap i f) :=
  h.part rfl rfl fun p hn => by
    cases p
    case caps => exact absurd hp hn
    all_goals rfl

theorem State.updCap_self (s : State) (i : Nat) (f : CapSt → CapSt) : (s.updCap i f).cap i = f (s.cap i) :=
  (State.updCap_cap ..).trans (if_pos rfl)

theorem State.updCap_other (s : State) {i j : Nat} (f : CapSt → CapSt) (h : j ≠ i) : (s.updCap i f).cap j = s.cap j :=
  (State.updCap_cap ..).trans (if_neg h)

theorem Keeps.cap {ps : List Part} {W : Nat → Prop} {s t : State} (h : Keeps ps W s t) (hp : .caps ∉ ps) (i : Nat) : t.cap i = s.cap i :=
  congrArg (Tab.get CapSt.init · i) (h.same hp)

@[simp] theorem State.set_cap (s : State) (f : Fld) (v i : Nat) : (s.set f v).cap i = s.cap i := rfl

theorem Keeps.rxState {ps : List Part} {W : Nat → Prop} {s t : State} {i : Nat} (h : Keeps ps W s t) (hw : ¬ W (Reg.CAP_STATUS i)) :
    t.rxState i = s.rxState i := h.get (.CAP_STATUS_STATE i) hw

/-! ### One step for each member of a list -/

/-- Steps each of which brings about the fact `G` of its own member and spares that of the others bring about all of them. -/
theorem State.each_spec {α : Type} {G : α → State → Prop} {f : State → α → State} {regs : α → List Nat}
    (hstep : ∀ s x, G x (f s x) ∧ Keeps [] (only (regs x)) s (f s x)) (hstay : ∀ s x y, x ≠ y → G x s → G x (f s y)) (xs : List α) (hd : xs.Nodup) :
    ∀ s : State, (∀ x ∈ xs, G x (s.each xs f)) ∧ Keeps [] (only (xs.flatMap regs)) s (s.each xs f) := by
  have hlast : ∀ (ys : List α) (x : α) (s : State), x ∉ ys → G x s → G x (s.each ys f) := fun ys => by
    induction ys with
    | nil => exact fun _ _ _ hg => hg
    | cons y ys ih =>
      intro x s hx hg
      obtain ⟨hne, hys⟩ := not_or.mp (mt List.mem_cons.mpr hx)
      exact ih x (f s y) hys (hstay s x y hne hg)
  induction xs with
  | nil => exact fun s => ⟨fun _ h => absurd h List.not_mem_nil, Keeps.refl _ _ s⟩
  | cons x xs ih =>
    intro s
    obtain ⟨hx, hxs⟩ := List.nodup_cons.mp hd
    obtain ⟨hown, hkeep⟩ := hstep s x
    obtain ⟨hrest, hrestKeep⟩ := ih hxs (f s x)
    refine ⟨fun y hy => ?_, (hkeep.widen (fun _ => id) (by simp)).trans (hrestKeep.widen (fun _ => id) (by simp))⟩
    rcases List.mem_cons.mp hy with rfl | hy
    · exact hlast xs y _ hx hown
    · exact hrest y hy

theorem State.each_out {α : Type} {f : State → α → State} (hf : ∀ t x, (f t x).out = t.out) (xs : List α) : ∀ s : State,
    (s.each xs f).out = s.out := by
  induction xs with
  | nil => exact fun _ => rfl
  | cons x xs ih => exact fun s => (ih (f s x)).trans (hf s x)

/-! ### Damage to a frame (R167) -/

/-- The damage of a frame is noted: counted and reported. -/
def State.damageNoted (s : State) (i : Nat) : State :=
  ((s.updCap i fun x => { x with damaged := true }).count (.CAP_FRAMES_DISCARDED i)).setB .CAP_INT_STATUS_DAMAGED true

/-- The frame's trick ends without a header, and the damage is logged. -/
def State.damageEnds (s : State) (i : Nat) : State :=
  match (s.capTrick i false).bind (·.buf) with
  | some d => ((s.updDesc d fun _ => { Desc.init with bad := true }).capTrickEnd i d).log 0x0406 (by2 d ++ [3, i])
  | none => s.fresh.2.log 0x0406 (by2 (s.fresh.1.toNat % 65536) ++ [3, i])

theorem State.frameDamage_open {s : State} {i : Nat} (ho : (s.cap i).inFrame = true) (hd : (s.cap i).damaged = false) :
    s.frameDamage i = (s.damageNoted i).damageEnds i := if_neg (by simp [ho, hd])

theorem State.frameDamage_none {s : State} {i : Nat} (h : (s.cap i).inFrame = false ∨ (s.cap i).damaged = true) : s.frameDamage i = s := if_pos h

theorem State.damageNoted_keeps (s : State) (i : Nat) : Keeps [.caps] (only [Reg.CAP_FRAMES i, Reg.CAP_INT_STATUS]) s (s.damageNoted i) :=
  (((Keeps.refl _ _ s).updCap i _ (by simp)).count (.CAP_FRAMES_DISCARDED i) List.mem_cons_self).setB .CAP_INT_STATUS_DAMAGED _
    (List.mem_cons_of_mem _ List.mem_cons_self)

theorem State.damageNoted_cap (s : State) (i : Nat) : (s.damageNoted i).cap i = { s.cap i with damaged := true } :=
  s.updCap_self i fun x => { x with damaged := true }

theorem State.damageNoted_other (s : State) {i j : Nat} (h : j ≠ i) : (s.damageNoted i).cap j = s.cap j :=
  s.updCap_other (fun x => { x with damaged := true }) h

theorem Keeps.capTrickEnd {ps : List Part} {W : Nat → Prop} {s t : State} (h : Keeps ps W s t) (i d : Nat) (hp : .dealer ∈ ps) :
    Keeps ps W s (t.capTrickEnd i d) := h.updDealer _ hp

theorem State.damageEnds_keeps (s : State) (i : Nat) :
    Keeps [.descs, .dealer, .sco, .freeCtr] (only [Reg.LOG_DROP]) s (s.damageEnds i) := by
  unfold State.damageEnds
  split
  case h_1 d _ =>
    exact (((Keeps.refl _ _ s).updDesc d _ (by simp)).capTrickEnd i d (by simp)).logFull _ _ (by simp) List.mem_cons_self
  case h_2 => exact ((Keeps.refl _ _ s).fresh (by simp)).logFull _ _ (by simp) List.mem_cons_self

/-- What damage does to the frame in reception of input `i`, whether it is open and undamaged or not. -/
structure FrameDamaged (i : Nat) (s t : State) : Prop where
  cap : t.cap i = { s.cap i with damaged := (s.cap i).damaged || (s.cap i).inFrame }
  other : ∀ j, j ≠ i → t.cap j = s.cap j
  keeps : Keeps [.caps, .descs, .dealer, .sco, .freeCtr] (only [Reg.CAP_FRAMES i, Reg.CAP_INT_STATUS, Reg.LOG_DROP]) s t

theorem State.frameDamage_spec (s : State) (i : Nat) : FrameDamaged i s (s.frameDamage i) := by
  by_cases h : (s.cap i).inFrame = false ∨ (s.cap i).damaged = true
  · rw [State.frameDamage_none h]
    refine ⟨?_, fun _ _ => rfl, Keeps.refl _ _ s⟩
    rcases h with h | h
    · rw [h, Bool.or_false]
    · rw [h, Bool.true_or, ← h]
  · obtain ⟨ho, hd⟩ := not_or.mp h
    rw [State.frameDamage_open (Bool.eq_true_of_not_eq_false ho) (Bool.eq_false_of_not_eq_true hd)]
    have hends := (s.damageNoted i).damageEnds_keeps i
    refine ⟨?_, fun j hj => (hends.cap (by simp) j).trans (s.damageNoted_other hj), ?_⟩
    · rw [hends.cap (by simp), s.damageNoted_cap, Bool.eq_true_of_not_eq_false ho, Bool.or_true]
    · exact ((s.damageNoted_keeps i).widen (by simp) (by simp)).trans (hends.widen (by simp) (by simp))

/-! ### Presence (R163, R247) -/

/-- Register `a` lies in the fabric's block. -/
abbrev fabReg (a : Nat) : Prop := 0x20040000 ≤ a

theorem fabReg_flowState (f : Nat) : fabReg (Reg.FAB_FLOW_STATE f) := by
  unfold fabReg Reg.FAB_FLOW_STATE
  omega

theorem State.refreshFlows_keeps (s : State) : Keeps [.fab] fabReg s s.refreshFlows := by
  unfold State.refreshFlows
  refine Keeps.each (fun t f => ?_) _ (Keeps.refl _ _ s)
  dsimp only
  refine Keeps.setB (Keeps.setB ?_ (.FAB_FLOW_STATE_IN_DEAL f.id) _ (fabReg_flowState _)) (.FAB_FLOW_STATE_ESTABLISHED f.id) _ (fabReg_flowState _)
  split
  · exact Keeps.refl _ _ t
  · exact (Keeps.refl _ _ t).updFab _ List.mem_cons_self

theorem State.sendPresence_keeps (s : State) (f : FlowDesc) (present : Bool) : Keeps [.fab] fabReg s (s.sendPresence f present) :=
  ((Keeps.refl _ _ s).setB (.FAB_FLOW_STATE_PRESENT f.id) _ (fabReg_flowState _)).originate _ _ _ _ _ List.mem_cons_self

theorem State.presenceReport_keeps (s : State) (src : BitVec 16) : Keeps [.fab] fabReg s (s.presenceReport src) :=
  (Keeps.each (fun t f => t.sendPresence_keeps f (t.flowPresent f)) _ (Keeps.refl _ _ s)).trans (State.refreshFlows_keeps _)

end Sys2Proof.Machine
end

section
/-!
SUPPORT. A receiver's states (R161, R163): what it does to move from one to another.
-/

namespace Sys2Proof.Machine

open Sys2Proof

/-! ### The state shown -/

/-- The state shown for receiver `i`, and whether it gives a picture. -/
def State.showRx (s : State) (i st : Nat) : State := (s.set (.CAP_STATUS_STATE i) st).setB (.CAP_STATUS_PRESENT i) (st == rxVideo)

/-- The frame in reception of input `i` is over. -/
def State.frameOff (s : State) (i : Nat) : State := s.updCap i fun x => { x with inFrame := false }

theorem State.showRx_state (s : State) (i : Nat) {st : Nat} (h : st < 8) : (s.showRx i st).rxState i = st :=
  (State.get_set_other _ _ rfl).trans (State.get_set_fits _ rfl (wid := 3) rfl h)

theorem State.showRx_present (s : State) (i st : Nat) : (s.showRx i st).on (.CAP_STATUS_PRESENT i) = (st == rxVideo) := State.on_setB _ _ rfl rfl

theorem State.showRx_cause (s : State) (i st : Nat) : (s.showRx i st).get (.CAP_STATUS_FMT_CAUSE i) = s.get (.CAP_STATUS_FMT_CAUSE i) :=
  (State.get_set_other _ _ rfl).trans (State.get_set_other _ _ rfl)

theorem State.showRx_keeps (s : State) (i st : Nat) : Keeps [] (only [Reg.CAP_STATUS i]) s (s.showRx i st) :=
  ((Keeps.refl _ _ s).set (.CAP_STATUS_STATE i) st List.mem_cons_self).setB (.CAP_STATUS_PRESENT i) _ List.mem_cons_self

theorem Keeps.frameOff {ps : List Part} {W : Nat → Prop} {s t : State} (h : Keeps ps W s t) (i : Nat) (hp : .caps ∈ ps) : Keeps ps W s (t.frameOff i) :=
  h.updCap i _ hp

theorem State.frameOff_cap (s : State) (i : Nat) : (s.frameOff i).cap i = { s.cap i with inFrame := false } :=
  s.updCap_self i fun x => { x with inFrame := false }

theorem State.frameOff_other (s : State) {i j : Nat} (h : j ≠ i) : (s.frameOff i).cap j = s.cap j :=
  s.updCap_other (fun x => { x with inFrame := false }) h

@[simp] theorem State.frameOff_get (s : State) (i : Nat) (f : Fld) : (s.frameOff i).get f = s.get f := rfl
@[simp] theorem State.frameOff_on (s : State) (i : Nat) (f : Fld) : (s.frameOff i).on f = s.on f := rfl

/-! ### Moves between states without a picture (R161) -/

theorem State.setRx_same {s : State} {i st : Nat} (h : s.rxState i = st) : s.setRx i st = s := if_pos h

theorem State.setRx_down {s : State} {i st : Nat} (hne : s.rxState i ≠ st) (hv : s.rxState i ≠ rxVideo) (h : st = rxWaitTrain ∨ st = rxTraining) :
    s.setRx i st = (s.showRx i st).frameOff i := by
  have hb : (s.rxState i == rxVideo) = false := beq_false_of_ne hv
  unfold State.setRx
  dsimp only
  rw [if_neg hne, if_neg hv, hb]
  rcases h with rfl | rfl <;> rfl

theorem State.setRx_linked {s : State} {i : Nat} (hne : s.rxState i ≠ rxLinked) (hv : s.rxState i ≠ rxVideo) :
    s.setRx i rxLinked = ((s.showRx i rxLinked).count (.CAP_LINK_TRAIN i)).frameOff i := by
  have hb : (s.rxState i == rxVideo) = false := beq_false_of_ne hv
  unfold State.setRx
  dsimp only
  rw [if_neg hne, if_neg hv, hb]
  rfl

theorem State.setRx_lost {s : State} {i : Nat} (hne : s.rxState i ≠ rxLost) (hv : s.rxState i ≠ rxVideo) :
    s.setRx i rxLost = (((s.showRx i rxLost).setB .CAP_INT_STATUS_LOCK_LOST true).count (.CAP_LINK_LOST i)).frameOff i := by
  have hb : (s.rxState i == rxVideo) = false := beq_false_of_ne hv
  unfold State.setRx
  dsimp only
  rw [if_neg hne, if_neg hv, hb]
  rfl

/-- A receiver has moved to a state, its frame in reception over; registers of `as` show it. -/
structure RxMoved (i : Fin 16) (st : Nat) (as : List Nat) (s t : State) : Prop where
  state : t.rxState i = st
  present : t.on (.CAP_STATUS_PRESENT i) = (st == rxVideo)
  cap : t.cap i = { s.cap i with inFrame := false }
  other : ∀ j, j ≠ i.val → t.cap j = s.cap j
  out : t.out = s.out
  keeps : Keeps [.caps] (only as) s t

/-- The move itself, and counts and reports of it in other registers. -/
theorem RxMoved.of_shown {i : Fin 16} {st : Nat} {as : List Nat} {s t : State} (hst : st < 8) (k : Keeps [] (only as) (s.showRx i st) t)
    (hw : Reg.CAP_STATUS i ∉ as) (ho : t.out = s.out) : RxMoved i st (Reg.CAP_STATUS i :: as) s (t.frameOff i) where
  state := (k.rxState hw).trans (s.showRx_state i hst)
  present := (k.on (.CAP_STATUS_PRESENT i) hw).trans (s.showRx_present i st)
  cap := (t.frameOff_cap i).trans (congrArg (fun x : CapSt => { x with inFrame := false }) (k.cap List.not_mem_nil i))
  other := fun j hj => (t.frameOff_other hj).trans (k.cap List.not_mem_nil j)
  out := ho
  keeps := ((s.showRx_keeps i st).widen (List.nil_subset _) (by simp)).trans
    ((k.widen (List.nil_subset _) (List.subset_cons_self ..)).frameOff i List.mem_cons_self)

theorem State.setRx_down_spec {s : State} {i : Fin 16} {st : Nat} (hne : s.rxState i ≠ st) (hv : s.rxState i ≠ rxVideo)
    (h : st = rxWaitTrain ∨ st = rxTraining) : RxMoved i st [Reg.CAP_STATUS i] s (s.setRx i st) := by
  rw [State.setRx_down hne hv h]
  exact RxMoved.of_shown (by rcases h with rfl | rfl <;> decide) (Keeps.refl _ _ _) List.not_mem_nil rfl

theorem State.setRx_linked_spec {s : State} {i : Fin 16} (hne : s.rxState i ≠ rxLinked) (hv : s.rxState i ≠ rxVideo) :
    RxMoved i rxLinked [Reg.CAP_STATUS i, Reg.CAP_LINK i] s (s.setRx i rxLinked)
      ∧ (s.setRx i rxLinked).get (.CAP_LINK_TRAIN i) = satAdd 8 (s.get (.CAP_LINK_TRAIN i)) 1 := by
  rw [State.setRx_linked hne hv]
  have hw : Reg.CAP_STATUS i ∉ [Reg.CAP_LINK i] := by apply checkEach i; decide
  have hl : Reg.CAP_LINK i ∉ [Reg.CAP_STATUS i] := by apply checkEach i; decide
  refine ⟨RxMoved.of_shown (by decide) ((Keeps.refl _ _ _).count (.CAP_LINK_TRAIN i) List.mem_cons_self) hw rfl, ?_⟩
  rw [State.frameOff_get, State.get_count_self _ rfl, (s.showRx_keeps i rxLinked).get (.CAP_LINK_TRAIN i) hl]
  rfl

theorem State.setRx_lost_spec {s : State} {i : Fin 16} (hne : s.rxState i ≠ rxLost) (hv : s.rxState i ≠ rxVideo) :
    RxMoved i rxLost [Reg.CAP_STATUS i, Reg.CAP_INT_STATUS, Reg.CAP_LINK i] s (s.setRx i rxLost)
      ∧ (s.setRx i rxLost).on .CAP_INT_STATUS_LOCK_LOST = true
      ∧ (s.setRx i rxLost).get (.CAP_LINK_LOST i) = satAdd 8 (s.get (.CAP_LINK_LOST i)) 1
      ∧ (s.setRx i rxLost).get (.CAP_LINK_IRQ_SENT i) = s.get (.CAP_LINK_IRQ_SENT i) := by
  rw [State.setRx_lost hne hv]
  have hw : Reg.CAP_STATUS i ∉ [Reg.CAP_INT_STATUS, Reg.CAP_LINK i] := by apply checkEach i; decide
  have hl : Reg.CAP_LINK i ∉ [Reg.CAP_INT_STATUS, Reg.CAP_STATUS i] := by apply checkEach i; decide
  have hshown : Keeps [] (only [Reg.CAP_INT_STATUS, Reg.CAP_STATUS i]) s ((s.showRx i rxLost).setB .CAP_INT_STATUS_LOCK_LOST true) :=
    ((s.showRx_keeps i rxLost).widen (fun _ => id) (by simp)).setB .CAP_INT_STATUS_LOCK_LOST _ List.mem_cons_self
  refine ⟨RxMoved.of_shown (by decide) (((Keeps.refl _ _ _).setB .CAP_INT_STATUS_LOCK_LOST true List.mem_cons_self).count (.CAP_LINK_LOST i)
    (List.mem_cons_of_mem _ List.mem_cons_self)) hw rfl, ?_, ?_, ?_⟩
  · rw [State.frameOff_on, State.count, State.on_set_other _ _ (by apply checkEach i; decide), State.on_setB _ _ rfl rfl]
  · rw [State.frameOff_get, State.get_count_self _ rfl, hshown.get (.CAP_LINK_LOST i) hl]
    rfl
  · rw [State.frameOff_get, State.count, State.get_set_other _ _ rfl, hshown.get (.CAP_LINK_IRQ_SENT i) hl]

/-! ### Moves to and from VIDEO (R161, R163, R167) -/

/-- Every frame is over and the count of frames begins anew. -/
def State.framesBegin (s : State) (i : Nat) : State := s.updCap i fun x => { x with frameNo := 0, inFrame := false }

@[simp] theorem State.framesBegin_get (s : State) (i : Nat) (f : Fld) : (s.framesBegin i).get f = s.get f := rfl

/-- The source of input `i` reports whether it gives a picture. -/
def State.inputReport (s : State) (i : Nat) : State := s.presenceReport (s.localSrc i)

theorem State.inputReport_keeps (s : State) (i : Nat) : Keeps [.fab] fabReg s (s.inputReport i) := s.presenceReport_keeps _

theorem State.setRx_video {s : State} {i : Nat} (hv : s.rxState i ≠ rxVideo) :
    s.setRx i rxVideo = (((s.showRx i rxVideo).setB .CAP_INT_STATUS_VIDEO_ON true).framesBegin i).inputReport i := by
  have hb : (s.rxState i == rxVideo) = false := beq_false_of_ne hv
  unfold State.setRx
  dsimp only
  rw [if_neg hv, if_neg hv, hb]
  rfl

theorem State.setRx_leaves {s : State} {i : Nat} (hv : s.rxState i = rxVideo) : s.setRx i rxTraining
    = ((((s.frameDamage i).setB .CAP_INT_STATUS_VIDEO_OFF true).showRx i rxTraining).frameOff i).inputReport i := by
  unfold State.setRx
  dsimp only
  rw [hv, if_neg (by decide), if_pos rfl]
  rfl

theorem capStatus_not_fab (i : Fin 16) : ¬ fabReg (Reg.CAP_STATUS i) := by
  apply checkEach i
  decide

/-- A receiver has come to VIDEO. -/
structure VideoBegun (i : Fin 16) (s t : State) : Prop where
  state : t.rxState i = rxVideo
  int : t.on .CAP_INT_STATUS_VIDEO_ON = true
  cause : t.get (.CAP_STATUS_FMT_CAUSE i) = s.get (.CAP_STATUS_FMT_CAUSE i)
  cap : t.cap i = { s.cap i with frameNo := 0, inFrame := false }

theorem State.setRx_video_spec {s : State} {i : Fin 16} (hv : s.rxState i ≠ rxVideo) : VideoBegun i s (s.setRx i rxVideo) := by
  rw [State.setRx_video hv]
  have hrep := (((s.showRx i rxVideo).setB .CAP_INT_STATUS_VIDEO_ON true).framesBegin i).inputReport_keeps i
  have hint : (Fld.CAP_STATUS_STATE i).addr ≠ (Fld.CAP_INT_STATUS_VIDEO_ON).addr := by apply checkEach i; decide
  refine ⟨?_, ?_, ?_, ?_⟩
  · rw [hrep.rxState (capStatus_not_fab i), State.rxState, State.framesBegin_get, State.setB, State.get_set_addr _ _ hint]
    exact s.showRx_state i (by decide)
  · rw [hrep.on .CAP_INT_STATUS_VIDEO_ON (by decide), State.on, State.framesBegin_get]
    exact State.on_setB _ _ rfl rfl
  · rw [hrep.get (.CAP_STATUS_FMT_CAUSE i) (capStatus_not_fab i), State.framesBegin_get, State.setB, State.get_set_addr (g := .CAP_STATUS_FMT_CAUSE i) _ _ hint]
    exact s.showRx_cause i rxVideo
  · rw [hrep.cap (by simp)]
    exact State.updCap_self ((s.showRx i rxVideo).setB .CAP_INT_STATUS_VIDEO_ON true) i fun x => { x with frameNo := 0, inFrame := false }

/-- A receiver has left VIDEO for training. -/
structure VideoLeft (i : Fin 16) (s t : State) : Prop where
  state : t.rxState i = rxTraining
  present : t.on (.CAP_STATUS_PRESENT i) = false
  int : t.on .CAP_INT_STATUS_VIDEO_OFF = true
  cap : t.cap i = { s.cap i with damaged := (s.cap i).damaged || (s.cap i).inFrame, inFrame := false }
  other : ∀ j, j ≠ i.val → t.cap j = s.cap j
  keeps : Keeps [.caps, .descs, .dealer, .sco, .freeCtr, .fab]
    (fun a => a ∈ [Reg.CAP_FRAMES i, Reg.CAP_INT_STATUS, Reg.LOG_DROP, Reg.CAP_STATUS i] ∨ fabReg a) s t

theorem State.setRx_leaves_spec {s : State} {i : Fin 16} (hv : s.rxState i = rxVideo) : VideoLeft i s (s.setRx i rxTraining) := by
  rw [State.setRx_leaves hv]
  have hdam := s.frameDamage_spec i
  have hshow := ((s.frameDamage i).setB .CAP_INT_STATUS_VIDEO_OFF true).showRx_keeps i rxTraining
  have hrep := ((((s.frameDamage i).setB .CAP_INT_STATUS_VIDEO_OFF true).showRx i rxTraining).frameOff i).inputReport_keeps i
  refine ⟨?_, ?_, ?_, ?_, fun j hj => ?_, ?_⟩
  · rw [hrep.rxState (capStatus_not_fab i), State.rxState, State.frameOff_get]
    exact State.showRx_state _ i (by decide)
  · rw [hrep.on (.CAP_STATUS_PRESENT i) (capStatus_not_fab i), State.frameOff_on]
    exact State.showRx_present _ i rxTraining
  · rw [hrep.on .CAP_INT_STATUS_VIDEO_OFF (by decide), State.frameOff_on,
      hshow.on .CAP_INT_STATUS_VIDEO_OFF (by apply checkEach i; decide)]
    exact State.on_setB _ _ rfl rfl
  · rw [hrep.cap (by simp), State.frameOff_cap, hshow.cap List.not_mem_nil, State.setB, State.set_cap, hdam.cap]
  · rw [hrep.cap (by simp), State.frameOff_other _ hj, hshow.cap List.not_mem_nil, State.setB, State.set_cap, hdam.other j hj]
  · have hint : Keeps [.caps, .descs, .dealer, .sco, .freeCtr] (only [Reg.CAP_FRAMES i, Reg.CAP_INT_STATUS, Reg.LOG_DROP, Reg.CAP_STATUS i]) s
        ((s.frameDamage i).setB .CAP_INT_STATUS_VIDEO_OFF true) :=
      (hdam.keeps.widen (fun _ => id) (by simp)).setB .CAP_INT_STATUS_VIDEO_OFF true (by simp [Fld.CAP_INT_STATUS_VIDEO_OFF])
    have hoff := (hint.trans (hshow.widen (List.nil_subset _) (by simp))).frameOff i (by simp)
    exact (hoff.mono (by simp) fun _ => .inl).trans (hrep.mono (by simp) fun _ => .inr)

end Sys2Proof.Machine
end

section
/-!
SUPPORT. The link of a receiver: training, lock loss and its time-out, and the MSA packets (R160 to R162). The statement O22.
-/

namespace Sys2Proof.Machine

open Sys2Proof

/-! ### A training pattern begins (R161, R254) -/

/-- The pattern that the source has set, as its DPCD byte too. -/
def State.patternNoted (s : State) (i n : Nat) : State :=
  s.updCap i fun x => { x with pattern := n, dpcd := Tab.put 0 x.dpcd 0x102 (BitVec.ofNat 8 n) }

/-- The source sets pattern `n`, and no lane is in lock any more. -/
def State.patternBegun (s : State) (i n : Nat) : State := (s.patternNoted i n).rxUnlock i

/-- What a pattern leaves before the receiver moves. -/
structure PatternBegun (i : Fin 16) (n : Nat) (s t : State) : Prop where
  lanes : NoLock (16 + i) t
  state : t.rxState i = s.rxState i
  present : t.on (.CAP_STATUS_PRESENT i) = s.on (.CAP_STATUS_PRESENT i)
  pattern : (t.cap i).pattern = n
  other : ∀ j, j ≠ i.val → t.cap j = s.cap j
  keeps : Keeps [.caps] (only (lstatRegs (16 + i))) s t

theorem capStatus_not_lane (i : Fin 16) : Reg.CAP_STATUS i ∉ lstatRegs (16 + i) := by
  apply checkEach i
  decide

theorem State.rxUnlock_spec (s : State) (i : Nat) : NoLock (16 + i) (s.rxUnlock i) ∧ Keeps [] (only (lstatRegs (16 + i))) s (s.rxUnlock i) :=
  s.linkLanes_spec _ _ _

theorem State.patternBegun_spec (s : State) (i : Fin 16) (n : Nat) : PatternBegun i n s (s.patternBegun i n) := by
  obtain ⟨hlanes, hkeep⟩ := (s.patternNoted i n).rxUnlock_spec i
  refine ⟨hlanes, hkeep.rxState (capStatus_not_lane i), hkeep.on (.CAP_STATUS_PRESENT i) (capStatus_not_lane i), ?_, fun j hj => ?_, ?_⟩
  · exact (congrArg CapSt.pattern (hkeep.cap List.not_mem_nil i)).trans (congrArg CapSt.pattern (s.updCap_self i _))
  · exact (hkeep.cap List.not_mem_nil j).trans (s.updCap_other _ hj)
  · exact ((Keeps.refl _ _ s).updCap i _ List.mem_cons_self).trans (hkeep.widen (List.nil_subset _) (List.Subset.refl _))

theorem State.rxPattern_begins {s : State} {i n : Nat} (hoff : s.rxState i ≠ rxOff) (hn : n ≠ 0) (g : Bool) (k : LinkCfg) :
    s.rxPattern i n g k = (s.patternBegun i n).setRx i rxTraining := by
  unfold State.rxPattern
  dsimp only
  rw [if_neg hoff, if_pos hn]
  rfl

/-- A receiver trains. -/
structure Trains (i : Fin 16) (n : Nat) (t : State) : Prop where
  state : t.rxState i = rxTraining
  pattern : (t.cap i).pattern = n
  lanes : NoLock (16 + i) t

/-- A pattern to a receiver outside OFF and VIDEO. -/
theorem State.rxPattern_trains {s : State} {i : Fin 16} {n : Nat} (hoff : s.rxState i ≠ rxOff) (hv : s.rxState i ≠ rxVideo) (hn : n ≠ 0)
    (g : Bool) (k : LinkCfg) : Trains i n (s.rxPattern i n g k)
      ∧ (s.rxPattern i n g k).on (.CAP_STATUS_PRESENT i) = (if s.rxState i = rxTraining then s.on (.CAP_STATUS_PRESENT i) else false)
      ∧ (∀ j, j ≠ i.val → (s.rxPattern i n g k).cap j = s.cap j)
      ∧ Keeps [.caps] (only (Reg.CAP_STATUS i :: lstatRegs (16 + i))) s (s.rxPattern i n g k) := by
  rw [State.rxPattern_begins hoff hn]
  have hb := s.patternBegun_spec i n
  have hbk := hb.keeps.widen (List.Subset.refl _) (List.subset_cons_self (Reg.CAP_STATUS i) _)
  by_cases ht : s.rxState i = rxTraining
  · rw [State.setRx_same (hb.state.trans ht), if_pos ht]
    exact ⟨⟨hb.state.trans ht, hb.pattern, hb.lanes⟩, hb.present, hb.other, hbk⟩
  · rw [if_neg ht]
    have hm := State.setRx_down_spec (s := s.patternBegun i n) (st := rxTraining) (hb.state ▸ ht) (hb.state ▸ hv) (.inr rfl)
    refine ⟨⟨hm.state, ?_, ?_⟩, hm.present, fun j hj => (hm.other j hj).trans (hb.other j hj), hbk.trans (hm.keeps.widen (fun _ => id) (by simp))⟩
    · rw [hm.cap]
      exact hb.pattern
    · exact hb.lanes.keep hm.keeps (by apply checkEach i; decide)

/-- A pattern to a receiver in VIDEO. -/
theorem State.rxPattern_ends_video {s : State} {i : Fin 16} {n : Nat} (hv : s.rxState i = rxVideo) (hn : n ≠ 0) (g : Bool) (k : LinkCfg) :
    Trains i n (s.rxPattern i n g k) ∧ ((s.rxPattern i n g k).cap i).inFrame = false
      ∧ (s.rxPattern i n g k).on (.CAP_STATUS_PRESENT i) = false ∧ (s.rxPattern i n g k).on .CAP_INT_STATUS_VIDEO_OFF = true
      ∧ ∀ j, j ≠ i.val → (s.rxPattern i n g k).cap j = s.cap j := by
  rw [State.rxPattern_begins (by rw [hv]; decide) hn]
  have hb := s.patternBegun_spec i n
  have hl := State.setRx_leaves_spec (s := s.patternBegun i n) (hb.state.trans hv)
  have hfar : ∀ l < 4, ¬ (Reg.SER_LSTAT (16 + i) l ∈ [Reg.CAP_FRAMES i, Reg.CAP_INT_STATUS, Reg.LOG_DROP, Reg.CAP_STATUS i] ∨
      fabReg (Reg.SER_LSTAT (16 + i) l)) := by apply checkEach i; decide
  refine ⟨⟨hl.state, ?_, fun l h4 => ?_⟩, ?_, hl.present, hl.int, fun j hj => (hl.other j hj).trans (hb.other j hj)⟩
  · rw [hl.cap]
    exact hb.pattern
  · rw [hl.keeps.on (.SER_LSTAT_SYNC (16 + i) l) (hfar l h4), hl.keeps.on (.SER_LSTAT_GOOD (16 + i) l) (hfar l h4)]
    exact hb.lanes l h4
  · rw [hl.cap]

/-! ### Training ends (R161) -/

/-- The link's configuration shows. -/
def State.showLink (s : State) (i : Nat) (k : LinkCfg) : State := (s.set (.CAP_STATUS_LANES i) k.lanes).set (.CAP_STATUS_RATE i) k.rate

/-- A lane of quad `q` shows whether it is in use. -/
def State.laneUsed (s : State) (q l : Nat) (u : Bool) : State := (s.setB (.SER_LSTAT_SYNC q l) u).setB (.SER_LSTAT_GOOD q l) u

/-- The lanes of a link trained show lock, the others none. -/
def State.lanesUsed (s : State) (q n : Nat) : State := s.each (List.range 4) fun s l => s.laneUsed q l (decide (l < n))

/-- Nothing has been received yet on a new link. -/
def State.linkFresh (s : State) (i : Nat) : State :=
  s.updCap i fun x => { x with lostLanes := 0, lastMsa := none, msaRun := 0, accepted := none }

theorem State.rxPattern_trained {s : State} {i : Nat} (ht : s.rxState i = rxTraining) (k : LinkCfg) : s.rxPattern i 0 true k
    = (((((s.patternNoted i 0).setRx i rxLinked).showLink i k).lanesUsed (16 + i) (2 ^ k.lanes))).linkFresh i := by
  have ht' : (s.updCap i fun x => { x with pattern := 0, dpcd := Tab.put 0 x.dpcd 0x102 (BitVec.ofNat 8 0) }).rxState i = rxTraining := ht
  unfold State.rxPattern
  dsimp only
  rw [if_neg (by rw [ht]; decide), if_neg (by decide), if_neg (not_not.mpr ht'), if_pos rfl]
  rfl

theorem State.rxPattern_failed {s : State} {i : Nat} (ht : s.rxState i = rxTraining) (k : LinkCfg) :
    s.rxPattern i 0 false k = (s.patternBegun i 0).setRx i rxWaitTrain := by
  have ht' : (s.updCap i fun x => { x with pattern := 0, dpcd := Tab.put 0 x.dpcd 0x102 (BitVec.ofNat 8 0) }).rxState i = rxTraining := ht
  unfold State.rxPattern
  dsimp only
  rw [if_neg (by rw [ht]; decide), if_neg (by decide), if_neg (not_not.mpr ht'), if_neg Bool.false_ne_true]
  rfl

theorem State.laneUsed_spec (s : State) (q l : Nat) (u : Bool) : (s.laneUsed q l u).on (.SER_LSTAT_GOOD q l) = u
    ∧ Keeps [] (only [Reg.SER_LSTAT q l]) s (s.laneUsed q l u) :=
  ⟨State.on_setB _ _ rfl rfl,
    ((Keeps.refl _ _ s).setB (.SER_LSTAT_SYNC q l) _ List.mem_cons_self).setB (.SER_LSTAT_GOOD q l) _ List.mem_cons_self⟩

theorem State.lanesUsed_spec (s : State) (q n : Nat) :
    (∀ l < 4, (s.lanesUsed q n).on (.SER_LSTAT_GOOD q l) = decide (l < n)) ∧ Keeps [] (only (lstatRegs q)) s (s.lanesUsed q n) := by
  have heach := State.each_spec (G := fun l t => t.on (.SER_LSTAT_GOOD q l) = decide (l < n)) (f := fun s l => s.laneUsed q l (decide (l < n)))
    (regs := fun l => [Reg.SER_LSTAT q l]) (fun s l => s.laneUsed_spec q l _) (fun s x y hne hg => ?_) (List.range 4) List.nodup_range s
  · obtain ⟨hgood, hkeep⟩ := heach
    exact ⟨fun l hl => hgood l (List.mem_range.mpr hl), hkeep⟩
  · rw [(s.laneUsed_spec q y _).2.on (.SER_LSTAT_GOOD q x) fun hm => hne (serLstat_inj (List.mem_singleton.mp hm))]
    exact hg

/-- A receiver's link is trained. -/
structure LinkUp (i : Fin 16) (k : LinkCfg) (s t : State) : Prop where
  state : t.rxState i = rxLinked
  lost : (t.cap i).lostLanes = 0
  run : (t.cap i).msaRun = 0
  accepted : (t.cap i).accepted = none
  lanes : t.get (.CAP_STATUS_LANES i) = k.lanes % 4
  rate : t.get (.CAP_STATUS_RATE i) = k.rate % 4
  train : t.get (.CAP_LINK_TRAIN i) = satAdd 8 (s.get (.CAP_LINK_TRAIN i)) 1
  good : ∀ l < 4, t.on (.SER_LSTAT_GOOD (16 + i) l) = decide (l < 2 ^ k.lanes)
  keeps : Keeps [.caps] (only ([Reg.CAP_STATUS i, Reg.CAP_LINK i] ++ lstatRegs (16 + i))) s t

@[simp] theorem State.linkFresh_get (s : State) (i : Nat) (f : Fld) : (s.linkFresh i).get f = s.get f := rfl

theorem State.linkFresh_cap (s : State) (i : Nat) :
    (s.linkFresh i).cap i = { s.cap i with lostLanes := 0, lastMsa := none, msaRun := 0, accepted := none } :=
  s.updCap_self i fun x => { x with lostLanes := 0, lastMsa := none, msaRun := 0, accepted := none }

theorem State.showLink_keeps (s : State) (i : Nat) (k : LinkCfg) : Keeps [] (only [Reg.CAP_STATUS i]) s (s.showLink i k) :=
  ((Keeps.refl _ _ s).set (.CAP_STATUS_LANES i) _ List.mem_cons_self).set (.CAP_STATUS_RATE i) _ List.mem_cons_self

theorem State.showLink_get (s : State) (i : Nat) (k : LinkCfg) : (s.showLink i k).rxState i = s.rxState i
    ∧ (s.showLink i k).get (.CAP_STATUS_LANES i) = k.lanes % 4 ∧ (s.showLink i k).get (.CAP_STATUS_RATE i) = k.rate % 4 :=
  ⟨(State.get_set_other _ _ rfl).trans (State.get_set_other _ _ rfl), (State.get_set_other _ _ rfl).trans (State.get_set_self _ _ rfl),
    State.get_set_self _ _ rfl⟩

theorem State.rxPattern_linkUp {s : State} {i : Fin 16} (ht : s.rxState i = rxTraining) (k : LinkCfg) : LinkUp i k s (s.rxPattern i 0 true k) := by
  rw [State.rxPattern_trained ht]
  have hnoted : (s.patternNoted i 0).rxState i = rxTraining := ht
  obtain ⟨hm, htrain⟩ := State.setRx_linked_spec (s := s.patternNoted i 0) (i := i) (by rw [hnoted]; decide) (by rw [hnoted]; decide)
  obtain ⟨hstate, hlanes, hrate⟩ := ((s.patternNoted i 0).setRx i rxLinked).showLink_get i k
  have hshow := ((s.patternNoted i 0).setRx i rxLinked).showLink_keeps i k
  obtain ⟨hgood, hlk⟩ := (((s.patternNoted i 0).setRx i rxLinked).showLink i k).lanesUsed_spec (16 + i) (2 ^ k.lanes)
  have hfar : Reg.CAP_LINK i ∉ lstatRegs (16 + i) ∧ Reg.CAP_LINK i ∉ [Reg.CAP_STATUS i] := by apply checkEach i; decide
  have hcap := State.linkFresh_cap ((((s.patternNoted i 0).setRx i rxLinked).showLink i k).lanesUsed (16 + i) (2 ^ k.lanes)) i
  refine ⟨?_, by rw [hcap], by rw [hcap], by rw [hcap], ?_, ?_, ?_, fun l hl => ?_, ?_⟩
  · rw [State.rxState, State.linkFresh_get]
    exact (hlk.rxState (capStatus_not_lane i)).trans (hstate.trans hm.state)
  · rw [State.linkFresh_get, hlk.get (.CAP_STATUS_LANES i) (capStatus_not_lane i), hlanes]
  · rw [State.linkFresh_get, hlk.get (.CAP_STATUS_RATE i) (capStatus_not_lane i), hrate]
  · rw [State.linkFresh_get, hlk.get (.CAP_LINK_TRAIN i) hfar.1, hshow.get (.CAP_LINK_TRAIN i) hfar.2, htrain]
    rfl
  · rw [State.on, State.linkFresh_get]
    exact hgood l hl
  · have hlinked := ((Keeps.refl [.caps] _ s).updCap i _ List.mem_cons_self).trans (hm.keeps.widen (fun _ => id) (List.subset_append_left _ (lstatRegs (16 + i))))
    have hlist := hlinked.trans ((hshow.widen (List.nil_subset _) (by simp)).trans (hlk.widen (List.nil_subset _) (List.subset_append_right ..)))
    exact hlist.updCap i _ List.mem_cons_self

theorem State.rxPattern_waits {s : State} {i : Fin 16} (ht : s.rxState i = rxTraining) (k : LinkCfg) :
    (s.rxPattern i 0 false k).rxState i = rxWaitTrain ∧ NoLock (16 + i) (s.rxPattern i 0 false k)
      ∧ Keeps [.caps] (only ([Reg.CAP_STATUS i] ++ lstatRegs (16 + i))) s (s.rxPattern i 0 false k) := by
  rw [State.rxPattern_failed ht]
  have hb := s.patternBegun_spec i 0
  have hm := State.setRx_down_spec (s := s.patternBegun i 0) (i := i) (st := rxWaitTrain) (by rw [hb.state, ht]; decide) (by rw [hb.state, ht]; decide)
    (.inl rfl)
  refine ⟨hm.state, hb.lanes.keep hm.keeps (by apply checkEach i; decide), ?_⟩
  exact (hb.keeps.widen (fun _ => id) (List.subset_append_right ..)).trans (hm.keeps.widen (fun _ => id) (List.subset_append_left ..))

/-! ### Lock loss and its time-out (R161) -/

/-- A lane that has lost symbol lock counts what it has seen. -/
def State.laneLost (s : State) (i l : Nat) : State :=
  ((((s.count (.CAP_ERR_SYMBOL i) 16).count (.SER_LERR_ERR (16 + i) l) 16).setB (.SER_LSTAT_SYNC (16 + i) l) false).setB
    (.SER_LSTAT_GOOD (16 + i) l) false).count (.SER_LSTAT_LOCK_LOSS (16 + i) l)

/-- The lanes of a mask lose symbol lock. -/
def State.lanesLost (s : State) (i lanes : Nat) : State := s.each ((List.range 4).filter (bitOf lanes)) fun s l => s.laneLost i l

/-- The receiver notes which lanes it has lost. -/
def State.lossNoted (s : State) (i lanes : Nat) : State := s.updCap i fun x => { x with lostLanes := lanes % 32 }

theorem State.rxLoss_linked {s : State} {i : Nat} (h : s.rxState i = rxLinked) (lanes : Nat) : s.rxLoss i lanes
    = ((((s.setRx i rxLost).lossNoted i lanes).lanesLost i lanes).count (.CAP_LINK_IRQ_SENT i)).emit (.rxHpd i 750) := if_pos (.inl h)

/-- The registers that the loss of lanes writes. -/
abbrev lossRegs (i : Nat) : List Nat := Reg.CAP_ERR i :: (lstatRegs (16 + i) ++ (List.range 4).map (Reg.SER_LERR (16 + i)))

theorem State.laneLost_good (s : State) (i l : Nat) : (s.laneLost i l).on (.SER_LSTAT_GOOD (16 + i) l) = false :=
  (State.on_set_other _ _ rfl).trans (State.on_setB _ _ rfl rfl)

theorem State.laneLost_keeps (s : State) (i l : Nat) :
    Keeps [] (only [Reg.CAP_ERR i, Reg.SER_LERR (16 + i) l, Reg.SER_LSTAT (16 + i) l]) s (s.laneLost i l) :=
  (((((Keeps.refl _ _ s).count (.CAP_ERR_SYMBOL i) List.mem_cons_self 16).count (.SER_LERR_ERR (16 + i) l) (by simp [Fld.SER_LERR_ERR]) 16).setB
    (.SER_LSTAT_SYNC (16 + i) l) false (by simp [Fld.SER_LSTAT_SYNC])).setB (.SER_LSTAT_GOOD (16 + i) l) false (by simp [Fld.SER_LSTAT_GOOD])).count
    (.SER_LSTAT_LOCK_LOSS (16 + i) l) (by simp [Fld.SER_LSTAT_LOCK_LOSS])

theorem State.lanesLost_spec (s : State) (i : Fin 16) (lanes : Nat) :
    (∀ l < 4, bitOf lanes l = true → (s.lanesLost i lanes).on (.SER_LSTAT_GOOD (16 + i) l) = false)
      ∧ Keeps [] (only (lossRegs i)) s (s.lanesLost i lanes) := by
  have heach := State.each_spec (G := fun l t => l < 4 → t.on (.SER_LSTAT_GOOD (16 + i) l) = false) (f := fun s l => s.laneLost i l)
    (regs := fun l => [Reg.CAP_ERR i, Reg.SER_LERR (16 + i) l, Reg.SER_LSTAT (16 + i) l])
    (fun s l => ⟨fun _ => s.laneLost_good i l, s.laneLost_keeps i l⟩) (fun s x y hne hg hx => ?_) ((List.range 4).filter (bitOf lanes))
    (List.nodup_range.filter _) s
  · obtain ⟨hgood, hkeep⟩ := heach
    refine ⟨fun l hl hb => hgood l (List.mem_filter.mpr ⟨List.mem_range.mpr hl, hb⟩) hl, hkeep.widen (fun _ => id) fun a ha => ?_⟩
    obtain ⟨l, hl, ha⟩ := List.mem_flatMap.mp ha
    have hl : l ∈ List.range 4 := (List.mem_filter.mp hl).1
    simp only [List.mem_cons, List.not_mem_nil, or_false] at ha
    rcases ha with rfl | rfl | rfl
    · exact List.mem_cons_self
    · exact List.mem_cons_of_mem _ (List.mem_append_right _ (List.mem_map_of_mem hl))
    · exact List.mem_cons_of_mem _ (List.mem_append_left _ (List.mem_map_of_mem hl))
  · refine ((s.laneLost_keeps i y).on (.SER_LSTAT_GOOD (16 + i) x) fun hm => ?_).trans (hg hx)
    simp only [Fld.SER_LSTAT_GOOD, List.mem_cons, List.not_mem_nil, or_false, Reg.SER_LSTAT, Reg.SER_LERR, Reg.CAP_ERR] at hm
    omega

theorem State.lanesLost_out (s : State) (i lanes : Nat) : (s.lanesLost i lanes).out = s.out := 
  State.each_out (f := fun s l => s.laneLost i l) (fun _ _ => rfl) _ s

/-- A linked receiver has lost lock. -/
structure LockLost (i : Fin 16) (lanes : Nat) (s t : State) : Prop where
  state : t.rxState i = rxLost
  int : t.on .CAP_INT_STATUS_LOCK_LOST = true
  mask : (t.cap i).lostLanes = lanes % 32
  lost : t.get (.CAP_LINK_LOST i) = satAdd 8 (s.get (.CAP_LINK_LOST i)) 1
  irq : t.get (.CAP_LINK_IRQ_SENT i) = satAdd 8 (s.get (.CAP_LINK_IRQ_SENT i)) 1
  good : ∀ l < 4, bitOf lanes l = true → t.on (.SER_LSTAT_GOOD (16 + i) l) = false
  out : t.out = s.out
  keeps : Keeps [.caps] (only ([Reg.CAP_STATUS i, Reg.CAP_LINK i, Reg.CAP_INT_STATUS, Reg.CAP_ERR i] ++ lstatRegs (16 + i)
    ++ (List.range 4).map (Reg.SER_LERR (16 + i)))) s t

theorem State.rxLoss_spec {s : State} {i : Fin 16} (h : s.rxState i = rxLinked) (lanes : Nat) : LockLost i lanes s
    ((((s.setRx i rxLost).lossNoted i lanes).lanesLost i lanes).count (.CAP_LINK_IRQ_SENT i)) := by
  obtain ⟨hm, hint, hlost, hirq⟩ := State.setRx_lost_spec (s := s) (i := i) (by rw [h]; decide) (by rw [h]; decide)
  obtain ⟨hgood, hlk⟩ := ((s.setRx i rxLost).lossNoted i lanes).lanesLost_spec i lanes
  have hfar : Reg.CAP_STATUS i ∉ lossRegs i ∧ Reg.CAP_LINK i ∉ lossRegs i ∧ Reg.CAP_INT_STATUS ∉ lossRegs i := by apply checkEach i; decide
  obtain ⟨hstatus, hlink, hints⟩ := hfar
  have hirqk : Keeps [] (only [Reg.CAP_LINK i]) (((s.setRx i rxLost).lossNoted i lanes).lanesLost i lanes)
      ((((s.setRx i rxLost).lossNoted i lanes).lanesLost i lanes).count (.CAP_LINK_IRQ_SENT i)) :=
    (Keeps.refl _ _ _).count (.CAP_LINK_IRQ_SENT i) List.mem_cons_self
  have hapart : Reg.CAP_STATUS i ∉ [Reg.CAP_LINK i] ∧ Reg.CAP_INT_STATUS ∉ [Reg.CAP_LINK i]
      ∧ ∀ l < 4, Reg.SER_LSTAT (16 + i) l ∉ [Reg.CAP_LINK i] := by apply checkEach i; decide
  obtain ⟨hstatus', hints', hlane'⟩ := hapart
  refine ⟨?_, ?_, ?_, ?_, ?_, fun l hl hb => ?_, ?_, ?_⟩
  · rw [hirqk.rxState hstatus', hlk.rxState hstatus]
    exact hm.state
  · rw [hirqk.on .CAP_INT_STATUS_LOCK_LOST hints', hlk.on .CAP_INT_STATUS_LOCK_LOST hints]
    exact hint
  · rw [hirqk.cap List.not_mem_nil, hlk.cap List.not_mem_nil, State.lossNoted, State.updCap_self]
  · rw [State.count, State.get_set_other _ _ rfl, hlk.get (.CAP_LINK_LOST i) hlink]
    exact hlost
  · rw [State.get_count_self _ rfl, hlk.get (.CAP_LINK_IRQ_SENT i) hlink]
    exact congrArg (satAdd 8 · 1) hirq
  · rw [hirqk.on (.SER_LSTAT_GOOD (16 + i) l) (hlane' l hl)]
    exact hgood l hl hb
  · rw [State.count, State.set_out, State.lanesLost_out]
    exact hm.out
  · have hnoted := hm.keeps.updCap i (fun x => { x with lostLanes := lanes % 32 }) List.mem_cons_self
    refine (hnoted.widen (fun _ => id) ?_).trans ((hlk.widen (List.nil_subset _) ?_).trans (hirqk.widen (List.nil_subset _) ?_))
    · simp
    · intro a
      simp only [lossRegs, List.mem_cons, List.mem_append]
      tauto
    · simp

theorem State.rxLostTimeout_lost {s : State} {i : Nat} (h : s.rxState i = rxLost) :
    s.rxLostTimeout i = (((s.rxUnlock i).setRx i rxWaitTrain).count (.CAP_LINK_LONG_HPD i)).emit (.rxHpd i 100000) := if_pos h

/-- A receiver waits for training again, after the time-out of LOST. -/
structure LostEnded (i : Fin 16) (s t : State) : Prop where
  state : t.rxState i = rxWaitTrain
  hpd : t.get (.CAP_LINK_LONG_HPD i) = satAdd 8 (s.get (.CAP_LINK_LONG_HPD i)) 1
  lanes : NoLock (16 + i) t
  out : t.out = s.out
  keeps : Keeps [.caps] (only ([Reg.CAP_STATUS i, Reg.CAP_LINK i] ++ lstatRegs (16 + i))) s t

theorem State.lostEnded {s : State} {i : Fin 16} (h : s.rxState i = rxLost) :
    LostEnded i s (((s.rxUnlock i).setRx i rxWaitTrain).count (.CAP_LINK_LONG_HPD i)) := by
  obtain ⟨hlanes, hu⟩ := s.rxUnlock_spec i
  have hstate : (s.rxUnlock i).rxState i = rxLost := (hu.rxState (capStatus_not_lane i)).trans h
  have hm := State.setRx_down_spec (s := s.rxUnlock i) (i := i) (st := rxWaitTrain) (by rw [hstate]; decide) (by rw [hstate]; decide) (.inl rfl)
  have hc : Keeps [] (only [Reg.CAP_LINK i]) ((s.rxUnlock i).setRx i rxWaitTrain)
      (((s.rxUnlock i).setRx i rxWaitTrain).count (.CAP_LINK_LONG_HPD i)) := (Keeps.refl _ _ _).count (.CAP_LINK_LONG_HPD i) List.mem_cons_self
  have hfar : Reg.CAP_STATUS i ∉ [Reg.CAP_LINK i] ∧ Reg.CAP_LINK i ∉ [Reg.CAP_STATUS i] ∧ Reg.CAP_LINK i ∉ lstatRegs (16 + i) := by
    apply checkEach i; decide
  refine ⟨(hc.rxState hfar.1).trans hm.state, ?_, ?_, ?_, ?_⟩
  · rw [State.get_count_self _ rfl, hm.keeps.get (.CAP_LINK_LONG_HPD i) hfar.2.1, hu.get (.CAP_LINK_LONG_HPD i) hfar.2.2]
    rfl
  · exact (hlanes.keep hm.keeps (by apply checkEach i; decide)).keep hc (by apply checkEach i; decide)
  · rw [State.count, State.set_out, hm.out, State.rxUnlock, State.linkLanes_out]
  · exact (hu.widen (List.nil_subset _) (List.subset_append_right ..)).trans
      ((hm.keeps.widen (fun _ => id) (by simp)).trans (hc.widen (List.nil_subset _) (by simp)))

end Sys2Proof.Machine
end

section
/-!
SUPPORT. The MSA packets of a receiver (R161, R162). The statement O22.
-/

namespace Sys2Proof.Machine

open Sys2Proof

/-! ### What an MSA packet shows -/

/-- The last packet, and how many like it have come in a row. -/
def State.msaKept (s : State) (i : Nat) (m : MsaIn) (run : Nat) : State := s.updCap i fun x => { x with lastMsa := some m, msaRun := run }

/-- The format and the measured period show. -/
def State.msaShown (s : State) (i : Nat) (m : MsaIn) : State :=
  ((((s.set (.CAP_MSA_ACT_H i) m.hAct).set (.CAP_MSA_ACT_V i) m.vAct).set (.CAP_MSA_TOT_H i) m.hTotal).set (.CAP_MSA_TOT_V i) m.vTotal).set
    (.CAP_MEAS_VALUE i) m.periodNs

/-- A packet is taken: kept and shown. -/
def State.msaTaken (s : State) (i : Nat) (m : MsaIn) (run : Nat) : State := (s.msaKept i m run).msaShown i m

/-- The registers that show a packet. -/
abbrev msaRegs (i : Nat) : List Nat := [Reg.CAP_MSA_ACT i, Reg.CAP_MSA_TOT i, Reg.CAP_MEAS i]

theorem State.msaShown_keeps (s : State) (i : Nat) (m : MsaIn) : Keeps [] (only (msaRegs i)) s (s.msaShown i m) :=
  (((((Keeps.refl _ _ s).set (.CAP_MSA_ACT_H i) _ List.mem_cons_self).set (.CAP_MSA_ACT_V i) _ List.mem_cons_self).set
    (.CAP_MSA_TOT_H i) _ (by simp [Fld.CAP_MSA_TOT_H])).set (.CAP_MSA_TOT_V i) _ (by simp [Fld.CAP_MSA_TOT_V])).set
    (.CAP_MEAS_VALUE i) _ (by simp [Fld.CAP_MEAS_VALUE])

/-- The active size that a packet shows. -/
theorem State.msaShown_active (s : State) (i : Fin 16) (m : MsaIn) : (s.msaShown i m).get (.CAP_MSA_ACT_H i) = m.hAct % 65536
    ∧ (s.msaShown i m).get (.CAP_MSA_ACT_V i) = m.vAct % 65536 := by
  have htot : Reg.CAP_MSA_ACT i ≠ Reg.CAP_MSA_TOT i ∧ Reg.CAP_MSA_ACT i ≠ Reg.CAP_MEAS i := by apply checkEach i; decide
  have hlater : ∀ (t : State) (f : Fld), f.addr = Reg.CAP_MSA_ACT i →
      (((t.set (.CAP_MSA_TOT_H i) m.hTotal).set (.CAP_MSA_TOT_V i) m.vTotal).set (.CAP_MEAS_VALUE i) m.periodNs).get f = t.get f := fun t f hf => by
    rw [State.get_set_addr _ _ (hf ▸ htot.2), State.get_set_addr _ _ (hf ▸ htot.1), State.get_set_addr _ _ (hf ▸ htot.1)]
  refine ⟨(hlater _ (.CAP_MSA_ACT_H i) rfl).trans ?_, (hlater _ (.CAP_MSA_ACT_V i) rfl).trans (State.get_set_self _ _ rfl)⟩
  exact (State.get_set_other _ _ rfl).trans (State.get_set_self _ _ rfl)

theorem State.msaKept_cap (s : State) (i : Nat) (m : MsaIn) (run : Nat) : (s.msaKept i m run).cap i = { s.cap i with lastMsa := some m, msaRun := run } :=
  s.updCap_self i fun x => { x with lastMsa := some m, msaRun := run }

theorem State.msaTaken_cap (s : State) (i : Nat) (m : MsaIn) (run : Nat) : (s.msaTaken i m run).cap i = { s.cap i with lastMsa := some m, msaRun := run } :=
  ((State.msaShown_keeps _ i m).cap List.not_mem_nil i).trans (s.msaKept_cap i m run)

theorem State.msaTaken_keeps (s : State) (i : Nat) (m : MsaIn) (run : Nat) : Keeps [.caps] (only (msaRegs i)) s (s.msaTaken i m run) :=
  ((Keeps.refl _ _ s).updCap i _ List.mem_cons_self).trans ((State.msaShown_keeps _ i m).widen (List.nil_subset _) (List.Subset.refl _))

/-- What makes a format acceptable does not change with the packet shown (R162). -/
theorem State.msaCause_msaTaken (s : State) (i : Fin 16) (m : MsaIn) (run : Nat) (n : MsaIn) : (s.msaTaken i m run).msaCause i n = s.msaCause i n := by
  have hk := s.msaTaken_keeps i m run
  have hfar : Reg.CAP_CFG i ∉ msaRegs i ∧ Reg.CAP_DIM i ∉ msaRegs i ∧ Reg.CAP_TOT i ∉ msaRegs i := by apply checkEach i; decide
  obtain ⟨hcfg, hdim, htot⟩ := hfar
  unfold State.msaCause
  rw [hk.get (.CAP_CFG_STORE_FMT i) hcfg, hk.on (.CAP_CFG_DIRECT_OK i) hcfg, hk.get (.CAP_DIM_H i) hdim, hk.get (.CAP_DIM_V i) hdim,
    hk.get (.CAP_TOT_H i) htot, hk.get (.CAP_TOT_V i) htot]

/-! ### A receiver that is linked takes a packet (R161) -/

/-- How many packets like `m`, it included, have come in a row: 2 at most. -/
def State.msaCount (s : State) (i : Nat) (m : MsaIn) : Nat :=
  let same := match (s.cap i).lastMsa with
    | some q => msaKey q == msaKey m && (s.msaCause i q == 0) == (s.msaCause i m == 0)
    | none => false
  if same then min ((s.cap i).msaRun + 1) 2 else 1

/-- The format of a packet is accepted. -/
def State.formatTaken (s : State) (i : Nat) (m : MsaIn) : State :=
  (((s.setB (.CAP_STATUS_BPC10 i) (m.bpc == 10)).set (.CAP_STATUS_ENC i) m.enc).set (.CAP_STATUS_FMT_CAUSE i) 0).updCap i fun x =>
    { x with accepted := some m }

theorem State.msaCount_first {s : State} {i : Nat} (h : (s.cap i).lastMsa = none) (m : MsaIn) : s.msaCount i m = 1 := by
  simp only [State.msaCount, h, Bool.false_eq_true, if_false]

theorem State.msaCount_second {s : State} {i : Nat} {m q : MsaIn} (h : (s.cap i).lastMsa = some q) (hkey : msaKey q = msaKey m)
    (hrun : 1 ≤ (s.cap i).msaRun) (hq : s.msaCause i q = 0) (hm : s.msaCause i m = 0) : s.msaCount i m = 2 := by
  simp only [State.msaCount, h, hkey, hq, hm, beq_self_eq_true, Bool.and_self, if_true]
  exact Nat.min_eq_right (Nat.succ_le_succ hrun)

theorem State.rxMsa_second {s : State} {i : Fin 16} {m : MsaIn} (hst : s.rxState i = rxLinked) (hrun : s.msaCount i m = 2)
    (hc : s.msaCause i m = 0) : s.rxMsa i m = ((s.msaTaken i m 2).formatTaken i m).setRx i rxVideo := by
  have hcause : (s.msaTaken i m (s.msaCount i m)).msaCause i m = 0 := (s.msaCause_msaTaken i m _ m).trans hc
  unfold State.rxMsa
  dsimp only
  rw [if_neg (not_not.mpr (.inl hst)), if_pos ⟨hrun, hcause, .inl hst⟩]
  exact congrArg (fun n => ((s.msaTaken i m n).formatTaken i m).setRx i rxVideo) hrun

theorem State.rxMsa_first {s : State} {i : Fin 16} {m : MsaIn} (hst : s.rxState i = rxLinked) (hrun : s.msaCount i m = 1) :
    s.rxMsa i m = s.msaTaken i m 1 := by
  have hv : s.rxState i ≠ rxVideo := by rw [hst]; decide
  have hf : s.rxState i ≠ rxFormat := by rw [hst]; decide
  have htwo : s.msaCount i m ≠ 2 := by rw [hrun]; decide
  unfold State.rxMsa
  dsimp only
  rw [if_neg (not_not.mpr (.inl hst)), if_neg fun h => htwo h.1, if_neg fun h => h.2.elim (fun h => htwo h.1) fun h => hv h.1, if_neg fun h => hf h.1]
  exact congrArg (s.msaTaken i m) hrun

theorem State.formatTaken_spec (s : State) (i : Nat) (m : MsaIn) : (s.formatTaken i m).rxState i = s.rxState i
    ∧ (s.formatTaken i m).get (.CAP_STATUS_FMT_CAUSE i) = 0 ∧ ((s.formatTaken i m).cap i).accepted = some m := by
  unfold State.formatTaken
  refine ⟨?_, ?_, ?_⟩
  · rw [State.rxState, State.updCap_get, State.get_set_other _ _ rfl, State.get_set_other _ _ rfl, State.setB, State.get_set_other _ _ rfl]
    rfl
  · rw [State.updCap_get, State.get_set_self _ _ rfl]
    rfl
  · rw [State.updCap_self]

/-- A second packet like the last, without cause, brings VIDEO. -/
theorem State.rxMsa_video {s : State} {i : Fin 16} {m : MsaIn} (hst : s.rxState i = rxLinked) (hrun : s.msaCount i m = 2)
    (hc : s.msaCause i m = 0) : (s.rxMsa i m).rxState i = rxVideo ∧ ((s.rxMsa i m).cap i).accepted = some m ∧ ((s.rxMsa i m).cap i).frameNo = 0
      ∧ (s.rxMsa i m).on .CAP_INT_STATUS_VIDEO_ON = true ∧ (s.rxMsa i m).get (.CAP_STATUS_FMT_CAUSE i) = 0 := by
  rw [State.rxMsa_second hst hrun hc]
  obtain ⟨hstate, hcause, hacc⟩ := (s.msaTaken i m 2).formatTaken_spec i m
  have hfar : Reg.CAP_STATUS i ∉ msaRegs i := by apply checkEach i; decide
  have hlinked : ((s.msaTaken i m 2).formatTaken i m).rxState i = rxLinked := by rw [hstate, (s.msaTaken_keeps i m 2).rxState hfar, hst]
  have hv := State.setRx_video_spec (s := (s.msaTaken i m 2).formatTaken i m) (i := i) (by rw [hlinked]; decide)
  exact ⟨hv.state, by rw [hv.cap, hacc], by rw [hv.cap], hv.int, hv.cause.trans hcause⟩

/-! ### The video stream stops (R161) -/

/-- No packet has been received. -/
def State.msaForgotten (s : State) (i : Nat) : State := s.updCap i fun x => { x with lastMsa := none, msaRun := 0, accepted := none }

theorem State.rxNoVideo_format {s : State} {i : Nat} (h : s.rxState i = rxFormat) : s.rxNoVideo i = (s.setRx i rxLinked).msaForgotten i :=
  if_pos (.inr h)

theorem State.rxNoVideo_linked {s : State} {i : Fin 16} (h : s.rxState i = rxFormat) : (s.rxNoVideo i).rxState i = rxLinked
    ∧ ((s.rxNoVideo i).cap i).lastMsa = none ∧ ((s.rxNoVideo i).cap i).accepted = none
    ∧ Keeps [.caps] (only [Reg.CAP_STATUS i, Reg.CAP_LINK i]) s (s.rxNoVideo i) := by
  rw [State.rxNoVideo_format h]
  obtain ⟨hm, -⟩ := State.setRx_linked_spec (s := s) (i := i) (by rw [h]; decide) (by rw [h]; decide)
  have hcap : ((s.setRx i rxLinked).msaForgotten i).cap i = { (s.setRx i rxLinked).cap i with lastMsa := none, msaRun := 0, accepted := none } :=
    State.updCap_self _ i fun x => { x with lastMsa := none, msaRun := 0, accepted := none }
  have hkeep : Keeps [.caps] (only []) (s.setRx i rxLinked) ((s.setRx i rxLinked).msaForgotten i) := (Keeps.refl _ _ _).updCap i _ List.mem_cons_self
  exact ⟨(hkeep.rxState List.not_mem_nil).trans hm.state, by rw [hcap], by rw [hcap], hm.keeps.trans (hkeep.widen (fun _ => id) (List.nil_subset _))⟩

/-! ### Accesses of the source (R160) -/

theorem State.rxAux_dpcdRead {s : State} {i : Nat} (h : s.rxState i ≠ rxOff) (a n : Nat) :
    s.rxAux i (.dpcdRead a n) = s.emit (.rxReply i true ((List.range n).map fun k => s.dpcdByte i (a + k))) := if_neg h

theorem State.rxAux_i2cRead_other {s : State} {i a : Nat} (h : s.rxState i ≠ rxOff) (ha : a ≠ 0x50) (n : Nat) :
    s.rxAux i (.i2cRead a n) = s.emit (.rxReply i false []) := (if_neg h).trans (if_neg ha)

/-! ### The statement -/

/-- Settles O22: the moves of a receiver by its state, and the replies to its source. -/
theorem receiverFollowsItsLink : Obligations.ReceiverFollowsItsLink := by
  refine ⟨?trains, ?trained, ?failed, ?lost, ?timeout, ?accepted, ?first, ?noVideo, ?dpcd, ?i2c, ?videoEnds⟩
  case trains =>
    intro i n g k s hu hoff hv hn
    refine gives_awake (fun s => s.rxPattern i n g k) hu rfl ?_
    obtain ⟨ht, hpresent, hother, hkeep⟩ := State.rxPattern_trains (s := s.quiet) hoff hv hn g k
    exact ⟨ht.state, ht.pattern, hpresent, ht.lanes, hother, (Keeps.quiet _ _ s).trans hkeep⟩
  case trained =>
    intro i k s hu ht
    refine gives_awake (fun s => s.rxPattern i 0 true k) hu rfl ?_
    have hl := State.rxPattern_linkUp (s := s.quiet) ht k
    exact ⟨hl.state, hl.lost, hl.run, hl.accepted, hl.lanes, hl.rate, hl.train, hl.good, (Keeps.quiet _ _ s).trans hl.keeps⟩
  case failed =>
    intro i k s hu ht
    refine gives_awake (fun s => s.rxPattern i 0 false k) hu rfl ?_
    obtain ⟨hstate, hlanes, hkeep⟩ := State.rxPattern_waits (s := s.quiet) ht k
    exact ⟨hstate, fun l hl => (hlanes l hl).2, (Keeps.quiet _ _ s).trans hkeep⟩
  case lost =>
    intro i lanes s hu hl
    refine gives_awake (fun s => s.rxLoss i lanes) hu rfl ?_
    rw [State.rxLoss_linked (s := s.quiet) hl]
    have hl := State.rxLoss_spec (s := s.quiet) (i := i) hl lanes
    exact ⟨hl.state, hl.int, hl.mask, hl.lost, hl.irq, congrArg (· ++ [Emission.rxHpd i 750]) hl.out, hl.good, ((Keeps.quiet _ _ s).trans hl.keeps).emit _⟩
  case timeout =>
    intro i s hu hl
    refine gives_awake (fun s => s.rxLostTimeout i) hu rfl ?_
    rw [State.rxLostTimeout_lost (s := s.quiet) hl]
    have he := State.lostEnded (s := s.quiet) (i := i) hl
    exact ⟨he.state, he.hpd, he.lanes, congrArg (· ++ [Emission.rxHpd i 100000]) he.out, ((Keeps.quiet _ _ s).trans he.keeps).emit _⟩
  case accepted =>
    intro i m q s hu hl hlast hkey hrun hq hm
    refine gives_awake (fun s => s.rxMsa i m) hu rfl ?_
    obtain ⟨hstate, hacc, hno, hint, hcause⟩ := State.rxMsa_video (s := s.quiet) hl (State.msaCount_second (s := s.quiet) hlast hkey hrun hq hm) hm
    exact ⟨hstate, hacc, hno, hint, hcause, memoryFrame_of_stored ((stored_rxMsa _ _ _).trans (stored_quiet s))⟩
  case first =>
    intro i m s hu hl hlast
    refine gives_awake (fun s => s.rxMsa i m) hu rfl ?_
    rw [State.rxMsa_first (s := s.quiet) hl (State.msaCount_first (s := s.quiet) hlast m)]
    have hk := s.quiet.msaTaken_keeps i m 1
    have hcap := s.quiet.msaTaken_cap i m 1
    have hfar : Reg.CAP_STATUS i ∉ msaRegs i := by apply checkEach i; decide
    obtain ⟨hact, hvact⟩ := (s.quiet.msaKept i m 1).msaShown_active i m
    exact ⟨(hk.rxState hfar).trans hl, by rw [hcap], by rw [hcap], hact, hvact, (Keeps.quiet _ _ s).trans hk⟩
  case noVideo =>
    intro i s hu hf
    refine gives_awake (fun s => s.rxNoVideo i) hu rfl ?_
    obtain ⟨hstate, hlast, hacc, hkeep⟩ := State.rxNoVideo_linked (s := s.quiet) hf
    exact ⟨hstate, hlast, hacc, (Keeps.quiet _ _ s).trans hkeep⟩
  case dpcd =>
    intro i a n s hu hoff
    refine gives_awake (fun s => s.rxAux i (.dpcdRead a n)) hu rfl ?_
    rw [State.rxAux_dpcdRead (s := s.quiet) hoff]
    exact ⟨rfl, (Keeps.quiet _ _ s).emit _⟩
  case i2c =>
    intro i a n s hu hoff ha
    refine gives_awake (fun s => s.rxAux i (.i2cRead a n)) hu rfl ?_
    rw [State.rxAux_i2cRead_other (s := s.quiet) hoff ha]
    exact ⟨rfl, (Keeps.quiet _ _ s).emit _⟩
  case videoEnds =>
    intro i n g k s hu hv hn
    refine gives_awake (fun s => s.rxPattern i n g k) hu rfl ?_
    obtain ⟨ht, hframe, hpresent, hint, hother⟩ := State.rxPattern_ends_video (s := s.quiet) hv hn g k
    exact ⟨ht.state, ht.pattern, hframe, hpresent, hint, ht.lanes, hother,
      memoryFrame_of_stored ((stored_rxPattern _ _ _ _ _).trans (stored_quiet s))⟩

end Sys2Proof.Machine
end

section
/-!
SUPPORT. Issuing a trick (R28) leaves the inputs alone: one lemma per operation that a trick of some class may begin with, in the
order of the units.
-/

namespace Sys2Proof.Machine

open Sys2Proof

/-! ### Steps in turn -/

theorem State.each_caps {α : Type} {f : State → α → State} (hf : ∀ t x, (f t x).caps = t.caps) (s : State) (xs : List α) :
    (s.each xs f).caps = s.caps :=
  State.each_inv (P := fun t => t.caps = s.caps) (fun t x h => (hf t x).trans h) rfl xs

theorem State.when_caps {f : State → State} (hf : ∀ t, (f t).caps = t.caps) (s : State) (c : Bool) : (s.when c f).caps = s.caps := by
  unfold State.when
  split
  · exact hf s
  · rfl

theorem Keeps.caps {ps : List Part} {W : Nat → Prop} {s t : State} (h : Keeps ps W s t) (hp : .caps ∉ ps) : t.caps = s.caps := h.same hp

@[simp] theorem State.log_caps (s : State) (event : Nat) (args : List Nat) : (s.log event args).caps = s.caps :=
  (s.log_keeps event args).caps (by simp)

@[simp] theorem State.hostVec_caps (s : State) (n : Nat) : (s.hostVec n).caps = s.caps := (s.hostVec_parts n).caps List.not_mem_nil

@[simp] theorem State.presenceReport_caps (s : State) (src : BitVec 16) : (s.presenceReport src).caps = s.caps :=
  (s.presenceReport_keeps src).caps (by simp)

theorem State.setB_caps (s : State) (f : Fld) (b : Bool) : (s.setB f b).caps = s.caps := s.set_caps f _
theorem State.count_caps (s : State) (f : Fld) (k : Nat) : (s.count f k).caps = s.caps := s.set_caps f _

/-! ### Buffers (R108 to R116) -/

@[simp] theorem State.updDesc_caps (s : State) (d : Nat) (f : Desc → Desc) : (s.updDesc d f).caps = s.caps := rfl
@[simp] theorem State.updDealer_caps (s : State) (f : Dealer → Dealer) : (s.updDealer f).caps = s.caps := rfl
@[simp] theorem State.updTile_caps (s : State) (l : Nat) (f : Tile → Tile) : (s.updTile l f).caps = s.caps := rfl

@[simp] theorem State.freeBuf_caps (s : State) (d : Nat) : (s.freeBuf d).caps = s.caps := rfl

@[simp] theorem State.settleBuf_caps (s : State) (d : Nat) : (s.settleBuf d).caps = s.caps := by
  unfold State.settleBuf
  dsimp only
  split <;> rfl

@[simp] theorem State.unhold_caps (s : State) (d bit : Nat) : (s.unhold d bit).caps = s.caps := State.settleBuf_caps _ d
@[simp] theorem State.retireBuf_caps (s : State) (d : Nat) : (s.retireBuf d).caps = s.caps := State.settleBuf_caps _ d

@[simp] theorem State.freeRequest_caps (s : State) (d : Nat) : (s.freeRequest d).caps = s.caps := by
  unfold State.freeRequest
  dsimp only
  split
  · split <;> simp
  · split <;> simp
  · rfl

@[simp] theorem State.markBad_caps (s : State) (d : Nat) : (s.markBad d).caps = s.caps := by
  unfold State.markBad
  dsimp only
  rw [State.log_caps, State.setB_eq, State.set_caps, State.retireBuf_caps, State.updDesc_caps]
  exact State.each_caps (fun t l => t.updTile_caps l _) s _

@[simp] theorem State.poolEmpty_caps (s : State) (tr : Trick) : (s.poolEmpty tr).caps = s.caps :=
  ((((Keeps.refl [.sco, .tiles] anyReg s).count .CMP_TLN_EVT_POOL_EMPTY trivial).setB .CMP_INT_STATUS_POOL_EMPTY true trivial).recordAbandon tr
    (by simp) (by simp) fun _ _ => trivial).caps (by simp)

theorem State.issueFilling_caps {empty : State → State} (he : ∀ t, (empty t).caps = t.caps) (s : State) (tr : Trick) (c : Nat) :
    (s.issueFilling tr c empty).caps = s.caps := by
  unfold State.issueFilling
  split
  · exact (he _).trans (s.poolEmpty_caps tr)
  · rfl

@[simp] theorem State.endCopy_caps (s : State) (o : Nat) : (s.endCopy o).caps = s.caps := by
  unfold State.endCopy
  split <;> rfl

@[simp] theorem State.countCopy_caps (s : State) (o : Nat) : (s.countCopy o).caps = s.caps := rfl

/-! ### Contexts (R187 to R191) -/

@[simp] theorem State.updCtx_caps (s : State) (c : Nat) (f : CtxSt → CtxSt) : (s.updCtx c f).caps = s.caps := rfl
@[simp] theorem State.showQueue_caps (s : State) (c : Nat) : (s.showQueue c).caps = s.caps := rfl

@[simp] theorem State.feedback_caps (s : State) (c : Nat) : (s.feedback c).caps = s.caps := by
  unfold State.feedback
  dsimp only
  split
  · rfl
  · split <;> rfl

@[simp] theorem State.stopDecode_caps (s : State) (c : Nat) : (s.stopDecode c).caps = s.caps := by
  unfold State.stopDecode
  dsimp only
  rw [State.updDealer_caps, State.updCtx_caps]
  refine State.each_caps (fun t r => ?_) s _
  split <;> rfl

@[simp] theorem State.flushDpb_caps (s : State) (c : Nat) : (s.flushDpb c).caps = s.caps := by
  unfold State.flushDpb
  dsimp only
  rw [State.updCtx_caps]
  exact State.each_caps (fun t d => t.unhold_caps d holdDeck) s _

/-- A context that enters a state: what it clears, what it shows, and the buffers that a closed one gives back. -/
@[simp] theorem State.setCtx_caps (s : State) (c st cause : Nat) : (s.setCtx c st cause).caps = s.caps := by
  have hclear : ∀ t : State, (if st = cxRunning then t.updCtx c fun x => { x with concealRun := 0 }
      else (((t.updCtx c fun x => { x with queue := [] }).showQueue c).stopDecode c).flushDpb c).caps = t.caps := fun t => by
    split <;> simp
  have hgive : ∀ (t : State) (xs : List (Nat × Desc)), (t.each xs fun t (d, _) => t.freeRequest d).caps = t.caps := fun t xs =>
    State.each_caps (fun t e => t.freeRequest_caps e.1) t xs
  unfold State.setCtx
  dsimp only
  simp only [apply_ite State.caps, State.presenceReport_caps, hgive, State.feedback_caps, State.setB_eq, State.set_caps, State.updCtx_caps,
    State.flushDpb_caps, State.stopDecode_caps, State.showQueue_caps, ite_self]

@[simp] theorem State.waitKey_caps (s : State) (c cause : Nat) : (s.waitKey c cause).caps = s.caps := by
  unfold State.waitKey
  split <;> simp

@[simp] theorem State.decodeAbandoned_caps (s : State) (c k : Nat) (p : Option Coded) : (s.decodeAbandoned c k p).caps = s.caps := by
  unfold State.decodeAbandoned
  dsimp only
  split
  · split <;> simp
  · simp

@[simp] theorem State.takePicture_caps (s : State) (c : Nat) : (s.takePicture c).1.caps = s.caps := by
  unfold State.takePicture
  dsimp only
  split <;> rfl

theorem State.beginDecode_go_caps (k n : Nat) : ∀ s : State, (State.beginDecode.go k n s).caps = s.caps := by
  induction n with
  | zero => exact fun _ => rfl
  | succ n ih =>
    intro s
    unfold State.beginDecode.go
    split
    · rfl
    · split
      · rfl
      · next r _ =>
        dsimp only
        split
        · exact s.takePicture_caps r.trick.job
        · rw [ih, State.updDealer_caps]
          split <;> exact s.takePicture_caps r.trick.job

@[simp] theorem State.beginDecode_caps (s : State) (k : Nat) : (s.beginDecode k).caps = s.caps := by
  unfold State.beginDecode
  dsimp only
  split
  · rfl
  · exact State.beginDecode_go_caps k _ s

/-! ### Encode streams and flows (R205, R240) -/

@[simp] theorem State.encIssue_caps (s : State) (e k : Nat) : (s.encIssue e k).1.caps = s.caps := by
  unfold State.encIssue
  dsimp only
  split <;> rfl

@[simp] theorem State.frameIssue_caps (s : State) (f : FlowDesc) : (s.frameIssue f).caps = s.caps := by
  unfold State.frameIssue
  dsimp only
  split
  · split <;> rfl
  · rfl

@[simp] theorem State.issueFlow_caps (s : State) (tr : Trick) : (s.issueFlow tr).caps = s.caps := by
  unfold State.issueFlow
  dsimp only
  split
  · rfl
  · split
    · rfl
    · split
      · rfl
      · split
        · exact s.frameIssue_caps _
        · exact s.frameIssue_caps _

/-! ### Touch ports (R304, R313 to R315) -/

@[simp] theorem State.updTch_caps (s : State) (p : Nat) (f : TouchSt → TouchSt) : (s.updTch p f).caps = s.caps := rfl

@[simp] theorem State.scoTouch_caps (s : State) (p : Nat) (now : Time64) (bs : List Byte) : (s.scoTouch p now bs).1.caps = s.caps :=
  ite_fst_elim (P := fun t : State => t.caps = s.caps) rfl rfl

@[simp] theorem State.writeReport_caps (s : State) (p : Nat) (rel fault : Bool) (w : Word) (recs : List TouchRecord) (flips : List (Nat × Byte)) :
    (s.writeReport p rel fault w recs flips).1.caps = s.caps := by
  unfold State.writeReport
  dsimp only
  rw [State.scoTouch_caps, State.hostVec_caps, State.updTch_caps, State.set_caps, State.set_caps, State.each_caps fun t k => t.setWord_caps _ _]
  exact State.when_caps (fun t => t.set_caps _ _) s _

@[simp] theorem State.showTch_caps (s : State) (p : Nat) : (s.showTch p).caps = s.caps := by
  unfold State.showTch
  dsimp only
  rw [State.set_caps, State.set_caps, State.set_caps]

@[simp] theorem State.setTch_caps (s : State) (p st : Nat) : (s.setTch p st).caps = s.caps := by
  unfold State.setTch
  dsimp only
  rw [State.set_caps, State.set_caps]

@[simp] theorem State.releaseAll_caps (s : State) (p cause : Nat) : (s.releaseAll p cause).caps = s.caps := by
  unfold State.releaseAll
  dsimp only
  rw [State.writeReport_caps, State.showTch_caps, State.log_caps, State.when_caps fun t => t.setB_caps _ _, State.setB_caps, State.count_caps,
    State.updTch_caps]

@[simp] theorem State.tchFault_caps (s : State) (p cause elec : Nat) : (s.tchFault p cause elec).caps = s.caps := by
  unfold State.tchFault
  dsimp only
  rw [State.log_caps, State.setB_caps, State.set_caps, State.setTch_caps]

@[simp] theorem State.scoOrder_caps (s : State) (p n : Nat) : (s.scoOrder p n).caps = s.caps := by
  unfold State.scoOrder
  dsimp only
  split
  · rfl
  · split
    · rw [State.tchFault_caps, State.releaseAll_caps, State.log_caps]
    · rw [State.releaseAll_caps, State.log_caps]

@[simp] theorem State.faultSlot_caps (s : State) (p : Nat) : (s.faultSlot p).caps = s.caps :=
  (State.scoOrder_caps ..).trans (State.writeReport_caps ..)

/-! ### The scrub (R260 to R274) -/

@[simp] theorem State.updMem_caps (s : State) (f : MemSt → MemSt) : (s.updMem f).caps = s.caps := rfl
@[simp] theorem State.grant_caps (s : State) (port n : Nat) : (s.charge_ port n).caps = s.caps := rfl
@[simp] theorem State.fresh_caps (s : State) : s.fresh.2.caps = s.caps := rfl
@[simp] theorem State.persist_caps (s : State) (port a kind : Nat) : (s.persist port a kind).caps = s.caps := by
  unfold State.persist
  dsimp only
  rw [State.log_caps, State.set_caps, State.set_caps, State.set_caps, State.set_caps, State.set_caps, State.setB_caps, State.count_caps]

@[simp] theorem State.updSub_caps (s : State) (u : Nat) (f : SubSt → SubSt) : (s.updSub u f).caps = s.caps := by
  unfold State.updSub
  dsimp only
  split
  · rw [State.setB_caps, State.set_caps, State.set_caps, State.updMem_caps]
  · split
    · rw [State.setB_caps, State.set_caps, State.set_caps, State.updMem_caps]
    · rw [State.set_caps, State.set_caps, State.updMem_caps]

@[simp] theorem State.activate_caps (s : State) (u rank bank row : Nat) : (s.activate u rank bank row).caps = s.caps := by
  unfold State.activate
  dsimp only
  split
  · rw [State.count_caps, State.updSub_caps]
  · exact State.updSub_caps ..

@[simp] theorem State.openRow_caps (s : State) (u b : Nat) : (s.openRow u b).caps = s.caps := by
  unfold State.openRow
  dsimp only
  split
  · rfl
  · rw [State.activate_caps]
    split
    · exact State.updSub_caps ..
    · rfl

@[simp] theorem State.limitRefresh_caps (s : State) (u r : Nat) : (s.limitRefresh u r).caps = s.caps := by
  unfold State.limitRefresh
  split
  · rw [State.setDebt, State.showDebt, State.set_caps, State.updSub_caps, State.doRefresh, State.updSub_caps]
  · rfl

@[simp] theorem State.column_caps (s : State) (u b : Nat) (write : Bool) : (s.column u b write).caps = s.caps := by
  unfold State.column
  dsimp only
  rw [State.updSub_caps, State.openRow_caps, State.limitRefresh_caps]

@[simp] theorem State.evict_caps (s : State) (u port : Nat) : (s.evict u port).caps = s.caps := by
  unfold State.evict
  dsimp only
  split
  · rfl
  · split
    · rw [State.grant_caps, State.column_caps, State.updSub_caps, State.fresh_caps]
    · rw [State.updSub_caps, State.fresh_caps]

@[simp] theorem State.chkAccess_caps (s : State) (u b port : Nat) (write : Bool) : (s.chkAccess u b port write).caps = s.caps := by
  unfold State.chkAccess
  dsimp only
  split
  · exact State.updSub_caps ..
  · rw [State.updSub_caps, State.grant_caps, State.column_caps]
    split
    · rfl
    · exact s.evict_caps u port

@[simp] theorem State.reread_caps (s : State) (u b port n : Nat) : (s.reread u b port n).caps = s.caps := by
  induction n generalizing s with
  | zero => rfl
  | succ n ih =>
    unfold State.reread
    rw [ih, State.grant_caps, State.column_caps, State.column_caps]

@[simp] theorem State.nextTarget_caps (s : State) (u : Nat) : (s.nextTarget u).caps = s.caps := by
  unfold State.nextTarget
  split
  · rfl
  · dsimp only
    rw [State.emit_caps, State.setB_caps, State.count_caps, State.updSub_caps, State.limitRefresh_caps]

@[simp] theorem State.issueTargets_caps (u n : Nat) : ∀ s : State, (s.issueTargets u n).caps = s.caps := by
  induction n with
  | zero => exact fun _ => rfl
  | succ n ih => exact fun s => (ih _).trans (s.nextTarget_caps u)

@[simp] theorem State.beforeSpare_caps (s : State) (u port : Nat) : (s.beforeSpare u port).caps = s.caps := by
  unfold State.beforeSpare
  split
  · exact State.issueTargets_caps ..
  · rfl

@[simp] theorem State.readBlock_caps (s : State) (u b port a : Nat) (errs : List BlockErr) : (s.readBlock u b port a errs).1.caps = s.caps := by
  unfold State.readBlock
  dsimp only
  generalize (((s.column u b false).chkAccess u b port false).tryRead a errs) = read
  obtain ⟨data, again, good⟩ := read
  dsimp only
  split
  · rw [State.setB_caps, State.count_caps, State.reread_caps, State.chkAccess_caps, State.column_caps]
  · rw [State.reread_caps, State.chkAccess_caps, State.column_caps]

/-- The buffer that holds address `a` is marked BAD, if it is in use. -/
def State.foundMarked (s : State) (a : Nat) : State :=
  match s.bufAt a with
  | some d => if (s.desc d).state = .free then s else s.markBad d
  | none => s

theorem State.foundMarked_caps (s : State) (a : Nat) : (s.foundMarked a).caps = s.caps := by
  delta State.foundMarked
  generalize s.bufAt a = found
  cases found with
  | none => rfl
  | some d =>
    dsimp only
    split
    · rfl
    · exact s.markBad_caps d

theorem State.readerFail_scrub (s : State) (a : Nat) : s.readerFail a .scrub = (s.count .MEM_SCRUB_FOUND).foundMarked a := rfl

theorem State.readerFail_scrub_caps (s : State) (a : Nat) : (s.readerFail a .scrub).caps = s.caps := by
  rw [State.readerFail_scrub, State.foundMarked_caps, State.count_caps]

/-- What a scrub's read brings (R273). -/
theorem State.deliverBlock_scrub_caps (s : State) (q : MemReq) (hq : q.use = .scrub) (data : List Byte) (good : Bool) (kind : Nat) :
    (s.deliverBlock q data good kind).caps = s.caps := by
  unfold State.deliverBlock
  dsimp only
  rw [if_pos hq, hq]
  split
  · rfl
  · rw [State.readerFail_scrub_caps, State.persist_caps]

theorem State.answerRead_scrub_caps (s : State) (u b : Nat) (q : MemReq) (hq : q.use = .scrub) : (s.answerRead u b q).caps = s.caps := by
  unfold State.answerRead
  dsimp only
  split
  · rfl
  · split
    · rw [State.deliverBlock_scrub_caps _ q hq, State.grant_caps, State.beforeSpare_caps]
    · split
      · rw [State.deliverBlock_scrub_caps _ q hq, State.grant_caps, State.beforeSpare_caps]
      · rw [State.deliverBlock_scrub_caps _ q hq, State.readBlock_caps, State.grant_caps, State.beforeSpare_caps]

@[simp] theorem State.scrubBlock_caps (s : State) : s.scrubBlock.caps = s.caps := by
  unfold State.scrubBlock
  dsimp only
  rw [State.updMem_caps, State.set_caps]
  split
  · exact State.answerRead_scrub_caps s _ _ _ rfl
  · exact State.answerRead_scrub_caps s _ _ _ rfl

@[simp] theorem State.scrubRun_caps (n : Nat) : ∀ s : State, (s.scrubRun n).caps = s.caps := by
  induction n with
  | zero => exact fun _ => rfl
  | succ n ih =>
    intro s
    unfold State.scrubRun
    dsimp only
    split
    · exact (ih _).trans s.scrubBlock_caps
    · rfl

@[simp] theorem State.scrubOn_caps (s : State) : s.scrubOn.caps = s.caps := by
  unfold State.scrubOn
  dsimp only
  split
  · rfl
  · split
    · exact State.scrubRun_caps ..
    · exact (State.updDealer_caps ..).trans (State.scrubRun_caps ..)

/-! ### A trick is issued (R28) -/

theorem State.issueTrick_caps (s : State) (tr : Trick) : (s.issueTrick tr).caps = s.caps := by
  unfold State.issueTrick
  split
  · rfl
  · cases tr.cls
    case capture =>
      cases tr.talon with
      | none => rfl
      | some c => exact State.issueFilling_caps (fun _ => rfl) s tr c
    case decode =>
      cases tr.talon with
      | none => rfl
      | some c => exact (State.beginDecode_caps _ _).trans (State.issueFilling_caps (fun t => by simp) s tr c)
    case composer =>
      cases tr.talon with
      | none => rfl
      | some c => exact (State.issueFilling_caps (fun _ => rfl) _ tr c).trans (by simp)
    case encode =>
      dsimp only
      split
      · exact s.encIssue_caps tr.job tr.index
      · rfl
    case touchScan =>
      dsimp only
      split
      · rfl
      · split
        · exact s.faultSlot_caps tr.job
        · rfl
    case selfTest =>
      dsimp only
      split <;> rfl
    case audio => rfl
    case scrub => exact State.scrubOn_caps _
    case fabricFlow => exact s.issueFlow_caps tr

theorem State.issueWhere_caps (s : State) (p : Trick → Bool) : (s.issueWhere p).caps = s.caps :=
  State.each_caps State.issueTrick_caps s _

end Sys2Proof.Machine
end

section
/-!
SUPPORT. A buffer's header in memory (R109, R261, R275): its bytes, its one block, what a write of it leaves, and what the Talon manager
reads back (R110).
-/

namespace Sys2Proof.Machine

open Sys2Proof

/-! ### Bytes -/

theorem take_readBytes (d : Byte) (m : Memory) : ∀ (k n a : Nat), k ≤ n → (readBytes d m a n).take k = readBytes d m a k
  | 0, _, _, _ => rfl
  | k + 1, n + 1, a, h => congrArg _ (take_readBytes d m k n (a + 1) (Nat.le_of_succ_le_succ h))

theorem readBytes_writeBytes_prefix (d : Byte) (m : Memory) (a : Nat) (bs cs : List Byte) :
    readBytes d (writeBytes d m a (bs ++ cs)) a bs.length = bs := by
  rw [← take_readBytes d _ bs.length (bs ++ cs).length a (by simp), readBytes_writeBytes, List.take_left]

theorem leBytes_length : ∀ k n : Nat, (leBytes k n).length = k
  | 0, _ => rfl
  | k + 1, n => congrArg (· + 1) (leBytes_length k (n / 256))

theorem leNat_leBytes : ∀ k n : Nat, n < 256 ^ k → leNat (leBytes k n) = n
  | 0, n, h => by simp [leBytes, leNat] at h ⊢; omega
  | k + 1, n, h => by
    have hk : n / 256 < 256 ^ k := Nat.div_lt_of_lt_mul (by rwa [pow_succ, mul_comm] at h)
    rw [leBytes, leNat, leNat_leBytes k _ hk, BitVec.toNat_ofNat]
    exact Nat.mod_add_div n 256

/-! ### The header's bytes (R109) -/

theorem BufHdr.body_length (h : BufHdr) : h.body.length = 60 := by
  have hfrz : ((List.range 16).flatMap fun r => leBytes 2 (h.frz.getD r 0).toNat).length = 32 := by
    simp [List.length_flatMap, leBytes_length]
  simp only [BufHdr.body, List.length_append, leBytes_length, hfrz, List.length_cons, List.length_nil]

/-- The header's check word as it is written: a disturbed write leaves a wrong one. -/
def BufHdr.check (h : BufHdr) (bad : Bool) : Nat := (crc32c h.body).toNat ^^^ b2n bad

/-- The 64 header bytes as they are written. -/
def BufHdr.stored (h : BufHdr) (bad : Bool) : List Byte := h.body ++ leBytes 4 (h.check bad)

theorem BufHdr.stored_length (h : BufHdr) (bad : Bool) : (h.stored bad).length = 64 := by
  rw [BufHdr.stored, List.length_append, BufHdr.body_length, leBytes_length]

/-- The header's block, whose rest is zero. -/
theorem BufHdr.block_length (h : BufHdr) (bad : Bool) : (h.stored bad ++ List.replicate 192 0).length = 256 := by
  rw [List.length_append, BufHdr.stored_length, List.length_replicate]

theorem BufHdr.check_lt (h : BufHdr) (bad : Bool) : h.check bad < 2 ^ 32 :=
  Nat.xor_lt_two_pow (crc32c h.body).isLt (by cases bad <;> decide)

theorem BufHdr.check_eq_iff (h : BufHdr) (bad : Bool) : h.check bad = (crc32c h.body).toNat ↔ bad = false := by
  cases bad
  · simp [BufHdr.check, b2n]
  · have hodd : h.check true % 2 = ((crc32c h.body).toNat + 1) % 2 := Nat.xor_mod_two_eq
    simp only [Bool.true_eq_false, iff_false]
    omega

theorem hdrChkOk_stored (h : BufHdr) (bad : Bool) : hdrChkOk (h.stored bad) = !bad := by
  have hdrop : (h.stored bad).drop 60 = leBytes 4 (h.check bad) := List.drop_left' h.body_length
  have htake : (h.stored bad).take 60 = h.body := List.take_left' h.body_length
  rw [hdrChkOk, hdrop, htake, leNat_leBytes _ _ (h.check_lt bad)]
  cases bad
  · exact beq_iff_eq.mpr ((h.check_eq_iff false).mpr rfl)
  · exact beq_eq_false_iff_ne.mpr (mt (h.check_eq_iff true).mp (by decide))

/-! ### Where it lies (R108) -/

theorem State.bufAddr_aligned (s : State) (d : Nat) : s.bufAddr d % 256 = 0 := by
  unfold State.bufAddr
  split
  · omega
  · rfl

/-- A read or a write of up to a block from a block's start touches that block only. -/
theorem blocksOf_one {a n : Nat} (ha : a % 256 = 0) (h0 : 0 < n) (hn : n ≤ 256) : blocksOf a n = [a] := by
  have hblocks : (a % 256 + n + 255) / 256 = 1 := by omega
  rw [blocksOf, if_neg (by omega), hblocks]
  simp [List.range_succ]
  omega

theorem State.get_of_word {s t : State} (h : ∀ a, t.word a = s.word a) (f : Fld) : t.get f = s.get f := congrArg f.of (h _)

theorem State.bufAddr_of_get {s t : State} (h : ∀ f ∈ (List.range 8).flatMap fun c => [Fld.CMP_TLN_COUNT_COUNT c, .CMP_TLN_BASE_BASE c, .CMP_TLN_SIZE_SIZE c],
    t.get f = s.get f) (d : Nat) : t.bufAddr d = s.bufAddr d := by
  have hfld : ∀ c < 8, t.get (.CMP_TLN_COUNT_COUNT c) = s.get (.CMP_TLN_COUNT_COUNT c) ∧ t.get (.CMP_TLN_BASE_BASE c) = s.get (.CMP_TLN_BASE_BASE c)
      ∧ t.get (.CMP_TLN_SIZE_SIZE c) = s.get (.CMP_TLN_SIZE_SIZE c) := fun c hc => by
    refine ⟨h _ ?_, h _ ?_, h _ ?_⟩ <;> exact List.mem_flatMap.mpr ⟨c, List.mem_range.mpr hc, by simp⟩
  have hclass : ∀ n c d, c + n = 8 → t.descClassFrom n c d = s.descClassFrom n c d ∧ ∀ e, s.descClassFrom n c d = some e → e.1 < 8 := fun n => by
    induction n with
    | zero => exact fun _ _ _ => ⟨rfl, fun _ h => nomatch h⟩
    | succ n ih =>
      intro c d hc
      obtain ⟨hsame, hlt⟩ := ih (c + 1) (d - s.get (.CMP_TLN_COUNT_COUNT c)) (by omega)
      unfold State.descClassFrom
      dsimp only
      rw [(hfld c (by omega)).1]
      split
      · exact ⟨rfl, fun e he => by cases he; show c < 8; omega⟩
      · exact ⟨hsame, hlt⟩
  obtain ⟨hsame, hlt⟩ := hclass 8 0 d rfl
  unfold State.bufAddr
  rw [State.descClass, hsame, State.descClass]
  cases he : s.descClassFrom 8 0 d with
  | none => rfl
  | some e =>
    obtain ⟨-, hbase, hsize⟩ := hfld e.1 (hlt e he)
    dsimp only
    rw [hbase, hsize]

theorem State.bufAddr_of_word {s t : State} (h : ∀ a, t.word a = s.word a) (d : Nat) : t.bufAddr d = s.bufAddr d :=
  State.bufAddr_of_get (fun f _ => State.get_of_word h f) d

theorem State.srcDim_of_word {s t : State} (h : ∀ a, t.word a = s.word a) (hi : t.image = s.image) (src : BitVec 16) : t.srcDim src = s.srcDim src := by
  have hget : t.get = s.get := funext (State.get_of_word h)
  have hnode : t.isLocal src = s.isLocal src := by simp only [State.isLocal, State.nodeId, hget]
  simp only [State.srcDim, State.srcDesc, hget, hi, hnode]

/-! ### Grants and stores (R261, R266, R275) -/

theorem Keeps.updMem {ps : List Part} {W : Nat → Prop} {s t : State} (h : Keeps ps W s t) (f : MemSt → MemSt) (hp : .mem ∈ ps) :
    Keeps ps W s (t.updMem f) :=
  h.part rfl rfl fun p hn => by
    cases p
    case mem => exact absurd hp hn
    all_goals rfl

theorem Keeps.withDram {ps : List Part} {W : Nat → Prop} {s t : State} (h : Keeps ps W s t) (m : Memory) (hp : .dram ∈ ps) :
    Keeps ps W s { t with dram := m } :=
  h.part rfl rfl fun p hn => by
    cases p
    case dram => exact absurd hp hn
    all_goals rfl

theorem State.chargeBlocks_keeps (s : State) (port n : Nat) : Keeps [.mem] (only []) s (s.chargeBlocks port n) := by
  unfold State.chargeBlocks
  split
  · exact Keeps.refl _ _ s
  · exact ((Keeps.refl _ _ s).updMem _ List.mem_cons_self).updMem _ List.mem_cons_self

@[simp] theorem State.chargeBlocks_regs (s : State) (port n : Nat) : (s.chargeBlocks port n).regs = s.regs := by
  unfold State.chargeBlocks
  split <;> rfl

@[simp] theorem State.chargeBlocks_chk (s : State) (port n : Nat) : (s.chargeBlocks port n).mem.chk = s.mem.chk := by
  unfold State.chargeBlocks
  split <;> rfl

theorem State.keepFailed_sound {s : State} (h : s.get .MEM_STATUS_SC_FAILED = 0) (a n : Nat) (m : Memory) : s.keepFailed a n m = { s with dram := m } :=
  if_pos h

/-- The blocks of `n` bytes from `a` are written: the memory is `m` outside the failed sub-channels, and their check words are right. -/
def State.memWritten (s : State) (a n : Nat) (m : Memory) : State := (s.keepFailed a n m).updMem fun x => { x with chk := cleanBlocks x.chk a n }

theorem State.storeBytes_eq (s : State) (a : Nat) (bs : List Byte) :
    s.storeBytes a bs = s.memWritten a bs.length (writeBytes Config.dramFill s.dram a bs) := rfl

theorem State.memWritten_dram {s : State} (h : s.get .MEM_STATUS_SC_FAILED = 0) (a n : Nat) (m : Memory) : (s.memWritten a n m).dram = m := by
  rw [State.memWritten, State.keepFailed_sound h]
  rfl

theorem State.memWritten_chk {s : State} (h : s.get .MEM_STATUS_SC_FAILED = 0) (a n : Nat) (m : Memory) :
    (s.memWritten a n m).mem.chk = cleanBlocks s.mem.chk a n := by
  rw [State.memWritten, State.keepFailed_sound h]
  rfl

theorem State.memWritten_keeps {s : State} (h : s.get .MEM_STATUS_SC_FAILED = 0) (a n : Nat) (m : Memory) :
    Keeps [.dram, .mem] (only []) s (s.memWritten a n m) := by
  rw [State.memWritten, State.keepFailed_sound h]
  exact ((Keeps.refl _ _ s).withDram m (by simp)).updMem _ (by simp)

/-- A block just written whole can be read. -/
theorem State.badBlocks_cleaned {s : State} (h : s.get .MEM_STATUS_SC_FAILED = 0) {a : Nat} (ha : a % 256 = 0) {chk : Tab Word}
    (hc : s.mem.chk = cleanBlocks chk a 256) : s.badBlocks a 64 = [] := by
  rw [State.badBlocks, if_pos h, hc, List.filter_eq_nil_iff]
  intro b hb
  obtain ⟨e, he, rfl⟩ := List.mem_map.mp hb
  have hout : ¬ (a ≤ dramBase + 256 * e.1 ∧ dramBase + 256 * e.1 + 256 ≤ a + 256) := by
    simpa only [Bool.not_eq_true', decide_eq_false_iff_not] using (List.mem_filter.mp he).2
  have hbase : dramBase % 256 = 0 := by decide
  simp only [decide_eq_true_eq]
  omega

theorem State.writeHdr_eq (s : State) (d : Nat) (h : BufHdr) (bad : Bool) :
    s.writeHdr d h bad = (s.chargeBlocks h.port 1).storeBytes (s.bufAddr d) (h.stored bad ++ List.replicate 192 0) := rfl

/-- What the write of a header leaves where no sub-channel is in FAILED. -/
structure HeaderWritten (d : Nat) (h : BufHdr) (bad : Bool) (s t : State) : Prop where
  bytes : readBytes Config.dramFill t.dram (s.bufAddr d) 64 = h.stored bad
  sound : t.badBlocks (s.bufAddr d) 64 = []
  addr : t.bufAddr d = s.bufAddr d
  keeps : Keeps [.dram, .mem] (only []) s t

theorem State.writeHdr_spec {s : State} (hsc : s.get .MEM_STATUS_SC_FAILED = 0) (d : Nat) (h : BufHdr) (bad : Bool) :
    HeaderWritten d h bad s (s.writeHdr d h bad) := by
  have hcharged : (s.chargeBlocks h.port 1).get .MEM_STATUS_SC_FAILED = 0 := (State.get_of_regs (s.chargeBlocks_regs _ _) _).trans hsc
  have hk : Keeps [.dram, .mem] (only []) s (s.writeHdr d h bad) := by
    rw [State.writeHdr_eq, State.storeBytes_eq]
    exact ((s.chargeBlocks_keeps _ _).widen (by simp) (fun _ => id)).trans (State.memWritten_keeps hcharged _ _ _)
  refine ⟨?_, ?_, State.bufAddr_of_word (fun a => hk.word (by simp [only])) d, hk⟩
  · have hread := readBytes_writeBytes_prefix Config.dramFill (s.chargeBlocks h.port 1).dram (s.bufAddr d) (h.stored bad) (List.replicate 192 0)
    rw [h.stored_length] at hread
    rw [State.writeHdr_eq, State.storeBytes_eq, State.memWritten_dram hcharged, hread]
  · refine State.badBlocks_cleaned (chk := s.mem.chk) ((hk.get .MEM_STATUS_SC_FAILED (by simp [only])).trans hsc) (s.bufAddr_aligned d) ?_
    rw [State.writeHdr_eq, State.storeBytes_eq, h.block_length, State.memWritten_chk hcharged, State.chargeBlocks_chk]

end Sys2Proof.Machine
end

section
/-!
SUPPORT. The check of a completed capture's header (R110 to R112, R271): refused, accepted, or not readable.
-/

namespace Sys2Proof.Machine

open Sys2Proof

/-! ### A refused buffer -/

/-- A refused buffer is freed, marked BAD, reported and logged. -/
def State.bufRefused (s : State) (d : Nat) : State :=
  ((s.updDesc d fun _ => { Desc.init with bad := true }).setB .CMP_INT_STATUS_BUF_BAD true).log 0x0406 (by2 d ++ [1, 0])

theorem State.headerCheck_refused {s : State} {d : Nat} {h : BufHdr} (hno : s.hdrAccepted d h = false) :
    s.headerCheck d h = ((s.chargeBlocks 50 1).persistAll 50 (s.badBlocks (s.bufAddr d) 64)).bufRefused d := by
  unfold State.headerCheck
  dsimp only
  rw [hno]
  rfl

/-- What a refusal does to the buffer, whether the log has room or not. -/
structure BufRefused (d : Nat) (s t : State) : Prop where
  desc : t.desc d = { Desc.init with bad := true }
  other : ∀ x, x ≠ d → t.desc x = s.desc x
  reported : t.on .CMP_INT_STATUS_BUF_BAD = true
  keeps : Keeps [.descs, .sco] (only [Reg.CMP_INT_STATUS, Reg.LOG_DROP]) s t

theorem Keeps.desc {ps : List Part} {W : Nat → Prop} {s t : State} (h : Keeps ps W s t) (hp : .descs ∉ ps) (d : Nat) : t.desc d = s.desc d :=
  congrArg (Tab.get Desc.init · d) (h.same hp)

theorem State.bufRefused_spec (s : State) (d : Nat) : BufRefused d s (s.bufRefused d) := by
  have hmarked : Keeps [.descs, .sco] (only [Reg.CMP_INT_STATUS, Reg.LOG_DROP]) s
      ((s.updDesc d fun _ => { Desc.init with bad := true }).setB .CMP_INT_STATUS_BUF_BAD true) :=
    ((Keeps.refl _ _ s).updDesc d _ (by simp)).setB .CMP_INT_STATUS_BUF_BAD _ List.mem_cons_self
  have hlog := State.log_keeps ((s.updDesc d fun _ => { Desc.init with bad := true }).setB .CMP_INT_STATUS_BUF_BAD true) 0x0406 (by2 d ++ [1, 0])
  have hset := Keeps.setB (Keeps.refl [] (only [Reg.CMP_INT_STATUS]) (s.updDesc d fun _ => { Desc.init with bad := true }))
    .CMP_INT_STATUS_BUF_BAD true List.mem_cons_self
  refine ⟨?_, fun x hx => ?_, ?_, hmarked.logFull _ _ (by simp) (by simp [only])⟩
  · exact (hlog.desc (by simp) d).trans ((hset.desc (by simp) d).trans ((State.updDesc_desc ..).trans (if_pos rfl)))
  · exact (hlog.desc (by simp) x).trans ((hset.desc (by simp) x).trans ((State.updDesc_desc ..).trans (if_neg hx)))
  · exact (hlog.on _ (by simp [only]; decide)).trans (State.on_setB _ _ rfl rfl)

/-- With room, the log names the buffer. -/
theorem State.bufRefused_logged {s : State} (hr : s.logRoom) (d : Nat) :
    (s.bufRefused d).lastLog = some (0x0406, [d % 256, d / 256 % 256, 1, 0])
      ∧ Keeps [.descs, .sco] (only [Reg.CMP_INT_STATUS]) s (s.bufRefused d) := by
  have hmarked : Keeps [.descs] (only [Reg.CMP_INT_STATUS]) s
      ((s.updDesc d fun _ => { Desc.init with bad := true }).setB .CMP_INT_STATUS_BUF_BAD true) :=
    ((Keeps.refl _ _ s).updDesc d _ (by simp)).setB .CMP_INT_STATUS_BUF_BAD _ List.mem_cons_self
  have hroom := hmarked.logRoom (by simp) hr
  refine ⟨?_, (hmarked.widen (by simp) (fun _ => id)).log hroom _ _ (by simp)⟩
  rw [State.bufRefused, State.lastLog_log hroom]
  simp [by2]

/-! ### An accepted buffer (R111, R112) -/

theorem Keeps.settleBuf {ps : List Part} {W : Nat → Prop} {s t : State} (h : Keeps ps W s t) (d : Nat) (hp : .descs ∈ ps) :
    Keeps ps W s (t.settleBuf d) := by
  unfold State.settleBuf
  dsimp only
  split
  · exact h.updDesc d _ hp
  · exact h

theorem Keeps.retireBuf {ps : List Part} {W : Nat → Prop} {s t : State} (h : Keeps ps W s t) (d : Nat) (hp : .descs ∈ ps) :
    Keeps ps W s (t.retireBuf d) := (h.updDesc d _ hp).settleBuf d hp

theorem Keeps.retain {ps : List Part} {W : Nat → Prop} {s t : State} (h : Keeps ps W s t) (src : BitVec 16) (hp : .descs ∈ ps) :
    Keeps ps W s (t.retain src) := by
  unfold State.retain
  dsimp only
  split
  · split
    · exact h.retireBuf _ hp
    · exact h
  · exact h

theorem State.headerCheck_accepted_keeps {s : State} {d : Nat} {h : BufHdr} (hyes : s.hdrAccepted d h = true) (hb : s.badBlocks (s.bufAddr d) 64 = []) :
    Keeps [.mem, .descs] (only []) s (s.headerCheck d h) := by
  have hread := (s.chargeBlocks_keeps 50 1).widen (qs := [.mem, .descs]) (bs := []) (by simp) (fun _ => id)
  unfold State.headerCheck
  dsimp only
  rw [hyes, if_pos rfl, hb]
  split
  · exact (hread.updDesc d _ (by simp)).retireBuf d (by simp)
  · exact (hread.updDesc d _ (by simp)).retain _ (by simp)

/-! ### A block that cannot be read (R271) -/

/-- The registers in which a persistent failure shows. -/
def persistRegs : List Nat := [Reg.MEM_CHK_CNT, Reg.MEM_INT_STATUS, Reg.MEM_CHK_ADDR_LO, Reg.MEM_CHK_ADDR_HI, Reg.MEM_CHK_INFO, Reg.LOG_DROP]

theorem State.persist_spec (s : State) (port a kind : Nat) :
    (s.persist port a kind).on .MEM_INT_STATUS_CHK_PERSIST = true ∧ Keeps [.sco] (only persistRegs) s (s.persist port a kind) := by
  have hcount : Keeps [.sco] (only persistRegs) s ((s.count .MEM_CHK_CNT_PERSIST).setB .MEM_INT_STATUS_CHK_PERSIST true) :=
    ((Keeps.refl _ _ s).count .MEM_CHK_CNT_PERSIST (by simp only [only]; decide)).setB .MEM_INT_STATUS_CHK_PERSIST _ (by simp only [only]; decide)
  have hnone := Keeps.refl [.sco] (only [Reg.MEM_CHK_ADDR_LO, Reg.MEM_CHK_ADDR_HI, Reg.MEM_CHK_INFO, Reg.LOG_DROP])
    ((s.count .MEM_CHK_CNT_PERSIST).setB .MEM_INT_STATUS_CHK_PERSIST true)
  have hrest : Keeps [.sco] (only [Reg.MEM_CHK_ADDR_LO, Reg.MEM_CHK_ADDR_HI, Reg.MEM_CHK_INFO, Reg.LOG_DROP])
      ((s.count .MEM_CHK_CNT_PERSIST).setB .MEM_INT_STATUS_CHK_PERSIST true) (s.persist port a kind) := by
    unfold State.persist
    dsimp only
    refine Keeps.logFull (((((hnone.set .MEM_CHK_ADDR_LO_ADDR_LO _ ?_).set .MEM_CHK_ADDR_HI_ADDR_HI _ ?_).set .MEM_CHK_INFO_PORT _ ?_).set
      .MEM_CHK_INFO_KIND _ ?_).set .MEM_CHK_INFO_TICK _ ?_) _ _ (by simp) ?_ <;> simp only [only] <;> decide
  exact ⟨(hrest.on _ (by simp only [only]; decide)).trans (State.on_setB _ _ rfl rfl), hcount.trans (hrest.widen (fun _ => id) (by simp [persistRegs]))⟩

/-! ### A header in a failed sub-channel (R275) -/

theorem State.blockFailed_of_word {s t : State} (h : ∀ a, a ≠ Reg.MEM_CHK_CNT → t.word a = s.word a) (a : Nat) : t.blockFailed a = s.blockFailed a := by
  have hget : ∀ f : Fld, f.addr ≠ Reg.MEM_CHK_CNT → t.get f = s.get f := fun f hf => congrArg f.of (h _ hf)
  have hsub : ∀ u, t.get (.MEM_SC_STATUS_STATE u) = s.get (.MEM_SC_STATUS_STATE u) := fun u =>
    hget _ (by show 0x10070100 + 0x40 * u ≠ 0x10070030; omega)
  have hmap : t.memMap a = s.memMap a := by
    unfold State.memMap State.memSubs State.memV State.memT
    rw [hget .MEM_CFG_CHANNELS (by decide), hget .MEM_CFG_ORG (by decide)]
  unfold State.blockFailed
  rw [hget .MEM_STATUS_SC_FAILED (by decide), hmap]
  simp only [hsub]

theorem State.scFailed_of_blockFailed {s : State} {a : Nat} (h : s.blockFailed a = true) : s.get .MEM_STATUS_SC_FAILED ≠ 0 := by
  simp only [State.blockFailed, Bool.and_eq_true, bne_iff_ne] at h
  exact h.1

theorem State.badBlocks_failed {s : State} {a : Nat} (h : s.blockFailed a = true) (ha : a % 256 = 0) : s.badBlocks a 64 = [a] := by
  rw [State.badBlocks, if_neg (State.scFailed_of_blockFailed h), blocksOf_one ha (by decide) (by decide)]
  simp [h]

/-- A write of one block in a failed sub-channel is discarded, and counted. -/
theorem State.keepFailed_lost {s : State} {a : Nat} (h : s.blockFailed a = true) (ha : a % 256 = 0) (m : Memory) :
    s.keepFailed a 256 m
      = { s.count .MEM_CHK_CNT_PERSIST with dram := writeBytes Config.dramFill m a (readBytes Config.dramFill s.dram a 256) } := by
  have hlost : (blocksOf a 256).filter s.blockFailed = [a] := by
    rw [blocksOf_one ha (by decide) (Nat.le_refl _)]
    simp [h]
  unfold State.keepFailed
  dsimp only
  rw [if_neg (State.scFailed_of_blockFailed h), hlost, List.foldl_cons, List.foldl_nil, List.length_singleton]

theorem State.withDram_updMem_dram (s : State) (m : Memory) (f : MemSt → MemSt) : (State.updMem { s with dram := m } f).dram = m := rfl

theorem readBytes_writeBytes_back (d : Byte) (m m' : Memory) (a n k : Nat) (h : k ≤ n) :
    readBytes d (writeBytes d m a (readBytes d m' a n)) a k = readBytes d m' a k := by
  have hback := readBytes_writeBytes d m a (readBytes d m' a n)
  rw [readBytes_length] at hback
  rw [← take_readBytes d _ k n a h, hback, take_readBytes d m' k n a h]

/-- What the write of a header leaves where its block lies in a failed sub-channel. -/
structure HeaderLost (d : Nat) (s t : State) : Prop where
  bytes : readBytes Config.dramFill t.dram (s.bufAddr d) 64 = readBytes Config.dramFill s.dram (s.bufAddr d) 64
  bad : t.badBlocks (t.bufAddr d) 64 = [s.bufAddr d]
  keeps : Keeps [.dram, .mem] (only [Reg.MEM_CHK_CNT]) s t

theorem State.writeHdr_lost {s : State} {d : Nat} (hf : s.blockFailed (s.bufAddr d) = true) (h : BufHdr) (bad : Bool) :
    HeaderLost d s (s.writeHdr d h bad) := by
  have hchargedWord : ∀ a, (s.chargeBlocks h.port 1).word a = s.word a := State.word_of_regs (s.chargeBlocks_regs _ _)
  have hcharged : (s.chargeBlocks h.port 1).blockFailed (s.bufAddr d) = true := (State.blockFailed_of_word (fun a _ => hchargedWord a) _).trans hf
  have hdram : (s.chargeBlocks h.port 1).dram = s.dram := (s.chargeBlocks_keeps _ _).same (p := .dram) (by simp)
  have heq : s.writeHdr d h bad = State.updMem { (s.chargeBlocks h.port 1).count .MEM_CHK_CNT_PERSIST with
      dram := writeBytes Config.dramFill (writeBytes Config.dramFill s.dram (s.bufAddr d) (h.stored bad ++ List.replicate 192 0)) (s.bufAddr d)
        (readBytes Config.dramFill s.dram (s.bufAddr d) 256) } fun x => { x with chk := cleanBlocks x.chk (s.bufAddr d) 256 } := by
    rw [State.writeHdr_eq, State.storeBytes_eq, h.block_length, State.memWritten, State.keepFailed_lost hcharged (s.bufAddr_aligned d), hdram]
  have hk : Keeps [.dram, .mem] (only [Reg.MEM_CHK_CNT]) s (s.writeHdr d h bad) := by
    rw [heq]
    exact ((((s.chargeBlocks_keeps _ _).widen (by simp) (by simp)).count .MEM_CHK_CNT_PERSIST List.mem_cons_self).withDram _ (by simp)).updMem _ (by simp)
  have hword : ∀ a, a ≠ Reg.MEM_CHK_CNT → (s.writeHdr d h bad).word a = s.word a := fun a ha => hk.word (by simpa [only] using ha)
  have haddr : (s.writeHdr d h bad).bufAddr d = s.bufAddr d := by
    refine State.bufAddr_of_get (fun f hfld => congrArg f.of (hword _ ?_)) d
    revert f
    decide
  refine ⟨?_, ?_, hk⟩
  · rw [heq, State.withDram_updMem_dram]
    exact readBytes_writeBytes_back Config.dramFill _ _ _ 256 64 (by decide)
  · rw [haddr]
    exact State.badBlocks_failed ((State.blockFailed_of_word hword _).trans hf) (s.bufAddr_aligned d)

end Sys2Proof.Machine
end

section
/-!
SUPPORT. A completed capture (R59, R110, R167): its header written, checked, and its trick ended.
-/

namespace Sys2Proof.Machine

open Sys2Proof

/-- The Talon manager checks the header that the capture of input `i` has left in buffer `d`, and the trick ends. -/
def State.captureChecked (s : State) (i d : Nat) (h : BufHdr) : State :=
  let t := (s.headerCheck d h).capTrickEnd i d
  if s.hdrAccepted d h then ((t.count (.CAP_FRAMES_CAPTURED i)).set (.CAP_LASTBUF_INDEX i) d).set (.CAP_LASTBUF_TICK i) t.tick16 else t

/-- A capture that holds buffer `d`, with its active video over and its header `c` at hand, is complete. -/
structure CaptureDone (i : Fin 16) (r : RunTrick) (c : BufRec) (d : Nat) (e : Word) (s : State) : Prop where
  fresh : s.staleRun .capture i = false
  trick : s.capTrick i true = some r
  recd : (s.cap i).recDone = some c
  buf : r.buf = some d
  eav : r.eav = some e

theorem CaptureDone.complete {i : Fin 16} {r : RunTrick} {c : BufRec} {d : Nat} {e : Word} {s : State} (h : CaptureDone i r c d e s)
    (bad : Bool) (w : Word) : s.captureComplete i bad w = ((s.at_ w).writeHdr d c.hdr bad).captureChecked i d c.hdr := by
  simp only [State.captureComplete, h.trick, h.recd, h.buf, h.eav]
  rfl

theorem gives_captureComplete {i : Fin 16} {r : RunTrick} {c : BufRec} {d : Nat} {e : Word} {s : State} {P : State → Prop} {bad : Bool} {w : Word}
    (hu : s.up) (h : CaptureDone i r c d e s) (hp : P (((s.quiet.at_ w).writeHdr d c.hdr bad).captureChecked i d c.hdr)) :
    Gives (.captureComplete i bad w) s P := by
  have hq : CaptureDone i r c d e s.quiet := ⟨h.fresh, h.trick, h.recd, h.buf, h.eav⟩
  refine gives_awake (fun s => if s.staleRun .capture i then s else s.captureComplete i bad w) hu rfl ?_
  rwa [if_neg (by simp [hq.fresh]), hq.complete]

theorem State.capTrickEnd_freed (s : State) (i d : Nat) :
    ∀ q ∈ (s.capTrickEnd i d).dealer.tricks, q.trick.cls = .capture → q.trick.job = i → q.buf ≠ some d := by
  intro q hq hcls hjob
  obtain ⟨r, -, rfl⟩ := List.mem_map.mp hq
  by_cases hown : (r.trick.cls == .capture && r.trick.job == i && r.buf == some d) = true
  · rw [if_pos hown]
    simp
  · rw [if_neg hown] at hcls hjob ⊢
    exact fun hbuf => hown (by simp [hcls, hjob, hbuf])

/-! ### Refused -/

theorem State.captureChecked_refused {s : State} {i d : Nat} {h : BufHdr} (hno : s.hdrAccepted d h = false) :
    s.captureChecked i d h = (((s.chargeBlocks 50 1).persistAll 50 (s.badBlocks (s.bufAddr d) 64)).bufRefused d).capTrickEnd i d := by
  unfold State.captureChecked
  dsimp only
  rw [hno, State.headerCheck_refused hno]
  rfl

/-- What a header whose check word does not match leads to. -/
structure CaptureRefused (i d : Nat) (s t : State) : Prop where
  desc : t.desc d = { Desc.init with bad := true }
  reported : t.on .CMP_INT_STATUS_BUF_BAD = true
  freed : ∀ q ∈ t.dealer.tricks, q.trick.cls = .capture → q.trick.job = i → q.buf ≠ some d
  logged : t.lastLog = some (0x0406, [d % 256, d / 256 % 256, 1, 0])
  other : ∀ x, x ≠ d → t.desc x = s.desc x
  keeps : Keeps [.time, .dram, .mem, .descs, .dealer, .sco] (only [Reg.CMP_INT_STATUS]) s t

theorem State.captureComplete_bad {s : State} (hr : s.logRoom) (hsc : s.get .MEM_STATUS_SC_FAILED = 0) (i d : Nat) (h : BufHdr) :
    CaptureRefused i d s ((s.writeHdr d h true).captureChecked i d h) := by
  obtain ⟨hbytes, hsound, haddr, hwritten⟩ := State.writeHdr_spec hsc d h true
  generalize s.writeHdr d h true = u at hbytes hsound haddr hwritten ⊢
  have hno : u.hdrAccepted d h = false := by
    rw [State.hdrAccepted, haddr, hbytes, hdrChkOk_stored]
    simp
  have hread : Keeps [.dram, .mem] (only []) s (u.chargeBlocks 50 1) := hwritten.trans ((u.chargeBlocks_keeps 50 1).widen (by simp) (fun _ => id))
  rw [State.captureChecked_refused hno, haddr, hsound]
  show CaptureRefused i d s (((u.chargeBlocks 50 1).bufRefused d).capTrickEnd i d)
  generalize u.chargeBlocks 50 1 = v at hread ⊢
  obtain ⟨hdesc, hother, hon, -⟩ := v.bufRefused_spec d
  obtain ⟨hlog, hk⟩ := State.bufRefused_logged (hread.logRoom (by simp) hr) d
  exact ⟨hdesc, hon, State.capTrickEnd_freed _ i d, hlog, fun x hx => (hother x hx).trans (hread.desc (by simp) x),
    ((hread.widen (by simp) (by simp)).trans (hk.widen (by simp) (fun _ => id))).capTrickEnd i d (by simp)⟩

/-! ### Accepted -/

theorem State.captureChecked_accepted {s : State} {i d : Nat} {h : BufHdr} (hyes : s.hdrAccepted d h = true) :
    s.captureChecked i d h = ((((s.headerCheck d h).capTrickEnd i d).count (.CAP_FRAMES_CAPTURED i)).set (.CAP_LASTBUF_INDEX i) d).set (.CAP_LASTBUF_TICK i)
      ((s.headerCheck d h).capTrickEnd i d).tick16 := if_pos hyes

/-- A captured frame is counted and its buffer shown. -/
structure CaptureShown (i : Fin 16) (d : Nat) (s t : State) : Prop where
  counted : t.get (.CAP_FRAMES_CAPTURED i) = satAdd 16 (s.get (.CAP_FRAMES_CAPTURED i)) 1
  index : t.get (.CAP_LASTBUF_INDEX i) = d
  tick : t.get (.CAP_LASTBUF_TICK i) = s.tick16
  keeps : Keeps [] (only [Reg.CAP_FRAMES i, Reg.CAP_LASTBUF i]) s t

theorem State.captureShown_spec (s : State) (i : Fin 16) {d : Nat} (hd : d < 8192) :
    CaptureShown i d s (((s.count (.CAP_FRAMES_CAPTURED i)).set (.CAP_LASTBUF_INDEX i) d).set (.CAP_LASTBUF_TICK i) s.tick16) := by
  have hreg : Reg.CAP_FRAMES i ≠ Reg.CAP_LASTBUF i := by apply checkEach i; decide
  refine ⟨?_, ?_, ?_, (((Keeps.refl _ _ s).count (.CAP_FRAMES_CAPTURED i) List.mem_cons_self).set (.CAP_LASTBUF_INDEX i) _
    (List.mem_cons_of_mem _ List.mem_cons_self)).set (.CAP_LASTBUF_TICK i) _ (List.mem_cons_of_mem _ List.mem_cons_self)⟩
  · rw [State.get_set_addr _ _ hreg, State.get_set_addr _ _ hreg, State.get_count_self _ rfl]
    rfl
  · rw [State.get_set_other _ _ (by apply checkEach i; decide), State.get_set_fits _ rfl rfl hd]
  · exact State.get_set_fits _ rfl rfl (Nat.mod_lt _ (by decide))

/-- What a header that passes leads to. -/
structure CaptureAccepted (i : Fin 16) (d : Nat) (h : BufHdr) (s t : State) : Prop where
  counted : t.get (.CAP_FRAMES_CAPTURED i) = satAdd 16 (s.get (.CAP_FRAMES_CAPTURED i)) 1
  index : t.get (.CAP_LASTBUF_INDEX i) = d
  tick : t.get (.CAP_LASTBUF_TICK i) = s.tick16
  freed : ∀ q ∈ t.dealer.tricks, q.trick.cls = .capture → q.trick.job = i → q.buf ≠ some d
  bytes : readBytes Config.dramFill t.dram (s.bufAddr d) 60 = h.body
  keeps : Keeps [.time, .dram, .mem, .descs, .dealer] (only [Reg.CAP_FRAMES i, Reg.CAP_LASTBUF i]) s t

theorem State.captureComplete_good {s : State} (hsc : s.get .MEM_STATUS_SC_FAILED = 0) (i : Fin 16) {d : Nat} (hd : d < 8192) {h : BufHdr}
    (hlo : 1 ≤ h.format) (hhi : h.format ≤ 6) (hdim : (h.width, h.height) = s.srcDim (s.desc d).src) :
    CaptureAccepted i d h s ((s.writeHdr d h false).captureChecked i d h) := by
  obtain ⟨hbytes, hsound, haddr, hwritten⟩ := State.writeHdr_spec hsc d h false
  generalize s.writeHdr d h false = u at hbytes hsound haddr hwritten ⊢
  have hdimNow : (h.width, h.height) = u.srcDim (u.desc d).src := by
    rw [hwritten.desc (by simp) d, State.srcDim_of_word (fun a => hwritten.word (by simp [only])) (hwritten.same (p := .image) (by simp)), hdim]
  have hyes : u.hdrAccepted d h = true := by
    rw [State.hdrAccepted, haddr, hbytes, hdrChkOk_stored, hsound, ← hdimNow]
    simp [hlo, hhi]
  have hbody : readBytes Config.dramFill u.dram (s.bufAddr d) 60 = h.body := by
    rw [← take_readBytes _ _ 60 64 _ (by decide), hbytes]
    exact List.take_left' h.body_length
  have hchecked : Keeps [.dram, .mem, .descs, .dealer] (only []) u ((u.headerCheck d h).capTrickEnd i d) :=
    ((State.headerCheck_accepted_keeps hyes (haddr ▸ hsound)).widen (by simp) (fun _ => id)).capTrickEnd i d (by simp)
  have hdram : ((u.headerCheck d h).capTrickEnd i d).dram = u.dram :=
    (State.headerCheck_accepted_keeps hyes (haddr ▸ hsound)).same (p := .dram) (by simp)
  have hfreed := State.capTrickEnd_freed (u.headerCheck d h) i d
  rw [State.captureChecked_accepted hyes]
  generalize (u.headerCheck d h).capTrickEnd i d = v at hchecked hdram hfreed ⊢
  have hall : Keeps [.dram, .mem, .descs, .dealer] (only []) s v := (hwritten.widen (by simp) (fun _ => id)).trans hchecked
  obtain ⟨hcount, hindex, htick, hshown⟩ := v.captureShown_spec i hd
  generalize ((v.count (.CAP_FRAMES_CAPTURED i)).set (.CAP_LASTBUF_INDEX i) d).set (.CAP_LASTBUF_TICK i) v.tick16 = t at hcount hindex htick hshown ⊢
  refine ⟨?_, hindex, ?_, ?_, ?_, (hall.widen (by simp) (by simp)).trans (hshown.widen (by simp) (fun _ => id))⟩
  · rw [hcount, hall.get _ (by simp [only])]
  · rw [htick, State.tick16, State.tick16, State.tick, State.tick, hall.word (by simp [only])]
  · rw [hshown.same (p := .dealer) (by simp)]
    exact hfreed
  · rw [hshown.same (p := .dram) (by simp), hdram]
    exact hbody

/-! ### Not readable -/

/-- What a header that lies in a failed sub-channel leads to. -/
structure CaptureLost (i d : Nat) (s t : State) : Prop where
  desc : t.desc d = { Desc.init with bad := true }
  reported : t.on .CMP_INT_STATUS_BUF_BAD = true
  persists : t.on .MEM_INT_STATUS_CHK_PERSIST = true
  uncounted : t.get (.CAP_FRAMES_CAPTURED i) = s.get (.CAP_FRAMES_CAPTURED i)
  bytes : readBytes Config.dramFill t.dram (s.bufAddr d) 64 = readBytes Config.dramFill s.dram (s.bufAddr d) 64
  other : ∀ x, x ≠ d → t.desc x = s.desc x

theorem State.captureComplete_lost {s : State} (i : Fin 16) {d : Nat} (hf : s.blockFailed (s.bufAddr d) = true) (h : BufHdr) (bad : Bool) :
    CaptureLost i d s ((s.writeHdr d h bad).captureChecked i d h) := by
  obtain ⟨hbytes, hbad, hwritten⟩ := State.writeHdr_lost hf h bad
  generalize s.writeHdr d h bad = u at hbytes hbad hwritten ⊢
  have hno : u.hdrAccepted d h = false := by
    rw [State.hdrAccepted, hbad]
    rfl
  rw [State.captureChecked_refused hno, hbad]
  obtain ⟨hpersist, hnoted⟩ := (u.chargeBlocks 50 1).persist_spec 50 (s.bufAddr d) (if (u.chargeBlocks 50 1).blockFailed (s.bufAddr d) then 3 else 0)
  rw [State.persistAll, List.foldl_cons, List.foldl_nil]
  have hread : Keeps [.dram, .mem, .sco] (only persistRegs) s (u.chargeBlocks 50 1) :=
    (hwritten.widen (by simp) (by simp [persistRegs])).trans ((u.chargeBlocks_keeps 50 1).widen (by simp) (by simp))
  have hdram : (u.chargeBlocks 50 1).dram = u.dram := (u.chargeBlocks_keeps 50 1).same (p := .dram) (by simp)
  generalize (u.chargeBlocks 50 1).persist 50 (s.bufAddr d) (if (u.chargeBlocks 50 1).blockFailed (s.bufAddr d) then 3 else 0) = v at hpersist hnoted ⊢
  have hall : Keeps [.dram, .mem, .sco] (only persistRegs) s v := hread.trans (hnoted.widen (by simp) (fun _ => id))
  obtain ⟨hdesc, hother, hon, hk⟩ := v.bufRefused_spec d
  refine ⟨hdesc, hon, (hk.on .MEM_INT_STATUS_CHK_PERSIST (by simp only [only]; decide)).trans hpersist, ?_, ?_,
    fun x hx => (hother x hx).trans (hall.desc (by simp) x)⟩
  · have hcap : ∀ a ∈ persistRegs ++ [Reg.CMP_INT_STATUS, Reg.LOG_DROP], Reg.CAP_FRAMES i ≠ a := by apply checkEach i; decide
    exact (hk.get (.CAP_FRAMES_CAPTURED i) fun ha => hcap _ (List.mem_append_right _ ha) rfl).trans
      (hall.get _ fun ha => hcap _ (List.mem_append_left _ ha) rfl)
  · have hnow : v.dram = (u.chargeBlocks 50 1).dram := hnoted.same (p := .dram) (by simp)
    have hlast : ((v.bufRefused d).capTrickEnd i d).dram = v.dram := hk.same (p := .dram) (by simp)
    rw [hlast, hnow, hdram, hbytes]

end Sys2Proof.Machine
end

section
/-!
SUPPORT. A start of active video (R164, R28): what the frame it opens records, and that it issues no trick of an empty deal.
-/

namespace Sys2Proof.Machine

open Sys2Proof

/-! ### What the deal's tricks on an input are read from -/

theorem listedLayers_setWord_apart {a : Nat} (ha : ∀ l < 512, a ≠ Reg.CMP_VL_CTRL l) (s : State) (w : Word) :
    listedLayers (s.setWord a w).regs = listedLayers s.regs := by
  have hn : ∀ v : Word, (fun (e : Nat × Word) =>
      let l := (e.1 - Reg.CMP_VL_CTRL 0) / 0x20
      if Reg.CMP_VL_CTRL 0 ≤ e.1 ∧ l < 512 ∧ e.1 = Reg.CMP_VL_CTRL l then some l else none) (a, v) = none :=
    fun v => if_neg fun ⟨_, hl, he⟩ => ha _ hl he
  unfold listedLayers State.setWord Tab.put
  dsimp only
  split
  · exact Tab.filterMap_erase hn _
  · exact Tab.filterMap_insert hn _ _

theorem listedLayers_lt {t : Tab Word} {l : Nat} (h : l ∈ listedLayers t) : l < 512 := by
  obtain ⟨e, -, he⟩ := List.mem_filterMap.mp h
  dsimp only at he
  split at he
  · next hl => cases he; exact hl.2.1
  · cases he

theorem geoOf_of_word {rd rd' : Nat → Word} (h : ∀ a < 0x20008000, rd' a = rd a) {l : Nat} (hl : l < 512) : geoOf rd' l = geoOf rd l := by
  have e : ∀ k < 0x20, rd' (0x20004000 + k + 0x20 * l) = rd (0x20004000 + k + 0x20 * l) := fun k hk => h _ (by omega)
  have e0 := e 0x00 (by decide)
  have e4 := e 0x04 (by decide)
  have e8 := e 0x08 (by decide)
  have eC := e 0x0C (by decide)
  have e10 := e 0x10 (by decide)
  have e14 := e 0x14 (by decide)
  unfold geoOf Reg.CMP_VL_CTRL Reg.CMP_VL_SRC Reg.CMP_VL_CROP_POS Reg.CMP_VL_CROP_SIZE Reg.CMP_VL_DST_POS Reg.CMP_VL_DST_SIZE
  simp only [Nat.add_zero, Nat.reduceAdd] at e0 e4 e8 eC e10 e14
  rw [e0, e4, e8, eC, e10, e14]

/-- The sources that the visible layers show are the same where the registers below the inputs' blocks are. -/
theorem shownSources_of_word {s t : State} (hl : listedLayers t.regs = listedLayers s.regs) (h : ∀ a < 0x20008000, t.word a = s.word a) :
    shownSources t.word (listedLayers t.regs) = shownSources s.word (listedLayers s.regs) := by
  unfold shownSources
  rw [hl]
  refine congrArg uniq (List.filterMap_congr fun l hmem => ?_)
  rw [geoOf_of_word h (listedLayers_lt hmem)]

theorem placed_issue (place : Tab Nat) (x : Trick) : (placed place x).issue = x.issue := by
  unfold placed
  cases x.cls <;> rfl

theorem State.decodeTricks_issue {s : State} {ts : List Trick} {x : Trick} (h : x ∈ s.decodeTricks ts) : x.issue = .offset 0 := by
  obtain ⟨y, -, hx⟩ := List.mem_flatMap.mp h
  rw [List.eq_of_mem_replicate hx]

theorem State.scanTricks_issue {s : State} {ts : List Trick} {x : Trick} (h : x ∈ s.scanTricks ts) : ∃ n, x.issue = .offset n := by
  obtain ⟨y, -, hx⟩ := List.mem_flatMap.mp h
  obtain ⟨j, -, rfl⟩ := List.mem_map.mp hx
  exact ⟨_, rfl⟩

/-- A deal that was empty holds tricks at offsets only, whatever registers of the inputs have changed. -/
theorem State.curDeal_offsets {s t : State} (hdeal : s.curDeal = []) (himage : t.image = s.image) (hdealer : t.dealer = s.dealer)
    (hshown : shownSources t.word (listedLayers t.regs) = shownSources s.word (listedLayers s.regs)) :
    ∀ x ∈ t.curDeal, ∃ n, x.issue = .offset n := by
  have hsrc : t.srcDesc = s.srcDesc := funext fun src => by rw [State.srcDesc, himage, State.srcDesc]
  unfold State.curDeal State.layout? at hdeal ⊢
  rw [himage, hdealer]
  cases hly : s.image.layouts[s.dealer.layout]? with
  | none => exact fun x hx => absurd hx List.not_mem_nil
  | some ly =>
    rw [hly] at hdeal
    simp only [State.dealAt, List.map_eq_nil_iff, List.append_eq_nil_iff] at hdeal
    obtain ⟨⟨-, hother⟩, henc⟩ := hdeal
    intro x hx
    simp only [State.dealAt, hsrc, hshown, himage, hother, henc, List.map_nil, List.append_nil] at hx
    obtain ⟨y, hy, rfl⟩ := List.mem_map.mp hx
    rw [placed_issue]
    rcases List.mem_append.mp hy with hy | hy
    · exact ⟨0, State.decodeTricks_issue hy⟩
    · exact State.scanTricks_issue hy

/-! ### The frame that it opens -/

/-- A register that is one field holds what is written to the field. -/
theorem State.word_setW_whole (s : State) (a : Nat) (w : Word) : (s.setW ⟨a, 0, 32⟩ w).word a = w := by
  have h := State.get_set_same s ⟨a, 0, 32⟩ w.toNat (Nat.le_refl 32)
  refine BitVec.eq_of_toNat_eq ?_
  simpa [State.get, Fld.of, Nat.mod_eq_of_lt w.isLt, Nat.mod_eq_of_lt (BitVec.isLt _)] using h

/-- The time of the event is taken, and a frame still in reception is damaged. -/
def State.savOpen (s : State) (i : Nat) (w : Word) : State := if (s.cap i).inFrame then (s.at_ w).frameDamage i else s.at_ w

/-- What a frame begins with. -/
structure FrameOpened (i : Nat) (w : Word) (s t : State) : Prop where
  inFrame : (t.cap i).inFrame = true
  undamaged : (t.cap i).damaged = false
  seq : (t.cap i).seq = (s.cap i).seq + 1
  frameNo : (t.cap i).frameNo = (s.cap i).frameNo + 1
  savTick : (t.cap i).savTick = s.tick
  seqShown : t.word (Reg.CAP_SEQ i) = (s.cap i).seq + 1
  savShown : t.word (Reg.CAP_SAV i) = w
  other : ∀ j, j ≠ i → t.cap j = s.cap j
  keeps : Keeps [.caps] (only [Reg.CAP_SEQ i, Reg.CAP_SAV i]) s t
  layers : listedLayers t.regs = listedLayers s.regs

theorem State.savShown_spec (s : State) (i : Nat) (w seq : Word) (f : CapSt → CapSt) (hin : (f (s.cap i)).inFrame = true)
    (hun : (f (s.cap i)).damaged = false) (hseq : (f (s.cap i)).seq = seq) (hs : seq = (s.cap i).seq + 1)
    (hno : (f (s.cap i)).frameNo = (s.cap i).frameNo + 1) (htick : (f (s.cap i)).savTick = s.tick) :
    FrameOpened i w s (((s.updCap i f).setW (.CAP_SEQ_VALUE i) seq).setW (.CAP_SAV_VALUE i) w) := by
  have hcap : (((s.updCap i f).setW (.CAP_SEQ_VALUE i) seq).setW (.CAP_SAV_VALUE i) w).cap i = f (s.cap i) := s.updCap_self i f
  have hne : Reg.CAP_SEQ i ≠ Reg.CAP_SAV i := by unfold Reg.CAP_SEQ Reg.CAP_SAV; omega
  have hlayer : ∀ a, 0x20008000 ≤ a → ∀ l < 512, a ≠ Reg.CMP_VL_CTRL l := fun a ha l hl => by unfold Reg.CMP_VL_CTRL; omega
  refine ⟨hcap ▸ hin, hcap ▸ hun, (hcap ▸ hseq).trans hs, hcap ▸ hno, hcap ▸ htick, ?_, State.word_setW_whole _ _ w, fun j hj => s.updCap_other f hj,
    (((Keeps.refl _ _ s).updCap i f List.mem_cons_self).set (.CAP_SEQ_VALUE i) _ List.mem_cons_self).set (.CAP_SAV_VALUE i) _
      (List.mem_cons_of_mem _ List.mem_cons_self), ?_⟩
  · rw [State.setW, State.word_set _ _ _ _ hne, ← hs]
    exact State.word_setW_whole _ _ seq
  · exact (listedLayers_setWord_apart (hlayer _ (by show 0x20008000 ≤ 0x20020134 + 0x100 * i; omega)) _ _).trans
      (listedLayers_setWord_apart (hlayer _ (by show 0x20008000 ≤ 0x20020130 + 0x100 * i; omega)) _ _)

theorem State.savStart_opens {s : State} {i : Nat} (hv : s.rxState i = rxVideo) (w : Word) : FrameOpened i w (s.savOpen i w) (s.savStart i w).1 := by
  unfold State.savStart
  dsimp only
  rw [if_neg (not_not_intro hv)]
  exact State.savShown_spec _ _ _ _ _ rfl rfl rfl rfl rfl rfl

theorem State.savOpen_cap (s : State) (i : Nat) (w : Word) :
    ((s.savOpen i w).cap i).seq = (s.cap i).seq ∧ ((s.savOpen i w).cap i).frameNo = (s.cap i).frameNo := by
  unfold State.savOpen
  split
  · rw [((s.at_ w).frameDamage_spec i).cap]
    exact ⟨rfl, rfl⟩
  · exact ⟨rfl, rfl⟩

theorem State.savOpen_closed {s : State} {i : Nat} (h : (s.cap i).inFrame = false) (w : Word) : s.savOpen i w = s.at_ w :=
  if_neg (by rw [h]; decide)

/-! ### The tricks that it issues (R28) -/

theorem State.inputSav_eq (s : State) (i : Nat) (w : Word) : s.inputSav i w
    = (s.savStart i w).1.issueWhere fun x => x.issue == .sav i && (x.cls != .capture || (s.savStart i w).2) := rfl

theorem State.inputSav_cap {s : State} {i : Nat} (hv : s.rxState i = rxVideo) (w : Word) :
    ((s.inputSav i w).cap i).inFrame = true ∧ ((s.inputSav i w).cap i).damaged = false ∧ ((s.inputSav i w).cap i).seq = (s.cap i).seq + 1
      ∧ ((s.inputSav i w).cap i).frameNo = (s.cap i).frameNo + 1 := by
  have hopen := State.savStart_opens hv w
  obtain ⟨hseq, hno⟩ := s.savOpen_cap i w
  have hcap : (s.inputSav i w).cap i = (s.savStart i w).1.cap i := by
    rw [State.inputSav_eq, State.cap, State.issueWhere_caps, State.cap]
  rw [hcap]
  exact ⟨hopen.inFrame, hopen.undamaged, hseq ▸ hopen.seq, hno ▸ hopen.frameNo⟩

/-- With a deal in force that is empty, the start of active video opens its frame and does no more. -/
theorem State.inputSav_alone {s : State} {i : Nat} (hv : s.rxState i = rxVideo) (hin : (s.cap i).inFrame = false) (hdeal : s.curDeal = []) (w : Word) :
    FrameOpened i w (s.at_ w) (s.inputSav i w) := by
  have hopen := State.savStart_opens hv w
  rw [State.savOpen_closed hin] at hopen
  have hbelow : ∀ a < 0x20008000, (s.savStart i w).1.word a = s.word a := fun a ha => by
    refine hopen.keeps.word ?_
    simp only [only, List.mem_cons, List.not_mem_nil, or_false, Reg.CAP_SEQ, Reg.CAP_SAV]
    omega
  have hoffsets := State.curDeal_offsets hdeal (hopen.keeps.same (p := .image) (by simp)) (hopen.keeps.same (p := .dealer) (by simp))
    (shownSources_of_word hopen.layers hbelow)
  have hnone : (s.savStart i w).1.curDeal.filter (fun x => x.issue == .sav i && (x.cls != .capture || (s.savStart i w).2)) = [] := by
    rw [List.filter_eq_nil_iff]
    intro x hx
    obtain ⟨n, hn⟩ := hoffsets x hx
    simp [hn]
  rw [State.inputSav_eq, State.issueWhere_eq _ hnone]
  exact hopen

theorem State.inputSav_dark {s : State} {i : Nat} (hv : s.rxState i ≠ rxVideo) (hdeal : s.curDeal = []) (w : Word) : s.inputSav i w = s := by
  have hstart : s.savStart i w = (s, false) := if_pos hv
  rw [State.inputSav_eq, hstart, State.issueWhere_eq s (xs := []) (by rw [hdeal]; rfl)]
  rfl

end Sys2Proof.Machine
end

section
/-!
SUPPORT. The end of active video (R164 to R166, R261): a frame of other dimensions, one without a trick, and one that is stored. Damage to
a frame (R167).
-/

namespace Sys2Proof.Machine

open Sys2Proof

/-! ### Frames of other dimensions -/

/-- The frame has the dimensions of input `i`. -/
def State.frameFits (s : State) (i : Nat) (f : Frame) : Prop := f.length = s.get (.CAP_DIM_V i) ∧ ∀ l ∈ f, l.length = s.get (.CAP_DIM_H i)

theorem State.frameFits_iff (s : State) (i : Nat) (f : Frame) : s.frameFits i f ↔
    ¬ (f.length ≠ s.get (.CAP_DIM_V i) ∨ f.any (fun l => l.length != s.get (.CAP_DIM_H i)) = true) := by
  simp [State.frameFits]

theorem State.inputEnd_none {s : State} {i : Nat} {f : Frame} {w : Word} (h : s.rxState i ≠ rxVideo ∨ (s.cap i).inFrame = false) :
    s.inputEnd i f w = s := if_pos h

theorem State.inputEnd_wrong {s : State} {i : Nat} {f : Frame} (hv : s.rxState i = rxVideo) (hin : (s.cap i).inFrame = true)
    (hf : f.length ≠ s.get (.CAP_DIM_V i) ∨ f.any (fun l => l.length != s.get (.CAP_DIM_H i)) = true) (w : Word) :
    s.inputEnd i f w = ((s.at_ w).frameDamage i).frameOff i := by
  unfold State.inputEnd
  dsimp only
  rw [if_neg (by simp [hv, hin])]
  exact if_pos hf

/-- A frame that is damaged at its end closes without signatures. -/
theorem State.frameDamageOff_cap {s : State} {i : Nat} (hin : (s.cap i).inFrame = true) :
    (((s.frameDamage i).frameOff i).cap i).inFrame = false ∧ (((s.frameDamage i).frameOff i).cap i).damaged = true
      ∧ (((s.frameDamage i).frameOff i).cap i).recDone = (s.cap i).recDone := by
  rw [State.frameOff_cap, (s.frameDamage_spec i).cap, hin]
  simp

/-! ### Frames that fit -/

/-- The frame's signatures stand with its record, and it is closed. -/
def State.frameClosed (s : State) (i : Nat) (f : Frame) : State :=
  s.updCap i fun x => { x with
    inFrame := false
    recDone := x.recStart.map fun r => { r with hdr := { r.hdr with
      frz := frzSig (s.get (.CAP_DIM_H i)) (s.get (.CAP_DIM_V i)) fun x y => if s.get (.CAP_STATUS_ENC i) == 0 then (framePx f x y).b else (framePx f x y).a
      tell := tellSig (s.capTell i) (framePx f) } } }

theorem State.frameClosed_cap (s : State) (i : Nat) (f : Frame) : ((s.frameClosed i f).cap i).inFrame = false
    ∧ ((s.frameClosed i f).cap i).recDone = (s.cap i).recStart.map fun r => { r with hdr := { r.hdr with
        frz := frzSig (s.get (.CAP_DIM_H i)) (s.get (.CAP_DIM_V i)) fun x y => if s.get (.CAP_STATUS_ENC i) == 0 then (framePx f x y).b else (framePx f x y).a
        tell := tellSig (s.capTell i) (framePx f) } } := by
  rw [State.frameClosed, State.updCap_self]
  exact ⟨rfl, rfl⟩

/-- The capture tricks of input `i` that hold buffer `d` have their active video behind them. -/
def State.eavMarked (s : State) (i d : Nat) (w : Word) : State :=
  s.updDealer fun dl => { dl with tricks := dl.tricks.map fun r =>
    if r.trick.cls == .capture && r.trick.job == i && r.buf == some d then { r with eav := some w } else r }

theorem State.eavMarked_all (s : State) (i d : Nat) (w : Word) :
    ∀ q ∈ (s.eavMarked i d w).dealer.tricks, q.trick.cls = .capture → q.trick.job = i → q.buf = some d → q.eav = some w := by
  intro q hq hcls hjob hbuf
  obtain ⟨r, -, rfl⟩ := List.mem_map.mp hq
  by_cases hown : (r.trick.cls == .capture && r.trick.job == i && r.buf == some d) = true
  · rw [if_pos hown]
  · rw [if_neg hown] at hcls hjob hbuf
    exact absurd (by simp [hcls, hjob, hbuf]) hown

theorem State.eavMarked_of_capTrick {s t : State} {i d : Nat} {r : RunTrick} (hr : s.capTrick i false = some r) (hb : r.buf = some d)
    (ht : t.dealer = s.dealer) (w : Word) : ∃ q ∈ (t.eavMarked i d w).dealer.tricks, q.trick = r.trick ∧ q.buf = some d ∧ q.eav = some w := by
  have hmem : r ∈ t.dealer.tricks := ht ▸ List.mem_of_find?_eq_some hr
  have hown : (r.trick.cls == .capture && r.trick.job == i && r.buf == some d) = true := by
    have hpred := List.find?_some hr
    simp only [Bool.and_eq_true] at hpred
    obtain ⟨⟨⟨hcls, hjob⟩, -⟩, -⟩ := hpred
    simp [hcls, hjob, hb]
  exact ⟨_, List.mem_map.mpr ⟨r, hmem, if_pos hown⟩, rfl, hb, rfl⟩

/-- The picture of a frame is stored in the buffer that its trick holds. -/
def State.frameStored (s : State) (i d : Nat) (f : Frame) : State :=
  (s.chargeBlocks i (ceilDiv (planeBytes (s.get (.CAP_CFG_STORE_FMT i)) (s.get (.CAP_DIM_H i)) (s.get (.CAP_DIM_V i))) 256)).storeBuf d
    (storePicture s.dram (s.bufAddr d) (s.get (.CAP_CFG_STORE_FMT i)) (s.get (.CAP_DIM_H i)) (s.get (.CAP_DIM_V i))
      (convertPx f (s.get (.CAP_STATUS_ENC i)) (s.on (.CAP_STATUS_BPC10 i)) (s.get (.CAP_CFG_STORE_FMT i)) (s.get (.CAP_DIM_H i))))

theorem State.storeBuf_eq (s : State) (d : Nat) (m : Memory) : ∃ n, s.storeBuf d m = s.memWritten (s.bufAddr d) n m := ⟨_, rfl⟩

theorem State.frameStored_keeps {s : State} (hsc : s.get .MEM_STATUS_SC_FAILED = 0) (i d : Nat) (f : Frame) :
    Keeps [.dram, .mem] (only []) s (s.frameStored i d f) := by
  unfold State.frameStored
  generalize ceilDiv _ 256 = n
  generalize storePicture _ _ _ _ _ _ = m
  have hcharged := s.chargeBlocks_keeps i n
  obtain ⟨k, hk⟩ := (s.chargeBlocks i n).storeBuf_eq d m
  rw [hk]
  exact (hcharged.widen (by simp) (fun _ => id)).trans (State.memWritten_keeps ((hcharged.get _ (by simp [only])).trans hsc) _ _ _)

/-- A frame just closed is stored if a trick holds a buffer for it. -/
def State.frameKept (s : State) (i : Nat) (f : Frame) (w : Word) : State :=
  match s.capTrick i false with
  | some r =>
    match r.buf with
    | some d => (s.frameStored i d f).eavMarked i d w
    | none => s
  | none => s

theorem State.inputEnd_fits {s : State} {i : Nat} {f : Frame} (hv : s.rxState i = rxVideo) (hin : (s.cap i).inFrame = true) (hf : s.frameFits i f)
    (w : Word) : s.inputEnd i f w = ((s.at_ w).frameClosed i f).frameKept i f w := by
  unfold State.inputEnd
  dsimp only
  rw [if_neg (by simp [hv, hin])]
  exact if_neg ((State.frameFits_iff (s.at_ w) i f).mp hf)

theorem State.frameKept_untricked {s : State} {i : Nat} (hr : s.capTrick i false = none) (f : Frame) (w : Word) : s.frameKept i f w = s := by
  rw [State.frameKept, hr]

theorem State.frameKept_tricked {s : State} {i d : Nat} {r : RunTrick} (hr : s.capTrick i false = some r) (hb : r.buf = some d) (f : Frame) (w : Word) :
    s.frameKept i f w = (s.frameStored i d f).eavMarked i d w := by
  simp only [State.frameKept, hr, hb]

/-- What the end of a frame leaves that is stored. -/
structure FrameStored (i d : Nat) (w : Word) (r : RunTrick) (s t : State) : Prop where
  closed : (t.cap i).inFrame = false
  marked : ∃ q ∈ t.dealer.tricks, q.trick = r.trick ∧ q.buf = some d ∧ q.eav = some w
  all : ∀ q ∈ t.dealer.tricks, q.trick.cls = .capture → q.trick.job = i → q.buf = some d → q.eav = some w
  keeps : Keeps [.caps, .dealer, .dram, .mem] (only []) s t

theorem State.frameStored_spec {s : State} {i d : Nat} {f : Frame} {w : Word} {r : RunTrick} (hr : s.capTrick i false = some r) (hb : r.buf = some d)
    (hsc : s.get .MEM_STATUS_SC_FAILED = 0) : FrameStored i d w r s (((s.frameClosed i f).frameStored i d f).eavMarked i d w) := by
  have hclosed : Keeps [.caps] (only []) s (s.frameClosed i f) := (Keeps.refl _ _ s).updCap i _ List.mem_cons_self
  have hstored := State.frameStored_keeps (s := s.frameClosed i f) hsc i d f
  obtain ⟨hin, -⟩ := s.frameClosed_cap i f
  generalize s.frameClosed i f = u at hclosed hstored hin ⊢
  generalize u.frameStored i d f = v at hstored ⊢
  have hall : Keeps [.caps, .dealer, .dram, .mem] (only []) s v := (hclosed.widen (by simp) (fun _ => id)).trans (hstored.widen (by simp) (fun _ => id))
  have hkept : v.dealer = u.dealer := hstored.same (p := .dealer) (by simp)
  have hdealer : v.dealer = s.dealer := hkept.trans (hclosed.same (p := .dealer) (by simp))
  exact ⟨(congrArg CapSt.inFrame (hstored.cap (by simp) i)).trans hin, State.eavMarked_of_capTrick hr hb hdealer w, v.eavMarked_all i d w,
    hall.updDealer _ (by simp)⟩

/-! ### Damage (R167) -/

/-- Symbol errors of an input count on its link and on the lane. -/
def State.symbolErrors (s : State) (i l n : Nat) : State :=
  (s.count (.CAP_ERR_SYMBOL i) n).when (decide (l < 4)) fun s => s.count (.SER_LERR_ERR (16 + i) l) n

theorem State.symbolErrors_keeps (s : State) (i l n : Nat) :
    Keeps [] (only (Reg.CAP_ERR i :: (List.range 4).map (Reg.SER_LERR (16 + i)))) s (s.symbolErrors i l n) := by
  have hlink : Keeps [] (only (Reg.CAP_ERR i :: (List.range 4).map (Reg.SER_LERR (16 + i)))) s (s.count (.CAP_ERR_SYMBOL i) n) :=
    (Keeps.refl _ _ s).count _ List.mem_cons_self _
  unfold State.symbolErrors State.when
  split
  · next hl => exact hlink.count (.SER_LERR_ERR (16 + i) l) (List.mem_cons_of_mem _ (List.mem_map.mpr ⟨l, List.mem_range.mpr (of_decide_eq_true hl), rfl⟩)) _
  · exact hlink

/-- The counts that come with a kind of damage. -/
def State.damageCounts (s : State) (i : Nat) : Damage → State
  | .symbolError l n => s.when (s.rxState i != rxOff) fun s => s.symbolErrors i l n
  | _ => s

theorem State.inputDamage_eq (s : State) (i : Nat) (c : Damage) :
    s.inputDamage i c = if (s.damageCounts i c).rxState i ≠ rxVideo then s.damageCounts i c else (s.damageCounts i c).frameDamage i := by
  cases c <;> rfl

theorem State.damageCounts_keeps (s : State) (i : Nat) (c : Damage) :
    Keeps [] (only (Reg.CAP_ERR i :: (List.range 4).map (Reg.SER_LERR (16 + i)))) s (s.damageCounts i c) := by
  unfold State.damageCounts
  split
  · next l n =>
    unfold State.when
    split
    · exact s.symbolErrors_keeps i l n
    · exact Keeps.refl _ _ s
  · exact Keeps.refl _ _ s

theorem State.capTrick_of_dealer {s t : State} (h : t.dealer = s.dealer) (i : Nat) (ended : Bool) : t.capTrick i ended = s.capTrick i ended := by
  rw [State.capTrick, h, State.capTrick]

/-- Damage to a frame without a trick is logged under a free code. -/
theorem State.damageEnds_untricked {s : State} {i : Nat} (hr : s.capTrick i false = none) :
    s.damageEnds i = s.fresh.2.log 0x0406 (by2 (s.fresh.1.toNat % 65536) ++ [3, i]) := by
  rw [State.damageEnds, hr]
  rfl

/-- The registers in which damage to a frame of input `i` shows. -/
def damageRegs (i : Nat) : List Nat := [Reg.CAP_FRAMES i, Reg.CAP_INT_STATUS, Reg.CAP_ERR i] ++ (List.range 4).map (Reg.SER_LERR (16 + i))

/-- What damage does to an open, undamaged frame without a trick, with room in the log. -/
structure FrameDiscarded (i : Nat) (s t : State) : Prop where
  damaged : (t.cap i).damaged = true
  counted : t.get (.CAP_FRAMES_DISCARDED i) = satAdd 16 (s.get (.CAP_FRAMES_DISCARDED i)) 1
  reported : t.on .CAP_INT_STATUS_DAMAGED = true
  logged : t.lastLog.map (·.1) = some 0x0406
  keeps : Keeps [.caps, .sco, .freeCtr] (only [Reg.CAP_FRAMES i, Reg.CAP_INT_STATUS]) s t

theorem State.frameDamage_untricked {s : State} {i : Fin 16} (hroom : s.logRoom) (ho : (s.cap i).inFrame = true) (hd : (s.cap i).damaged = false)
    (hr : s.capTrick i false = none) : FrameDiscarded i s (s.frameDamage i) := by
  have hnoted := s.damageNoted_keeps i
  have hcap := s.damageNoted_cap i
  have hcount : (s.damageNoted i).get (.CAP_FRAMES_DISCARDED i) = satAdd 16 (s.get (.CAP_FRAMES_DISCARDED i)) 1 :=
    (State.get_set_addr _ _ (by apply checkEach i; decide)).trans (State.get_count_self _ rfl)
  have hon : (s.damageNoted i).on .CAP_INT_STATUS_DAMAGED = true := State.on_setB _ _ rfl rfl
  rw [State.frameDamage_open ho hd]
  generalize s.damageNoted i = u at hnoted hcap hcount hon ⊢
  have hends := u.damageEnds_keeps i
  have hdealer : u.dealer = s.dealer := hnoted.same (p := .dealer) (by simp)
  rw [State.damageEnds_untricked ((State.capTrick_of_dealer hdealer i false).trans hr)] at hends ⊢
  have hfresh : Keeps [.caps, .freeCtr] (only [Reg.CAP_FRAMES i, Reg.CAP_INT_STATUS]) s u.fresh.2 := (hnoted.widen (by simp) (fun _ => id)).fresh (by simp)
  have hfreshRoom := hfresh.logRoom (by simp) hroom
  have hdrop : Reg.CAP_FRAMES i ≠ Reg.LOG_DROP := by apply checkEach i; decide
  refine ⟨(congrArg CapSt.damaged ((hends.cap (by simp) i).trans hcap)).trans rfl, (hends.get _ (fun ha => hdrop (List.mem_singleton.mp ha))).trans hcount,
    (hends.on _ (by simp only [only]; decide)).trans hon, ?_, (hfresh.widen (by simp) (fun _ => id)).log hfreshRoom _ _ (by simp)⟩
  rw [State.lastLog_log hfreshRoom]
  rfl

theorem State.inputDamage_video {s : State} {i : Fin 16} {c : Damage} (hroom : s.logRoom) (hv : s.rxState i = rxVideo) (ho : (s.cap i).inFrame = true)
    (hd : (s.cap i).damaged = false) (hr : s.capTrick i false = none) :
    (FrameDiscarded i (s.damageCounts i c) (s.inputDamage i c) ∧ (s.damageCounts i c).get (.CAP_FRAMES_DISCARDED i) = s.get (.CAP_FRAMES_DISCARDED i))
      ∧ Keeps [.caps, .sco, .freeCtr] (only (damageRegs i)) s (s.inputDamage i c) := by
  have hcounts := s.damageCounts_keeps i c
  rw [State.inputDamage_eq]
  generalize s.damageCounts i c = u at hcounts ⊢
  have hfar : ∀ a ∈ Reg.CAP_ERR i :: (List.range 4).map (Reg.SER_LERR (16 + i)), Reg.CAP_STATUS i ≠ a ∧ Reg.CAP_FRAMES i ≠ a := by
    apply checkEach i; decide
  have hstill : u.rxState i = rxVideo := (hcounts.rxState fun ha => (hfar _ ha).1 rfl).trans hv
  have hcap := hcounts.cap (by simp) i
  have hdealer : u.dealer = s.dealer := hcounts.same (p := .dealer) (by simp)
  have hgone := State.frameDamage_untricked (i := i) (hcounts.logRoom (by simp) hroom) (hcap ▸ ho) (hcap ▸ hd)
    ((State.capTrick_of_dealer hdealer i false).trans hr)
  rw [if_neg (not_not_intro hstill)]
  exact ⟨⟨hgone, hcounts.get (.CAP_FRAMES_DISCARDED i) fun ha => (hfar _ ha).2 rfl⟩,
    (hcounts.widen (by simp) (by simp [damageRegs])).trans (hgone.keeps.widen (fun _ => id) (by simp [damageRegs]))⟩

/-- Outside VIDEO damage to a frame has no effect but the counts that come with it. -/
theorem State.inputDamage_dark {s : State} {i : Fin 16} (hv : s.rxState i ≠ rxVideo) (c : Damage) : s.inputDamage i c = s.damageCounts i c := by
  have hfar : ∀ a ∈ Reg.CAP_ERR i :: (List.range 4).map (Reg.SER_LERR (16 + i)), Reg.CAP_STATUS i ≠ a := by apply checkEach i; decide
  have hstill := (s.damageCounts_keeps i c).rxState (i := i) fun ha => hfar _ ha rfl
  rw [State.inputDamage_eq, if_pos (by rwa [hstill])]

theorem State.damageCounts_other {s : State} {i : Nat} {c : Damage} (h : ∀ l n, c ≠ .symbolError l n) : s.damageCounts i c = s := by
  cases c
  case symbolError l n => exact absurd rfl (h l n)
  all_goals rfl

/-- Symbol errors on a lane of an input that is not off count on its link and on the lane. -/
structure SymbolsCounted (i l n : Nat) (s t : State) : Prop where
  link : t.get (.CAP_ERR_SYMBOL i) = satAdd (Fld.CAP_ERR_SYMBOL i).wid (s.get (.CAP_ERR_SYMBOL i)) n
  lane : t.get (.SER_LERR_ERR (16 + i) l) = satAdd (Fld.SER_LERR_ERR (16 + i) l).wid (s.get (.SER_LERR_ERR (16 + i) l)) n
  keeps : Keeps [] (only [Reg.CAP_ERR i, Reg.SER_LERR (16 + i) l]) s t

theorem State.damageCounts_symbol {s : State} {i : Fin 16} {l : Nat} (hoff : s.rxState i ≠ rxOff) (hl : l < 4) (n : Nat) :
    SymbolsCounted i l n s (s.damageCounts i (.symbolError l n)) := by
  have heq : s.damageCounts i (.symbolError l n) = (s.count (.CAP_ERR_SYMBOL i) n).count (.SER_LERR_ERR (16 + i) l) n := by
    rw [State.damageCounts, State.when, if_pos (by simpa using hoff), State.symbolErrors, State.when, if_pos (decide_eq_true hl)]
  have hne : Reg.CAP_ERR i ≠ Reg.SER_LERR (16 + i) l := by
    have hlanes : ∀ l < 4, Reg.CAP_ERR i ≠ Reg.SER_LERR (16 + i) l := by apply checkEach i; decide
    exact hlanes l hl
  rw [heq]
  refine ⟨?_, ?_, ((Keeps.refl _ _ s).count (.CAP_ERR_SYMBOL i) List.mem_cons_self n).count
    (.SER_LERR_ERR (16 + i) l) (List.mem_cons_of_mem _ List.mem_cons_self) n⟩
  · rw [State.count, State.get_set_addr _ _ hne, State.count, State.get_set_self _ _ rfl, satAdd_mod]
  · rw [State.count, State.get_set_self _ _ rfl, satAdd_mod, State.count, State.get_set_addr _ _ hne.symm]

end Sys2Proof.Machine
end

section
/-!
SUPPORT. The statement O23, clause by clause from what the rows of an input's frames do.
-/

namespace Sys2Proof.Machine

open Sys2Proof

theorem gives_inputEnd {i : Fin 16} {f : Frame} {w : Word} {s : State} {P : State → Prop} (hu : s.up) (hp : P (s.quiet.inputEnd i f w)) :
    Gives (.inputEndOfActiveVideo i f w) s P :=
  gives_awake (fun s => s.inputEnd i f w) hu rfl hp

theorem exec_of_still {c : Instr} {s : State} (f : State → State) (hu : s.up) (he : exec c s = .next (s.awake f)) (h : f s.quiet = s.quiet) :
    exec c s = .next s.quiet := by
  rw [he, State.awake_up _ _ hu, h]

/-- The frame of an event that carries the time `w`. -/
theorem Keeps.from_at {ps : List Part} {as : List Nat} {s t : State} {w : Word} (h : Keeps ps (only as) (s.quiet.at_ w) t) {qs : List Part}
    (ht : .time ∈ qs) (hq : ps ⊆ qs) : Keeps qs (only as) s t :=
  ((Keeps.quiet _ _ s).at_ w ht).trans (h.widen hq fun _ => id)

/-- Settles O23, by the cases of the rows: a start of active video opens its frame (`FrameOpened`) and issues only tricks at a start, of which an
empty deal has none; the end of a frame closes, stores or damages it; the header of a complete capture is read back as it was written, so that the
check tells a disturbed write from a right one, unless its one block lies in a failed sub-channel (`CaptureRefused`, `CaptureAccepted`,
`CaptureLost`); damage discards an open frame once (`FrameDiscarded`). -/
theorem inputFramesAreCapturedWhole : Obligations.InputFramesAreCapturedWhole := by
  refine ⟨?opens, ?opensAlone, ?dark, ?closes, ?stores, ?refused, ?accepted, ?discarded, ?noDamage, ?symbols, ?noEnd, ?lost, ?wrongSize⟩
  case opens =>
    intro i w s hu hv
    refine gives_awake (fun s => s.inputSav i w) hu rfl ?_
    obtain ⟨hin, hun, hseq, hno⟩ := State.inputSav_cap (s := s.quiet) hv w
    exact ⟨hin, hun, hseq, hno, memoryFrame_of_stored ((stored_inputSav _ _ _).trans (stored_quiet s))⟩
  case opensAlone =>
    intro i w s hu hv hin hdeal
    refine gives_awake (fun s => s.inputSav i w) hu rfl ?_
    have ho := State.inputSav_alone (s := s.quiet) (i := i) hv hin hdeal w
    have hnow : (s.quiet.inputSav i w).time.now = w := congrArg TimeSt.now (ho.keeps.same (p := .time) (by simp))
    exact ⟨ho.inFrame, ho.undamaged, ho.seq, ho.frameNo, ho.savTick, ho.seqShown, ho.savShown, hnow, ho.other, ho.keeps.from_at (by simp) (by simp)⟩
  case dark =>
    intro i w s hu hv hdeal
    exact exec_of_still (fun s => s.inputSav i w) hu rfl (State.inputSav_dark (s := s.quiet) hv hdeal w)
  case closes =>
    intro i f w s hu hv hin hr hlen hlines
    refine gives_inputEnd hu ?_
    rw [State.inputEnd_fits (s := s.quiet) hv hin ⟨hlen, hlines⟩, State.frameKept_untricked (s := (s.quiet.at_ w).frameClosed i f) hr]
    obtain ⟨hclosed, hdone⟩ := (s.quiet.at_ w).frameClosed_cap i f
    exact ⟨hclosed, rfl, hdone, ((Keeps.quiet _ _ s).at_ w (by simp)).updCap i _ (by simp)⟩
  case stores =>
    intro i f w r d s hu hv hin hr hb hlen hlines hsc
    refine gives_inputEnd hu ?_
    rw [State.inputEnd_fits (s := s.quiet) hv hin ⟨hlen, hlines⟩, State.frameKept_tricked (s := (s.quiet.at_ w).frameClosed i f) hr hb]
    have hs := State.frameStored_spec (s := s.quiet.at_ w) (i := i) (f := f) (w := w) hr hb hsc
    exact ⟨hs.closed, hs.marked, hs.all, hs.keeps.from_at (by simp) (by simp)⟩
  case refused =>
    intro i w r c d e s hu hroom hfresh hr hc hb he hsc
    refine gives_captureComplete hu ⟨hfresh, hr, hc, hb, he⟩ ?_
    have hx := State.captureComplete_bad (s := s.quiet.at_ w) hroom hsc i d c.hdr
    exact ⟨hx.desc, hx.reported, hx.freed, hx.logged, hx.other, hx.keeps.from_at (by simp) (by simp)⟩
  case accepted =>
    intro i w r c d e s hu hfresh hr hc hb he hd hlo hhi hdim hsc
    refine gives_captureComplete hu ⟨hfresh, hr, hc, hb, he⟩ ?_
    have hx := State.captureComplete_good (s := s.quiet.at_ w) hsc i hd hlo hhi hdim
    exact ⟨hx.counted, hx.index, hx.tick, hx.freed, hx.bytes, hx.keeps.from_at (by simp) (by simp)⟩
  case discarded =>
    intro i c s hu hroom hv ho hd hr
    refine gives_awake (fun s => s.inputDamage i c) hu rfl ?_
    obtain ⟨⟨hg, hsame⟩, hk⟩ := State.inputDamage_video (s := s.quiet) (c := c) hroom hv ho hd hr
    exact ⟨hg.damaged, hg.counted.trans (by rw [hsame]; rfl), hg.reported, hg.logged, (Keeps.quiet _ _ s).trans hk⟩
  case noDamage =>
    intro i c s hu hv hc
    exact exec_of_still (fun s => s.inputDamage i c) hu rfl ((State.inputDamage_dark (s := s.quiet) hv c).trans (State.damageCounts_other hc))
  case symbols =>
    intro i l n s hu hv hoff hl
    refine gives_awake (fun s => s.inputDamage i (.symbolError l n)) hu rfl ?_
    rw [State.inputDamage_dark (s := s.quiet) hv]
    have hx := State.damageCounts_symbol (s := s.quiet) hoff hl n
    exact ⟨hx.link, hx.lane, (Keeps.quiet _ _ s).trans hx.keeps⟩
  case noEnd =>
    intro i f w s hu h
    exact exec_of_still (fun s => s.inputEnd i f w) hu rfl (State.inputEnd_none (s := s.quiet) h)
  case lost =>
    intro i b w r c d e s hu _ hfresh hr hc hb he _ hf
    refine gives_captureComplete hu ⟨hfresh, hr, hc, hb, he⟩ ?_
    have hx := State.captureComplete_lost (s := s.quiet.at_ w) i hf c.hdr b
    exact ⟨hx.desc, hx.reported, hx.persists, hx.uncounted, hx.bytes, hx.other⟩
  case wrongSize =>
    intro i f w s hu hv hin hf
    refine gives_inputEnd hu ?_
    rw [State.inputEnd_wrong (s := s.quiet) hv hin hf]
    obtain ⟨hoff, hdam, hdone⟩ := State.frameDamageOff_cap (s := s.quiet.at_ w) (i := i) hin
    have hk := ((s.quiet.at_ w).frameDamage_spec i).keeps
    exact ⟨hoff, hdam, hdone, congrArg TimeSt.now (hk.same (p := .time) (by simp)),
      memoryFrame_of_stored (by rw [State.frameOff, stored_updCap, stored_frameDamage, stored_at_, stored_quiet])⟩

end Sys2Proof.Machine
end

section
/-!
SUPPORT. A core that looks for its next decode trick (R189): what it takes from the queues of the contexts, and what it leaves.
-/

namespace Sys2Proof.Machine

open Sys2Proof

/-! ### Buffers -/

theorem Keeps.freeBuf {ps : List Part} {W : Nat → Prop} {s t : State} (h : Keeps ps W s t) (d : Nat) (hp : .descs ∈ ps) :
    Keeps ps W s (t.freeBuf d) := h.updDesc d _ hp

theorem Keeps.hold {ps : List Part} {W : Nat → Prop} {s t : State} (h : Keeps ps W s t) (d bit : Nat) (hp : .descs ∈ ps) :
    Keeps ps W s (t.hold d bit) := h.updDesc d _ hp

theorem Keeps.unhold {ps : List Part} {W : Nat → Prop} {s t : State} (h : Keeps ps W s t) (d bit : Nat) (hp : .descs ∈ ps) :
    Keeps ps W s (t.unhold d bit) := (h.updDesc d _ hp).settleBuf d hp

/-! ### Contexts -/

theorem State.updCtx_self (s : State) (c : Nat) (f : CtxSt → CtxSt) : (s.updCtx c f).ctx c = f (s.ctx c) :=
  (State.updCtx_ctx ..).trans (if_pos rfl)

theorem State.updCtx_other (s : State) {c x : Nat} (f : CtxSt → CtxSt) (h : x ≠ c) : (s.updCtx c f).ctx x = s.ctx x :=
  (State.updCtx_ctx ..).trans (if_neg h)

theorem Keeps.ctx {ps : List Part} {W : Nat → Prop} {s t : State} (h : Keeps ps W s t) (hp : .ctxs ∉ ps) (c : Nat) : t.ctx c = s.ctx c :=
  congrArg (Tab.get CtxSt.init · c) (h.same hp)

@[simp] theorem State.set_ctx (s : State) (f : Fld) (v c : Nat) : (s.set f v).ctx c = s.ctx c := rfl

/-! ### What the cores take -/

/-- The register that shows a context's queue. -/
abbrev queueReg (a : Nat) : Prop := ∃ j, a = Reg.DEC_CX_STATE j

/-- Cores have taken pictures: queues are cut from the front, and shown. -/
structure QueuesTaken (s t : State) : Prop where
  ctx : ∀ c, ∃ q, q <:+ (s.ctx c).queue ∧ t.ctx c = { s.ctx c with queue := q }
  field : ∀ g : Fld, (∀ j, (Fld.DEC_CX_STATE_QUEUE j).apart g = true) → t.get g = s.get g
  keeps : Keeps [.ctxs, .dealer, .descs] queueReg s t

theorem QueuesTaken.of_keeps {s t : State} (h : Keeps [.dealer, .descs] (only []) s t) : QueuesTaken s t where
  ctx c := ⟨_, List.suffix_refl _, h.ctx (by simp) c⟩
  field g _ := h.get g List.not_mem_nil
  keeps := h.mono (by simp) (by simp)

theorem QueuesTaken.trans {s t u : State} (h : QueuesTaken s t) (k : QueuesTaken t u) : QueuesTaken s u where
  ctx c := by
    obtain ⟨q, hq, ht⟩ := h.ctx c
    obtain ⟨r, hr, hu⟩ := k.ctx c
    rw [ht] at hr hu
    exact ⟨r, hr.trans hq, hu⟩
  field g hg := (k.field g hg).trans (h.field g hg)
  keeps := h.keeps.trans k.keeps

/-- A queue with its front cut off is shown. -/
theorem QueuesTaken.cut (s : State) {c : Nat} {q : List Coded} (hq : q <:+ (s.ctx c).queue) :
    QueuesTaken s ((s.updCtx c fun x => { x with queue := q }).showQueue c) where
  ctx x := by
    rw [State.showQueue, State.set_ctx]
    by_cases hx : x = c
    · subst hx
      exact ⟨q, hq, s.updCtx_self x _⟩
    · exact ⟨_, List.suffix_refl _, s.updCtx_other _ hx⟩
  field g hg := State.get_set_other _ _ (hg c)
  keeps := ((Keeps.refl _ _ s).updCtx c _ (by simp)).set (.DEC_CX_STATE_QUEUE c) _ ⟨c, rfl⟩

theorem State.takePicture_taken (s : State) (c : Nat) : QueuesTaken s (s.takePicture c).1 := by
  unfold State.takePicture
  dsimp only
  generalize hrest : (if s.ctxState c = cxWaitKey ∨ s.ctxState c = cxFault then (s.ctx c).queue.dropWhile fun p => !p.irap
    else if s.ctxState c = cxRunning then (s.ctx c).queue.dropWhile fun p => (s.ctx c).skipRasl && p.rasl
    else []) = rest
  have hsuffix : rest <:+ (s.ctx c).queue := by
    rw [← hrest]
    split_ifs
    · exact List.dropWhile_suffix _
    · exact List.dropWhile_suffix _
    · exact List.nil_suffix
  cases rest with
  | nil => exact QueuesTaken.cut s List.nil_suffix
  | cons p rest => exact QueuesTaken.cut s ((List.suffix_cons p rest).trans hsuffix)

theorem State.beginDecode_go_taken (k n : Nat) : ∀ s : State, QueuesTaken s (State.beginDecode.go k n s) := by
  induction n with
  | zero => exact fun s => .of_keeps (Keeps.refl _ _ s)
  | succ n ih =>
    intro s
    unfold State.beginDecode.go
    split
    · exact .of_keeps (Keeps.refl _ _ s)
    · split
      · exact .of_keeps (Keeps.refl _ _ s)
      · next r _ =>
        have htaken := s.takePicture_taken r.trick.job
        dsimp only
        split
        · exact htaken.trans (.of_keeps ((Keeps.refl _ _ _).updDealer _ (by simp)))
        · refine (htaken.trans (.of_keeps (Keeps.updDealer ?_ _ (by simp)))).trans (ih _)
          split
          · exact (Keeps.refl _ _ _).freeBuf _ (by simp)
          · exact Keeps.refl _ _ _

theorem State.beginDecode_taken (s : State) (k : Nat) : QueuesTaken s (s.beginDecode k) := by
  unfold State.beginDecode
  dsimp only
  split
  · exact .of_keeps (Keeps.refl _ _ s)
  · exact State.beginDecode_go_taken k _ s

theorem State.wakeCores_taken (s : State) : QueuesTaken s s.wakeCores :=
  State.each_inv (P := QueuesTaken s) (fun t k h => h.trans (t.beginDecode_taken k)) (.of_keeps (Keeps.refl _ _ s)) _

/-! ### No trick waits -/

/-- A core begins nothing where every decode trick that is not done has its picture. -/
theorem State.beginDecode_still {s : State} (h : s.noDecodeWaits) (k : Nat) : s.beginDecode k = s := by
  unfold State.beginDecode
  dsimp only
  split
  · rfl
  · next hbusy =>
    have hnone : (s.dealer.tricks.findIdx? fun r => r.trick.cls == .decode && r.trick.index == k && !r.done) = none := by
      rw [List.findIdx?_eq_none_iff]
      intro r hr
      have hidle := List.any_eq_false.mp (Bool.eq_false_of_not_eq_true hbusy) r hr
      by_cases hc : r.trick.cls = .decode
      · rcases h r hr hc with hd | hp
        · simp [hd]
        · simpa [hc, hp] using hidle
      · simp [hc]
    cases s.dealer.tricks.length with
    | zero => rfl
    | succ n =>
      unfold State.beginDecode.go
      rw [hnone]

theorem State.wakeCores_still {s : State} (h : s.noDecodeWaits) : s.wakeCores = s :=
  State.each_inv (P := fun t => t = s) (fun t k ht => by rw [ht]; exact State.beginDecode_still h k) rfl _

/-! ### What stays of a context whose cores wake -/

theorem QueuesTaken.ctxState {s t : State} (h : QueuesTaken s t) (c : Nat) : t.ctxState c = s.ctxState c :=
  h.field (.DEC_CX_STATE_STATE c) fun _ => rfl

theorem QueuesTaken.get {s t : State} (h : QueuesTaken s t) {g : Fld} (hg : ∀ j, g.addr ≠ Reg.DEC_CX_STATE j) : t.get g = s.get g :=
  h.keeps.get g fun ⟨j, hj⟩ => hg j hj

theorem QueuesTaken.queue_nil {s t : State} (h : QueuesTaken s t) {c : Nat} (hq : (s.ctx c).queue = []) : (t.ctx c).queue = [] := by
  obtain ⟨q, hs, ht⟩ := h.ctx c
  rw [hq, List.suffix_nil] at hs
  rw [ht, hs]

end Sys2Proof.Machine
end

section
/-!
SUPPORT. A decode context that changes state (R185): what it clears, shows and gives back.
-/

namespace Sys2Proof.Machine

open Sys2Proof

/-! ### Queue, decode and references are cleared (R185, R194) -/

/-- A context that leaves its pictures: its queue, the decode in progress and its references are cleared. -/
def State.ctxEmptied (s : State) (c : Nat) : State := (((s.updCtx c fun x => { x with queue := [] }).showQueue c).stopDecode c).flushDpb c

/-- What that leaves. -/
structure CtxEmptied (c : Nat) (s t : State) : Prop where
  own : t.ctx c = { s.ctx c with queue := [], failed := [], dpb := [], concealPic := none }
  other : ∀ x, x ≠ c → t.ctx x = s.ctx x
  field : ∀ g : Fld, (Fld.DEC_CX_STATE_QUEUE c).apart g = true → t.get g = s.get g
  keeps : Keeps [.ctxs, .dealer, .descs] (only [Reg.DEC_CX_STATE c]) s t

/-- The buffers of the decodes in progress are returned. -/
def State.decodesReturned (s : State) (c : Nat) : State :=
  s.each (s.dealer.tricks.filter fun r => r.trick.cls == .decode && r.trick.job == c && !r.done && r.coded.isSome) fun s r => match r.buf with
    | some d => s.freeBuf d
    | none => s

theorem State.decodesReturned_keeps (s : State) (c : Nat) : Keeps [.descs] (only []) s (s.decodesReturned c) := by
  refine Keeps.each (fun t r => ?_) _ (Keeps.refl _ _ s)
  cases r.buf with
  | none => exact Keeps.refl _ _ t
  | some d => exact (Keeps.refl _ _ t).freeBuf d List.mem_cons_self

/-- The references and the concealment picture hold their buffers no more. -/
def State.refsReleased (s : State) (c : Nat) : State :=
  s.each ((s.ctx c).dpb.map (·.buf) ++ ((s.ctx c).concealPic.map (·.buf)).toList) fun s d => s.unhold d holdDeck

theorem State.refsReleased_keeps (s : State) (c : Nat) : Keeps [.descs] (only []) s (s.refsReleased c) :=
  Keeps.each (fun t d => (Keeps.refl _ _ t).unhold d holdDeck List.mem_cons_self) _ (Keeps.refl _ _ s)

/-- A decode of the context in progress is done, without a buffer. -/
def RunTrick.decodeEnded (c : Nat) (r : RunTrick) : RunTrick :=
  if r.trick.cls == .decode && r.trick.job == c && r.coded.isSome then { r with done := true, buf := none } else r

theorem State.stopDecode_eq (s : State) (c : Nat) : s.stopDecode c
    = (((s.decodesReturned c).updCtx c fun x => { x with failed := [] }).updDealer fun d => { d with tricks := d.tricks.map (·.decodeEnded c) }) := rfl

theorem State.flushDpb_eq (s : State) (c : Nat) :
    s.flushDpb c = (s.refsReleased c).updCtx c fun x => { x with dpb := [], concealPic := none } := rfl

@[simp] theorem State.updDealer_ctx (s : State) (f : Dealer → Dealer) (c : Nat) : (s.updDealer f).ctx c = s.ctx c := rfl

theorem State.stopDecode_keeps (s : State) (c : Nat) : Keeps [.ctxs, .dealer, .descs] (only []) s (s.stopDecode c) :=
  (((s.decodesReturned_keeps c).widen (by simp) (fun _ => id)).updCtx c _ (by simp)).updDealer _ (by simp)

theorem State.flushDpb_keeps (s : State) (c : Nat) : Keeps [.ctxs, .dealer, .descs] (only []) s (s.flushDpb c) :=
  ((s.refsReleased_keeps c).widen (by simp) (fun _ => id)).updCtx c _ (by simp)

theorem State.stopDecode_ctx (s : State) (c x : Nat) :
    (s.stopDecode c).ctx x = if x = c then { s.ctx c with failed := [] } else s.ctx x := by
  rw [State.stopDecode_eq, State.updDealer_ctx, State.updCtx_ctx, (s.decodesReturned_keeps c).ctx (by simp), (s.decodesReturned_keeps c).ctx (by simp)]

theorem State.flushDpb_ctx (s : State) (c x : Nat) :
    (s.flushDpb c).ctx x = if x = c then { s.ctx c with dpb := [], concealPic := none } else s.ctx x := by
  rw [State.flushDpb_eq, State.updCtx_ctx, (s.refsReleased_keeps c).ctx (by simp), (s.refsReleased_keeps c).ctx (by simp)]

theorem State.ctxEmptied_spec (s : State) (c : Nat) : CtxEmptied c s (s.ctxEmptied c) := by
  have hcleared : Keeps [.ctxs, .dealer, .descs] (only []) ((s.updCtx c fun x => { x with queue := [] }).showQueue c) (s.ctxEmptied c) :=
    (State.stopDecode_keeps _ c).trans (State.flushDpb_keeps _ c)
  refine ⟨?_, fun x hx => ?_, fun g hg => ?_, ?_⟩
  · rw [State.ctxEmptied, State.flushDpb_ctx, if_pos rfl, State.stopDecode_ctx, if_pos rfl, State.showQueue, State.set_ctx, State.updCtx_self]
  · rw [State.ctxEmptied, State.flushDpb_ctx, if_neg hx, State.stopDecode_ctx, if_neg hx, State.showQueue, State.set_ctx, State.updCtx_other _ _ hx]
  · exact (hcleared.get g List.not_mem_nil).trans (State.get_set_other _ _ hg)
  · exact (((Keeps.refl _ _ s).updCtx c _ (by simp)).set (.DEC_CX_STATE_QUEUE c) _ List.mem_cons_self).trans
      (hcleared.widen (fun _ => id) (List.nil_subset _))

/-! ### Buffers given back (R113), presence (R247) -/

/-- The registers of free requests. -/
abbrev freeRegs : List Nat := [Reg.CMP_TLN_EVT, Reg.CMP_INT_STATUS, Reg.LOG_DROP]

theorem State.freeRequest_keeps (s : State) (d : Nat) : Keeps [.descs, .sco] (only freeRegs) s (s.freeRequest d) := by
  by_cases hs : (s.desc d).state = .eligible ∨ (s.desc d).state = .retired
  · by_cases hh : (s.desc d).holders = 0
    · rw [State.freeRequest_free hs hh]
      exact (Keeps.refl _ _ s).freeBuf d (by simp)
    · rw [State.freeRequest_held hs hh]
      refine Keeps.logFull (Keeps.setB (Keeps.count ((Keeps.refl _ _ s).updDesc d _ (by simp)) .CMP_TLN_EVT_EARLY_FREE ?_)
        .CMP_INT_STATUS_EARLY_FREE true ?_) _ _ (by simp) ?_ <;> decide
  · rw [State.freeRequest_other (fun h => hs (.inl h)) (fun h => hs (.inr h))]
    exact (Keeps.refl _ _ s).count .CMP_TLN_EVT_FREE_ERR (by decide)

/-- A closed context's buffers are given back. -/
def State.ctxGiven (s : State) (c : Nat) : State :=
  s.each (s.descs.filter fun e => decide (e.2.src = s.ctxSrc c ∧ (e.2.state = .eligible ∨ e.2.state = .retired))) fun s e => s.freeRequest e.1

theorem State.ctxGiven_keeps (s : State) (c : Nat) : Keeps [.descs, .sco] (only freeRegs) s (s.ctxGiven c) :=
  Keeps.each (f := fun (t : State) (e : Nat × Desc) => t.freeRequest e.1) (fun t e => t.freeRequest_keeps e.1) _ (Keeps.refl _ _ s)

/-- Is a context in this state present (R247)? -/
def ctxPresent (st : Nat) : Bool := st == cxRunning || st == cxWaitKey

/-- The presence of a context that changed from state `old` to `st` is reported. -/
def State.ctxPresence (s : State) (c old st : Nat) : State :=
  if ctxPresent old != ctxPresent st then s.presenceReport (s.ctxSrc c) else s

theorem State.ctxPresence_keeps (s : State) (c old st : Nat) : Keeps [.fab] fabReg s (s.ctxPresence c old st) := by
  unfold State.ctxPresence
  split
  · exact s.presenceReport_keeps _
  · exact Keeps.refl _ _ s

/-! ### The states entered -/

/-- A context shows its state, and its pictures are cleared. -/
def State.ctxEnters (s : State) (c st : Nat) : State := (s.set (.DEC_CX_STATE_STATE c) st).ctxEmptied c

theorem State.ctxEnters_state (s : State) (c : Nat) {st : Nat} (h : st < 8) : (s.ctxEnters c st).ctxState c = st :=
  ((State.ctxEmptied_spec _ c).field (.DEC_CX_STATE_STATE c) rfl).trans (State.get_set_fits _ rfl (wid := 3) rfl h)

theorem State.ctxEnters_keeps (s : State) (c st : Nat) : Keeps [.ctxs, .dealer, .descs] (only [Reg.DEC_CX_STATE c]) s (s.ctxEnters c st) :=
  ((Keeps.refl _ _ s).set (.DEC_CX_STATE_STATE c) st List.mem_cons_self).trans (State.ctxEmptied_spec _ c).keeps

theorem State.ctxEnters_own (s : State) (c st : Nat) :
    (s.ctxEnters c st).ctx c = { s.ctx c with queue := [], failed := [], dpb := [], concealPic := none } := (State.ctxEmptied_spec _ c).own

theorem State.ctxEnters_other (s : State) {c x : Nat} (st : Nat) (h : x ≠ c) : (s.ctxEnters c st).ctx x = s.ctx x :=
  (State.ctxEmptied_spec _ c).other x h

/-- R187: OPEN. -/
theorem State.setCtx_idle {s : State} {c : Nat} (h : s.ctxState c = cxClosed) : s.setCtx c cxIdle 0 = s.ctxEnters c cxIdle := by
  have hold : ctxPresent (s.ctxState c) = false := by rw [h]; rfl
  show (s.ctxEnters c cxIdle).ctxPresence c (s.ctxState c) cxIdle = _
  rw [State.ctxPresence, hold]
  rfl

/-- R187: CLOSE. -/
theorem State.setCtx_closed (s : State) (c : Nat) :
    s.setCtx c cxClosed 0 = ((s.ctxEnters c cxClosed).ctxGiven c).ctxPresence c (s.ctxState c) cxClosed := rfl

/-- R185: FAULT. -/
theorem State.setCtx_fault (s : State) (c cause : Nat) : s.setCtx c cxFault cause
    = (((s.ctxEnters c cxFault).set (.DEC_CX_STATE_FAULT_CAUSE c) cause).setB .DEC_INT_STATUS_FAULT true).ctxPresence c (s.ctxState c) cxFault := rfl

/-- R200, R201: WAIT_KEY is shown with its cause and its tick, reported, and answered with feedback. -/
def State.keyAwaited (s : State) (c cause : Nat) : State :=
  (((s.set (.DEC_CX_STATE_WAIT_CAUSE c) cause).set (.DEC_CX_SRAGE_WAIT_TICK c) s.tick16).setB .DEC_INT_STATUS_WAIT_KEY true).feedback c

/-- R200: WAIT_KEY. -/
theorem State.setCtx_waitKey (s : State) (c cause : Nat) :
    s.setCtx c cxWaitKey cause = ((s.ctxEnters c cxWaitKey).keyAwaited c cause).ctxPresence c (s.ctxState c) cxWaitKey := rfl

/-! ### CLOSE and FAULT -/

theorem ctxReg.notMem_free {a : Nat} (h : ctxReg a) : a ∉ freeRegs := fun hm => by
  have hfar : ∀ b ∈ freeRegs, b < 0x10052000 ∨ 0x1005A000 ≤ b := by decide
  have ha := hfar a hm
  obtain ⟨hlo, hhi⟩ := h
  omega

theorem ctxReg.not_fab {a : Nat} (h : ctxReg a) : ¬ fabReg a := fun hf => by
  obtain ⟨-, hhi⟩ := h
  unfold fabReg at hf
  omega

/-- A closed context. -/
structure CtxClosed (c : Nat) (t : State) : Prop where
  state : t.ctxState c = cxClosed
  queue : (t.ctx c).queue = []
  dpb : (t.ctx c).dpb = []

theorem State.setCtx_closed_spec (s : State) (c : Fin 512) : CtxClosed c (s.setCtx c cxClosed 0) := by
  rw [State.setCtx_closed]
  have hgiven := (s.ctxEnters c cxClosed).ctxGiven_keeps c
  have hpresence := ((s.ctxEnters c cxClosed).ctxGiven c).ctxPresence_keeps c (s.ctxState c) cxClosed
  have hctx := (hpresence.ctx (by simp) c).trans ((hgiven.ctx (by simp) c).trans (s.ctxEnters_own c cxClosed))
  refine ⟨?_, by rw [hctx], by rw [hctx]⟩
  exact (hpresence.get (.DEC_CX_STATE_STATE c) (ctxReg_state c).not_fab).trans
    ((hgiven.get (.DEC_CX_STATE_STATE c) (ctxReg_state c).notMem_free).trans (s.ctxEnters_state c (by decide)))

/-- A context in FAULT shows its cause, and it is reported. -/
structure CtxFaulted (c cause : Nat) (t : State) : Prop where
  state : t.ctxState c = cxFault
  cause : t.get (.DEC_CX_STATE_FAULT_CAUSE c) = cause
  reported : t.on .DEC_INT_STATUS_FAULT = true

theorem State.setCtx_fault_spec (s : State) (c : Fin 512) {cause : Nat} (h : cause < 16) : CtxFaulted c cause (s.setCtx c cxFault cause) := by
  rw [State.setCtx_fault]
  have hfar : (Fld.DEC_INT_STATUS_FAULT).addr ≠ Reg.DEC_CX_STATE c := by
    show 0x10050010 ≠ 0x10052024 + 0x40 * c.val
    omega
  have hpresence := State.ctxPresence_keeps (((s.ctxEnters c cxFault).set (.DEC_CX_STATE_FAULT_CAUSE c) cause).setB .DEC_INT_STATUS_FAULT true) c
    (s.ctxState c) cxFault
  refine ⟨?_, ?_, (hpresence.on .DEC_INT_STATUS_FAULT (by decide)).trans (State.on_setB _ _ rfl rfl)⟩
  · rw [State.ctxState, hpresence.get _ (ctxReg_state c).not_fab, State.setB, State.get_set_addr _ _ (Ne.symm hfar), State.get_set_other _ _ rfl]
    exact s.ctxEnters_state c (by decide)
  · rw [hpresence.get _ (ctxReg_state c).not_fab, State.setB, State.get_set_addr _ _ (Ne.symm hfar)]
    exact State.get_set_fits _ rfl (wid := 4) rfl h

theorem CtxFaulted.of_taken {c : Fin 512} {cause : Nat} {s t : State} (h : CtxFaulted c cause s) (k : QueuesTaken s t) : CtxFaulted c cause t where
  state := (k.ctxState c).trans h.state
  cause := (k.field _ fun _ => rfl).trans h.cause
  reported := (congrArg (· != 0) (k.get fun j => by show 0x10050010 ≠ 0x10052024 + 0x40 * j; omega)).trans h.reported

theorem CtxClosed.of_taken {c : Nat} {t u : State} (h : CtxClosed c t) (k : QueuesTaken t u) : CtxClosed c u where
  state := (k.ctxState c).trans h.state
  queue := k.queue_nil h.queue
  dpb := by
    obtain ⟨q, -, hu⟩ := k.ctx c
    rw [hu, h.dpb]

end Sys2Proof.Machine
end

section
/-!
SUPPORT. The operations of DEC_CMD (R187): a command while one is unanswered, OPEN, CLOSE and KEY_REQ, and what their answers leave.
-/

namespace Sys2Proof.Machine

open Sys2Proof

/-! ### GO -/

theorem State.decGo_idle {s : State} (h : s.on .DEC_CMD_STATUS_BUSY = false) (c op : Nat) (f : State → State) :
    s.decGo c op f = f (s.decShow c op) := if_neg (by rw [h]; decide)

theorem State.decGo_busy {s : State} (h : s.on .DEC_CMD_STATUS_BUSY = true) (c op : Nat) (f : State → State) :
    s.decGo c op f = s.set .DEC_CMD_STATUS_CODE stBUSY := if_pos h

/-- What a GO while a command is unanswered leaves. -/
theorem State.decBusy_spec (s : State) : (s.set .DEC_CMD_STATUS_CODE stBUSY).get .DEC_CMD_STATUS_CODE = stBUSY
    ∧ Keeps [] (only [Reg.DEC_CMD_STATUS]) s (s.set .DEC_CMD_STATUS_CODE stBUSY) :=
  ⟨State.get_set_fits _ rfl (wid := 8) rfl (by decide), (Keeps.refl _ _ s).set .DEC_CMD_STATUS_CODE stBUSY List.mem_cons_self⟩

theorem State.decAnswer_ready (s : State) (code : Nat) : (s.decAnswer code).on .DEC_CMD_STATUS_BUSY = false := State.on_setB _ _ rfl rfl

/-- A command that is answered and does nothing else. -/
structure DecRefused (code : Nat) (s t : State) : Prop where
  code : t.get .DEC_CMD_STATUS_CODE = code
  ready : t.on .DEC_CMD_STATUS_BUSY = false
  keeps : Keeps [] (only [Reg.DEC_CMD, Reg.DEC_CMD_STATUS]) s t

theorem State.decRefused_spec (s : State) (c : Fin 512) {op code : Nat} (ho : op < 8) (hc : code < 256) :
    DecRefused code s ((s.decShow c op).decAnswer code) := by
  obtain ⟨-, -, hshow⟩ := s.decShow_spec c ho
  obtain ⟨hcode, hend⟩ := (s.decShow c op).decAnswer_spec hc
  exact ⟨hcode, State.decAnswer_ready _ code, (hshow.widen (fun _ => id) (by simp)).trans (hend.widen (fun _ => id) (by simp))⟩

/-! ### What the commands read of the contexts -/

theorem State.decShow_word (s : State) (c : Fin 512) {op : Nat} (ho : op < 8) {a : Nat} (ha : ctxReg a) : (s.decShow c op).word a = s.word a :=
  (s.decShow_spec c ho).2.2.word fun hm => ha.notMem_cmd (List.mem_cons.mpr (.inl (List.mem_singleton.mp hm)))

theorem ctxReg_cfg (c : Fin 512) : ctxReg (Reg.DEC_CX_CFG c) := by
  unfold ctxReg Reg.DEC_CX_CFG
  omega

theorem ctxReg_srcip (c : Fin 512) : ctxReg (Reg.DEC_CX_SRCIP c) := by
  unfold ctxReg Reg.DEC_CX_SRCIP
  omega

section
variable {s t : State} (h : ∀ a, ctxReg a → t.word a = s.word a)
include h

theorem State.ctxState_of_word (c : Fin 512) : t.ctxState c = s.ctxState c := congrArg (Fld.DEC_CX_STATE_STATE c).of (h _ (ctxReg_state c))

theorem State.ctxFb_of_word (c : Fin 512) : t.get (.DEC_CX_NET_FB c) = s.get (.DEC_CX_NET_FB c) :=
  congrArg (Fld.DEC_CX_NET_FB c).of (h _ (ctxReg_net c))

theorem State.ctxEn_of_word (c : Fin 512) : t.on (.DEC_CX_CFG_EN c) = s.on (.DEC_CX_CFG_EN c) :=
  congrArg (fun w => (Fld.DEC_CX_CFG_EN c).of w != 0) (h _ (ctxReg_cfg c))

/-- Whether a port is taken stands in the registers of the contexts. -/
theorem State.portTaken_of_word (c : Fin 512) : t.portTaken c = s.portTaken c := by
  have hnet : ∀ k : Fin 512, t.word (Reg.DEC_CX_NET k) = s.word (Reg.DEC_CX_NET k) := fun k => h _ (ctxReg_net k)
  have hport : ∀ k : Fin 512, t.get (.DEC_CX_NET_NET_PORT k) = s.get (.DEC_CX_NET_NET_PORT k) := fun k => congrArg (Fld.of _) (hnet k)
  have hudp : ∀ k : Fin 512, t.get (.DEC_CX_NET_UDP_PORT k) = s.get (.DEC_CX_NET_UDP_PORT k) := fun k => congrArg (Fld.of _) (hnet k)
  have hone : ∀ k ∈ List.range 512, ∀ k' : Fin 512, k'.val = k → (k != c && t.ctxState k != cxClosed
      && t.get (.DEC_CX_NET_NET_PORT k) == t.get (.DEC_CX_NET_NET_PORT c) && t.get (.DEC_CX_NET_UDP_PORT k) == t.get (.DEC_CX_NET_UDP_PORT c))
      = (k != c && s.ctxState k != cxClosed
      && s.get (.DEC_CX_NET_NET_PORT k) == s.get (.DEC_CX_NET_NET_PORT c) && s.get (.DEC_CX_NET_UDP_PORT k) == s.get (.DEC_CX_NET_UDP_PORT c)) := by
    rintro k - k' rfl
    rw [State.ctxState_of_word h k', hport k', hport c, hudp k', hudp c]
  unfold State.portTaken
  rw [Bool.eq_iff_iff, List.any_eq_true, List.any_eq_true]
  exact exists_congr fun k => and_congr_right fun hk => by rw [hone k hk ⟨k, List.mem_range.mp hk⟩ rfl]

end

/-! ### OPEN -/

/-- What OPEN refuses with RANGE. -/
abbrev State.openRange (s : State) (c : Nat) : Prop :=
  s.on (.DEC_CX_CFG_EN c) = false ∨ s.word (Reg.DEC_CX_SRCIP c) = 0 ∨ s.portTaken c = true ∨ s.get (.DEC_CX_NET_FB c) = 3

theorem State.decShow_openRange (s : State) (c : Fin 512) {op : Nat} (ho : op < 8) : (s.decShow c op).openRange c ↔ s.openRange c := by
  have hw : ∀ a, ctxReg a → (s.decShow c op).word a = s.word a := fun a => s.decShow_word c ho
  unfold State.openRange
  rw [State.ctxEn_of_word hw, hw _ (ctxReg_srcip c), State.portTaken_of_word hw, State.ctxFb_of_word hw]

theorem State.decShow_ctxState (s : State) (c : Fin 512) {op : Nat} (ho : op < 8) : (s.decShow c op).ctxState c = s.ctxState c :=
  State.ctxState_of_word (fun _ => s.decShow_word c ho) c

/-- The state of a context just opened, with its template and the grandmaster's domain of that time. -/
def CtxSt.opened (x : CtxSt) (template : List Byte) (gen : Nat) : CtxSt :=
  { x with
    asm := none, lastClosed := none, nextSeq := none, copies := (none, none), stats := none, sr := none, lastCap := none, learned := false,
    lastPkt := none, skipRasl := false, template := template, gen := gen }

theorem State.decOpen_state {s : State} (hb : s.on .DEC_CMD_STATUS_BUSY = false) {c : Fin 512} (h : s.ctxState c ≠ cxClosed) (b : List Byte) :
    s.decOpen c b = (s.decShow c 1).decAnswer stSTATE := by
  have hs : (s.decShow c 1).ctxState c ≠ cxClosed := by rwa [s.decShow_ctxState c (by decide)]
  rw [State.decOpen, State.decGo_idle hb, if_pos hs]

theorem State.decOpen_range {s : State} (hb : s.on .DEC_CMD_STATUS_BUSY = false) {c : Fin 512} (h : s.ctxState c = cxClosed) (hr : s.openRange c)
    (b : List Byte) : s.decOpen c b = (s.decShow c 1).decAnswer stRANGE := by
  have hs : (s.decShow c 1).ctxState c = cxClosed := by rwa [s.decShow_ctxState c (by decide)]
  have hrange : (s.decShow c 1).openRange c := (s.decShow_openRange c (by decide)).mpr hr
  rw [State.decOpen, State.decGo_idle hb, if_neg (not_not_intro hs), if_pos hrange]

theorem State.decOpen_ok {s : State} (hb : s.on .DEC_CMD_STATUS_BUSY = false) {c : Fin 512} (h : s.ctxState c = cxClosed) (hr : ¬ s.openRange c)
    (b : List Byte) : ∃ gen, s.decOpen c b = (((s.decShow c 1).ctxEnters c cxIdle).updCtx c (·.opened b gen)).decAnswer stOK := by
  have hs : (s.decShow c 1).ctxState c = cxClosed := by rwa [s.decShow_ctxState c (by decide)]
  have hrange : ¬ (s.decShow c 1).openRange c := mt (s.decShow_openRange c (by decide)).mp hr
  rw [State.decOpen, State.decGo_idle hb, if_neg (not_not_intro hs), if_neg hrange, State.setCtx_idle hs]
  exact ⟨_, rfl⟩

/-- A context just opened, and its command answered. -/
structure CtxOpened (c : Nat) (b : List Byte) (s t : State) : Prop where
  code : t.get .DEC_CMD_STATUS_CODE = stOK
  state : t.ctxState c = cxIdle
  own : ∃ gen, t.ctx c = ({ s.ctx c with queue := [], failed := [], dpb := [], concealPic := none } : CtxSt).opened b gen
  other : ∀ x, x ≠ c → t.ctx x = s.ctx x
  keeps : Keeps [.ctxs, .dealer, .descs] (only [Reg.DEC_CMD, Reg.DEC_CMD_STATUS, Reg.DEC_CX_STATE c]) s t

theorem State.decOpen_spec {s : State} (hb : s.on .DEC_CMD_STATUS_BUSY = false) {c : Fin 512} (h : s.ctxState c = cxClosed) (hr : ¬ s.openRange c)
    (b : List Byte) : CtxOpened c b s (s.decOpen c b) := by
  obtain ⟨gen, hopen⟩ := State.decOpen_ok hb h hr b
  rw [hopen]
  obtain ⟨-, -, hshow⟩ := s.decShow_spec c (op := 1) (by decide)
  obtain ⟨hcode, hend⟩ := (((s.decShow c 1).ctxEnters c cxIdle).updCtx c (·.opened b gen)).decAnswer_spec (code := stOK) (by decide)
  have henters := (s.decShow c 1).ctxEnters_keeps c cxIdle
  refine ⟨hcode, ?_, ⟨gen, ?_⟩, fun x hx => ?_, ?_⟩
  · have hstate := (s.decShow c 1).ctxEnters_state c (st := cxIdle) (by decide)
    rw [State.ctxState, hend.get _ fun hm => (ctxReg_state c).notMem_cmd (List.mem_cons_of_mem _ hm), State.updCtx_get]
    exact hstate
  · rw [hend.ctx (by simp), State.updCtx_self, State.ctxEnters_own, hshow.ctx (by simp)]
  · rw [hend.ctx (by simp), State.updCtx_other _ _ hx, State.ctxEnters_other _ _ hx, hshow.ctx (by simp)]
  · exact (((hshow.widen (by simp) (by simp)).trans (henters.widen (fun _ => id) (by simp))).updCtx c _ (by simp)).trans
      (hend.widen (by simp) (by simp))

/-! ### CLOSE -/

theorem State.decClose_state {s : State} (hb : s.on .DEC_CMD_STATUS_BUSY = false) {c : Fin 512} (h : s.ctxState c = cxClosed) :
    s.decClose c = (s.decShow c 2).decAnswer stSTATE := by
  have hs : (s.decShow c 2).ctxState c = cxClosed := by rwa [s.decShow_ctxState c (by decide)]
  rw [State.decClose, State.decGo_idle hb, if_pos hs]

theorem State.decClose_ok {s : State} (hb : s.on .DEC_CMD_STATUS_BUSY = false) {c : Fin 512} (h : s.ctxState c ≠ cxClosed) :
    s.decClose c = ((s.decShow c 2).setCtx c cxClosed 0).decAnswer stOK := by
  have hs : (s.decShow c 2).ctxState c ≠ cxClosed := by rwa [s.decShow_ctxState c (by decide)]
  rw [State.decClose, State.decGo_idle hb, if_neg hs]

theorem State.decClose_spec {s : State} (hb : s.on .DEC_CMD_STATUS_BUSY = false) {c : Fin 512} (h : s.ctxState c ≠ cxClosed) :
    (s.decClose c).get .DEC_CMD_STATUS_CODE = stOK ∧ CtxClosed c (s.decClose c) := by
  rw [State.decClose_ok hb h]
  obtain ⟨hcode, hend⟩ := ((s.decShow c 2).setCtx c cxClosed 0).decAnswer_spec (code := stOK) (by decide)
  have hclosed := (s.decShow c 2).setCtx_closed_spec c
  have hctx := hend.ctx (by simp) c
  refine ⟨hcode, (hend.get (.DEC_CX_STATE_STATE c) fun hm => ?_).trans hclosed.state, hctx ▸ hclosed.queue, hctx ▸ hclosed.dpb⟩
  exact (ctxReg_state c).notMem_cmd (List.mem_cons_of_mem _ hm)

/-- A code of DEC_CMD_STATUS stands while cores wake. -/
theorem QueuesTaken.decCode {s t : State} (h : QueuesTaken s t) : t.get .DEC_CMD_STATUS_CODE = s.get .DEC_CMD_STATUS_CODE :=
  h.get fun j => by
    show 0x10050024 ≠ 0x10052024 + 0x40 * j
    omega

/-- A DEC_CMD that is refused changes no trick, and so sets no core going. -/
theorem State.wakeCores_after {ps : List Part} {W : Nat → Prop} {s t : State} (h : Keeps ps W s t) (hd : .dealer ∉ ps) (hn : s.noDecodeWaits) :
    t.wakeCores = t := by
  have hdealer : t.dealer = s.dealer := h.same hd
  exact State.wakeCores_still (by rw [State.noDecodeWaits, hdealer]; exact hn)

/-! ### KEY_REQ -/

theorem State.keyReq_state {s : State} {c : Nat} (h : s.ctxState c = cxIdle) : s.keyReq c = (s, stSTATE) :=
  if_neg fun hk => by rw [h] at hk; exact absurd hk.1 (by decide)

theorem State.decKeyReq_refused {s : State} (hb : s.on .DEC_CMD_STATUS_BUSY = false) {c : Fin 512} (h : s.ctxState c = cxIdle) :
    s.decKeyReq c = (s.decShow c 3).decAnswer stSTATE := by
  rw [State.decKeyReq_idle hb, State.keyReq_state (by rwa [s.decShow_ctxState c (by decide)])]

/-- A key request that is sent on. -/
theorem State.decKeyReq_spec {s : State} (hb : s.on .DEC_CMD_STATUS_BUSY = false) {c : Fin 512} (h : s.ctxState c = cxWaitKey)
    (hf : s.get (.DEC_CX_NET_FB c) = 1) : (s.decKeyReq c).get .DEC_CMD_STATUS_CODE = stOK
    ∧ (s.decKeyReq c).get (.DEC_CX_ERR_PLI_SENT c) = satAdd 8 (s.get (.DEC_CX_ERR_PLI_SENT c)) 1
    ∧ Keeps [.nets, .ctxs] (only [Reg.DEC_CMD, Reg.DEC_CMD_STATUS, Reg.DEC_CX_ERR c]) s (s.decKeyReq c) := by
  have hw : ∀ a, ctxReg a → (s.decShow c 3).word a = s.word a := fun a => s.decShow_word c (by decide)
  have hfb : (s.decShow c 3).get (.DEC_CX_NET_FB c) = 1 := (State.ctxFb_of_word hw c).trans hf
  have hstate : (s.decShow c 3).ctxState c = cxWaitKey := (State.ctxState_of_word hw c).trans h
  rw [State.decKeyReq_idle hb, State.keyReq_sent hfb (.inl hstate)]
  obtain ⟨-, -, hshow⟩ := s.decShow_spec c (op := 3) (by decide)
  obtain ⟨hcount, hsend⟩ := State.feedback_spec hfb
  obtain ⟨hcode, hend⟩ := ((s.decShow c 3).feedback c).decAnswer_spec (code := stOK) (by decide)
  refine ⟨hcode, ?_, ((hshow.widen (by simp) (by simp)).trans (hsend.widen (fun _ => id) (by simp))).trans (hend.widen (by simp) (by simp))⟩
  rw [hend.get _ fun hm => (ctxReg_err c).notMem_cmd (List.mem_cons_of_mem _ hm), hcount]
  exact congrArg (fun w => satAdd 8 ((Fld.DEC_CX_ERR_PLI_SENT c).of w) 1) (hw _ (ctxReg_err c))

end Sys2Proof.Machine
end

section
/-!
SUPPORT. A picture of a decode context that its time-out closes (R182, R183).
-/

namespace Sys2Proof.Machine

open Sys2Proof

/-- The registers of a context in which a closed picture shows. -/
def State.closeShown (s : State) (c lost : Nat) : State :=
  (s.count (.DEC_CX_PKT_LOST c) lost).setW (.DEC_CX_SEQ_SEQ c) (s.word (Reg.DEC_CX_SEQ c) + 1)

/-- The picture in assembly closes with `lost` packets missing and joins the queue as `p`; the next picture begins at packet `n`. -/
def State.pictureQueued (s : State) (c lost : Nat) (a : Assembly) (p : Coded) (n : BitVec 16) : State :=
  (((s.closeShown c lost).updCtx c fun x => { x with asm := none, lastClosed := some a.ts, nextSeq := some n }).updCtx c fun x =>
    { x with queue := x.queue ++ [p] }).showQueue c

/-- A picture that closes finds room in a queue of fewer than 4. -/
theorem State.closePicture_room {s : State} {c : Nat} {a : Assembly} (ha : (s.ctx c).asm = some a) (hq : (s.ctx c).queue.length < 4) :
    ∃ lost p n, p.seq = s.word (Reg.DEC_CX_SEQ c) + 1 ∧ s.closePicture c = s.pictureQueued c lost a p n := by
  unfold State.closePicture State.pictureQueued State.closeShown
  rw [ha]
  dsimp only
  rw [State.updCtx_self]
  split
  · next old rest he =>
    replace he : (s.ctx c).queue = old :: rest := he
    rw [he, List.length_cons] at hq
    rw [if_neg (by omega)]
    refine ⟨_, _, _, ?_, rfl⟩
    rfl
  · refine ⟨_, _, _, ?_, rfl⟩
    rfl

/-- What a picture that joins the queue leaves. -/
structure PictureQueued (c : Nat) (a : Assembly) (s t : State) : Prop where
  asm : (t.ctx c).asm = none
  closed : (t.ctx c).lastClosed = some a.ts
  seq : t.word (Reg.DEC_CX_SEQ c) = s.word (Reg.DEC_CX_SEQ c) + 1
  queue : ∃ p : Coded, p.seq = s.word (Reg.DEC_CX_SEQ c) + 1 ∧ (t.ctx c).queue = (s.ctx c).queue ++ [p]
  shown : t.get (.DEC_CX_STATE_QUEUE c) = (t.ctx c).queue.length % 8
  keeps : Keeps [.ctxs] (only [Reg.DEC_CX_PKT c, Reg.DEC_CX_SEQ c, Reg.DEC_CX_STATE c]) s t

theorem State.closeShown_keeps (s : State) (c lost : Nat) : Keeps [] (only [Reg.DEC_CX_PKT c, Reg.DEC_CX_SEQ c]) s (s.closeShown c lost) :=
  ((Keeps.refl _ _ s).count (.DEC_CX_PKT_LOST c) List.mem_cons_self lost).set (.DEC_CX_SEQ_SEQ c) _ (List.mem_cons_of_mem _ List.mem_cons_self)

theorem State.pictureQueued_spec (s : State) (c lost : Nat) (a : Assembly) {p : Coded} (hp : p.seq = s.word (Reg.DEC_CX_SEQ c) + 1) (n : BitVec 16) :
    PictureQueued c a s (s.pictureQueued c lost a p n) := by
  have hshown := s.closeShown_keeps c lost
  have hctx : (s.pictureQueued c lost a p n).ctx c
      = { s.ctx c with asm := none, lastClosed := some a.ts, nextSeq := some n, queue := (s.ctx c).queue ++ [p] } := by
    rw [State.pictureQueued, State.showQueue, State.set_ctx, State.updCtx_self, State.updCtx_self, hshown.ctx List.not_mem_nil]
  refine ⟨by rw [hctx], by rw [hctx], ?_, ⟨p, hp, by rw [hctx]⟩, ?_, ?_⟩
  · have hne : Reg.DEC_CX_SEQ c ≠ Reg.DEC_CX_STATE c := by unfold Reg.DEC_CX_SEQ Reg.DEC_CX_STATE; omega
    rw [State.pictureQueued, State.showQueue, State.word_set _ _ _ _ hne]
    exact State.word_setW_whole _ _ _
  · rw [State.pictureQueued, State.showQueue, State.get_set_self _ _ rfl, State.set_ctx]
    rfl
  · exact (((hshown.widen (by simp) (by simp)).updCtx c _ List.mem_cons_self).updCtx c _ List.mem_cons_self).set (.DEC_CX_STATE_QUEUE c) _
      (by simp [only, Fld.DEC_CX_STATE_QUEUE])

theorem State.asmTimeout_spec {s : State} {c : Nat} {a : Assembly} (ha : (s.ctx c).asm = some a) (hq : (s.ctx c).queue.length < 4) :
    PictureQueued c a s (s.asmTimeout c) := by
  obtain ⟨lost, p, n, hp, heq⟩ := State.closePicture_room ha hq
  rw [State.asmTimeout, heq]
  exact s.pictureQueued_spec c lost a hp n

/-- The sequence number, the assembly and the time of the last picture closed are those of before when cores wake. -/
theorem QueuesTaken.closed {s t : State} (h : QueuesTaken s t) (c : Nat) : (t.ctx c).asm = (s.ctx c).asm
    ∧ (t.ctx c).lastClosed = (s.ctx c).lastClosed ∧ t.word (Reg.DEC_CX_SEQ c) = s.word (Reg.DEC_CX_SEQ c) := by
  obtain ⟨q, -, hctx⟩ := h.ctx c
  refine ⟨by rw [hctx], by rw [hctx], h.keeps.word fun ⟨j, hj⟩ => ?_⟩
  unfold Reg.DEC_CX_SEQ Reg.DEC_CX_STATE at hj
  omega

end Sys2Proof.Machine
end

section
/-!
SUPPORT. A decode that completes (R178, R192 to R195): the errors it counts, and a fault of its picture.
-/

namespace Sys2Proof.Machine

open Sys2Proof

/-! ### The errors of a picture are counted (R195, R198) -/

/-- At `w` the errors of picture `p` with result `r` are counted. -/
def State.errorsCounted (s : State) (c : Nat) (p : Coded) (r : DecodeIn) (w : Word) : State :=
  let s := s.at_ w
  let s := s.count (.DEC_CX_ERR_SYNTAX c) (s.syntaxErrs c p r)
  s.count (.DEC_CX_ERR_MISSING_REF c) (s.missingRefs c r)

theorem State.errorsCounted_keeps (s : State) (c : Nat) (p : Coded) (r : DecodeIn) (w : Word) :
    Keeps [.time] (only [Reg.DEC_CX_ERR c]) s (s.errorsCounted c p r w) :=
  (((Keeps.refl _ _ s).at_ w List.mem_cons_self).count (.DEC_CX_ERR_SYNTAX c) List.mem_cons_self _).count (.DEC_CX_ERR_MISSING_REF c)
    List.mem_cons_self _

theorem State.errorsCounted_ctxState (s : State) (c : Nat) (p : Coded) (r : DecodeIn) (w : Word) : (s.errorsCounted c p r w).ctxState c = s.ctxState c :=
  (s.errorsCounted_keeps c p r w).get (.DEC_CX_STATE_STATE c) fun hm => by
    have : 0x10052024 + 0x40 * c = 0x10052034 + 0x40 * c := List.mem_singleton.mp hm
    omega

/-- The errors of a picture stand in the registers, and the event's time is taken. -/
structure ErrorsCounted (c : Nat) (p : Coded) (r : DecodeIn) (w : Word) (s t : State) : Prop where
  syntaxErrs : t.get (.DEC_CX_ERR_SYNTAX c) = satAdd 8 (s.get (.DEC_CX_ERR_SYNTAX c)) (s.syntaxErrs c p r)
  missingRefs : t.get (.DEC_CX_ERR_MISSING_REF c) = satAdd 8 (s.get (.DEC_CX_ERR_MISSING_REF c)) (s.missingRefs c r)
  now : t.time.now = w
  mram : t.mram = s.mram
  flash : t.flash = s.flash
  plat : t.plat = s.plat
  pending : t.pending = s.pending

theorem State.errorsCounted_spec (s : State) (c : Nat) (p : Coded) (r : DecodeIn) (w : Word) : ErrorsCounted c p r w s (s.errorsCounted c p r w) := by
  have hk := s.errorsCounted_keeps c p r w
  refine ⟨?_, ?_, rfl, hk.same (p := .mram) (by simp), hk.same (p := .flash) (by simp), hk.same (p := .plat) (by simp), hk.1⟩
  · rw [State.errorsCounted, State.count, State.get_set_other _ _ rfl, State.get_count _ _ _ (Nat.le_of_ble_eq_true rfl), State.at__get]
    rfl
  · rw [State.errorsCounted, State.get_count _ _ _ (Nat.le_of_ble_eq_true rfl), State.count, State.get_set_other _ _ rfl, State.at__get]
    rfl

/-! ### The fault that a picture shows (R178) -/

theorem State.setsFault_lt (s : State) (c : Nat) (p : ParamSets) : s.setsFault c p < 16 := by
  unfold State.setsFault
  dsimp only
  split_ifs <;> decide

theorem State.pictureFault_lt (s : State) (c : Nat) (r : DecodeIn) : s.pictureFault c r < 16 := by
  unfold State.pictureFault
  cases s.setsOf c r with
  | none => exact Nat.zero_lt_succ 15
  | some p => exact s.setsFault_lt c p

theorem Keeps.pictureFault {s t : State} {c : Fin 512} (h : Keeps [.time] (only [Reg.DEC_CX_ERR c]) s t) (r : DecodeIn) :
    t.pictureFault c r = s.pictureFault c r := by
  have hget : ∀ f : Fld, f.addr ≠ Reg.DEC_CX_ERR c → t.get f = s.get f := fun f hf => h.get f fun hm => hf (List.mem_singleton.mp hm)
  have himage : t.image = s.image := h.same (p := .image) (by simp)
  have hcodec : t.on (.DEC_CX_CFG_CODEC c) = s.on (.DEC_CX_CFG_CODEC c) :=
    congrArg (· != 0) (hget _ (by show 0x10052000 + 0x40 * c.val ≠ 0x10052034 + 0x40 * c.val; omega))
  have hdepth : t.on (.DEC_CX_CFG_DEPTH10 c) = s.on (.DEC_CX_CFG_DEPTH10 c) :=
    congrArg (· != 0) (hget _ (by show 0x10052000 + 0x40 * c.val ≠ 0x10052034 + 0x40 * c.val; omega))
  have hnode : t.nodeId = s.nodeId := hget _ (by show 0x20040000 ≠ 0x10052034 + 0x40 * c.val; omega)
  have hsrc : t.ctxSrc c = s.ctxSrc c := by rw [State.ctxSrc, State.localSrc, hnode, State.ctxSrc, State.localSrc]
  have hh : ∀ i, t.get (.CAP_DIM_H i) = s.get (.CAP_DIM_H i) := fun i =>
    hget _ (by show 0x20020104 + 0x100 * i ≠ 0x10052034 + 0x40 * c.val; omega)
  have hv : ∀ i, t.get (.CAP_DIM_V i) = s.get (.CAP_DIM_V i) := fun i =>
    hget _ (by show 0x20020104 + 0x100 * i ≠ 0x10052034 + 0x40 * c.val; omega)
  have hdim : t.srcDim (t.ctxSrc c) = s.srcDim (s.ctxSrc c) := by
    rw [hsrc]
    have hlocal : t.isLocal (s.ctxSrc c) = s.isLocal (s.ctxSrc c) := by rw [State.isLocal, hnode, State.isLocal]
    simp only [State.srcDim, hlocal, hh, hv, State.srcDesc, himage]
  have hfault : t.setsFault c = s.setsFault c := by
    funext p
    simp only [State.setsFault, hcodec, hdepth, hdim]
  rw [State.pictureFault, State.setsOf, h.ctx (by simp), hfault, State.pictureFault, State.setsOf]

/-! ### FAULT at the end of a decode (R185) -/

/-- What a decode into buffer `d` does once its errors are counted. -/
def State.decodeEnds (s : State) (c d : Nat) (p : Coded) (r : DecodeIn) (bad : Bool) (core : Nat) : State :=
  if s.pictureFault c r ≠ 0 then ((if s.ctxState c = cxFault then s.freeBuf d else s.ctxFault c (s.pictureFault c r)).saveCtx c r).decTrickEnd c
  else
    let dim := s.srcDim (s.ctxSrc c)
    let taint := taintOf (s.ctx c).dpb (s.concealed c p r) r.preds
    let conceal := concealOf taint.length (granules dim.1 dim.2)
    if s.ctxState c = cxRunning then s.pictureRunning c d p r bad taint conceal core
    else if (s.ctxState c = cxWaitKey ∨ s.ctxState c = cxFault) ∧ p.irap = true ∧ conceal = 0 then
      let t := ((s.finishPicture c d p r bad [] 0 core).setCtx c cxRunning 0).updCtx c fun x => { x with skipRasl := p.craBla }
      (t.saveCtx c r).decTrickEnd c
    else ((s.freeBuf d).saveCtx c r).decTrickEnd c

theorem State.decodeComplete_counted {c : Nat} {r : DecodeIn} {w : Word} {k : RunTrick} {d : Nat} {p : Coded} {s : State} (hk : s.decTrick c = some k)
    (hb : k.buf = some d) (hp : k.coded = some p) (bad : Bool) :
    s.decodeComplete c r bad w = (s.errorsCounted c p r w).decodeEnds c d p r bad k.trick.index := by
  unfold State.decodeComplete
  rw [hk]
  dsimp only
  rw [hb, hp]
  rfl

theorem State.decodeComplete_fault {c : Fin 512} {r : DecodeIn} {w : Word} {k : RunTrick} {d : Nat} {p : Coded} {s : State} (hk : s.decTrick c = some k)
    (hb : k.buf = some d) (hp : k.coded = some p) (hf : s.pictureFault c r ≠ 0) (hclosed : s.ctxState c ≠ cxClosed) (hfault : s.ctxState c ≠ cxFault)
    (bad : Bool) : s.decodeComplete c r bad w
      = (((s.errorsCounted c p r w).setCtx c cxFault (s.pictureFault c r)).saveCtx c r).decTrickEnd c := by
  have hcounted := s.errorsCounted_keeps c p r w
  have hsame := hcounted.pictureFault r
  have hstate := s.errorsCounted_ctxState c p r w
  rw [State.decodeComplete_counted hk hb hp, State.decodeEnds, if_pos (by rwa [hsame]), hstate, if_neg hfault, State.ctxFault, hstate,
    if_neg (not_or.mpr ⟨hclosed, hfault⟩), hsame]

theorem State.saveCtx_keeps (s : State) (c : Nat) (r : DecodeIn) : Keeps [.ctxs] (only []) s (s.saveCtx c r) :=
  (Keeps.refl _ _ s).updCtx c _ List.mem_cons_self

theorem State.decTrickEnd_keeps (s : State) (c : Nat) : Keeps [.ctxs, .dealer] (only []) s (s.decTrickEnd c) :=
  ((Keeps.refl _ _ s).updCtx c _ (by simp)).updDealer _ (by simp)

theorem CtxFaulted.of_keeps {ps : List Part} {c cause : Nat} {s t : State} (h : CtxFaulted c cause s) (k : Keeps ps (only []) s t) :
    CtxFaulted c cause t where
  state := (k.get (.DEC_CX_STATE_STATE c) List.not_mem_nil).trans h.state
  cause := (k.get _ List.not_mem_nil).trans h.cause
  reported := (k.on _ List.not_mem_nil).trans h.reported

theorem State.decodeComplete_fault_spec {c : Fin 512} {r : DecodeIn} {w : Word} {k : RunTrick} {d : Nat} {p : Coded} {s : State}
    (hk : s.decTrick c = some k) (hb : k.buf = some d) (hp : k.coded = some p) (hf : s.pictureFault c r ≠ 0) (hclosed : s.ctxState c ≠ cxClosed)
    (hfault : s.ctxState c ≠ cxFault) (bad : Bool) :
    CtxFaulted c (s.pictureFault c r) (s.decodeComplete c r bad w) ∧ (s.decodeComplete c r bad w).stored = s.stored := by
  rw [State.decodeComplete_fault hk hb hp hf hclosed hfault]
  have hfaulted := (s.errorsCounted c p r w).setCtx_fault_spec c (s.pictureFault_lt c r)
  refine ⟨(hfaulted.of_keeps (State.saveCtx_keeps _ c r)).of_keeps (State.decTrickEnd_keeps _ c), ?_⟩
  rw [stored_decTrickEnd, stored_saveCtx, stored_setCtx, State.errorsCounted, stored_count, stored_count, stored_at_]

end Sys2Proof.Machine
end

section
/-!
SUPPORT. A picture decoded while RUNNING (R192 to R200): the errors counted before stand whatever becomes of its buffer and its context.
-/

namespace Sys2Proof.Machine

open Sys2Proof

/-! ### Steps after which the errors of a context still stand -/

/-- The parts of the state that the end of a decode may change. -/
abbrev decodeParts : List Part := [.ctxs, .dealer, .descs, .dram, .mem, .sco, .fab, .nets]

/-- The errors of context `c`, the time and the stored memories but DRAM are those of before. -/
structure ErrorsStand (c : Nat) (s t : State) : Prop where
  syntaxErrs : t.get (.DEC_CX_ERR_SYNTAX c) = s.get (.DEC_CX_ERR_SYNTAX c)
  missingRefs : t.get (.DEC_CX_ERR_MISSING_REF c) = s.get (.DEC_CX_ERR_MISSING_REF c)
  keeps : Keeps decodeParts anyReg s t

theorem ErrorsStand.trans {c : Nat} {s t u : State} (h : ErrorsStand c s t) (k : ErrorsStand c t u) : ErrorsStand c s u where
  syntaxErrs := k.syntaxErrs.trans h.syntaxErrs
  missingRefs := k.missingRefs.trans h.missingRefs
  keeps := h.keeps.trans k.keeps

/-- A step that writes no error register. -/
theorem ErrorsStand.of_keeps {c : Nat} {ps : List Part} {W : Nat → Prop} {s t : State} (h : Keeps ps W s t) (hp : ps ⊆ decodeParts)
    (hw : ¬ W (Reg.DEC_CX_ERR c)) : ErrorsStand c s t where
  syntaxErrs := h.get _ hw
  missingRefs := h.get _ hw
  keeps := h.mono hp fun _ _ => trivial

theorem ErrorsCounted.stand {c : Nat} {p : Coded} {r : DecodeIn} {w : Word} {s t u : State} (h : ErrorsCounted c p r w s t) (k : ErrorsStand c t u) :
    ErrorsCounted c p r w s u := by
  have hmram : u.mram = t.mram := k.keeps.same (p := .mram) (by simp)
  have hflash : u.flash = t.flash := k.keeps.same (p := .flash) (by simp)
  have hplat : u.plat = t.plat := k.keeps.same (p := .plat) (by simp)
  have htime : u.time = t.time := k.keeps.same (p := .time) (by simp)
  exact ⟨k.syntaxErrs.trans h.syntaxErrs, k.missingRefs.trans h.missingRefs, (congrArg TimeSt.now htime).trans h.now, hmram.trans h.mram,
    hflash.trans h.flash, hplat.trans h.plat, k.keeps.1.trans h.pending⟩

/-- Cores that wake write no error register. -/
theorem QueuesTaken.errorsStand {s t : State} (h : QueuesTaken s t) (c : Nat) : ErrorsStand c s t := by
  refine .of_keeps h.keeps (by simp) fun ⟨j, hj⟩ => ?_
  unfold Reg.DEC_CX_ERR Reg.DEC_CX_STATE at hj
  omega

/-! ### The picture and its header are written (R192, R193) -/

theorem State.keepFailed_keeps (s : State) (a n : Nat) (m : Memory) : Keeps [.dram] (only [Reg.MEM_CHK_CNT]) s (s.keepFailed a n m) := by
  unfold State.keepFailed
  split
  · exact (Keeps.refl _ _ s).withDram m List.mem_cons_self
  · exact ((Keeps.refl _ _ s).count .MEM_CHK_CNT_PERSIST List.mem_cons_self _).withDram _ List.mem_cons_self

theorem State.storeBuf_keeps (s : State) (d : Nat) (m : Memory) : Keeps [.dram, .mem] (only [Reg.MEM_CHK_CNT]) s (s.storeBuf d m) := by
  have hkept : ∀ n, Keeps [.dram, .mem] (only [Reg.MEM_CHK_CNT]) s (s.keepFailed (s.bufAddr d) n m) := fun n =>
    (State.keepFailed_keeps s _ n m).widen (by simp) fun _ => id
  exact (hkept _).updMem (fun x => { x with chk := cleanBlocks x.chk (s.bufAddr d) _ }) (by simp)

theorem State.writeHdr_keeps (s : State) (d : Nat) (h : BufHdr) (bad : Bool) : Keeps [.dram, .mem] (only [Reg.MEM_CHK_CNT]) s (s.writeHdr d h bad) := by
  rw [State.writeHdr_eq, State.storeBytes_eq, State.memWritten]
  exact Keeps.updMem (((s.chargeBlocks_keeps _ _).widen (by simp) (by simp)).trans ((State.keepFailed_keeps _ _ _ _).widen (by simp) (fun _ => id))) _
    (by simp)

theorem State.persistAll_keeps (s : State) (port : Nat) (bs : List Nat) : Keeps [.sco] (only persistRegs) s (s.persistAll port bs) :=
  Keeps.each (fun t b => (t.persist_spec port b _).2) bs (Keeps.refl _ _ s)

/-- The check of a header, whatever its outcome. -/
theorem State.headerCheck_keeps (s : State) (d : Nat) (h : BufHdr) :
    Keeps [.mem, .descs, .sco] (only (Reg.CMP_INT_STATUS :: persistRegs)) s (s.headerCheck d h) := by
  have hread : Keeps [.mem, .descs, .sco] (only (Reg.CMP_INT_STATUS :: persistRegs)) s
      ((s.chargeBlocks 50 1).persistAll 50 (s.badBlocks (s.bufAddr d) 64)) :=
    ((s.chargeBlocks_keeps 50 1).widen (by simp) (List.nil_subset _)).trans
      ((State.persistAll_keeps _ 50 _).widen (by simp) (List.subset_cons_self _ _))
  cases hok : s.hdrAccepted d h with
  | false =>
    rw [State.headerCheck_refused hok]
    exact hread.trans ((State.bufRefused_spec _ d).keeps.widen (by simp) (by simp [persistRegs]))
  | true =>
    unfold State.headerCheck
    dsimp only
    rw [hok, if_pos rfl]
    split
    · exact (hread.updDesc d _ (by simp)).retireBuf d (by simp)
    · exact (hread.updDesc d _ (by simp)).retain _ (by simp)

theorem State.takeRefs_keeps (s : State) (c : Nat) (p : RefPic) (keep : List (BitVec 32)) (isRef : Bool) :
    Keeps [.ctxs, .descs] (only []) s (s.takeRefs c p keep isRef) :=
  Keeps.each (fun t d => (Keeps.refl _ _ t).unhold d holdDeck (by simp)) _ ((Keeps.refl _ _ s).updCtx c _ (by simp))

/-- A part of the end of a decode that writes only the registers `as`. -/
theorem Keeps.thenOnly {c : Nat} {ps : List Part} {as : List Nat} {s t u : State} (h : Keeps decodeParts (· ≠ Reg.DEC_CX_ERR c) s t)
    (k : Keeps ps (only as) t u) (hp : ps ⊆ decodeParts) (ha : Reg.DEC_CX_ERR c ∉ as) : Keeps decodeParts (· ≠ Reg.DEC_CX_ERR c) s u :=
  h.trans (k.mono hp fun _ hm he => ha (he ▸ hm))

theorem ctxErr_notMem_check {c : Nat} (hc : c < 512) : Reg.DEC_CX_ERR c ∉ Reg.CMP_INT_STATUS :: persistRegs := by
  simp [persistRegs, Reg.DEC_CX_ERR, Reg.CMP_INT_STATUS, Reg.MEM_CHK_CNT, Reg.MEM_INT_STATUS, Reg.MEM_CHK_ADDR_LO, Reg.MEM_CHK_ADDR_HI,
    Reg.MEM_CHK_INFO, Reg.LOG_DROP]
  omega

theorem ctxErr_notMem_memCheck {c : Nat} (hc : c < 512) : Reg.DEC_CX_ERR c ∉ [Reg.MEM_CHK_CNT] := fun h =>
  ctxErr_notMem_check hc (by simp [persistRegs, List.mem_singleton.mp h])

/-- The decoded picture `m` is in the buffer, and counted where it is out of order. -/
def State.pictureStored (s : State) (c d core n : Nat) (m : Memory) (reorder : Bool) : State :=
  let t := (s.chargeBlocks (16 + core) n).storeBuf d m
  if reorder then t.count (.DEC_CX_DISC_REORDER c) else t

/-- Its header `hd` is written and checked. -/
def State.pictureHeaded (s : State) (c d : Nat) (hd : BufHdr) (bad : Bool) (conceal : Nat) : State :=
  let t := s.writeHdr d hd bad
  ((if t.hdrAccepted d hd then t.hold d holdDeck else t).headerCheck d hd).set (.DEC_CX_STATE_CONCEAL c) conceal

/-- It is among the references of its context and shown as its last buffer. -/
def State.pictureKept (s : State) (c d core : Nat) (q : RefPic) (keep : List (BitVec 32)) (isRef noShow : Bool) (cap : Option (Time64 × Bool)) :
    State :=
  let t := s.takeRefs c q keep isRef
  let t := if noShow then t else t.updCtx c fun x => { x with lastCap := cap }
  ((t.set (.DEC_CX_LASTBUF_INDEX c) d).set (.DEC_CX_LASTBUF_TICK c) t.tick16).count (.DEC_CORE_PICS core)

theorem State.finishPicture_stages (s : State) (c d : Nat) (p : Coded) (r : DecodeIn) (bad : Bool) (taint : List Nat) (conceal core : Nat) :
    ∃ n m b hd q keep isRef noShow cap, s.finishPicture c d p r bad taint conceal core =
      if ((s.pictureStored c d core n m b).writeHdr d hd bad).hdrAccepted d hd then
        ((s.pictureStored c d core n m b).pictureHeaded c d hd bad conceal).pictureKept c d core q keep isRef noShow cap
      else (s.pictureStored c d core n m b).pictureHeaded c d hd bad conceal :=
  ⟨_, _, _, _, _, _, _, _, _, rfl⟩

theorem State.pictureStored_keeps (s : State) {c : Nat} (hc : c < 512) (d core n : Nat) (m : Memory) (reorder : Bool) :
    Keeps decodeParts (· ≠ Reg.DEC_CX_ERR c) s (s.pictureStored c d core n m reorder) := by
  have hcharged : Keeps decodeParts (· ≠ Reg.DEC_CX_ERR c) s (s.chargeBlocks (16 + core) n) :=
    (Keeps.refl _ _ s).thenOnly (s.chargeBlocks_keeps _ n) (by simp) (by simp)
  have hstored := hcharged.thenOnly (State.storeBuf_keeps _ d m) (by simp) (ctxErr_notMem_memCheck hc)
  cases reorder
  · exact hstored
  · exact hstored.count (.DEC_CX_DISC_REORDER c) (by show Reg.DEC_CX_DISC c ≠ _; unfold Reg.DEC_CX_DISC Reg.DEC_CX_ERR; omega)

theorem State.pictureHeaded_keeps (s : State) {c : Nat} (hc : c < 512) (d : Nat) (hd : BufHdr) (bad : Bool) (conceal : Nat) :
    Keeps decodeParts (· ≠ Reg.DEC_CX_ERR c) s (s.pictureHeaded c d hd bad conceal) := by
  have hwritten : Keeps decodeParts (· ≠ Reg.DEC_CX_ERR c) s (s.writeHdr d hd bad) :=
    (Keeps.refl _ _ s).thenOnly (s.writeHdr_keeps d hd bad) (by simp) (ctxErr_notMem_memCheck hc)
  have hheld : Keeps decodeParts (· ≠ Reg.DEC_CX_ERR c) s
      (if (s.writeHdr d hd bad).hdrAccepted d hd then (s.writeHdr d hd bad).hold d holdDeck else s.writeHdr d hd bad) := by
    split
    · exact hwritten.hold d _ (by simp)
    · exact hwritten
  have hchecked := hheld.thenOnly (State.headerCheck_keeps _ d hd) (by simp) (ctxErr_notMem_check hc)
  exact hchecked.set _ conceal (by show Reg.DEC_CX_STATE c ≠ _; unfold Reg.DEC_CX_STATE Reg.DEC_CX_ERR; omega)

theorem State.pictureKept_keeps (s : State) (c d core : Nat) (q : RefPic) (keep : List (BitVec 32)) (isRef noShow : Bool)
    (cap : Option (Time64 × Bool)) : Keeps decodeParts (· ≠ Reg.DEC_CX_ERR c) s (s.pictureKept c d core q keep isRef noShow cap) := by
  have hlast : Reg.DEC_CX_LASTBUF c ≠ Reg.DEC_CX_ERR c := by unfold Reg.DEC_CX_LASTBUF Reg.DEC_CX_ERR; omega
  have hcore : Reg.DEC_CORE core ≠ Reg.DEC_CX_ERR c := by unfold Reg.DEC_CORE Reg.DEC_CX_ERR; omega
  have htaken : Keeps decodeParts (· ≠ Reg.DEC_CX_ERR c) s (s.takeRefs c q keep isRef) :=
    (Keeps.refl _ _ s).thenOnly (s.takeRefs_keeps c q keep isRef) (by simp) (by simp)
  cases noShow
  · exact (((htaken.updCtx c (fun x => { x with lastCap := cap }) (by simp)).set (.DEC_CX_LASTBUF_INDEX c) _ hlast).set (.DEC_CX_LASTBUF_TICK c) _ hlast).count
      (.DEC_CORE_PICS core) hcore
  · exact ((htaken.set (.DEC_CX_LASTBUF_INDEX c) _ hlast).set (.DEC_CX_LASTBUF_TICK c) _ hlast).count (.DEC_CORE_PICS core) hcore

/-- The end of a decode writes no error register. -/
theorem State.finishPicture_keeps (s : State) {c : Nat} (hc : c < 512) (d : Nat) (p : Coded) (r : DecodeIn) (bad : Bool) (taint : List Nat)
    (conceal core : Nat) : Keeps decodeParts (· ≠ Reg.DEC_CX_ERR c) s (s.finishPicture c d p r bad taint conceal core) := by
  obtain ⟨n, m, b, hd, q, keep, isRef, noShow, cap, heq⟩ := s.finishPicture_stages c d p r bad taint conceal core
  have hheaded := (s.pictureStored_keeps hc d core n m b).trans (State.pictureHeaded_keeps _ hc d hd bad conceal)
  rw [heq]
  split
  · exact hheaded.trans (State.pictureKept_keeps _ c d core q keep isRef noShow cap)
  · exact hheaded

end Sys2Proof.Machine
end

section
/-!
SUPPORT. A picture decoded while RUNNING (R192, R195, R198 to R202): the errors that its decode counts stand when it has completed.
-/

namespace Sys2Proof.Machine

open Sys2Proof

/-! ### A key picture is awaited (R200, R201) -/

/-- Feedback counts in another field of the register of errors. -/
theorem State.feedback_errorsStand (s : State) (c : Nat) : ErrorsStand c s (s.feedback c) := by
  have hsent : ∀ (t : State) (k n : Nat), Keeps [.ctxs] (only []) s t → ErrorsStand c s ((t.count (.DEC_CX_ERR_PLI_SENT c)).sendRtcp c k n) := fun t k n ht => by
    have hsend : Keeps [.nets, .ctxs] (only []) (t.count (.DEC_CX_ERR_PLI_SENT c)) ((t.count (.DEC_CX_ERR_PLI_SENT c)).sendRtcp c k n) :=
      (Keeps.refl _ _ _).sendRtcp c k n (by simp) (by simp)
    refine ⟨?_, ?_, ?_⟩
    · exact (hsend.get _ List.not_mem_nil).trans ((State.get_set_other _ _ rfl).trans (ht.get _ List.not_mem_nil))
    · exact (hsend.get _ List.not_mem_nil).trans ((State.get_set_other _ _ rfl).trans (ht.get _ List.not_mem_nil))
    · exact ((ht.mono (by simp) (by simp)).count (.DEC_CX_ERR_PLI_SENT c) trivial).trans (hsend.mono (by simp) (by simp))
  unfold State.feedback
  dsimp only
  split_ifs
  · exact .of_keeps (Keeps.refl [] (only []) s) (by simp) List.not_mem_nil
  · exact hsent _ _ _ ((Keeps.refl _ _ s).updCtx c _ List.mem_cons_self)
  · exact hsent _ _ _ (Keeps.refl _ _ s)

theorem State.keyAwaited_errorsStand (s : State) (c cause : Nat) : ErrorsStand c s (s.keyAwaited c cause) := by
  have hshown : Keeps [] (only [Reg.DEC_CX_STATE c, Reg.DEC_CX_SRAGE c, Reg.DEC_INT_STATUS]) s
      (((s.set (.DEC_CX_STATE_WAIT_CAUSE c) cause).set (.DEC_CX_SRAGE_WAIT_TICK c) s.tick16).setB .DEC_INT_STATUS_WAIT_KEY true) :=
    (((Keeps.refl _ _ s).set (.DEC_CX_STATE_WAIT_CAUSE c) cause List.mem_cons_self).set (.DEC_CX_SRAGE_WAIT_TICK c) s.tick16
      (List.mem_cons_of_mem _ List.mem_cons_self)).setB .DEC_INT_STATUS_WAIT_KEY true (List.mem_cons_of_mem _ (List.mem_cons_of_mem _ List.mem_cons_self))
  have herr : Reg.DEC_CX_ERR c ∉ [Reg.DEC_CX_STATE c, Reg.DEC_CX_SRAGE c, Reg.DEC_INT_STATUS] := by
    simp [Reg.DEC_CX_ERR, Reg.DEC_CX_STATE, Reg.DEC_CX_SRAGE, Reg.DEC_INT_STATUS]
    omega
  exact (ErrorsStand.of_keeps hshown (by simp) herr).trans (State.feedback_errorsStand _ c)

theorem State.waitKey_errorsStand (s : State) (c : Fin 512) (cause : Nat) : ErrorsStand c s (s.waitKey c cause) := by
  unfold State.waitKey
  split
  · rw [State.setCtx_waitKey]
    have herr : Reg.DEC_CX_ERR c ∉ [Reg.DEC_CX_STATE c] := by
      simp [Reg.DEC_CX_ERR, Reg.DEC_CX_STATE]
    exact ((ErrorsStand.of_keeps (s.ctxEnters_keeps c cxWaitKey) (by simp) herr).trans (State.keyAwaited_errorsStand _ c cause)).trans
      (.of_keeps (State.ctxPresence_keeps _ c _ _) (by simp) (ctxReg_err c).not_fab)
  · exact .of_keeps (Keeps.refl [] (only []) s) (by simp) List.not_mem_nil

/-! ### The picture completes (R192, R198, R202) -/

theorem State.pictureRunning_errorsStand (s : State) (c : Fin 512) (d : Nat) (p : Coded) (r : DecodeIn) (bad : Bool) (taint : List Nat)
    (conceal core : Nat) : ErrorsStand c s (s.pictureRunning c d p r bad taint conceal core) := by
  have hended : ∀ f : CtxSt → CtxSt, ErrorsStand c s
      ((((s.finishPicture c d p r bad taint conceal core).updCtx c f).saveCtx c r).decTrickEnd c) := fun f => by
    have hfinish := ErrorsStand.of_keeps (s.finishPicture_keeps c.isLt d p r bad taint conceal core) (fun _ => id) (not_not_intro rfl)
    have hrest := (((Keeps.refl [.ctxs, .dealer] (only []) (s.finishPicture c d p r bad taint conceal core)).updCtx c f (by simp)).trans
      ((State.saveCtx_keeps _ c r).widen (by simp) (fun _ => id))).trans (State.decTrickEnd_keeps _ c)
    exact hfinish.trans (.of_keeps hrest (by simp) List.not_mem_nil)
  unfold State.pictureRunning
  dsimp only
  split
  · exact hended _
  · exact (hended _).trans (State.waitKey_errorsStand _ c _)

theorem State.decodeComplete_running_spec {c : Fin 512} {r : DecodeIn} {w : Word} {k : RunTrick} {d : Nat} {p : Coded} {s : State}
    (hk : s.decTrick c = some k) (hb : k.buf = some d) (hp : k.coded = some p) (hf : s.pictureFault c r = 0) (hrun : s.ctxState c = cxRunning)
    (bad : Bool) : ErrorsCounted c p r w s (s.decodeComplete c r bad w) := by
  have hcounted := s.errorsCounted_keeps c p r w
  have hstate : (s.errorsCounted c p r w).ctxState c = cxRunning := (s.errorsCounted_ctxState c p r w).trans hrun
  have hfault : ¬ (s.errorsCounted c p r w).pictureFault c r ≠ 0 := not_not_intro ((hcounted.pictureFault r).trans hf)
  rw [State.decodeComplete_counted hk hb hp, State.decodeEnds, if_neg hfault, if_pos hstate]
  exact (s.errorsCounted_spec c p r w).stand (State.pictureRunning_errorsStand ..)

end Sys2Proof.Machine
end

section
/-!
SUPPORT. The rows of the decode contexts (R178 to R198): what each does before the cores look for their next pictures stands in a lemma of its own above.
-/

namespace Sys2Proof.Machine

open Sys2Proof

theorem State.decodes_unhalted {s : State} {c : Nat} (hh : s.deckHalted = false) (hs : s.staleRun .decode c = false) (t : State) :
    (if s.deckHalted || s.staleRun .decode c then s else t) = t := if_neg (by rw [hh, hs]; decide)

/-- Settles O25, row by row: what a row does before the cores wake stands in a lemma of its own, and the cores that wake only cut queues. -/
theorem decodeContextsAreManaged : Obligations.DecodeContextsAreManaged := by
  unfold Obligations.DecodeContextsAreManaged
  refine ⟨?openState, ?openRange, ?openOk, ?closeState, ?closeOk, ?keySent, ?keyState, ?asmTimeout, ?fault, ?running, ?busy⟩
  case openState =>
    intro c b s hu hb hc
    refine gives_awake (fun s => s.decOpen c b) hu rfl ?_
    rw [State.decOpen_state (s := s.quiet) hb hc]
    obtain ⟨hcode, hready, hkeeps⟩ := s.quiet.decRefused_spec c (op := 1) (code := stSTATE) (by decide) (by decide)
    exact ⟨hcode, hready, hkeeps.same (p := .ctxs) List.not_mem_nil, (Keeps.quiet _ _ s).trans hkeeps⟩
  case openRange =>
    intro c b s hu hb hc hr
    refine gives_awake (fun s => s.decOpen c b) hu rfl ?_
    rw [State.decOpen_range (s := s.quiet) hb hc hr]
    obtain ⟨hcode, -, hkeeps⟩ := s.quiet.decRefused_spec c (op := 1) (code := stRANGE) (by decide) (by decide)
    exact ⟨hcode, (Keeps.quiet _ _ s).trans hkeeps⟩
  case openOk =>
    intro c b s hu hb hc hen hip hport hfb
    refine gives_awake (fun s => s.decOpen c b) hu rfl ?_
    have hrange : ¬ s.quiet.openRange c := by
      rintro (h | h | h | h)
      · exact Bool.false_ne_true (h.symm.trans hen)
      · exact hip h
      · exact Bool.false_ne_true (hport.symm.trans h)
      · exact hfb h
    obtain ⟨hcode, hstate, ⟨gen, hown⟩, hother, hkeeps⟩ := State.decOpen_spec (s := s.quiet) hb hc hrange b
    refine ⟨hcode, hstate, ?_, ?_, ?_, ?_, ?_, ?_, hother, (Keeps.quiet _ _ s).trans hkeeps⟩ <;> rw [hown] <;> rfl
  case closeState =>
    intro c s hu hb hc
    refine gives_awake (fun s => (s.decClose c).wakeCores) hu rfl ⟨?_, ?_, fun hn => ?_⟩
    · rw [(State.wakeCores_taken _).decCode, State.decClose_state (s := s.quiet) hb hc]
      exact (s.quiet.decRefused_spec c (by decide) (by decide)).code
    · exact memoryFrame_of_stored (by simp)
    · have hkeeps := (s.quiet.decRefused_spec c (op := 2) (code := stSTATE) (by decide) (by decide)).keeps
      rw [State.decClose_state (s := s.quiet) hb hc, State.wakeCores_after hkeeps List.not_mem_nil hn]
      exact (Keeps.quiet _ _ s).trans hkeeps
  case closeOk =>
    intro c s hu hb hc
    refine gives_awake (fun s => (s.decClose c).wakeCores) hu rfl ?_
    have htaken := State.wakeCores_taken (s.quiet.decClose c)
    obtain ⟨hcode, hclosed⟩ := State.decClose_spec (s := s.quiet) hb hc
    obtain ⟨hstate, hqueue, hdpb⟩ := hclosed.of_taken htaken
    exact ⟨htaken.decCode.trans hcode, hstate, hqueue, hdpb, memoryFrame_of_stored (by simp)⟩
  case keySent =>
    intro c s hu hb hc hf
    refine gives_awake (fun s => s.decKeyReq c) hu rfl ?_
    obtain ⟨hcode, hcount, hkeeps⟩ := State.decKeyReq_spec (s := s.quiet) hb hc hf
    exact ⟨hcode, hcount, (Keeps.quiet _ _ s).trans hkeeps⟩
  case keyState =>
    intro c s hu hb hc
    refine gives_awake (fun s => s.decKeyReq c) hu rfl ?_
    rw [State.decKeyReq_refused (s := s.quiet) hb hc]
    obtain ⟨hcode, -, hkeeps⟩ := s.quiet.decRefused_spec c (op := 3) (code := stSTATE) (by decide) (by decide)
    exact ⟨hcode, (Keeps.quiet _ _ s).trans hkeeps⟩
  case asmTimeout =>
    intro c a s hu ha hq
    refine gives_awake (fun s => (s.asmTimeout c).wakeCores) hu rfl ?_
    obtain ⟨hasm, hclosed, hseq, ⟨p, hp, hqueue⟩, hshown, hkeeps⟩ := State.asmTimeout_spec (s := s.quiet) ha hq
    obtain ⟨hasm', hclosed', hseq'⟩ := (State.wakeCores_taken (s.quiet.asmTimeout c)).closed c
    refine ⟨hasm'.trans hasm, hclosed'.trans hclosed, hseq'.trans hseq, memoryFrame_of_stored (by simp), fun hn => ?_⟩
    rw [State.wakeCores_after hkeeps (by simp) hn]
    have hlength : ((s.quiet.asmTimeout c).ctx c).queue.length = (s.ctx c).queue.length + 1 := by
      rw [hqueue, List.length_append]
      rfl
    refine ⟨hlength, ?_, ?_, (Keeps.quiet _ _ s).trans hkeeps⟩
    · rw [hshown, hlength, Nat.mod_eq_of_lt (by omega)]
    · rw [hqueue, List.getLast?_concat]
      exact congrArg some hp
  case fault =>
    intro c r w k d p s hu hh hs hk hb hp hf hclosed hfault
    refine gives_awake (fun s => if s.deckHalted || s.staleRun .decode c then s else (s.decodeComplete c r false w).wakeCores) hu rfl ?_
    rw [State.decodes_unhalted (s := s.quiet) hh hs]
    obtain ⟨hfaulted, hstored⟩ := State.decodeComplete_fault_spec (s := s.quiet) hk hb hp hf hclosed hfault false (w := w)
    obtain ⟨hstate, hcause, hreported⟩ := hfaulted.of_taken (State.wakeCores_taken _)
    exact ⟨hstate, hcause, hreported, memoryFrame_of_stored ((stored_wakeCores _).trans hstored)⟩
  case running =>
    intro c r b w k d p s hu hh hs hk hb hp hf hrun
    refine gives_awake (fun s => if s.deckHalted || s.staleRun .decode c then s else (s.decodeComplete c r b w).wakeCores) hu rfl ?_
    rw [State.decodes_unhalted (s := s.quiet) hh hs]
    obtain ⟨hsyntax, hmissing, hnow, hmram, hflash, hplat, hpending⟩ :=
      (State.decodeComplete_running_spec (s := s.quiet) hk hb hp hf hrun b (w := w)).stand ((State.wakeCores_taken _).errorsStand c)
    exact ⟨hsyntax, hmissing, hnow, hmram, hflash, hplat, hpending⟩
  case busy =>
    intro c b s hu hb
    obtain ⟨hcode, hkeeps⟩ := s.quiet.decBusy_spec
    have hsame := (Keeps.quiet [] (only [Reg.DEC_CMD_STATUS]) s).trans hkeeps
    refine ⟨gives_awake (fun s => s.decOpen c b) hu rfl ?_, gives_awake (fun s => (s.decClose c).wakeCores) hu rfl ?_,
      gives_awake (fun s => s.decKeyReq c) hu rfl ?_⟩
    · rw [State.decOpen, State.decGo_busy (s := s.quiet) hb]
      exact ⟨hcode, hsame⟩
    · have hclose : s.quiet.decClose c = s.quiet.set .DEC_CMD_STATUS_CODE stBUSY := State.decGo_busy (s := s.quiet) hb ..
      rw [hclose]
      refine ⟨(State.wakeCores_taken _).decCode.trans hcode, memoryFrame_of_stored (by simp), fun hn => ?_⟩
      rw [State.wakeCores_after hkeeps List.not_mem_nil hn]
      exact hsame
    · rw [State.decKeyReq, State.decGo_busy (s := s.quiet) hb]
      exact ⟨hcode, hsame⟩

end Sys2Proof.Machine
end

section
/-!
SUPPORT. The evaluation of a change (R34) does not depend on ENC_CMD, which the command that asks for it writes. For O26.
-/

namespace Sys2Proof.Machine

open Sys2Proof

/-! ### States that differ in ENC_CMD alone -/

/-- The states agree on what the evaluation reads: the image, the Dealer and the registers but ENC_CMD. -/
structure SameAdm (s t : State) : Prop where
  image : t.image = s.image
  dealer : t.dealer = s.dealer
  layers : listedLayers t.regs = listedLayers s.regs
  word : ∀ a, a ≠ Reg.ENC_CMD → t.word a = s.word a

theorem listedLayers_setEncCmd (s : State) (w : Word) : listedLayers (s.setWord Reg.ENC_CMD w).regs = listedLayers s.regs := by
  have hn : ∀ v : Word, (fun (e : Nat × Word) =>
      let l := (e.1 - Reg.CMP_VL_CTRL 0) / 0x20
      if Reg.CMP_VL_CTRL 0 ≤ e.1 ∧ l < 512 ∧ e.1 = Reg.CMP_VL_CTRL l then some l else none) (Reg.ENC_CMD, v) = none :=
    fun v => if_neg fun h => absurd h.1 (show ¬ Reg.CMP_VL_CTRL 0 ≤ Reg.ENC_CMD by decide)
  unfold listedLayers State.setWord Tab.put
  dsimp only
  split
  · exact Tab.filterMap_erase hn _
  · exact Tab.filterMap_insert hn _ _

theorem SameAdm.trans {s t u : State} (h : SameAdm s t) (k : SameAdm t u) : SameAdm s u :=
  ⟨k.image.trans h.image, k.dealer.trans h.dealer, k.layers.trans h.layers, fun a ha => (k.word a ha).trans (h.word a ha)⟩

theorem SameAdm.set (s : State) {f : Fld} (ha : f.addr = Reg.ENC_CMD) (v : Nat) : SameAdm s (s.set f v) where
  image := rfl
  dealer := rfl
  layers := by
    rw [State.set, ha]
    exact listedLayers_setEncCmd s _
  word _ hn := State.word_set _ _ _ _ fun e => hn (e.trans ha)

theorem State.encShow_sameAdm (s : State) (e op : Nat) : SameAdm s (s.encShow e op) :=
  (SameAdm.set s (f := .ENC_CMD_STREAM) rfl e).trans (SameAdm.set _ (f := .ENC_CMD_OP) rfl op)

/-! ### The geometry of layers -/

theorem geoOf_apart {rd rd' : Nat → Word} (h : ∀ a, a ≠ Reg.ENC_CMD → rd' a = rd a) (l : Nat) : geoOf rd' l = geoOf rd l := by
  have e : ∀ a, 0x20004000 ≤ a → rd' a = rd a := fun a ha => h a (by unfold Reg.ENC_CMD; omega)
  simp only [geoOf, e, Reg.CMP_VL_CTRL, Reg.CMP_VL_SRC, Reg.CMP_VL_CROP_POS, Reg.CMP_VL_CROP_SIZE, Reg.CMP_VL_DST_POS, Reg.CMP_VL_DST_SIZE,
    Nat.le_add_right, Nat.le_add_right_of_le, Nat.reduceLeDiff]

theorem handOut_congr {rd rd' : Nat → Word} (h : ∀ l, geoOf rd' l = geoOf rd l) (ls free : List Nat) (acc : List (Nat × Nat × Option Nat)) :
    handOut rd' ls free acc = handOut rd ls free acc := by
  induction ls generalizing free acc with
  | nil => rfl
  | cons l rest ih =>
    simp only [handOut, h, ih]

section
variable {s t : State} (h : SameAdm s t)
include h

theorem SameAdm.get {f : Fld} (hf : f.addr ≠ Reg.ENC_CMD) : t.get f = s.get f := congrArg f.of (h.word _ hf)

theorem SameAdm.on {f : Fld} (hf : f.addr ≠ Reg.ENC_CMD) : t.on f = s.on f := congrArg (· != 0) (h.get hf)

theorem SameAdm.pTick : t.pTick = s.pTick := by
  rw [State.pTick, h.get (by decide), h.get (by decide), State.pTick]

theorem SameAdm.nodeId : t.nodeId = s.nodeId := h.get (by decide)

theorem SameAdm.localSrc (i : Nat) : t.localSrc i = s.localSrc i := by
  rw [State.localSrc, h.nodeId, State.localSrc]

theorem SameAdm.ctxSrc (c : Nat) : t.ctxSrc c = s.ctxSrc c := h.localSrc _

theorem SameAdm.encSrc (e : Nat) : t.encSrc e = s.encSrc e := by
  have hf : (Fld.ENC_ST_CFG_SRC_ID e).addr ≠ Reg.ENC_CMD := by
    show 0x10062000 + 0x40 * e ≠ 0x10060020
    omega
  rw [State.encSrc, h.get hf, State.encSrc]

theorem SameAdm.srcDesc (src : BitVec 16) : t.srcDesc src = s.srcDesc src := by
  rw [State.srcDesc, h.image, State.srcDesc]

theorem SameAdm.isLocal (src : BitVec 16) : t.isLocal src = s.isLocal src := by
  rw [State.isLocal, h.nodeId, State.isLocal]

/-! ### The deals of a cycle -/

theorem SameAdm.rdOf (b : DealBase) (a : Nat) (ha : a ≠ Reg.ENC_CMD) : t.rdOf b a = s.rdOf b a := by
  rw [State.rdOf, h.word a ha, State.rdOf]

theorem SameAdm.geoOf_rdOf (b : DealBase) (l : Nat) : geoOf (t.rdOf b) l = geoOf (s.rdOf b) l := geoOf_apart (h.rdOf b) l

theorem SameAdm.chargedFmt (src : BitVec 16) : t.chargedFmt src = s.chargedFmt src := by
  have hdepth : t.on (.DEC_CX_CFG_DEPTH10 (srcLocal src - 16)) = s.on (.DEC_CX_CFG_DEPTH10 (srcLocal src - 16)) := by
    refine h.on ?_
    show 0x10052000 + 0x40 * (srcLocal src - 16) ≠ 0x10060020
    omega
  unfold State.chargedFmt
  dsimp only
  rw [h.isLocal, h.srcDesc, hdepth]

theorem SameAdm.fetchCharge {rd rd' : Nat → Word} (hr : ∀ l, geoOf rd' l = geoOf rd l) (ls : List Nat) (o : Nat) :
    t.fetchCharge rd' ls o = s.fetchCharge rd ls o := by
  simp only [State.fetchCharge, hr, h.chargedFmt]

theorem SameAdm.charged {rd rd' : Nat → Word} (hr : ∀ l, geoOf rd' l = geoOf rd l) (ly : LayoutDesc) (ls : List Nat) :
    t.charged ly rd' ls = s.charged ly rd ls := by
  funext x
  have hcap : t.get (.CAP_CFG_STORE_FMT x.job) = s.get (.CAP_CFG_STORE_FMT x.job) :=
    h.get (show 0x20020100 + 0x100 * x.job ≠ 0x10060020 by omega)
  have hown := h.fetchCharge (rd := LayoutDesc_word ly) (rd' := LayoutDesc_word ly) fun _ => rfl
  simp only [State.charged, hown, h.fetchCharge hr, h.srcDesc, h.localSrc, hcap]

theorem SameAdm.decodeSlots (src : BitVec 16) : t.decodeSlots src = s.decodeSlots src := by
  rw [State.decodeSlots, h.srcDesc, h.pTick, State.decodeSlots]

theorem SameAdm.decodeTricks (ts : List Trick) : t.decodeTricks ts = s.decodeTricks ts := by
  simp only [State.decodeTricks, h.decodeSlots, h.localSrc]

theorem SameAdm.scanTricks (ts : List Trick) : t.scanTricks ts = s.scanTricks ts := by
  have hspt : ∀ j, t.get (.TCH_P_CFG0_SPT j) = s.get (.TCH_P_CFG0_SPT j) := fun j =>
    h.get (show 0x10090100 + 0x100 * j ≠ 0x10060020 by omega)
  have hphase : ∀ j, t.get (.TCH_P_CFG1_SCAN_PHASE j) = s.get (.TCH_P_CFG1_SCAN_PHASE j) := fun j =>
    h.get (show 0x10090104 + 0x100 * j ≠ 0x10060020 by omega)
  simp only [State.scanTricks, hspt, hphase, h.pTick]

theorem SameAdm.dealsOf (b : DealBase) : t.dealsOf b = s.dealsOf b := by
  have hg := h.geoOf_rdOf b
  have hshown : shownSources (t.rdOf b) b.layers = shownSources (s.rdOf b) b.layers := by simp only [shownSources, hg]
  have hsrc : t.srcDesc = s.srcDesc := funext h.srcDesc
  simp only [State.dealsOf, State.layout?, State.dealAt, h.image, hshown, hsrc, h.decodeTricks, h.scanTricks, h.charged hg]

/-! ### Scalers, cores and the limits of a deal -/

theorem SameAdm.scalersHeld (o l : Nat) : t.scalersHeld o l = s.scalersHeld o l := by
  have hk : ∀ k, Reg.CMP_SC_STAT o k ≠ Reg.ENC_CMD := fun k => by
    unfold Reg.CMP_SC_STAT Reg.ENC_CMD
    omega
  have hassigned : ∀ k, t.on (.CMP_SC_STAT_ASSIGNED o k) = s.on (.CMP_SC_STAT_ASSIGNED o k) := fun k => h.on (hk k)
  have hlayer : ∀ k, t.get (.CMP_SC_STAT_LAYER o k) = s.get (.CMP_SC_STAT_LAYER o k) := fun k => h.get (hk k)
  have hupper : ∀ k, t.on (.CMP_SC_STAT_UPPER o k) = s.on (.CMP_SC_STAT_UPPER o k) := fun k => h.on (hk k)
  have hpaired : ∀ k, t.on (.CMP_SC_STAT_PAIRED o k) = s.on (.CMP_SC_STAT_PAIRED o k) := fun k => h.on (hk k)
  have hpartner : ∀ k, t.get (.CMP_SC_STAT_PARTNER o k) = s.get (.CMP_SC_STAT_PARTNER o k) := fun k => h.get (hk k)
  simp only [State.scalersHeld, hassigned, hlayer, hupper, hpaired, hpartner]

theorem SameAdm.assignScalers (b : DealBase) (ls : List Nat) (o : Nat) :
    t.assignScalers (t.rdOf b) ls o = s.assignScalers (s.rdOf b) ls o := by
  have hg := h.geoOf_rdOf b
  have hgeo : ∀ l, t.geo l = s.geo l := geoOf_apart h.word
  have hstack : stackOf (t.rdOf b) ls o = stackOf (s.rdOf b) ls o := by simp only [stackOf, hg]
  simp only [State.assignScalers, hstack, hg, h.scalersHeld, hgeo, handOut_congr hg]

theorem SameAdm.admissible (cls : EngineClass) : t.admissible cls = s.admissible cls := by
  simp only [State.admissible, h.pTick]

theorem SameAdm.trickLoad : t.trickLoad = s.trickLoad := by
  funext x
  have hdiv : t.get (.ENC_ST_CFG_DIV x.job) = s.get (.ENC_ST_CFG_DIV x.job) := h.get (show 0x10062000 + 0x40 * x.job ≠ 0x10060020 by omega)
  have hdrives : t.get (.TCH_P_CFG0_DRIVES x.job) = s.get (.TCH_P_CFG0_DRIVES x.job) := h.get (show 0x10090100 + 0x100 * x.job ≠ 0x10060020 by omega)
  have hsenses : t.get (.TCH_P_CFG0_SENSES x.job) = s.get (.TCH_P_CFG0_SENSES x.job) := h.get (show 0x10090100 + 0x100 * x.job ≠ 0x10060020 by omega)
  simp only [State.trickLoad, h.ctxSrc, h.encSrc, h.localSrc, h.srcDesc, h.decodeSlots, h.pTick, hdiv, hdrives, hsenses]

theorem SameAdm.engineLoad (deal : List Trick) (e : EngineClass × Nat) : t.engineLoad deal e = s.engineLoad deal e := by
  rw [State.engineLoad, h.trickLoad, State.engineLoad]

theorem SameAdm.pictureSize (x : Trick) : t.pictureSize x = s.pictureSize x := by
  simp only [State.pictureSize, h.ctxSrc, h.encSrc, h.srcDesc]

theorem SameAdm.placeJob (deals : List (List Trick)) : t.placeJob deals = s.placeJob deals := by
  funext x j
  simp only [State.placeJob, h.engineLoad, h.admissible, h.pictureSize]

theorem SameAdm.currentCore (base cand : DealBase) (old : List (Nat × Trick)) (j : Nat × Trick) :
    t.currentCore base cand old j = s.currentCore base cand old j := by
  simp only [State.currentCore, h.geoOf_rdOf, h.ctxSrc]

theorem SameAdm.placeAll (base cand : DealBase) : t.placeAll base cand = s.placeAll base cand := by
  simp only [State.placeAll, h.dealsOf, h.placeJob, h.currentCore]

theorem SameAdm.usableDram : t.usableDram = s.usableDram := by
  rw [State.usableDram, State.memSubs, h.get (by decide), h.get (by decide), h.pTick, State.usableDram, State.memSubs]

theorem SameAdm.dealDram (deal : List Trick) : t.dealDram deal = s.dealDram deal := by
  have hport : t.reservedBytes deal = s.reservedBytes deal := by
    funext p
    simp only [State.reservedBytes, h.pTick]
  rw [State.dealDram, hport, State.dealDram]

theorem SameAdm.trumpPorts (src dest : Nat) : t.trumpPorts false src dest = s.trumpPorts false src dest := by
  have hd : Reg.FAB_RT dest ≠ Reg.ENC_CMD := by
    unfold Reg.FAB_RT Reg.ENC_CMD
    omega
  have hvalid : t.on (.FAB_RT_VALID dest) = s.on (.FAB_RT_VALID dest) := h.on hd
  have hlocal : t.on (.FAB_RT_LOCAL dest) = s.on (.FAB_RT_LOCAL dest) := h.on hd
  have hport : t.get (.FAB_RT_PORT dest) = s.get (.FAB_RT_PORT dest) := h.get hd
  simp only [State.trumpPorts, hvalid, hlocal, hport, Bool.false_eq_true, if_false]

theorem SameAdm.portFlows (p : Nat) : t.portFlows p = s.portFlows p := by
  have hrank : ∀ f, t.get (.FAB_FLOW_CFG_RANK f) = s.get (.FAB_FLOW_CFG_RANK f) := fun f => h.get (show 0x20048000 + 0x8 * f ≠ 0x10060020 by omega)
  simp only [State.portFlows, State.routePorts, h.image, h.nodeId, h.trumpPorts, hrank]

theorem SameAdm.flowCost (f : FlowDesc) (w : Nat) : t.flowCost f w = s.flowCost f w := by
  have hcls : t.get (.FAB_FLOW_CFG_CLASS f.id) = s.get (.FAB_FLOW_CFG_CLASS f.id) := h.get (show 0x20048000 + 0x8 * f.id ≠ 0x10060020 by omega)
  simp only [State.flowCost, h.srcDesc, hcls]

theorem SameAdm.overPort (deal : List Trick) : t.overPort deal = s.overPort deal := by
  have hp : ∀ p, Reg.FAB_P_STATUS p ≠ Reg.ENC_CMD := fun p => by
    unfold Reg.FAB_P_STATUS Reg.ENC_CMD
    omega
  have hwidth : ∀ p, t.get (.FAB_P_STATUS_WIDTH p) = s.get (.FAB_P_STATUS_WIDTH p) := fun p => h.get (hp p)
  have hstate : ∀ p, t.get (.FAB_P_STATUS_STATE p) = s.get (.FAB_P_STATUS_STATE p) := fun p => h.get (hp p)
  unfold State.overPort State.portUp State.portState State.payload
  congr 1
  funext p
  dsimp only
  rw [hwidth, hstate, h.portFlows, h.pTick, funext fun f => h.flowCost f (widthLanes (s.get (.FAB_P_STATUS_WIDTH p)))]

theorem SameAdm.dealFails : t.dealFails = s.dealFails := by
  funext deal
  have hengine : t.overEngine deal = s.overEngine deal := by simp only [State.overEngine, h.admissible, h.engineLoad]
  simp only [State.dealFails, h.usableDram, h.dealDram, hengine, h.overPort]

/-! ### The evaluation -/

theorem SameAdm.admBase : t.admBase = s.admBase := by
  simp only [State.admBase, State.layersTouched, h.dealer, h.layers]

/-- A START or STOP of a stream is evaluated alike. -/
theorem SameAdm.evaluate (base : DealBase) (c : Change) (hp : ∀ b, t.permitted c b = s.permitted c b) :
    t.evaluate base c = s.evaluate base c := by
  simp only [State.evaluate, hp, h.assignScalers, h.placeAll, h.dealFails]

end

end Sys2Proof.Machine
end

section
/-!
SUPPORT. START, STOP and KEY of ENC_CMD (R205, R209, R211), for O26.
-/

namespace Sys2Proof.Machine

open Sys2Proof

/-! ### What a command reads after it has shown stream and operation -/

/-- The change that a START or STOP hands to the Dealer (R34). -/
def State.streamChange (s : State) (kind : ChangeKind) : Change :=
  { id := s.dealer.nextChange, kind := kind, stage := .waiting, place := [], dueTick := s.tick + 1 }

section
variable (s : State) (e op : Nat)

theorem State.encShow_keeps : Keeps [] (only [Reg.ENC_CMD]) s (s.encShow e op) :=
  ((Keeps.refl _ _ s).set .ENC_CMD_STREAM e List.mem_cons_self).set .ENC_CMD_OP op List.mem_cons_self

theorem State.encShow_dealing : (s.encShow e op).dealing = s.dealing := by
  rw [State.dealing, (s.encShow_keeps e op).devState (by decide), State.dealing]

theorem State.encShow_dealer : (s.encShow e op).dealer = s.dealer := (s.encShow_keeps e op).same (p := .dealer) List.not_mem_nil

theorem State.encShow_streamChange (kind : ChangeKind) : (s.encShow e op).streamChange kind = s.streamChange kind := by
  rw [State.streamChange, State.encShow_dealer, State.tick, (s.encShow_keeps e op).word (by decide), State.streamChange, State.tick]

end

theorem State.encAnswer_ready (s : State) (code reason : Nat) : (s.encAnswer code reason).on .ENC_CMD_STATUS_BUSY = false :=
  (State.on_set_other _ _ rfl).trans (State.on_setB _ _ rfl rfl)

theorem State.encAnswer_reason (s : State) (code : Nat) {reason : Nat} (h : reason < 16) : (s.encAnswer code reason).get .ENC_CMD_STATUS_REASON = reason :=
  (State.get_set_other _ _ rfl).trans ((State.get_set_other _ _ rfl).trans (State.get_set_fits _ rfl (wid := 4) rfl h))

/-! ### START and STOP -/

theorem State.encCmd_stream (s : State) (e : Nat) : s.encCmd e 1 = (s.encShow e 1).encChange (.encStart e)
    ∧ s.encCmd e 2 = (s.encShow e 2).encChange (.encStop e) :=
  ⟨rfl, rfl⟩

theorem State.encChange_undealt {s : State} (h : s.dealing = false) (kind : ChangeKind) : s.encChange kind = s.encAnswer stSTATE 0 := if_pos h

theorem State.encChange_handed {s : State} (hd : s.dealing = true) (hl : s.dealer.changes.length < 4) (kind : ChangeKind) :
    s.encChange kind = s.encHand (s.streamChange kind) := by
  unfold State.encChange
  dsimp only
  rw [if_neg (by rw [hd]; decide), if_neg (Nat.not_le.mpr hl)]
  rfl

theorem State.encChange_held {s : State} (hd : s.dealing = true) (hl : 4 ≤ s.dealer.changes.length) (kind : ChangeKind) :
    s.encChange kind = if (s.evaluate s.admBase (s.streamChange kind)).code = stOK then s.changeRefused.encAnswer stBUSY 0
      else s.changeRefused.encAnswer (s.evaluate s.admBase (s.streamChange kind)).code (s.evaluate s.admBase (s.streamChange kind)).reason := by
  unfold State.encChange
  dsimp only
  rw [if_neg (by rw [hd]; decide), if_pos hl]
  rfl

/-- A command that is answered with `code` and writes the registers `as` alone. -/
structure EncAnswered (code : Nat) (as : List Nat) (s t : State) : Prop where
  code : t.get .ENC_CMD_STATUS_CODE = code
  ready : t.on .ENC_CMD_STATUS_BUSY = false
  done : t.on .ENC_INT_STATUS_CMD_DONE = true
  keeps : Keeps [] (only as) s t

theorem Keeps.encAnswered {s t : State} {as : List Nat} (h : Keeps [] (only as) s t) {code : Nat} (hc : code < 256) (reason : Nat)
    (hw : [Reg.ENC_CMD_STATUS, Reg.ENC_INT_STATUS] ⊆ as) : EncAnswered code as s (t.encAnswer code reason) := by
  obtain ⟨hcode, hdone, hend⟩ := t.encAnswer_spec hc reason
  exact ⟨hcode, t.encAnswer_ready code reason, hdone, h.trans (hend.widen (fun _ => id) hw)⟩

/-- Outside DEALING a stream neither starts nor stops. -/
theorem State.encChange_state {s : State} (hd : s.dealing = false) (e op : Nat) (kind : ChangeKind) :
    EncAnswered stSTATE [Reg.ENC_CMD, Reg.ENC_CMD_STATUS, Reg.ENC_INT_STATUS] s ((s.encShow e op).encChange kind) := by
  rw [State.encChange_undealt ((s.encShow_dealing e op).trans hd)]
  exact ((s.encShow_keeps e op).widen (fun _ => id) (by simp)).encAnswered (by decide) 0 (by simp)

/-- A change that the Dealer takes waits for the next tick. -/
structure EncHanded (kind : ChangeKind) (s t : State) : Prop where
  changes : t.dealer.changes = s.dealer.changes ++ [s.streamChange kind]
  next : t.dealer.nextChange = s.dealer.nextChange + 1
  busy : t.on .ENC_CMD_STATUS_BUSY = true
  keeps : Keeps [.dealer] (only [Reg.ENC_CMD, Reg.ENC_CMD_STATUS, Reg.DLR_STATUS]) s t

theorem State.encChange_waits {s : State} (hd : s.dealing = true) (hl : s.dealer.changes.length < 4) (e op : Nat) (kind : ChangeKind) :
    EncHanded kind s ((s.encShow e op).encChange kind) := by
  have hdealer := s.encShow_dealer e op
  obtain ⟨hbusy, hhand, hkeep⟩ := (s.encShow e op).encHand_spec (s.streamChange kind)
  rw [State.encChange_handed ((s.encShow_dealing e op).trans hd) (hdealer ▸ hl), s.encShow_streamChange]
  rw [hdealer] at hhand
  exact ⟨congrArg Dealer.changes hhand, congrArg Dealer.nextChange hhand, hbusy,
    ((s.encShow_keeps e op).widen (List.nil_subset _) (by simp)).trans (hkeep.widen (fun _ => id) (by simp))⟩

/-! ### Four changes held (R35) -/

/-- A change refused with four held is answered with `code`, and the refusal reported. -/
structure EncHeld (code : Nat) (s t : State) : Prop extends
    EncAnswered code [Reg.ENC_CMD, Reg.ENC_CMD_STATUS, Reg.ENC_INT_STATUS, Reg.DLR_INT_STATUS] s t where
  refused : t.on .DLR_INT_STATUS_ADM_REFUSED = true

theorem State.encRefused_spec (s : State) (e op : Nat) {code : Nat} (hc : code < 256) (reason : Nat) :
    EncHeld code s ((s.encShow e op).changeRefused.encAnswer code reason) := by
  have hshown : Keeps [] (only [Reg.ENC_CMD, Reg.ENC_CMD_STATUS, Reg.ENC_INT_STATUS, Reg.DLR_INT_STATUS]) s (s.encShow e op).changeRefused :=
    ((s.encShow_keeps e op).widen (fun _ => id) (by simp)).setB .DLR_INT_STATUS_ADM_REFUSED true (by simp [Fld.DLR_INT_STATUS_ADM_REFUSED])
  have hend := ((s.encShow e op).changeRefused.encAnswer_spec hc reason).2.2
  exact ⟨hshown.encAnswered hc reason (by simp), (hend.on .DLR_INT_STATUS_ADM_REFUSED (by decide)).trans (State.on_setB _ _ rfl rfl)⟩

/-- The evaluation reads nothing that the command writes. -/
theorem State.encShow_evaluate (s : State) (e op : Nat) (kind : ChangeKind)
    (hp : ∀ b, (s.encShow e op).permitted (s.streamChange kind) b = s.permitted (s.streamChange kind) b) :
    (s.encShow e op).evaluate (s.encShow e op).admBase ((s.encShow e op).streamChange kind) = s.evaluate s.admBase (s.streamChange kind) := by
  have hsame := s.encShow_sameAdm e op
  rw [s.encShow_streamChange, hsame.admBase, hsame.evaluate _ _ hp]

theorem State.encStart_held {s : State} (hd : s.dealing = true) (hl : 4 ≤ s.dealer.changes.length) (e : Nat) :
    s.encCmd e 1 = if (s.evaluate s.admBase (s.streamChange (.encStart e))).code = stOK then (s.encShow e 1).changeRefused.encAnswer stBUSY 0
      else (s.encShow e 1).changeRefused.encAnswer (s.evaluate s.admBase (s.streamChange (.encStart e))).code
        (s.evaluate s.admBase (s.streamChange (.encStart e))).reason := by
  have henabled : (s.encShow e 1).on (.ENC_ST_CFG_EN e) = s.on (.ENC_ST_CFG_EN e) := (s.encShow_sameAdm e 1).on (by
    show 0x10062000 + 0x40 * e ≠ 0x10060020
    omega)
  rw [(s.encCmd_stream e).1, State.encChange_held ((s.encShow_dealing e 1).trans hd) (s.encShow_dealer e 1 ▸ hl),
    s.encShow_evaluate e 1 (.encStart e) fun _ => henabled]

theorem State.encStop_held {s : State} (hd : s.dealing = true) (hl : 4 ≤ s.dealer.changes.length) (e : Nat)
    (ha : (s.evaluate s.admBase (s.streamChange (.encStop e))).code = stOK) : s.encCmd e 2 = (s.encShow e 2).changeRefused.encAnswer stBUSY 0 := by
  rw [(s.encCmd_stream e).2, State.encChange_held ((s.encShow_dealing e 2).trans hd) (s.encShow_dealer e 2 ▸ hl),
    s.encShow_evaluate e 2 (.encStop e) fun _ => rfl, if_pos ha]

/-- A stream that is not enabled is not permitted. -/
theorem State.evaluate_disabled {s : State} {e : Nat} (h : s.on (.ENC_ST_CFG_EN e) = false) (base : DealBase) :
    s.evaluate base (s.streamChange (.encStart e)) = admRefused admPermit 0 0 := if_pos h

/-! ### KEY (R209) -/

/-- Where no picture is being coded, a key request changes registers alone. -/
theorem State.keyRequest_idle {s : State} {e : Nat} (h : s.encTrick e = none) :
    s.keyRequest e = (s.count (.ENC_ST_KEYS_REQUESTS e)).setB (.ENC_ST_STATE_KEY_PENDING e) true := by
  have hidle : ((s.count (.ENC_ST_KEYS_REQUESTS e)).setB (.ENC_ST_STATE_KEY_PENDING e) true).encTrick e = none := h
  unfold State.keyRequest
  dsimp only
  rw [hidle]
  rfl

theorem State.encShow_runs (s : State) (e : Fin 32) (op : Nat) : (s.encShow e op).encRuns e = s.encRuns e :=
  (s.encShow_keeps e op).on (.ENC_ST_STATE_RUNNING e) (by apply checkEach e; decide)

/-- KEY on a stream that is stopped. -/
theorem State.encCmd_keyState {s : State} {e : Fin 32} (h : s.encRuns e = false) :
    EncAnswered stSTATE [Reg.ENC_CMD, Reg.ENC_CMD_STATUS, Reg.ENC_INT_STATUS] s (s.encCmd e 3) := by
  rw [State.encCmd_keyRefused ((s.encShow_runs e 3).trans h)]
  exact ((s.encShow_keeps e 3).widen (fun _ => id) (by simp)).encAnswered (by decide) 0 (by simp)

/-- A key request that is recorded, and its command answered. -/
structure KeyAsked (e : Nat) (s t : State) : Prop where
  code : t.get .ENC_CMD_STATUS_CODE = stOK
  counted : t.get (.ENC_ST_KEYS_REQUESTS e) = satAdd 16 (s.get (.ENC_ST_KEYS_REQUESTS e)) 1
  pending : t.on (.ENC_ST_STATE_KEY_PENDING e) = true
  keeps : Keeps [] (only [Reg.ENC_CMD, Reg.ENC_CMD_STATUS, Reg.ENC_INT_STATUS, Reg.ENC_ST_KEYS e, Reg.ENC_ST_STATE e]) s t

/-- KEY on a stream that runs and codes no picture. -/
theorem State.encCmd_key_spec {s : State} {e : Fin 32} (h : s.encRuns e = true) (ht : s.encTrick e = none) : KeyAsked e s (s.encCmd e 3) := by
  have hshow := s.encShow_keeps e 3
  have hidle : (s.encShow e 3).encTrick e = none := by rw [State.encTrick, State.encShow_dealer, ← State.encTrick, ht]
  have hrequests : (s.encShow e 3).get (.ENC_ST_KEYS_REQUESTS e) = s.get (.ENC_ST_KEYS_REQUESTS e) := hshow.get _ (by apply checkEach e; decide)
  rw [State.encCmd_key ((s.encShow_runs e 3).trans h)]
  generalize s.encShow e 3 = u at hshow hidle hrequests ⊢
  obtain ⟨hpending, hcount, -⟩ := u.keyRequest_spec e
  have hkey : Keeps [] (only [Reg.ENC_ST_KEYS e, Reg.ENC_ST_STATE e]) u (u.keyRequest e) := by
    rw [State.keyRequest_idle hidle]
    exact ((Keeps.refl _ _ u).count _ List.mem_cons_self).setB _ _ (List.mem_cons_of_mem _ List.mem_cons_self)
  generalize u.keyRequest e = v at hpending hcount hkey ⊢
  obtain ⟨hcode, -, hend⟩ := v.encAnswer_spec (code := stOK) (by decide) 0
  refine ⟨hcode, ?_, (hend.on _ (by apply checkEach e; decide)).trans hpending,
    ((hshow.widen (fun _ => id) (by simp)).trans (hkey.widen (fun _ => id) (by simp))).trans (hend.widen (fun _ => id) (by simp))⟩
  rw [hend.get _ (by apply checkEach e; decide), hcount, hrequests]
  rfl

end Sys2Proof.Machine
end

section
/-!
SUPPORT. What a stream sends (R204, R208): packets to a network port or over the fabric write neither a stream's own registers nor the record of the step.
-/

namespace Sys2Proof.Machine

open Sys2Proof

/-! ### Steps that send -/

/-- The registers that a packet to the fabric may write: those of the fabric, and the log's count of what it dropped. -/
abbrev sendReg (a : Nat) : Prop := fabReg a ∨ a = Reg.LOG_DROP

/-- Packets went out or were policed: nothing is emitted, and only the queues, counts and the log changed. -/
structure Sent (s t : State) : Prop where
  out : t.out = s.out
  keeps : Keeps [.encs, .nets, .fab, .sco] sendReg s t

theorem Sent.refl (s : State) : Sent s s := ⟨rfl, Keeps.refl _ _ s⟩

theorem Sent.trans {s t u : State} (h : Sent s t) (k : Sent t u) : Sent s u := ⟨k.out.trans h.out, h.keeps.trans k.keeps⟩

theorem Sent.of_fabric {s t : State} (h : Keeps [.fab] fabReg s t) (ho : t.out = s.out) : Sent s t := ⟨ho, h.mono (by simp) fun _ => .inl⟩

/-! ### The fabric (R219, R222, R226) -/

theorem State.originate_out (s : State) (type dest : Nat) (bcast : Bool) (args : List Nat) (bank : Bool) :
    (s.originate type dest bcast args bank).out = s.out := by
  have hset : ∀ (t : State) (p : Nat) (m : Trump), (t.enqueue p m bank).out = t.out := fun _ _ _ => rfl
  unfold State.originate
  exact State.each_out (fun t p => hset t p _) _ _

theorem State.refreshFlows_out (s : State) : s.refreshFlows.out = s.out := by
  unfold State.refreshFlows
  refine State.each_out (fun t f => ?_) _ _
  dsimp only
  split <;> rfl

theorem State.stopFlow_sent (s : State) (f : Nat) : Sent s (s.stopFlow f) := by
  unfold State.stopFlow
  split
  · next d _ =>
    split
    · have hstopped : Keeps [.fab] fabReg s (s.setB (.FAB_FLOW_STATE_STOPPED f) true) := (Keeps.refl _ _ s).setB _ _ (fabReg_flowState f)
      refine .of_fabric ((hstopped.trans (State.sendPresence_keeps _ d false)).trans (State.refreshFlows_keeps _)) ?_
      exact (State.refreshFlows_out _).trans (State.originate_out ..)
    · exact .refl s
  · exact .refl s

theorem State.log_sent (s : State) (event : Nat) (args : List Nat) : Sent s (s.log event args) where
  out := by
    unfold State.log State.logPut
    dsimp only
    split <;> rfl
  keeps := (Keeps.refl _ _ s).logFull event args (by simp) (.inr rfl)

theorem State.flowStop_sent (s : State) (f p : Nat) : Sent s (s.flowStop f p) := by
  unfold State.flowStop
  dsimp only
  refine (s.log_sent 0x0503 (by2 f ++ [3, p])).trans ?_
  split
  · split
    · exact State.stopFlow_sent _ f
    · exact .of_fabric ((Keeps.refl _ _ _).originate _ _ _ _ _ (by simp)) (State.originate_out ..)
  · exact .refl _

theorem State.policed_sent (s : State) (p f : Nat) : Sent s (s.policed p f) := by
  have hcounted : Keeps [.fab] fabReg s ((s.count (.FAB_P_PKT_POLICED p)).setB .FAB_INT_STATUS_POLICE true) := by
    refine ((Keeps.refl _ _ s).count (.FAB_P_PKT_POLICED p) ?_).setB .FAB_INT_STATUS_POLICE true (by decide)
    show 0x20040000 ≤ Reg.FAB_P_PKT p
    unfold Reg.FAB_P_PKT
    omega
  unfold State.policed
  dsimp only
  split
  · exact (Sent.of_fabric (hcounted.updPort p _ (by simp)) rfl).trans (State.flowStop_sent _ f p)
  · exact .of_fabric (hcounted.updPort p _ (by simp)) rfl

theorem State.giveBack_sent (s : State) (x : TxPacket) : Sent s (s.giveBack x) := by
  unfold State.giveBack State.grant
  split
  · split
    · exact .of_fabric ((Keeps.refl _ _ s).updPort _ _ (by simp)) rfl
    · exact .refl s
  · exact .refl s

theorem State.toPort_sent (s : State) (p : Nat) (k : RxPacket) (origin : Option Nat) : Sent s (s.toPort p k origin) := by
  have hqueued : ∀ x : TxPacket, Sent s (s.updPort p fun y => { y with queue := y.queue ++ [x] }) := fun x =>
    .of_fabric ((Keeps.refl _ _ s).updPort p _ (by simp)) rfl
  have hpoliced : ∀ (f : Nat) (x : TxPacket), Sent s ((s.policed p f).giveBack x) := fun f x => (s.policed_sent p f).trans (State.giveBack_sent _ x)
  unfold State.toPort
  dsimp only
  split
  · exact hqueued _
  · split
    · exact hpoliced _ _
    · split
      · exact hpoliced _ _
      · exact hqueued _

/-! ### A stream's packets -/

theorem State.streamOut_sent (s : State) (e : Nat) (bytes : List Byte) : Sent s (s.streamOut e bytes) := by
  unfold State.streamOut
  dsimp only
  split
  · exact .refl s
  · exact State.each_inv (P := Sent s) (fun t k ht => State.each_inv (P := Sent s) (fun u p hu => hu.trans (u.toPort_sent p k none)) ht _) (.refl s) _

theorem State.encSend_sent (s : State) (e : Nat) (ts : Word) (last : Bool) (payload : List Byte) : Sent s (s.encSend e ts last payload) := by
  have hcounted : ∀ f : EncSt → EncSt, Sent s (s.updEnc e f) := fun f => ⟨rfl, (Keeps.refl _ _ s).updEnc e f (by simp)⟩
  unfold State.encSend
  dsimp only
  split
  · exact (hcounted _).trans (State.streamOut_sent _ e _)
  · exact (hcounted _).trans ⟨rfl, (Keeps.refl _ _ _).updNet _ _ (by simp)⟩

end Sys2Proof.Machine
end

section
/-!
SUPPORT. The end of an encode trick (R207, R209, R211): a picture not coded, one that cannot be read, and one that is coded.
-/

namespace Sys2Proof.Machine

open Sys2Proof

/-! ### The trick ends -/

theorem State.updEnc_self (s : State) (e : Nat) (f : EncSt → EncSt) : (s.updEnc e f).enc e = f (s.enc e) := (State.updEnc_enc ..).trans (if_pos rfl)

theorem Keeps.enc {ps : List Part} {W : Nat → Prop} {s t : State} (h : Keeps ps W s t) (hp : .encs ∉ ps) (e : Nat) : t.enc e = s.enc e :=
  congrArg (Tab.get EncSt.init · e) (h.same hp)

theorem Keeps.encTrick {ps : List Part} {W : Nat → Prop} {s t : State} (h : Keeps ps W s t) (hp : .dealer ∉ ps) (e : Nat) :
    t.encTrick e = s.encTrick e := by
  have hd : t.dealer = s.dealer := h.same hp
  rw [State.encTrick, hd, State.encTrick]

theorem State.encTrickEnd_keeps (s : State) (e : Nat) (r : RunTrick) : Keeps [.descs, .dealer] (only []) s (s.encTrickEnd e r) := by
  have hreleased : Keeps [.descs, .dealer] (only []) s (s.encRelease e r.trick.index r.buf) := by
    unfold State.encRelease
    split
    · exact Keeps.refl _ _ s
    · dsimp only
      split
      · exact Keeps.refl _ _ s
      · exact (Keeps.refl _ _ s).unhold _ _ (by simp)
  exact hreleased.updDealer _ (by simp)

/-- A stream whose trick has ended has none in progress. -/
theorem State.encTrickEnd_ended (s : State) (e : Nat) (r : RunTrick) : (s.encTrickEnd e r).encTrick e = none := by
  unfold State.encTrick State.encTrickEnd
  rw [State.updDealer_dealer, List.find?_eq_none]
  intro x hx
  obtain ⟨y, -, rfl⟩ := List.mem_map.mp hx
  by_cases hy : (y.trick.cls == .encode && y.trick.job == e) = true
  · rw [if_pos hy]
    simp
  · rw [if_neg hy]
    simp [hy]

theorem State.encTrickEnd_out (s : State) (e : Nat) (r : RunTrick) : (s.encTrickEnd e r).out = s.out := by
  have hsettled : ∀ d, (s.unhold d (holdEnc r.trick.index)).out = s.out := fun d => by
    unfold State.unhold State.settleBuf
    dsimp only
    split <;> rfl
  show (s.encRelease e r.trick.index r.buf).out = s.out
  unfold State.encRelease
  split
  · rfl
  · dsimp only
    split
    · rfl
    · exact hsettled _

/-! ### A picture without a buffer (R206) -/

theorem State.encodePicture_noBuffer {s : State} {e : Nat} {k : RunTrick} (hk : s.encTrick e = some k) (hb : k.buf = none) (r : EncodeIn) :
    s.encodePicture e r = (s.encSkip e .noSource).encTrickEnd e k := by
  unfold State.encodePicture
  rw [hk]
  dsimp only
  rw [hb]
  rfl

theorem State.encSkip_spec (s : State) (e : Fin 32) :
    (s.encSkip e .noSource).get (.ENC_ST_SKIP_NO_SOURCE e) = satAdd (Fld.ENC_ST_SKIP_NO_SOURCE e).wid (s.get (.ENC_ST_SKIP_NO_SOURCE e)) 1
    ∧ (s.encSkip e .noSource).on .ENC_INT_STATUS_NOT_CODED = true
    ∧ Keeps [.encs] (only [Reg.ENC_ST_SKIP e, Reg.ENC_INT_STATUS]) s (s.encSkip e .noSource) := by
  have hshown : ((s.count (.ENC_ST_SKIP_NO_SOURCE e)).setB .ENC_INT_STATUS_NOT_CODED true).get (.ENC_ST_SKIP_NO_SOURCE e)
      = satAdd (Fld.ENC_ST_SKIP_NO_SOURCE e).wid (s.get (.ENC_ST_SKIP_NO_SOURCE e)) 1 :=
    (State.get_set_other _ _ (by apply checkEach e; decide)).trans (State.get_count_self s rfl)
  have hset := ((Keeps.refl [.encs] (only [Reg.ENC_ST_SKIP e, Reg.ENC_INT_STATUS]) s).count (.ENC_ST_SKIP_NO_SOURCE e) List.mem_cons_self).setB
    .ENC_INT_STATUS_NOT_CODED true (List.mem_cons_of_mem _ List.mem_cons_self)
  have hreported : ((s.count (.ENC_ST_SKIP_NO_SOURCE e)).setB .ENC_INT_STATUS_NOT_CODED true).on .ENC_INT_STATUS_NOT_CODED = true :=
    State.on_setB _ _ rfl rfl
  unfold State.encSkip
  dsimp only
  generalize (s.count (.ENC_ST_SKIP_NO_SOURCE e)).setB .ENC_INT_STATUS_NOT_CODED true = u at hshown hset hreported ⊢
  have hwindow : Keeps [.encs] (only []) u (u.updEnc e fun x => { x with window := (0 :: x.window).take 256 }) :=
    (Keeps.refl _ _ u).updEnc _ _ List.mem_cons_self
  exact ⟨(hwindow.get _ List.not_mem_nil).trans hshown, (hwindow.on _ List.not_mem_nil).trans hreported,
    hset.trans (hwindow.widen (fun _ => id) (List.nil_subset _))⟩

/-! ### A picture that cannot be read (R275) -/

/-- The charge of a read of the picture in buffer `d`. -/
def State.encCharged (s : State) (k : RunTrick) (d : Nat) : State :=
  s.chargeBlocks (24 + k.trick.index) (ceilDiv (planeBytes (s.desc d).hdr.format (s.desc d).hdr.width (s.desc d).hdr.height) 256)

/-- Neither the charge nor a free value has to do with what the codec reads. -/
theorem State.chargeBlocks_shape (s : State) (port n : Nat) : ∃ m, s.chargeBlocks port n = { s with mem := m } := by
  unfold State.chargeBlocks
  split
  · exact ⟨_, rfl⟩
  · exact ⟨_, rfl⟩

theorem State.encCharged_reason (s : State) (k : RunTrick) (d e : Nat) (b : Option Nat) : (s.encCharged k d).encReason e b = s.encReason e b := by
  obtain ⟨m, hm⟩ := s.chargeBlocks_shape (24 + k.trick.index)
    (ceilDiv (planeBytes (s.desc d).hdr.format (s.desc d).hdr.width (s.desc d).hdr.height) 256)
  rw [State.encCharged, hm]
  rfl

section
variable {s : State} {e : Nat} {k : RunTrick} {d : Nat} (hk : s.encTrick e = some k) (hb : k.buf = some d) (hr : s.encReason e (some d) = none)
include hk hb hr

theorem State.encodePicture_coded
    (hread : s.badBlocks (s.bufAddr d + 256) (planeBytes (s.desc d).hdr.format (s.desc d).hdr.width (s.desc d).hdr.height) = []) (r : EncodeIn) :
    s.encodePicture e r = ((s.encCharged k d).encCode e k.trick.index d r).encTrickEnd e k := by
  have hcharged := (s.encCharged_reason k d e _).trans hr
  rw [State.encCharged] at hcharged
  simp only [State.encodePicture, hk, hb, hr, hread, hcharged, Option.isNone_none, List.isEmpty_nil, if_true, Bool.not_true, Bool.and_false,
    Bool.false_eq_true, if_false, State.encCharged]

theorem State.encodePicture_unread {b : Nat} {bs : List Nat}
    (hread : s.badBlocks (s.bufAddr d + 256) (planeBytes (s.desc d).hdr.format (s.desc d).hdr.width (s.desc d).hdr.height) = b :: bs) (r : EncodeIn) :
    s.encodePicture e r = ((s.encCharged k d).persistAll (24 + k.trick.index) (b :: bs)).encReadFail e := by
  have hcharged := (s.encCharged_reason k d e _).trans hr
  rw [State.encCharged] at hcharged
  simp only [State.encodePicture, hk, hb, hr, hread, hcharged, Option.isNone_none, List.isEmpty_cons, if_true, Bool.not_false, Bool.and_self,
    State.encCharged]

end

end Sys2Proof.Machine
end

section
/-!
SUPPORT. A picture that cannot be read (R275), and one that is coded (R204, R207, R208): what each leaves.
-/

namespace Sys2Proof.Machine

open Sys2Proof

/-! ### A picture that cannot be read -/

theorem State.persistAll_shown (s : State) (port b : Nat) (bs : List Nat) : (s.persistAll port (b :: bs)).on .MEM_INT_STATUS_CHK_PERSIST = true :=
  State.each_inv (P := fun t => t.on .MEM_INT_STATUS_CHK_PERSIST = true)
    (fun (t : State) (x : Nat) _ => (t.persist_spec port x (if t.blockFailed x then 3 else 0)).1) (s.persist_spec port b _).1 bs

/-- A picture that was not coded because it could not be read; the next is to be a key picture. -/
structure PictureUnread (e : Nat) (s t : State) : Prop where
  ended : t.encTrick e = none
  pending : t.on (.ENC_ST_STATE_KEY_PENDING e) = true
  window : (t.enc e).window = (0 :: (s.enc e).window).take 256
  pkts : (t.enc e).pkts = (s.enc e).pkts
  keeps : Keeps [.descs, .dealer, .encs] (only [Reg.ENC_ST_KEYS e, Reg.ENC_ST_STATE e]) s t

theorem State.encReadFail_spec {s : State} {e : Nat} {k : RunTrick} (hk : s.encTrick e = some k) : PictureUnread e s (s.encReadFail e) := by
  have hend := s.encTrickEnd_keeps e k
  have hended := s.encTrickEnd_ended e k
  have hfail : s.encReadFail e = ((s.encTrickEnd e k).updEnc e fun x => { x with window := (0 :: x.window).take 256 }).keyRequest e := by
    unfold State.encReadFail
    rw [hk]
  have hidle : ((s.encTrickEnd e k).updEnc e fun x => { x with window := (0 :: x.window).take 256 }).encTrick e = none := hended
  rw [hfail, State.keyRequest_idle hidle]
  have hwindow := (hend.widen (qs := [.descs, .dealer, .encs]) (bs := [Reg.ENC_ST_KEYS e, Reg.ENC_ST_STATE e]) (by simp) (by simp)).updEnc e
    (fun x => { x with window := (0 :: x.window).take 256 }) (by simp)
  have henc : ((s.encTrickEnd e k).updEnc e fun x => { x with window := (0 :: x.window).take 256 }).enc e
      = { s.enc e with window := (0 :: (s.enc e).window).take 256 } := by rw [State.updEnc_self, hend.enc (by simp)]
  generalize (s.encTrickEnd e k).updEnc e (fun x => { x with window := (0 :: x.window).take 256 }) = u at hidle hwindow henc ⊢
  have hrequest : Keeps [] (only [Reg.ENC_ST_KEYS e, Reg.ENC_ST_STATE e]) u
      ((u.count (.ENC_ST_KEYS_REQUESTS e)).setB (.ENC_ST_STATE_KEY_PENDING e) true) :=
    ((Keeps.refl _ _ u).count (.ENC_ST_KEYS_REQUESTS e) List.mem_cons_self).setB (.ENC_ST_STATE_KEY_PENDING e) true
      (List.mem_cons_of_mem _ List.mem_cons_self)
  have hkept := (hrequest.enc (by simp) e).trans henc
  exact ⟨(hrequest.encTrick (by simp) e).trans hidle, State.on_setB _ _ rfl rfl, by rw [hkept], by rw [hkept],
    hwindow.trans (hrequest.widen (by simp) (fun _ => id))⟩

/-! ### The figures of a coded picture (R208, R211) -/

/-- The figures of a coded picture are shown. -/
def State.encFigures (s : State) (e w b spent qp : Nat) : State :=
  let s := s.set (.ENC_ST_BITS_VALUE e) spent
  let s := (s.set (.ENC_ST_BUDGET_VALUE e) b).set (.ENC_ST_WIN_VALUE e) w
  let s := if b < spent then
      ((s.count (.ENC_ST_OVER_COUNT e)).count (.ENC_ST_OVERBITS_BITS e) (spent - b)).setB .ENC_INT_STATUS_OVERSHOOT true
    else s
  s.set (.ENC_ST_STATE_LAST_QP e) qp

/-- The record of a stream after a coded picture. -/
def EncSt.coded (y : EncSt) (key : Bool) (seq : BitVec 32) (x : Coding) : EncSt :=
  { y with
    lastSeq := some seq
    window := (x.spent :: y.window).take 256
    keyRows := if key then x.rows else y.keyRows
    pRows := if key then y.pRows else x.rows
    sinceKey := if key then 0 else y.sinceKey + 1 }

/-- A key picture is asked for where the interval of the stream is over. -/
def State.keyDue (s : State) (e : Nat) : State :=
  let n := s.get (.ENC_ST_KEY_KEY_INT e)
  if n ≠ 0 ∧ (s.enc e).sinceKey = n then (s.count (.ENC_ST_KEYS_REQUESTS e)).setB (.ENC_ST_STATE_KEY_PENDING e) true else s

/-- The stream's record is kept. -/
def State.encKept (s : State) (e : Nat) (key : Bool) (seq : BitVec 32) (x : Coding) : State :=
  let s := if key then (s.count (.ENC_ST_KEYS_SENT e)).setB .ENC_INT_STATUS_KEY true else s
  let s := s.updEnc e (·.coded key seq x)
  if key then s.setB (.ENC_ST_STATE_KEY_PENDING e) (s.enc e).lateReq else s

theorem State.encRecord_eq (s : State) (e k : Nat) (key : Bool) (seq : BitVec 32) (w b : Nat) (x : Coding) : s.encRecord e k key seq w b x
    = ((((s.encFigures e w b x.spent ((x.rows.getLast?.map (·.2)).getD 0)).next (.ENC_ST_STATE_PICS e)).count (.ENC_CORE_PICS k)).encKept e key
      seq x).keyDue e := rfl

/-! ### The steps of a coded picture that leave the count of pictures -/

/-- A step that leaves the count of pictures, emits nothing and changes what a codec's sending may change. -/
structure PicsStand (e : Nat) (s t : State) : Prop where
  pics : t.get (.ENC_ST_STATE_PICS e) = s.get (.ENC_ST_STATE_PICS e)
  out : t.out = s.out
  keeps : Keeps [.freeCtr, .encs, .nets, .fab, .sco] anyReg s t

theorem PicsStand.refl (e : Nat) (s : State) : PicsStand e s s := ⟨rfl, rfl, Keeps.refl _ _ s⟩

theorem PicsStand.trans {e : Nat} {s t u : State} (h : PicsStand e s t) (k : PicsStand e t u) : PicsStand e s u :=
  ⟨k.pics.trans h.pics, k.out.trans h.out, h.keeps.trans k.keeps⟩

/-- A write of another field. -/
theorem PicsStand.set {e : Nat} {s t : State} (h : PicsStand e s t) {f : Fld} (hf : f.apart (.ENC_ST_STATE_PICS e) = true) (v : Nat) :
    PicsStand e s (t.set f v) := ⟨(State.get_set_other t v hf).trans h.pics, h.out, h.keeps.set f v trivial⟩

theorem PicsStand.setB {e : Nat} {s t : State} (h : PicsStand e s t) {f : Fld} (hf : f.apart (.ENC_ST_STATE_PICS e) = true) (b : Bool) :
    PicsStand e s (t.setB f b) := h.set hf _

theorem PicsStand.count {e : Nat} {s t : State} (h : PicsStand e s t) {f : Fld} (hf : f.apart (.ENC_ST_STATE_PICS e) = true) (n : Nat := 1) :
    PicsStand e s (t.count f n) := h.set hf _

theorem PicsStand.updEnc {e : Nat} {s t : State} (h : PicsStand e s t) (f : EncSt → EncSt) : PicsStand e s (t.updEnc e f) :=
  ⟨h.pics, h.out, h.keeps.updEnc e f (by simp)⟩

theorem Sent.picsStand {s t : State} (h : Sent s t) (e : Fin 32) : PicsStand e s t where
  pics := h.keeps.get (.ENC_ST_STATE_PICS e) (by
    show ¬ (0x20040000 ≤ Reg.ENC_ST_STATE e ∨ Reg.ENC_ST_STATE e = Reg.LOG_DROP)
    apply checkEach e
    decide)
  out := h.out
  keeps := h.keeps.mono (by simp) fun _ _ => trivial

/-- The fields that a coded picture writes before its count. -/
theorem State.encFigures_stand (s : State) (e : Fin 32) (w b spent qp : Nat) : PicsStand e s (s.encFigures e w b spent qp) := by
  have hbits : (Fld.ENC_ST_BITS_VALUE e).apart (.ENC_ST_STATE_PICS e) = true := by apply checkEach e; decide
  have hbudget : (Fld.ENC_ST_BUDGET_VALUE e).apart (.ENC_ST_STATE_PICS e) = true := by apply checkEach e; decide
  have hwin : (Fld.ENC_ST_WIN_VALUE e).apart (.ENC_ST_STATE_PICS e) = true := by apply checkEach e; decide
  have hover : (Fld.ENC_ST_OVER_COUNT e).apart (.ENC_ST_STATE_PICS e) = true := by apply checkEach e; decide
  have hoverbits : (Fld.ENC_ST_OVERBITS_BITS e).apart (.ENC_ST_STATE_PICS e) = true := by apply checkEach e; decide
  have hreport : (Fld.ENC_INT_STATUS_OVERSHOOT).apart (.ENC_ST_STATE_PICS e) = true := by apply checkEach e; decide
  have hqp : (Fld.ENC_ST_STATE_LAST_QP e).apart (.ENC_ST_STATE_PICS e) = true := by apply checkEach e; decide
  have hshown := (((PicsStand.refl e s).set hbits spent).set hbudget b).set hwin w
  unfold State.encFigures
  dsimp only
  split
  · exact (((hshown.count hover).count hoverbits _).setB hreport _).set hqp qp
  · exact hshown.set hqp qp

theorem State.keyDue_stand (s : State) (e : Fin 32) : PicsStand e s (s.keyDue e) := by
  unfold State.keyDue
  dsimp only
  split
  · exact ((PicsStand.refl e s).count (by apply checkEach e; decide)).setB rfl true
  · exact .refl e s

theorem State.keyDue_enc (s : State) (e : Nat) : (s.keyDue e).enc e = s.enc e := by
  unfold State.keyDue
  dsimp only
  split <;> rfl

@[simp] theorem State.set_enc (s : State) (f : Fld) (v e : Nat) : (s.set f v).enc e = s.enc e := rfl

theorem State.encKept_stand (s : State) (e : Fin 32) (key : Bool) (seq : BitVec 32) (x : Coding) : PicsStand e s (s.encKept e key seq x) := by
  have hsent : (Fld.ENC_ST_KEYS_SENT e).apart (.ENC_ST_STATE_PICS e) = true := by apply checkEach e; decide
  have hreport : (Fld.ENC_INT_STATUS_KEY).apart (.ENC_ST_STATE_PICS e) = true := by apply checkEach e; decide
  unfold State.encKept
  cases key
  · exact (PicsStand.refl e s).updEnc _
  · exact ((((PicsStand.refl e s).count hsent).setB hreport true).updEnc (·.coded true seq x)).setB rfl _

theorem State.encKept_enc (s : State) (e : Nat) (key : Bool) (seq : BitVec 32) (x : Coding) :
    (s.encKept e key seq x).enc e = (s.enc e).coded key seq x := by
  cases key
  · rw [State.encKept, if_neg (by decide), if_neg (by decide), State.updEnc_self]
  · rw [State.encKept, if_pos rfl, if_pos rfl, State.setB, State.set_enc, State.updEnc_self, State.setB, State.set_enc, State.count, State.set_enc]

theorem State.corePics_stand (s : State) (e : Fin 32) (k : Nat) : PicsStand e s (s.count (.ENC_CORE_PICS k)) := by
  refine ⟨State.get_set_addr _ _ ?_, rfl, (Keeps.refl _ _ s).count _ trivial⟩
  show Reg.ENC_ST_STATE e ≠ Reg.ENC_CORE k
  unfold Reg.ENC_ST_STATE Reg.ENC_CORE
  omega

/-- What the record of a coded picture leaves. -/
structure PictureCounted (e : Nat) (seq : BitVec 32) (s t : State) : Prop where
  pics : t.get (.ENC_ST_STATE_PICS e) = (s.get (.ENC_ST_STATE_PICS e) + 1) % 2 ^ (Fld.ENC_ST_STATE_PICS e).wid
  lastSeq : (t.enc e).lastSeq = some seq
  out : t.out = s.out
  keeps : Keeps [.freeCtr, .encs, .nets, .fab, .sco] anyReg s t

theorem State.encRecord_spec (s : State) (e : Fin 32) (k : Nat) (key : Bool) (seq : BitVec 32) (w b : Nat) (x : Coding) :
    PictureCounted e seq s (s.encRecord e k key seq w b x) := by
  rw [State.encRecord_eq]
  have hfigures := s.encFigures_stand e w b x.spent ((x.rows.getLast?.map (·.2)).getD 0)
  generalize s.encFigures e w b x.spent ((x.rows.getLast?.map (·.2)).getD 0) = u at hfigures ⊢
  have hnext : (u.next (.ENC_ST_STATE_PICS e)).get (.ENC_ST_STATE_PICS e) = (u.get (.ENC_ST_STATE_PICS e) + 1) % 2 ^ (Fld.ENC_ST_STATE_PICS e).wid := by
    rw [State.next, State.get_set_self _ _ rfl]
  have hnextKeeps : Keeps [.freeCtr, .encs, .nets, .fab, .sco] anyReg u (u.next (.ENC_ST_STATE_PICS e)) :=
    by rw [State.next]; exact (Keeps.refl _ _ u).set (.ENC_ST_STATE_PICS e) _ trivial
  have hnextOut : (u.next (.ENC_ST_STATE_PICS e)).out = u.out := by rw [State.next, State.set_out]
  generalize u.next (.ENC_ST_STATE_PICS e) = v at hnext hnextKeeps hnextOut ⊢
  have hcore := v.corePics_stand e k
  generalize v.count (.ENC_CORE_PICS k) = y at hcore ⊢
  have hkept := (hcore.trans (y.encKept_stand e key seq x)).trans (State.keyDue_stand (y.encKept e key seq x) e)
  exact ⟨by rw [hkept.pics, hnext, hfigures.pics], by rw [State.keyDue_enc, State.encKept_enc]; rfl, hkept.out.trans (hnextOut.trans hfigures.out),
    (hfigures.keeps.trans hnextKeeps).trans hkept.keeps⟩

end Sys2Proof.Machine
end

section
/-!
SUPPORT. A picture that is coded (R204, R207, R208): its frame goes out as it was read, and its count and sequence number are kept.
-/

namespace Sys2Proof.Machine

open Sys2Proof

/-! ### What the codec reads (R207) -/

theorem State.rowPlan_shape (s : State) (prev : List (Nat × Nat)) (qpT b m : Nat) : ∃ n, (s.rowPlan prev qpT b m).2 = { s with freeCtr := n } := by
  have hrows : ∀ (js vs : List Nat) (c : Nat), ∃ n, (js.foldl (fun (a : List Nat × State) _ => (a.1 ++ [a.2.fresh.1.toNat], a.2.fresh.2))
      (vs, { s with freeCtr := c })).2 = { s with freeCtr := n } := fun js => by
    induction js with
    | nil => exact fun _ c => ⟨c, rfl⟩
    | cons j js ih => exact fun vs c => ih _ (c + 1)
  unfold State.rowPlan
  exact iteInduction (motive := fun a : List Nat × State => ∃ n, a.2 = { s with freeCtr := n }) (fun _ => hrows _ [] s.freeCtr)
    fun _ => ⟨s.freeCtr, rfl⟩

theorem State.rowPlan_stand (s : State) (e : Nat) (prev : List (Nat × Nat)) (qpT b m : Nat) : PicsStand e s (s.rowPlan prev qpT b m).2 := by
  obtain ⟨n, hn⟩ := s.rowPlan_shape prev qpT b m
  rw [hn]
  refine ⟨rfl, rfl, rfl, fun p hp => ?_, fun _ _ => rfl⟩
  cases p
  case freeCtr => exact absurd (by simp) hp
  all_goals rfl

/-- The frame that is coded stands in the buffer's descriptor and place and in DRAM alone. -/
theorem State.encFrame_congr {s t : State} {d : Nat} (hd : t.desc d = s.desc d) (ha : t.bufAddr d = s.bufAddr d) (hm : t.dram = s.dram) :
    t.encFrame d = s.encFrame d := by
  simp only [State.encFrame, State.encPx, State.fetchPx, State.luma, State.chroma, State.chromaH, State.chromaRaw, State.plane10, State.dramByte, hd, ha, hm]

theorem State.rowPlan_frame (s : State) (prev : List (Nat × Nat)) (qpT b m d : Nat) : (s.rowPlan prev qpT b m).2.encFrame d = s.encFrame d := by
  obtain ⟨n, hn⟩ := s.rowPlan_shape prev qpT b m
  rw [hn]
  exact State.encFrame_congr rfl rfl rfl

theorem State.encCharged_frame (s : State) (k : RunTrick) (d : Nat) : (s.encCharged k d).encFrame d = s.encFrame d := by
  obtain ⟨m, hm⟩ := s.chargeBlocks_shape (24 + k.trick.index)
    (ceilDiv (planeBytes (s.desc d).hdr.format (s.desc d).hdr.width (s.desc d).hdr.height) 256)
  rw [State.encCharged, hm]
  exact State.encFrame_congr rfl rfl rfl

/-! ### The coded picture -/

/-- The packets of a picture are sent, each marked where it is the last. -/
def State.packetsSent (s : State) (e : Nat) (ts : Word) (pk : List (Bool × List Byte)) : State := s.each pk fun s (last, p) => s.encSend e ts last p

theorem State.packetsSent_stand (s : State) (e : Fin 32) (ts : Word) (pk : List (Bool × List Byte)) : PicsStand e s (s.packetsSent e ts pk) :=
  (State.each_inv (P := Sent s) (fun (t : State) (x : Bool × List Byte) h => h.trans (t.encSend_sent e ts x.1 x.2)) (.refl s) pk).picsStand e

/-- The coded picture `x` is given out; a key picture takes a free value. -/
def State.pictureOut (s : State) (key : Bool) (x : Emission) : State := (if key then (s.emit x).fresh else (0, s.emit x)).2

theorem State.pictureOut_out (s : State) (key : Bool) (x : Emission) : (s.pictureOut key x).out = s.out ++ [x] := by cases key <;> rfl

theorem State.pictureOut_keeps (s : State) (key : Bool) (x : Emission) : Keeps [.freeCtr] (only []) s (s.pictureOut key x) := by
  cases key
  · exact (Keeps.refl _ _ s).emit x
  · exact ((Keeps.refl _ _ s).emit x).fresh List.mem_cons_self

theorem State.encCode_stages (s : State) (e k d : Nat) (r : EncodeIn) : ∃ prev qpT b m level colour win qps bits ts pk w x, ∃ key : Bool,
    s.encCode e k d r = (((s.rowPlan prev qpT b m).2.pictureOut key (.encoded e key level colour win qps bits ts
      ((s.rowPlan prev qpT b m).2.encFrame d))).packetsSent e ts pk).encRecord e k key (s.desc d).hdr.seq w b x :=
  ⟨_, _, _, _, _, _, _, _, _, _, _, _, _, _, rfl⟩

/-- The parts of the state that the end of an encode trick may change. -/
abbrev codeParts : List Part := [.mem, .descs, .dealer, .freeCtr, .encs, .nets, .fab, .sco]

/-- What the coding of the picture in buffer `d` leaves. -/
structure PictureCoded (e d : Nat) (s t : State) : Prop where
  shown : ∃ x, x ∈ t.out ∧ ∃ b1 b2 b3 b4 b5 b6 b7, x = .encoded e b1 b2 b3 b4 b5 b6 b7 (s.encFrame d)
  pics : t.get (.ENC_ST_STATE_PICS e) = (s.get (.ENC_ST_STATE_PICS e) + 1) % 2 ^ (Fld.ENC_ST_STATE_PICS e).wid
  lastSeq : (t.enc e).lastSeq = some (s.desc d).hdr.seq
  keeps : Keeps codeParts anyReg s t

theorem State.encCode_spec (s : State) (e : Fin 32) (k d : Nat) (r : EncodeIn) : PictureCoded e d s (s.encCode e k d r) := by
  obtain ⟨prev, qpT, b, m, level, colour, win, qps, bits, ts, pk, w, x, key, heq⟩ := s.encCode_stages e k d r
  rw [heq, s.rowPlan_frame]
  have hplan := s.rowPlan_stand e prev qpT b m
  generalize (s.rowPlan prev qpT b m).2 = u at hplan ⊢
  have hgiven := u.pictureOut_keeps key (.encoded e key level colour win qps bits ts (s.encFrame d))
  have hout := u.pictureOut_out key (.encoded e key level colour win qps bits ts (s.encFrame d))
  generalize u.pictureOut key (.encoded e key level colour win qps bits ts (s.encFrame d)) = v at hgiven hout ⊢
  have hsent := v.packetsSent_stand e ts pk
  generalize v.packetsSent e ts pk = y at hsent ⊢
  obtain ⟨hpics, hseq, hrecordOut, hrecord⟩ := y.encRecord_spec e k key (s.desc d).hdr.seq w b x
  have hshown : Emission.encoded e key level colour win qps bits ts (s.encFrame d) ∈ (y.encRecord e k key (s.desc d).hdr.seq w b x).out := by
    rw [hrecordOut, hsent.out, hout]
    exact List.mem_append_right _ List.mem_cons_self
  refine ⟨⟨_, hshown, key, level, colour, win, qps, bits, ts, rfl⟩, ?_, hseq, ?_⟩
  · rw [hpics, hsent.pics, hgiven.get _ List.not_mem_nil, hplan.pics]
  · exact (((hplan.keeps.trans (hgiven.mono (by simp) fun _ _ => trivial)).trans hsent.keeps).trans hrecord).mono (by simp) fun _ => id

/-! ### A sender report (R204) -/

theorem State.encReport_stopped {s : State} {e : Nat} (h : s.encRuns e = false) (w : Word) : s.encReport e w = s.at_ w :=
  if_neg fun hr => Bool.false_ne_true (h.symm.trans hr)

/-- The report of a stream that runs and is not sent over the fabric. -/
theorem State.encReport_net {s : State} {e : Nat} (h : s.encRuns e = true) (hf : s.on (.ENC_ST_DEST_FABRIC e) = false) (w : Word) :
    ∃ ntp u, Keeps [.time, .freeCtr] (only []) s u ∧ s.encReport e w = u.deckSend (s.get (.ENC_ST_DEST_NET_PORT e))
      (.rtp (s.enc e).mac (s.word (Reg.ENC_ST_DSTIP e)) (s.get (.ENC_ST_DEST_UDP_PORT e) + 1)
        (srBytes (s.word (Reg.ENC_ST_SSRC e)) ntp (s.encTs e (s.word Reg.TIM_EPOCH ++ w)) (s.enc e).pkts (s.enc e).octets)) := by
  have hruns : (s.at_ w).encRuns e = true := h
  have hntp : Keeps [.freeCtr] (only []) (s.at_ w) ((s.at_ w).ntpOf (s.at_ w).extNow).2 := (Keeps.refl _ _ _).roundFree _ List.mem_cons_self
  unfold State.encReport
  dsimp only
  rw [if_pos hruns]
  generalize ((s.at_ w).ntpOf (s.at_ w).extNow).1 = ntp
  generalize ((s.at_ w).ntpOf (s.at_ w).extNow).2 = u at hntp ⊢
  have hfabric : u.on (.ENC_ST_DEST_FABRIC e) = false := (hntp.on _ List.not_mem_nil).trans hf
  have htime : u.time = (s.at_ w).time := hntp.same (p := .time) (by simp)
  have hword : ∀ a, u.word a = s.word a := fun a => hntp.word List.not_mem_nil
  have hget : ∀ f, u.get f = s.get f := fun f => congrArg f.of (hword f.addr)
  have henc : u.enc e = s.enc e := hntp.enc (by simp) e
  have hts : u.encTs e u.extNow = s.encTs e (s.word Reg.TIM_EPOCH ++ w) := by
    rw [State.encTs, State.extNow, hword, hword, htime]
    rfl
  rw [hfabric, hts, henc, hword, hword, hget, hget]
  exact ⟨ntp, u, ((Keeps.refl _ _ s).at_ w (by simp)).trans (hntp.mono (by simp) fun _ => id), rfl⟩

end Sys2Proof.Machine
end

section
/-!
SUPPORT. The rows of the encode streams (R203 to R211): what each does stands in a lemma of its own above.
-/

namespace Sys2Proof.Machine

open Sys2Proof

theorem State.quiet_evaluate (s : State) (kind : ChangeKind) :
    s.quiet.evaluate s.quiet.admBase (s.quiet.streamChange kind) = s.evaluate s.admBase (s.streamChange kind) := by
  have hsame : SameAdm s s.quiet := ⟨rfl, rfl, rfl, fun _ _ => rfl⟩
  rw [hsame.admBase]
  exact hsame.evaluate _ _ fun _ => rfl

/-- A stream's trick that is not stale is coded. -/
theorem State.encodes_fresh {s : State} {e : Nat} (h : s.staleRun .encode e = false) (t : State) :
    (if s.staleRun .encode e then s else t) = t := if_neg (by rw [h]; decide)

theorem State.deckSend_txDeck (s : State) (n : Nat) (x : DeckTx) : ((s.deckSend n x).net n).txDeck = (s.net n).txDeck ++ [x] :=
  congrArg NetSt.txDeck ((State.updNet_net ..).trans (if_pos rfl))

/-! ### The end of an encode trick -/

theorem State.encTrickEnd_keeps_noBuffer (s : State) (e : Nat) {k : RunTrick} (h : k.buf = none) : Keeps [.dealer] (only []) s (s.encTrickEnd e k) := by
  have hreleased : s.encRelease e k.trick.index k.buf = s := by rw [h, State.encRelease]
  unfold State.encTrickEnd
  rw [hreleased]
  exact (Keeps.refl _ _ s).updDealer _ List.mem_cons_self

/-- A trick that ended without a picture. -/
structure PictureSkipped (e : Nat) (s t : State) : Prop where
  counted : t.get (.ENC_ST_SKIP_NO_SOURCE e) = satAdd 8 (s.get (.ENC_ST_SKIP_NO_SOURCE e)) 1
  reported : t.on .ENC_INT_STATUS_NOT_CODED = true
  ended : t.encTrick e = none
  keeps : Keeps [.encs, .dealer] (only [Reg.ENC_ST_SKIP e, Reg.ENC_INT_STATUS]) s t

theorem State.encodePicture_skipped {s : State} {e : Fin 32} {k : RunTrick} (hk : s.encTrick e = some k) (hb : k.buf = none) (r : EncodeIn) :
    PictureSkipped e s (s.encodePicture e r) := by
  rw [State.encodePicture_noBuffer hk hb]
  obtain ⟨hcount, hreport, hskip⟩ := s.encSkip_spec e
  generalize s.encSkip e .noSource = u at hcount hreport hskip ⊢
  have hend := u.encTrickEnd_keeps_noBuffer e hb
  exact ⟨(hend.get _ List.not_mem_nil).trans hcount, (hend.on _ List.not_mem_nil).trans hreport, u.encTrickEnd_ended e k,
    (hskip.widen (by simp) (fun _ => id)).trans (hend.widen (by simp) (List.nil_subset _))⟩

section
variable {s : State} {e : Fin 32} {k : RunTrick} {d : Nat} (hk : s.encTrick e = some k) (hb : k.buf = some d) (hr : s.encReason e (some d) = none)
include hk hb hr

/-- The charge of the read, the picture and the end of the trick. -/
theorem State.encodePicture_coded_spec
    (hread : s.badBlocks (s.bufAddr d + 256) (planeBytes (s.desc d).hdr.format (s.desc d).hdr.width (s.desc d).hdr.height) = []) (r : EncodeIn) :
    (s.encodePicture e r).encTrick e = none ∧ PictureCoded e d s (s.encodePicture e r) := by
  rw [State.encodePicture_coded hk hb hr hread]
  have hcharged : Keeps [.mem] (only []) s (s.encCharged k d) := s.chargeBlocks_keeps _ _
  have hframe := s.encCharged_frame k d
  generalize s.encCharged k d = u at hcharged hframe ⊢
  obtain ⟨⟨x, hx, hshown⟩, hpics, hseq, hkeeps⟩ := u.encCode_spec e k.trick.index d r
  generalize u.encCode e k.trick.index d r = v at hx hpics hseq hkeeps ⊢
  have hend := v.encTrickEnd_keeps e k
  refine ⟨v.encTrickEnd_ended e k, ⟨x, ?_, ?_⟩, ?_, ?_, ?_⟩
  · rwa [State.encTrickEnd_out]
  · rwa [← hframe]
  · rw [hend.get _ List.not_mem_nil, hpics, hcharged.get _ List.not_mem_nil]
  · rw [hend.enc (by simp), hseq, hcharged.desc (by simp)]
  · exact ((hcharged.mono (by simp) fun _ _ => trivial).trans hkeeps).trans (hend.mono (by simp) fun _ _ => trivial)

/-- The charge of the read, its bad blocks and the end of the trick. -/
theorem State.encodePicture_unread_spec {b : Nat} {bs : List Nat}
    (hread : s.badBlocks (s.bufAddr d + 256) (planeBytes (s.desc d).hdr.format (s.desc d).hdr.width (s.desc d).hdr.height) = b :: bs) (r : EncodeIn) :
    (s.encodePicture e r).encTrick e = none ∧ (s.encodePicture e r).on (.ENC_ST_STATE_KEY_PENDING e) = true
    ∧ ((s.encodePicture e r).enc e).window = (0 :: (s.enc e).window).take 256 ∧ ((s.encodePicture e r).enc e).pkts = (s.enc e).pkts
    ∧ (s.encodePicture e r).on .MEM_INT_STATUS_CHK_PERSIST = true := by
  rw [State.encodePicture_unread hk hb hr hread]
  have hcharged : Keeps [.mem] (only []) s (s.encCharged k d) := s.chargeBlocks_keeps _ _
  generalize s.encCharged k d = u at hcharged ⊢
  have hpersist := u.persistAll_keeps (24 + k.trick.index) (b :: bs)
  have hreported := u.persistAll_shown (24 + k.trick.index) b bs
  generalize u.persistAll (24 + k.trick.index) (b :: bs) = v at hpersist hreported ⊢
  have htrick : v.encTrick e = some k := (hpersist.encTrick (by simp) e).trans ((hcharged.encTrick (by simp) e).trans hk)
  have henc : v.enc e = s.enc e := (hpersist.enc (by simp) e).trans (hcharged.enc (by simp) e)
  obtain ⟨hended, hpending, hwindow, hpkts, hkeeps⟩ := State.encReadFail_spec htrick
  rw [henc] at hwindow hpkts
  exact ⟨hended, hpending, hwindow, hpkts, (hkeeps.on .MEM_INT_STATUS_CHK_PERSIST (by apply checkEach e; decide)).trans hreported⟩

end

/-- Settles O26, row by row: START and STOP by what the Dealer holds, whose evaluation reads nothing that the command writes (`SameAdm`); the end of an
encode trick by its buffer; a coded picture by the steps that leave its count and what was given out. -/
theorem encodeStreamsAreCommanded : Obligations.EncodeStreamsAreCommanded := by
  unfold Obligations.EncodeStreamsAreCommanded
  refine ⟨?startState, ?stopState, ?startBusy, ?startWaits, ?stopWaits, ?key, ?keyState, ?noBuffer, ?coded, ?report, ?noReport, ?startRange, ?unread,
    ?stopBusy, ?startRefused⟩
  case startState =>
    intro e s hu hd
    refine gives_awake (fun s => s.encCmd e 1) hu rfl ?_
    rw [(s.quiet.encCmd_stream e).1]
    obtain ⟨hcode, hready, hdone, hkeeps⟩ := State.encChange_state (s := s.quiet) hd e 1 (.encStart e)
    exact ⟨hcode, hready, hdone, (Keeps.quiet _ _ s).trans hkeeps⟩
  case stopState =>
    intro e s hu hd
    refine gives_awake (fun s => s.encCmd e 2) hu rfl ?_
    rw [(s.quiet.encCmd_stream e).2]
    obtain ⟨hcode, hready, hdone, hkeeps⟩ := State.encChange_state (s := s.quiet) hd e 2 (.encStop e)
    exact ⟨hcode, hready, hdone, (Keeps.quiet _ _ s).trans hkeeps⟩
  case startBusy =>
    intro e s hd hl ha
    have hadmitted : (s.evaluate s.admBase (s.streamChange (.encStart e))).code = stOK := ha
    refine gives_awake (fun s => s.encCmd e 1) (State.up_of_dealing hd) rfl ?_
    rw [State.encStart_held (s := s.quiet) hd hl, s.quiet_evaluate, if_pos hadmitted]
    obtain ⟨⟨hcode, -, -, hkeeps⟩, hrefused⟩ := s.quiet.encRefused_spec e 1 (code := stBUSY) (by decide) 0
    exact ⟨hcode, hrefused, (Keeps.quiet _ _ s).trans hkeeps⟩
  case startWaits =>
    intro e s hd hl
    refine gives_awake (fun s => s.encCmd e 1) (State.up_of_dealing hd) rfl ?_
    rw [(s.quiet.encCmd_stream e).1]
    obtain ⟨hchanges, hnext, hbusy, hkeeps⟩ := State.encChange_waits (s := s.quiet) hd hl e 1 (.encStart e)
    exact ⟨hchanges, hnext, hbusy, (Keeps.quiet _ _ s).trans hkeeps⟩
  case stopWaits =>
    intro e s hd hl
    refine gives_awake (fun s => s.encCmd e 2) (State.up_of_dealing hd) rfl ?_
    rw [(s.quiet.encCmd_stream e).2]
    obtain ⟨hchanges, hnext, hbusy, hkeeps⟩ := State.encChange_waits (s := s.quiet) hd hl e 2 (.encStop e)
    exact ⟨hchanges, hnext, hbusy, (Keeps.quiet _ _ s).trans hkeeps⟩
  case key =>
    intro e s hu hr ht
    refine gives_awake (fun s => s.encCmd e 3) hu rfl ?_
    obtain ⟨hcode, hcount, hpending, hkeeps⟩ := State.encCmd_key_spec (s := s.quiet) hr ht
    exact ⟨hcode, hcount, hpending, (Keeps.quiet _ _ s).trans hkeeps⟩
  case keyState =>
    intro e s hu hr
    refine gives_awake (fun s => s.encCmd e 3) hu rfl ?_
    obtain ⟨hcode, -, -, hkeeps⟩ := State.encCmd_keyState (s := s.quiet) hr
    exact ⟨hcode, (Keeps.quiet _ _ s).trans hkeeps⟩
  case noBuffer =>
    intro e r k s hu hs hk hb
    refine gives_awake (fun s => if s.staleRun .encode e then s else s.encodePicture e r) hu rfl ?_
    rw [State.encodes_fresh (s := s.quiet) hs]
    obtain ⟨hcount, hreported, hended, hkeeps⟩ := State.encodePicture_skipped (s := s.quiet) hk hb r
    exact ⟨hcount, hreported, hended, (Keeps.quiet _ _ s).trans hkeeps⟩
  case coded =>
    intro e r k d s hu hs hk hb hr hread
    refine gives_awake (fun s => if s.staleRun .encode e then s else s.encodePicture e r) hu rfl ?_
    rw [State.encodes_fresh (s := s.quiet) hs]
    obtain ⟨hended, hshown, hpics, hseq, hkeeps⟩ := State.encodePicture_coded_spec (s := s.quiet) hk hb hr hread r
    have hframe : s.quiet.encFrame d = s.encFrame d := State.encFrame_congr rfl rfl rfl
    rw [hframe] at hshown
    exact ⟨hended, hseq, congrArg TimeSt.now (hkeeps.same (p := .time) (by simp)), hpics, hshown, memoryFrame_of_stored (by simp)⟩
  case report =>
    intro e w s hu hr hf
    refine gives_awake (fun s => s.encReport e w) hu rfl ?_
    obtain ⟨ntp, u, hkeeps, heq⟩ := State.encReport_net (s := s.quiet) hr hf w
    rw [heq]
    have hnets : u.nets = s.nets := hkeeps.same (p := .nets) (by simp)
    refine ⟨⟨ntp, ?_⟩, ((Keeps.quiet _ _ s).trans (hkeeps.widen (by simp) fun _ => id)).updNet _ _ (by simp)⟩
    refine (State.deckSend_txDeck u _ _).trans ?_
    rw [State.net, hnets]
    rfl
  case noReport =>
    intro e w s hu hr
    refine gives_awake (fun s => s.encReport e w) hu rfl ?_
    rw [State.encReport_stopped (s := s.quiet) hr]
    exact (Keeps.quiet _ _ s).at_ w (by simp)
  case startRange =>
    intro e s hd hl hen
    refine gives_awake (fun s => s.encCmd e 1) (State.up_of_dealing hd) rfl ?_
    have hrange : s.evaluate s.admBase (s.streamChange (.encStart e)) = admRefused admPermit 0 0 := State.evaluate_disabled hen _
    rw [State.encStart_held (s := s.quiet) hd hl, s.quiet_evaluate, hrange, if_neg (by decide)]
    obtain ⟨⟨hcode, hready, -, hkeeps⟩, -⟩ := s.quiet.encRefused_spec e 1 (code := stRANGE) (by decide) 5
    exact ⟨hcode, State.encAnswer_reason _ _ (by decide), hready, (Keeps.quiet _ _ s).trans hkeeps⟩
  case unread =>
    intro e r k d b bs s hu hs hk hb hr hread
    refine gives_awake (fun s => if s.staleRun .encode e then s else s.encodePicture e r) hu rfl ?_
    rw [State.encodes_fresh (s := s.quiet) hs]
    obtain ⟨hended, hpending, hwindow, hpkts, hreported⟩ := State.encodePicture_unread_spec (s := s.quiet) hk hb hr hread r
    exact ⟨hended, hpending, hwindow, hpkts, hreported, memoryFrame_of_stored (by simp)⟩
  case stopBusy =>
    intro e s hd hl ha
    refine gives_awake (fun s => s.encCmd e 2) (State.up_of_dealing hd) rfl ?_
    rw [State.encStop_held (s := s.quiet) hd hl e ((congrArg AdmAnswer.code (s.quiet_evaluate _)).trans ha)]
    obtain ⟨⟨hcode, -, -, hkeeps⟩, hrefused⟩ := s.quiet.encRefused_spec e 2 (code := stBUSY) (by decide) 0
    exact ⟨hcode, hrefused, (Keeps.quiet _ _ s).trans hkeeps⟩
  case startRefused =>
    intro e s hd hl ha
    have hrefusal : (s.evaluate s.admBase (s.streamChange (.encStart e))).code = stREFUSED := ha
    refine gives_awake (fun s => s.encCmd e 1) (State.up_of_dealing hd) rfl ?_
    rw [State.encStart_held (s := s.quiet) hd hl, s.quiet_evaluate, hrefusal, if_neg (by decide)]
    obtain ⟨⟨hcode, hready, -, hkeeps⟩, hrefused⟩ :=
      s.quiet.encRefused_spec e 1 (code := stREFUSED) (by decide) (s.evaluate s.admBase (s.streamChange (.encStart e))).reason
    exact ⟨hcode, hready, hrefused, hkeeps.same (p := .dealer) List.not_mem_nil, (Keeps.quiet _ _ s).trans hkeeps⟩

end Sys2Proof.Machine
end
